-- ==== Sys2Proof/Word.lean ====
section
/-!
DEFINITION. Word.lean: the plain types of the model.

A byte and a word are bit vectors, because the spec masks and shifts them. A sparse table
(`Map`) is a list of key and value pairs with rising keys. A show position is kept as one natural
number, frame × 65,536 + subframe, so that R6's order is the order of numbers.
-/

namespace Sys2Proof

/-- One byte of memory, of a mailbox body or of a packet. -/
abbrev Byte := BitVec 8

/-- A 32-bit register or counter, which wraps at 2^32. -/
abbrev Word := BitVec 32

/-- A string of bytes: a payload, a response, a packet. -/
abbrev Bytes := List Byte

/-- A sparse table by natural key, kept with strictly rising keys. -/
abbrev Map (α : Type) := List (Nat × α)

/-- A show position (R5 to R7): frame number × 65,536 + subframe. -/
abbrev Pos := Nat

/-- An instant of the timebase, in timebase units of 2^-16 ns (R100, R136). -/
abbrev Instant := Int

/-- A duration in timebase units of 2^-16 ns. -/
abbrev Units := Int

end Sys2Proof
end

