-- ==== Sys2Proof/Config.lean ====
section
/-!
DEFINITION. Config.lean: what one device fixes and what the spec leaves free.

The opaque constants have no body, so no proof can see a value of them.
-/

namespace Sys2Proof.Config

/-- A free value: the k-th value that the spec leaves open (assumption 3). -/
opaque freeValue : Nat → BitVec 64

/-- HID_UID, the die identifier, from fuses (R56). -/
opaque uid : BitVec 64

/-- HID_ORDER.CODE, from fuses: 0x43 for HK64-C, 0x58 for HK64-X (R56, R2). -/
opaque orderCode : BitVec 8

/-- The subsystem vendor ID, in bits 15 to 0, and subsystem ID that the persistent configuration in flash stores, if any (R51). -/
opaque storedSubsystem : Option (BitVec 32)

/-- The servo's gains kp and ki, from LOOP_BW in mHz and logSyncInterval, in units of 2^-72 for each 2^-16 ns of offset (R142 gives
them no formula). -/
opaque servoKp : Nat → Int → Int
opaque servoKi : Nat → Int → Int

/-- An elementary function of the render arithmetic, "computed by one fixed method" that the spec
does not give (R36): a code of the function and its binary32 arguments. -/
opaque elementary : Nat → List (BitVec 32) → BitVec 32

/-- Which of several differing fail values a member of several FAILED safety groups shows (R334 names
none): an index into the list of values. -/
opaque failChoice : List Nat → Nat

/-- The factory gain correction k_g of a metering channel and gain index, in units of 2^-32, from the metering coefficients of
the running package: part 0x08, empty for those of manufacture (R409, R534). -/
opaque meterGain : Bytes → Nat → Nat → Int

/-- The factory offset correction z_g, as `meterGain` (R409). -/
opaque meterOffset : Bytes → Nat → Nat → Int

/-- The secret that the PUF yields, from which the device identity key is derived (R539). -/
opaque deviceSecret : Nat

/-- The secret number of a signature over a message: ECDSA leaves it free (R554). -/
opaque signSecret : Bytes → Nat

/-- The manifest key hashes 0 to 3 in OTP (R539). -/
opaque manifestKeyHash : Nat → Bytes

/-- The package that the device left manufacture with, in package area 0 (R527). -/
opaque factoryPackage : Bytes

/-- The version number in a HELLO (R498 gives none). -/
opaque zlkVersion : BitVec 8

/-- The DRAM bank, 0 to 255, that holds a byte offset of the stacked DRAM: the interleave is not in the spec (R473). -/
opaque dramBank : Nat → Nat

/-- The row of a memory that holds a byte offset: MEM and offset (R473). -/
opaque memRow : Nat → Nat → Nat

end Sys2Proof.Config
end

