-- ==== Sys2Proof/Machine/Bits.lean ====
section
/-!
DEFINITION. Machine/Bits.lean: byte strings, bit fields, rounding and sparse tables.

Registers, mailbox headers and payloads are little-endian (R8). Standard packet formats are
big-endian, as their standards define.
-/

namespace Sys2Proof.Machine

/-! ### Byte strings -/

/-- The remainder of a signed number, 0 to `m` − 1. -/
def modNat (x : Int) (m : Nat) : Nat := (Int.emod x (m : Int)).toNat

/-- The little-endian value of a byte string (R8). -/
def leNat : Bytes → Nat
  | [] => 0
  | b :: bs => b.toNat + 256 * leNat bs

/-- The big-endian value of a byte string (standard headers, R8). -/
def beNat (bs : Bytes) : Nat := bs.foldl (fun n b => n * 256 + b.toNat) 0

/-- `len` bytes of a string from offset `off`; fewer where the string is shorter. -/
def slice (bs : Bytes) (off len : Nat) : Bytes := (bs.drop off).take len

/-- The field of `len` bytes at offset `off` of a payload, as a natural number (R8). -/
def fld (bs : Bytes) (off len : Nat) : Nat := leNat (slice bs off len)

/-- Two's complement reading of a `bits`-wide number. -/
def signed (bits n : Nat) : Int := if n < 2 ^ (bits - 1) then (n : Int) else (n : Int) - (2 ^ bits : Nat)

/-- The signed field of `len` bytes at offset `off`. -/
def fldS (bs : Bytes) (off len : Nat) : Int := signed (8 * len) (fld bs off len)

/-- `len` bytes of a number, little-endian. -/
def bytesLE : Nat → Nat → Bytes
  | 0, _ => []
  | len + 1, n => BitVec.ofNat 8 n :: bytesLE len (n / 256)

/-- `len` bytes of a number, big-endian. -/
def bytesBE (len n : Nat) : Bytes := (bytesLE len n).reverse

/-- `len` bytes of a signed number in two's complement, little-endian. -/
def bytesLES (len : Nat) (n : Int) : Bytes := bytesLE len (modNat n (256 ^ len))

/-- `n` zero bytes. -/
def zeros (n : Nat) : Bytes := List.replicate n 0

/-- A byte string padded with zeros, or cut, to `n` bytes. -/
def padTo (n : Nat) (bs : Bytes) : Bytes := (bs ++ zeros (n - bs.length)).take n

/-- Every byte of the string is zero. -/
def allZero (bs : Bytes) : Bool := bs.all (· == 0)

/-- The bytes `off .. off+len` of the payload are zero (a reserved field, R13). -/
def zeroAt (bs : Bytes) (off len : Nat) : Bool := allZero (slice bs off len)

/-- Bits `lo + w - 1 .. lo` of a number. -/
def bits (n lo w : Nat) : Nat := (n / 2 ^ lo) % 2 ^ w

/-- Bit `i` of a number. -/
def bit (n i : Nat) : Bool := bits n i 1 == 1

/-- A Boolean as 0 or 1. -/
def b2n (b : Bool) : Nat := if b then 1 else 0

/-- The bytes of a show position: frame number, then subframe (R5). -/
def posBytes (p : Pos) : Bytes := bytesLE 8 (p / 65536) ++ bytesLE 2 (p % 65536)

/-- A show position of a payload, 10 bytes at `off` (R5). -/
def fldPos (bs : Bytes) (off : Nat) : Pos := fld bs off 8 * 65536 + fld bs (off + 8) 2

/-- A show position from its parts. -/
def mkPos (frame sub : Nat) : Pos := frame * 65536 + sub

/-- The frame number of a position. -/
def posFrame (p : Pos) : Nat := p / 65536

/-- The subframe of a position. -/
def posSub (p : Pos) : Nat := p % 65536

/-- Chop a byte string into records of `n` bytes. -/
def recordsAux (n : Nat) : Nat → Bytes → List Bytes
  | 0, _ => []
  | k + 1, bs => bs.take n :: recordsAux n k (bs.drop n)

/-- The first `count` records of `n` bytes each of a byte string. -/
def records (n count : Nat) (bs : Bytes) : List Bytes := recordsAux n count bs

/-! ### Rounding -/

/-- `⌊a / b⌋` for a positive divisor. -/
def floorDiv (a : Int) (b : Nat) : Int := Int.fdiv a (b : Int)

/-- `⌈a / b⌉` for a positive divisor: the rounding up of R100. -/
def ceilDiv (a : Int) (b : Nat) : Int := - Int.fdiv (- a) (b : Int)

/-- `a / b` to the nearest whole number, halves up (R100). -/
def roundDiv (a : Int) (b : Nat) : Int := Int.fdiv (2 * a + b) (2 * b : Nat)

/-- A number held to a range. -/
def clampInt (x lo hi : Int) : Int := if x < lo then lo else if hi < x then hi else x

/-- The magnitude of a signed number. -/
def absInt (x : Int) : Int := if x < 0 then -x else x

/-! ### Sparse tables -/

/-! ### Sorting -/

/-- An element put before the first one that it precedes. -/
def insertBy {α : Type} (le : α → α → Bool) (x : α) : List α → List α
  | [] => [x]
  | y :: l => if le x y then x :: y :: l else y :: insertBy le x l

/-- A list in ascending order; equal elements keep their order. -/
def sortBy {α : Type} (le : α → α → Bool) : List α → List α
  | [] => []
  | x :: l => insertBy le x (sortBy le l)

end Sys2Proof.Machine

namespace Sys2Proof

/-- The entry of a key, where there is one. -/
def Map.find {α : Type} (m : Map α) (k : Nat) : Option α := (m.find? (fun e => e.1 == k)).map (·.2)

/-- The entry of a key, or a default. -/
def Map.getD {α : Type} (m : Map α) (k : Nat) (d : α) : α := (m.find k).getD d

/-- Whether a key has an entry. -/
def Map.has {α : Type} (m : Map α) (k : Nat) : Bool := m.any (fun e => e.1 == k)

/-- The table with the entry of `k` set; keys stay in rising order. -/
def Map.put {α : Type} : Map α → Nat → α → Map α
  | [], k, v => [(k, v)]
  | (k', v') :: m, k, v =>
    if k < k' then (k, v) :: (k', v') :: m
    else if k = k' then (k, v) :: m
    else (k', v') :: Map.put m k v

/-- The table without an entry of `k`. -/
def Map.del {α : Type} (m : Map α) (k : Nat) : Map α := m.filter (fun e => e.1 != k)

/-- The table with the entry of `k` changed; `d` stands in for a missing entry. -/
def Map.upd {α : Type} (m : Map α) (k : Nat) (d : α) (f : α → α) : Map α := m.put k (f (m.getD k d))

/-- The entries whose key lies in `[lo, hi)`. -/
def Map.range {α : Type} (m : Map α) (lo hi : Nat) : Map α := m.filter (fun e => lo ≤ e.1 && e.1 < hi)

/-- Every entry changed by its key and value. -/
def Map.mapVal {α : Type} (m : Map α) (f : Nat → α → α) : Map α := m.map (fun e => (e.1, f e.1 e.2))

/-- Many entries set at once. -/
def Map.putAll {α : Type} (m : Map α) (es : List (Nat × α)) : Map α := es.foldl (fun m e => m.put e.1 e.2) m

end Sys2Proof
end

