-- ==== Sys2Proof/Machine/F32.lean ====
section
/-!
DEFINITION. Machine/F32.lean: the render arithmetic of R36.

Every operation computes the exact rational result and rounds it once, to nearest even, into
IEEE 754 binary32. Subnormal operands count as zero, a subnormal result becomes zero of its sign
after rounding, and every NaN result is 0x7FC0_0000.
-/

namespace Sys2Proof.Machine

/-- An IEEE 754 binary32 value. -/
abbrev F32 := BitVec 32

/-- The canonical NaN (R36). -/
def F32.nan : F32 := 0x7FC00000#32

/-- The sign bit. -/
def F32.neg (x : F32) : Bool := bit x.toNat 31

/-- The biased exponent. -/
def F32.exp (x : F32) : Nat := bits x.toNat 23 8

/-- The fraction field. -/
def F32.frac (x : F32) : Nat := bits x.toNat 0 23

/-- NaN operands. -/
def F32.isNaN (x : F32) : Bool := x.exp == 255 && x.frac != 0

/-- Infinities. -/
def F32.isInf (x : F32) : Bool := x.exp == 255 && x.frac == 0

/-- A subnormal number. -/
def F32.isSubnormal (x : F32) : Bool := x.exp == 0 && x.frac != 0

/-- Finite and not subnormal, the test of R170 for LO and HI. -/
def F32.isPlain (x : F32) : Bool := x.exp != 255 && !x.isSubnormal

/-- Zero, with subnormal operands taken as zero (R36). -/
def F32.isZero (x : F32) : Bool := x.exp == 0

/-- A value of given sign, biased exponent and fraction. -/
def F32.pack (s : Bool) (e f : Nat) : F32 := BitVec.ofNat 32 (b2n s * 2 ^ 31 + e * 2 ^ 23 + f)

/-- Signed infinity. -/
def F32.inf (s : Bool) : F32 := pack s 255 0

/-- Signed zero. -/
def F32.zero (s : Bool) : F32 := pack s 0 0

/-- The magnitude of a finite value as an integer multiple of 2^-149 (zero when subnormal, R36). -/
def F32.mag (x : F32) : Nat := if x.exp = 0 then 0 else (2 ^ 23 + x.frac) * 2 ^ (x.exp - 1)

/-- Round a quotient to the nearest whole number, ties to even. -/
def F32.rne (n d : Nat) : Nat :=
  let q := n / d
  let r := n % d
  if 2 * r < d then q else if d < 2 * r then q + 1 else if q % 2 = 0 then q else q + 1

/-- The binary32 value nearest to ±`n / d` × 2^-149, flushed and rounded as R36 states. -/
def F32.ofMag (s : Bool) (n d : Nat) : F32 :=
  if n = 0 then zero s
  else
    let w := n / d
    -- the exponent of the quantum: 0 while the value is below 2^24 units of 2^-149
    let k := Nat.log2 w - 23
    let q := rne n (d * 2 ^ k)
    let k' := if q = 2 ^ 24 then k + 1 else k
    let q' := if q = 2 ^ 24 then 2 ^ 23 else q
    if q' < 2 ^ 23 then zero s
    else if 253 < k' then inf s
    else pack s (k' + 1) (q' - 2 ^ 23)

/-- 2^149, the number of units of `mag` in 1. -/
def F32.one149 : Nat := 2 ^ 149

/-- The nearest binary32 to a rational number. -/
def F32.ofRat (n : Int) (d : Nat) : F32 := ofMag (n < 0) (n.natAbs * one149) d

/-- The nearest binary32 to a whole number. -/
def F32.ofInt (n : Int) : F32 := ofRat n 1

/-- The nearest binary32 to a natural number. -/
def F32.ofNat' (n : Nat) : F32 := ofInt n

/-- A signed value in units of 2^-149. -/
def F32.sval (x : F32) : Int := if x.neg then - (x.mag : Int) else x.mag

/-- Addition (R36). -/
def F32.add (x y : F32) : F32 :=
  if x.isNaN || y.isNaN then nan
  else if x.isInf then (if y.isInf && x.neg != y.neg then nan else inf x.neg)
  else if y.isInf then inf y.neg
  else
    let v := x.sval + y.sval
    if v = 0 then zero (x.neg && y.neg) else ofMag (v < 0) v.natAbs 1

/-- Negation. -/
def F32.negate (x : F32) : F32 := if x.isNaN then nan else if x.isZero then zero (!x.neg) else pack (!x.neg) x.exp x.frac

/-- Subtraction (R36). -/
def F32.sub (x y : F32) : F32 := if y.isNaN then nan else add x (negate y)

/-- Multiplication (R36). -/
def F32.mul (x y : F32) : F32 :=
  let s := x.neg != y.neg
  if x.isNaN || y.isNaN then nan
  else if x.isInf then (if y.isZero then nan else inf s)
  else if y.isInf then (if x.isZero then nan else inf s)
  else ofMag s (x.mag * y.mag) one149

/-- Division (R36). -/
def F32.div (x y : F32) : F32 :=
  let s := x.neg != y.neg
  if x.isNaN || y.isNaN then nan
  else if x.isInf then (if y.isInf then nan else inf s)
  else if y.isInf then zero s
  else if y.isZero then (if x.isZero then nan else inf s)
  else ofMag s (x.mag * one149) y.mag

/-- Magnitude. -/
def F32.abs (x : F32) : F32 := if x.isNaN then nan else if x.neg then negate x else x

/-- A key that orders all values but NaN. -/
def F32.key (x : F32) : Int :=
  let m : Int := if x.isInf then 2 ^ 300 else x.mag
  if x.neg then -m else m

/-- `x < y`; false when either is NaN. -/
def F32.lt (x y : F32) : Bool := !x.isNaN && !y.isNaN && decide (x.key < y.key)

/-- `x ≤ y`; false when either is NaN. -/
def F32.le (x y : F32) : Bool := !x.isNaN && !y.isNaN && decide (x.key ≤ y.key)

/-- Equality as numbers; false when either is NaN. -/
def F32.eqv (x y : F32) : Bool := !x.isNaN && !y.isNaN && decide (x.key = y.key)

/-- min of R36: with one NaN operand, the other. -/
def F32.min (x y : F32) : F32 := if x.isNaN then y else if y.isNaN then x else if lt y x then y else x

/-- max of R36: with one NaN operand, the other. -/
def F32.max (x y : F32) : F32 := if x.isNaN then y else if y.isNaN then x else if lt x y then y else x

/-- clamp of R36: `lo` for NaN or below, `hi` for above. -/
def F32.clamp (x lo hi : F32) : F32 := if x.isNaN || lt x lo then lo else if lt hi x then hi else x

/-- The nearest whole number, ties to even; 0 for the canonical NaN (R36). -/
def F32.toIntEven (x : F32) : Int :=
  if x.isNaN then 0
  else if x.isInf then (if x.neg then - 2 ^ 128 else 2 ^ 128)
  else
    let q : Int := rne x.mag one149
    if x.neg then -q else q

/-- The whole number towards minus infinity; 0 for the canonical NaN. -/
def F32.toIntFloor (x : F32) : Int :=
  if x.isNaN then 0
  else if x.isInf then (if x.neg then - 2 ^ 128 else 2 ^ 128)
  else Int.fdiv x.sval one149

/-- 0.0, 1.0 and -1.0. -/
def F32.f0 : F32 := 0#32
def F32.f1 : F32 := 0x3F800000#32
def F32.fm1 : F32 := 0xBF800000#32

/-- A finite value in [0, 1] that is not subnormal. -/
def F32.inUnit (x : F32) : Bool := x.isPlain && le f0 x && le x f1

end Sys2Proof.Machine
end

