-- ==== Sys2Proof/Machine/StateHost.lean ====
section
/-!
DEFINITION. Machine/StateHost.lean: the state of the host interface, the show clock, network time
and the interrupt controller. Every structure is plain data.
-/

namespace Sys2Proof.Machine

/-! ### Status codes -/

/-- The status codes of the table "Status codes". -/
inductive Status where
  | ok | accepted | badCommand | badLength | badArgument | outOfRange | notPermitted
  | notAuthenticated | busy | late | conflict | noResource | alreadyComplete | aborted
  | integrity | degraded | internal
  deriving DecidableEq, Repr

/-! ### Functions (chapter "The H64 at work") -/

/-- The states of a function and of a ring (R39, R89). -/
inductive FnState where
  | disabled | enabled | draining
  deriving DecidableEq, Repr

/-- One function of R46: its state, the counts of its last drain, the operation of the FN_DISABLE
that awaits its final completion, and the items in flight and the deadline of the drain. -/
structure FnRec where
  state : FnState := .disabled
  doneCount : Word := 0
  cancelCount : Word := 0
  op : Option Nat := none
  inFlight : Nat := 0
  bound : Nat := 0
  /-- It failed its self-test (R45, R48). -/
  failed : Bool := false
  deriving DecidableEq, Repr

/-! ### Mailboxes, sessions and rings (chapter "Host interface, mailboxes and transactions") -/

/-- The state field of MBX_STATE (R63, R64). -/
inductive MbxPhase where
  | free | posted | executing | done
  deriving DecidableEq, Repr

/-- The control block of one mailbox (R63). MBX_DONE.DONE is 1 exactly in phase `done`. -/
structure Mailbox where
  phase : MbxPhase := .free
  refused : Bool := false
  /-- The TIME cycle in which MBX_DONE.DONE was last set (R10). -/
  doneAt : Option Nat := none
  tag : Word := 0
  dbPos : Pos := 0
  deriving DecidableEq, Repr

/-- A request that a management core executes: its mailbox, the copy of header and payload
(R65), the position of its doorbell, and whether a host-interface reset took its mailbox away (R52). -/
structure ExecReq where
  mbx : Nat
  req : Bytes
  dbPos : Pos
  /-- The role of its session when the mailbox was taken; 0xFF where it named no open session (R69, check 3). -/
  role : Nat := 0xFF
  /-- Its TAG was then the tag of an outstanding operation of the session (check 5). -/
  dup : Bool := false
  orphan : Bool := false
  /-- The request reads a word that is poisoned (R479). -/
  poison : Bool := false
  /-- It is a TXN_COMMIT that was taken while a write of its transaction executed (R80). -/
  busy : Bool := false
  deriving DecidableEq, Repr

/-- One open session (R72 to R74, R86): its role, its idle timeout in seconds, the TIME cycle in
which a request last named it, its last 256 completed tags, and the accesses of R453 and R491. -/
structure Session where
  role : Nat
  idle : Nat
  lastNamed : Nat
  doneTags : List Nat := []
  counterAccess : Bool := false
  eccAccess : Bool := false
  deriving DecidableEq, Repr

/-- One staged write of a transaction: the command code, its request payload and the bytes it read
from the host region (R77). -/
structure ShowWrite where
  code : Nat
  payload : Bytes
  data : Bytes := []
  deriving DecidableEq, Repr

/-- What an ACCEPTED operation still has to do (R67, R94). -/
inductive OpKind where
  /-- TXN_COMMIT of a transaction slot (R81). -/
  | commit (slot : Nat)
  /-- FN_DISABLE of a function (R49). -/
  | fnDisable (fn : Nat)
  /-- SHOW_CLOCK_START (R132). -/
  | clockStart
  /-- A show write that reads its data from the host region, for a transaction slot and GEN, with what it read. -/
  | stage (slot gen : Nat) (payload data : Bytes)
  /-- An operation of another chapter, with the numbers and bytes it keeps. -/
  | job (nums : List Nat) (bytes : Bytes)
  deriving DecidableEq, Repr

/-- An operation that is ACCEPTED and awaits its final completion (R94). -/
structure Op where
  id : Nat
  command : Nat
  flags : Nat
  tag : Nat
  session : Nat
  kind : OpKind
  /-- Its flash write is known to have begun (R554). -/
  begun : Bool := false
  deriving DecidableEq, Repr

/-- A final completion record (R92): header fields, status, position and response. -/
structure Completion where
  command : Nat
  flags : Nat
  tag : Nat
  session : Nat
  status : Status
  pos : Pos
  resp : Bytes
  deriving DecidableEq, Repr

/-- A bulk descriptor of a ring of class 0x02 or 0x03 (table "Bulk descriptor"). -/
structure BulkDesc where
  hostAddr : Nat
  length : Nat
  flags : Nat
  regionOff : Nat
  tag : Nat
  deriving DecidableEq, Repr

/-- The configuration fields of RNG_CFG other than ENABLE (R88). -/
structure RingCfg where
  log2 : Nat := 0
  dir : Bool := false
  irq : Bool := false
  cls : Nat := 0
  deriving DecidableEq, Repr

/-- One host DMA ring (R88 to R91): registers, the entries the host has posted and the device has
not started, and the descriptor being transferred. -/
structure Ring where
  base : BitVec 64 := 0
  cfg : RingCfg := {}
  phase : FnState := .disabled
  refused : Bool := false
  badEntry : Bool := false
  /-- The TIME cycle in which BAD_ENTRY was last set (R10). -/
  badAt : Option Nat := none
  overrun : Bool := false
  hostIdx : Word := 0
  devIdx : Word := 0
  posted : List BulkDesc := []
  inFlight : Option BulkDesc := none
  /-- The TIME cycle of the drain bound (R89). -/
  bound : Nat := 0
  deriving DecidableEq, Repr

/-- The host interface: DEV_ registers, mailboxes, executing requests, sessions, rings,
operations and held completions. -/
structure HostState where
  mbxReady : Bool := false
  fwRestart : Bool := false
  groupFormed : Bool := false
  degraded : Bool := false
  bootStage : Nat := 0
  fwVer : Word := 0
  heartbeat : Word := 0
  devEpoch : Nat := 0
  devFrame : Nat := 0
  devEvent : Word := 0
  /-- The TIME cycle in which each bit of DEV_EVENT was last set (R10). -/
  devEventAt : Map Nat := []
  mbx : Map Mailbox := []
  execs : List ExecReq := []
  sessions : Map Session := []
  usedIds : List Nat := []
  rings : Map Ring := []
  ops : List Op := []
  /-- The number of the next operation; 0 names none. -/
  nextOp : Nat := 1
  held : List Completion := []
  /-- The value a register read with an effect answered last (PCN_VALUE_READ, ICU_CLAIM). -/
  readData : Nat := 0
  deriving DecidableEq, Repr

/-! ### Show clock (chapter "Show time") -/

/-- A timing block (table "Timing block"). -/
structure TimingBlock where
  refKind : Nat := 0
  rateCode : Nat := 0
  refRate : Nat := 0
  twoFields : Bool := false
  dropFrame : Bool := false
  wordClock : Bool := false
  offsetNs : Int := 0
  presDelayNs : Nat := 0
  slewPpm : Nat := 1000
  mtrPoint : Nat := 0
  mtrPhase : Nat := 0
  wclk : Nat := 0
  deriving DecidableEq, Repr

/-- The states of the show clock (R115). -/
inductive ClockPhase where
  | stopped | acquiring | locked | holdover | slewing
  deriving DecidableEq, Repr

/-- A frame whose period is fixed (R101, R106): number, boundary, period, latch point, light time,
E and D_cfg in force for it. -/
structure GridFrame where
  n : Nat
  t : Instant
  period : Units
  latch : Instant
  light : Instant
  emax : Units
  dcfg : Units
  deriving DecidableEq, Repr

/-- The show clock (R96 to R122). `tref` is the exact rational `trefNum / trefDen` in timebase units;
`residual` is the phase error that no fixed period covers yet (R103). -/
structure ClockState where
  phase : ClockPhase := .stopped
  accepted : Bool := false
  block : TimingBlock := {}
  startFrame : Nat := 0
  acqTimeout : Nat := 0
  acqSince : Nat := 0
  startDue : Option Instant := none
  run : Bool := false
  frame : Nat := 0
  grid : List GridFrame := []
  anchor : Instant := 0
  anchorFrame : Int := 0
  trefNum : Int := 0
  trefDen : Nat := 1
  residual : Int := 0
  /-- The reference boundaries of each input, newest first, with the word-clock cycles since the one before: keys 0 word
  clock, 2 genlock, 3 LTC, 16 + 3 × point + phase mains. -/
  edges : Map (List (Instant × Nat)) := []
  /-- The last V edge that came at its expected time (R114). -/
  genlockAt : Option Instant := none
  /-- The LTC words received, newest first. -/
  words : List (Instant × Nat) := []
  /-- From when the reference of an accepted start counts as valid (R109). -/
  validAt : Option Instant := none
  phaseErr : Int := 0
  lossCount : Word := 0
  ltcWord : Nat := 0xFFFFFFFF
  ltcFrame : Nat := 0xFFFFFFFF
  mainsMilliHz : Nat := 0
  gridOffset : Int := 0
  change : Option (TimingBlock × Nat) := none
  changeFrame : Nat := 0
  gliding : Bool := false
  /-- The first frame with L(n) not before t(START_FRAME) (R110). -/
  firstRendered : Nat := 0
  /-- The frame whose latch point comes next. -/
  nextLatch : Nat := 0
  /-- The timing block in force before the last timing change. -/
  prevBlock : TimingBlock := {}
  /-- A frame that a reference boundary was paired with (R97, R120). -/
  refFrame : Nat := 0
  /-- The LTC words latched for the frames that have begun last (R117). -/
  ltcHist : Map Nat := []
  /-- The LTC value of the last frame that latched, as a frame count (R214), and its j (R221). -/
  ltcPrev : Option Nat := none
  ltcAge : Nat := 0
  deriving DecidableEq, Repr

/-! ### Network time -/

/-- The states of the timebase (R144). -/
inductive TbState where
  | free | tracking | locked | holdover
  deriving DecidableEq, Repr

/-- The portState of the PTP port (R141, R156). -/
inductive PtpPortState where
  | initializing | faulty | disabled | listening | uncalibrated | slave
  deriving DecidableEq, Repr

/-- PTP_CONFIG in force (R158). -/
structure PtpConfig where
  port : Nat := 0xFF
  profile : Nat := 0
  domain : Nat := 127
  transport : Nat := 0
  delayAddr : Nat := 0
  annTimeout : Nat := 3
  syncLoss : Nat := 3
  vlan : Nat := 0
  deriving DecidableEq, Repr

/-- TIME_CONFIG in force (R159). -/
structure TimeConfig where
  jumpThrUs : Nat := 1000
  slewPpm : Nat := 100
  loopBwMilliHz : Nat := 100
  holdAvgS : Nat := 64
  /-- Ingress, then egress correction in ns, for ports 0 to 4. -/
  portCorr : List Int := [0, 0, 0, 0, 0, 0, 0, 0, 0, 0]
  deriving DecidableEq, Repr

/-- The data set an Announce message carries (IEEE 1588-2019), with the fields R163 reports. -/
structure AnnounceData where
  priority1 : Nat
  clockClass : Nat
  accuracy : Nat
  variance : Nat
  priority2 : Nat
  gmIdentity : Nat
  stepsRemoved : Nat
  utcOffset : Int
  flags : Nat
  logAnnounce : Int
  deriving DecidableEq, Repr

/-- A foreign master: its portIdentity, its last Announce, and how many Announces were received. -/
structure ForeignMaster where
  port : Nat
  data : AnnounceData
  count : Nat
  last : Nat
  /-- The addresses that its last Announce came from. -/
  mac : Nat := 0
  ip : Nat := 0
  deriving DecidableEq, Repr

/-- A two-step Sync that awaits its Follow_Up. -/
structure PendingSync where
  seq : Nat
  t2 : Instant
  corr : Int
  logSync : Int
  deriving DecidableEq, Repr

/-- An outstanding Delay_Req: sequence number and transmit stamp t3. -/
structure PendingDelayReq where
  seq : Nat
  t3 : Instant
  deriving DecidableEq, Repr

/-- The PTP engine (R141 to R146). -/
structure PtpState where
  cfg : PtpConfig := {}
  portState : PtpPortState := .disabled
  parent : Option ForeignMaster := none
  foreign : List ForeignMaster := []
  delays : List Int := []
  pendingSync : Option PendingSync := none
  pendingReq : Option PendingDelayReq := none
  reqSeq : Nat := 0
  /-- The integral of the servo, in units of 2^-72 (R142). -/
  integ : Int := 0
  acceptRun : Nat := 0
  lockRun : Nat := 0
  refuseRun : Nat := 0
  refusedCount : Word := 0
  discards : Word := 0
  logSync : Int := 0
  lastT2 : Option Instant := none
  lastT1 : Option Instant := none
  lastSyncAt : Nat := 0
  lastAnnAt : Nat := 0
  deriving DecidableEq, Repr

/-- A record of a capture queue (R154). -/
structure CaptureRec where
  stamp : Instant
  pos : Pos
  rising : Bool
  seq : Nat
  deriving DecidableEq, Repr

/-- One capture input (R154, R155, R162). Before any CAPTURE_SET it stamps rising edges (DESIGN CHOICE, assumption 84). `lastEdge`
is the TIME cycle of the last detected edge. -/
structure CaptureIn where
  edges : Nat := 1
  seq : Nat := 0
  lastEdge : Option Nat := none
  queue : List CaptureRec := []
  deriving DecidableEq, Repr

/-- The schedule of a time pulse output (R150): mode 1 timebase, mode 2 show. -/
structure PulseSched where
  mode : Nat
  count : Nat
  start : Int
  period : Nat
  /-- Index of the next edge. -/
  next : Nat
  deriving DecidableEq, Repr

/-- One time pulse output (R150 to R153, R156). -/
structure PulseOut where
  polarity : Nat := 0
  widthNs : Nat := 0
  sched : Option PulseSched := none
  driving : Bool := false
  /-- The end of the pulse driven last. -/
  endAt : Option Instant := none
  edges : Word := 0
  mode : Nat := 0
  deriving DecidableEq, Repr

/-- The TIM_LAT_ registers (R156). -/
structure TimLatch where
  stamp : Instant := 0
  pos : Pos := 0
  deriving DecidableEq, Repr

/-- The timebase and network time. `now` counts TIME cycles since power-on and `tb` is the timebase in units of 2^-39 ns, in which
one TIME cycle adds 2^40 + r. R137 gives 32 bits of fraction below the nanosecond and also no rounding error for an r in units of
2^-40; the second needs 39 bits, which the model carries (DESIGN CHOICE, assumption 81). -/
structure TimeState where
  now : Nat := 0
  tb : Int := 0
  rate : Int := 0
  state : TbState := .free
  event : Word := 0
  /-- The TIME cycle in which the hardware last set each bit of TIM_EVENT (R10). -/
  eventAt : Map Nat := []
  stepCount : Word := 0
  latch : TimLatch := {}
  lastOffset : Int := 0
  lastSampleAt : Option Nat := none
  holdSince : Nat := 0
  holdFor : Nat := 0
  lastStep : Int := 0
  /-- The cycle of the last step, and the timebase before it (R149). -/
  stepAt : Option (Nat × Int) := none
  /-- Spans of cycles spent in TRACKING and LOCKED, with r of each, newest first. -/
  rateHist : List (Nat × Int) := []
  rateSince : Nat := 0
  cfg : TimeConfig := {}
  ptp : PtpState := {}
  captures : Map CaptureIn := []
  pulses : Map PulseOut := []
  deriving DecidableEq, Repr

/-! ### Interrupt controller -/

/-- The states of an interrupt source (R463). -/
inductive SrcPhase where
  | idle | pending | active | activePending
  deriving DecidableEq, Repr

/-- One interrupt source: its ICU_SRC_CFG fields, state, claiming target and count. -/
structure IcuSource where
  prio : Nat := 0
  target : Nat := 32
  wake : Bool := true
  phase : SrcPhase := .idle
  claimant : Nat := 0
  count : Word := 0
  pendSince : Nat := 0
  /-- The TIME cycle of its last edge (R10, R11). -/
  edgeAt : Option Nat := none
  redirected : Bool := false
  /-- A PM_PME message has been sent for it since it became pending (R470). -/
  pme : Bool := false
  deriving DecidableEq, Repr

/-- One group: ICU_GRP_CFG and the cycle at which its running hold-off ends (R469). -/
structure IcuGroup where
  holdoffUs : Nat := 0
  fallback : Nat := 32
  holdEnd : Option Nat := none
  deriving DecidableEq, Repr

/-- One target: base threshold, BAD_COMPLETE, what it presented at the last evaluation and whether a
notification is held back (R468, R469); for vectors the MSI-X table entry and pending bit, for
management cores the idle sleep state. -/
structure IcuTarget where
  threshold : Nat := 0
  badComplete : Bool := false
  presenting : Bool := false
  heldBack : Bool := false
  addr : BitVec 64 := 0
  data : Word := 0
  masked : Bool := true
  pba : Bool := false
  /-- Asleep since a notification of what it presents: the wake-up notifies it again (R468). -/
  sleptOn : Bool := false
  sleeping : Bool := false
  deriving DecidableEq, Repr

/-- A mask, enable or power state that delivery depends on (R468, R470). -/
inductive SleepControl where
  | vectorMask (vector : Nat)
  | functionMask
  | msixEnable
  | busMaster
  | d3hot
  | pmeEn
  /-- The idle sleep state of a management core. -/
  | coreSleep (core : Nat)
  deriving DecidableEq, Repr

/-- The interrupt controller and the endpoint's MSI-X and power controls (R461 to R472). -/
structure IcuState where
  sources : Map IcuSource := []
  groups : Map IcuGroup := []
  targets : Map IcuTarget := []
  msixEnable : Bool := false
  fnMask : Bool := false
  busMaster : Bool := false
  d3hot : Bool := false
  pmeEn : Bool := false
  deriving DecidableEq, Repr

end Sys2Proof.Machine
end

