-- ==== Sys2Proof/Machine/StateShow.lean ====
section
/-!
DEFINITION. Machine/StateShow.lean: the show state of one epoch (R30, "Show state"), as plain data.

Profile images, cue list images, effect tables and curves are kept as the bytes the host loaded,
because the spec reads them back and digests them as loaded; accessors read their fields.
-/

namespace Sys2Proof.Machine

/-- What a check of a command answers: a status and the response bytes that go with it. -/
structure CheckRes where
  status : Status := .ok
  resp : Bytes := []
  deriving DecidableEq, Repr

/-- A patch record (table "Patch record"). -/
structure PatchRec where
  profile : Nat
  destKind : Nat
  flags : Nat
  dest : Nat
  start : Nat
  extraUs : Nat
  group : Nat
  power : Nat
  deriving DecidableEq, Repr

/-- Profiles (the image of each), patch records, and the pool words of each patched fixture in
parameter order: base value in [23:0], PARK in [24] (R165, R169, R179). -/
structure PatchState where
  profiles : Map Bytes := []
  patch : Map PatchRec := []
  pool : Map (List Nat) := []
  deriving DecidableEq, Repr

/-- An effect definition (table "Effect definition"): its first 64 bytes and its member list. -/
structure EffectDef where
  head : Bytes
  members : List Nat
  deriving DecidableEq, Repr

/-- An action record (table "Action record"). -/
structure ActionRec where
  kind : Nat
  action : Nat
  when_ : Nat
  target : Nat
  cue : Nat
  arg : Nat
  timecode : Nat
  position : Pos
  deriving DecidableEq, Repr

/-- Cue lists by playback (the images), effect definitions, effect tables (512 bytes each), and the
actions that a transaction has staged in this view, in order (R198, R230, R231). -/
structure CueState where
  lists : Map Bytes := []
  effects : Map EffectDef := []
  tables : Map Bytes := []
  actions : List ActionRec := []
  /-- Targets (KIND × 65,536 + number) whose dynamic state a staged load or deletion resets (R218). -/
  loaded : List Nat := []
  deleted : List Nat := []
  deriving DecidableEq, Repr

/-! ### Live inputs and merging (chapter "Live inputs, video sampling and merging") -/

/-- A layer's settings, with their reset values (R235). -/
structure LayerCfg where
  priority : Nat := 100
  alpha : Nat := 32768
  liveTimeout : Nat := 0
  deriving DecidableEq, Repr

/-- A policy override run (R240). -/
structure PolicyRun where
  first : Nat
  count : Nat
  policy : Nat
  deriving DecidableEq, Repr

/-- An input map entry: SLOT, WIDTH and address. -/
structure InputEntry where
  slot : Nat
  width : Nat
  addr : Nat
  deriving DecidableEq, Repr

/-- A receive universe or DMX input (R264). -/
structure RxDef where
  layer : Nat
  hold : Bool
  ipv4 : Bool
  ipv6 : Bool
  ports : Nat
  sync : Nat
  entries : List InputEntry
  deriving DecidableEq, Repr

/-- A video sample record, by FIXTURE × 8 + LAYER (R260, R267). -/
structure VideoSample where
  x : Nat
  y : Nat
  w : Nat
  h : Nat
  input : Nat
  gain : Nat
  flags : Nat
  deriving DecidableEq, Repr

/-- A video map (R261, R268). -/
structure VideoMap where
  canvas : Nat
  layer : Nat
  input : Nat
  srcX : Nat
  srcY : Nat
  srcW : Nat
  srcH : Nat
  dstX : Nat
  dstY : Nat
  dstW : Nat
  dstH : Nat
  gain : Nat
  alpha : Nat
  deriving DecidableEq, Repr

/-- Layers, overrides, receive universes, DMX inputs, video inputs (the 64-byte request of
VIDEO_IN_SET), samples and maps. -/
structure InputShow where
  layers : Map LayerCfg := []
  overrides : List PolicyRun := []
  sacn : Map RxDef := []
  dmxIn : Map RxDef := []
  videoIn : Map Bytes := []
  samples : Map VideoSample := []
  maps : Map VideoMap := []
  deriving DecidableEq, Repr

/-! ### Colour, power and canvases -/

/-- Calibration records (288 B each) by fixture, colour regions (96 B each), feeder records (64 B
each), and feeder membership of fixtures as (feeder, phase) (R289, R290). -/
structure ColourShow where
  calib : Map Bytes := []
  regions : Map Bytes := []
  feeders : Map Bytes := []
  members : Map (Nat × Nat) := []
  deriving DecidableEq, Repr

/-- A rectangle. -/
structure Rect where
  x : Nat
  y : Nat
  w : Nat
  h : Nat
  deriving DecidableEq, Repr

/-- A canvas (table of CANVAS_SET, R293). -/
structure Canvas where
  scan : Nat
  divider : Nat
  width : Nat
  height : Nat
  base : Nat
  gapPermille : Nat
  tolUs : Nat
  latencyUs : Nat
  deriving DecidableEq, Repr

/-- The segments of a pixel lane (R302, SEGMENT_SET). -/
structure LaneSegs where
  canvas : Nat
  latchAck : Bool
  cableNs : Nat
  rects : List Rect
  deriving DecidableEq, Repr

/-- A fixture pixel map (R298). -/
structure PixMap where
  canvas : Nat
  rect : Rect
  ch : List Nat
  deriving DecidableEq, Repr

/-- A check rectangle, by CANVAS × 16 + INDEX (R312, R313). -/
structure RectCheck where
  check : Bool
  block : Bool
  rect : Rect
  expect : Nat
  deriving DecidableEq, Repr

/-- Slice mode of a canvas (R134). -/
structure SliceMode where
  enable : Bool := false
  input : Nat := 0
  lines : List Nat := []
  deriving DecidableEq, Repr

/-- Canvases, lane segments, pixel maps, check rectangles. -/
structure CanvasShow where
  canvases : Map Canvas := []
  segments : Map LaneSegs := []
  pixmaps : Map PixMap := []
  checks : Map RectCheck := []
  slices : Map SliceMode := []
  deriving DecidableEq, Repr

/-! ### Output stage (chapter "Curves, dither, derating, safety groups and emission") -/

/-- The record of an output group (R322). -/
structure OutGroup where
  light : Nat := 0
  other : Nat := 0
  dither : Nat := 4
  deriving DecidableEq, Repr

/-- A safety group: its FLAGS, FAIL_STATE and FAIL_VALUE (SAFETY_GROUP_SET). -/
structure SafetyGroup where
  flags : Nat
  failState : Nat
  failValue : Nat
  deriving DecidableEq, Repr

/-- Host curves (their 16,384 bytes), output groups, temperature sources (32 B each), derating records
(16 B each, by TARGET), safety groups, member records (16 B with OP 0), and the entries of SAFETY_CLEAR
staged in this view, as (group, op), in order (R323 to R344). -/
structure OutputShow where
  curves : Map Bytes := []
  groups : Map OutGroup := []
  temps : Map Bytes := []
  derates : Map Bytes := []
  safety : Map SafetyGroup := []
  members : List Bytes := []
  clears : List (Nat × Nat) := []
  deriving DecidableEq, Repr

/-! ### Output ports (chapter "Output ports: pixel lanes, DMX and RDM, local PWM") -/

/-- LANE_SET of a lane, with its reset values. -/
structure LaneCfg where
  rgb : Bool := false
  holdMs : Nat := 2000
  deriving DecidableEq, Repr

/-- DMX_PORT_SET of a port, with its reset values (table "DMX transmit timing"). -/
structure DmxCfg where
  input : Bool := false
  slots : Nat := 512
  breakUs : Nat := 176
  mabUs : Nat := 16
  interslotUs : Nat := 0
  uid : Nat := 0
  deriving DecidableEq, Repr

/-- PWM_SET of an output, with its reset values; `offset` none is the default of R367. -/
structure PwmCfg where
  bitCount : Nat := 16
  divider : Nat := 1
  offset : Option Nat := none
  flags : Nat := 0
  senseDelay : Nat := 5
  deriving DecidableEq, Repr

/-- Lanes, DMX ports and PWM outputs as show state; an absent entry has the reset values. -/
structure PortShow where
  lanes : Map LaneCfg := []
  dmx : Map DmxCfg := []
  pwm : Map PwmCfg := []
  deriving DecidableEq, Repr

/-! ### Ethernet transmission and partition -/

/-- The reset payload of SACN_TX_CONFIG: no CID, priority 100, no ports, 240 Hz. -/
def sacnConfigReset : Bytes := zeros 0x51 ++ [100#8, 0#8, 0#8, 240#8, 0#8, 0#8, 0#8]

/-- SACN_TX_CONFIG (its payload) and transmit records by universe (16 B each). -/
structure NetShow where
  config : Bytes := sacnConfigReset
  universes : Map Bytes := []
  deriving DecidableEq, Repr

/-- A staged timing change: the timing block, CHANGE_FRAME and CHANGE_MODE (R133). -/
structure TimingChange where
  block : TimingBlock
  frame : Nat
  mode : Nat
  deriving DecidableEq, Repr

end Sys2Proof.Machine
end

