-- ==== Sys2Proof/Machine/StateDyn.lean ====
section
/-!
DEFINITION. Machine/StateDyn.lean: the running state of playbacks and effect instances, which
actions change and which needs no epoch (R200, R211 to R226).
-/

namespace Sys2Proof.Machine

/-- One fade of a held address (R205, R209): raw start `a`, raw target `b`, start position, delay and
duration in subframes, curve, whether the address is released at its end, the position of the action
that started it (R199) and, while frozen by PAUSE, the position it is frozen at (R211). -/
structure Fade where
  a : Nat
  b : Nat
  start : Int
  delay : Nat
  dur : Nat
  curve : Nat
  releasing : Bool
  act : Pos
  frozen : Option Pos := none
  deriving DecidableEq, Repr

/-- A scheduled follow GO (R215), with the position it is frozen at. -/
structure FollowGo where
  pos : Int
  frozen : Option Pos := none
  deriving DecidableEq, Repr

/-- The running state of one playback (R204 to R218, R232). -/
structure PlaybackDyn where
  master : Nat := 65535
  current : Option Nat := none
  goPos : Pos := 0
  held : Map Fade := []
  paused : Option Pos := none
  follow : Option FollowGo := none
  donePos : Int := 0
  /-- PAUSE froze the completion position: it had not been reached (R211). -/
  doneFrozen : Bool := false
  deriving DecidableEq, Repr

/-- The running state of one effect instance (R221, R225): `running` is false in STOPPED; the ramp goes
from weight `from_` to 0 or 1. -/
structure EffectDyn where
  running : Bool := false
  startPos : Pos := 0
  anchor : Int := 0
  anchorPhase : Nat := 0
  fromK : F32 := 0
  up : Bool := true
  rampStart : Int := 0
  rampLen : Nat := 0
  deriving DecidableEq, Repr

/-- An applied action that has not taken effect (R211 to R214): its position, or none while a WHEN 2
action is armed, and its place in the order of acceptance and staging (R213). -/
structure PendingAct where
  act : ActionRec
  pos : Option Pos
  armedFrom : Nat
  seq : Nat
  deriving DecidableEq, Repr

/-- Playbacks, effect instances and pending actions of the device. -/
structure DynState where
  playbacks : Map PlaybackDyn := []
  effects : Map EffectDyn := []
  pending : List PendingAct := []
  deriving DecidableEq, Repr

/-! ### Inputs (chapter "Live inputs, video sampling and merging") -/

/-- An accepted sACN data packet held for synchronisation (R249). -/
structure HeldPacket where
  priority : Nat
  values : Bytes
  sync : Nat
  force : Bool
  deriving DecidableEq, Repr

/-- A tracked source of a receive universe (R246, R247, R249). -/
structure RxSource where
  cid : Nat
  seq : Nat
  priority : Nat
  values : Bytes
  /-- Whether the source has a stamped value yet. -/
  stamped : Bool
  lastAt : Nat
  held : Option HeldPacket := none
  sync : Nat := 0
  force : Bool := false
  deriving DecidableEq, Repr

/-- The counts of INPUT_STATUS (R269). -/
structure InputCounts where
  accepted : Word := 0
  discarded : Word := 0
  losses : Word := 0
  repeats : Word := 0
  skips : Word := 0
  incomplete : Word := 0
  deriving DecidableEq, Repr

/-- A receive universe or DMX input at run time: tracked sources, last values and merged priority,
the position of the last stamp, whether data was ever received and whether it is lost. -/
structure RxDyn where
  sources : List RxSource := []
  last : Bytes := []
  lastPrio : Nat := 0
  lastPos : Pos := 0
  lastAt : Nat := 0
  seen : Bool := false
  lost : Bool := false
  counts : InputCounts := {}
  deriving DecidableEq, Repr

/-- A synchronisation address: the cycle of its last packet and whether it is lost (R249). -/
structure SyncDyn where
  lastAt : Nat
  lost : Bool := false
  deriving DecidableEq, Repr

/-- A host live value and the timebase instant of its stamp (R252). -/
structure LiveVal where
  value : Nat
  stamp : Instant
  deriving DecidableEq, Repr

/-- A stored input pixel: luma or R, and the chroma pair (or G, B) where the pixel carries one. -/
structure VideoPix where
  d0 : Nat
  chroma : Option (Nat × Nat)
  deriving DecidableEq, Repr

/-- An input frame in a buffer (R255 to R257): its number, pixels by line × 4,096 + column, its first
packet, the instant each line was last written, and the last sequence number. -/
structure VideoFrame where
  id : Nat
  pixels : Map VideoPix := []
  firstAt : Instant := 0
  lineAt : Map Instant := []
  seq : Nat := 0
  gap : Bool := false
  completeAt : Option Instant := none
  /-- RTP timestamp of the first packet. -/
  rtp : Nat := 0
  deriving DecidableEq, Repr

/-- A video input at run time: the frame being received, complete frames not yet assigned, the frame
last assigned, and its loss state (R255 to R258). -/
structure VideoDyn where
  current : Option VideoFrame := none
  complete : List VideoFrame := []
  assigned : Option VideoFrame := none
  nextId : Nat := 0
  lastPacket : Nat := 0
  lastPos : Pos := 0
  seen : Bool := false
  lost : Bool := false
  /-- The RTP timestamp of an arriving frame whose packets are dropped. -/
  dropping : Option Nat := none
  counts : InputCounts := {}
  deriving DecidableEq, Repr

/-- All inputs of the device. -/
structure InputState where
  sacn : Map RxDyn := []
  dmx : Map RxDyn := []
  video : Map VideoDyn := []
  sync : Map SyncDyn := []
  /-- Live values by LAYER × 2^24 + address. -/
  live : Map LiveVal := []
  deriving DecidableEq, Repr

/-- What a receive universe contributes in a frame: its slot values and merged priority. -/
structure RxLatched where
  slots : Bytes
  priority : Nat
  deriving DecidableEq, Repr

/-- The part of the input record that stage 1 and stage 2 read (R243). -/
structure InputRecord where
  sacn : Map RxLatched := []
  dmx : Map Bytes := []
  live : Map Nat := []
  video : Map VideoFrame := []
  /-- Video inputs that are lost at L(n) (R258). -/
  lost : List Nat := []
  deriving DecidableEq, Repr

/-- One layer's contribution in a frame and its change frame (R237). -/
structure LayerHist where
  value : Nat
  changed : Nat
  deriving DecidableEq, Repr

/-- The stage-2 result of one address, as MERGE_READ reports it (R269). -/
structure MergeOut where
  result : Nat
  parked : Bool
  policy : Nat
  winner : Nat
  layers : List (Option Nat)
  deriving DecidableEq, Repr

/-! ### Feeder governor -/

/-- The states of a feeder (R287). -/
inductive FeederPhase where
  | open_ | limiting | hard
  deriving DecidableEq, Repr

/-- The measurement of a feeder's metering point latched for a frame: validity, P_m, and RMS voltage
and current of L1 to L3 ("Measurement, hard limit and gain"). -/
structure FeederMeas where
  valid : Bool := false
  watts : F32 := 0
  volts : List F32 := []
  amps : List F32 := []
  deriving DecidableEq, Repr

/-- The governor state of one feeder and what FEEDER_STATUS reports of it (R281, R291). Scales are
k[p][c] at index 8p + c. -/
structure GovFeeder where
  phase : FeederPhase := .open_
  gain : F32 := 0
  scales : List F32 := []
  lastDown : Option Instant := none
  lastHard : Option Instant := none
  /-- The first measurement tested since the last HARD application, and the last tested one above the budget. -/
  firstTest : Option Instant := none
  lastOver : Option Instant := none
  /-- Emitted predictions R of the last frames, newest first. -/
  emitted : List F32 := []
  winFrames : Nat := 0
  winValid : Bool := true
  sumQ : F32 := 0
  sumP : F32 := 0
  sumB : F32 := 0
  overRun : Bool := false
  limitCount : Word := 0
  hardCount : Word := 0
  overCount : Word := 0
  predW : F32 := 0
  meas : FeederMeas := {}
  exceeded : Bool := false
  deriving DecidableEq, Repr

end Sys2Proof.Machine
end

