-- ==== Sys2Proof/Machine/Messages.lean ====
section
/-!
DEFINITION. Machine/Messages.lean: what arrives from outside with a command, as plain data.
-/

namespace Sys2Proof.Machine

/-- An E1.31 data packet as received (R245, R246): Ethernet port, universe, CID, sequence number, priority,
synchronisation address, the three option flags and the property values, start code first. -/
structure SacnData where
  port : Nat
  uni : Nat
  cid : Nat
  seq : Nat
  priority : Nat
  sync : Nat := 0
  preview : Bool := false
  terminated : Bool := false
  force : Bool := false
  /-- Sent to the port's own address: accepted on a port that the universe does not name (R245). -/
  unicast : Bool := false
  /-- Carried by IPv6. -/
  v6 : Bool := false
  props : Bytes
  deriving DecidableEq, Repr

/-- What an E1.31 synchronisation packet names and how it came (R245, R249): its synchronisation address, whether it was sent to the
port's own address, and whether IPv6 carried it. -/
structure SacnSync where
  addr : Nat
  unicast : Bool := false
  v6 : Bool := false
  deriving DecidableEq, Repr

/-- The line of an input-direction DMX port from one break to the next, or up to the 512th slot (R250, R251, R361): the lengths of the
break and the mark after it in ns, the bit rate in bit/s, and whether a framing error ended the packet. -/
structure DmxLine where
  breakNs : Nat
  mabNs : Nat
  bitRate : Nat
  framing : Bool
  deriving DecidableEq, Repr

/-- An Ethernet port that goes UP (R375 to R377): the port, the rate in Mbit/s that port 4 negotiated, and TX_FAULT as it reads. -/
structure LinkUp where
  port : Nat
  mbit : Nat := 1000
  txFault : Bool := false
  deriving DecidableEq, Repr

/-- What a port meets as it takes its next frame (R384, R389, R390): the bytes that the host memory holds for a host descriptor,
whether reading them failed, and the entries of the transmit timestamp queue that other completions hold. -/
structure TxTurn where
  data : Bytes := []
  hostErr : Bool := false
  stampsHeld : Nat := 0
  deriving DecidableEq, Repr

/-- Samples of one line of an ST 2110-20 packet: line, first column, pixels as received. -/
structure VideoSeg where
  line : Nat
  column : Nat
  pixels : List VideoPix
  deriving DecidableEq, Repr

/-- An ST 2110-20 packet (R254, R255): the Ethernet port, IP version, source and group address in 16 bytes, UDP port and RTP payload
type by which it came; RTP sequence number, timestamp and marker bit; sampling, whether it is of an interlaced field, and its
segments. -/
structure VideoPacket where
  port : Nat := 0
  v6 : Bool := false
  source : Bytes := []
  group : Bytes := []
  udp : Nat := 0
  payloadType : Nat := 0
  seq : Nat
  marker : Bool
  sampling : Nat
  field : Bool := false
  segs : List VideoSeg
  rtp : Nat := 0
  deriving DecidableEq, Repr

/-- How a PTP message came: Ethernet port, transport and VLAN as PTP_CONFIG codes them (R158), domain, the unicast flag of its header
(R141), and the MAC and IP address of its sender. -/
structure PtpVia where
  port : Nat
  domain : Nat
  transport : Nat := 0
  vlan : Nat := 0
  unicast : Bool := false
  mac : Nat := 0
  ip : Nat := 0
  deriving DecidableEq, Repr

/-- An Announce message (R141): its way, source portIdentity and data set. -/
structure PtpAnnounce where
  via : PtpVia
  source : Nat
  data : AnnounceData
  deriving DecidableEq, Repr

/-- A Sync, Follow_Up or Delay_Resp message: its way, source portIdentity, sequence number, its timestamp, its correction field in
timebase units, the two-step flag and logSyncInterval. -/
structure PtpTimed where
  via : PtpVia
  source : Nat
  seq : Nat
  stamp : Instant
  corr : Int := 0
  twoStep : Bool := false
  logSync : Int := 0
  deriving DecidableEq, Repr

/-- A frame received at an Ethernet port (R382): its bytes without the FCS, whether the FCS is good, how many entries of the receive
timestamp queue other frames hold at that moment (R390), the descriptor at which the host answers a write of the frame with an
error, if it does (R383), and the PCS errors and the FEC codewords corrected and uncorrectable that the port has met since the frame
before (R391). -/
structure RxFrame where
  bytes : Bytes
  fcsOk : Bool := true
  stampsHeld : Nat := 0
  hostErr : Option Nat := none
  pcsErr : Nat := 0
  fecCorr : Nat := 0
  fecUncorr : Nat := 0
  deriving DecidableEq, Repr

end Sys2Proof.Machine
end

