-- ==== Sys2Proof/Machine/ShowPatch.lean ====
section
/-!
DEFINITION. Machine/ShowPatch.lean: profiles, the patch and the parameter pool as show state:
the checks that a staged write passes and what it changes (chapter "Fixtures, profiles and the
parameter store").
-/

namespace Sys2Proof.Machine

/-! ### Attributes -/

/-- The attribute codes of the table "Attributes" (R168). -/
def attrKnown (a : Nat) : Bool :=
  a ≤ 0x02 || (0x10 ≤ a && a ≤ 0x17) || a == 0x20 || a == 0x21 || a == 0x28
    || (0x30 ≤ a && a ≤ 0x38) || a == 0x40 || (0x50 ≤ a && a ≤ 0x5F)

/-- The attribute class of a code (R168). -/
def attrClass (a : Nat) : Nat :=
  if a = 0 then 0
  else if a < 0x20 then 1
  else if a < 0x30 then 2
  else if a < 0x40 then 3
  else if a < 0x50 then 4
  else 5

/-- The rest value of an attribute (R168): D65 for the chromaticity, else 0. -/
def attrRest (a : Nat) : F32 :=
  if a = 1 then F32.ofRat 3127 10000 else if a = 2 then F32.ofRat 3290 10000 else F32.f0

/-- `k` when the code is EMITTER_k. -/
def attrEmitter (a : Nat) : Option Nat := if 0x10 ≤ a && a ≤ 0x17 then some (a - 0x10) else none

/-! ### Profile images (R169) -/

/-- A parameter record. -/
structure ProfParam where
  attr : Nat
  width : Nat
  policy : Nat
  lo : F32
  hi : F32
  default_ : Nat
  deriving DecidableEq, Repr

/-- A wire-slot record. -/
structure ProfSlot where
  offset : Nat
  width : Nat
  kind : Nat
  attr : Nat
  lo : F32
  hi : F32
  deriving DecidableEq, Repr

/-- An emitter record. -/
structure ProfEmitter where
  x : F32
  y : F32
  lum : F32
  watts : F32
  deriving DecidableEq, Repr

/-- A 4-byte binary32 field. -/
def fldF (bs : Bytes) (off : Nat) : F32 := BitVec.ofNat 32 (fld bs off 4)

/-- Header fields of a profile image. -/
def profParamCount (p : Bytes) : Nat := fld p 2 1
def profEmitterCount (p : Bytes) : Nat := fld p 3 1
def profSlotCount (p : Bytes) : Nat := fld p 4 2
def profFootprint (p : Bytes) : Nat := fld p 6 2
def profColourMode (p : Bytes) : Nat := fld p 8 1
def profLatencyUs (p : Bytes) : Nat := fld p 0x10 4
def profIdleW (p : Bytes) : F32 := fldF p 0x14
def profFullW (p : Bytes) : F32 := fldF p 0x18

/-- The parameter records of an image, in index order. -/
def profParams (p : Bytes) : List ProfParam :=
  (records 16 (profParamCount p) (p.drop 64)).map fun r =>
    ⟨fld r 0 1, fld r 1 1, fld r 2 1, fldF r 4, fldF r 8, fld r 12 4⟩

/-- The emitter records of an image. -/
def profEmitters (p : Bytes) : List ProfEmitter :=
  (records 16 (profEmitterCount p) (p.drop (64 + 16 * profParamCount p))).map fun r =>
    ⟨fldF r 0, fldF r 4, fldF r 8, fldF r 12⟩

/-- The bytes of the wire-slot records. -/
def profSlotBytes (p : Bytes) : List Bytes :=
  records 16 (profSlotCount p) (p.drop (64 + 16 * (profParamCount p + profEmitterCount p)))

/-- The wire-slot records of an image. -/
def profSlots (p : Bytes) : List ProfSlot :=
  (profSlotBytes p).map fun r => ⟨fld r 0 2, fld r 2 1, fld r 3 1, fld r 4 1, fldF r 8, fldF r 12⟩

/-- A list without repeats. -/
def noDup (l : List Nat) : Bool :=
  match l with
  | [] => true
  | x :: xs => !xs.contains x && noDup xs

/-- LO and HI of R170: finite, not subnormal and different. -/
def loHiOk (lo hi : F32) : Bool := lo.isPlain && hi.isPlain && !F32.eqv lo hi

/-- The byte rules of R170: every slot inside the footprint, no byte shared. -/
def profBytesOk (p : Bytes) : Bool :=
  let ss := profSlots p
  ss.all (fun s => s.offset + s.width / 8 ≤ profFootprint p)
    && noDup (ss.flatMap fun s => (List.range (s.width / 8)).map (s.offset + ·))

/-- PWM-capable, with distinct OFFSETs below FOOTPRINT (R171). -/
def profPwmCapable (p : Bytes) : Bool :=
  let ss := profSlots p
  ss.all (fun s => (s.width == 8 || s.width == 16) && s.offset < profFootprint p)
    && noDup (ss.map (·.offset))

/-- One parameter record is valid (R170). -/
def profParamOk (p : ProfParam) : Bool :=
  attrKnown p.attr && (p.width == 16 || p.width == 24) && p.policy ≤ 3 && loHiOk p.lo p.hi
    && p.default_ < 2 ^ p.width

/-- One wire-slot record is valid (R170); the bytes give its reserved fields. -/
def profSlotOk (r : Bytes) (s : ProfSlot) : Bool :=
  (s.width == 8 || s.width == 16 || s.width == 24) && zeroAt r 5 3
    && (if s.kind = 0 then attrKnown s.attr && loHiOk s.lo s.hi
        else s.kind == 1 && s.attr == 0 && fld r 8 4 < 2 ^ s.width && fld r 12 4 == 0)

/-- A profile image is valid (R170, R171). -/
def profValid (p : Bytes) : Bool :=
  let pc := profParamCount p
  let ec := profEmitterCount p
  let sc := profSlotCount p
  let cm := profColourMode p
  let ps := profParams p
  let named := ps.map (·.attr) ++ ((profSlots p).filter (·.kind == 0)).map (·.attr)
  64 ≤ p.length && p.length == 64 + 16 * (pc + ec + sc) && fld p 0 2 == 1
    && 1 ≤ pc && pc ≤ 128 && ec ≤ 8 && sc ≤ 512 && 1 ≤ profFootprint p && profFootprint p ≤ 512
    && cm ≤ 2 && zeroAt p 9 7 && profLatencyUs p ≤ 250000 && zeroAt p 0x1C 4
    && (if cm = 0 then ec == 0 else 1 ≤ ec)
    && ps.all profParamOk && (records 16 pc (p.drop 64)).all (fun r => zeroAt r 3 1)
    && noDup (ps.map (·.attr))
    && (List.zip (profSlotBytes p) (profSlots p)).all (fun e => profSlotOk e.1 e.2)
    && named.all (fun a => match attrEmitter a with | some k => k < ec | none => true)
    && (cm != 1 || ps.all (fun q => (attrEmitter q.attr).isNone))
    && (profBytesOk p || profPwmCapable p)

/-- A profile suits a destination (R187). -/
def profSuits (p : Bytes) (kind dest start : Nat) : Bool :=
  if kind = 0 then true
  else if kind = 1 || kind = 2 then start + profFootprint p ≤ 513
  else kind == 3 && profPwmCapable p && dest + profFootprint p ≤ 32

/-! ### The patch as a whole -/

/-- The image of a fixture's profile, where fixture and profile are defined. -/
def PatchState.profileOf (v : PatchState) (f : Nat) : Option Bytes :=
  (v.patch.find f).bind fun r => v.profiles.find r.profile

/-- The parameters of a patched fixture; none when it is unpatched. -/
def PatchState.paramsOf (v : PatchState) (f : Nat) : List ProfParam :=
  ((v.profileOf f).map profParams).getD []

/-- The parameter record of an address, where the address is live (R166, R167). -/
def PatchState.paramAt (v : PatchState) (addr : Nat) : Option ProfParam := (v.paramsOf (addr / 128))[addr % 128]?

/-- An address is live (R167). -/
def PatchState.live (v : PatchState) (addr : Nat) : Bool := (v.paramAt addr).isSome

/-- The pool word of an address; 0 where the address is not live. -/
def PatchState.word (v : PatchState) (addr : Nat) : Nat := ((v.pool.getD (addr / 128) [])[addr % 128]?).getD 0

/-- A raw value of `width` bits read out as 24 bits (R180). -/
def to24 (width r : Nat) : Nat := if width = 16 then r * 256 + r / 256 else r

/-- A 24-bit raw value stored at `width` (R180). -/
def from24 (width r : Nat) : Nat := if width = 16 then r / 256 else r

/-- The base value of an address as 24 bits; 0 where it is not live (R179, R180). -/
def PatchState.base24 (v : PatchState) (addr : Nat) : Nat :=
  match v.paramAt addr with
  | some p => to24 p.width (bits (v.word addr) 0 24)
  | none => 0

/-- PARK of an address (R179). -/
def PatchState.park (v : PatchState) (addr : Nat) : Bool := bit (v.word addr) 24

/-- The index of the parameter of fixture `f` that drives attribute `a`. -/
def PatchState.paramIndex (v : PatchState) (f a : Nat) : Option Nat :=
  (v.paramsOf f).findIdx? (fun p => p.attr == a)

/-- Pool words in use: the sum of PARAM_COUNT over patched fixtures (R181). -/
def PatchState.wordsInUse (v : PatchState) : Nat :=
  (v.patch.map fun e => ((v.profiles.find e.2.profile).map profParamCount).getD 0).sum

/-- The distinct sACN universes that are a fixture's destination (R185). -/
def PatchState.universes (v : PatchState) : List Nat :=
  ((v.patch.filter (fun e => e.2.destKind == 1)).map (·.2.dest)).eraseDups

/-- The span of a fixture: the space it lies in, its first slot and the slot after its last
(R178). All PWM outputs form one space. -/
def PatchState.span (v : PatchState) (r : PatchRec) : Option (Nat × Nat × Nat) :=
  (v.profiles.find r.profile).bind fun p =>
    if r.destKind = 0 then none
    else if r.destKind = 3 then some (3 * 65536, r.dest, r.dest + profFootprint p)
    else some (r.destKind * 65536 + r.dest, r.start, r.start + profFootprint p)

/-- Two spans overlap. -/
def spansClash (a b : Nat × Nat × Nat) : Bool := a.1 == b.1 && decide (a.2.1 < b.2.2) && decide (b.2.1 < a.2.2)

/-- The fixtures whose footprint overlaps another's (R178). -/
def PatchState.clashes (v : PatchState) : List Nat :=
  let spans := v.patch.filterMap fun e => (v.span e.2).map fun sp => (e.1, sp)
  (spans.filter fun e => spans.any fun e' => e.1 != e'.1 && spansClash e.2 e'.2).map (·.1)

/-- Largest declared output latency of a fixture whose destination is not NONE, in µs (R172). -/
def PatchState.maxLatencyUs (v : PatchState) : Nat :=
  (v.patch.map fun e => if e.2.destKind = 0 then 0
    else ((v.profiles.find e.2.profile).map profLatencyUs).getD 0 + e.2.extraUs).foldl max 0

/-! ### PROFILE_LOAD, PROFILE_DELETE -/

/-- The patched fixtures that use a profile. -/
def PatchState.usersOf (v : PatchState) (n : Nat) : List (Nat × PatchRec) := v.patch.filter (fun e => e.2.profile == n)

/-- R188: the image may replace a profile that patched fixtures use. -/
def PatchState.mayReplace (v : PatchState) (n : Nat) (img : Bytes) : Bool :=
  match v.profiles.find n with
  | none => true
  | some old =>
    (v.usersOf n).isEmpty
      || ((profParams old).map (·.width) == (profParams img).map (·.width)
          && (v.usersOf n).all (fun e => profSuits img e.2.destKind e.2.dest e.2.start)
          && ({ v with profiles := v.profiles.put n img } : PatchState).clashes.isEmpty)

/-- The checks of PROFILE_LOAD on its image (R189); `data` is the image read. -/
def checkProfileLoad (v : PatchState) (payload data : Bytes) : CheckRes :=
  if !profValid data then { status := .badArgument }
  else if !v.mayReplace (fld payload 0 2) data then { status := .conflict }
  else {}

/-- PROFILE_LOAD defines or replaces the profile; base values and PARK bits are kept (R188). -/
def applyProfileLoad (v : PatchState) (payload data : Bytes) : PatchState :=
  { v with profiles := v.profiles.put (fld payload 0 2) data }

/-- The checks of PROFILE_DELETE (R189). -/
def checkProfileDelete (v : PatchState) (payload : Bytes) : CheckRes :=
  let n := fld payload 0 2
  if !v.profiles.has n then { status := .badArgument }
  else if !(v.usersOf n).isEmpty then { status := .conflict }
  else {}

/-- PROFILE_DELETE removes the profile. -/
def applyProfileDelete (v : PatchState) (payload : Bytes) : PatchState :=
  { v with profiles := v.profiles.del (fld payload 0 2) }

/-! ### PATCH_WRITE, PATCH_CLEAR -/

/-- The patch records of a PATCH_WRITE, inline or read from the host region. -/
def patchRecords (payload data : Bytes) : List Bytes :=
  if fld payload 0 1 = 0 then records 32 (fld payload 4 4) (payload.drop 0x10)
  else records 32 (fld payload 4 4) data

/-- The record as patch data. -/
def patchRecOf (r : Bytes) : PatchRec :=
  ⟨fld r 4 2, fld r 6 1, fld r 7 1, fld r 8 2, fld r 10 2, fld r 12 4, fld r 0x10 2, fld r 0x12 1⟩

/-- The bytes of a patch record, as PATCH_READ returns it. -/
def patchRecBytes (f : Nat) (r : PatchRec) : Bytes :=
  bytesLE 4 f ++ bytesLE 2 r.profile ++ bytesLE 1 r.destKind ++ bytesLE 1 r.flags ++ bytesLE 2 r.dest
    ++ bytesLE 2 r.start ++ bytesLE 4 r.extraUs ++ bytesLE 2 r.group ++ bytesLE 1 r.power ++ zeros 13

/-- DEST lies in the range of its kind. -/
def patchDestOk (r : PatchRec) : Bool :=
  if r.destKind = 0 then r.dest == 0 && r.start == 0
  else if r.destKind = 1 then 1 ≤ r.dest && r.dest ≤ 63999 && 1 ≤ r.start && r.start ≤ 512
  else if r.destKind = 2 then r.dest ≤ 15 && 1 ≤ r.start && r.start ≤ 512
  else r.dest ≤ 31 && r.start == 0

/-- The checks of one patch record, in the order of R191. -/
def checkPatchRec (v : PatchState) (b : Bytes) : Status :=
  let r := patchRecOf b
  if 3 < r.destKind || 3 < r.flags || !zeroAt b 0x13 13 || 2 ^ 17 ≤ fld b 0 4 then .badArgument
  else if !patchDestOk r || 100000 < r.extraUs
      || 4095 < r.group || 7 < r.power then .outOfRange
  else match v.profiles.find r.profile with
    | none => .conflict
    | some p => if profSuits p r.destKind r.dest r.start then .ok else .conflict

/-- A patch record keeps its fixture's profile, and with it the base values (R182). -/
def PatchState.keepsBase (v : PatchState) (b : Bytes) : Bool :=
  (v.patch.find (fld b 0 4)).elim false fun old => old.profile == (patchRecOf b).profile

/-- One patch record applied (R182). -/
def applyPatchRec (v : PatchState) (b : Bytes) : PatchState :=
  let f := fld b 0 4
  let r := patchRecOf b
  let pool := if v.keepsBase b then v.pool
    else v.pool.put f (((v.profiles.find r.profile).map fun p => (profParams p).map (·.default_)).getD [])
  { v with patch := v.patch.put f r, pool := pool }

/-- The fixtures whose base values the records of a PATCH_WRITE write (R182, R183). -/
def basesWritten (v : PatchState) : List Bytes → List Nat
  | [] => []
  | b :: bs => (if v.keepsBase b then [] else [fld b 0 4]) ++ basesWritten (applyPatchRec v b) bs

/-- The records of a PATCH_WRITE applied in order (R184). -/
def applyPatchWrite (v : PatchState) (payload data : Bytes) : PatchState :=
  (patchRecords payload data).foldl applyPatchRec v

/-- The first index whose record satisfies a test. -/
def firstIndex (rs : List Bytes) (t : Bytes → Bool) : Nat := (rs.findIdx? t).getD 0

/-- The checks of PATCH_WRITE (R184, R191) with its response FAIL_INDEX and WORDS_IN_USE. -/
def checkPatchWrite (v : PatchState) (payload data : Bytes) : CheckRes :=
  let rs := patchRecords payload data
  let res (st : Status) (i w : Nat) : CheckRes := { status := st, resp := bytesLE 4 i ++ bytesLE 4 w }
  match rs.findIdx? (fun b => checkPatchRec v b != .ok) with
  | some i => res (checkPatchRec v (rs.getD i [])) i v.wordsInUse
  | none =>
    let after := applyPatchWrite v payload data
    let clash := after.clashes
    if rs.any (fun b => clash.contains (fld b 0 4)) then
      res .conflict (firstIndex rs fun b => clash.contains (fld b 0 4)) v.wordsInUse
    else if 8388608 < after.wordsInUse then
      res .noResource (firstIndex rs fun b =>
        (v.paramsOf (fld b 0 4)).length < (after.paramsOf (fld b 0 4)).length) v.wordsInUse
    else if 16384 < after.universes.length then
      res .noResource (firstIndex rs fun b =>
        fld b 6 1 == 1 && !v.universes.contains (fld b 8 2)) v.wordsInUse
    else res .ok 0xFFFFFFFF after.wordsInUse

/-- PATCH_CLEAR unpatches every patched fixture of its range (R192, R182). -/
def applyPatchClear (v : PatchState) (payload : Bytes) : PatchState :=
  let lo := fld payload 0 4
  let hi := lo + fld payload 4 4
  { v with
    patch := v.patch.filter (fun e => !(lo ≤ e.1 && e.1 < hi))
    pool := v.pool.filter (fun e => !(lo ≤ e.1 && e.1 < hi)) }

/-! ### PARAM_WRITE -/

/-- The entries of a PARAM_WRITE: address, OP and the value word. -/
def paramEntries (payload : Bytes) : List (Nat × Nat × Nat) :=
  (records 8 (fld payload 0 4) (payload.drop 8)).map fun r => (fld r 0 3, fld r 3 1, fld r 4 4)

/-- The OPs of a PARAM_WRITE are known, and its unused value bits are zero. -/
def paramZeros (payload : Bytes) : Bool :=
  (paramEntries payload).all fun e => e.2.1 ≤ 3 && (e.2.1 < 2 || e.2.2 == 0) && e.2.2 < 2 ^ 24

/-- The checks of PARAM_WRITE (R194): an OP above 3 is BAD_ARGUMENT, a non-live address OUT_OF_RANGE. -/
def checkParamWrite (v : PatchState) (payload : Bytes) : CheckRes :=
  let es := paramEntries payload
  if !paramZeros payload then { status := .badArgument }
  else if es.any (fun e => !v.live e.1) then { status := .outOfRange }
  else {}

/-- One entry applied to a pool word (R179, R180, R194). -/
def paramWordAfter (width op value word : Nat) : Nat :=
  let base := bits word 0 24
  let parked := bits word 24 1
  if op = 0 then from24 width value + parked * 2 ^ 24
  else if op = 1 then from24 width value + 2 ^ 24
  else if op = 2 then base
  else base + 2 ^ 24

/-- One entry of PARAM_WRITE applied; a non-live address changes nothing. -/
def applyParamEntry (v : PatchState) (e : Nat × Nat × Nat) : PatchState :=
  match v.paramAt e.1 with
  | none => v
  | some p =>
    let ws := v.pool.getD (e.1 / 128) []
    { v with pool := v.pool.put (e.1 / 128) (ws.set (e.1 % 128) (paramWordAfter p.width e.2.1 e.2.2 (v.word e.1))) }

/-- The entries of PARAM_WRITE applied in order (R194). -/
def applyParamWrite (v : PatchState) (payload : Bytes) : PatchState :=
  (paramEntries payload).foldl applyParamEntry v

/-! ### Reads -/

/-- The response of PATCH_READ without the records, and the records returned (R193). -/
def patchReadScan (v : PatchState) (first count cap : Nat) : List (Nat × PatchRec) × Nat :=
  let found := v.patch.range first (first + count)
  if cap ≤ found.length then
    let got := found.take cap
    (got, ((got.getLast?).map (fun e => e.1 + 1)).getD (first + count))
  else (found, first + count)

/-- One entry of the PARAM_READ response (R195). -/
def paramReadEntry (v : PatchState) (addr : Nat) : Bytes :=
  if v.live addr then bytesLE 4 (addr + b2n (v.park addr) * 2 ^ 24) ++ bytesLE 4 (v.base24 addr)
  else bytesLE 4 (addr + 2 ^ 25) ++ zeros 4

/-- The response of POOL_STATUS (R196). -/
def poolStatus (v : PatchState) : Bytes :=
  bytesLE 4 v.wordsInUse ++ bytesLE 4 (8388608 - v.wordsInUse) ++ bytesLE 4 v.patch.length
    ++ bytesLE 2 v.profiles.length ++ zeros 2 ++ bytesLE 4 v.universes.length ++ bytesLE 4 v.maxLatencyUs

end Sys2Proof.Machine
end

