-- ==== Sys2Proof/Machine/ShowColour.lean ====
section
/-!
DEFINITION. Machine/ShowColour.lean: calibration, colour regions and feeders as show state, and the
colour solve of stage 4 (chapter "Colour solve, fixture calibration and the feeder governor").
-/

namespace Sys2Proof.Machine

/-- A three-vector of XYZ. -/
structure V3 where
  a : F32
  b : F32
  c : F32
  deriving DecidableEq, Repr

/-- The cross product, in the order the chapter fixes. -/
def V3.cross (u v : V3) : V3 :=
  ⟨F32.sub (F32.mul u.b v.c) (F32.mul u.c v.b),
   F32.sub (F32.mul u.c v.a) (F32.mul u.a v.c),
   F32.sub (F32.mul u.a v.b) (F32.mul u.b v.a)⟩

/-- The dot product, in the order the chapter fixes. -/
def V3.dot (u v : V3) : F32 := F32.add (F32.add (F32.mul u.a v.a) (F32.mul u.b v.b)) (F32.mul u.c v.c)

/-- Component-wise sum. -/
def V3.add (u v : V3) : V3 := ⟨F32.add u.a v.a, F32.add u.b v.b, F32.add u.c v.c⟩

/-- The zero vector. -/
def V3.zero : V3 := ⟨F32.f0, F32.f0, F32.f0⟩

/-! ### Calibration records -/

def calEmitters (r : Bytes) : Nat := fld r 4 1
def calMaxLum (r : Bytes) : Bool := bit (fld r 5 1) 0
def calTempSource (r : Bytes) : Nat := fld r 6 2
def calTempMin (r : Bytes) : Int := fldS r 0x18 1
def calTempMax (r : Bytes) : Int := fldS r 0x19 1

/-- Emitter data of one emitter: chromaticity, flux, watts and temperature coefficients (R270). -/
structure Emitter where
  x : F32
  y : F32
  lum : F32
  watts : F32
  dx : F32
  dy : F32
  dl : F32
  deriving DecidableEq, Repr

/-- Emitter `k` of a calibration record. -/
def calEmitter (r : Bytes) (k : Nat) : Emitter :=
  let o := 0x20 + 32 * k
  ⟨fldF r o, fldF r (o + 4), fldF r (o + 8), fldF r (o + 12), fldF r (o + 16), fldF r (o + 20), fldF r (o + 24)⟩

/-- The emitter data that stage 4 uses for a fixture (R270). -/
structure EmitterData where
  emitters : List Emitter
  tempSource : Nat := 0xFFFF
  tempMin : Int := -40
  tempMax : Int := 125
  whiteX : F32
  whiteY : F32
  whiteLum : F32
  maxLum : Bool
  idle : F32
  calibrated : Bool
  mismatch : Bool
  deriving DecidableEq, Repr

/-- The emitter data of a profile and an optional calibration record (R270). -/
def emitterData (prof : Bytes) (cal : Option Bytes) : EmitterData :=
  let nominal (mis : Bool) : EmitterData :=
    { emitters := (profEmitters prof).map fun e => ⟨e.x, e.y, e.lum, e.watts, F32.f0, F32.f0, F32.f0⟩,
      whiteX := attrRest 1, whiteY := attrRest 2, whiteLum := F32.f0, maxLum := false,
      idle := profIdleW prof, calibrated := false, mismatch := mis }
  match cal with
  | none => nominal false
  | some r =>
    if calEmitters r != profEmitterCount prof then nominal true
    else
      let idle := fldF r 0x14
      { emitters := (List.range (calEmitters r)).map (calEmitter r),
        tempSource := calTempSource r, tempMin := calTempMin r, tempMax := calTempMax r,
        whiteX := fldF r 8, whiteY := fldF r 12, whiteLum := fldF r 16, maxLum := calMaxLum r,
        idle := if F32.lt idle F32.f0 then profIdleW prof else idle, calibrated := true, mismatch := false }

/-- The solve temperature (R271): the latched value held to the record's range, 25 °C without a valid source. -/
def solveTemp (d : EmitterData) (reading : Option F32) : F32 :=
  match reading with
  | some t => if d.tempSource = 0xFFFF then F32.ofInt 25 else F32.clamp t (F32.ofInt d.tempMin) (F32.ofInt d.tempMax)
  | none => F32.ofInt 25

/-- An emitter at a temperature: corrected chromaticity, flux and XYZ at full drive (R271). -/
structure HotEmitter where
  x : F32
  y : F32
  lum : F32
  e : V3
  deriving DecidableEq, Repr

/-- The correction of R271. -/
def Emitter.at (m : Emitter) (theta : F32) : HotEmitter :=
  let dt := F32.sub theta (F32.ofInt 25)
  let x := F32.add m.x (F32.mul m.dx dt)
  let y := F32.add m.y (F32.mul m.dy dt)
  let lum := F32.mul m.lum (F32.max (F32.ofRat 1 100) (F32.add F32.f1 (F32.mul m.dl dt)))
  let z := F32.div (F32.sub (F32.sub F32.f1 x) y) y
  ⟨x, y, lum, ⟨F32.mul lum (F32.div x y), F32.mul lum F32.f1, F32.mul lum z⟩⟩

/-- A chromaticity in domain: finite, y at least 0.01, x not negative, x + y at most 1. -/
def inDomain (cx cy : F32) : Bool :=
  F32.le (F32.ofRat 1 100) cy && F32.le F32.f0 cx && F32.le (F32.add cx cy) F32.f1

/-- The unit vector of a chromaticity. -/
def unitVec (cx cy : F32) : V3 := ⟨F32.div cx cy, F32.f1, F32.div (F32.sub (F32.sub F32.f1 cx) cy) cy⟩

/-- One face of the zonotope: the pair (i, j) with a sign (R272). -/
def faceTry (es : List V3) (t : V3) (i j : Nat) (neg : Bool) (best : F32 × List F32) : F32 × List F32 :=
  let ei := es.getD i V3.zero
  let ej := es.getD j V3.zero
  let w := ei.cross ej
  let dd := t.dot w
  let isOn (k : Nat) : Bool :=
    let d := w.dot (es.getD k V3.zero)
    k != i && k != j && F32.lt F32.f0 (if neg then F32.negate d else d)
  let n := es.length
  let c := (List.range n).foldl (fun c k => if isOn k then c.add (es.getD k V3.zero) else c) V3.zero
  if F32.eqv dd F32.f0 then best
  else
    let lam := F32.div (c.dot w) dd
    let a := F32.div (t.dot (ej.cross c)) dd
    let b := F32.div (t.dot (c.cross ei)) dd
    if F32.lt best.1 lam && F32.le F32.f0 a && F32.le a F32.f1 && F32.le F32.f0 b && F32.le b F32.f1 then
      (lam, (List.range n).map fun k => if k = i then a else if k = j then b else if isOn k then F32.f1 else F32.f0)
    else best

/-- The face search: capacity and full mix of a chromaticity for three or more emitters (R272). -/
def faceSearch (es : List V3) (t : V3) : F32 × List F32 :=
  let n := es.length
  let pairs := (List.range n).flatMap fun i => ((List.range n).filter (fun j => decide (i < j))).map fun j => (i, j)
  pairs.foldl (fun b p => faceTry es t p.1 p.2 true (faceTry es t p.1 p.2 false b))
    (F32.f0, List.replicate n F32.f0)

/-- The capacity of a chromaticity; 0 where it is not in domain. -/
def capacity (es : List V3) (cx cy : F32) : F32 :=
  if inDomain cx cy then (faceSearch es (unitVec cx cy)).1 else F32.f0

/-- Reachable: in domain, with a capacity above 0 (R272). -/
def reachable (es : List V3) (cx cy : F32) : Bool := F32.lt F32.f0 (capacity es cx cy)

/-- The bisection of R274 from the pivot to the target: the last reachable fraction. -/
def bisect (es : List V3) (px py cx cy : F32) : Nat → F32 → F32 → F32
  | 0, lo, _ => lo
  | k + 1, lo, hi =>
    let mid := F32.mul (F32.add lo hi) (F32.ofRat 1 2)
    let qx := F32.add px (F32.mul mid (F32.sub cx px))
    let qy := F32.add py (F32.mul mid (F32.sub cy py))
    if reachable es qx qy then bisect es px py cx cy k mid hi else bisect es px py cx cy k lo mid

/-- What the mix of a target is: capacity s, full mix d*, and whether it was gamut-mapped. -/
structure Mix where
  s : F32
  d : List F32
  mapped : Bool
  deriving DecidableEq, Repr

/-- The mix for one emitter or two (R273). -/
def mixSmall (hs : List HotEmitter) (wx wy cx cy : F32) : Mix :=
  match hs with
  | [h] => ⟨h.lum, [F32.f1], false⟩
  | [h0, h1] =>
    let ok := inDomain cx cy
    let cx := if ok then cx else wx
    let cy := if ok then cy else wy
    let ex := F32.sub h1.x h0.x
    let ey := F32.sub h1.y h0.y
    let q := F32.add (F32.mul ex ex) (F32.mul ey ey)
    let p := if F32.eqv q F32.f0 then F32.ofRat 1 2
      else F32.clamp (F32.div (F32.add (F32.mul (F32.sub cx h0.x) ex) (F32.mul (F32.sub cy h0.y) ey)) q) F32.f0 F32.f1
    let p1 := F32.sub F32.f1 p
    let f0 := F32.div (F32.mul p1 h0.y) (F32.add (F32.mul p1 h0.y) (F32.mul p h1.y))
    let f1 := F32.sub F32.f1 f0
    let u0 := F32.div f0 h0.lum
    let u1 := F32.div f1 h1.lum
    let s := F32.div F32.f1 (F32.max u0 u1)
    ⟨s, [F32.mul s u0, F32.mul s u1], false⟩
  | _ => ⟨F32.f0, [], false⟩

/-- The mix of a target chromaticity (R272 to R274). -/
def mixOf (hs : List HotEmitter) (wx wy cx cy : F32) : Mix :=
  if hs.length < 3 then mixSmall hs wx wy cx cy
  else
    let es := hs.map (·.e)
    let full (x y : F32) (m : Bool) : Mix :=
      let r := faceSearch es (unitVec x y)
      ⟨r.1, r.2, m⟩
    if reachable es cx cy then full cx cy false
    else
      let sum := es.foldl V3.add V3.zero
      let tot := F32.add (F32.add sum.a sum.b) sum.c
      let px := if reachable es wx wy then wx else F32.div sum.a tot
      let py := if reachable es wx wy then wy else F32.div sum.b tot
      if reachable es px py then
        let lo := bisect es px py cx cy 12 F32.f0 F32.f1
        full (F32.add px (F32.mul lo (F32.sub cx px))) (F32.add py (F32.mul lo (F32.sub cy py))) true
      else ⟨(hs.map (·.lum)).foldl F32.add F32.f0, hs.map (fun _ => F32.f1), true⟩

/-- The result of stage 4 for a fixture: drives, flags of SOLVE_READ, and its unscaled power split
into idle and drive parts (R275, "The power model"). -/
structure SolveOut where
  drives : List F32 := []
  calibrated : Bool := false
  mapped : Bool := false
  clipped : Bool := false
  mismatch : Bool := false
  solved : Bool := false
  idle : F32 := 0
  dyn : F32 := 0
  deriving DecidableEq, Repr

/-- The capacity at the white point at 25 °C, W_L of R275 when WHITE_LUM is 0: by the face search for three or more emitters (R272),
by R273 below that. -/
def whiteCapacity (d : EmitterData) : F32 :=
  let hs := d.emitters.map (fun m => m.at (F32.ofInt 25))
  if hs.length < 3 then (mixSmall hs d.whiteX d.whiteY d.whiteX d.whiteY).s else capacity (hs.map (·.e)) d.whiteX d.whiteY

/-- Σ d_k × WATTS_k in ascending k. -/
def driveWatts (ds : List F32) (ms : List Emitter) : F32 :=
  (ds.zip ms).foldl (fun a e => F32.add a (F32.mul e.1 e.2.watts)) F32.f0

/-- Stage 4 under SOLVE (R271 to R275): `i`, `cx`, `cy` are INTENSITY, COLOUR_X and COLOUR_Y. -/
def solve (d : EmitterData) (reading : Option F32) (i cx cy : F32) : SolveOut :=
  let hs := d.emitters.map (fun m => m.at (solveTemp d reading))
  let m := mixOf hs d.whiteX d.whiteY cx cy
  let i := F32.clamp i F32.f0 F32.f1
  let wl := if F32.eqv d.whiteLum F32.f0 then whiteCapacity d else d.whiteLum
  let want := F32.mul i wl
  let k := if d.maxLum then i else F32.min F32.f1 (F32.div want m.s)
  let ds := m.d.map (fun x => if d.maxLum then F32.mul i x else F32.mul x k)
  { drives := ds, calibrated := d.calibrated, mapped := m.mapped, clipped := !d.maxLum && F32.lt m.s want,
    mismatch := d.mismatch, solved := true, idle := d.idle, dyn := driveWatts ds d.emitters }

/-! ### CALIB_SET, REGION_SET (R289) -/

/-- Records of a request, inline or from the host region, `n` bytes each. -/
def sourceRecords (n : Nat) (payload data : Bytes) : List Bytes :=
  if fld payload 0 1 = 0 then records n (fld payload 4 4) (payload.drop 0x10)
  else records n (fld payload 4 4) data

/-- Reserved bits and bytes of a calibration record are zero, and so are the entries that it does not use, in a record that removes
too (R13, R289). -/
def calibZeros (r : Bytes) : Bool :=
  let n := min (calEmitters r) 8
  fld r 0 4 < 2 ^ 17 && fld r 5 1 ≤ 1 && zeroAt r 0x1A 6 && zeroAt r (0x20 + 32 * n) (256 - 32 * n)
    && (List.range n).all fun k => zeroAt r (0x20 + 32 * k + 28) 4

/-- The check of one calibration record. -/
def checkCalibRec (r : Bytes) : Status :=
  let n := calEmitters r
  let ems := (List.range n).map (calEmitter r)
  if !calibZeros r then .badArgument
  else if n = 0 then .ok
  else if 8 < n || ems.any (fun m => !inDomain m.x m.y || !F32.lt F32.f0 m.lum || F32.lt m.watts F32.f0)
      || !inDomain (fldF r 8) (fldF r 12) || calTempMin r < -40 || 125 < calTempMin r || calTempMax r ≤ calTempMin r then
    .outOfRange
  else if 3 ≤ n && !reachable (ems.map fun m => (m.at (F32.ofInt 25)).e) (fldF r 8) (fldF r 12) then .conflict
  else .ok

/-- One calibration record applied; EMITTERS 0 removes. -/
def applyCalibRec (v : ColourShow) (r : Bytes) : ColourShow :=
  { v with calib := if calEmitters r = 0 then v.calib.del (fld r 0 4) else v.calib.put (fld r 0 4) r }

/-- The response of a record command: FAIL_INDEX and a count. -/
def recordRes (st : Status) (i n : Nat) : CheckRes := { status := st, resp := bytesLE 4 i ++ bytesLE 4 n }

/-- The checks of CALIB_SET. -/
def checkCalibSet (v : ColourShow) (payload data : Bytes) : CheckRes :=
  let rs := sourceRecords 288 payload data
  match rs.findIdx? (fun r => checkCalibRec r != .ok) with
  | some i => recordRes (checkCalibRec (rs.getD i [])) i v.calib.length
  | none => recordRes .ok 0xFFFFFFFF (rs.foldl applyCalibRec v).calib.length

/-- CALIB_SET applies its records in order. -/
def applyCalibSet (v : ColourShow) (payload data : Bytes) : ColourShow :=
  (sourceRecords 288 payload data).foldl applyCalibRec v

def regCanvas (r : Bytes) : Nat := fld r 2 1
def regChannels (r : Bytes) : Nat := fld r 3 1
def regRect (r : Bytes) : Rect := ⟨fld r 4 2, fld r 6 2, fld r 8 2, fld r 10 2⟩
def regFeeder (r : Bytes) : Nat := fld r 12 1
def regPhase (r : Bytes) : Nat := fld r 13 1
def regClass (r : Bytes) : Nat := fld r 14 1
def regMatrix (r : Bytes) (row col : Nat) : F32 := fldF r (0x10 + 4 * (4 * row + col))
def regWatts (r : Bytes) (j : Nat) : F32 := fldF r (0x40 + 4 * j)
def regIdle (r : Bytes) : F32 := fldF r 0x50

/-- Reserved bytes of a region record are zero, in a record that removes too (R13, R289). -/
def regionZeros (r : Bytes) : Bool := zeroAt r 15 1 && zeroAt r 0x54 12

/-- The check of one region record. The fields of a record that removes are not used and have no range (DEDUCED, assumption 90). -/
def checkRegionRec (r : Bytes) : Status :=
  if !regionZeros r then .badArgument
  else if regCanvas r = 0xFF then .ok
  else if 7 < regCanvas r || (regChannels r != 3 && regChannels r != 4) || (regRect r).w = 0 || (regRect r).h = 0
      || (63 < regFeeder r && regFeeder r != 0xFF) || 3 < regPhase r || 7 < regClass r then .outOfRange
  else .ok

/-- One region record applied; CANVAS 0xFF removes. -/
def applyRegionRec (v : ColourShow) (r : Bytes) : ColourShow :=
  { v with regions := if regCanvas r = 0xFF then v.regions.del (fld r 0 2) else v.regions.put (fld r 0 2) r }

/-- The checks of REGION_SET. -/
def checkRegionSet (v : ColourShow) (payload data : Bytes) : CheckRes :=
  let rs := sourceRecords 96 payload data
  match rs.findIdx? (fun r => checkRegionRec r != .ok) with
  | some i => recordRes (checkRegionRec (rs.getD i [])) i v.regions.length
  | none => recordRes .ok 0xFFFFFFFF (rs.foldl applyRegionRec v).regions.length

/-- REGION_SET applies its records in order. -/
def applyRegionSet (v : ColourShow) (payload data : Bytes) : ColourShow :=
  (sourceRecords 96 payload data).foldl applyRegionRec v

/-- Two rectangles share a pixel. -/
def Rect.clash (a b : Rect) : Bool :=
  decide (a.x < b.x + b.w) && decide (b.x < a.x + a.w) && decide (a.y < b.y + b.h) && decide (b.y < a.y + a.h)

/-- A pixel lies in a rectangle. -/
def Rect.has (a : Rect) (x y : Nat) : Bool := a.x ≤ x && x < a.x + a.w && a.y ≤ y && y < a.y + a.h

/-- A rectangle lies inside a canvas. -/
def Rect.inside (a : Rect) (c : Canvas) : Bool := a.x + a.w ≤ c.width && a.y + a.h ≤ c.height

/-- R276: regions of one canvas do not overlap and lie inside their canvas. -/
def regionsOk (v : ColourShow) (cs : Map Canvas) : Bool :=
  v.regions.all fun e =>
    (match cs.find (regCanvas e.2) with
      | some c => (regRect e.2).inside c
      | none => false)
    && v.regions.all fun e' => e.1 == e'.1 || regCanvas e.2 != regCanvas e'.2 || !(regRect e.2).clash (regRect e'.2)

/-! ### FEEDER_SET, FEEDER_MEMBER_SET (R290) -/

def fdMode (r : Bytes) : Nat := fld r 1 1
def fdGovern (r : Bytes) : Bool := bit (fld r 2 1) 0
def fdAdapt (r : Bytes) : Bool := bit (fld r 2 1) 1
def fdPoint (r : Bytes) : Nat := fld r 3 1
def fdBudget (r : Bytes) : F32 := fldF r 4
def fdLimit (r : Bytes) : F32 := fldF r 8
def fdTrip (r : Bytes) : Nat := if fld r 12 2 = 0 then 62259 else fld r 12 2
def fdRelease (r : Bytes) : Nat := if fld r 14 2 = 0 then 30 else fld r 14 2
def fdNominalV (r : Bytes) : F32 := fldF r 0x10
def fdPf (r : Bytes) : F32 := fldF r 0x14
def fdOther (r : Bytes) : F32 := fldF r 0x18
def fdGainInit (r : Bytes) : F32 := if F32.eqv (fldF r 0x1C) F32.f0 then F32.f1 else fldF r 0x1C
def fdDown (r : Bytes) : Nat := if fld r 0x20 2 = 0 then 1000 else fld r 0x20 2
def fdUp (r : Bytes) : Nat := if fld r 0x22 2 = 0 then 200 else fld r 0x22 2
def fdHoldMs (r : Bytes) : Nat := fld r 0x24 2
def fdSettleMs (r : Bytes) : Nat := if fld r 0x26 2 = 0 then 100 else fld r 0x26 2
def fdWindow (r : Bytes) : Nat := if fld r 0x28 2 = 0 then 256 else fld r 0x28 2

/-- 0 or in a range: fields where 0 selects a default. -/
def zeroOr (x lo hi : Nat) : Bool := x == 0 || (lo ≤ x && x ≤ hi)

/-- The fields of a feeder record lie in their ranges. -/
def feederRangeOk (r : Bytes) : Bool :=
  fld r 0 1 ≤ 63 && fdMode r ≤ 2
    && (fdMode r == 0 ||
      ((fdPoint r ≤ 31 || fdPoint r == 0xFF) && F32.lt F32.f0 (fdBudget r) && F32.le (fdBudget r) (fdLimit r)
        && zeroOr (fld r 12 2) 32768 65535 && zeroOr (fld r 14 2) 1 500
        && F32.le (F32.ofInt 50) (fdNominalV r) && F32.le (fdNominalV r) (F32.ofInt 500)
        && F32.le (F32.ofRat 1 2) (fdPf r) && F32.le (fdPf r) F32.f1 && F32.le F32.f0 (fdOther r)
        && (F32.eqv (fldF r 0x1C) F32.f0 || (F32.le (F32.ofRat 1 2) (fldF r 0x1C) && F32.le (fldF r 0x1C) (F32.ofInt 2)))
        && zeroOr (fld r 0x20 2) 1 10000 && zeroOr (fld r 0x22 2) 1 10000 && fdHoldMs r ≤ 60000
        && zeroOr (fld r 0x26 2) 1 1000 && zeroOr (fld r 0x28 2) 16 65535))

/-- FEEDER_SET defines, replaces or removes a feeder. -/
def applyFeederSet (v : ColourShow) (r : Bytes) : ColourShow :=
  { v with feeders := if fdMode r = 0 then v.feeders.del (fld r 0 1) else v.feeders.put (fld r 0 1) r }

/-- The entries of FEEDER_MEMBER_SET: fixture, feeder, phase. -/
def memberEntries (payload : Bytes) : List Bytes := records 8 (fld payload 0 4) (payload.drop 8)

/-- Reserved bits and bytes of the entries are zero. -/
def feederMemberZeros (payload : Bytes) : Bool := (memberEntries payload).all fun r => fld r 0 4 < 2 ^ 17 && zeroAt r 6 2

/-- The checks of FEEDER_MEMBER_SET (R290). -/
def checkFeederMemberSet (v : ColourShow) (payload : Bytes) : CheckRes :=
  let rs := memberEntries payload
  if !feederMemberZeros payload then { status := .badArgument }
  else if rs.any (fun r => (63 < fld r 4 1 && fld r 4 1 != 0xFF) || 3 < fld r 5 1) then { status := .outOfRange }
  else if rs.any (fun r => fld r 4 1 != 0xFF && !v.feeders.has (fld r 4 1)) then { status := .conflict }
  else {}

/-- FEEDER_MEMBER_SET applies its entries in order. -/
def applyFeederMemberSet (v : ColourShow) (payload : Bytes) : ColourShow :=
  (memberEntries payload).foldl (fun v r =>
    { v with members := if fld r 4 1 = 0xFF then v.members.del (fld r 0 4)
        else v.members.put (fld r 0 4) (fld r 4 1, fld r 5 1) }) v

end Sys2Proof.Machine
end

