-- ==== Sys2Proof/Machine/Governor.lean ====
section
/-!
DEFINITION. Machine/Governor.lean: the decision of the feeder governor (R278 to R288), as a function of
the governor state, the members' unscaled power and the latched measurement.
-/

namespace Sys2Proof.Machine

/-- A member of a feeder in a frame: phase, power class, whether it is exempt (R278), its idle power and
the power that its drives add. -/
structure GovMember where
  phase : Nat
  cls : Nat
  exempt : Bool
  idle : F32
  dyn : F32
  deriving DecidableEq, Repr

/-- A scale of a constraint and class; 1.0 where none is held yet. -/
def GovFeeder.scale (g : GovFeeder) (p c : Nat) : F32 := g.scales.getD (8 * p + c) F32.f1

/-- A member's share of its power on a phase constraint (R279). `p` is none in MODE 1. -/
def shareOn (m : GovMember) (p : Option Nat) (x : F32) : Option F32 :=
  match p with
  | none => some x
  | some q => if m.phase = 3 then some (F32.div x (F32.ofInt 3)) else if m.phase = q then some x else none

/-- Sum of the shares of the members that satisfy a test, in member order. -/
def sumShares (ms : List GovMember) (p : Option Nat) (t : GovMember → Bool) (f : GovMember → F32) : F32 :=
  ms.foldl (fun a m => if t m then (match shareOn m p (f m) with
    | some x => F32.add a x
    | none => a) else a) F32.f0

/-- v(c) and the fixed part of a constraint with gain `g` (R283). The scalable part of a member is its
drive power; its idle power is in the fixed part (DEDUCED, assumption 33). -/
def constraintLoad (ms : List GovMember) (p : Option Nat) (g other : F32) : List F32 × F32 :=
  let v := (List.range 8).map fun c => F32.mul g (sumShares ms p (fun m => !m.exempt && m.cls == c) (·.dyn))
  let idle := sumShares ms p (fun m => !m.exempt) (·.idle)
  let ex := sumShares ms p (·.exempt) (fun m => F32.add m.idle m.dyn)
  (v, F32.add (F32.mul g (F32.add idle ex)) other)

/-- The class targets against a budget, class 0 first (R283), and whether need remains. -/
def targetsLoop : List F32 → F32 → List F32 × F32
  | [], need => ([], need)
  | v :: vs, need =>
    if F32.le need F32.f0 || F32.eqv v F32.f0 then
      let r := targetsLoop vs need
      (F32.f1 :: r.1, r.2)
    else if F32.le v need then
      let r := targetsLoop vs (F32.sub need v)
      (F32.f0 :: r.1, r.2)
    else
      let r := targetsLoop vs F32.f0
      (F32.sub F32.f1 (F32.div need v) :: r.1, r.2)

/-- The targets of one constraint and its overcommit (R283). -/
def targets (v : List F32) (fixed budget : F32) : List F32 × Bool :=
  let total := v.foldl F32.add F32.f0
  let r := targetsLoop v (F32.sub (F32.add fixed total) budget)
  (r.1, F32.lt F32.f0 r.2)

/-- The constraints of a feeder: none in MODE 1 stands for the one over all members (R279). -/
def constraintsOf (rec : Bytes) : List (Option Nat) := if fdMode rec = 1 then [none] else [some 0, some 1, some 2]

/-- The row of `scales` that a constraint uses. -/
def rowOf (p : Option Nat) : Nat := p.getD 0

/-- The budget of a constraint in watts (R279). -/
def budgetOf (rec : Bytes) (meas : FeederMeas) (p : Option Nat) : F32 :=
  match p with
  | none => fdBudget rec
  | some q =>
    let v := if meas.valid then meas.volts.getD q (fdNominalV rec) else fdNominalV rec
    F32.mul (F32.mul (fdBudget rec) v) (fdPf rec)

/-- OTHER_W of a constraint: divided equally among the phases in MODE 2 (R283). -/
def otherOf (rec : Bytes) : F32 := if fdMode rec = 1 then fdOther rec else F32.div (fdOther rec) (F32.ofInt 3)

/-- The sum of a list of binary32 values in order. -/
def sumF (l : List F32) : F32 := l.foldl F32.add F32.f0

/-- Q_n, the mean of the last eight emitted predictions, in ascending frame order; 0 when there are none. -/
def GovFeeder.q (g : GovFeeder) : F32 :=
  F32.div (sumF ((g.emitted.take 8).reverse)) (F32.ofInt 8)

/-- The measurement exceeds a level: P_m in MODE 1, any phase current in MODE 2. -/
def measAbove (rec : Bytes) (meas : FeederMeas) (level : F32) : Bool :=
  if fdMode rec = 1 then F32.lt level meas.watts else meas.amps.any (fun a => F32.lt level a)

/-- Milliseconds as timebase units. -/
def msUnits (ms : Nat) : Int := (ms : Int) * 1000000 * 65536

/-- Whether `ms` milliseconds have passed from an instant to `l`; true where there is no instant. -/
def msPassed (l : Instant) (since : Option Instant) (ms : Nat) : Bool :=
  match since with
  | none => true
  | some t => decide (msUnits ms ≤ l - t)

/-- Every tested measurement of the last HOLD_MS was within budget, and the first one tested since the last HARD application lies at
least HOLD_MS back (table "Feeder states"). -/
def GovFeeder.calm (g : GovFeeder) (l : Instant) (holdMs : Nat) : Bool :=
  g.firstTest.elim false (fun t => decide (msUnits holdMs ≤ l - t)) && g.lastOver.elim true fun t => decide (msUnits holdMs < l - t)

/-- A rate in units of 0.1% per second times T_n (R284). -/
def ratePerFrame (units : Nat) (period : Units) : F32 :=
  F32.mul (F32.div (F32.ofInt units) (F32.ofInt 1000)) (F32.ofRat period (65536 * 1000000000))

/-- One scale moved by R284: the new scale and whether it fell. -/
def moveScale (k kd ku down up : F32) (mayRise : Bool) : F32 × Bool :=
  if F32.lt kd k then (F32.sub k (F32.min (F32.sub k kd) down), true)
  else if F32.lt k ku && mayRise then (F32.add k (F32.min (F32.sub ku k) up), false)
  else (k, false)

/-- All rows of scales laid out: rows without a constraint are 1.0 (R291). -/
def layRows (rec : Bytes) (rows : List (List F32)) : List F32 :=
  if fdMode rec = 1 then (rows.getD 0 []) ++ List.replicate 16 F32.f1
  else (rows.getD 0 []) ++ (rows.getD 1 []) ++ (rows.getD 2 [])

/-- Every scale is 1.0. -/
def allOne (ks : List F32) : Bool := ks.all (fun k => F32.eqv k F32.f1)

/-- The gain window of R288 at the end of frame `n`: the new feeder and whether a clamp acted. -/
def gainStep (rec : Bytes) (g : GovFeeder) (meas : FeederMeas) (budgetW : F32) (n : Nat) : GovFeeder × Bool :=
  let g := { g with
    winFrames := g.winFrames + 1, winValid := g.winValid && meas.valid,
    sumQ := F32.add g.sumQ g.q, sumP := F32.add g.sumP (F32.sub meas.watts (fdOther rec)),
    sumB := F32.add g.sumB budgetW }
  if n % fdWindow rec != fdWindow rec - 1 then (g, false)
  else
    let fire := fdAdapt rec && g.winValid && g.winFrames == fdWindow rec
      && F32.le (F32.mul (F32.ofRat 5 100) g.sumB) g.sumQ
    let r := F32.div g.sumP g.sumQ
    let g1 := F32.add g.gain (F32.mul (F32.sub r g.gain) (F32.ofRat 1 8))
    let g2 := F32.clamp g1 (F32.ofRat 1 2) (F32.ofInt 2)
    let clamped := fire && !F32.eqv g1 g2
    ({ g with gain := if fire then g2 else g.gain, winFrames := 0, winValid := true,
              sumQ := F32.f0, sumP := F32.f0, sumB := F32.f0 }, clamped)

/-- Interrupt sources of the governor's events (R292). -/
def srcFeederLimiting : Nat := 0x69
def srcFeederReleased : Nat := 0x6A
def srcFeederHard : Nat := 0x6B
def srcFeederGain : Nat := 0x6C
def srcFeederOver : Nat := 0x6D

/-- The decision of one feeder for a frame with latch point `l` (R283 to R288): the new governor state,
without the frame's emitted prediction, and the events raised. -/
def decideFeeder (rec : Bytes) (ms : List GovMember) (meas : FeederMeas) (l : Instant) (period : Units)
    (g0 : GovFeeder) : GovFeeder × List Nat :=
  let cons := constraintsOf rec
  let other := otherOf rec
  let down (gain : F32) := cons.map fun p =>
    let x := constraintLoad ms p gain other
    targets x.1 x.2 (budgetOf rec meas p)
  let kd := down g0.gain
  let rel := F32.sub F32.f1 (F32.div (F32.ofInt (fdRelease rec)) (F32.ofInt 1000))
  let ku := cons.map fun p =>
    let x := constraintLoad ms p g0.gain other
    (targets x.1 x.2 (F32.mul (budgetOf rec meas p) rel)).1
  let exceeded := kd.any (·.2)
  let pred := sumF (cons.map fun p =>
    let x := constraintLoad ms p g0.gain other
    F32.add x.2 (sumF x.1))
  let overEv := if exceeded && !g0.overRun then [srcFeederOver] else []
  let g := { g0 with
    exceeded := exceeded, overRun := exceeded, overCount := if exceeded then g0.overCount + 1 else g0.overCount,
    predW := pred, meas := meas }
  if !fdGovern rec then
    ({ g with phase := .open_, scales := List.replicate 24 F32.f1, firstTest := none, lastOver := none }, overEv)
  else
    let tested := meas.valid && msPassed l g.lastHard (fdSettleMs rec)
    let level := F32.mul (F32.div (F32.ofInt (fdTrip rec)) (F32.ofInt 65536)) (fdLimit rec)
    if tested && measAbove rec meas level then
      -- R287: hard limit, entry or again
      let q := g.q
      let gh := if F32.eqv q F32.f0 then g.gain
        else F32.max g.gain (F32.div (F32.sub meas.watts (fdOther rec)) q)
      let kh := down gh
      let rows := cons.map fun p => (List.range 8).map fun c =>
        F32.min (g.scale (rowOf p) c) (((kh.getD (rowOf p) ([], false)).1).getD c F32.f1)
      ({ g with phase := .hard, scales := layRows rec rows, lastDown := some l, lastHard := some l, firstTest := none,
                lastOver := none,
                hardCount := if g.phase = .hard then g.hardCount else g.hardCount + 1 },
       overEv ++ (if g.phase = .hard then [] else [srcFeederHard]))
    else
      let g := if !tested then g else { g with
        firstTest := some (g.firstTest.getD l)
        lastOver := if measAbove rec meas (fdBudget rec) then some l else g.lastOver }
      let leave := g.phase == .hard && (!meas.valid || g.calm l (fdHoldMs rec))
      if g.phase == .hard && !leave then (g, overEv)
      else
        let wasOne := allOne g.scales
        let ph : FeederPhase := if leave then (if wasOne && meas.valid then .open_ else .limiting) else g.phase
        let mayRise := msPassed l g.lastDown (fdHoldMs rec)
        let dn := ratePerFrame (fdDown rec) period
        let up := ratePerFrame (fdUp rec) period
        let moved := cons.map fun p => (List.range 8).map fun c =>
          moveScale (g.scale (rowOf p) c) (((kd.getD (rowOf p) ([], false)).1).getD c F32.f1)
            ((ku.getD (rowOf p) []).getD c F32.f1) dn up mayRise
        let fell := moved.any (fun r => r.any (·.2))
        let ks := layRows rec (moved.map (fun r => r.map (·.1)))
        let wantDown := kd.any (fun r => r.1.any (fun k => F32.lt k F32.f1))
        let limit := ph == .open_ && wantDown
        let release := ph == .limiting && !limit && allOne ks && !(leave && wasOne)
        ({ g with
            phase := if limit then .limiting else if release then .open_ else ph,
            scales := ks, lastDown := if fell then some l else g.lastDown,
            limitCount := if limit then g.limitCount + 1 else g.limitCount },
         overEv ++ (if limit then [srcFeederLimiting] else []) ++ (if release then [srcFeederReleased] else []))

/-- The scale that applies to a member (R285): the smallest of three for a member on all phases in MODE 2. -/
def memberScale (rec : Bytes) (g : GovFeeder) (phase cls : Nat) : F32 :=
  if fdMode rec = 1 then g.scale 0 cls
  else if phase = 3 then F32.min (F32.min (g.scale 0 cls) (g.scale 1 cls)) (g.scale 2 cls)
  else g.scale phase cls

/-- The feeder after its commit changes (R286): created, or with another point or GAIN_INIT, its gain
starts again. -/
def govRedefine (old new : Option Bytes) (g : GovFeeder) : GovFeeder :=
  match old, new with
  | none, some r => { gain := fdGainInit r, scales := List.replicate 24 F32.f1 }
  | some o, some r =>
    if fdPoint o != fdPoint r || !F32.eqv (fdGainInit o) (fdGainInit r) then { g with gain := fdGainInit r } else g
  | _, none => {}

/-- STATE of FEEDER_STATUS. -/
def FeederPhase.code : FeederPhase → Nat
  | .open_ => 1
  | .limiting => 2
  | .hard => 3

/-- A binary32 value as 4 bytes. -/
def bytesF (x : F32) : Bytes := bytesLE 4 x.toNat

/-- The response of FEEDER_STATUS (R291). -/
def feederStatus (rec : Option Bytes) (g : GovFeeder) (frame fixtures regions : Nat) : Bytes :=
  match rec with
  | none => zeros 0x80 ++ bytesLE 8 frame ++ zeros 20
  | some r =>
    bytesLE 1 g.phase.code ++ bytesLE 1 (b2n g.exceeded + 2 * b2n g.meas.valid) ++ zeros 2 ++ bytesF g.gain ++ bytesF g.predW
      ++ bytesF (F32.add (F32.mul g.gain (g.emitted.headD F32.f0)) (fdOther r)) ++ bytesF g.meas.watts
      ++ ((List.range 3).flatMap fun p => bytesF (g.meas.amps.getD p F32.f0))
      ++ ((List.range 3).flatMap fun p => (List.range 8).flatMap fun c =>
          bytesF (if fdMode r = 1 && p != 0 then F32.f1 else g.scale p c))
      ++ bytesLE 8 frame ++ bytesLE 4 g.limitCount.toNat ++ bytesLE 4 g.hardCount.toNat ++ bytesLE 4 g.overCount.toNat
      ++ bytesLE 4 fixtures ++ bytesLE 4 regions

end Sys2Proof.Machine
end

