-- ==== Sys2Proof/Machine/ShowCue.lean ====
section
/-!
DEFINITION. Machine/ShowCue.lean: cue lists, effect definitions, effect tables and staged actions
as show state (chapter "Cues, fades and effect generators").
-/

namespace Sys2Proof.Machine

/-- What the checks of staged writes need beside the show state: the frame of MBX_DB_POS (R231) and
the targets of the pending actions, as KIND × 65,536 + number (R198). -/
structure CheckEnv where
  dbFrame : Nat := 0
  pend : List Nat := []
  /-- The rate code of the show rate in force or of the accepted start, 0 where there is none (R123). -/
  showRate : Nat := 0
  /-- Line rate in bit/s and the bytes that a VLAN tag and MACsec add, of ports 0 to 3 (R396). -/
  netPorts : List (Nat × Nat) := []
  /-- The devices render by rank: ranks of the group record and this device's rank. The ports of every rank are numbered alike (R512,
  R526). -/
  ranks : Nat := 1
  rank : Nat := 0
  deriving DecidableEq, Repr

/-- The longest time of a cue, in ms. -/
def maxMs : Nat := 86400000

/-! ### Cue list images (R201, R202) -/

def cueLayer (p : Bytes) : Nat := fld p 2 1
def cueWrap (p : Bytes) : Bool := bit (fld p 3 1) 0
def cueMains60 (p : Bytes) : Bool := bit (fld p 3 1) 1
def cueCount (p : Bytes) : Nat := fld p 4 4
def cueBackMs (p : Bytes) : Nat := fld p 0x0C 4
def cueReleaseMs (p : Bytes) : Nat := fld p 0x10 4
def cueBackCurve (p : Bytes) : Nat := fld p 0x14 1
def cueReleaseCurve (p : Bytes) : Nat := fld p 0x15 1

/-- The record of cue `c`. -/
def cueRec (p : Bytes) (c : Nat) : Bytes := slice p (64 + 80 * c) 80
def cueEntryCount (r : Bytes) : Nat := fld r 0 4
def cueEntryOffset (r : Bytes) : Nat := fld r 4 4
def cueNext (r : Bytes) : Nat := fld r 8 2
def cueFollow (r : Bytes) : Nat := fld r 10 1
def cueNextMode (r : Bytes) : Nat := fld r 11 1
def cueFollowMs (r : Bytes) : Nat := fld r 12 4

/-- A timing set of a cue: DELAY_MS, FADE_MS and the curve code. -/
structure TimingSet where
  delayMs : Nat
  fadeMs : Nat
  curve : Nat
  deriving DecidableEq, Repr

/-- Timing set `i` of a cue record. -/
def cueTiming (r : Bytes) (i : Nat) : TimingSet :=
  ⟨fld r (0x10 + 8 * i) 4, fld r (0x14 + 8 * i) 4, fld r (0x48 + i) 1⟩

/-- A cue entry: address, OP and value. -/
structure CueEntry where
  addr : Nat
  op : Nat
  value : Nat
  deriving DecidableEq, Repr

/-- The entries of cue `c`. -/
def cueEntries (p : Bytes) (c : Nat) : List CueEntry :=
  let r := cueRec p c
  (records 8 (cueEntryCount r) (p.drop (cueEntryOffset r))).map fun e => ⟨fld e 0 3, fld e 3 1, fld e 4 4⟩

/-- Strictly ascending. -/
def ascending : List Nat → Bool
  | a :: b :: l => decide (a < b) && ascending (b :: l)
  | _ => true

/-- One cue is valid, given the offset its entries must start at. -/
def cueRecOk (p : Bytes) (count : Nat) (c off : Nat) : Bool :=
  let r := cueRec p c
  let es := cueEntries p c
  cueEntryOffset r == off && cueFollow r ≤ 2 && cueFollowMs r ≤ maxMs && zeroAt r 0x4F 1
    && (if cueNextMode r = 0 then cueNext r == 0 else cueNextMode r == 1 && cueNext r < count)
    && (List.range 7).all (fun i =>
        let t := cueTiming r i
        t.delayMs ≤ maxMs && t.fadeMs ≤ maxMs && t.curve ≤ 5)
    && ascending (es.map (·.addr))
    && es.all (fun e => e.op ≤ 1 && e.value < 2 ^ 24 && (e.op == 0 || e.value == 0))

/-- The cues from `c` on are valid and their entry blocks follow without a gap. -/
def cuesOk (p : Bytes) (count : Nat) : Nat → Nat → Nat → Bool
  | 0, _, off => off == p.length
  | k + 1, c, off => cueRecOk p count c off && cuesOk p count k (c + 1) (off + 8 * cueEntryCount (cueRec p c))

/-- A cue list image is valid (R202). -/
def cueListValid (p : Bytes) : Bool :=
  let n := cueCount p
  144 ≤ p.length && fld p 0 2 == 1 && cueLayer p ≤ 7 && fld p 3 1 ≤ 3 && 1 ≤ n && n ≤ 65536
    && fld p 8 4 == p.length && cueBackMs p ≤ maxMs && cueReleaseMs p ≤ maxMs
    && cueBackCurve p ≤ 5 && cueReleaseCurve p ≤ 5 && zeroAt p 0x16 42
    && 64 + 80 * n ≤ p.length && cuesOk p n n 0 (64 + 80 * n)

/-- Size in the cue store of a definition: the image, the definition with 4 B per member, and
512 B per table (R203). -/
def EffectDef.size (e : EffectDef) : Nat := 64 + 4 * e.members.length

/-- The cue store in use (R203). -/
def CueState.storeUsed (v : CueState) : Nat :=
  (v.lists.map (·.2.length)).sum + (v.effects.map (·.2.size)).sum + 512 * v.tables.length

/-- The cue store, 256 MiB (R198). -/
def cueStoreMax : Nat := 268435456

/-- The checks of CUELIST_LOAD on its image (R227). -/
def checkCuelistLoad (v : CueState) (payload data : Bytes) : CheckRes :=
  if !cueListValid data then { status := .badArgument }
  else if cueStoreMax < ({ v with lists := v.lists.put (fld payload 0 2) data } : CueState).storeUsed then
    { status := .noResource }
  else {}

/-- CUELIST_LOAD stores the image; the playback's pending actions are removed when it applies (R218). -/
def applyCuelistLoad (v : CueState) (payload data : Bytes) : CueState :=
  let n := fld payload 0 2
  { v with
    lists := v.lists.put n data
    loaded := v.loaded ++ [n]
    actions := v.actions.filter (fun a => !(a.kind == 0 && a.target == n)) }

/-! ### Effects -/

def effInstance (h : Bytes) : Nat := fld h 0 2
def effLayer (h : Bytes) : Nat := fld h 2 1
def effAttr (h : Bytes) : Nat := fld h 3 1
def effWave (h : Bytes) : Nat := fld h 4 1
def effRateSource (h : Bytes) : Nat := fld h 5 1
def effMode (h : Bytes) : Nat := fld h 6 1
def effReverse (h : Bytes) : Bool := bit (fld h 7 1) 0
def effMains60 (h : Bytes) : Bool := bit (fld h 7 1) 1
def effRate (h : Bytes) : Nat := fld h 8 4
def effDuty (h : Bytes) : Nat := fld h 0x0C 2
def effTable (h : Bytes) : Nat := fld h 0x0E 2
def effCentre (h : Bytes) : F32 := fldF h 0x10
def effSize (h : Bytes) : F32 := fldF h 0x14
def effSpread (h : Bytes) : Nat := fld h 0x18 4
def effPhase0 (h : Bytes) : Nat := fld h 0x1C 2
def effBlock (h : Bytes) : Nat := fld h 0x20 4
def effSeed (h : Bytes) : Nat := fld h 0x24 4
def effMemberCount (h : Bytes) : Nat := fld h 0x28 4

/-- The member list of an EFFECT_DEFINE, inline or read from the host region. -/
def effMembers (payload data : Bytes) : List Nat :=
  let src := if fld payload 0x30 8 = 0 then payload.drop 0x40 else data
  (records 4 (effMemberCount payload) src).map (fun r => fld r 0 4)

/-- A TABLE waveform. -/
def effUsesTable (h : Bytes) : Bool := effWave h == 5 || effWave h == 6

/-- Codes, reserved fields and the member list suit the table "Effect definition" (R229). -/
def effArgOk (h : Bytes) (ms : List Nat) : Bool :=
  attrKnown (effAttr h) && effWave h ≤ 8 && effRateSource h ≤ 2 && effMode h ≤ 1 && fld h 7 1 ≤ 3
    && zeroAt h 0x1E 2 && zeroAt h 0x2C 4 && zeroAt h 0x38 8
    && (effWave h == 2 || effDuty h == 0) && (effUsesTable h || effTable h == 0)
    && (effMode h == 0 || fld h 0x10 4 == 0)
    && ms.all (· < 2 ^ 17) && noDup ms

/-- Numeric fields of an effect definition lie in their ranges (R229). -/
def effRangeOk (h : Bytes) : Bool :=
  let r := effRate h
  effInstance h ≤ 16383 && effLayer h ≤ 7
    && (if effRateSource h = 0 then 1 ≤ r && r ≤ 1000000
        else if effRateSource h = 1 then 1 ≤ r && r ≤ 16777216
        else 1 ≤ r && r ≤ 2592000)
    && (effWave h != 2 || 1 ≤ effDuty h) && (!effUsesTable h || effTable h ≤ 1023)
    && F32.inUnit (effCentre h) && F32.inUnit (effSize h)
    && 1 ≤ effBlock h && effBlock h ≤ 65536 && 1 ≤ effMemberCount h && effMemberCount h ≤ 65536

/-- The checks of EFFECT_DEFINE (R229). -/
def checkEffectDefine (v : CueState) (payload data : Bytes) : CheckRes :=
  let ms := effMembers payload data
  if !effArgOk payload ms then { status := .badArgument }
  else if !effRangeOk payload then { status := .outOfRange }
  else if effUsesTable payload && !v.tables.has (effTable payload) then { status := .conflict }
  else if cueStoreMax <
      ({ v with effects := v.effects.put (effInstance payload) ⟨payload.take 64, ms⟩ } : CueState).storeUsed then
    { status := .noResource }
  else {}

/-- EFFECT_DEFINE stores the definition. -/
def applyEffectDefine (v : CueState) (payload data : Bytes) : CueState :=
  { v with effects := v.effects.put (effInstance payload) ⟨payload.take 64, effMembers payload data⟩ }

/-- The checks of EFFECT_TABLE_LOAD (R203, R230). -/
def checkEffectTableLoad (v : CueState) (payload : Bytes) : CheckRes :=
  if cueStoreMax < ({ v with tables := v.tables.put (fld payload 0 2) (payload.drop 8) } : CueState).storeUsed then
    { status := .noResource }
  else {}

/-- EFFECT_TABLE_LOAD stores the table. -/
def applyEffectTableLoad (v : CueState) (payload : Bytes) : CueState :=
  { v with tables := v.tables.put (fld payload 0 2) (payload.drop 8) }

/-- Table point `i`, a signed 16-bit value (R222). -/
def tablePoint (t : Bytes) (i : Nat) : Int := fldS t (2 * i) 2

/-! ### SOURCE_DELETE (R228) -/

/-- The object that SOURCE_DELETE names is defined. -/
def CueState.defined (v : CueState) (kind n : Nat) : Bool :=
  if kind = 0 then v.lists.has n else if kind = 1 then v.effects.has n else v.tables.has n

/-- The checks of SOURCE_DELETE. -/
def checkSourceDelete (v : CueState) (payload : Bytes) : CheckRes :=
  let kind := fld payload 0 1
  let n := fld payload 2 2
  if !v.defined kind n then { status := .badArgument }
  else if kind == 2 && v.effects.any (fun e => effUsesTable e.2.head && effTable e.2.head == n) then
    { status := .conflict }
  else {}

/-- SOURCE_DELETE removes the object and its staged actions (R218). -/
def applySourceDelete (v : CueState) (payload : Bytes) : CueState :=
  let kind := fld payload 0 1
  let n := fld payload 2 2
  if kind = 0 then
    { v with lists := v.lists.del n, deleted := v.deleted ++ [n],
             actions := v.actions.filter (fun a => !(a.kind == 0 && a.target == n)) }
  else if kind = 1 then
    { v with effects := v.effects.del n, deleted := v.deleted ++ [65536 + n],
             actions := v.actions.filter (fun a => !(a.kind == 1 && a.target == n)) }
  else { v with tables := v.tables.del n }

/-! ### PLAYBACK_ACTION (R231) -/

/-- The action records of a request. -/
def actionBytes (payload : Bytes) : List Bytes := records 32 (fld payload 0 4) (payload.drop 8)

/-- An action record from its bytes. -/
def actionOf (r : Bytes) : ActionRec :=
  ⟨fld r 0 1, fld r 1 1, fld r 2 1, fld r 4 2, fld r 6 2, fld r 8 4, fld r 12 4, fldPos r 16⟩

/-- One BCD digit pair with a limit. -/
def bcdOk (b limit : Nat) : Bool := b % 16 ≤ 9 && b / 16 ≤ 9 && b / 16 * 10 + b % 16 < limit

/-- A BCD hh:mm:ss:ff timecode, hh in [31:24]. -/
def timecodeOk (t : Nat) : Bool :=
  bcdOk (bits t 24 8) 24 && bcdOk (bits t 16 8) 60 && bcdOk (bits t 8 8) 60 && bcdOk (bits t 0 8) 30

/-- An ACTION suits KIND. -/
def actionSuits (kind action : Nat) : Bool :=
  if action = 10 then kind ≤ 1 else if kind = 0 then 1 ≤ action && action ≤ 7 else kind == 1 && (action == 8 || action == 9)

/-- Codes and the fields that the record calls zero otherwise. -/
def actionArgOk (r : Bytes) : Bool :=
  let a := actionOf r
  a.kind ≤ 1 && 1 ≤ a.action && a.action ≤ 10 && a.when_ ≤ 2 && actionSuits a.kind a.action
    && zeroAt r 3 1 && zeroAt r 0x1A 6
    && (a.action == 3 || a.cue == 0)
    && (a.action == 7 || a.action == 8 || a.action == 9 || a.arg == 0)
    && (if a.when_ = 2 then timecodeOk a.timecode else a.timecode == 0)
    && (a.when_ == 0 || a.position == 0)

/-- Numeric fields of an action record. -/
def actionRangeOk (env : CheckEnv) (a : ActionRec) : Bool :=
  (if a.kind = 0 then a.target ≤ 4095 else a.target ≤ 16383)
    && (a.action != 7 || a.arg < 65536) && (!(a.action == 8 || a.action == 9) || a.arg ≤ maxMs)
    && (a.when_ != 0 || posFrame a.position ≤ env.dbFrame + 1048576)

/-- The key of an action's target. -/
def ActionRec.key (a : ActionRec) : Nat := a.kind * 65536 + a.target

/-- The targets of the pending actions once a commit is applied: its loads and deletions empty those of their targets (R218),
then its actions join in order. A CLEAR_PENDING acts at its application and is never pending (R212). -/
def CueState.pendingAfter (v : CueState) (ps : List Nat) : List Nat :=
  v.actions.foldl (fun ps a => if a.action = 10 then ps.filter (· != a.key) else ps ++ [a.key])
    (ps.filter fun k => !v.deleted.contains k && !v.loaded.contains k)

/-- The pending-action limits of R198 hold with the staged actions of a view added. -/
def actionLimitsOk (env : CheckEnv) (v : CueState) : Bool :=
  let ps := v.pendingAfter env.pend
  ps.length ≤ 65536 && v.actions.all fun a => a.action == 10 || ps.count a.key ≤ 16

/-- The checks of PLAYBACK_ACTION, in the order of R231. -/
def checkPlaybackAction (env : CheckEnv) (v : CueState) (payload : Bytes) : CheckRes :=
  let rs := actionBytes payload
  let as := rs.map actionOf
  if rs.any (fun r => !actionArgOk r) then { status := .badArgument }
  else if as.any (fun a => !actionRangeOk env a) then { status := .outOfRange }
  else if as.any (fun a => !v.defined a.kind a.target) then { status := .conflict }
  else if !actionLimitsOk env { v with actions := v.actions ++ as } then { status := .noResource }
  else {}

/-- PLAYBACK_ACTION stages its actions in order. -/
def applyPlaybackAction (v : CueState) (payload : Bytes) : CueState :=
  { v with actions := v.actions ++ (actionBytes payload).map actionOf }

end Sys2Proof.Machine
end

