-- ==== Sys2Proof/Machine/Playback.lean ====
section
/-!
DEFINITION. Machine/Playback.lean: what playbacks and effect instances do (R197 to R226): fades,
actions in their order, waveforms, and the contribution of each source to a parameter address.

Everything here is a function of the show state of an epoch, of the running state and of positions,
as R200 demands.
-/

namespace Sys2Proof.Machine

/-! ### Times and curves -/

/-- The exact period A/B s of a rate code, with the multiplier of a mains rate (R208). -/
def rateAB (code : Nat) (mains60 : Bool) : Nat × Nat :=
  match code with
  | 0x01 => (1001, 24000) | 0x02 => (1, 24) | 0x03 => (1, 25) | 0x04 => (1001, 30000) | 0x05 => (1, 30)
  | 0x06 => (1001, 48000) | 0x07 => (1, 48) | 0x08 => (1, 50) | 0x09 => (1001, 60000) | 0x0A => (1, 60)
  | 0x0B => (1, 72) | 0x0C => (1, 90) | 0x0D => (1, 100) | 0x0E => (1001, 120000) | 0x0F => (1, 120)
  | 0x10 => (1, 144) | 0x11 => (1, 200) | 0x12 => (1001, 240000) | 0x13 => (1, 240)
  | 0x20 => (1, if mains60 then 60 else 50)
  | 0x21 => (1, if mains60 then 120 else 100)
  | 0x22 => (1, if mains60 then 240 else 200)
  | _ => (1, 50)

/-- Milliseconds as subframes (R208). -/
def msToSub (ab : Nat × Nat) (ms : Nat) : Nat := (ms * 65536 * ab.2 + 500 * ab.1) / (1000 * ab.1)

/-- The weight of a curve at elapsed time `e` of duration `d` (R207). S_CURVE is taken as
3 × p² − 2 × p³ with p³ = p² × p, each operation rounded (DEDUCED, assumption 31). -/
def curveWeight (code : Nat) (e : Int) (d : Nat) : F32 :=
  if e < 0 then F32.f0
  else if (d : Int) ≤ e then F32.f1
  else
    let p := F32.div (F32.ofInt e) (F32.ofInt d)
    match code with
    | 0 => p
    | 1 => F32.sub (F32.mul (F32.ofInt 3) (F32.mul p p)) (F32.mul (F32.ofInt 2) (F32.mul (F32.mul p p) p))
    | 2 => F32.mul p p
    | 3 => let q := F32.sub F32.f1 p
           F32.sub F32.f1 (F32.mul q q)
    | 4 => F32.f1
    | _ => F32.f0

/-- Held to a 24-bit raw value. -/
def clampRaw (x : Int) : Nat := (clampInt x 0 16777215).toNat

/-- The value of a fade at position `x` (R209); a frozen fade stands at the position of its PAUSE. -/
def Fade.value (f : Fade) (x : Pos) : Nat :=
  let at_ : Int := ((f.frozen.getD x : Nat) : Int)
  let e := at_ - f.start - f.delay
  let c := curveWeight f.curve e f.dur
  clampRaw (F32.add (F32.ofInt f.a) (F32.mul (F32.ofInt ((f.b : Int) - f.a)) c)).toIntEven

/-- The end of a fade. -/
def Fade.endPos (f : Fade) : Int := f.start + f.delay + f.dur

/-- A fade has ended at `x`. -/
def Fade.ended (f : Fade) (x : Pos) : Bool := decide (f.endPos ≤ ((f.frozen.getD x : Nat) : Int))

/-! ### Targets of a playback -/

/-- The tracked state of cue `c`: the entries of cues 0 to c applied in order to an empty state (R204). -/
def trackedState (img : Bytes) (c : Nat) : Map Nat :=
  (List.range (c + 1)).foldl (fun m k =>
    (cueEntries img k).foldl (fun m e => if e.op = 0 then m.put e.addr e.value else m.del e.addr) m) []

/-- The timing set index of an address (R206): its attribute class, with set 0 or 1 for INTENSITY by
the direction; GENERIC where the address is not live. -/
def timingIndex (v : PatchState) (addr target startVal : Nat) : Nat :=
  match v.paramAt addr with
  | none => 6
  | some p =>
    let c := attrClass p.attr
    if c = 0 then (if startVal < target then 0 else 1) else c + 1

/-- How an action times its fades: by the cue's timing sets, or one fade time and curve (R206). -/
inductive FadeTiming where
  | cue (r : Bytes)
  | fixed (ms curve : Nat)
  deriving DecidableEq, Repr

/-- The timing set of one address. -/
def FadeTiming.pick (t : FadeTiming) (v : PatchState) (addr target startVal : Nat) : TimingSet :=
  match t with
  | .cue r => cueTiming r (timingIndex v addr target startVal)
  | .fixed ms c => ⟨0, ms, c⟩

/-- One target of a playback changed at position `p` (R205): the new playback and the new fade's end,
where a new fade starts. An address whose target stays keeps its fade. -/
def retarget (v : PatchState) (ab : Nat × Nat) (t : FadeTiming) (p : Pos)
    (st : PlaybackDyn × Option Int) (addr target : Nat) (releasing : Bool) : PlaybackDyn × Option Int :=
  let pb := st.1
  let old := pb.held.find addr
  match old.bind fun f => if f.b = target then some f else none with
  | some f => ({ pb with held := pb.held.put addr { f with releasing := releasing } }, st.2)
  | none =>
    let startVal := match old with
      | some f => f.value p
      | none => v.base24 addr
    let ts := t.pick v addr target startVal
    let f : Fade := { a := startVal, b := target, start := p, delay := msToSub ab ts.delayMs,
                      dur := msToSub ab ts.fadeMs, curve := ts.curve, releasing := releasing, act := p }
    let e := match st.2 with
      | some e => max e f.endPos
      | none => f.endPos
    ({ pb with held := pb.held.put addr f }, some e)

/-- Addresses whose releasing fade has ended at `x` are no longer held (R204). -/
def PlaybackDyn.prune (pb : PlaybackDyn) (x : Pos) : PlaybackDyn :=
  { pb with held := pb.held.filter (fun e => !(e.2.releasing && e.2.ended x)) }

/-- The entries of a cue applied to the current targets at `p` (GO, R204). A RELEASE of an address the
playback does not hold changes nothing (DEDUCED, assumption 31). -/
def goEntries (v : PatchState) (ab : Nat × Nat) (t : FadeTiming) (p : Pos) (pb : PlaybackDyn)
    (es : List CueEntry) : PlaybackDyn × Option Int :=
  es.foldl (fun st e =>
    if e.op = 0 then retarget v ab t p st e.addr e.value false
    else if st.1.held.has e.addr then retarget v ab t p st e.addr (v.base24 e.addr) true
    else st) (pb, none)

/-- The targets replaced by the tracked state of a cue (JUMP, BACK, R204). -/
def jumpTargets (v : PatchState) (ab : Nat × Nat) (t : FadeTiming) (p : Pos) (pb : PlaybackDyn)
    (tr : Map Nat) : PlaybackDyn × Option Int :=
  let st := tr.foldl (fun st e => retarget v ab t p st e.1 e.2 false) (pb, none)
  (pb.held.filter (fun e => !tr.has e.1)).foldl
    (fun st e => retarget v ab t p st e.1 (v.base24 e.1) true) st

/-- The playback after its current cue became `c` at `p`: completion and follow (R205, R215). -/
def enterCue (img : Bytes) (ab : Nat × Nat) (c : Nat) (p : Pos) (st : PlaybackDyn × Option Int) : PlaybackDyn :=
  let r := cueRec img c
  let done : Int := st.2.getD p
  let follow : Option FollowGo :=
    if cueFollow r = 1 then some { pos := done + msToSub ab (cueFollowMs r) }
    else if cueFollow r = 2 then some { pos := (p : Int) + msToSub ab (cueFollowMs r) }
    else none
  { st.1 with current := some c, goPos := p, donePos := done, doneFrozen := false, follow := follow }

/-- The cue that GO moves to (R211). -/
def nextCue (img : Bytes) (cur : Option Nat) : Option Nat :=
  match cur with
  | none => some 0
  | some c =>
    let r := cueRec img c
    if cueNextMode r = 1 then some (cueNext r)
    else if c + 1 < cueCount img then some (c + 1)
    else if cueWrap img then some 0
    else none

/-- A position moved by a pause that ended at `p` (R211). -/
def Fade.thaw (f : Fade) (p : Pos) : Fade :=
  match f.frozen with
  | none => f
  | some q => { f with start := f.start + ((p : Int) - q), frozen := none }

/-- One action or follow GO on a playback at position `p`: the new playback, or none when the action
has no effect (R211, R216). -/
def playbackAct (v : PatchState) (rate : Nat) (img : Bytes) (pb0 : PlaybackDyn) (action cue arg : Nat)
    (p : Pos) : Option PlaybackDyn :=
  let pb := pb0.prune p
  let ab := rateAB rate (cueMains60 img)
  match action with
  | 1 =>
    match nextCue img pb.current with
    | none => none
    | some c =>
      let t := FadeTiming.cue (cueRec img c)
      some (enterCue img ab c p (goEntries v ab t p pb (cueEntries img c)))
  | 2 =>
    match pb.current with
    | some (c + 1) =>
      let t := FadeTiming.fixed (cueBackMs img) (cueBackCurve img)
      some (enterCue img ab c p (jumpTargets v ab t p pb (trackedState img c)))
    | _ => none
  | 3 =>
    if cue < cueCount img then
      let t := FadeTiming.cue (cueRec img cue)
      some (enterCue img ab cue p (jumpTargets v ab t p pb (trackedState img cue)))
    else none
  | 4 =>
    let t := FadeTiming.fixed (cueReleaseMs img) (cueReleaseCurve img)
    let st := jumpTargets v ab t p pb []
    if pb.held.isEmpty && pb.current.isNone then none
    else some { st.1 with current := none, follow := none, donePos := st.2.getD p, doneFrozen := false }
  | 5 =>
    if pb.paused.isSome then none
    else some { pb with
      paused := some p
      doneFrozen := decide ((p : Int) < pb.donePos)
      held := pb.held.mapVal (fun _ f => { f with frozen := some p })
      follow := pb.follow.map (fun g => { g with frozen := some p }) }
  | 6 =>
    match pb.paused with
    | none => none
    | some q =>
      let d : Int := (p : Int) - q
      some { pb with
        paused := none
        held := pb.held.mapVal (fun _ f => f.thaw p)
        follow := pb.follow.map (fun g => if g.frozen.isSome then { pos := g.pos + d } else g)
        donePos := if pb.doneFrozen then pb.donePos + d else pb.donePos
        doneFrozen := false }
  | 7 => some { pb with master := arg % 65536 }
  | _ => none

/-! ### Effect instances -/

/-- The ramp weight k of an instance at `x` (R225). -/
def EffectDyn.weight (e : EffectDyn) (x : Pos) : F32 :=
  if !e.running then F32.f0
  else
    let c := curveWeight 0 ((x : Int) - e.rampStart) e.rampLen
    let goal := if e.up then F32.f1 else F32.f0
    F32.add e.fromK (F32.mul (F32.sub goal e.fromK) c)

/-- An instance whose down ramp has ended is STOPPED (R225). -/
def EffectDyn.settle (e : EffectDyn) (x : Pos) : EffectDyn :=
  if e.running && !e.up && decide (e.rampStart + e.rampLen ≤ (x : Int)) then { e with running := false } else e

/-- STATE of PLAYBACK_STATUS, KIND 1, of a defined instance: 1 STOPPED to 4 RAMPING_DOWN (R232). -/
def EffectDyn.stateCode (e : EffectDyn) (x : Pos) : Nat :=
  let e := e.settle x
  if !e.running then 1
  else if !e.up then 4
  else if decide (e.rampStart + e.rampLen ≤ (x : Int)) then 3 else 2

/-- START and STOP on an effect instance (R225); none when the action has no effect. -/
def effectAct (rate : Nat) (head : Bytes) (e0 : EffectDyn) (action arg : Nat) (p : Pos) : Option EffectDyn :=
  let e := e0.settle p
  let len := msToSub (rateAB rate (effMains60 head)) arg
  match action with
  | 8 =>
    if !e.running then
      some { running := true, startPos := p, anchor := p, anchorPhase := 0, fromK := F32.f0, up := true,
             rampStart := p, rampLen := len }
    else if !e.up then some { e with fromK := e.weight p, up := true, rampStart := p, rampLen := len }
    else none
  | 9 =>
    if !e.running then none
    else some (EffectDyn.settle { e with fromK := e.weight p, up := false, rampStart := p, rampLen := len } p)
  | _ => none

/-- LTC as an effect reads it in a frame (R214, R221): v(n), M of the show clock, and j. -/
structure LtcView where
  v : Option Nat := none
  m : Nat := 1
  j : Nat := 0
  deriving DecidableEq, Repr

/-- The base phase φ of an instance at `x`, in units of 2^-32 cycle (R221); none under LTC without a
latched value. -/
def EffectDyn.basePhase (e : EffectDyn) (rate : Nat) (head : Bytes) (ltc : LtcView) (x : Pos) : Option Int :=
  let r := effRate head
  let ab := rateAB rate (effMains60 head)
  let dx : Int := (x : Int) - e.anchor
  match effRateSource head with
  | 0 => some ((e.anchorPhase : Int) + floorDiv (dx * r * ab.1 * 2 ^ 32) (1000 * 65536 * ab.2))
  | 1 => some ((e.anchorPhase : Int) + floorDiv (dx * 65536) r)
  | _ => ltc.v.map fun v => Int.ofNat ((v * ltc.m + ltc.j) * 2 ^ 32 / (r * ltc.m))

/-- The phase of group `g` of `n` groups, modulo 2^64 (R221). -/
def groupPhase (head : Bytes) (phi : Int) (g n : Nat) : Nat :=
  let gg := if effReverse head then n - 1 - g else g
  modNat (phi + effPhase0 head * 65536 - (effSpread head * 65536 * gg / n : Nat)) (2 ^ 64)

/-- One word of the noise hash. -/
def hashWord (h w : Word) : Word :=
  let h := (h ^^^ w) * 0x9E3779B1#32
  h ^^^ (h >>> 16)

/-- The noise hash of five 32-bit words (R223). -/
def noiseHash (a b c d e : Nat) : Word :=
  let h := [a, b, c, d, e].foldl (fun h w => hashWord h (BitVec.ofNat 32 w)) 0x2545F491#32
  let h := h * 0x7FEB352D#32
  h ^^^ (h >>> 15)

/-- A hash value as hash × 2^-31 − 1. -/
def noiseValue (h : Word) : F32 := F32.sub (F32.mul (F32.ofInt h.toNat) (F32.ofRat 1 (2 ^ 31))) F32.f1

/-- The waveform value w of R222, before the clamp. `tbl` is the effect table of a TABLE waveform. -/
def waveform (head : Bytes) (tbl : Bytes) (ph frame fixture : Nat) : F32 :=
  let fr : Nat := ph % 2 ^ 32
  let phi := F32.mul (F32.ofInt fr) (F32.ofRat 1 (2 ^ 32))
  let two := F32.ofInt 2
  let pt (i : Nat) : F32 := F32.div (F32.ofInt (tablePoint tbl (i % 256))) (F32.ofInt 32767)
  match effWave head with
  | 0 => Config.elementary 0 [phi]
  | 1 => F32.sub F32.f1 (F32.mul (F32.ofInt 4) (F32.abs (F32.sub phi (F32.ofRat 1 2))))
  | 2 => if fr < effDuty head * 65536 then F32.f1 else F32.fm1
  | 3 => F32.sub (F32.mul two phi) F32.f1
  | 4 => F32.sub F32.f1 (F32.mul two phi)
  | 5 => pt (fr / 2 ^ 24)
  | 6 =>
    let i : Nat := fr / 2 ^ 24
    let w := F32.mul (F32.ofInt ((fr % 2 ^ 24 : Nat) : Int)) (F32.ofRat 1 (2 ^ 24))
    F32.add (pt i) (F32.mul (F32.sub (pt (i + 1)) (pt i)) w)
  | 7 => noiseValue (noiseHash (effSeed head) (frame % 2 ^ 32) (frame / 2 ^ 32 % 2 ^ 32) fixture (effAttr head))
  | _ =>
    let k : Nat := ph / 2 ^ 32
    let h0 := noiseValue (noiseHash (effSeed head) (k % 2 ^ 32) 0 fixture (effAttr head))
    let h1 := noiseValue (noiseHash (effSeed head) ((k + 1) % 2 ^ 32) 0 fixture (effAttr head))
    F32.add h0 (F32.mul (F32.sub h1 h0) phi)

/-- The raw contribution of one member (R224). -/
def effectRaw (head : Bytes) (k w : F32) (base24 : Nat) : Nat :=
  let full := F32.ofInt 16777215
  let base := if effMode head = 0 then effCentre head else F32.div (F32.ofInt base24) full
  let w := F32.clamp w F32.fm1 F32.f1
  let x := F32.clamp (F32.add base (F32.mul (F32.mul (effSize head) k) w)) F32.f0 F32.f1
  clampRaw (F32.mul x full).toIntEven

/-! ### Actions in their order -/

/-- An action or follow that is due: its position, its order (R213) and the record; a follow is GO. -/
structure DueAct where
  pos : Int
  follow : Bool
  seq : Nat
  act : ActionRec
  deriving DecidableEq, Repr

/-- The order of R213: by position, follows after actions, then acceptance and staging order. -/
def DueAct.before (a b : DueAct) : Bool :=
  if a.pos < b.pos then true
  else if b.pos < a.pos then false
  else if a.follow != b.follow then !a.follow
  else decide (a.seq < b.seq)

/-- All scheduled actions and follows, with their positions. -/
def DynState.scheduled (d : DynState) : List DueAct :=
  d.pending.filterMap (fun a => a.pos.map fun p => ⟨p, false, a.seq, a.act⟩)
    ++ d.playbacks.filterMap (fun e => e.2.follow.bind fun g =>
        if g.frozen.isSome then none
        else some ⟨g.pos, true, e.1, ⟨0, 1, 0, e.1, 0, 0, 0, 0⟩⟩)

/-- The first scheduled action in the order of R213. -/
def DynState.first (d : DynState) : Option DueAct :=
  d.scheduled.foldl (fun best a =>
    match best with
    | none => some a
    | some b => if a.before b then some a else some b) none

/-- The pending list without one action. -/
def DynState.drop (d : DynState) (a : DueAct) : DynState :=
  if a.follow then
    { d with playbacks := d.playbacks.mapVal (fun k pb => if k = a.act.target then { pb with follow := none } else pb) }
  else { d with pending := d.pending.filter (fun x => x.seq != a.seq) }

/-- An action takes effect at its position under the show state `v`, `c` (R204 to R216): the new
running state, and whether it raises ACTION_VOID. -/
def DynState.act (v : PatchState) (c : CueState) (rate : Nat) (d : DynState) (a : DueAct) : DynState × Bool :=
  let d' := d.drop a
  let p : Pos := a.pos.toNat
  if a.act.kind = 0 then
    match c.lists.find a.act.target with
    | none => (d', true)
    | some img =>
      let pb := d'.playbacks.getD a.act.target {}
      match playbackAct v rate img pb a.act.action a.act.cue a.act.arg p with
      | none => (d', true)
      | some pb' => ({ d' with playbacks := d'.playbacks.put a.act.target pb' }, false)
  else
    match c.effects.find a.act.target with
    | none => (d', true)
    | some e =>
      match effectAct rate e.head (d'.effects.getD a.act.target {}) a.act.action a.act.arg p with
      | none => (d', true)
      | some e' => ({ d' with effects := d'.effects.put a.act.target e' }, false)

/-- Every action with a position not after `x` takes effect, in order, and the positions of those without effect (R216); `fuel` bounds
their number. -/
def DynState.settle (v : PatchState) (c : CueState) (rate : Nat) (x : Int) : Nat → DynState → DynState × List Int
  | 0, d => (d, [])
  | fuel + 1, d =>
    match d.first with
    | none => (d, [])
    | some a =>
      if x < a.pos then (d, [])
      else
        let r := d.act v c rate a
        let q := DynState.settle v c rate x fuel r.1
        (q.1, if r.2 then a.pos :: q.2 else q.2)

/-- How many actions may be due together: each scheduled one, with a chain of follows through every cue. A chain of follows without
time that comes back to a cue is cut there and goes on in the next frame (DESIGN CHOICE, assumption 89). -/
def DynState.fuel (c : CueState) (d : DynState) : Nat :=
  (d.scheduled.length + 1) * ((c.lists.map fun e => cueCount e.2).sum + 1)

/-- Every action up to position `x` taken. -/
def DynState.upTo (v : PatchState) (c : CueState) (rate : Nat) (x : Int) (d : DynState) : DynState × List Int :=
  d.settle v c rate x (d.fuel c)

/-! ### Contributions -/

/-- A contribution to an address: layer, raw 24-bit value, and what decides between sources of one
layer: activation position, kind and number (R199). -/
structure Contrib where
  layer : Nat
  raw : Nat
  act : Pos
  kind : Nat
  number : Nat
  deriving DecidableEq, Repr

/-- `a` wins over `b` on one layer (R199). -/
def Contrib.beats (a b : Contrib) : Bool :=
  if b.act < a.act then true
  else if a.act < b.act then false
  else if a.kind != b.kind then decide (b.kind < a.kind)
  else decide (b.number < a.number)

/-- The contribution of a playback to an address at the evaluation position of frame `n` (R209, R210). -/
def playbackContrib (v : PatchState) (img : Bytes) (num : Nat) (pb : PlaybackDyn) (n addr : Nat) : Option Contrib :=
  match (pb.prune (mkPos n 0)).held.find addr with
  | none => none
  | some f =>
    let raw := f.value (mkPos n 0)
    let isInt := match v.paramAt addr with
      | some p => attrClass p.attr == 0
      | none => false
    let raw := if isInt then
        clampRaw (F32.mul (F32.ofInt raw) (F32.div (F32.ofInt pb.master) (F32.ofInt 65535))).toIntEven
      else raw
    some ⟨cueLayer img, raw, f.act, 0, num⟩

/-- The contribution of an effect instance to an address in frame `n` (R220 to R224). -/
def effectContrib (v : PatchState) (c : CueState) (rate : Nat) (ltc : LtcView) (num : Nat) (ed : EffectDyn)
    (n addr : Nat) : Option Contrib :=
  match c.effects.find num with
  | none => none
  | some def_ =>
    let e := ed.settle (mkPos n 0)
    let f := addr / 128
    if !e.running || v.paramIndex f (effAttr def_.head) != some (addr % 128) then none
    else
      match def_.members.findIdx? (· == f), e.basePhase rate def_.head ltc (mkPos n 0) with
      | some i, some phi =>
        let blk := effBlock def_.head
        let groups := (def_.members.length + blk - 1) / blk
        let w := waveform def_.head (c.tables.getD (effTable def_.head) []) (groupPhase def_.head phi (i / blk) groups) n f
        some ⟨effLayer def_.head, effectRaw def_.head (e.weight (mkPos n 0)) w (v.base24 addr), e.startPos, 1, num⟩
      | _, _ => none

/-- The winning contribution of playbacks and effect instances on one layer to an address in frame
`n` (R199); `d` is the running state at frame `n`. -/
def layerContrib (v : PatchState) (c : CueState) (rate : Nat) (ltc : LtcView) (d : DynState) (n layer addr : Nat) :
    Option Contrib :=
  let ps := d.playbacks.filterMap fun e => (c.lists.find e.1).bind fun img => playbackContrib v img e.1 e.2 n addr
  let es := d.effects.filterMap fun e => effectContrib v c rate ltc e.1 e.2 n addr
  ((ps ++ es).filter (·.layer == layer)).foldl (fun best a =>
    match best with
    | none => some a
    | some b => if a.beats b then some a else some b) none

/-! ### Application of a commit, and a rate change -/

/-- The targets whose pending actions a commit removes (R211, R212, R218). -/
def CueState.cleared (c : CueState) : List Nat :=
  c.deleted ++ c.loaded ++ (c.actions.filter fun a => a.action == 10).map (·.key)

/-- Pending actions of targets removed, follows included. -/
def DynState.clearPending (d : DynState) (keys : List Nat) : DynState :=
  if keys.isEmpty then d
  else
    { d with
      pending := d.pending.filter fun x => !keys.contains x.act.key
      playbacks := d.playbacks.mapVal fun k pb => if keys.contains k then { pb with follow := none } else pb }

/-- A commit applied at L(n): loads and deletions act on the running state (R218, R226), its actions
become pending (R212, R214) and CLEAR_PENDING acts at once. `acc` is the commit's place in the order of acceptance: actions at one
position take effect in it, and in staging order within one commit (R213). -/
def DynState.applyCommit (old new : CueState) (rate : Nat) (ltc : LtcView) (n acc : Nat) (d : DynState) : DynState :=
  let gone := new.deleted ++ new.loaded
  let d := { d with pending := d.pending.filter (fun a => !gone.contains a.act.key) }
  let playbacks := d.playbacks.filter (fun e => !new.deleted.contains e.1)
  let playbacks := new.loaded.foldl (fun m k =>
    let pb := (m.getD k {}).prune (mkPos n 0)
    let cnt := cueCount (new.lists.getD k [])
    let cur := pb.current.bind fun c => if c < cnt then some c else none
    m.put k { pb with current := cur, follow := none, master := if pb.held.isEmpty then 65535 else pb.master }) playbacks
  let effects := d.effects.filter (fun e => !new.deleted.contains (65536 + e.1))
  -- R226: a redefinition that changes RATE_SOURCE or RATE re-anchors a running instance
  let effects := Map.mapVal effects fun k e =>
    match old.effects.find k, new.effects.find k with
    | some o, some w =>
      if e.running && (effRateSource o.head != effRateSource w.head || effRate o.head != effRate w.head) then
        { e with anchorPhase := modNat ((e.basePhase rate o.head ltc (mkPos n 0)).getD 0) (2 ^ 64),
                 anchor := mkPos n 0 }
      else e
    | _, _ => e
  let d := { d with playbacks := playbacks, effects := effects }
  new.actions.zipIdx.foldl (fun d e =>
    let a := e.1
    if a.action = 10 then d.clearPending [a.key]
    else
      let pos := if a.when_ = 0 then some a.position else if a.when_ = 1 then some (mkPos n 0) else none
      { d with pending := d.pending ++ [⟨a, pos, n, acc * 65536 * 65536 + e.2⟩] }) d

/-- Armed WHEN 2 actions that fire in frame `n` get their position (R214): `prev` and `cur` are
v(n − 1) and v(n), and each action's TIMECODE is counted by `count`. -/
def DynState.fireTimecode (count : Nat → Nat) (prev cur : Option Nat) (n : Nat) (d : DynState) : DynState :=
  match cur with
  | none => d
  | some v =>
    { d with pending := d.pending.map fun a =>
        let tc := count a.act.timecode
        let hit := v == tc || (match prev with
          | some u => decide (u < tc) && decide (tc ≤ v) && decide (v - u ≤ 10)
          | none => false)
        if a.pos.isNone && a.act.when_ == 2 && a.armedFrom ≤ n && hit then { a with pos := some (mkPos n 0) } else a }

/-- A position rescaled at a rate change (R217): X + round_half_up((x − X) × P_old / P_new). -/
def rescale (x0 : Int) (old new : Nat × Nat) (x : Int) : Int :=
  x0 + roundDiv ((x - x0) * (old.1 * new.2 : Nat)) (old.2 * new.1)

/-- Every stored position rescaled at the change frame (R217); effects of source 0 re-anchor (R226). -/
def DynState.rateChange (c : CueState) (oldRate newRate nc : Nat) (d : DynState) : DynState :=
  let x0 : Int := mkPos nc 0
  let playbacks := d.playbacks.mapVal fun k pb =>
    let m60 := cueMains60 (c.lists.getD k [])
    let f := rescale x0 (rateAB oldRate m60) (rateAB newRate m60)
    { pb with
      held := pb.held.mapVal (fun _ fd =>
        let s := f fd.start
        let ds := f (fd.start + fd.delay)
        let de := f fd.endPos
        { fd with start := s, delay := (ds - s).toNat, dur := (de - ds).toNat,
                  frozen := fd.frozen.map (fun q => (f q).toNat) })
      paused := pb.paused.map (fun q => (f q).toNat)
      follow := pb.follow.map (fun g => { pos := f g.pos, frozen := g.frozen.map (fun q => (f q).toNat) })
      donePos := f pb.donePos }
  let effects := d.effects.mapVal fun k e =>
    let head := ((c.effects.find k).map (·.head)).getD []
    let m60 := effMains60 head
    let f := rescale x0 (rateAB oldRate m60) (rateAB newRate m60)
    let s := f e.rampStart
    let e' := { e with rampStart := s, rampLen := (f (e.rampStart + e.rampLen) - s).toNat }
    if effRateSource head = 0 then
      { e' with anchorPhase := modNat ((e.basePhase oldRate head {} (mkPos nc 0)).getD 0) (2 ^ 64), anchor := x0 }
    else e'
  { d with playbacks := playbacks, effects := effects }

/-! ### PLAYBACK_STATUS (R232) -/

/-- The pending actions of a target, follows included. -/
def DynState.pendingOf (d : DynState) (key : Nat) : Nat :=
  (d.pending.filter (fun a => a.act.key == key)).length
    + (if key < 65536 then ((d.playbacks.find key).bind (·.follow)).elim 0 (fun _ => 1) else 0)

/-- The pending actions of the device, follows included. -/
def DynState.pendingAll (d : DynState) : Nat :=
  d.pending.length + (d.playbacks.filter (fun e => e.2.follow.isSome)).length

/-- The response of PLAYBACK_STATUS for a playback, at the evaluation position of frame `n`. -/
def playbackStatus (c : CueState) (d : DynState) (k n : Nat) : Bytes :=
  let pb := (d.playbacks.getD k {}).prune (mkPos n 0)
  let fading := (pb.held.filter (fun e => !e.2.ended (mkPos n 0))).length
  let st := if !c.lists.has k then 0 else if pb.paused.isSome then 4
    else if 0 < fading then 2 else if pb.current.isSome then 3 else 1
  bytesLE 1 st ++ bytesLE 1 (d.pendingOf k) ++ bytesLE 2 pb.master ++ bytesLE 4 (pb.current.getD 0xFFFFFFFF)
    ++ posBytes pb.goPos ++ posBytes (if pb.paused.isSome then 0 else pb.donePos.toNat)
    ++ bytesLE 4 pb.held.length ++ bytesLE 4 fading

/-- The response of PLAYBACK_STATUS for an effect instance. -/
def effectStatus (v : PatchState) (c : CueState) (rate : Nat) (ltc : LtcView) (d : DynState) (k n : Nat) : Bytes :=
  match c.effects.find k with
  | none => zeros 32
  | some def_ =>
    let e := d.effects.getD k {}
    let resolved := (def_.members.filter (fun f => (v.paramIndex f (effAttr def_.head)).isSome)).length
    let blk := effBlock def_.head
    let groups := (def_.members.length + blk - 1) / blk
    let phase := match e.basePhase rate def_.head ltc (mkPos n 0) with
      | some phi => groupPhase def_.head phi 0 groups
      | none => 0
    bytesLE 1 (e.stateCode (mkPos n 0)) ++ bytesLE 1 (d.pendingOf (65536 + k)) ++ zeros 2 ++ bytesLE 4 resolved
      ++ posBytes e.startPos ++ zeros 6 ++ bytesLE 8 phase

end Sys2Proof.Machine
end

