-- ==== Sys2Proof/Machine/ShowInput.lean ====
section
/-!
DEFINITION. Machine/ShowInput.lean: layers, overrides, input bindings, video inputs, samples and
maps as show state (chapter "Live inputs, video sampling and merging").
-/

namespace Sys2Proof.Machine

/-! ### LAYER_SET, POLICY_SET (R263) -/

/-- LAYER_SET stores a layer's settings. -/
def applyLayerSet (v : InputShow) (payload : Bytes) : InputShow :=
  { v with layers := v.layers.put (fld payload 0 1) ⟨fld payload 1 1, fld payload 2 2, fld payload 4 4⟩ }

/-- The part of a run below an address. -/
def PolicyRun.below (r : PolicyRun) (a : Nat) : List PolicyRun :=
  if r.first < a then [{ r with count := min r.count (a - r.first) }] else []

/-- The part of a run from an address on. -/
def PolicyRun.above (r : PolicyRun) (a : Nat) : List PolicyRun :=
  if a < r.first + r.count then
    [{ r with first := max r.first a, count := r.first + r.count - max r.first a }] else []

/-- The runs with a range cut out. -/
def cutRuns (rs : List PolicyRun) (lo hi : Nat) : List PolicyRun :=
  rs.flatMap fun r => if r.first + r.count ≤ lo || hi ≤ r.first then [r] else r.below lo ++ r.above hi

/-- The runs with a new run put in its place. -/
def insertRun (rs : List PolicyRun) (r : PolicyRun) : List PolicyRun :=
  rs.filter (fun x => x.first < r.first) ++ [r] ++ rs.filter (fun x => r.first ≤ x.first)

/-- POLICY_SET replaces, splits or removes runs over its range (R263). Adjacent runs of one policy are
not joined (DEDUCED, assumption 32). -/
def applyPolicySet (v : InputShow) (payload : Bytes) : InputShow :=
  let lo := fld payload 0 4
  let n := fld payload 4 4
  let pol := fld payload 8 1
  let cut := cutRuns v.overrides lo (lo + n)
  { v with overrides := if pol = 0xFF then cut else insertRun cut ⟨lo, n, pol⟩ }

/-- The checks of POLICY_SET (R263). -/
def checkPolicySet (v : InputShow) (payload : Bytes) : CheckRes :=
  if 2 ^ 24 < fld payload 0 4 + fld payload 4 4 then { status := .outOfRange }
  else if 65536 < (applyPolicySet v payload).overrides.length then { status := .noResource }
  else {}

/-- The policy of an address: its override, else its profile's (R236, R240). -/
def InputShow.policy (v : InputShow) (addr profPolicy : Nat) : Nat :=
  match v.overrides.find? (fun r => r.first ≤ addr && addr < r.first + r.count) with
  | some r => r.policy
  | none => profPolicy

/-! ### SACN_RX_SET, DMX_IN_SET (R264) -/

/-- The input map entries of a request. -/
def rxEntryBytes (payload : Bytes) : List Bytes := records 8 (fld payload 8 4) (payload.drop 0x10)

/-- An entry from its bytes. -/
def rxEntryOf (r : Bytes) : InputEntry := ⟨fld r 0 2, fld r 2 1, fld r 4 4⟩

/-- Reserved bytes of the entries are zero. -/
def rxZeros (payload : Bytes) : Bool := (rxEntryBytes payload).all fun r => zeroAt r 3 1 && fld r 7 1 == 0

/-- Entries lie in slots 1 to 512 with a width of 8, 16 or 24 bits, share no slot, and their reserved
fields are zero. -/
def rxEntriesOk (payload : Bytes) : Bool :=
  let es := (rxEntryBytes payload).map rxEntryOf
  rxZeros payload && es.all (fun e => (e.width == 8 || e.width == 16 || e.width == 24) && 1 ≤ e.slot && e.slot + e.width / 8 ≤ 513)
    && noDup (es.flatMap fun e => (List.range (e.width / 8)).map (e.slot + ·))

/-- The definition in a request. -/
def rxDefOf (payload : Bytes) : RxDef :=
  let fl := fld payload 3 1
  ⟨fld payload 2 1, bit fl 1, bit fl 2, bit fl 3, fld payload 4 1, fld payload 6 2,
   (rxEntryBytes payload).map rxEntryOf⟩

/-- SACN_RX_SET defines, replaces or removes a receive universe. -/
def applySacnRxSet (v : InputShow) (payload : Bytes) : InputShow :=
  let n := fld payload 0 2
  { v with sacn := if bit (fld payload 3 1) 0 then v.sacn.put n (rxDefOf payload) else v.sacn.del n }

/-- DMX_IN_SET defines, replaces or removes a DMX input. -/
def applyDmxInSet (v : InputShow) (payload : Bytes) : InputShow :=
  let n := fld payload 0 2
  { v with dmxIn := if bit (fld payload 3 1) 0 then v.dmxIn.put n (rxDefOf payload) else v.dmxIn.del n }

/-- The limits of receive universes, synchronisation addresses and map entries (R245, R264). -/
def InputShow.limitsOk (v : InputShow) : Bool :=
  let syncs := ((v.sacn.map (·.2.sync)).filter (· != 0)).eraseDups
  v.sacn.length ≤ 4096 && syncs.length ≤ 64
    && (v.sacn.map (·.2.entries.length)).sum + (v.dmxIn.map (·.2.entries.length)).sum ≤ 1048576
    && v.overrides.length ≤ 65536 && v.samples.length ≤ 131072

/-- The checks of SACN_RX_SET. -/
def checkSacnRxSet (v : InputShow) (payload : Bytes) : CheckRes :=
  if !rxEntriesOk payload then { status := .badArgument }
  else if !(applySacnRxSet v payload).limitsOk then { status := .noResource }
  else {}

/-- The checks of DMX_IN_SET; `isInput` tells whether the port's direction is input. -/
def checkDmxInSet (v : InputShow) (isInput : Bool) (payload : Bytes) : CheckRes :=
  if !rxEntriesOk payload then { status := .badArgument }
  else if !(applyDmxInSet v payload).limitsOk then { status := .noResource }
  else if !isInput then { status := .conflict }
  else {}

/-! ### VIDEO_IN_SET (R266) -/

def vidPort (c : Bytes) : Nat := fld c 1 1
def vidSampling (c : Bytes) : Nat := fld c 2 1
def vidColorimetry (c : Bytes) : Nat := fld c 3 1
def vidTcs (c : Bytes) : Nat := fld c 4 1
def vidFullRange (c : Bytes) : Bool := fld c 5 1 == 1
def vidRate (c : Bytes) : Nat := fld c 6 1
def vidHold (c : Bytes) : Bool := bit (fld c 7 1) 0
def vidWidth (c : Bytes) : Nat := fld c 8 2
def vidHeight (c : Bytes) : Nat := fld c 10 2
def vidRefNits (c : Bytes) : Nat := if fld c 0x30 2 = 0 then 203 else fld c 0x30 2

/-- The exact rate A/B s of a code as periods per 1,001,000 s, for comparing pixel rates. -/
def ratePer1001k (code : Nat) : Nat :=
  match code with
  | 0x01 => 24000000 | 0x02 => 24024000 | 0x03 => 25025000 | 0x04 => 30000000 | 0x05 => 30030000
  | 0x06 => 48000000 | 0x07 => 48048000 | 0x08 => 50050000 | 0x09 => 60000000 | 0x0A => 60060000
  | _ => 0

/-- The raster and rate lie in the table "Video reception" (R254). -/
def vidRasterOk (c : Bytes) : Bool :=
  let w := vidWidth c
  let h := vidHeight c
  16 ≤ w && w ≤ 3840 && (vidSampling c != 0 || w % 2 == 0) && 16 ≤ h && h ≤ 2160
    && 1 ≤ vidRate c && vidRate c ≤ 0x0A && w * h * ratePer1001k (vidRate c) ≤ 497664000 * 1001000

/-- A rectangle lies in the raster of a configured input. -/
def InputShow.inRaster (v : InputShow) (input x y w h : Nat) : Bool :=
  match v.videoIn.find input with
  | none => false
  | some c => x + w ≤ vidWidth c && y + h ≤ vidHeight c

/-- Every sample and map lies in the raster of its input. -/
def InputShow.rastersOk (v : InputShow) : Bool :=
  v.samples.all (fun e => v.inRaster e.2.input e.2.x e.2.y e.2.w e.2.h)
    && v.maps.all (fun e => v.inRaster e.2.input e.2.srcX e.2.srcY e.2.srcW e.2.srcH)

/-- VIDEO_IN_SET stores the configuration. -/
def applyVideoInSet (v : InputShow) (payload : Bytes) : InputShow :=
  { v with videoIn := v.videoIn.put (fld payload 0 1) payload }

/-- The checks of VIDEO_IN_SET. -/
def checkVideoInSet (v : InputShow) (payload : Bytes) : CheckRes :=
  if !vidRasterOk payload then { status := .outOfRange }
  else if !(applyVideoInSet v payload).rastersOk then { status := .conflict }
  else {}

/-! ### VIDEO_SAMPLE_SET (R267) -/

/-- The sample records of a request. -/
def sampleRecords (payload data : Bytes) : List Bytes :=
  if fld payload 0 1 = 0 then records 16 (fld payload 4 4) (payload.drop 0x10)
  else records 16 (fld payload 4 4) data

/-- One sample record applied; FLAGS 0 removes. -/
def applySampleRec (v : InputShow) (r : Bytes) : InputShow :=
  let k := fld r 0 4 * 8 + fld r 11 1
  { v with samples := if fld r 14 2 = 0 then v.samples.del k
      else v.samples.put k ⟨fld r 4 2, fld r 6 2, fld r 8 1, fld r 9 1, fld r 10 1, fld r 12 2, fld r 14 2⟩ }

/-- The sample records applied in order. -/
def applyVideoSampleSet (v : InputShow) (payload data : Bytes) : InputShow :=
  (sampleRecords payload data).foldl applySampleRec v

/-- The check of one sample record. -/
def checkSampleRec (v : InputShow) (r : Bytes) : Status :=
  if 2 ^ 17 ≤ fld r 0 4 || 3 < fld r 14 2 then .badArgument
  else if fld r 8 1 = 0 || 64 < fld r 8 1 || fld r 9 1 = 0 || 64 < fld r 9 1 || 1 < fld r 10 1 || 7 < fld r 11 1 then
    .outOfRange
  else if fld r 14 2 != 0 && !v.inRaster (fld r 10 1) (fld r 4 2) (fld r 6 2) (fld r 8 1) (fld r 9 1) then .conflict
  else .ok

/-- The first record whose application takes the number of samples above the limit. -/
def sampleOverflow (v : InputShow) : List Bytes → Nat → Nat
  | [], i => i
  | r :: rs, i => let v' := applySampleRec v r
    if 131072 < v'.samples.length then i else sampleOverflow v' rs (i + 1)

/-- The checks of VIDEO_SAMPLE_SET, with FAIL_INDEX and the number of samples (R267). -/
def checkVideoSampleSet (v : InputShow) (payload data : Bytes) : CheckRes :=
  let rs := sampleRecords payload data
  let res (st : Status) (i n : Nat) : CheckRes := { status := st, resp := bytesLE 4 i ++ bytesLE 4 n }
  match rs.findIdx? (fun r => checkSampleRec v r != .ok) with
  | some i => res (checkSampleRec v (rs.getD i [])) i v.samples.length
  | none =>
    let after := applyVideoSampleSet v payload data
    if 131072 < after.samples.length then res .noResource (sampleOverflow v rs 0) v.samples.length
    else res .ok 0xFFFFFFFF after.samples.length

/-! ### VIDEO_MAP_SET (R268) -/

/-- The map in a request. -/
def videoMapOf (p : Bytes) : VideoMap :=
  ⟨fld p 1 1, fld p 2 1, fld p 3 1, fld p 8 2, fld p 10 2, fld p 12 2, fld p 14 2, fld p 16 2, fld p 18 2,
   fld p 20 2, fld p 22 2, fld p 24 2, fld p 26 2⟩

/-- VIDEO_MAP_SET defines, replaces or removes a map. -/
def applyVideoMapSet (v : InputShow) (payload : Bytes) : InputShow :=
  let n := fld payload 0 1
  { v with maps := if bit (fld payload 4 1) 0 then v.maps.put n (videoMapOf payload) else v.maps.del n }

/-- The checks of VIDEO_MAP_SET. -/
def checkVideoMapSet (v : InputShow) (payload : Bytes) : CheckRes :=
  let m := videoMapOf payload
  if bit (fld payload 4 1) 0
      && (m.srcW == 0 || m.srcH == 0 || m.dstW == 0 || m.dstH == 0
          || !v.inRaster m.input m.srcX m.srcY m.srcW m.srcH) then { status := .conflict }
  else {}

end Sys2Proof.Machine
end

