-- ==== Sys2Proof/Machine/Input.lean ====
section
/-!
DEFINITION. Machine/Input.lean: from input values to contributions, and the merge (stages 1 and 2):
R234 to R244 and R259 to R261.
-/

namespace Sys2Proof.Machine

/-! ### Input values -/

/-- An 8, 16 or 24-bit value widened to 24 bits (R244). -/
def widen (width r : Nat) : Nat :=
  if width = 8 then r * 65536 + r * 256 + r else if width = 16 then r * 256 + r / 256 else r

/-- The value of an input map entry, most significant byte first; none where a slot of it is not
carried (R244). -/
def slotValue (slots : Bytes) (e : InputEntry) : Option Nat :=
  if e.slot + e.width / 8 ≤ slots.length + 1 then
    some (widen e.width (beNat (slice slots (e.slot - 1) (e.width / 8))))
  else none

/-- The merged priority of tracked sources (R247). -/
def mergedPriority (ss : List RxSource) : Nat := (ss.filter (·.stamped)).foldl (fun p s => max p s.priority) 0

/-- Slot-wise largest of two slot strings; the longer one's tail is kept. -/
def maxSlots : Bytes → Bytes → Bytes
  | a :: as, b :: bs => (if a.toNat < b.toNat then b else a) :: maxSlots as bs
  | [], bs => bs
  | as, [] => as

/-- The universe's values: slot-wise largest among the sources of the merged priority (R247). -/
def mergedSlots (ss : List RxSource) : Bytes :=
  ((ss.filter (·.stamped)).filter (fun s => s.priority == mergedPriority ss)).foldl (fun b s => maxSlots b s.values) []

/-! ### Video arithmetic -/

/-- Nearest binary32 to a decimal constant given as n / d (R259). -/
def dec (n : Int) (d : Nat) : F32 := F32.ofRat n d

/-- x^y, an elementary function of R36. -/
def fpow (x y : F32) : F32 := Config.elementary 1 [x, y]

/-- e^x, an elementary function of R36. -/
def fexp (x : F32) : F32 := Config.elementary 2 [x]

/-- The transfer decoding of one channel (table "Transfer decoding"). -/
def eotf (tcs refNits : Nat) (e : F32) : F32 :=
  match tcs with
  | 0 => fpow e (dec 24 10)
  | 1 =>
    let m1 := dec 2610 16384
    let m2 := dec 2523 32
    let c1 := dec 3424 4096
    let c2 := dec 2413 128
    let c3 := dec 2392 128
    let p := fpow e (F32.div F32.f1 m2)
    let q := F32.div (F32.max (F32.sub p c1) F32.f0) (F32.sub c2 (F32.mul c3 p))
    F32.div (F32.mul (F32.ofInt 10000) (fpow q (F32.div F32.f1 m1))) (F32.ofInt refNits)
  | _ =>
    let v := if F32.le e (dec 1 2) then F32.div (F32.mul e e) (F32.ofInt 3)
      else F32.div (F32.add (fexp (F32.div (F32.sub e (dec 55991073 100000000)) (dec 17883277 100000000)))
        (dec 28466892 100000000)) (F32.ofInt 12)
    F32.div v (dec 26496 100000)

/-- A colour in linear XYZ or RGB. -/
structure Tri where
  x : F32
  y : F32
  z : F32
  deriving DecidableEq, Repr

/-- One row of a 3 × 3 matrix applied, left to right. -/
def rowMul (a b c : F32) (t : Tri) : F32 := F32.add (F32.add (F32.mul a t.x) (F32.mul b t.y)) (F32.mul c t.z)

/-- Linear RGB to XYZ (table "Primaries"). -/
def toXYZ (col : Nat) (t : Tri) : Tri :=
  if col = 0 then
    ⟨rowMul (dec 4124 10000) (dec 3576 10000) (dec 1805 10000) t,
     rowMul (dec 2126 10000) (dec 7152 10000) (dec 722 10000) t,
     rowMul (dec 193 10000) (dec 1192 10000) (dec 9505 10000) t⟩
  else
    ⟨rowMul (dec 6370 10000) (dec 1446 10000) (dec 1689 10000) t,
     rowMul (dec 2627 10000) (dec 6780 10000) (dec 593 10000) t,
     rowMul F32.f0 (dec 281 10000) (dec 10610 10000) t⟩

/-- A stored code minus an offset, over a divisor. -/
def codeOver (d : Nat) (off : Int) (q : Nat) : F32 := F32.div (F32.ofInt ((d : Int) - off)) (F32.ofInt q)

/-- A stored pixel converted to linear XYZ (R259). -/
def convertPixel (cfg : Bytes) (d0 d1 d2 : Nat) : Tri :=
  let full := vidFullRange cfg
  let rgb :=
    if vidSampling cfg = 2 then
      if full then (codeOver d0 0 1023, codeOver d1 0 1023, codeOver d2 0 1023)
      else (codeOver d0 64 876, codeOver d1 64 876, codeOver d2 64 876)
    else
      let y := if full then codeOver d0 0 1023 else codeOver d0 64 876
      let cb := if full then codeOver d1 512 1023 else codeOver d1 512 896
      let cr := if full then codeOver d2 512 1023 else codeOver d2 512 896
      let kr := if vidColorimetry cfg = 0 then dec 2126 10000 else dec 2627 10000
      let kb := if vidColorimetry cfg = 0 then dec 722 10000 else dec 593 10000
      let two := F32.ofInt 2
      let r := F32.add y (F32.mul (F32.mul two (F32.sub F32.f1 kr)) cr)
      let b := F32.add y (F32.mul (F32.mul two (F32.sub F32.f1 kb)) cb)
      let g := F32.div (F32.sub (F32.sub y (F32.mul kr r)) (F32.mul kb b)) (F32.sub (F32.sub F32.f1 kr) kb)
      (r, g, b)
  let lin (e : F32) : F32 := eotf (vidTcs cfg) (vidRefNits cfg) (F32.clamp e F32.f0 F32.f1)
  toXYZ (vidColorimetry cfg) ⟨lin rgb.1, lin rgb.2.1, lin rgb.2.2⟩

/-- The stored pixel at column `x` of line `y`, with the chroma of odd 4:2:2 pixels interpolated (R255). -/
def VideoFrame.pixel (f : VideoFrame) (cfg : Bytes) (x y : Nat) : Nat × Nat × Nat :=
  let at_ (c : Nat) : VideoPix := f.pixels.getD (y * 4096 + c) ⟨0, some (0, 0)⟩
  let p := at_ x
  match p.chroma with
  | some c => (p.d0, c.1, c.2)
  | none =>
    let l := ((at_ (x - 1)).chroma).getD (0, 0)
    if x + 1 < vidWidth cfg then
      let r := ((at_ (x + 1)).chroma).getD (0, 0)
      (p.d0, (l.1 + r.1 + 1) / 2, (l.2 + r.2 + 1) / 2)
    else (p.d0, l.1, l.2)

/-- The converted colour of an input pixel. -/
def VideoFrame.xyz (f : VideoFrame) (cfg : Bytes) (x y : Nat) : Tri :=
  let d := f.pixel cfg x y
  convertPixel cfg d.1 d.2.1 d.2.2

/-- Component-wise sum. -/
def Tri.add (a b : Tri) : Tri := ⟨F32.add a.x b.x, F32.add a.y b.y, F32.add a.z b.z⟩

/-- Component-wise scale by the second factor. -/
def Tri.scale (a : Tri) (k : F32) : Tri := ⟨F32.mul a.x k, F32.mul a.y k, F32.mul a.z k⟩

/-- The averaged colour of a video sample, times GAIN / 256 (R260). -/
def sampleColour (f : VideoFrame) (cfg : Bytes) (s : VideoSample) : Tri :=
  let pts := (List.range s.h).flatMap fun j => (List.range s.w).map fun i => (s.x + i, s.y + j)
  let sum : Tri := pts.foldl (fun (t : Tri) p => t.add (f.xyz cfg p.1 p.2)) ⟨F32.f0, F32.f0, F32.f0⟩
  let n := F32.ofInt (s.w * s.h : Nat)
  let avg : Tri := ⟨F32.div sum.x n, F32.div sum.y n, F32.div sum.z n⟩
  avg.scale (F32.div (F32.ofInt s.gain) (F32.ofInt 256))

/-- The value a sample gives an attribute (R260); none for one it does not select. -/
def sampleAttr (t : Tri) (flags attr : Nat) : Option F32 :=
  let sum := F32.add (F32.add t.x t.y) t.z
  let dark := F32.le sum F32.f0
  if attr = 0 && bit flags 0 then some (if dark then F32.f0 else F32.clamp t.y F32.f0 F32.f1)
  else if attr = 1 && bit flags 1 then some (if dark then attrRest 1 else F32.div t.x sum)
  else if attr = 2 && bit flags 1 then some (if dark then attrRest 2 else F32.div t.y sum)
  else none

/-- An attribute value as a raw parameter value through LO and HI (R260). -/
def attrToRaw (p : ProfParam) (a : F32) : Nat :=
  clampRaw (F32.mul (F32.clamp (F32.div (F32.sub a p.lo) (F32.sub p.hi p.lo)) F32.f0 F32.f1)
    (F32.ofInt 16777215)).toIntEven

/-! ### Contributions of inputs (R234) -/

/-- A layer's winning value: the 24-bit raw value and the effective priority (R238). -/
structure LayerVal where
  raw : Nat
  prio : Nat
  deriving DecidableEq, Repr

/-- The first entry of a binding that names the address and carries a value. -/
def bindingValue (slots : Bytes) (d : RxDef) (addr : Nat) : Option Nat :=
  d.entries.findSome? fun e => if e.addr = addr then slotValue slots e else none

/-- The input contribution to an address on a layer, in the order live write, receive universe, DMX
input, video sample (R234). -/
def inputContrib (v : InputShow) (pv : PatchState) (r : InputRecord) (layer addr : Nat) : Option LayerVal :=
  let prio := (v.layers.getD layer {}).priority
  match r.live.find (layer * 2 ^ 24 + addr) with
  | some x => some ⟨x, prio⟩
  | none =>
    match v.sacn.findSome? (fun e => if e.2.layer != layer then none else
        (r.sacn.find e.1).bind fun l => (bindingValue l.slots e.2 addr).map fun x => (⟨x, l.priority⟩ : LayerVal)) with
    | some x => some x
    | none =>
      match v.dmxIn.findSome? (fun e => if e.2.layer != layer then none else
          (r.dmx.find e.1).bind fun b => (bindingValue b e.2 addr).map fun x => (⟨x, prio⟩ : LayerVal)) with
      | some x => some x
      | none =>
        match v.samples.find (addr / 128 * 8 + layer), pv.paramAt addr with
        | some s, some p =>
          match r.video.find s.input, v.videoIn.find s.input with
          | some f, some cfg =>
            (sampleAttr (sampleColour f cfg s) s.flags p.attr).map fun a => (⟨attrToRaw p a, prio⟩ : LayerVal)
          | _, _ => none
        | _, _ => none

/-- The value of each layer at an address: inputs rank above playbacks and effects (R234). -/
def layerValues (v : InputShow) (pv : PatchState) (r : InputRecord) (play : Nat → Option Contrib) (addr : Nat) :
    List (Option LayerVal) :=
  (List.range 8).map fun l =>
    match inputContrib v pv r l addr with
    | some x => some x
    | none => (play l).map fun c => ⟨c.raw, (v.layers.getD l {}).priority⟩

/-! ### The merge (R236 to R239) -/

/-- The change frames of the layers in frame `n`, from those of the frame before (R237). -/
def changeFrames (prev : List (Option LayerHist)) (cur : List (Option LayerVal)) (n : Nat) : List (Option LayerHist) :=
  (List.range 8).map fun l =>
    (cur.getD l none).map fun x =>
      match prev.getD l none with
      | some h => if h.value = x.raw then h else ⟨x.raw, n⟩
      | none => ⟨x.raw, n⟩

/-- HTP: the largest of b and every layer; the highest layer that reaches it, else the base (R236). -/
def mergeHtp (b : Nat) (ls : List (Nat × LayerVal)) : Nat × Nat :=
  ls.foldl (fun w e => if w.1 < e.2.raw || (w.1 == e.2.raw && w.2 != 0xFF) then (e.2.raw, e.1) else w) (b, 0xFF)

/-- LTP: the latest change frame; at a tie a layer beats b and the higher layer the lower (R236). -/
def mergeLtp (b bFrame : Nat) (ls : List (Nat × LayerHist)) : Nat × Nat :=
  let w := ls.foldl (fun (w : Nat × Nat × Nat) e =>
    if w.2.2 ≤ e.2.changed then (e.2.value, e.1, e.2.changed) else w) (b, 0xFF, bFrame)
  (w.1, w.2.1)

/-- Priority: the highest effective priority, the largest value among equals (R236). -/
def mergePriority (b : Nat) (ls : List (Nat × LayerVal)) : Nat × Nat :=
  let w := ls.foldl (fun (w : Option (Nat × Nat × Nat)) e =>
    match w with
    | none => some (e.2.raw, e.1, e.2.prio)
    | some x => if x.2.2 < e.2.prio || (x.2.2 == e.2.prio && x.1 ≤ e.2.raw) then some (e.2.raw, e.1, e.2.prio) else w) none
  match w with
  | some x => (x.1, x.2.1)
  | none => (b, 0xFF)

/-- Alpha blend, bottom to top (R239). -/
def mergeAlpha (v : InputShow) (b : Nat) (ls : List (Nat × LayerVal)) : Nat :=
  clampRaw (ls.foldl (fun x e =>
    let a := F32.div (F32.ofInt (v.layers.getD e.1 {}).alpha) (F32.ofInt 32768)
    F32.add x (F32.mul a (F32.sub (F32.ofInt e.2.raw) x))) (F32.ofInt b)).toIntEven

/-- The layers that contribute, bottom to top, with their numbers. -/
def present {α : Type} (ls : List (Option α)) : List (Nat × α) :=
  ((List.range 8).zip ls).filterMap fun e => e.2.map fun x => (e.1, x)

/-- Stage 2 of one live address (R236): `bFrame` is the change frame of the base value. No layer
decides under alpha blend, so its WINNER is 0xFF (R269). -/
def mergeAddr (v : InputShow) (pv : PatchState) (addr profPolicy bFrame : Nat) (ls : List (Option LayerVal))
    (hs : List (Option LayerHist)) : MergeOut :=
  let b := pv.base24 addr
  let pol := v.policy addr profPolicy
  let raws := ls.map fun x => x.map (·.raw)
  if pv.park addr then ⟨b, true, pol, 0xFF, raws⟩
  else
    let w := match pol with
      | 0 => mergeHtp b (present ls)
      | 1 => mergeLtp b bFrame (present hs)
      | 2 => mergePriority b (present ls)
      | _ => (mergeAlpha v b (present ls), 0xFF)
    ⟨w.1, false, pol, w.2, raws⟩

/-- One entry of the MERGE_READ response (R269). -/
def mergeReadEntry (m : Option MergeOut) : Bytes :=
  match m with
  | none => bytesLE 4 (2 ^ 25) ++ zeros 36
  | some o =>
    let pres := (present o.layers).foldl (fun n e => n + 2 ^ e.1) 0
    bytesLE 4 (o.result + b2n o.parked * 2 ^ 24) ++ bytesLE 1 o.policy ++ bytesLE 1 o.winner ++ bytesLE 1 pres
      ++ zeros 1 ++ o.layers.flatMap (fun x => bytesLE 4 (x.getD 0))

/-! ### Video maps (R261) and canvas layers (R241) -/

/-- The Keys cubic with a = −0.5 at |t| (R261). -/
def keys (t : F32) : F32 :=
  let t2 := F32.mul t t
  let t3 := F32.mul t2 t
  if F32.lt t F32.f1 then
    F32.add (F32.sub (F32.mul (dec 3 2) t3) (F32.mul (dec 5 2) t2)) F32.f1
  else if F32.lt t (F32.ofInt 2) then
    F32.add (F32.sub (F32.add (F32.mul (dec (-1) 2) t3) (F32.mul (dec 5 2) t2)) (F32.mul (F32.ofInt 4) t)) (F32.ofInt 2)
  else F32.f0

/-- The taps of destination pixel `d` on one axis: source index and normalised weight. `limit` is the
last line a slice may read (R125). -/
def filterTaps (srcStart srcLen dstLen d : Nat) (limit : Nat) : List (Nat × F32) :=
  let s := F32.div (F32.ofInt srcLen) (F32.ofInt dstLen)
  let m := F32.max s F32.f1
  -- c = srcStart + (d + 0.5) × s − 0.5
  let c := F32.sub (F32.add (F32.ofInt srcStart) (F32.mul (F32.add (F32.ofInt d) (dec 1 2)) s)) (dec 1 2)
  let reach := F32.mul (F32.ofInt 2) m
  let lo := (F32.sub c reach).toIntFloor
  let n := (2 * reach.toIntFloor + 3).toNat
  let js : List Int := (List.range n).map fun (i : Nat) => lo + (i : Int)
  let taps := js.filterMap fun j =>
    let dist := F32.abs (F32.sub (F32.ofInt j) c)
    if F32.lt dist reach then
      let jc := (clampInt j srcStart (srcStart + srcLen - 1 : Nat)).toNat
      some (min jc limit, keys (F32.div dist m))
    else none
  let sum := taps.foldl (fun a t => F32.add a t.2) F32.f0
  taps.map fun t => (t.1, F32.div t.2 sum)

/-- The colour a map writes at destination pixel (i, j) of its rectangle (R261): the filter
runs along the lines first, then along the columns. -/
def mapColour (f : VideoFrame) (cfg : Bytes) (m : VideoMap) (i j limit : Nat) : Tri :=
  let zero : Tri := ⟨F32.f0, F32.f0, F32.f0⟩
  let ys := filterTaps m.srcY m.srcH m.dstH j limit
  let xs := filterTaps m.srcX m.srcW m.dstW i 65535
  let line (y : Nat) : Tri := xs.foldl (fun (t : Tri) e => t.add ((f.xyz cfg e.1 y).scale e.2)) zero
  let c : Tri := ys.foldl (fun (t : Tri) e => t.add ((line e.1).scale e.2)) zero
  let g := F32.div (F32.ofInt m.gain) (F32.ofInt 256)
  let cl (x : F32) : F32 := F32.clamp (F32.mul x g) F32.f0 (F32.ofInt 2)
  ⟨cl c.x, cl c.y, cl c.z⟩

/-- The merged colour of canvas pixel (x, y): the layers blended bottom to top from black (R241). -/
def canvasColour (v : InputShow) (r : InputRecord) (canvas x y : Nat) (limit : Nat → Nat) : Tri :=
  (List.range 8).foldl (fun (c : Tri) l =>
    let hit := (v.maps.filter fun e => e.2.canvas == canvas && e.2.layer == l
        && e.2.dstX ≤ x && x < e.2.dstX + e.2.dstW && e.2.dstY ≤ y && y < e.2.dstY + e.2.dstH
        && r.video.has e.2.input).getLast?
    match hit with
    | none => c
    | some e =>
      match r.video.find e.2.input, v.videoIn.find e.2.input with
      | some f, some cfg =>
        let t := mapColour f cfg e.2 (x - e.2.dstX) (y - e.2.dstY) (limit e.2.input)
        let w := F32.mul (F32.div (F32.ofInt e.2.alpha) (F32.ofInt 32768))
          (F32.div (F32.ofInt (v.layers.getD l {}).alpha) (F32.ofInt 32768))
        let mix (a b : F32) : F32 := F32.add a (F32.mul w (F32.sub b a))
        ⟨mix c.x t.x, mix c.y t.y, mix c.z t.z⟩
      | _, _ => c) ⟨F32.f0, F32.f0, F32.f0⟩

end Sys2Proof.Machine
end

