-- ==== Sys2Proof/Machine/ShowCanvas.lean ====
section
/-!
DEFINITION. Machine/ShowCanvas.lean: canvases, lane segments, pixel maps, check rectangles and slice
mode as show state (chapter "Canvases, the scan-out store and flips"), and the CRC-32C of R312.
-/

namespace Sys2Proof.Machine

/-! ### CRC-32C (R312) -/

/-- One bit of the reflected CRC with polynomial 0x82F6_3B78. -/
def crcBit (c : Word) : Word := if c.toNat % 2 = 1 then (c >>> 1) ^^^ 0x82F63B78#32 else c >>> 1

/-- One byte of the CRC. -/
def crcByte (c : Word) (b : Byte) : Word :=
  crcBit (crcBit (crcBit (crcBit (crcBit (crcBit (crcBit (crcBit (c ^^^ b.setWidth 32))))))))

/-- The CRC-32C of a byte string: initial value and final XOR 0xFFFF_FFFF. -/
def crc32c (bs : Bytes) : Word := (bs.foldl crcByte 0xFFFFFFFF#32) ^^^ 0xFFFFFFFF#32

/-! ### Geometry (R293, R301, R302) -/

/-- The canvas that a CANVAS_SET request defines; 0 selects the defaults of DIVIDER and LATCH_TOL_US. -/
def canvasOf (p : Bytes) : Canvas :=
  { scan := fld p 2 1, divider := if fld p 3 1 = 0 then 1 else fld p 3 1, width := fld p 4 2, height := fld p 6 2,
    base := fld p 8 4, gapPermille := fld p 0x0C 2, tolUs := if fld p 0x0E 2 = 0 then 100 else fld p 0x0E 2,
    latencyUs := fld p 0x10 4 }

/-- One past the last pixel index of a canvas. -/
def Canvas.limit (c : Canvas) : Nat := c.base + c.width * c.height

/-- The pixel index of a canvas pixel (R293). -/
def Canvas.index (c : Canvas) (x y : Nat) : Nat := c.base + y * c.width + x

/-- The store byte offset of channel `ch` of pixel index `i` in bank `b` (R293). -/
def storeOffset (b i ch : Nat) : Nat := b * 67108864 + 8 * i + 2 * ch

/-- The offset inside a segment that scan index `i` names (R301). -/
def scanXY (scan w h i : Nat) : Nat × Nat :=
  let primary := bits scan 0 2
  let xy := match primary with
    | 0 => (i % w, i / w)
    | 1 => (if i / w % 2 = 1 then w - 1 - i % w else i % w, i / w)
    | 2 => (i / h, i % h)
    | _ => (i / h, if i / h % 2 = 1 then h - 1 - i % h else i % h)
  (if bit scan 2 then w - 1 - xy.1 else xy.1, if bit scan 3 then h - 1 - xy.2 else xy.2)

/-- A scan order runs top row first (R301). -/
def topRowFirst (scan : Nat) : Bool := bits scan 0 2 ≤ 1 && !bit scan 3

/-- The pixels of a rectangle. -/
def Rect.size (r : Rect) : Nat := r.w * r.h

/-- The pixel count of a lane (R302). -/
def LaneSegs.pixels (s : LaneSegs) : Nat := (s.rects.map Rect.size).sum

/-- The canvas pixel that scan index `i` of a lane names, counted over its segments in order. -/
def laneXY (scan : Nat) : List Rect → Nat → Option (Nat × Nat)
  | [], _ => none
  | r :: rs, i =>
    if i < r.size then some (r.x + (scanXY scan r.w r.h i).1, r.y + (scanXY scan r.w r.h i).2)
    else laneXY scan rs (i - r.size)

/-- The code groups of the lane frame of `n` pixels of `b` bytes (R350). -/
def laneGroups (n b : Nat) : Nat := 46 + n * b + 4 * ((n + 511) / 512)

/-- The gap of a canvas with period `tc`, rounded up to the unit (R303, R100). -/
def Canvas.gap (c : Canvas) (tc : Int) : Int := ceilDiv (tc * c.gapPermille) 1000

/-! ### CANVAS_SET (R293, R319) -/

/-- The checks of CANVAS_SET on its fields: R293 and the slice bound of R303. -/
def checkCanvasSet (v : CanvasShow) (p : Bytes) : CheckRes :=
  let c := canvasOf p
  if !bit (fld p 1 1) 0 then {}
  else if 4 < c.divider || c.width = 0 || 16384 < c.width || c.height = 0 || 16384 < c.height
      || c.base % 64 != 0 || 8388608 < c.limit || c.gapPermille < 50 || 500 < c.gapPermille
      || ((v.slices.getD (fld p 0 1) {}).enable && 100 < c.gapPermille)
      || 10000 < c.tolUs || 250000 < c.latencyUs then { status := .outOfRange }
  else {}

/-- CANVAS_SET defines, replaces or removes a canvas. -/
def applyCanvasSet (v : CanvasShow) (p : Bytes) : CanvasShow :=
  { v with canvases := if bit (fld p 1 1) 0 then v.canvases.put (fld p 0 1) (canvasOf p) else v.canvases.del (fld p 0 1) }

/-- In any epoch the pixel ranges of two canvases do not overlap (R293). -/
def canvasesDisjoint (cs : Map Canvas) : Bool :=
  cs.all fun a => cs.all fun b =>
    a.1 == b.1 || decide (a.2.limit ≤ b.2.base) || decide (b.2.limit ≤ a.2.base)

/-- A pixel range freed by a canvas at the latch point of a frame (R294). -/
structure Freed where
  canvas : Nat
  lo : Nat
  hi : Nat
  frame : Nat
  deriving DecidableEq, Repr

/-- A range without another range. -/
def rangeMinus (a : Nat × Nat) (b : Nat × Nat) : List (Nat × Nat) :=
  [(a.1, min a.2 b.1), (max a.1 b.2, a.2)].filter fun r => r.1 < r.2

/-- The pixel range of a canvas, empty where it is not defined. -/
def canvasRange (cs : Map Canvas) (k : Nat) : Nat × Nat := ((cs.find k).map fun c => (c.base, c.limit)).getD (0, 0)

/-- The ranges freed by going from `old` to `new` at frame `n` (R294). -/
def freedRanges (old new : Map Canvas) (n : Nat) : List Freed :=
  old.flatMap fun e => (rangeMinus (canvasRange old e.1) (canvasRange new e.1)).map fun r => ⟨e.1, r.1, r.2, n⟩

/-- No canvas is placed on pixels that another canvas used before, or freed fewer than 8 frames before
frame `n` (R294). -/
def placementOk (old new : Map Canvas) (freed : List Freed) (n : Nat) : Bool :=
  let busy := freed.filter (fun f => n < f.frame + 8) ++ freedRanges old new n
  new.all fun e =>
    let mine := canvasRange old e.1
    let mine := if mine.1 = mine.2 then [(e.2.base, e.2.limit)] else rangeMinus (e.2.base, e.2.limit) mine
    mine.all fun r => busy.all fun f => f.canvas == e.1 || decide (r.2 ≤ f.lo) || decide (f.hi ≤ r.1)

/-! ### Rates (R296) -/

/-- The multiplier of a mains rate code, 0 for the other codes (R99). -/
def mainsMult (code : Nat) : Nat := if code = 0x20 then 1 else if code = 0x21 then 2 else if code = 0x22 then 4 else 0

/-- The exact period A/B s of a standard rate that is not a mains rate. -/
def tablePeriod (code : Nat) : Option (Nat × Nat) :=
  match code with
  | 0x01 => some (1001, 24000) | 0x02 => some (1, 24) | 0x03 => some (1, 25) | 0x04 => some (1001, 30000)
  | 0x05 => some (1, 30) | 0x06 => some (1001, 48000) | 0x07 => some (1, 48) | 0x08 => some (1, 50)
  | 0x09 => some (1001, 60000) | 0x0A => some (1, 60) | 0x0B => some (1, 72) | 0x0C => some (1, 90)
  | 0x0D => some (1, 100) | 0x0E => some (1001, 120000) | 0x0F => some (1, 120) | 0x10 => some (1, 144)
  | 0x11 => some (1, 200) | 0x12 => some (1001, 240000) | 0x13 => some (1, 240)
  | _ => none

/-- T of a rate as a fraction of timebase units, at a mains frequency of 65 Hz for the mains rates (R22). -/
def shortestExact (code : Nat) : Nat × Nat :=
  if mainsMult code = 0 then ((tablePeriod code).map fun ab => (ab.1 * 65536000000000, ab.2)).getD (0, 1)
  else (65536000000000, 65 * mainsMult code)

/-- The same, rounded down to the unit. -/
def shortestPeriod (code : Nat) : Nat := (shortestExact code).1 / (shortestExact code).2

/-- K times the period of a code is a period of the table "Standard rates" or of a mains rate (R296). -/
def dividedRateOk (code k : Nat) : Bool :=
  if mainsMult code = 0 then
    match tablePeriod code with
    | none => false
    | some ab => (List.range 20).any fun j =>
        match tablePeriod j with
        | none => false
        | some cd => ab.1 * k * cd.2 == cd.1 * ab.2
  else mainsMult code % k == 0

/-- Every canvas has a standard rate at the show rate `code`; 0 stands for no rate yet (R296). -/
def canvasRatesOk (cs : Map Canvas) (code : Nat) : Bool :=
  code == 0 || cs.all fun e => dividedRateOk code e.2.divider

/-! ### SEGMENT_SET (R302, R319) -/

/-- The segments in a request. -/
def segRects (p : Bytes) : List Rect :=
  (records 8 (fld p 2 1) (p.drop 8)).map fun r => ⟨fld r 0 2, fld r 2 2, fld r 4 2, fld r 6 2⟩

/-- The checks of SEGMENT_SET. -/
def checkSegmentSet (v : CanvasShow) (p : Bytes) : CheckRes :=
  let rs := segRects p
  if fld p 1 1 = 0xFF then {}
  else if rs.any (fun r => r.w == 0 || r.h == 0) then { status := .outOfRange }
  else match v.canvases.find (fld p 1 1) with
    | none => { status := .conflict }
    | some c => if rs.all (fun r => r.inside c) then {} else { status := .conflict }

/-- SEGMENT_SET replaces or removes the segments of a lane. -/
def applySegmentSet (v : CanvasShow) (p : Bytes) : CanvasShow :=
  { v with segments := if fld p 1 1 = 0xFF then v.segments.del (fld p 0 1)
      else v.segments.put (fld p 0 1) ⟨fld p 1 1, bit (fld p 3 1) 0, fld p 4 4, segRects p⟩ }

/-- Every segment lies inside its defined canvas (R303). -/
def segmentsInside (v : CanvasShow) : Bool :=
  v.segments.all fun e => e.2.rects.isEmpty ||
    match v.canvases.find e.2.canvas with
    | none => false
    | some c => e.2.rects.all (fun r => r.inside c)

/-- A canvas of divider `k` runs above 120 Hz. Under a mains rate the model takes the nominal rates, ×2 at most 120 Hz and ×4 above it
(DESIGN CHOICE, assumption 94). -/
def above120 (code k : Nat) : Bool :=
  if mainsMult code = 0 then decide (k * (shortestExact code).1 * 120 < 65536000000000 * (shortestExact code).2)
  else decide (2 * k < mainsMult code)

/-- The limits of R302 and R303 for one lane at a show rate, with `b` bytes per pixel. The period of a mains rate is its shortest
(DESIGN CHOICE, assumption 94). -/
def laneFits (v : CanvasShow) (rate b : Nat) (s : LaneSegs) : Bool :=
  match v.canvases.find s.canvas with
  | none => true
  | some c =>
    let t := shortestExact rate
    let n := s.pixels
    n ≤ (if above120 rate c.divider then 131072 else 262144)
      && decide (laneGroups n b * 16 * 65536 * 1000 * t.2 ≤ 5 * c.divider * t.1 * (1000 - c.gapPermille))

/-! ### PIXEL_MAP_SET (R298, R319) -/

/-- One pixel map record applied; CANVAS 0xFF removes. -/
def applyPixmapRec (v : CanvasShow) (r : Bytes) : CanvasShow :=
  { v with pixmaps := if fld r 4 1 = 0xFF then v.pixmaps.del (fld r 0 4)
      else v.pixmaps.put (fld r 0 4) ⟨fld r 4 1, ⟨fld r 8 2, fld r 10 2, fld r 12 2, fld r 14 2⟩,
        (List.range 4).map fun j => fld r (0x10 + j) 1⟩ }

/-- The check of one pixel map record in the view it finds. -/
def checkPixmapRec (v : CanvasShow) (r : Bytes) : Status :=
  let rect : Rect := ⟨fld r 8 2, fld r 10 2, fld r 12 2, fld r 14 2⟩
  let k := fld r 4 1
  if 2 ^ 17 ≤ fld r 0 4 || !zeroAt r 5 3 || !zeroAt r 0x14 12 then .badArgument
  else if k = 0xFF then .ok
  else if (List.range 4).any (fun j => 7 < fld r (0x10 + j) 1 && fld r (0x10 + j) 1 < 0xFE) then .badArgument
  else if 7 < k || rect.w = 0 || 256 < rect.w || rect.h = 0 || 256 < rect.h then .outOfRange
  else match v.canvases.find k with
    | none => .conflict
    | some c =>
      if !rect.inside c || v.pixmaps.any (fun e => e.1 != fld r 0 4 && e.2.canvas == k && e.2.rect.clash rect) then .conflict
      else if !v.pixmaps.has (fld r 0 4) && 131072 ≤ v.pixmaps.length then .noResource
      else .ok

/-- The records applied in order, each checked in the view that the earlier ones left: the failing index
and status, or the view. -/
def runPixmapRecs (v : CanvasShow) : List Bytes → Nat → (Nat × Status) ⊕ CanvasShow
  | [], _ => .inr v
  | r :: rs, i => if checkPixmapRec v r = .ok then runPixmapRecs (applyPixmapRec v r) rs (i + 1)
      else .inl (i, checkPixmapRec v r)

/-- The checks of PIXEL_MAP_SET, with FAIL_INDEX and the maps in the view. -/
def checkPixelMapSet (v : CanvasShow) (payload data : Bytes) : CheckRes :=
  match runPixmapRecs v (sourceRecords 32 payload data) 0 with
  | .inl (i, st) => recordRes st i v.pixmaps.length
  | .inr v' => recordRes .ok 0xFFFFFFFF v'.pixmaps.length

/-- PIXEL_MAP_SET applies its records in order. -/
def applyPixelMapSet (v : CanvasShow) (payload data : Bytes) : CanvasShow :=
  (sourceRecords 32 payload data).foldl applyPixmapRec v

/-- R298: maps lie inside their canvas and do not overlap within it. -/
def pixmapsOk (v : CanvasShow) : Bool :=
  v.pixmaps.length ≤ 131072 && v.pixmaps.all fun e =>
    (match v.canvases.find e.2.canvas with
      | none => false
      | some c => e.2.rect.inside c)
    && v.pixmaps.all fun e' => e.1 == e'.1 || e.2.canvas != e'.2.canvas || !e.2.rect.clash e'.2.rect

/-! ### RECT_CHECK_SET (R312, R319) -/

/-- The records of a request. -/
def rectRecords (p : Bytes) : List Bytes := records 16 (fld p 1 1) (p.drop 8)

/-- The rectangle of a record. -/
def rectOf (r : Bytes) : Rect := ⟨fld r 4 2, fld r 6 2, fld r 8 2, fld r 10 2⟩

/-- Flags and reserved bytes of the records, and each index once. -/
def rectCheckZeros (p : Bytes) : Bool :=
  (rectRecords p).all (fun r => fld r 1 1 ≤ 7 && zeroAt r 2 2) && noDup ((rectRecords p).map fun r => fld r 0 1)

/-- The checks of RECT_CHECK_SET. -/
def checkRectCheckSet (v : CanvasShow) (p : Bytes) : CheckRes :=
  let rs := rectRecords p
  if !rectCheckZeros p then { status := .badArgument }
  else if rs.any (fun r => 15 < fld r 0 1) then { status := .outOfRange }
  else match v.canvases.find (fld p 0 1) with
    | none => { status := .conflict }
    | some c => if rs.all (fun r => !bit (fld r 1 1) 0 || (rectOf r).inside c) then {} else { status := .conflict }

/-- RECT_CHECK_SET defines, replaces or removes check rectangles. -/
def applyRectCheckSet (v : CanvasShow) (p : Bytes) : CanvasShow :=
  (rectRecords p).foldl (fun v r =>
    let k := fld p 0 1 * 16 + fld r 0 1
    { v with checks := if bit (fld r 1 1) 0 then v.checks.put k ⟨bit (fld r 1 1) 1, bit (fld r 1 1) 2, rectOf r, fld r 12 4⟩
        else v.checks.del k }) v

/-! ### SLICE_MODE_SET (R123, R126, R134) -/

/-- The slice lines do not decrease with k (R123). -/
def rising : List Nat → Bool
  | a :: b :: l => a ≤ b && rising (b :: l)
  | _ => true

/-- The slice mode in a request. -/
def sliceOf (p : Bytes) : SliceMode :=
  ⟨fld p 1 1 == 1, fld p 2 1, (List.range 8).map fun k => fld p (4 + 2 * k) 2⟩

/-- The conditions of R123 for a canvas in slice mode; `rate` is the show rate code. -/
def sliceAllowed (v : CanvasShow) (iv : InputShow) (rate k : Nat) (m : SliceMode) : Bool :=
  match v.canvases.find k, iv.videoIn.find m.input with
  | some c, some cfg =>
    topRowFirst c.scan && c.divider == 1 && vidRate cfg == rate
      && iv.maps.all (fun e => e.2.canvas != k || e.2.input == m.input) && rising m.lines
  | _, _ => false

/-- The checks of SLICE_MODE_SET. Before any SHOW_CLOCK_START there is no show rate for R123 to compare with, and slice mode cannot be
enabled (DESIGN CHOICE, assumption 80). -/
def checkSliceModeSet (v : CanvasShow) (iv : InputShow) (env : CheckEnv) (p : Bytes) : CheckRes :=
  let m := sliceOf p
  if m.enable && !sliceAllowed v iv env.showRate (fld p 0 1) m then { status := .conflict } else {}

/-- SLICE_MODE_SET stores the mode of a canvas. -/
def applySliceModeSet (v : CanvasShow) (p : Bytes) : CanvasShow := { v with slices := v.slices.put (fld p 0 1) (sliceOf p) }

/-- The first row of slice `k` of a canvas of height `h`. -/
def sliceRow (h k : Nat) : Nat := k * h / 8

/-- The code groups sent on a lane before the first pixel of slice `k`, none where it sends no pixel of it. -/
def groupsBefore (scan h b k : Nat) : List Rect → Nat → Option Nat
  | [], _ => none
  | r :: rs, sent =>
    match (List.range r.size).find? fun i =>
        let y := r.y + (scanXY scan r.w r.h i).2
        sliceRow h k ≤ y && y < sliceRow h (k + 1) with
    | some i => let n := sent + i
        some (45 + n * b + 4 * (n / 512))
    | none => groupsBefore scan h b k rs (sent + r.size)

/-- Slice `k` begins its scan no earlier than A_k(n) + T/8, with the lines of the input taken as spaced
evenly over its period T, a fraction of timebase units (R126; assumption 34). -/
def sliceScanOk (c : Canvas) (m : SliceMode) (inputHeight : Nat) (t : Nat × Nat) (b : Nat) (s : LaneSegs) : Bool :=
  (List.range 8).all fun k =>
    match groupsBefore c.scan c.height b k s.rects 0 with
    | none => true
    | some g => (m.lines.getD k 0 - m.lines.getD 0 0) * t.1 * 5 ≤ g * 16 * 65536 * inputHeight * t.2

end Sys2Proof.Machine
end

