-- ==== Sys2Proof/Machine/ShowOutput.lean ====
section
/-!
DEFINITION. Machine/ShowOutput.lean: curves, output groups, temperature sources, derating records and
safety groups as show state, and the arithmetic of stages 7 to 10 (chapter "Curves, dither, derating,
safety groups and emission").
-/

namespace Sys2Proof.Machine

/-! ### Stage 7: curves (R322 to R324) -/

/-- The binary32 nearest to a real g between 0 and 1 of which `le_ m` tells whether m / 2^150 ≤ g: the largest value not above g is
found bit by bit, and the midpoint with the next one decides. -/
def nearestUnit (le_ : Nat → Bool) : F32 :=
  let mag (b : Nat) : Nat := F32.mag (BitVec.ofNat 32 b)
  let b := ((List.range 30).reverse).foldl (fun b k => if le_ (2 * mag (b + 2 ^ k)) then b + 2 ^ k else b) 0
  BitVec.ofNat 32 (if le_ (mag b + mag (b + 1)) then b + 1 else b)

/-- m / 2^150 ≤ (i / 4,095)^(p / q). -/
def belowPower (p q i m : Nat) : Bool := m ^ q * 4095 ^ p ≤ i ^ p * (2 ^ 150) ^ q

/-- m / 2^150 ≤ 10^(3 i / 4,095 − 3), for i up to 4,095. -/
def belowLog (i m : Nat) : Bool := m ^ 1365 * 10 ^ (4095 - i) ≤ (2 ^ 150) ^ 1365

/-- An entry of a built-in curve, the nearest binary32 to g(i / 4,095) (R323). No g(i / 4,095) of a code lies so near the middle of
two binary32 values that rounding to binary64 first would change the entry. -/
def builtinPoint (code i : Nat) : F32 :=
  if i = 0 then F32.f0
  else if 4095 ≤ i then F32.f1
  else match code with
    | 0 => F32.ofRat i 4095
    | 1 => F32.ofRat (i * i : Nat) (4095 * 4095)
    | 4 => if 8 * 4095 < 100 * i then F32.ofRat ((100 * i + 16 * 4095) ^ 3 : Nat) ((116 * 4095) ^ 3)
           else F32.ofRat (100 * i * 27 : Nat) (24389 * 4095)
    | 2 => nearestUnit (belowPower 11 5 i)
    | 3 => nearestUnit (belowPower 13 5 i)
    | _ => nearestUnit (belowLog i)

/-- Entry `i` of a curve (R323). -/
def OutputShow.curvePoint (v : OutputShow) (code i : Nat) : F32 :=
  if code < 16 then builtinPoint code i
  else match v.curves.find code with
    | none => F32.f0
    | some t => fldF t (4 * i)

/-- Stage 7 (R324). -/
def stage7 (v : OutputShow) (code : Nat) (u : F32) : F32 :=
  let p := F32.mul u (F32.ofInt 4095)
  let i := min (F32.toIntFloor p).toNat 4094
  let f := F32.sub p (F32.ofInt i)
  let a := v.curvePoint code i
  F32.add a (F32.mul f (F32.sub (v.curvePoint code (i + 1)) a))

/-! ### Stage 8: dither (R325, R326) -/

/-- The `k` low bits of `j` in reverse order. -/
def revBits : Nat → Nat → Nat
  | 0, _ => 0
  | k + 1, j => j % 2 * 2 ^ k + revBits k (j / 2)

/-- Stage 8 (R325): wire depth `w`, dither depth `k`, and `nd`, `h` of R326. -/
def stage8 (w k nd h : Nat) (c : F32) : Nat :=
  let m := 2 ^ w - 1
  let x := F32.mul c (F32.ofInt m)
  let q : Int :=
    if w = 24 || k = 0 then F32.toIntEven x
    else
      let j := (nd + h) % 2 ^ k
      let th := F32.div (F32.add (F32.ofInt (revBits k j)) (F32.ofRat 1 2)) (F32.ofInt ((2 ^ k : Nat) : Int))
      F32.toIntFloor (F32.add x th)
  (clampInt q 0 m).toNat

/-- The hash of a wire slot (R326). -/
def slotHash (fixture offset : Nat) : Nat := (noiseHash 0 fixture offset 0 0).toNat

/-- The hash of a canvas pixel channel (R326). -/
def pixelHash (canvas x y ch : Nat) : Nat := (noiseHash 1 canvas (y * 16384 + x) ch 0).toNat

/-! ### Stage 9: derating (R327 to R330) -/

/-- Stage 9 (R330): the quantised value under the applied factor. -/
def stage9 (factor : F32) (q : Nat) : Nat :=
  (q * (F32.toIntEven (F32.mul factor (F32.ofInt 65536))).toNat + 32768) / 65536

def tsKind (r : Bytes) : Nat := fld r 2 1
def tsMaxAge (r : Bytes) : Nat := if fld r 4 2 = 0 then 120 else fld r 4 2
def tsPort (r : Bytes) : Nat := fld r 8 1
def tsSensor (r : Bytes) : Nat := fld r 9 1
def tsUid (r : Bytes) : Nat := beNat (slice r 10 6)
def tsTile (r : Bytes) : Nat := fld r 10 2
def tsP1 (r : Bytes) : F32 := fldF r 0x10
def tsP2 (r : Bytes) : F32 := fldF r 0x14
def tsP3 (r : Bytes) : F32 := fldF r 0x18

/-- The value of an RDM reading (table "Temperature readings", KIND 1). -/
def rdmTemp (r : Bytes) (present : Int) : F32 := F32.add (F32.mul (F32.ofInt present) (tsP1 r)) (tsP2 r)

/-- The value of a tile reading in units of 1/16 °C (KIND 2, R357). -/
def tileTemp (t : Int) : F32 := F32.ofRat t 16

/-- The value of an NTC reading of ratio ρ (KIND 3), each operation rounded, from left to right (R36). -/
def ntcTemp (r : Bytes) (rho : F32) : F32 :=
  let arg := F32.div (F32.mul (F32.div rho (F32.sub F32.f1 rho)) (tsP3 r)) (tsP1 r)
  let inv := F32.add (F32.div F32.f1 (F32.ofRat 29815 100)) (F32.div (Config.elementary 3 [arg]) (tsP2 r))
  F32.sub (F32.div F32.f1 inv) (F32.ofRat 27315 100)

/-- ρ marks a short or an open (KIND 3). -/
def ntcInvalid (rho : F32) : Bool := F32.lt rho (F32.ofRat 1 1000) || F32.lt (F32.ofRat 999 1000) rho

def drSource (r : Bytes) : Nat := fld r 4 2
def drKnee (r : Bytes) : Int := fldS r 6 1
def drLossFloor (r : Bytes) : Bool := bit (fld r 7 1) 0
def drSlope (r : Bytes) : Nat := fld r 8 2
def drFloor (r : Bytes) : F32 := F32.ofRat (fld r 10 2) 65536

/-- The target factor of a valid source (R328). -/
def derateTarget (r : Bytes) (theta : F32) : F32 :=
  F32.max (drFloor r)
    (F32.sub F32.f1 (F32.mul (F32.ofRat (drSlope r) 10000) (F32.max F32.f0 (F32.sub theta (F32.ofInt (drKnee r))))))

/-- The applied factor moved towards its target by at most 0.02 × T_n (R329); `t` in timebase units. -/
def derateStep (f target : F32) (t : Nat) : F32 :=
  let d := F32.mul (F32.ofRat 1 50) (F32.ofRat t (65536 * 1000000000))
  if F32.lt f target then F32.min target (F32.add f d) else F32.max target (F32.sub f d)

/-! ### Stage 10: safety groups (R331 to R334) -/

def smGroup (r : Bytes) : Nat := fld r 0 2
def smKind (r : Bytes) : Nat := fld r 2 1
def smOp (r : Bytes) : Nat := fld r 3 1
def smFixture (r : Bytes) : Nat := fld r 4 4
def smPort (r : Bytes) : Nat := fld r 8 1
def smUid (r : Bytes) : Nat := beNat (slice r 10 6)
def smCanvas (r : Bytes) : Nat := fld r 4 1
def smRect (r : Bytes) : Rect := ⟨fld r 8 2, fld r 10 2, fld r 12 2, fld r 14 2⟩
def smLane (r : Bytes) : Nat := fld r 4 1
def smTile (r : Bytes) : Nat := fld r 6 2
def smFirst (r : Bytes) : Nat := fld r 8 4
def smCount (r : Bytes) : Nat := fld r 12 4
def smOutput (r : Bytes) : Nat := fld r 4 1

/-- The fail value of a group at a wire depth (R334). -/
def failAt (g : SafetyGroup) (w : Nat) : Nat :=
  if g.failState = 0 then 0
  else if w = 8 then g.failValue / 256
  else if w = 16 then g.failValue
  else g.failValue * 256 + g.failValue / 256

/-- What a member of the given FAILED groups shows. Where groups ask for different values the spec names
none of them: one of the values, not known which (assumption 36). -/
def failShow (gs : List SafetyGroup) (w : Nat) : Option Nat :=
  match (gs.map fun g => failAt g w).eraseDups with
  | [] => none
  | [x] => some x
  | x :: xs => some ((x :: xs).getD (Config.failChoice (x :: xs) % (xs.length + 1)) x)

/-- The member records of a group that hold fixture `f`. -/
def OutputShow.fixtureGroups (v : OutputShow) (f : Nat) : List Nat :=
  ((v.members.filter fun r => smKind r == 0 && smFixture r == f).map smGroup).eraseDups

/-- The groups that hold PWM output `j`. -/
def OutputShow.pwmGroups (v : OutputShow) (j : Nat) : List Nat :=
  ((v.members.filter fun r => smKind r == 3 && smOutput r == j).map smGroup).eraseDups

/-- A member record names pixel (x, y) of canvas `k` ("The pixels of a group"). -/
def memberPixel (cv : CanvasShow) (k x y : Nat) (r : Bytes) : Bool :=
  match smKind r with
  | 0 => match cv.pixmaps.find (smFixture r) with
    | some m => m.canvas == k && m.rect.has x y
    | none => false
  | 1 => smCanvas r == k && (smRect r).has x y
  | 2 => match cv.segments.find (smLane r), cv.canvases.find k with
    | some s, some c => s.canvas == k
        && (List.range (smCount r)).any fun i => laneXY c.scan s.rects (smFirst r + i) == some (x, y)
    | _, _ => false
  | _ => false

/-- The groups that hold pixel (x, y) of canvas `k`. -/
def OutputShow.pixelGroups (v : OutputShow) (cv : CanvasShow) (k x y : Nat) : List Nat :=
  ((v.members.filter (memberPixel cv k x y)).map smGroup).eraseDups

/-- The member record through which a group holds a pixel of a rectangle (R332, kind 4). -/
def OutputShow.rectMember (v : OutputShow) (cv : CanvasShow) (k : Nat) (rect : Rect) (g : Nat) : Option Bytes :=
  v.members.find? fun r => smGroup r == g &&
    (List.range rect.h).any fun j => (List.range rect.w).any fun i => memberPixel cv k (rect.x + i) (rect.y + j) r

/-! ### CURVE_LOAD, OUTPUT_GROUP_SET (R340, R341) -/

/-- A curve code has a table in the view (R323). -/
def OutputShow.curveDefined (v : OutputShow) (code : Nat) : Bool := code ≤ 5 || v.curves.has code

/-- The checks of CURVE_LOAD; `data` are the entries read. DELETE of a curve that is not loaded answers
BAD_ARGUMENT, as PROFILE_DELETE does (DEDUCED, assumption 37). -/
def checkCurveLoad (v : OutputShow) (p data : Bytes) : CheckRes :=
  let code := fld p 0 1
  if bit (fld p 1 1) 0 then
    if !v.curves.has code then { status := .badArgument }
    else if v.groups.any (fun e => e.2.light == code || e.2.other == code) then { status := .conflict }
    else {}
  else if (records 4 4096 data).all (fun e => (fldF e 0).inUnit) then {} else { status := .badArgument }

/-- CURVE_LOAD defines, replaces or deletes a host curve. -/
def applyCurveLoad (v : OutputShow) (p data : Bytes) : OutputShow :=
  { v with curves := if bit (fld p 1 1) 0 then v.curves.del (fld p 0 1) else v.curves.put (fld p 0 1) data }

/-- The entries of OUTPUT_GROUP_SET. -/
def groupEntries (p : Bytes) : List Bytes := records 8 (fld p 0 4) (p.drop 8)

/-- Reserved bytes of the entries are zero. -/
def outputGroupZeros (p : Bytes) : Bool := (groupEntries p).all fun r => zeroAt r 5 3

/-- The checks of OUTPUT_GROUP_SET. -/
def checkOutputGroupSet (v : OutputShow) (p : Bytes) : CheckRes :=
  let rs := groupEntries p
  if !outputGroupZeros p then { status := .badArgument }
  else if rs.any (fun r => 4095 < fld r 0 2 || !(([0, 2, 4, 6, 8, 0xFF] : List Nat).contains (fld r 4 1))) then { status := .outOfRange }
  else if rs.any (fun r => fld r 4 1 != 0xFF && !(v.curveDefined (fld r 2 1) && v.curveDefined (fld r 3 1))) then
    { status := .conflict }
  else {}

/-- OUTPUT_GROUP_SET applies its entries in order. -/
def applyOutputGroupSet (v : OutputShow) (p : Bytes) : OutputShow :=
  (groupEntries p).foldl (fun v r =>
    { v with groups := if fld r 4 1 = 0xFF then v.groups.del (fld r 0 2)
        else v.groups.put (fld r 0 2) ⟨fld r 2 1, fld r 3 1, fld r 4 1⟩ }) v

/-! ### TEMP_SOURCE_SET, DERATE_SET (R342) -/

/-- The records of TEMP_SOURCE_SET. -/
def tempRecords (p : Bytes) : List Bytes := records 32 (fld p 0 4) (p.drop 8)

/-- Reserved and zero fields of a temperature source record. -/
def tempRecZeros (r : Bytes) : Bool :=
  zeroAt r 3 1 && zeroAt r 6 2 && zeroAt r 0x1C 4 &&
    (match tsKind r with
      | 0 => zeroAt r 0x10 12
      | 1 => zeroAt r 0x18 4
      | 2 => zeroAt r 9 1 && zeroAt r 12 4 && zeroAt r 0x10 12
      | 3 => zeroAt r 9 7
      | _ => true)

/-- The ranges of a temperature source record. -/
def tempRecRange (r : Bytes) : Bool :=
  fld r 0 2 ≤ 4095 && tsKind r ≤ 3 && fld r 4 2 ≤ 3600 &&
    (match tsKind r with
      | 0 => true
      | 1 => tsPort r ≤ 15
      | 2 => tsPort r ≤ 63 && tsTile r ≤ 1023
      | _ => tsPort r ≤ 63 && F32.lt F32.f0 (tsP1 r) && F32.le (F32.ofInt 1000) (tsP2 r)
          && F32.le (tsP2 r) (F32.ofInt 10000) && F32.lt F32.f0 (tsP3 r))

/-- A derating record or a calibration record names a source. -/
def sourceNamed (v : OutputShow) (cv : ColourShow) (s : Nat) : Bool :=
  v.derates.any (fun e => drSource e.2 == s) || cv.calib.any (fun e => calTempSource e.2 == s)

/-- The checks of TEMP_SOURCE_SET. -/
def checkTempSourceSet (v : OutputShow) (cv : ColourShow) (p : Bytes) : CheckRes :=
  let rs := tempRecords p
  if rs.any (fun r => !tempRecZeros r) then { status := .badArgument }
  else if rs.any (fun r => !tempRecRange r) then { status := .outOfRange }
  else if rs.any (fun r => tsKind r == 0 && sourceNamed v cv (fld r 0 2)) then { status := .conflict }
  else {}

/-- TEMP_SOURCE_SET applies its records in order. -/
def applyTempSourceSet (v : OutputShow) (p : Bytes) : OutputShow :=
  (tempRecords p).foldl (fun v r =>
    { v with temps := if tsKind r = 0 then v.temps.del (fld r 0 2) else v.temps.put (fld r 0 2) r }) v

/-- The records of DERATE_SET. -/
def derateRecords (p : Bytes) : List Bytes := records 16 (fld p 0 4) (p.drop 8)

/-- DERATE_SET applies its records in order. -/
def applyDerateSet (v : OutputShow) (p : Bytes) : OutputShow :=
  (derateRecords p).foldl (fun v r =>
    { v with derates := if drSource r = 0xFFFF then v.derates.del (fld r 0 4) else v.derates.put (fld r 0 4) r }) v

/-- Fixture and region derating records are within their limits (R342). -/
def OutputShow.deratesFit (v : OutputShow) : Bool :=
  (v.derates.filter fun e => e.1 < 2 ^ 31).length ≤ 131072 && (v.derates.filter fun e => 2 ^ 31 ≤ e.1).length ≤ 65536

/-- Reserved bits and bytes of a derating record. -/
def derateZeros (r : Bytes) : Bool := bits (fld r 0 4) 17 14 == 0 && fld r 7 1 ≤ 1 && zeroAt r 12 4

/-- The ranges of a derating record, a removing one included (DEDUCED, assumption 90). -/
def derateRange (r : Bytes) : Bool :=
  (drSource r ≤ 4095 || drSource r == 0xFFFF) && -40 ≤ drKnee r && drKnee r ≤ 125 && 1 ≤ drSlope r && drSlope r ≤ 10000
    && (!bit (fld r 0 4) 31 || bits (fld r 0 4) 0 17 ≤ 65535)

/-- The checks of DERATE_SET. -/
def checkDerateSet (v : OutputShow) (p : Bytes) : CheckRes :=
  let rs := derateRecords p
  if rs.any (fun r => !derateZeros r) then { status := .badArgument }
  else if rs.any (fun r => !derateRange r) then { status := .outOfRange }
  else if rs.any (fun r => drSource r != 0xFFFF && !v.temps.has (drSource r)) then { status := .conflict }
  else if !(applyDerateSet v p).deratesFit then { status := .noResource }
  else {}

/-! ### SAFETY_GROUP_SET, SAFETY_MEMBER_SET, SAFETY_CLEAR (R343, R344) -/

/-- The entries of SAFETY_GROUP_SET. -/
def safetyEntries (p : Bytes) : List Bytes := records 8 (fld p 0 4) (p.drop 8)

/-- Flags and reserved bytes of the entries. -/
def safetyGroupZeros (p : Bytes) : Bool := (safetyEntries p).all fun r => fld r 2 1 ≤ 31 && zeroAt r 6 2

/-- The checks of SAFETY_GROUP_SET. -/
def checkSafetyGroupSet (p : Bytes) : CheckRes :=
  let rs := safetyEntries p
  if !safetyGroupZeros p then { status := .badArgument }
  else if rs.any (fun r => 1023 < fld r 0 2 || 1 < fld r 3 1) then { status := .outOfRange }
  else {}

/-- SAFETY_GROUP_SET applies its entries in order; a removed group releases its members (R333). -/
def applySafetyGroupSet (v : OutputShow) (p : Bytes) : OutputShow :=
  (safetyEntries p).foldl (fun v r =>
    let g := fld r 0 2
    if bit (fld r 2 1) 0 then { v with safety := v.safety.put g ⟨fld r 2 1, fld r 3 1, fld r 4 2⟩ }
    else { v with safety := v.safety.del g, members := v.members.filter (fun m => smGroup m != g) }) v

/-- A member record without its OP. -/
def memberKey (r : Bytes) : Bytes := r.take 3 ++ [0] ++ r.drop 4

/-- A rectangle or tile member fits its canvas or lane (R343). -/
def memberFits (cv : CanvasShow) (r : Bytes) : Bool :=
  match smKind r with
  | 1 => match cv.canvases.find (smCanvas r) with
    | some c => (smRect r).inside c
    | none => false
  | 2 => match cv.segments.find (smLane r) with
    | some s => smFirst r + smCount r ≤ s.pixels
    | none => smFirst r + smCount r == 0
  | _ => true

/-- Codes and reserved fields of a member record. -/
def memberZeros (r : Bytes) : Bool :=
  smKind r ≤ 3 && smOp r ≤ 1 &&
    (match smKind r with
      | 0 => zeroAt r 9 1 && smFixture r < 2 ^ 17
      | 1 => zeroAt r 5 3
      | 2 => zeroAt r 5 1
      | _ => zeroAt r 5 11)

/-- The ranges of a member record. -/
def memberRange (r : Bytes) : Bool :=
  smGroup r ≤ 1023 &&
    (match smKind r with
      | 0 => smPort r ≤ 15 || smPort r == 0xFF
      | 1 => smCanvas r ≤ 7
      | 2 => smLane r ≤ 63 && smTile r ≤ 1023
      | _ => smOutput r ≤ 31)

/-- One member record applied; a second addition of a held member adds nothing. -/
def applyMemberRec (v : OutputShow) (r : Bytes) : OutputShow :=
  let k := memberKey r
  if smOp r = 1 then { v with members := v.members.filter (· != k) }
  else if v.members.contains k then v
  else { v with members := v.members ++ [k] }

/-- The check of one member record in the view it finds. -/
def checkMemberRec (v : OutputShow) (cv : CanvasShow) (r : Bytes) : Status :=
  if !memberZeros r then .badArgument
  else if !memberRange r then .outOfRange
  else if !v.safety.has (smGroup r) || !memberFits cv r then .conflict
  else if smOp r = 0 && !v.members.contains (memberKey r) && 262144 ≤ v.members.length then .noResource
  else .ok

/-- The records applied in order, each checked in the view that the earlier ones left. -/
def runMemberRecs (cv : CanvasShow) (v : OutputShow) : List Bytes → Nat → (Nat × Status) ⊕ OutputShow
  | [], _ => .inr v
  | r :: rs, i => if checkMemberRec v cv r = .ok then runMemberRecs cv (applyMemberRec v r) rs (i + 1)
      else .inl (i, checkMemberRec v cv r)

/-- The checks of SAFETY_MEMBER_SET, with FAIL_INDEX and the member records in the view. -/
def checkSafetyMemberSet (v : OutputShow) (cv : CanvasShow) (payload data : Bytes) : CheckRes :=
  match runMemberRecs cv v (sourceRecords 16 payload data) 0 with
  | .inl (i, st) => recordRes st i v.members.length
  | .inr v' => recordRes .ok 0xFFFFFFFF v'.members.length

/-- SAFETY_MEMBER_SET applies its records in order. -/
def applySafetyMemberSet (v : OutputShow) (payload data : Bytes) : OutputShow :=
  (sourceRecords 16 payload data).foldl applyMemberRec v

/-- The entries of SAFETY_CLEAR. -/
def clearEntries (p : Bytes) : List Bytes := records 4 (fld p 0 4) (p.drop 8)

/-- Reserved bytes of the entries are zero. -/
def safetyClearZeros (p : Bytes) : Bool := (clearEntries p).all fun r => zeroAt r 3 1

/-- The checks of SAFETY_CLEAR. -/
def checkSafetyClear (v : OutputShow) (p : Bytes) : CheckRes :=
  let rs := clearEntries p
  if !safetyClearZeros p then { status := .badArgument }
  else if rs.any (fun r => 1023 < fld r 0 2 || 1 < fld r 2 1) then { status := .outOfRange }
  else if rs.any (fun r => !v.safety.has (fld r 0 2)) then { status := .conflict }
  else {}

/-- SAFETY_CLEAR stages its entries, which act at the latch point of the commit (R344). -/
def applySafetyClear (v : OutputShow) (p : Bytes) : OutputShow :=
  { v with clears := v.clears ++ (clearEntries p).map fun r => (fld r 0 2, fld r 2 1) }

/-- The commit checks of the chapter: limits first, then the rest ("Commands" of the chapter). -/
def outputCommitCheck (v : OutputShow) (cv : CanvasShow) : Status :=
  if !v.deratesFit || 262144 < v.members.length then .noResource
  else if v.groups.all (fun e => v.curveDefined e.2.light && v.curveDefined e.2.other)
      && v.derates.all (fun e => v.temps.has (drSource e.2))
      && v.members.all (fun r => v.safety.has (smGroup r) && memberFits cv r)
      && v.clears.all (fun c => v.safety.has c.1) then .ok
  else .conflict

end Sys2Proof.Machine
end

