-- ==== Sys2Proof/Machine/ShowPorts.lean ====
section
/-!
DEFINITION. Machine/ShowPorts.lean: lanes, DMX ports and PWM outputs as show state, and the arithmetic
of their frames, packets and periods (chapter "Output ports: pixel lanes, DMX and RDM, local PWM").
-/

namespace Sys2Proof.Machine

/-! ### LANE_SET, DMX_PORT_SET, PWM_SET (R372) -/

/-- LANE_SET stores a lane's settings. -/
def applyLaneSet (v : PortShow) (p : Bytes) : PortShow :=
  { v with lanes := v.lanes.put (fld p 0 1) ⟨fld p 1 1 == 1, fld p 2 2⟩ }

/-- The checks of DMX_PORT_SET on its ranges (table "DMX transmit timing"). -/
def checkDmxPortSet (p : Bytes) : CheckRes :=
  if 15 < fld p 0 1 || fld p 2 2 < 24 || 512 < fld p 2 2 || fld p 4 2 < 92 || 1000 < fld p 4 2
      || fld p 6 2 < 12 || 1000 < fld p 6 2 || 100 < fld p 8 1 then { status := .outOfRange } else {}

/-- DMX_PORT_SET stores a port's settings. -/
def applyDmxPortSet (v : PortShow) (p : Bytes) : PortShow :=
  let c : DmxCfg := ⟨fld p 1 1 == 1, fld p 2 2, fld p 4 2, fld p 6 2, fld p 8 1, beNat (slice p 0x0A 6)⟩
  { v with dmx := v.dmx.put (fld p 0 1) c }

/-- The PWM settings in a request. -/
def pwmCfgOf (p : Bytes) : PwmCfg :=
  { bitCount := fld p 1 1, divider := fld p 2 2,
    offset := if fld p 4 4 = 0xFFFFFFFF then none else some (fld p 4 4),
    flags := fld p 8 1, senseDelay := if fld p 9 1 = 0 then 5 else fld p 9 1 }

/-- The period P_j in PWM counts (R365). -/
def PwmCfg.period (c : PwmCfg) : Nat := 2 ^ c.bitCount * c.divider

/-- The offset of output `j`, its default being floor(j × P / 32) (R367). -/
def PwmCfg.offsetOf (c : PwmCfg) (j : Nat) : Nat := c.offset.getD (j * c.period / 32)

/-- The checks of PWM_SET on its ranges, an OFFSET of P or more included (R372). -/
def checkPwmSet (p : Bytes) : CheckRes :=
  let c := pwmCfgOf p
  if 31 < fld p 0 1 || c.bitCount < 8 || 16 < c.bitCount || c.divider = 0 || 256 < c.divider
      || c.period ≤ c.offsetOf 0 || 250 < c.senseDelay then { status := .outOfRange } else {}

/-- PWM_SET stores an output's settings. -/
def applyPwmSet (v : PortShow) (p : Bytes) : PortShow := { v with pwm := v.pwm.put (fld p 0 1) (pwmCfgOf p) }

/-- The commit checks of R360: footprints within SLOTS, inputs on input ports, outputs on output ports. -/
def portsCommitOk (v : PortShow) (pv : PatchState) (iv : InputShow) : Bool :=
  (pv.patch.all fun e => e.2.destKind != 2 ||
    let c := v.dmx.getD e.2.dest {}
    !c.input && (match pv.span e.2 with
      | some sp => sp.2.2 ≤ c.slots + 1
      | none => true))
  && iv.dmxIn.all (fun e => (v.dmx.getD e.1 {}).input)

/-- The limits of R302 and R303 for every lane, at a show rate. -/
def lanesFit (v : CanvasShow) (pv : PortShow) (rate : Nat) : Bool :=
  rate == 0 || v.segments.all fun e => laneFits v rate (if (pv.lanes.getD e.1 {}).rgb then 6 else 8) e.2

/-- The slice-mode bound on the gap (R303). -/
def sliceGapsOk (v : CanvasShow) : Bool :=
  v.slices.all fun e => !e.2.enable || match v.canvases.find e.1 with
    | some c => c.gapPermille ≤ 100
    | none => true

/-- Every slice of every slice-mode canvas begins its scan in time on every lane (R126). -/
def sliceTimingOk (v : CanvasShow) (iv : InputShow) (pv : PortShow) (rate : Nat) : Bool :=
  rate == 0 || v.slices.all fun e => !e.2.enable ||
    match v.canvases.find e.1, iv.videoIn.find e.2.input with
    | some c, some cfg => v.segments.all fun s => s.2.canvas != e.1 ||
        sliceScanOk c e.2 (vidHeight cfg) (shortestExact rate) (if (pv.lanes.getD s.1 {}).rgb then 6 else 8) s.2
    | _, _ => true

/-- Every canvas in slice mode meets R123. -/
def slicesAllowed (v : CanvasShow) (iv : InputShow) (rate : Nat) : Bool :=
  v.slices.all fun e => !e.2.enable || rate == 0 || sliceAllowed v iv rate e.1 e.2

/-! ### DMX packets (R359) -/

/-- The duration of a packet in µs. -/
def DmxCfg.packetUs (c : DmxCfg) : Nat := c.breakUs + c.mabUs + 44 * (c.slots + 1) + c.interslotUs * c.slots

/-! ### PWM duty (R366) -/

/-- The duty of wire value `v` of width `w` at BITS `b`. -/
def pwmDuty (b w v : Nat) : Nat := (v * 2 ^ (b + 1) + (2 ^ w - 1)) / (2 * (2 ^ w - 1))

/-- The active time of an output in PWM counts (R366). -/
def PwmCfg.active (c : PwmCfg) (w v : Nat) : Nat := pwmDuty c.bitCount w v * c.divider

/-- SENSE_DELAY in PWM counts of 5 ns: units of 0.2 µs (R369). -/
def PwmCfg.senseCounts (c : PwmCfg) : Nat := 40 * c.senseDelay

/-! ### Lane frames (R348, R349) -/

/-- The fields of a lane frame header. -/
structure LaneHeader where
  type_ : Nat
  flags : Nat := 0
  canvas : Nat := 0
  lane : Nat
  frame : Nat
  content : Nat := 0
  pixels : Nat := 0
  format : Nat := 0
  countdown : Nat := 0
  holdMs : Nat := 0
  periodNs : Nat := 0
  gapNs : Nat := 0
  deriving DecidableEq, Repr

/-- The 40 header bytes of R348. -/
def LaneHeader.bytes (h : LaneHeader) : Bytes :=
  bytesLE 1 h.type_ ++ bytesLE 1 h.flags ++ bytesLE 1 h.canvas ++ bytesLE 1 h.lane ++ bytesLE 8 h.frame
    ++ bytesLE 8 h.content ++ bytesLE 4 h.pixels ++ bytesLE 1 h.format ++ bytesLE 1 h.countdown
    ++ bytesLE 2 h.holdMs ++ bytesLE 4 h.periodNs ++ bytesLE 4 h.gapNs ++ zeros 4

/-- A header with its CRC (R348). -/
def LaneHeader.encoded (h : LaneHeader) : Bytes := h.bytes ++ bytesLE 4 (crc32c h.bytes).toNat

/-- Pixel bytes in blocks of 512 pixels of `b` bytes from block `i` on, each followed by its CRC-32C (R349), inverted for a block
that holds a poisoned word (R479). -/
def blocks (b : Nat) (bad : List Nat) : Nat → Nat → Bytes → Bytes
  | 0, _, _ => []
  | fuel + 1, i, bs =>
    if bs.isEmpty then []
    else
      let blk := bs.take (512 * b)
      let crc := (crc32c blk).toNat
      blk ++ bytesLE 4 (if bad.contains i then 0xFFFFFFFF - crc else crc) ++ blocks b bad fuel (i + 1) (bs.drop (512 * b))

/-- The block of a TEST frame (R349). -/
def testBlock (frame : Nat) : Bytes := (List.range 256).map fun i => BitVec.ofNat 8 (i + frame % 256)

/-- A duration of timebase units to the nearest ns. -/
def unitsToNs (u : Int) : Nat := (roundDiv u 65536).toNat

end Sys2Proof.Machine
end

