-- ==== Sys2Proof/Machine/ShowNet.lean ====
section
/-!
DEFINITION. Machine/ShowNet.lean: sACN transmission as show state (R392 to R396) and the partition of
a group (R512, R526).
-/

namespace Sys2Proof.Machine

/-! ### SACN_TX_CONFIG, SACN_TX_UNIVERSE_SET (R405) -/

def NetShow.cid (v : NetShow) : Nat := beNat (slice v.config 0 16)
def NetShow.sourceName (v : NetShow) : Bytes := slice v.config 0x10 64
def NetShow.discovery (v : NetShow) : Bool := bit (fld v.config 0x50 1) 0
def NetShow.ipv6 (v : NetShow) : Bool := bit (fld v.config 0x50 1) 1
def NetShow.mains60 (v : NetShow) : Bool := bit (fld v.config 0x50 1) 2

/-- Flags and reserved bytes of SACN_TX_CONFIG. -/
def sacnTxZeros (p : Bytes) : Bool := fld p 0x50 1 ≤ 7 && zeroAt p 0x4F 1 && zeroAt p 0x53 1 && zeroAt p 0x56 2

/-- The checks of SACN_TX_CONFIG. -/
def checkSacnTxConfig (p : Bytes) : CheckRes :=
  if !sacnTxZeros p then { status := .badArgument }
  else if 200 < fld p 0x51 1 || 15 < fld p 0x52 1 || fld p 0x54 2 = 0 || 240 < fld p 0x54 2 then { status := .outOfRange }
  else {}

/-- The transmit records of a request. -/
def txRecords (p : Bytes) : List Bytes := records 16 (fld p 0 4) (p.drop 8)

/-- Flags and reserved bytes of a transmit record. -/
def txZeros (r : Bytes) : Bool := fld r 2 1 ≤ 7 && zeroAt r 7 1 && zeroAt r 12 4

/-- The checks of SACN_TX_UNIVERSE_SET. -/
def checkSacnTxUniverseSet (p : Bytes) : CheckRes :=
  let rs := txRecords p
  if rs.any (fun r => !txZeros r) then { status := .badArgument }
  else if rs.any (fun r => fld r 0 2 = 0 || 63999 < fld r 0 2 || (bit (fld r 2 1) 0 &&
      (15 < fld r 3 1 || fld r 4 2 == 0 || 240 < fld r 4 2 || 200 < fld r 6 1 || 63999 < fld r 8 2
        || fld r 10 2 == 0 || 512 < fld r 10 2))) then { status := .outOfRange }
  else {}

/-- SACN_TX_UNIVERSE_SET applies its records in order. -/
def applySacnTxUniverseSet (v : NetShow) (p : Bytes) : NetShow :=
  (txRecords p).foldl (fun v r =>
    { v with universes := if bit (fld r 2 1) 0 then v.universes.put (fld r 0 2) r else v.universes.del (fld r 0 2) }) v

/-- What a universe transmits with: ports, rate, priority, sync address, slots and flags. -/
structure TxUniverse where
  ports : Nat
  rateHz : Nat
  priority : Nat
  sync : Nat
  slots : Nat
  forceSync : Bool
  always : Bool
  deriving DecidableEq, Repr

/-- The settings of a universe: its record, or the defaults. -/
def NetShow.tx (v : NetShow) (u : Nat) : TxUniverse :=
  match v.universes.find u with
  | some r => ⟨fld r 3 1, fld r 4 2, fld r 6 1, fld r 8 2, fld r 10 2, bit (fld r 2 1) 1, bit (fld r 2 1) 2⟩
  | none => ⟨bits (fld v.config 0x52 1) 0 4, fld v.config 0x54 2, fld v.config 0x51 1, 0, 512, false, false⟩

/-- The transmitted universes, in ascending order ("sACN transmission"). -/
def NetShow.transmitted (v : NetShow) (pv : PatchState) : List Nat :=
  if v.cid = 0 then []
  else
    let named := pv.universes ++ (v.universes.filter fun e => (v.tx e.1).always && !pv.universes.contains e.1).map (·.1)
    sortBy (fun a b => decide (a ≤ b)) (named.filter fun u => (v.tx u).ports != 0)

/-- A universe of rate `r` is scheduled in frame `n` (R393). -/
def scheduled (r : Nat) (ab : Nat × Nat) (n : Nat) : Bool :=
  ab.2 ≤ r * ab.1 || (n != 0 && (n - 1) * r * ab.1 / ab.2 < n * r * ab.1 / ab.2)

/-- The frame length of a data packet, destination address to FCS (R392, R396). -/
def dataFrameLen (v6 : Bool) (slots : Nat) : Nat := 18 + (if v6 then 40 else 20) + 8 + 126 + slots

/-- The frame length of a synchronisation packet. -/
def syncFrameLen (v6 : Bool) : Nat := max 64 (18 + (if v6 then 40 else 20) + 8 + 49)

/-- The load of a frame in bits, with preamble and gap (R396). -/
def loadBits (len extra : Nat) : Nat := 8 * (len + extra + 20)

/-! ### PARTITION_SET (R512, R526) -/

/-- A partition: ranks of canvases, and ranges of fixtures with their rank. -/
structure Partition where
  canvasRank : List Nat := []
  ranges : List (Nat × Nat × Nat) := []
  deriving DecidableEq, Repr

/-- The ranges of a request: first fixture, count, rank. -/
def partRanges (p : Bytes) : List (Nat × Nat × Nat) :=
  (records 8 (fld p 8 4) (p.drop 0x10)).map fun r => (bits (fld r 0 4) 0 17, fld r 4 4, bits (fld r 0 4) 24 4)

/-- Ranges that share no fixture. -/
def rangesDisjoint : List (Nat × Nat × Nat) → Bool
  | [] => true
  | r :: rs => rs.all (fun r' => decide (r.1 + r.2.1 ≤ r'.1) || decide (r'.1 + r'.2.1 ≤ r.1)) && rangesDisjoint rs

/-- Reserved bits of the ranges are zero. -/
def partitionZeros (p : Bytes) : Bool :=
  (records 8 (fld p 8 4) (p.drop 0x10)).all fun r => bits (fld r 0 4) 17 7 == 0 && bits (fld r 0 4) 28 4 == 0

/-- The checks of PARTITION_SET. -/
def checkPartitionSet (env : CheckEnv) (p : Bytes) : CheckRes :=
  let rg := partRanges p
  if !partitionZeros p || !rangesDisjoint rg then
    { status := .badArgument }
  else if rg.any (fun r => r.2.1 == 0 || 131072 < r.2.1 || 131072 < r.1 + r.2.1 || env.ranks ≤ r.2.2)
      || (List.range 8).any (fun k => env.ranks ≤ fld p k 1) then { status := .outOfRange }
  else {}

/-- PARTITION_SET replaces the whole partition. -/
def partitionOf (p : Bytes) : Partition := ⟨(List.range 8).map fun k => fld p k 1, partRanges p⟩

/-- The rank of a fixture; one that the partition does not name belongs to rank 0 (R512). -/
def Partition.fixtureRank (v : Partition) (f : Nat) : Nat :=
  ((v.ranges.find? fun r => r.1 ≤ f && f < r.1 + r.2.1).map (·.2.2)).getD 0

/-- The rank of a canvas. -/
def Partition.canvas (v : Partition) (k : Nat) : Nat := v.canvasRank.getD k 0

/-- All members of a list agree. -/
def allSame (l : List Nat) : Bool := l.all (· == l.headD 0)

/-- The rank that renders a member of a safety group: the fixture's, the canvas's, or that of the fixture on the PWM output. -/
def Partition.memberRank (v : Partition) (pv : PatchState) (cv : CanvasShow) (r : Bytes) : Option Nat :=
  match smKind r with
  | 0 => some (v.fixtureRank (smFixture r))
  | 1 => some (v.canvas (smCanvas r))
  | 2 => (cv.segments.find (smLane r)).map fun s => v.canvas s.canvas
  | _ => (pv.patch.find? fun e => match pv.span e.2 with
      | some sp => e.2.destKind == 3 && sp.2.1 ≤ smOutput r && smOutput r < sp.2.2
      | none => false).map fun e => v.fixtureRank e.1

/-- The commit checks of R512, R280 and R331 on ranks. A port belongs to the rank of the fixtures on it,
so the first check asks that one port, one output and one universe hold fixtures of one rank (DEDUCED,
assumption 39). -/
def partitionOk (v : Partition) (pv : PatchState) (iv : InputShow) (lv : ColourShow) (cv : CanvasShow)
    (ov : OutputShow) : Bool :=
  let sameOn (l : List (Nat × Nat)) : Bool := l.all fun a => l.all fun b => a.1 != b.1 || a.2 == b.2
  let memberRank (r : Bytes) : Option Nat := v.memberRank pv cv r
  sameOn (pv.patch.filterMap fun e =>
      if e.2.destKind = 0 || e.2.destKind = 3 then none else some (e.2.destKind * 65536 + e.2.dest, v.fixtureRank e.1))
    && cv.pixmaps.all (fun e => v.fixtureRank e.1 == v.canvas e.2.canvas)
    && lv.feeders.all (fun f =>
        allSame ((lv.members.filter fun m => m.2.1 == f.1).map (fun m => v.fixtureRank m.1)
          ++ (lv.regions.filter fun r => regFeeder r.2 == f.1).map (fun r => v.canvas (regCanvas r.2))))
    && ov.safety.all (fun g => allSame ((ov.members.filter fun m => smGroup m == g.1).filterMap memberRank))
    && iv.maps.all (fun m => m.2.canvas ≤ 7)

/-! ### The transmit load (R396) -/

/-- The rank that sends universe `u`: its fixtures' rank, or rank 0 for one without fixtures (R512). -/
def Partition.universe_ (v : Partition) (pv : PatchState) (u : Nat) : Nat :=
  match pv.patch.find? fun e => e.2.destKind == 1 && e.2.dest == u with
  | some e => v.fixtureRank e.1
  | none => 0

/-- The load of one port times A, in bit/s, from the universes `us`: those of the port at min(r, show rate), and each
synchronisation address at the rate of its fastest universe there (DEDUCED, assumption 38). -/
def NetShow.portLoad (v : NetShow) (us : List Nat) (ab : Nat × Nat) (port extra : Nat) : Nat :=
  let us := us.filter fun u => bit (v.tx u).ports port
  let rate (r : Nat) : Nat := min (r * ab.1) ab.2
  let syncs := ((us.map fun u => (v.tx u).sync).filter (· != 0)).eraseDups
  (us.map fun u => loadBits (dataFrameLen v.ipv6 (v.tx u).slots) extra * rate (v.tx u).rateHz).sum
    + (syncs.map fun a => loadBits (syncFrameLen v.ipv6) extra
        * rate (((us.filter fun u => (v.tx u).sync == a).map fun u => (v.tx u).rateHz).foldl max 0)).sum

/-- The device of rank `k`, which sends the universes `us`, keeps to the load limits. Its ports count as the checking device's do; their
line rates are known for the device's own rank alone. -/
def NetShow.rankLoadOk (v : NetShow) (env : CheckEnv) (ab : Nat × Nat) (us : List Nat) (k : Nat) : Bool :=
  let port (p : Nat) : Nat × Nat := env.netPorts.getD p (0, 0)
  let loads := (List.range env.netPorts.length).map fun p => v.portLoad us ab p (port p).2
  loads.sum ≤ 20000000000 * ab.1
    && (k != env.rank || (List.range loads.length).all fun p => loads.getD p 0 * 10 ≤ (port p).1 * 9 * ab.1)

/-- The commit checks of R396, in a group for the device of every rank. -/
def netCommitCheck (v : NetShow) (pv : PatchState) (part : Partition) (env : CheckEnv) : Status :=
  let us := v.transmitted pv
  let syncs := ((us.map fun u => (v.tx u).sync).filter (· != 0)).eraseDups
  let ab := if env.showRate = 0 then (1, 1000000) else rateAB env.showRate v.mains60
  if 16384 < us.length || 256 < syncs.length
      || (List.range env.ranks).any (fun k => !v.rankLoadOk env ab (us.filter fun u => part.universe_ pv u == k) k) then
    .noResource
  else if pv.patch.all (fun e => e.2.destKind != 1 ||
      match pv.span e.2 with
      | some sp => sp.2.2 ≤ (v.tx e.2.dest).slots + 1
      | none => true) then .ok
  else .conflict

end Sys2Proof.Machine
end

