-- ==== Sys2Proof/Machine/ShowState.lean ====
section
/-!
DEFINITION. Machine/ShowState.lean: the whole show state of an epoch, and what each show write checks
and does (R30, R77, R522, R582, R583).
-/

namespace Sys2Proof.Machine

/-- The show state of one epoch or of a transaction's view. `objects` holds the bytes of every Cotillion
object, by object ID (R522). `timing` is a timing change that this view stages (R133). -/
structure ShowState where
  patch : PatchState := {}
  cues : CueState := {}
  inputs : InputShow := {}
  colour : ColourShow := {}
  canvas : CanvasShow := {}
  output : OutputShow := {}
  ports : PortShow := {}
  net : NetShow := {}
  part : Partition := {}
  timing : Option TimingChange := none
  objects : Map Bytes := []
  deriving DecidableEq, Repr

/-! ### Commands -/

/-- The show writes of the command set. -/
inductive ShowCmd where
  | timingSet | sliceModeSet | profileLoad | profileDelete | patchWrite | patchClear | paramWrite
  | cuelistLoad | sourceDelete | effectDefine | effectTableLoad | playbackAction
  | layerSet | policySet | sacnRxSet | dmxInSet | videoInSet | videoSampleSet | videoMapSet
  | calibSet | regionSet | feederSet | feederMemberSet
  | canvasSet | segmentSet | pixelMapSet | rectCheckSet
  | curveLoad | outputGroupSet | tempSourceSet | derateSet | safetyGroupSet | safetyMemberSet | safetyClear
  | laneSet | dmxPortSet | pwmSet | sacnTxConfig | sacnTxUniverseSet | partitionSet
  deriving DecidableEq, Repr

/-- Each show write with its command code. -/
def showCodes : List (Nat × ShowCmd) :=
  [(0x0202, .timingSet), (0x0204, .sliceModeSet), (0x0301, .profileLoad), (0x0302, .profileDelete),
   (0x0310, .patchWrite), (0x0311, .patchClear), (0x0320, .paramWrite), (0x0401, .cuelistLoad),
   (0x0402, .sourceDelete), (0x0410, .effectDefine), (0x0411, .effectTableLoad), (0x0420, .playbackAction),
   (0x0501, .layerSet), (0x0502, .policySet), (0x0510, .sacnRxSet), (0x0511, .dmxInSet), (0x0530, .videoInSet),
   (0x0531, .videoSampleSet), (0x0532, .videoMapSet), (0x0601, .calibSet), (0x0610, .regionSet),
   (0x0620, .feederSet), (0x0621, .feederMemberSet), (0x0701, .canvasSet), (0x0702, .segmentSet),
   (0x0703, .pixelMapSet), (0x0704, .rectCheckSet), (0x0801, .curveLoad), (0x0802, .outputGroupSet),
   (0x0810, .tempSourceSet), (0x0811, .derateSet), (0x0820, .safetyGroupSet), (0x0821, .safetyMemberSet),
   (0x0822, .safetyClear), (0x0901, .laneSet), (0x0910, .dmxPortSet), (0x0920, .pwmSet),
   (0x0A20, .sacnTxConfig), (0x0A21, .sacnTxUniverseSet), (0x0D10, .partitionSet)]

/-- The show write of a code. -/
def showCmd (code : Nat) : Option ShowCmd := (showCodes.find? (fun e => e.1 == code)).map (·.2)

/-! ### Timing (R133) -/

/-- The timing block of a payload (table "Timing block"); SLEW_PPM 0 selects 1,000. -/
def timingOf (p : Bytes) : TimingBlock :=
  let fl := fld p 3 1
  { refKind := fld p 0 1, rateCode := fld p 1 1, refRate := fld p 2 1, twoFields := bit fl 0, dropFrame := bit fl 1,
    wordClock := bit fl 2, offsetNs := fldS p 4 4, presDelayNs := fld p 8 4,
    slewPpm := if fld p 12 2 = 0 then 1000 else fld p 12 2, mtrPoint := fld p 14 1, mtrPhase := fld p 15 1,
    wclk := fld p 16 1 }

/-- A rate of the fractional family (R97). -/
def fractional (code : Nat) : Bool := [0x01, 0x04, 0x06, 0x09, 0x0E, 0x12].contains code

/-- M of R97: the show rate is M times the reference rate, 1 to 10, of the same family. -/
def rateMultiple (show_ ref : Nat) : Option Nat :=
  match tablePeriod show_, tablePeriod ref with
  | some a, some b =>
    if fractional show_ != fractional ref then none
    else (List.range' 1 10).find? fun m => a.1 * m * b.2 == b.1 * a.2
  | _, _ => none

/-- The rate can be derived from the reference (R96 to R99, R131). -/
def timingDerivable (t : TimingBlock) : Bool :=
  match t.refKind with
  | 0 => (tablePeriod t.rateCode).isSome
  | 1 => (tablePeriod t.rateCode).isSome
  | 2 => 1 ≤ t.refRate && t.refRate ≤ 0x0A && (rateMultiple t.rateCode t.refRate).isSome
  | 3 => [0x02, 0x03, 0x04, 0x05].contains t.refRate && (!t.dropFrame || t.refRate == 4) && (rateMultiple t.rateCode t.refRate).isSome
  | 4 => mainsMult t.rateCode != 0
  | _ => false

/-- Reserved bits and bytes are zero, and no flag is set that its reference kind does not have (R13; the flags DESIGN CHOICE,
assumption 71). -/
def timingZeros (p : Bytes) : Bool :=
  let t := timingOf p
  fld p 3 1 < 8 && (t.refKind == 2 || !t.twoFields) && (t.refKind == 3 || !t.dropFrame) && (t.refKind == 0 || !t.wordClock)
    && zeroAt p 17 7

/-- Fields that the table calls zero where the reference kind has no use for them, and codes with a range (R131). -/
def timingCodesOk (t : TimingBlock) : Bool :=
  (t.refKind == 2 || t.refKind == 3 || t.refRate == 0) && (t.refKind == 4 || (t.mtrPoint == 0 && t.mtrPhase == 0))
    && t.mtrPoint ≤ 31 && t.mtrPhase ≤ 2 && (if t.wordClock then 1 ≤ t.wclk && t.wclk ≤ 5 else t.wclk == 0)

/-- |REF_OFFSET_NS| < T of the new rate (table "Timing block"). Under a mains rate the table does not say which T: the model takes the
shortest, at 65 Hz (DESIGN CHOICE, assumption 72). A rate that no table gives is refused elsewhere. -/
def offsetFits (t : TimingBlock) : Bool :=
  ((tablePeriod t.rateCode).isNone && mainsMult t.rateCode == 0)
    || decide (absInt t.offsetNs * 65536 * (shortestExact t.rateCode).2 < ((shortestExact t.rateCode).1 : Int))

/-- The numeric ranges of a timing block (R131). -/
def timingRangeOk (p : Bytes) : Bool :=
  let t := timingOf p
  timingCodesOk t && offsetFits t && t.presDelayNs ≤ 1000000000 && fld p 12 2 ≤ 1000

/-- The status of a timing block on its own (R131), in the order of R69: reserved bits, ranges, then a rate that its reference
cannot give. -/
def checkTiming (p : Bytes) : Status :=
  if !timingZeros p then .badArgument
  else if !timingRangeOk p then .outOfRange
  else if !timingDerivable (timingOf p) then .badArgument
  else .ok

/-! ### Checks and effects of one show write -/

/-- The check of a show write against a view (R77, R582), after the generic checks of R69. -/
def ShowCmd.check (c : ShowCmd) (env : CheckEnv) (v : ShowState) (p data : Bytes) : CheckRes :=
  match c with
  | .timingSet => { status := checkTiming p }
  | .sliceModeSet => checkSliceModeSet v.canvas v.inputs env p
  | .profileLoad => checkProfileLoad v.patch p data
  | .profileDelete => checkProfileDelete v.patch p
  | .patchWrite => checkPatchWrite v.patch p data
  | .patchClear => {}
  | .paramWrite => checkParamWrite v.patch p
  | .cuelistLoad => checkCuelistLoad v.cues p data
  | .sourceDelete => checkSourceDelete v.cues p
  | .effectDefine => checkEffectDefine v.cues p data
  | .effectTableLoad => checkEffectTableLoad v.cues p
  | .playbackAction => checkPlaybackAction env v.cues p
  | .layerSet => {}
  | .policySet => checkPolicySet v.inputs p
  | .sacnRxSet => checkSacnRxSet v.inputs p
  | .dmxInSet => checkDmxInSet v.inputs (v.ports.dmx.getD (fld p 0 2) {}).input p
  | .videoInSet => checkVideoInSet v.inputs p
  | .videoSampleSet => checkVideoSampleSet v.inputs p data
  | .videoMapSet => checkVideoMapSet v.inputs p
  | .calibSet => checkCalibSet v.colour p data
  | .regionSet => checkRegionSet v.colour p data
  | .feederSet => {}
  | .feederMemberSet => checkFeederMemberSet v.colour p
  | .canvasSet => checkCanvasSet v.canvas p
  | .segmentSet => checkSegmentSet v.canvas p
  | .pixelMapSet => checkPixelMapSet v.canvas p data
  | .rectCheckSet => checkRectCheckSet v.canvas p
  | .curveLoad => checkCurveLoad v.output p data
  | .outputGroupSet => checkOutputGroupSet v.output p
  | .tempSourceSet => checkTempSourceSet v.output v.colour p
  | .derateSet => checkDerateSet v.output p
  | .safetyGroupSet => checkSafetyGroupSet p
  | .safetyMemberSet => checkSafetyMemberSet v.output v.canvas p data
  | .safetyClear => checkSafetyClear v.output p
  | .laneSet => {}
  | .dmxPortSet => checkDmxPortSet p
  | .pwmSet => checkPwmSet p
  | .sacnTxConfig => checkSacnTxConfig p
  | .sacnTxUniverseSet => checkSacnTxUniverseSet p
  | .partitionSet => checkPartitionSet env p

/-- The effect of a show write on everything but the object bytes. -/
def ShowCmd.apply (c : ShowCmd) (v : ShowState) (p data : Bytes) : ShowState :=
  match c with
  | .timingSet => { v with timing := some ⟨timingOf p, fld p 0x18 8, fld p 0x20 1⟩ }
  | .sliceModeSet => { v with canvas := applySliceModeSet v.canvas p }
  | .profileLoad => { v with patch := applyProfileLoad v.patch p data }
  | .profileDelete => { v with patch := applyProfileDelete v.patch p }
  | .patchWrite => { v with patch := applyPatchWrite v.patch p data }
  | .patchClear => { v with patch := applyPatchClear v.patch p }
  | .paramWrite => { v with patch := applyParamWrite v.patch p }
  | .cuelistLoad => { v with cues := applyCuelistLoad v.cues p data }
  | .sourceDelete => { v with cues := applySourceDelete v.cues p }
  | .effectDefine => { v with cues := applyEffectDefine v.cues p data }
  | .effectTableLoad => { v with cues := applyEffectTableLoad v.cues p }
  | .playbackAction => { v with cues := applyPlaybackAction v.cues p }
  | .layerSet => { v with inputs := applyLayerSet v.inputs p }
  | .policySet => { v with inputs := applyPolicySet v.inputs p }
  | .sacnRxSet => { v with inputs := applySacnRxSet v.inputs p }
  | .dmxInSet => { v with inputs := applyDmxInSet v.inputs p }
  | .videoInSet => { v with inputs := applyVideoInSet v.inputs p }
  | .videoSampleSet => { v with inputs := applyVideoSampleSet v.inputs p data }
  | .videoMapSet => { v with inputs := applyVideoMapSet v.inputs p }
  | .calibSet => { v with colour := applyCalibSet v.colour p data }
  | .regionSet => { v with colour := applyRegionSet v.colour p data }
  | .feederSet => { v with colour := applyFeederSet v.colour p }
  | .feederMemberSet => { v with colour := applyFeederMemberSet v.colour p }
  | .canvasSet => { v with canvas := applyCanvasSet v.canvas p }
  | .segmentSet => { v with canvas := applySegmentSet v.canvas p }
  | .pixelMapSet => { v with canvas := applyPixelMapSet v.canvas p data }
  | .rectCheckSet => { v with canvas := applyRectCheckSet v.canvas p }
  | .curveLoad => { v with output := applyCurveLoad v.output p data }
  | .outputGroupSet => { v with output := applyOutputGroupSet v.output p }
  | .tempSourceSet => { v with output := applyTempSourceSet v.output p }
  | .derateSet => { v with output := applyDerateSet v.output p }
  | .safetyGroupSet => { v with output := applySafetyGroupSet v.output p }
  | .safetyMemberSet => { v with output := applySafetyMemberSet v.output p data }
  | .safetyClear => { v with output := applySafetyClear v.output p }
  | .laneSet => { v with ports := applyLaneSet v.ports p }
  | .dmxPortSet => { v with ports := applyDmxPortSet v.ports p }
  | .pwmSet => { v with ports := applyPwmSet v.ports p }
  | .sacnTxConfig => { v with net := { v.net with config := p } }
  | .sacnTxUniverseSet => { v with net := applySacnTxUniverseSet v.net p }
  | .partitionSet => { v with part := partitionOf p }

/-! ### Objects (R80, R183, R522) -/

/-- An object ID as a number: GROUP, KIND and KEY. -/
def objId (group kind key : Nat) : Nat := (group * 256 + kind) * 2 ^ 32 + key

/-- The base values of a fixture as an object (R183, R522). -/
def baseObject (v : ShowState) (f : Nat) : Nat × Option Bytes :=
  (objId 3 0x20 f, (v.patch.pool.find f).map fun ws => ws.flatMap (bytesLE 4))

/-- The objects of a record command: the record itself, or nothing where the record removes. -/
def recordObjects (group kind : Nat) (key : Bytes → Nat) (gone : Bytes → Bool) (rs : List Bytes) :
    List (Nat × Option Bytes) :=
  rs.map fun r => (objId group kind (key r), if gone r then none else some r)

/-- The runs of the policy overrides as objects, by their first address (assumption 40). -/
def policyObjects (before after : ShowState) : List (Nat × Option Bytes) :=
  (before.inputs.overrides.filter fun r => !after.inputs.overrides.contains r).map
      (fun r => (objId 5 2 r.first, none))
    ++ (after.inputs.overrides.filter fun r => !before.inputs.overrides.contains r).map
      (fun r => (objId 5 2 r.first, some (bytesLE 4 r.first ++ bytesLE 4 r.count ++ bytesLE 1 r.policy ++ zeros 7)))

/-- The objects that a show write writes, each with its new bytes or nothing where it is removed. Staged
actions, safety clears and timing changes act once and are no objects, but a timing change is written
as the object of its command (assumption 40). -/
def ShowCmd.objects (c : ShowCmd) (before after : ShowState) (p data : Bytes) : List (Nat × Option Bytes) :=
  let one (g k key : Nat) (b : Option Bytes) : List (Nat × Option Bytes) := [(objId g k key, b)]
  match c with
  | .timingSet => one 2 2 0 (some p)
  | .sliceModeSet => one 2 4 (fld p 0 1) (some p)
  | .profileLoad => one 3 1 (fld p 0 2) (some data)
  | .profileDelete => one 3 1 (fld p 0 2) none
  | .patchWrite =>
    let rs := patchRecords p data
    (rs.map fun r => (objId 3 0x10 (fld r 0 4), some r)) ++ (basesWritten before.patch rs).eraseDups.map (baseObject after)
  | .patchClear =>
    (before.patch.patch.range (fld p 0 4) (fld p 0 4 + fld p 4 4)).flatMap fun e =>
      [(objId 3 0x10 e.1, none), (objId 3 0x20 e.1, none)]
  | .paramWrite => ((paramEntries p).map fun e => e.1 / 128).eraseDups.map (baseObject after)
  | .cuelistLoad => one 4 1 (fld p 0 2) (some data)
  | .sourceDelete => one 4 (if fld p 0 1 = 0 then 1 else if fld p 0 1 = 1 then 0x10 else 0x11) (fld p 2 2) none
  | .effectDefine => one 4 0x10 (fld p 0 2) (some (p ++ data))
  | .effectTableLoad => one 4 0x11 (fld p 0 2) (some p)
  | .playbackAction => []
  | .layerSet => one 5 1 (fld p 0 1) (some p)
  | .policySet => policyObjects before after
  | .sacnRxSet => one 5 0x10 (fld p 0 2) (if bit (fld p 3 1) 0 then some p else none)
  | .dmxInSet => one 5 0x11 (fld p 0 2) (if bit (fld p 3 1) 0 then some p else none)
  | .videoInSet => one 5 0x30 (fld p 0 1) (some p)
  | .videoSampleSet => recordObjects 5 0x31 (fun r => fld r 0 4 * 8 + fld r 11 1) (fun r => fld r 14 2 == 0) (sampleRecords p data)
  | .videoMapSet => one 5 0x32 (fld p 0 1) (if bit (fld p 4 1) 0 then some p else none)
  | .calibSet => recordObjects 6 1 (fun r => fld r 0 4) (fun r => calEmitters r == 0) (sourceRecords 288 p data)
  | .regionSet => recordObjects 6 0x10 (fun r => fld r 0 2) (fun r => regCanvas r == 0xFF) (sourceRecords 96 p data)
  | .feederSet => one 6 0x20 (fld p 0 1) (if fdMode p = 0 then none else some p)
  | .feederMemberSet => recordObjects 6 0x21 (fun r => fld r 0 4) (fun r => fld r 4 1 == 0xFF) (memberEntries p)
  | .canvasSet => one 7 1 (fld p 0 1) (if bit (fld p 1 1) 0 then some p else none)
  | .segmentSet => one 7 2 (fld p 0 1) (if fld p 1 1 = 0xFF then none else some p)
  | .pixelMapSet => recordObjects 7 3 (fun r => fld r 0 4) (fun r => fld r 4 1 == 0xFF) (sourceRecords 32 p data)
  | .rectCheckSet => recordObjects 7 4 (fun r => fld p 0 1 * 16 + fld r 0 1) (fun r => !bit (fld r 1 1) 0) (rectRecords p)
  | .curveLoad => one 8 1 (fld p 0 1) (if bit (fld p 1 1) 0 then none else some data)
  | .outputGroupSet => recordObjects 8 2 (fun r => fld r 0 2) (fun r => fld r 4 1 == 0xFF) (groupEntries p)
  | .tempSourceSet => recordObjects 8 0x10 (fun r => fld r 0 2) (fun r => tsKind r == 0) (tempRecords p)
  | .derateSet => recordObjects 8 0x11 (fun r => fld r 0 4) (fun r => drSource r == 0xFFFF) (derateRecords p)
  | .safetyGroupSet => (safetyEntries p).flatMap fun r =>
      if bit (fld r 2 1) 0 then [(objId 8 0x20 (fld r 0 2), some r)]
      else [(objId 8 0x20 (fld r 0 2), none), (objId 8 0x21 (fld r 0 2), none)]
  | .safetyMemberSet => (((sourceRecords 16 p data).map smGroup).eraseDups).map fun g =>
      let ms := after.output.members.filter fun m => smGroup m == g
      (objId 8 0x21 g, if ms.isEmpty then none else some (ms.flatMap id))
  | .safetyClear => []
  | .laneSet => one 9 1 (fld p 0 1) (some p)
  | .dmxPortSet => one 9 0x10 (fld p 0 1) (some p)
  | .pwmSet => one 9 0x20 (fld p 0 1) (some p)
  | .sacnTxConfig => one 0x0A 0x20 0 (some p)
  | .sacnTxUniverseSet => recordObjects 0x0A 0x21 (fun r => fld r 0 2) (fun r => !bit (fld r 2 1) 0) (txRecords p)
  | .partitionSet => one 0x0D 0x10 0 (some p)

/-- The object table with the written objects. -/
def putObjects (m : Map Bytes) (os : List (Nat × Option Bytes)) : Map Bytes :=
  os.foldl (fun m o => match o.2 with
    | some b => m.put o.1 b
    | none => m.del o.1) m

/-- A show write applied to a view, its objects included. -/
def ShowWrite.apply (v : ShowState) (w : ShowWrite) : ShowState :=
  match showCmd w.code with
  | none => v
  | some c =>
    let v' := c.apply v w.payload w.data
    { v' with objects := putObjects v.objects (c.objects v v' w.payload w.data) }

/-- The check of a staged write against a view. -/
def ShowWrite.check (env : CheckEnv) (v : ShowState) (w : ShowWrite) : CheckRes :=
  match showCmd w.code with
  | none => {}
  | some c => c.check env v w.payload w.data

/-- The objects that a staged write writes in a view. -/
def ShowWrite.objects (v : ShowState) (w : ShowWrite) : List Nat :=
  match showCmd w.code with
  | none => []
  | some c => (c.objects v (c.apply v w.payload w.data) w.payload w.data).map (·.1)

/-- Staged writes applied in order (R77). -/
def applyWrites (v : ShowState) (ws : List ShowWrite) : ShowState := ws.foldl (fun v w => w.apply v) v

/-- The first staged write that fails against the view, in staging order (R582). -/
def recheckWrites (env : CheckEnv) (v : ShowState) : List ShowWrite → Option Status
  | [] => none
  | w :: ws => if (w.check env v).status = .ok then recheckWrites env (w.apply v) ws else some (w.check env v).status

/-- The objects that a transaction has written, over its own views (R80). -/
def writtenObjects (v : ShowState) : List ShowWrite → List Nat
  | [] => []
  | w :: ws => w.objects v ++ writtenObjects (w.apply v) ws

/-- A view freed of what acts once: actions, deletions, safety clears and the timing change. -/
def ShowState.settled (v : ShowState) : ShowState :=
  { v with cues := { v.cues with actions := [], loaded := [], deleted := [] },
           output := { v.output with clears := [] }, timing := none }

/-! ### Chapter checks of a commit (R583, step 6) -/

/-- E of a view in µs: the largest declared output latency of fixtures and canvases (R172). -/
def ShowState.latencyUs (v : ShowState) : Nat :=
  max v.patch.maxLatencyUs ((v.canvas.canvases.map fun e => e.2.latencyUs).foldl max 0)

/-- E does not exceed 6T at the rate (R22). -/
def latencyFits (e rate : Nat) : Bool := rate == 0 || e * 65536000 * (shortestExact rate).2 ≤ 6 * (shortestExact rate).1

/-- What a commit's chapter checks need: codes of the rates that will be in force from the target on; change frames pending or carried; the canvases before the commit and the ranges freed so far; the
target frame. -/
structure CommitEnv where
  check : CheckEnv
  rates : List Nat
  changes : List Nat
  before : Map Canvas
  freed : List Freed
  target : Nat
  deriving DecidableEq, Repr

/-- The limits and checks that each chapter adds, in the order of R583, with their status. -/
def chapterChecks (e : CommitEnv) (v : ShowState) : List (Bool × Status) :=
  let cs := v.canvas.canvases
  [ (e.rates.all fun r => latencyFits v.latencyUs r, .outOfRange),
    (e.rates.all fun r => sliceTimingOk v.canvas v.inputs v.ports r, .outOfRange),
    (v.patch.wordsInUse ≤ 8388608 && v.patch.universes.length ≤ 16384, .noResource),
    (v.patch.clashes.isEmpty && v.patch.patch.all (fun f => match v.patch.profiles.find f.2.profile with
      | some p => profSuits p f.2.destKind f.2.dest f.2.start
      | none => false), .conflict),
    (v.cues.storeUsed ≤ cueStoreMax, .noResource),
    (v.cues.actions.all fun a => v.cues.defined a.kind a.target, .conflict),
    (actionLimitsOk e.check v.cues, .noResource),
    (v.inputs.limitsOk, .noResource),
    (v.inputs.rastersOk, .conflict),
    (v.inputs.maps.all fun m => match cs.find m.2.canvas with
      | some c => Rect.inside ⟨m.2.dstX, m.2.dstY, m.2.dstW, m.2.dstH⟩ c
      | none => false, .conflict),
    (regionsOk v.colour cs, .conflict),
    (canvasesDisjoint cs && placementOk e.before cs e.freed e.target, .conflict),
    (e.rates.all (fun r => canvasRatesOk cs r) && e.changes.all (fun n => cs.all fun c => n % c.2.divider == 0),
      .conflict),
    (pixmapsOk v.canvas && e.rates.all (fun r => slicesAllowed v.canvas v.inputs r), .conflict),
    (e.rates.all (fun r => lanesFit v.canvas v.ports r) && sliceGapsOk v.canvas, .outOfRange),
    (segmentsInside v.canvas, .conflict),
    (outputCommitCheck v.output v.canvas != .noResource, .noResource),
    (outputCommitCheck v.output v.canvas == .ok, .conflict),
    (portsCommitOk v.ports v.patch v.inputs, .conflict),
    (e.rates.all (fun r => netCommitCheck v.net v.patch v.part { e.check with showRate := r } != .noResource), .noResource),
    (e.rates.all (fun r => netCommitCheck v.net v.patch v.part { e.check with showRate := r } == .ok), .conflict),
    (partitionOk v.part v.patch v.inputs v.colour v.canvas v.output, .conflict) ]

/-- The status of the first failing chapter check. -/
def chapterStatus (e : CommitEnv) (v : ShowState) : Option Status :=
  ((chapterChecks e v).find? fun c => !c.1).map (·.2)

end Sys2Proof.Machine
end

