-- ==== Sys2Proof/Machine/StateNet.lean ====
section
/-!
DEFINITION. Machine/StateNet.lean: the run-time state of the Ethernet ports, the network rings, sACN
transmission and MACsec (chapter "Ethernet ports, sACN transmission and MACsec").
-/

namespace Sys2Proof.Machine

/-- NET_PORT_SET in force, with its reset values (R401). -/
structure NetPortCfg where
  mode : Nat := 0
  pauseRx : Bool := true
  promisc : Bool := false
  maxFrame : Nat := 1518
  sacnVlan : Nat := 0
  mac : Nat := 0
  pcp : Nat := 0
  dscp : Nat := 0
  ipv4 : Nat := 0
  ttl : Nat := 64
  ipv6 : Nat := 0
  deriving DecidableEq, Repr

/-- A frame waiting for a port: its source in the transmit order, the sACN output and frame it belongs to,
the instant at which it falls due, its bytes without FCS, and whether it wants a timestamp. -/
structure TxFrame where
  bytes : Bytes
  due : Instant := 0
  /-- The emission key (universe, or 65,536 + synchronisation address) of a frame of an emission run. -/
  output : Nat := 0
  frame : Nat := 0
  run : Bool := false
  protect : Bool := false
  /-- The transmit network ring it came from. -/
  ring : Nat := 61
  /-- A poisoned word went into the packet: it leaves with its FCS inverted (R479). -/
  bad : Bool := false
  /-- A synchronisation packet that follows data packets which had not left by its instant: its run is late (R394). -/
  held : Bool := false
  deriving DecidableEq, Repr

/-- A secure association (R398): key, next or lowest acceptable packet number, SSCI and salt. -/
structure MacsecSa where
  key : Bytes
  pn : Nat
  ssci : Nat
  salt : Bytes
  deriving DecidableEq, Repr

/-- A port's SecY (R406). SAs by SC × 4 + AN; the active AN of each receive SC and of the transmit SC. -/
structure SecY where
  enable : Bool := false
  xpn : Bool := false
  validate : Nat := 0
  protect : Bool := false
  includeSci : Bool := false
  replay : Bool := false
  confOffset : Nat := 0
  window : Nat := 0
  txSci : Nat := 0
  rxSci : List Nat := [0, 0, 0, 0]
  sas : Map MacsecSa := []
  active : Map Nat := []
  exhausted : Bool := false
  deriving DecidableEq, Repr

/-- An Ethernet port at run time. -/
structure NetPort where
  cfg : NetPortCfg := {}
  up : Bool := false
  modAbs : Bool := false
  txFault : Bool := false
  rxLos : Bool := false
  /-- The rate that SGMII auto-negotiation chose, in Mbit/s (R375). -/
  sgmii : Nat := 1000
  /-- The instant at which the pause in force ends (R388). -/
  pauseEnd : Option Instant := none
  wireEnd : Option Instant := none
  half : Nat := 0
  counters : List Word := List.replicate 48 0
  secy : SecY := {}
  runQueue : List TxFrame := []
  otherQueue : List TxFrame := []
  /-- The frames for which EMIT_LATE was raised last, newest first (R338). -/
  lateFrames : List Nat := []
  /-- The instant of the emission run that left last, and by how much it was late, in ns (R338). -/
  runDue : Option Instant := none
  runLate : Nat := 0
  /-- Deficits of the host transmit rings and the ring whose turn it is (R389). -/
  deficits : Map Nat := []
  turn : Nat := 0
  deriving DecidableEq, Repr

/-- A network ring (R380, R386, R402, R404): its binding and counts. -/
structure NetRing where
  host : Nat := 0
  ports : Nat := 0
  match_ : Nat := 0
  flags : Nat := 0
  arg : Nat := 0
  value : Nat := 0
  crossings : Word := 0
  frames : Word := 0
  noBuffer : Word := 0
  tsLost : Word := 0
  deriving DecidableEq, Repr

/-- A universe being terminated on a port (R395): frames left, next SEQ, last slots, λ in units, and its
priority and synchronisation address. -/
structure Termination where
  uni : Nat
  port : Nat
  left : Nat
  seq : Nat
  slots : List Nat
  lambda : Units
  priority : Nat
  sync : Nat
  force : Bool
  /-- The SACN_TX_CONFIG that it was last sent under. -/
  config : Bytes := []
  deriving DecidableEq, Repr

/-- Ethernet as a whole. Ring keys: 0 to 63 receive, 64 to 127 transmit. Port 4 starts in mode 0x10 (DESIGN CHOICE, assumption 2). -/
structure NetState where
  ports : Map NetPort := [(4, { cfg := { mode := 0x10 } })]
  rings : Map NetRing := []
  /-- SEQ of each transmitted universe, and of 65,536 + each synchronisation address (R393, R394). -/
  seq : Map Nat := []
  terms : List Termination := []
  /-- The TIME cycle of the last universe discovery (R392). -/
  discoveryAt : Option Nat := none
  deriving DecidableEq, Repr

/-- What a frame's sACN packets carry: SEQ by universe or 65,536 + synchronisation address, and the
terminations of the frame. -/
structure TxSeqs where
  seq : Map Nat := []
  terms : List Termination := []
  deriving DecidableEq, Repr

end Sys2Proof.Machine
end

