-- ==== Sys2Proof/Machine/StateRender.lean ====
section
/-!
DEFINITION. Machine/StateRender.lean: the frames in flight, what each has rendered, and the state of Reel,
of the counters and of the trace (chapters "The H64 at work", "Canvases, the scan-out store and flips",
"Curves, dither, derating, safety groups and emission" and "Render clusters, the Reel scheduler and
performance counters").
-/

namespace Sys2Proof.Machine

/-! ### Safety groups, derating and temperature at run time -/

/-- The run-time state of a safety group (R333, R345). -/
structure SafetyDyn where
  failed : Bool := false
  cause : Nat := 0
  causeMember : Bytes := zeros 16
  faultFrame : Nat := 0
  faultCount : Word := 0
  clearCount : Word := 0
  deriving DecidableEq, Repr

/-- A fault as it arrives, before it is tied to groups (table "Safety faults", kinds 1 to 4). A CRC fault
names the groups that were WHOLE in its frame, each with the member concerned. -/
inductive RawFault where
  | lamp (port uid : Nat)
  | tile (lane tile : Nat)
  | pwm (output : Nat)
  | crc (groups : List (Nat × Bytes))
  deriving DecidableEq, Repr

/-- A fault of a group in an input record: group, kind 1 to 5 and the member record (R332). -/
structure GroupFault where
  group : Nat
  kind : Nat
  member : Bytes
  deriving DecidableEq, Repr

/-- The reading that a temperature source holds (R327): value, stamp, whether it is marked invalid, and
whether the source was valid in the last frame. -/
structure TempDyn where
  value : F32 := 0
  stamp : Instant := 0
  invalid : Bool := true
  wasValid : Bool := false
  deriving DecidableEq, Repr

/-! ### Tasks -/

/-- The task kinds (table "Task kinds"). -/
inductive TaskKind where
  | phase1 | phase2 | tile | packet
  deriving DecidableEq, Repr

/-- A task: its kind, frame, canvas and slice (tiles only) and index (R437, R124). -/
structure Task where
  kind : TaskKind
  frame : Nat
  canvas : Nat := 0
  slice : Nat := 0
  index : Nat
  deriving DecidableEq, Repr

/-- A ready-queue entry: the task, and the cluster that must not get it, for a second run (R445). -/
structure Ready where
  task : Task
  avoid : Option Nat := none
  deriving DecidableEq, Repr

/-- A task that a cluster holds: `again` marks a second run. -/
structure Held where
  cluster : Nat
  task : Task
  again : Bool := false
  deriving DecidableEq, Repr

/-! ### Frames -/

/-- What stages 1 to 5 of a fixture gave in a frame: merged values, change frames of its layers, the
attributes after stage 4, the solve and the applied scale. -/
structure FixResult where
  merged : List MergeOut := []
  hist : List (List (Option LayerHist)) := []
  attrs : Map F32 := []
  solve : SolveOut := {}
  scale : F32 := F32.f1
  exempt : Bool := false
  deriving DecidableEq, Repr

/-- A wire image: the 512 slots of each universe (key 65,536 + universe) and DMX port (131,072 + port), and
width and value of each PWM output (196,608 + output). -/
abbrev WireImage := Map (List Nat)

/-- A wire-image slot (R23): the frame whose image it holds. -/
structure WireSlot where
  frame : Nat := 0
  image : WireImage := []
  deriving DecidableEq, Repr

/-- A slice of a slice-mode canvas frame (R124, R130): its window's opening, whether it closed and whether
it repeated. -/
structure SliceWin where
  openAt : Instant
  closed : Bool := false
  repeated : Bool := false
  deriving DecidableEq, Repr

/-- The canvas window of one canvas frame. In slice mode it opens at A_0(n) with the input frame of its slices, and its
slices have windows of their own. Finished tiles are numbered tile + 65,536 × slice. -/
structure CanvasWin where
  openAt : Option Instant := none
  /-- The bank that its tile tasks write. -/
  bank : Nat := 1
  input : Option VideoFrame := none
  done : List Nat := []
  crcs : Map Nat := []
  mismatch : Nat := 0
  committed : Bool := false
  /-- The cycle of the flip commit was at or after G(n) (R308). -/
  late : Bool := false
  closed : Bool := false
  repeated : Bool := false
  slices : Map SliceWin := []
  /-- G(n) and S(n) have passed. -/
  gapDone : Bool := false
  scanDone : Bool := false
  deriving DecidableEq, Repr

/-- A frame in flight: what it latched (R19, R32, R243, R281, R335), what it has rendered, and where its
windows stand. -/
structure FrameRec where
  grid : GridFrame
  epoch : Nat
  rate : Nat
  view : ShowState
  rank : Nat := 0
  inputs : InputRecord := {}
  dyn : DynState := {}
  ltc : LtcView := {}
  temps : Map F32 := []
  tempHeld : Map F32 := []
  factors : Map F32 := []
  meas : Map FeederMeas := []
  faults : List GroupFault := []
  clears : List Nat := []
  gov0 : Map GovFeeder := []
  safety0 : Map SafetyDyn := []
  hist0 : Map (List (Option LayerHist)) := []
  baseSince : Map Nat := []
  regionPower : Map (F32 × F32) := []
  tx : TxSeqs := {}
  fixtures : Map FixResult := []
  gov : Map GovFeeder := []
  safety : Map SafetyDyn := []
  done1 : List Nat := []
  decided : Bool := false
  done2 : List Nat := []
  packets : List Nat := []
  /-- The frame repeats whatever its tasks do: the render microcode restarts in it. -/
  forceRepeat : Bool := false
  mainClosed : Bool := false
  mainRepeat : Bool := false
  /-- CORE cycles from L(n) to the last completion of a main-window task. -/
  mainCycles : Nat := 0
  /-- Tasks whose second run failed too (R445). -/
  failedTasks : List Task := []
  canvases : Map CanvasWin := []
  lightDone : Bool := false
  /-- The data packets of synchronised universes have been handed to their ports (R394). -/
  syncedSent : Bool := false
  /-- Synchronised data packets that have left, by 4 × universe + port (R378, R394). -/
  syncLeft : List Nat := []
  /-- Outputs whose emission of this frame is settled: sent, skipped or superseded. Keys: kind × 65,536 + number, kind 4 for
  synchronisation addresses; 1,048,576 + 4 × universe + port for a termination. -/
  settled : List Nat := []
  digestSent : Bool := false
  sealed : Bool := false
  /-- The sealed record's CRC-32C, and the video inputs whose frame differs from the one in the seal (R511, R517). -/
  sealCrc : Nat := 0
  videoDiffer : List Nat := []
  deriving DecidableEq, Repr

/-! ### Results of the last frames -/

/-- The results of the last main window that closed, which reads report (R269, R291, R345, R460). -/
structure ClosedMain where
  frame : Nat := 0
  view : ShowState := {}
  fixtures : Map FixResult := []
  gov : Map GovFeeder := []
  safety : Map SafetyDyn := []
  factors : Map F32 := []
  temps : Map F32 := []
  tempHeld : Map F32 := []
  budget : Nat := 0
  cycles : Nat := 0
  deriving DecidableEq, Repr

/-- Region power computed by tiles: frame, region, and its idle and drive watts, or nothing where the
region ceased (R282). -/
structure RegionLog where
  frame : Nat
  region : Nat
  power : Option (F32 × F32)
  deriving DecidableEq, Repr

/-! ### Canvases at run time -/

/-- The expected latch of a canvas frame whose scan has started, with T_c and LATCH_TOL_US (R310, R311). -/
structure LatchExpect where
  frame : Nat
  at_ : Instant
  period : Units
  tolUs : Nat
  deriving DecidableEq, Repr

/-- The run-time state of one canvas (R306 to R310, R321). The six counts are in the order of R318. -/
structure CanvasDyn where
  front : Nat := 0
  pending : Option Nat := none
  flipCount : Word := 0
  lastFlipFrame : Nat := 0
  lastFlipAt : Instant := 0
  crcFrame : Nat := 0
  crcs : Map Nat := []
  mismatch : Nat := 0
  latchDiffNs : Int := 0
  counts : List Word := [0, 0, 0, 0, 0, 0]
  /-- The canvas frame whose scan started last. -/
  scanFrame : Option Nat := none
  /-- The expected latches of the canvas frames of the last two seconds, newest first. -/
  expects : List LatchExpect := []
  /-- A canvas frame that has not latched yet and whose gap has passed (R356). -/
  gapAhead : Option Nat := none
  deriving DecidableEq, Repr

/-! ### Counters and the trace -/

/-- The programmable counters of a render cluster or management core (R448, R449). -/
structure ProgCounter where
  event : Nat := 0
  chain : Bool := false
  value : Nat := 0
  deriving DecidableEq, Repr

/-- The counters of one unit: the cycle counter as of TIME cycle `since`, with the part of a cycle left over, in fifths; eight
counters, overflow bits. Of a DRAM controller the eight hold indices 1 to 7, and the last is unused. -/
structure UnitCounters where
  cycles : Nat := 0
  since : Nat := 0
  fifths : Nat := 0
  progs : List ProgCounter := List.replicate 8 {}
  ovf : Nat := 0
  /-- The TIME cycle in which each bit of `ovf` was last set (R10). -/
  ovfAt : Map Nat := []
  deriving DecidableEq, Repr

/-- A write to a unit whose clock is gated, held until it runs (R28): a counter configured, or bits of OVF_MASK cleared. -/
inductive HeldWrite where
  | config (unit index event : Nat) (chain clear : Bool)
  | ovf (unit mask : Nat)
  deriving DecidableEq, Repr

/-- The Reel counters 1 to 12 of the table "Counter units". -/
structure ReelCounters where
  granted : List Nat := [0, 0, 0, 0]
  stalls : Nat := 0
  mainOver : Nat := 0
  canvasOver : Nat := 0
  frameRepeats : Nat := 0
  canvasRepeats : Nat := 0
  peak : Nat := 0
  decisionCycles : Nat := 0
  regrants : Nat := 0
  deriving DecidableEq, Repr

/-- TRACE_CONFIG in force. -/
structure TraceCfg where
  mode : Nat := 0
  kinds : Nat := 0
  events : Nat := 0
  first : Nat := 0
  last : Nat := 0
  deriving DecidableEq, Repr

/-- A trace record (R447). -/
structure TraceRec where
  cycle : Nat
  frame : Nat
  event : Nat
  kind : Nat
  task : Nat
  cluster : Nat
  window : Nat
  level : Nat
  deriving DecidableEq, Repr

/-- The counter snapshot (R454, R455): its values in AUTO order, and its time. -/
structure Snapshot where
  values : List Nat := []
  stamp : Instant := 0
  pos : Pos := 0
  deriving DecidableEq, Repr

/-- The central reader: PCN_ and SNP_ registers and the snapshot. -/
structure ReaderState where
  sel : Nat := 0
  badSel : Bool := false
  freeze : Bool := false
  autoFrame : Bool := false
  busy : Bool := false
  valid : Bool := false
  seq : Nat := 0
  snap : Snapshot := {}
  /-- The snapshot being captured, while BUSY. -/
  next : Snapshot := {}
  /-- The units 0x00 to 0x43, Reel's CORE cycles (0x50) and the DRAM controllers. -/
  units : Map UnitCounters := []
  /-- Writes held for gated units, in order (R28). -/
  held : List HeldWrite := []
  /-- The cycle in which BAD_SEL was last set (R10). -/
  badSelAt : Option Nat := none
  deriving DecidableEq, Repr

/-- All of the renderer. -/
structure RenderState where
  frames : List FrameRec := []
  slots : Map WireSlot := []
  dyn : DynState := {}
  /-- Positions, still to come, of actions that will have no effect (R216). -/
  voids : List Int := []
  gov : Map GovFeeder := []
  safety : Map SafetyDyn := []
  factors : Map F32 := []
  temps : Map TempDyn := []
  rawFaults : List RawFault := []
  /-- Faults of a delta that missed its seal (R510). -/
  lateFaults : List GroupFault := []
  hist : Map (List (Option LayerHist)) := []
  baseSince : Map Nat := []
  regionLog : List RegionLog := []
  closed : ClosedMain := {}
  canvases : Map CanvasDyn := []
  freed : List Freed := []
  /-- The scan-out store: channel values by bank × 33,554,432 + 4 × pixel index + channel; 0 where absent. -/
  store : Map Nat := []
  ready : List Ready := []
  held : List Held := []
  /-- Since the cycle when the generator stands still because the queue is full (R442). -/
  stalledAt : Option Nat := none
  reel : ReelCounters := {}
  mainMax : Nat := 0
  trace : TraceCfg := {}
  traceBuf : List TraceRec := []
  traceCount : Nat := 0
  traceFull : Bool := false
  reader : ReaderState := {}
  deriving DecidableEq, Repr

end Sys2Proof.Machine
end

