-- ==== Sys2Proof/Machine/StateTxn.lean ====
section
/-!
DEFINITION. Machine/StateTxn.lean: transactions, commits, epochs and snapshots (R30 to R33, R75 to R87,
R582 to R584).
-/

namespace Sys2Proof.Machine

/-- An accepted commit that awaits application (R81): its place in the order of acceptance, its operation, its
target frame, the timebase units between its deadline and L(target), whether the show clock was stopped when it
was accepted (R111), whether its decision point has passed, and the rates and change frames it was checked for. -/
structure Commit where
  seq : Nat
  op : Nat
  target : Nat
  lead : Units
  stopped : Bool := false
  decided : Bool := false
  /-- In a group (R509): the commit's number, its place in the coordinator's order, the members that have acknowledged it as
  prepared, as rank + 16 × plane, and the coordinator's decision. -/
  gseq : Nat := 0
  place : Nat := 0
  prepared : List Nat := []
  apply : Option Bool := none
  /-- The change frame n_c of the timing change that the commit carries, fixed when its target is (R119, R296). -/
  changeFrame : Option Nat := none
  deriving DecidableEq, Repr

/-- A transaction slot in use (R75); slots from 16 on hold the commits of other members (R509): generation, session, base epoch and its view, staged writes, the bytes they
count, the number of accepted commits at TXN_OPEN, and its commit. -/
structure TxnSlot where
  gen : Nat
  session : Nat
  base : Nat
  baseView : ShowState
  writes : List ShowWrite := []
  bytes : Nat := 0
  opened : Nat
  commit : Option Commit := none
  deriving DecidableEq, Repr

/-- A commit that counts as accepted for R80: acceptance number, slot, and the objects written. -/
structure AcceptRec where
  seq : Nat
  place : Nat := 0
  objects : List Nat
  deriving DecidableEq, Repr

/-- An epoch that the H64 retains: number, show state, and the latch point at which it took force (R84). -/
structure EpochRec where
  epoch : Nat
  view : ShowState
  pos : Pos
  deriving DecidableEq, Repr

/-- A snapshot slot in use (R84, R85). -/
structure SnapSlot where
  gen : Nat
  session : Nat
  epoch : Nat
  released : Bool := false
  /-- The order in which snapshots were opened. -/
  opened : Nat
  deriving DecidableEq, Repr

/-- Transactions, epochs and snapshots. `view` is the show state of DEV_EPOCH. -/
structure TxnState where
  slots : Map TxnSlot := []
  gens : Map Nat := []
  accepted : List AcceptRec := []
  nextSeq : Nat := 0
  view : ShowState := {}
  viewPos : Pos := 0
  /-- Earlier epochs that are still retained, oldest first. -/
  epochs : List EpochRec := []
  snaps : Map SnapSlot := []
  snapGens : Map Nat := []
  deriving DecidableEq, Repr

end Sys2Proof.Machine
end

