-- ==== Sys2Proof/Machine/StateGroup.lean ====
section
/-!
DEFINITION. Machine/StateGroup.lean: the state of a group of devices: Zoette links, membership, group commits,
sealed input records, Tango roles, digests and Cotillion (R494 to R526), and the messages that devices exchange.
-/

namespace Sys2Proof.Machine

/-! ### Messages -/

/-- What an input delta or a sealed input record holds (R510). -/
structure SealRecord where
  sacn : Map RxLatched := []
  dmx : Map Bytes := []
  /-- Host live values (R253), by rank × 2^27 + LAYER × 2^24 + address. -/
  live : Map LiveVal := []
  meas : Map FeederMeas := []
  temps : Map F32 := []
  /-- The readings that temperature sources hold (R335), by rank × 65,536 + source. -/
  readings : Map TempDyn := []
  /-- The unscaled power of colour regions in frame n − 8 (R281): idle and drive parts. -/
  power : Map (F32 × F32) := []
  faults : List GroupFault := []
  /-- Latch acknowledgements by rank × 64 + lane: the tiles that have acknowledged the newest acknowledged FRAME, and its frame. -/
  acks : Map (Nat × List Nat) := []
  gov : Map GovFeeder := []
  safety : Map SafetyDyn := []
  factors : Map F32 := []
  /-- RTP timestamp and CRC-32C of the frame assigned to each video input. -/
  video : Map (Nat × Nat) := []
  ltc : LtcView := {}
  /-- The members whose deltas it holds. -/
  who : List Nat := []
  deriving DecidableEq, Repr

/-- What a state transfer carries (R507): the pinned epoch, its show state and the running state that goes with it, the
grid, the next frame to latch, commits that await application, and the sealed records of frames in flight. -/
structure Transfer where
  epoch : Nat
  view : ShowState
  viewPos : Pos
  next : Nat
  clock : ClockState
  dyn : DynState
  gov : Map GovFeeder
  safety : Map SafetyDyn
  factors : Map F32
  hist : Map (List (Option LayerHist))
  baseSince : Map Nat
  regionLog : List RegionLog
  tx : TxSeqs
  /-- Commits that await application, and how many places of the group order are given. -/
  commits : List TxnSlot
  order : Nat
  seals : Map SealRecord
  deriving DecidableEq, Repr

/-- Group traffic, the payload of a DATA frame. The spec gives its meaning and no byte layout, so it is typed here. -/
inductive GroupMsg where
  /-- Discovery and join (R504, R507): UID, rank, plane, group digest. -/
  | hello (uid rank plane : Nat) (digest : Bytes)
  /-- The coordinator announces itself (R504). -/
  | coordinator (who : Nat)
  /-- A membership notice (R506): planes A and B, effective from a frame. -/
  | membership (a b frame : Nat)
  /-- A commit for distribution (R509): its number, target, place in the group order and staged writes. From its issuer to
  the coordinator the place is that of the last commit that the issuer knows. -/
  | commit (seq target place : Nat) (stopped : Bool) (writes : List ShowWrite)
  | prepared (seq who : Nat)
  /-- The coordinator refuses a commit: under R80, or because 64 commits await application already (R509). -/
  | conflict (seq : Nat) (full : Bool)
  /-- A commit that ABORT ended, or that no longer passes without one (R584). -/
  | withdrawn (seq : Nat)
  | decide (seq : Nat) (apply : Bool)
  | delta (frame who : Nat) (d : SealRecord)
  | seal (frame : Nat) (d : SealRecord)
  | digest (record : Bytes)
  | selfCheck (frame : Nat) (pass : Bool)
  | root (frame who : Nat) (root : Bytes)
  /-- Leaf digests of a device for a narrowed comparison (R523). -/
  | leaves (frame who : Nat) (ls : Map Bytes)
  /-- A device is asked for its leaf digests of a frame; a standby is told that its root differs (R523). -/
  | leavesRequest (frame : Nat)
  | rootDiffer (frame : Nat)
  /-- A device asks for a state transfer, gets it, and has joined (R507). -/
  | resyncRequest (who : Nat)
  | state (t : Transfer)
  | joined (who : Nat)
  /-- TANGO_SWITCH tells the partner the frame of the hand-over (R519). -/
  | switch_ (frame : Nat)
  /-- The hand-over is called off. -/
  | switchOff
  | activate (frame scope : Nat) (digest : Bytes)
  | actPrepared (who : Nat) (digest : Bytes)
  /-- The coordinator's decision, and whether a device reported a different manifest (R532). -/
  | actDecide (go differs : Bool)
  /-- ABORT has ended a group activation, or a start of the show clock, before its decision point (R86). -/
  | actWithdrawn
  | clockWithdrawn
  /-- A device has ended the pause of its activation (R533). -/
  | actDone (who : Nat)
  /-- A period that the coordinator fixed, and the state of the show clock (R508). -/
  | grid (g : GridFrame) (phase : ClockPhase)
  /-- SHOW_CLOCK_START forwarded to the coordinator: its request payload (R508). -/
  | clockRequest (payload : Bytes)
  /-- The coordinator cannot start the clock: the reference input is not ENABLED (R109). -/
  | clockRefused
  /-- The start of the show clock: timing block, first frame, its instant, T_ref, and whether the reference is valid. -/
  | clockStart (block : TimingBlock) (frame : Nat) (due : Instant) (tref : Int × Nat) (offset : Int) (locked : Bool)
  deriving DecidableEq, Repr

/-- A HELLO payload (R498). -/
structure Hello where
  uid : Nat
  rank : Nat
  plane : Nat
  link : Nat
  version : Nat
  helloRx : Nat
  digest : Bytes
  deriving DecidableEq, Repr

/-- A DATA frame of a link (R498): channel, SEQ, ACK and credits returned, destination and source in the format of
DEST, payload length and message. -/
structure ZlkData where
  chan : Nat
  seq : Nat
  ack : Nat := 0
  credit : List Nat := [0, 0, 0, 0]
  /-- The count of protected frames before it (R547), and what tells a broadcast frame of its sender from another. -/
  count : Nat := 0
  origin : Nat := 0
  dest : Nat
  src : Nat
  len : Nat
  crcOk : Bool := true
  msg : GroupMsg
  deriving DecidableEq, Repr

/-- A frame sent and not yet acknowledged (R500): its SEQ, its data (none for a TIME frame), how often it was sent, the cycle of the
last sending, and its count, which it keeps when it is sent again (R547). -/
structure ZlkSent where
  seq : Nat
  frame : Option ZlkData
  sends : Nat := 1
  at_ : Nat
  count : Nat := 0
  deriving DecidableEq, Repr

/-! ### State -/

/-- The states of a Zoette link (R501). -/
inductive ZlkPhase where
  | disabled | locking | hello | up
  deriving DecidableEq, Repr

/-- One Zoette link. -/
structure ZlkLink where
  phase : ZlkPhase := .disabled
  /-- Consecutive good HELLO frames received, saturating at 255. -/
  helloRx : Nat := 0
  peerRx : Nat := 0
  upAt : Nat := 0
  nextSeq : Nat := 0
  /-- Frames protected since the link reached UP (R547). -/
  count : Nat := 0
  /-- SEQ of the last frame accepted in order: 65,535 before the first (DESIGN CHOICE, assumption 58). -/
  lastRx : Nat := 65535
  nakSent : Bool := false
  sent : List ZlkSent := []
  credits : List Nat := [1024, 1024, 1024, 1024]
  /-- Credits to return to the far end. -/
  owed : List Nat := [0, 0, 0, 0]
  waiting : List ZlkData := []
  retries : Word := 0
  /-- Transmit stamp of the last TIME frame sent, and receive stamp of the last one received. -/
  txStamp : Option Instant := none
  rxStamp : Option Instant := none
  deriving DecidableEq, Repr

/-- STATE of GROUP_STATUS (R526). -/
inductive GroupPhase where
  | standalone | forming | formed | degraded | isolated | refused
  deriving DecidableEq, Repr

/-- ROLE of GROUP_STATUS (R515). -/
inductive TangoRole where
  | none_ | active | standby | suspect | resync | faulted | detached
  deriving DecidableEq, Repr

/-- A TXN_COMMIT that waits for the coordinator's answer: its request, its number in the group, slot, target and writes. -/
structure Asked where
  mbx : Nat
  req : Bytes
  seq : Nat
  slot : Nat
  target : Nat
  writes : List ShowWrite
  deriving DecidableEq, Repr

/-- A digest comparison in progress (R517, R518): the records of this device and of the partner, the mismatching
parts, and the self-check results. -/
structure DigestRun where
  own : Option Bytes := none
  peer : Option Bytes := none
  mismatch : Bool := false
  ownPass : Option Bool := none
  peerPass : Option Bool := none
  deriving DecidableEq, Repr

/-- The last Cotillion comparison (R523, R526). -/
structure Cotillion where
  frame : Nat := 0
  root : Bytes := zeros 48
  differ : Nat := 0
  standbyDiffer : Bool := false
  objects : List Nat := []
  deriving DecidableEq, Repr

/-- The group. `record` is the record read at reset release, empty for a standalone device; `flash` the one in
flash. Members are numbered rank + 16 × plane, the format of DEST. -/
structure GroupState where
  record : Bytes := []
  flash : Bytes := []
  rank : Nat := 0
  plane : Nat := 0
  phase : GroupPhase := .standalone
  role : TangoRole := .none_
  coord : Option Nat := none
  presentA : Nat := 0
  presentB : Nat := 0
  links : Map ZlkLink := []
  yieldCause : Nat := 0
  loopPort : Nat := 0
  yieldStuck : Bool := false
  yieldTakeover : Bool := false
  compared : Word := 0
  uncompared : Word := 0
  mismatches : Word := 0
  loopFails : Word := 0
  sealMisses : Word := 0
  timeOffset : Int := 0
  lastTakeover : Nat := 0
  /-- Pins: TANGO_ACTIVE driven high, TANGO_YIELD pulled; TANGO_PEER_ACT and the TANGO_YIELD net as sampled. -/
  actPin : Bool := false
  yieldPull : Bool := false
  peerAct : Bool := false
  yieldNet : Bool := true
  yieldLowAt : Option Nat := none
  /-- Frame m of a takeover or hand-over that is due at L(m), and whether it is a hand-over. -/
  takeover : Option (Nat × Bool) := none
  /-- Operation of the TANGO_SWITCH in progress. -/
  switchOp : Option Nat := none
  /-- Number of the next broadcast of this device, and the broadcasts seen: SRC and number (R503). -/
  castNext : Nat := 0
  seen : List (Nat × Nat) := []
  /-- The TIME cycle in which a member was heard last; by rank, the member whose delta came last, and the seals in a row that
  missed its delta (R506). -/
  heard : Map Nat := []
  activeOf : Map Nat := []
  missed : Map Nat := []
  /-- Places of the group order known here, the number of this device's next commit, and its commits that the coordinator has
  not answered (R509). -/
  order : Nat := 0
  askNext : Nat := 0
  asked : List Asked := []
  deltas : Map SealRecord := []
  /-- Sealed records by frame. -/
  seals : Map SealRecord := []
  lastSeal : Option Nat := none
  runs : Map DigestRun := []
  pllLoss : Option Nat := none
  criticalPoison : Option Nat := none
  roots : Map Bytes := []
  cot : Cotillion := {}
  /-- Outputs whose loopback test awaits its echo: kind × 64 + number. -/
  echoes : List Nat := []
  /-- The device resynchronises; it holds the transferred state. -/
  resync : Bool := false
  holds : Bool := false
  /-- Rounds of seals missing in a row at a standby are counted from this frame. -/
  sealFrom : Nat := 0
  /-- TIME cycles in which TANGO_PEER_ACT fell last, and in which the yield pulse in progress began. -/
  peerLowAt : Option Nat := none
  yieldAt : Nat := 0
  /-- The partner is suspect; GROUP_DEGRADED has been raised for the yield net that is low. -/
  peerSuspect : Bool := false
  netWarned : Bool := false
  /-- Members that resynchronise: no commit and no seal awaits them (R507). -/
  resyncing : List Nat := []
  /-- TIME cycle of the last loopback test. -/
  loopAt : Nat := 0
  deriving DecidableEq, Repr

end Sys2Proof.Machine
end

