-- ==== Sys2Proof/Syntax.lean ====
section
/-!
DEFINITION. Syntax.lean: the commands of the block, one constructor per row of spec/opcode_table.json.

Every command carries `dt`, the TIME cycles (2 ns each) that have passed since the command before it: the spec
gives the block a clock, and this operand is how time passes. The other operands are what arrives with the
command: a register address and value, a mailbox number, a received message, the number of the unit concerned.
A mailbox command carries the number `m` of the mailbox whose executing request it completes; its fields lie in
that mailbox's copied request.
-/

namespace Sys2Proof

open Sys2Proof.Machine

/-- A command of the block (spec/opcode_table.json). -/
inductive Instr where
  /-- REGISTER_WRITE, R9: A host write to a register field that has no row of its own, including W1C clears of
  sticky status bits, acts as its access type defines. -/
  | registerWrite (dt off size value : Nat) (posted : List BulkDesc)
  /-- HOST_INTERFACE_RESET, R52: A function level reset, hot reset, PERST_N or loss of the PCI Express link
  resets the host interface: sessions, transactions, snapshots, rings and mailboxes; rendering continues. -/
  | hostInterfaceReset (dt : Nat)
  /-- MBX_DOORBELL, R64: A write of MBX_DOORBELL.RING latches MBX_DB_POS and posts the mailbox, or only sets
  REFUSED when the mailbox is busy or MBX_READY is 0. -/
  | mbxDoorbell (dt m value : Nat)
  /-- MBX_EXECUTE, R66: A management core takes a POSTED mailbox in MBX_DB_POS order, copies and checks the
  request and executes it, writing the response and setting DONE. -/
  | mbxExecute (dt : Nat) (hold poison : Bool)
  /-- MBX_DONE_CLEAR, R64: A host write of 1 to MBX_DONE.DONE returns a DONE mailbox to FREE. -/
  | mbxDoneClear (dt m value : Nat)
  /-- SESSION_OPEN (0x0101), R73: Opens a session of a role after checking AUTH_LEN, ranges, lockout, the
  session limit and the proof. -/
  | sessionOpen (dt m : Nat)
  /-- SESSION_CLOSE (0x0102), R74: Closes the issuing session or, for a SECURITY_OFFICER, any session,
  discarding its transactions and snapshots. -/
  | sessionClose (dt m : Nat)
  /-- SESSION_IDLE_TIMEOUT, R74: A session that no request has named for IDLE_TIMEOUT seconds ends. -/
  | sessionIdleTimeout (dt session : Nat)
  /-- ABORT (0x0104), R86: Aborts a POSTED or ACCEPTED operation of the session before its decision point, or
  returns ALREADY_COMPLETE after it. -/
  | abort (dt m : Nat)
  /-- TXN_OPEN (0x0110), R76: Opens a transaction in a free slot with the current epoch as base. -/
  | txnOpen (dt m : Nat)
  /-- TXN_COMMIT (0x0111), R81: Checks a transaction in the commit check order and accepts it for application at
  a target frame. -/
  | txnCommit (dt m : Nat)
  /-- TXN_CANCEL (0x0112), R83: Discards an open transaction. -/
  | txnCancel (dt m : Nat)
  /-- SNAP_OPEN (0x0114), R84: Pins a retained epoch in a snapshot slot. -/
  | snapOpen (dt m : Nat)
  /-- SNAP_CLOSE (0x0115), R85: Closes a snapshot and frees its slot. -/
  | snapClose (dt m : Nat)
  /-- FN_ENABLE (0x0120), R39: Enables a DISABLED function so that it accepts work. -/
  | fnEnable (dt m : Nat)
  /-- FN_DISABLE (0x0121), R40: Starts draining an ENABLED function, cancelling queued items, or refuses with
  CONFLICT when a dependency holds. -/
  | fnDisable (dt m : Nat)
  /-- FN_STATUS (0x0122), R49: Reports a function's state and its last drain counts. -/
  | fnStatus (dt m : Nat)
  /-- DRAIN_COMPLETE, R39: The last in-flight item of a DRAINING function ends; the function becomes DISABLED
  and the final completion of FN_DISABLE is delivered. -/
  | drainComplete (dt fn : Nat)
  /-- DRAIN_BOUND_EXPIRY, R39: The drain bound of a DRAINING function expires; remaining items are cancelled and
  the function becomes DISABLED. -/
  | drainBoundExpiry (dt fn : Nat)
  /-- RNG_ENABLE, R89: A write of RNG_CFG that sets ENABLE on a DISABLED ring starts it if its configuration is
  valid, or sets REFUSED. -/
  | rngEnable (dt r value : Nat)
  /-- RNG_DISABLE, R89: A write of RNG_CFG that clears ENABLE on an ENABLED ring starts a 1 ms drain cancelling
  unstarted entries. -/
  | rngDisable (dt r value : Nat)
  /-- RNG_CONFIG_WRITE, R89: A write of RNG_CFG that leaves ENABLE unchanged stores its fields on a DISABLED
  ring or is refused. -/
  | rngConfigWrite (dt r value : Nat)
  /-- RNG_BASE_WRITE, R89: A write of RNG_BASE sets the ring base while DISABLED and is otherwise ignored with
  REFUSED. -/
  | rngBaseWrite (dt r value : Nat)
  /-- RNG_HOST_IDX_WRITE, R90: A write of RNG_HOST_IDX sets both indices of a DISABLED ring, or moves the host
  index forward within its limit, or sets OVERRUN. -/
  | rngHostIdxWrite (dt r value : Nat) (posted : List BulkDesc)
  /-- RNG_DRAIN_END, R89: A DRAINING ring finishes its drain or its 1 ms bound and becomes DISABLED. -/
  | rngDrainEnd (dt r : Nat)
  /-- BULK_DESCRIPTOR_START, R95: The DMA engine takes a posted bulk descriptor of an ENABLED ring and starts
  its transfer or completes it with BAD_RANGE. -/
  | bulkDescriptorStart (dt r : Nat)
  /-- BULK_DESCRIPTOR_DONE, R95: A bulk transfer ends; CODE is written and RNG_DEV_IDX advances. -/
  | bulkDescriptorDone (dt r : Nat) (hostErr poison : Bool) (data : Bytes)
  /-- COMPLETION_HELD_DELIVER, R93: A held final completion is delivered once ring 0 is ENABLED and has a free
  entry. -/
  | completionHeldDeliver (dt : Nat)
  /-- HEARTBEAT_TICK, R58: Each millisecond Lanishambe increments DEV_HEARTBEAT, except during a restart. -/
  | heartbeatTick (dt : Nat)
  /-- SHOW_BOUNDARY, R104: At each show boundary t(n) the frame number advances by one and the period of frame n
  + 8 is fixed. -/
  | showBoundary (dt : Nat)
  /-- LATCH_POINT, R82: At L(n) inputs latch into the input record, committed transactions targeting n are
  applied, and the main window of frame n opens. -/
  | latchPoint (dt : Nat)
  /-- MAIN_WINDOW_CLOSE, R443: The main window closes 0.8T after L(n); unfinished work makes the frame repeat by
  copying the previous wire-image slot. -/
  | mainWindowClose (dt : Nat)
  /-- CANVAS_WINDOW_OPEN, R18: At C(n) the canvas window of a canvas frame opens and its tile tasks become
  eligible, unless a flip is still pending. -/
  | canvasWindowOpen (dt k : Nat)
  /-- CANVAS_WINDOW_CLOSE, R443: A canvas window closes 0.8T after C(n); an unfinished window writes no flip
  commit and raises CANVAS_REPEAT. -/
  | canvasWindowClose (dt k : Nat)
  /-- SLICE_WINDOW_CLOSE, R130: A slice window closes 0.1T after A_k(n); an unfinished slice repeats and raises
  SLICE_REPEAT. -/
  | sliceWindowClose (dt k j : Nat)
  /-- TASK_READY, R442: Reel's generator adds a task to the ready queue once its ordering constraints are met,
  stalling while the queue is full. -/
  | taskReady (dt : Nat) (t : Task)
  /-- TASK_GRANT, R441: Reel grants ready tasks to asking clusters, up to 8 per cycle, earliest window first. -/
  | taskGrant (dt : Nat)
  /-- TASK_COMPLETE, R436: A cluster completes its task, or ends it without result on poisoned data, and asks
  Reel again. -/
  | taskComplete (dt cluster : Nat) (poison : Bool)
  /-- GOVERNOR_DECISION, R438: After phase 1 the reduction unit computes feeder targets, scales, feeder states,
  gain and safety-group states for frame n. -/
  | governorDecision (dt : Nat)
  /-- GAP_START, R306: At G(n) a pending flip swaps front and back banks, lanes send GAP and any due ANNOUNCE. -/
  | gapStart (dt k : Nat)
  /-- SCAN_START, R304: At S(n) all lanes of a carried canvas begin their lane frame, or send release frames
  after a hand-over. -/
  | scanStart (dt k : Nat) (bad : List (Nat × Nat))
  /-- EMISSION_INSTANT, R336: At an output's emission instant the sACN run, synchronisation packet, DMX break or
  PWM load of frame n is released, subject to skip, supersede and late rules. -/
  | emissionInstant (dt kind number frame : Nat) (poison : Bool)
  /-- LIGHT_TIME, R106: At light(n) the frame's light appears; the frame may leave flight and GLIDE_DONE may be
  raised. -/
  | lightTime (dt : Nat)
  /-- ACTION_TAKES_EFFECT, R211: A pending playback or effect action, including a follow GO, reaches its action
  position and changes targets and fades, or raises ACTION_VOID. -/
  | actionTakesEffect (dt : Nat)
  /-- SHOW_CLOCK_START (0x0201), R132: Starts acquisition of the show clock with reference, rate, delay, slew
  and start frame. -/
  | showClockStart (dt m : Nat)
  /-- SHOW_CLOCK_STARTS, R109: Frame START_FRAME begins at the first qualifying reference boundary or 1 ms after
  execution; SHOW_CLOCK_RUN becomes 1 and the final completion is delivered. -/
  | showClockStarts (dt : Nat)
  /-- ACQ_TIMEOUT, R112: ACQ_TIMEOUT expires before the reference is valid and the show clock starts in
  HOLDOVER. -/
  | acqTimeout (dt : Nat)
  /-- SHOW_TIMING_SET (0x0202), R133: Stages a timing change with its change frame inside a transaction. -/
  | showTimingSet (dt m : Nat)
  /-- SLICE_MODE_SET (0x0204), R134: Stages slice mode or whole-frame mode for a canvas. -/
  | sliceModeSet (dt m : Nat)
  /-- SHOW_CLOCK_STATUS (0x0203), R135: Reports the show clock state, rate, periods, delays and phase error. -/
  | showClockStatus (dt m : Nat)
  /-- REFERENCE_BOUNDARY, R102: A reference boundary such as a genlock V edge or PTP grid instant arrives; the
  phase error is measured and slewing or locking follows. -/
  | referenceBoundary (dt key cycles back : Nat)
  /-- LTC_WORD, R117: A valid LTC word is received; its value is latched for the show frames that begin within
  it and a jump raises LTC_JUMP. -/
  | ltcWord (dt word : Nat)
  /-- REF_LOST, R114: The reference meets its loss condition; REF_LOST is raised and the show clock enters
  HOLDOVER. -/
  | refLost (dt : Nat)
  /-- REF_VALID, R114: A lost reference meets its validity condition; REF_VALID is raised and the show clock
  slews or locks. -/
  | refValid (dt : Nat)
  /-- PTP_SYNC_RX, R142: A Sync message is received and, once complete, forms a sample that the servo accepts or
  refuses. -/
  | ptpSyncRx (dt : Nat) (msg : PtpTimed)
  /-- PTP_FOLLOW_UP_RX, R142: A Follow_Up message completes a two-step sample. -/
  | ptpFollowUpRx (dt : Nat) (msg : PtpTimed)
  /-- PTP_DELAY_RESP_RX, R142: A Delay_Resp completes a path-delay exchange that updates the delay filter unless
  discarded. -/
  | ptpDelayRespRx (dt : Nat) (msg : PtpTimed)
  /-- PTP_ANNOUNCE_RX, R141: An Announce message feeds the best master clock algorithm. -/
  | ptpAnnounceRx (dt : Nat) (msg : PtpAnnounce)
  /-- PTP_DELAY_REQ_TX, R141: The PTP engine sends its periodic Delay_Req to the master. -/
  | ptpDelayReqTx (dt : Nat)
  /-- ANNOUNCE_RECEIPT_TIMEOUT, R144: announceReceiptTimeout expires, counting as master lost. -/
  | announceReceiptTimeout (dt : Nat)
  /-- SYNC_LOSS_TIMEOUT, R144: SYNC_LOSS consecutive Sync intervals pass without a sample, counting as master
  lost. -/
  | syncLossTimeout (dt : Nat)
  /-- PTP_CONFIG (0x0210), R158: Configures and restarts the PTP port in LISTENING. -/
  | ptpConfig (dt m : Nat)
  /-- PTP_STATUS (0x0211), R163: Reports PTP port, timebase and parent state. -/
  | ptpStatus (dt m : Nat)
  /-- TIME_CONFIG (0x0212), R159: Sets jump threshold, slew, loop bandwidth, hold averaging and port
  corrections. -/
  | timeConfig (dt m : Nat)
  /-- TIME_STEP (0x0213), R148: Steps the timebase by a delta in one TIME cycle and shifts every held future
  instant. -/
  | timeStep (dt m : Nat)
  /-- PULSE_SET (0x0220), R152: Replaces or cancels the schedule of a time pulse output. -/
  | pulseSet (dt m : Nat)
  /-- PULSE_EDGE, R150: A scheduled leading edge of a time pulse output falls and the pulse begins. -/
  | pulseEdge (dt output : Nat)
  /-- PULSE_END, R150: A time pulse reaches WIDTH_NS and returns to the inactive level. -/
  | pulseEnd (dt output : Nat)
  /-- CAPTURE_SET (0x0230), R162: Selects the edge polarity of a capture input. -/
  | captureSet (dt m : Nat)
  /-- CAPTURE_EDGE, R154: A selected edge on a capture input is stamped and queued, or dropped with CAP_OVF. -/
  | captureEdge (dt input : Nat) (rising : Bool)
  /-- TIM_LATCH, R157: A write of TIM_CTRL.LATCH latches timebase and show position into TIM_LAT_ in one TIME
  cycle. -/
  | timLatch (dt : Nat)
  /-- TIM_CAP_POP, R157: A write of TIM_CAP_POP.POP removes the head capture record. -/
  | timCapPop (dt input : Nat)
  /-- PROFILE_LOAD (0x0301), R189: Stages the definition or replacement of a profile from the host region. -/
  | profileLoad (dt m : Nat)
  /-- PROFILE_DELETE (0x0302), R189: Stages the deletion of an unused profile. -/
  | profileDelete (dt m : Nat)
  /-- PROFILE_READ (0x0303), R190: Writes a profile image to the host region. -/
  | profileRead (dt m : Nat)
  /-- PATCH_WRITE (0x0310), R191: Checks and stages patch records inline, or accepts them from the host region. -/
  | patchWrite (dt m : Nat)
  /-- PATCH_WRITE_DONE, R191: A host-region PATCH_WRITE finishes its records and delivers its final completion. -/
  | patchWriteDone (dt op : Nat) (poison : Bool)
  /-- PATCH_CLEAR (0x0311), R192: Stages unpatching of a range of fixture IDs. -/
  | patchClear (dt m : Nat)
  /-- PATCH_READ (0x0312), R193: Returns patch records of patched fixtures in ID order. -/
  | patchRead (dt m : Nat)
  /-- PARAM_WRITE (0x0320), R194: Stages base values and PARK operations on parameter addresses. -/
  | paramWrite (dt m : Nat)
  /-- PARAM_READ (0x0321), R195: Returns base values and PARK bits. -/
  | paramRead (dt m : Nat)
  /-- POOL_STATUS (0x0330), R196: Reports parameter pool use. -/
  | poolStatus (dt m : Nat)
  /-- CUELIST_LOAD (0x0401), R227: Accepts a cue list image from the host region for a playback. -/
  | cuelistLoad (dt m : Nat)
  /-- CUELIST_LOAD_DONE, R227: A cue list load finishes validation and staging and delivers its final
  completion. -/
  | cuelistLoadDone (dt op : Nat) (poison : Bool)
  /-- SOURCE_DELETE (0x0402), R228: Stages deletion of a playback, effect instance or effect table. -/
  | sourceDelete (dt m : Nat)
  /-- EFFECT_DEFINE (0x0410), R229: Stages an effect definition. -/
  | effectDefine (dt m : Nat)
  /-- EFFECT_TABLE_LOAD (0x0411), R230: Stages an effect table of 256 points. -/
  | effectTableLoad (dt m : Nat)
  /-- PLAYBACK_ACTION (0x0420), R231: Stages action records for playbacks and effect instances. -/
  | playbackAction (dt m : Nat)
  /-- PLAYBACK_STATUS (0x0430), R232: Reports the state of a playback or effect instance. -/
  | playbackStatus (dt m : Nat)
  /-- LAYER_SET (0x0501), R263: Stages a layer's priority, alpha and live timeout. -/
  | layerSet (dt m : Nat)
  /-- POLICY_SET (0x0502), R263: Stages a merge policy override run. -/
  | policySet (dt m : Nat)
  /-- SACN_RX_SET (0x0510), R264: Stages a receive universe definition and its input map. -/
  | sacnRxSet (dt m : Nat)
  /-- DMX_IN_SET (0x0511), R264: Stages a DMX input binding and its input map. -/
  | dmxInSet (dt m : Nat)
  /-- LIVE_WRITE (0x0520), R265: Presents host live values or releases on a layer, stamped with its completion
  position. -/
  | liveWrite (dt m : Nat)
  /-- VIDEO_IN_SET (0x0530), R266: Stages the configuration of a video input. -/
  | videoInSet (dt m : Nat)
  /-- VIDEO_SAMPLE_SET (0x0531), R267: Stages video sample records inline or accepts them from the host region. -/
  | videoSampleSet (dt m : Nat)
  /-- VIDEO_SAMPLE_SET_DONE, R267: A host-region VIDEO_SAMPLE_SET finishes and delivers its final completion. -/
  | videoSampleSetDone (dt op : Nat) (poison : Bool)
  /-- VIDEO_MAP_SET (0x0532), R268: Stages a video map onto a canvas layer. -/
  | videoMapSet (dt m : Nat)
  /-- INPUT_STATUS (0x0540), R269: Reports the state and counts of an input. -/
  | inputStatus (dt m : Nat)
  /-- MERGE_READ (0x0541), R269: Reports stage-2 merge results of the latest closed frame. -/
  | mergeRead (dt m : Nat)
  /-- SACN_DATA_RX, R246: A received sACN data packet passes the sequence test and updates its source, or is
  held for synchronisation, or is discarded. -/
  | sacnDataRx (dt : Nat) (packet : SacnData)
  /-- SACN_SYNC_RX, R249: An sACN synchronisation packet releases and stamps the held data packets of its
  address. -/
  | sacnSyncRx (dt port cid : Nat) (packet : Machine.SacnSync)
  /-- SACN_SOURCE_TIMEOUT, R247: A tracked source passes 2,500 ms without an accepted packet and ends, raising
  SACN_SOURCE_LOST. -/
  | sacnSourceTimeout (dt uni cid : Nat)
  /-- SACN_SYNC_TIMEOUT, R249: 2,500 ms pass without a synchronisation packet for an address; SACN_SYNC_LOST is
  raised. -/
  | sacnSyncTimeout (dt addr : Nat)
  /-- DMX_IN_PACKET, R251: A DMX input packet completes at the next break or its 512th slot and is stamped. -/
  | dmxInPacket (dt port start : Nat) (slots : Bytes) (line : Machine.DmxLine)
  /-- DMX_IN_TIMEOUT, R251: A DMX input without a complete packet for 1,250 ms raises DMX_IN_LOST. -/
  | dmxInTimeout (dt port : Nat)
  /-- VIDEO_PACKET_RX, R255: An ST 2110-20 packet is stored into its input frame; the marker packet completes
  the frame or a gap makes it incomplete. -/
  | videoPacketRx (dt input : Nat) (packet : VideoPacket)
  /-- VIDEO_FRAME_TIMEOUT, R255: No marker packet arrives within T + 1 ms of a frame's first packet; the frame
  is incomplete. -/
  | videoFrameTimeout (dt input : Nat)
  /-- VIDEO_LOSS_TIMEOUT, R258: A video input receives no packet for four periods and raises VIDEO_LOST. -/
  | videoLossTimeout (dt input : Nat)
  /-- CALIB_SET (0x0601), R289: Stages calibration records inline or accepts them from the host region. -/
  | calibSet (dt m : Nat)
  /-- CALIB_SET_DONE, R289: A host-region CALIB_SET finishes and delivers its final completion. -/
  | calibSetDone (dt op : Nat) (poison : Bool)
  /-- REGION_SET (0x0610), R289: Stages colour region records inline or accepts them from the host region. -/
  | regionSet (dt m : Nat)
  /-- REGION_SET_DONE, R289: A host-region REGION_SET finishes and delivers its final completion. -/
  | regionSetDone (dt op : Nat) (poison : Bool)
  /-- FEEDER_SET (0x0620), R290: Stages a feeder definition. -/
  | feederSet (dt m : Nat)
  /-- FEEDER_MEMBER_SET (0x0621), R290: Stages fixture membership of feeders. -/
  | feederMemberSet (dt m : Nat)
  /-- FEEDER_STATUS (0x0630), R291: Reports a feeder's state, gain, powers and scales. -/
  | feederStatus (dt m : Nat)
  /-- SOLVE_READ (0x0631), R291: Reports stage-4 drives and power of fixtures. -/
  | solveRead (dt m : Nat)
  /-- CANVAS_SET (0x0701), R319: Stages the definition, replacement or removal of a canvas. -/
  | canvasSet (dt m : Nat)
  /-- SEGMENT_SET (0x0702), R319: Stages the lane segments of a pixel lane. -/
  | segmentSet (dt m : Nat)
  /-- PIXEL_MAP_SET (0x0703), R319: Stages fixture pixel maps inline or accepts them from the host region. -/
  | pixelMapSet (dt m : Nat)
  /-- PIXEL_MAP_SET_DONE, R319: A host-region PIXEL_MAP_SET finishes and delivers its final completion. -/
  | pixelMapSetDone (dt op : Nat) (poison : Bool)
  /-- RECT_CHECK_SET (0x0704), R319: Stages check rectangles of a canvas. -/
  | rectCheckSet (dt m : Nat)
  /-- TE_SET (0x0705), R320: Binds a tearing-effect input to a canvas, edge and offset. -/
  | teSet (dt m : Nat)
  /-- DISPLAY_SET (0x0710), R315: Sets the confidence output's mode, depth, source and rectangles after a
  bandwidth check. -/
  | displaySet (dt m : Nat)
  /-- CANVAS_STATUS (0x0720), R321: Reports a canvas's flip state, CRCs and counts. -/
  | canvasStatus (dt m : Nat)
  /-- DISPLAY_STATUS (0x0721), R321: Reports the DisplayPort output state. -/
  | displayStatus (dt m : Nat)
  /-- TILE_LATCH_MISSING_TIMEOUT, R310: A tile that acknowledged the previous frame sends no acknowledgement by
  expected latch + T_c/2; TILE_LATCH_MISSING is raised. -/
  | tileLatchMissingTimeout (dt lane tileNo : Nat)
  /-- TE_EDGE, R311: A selected tearing-effect edge is stamped and compared with its expected edge, raising
  TE_LATE when outside tolerance. -/
  | teEdge (dt input : Nat) (rising : Bool)
  /-- TE_MISSING_TIMEOUT, R311: No tearing-effect edge falls within T_c/2 of the expected edge; TE_MISSING is
  raised. -/
  | teMissingTimeout (dt input : Nat)
  /-- DP_HPD_CHANGE, R315: Hot-plug detect changes; on assertion the H64 reads the DPCD and trains the link. -/
  | dpHpdChange (dt : Nat) (present : Bool)
  /-- DP_IRQ_HPD, R315: An IRQ_HPD pulse makes the H64 read link status and retrain when lock is lost. -/
  | dpIrqHpd (dt : Nat) (lockLost : Bool)
  /-- DP_TRAINING_DONE, R315: DisplayPort link training ends, succeeding with a fitting or fallback mode or
  failing with DP_LINK_FAIL. -/
  | dpTrainingDone (dt : Nat) (link : Option (Nat × Nat))
  /-- DP_TRAIN_RETRY, R315: Once per second while a sink is present after a failed training, training is
  retried. -/
  | dpTrainRetry (dt : Nat)
  /-- DP_VBLANK, R317: At vertical blanking a pending DISPLAY_SET takes effect and DP_MODE_CHANGED is raised at
  the first frame with pixels. -/
  | dpVblank (dt : Nat)
  /-- DP_LINE_FETCH, R316: At each horizontal blanking the next source line is fetched from the current front
  bank. -/
  | dpLineFetch (dt : Nat) (poisoned : List Nat)
  /-- CURVE_LOAD (0x0801), R340: Stages loading or deletion of a host curve. -/
  | curveLoad (dt m : Nat)
  /-- OUTPUT_GROUP_SET (0x0802), R341: Stages output group records. -/
  | outputGroupSet (dt m : Nat)
  /-- TEMP_SOURCE_SET (0x0810), R342: Stages temperature source records. -/
  | tempSourceSet (dt m : Nat)
  /-- DERATE_SET (0x0811), R342: Stages derating records. -/
  | derateSet (dt m : Nat)
  /-- SAFETY_GROUP_SET (0x0820), R343: Stages safety group definitions. -/
  | safetyGroupSet (dt m : Nat)
  /-- SAFETY_MEMBER_SET (0x0821), R343: Stages safety member records inline or accepts them from the host
  region. -/
  | safetyMemberSet (dt m : Nat)
  /-- SAFETY_MEMBER_SET_DONE, R343: A host-region SAFETY_MEMBER_SET finishes and delivers its final completion. -/
  | safetyMemberSetDone (dt op : Nat) (poison : Bool)
  /-- SAFETY_CLEAR (0x0822), R344: Stages clears or forced faults of safety groups. -/
  | safetyClear (dt m : Nat)
  /-- SAFETY_STATUS (0x0830), R345: Reports a safety group's state and cause. -/
  | safetyStatus (dt m : Nat)
  /-- DERATE_STATUS (0x0831), R345: Reports a derating record's temperature and factors. -/
  | derateStatus (dt m : Nat)
  /-- EMIT_STATUS (0x0832), R345: Reports an output's emission latency and counts. -/
  | emitStatus (dt m : Nat)
  /-- LANE_TRAINED, R354: A TRAINING lane meets its training condition and goes UP. -/
  | laneTrained (dt lane : Nat)
  /-- LANE_TRAIN_TIMEOUT, R354: A lane spends 2 ms in TRAINING without reaching UP and raises LANE_TRAIN_FAIL
  once. -/
  | laneTrainTimeout (dt lane : Nat)
  /-- LANE_LINK_LOSS, R354: An UP lane with back-channel loses K28.5 for 10 µs or sees 16 code violations;
  LANE_DOWN is raised and training restarts. -/
  | laneLinkLoss (dt lane : Nat)
  /-- LATCH_ACK, R310: A LATCH_ACK back-channel message is stamped and compared with the expected latch, raising
  TILE_LATCH_LATE when outside tolerance. -/
  | latchAck (dt lane tileNo frameLo ageNs : Nat)
  /-- TEMP, R357: A TEMP back-channel message gives a new reading to every matching tile temperature source. -/
  | temp (dt lane tileNo : Nat) (failed : Bool) (raw : Nat)
  /-- FAULT, R357: A FAULT back-channel message raises a back-channel safety fault for matching tile members and
  TILE_FAULT. -/
  | fault (dt lane tileNo kind : Nat)
  /-- RX_ERROR, R357: An RX_ERROR back-channel message is counted and raises LANE_RX_ERROR. -/
  | rxError (dt lane : Nat)
  /-- RETRAIN, R354: A RETRAIN back-channel message sends the lane back to TRAINING after the frame being sent. -/
  | retrain (dt lane : Nat)
  /-- TEST_ECHO, R357: A TEST_ECHO back-channel message delivers its CRC to the standby loopback test. -/
  | testEcho (dt lane frameLo crc : Nat)
  /-- BACKCHANNEL_MESSAGE_DISCARD, R358: A back-channel message with a CRC error, code violation, unknown type
  or wrong length, or arriving while not UP, is discarded and counted. -/
  | backchannelMessageDiscard (dt lane : Nat)
  /-- LANE_SET (0x0901), R372: Stages a lane's format and hold time. -/
  | laneSet (dt m : Nat)
  /-- LANE_PHY_SET (0x0902), R372: Sets a lane's physical settings at once, retraining an UP lane. -/
  | lanePhySet (dt m : Nat)
  /-- DMX_PORT_SET (0x0910), R372: Stages a DMX port's direction, timing and RDM UID. -/
  | dmxPortSet (dt m : Nat)
  /-- PWM_SET (0x0920), R368: Stages a PWM output's resolution, divider, offset and sense settings. -/
  | pwmSet (dt m : Nat)
  /-- RDM_TRANSACTION (0x0911), R373: Queues an RDM request on a DMX port. -/
  | rdmTransaction (dt m : Nat)
  /-- RDM_TRANSACTION_START, R364: A queued RDM transaction starts its break when the port is idle and the next
  emission is far enough ahead, or after waiting 500 ms. -/
  | rdmTransactionStart (dt port : Nat)
  /-- RDM_RESPONSE_END, R363: An RDM response ends or its window closes; RESULT is fixed, responses are parsed
  and the final completion is delivered. -/
  | rdmResponseEnd (dt port : Nat) (brk : Bool) (bytes : Bytes)
  /-- PORT_STATUS (0x0930), R374: Reports a lane, DMX port or PWM output state and counts. -/
  | portStatus (dt m : Nat)
  /-- PWM_PERIOD_START, R367: A PWM period begins at the counter offset of its output and loads any new value. -/
  | pwmPeriodStart (dt output : Nat)
  /-- PWM_SENSE_SAMPLE, R369: The sense input is sampled SENSE_DELAY after the leading edge; the fourth
  no-current sample is an open-load detection. -/
  | pwmSenseSample (dt output : Nat) (current : Bool)
  /-- NET_LINK_UP, R377: An Ethernet port holds lock for 10 ms or completes auto-negotiation and goes UP,
  raising NET_LINK_CHANGE. -/
  | netLinkUp (dt : Nat) (link : Machine.LinkUp)
  /-- NET_LINK_DOWN, R377: An Ethernet port loses lock, sees RX_LOS or MOD_ABS or a remote fault and goes DOWN,
  raising NET_LINK_CHANGE. -/
  | netLinkDown (dt port : Nat) (modAbs txFault rxLos : Bool)
  /-- NET_FRAME_RX, R382: A received Ethernet frame is checked, MACsec-processed, classified and delivered to an
  internal or host ring, or dropped. -/
  | netFrameRx (dt port : Nat) (frame : RxFrame) (stop : Option Nat)
  /-- PAUSE_EXPIRY, R388: A transmit pause of q quanta ends and the port may send again. -/
  | pauseExpiry (dt port : Nat)
  /-- NET_FRAME_TX, R389: A free port takes the next frame by the transmit order and sends it, with checksums,
  MACsec and timestamps. -/
  | netFrameTx (dt port : Nat) (turn : Machine.TxTurn)
  /-- SACN_DISCOVERY_TIMER, R392: Every 10 s while DISCOVERY is set, universe discovery packets are queued. -/
  | sacnDiscoveryTimer (dt : Nat)
  /-- NET_PORT_SET (0x0A01), R401: Sets an Ethernet port's mode and addresses. -/
  | netPortSet (dt m : Nat)
  /-- NET_RING_BIND (0x0A02), R402: Binds or unbinds a host network ring to a host DMA ring. -/
  | netRingBind (dt m : Nat)
  /-- NET_PORT_STATUS (0x0A10), R403: Reports port state and counters, optionally clearing the HALF mask. -/
  | netPortStatus (dt m : Nat)
  /-- NET_RING_STATUS (0x0A11), R404: Reports a network ring's level and counts. -/
  | netRingStatus (dt m : Nat)
  /-- SACN_TX_CONFIG (0x0A20), R405: Stages the sACN source CID, name and defaults. -/
  | sacnTxConfig (dt m : Nat)
  /-- SACN_TX_UNIVERSE_SET (0x0A21), R405: Stages sACN transmit universe records. -/
  | sacnTxUniverseSet (dt m : Nat)
  /-- MACSEC_SECY_SET (0x0A30), R406: Configures a port's MACsec SecY. -/
  | macsecSecySet (dt m : Nat)
  /-- MACSEC_SA_SET (0x0A31), R398: Installs, activates or deletes a MACsec SA from a wrapped SAK. -/
  | macsecSaSet (dt m : Nat)
  /-- MACSEC_STATUS (0x0A32), R406: Reports a port's MACsec state. -/
  | macsecStatus (dt m : Nat)
  /-- MTR_SAMPLE, R408: Every 125 µs all modulators sample; gains switch, power samples and energy registers
  advance. -/
  | mtrSample (dt : Nat) (raw : List Int)
  /-- MTR_ZERO_CROSSING, R414: An accepted zero crossing closes a line cycle, emits its cycle record and may
  close a latch interval. -/
  | mtrZeroCrossing (dt point : Nat) (stamp : Int)
  /-- MTR_ZC_TIMEOUT, R416: ZC_TIMEOUT passes without a crossing; the point enters LOSS and raises
  MTR_VOLTAGE_LOSS. -/
  | mtrZcTimeout (dt point : Nat)
  /-- MTR_AUX_PERIOD_END, R410: An AUX_DC channel delivers its ratio at the end of AUX_PERIOD. -/
  | mtrAuxPeriodEnd (dt channel : Nat)
  /-- MTR_ROVE_START, R412: Every ROVE_PERIOD the roving modulator joins the next roving channel and begins
  fitting. -/
  | mtrRoveStart (dt : Nat)
  /-- MTR_ROVE_TAKEOVER, R412: At t0 + 250 ms the roving modulator supplies the channel and its own modulator
  starts self-calibration. -/
  | mtrRoveTakeover (dt : Nat)
  /-- MTR_ROVE_REJOIN, R412: At t0 + 650 ms the channel modulator rejoins with new corrections for comparison. -/
  | mtrRoveRejoin (dt : Nat) (kg zg : List Int)
  /-- MTR_ROVE_RETURN, R413: At t0 + 900 ms the channel's own modulator supplies samples again and new
  corrections stand or MTR_ROVE_FAULT is raised. -/
  | mtrRoveReturn (dt : Nat) (residual : Int)
  /-- MTR_ROVE_END, R412: At t0 + 1,000 ms the roving modulator finishes calibrating itself against the
  reference. -/
  | mtrRoveEnd (dt : Nat)
  /-- MTR_PULSE_EDGE, R424: A scheduled metering pulse edge is driven, or waits in BACKLOG for the gap. -/
  | mtrPulseEdge (dt output : Nat)
  /-- MTR_PULSE_END, R425: A metering pulse reaches WIDTH_MS and the gap begins. -/
  | mtrPulseEnd (dt output : Nat)
  /-- MTR_CHANNEL_SET (0x0B01), R428: Sets a metering channel's role, gain and scaling. -/
  | mtrChannelSet (dt m : Nat)
  /-- MTR_POINT_SET (0x0B02), R428: Defines, changes or removes a metering point. -/
  | mtrPointSet (dt m : Nat)
  /-- MTR_ENERGY_PRESET (0x0B03), R429: Presets an energy register at the start of the next latch interval. -/
  | mtrEnergyPreset (dt m : Nat)
  /-- MTR_PULSE_SET (0x0B04), R430: Configures a metering pulse output. -/
  | mtrPulseSet (dt m : Nat)
  /-- MTR_ROVE_SET (0x0B05), R431: Sets ROVE_PERIOD. -/
  | mtrRoveSet (dt m : Nat)
  /-- MTR_PULSE_STATUS (0x0B13), R432: Reports a metering pulse output's accumulator and backlog. -/
  | mtrPulseStatus (dt m : Nat)
  /-- MTR_LATCH_READ (0x0B10), R433: Returns a held latch record. -/
  | mtrLatchRead (dt m : Nat)
  /-- MTR_CYCLE_READ (0x0B11), R433: Returns the latest cycle record of a point. -/
  | mtrCycleRead (dt m : Nat)
  /-- MTR_CHANNEL_STATUS (0x0B12), R433: Reports a metering channel's state and recalibration. -/
  | mtrChannelStatus (dt m : Nat)
  /-- MTR_CAPTURE (0x0B20), R434: Starts capturing raw samples of an ENABLED channel into the host region. -/
  | mtrCapture (dt m : Nat)
  /-- MTR_CAPTURE_DONE, R434: A metering capture writes its last sample and delivers its final completion. -/
  | mtrCaptureDone (dt op : Nat)
  /-- COUNTER_ACCESS (0x0C01), R453: Opens or closes counter access for the session. -/
  | counterAccess (dt m : Nat)
  /-- COUNTER_CONFIG (0x0C02), R457: Selects, chains or clears a programmable counter. -/
  | counterConfig (dt m : Nat)
  /-- COUNTER_DUMP (0x0C03), R458: Takes or reuses a counter snapshot and writes all 881 counters to the host
  region. -/
  | counterDump (dt m : Nat)
  /-- TRACE_CONFIG (0x0C10), R459: Configures the decision trace and empties its buffer. -/
  | traceConfig (dt m : Nat)
  /-- TRACE_READ (0x0C11), R459: Copies trace records to the host region. -/
  | traceRead (dt m : Nat)
  /-- RENDER_STATUS (0x0C20), R460: Reports the main window budget and repeats. -/
  | renderStatus (dt m : Nat)
  /-- PCN_VALUE_READ, R452: A read of PCN_VALUE returns the selected counter and, under AUTO, advances the
  selection. -/
  | pcnValueRead (dt : Nat)
  /-- SNP_TAKE, R454: A write of SNP_TAKE.TAKE triggers a counter snapshot. -/
  | snpTake (dt : Nat)
  /-- SNP_FREEZE, R454: A write of SNP_CTRL.FREEZE from 0 to 1 triggers a counter snapshot and switches PCN_
  reads to it. -/
  | snpFreeze (dt : Nat) (auto : Bool)
  /-- SNP_CAPTURE_DONE, R454: A counter snapshot finishes capturing every counter; BUSY clears and SEQ advances. -/
  | snpCaptureDone (dt : Nat)
  /-- ICU_PEND_SET, R462: A write of 1 to an ICU_PEND_SET bit is an edge of the source. -/
  | icuPendSet (dt p value : Nat)
  /-- ICU_PEND_CLEAR, R463: A host write of 1 to an ICU_PEND bit clears the source's pending state. -/
  | icuPendClear (dt p value : Nat)
  /-- ICU_CLAIM, R465: A read of ICU_CLAIM claims the target's best presented source and raises its effective
  threshold. -/
  | icuClaim (dt target : Nat)
  /-- ICU_COMPLETE, R466: A write of ICU_COMPLETE completes a claimed source and re-presents pending sources. -/
  | icuComplete (dt target value : Nat)
  /-- ICU_CONFIG_WRITE, R470: A write of ICU_SRC_CFG, ICU_GRP_CFG or ICU_THRESHOLD changes routing and delivery
  is re-evaluated. -/
  | icuConfigWrite (dt off value : Nat)
  /-- MSIX_MASK_CHANGE, R468: A change of an MSI-X vector or function mask, enable or power state re-evaluates
  delivery and may send a held message or wake. -/
  | msixMaskChange (dt : Nat) (control : SleepControl) (on : Bool)
  /-- ICU_HOLDOFF_EXPIRY, R469: A group's hold-off expires and a notification follows if the target still
  presents a source of that group. -/
  | icuHoldoffExpiry (dt g : Nat)
  /-- ICU_REDIRECT, R470: A pending WAKE 0 source whose target sleeps is redirected to its group's fallback
  after HOLDOFF_US. -/
  | icuRedirect (dt source : Nat)
  /-- ECC_ROW_RETIRE, R476: A row whose word was corrected three times in the window is copied to a spare row
  and remapped. -/
  | eccRowRetire (dt mem addr : Nat)
  /-- SCRUB_READ, R481: The scrubber reads and corrects the next word, raising SCRUB_PASS at the end of a pass. -/
  | scrubRead (dt found syndrome : Nat)
  /-- PARITY_RESTORE, R480: Lanishambe restores a control register with a parity error from its shadow copy. -/
  | parityRestore (dt addr : Nat)
  /-- QUEUE_REBUILD, R484: Lanishambe rebuilds a completion hold, RDM or mailbox queue after a pointer mismatch. -/
  | queueRebuild (dt queue : Nat)
  /-- ECC_FLIP_ARM, R482: A write of ECC_FLIP_CTRL.ARM arms the flip mask for the next matching write. -/
  | eccFlipArm (dt value : Nat)
  /-- ECC_ACCESS (0x0C30), R491: Opens or closes integrity test access for the session. -/
  | eccAccess (dt m : Nat)
  /-- QUEUE_STATUS (0x0C31), R493: Reports a queue's level, flags and counts, optionally clearing flags. -/
  | queueStatus (dt m : Nat)
  /-- QUEUE_WM_SET (0x0C32), R493: Sets a queue's watermarks. -/
  | queueWmSet (dt m : Nat)
  /-- ZLK_BLOCK_LOCK, R501: A LOCKING Zoette link achieves block lock and deskew on all lanes and starts sending
  HELLO. -/
  | zlkBlockLock (dt link : Nat)
  /-- ZLK_HELLO_RX, R502: A HELLO frame is received and checked; enough good HELLOs take the link UP, a failing
  one raises ZLK_DOWN. -/
  | zlkHelloRx (dt link : Nat) (good : Bool) (h : Hello)
  /-- ZLK_HELLO_TIMER, R501: Every 10 µs in HELLO, and for 100 µs after UP, the link sends a HELLO. -/
  | zlkHelloTimer (dt link : Nat)
  /-- ZLK_LOCK_LOSS, R501: A lane of an UP link loses block lock for 2 µs; frames are discarded, ZLK_DOWN is
  raised and the link relocks. -/
  | zlkLockLoss (dt link : Nat)
  /-- ZLK_DATA_RX, R500: A DATA frame is accepted in order, delivered or forwarded, or answered with a NAK. -/
  | zlkDataRx (dt link : Nat) (f : ZlkData)
  /-- ZLK_ACK_RX, R500: An ACK frame releases acknowledged frames of the transmitter. -/
  | zlkAckRx (dt link ack : Nat) (credit : List Nat)
  /-- ZLK_NAK_RX, R500: A NAK frame makes the transmitter resend from the frame after ACK and raises ZLK_RETRY. -/
  | zlkNakRx (dt link ack : Nat) (credit : List Nat)
  /-- ZLK_TIME_RX, R508: A TIME frame updates the hop offset that disciplines the timebase to group time. -/
  | zlkTimeRx (dt link seq ack : Nat) (crcOk : Bool) (credit : List Nat) (tx : Instant) (rx : Option Instant)
  /-- ZLK_RETRY_TIMEOUT, R500: No ACK arrives 4 µs after a frame; the transmitter resends, and an eighth send
  takes the link DOWN. -/
  | zlkRetryTimeout (dt link : Nat)
  /-- GROUP_FORMATION, R504: After boot, discovery, rank-ordered join, coordinator election and the Cotillion
  check form the group and raise GROUP_FORMED. -/
  | groupFormation (dt : Nat) (peerAct : Bool)
  /-- GROUP_FORMATION_TIMEOUT, R504: At 4.0 s with a member missing the members present form a degraded group. -/
  | groupFormationTimeout (dt : Nat) (peerAct : Bool)
  /-- MEMBER_LOSS_TIMEOUT, R506: No frame from a member reaches the coordinator for 200 µs, or its delta misses
  three seals; MEMBER_LOST is raised. -/
  | memberLossTimeout (dt who : Nat)
  /-- COORDINATOR_LOSS_TIMEOUT, R506: A device that reaches no coordinator for 200 µs becomes isolated. -/
  | coordinatorLossTimeout (dt : Nat)
  /-- RESYNC_START, R507: A late, isolated, differing or suspect device starts receiving show state of a pinned
  epoch. -/
  | resyncStart (dt : Nat)
  /-- RESYNC_DONE, R507: Resynchronisation completes; the device renders again and RESYNC_DONE and MEMBER_JOINED
  are raised. -/
  | resyncDone (dt : Nat)
  /-- COMMIT_DEADLINE, R81: At a commit's deadline the decision is taken: APPLY with every prepared
  acknowledgement, otherwise ABANDON with LATE and COMMIT_DIST_LATE. -/
  | commitDeadline (dt : Nat)
  /-- INPUT_SEAL, R510: The coordinator seals frame n when every delta is in or at L(n) + 150 µs and broadcasts
  the sealed input record. -/
  | inputSeal (dt : Nat)
  /-- DIGEST_TIMEOUT, R517: Digest records of a frame do not both arrive within 4 frames; the frame is counted
  uncompared. -/
  | digestTimeout (dt : Nat)
  /-- SELF_CHECK_DONE, R518: A self-check re-render ends and its result is reported to the partner. -/
  | selfCheckDone (dt frame : Nat) (same : Bool)
  /-- MISMATCH_OUTCOME, R518: With both self-check reports, or a missing one after 4 frames, the mismatch
  outcome makes the standby suspect or the active yield. -/
  | mismatchOutcome (dt frame : Nat)
  /-- TANGO_PEER_ACT_LOW, R515: TANGO_PEER_ACT reads low for 2 µs; a STANDBY schedules takeover, other roles
  raise GROUP_DEGRADED. -/
  | tangoPeerActLow (dt : Nat)
  /-- TANGO_YIELD, R515: An ACTIVE device faults; it drops TANGO_ACTIVE, pulls TANGO_YIELD, stops every emission
  and becomes FAULTED. -/
  | tangoYield (dt cause : Nat)
  /-- TANGO_YIELD_PULSE_END, R514: The 1 ms yield pulse ends and the device releases the TANGO_YIELD net. -/
  | tangoYieldPulseEnd (dt : Nat)
  /-- TANGO_YIELD_NET_LOW, R514: The filtered TANGO_YIELD net goes low; a following peer drop is recorded as a
  yield, otherwise GROUP_DEGRADED is raised. -/
  | tangoYieldNetLow (dt : Nat)
  /-- TANGO_YIELD_NET_STUCK, R514: The TANGO_YIELD net stays low for more than 2 ms and is treated as stuck. -/
  | tangoYieldNetStuck (dt : Nat)
  /-- STANDBY_DETACH_TIMEOUT, R515: A STANDBY receives no sealed record for 16 frames and becomes DETACHED. -/
  | standbyDetachTimeout (dt : Nat)
  /-- LOOPBACK_TEST, R521: Every LOOPBACK_S seconds a standby tests its lanes, DMX, PWM and Ethernet output
  stages, raising LOOPBACK_FAIL on failure. -/
  | loopbackTest (dt : Nat) (badDmx badPwm : List Nat)
  /-- GROUP_CONFIG (0x0D01), R525: Accepts a group record for writing to flash. -/
  | groupConfig (dt m : Nat)
  /-- GROUP_CONFIG_DONE, R525: The group record is in flash and the final completion is delivered. -/
  | groupConfigDone (dt op : Nat)
  /-- GROUP_STATUS (0x0D02), R526: Reports group, role, link and comparison state. -/
  | groupStatus (dt m : Nat)
  /-- PARTITION_SET (0x0D10), R526: Stages the partition of fixtures and canvases to ranks. -/
  | partitionSet (dt m : Nat)
  /-- TANGO_SWITCH (0x0D20), R526: Accepts a commanded hand-over at frame m. -/
  | tangoSwitch (dt m : Nat)
  /-- COTILLION_STATUS (0x0D30), R526: Reports the last Cotillion comparison. -/
  | cotillionStatus (dt m : Nat)
  /-- UPDATE_BEGIN (0x0E01), R550: Accepts a new package length and starts erasing the staging area. -/
  | updateBegin (dt m : Nat)
  /-- UPDATE_BEGIN_DONE, R531: The staging area erase ends; the area is RECEIVING and the final completion is
  delivered. -/
  | updateBeginDone (dt op : Nat)
  /-- UPDATE_BLOCK (0x0E02), R531: Writes one CRC-checked package block inline, or accepts it from the host
  region. -/
  | updateBlock (dt m : Nat)
  /-- UPDATE_BLOCK_DONE, R550: A host-region package block is written and its final completion is delivered. -/
  | updateBlockDone (dt op : Nat) (poison : Bool)
  /-- UPDATE_VERIFY (0x0E03), R551: Starts verifying the staged package. -/
  | updateVerify (dt m : Nat)
  /-- UPDATE_VERIFY_DONE, R530: Package verification ends VERIFIED or INVALID, raising UPDATE_STAGED or
  UPDATE_FAILED. -/
  | updateVerifyDone (dt op : Nat)
  /-- UPDATE_ACTIVATE (0x0E04), R552: Accepts an activation of the staged package at frame m for the device or
  group. -/
  | updateActivate (dt m : Nat)
  /-- ACTIVATION_DECISION, R534: At the activation's decision point it becomes irrevocable, the area pointer and
  boot selector change, or a group activation is abandoned. -/
  | activationDecision (dt : Nat)
  /-- PART_START_FAIL, R536: A restarted part fails its start check or self-test; the device reverts to the
  previous package and raises UPDATE_FAILED. -/
  | partStartFail (dt part : Nat)
  /-- ACTIVATION_COMPLETE, R536: Every part has started; UPDATE_ACTIVATED is raised and the security version
  counter advances. -/
  | activationComplete (dt : Nat)
  /-- UPDATE_STATUS (0x0E10), R553: Reports staging, activation and boot state. -/
  | updateStatus (dt m : Nat)
  /-- FW_RESTART, R535: Lanishambe restarts: FW_RESTART is 1, MBX_READY is 0 and every session ends while
  outputs continue. -/
  | fwRestart (dt : Nat)
  /-- FW_RESTART_END, R535: A Lanishambe restart ends; posted mailboxes complete ABORTED, MBX_READY returns and
  FW_RESTARTED is set. -/
  | fwRestartEnd (dt : Nat)
  /-- AUTH_CHALLENGE (0x0F01), R554: Issues a nonce for session authentication or key establishment. -/
  | authChallenge (dt m : Nat)
  /-- CRED_SET (0x0F02), R543: Accepts installation or deletion of a credential, including the ownership claim. -/
  | credSet (dt m : Nat)
  /-- CRED_SET_DONE, R554: The credential and its audit record are in flash and the final completion is
  delivered. -/
  | credSetDone (dt op : Nat)
  /-- KEY_ESTABLISH (0x0F10), R554: Accepts an ECDH exchange to derive the key-encryption key. -/
  | keyEstablish (dt m : Nat)
  /-- KEY_ESTABLISH_DONE, R554: The KEK is derived and stored and the final completion returns its KCV. -/
  | keyEstablishDone (dt op : Nat)
  /-- KEY_INSTALL (0x0F11), R554: Accepts a wrapped link group key. -/
  | keyInstall (dt m : Nat)
  /-- KEY_INSTALL_DONE, R554: The link group key is unwrapped and stored, or fails with INTEGRITY, and the final
  completion is delivered. -/
  | keyInstallDone (dt op : Nat)
  /-- AUDIT_READ (0x0F20), R554: Accepts a read of audit records, optionally acknowledging them or setting the
  policy. -/
  | auditRead (dt m : Nat)
  /-- AUDIT_READ_DONE, R554: Audit records and the signed trailer are written and the final completion is
  delivered. -/
  | auditReadDone (dt op : Nat)
  /-- DEBUG_SET (0x0F30), R546: Locks, unlocks or permanently disables the debug port. -/
  | debugSet (dt m : Nat)
  /-- DEBUG_ATTACH, R546: A debugger attaches through JTAG; DEBUG_ACCESS is raised and logged. -/
  | debugAttach (dt : Nat)
  /-- SECURITY_STATUS (0x0F40), R555: Reports debug, TRNG, credential, key and audit state. -/
  | securityStatus (dt m : Nat)
  /-- AUTH_LOCKOUT_END, R542: The 60 s lockout after repeated proof failures ends. -/
  | authLockoutEnd (dt : Nat)
  /-- TRNG_FAULT, R540: A health test of the entropy source fails; TRNG_FAULT is raised and random-dependent
  commands fail until 1,024 samples pass. -/
  | trngFault (dt test : Nat)
  /-- POWER_ON, R563: Power-on causes a full reset with pins in their power-up states. -/
  | powerOn (dt : Nat)
  /-- PORST_N_ASSERT, R563: PORST_N held low for at least 1 µs causes a full reset. -/
  | porstNAssert (dt : Nat)
  /-- RESET_RELEASE, R564: The supervisor releases reset; straps are sampled and secure boot begins. -/
  | resetRelease (dt rank : Nat) (testMode : Bool)
  /-- LANISHAMBE_START, R564: Self-test ends, BOOT_STAGE reaches 0x03, RSTOUT_N goes high and Lanishambe starts. -/
  | lanishambeStart (dt bootBad areaBad part : Nat)
  /-- MBX_READY_REACHED, R58: Lanishambe writes HID_FW_VER, enables render clusters and group links, and sets
  MBX_READY. -/
  | mbxReadyReached (dt : Nat) (failed : List Nat)
  /-- SUPPLY_FAULT, R559: A rail outside its tolerance for 2 µs raises SUPPLY_FAULT. -/
  | supplyFault (dt rail : Nat)
  /-- SUPPLY_RESET, R559: A rail below 90% or above its rating for 2 µs resets the device until every rail is
  good for 1 ms. -/
  | supplyReset (dt : Nat)
  /-- REFCLK_LOSS, R562: A missing REFCLK25 is detected within 1 µs and resets the device, dropping TANGO_ACTIVE
  first. -/
  | refclkLoss (dt : Nat)
  /-- PLL_LOCK_LOSS, R562: A PLL fed by REFCLK25 other than DPX loses lock and resets the device. -/
  | pllLockLoss (dt : Nat)
  /-- DP_PLL_LOSS, R562: The DPX PLL loses lock and the DisplayPort output blanks until it relocks. -/
  | dpPllLoss (dt : Nat)
  /-- MGMT_WATCHDOG_EXPIRY, R567: The management watchdog is not serviced for 100 ms; WDOG_WARNING is raised and
  Lanishambe restarts. -/
  | mgmtWatchdogExpiry (dt : Nat)
  /-- RENDER_STALL, R567: The render watchdog detects a stall; WDOG_WARNING is raised and a Tango active drops
  TANGO_ACTIVE. -/
  | renderStall (dt : Nat)
  /-- RENDER_STALL_RESET, R567: A render stall lasts 100 ms and resets the device. -/
  | renderStallReset (dt : Nat)
  /-- ARBITER_INTERVAL, R568: Each 1 µs arbiter interval estimates package power and sets throttles, raising
  POWER_THROTTLE when throttling begins. -/
  | arbiterInterval (dt fixed clusters dma mgmt : Nat) (railMa : List Nat) (tj : Int)
  /-- THERMAL_HIGH, R571: T_j reaches T_max − 5 °C and THERMAL_HIGH is raised, or falls below T_max − 8 °C and
  the flag clears. -/
  | thermalHigh (dt : Nat) (tj : Int)
  /-- THERMAL_TRIP, R572: T_j reaches 120 °C and the supervisor resets the device until it falls below 100 °C. -/
  | thermalTrip (dt : Nat) (tj : Int)
  /-- POWER_CONFIG (0x0C40), R581: Sets the power ceiling from the next arbiter interval. -/
  | powerConfig (dt m : Nat)
  /-- SUPPLY_STATUS (0x0C41), R581: Reports power, thermal and reset state and resets PEAK_MW. -/
  | supplyStatus (dt m : Nat)
  /-- BAR2_WRITE, R54: A host write through BAR2 changes the host region, including mailbox bodies and data
  images, within the DMA budget. -/
  | bar2Write (dt off : Nat) (data : Bytes)
  /-- COUNTER_WRAP, R449: A programmable counter that is not chained, or the odd counter of a pair, passes 2^48
  − 1, wraps, sets its OVF_MASK bit and raises PERF_OVERFLOW. -/
  | counterWrap (dt unit counter : Nat)
  /-- MTR_PULSE_GAP_END, R425: The GAP_MS after a metering pulse expires and the next waiting pulse is driven
  from BACKLOG. -/
  | mtrPulseGapEnd (dt output : Nat)
  /-- LOOPBACK_ECHO_TIMEOUT, R521: A standby loopback test whose echo does not return within its time fails,
  raises LOOPBACK_FAIL and names the port. -/
  | loopbackEchoTimeout (dt output : Nat)
  /-- TANGO_YIELD_NET_HIGH, R514: A TANGO_YIELD net that was stuck low reads high again, and the device heeds
  the net once more. -/
  | tangoYieldNetHigh (dt : Nat)
  /-- TRNG_HEALTHY, R540: After a TRNG_FAULT, 1,024 consecutive entropy samples pass the health tests and
  commands that need random values work again. -/
  | trngHealthy (dt : Nat)
  /-- RAIL_WITHIN_TOLERANCE, R559: A rail that was outside its tolerance without causing a reset returns within
  tolerance, and the supply-outside-tolerance flag clears. -/
  | railWithinTolerance (dt rail : Nat)
  /-- DP_PLL_RELOCK, R562: The DPX PLL relocks after a loss and the DisplayPort output stops blanking. -/
  | dpPllRelock (dt : Nat)
  deriving DecidableEq, Repr

end Sys2Proof
end

