-- ==== Sys2Proof/Decode.lean ====
section
/-!
DEFINITION. Decode.lean: the command that a word spells. The opcode table gives its rows no bits: commands reach the block as
register writes, bus transactions, received messages and events, so no word spells one.
-/

namespace Sys2Proof

/-- The command that `nbits` bits `w` spell by the table's bits: none, since no row has bits. -/
def decodeTableWord (_nbits _w : Nat) : Option Instr := none

end Sys2Proof
end

