-- ==== Sys2Proof/Machine/Render.lean ====
section
/-!
DEFINITION. Machine/Render.lean: what the tasks of a frame compute (R17 to R21, R173 to R176, R236, R276,
R285, R298 to R300, R312, R322 to R334, R437), as functions of the frame's record.
-/

namespace Sys2Proof.Machine

/-- The frame number of a record. -/
def FrameRec.n (r : FrameRec) : Nat := r.grid.n

/-! ### The tasks of a frame (R437) -/

/-- The fixtures that the device renders, in ascending order (R437, R512). -/
def FrameRec.fixtureIds (r : FrameRec) : List Nat :=
  (r.view.patch.patch.filter fun e => r.view.part.fixtureRank e.1 == r.rank).map (·.1)

/-- The number of fixture batches. -/
def FrameRec.batches (r : FrameRec) : Nat := (r.fixtureIds.length + 255) / 256

/-- The fixtures of batch `b`. -/
def FrameRec.batch (r : FrameRec) (b : Nat) : List Nat := (r.fixtureIds.drop (256 * b)).take 256

/-- The batch that holds fixture `f`. -/
def FrameRec.batchOf (r : FrameRec) (f : Nat) : Option Nat := (r.fixtureIds.findIdx? (· == f)).map (· / 256)

/-- A list cut into pieces of `k`. -/
def chunksOf (k : Nat) : Nat → List Nat → List (List Nat)
  | 0, _ => []
  | fuel + 1, l => if l.isEmpty then [] else l.take k :: chunksOf k fuel (l.drop k)

/-- The rank that sends universe `u`: its fixtures' rank, or rank 0 for one without fixtures (R512). -/
def ShowState.universeRank (v : ShowState) (u : Nat) : Nat :=
  v.part.universe_ v.patch u

/-- A and B of a rate, by the mains base of SACN_TX_CONFIG. -/
def ShowState.txRate (v : ShowState) (rate : Nat) : Nat × Nat := rateAB rate v.net.mains60

/-- The universes that the device sends, in ascending order. -/
def FrameRec.universes (r : FrameRec) : List Nat :=
  (r.view.net.transmitted r.view.patch).filter fun u => r.view.universeRank u == r.rank

/-- The universes of a port that are scheduled in the frame (R393). -/
def FrameRec.dueOn (r : FrameRec) (port : Nat) : List Nat :=
  r.universes.filter fun u => bit (r.view.net.tx u).ports port
    && scheduled (r.view.net.tx u).rateHz (r.view.txRate r.rate) r.n

/-- The packet jobs: port and universes, in task order. -/
def FrameRec.jobs (r : FrameRec) : List (Nat × List Nat) :=
  (List.range 4).flatMap fun p => (chunksOf 64 (r.dueOn p).length (r.dueOn p)).map fun us => (p, us)

/-- The window record of a canvas. -/
def FrameRec.win (r : FrameRec) (k : Nat) : CanvasWin := r.canvases.getD k {}

/-- Whether the device renders canvas `k` in this frame (R296, R512). -/
def FrameRec.hasCanvas (r : FrameRec) (k : Nat) : Bool :=
  match r.view.canvas.canvases.find k with
  | some c => r.n % c.divider == 0 && r.view.part.canvas k == r.rank
  | none => false

/-- Tiles in a row of the grid, and in all. -/
def Canvas.tilesX (c : Canvas) : Nat := (c.width + 63) / 64
def Canvas.tiles (c : Canvas) : Nat := c.tilesX * ((c.height + 63) / 64)

/-- The pixels of tile `t`. -/
def Canvas.tileRect (c : Canvas) (t : Nat) : Rect :=
  let x := t % c.tilesX * 64
  let y := t / c.tilesX * 64
  ⟨x, y, min 64 (c.width - x), min 64 (c.height - y)⟩

/-- The tiles that hold rows of slice `k` (R123, R437). -/
def Canvas.sliceTiles (c : Canvas) (k : Nat) : List Nat :=
  (List.range c.tiles).filter fun t =>
    let r := c.tileRect t
    r.y < sliceRow c.height (k + 1) && sliceRow c.height k < r.y + r.h

/-- The slice mode of a canvas, where it is in slice mode. -/
def ShowState.sliceMode (v : ShowState) (k : Nat) : Option SliceMode :=
  (v.canvas.slices.find k).bind fun m => if m.enable then some m else none

/-- The tasks of a canvas frame, numbered tile + 65,536 × slice. -/
def FrameRec.tileTasks (r : FrameRec) (k : Nat) (c : Canvas) : List Nat :=
  if (r.view.sliceMode k).isSome then (List.range 8).flatMap fun j => (c.sliceTiles j).map (· + 65536 * j)
  else List.range c.tiles

/-- The slice that holds row `y` of a canvas of height `h`. -/
def sliceOfRow (h y : Nat) : Nat := ((List.range 8).find? fun j => sliceRow h j ≤ y && y < sliceRow h (j + 1)).getD 7

/-- The last line that row `y` of canvas `k` may read of input `i` (R125). -/
def FrameRec.lineLimit (r : FrameRec) (k : Nat) (c : Canvas) (y i : Nat) : Nat :=
  match r.view.sliceMode k with
  | some m => if i = m.input then m.lines.getD (sliceOfRow c.height y) 0 else 65535
  | none => 65535

/-- The pixels of tile `t` that task `t` + 65,536 × `j` writes: in slice mode the rows of slice `j`. -/
def FrameRec.taskRect (r : FrameRec) (k : Nat) (c : Canvas) (t j : Nat) : Rect :=
  let q := c.tileRect t
  if (r.view.sliceMode k).isSome then
    let y0 := max q.y (sliceRow c.height j)
    ⟨q.x, y0, q.w, min (q.y + q.h) (sliceRow c.height (j + 1)) - y0⟩
  else q

/-! ### Stages 1 to 4 of a fixture -/

/-- Stages 1 and 2 of parameter `i` of fixture `f` (R234 to R239). -/
def FrameRec.mergeParam (r : FrameRec) (f i : Nat) (p : ProfParam) : MergeOut × List (Option LayerHist) :=
  let addr := f * 128 + i
  let ls := layerValues r.view.inputs r.view.patch r.inputs
    (fun l => layerContrib r.view.patch r.view.cues r.rate r.ltc r.dyn r.n l addr) addr
  let hs := changeFrames (r.hist0.getD addr []) ls r.n
  (mergeAddr r.view.inputs r.view.patch addr p.policy (r.baseSince.getD addr 0) ls hs, hs)

/-- Stage 3 of one parameter (R173, R180); `flags` are those of the patch record. -/
def stage3 (flags : Nat) (p : ProfParam) (raw24 : Nat) : F32 :=
  let v := F32.div (F32.ofInt (from24 p.width raw24)) (F32.ofInt ((2 ^ p.width - 1 : Nat) : Int))
  let a := F32.add p.lo (F32.mul v (F32.sub p.hi p.lo))
  if (p.attr == 0x20 && bit flags 0) || (p.attr == 0x21 && bit flags 1) then F32.negate a else a

/-- Stage 4 and the power model of a fixture (R174, R270 to R275, "The power model"): the attributes with the
emitters set, and the solve. -/
def stage4 (prof : Bytes) (cal : Option Bytes) (theta : Option F32) (attrs : Map F32) : Map F32 × SolveOut :=
  let get (a : Nat) : F32 := attrs.getD a (attrRest a)
  let i := get 0
  match profColourMode prof with
  | 0 =>
    let d := emitterData prof cal
    (attrs, { calibrated := d.calibrated, mismatch := d.mismatch, idle := profIdleW prof,
              dyn := F32.mul (F32.clamp i F32.f0 F32.f1) (profFullW prof) })
  | 1 =>
    let s := solve (emitterData prof cal) theta i (get 1) (get 2)
    (attrs.putAll (((List.range s.drives.length).zip s.drives).map fun e => (0x10 + e.1, e.2)), s)
  | _ =>
    let d := emitterData prof cal
    let ds := (List.range (profEmitterCount prof)).map fun k => F32.mul (get (0x10 + k)) i
    let held := ds.map fun x => F32.clamp x F32.f0 F32.f1
    (attrs.putAll (((List.range ds.length).zip ds).map fun e => (0x10 + e.1, e.2)),
     { drives := ds, calibrated := d.calibrated, mismatch := d.mismatch, solved := true,
       idle := d.idle, dyn := driveWatts held d.emitters })

/-- Stages 1 to 4 of fixture `f` in the frame. -/
def FrameRec.fixture (r : FrameRec) (f : Nat) : FixResult :=
  match r.view.patch.profileOf f, r.view.patch.patch.find f with
  | some prof, some pr =>
    let ps := profParams prof
    let ms := ((List.range ps.length).zip ps).map fun e => r.mergeParam f e.1 e.2
    let attrs : Map F32 := Map.putAll [] ((ps.zip ms).map fun e => (e.1.attr, stage3 pr.flags e.1 e.2.1.result))
    let cal := r.view.colour.calib.find f
    let theta := cal.bind fun c => r.temps.find (calTempSource c)
    let s4 := stage4 prof cal theta attrs
    { merged := ms.map (·.1), hist := ms.map (·.2), attrs := s4.1, solve := s4.2,
      exempt := !(r.view.output.fixtureGroups f).isEmpty }
  | _, _ => {}

/-- A phase-1 task: the results of batch `b` (R437). -/
def FrameRec.runPhase1 (r : FrameRec) (b : Nat) : FrameRec :=
  { r with fixtures := r.fixtures.putAll ((r.batch b).map fun f => (f, r.fixture f)), done1 := r.done1 ++ [b] }

/-! ### Stage 5: the decision (R278 to R288, R333) -/

/-- A colour region is exempt: one of its pixels lies in a safety group (R278). -/
def ShowState.regionExempt (v : ShowState) (rec : Bytes) : Bool :=
  let q := regRect rec
  (List.range q.h).any fun j => (List.range q.w).any fun i =>
    !(v.output.pixelGroups v.canvas (regCanvas rec) (q.x + i) (q.y + j)).isEmpty

/-- The members of feeder `j`, fixtures first and then regions, each in ascending order (R283). A region
whose power of frame n − 8 is not held counts nothing (R281). -/
def FrameRec.members (r : FrameRec) (j : Nat) : List GovMember :=
  let fs := r.fixtureIds.filterMap fun f =>
    match r.view.colour.members.find f, r.view.patch.patch.find f with
    | some m, some pr =>
      if m.1 = j then
        let x := r.fixtures.getD f {}
        some ⟨m.2, pr.power, x.exempt, x.solve.idle, x.solve.dyn⟩
      else none
    | _, _ => none
  let rs := r.view.colour.regions.filterMap fun e =>
    if regFeeder e.2 = j && r.view.part.canvas (regCanvas e.2) == r.rank then
      (r.regionPower.find e.1).map fun p => (⟨regPhase e.2, regClass e.2, r.view.regionExempt e.2, p.1, p.2⟩ : GovMember)
    else none
  fs ++ rs

/-- The rank that renders the members of a feeder (R280), and of a safety group (R331). -/
def ShowState.feederRank (v : ShowState) (j : Nat) : Nat :=
  match v.colour.members.find? fun m => m.2.1 == j with
  | some m => v.part.fixtureRank m.1
  | none => (v.colour.regions.find? fun e => regFeeder e.2 == j).elim 0 fun e => v.part.canvas (regCanvas e.2)
def ShowState.groupRank (v : ShowState) (g : Nat) : Nat :=
  ((v.output.members.filter fun m => smGroup m == g).filterMap (v.part.memberRank v.patch v.canvas)).headD 0

/-- R_n: the scaled power of all members, without G and OTHER_W (R285). -/
def emittedPower (rec : Bytes) (g : GovFeeder) (ms : List GovMember) : F32 :=
  ms.foldl (fun a m =>
    let k := if m.exempt then F32.f1 else memberScale rec g m.phase m.cls
    F32.add a (F32.add m.idle (F32.mul k m.dyn))) F32.f0

/-- The decision of one feeder in the frame: its new state and the events. -/
def FrameRec.decideOne (r : FrameRec) (j : Nat) (rec : Bytes) : GovFeeder × List Nat :=
  let ms := r.members j
  let meas := r.meas.getD j {}
  let d := decideFeeder rec ms meas r.grid.latch r.grid.period (r.gov0.getD j {})
  let budget := sumF ((constraintsOf rec).map (budgetOf rec meas))
  let g := gainStep rec d.1 meas budget r.n
  ({ g.1 with emitted := (emittedPower rec g.1 ms :: g.1.emitted).take 8 }, d.2 ++ (if g.2 then [srcFeederGain] else []))

/-- One safety group in the frame (table "Safety group states"): its new state and whether SAFETY_FAULT or
SAFETY_CLEARED is raised. The fault that takes a WHOLE group to FAILED is recorded and not counted; one that finds it FAILED is
counted. Forced faults come after those of the input record's latched events. -/
def safetyStep (n : Nat) (faults : List GroupFault) (cleared : Bool) (d : SafetyDyn) : SafetyDyn × Bool × Bool :=
  match faults with
  | [] =>
    if cleared && d.failed then ({ d with failed := false, clearCount := d.clearCount + 1 }, false, true)
    else (d, false, false)
  | f :: fs =>
    let d' := { d with faultCount := d.faultCount + BitVec.ofNat 32 (fs.length + b2n d.failed) }
    if d.failed then (d', cleared, false)
    else ({ d' with failed := true, cause := f.kind, causeMember := f.member, faultFrame := n }, true, false)

/-- The safety groups after the frame's decision, and the numbers of groups that raise SAFETY_FAULT and
SAFETY_CLEARED. A group's state begins with its definition and ends with its removal (R333). -/
def FrameRec.decideSafety (r : FrameRec) : Map SafetyDyn × List Nat × List Nat :=
  r.view.output.safety.foldl (fun acc e =>
    let s := safetyStep r.n (r.faults.filter (·.group == e.1)) (r.clears.contains e.1) (r.safety0.getD e.1 {})
    (acc.1.put e.1 s.1, acc.2.1 ++ (if s.2.1 then [e.1] else []), acc.2.2 ++ (if s.2.2 then [e.1] else [])))
    ([], [], [])

/-- The applied scale of fixture `f` (R285, R286). -/
def FrameRec.fixtureScale (r : FrameRec) (gov : Map GovFeeder) (f : Nat) : F32 :=
  match r.view.colour.members.find f, r.view.patch.patch.find f with
  | some m, some pr =>
    match r.view.colour.feeders.find m.1 with
    | some rec =>
      if (r.fixtures.getD f {}).exempt then F32.f1 else memberScale rec (gov.getD m.1 {}) m.2 pr.power
    | none => F32.f1
  | _, _ => F32.f1

/-- The applied scale of a colour region (R285). -/
def FrameRec.regionScale (r : FrameRec) (rec : Bytes) : F32 :=
  match r.view.colour.feeders.find (regFeeder rec) with
  | some fd => if r.view.regionExempt rec then F32.f1 else memberScale fd (r.gov.getD (regFeeder rec) {}) (regPhase rec) (regClass rec)
  | none => F32.f1

/-- The decision of the frame (R283, R333): feeders and groups; the interrupt sources raised by feeders,
and the groups that fault and clear. -/
def FrameRec.decide (r : FrameRec) : FrameRec × List Nat × List Nat × List Nat :=
  let gs := r.view.colour.feeders.map fun e =>
    (e.1, if r.view.feederRank e.1 = r.rank then r.decideOne e.1 e.2 else (r.gov0.getD e.1 {}, []))
  let gov : Map GovFeeder := gs.map fun e => (e.1, e.2.1)
  let sf := r.decideSafety
  ({ r with gov := gov, safety := sf.1, decided := true,
            fixtures := r.fixtures.mapVal fun f x => { x with scale := r.fixtureScale gov f } },
   gs.flatMap (fun e => e.2.2), sf.2.1, sf.2.2)

/-! ### Stages 6 to 10 of a fixture -/

/-- An attribute after stage 5: the applied scale acts on drives, or on INTENSITY under NONE (R285). -/
def FixResult.attr (x : FixResult) (mode a : Nat) : F32 :=
  let v := x.attrs.getD a (attrRest a)
  if mode = 0 then (if a = 0 then F32.mul v x.scale else v)
  else if (attrEmitter a).isSome then F32.mul v x.scale else v

/-- The records of the FAILED groups among the given ones. -/
def failedOf (v : OutputShow) (safety : Map SafetyDyn) (groups : List Nat) : List SafetyGroup :=
  groups.filterMap fun g => if (safety.getD g {}).failed then v.safety.find g else none

/-- A light value: INTENSITY or an emitter ("A light value"). -/
def isLight (a : Nat) : Bool := a == 0 || (attrEmitter a).isSome

/-- The output group record of a number (R322). -/
def OutputShow.group (v : OutputShow) (g : Nat) : OutGroup := v.groups.getD g {}

/-- The value of one wire slot of fixture `f` (R175, R324 to R330, R334). -/
def FrameRec.slotValue (r : FrameRec) (f : Nat) (prof : Bytes) (pr : PatchRec) (x : FixResult) (s : ProfSlot) : Nat :=
  if s.kind != 0 then s.lo.toNat
  else
    let a := x.attr (profColourMode prof) s.attr
    let u := F32.clamp (F32.div (F32.sub a s.lo) (F32.sub s.hi s.lo)) F32.f0 F32.f1
    let og := r.view.output.group pr.group
    let light := isLight s.attr
    let q := stage8 s.width og.dither r.n (slotHash f s.offset) (stage7 r.view.output (if light then og.light else og.other) u)
    if !light then q
    else
      let q := if r.view.output.derates.has f then stage9 (r.factors.getD f F32.f1) q else q
      (failShow (failedOf r.view.output r.safety (r.view.output.fixtureGroups f)) s.width).getD q

/-- `w / 8` bytes of a value, most significant first, as numbers (R176). -/
def slotBytes (w q : Nat) : List Nat := (bytesBE (w / 8) q).map (·.toNat)

/-- Numbers written into a list from an index on. -/
def overwrite (l : List Nat) (at_ : Nat) (bs : List Nat) : List Nat := l.take at_ ++ bs ++ l.drop (at_ + bs.length)

/-- The 512 slots of a universe or port of an image; 0x00 where nothing is written (R176). -/
def WireImage.slots (m : WireImage) (key : Nat) : List Nat := Map.getD m key (List.replicate 512 0)

/-- A wire value written to the image at a fixture's destination: slots of a universe or port, or one PWM
output (R171, R176). -/
def WireImage.place (m : WireImage) (pr : PatchRec) (s : ProfSlot) (q : Nat) : WireImage :=
  if pr.destKind = 3 then Map.put m (196608 + pr.dest + s.offset) [s.width, q]
  else
    let key := pr.destKind * 65536 + pr.dest
    Map.put m key (overwrite (m.slots key) (pr.start - 1 + s.offset) (slotBytes s.width q))

/-- The wire slots of fixture `f` written to an image (R175, R176). -/
def FrameRec.emitFixture (r : FrameRec) (m : WireImage) (f : Nat) : WireImage :=
  match r.view.patch.profileOf f, r.view.patch.patch.find f with
  | some prof, some pr =>
    if pr.destKind = 0 then m
    else (profSlots prof).foldl (fun m s => m.place pr s (r.slotValue f prof pr (r.fixtures.getD f {}) s)) m
  | _, _ => m

/-- PWM outputs that are members of FAILED groups show the fail state (R334); an output that no slot
covers has a depth of 16 bits. -/
def FrameRec.failPwm (r : FrameRec) (m : WireImage) : WireImage :=
  (List.range 32).foldl (fun m j =>
    let w := (Map.getD m (196608 + j) [16, 0]).headD 16
    match failShow (failedOf r.view.output r.safety (r.view.output.pwmGroups j)) w with
    | some q => Map.put m (196608 + j) [w, q]
    | none => m) m

/-- A phase-2 task: batch `b` written into an image (R437). -/
def FrameRec.runPhase2 (r : FrameRec) (m : WireImage) (b : Nat) : WireImage :=
  r.failPwm ((r.batch b).foldl r.emitFixture m)

/-- Stage 10 alone, applied to a copied image (R444): fixture members of FAILED groups and PWM members. -/
def FrameRec.failImage (r : FrameRec) (m : WireImage) : WireImage :=
  r.failPwm (r.fixtureIds.foldl (fun m f =>
    match r.view.patch.profileOf f, r.view.patch.patch.find f with
    | some prof, some pr =>
      if pr.destKind = 0 then m
      else (profSlots prof).foldl (fun m s =>
        if s.kind = 0 && isLight s.attr then
          match failShow (failedOf r.view.output r.safety (r.view.output.fixtureGroups f)) s.width with
          | some q => m.place pr s q
          | none => m
        else m) m
    | _, _ => m) m)

/-! ### Tiles -/

/-- The colour region that contains a pixel. -/
def ColourShow.regionAt (v : ColourShow) (k x y : Nat) : Option (Nat × Bytes) :=
  v.regions.find? fun e => regCanvas e.2 == k && (regRect e.2).has x y

/-- The fixture whose pixel map covers a pixel (R298). -/
def CanvasShow.mapAt (v : CanvasShow) (k x y : Nat) : Option (Nat × PixMap) :=
  v.pixmaps.find? fun e => e.2.canvas == k && e.2.rect.has x y

/-- Stage 4 of a pixel of a region (R276). -/
def regionChannels (rec : Bytes) (t : Tri) : List F32 :=
  (List.range 4).map fun j =>
    if regChannels rec ≤ j then F32.f0
    else F32.clamp (F32.add (F32.add (F32.mul (regMatrix rec 0 j) t.x) (F32.mul (regMatrix rec 1 j) t.y)) (F32.mul (regMatrix rec 2 j) t.z))
      F32.f0 F32.f1

/-- The value that a pixel map's channel source takes (R298). -/
def FrameRec.mapSource (r : FrameRec) (f src : Nat) : F32 :=
  match r.view.patch.profileOf f with
  | none => F32.f0
  | some prof =>
    let x := r.fixtures.getD f {}
    let mode := profColourMode prof
    if src = 0xFE then x.attr mode 0
    else if 8 ≤ src || mode = 0 || profEmitterCount prof ≤ src then F32.f0
    else x.attr mode (0x10 + src)

/-- The four channels of a pixel after stage 6 (R276, R285, R298). -/
def FrameRec.pixelDrive (r : FrameRec) (k x y : Nat) (limit : Nat → Nat) : List F32 :=
  match r.view.canvas.mapAt k x y with
  | some (f, m) => m.ch.map (r.mapSource f)
  | none =>
    match r.view.colour.regionAt k x y with
    | some (_, rec) =>
      (regionChannels rec (canvasColour r.view.inputs r.inputs k x y limit)).map fun v => F32.mul v (r.regionScale rec)
    | none => List.replicate 4 F32.f0

/-- The four 16-bit values of a pixel (R300, R322 to R330, R334). -/
def FrameRec.pixel (r : FrameRec) (k : Nat) (c : Canvas) (x y : Nat) (limit : Nat → Nat) : List Nat :=
  let cover := r.view.canvas.mapAt k x y
  let og := match cover with
    | some (f, _) => r.view.output.group ((r.view.patch.patch.find f).elim (4088 + k) (·.group))
    | none => r.view.output.group (4088 + k)
  let target := match cover with
    | some (f, _) => some f
    | none => (r.view.colour.regionAt k x y).map fun e => 2 ^ 31 + e.1
  let gs := failedOf r.view.output r.safety (r.view.output.pixelGroups r.view.canvas k x y)
  let ds := r.pixelDrive k x y limit
  (List.range 4).map fun ch =>
    let u := F32.clamp (ds.getD ch F32.f0) F32.f0 F32.f1
    let q := stage8 16 og.dither (r.n / c.divider) (pixelHash k x y ch) (stage7 r.view.output og.light u)
    let q := match target with
      | some t => if r.view.output.derates.has t then stage9 (r.factors.getD t F32.f1) q else q
      | none => q
    (failShow gs 16).getD q

/-- A channel value written to the scan-out store; 0 is what an absent entry holds. -/
def storePut (m : Map Nat) (bank index ch v : Nat) : Map Nat :=
  let k := bank * 33554432 + 4 * index + ch
  if v = 0 then m.del k else m.put k v

/-- A pixel's channels in the store. -/
def storePixel (m : Map Nat) (bank index : Nat) : List Nat :=
  (List.range 4).map fun ch => m.getD (bank * 33554432 + 4 * index + ch) 0

/-- The pixels of a rectangle, in row-major order. -/
def Rect.pixels (q : Rect) : List (Nat × Nat) :=
  (List.range q.h).flatMap fun j => (List.range q.w).map fun i => (q.x + i, q.y + j)

/-- A tile task: the pixels of a rectangle of a tile written to a bank (R437, R300); `limit` is the last input line that a
row may read, by row and input (R125). -/
def FrameRec.runTile (r : FrameRec) (store : Map Nat) (k : Nat) (c : Canvas) (bank : Nat) (q : Rect)
    (limit : Nat → Nat → Nat) : Map Nat :=
  q.pixels.foldl (fun m p =>
    let vs := r.pixel k c p.1 p.2 (limit p.2)
    (List.range 4).foldl (fun m ch => storePut m bank (c.index p.1 p.2) ch (vs.getD ch 0)) m) store

/-- The fixtures that a pixel map in tile `t` names (R299, R440). -/
def FrameRec.tileFixtures (r : FrameRec) (k : Nat) (c : Canvas) (t : Nat) : List Nat :=
  (r.view.canvas.pixmaps.filter fun e => e.2.canvas == k && e.2.rect.clash (c.tileRect t)).map (·.1)

/-- The unscaled power that a colour region adds to its idle power, over its pixels in row-major order;
pixels under a pixel map count nothing ("The power model", R299). -/
def FrameRec.regionDyn (r : FrameRec) (k : Nat) (rec : Bytes) (limit : Nat → Nat → Nat) : F32 :=
  (regRect rec).pixels.foldl (fun a p =>
    if (r.view.canvas.mapAt k p.1 p.2).isSome then a
    else
      let cs := regionChannels rec (canvasColour r.view.inputs r.inputs k p.1 p.2 (limit p.2))
      F32.add a ((List.range 4).foldl (fun s j => F32.add s (F32.mul (cs.getD j F32.f0) (regWatts rec j))) F32.f0)) F32.f0

/-- The power of every region of canvas `k` in the frame (R281, R439). -/
def FrameRec.regionLogs (r : FrameRec) (k : Nat) (limit : Nat → Nat → Nat) : List RegionLog :=
  (r.view.colour.regions.filter fun e => regCanvas e.2 == k).map fun e =>
    ⟨r.n, e.1, some (regIdle e.2, r.regionDyn k e.2 limit)⟩

/-- Region power as frame `n` of the latest canvas frame not after it gave it (R281, R282; DEDUCED, assumption
42). -/
def regionAt (log : List RegionLog) (n region : Nat) : Option (F32 × F32) :=
  ((log.filter fun e => e.region == region && e.frame ≤ n).foldl (fun best e =>
    match best with
    | none => some e
    | some b => if b.frame ≤ e.frame then some e else some b) (none : Option RegionLog)).bind (·.power)

/-- The log without entries that no later decision can read: those before the last one at `n` or
earlier of their region. -/
def pruneRegions (log : List RegionLog) (n : Nat) : List RegionLog :=
  log.filter fun e => n < e.frame || !(log.any fun x => x.region == e.region && x.frame ≤ n && e.frame < x.frame)

/-! ### Stage 12 (R312, R313) -/

/-- A rectangle cut to its canvas. -/
def Rect.clip (q : Rect) (c : Canvas) : Rect :=
  ⟨q.x, q.y, min q.w (c.width - q.x), min q.h (c.height - q.y)⟩

/-- The bytes of a rectangle of a bank, in the order of R293. -/
def rectBytes (store : Map Nat) (c : Canvas) (bank : Nat) (q : Rect) : Bytes :=
  (q.clip c).pixels.flatMap fun p => (storePixel store bank (c.index p.1 p.2)).flatMap (bytesLE 2)

/-- The CRCs of the defined check rectangles of canvas `k`, and the indices that mismatch with their BLOCK
flag and rectangle. -/
def FrameRec.checkRects (r : FrameRec) (store : Map Nat) (k : Nat) (c : Canvas) (bank : Nat) :
    Map Nat × List (Nat × Bool × Rect) :=
  let ds := r.view.canvas.checks.range (16 * k) (16 * k + 16)
  let crcs : Map Nat := ds.map fun e => (e.1 % 16, (crc32c (rectBytes store c bank e.2.rect)).toNat)
  (crcs, ds.filterMap fun e =>
    if e.2.check && crcs.getD (e.1 % 16) 0 != e.2.expect then some (e.1 % 16, e.2.block, e.2.rect) else none)

/-- The groups that a mismatching rectangle faults: those with a pixel in it that were WHOLE in the frame
(R332, kind 4), each with the member concerned. -/
def FrameRec.rectFaults (r : FrameRec) (k : Nat) (q : Rect) : List (Nat × Bytes) :=
  r.view.output.safety.filterMap fun e =>
    if (r.safety.getD e.1 {}).failed || !bit e.2.flags 4 then none
    else (r.view.output.rectMember r.view.canvas k q e.1).map fun m => (e.1, m)

/-- The fail state of FAILED groups written over the pixels of a canvas in a bank (R444). -/
def FrameRec.failCanvas (r : FrameRec) (store : Map Nat) (k : Nat) (c : Canvas) (bank : Nat) : Map Nat :=
  (⟨0, 0, c.width, c.height⟩ : Rect).pixels.foldl (fun m p =>
    match failShow (failedOf r.view.output r.safety (r.view.output.pixelGroups r.view.canvas k p.1 p.2)) 16 with
    | some q => (List.range 4).foldl (fun m ch => storePut m bank (c.index p.1 p.2) ch q) m
    | none => m) store

/-! ### Layer histories (R237) -/

/-- The change frames after the frame; a batch whose phase 1 did not run has them all the same. -/
def FrameRec.histAfter (r : FrameRec) : Map (List (Option LayerHist)) :=
  r.fixtureIds.foldl (fun m f =>
    let x := match r.fixtures.find f with
      | some x => x
      | none => r.fixture f
    ((List.range x.hist.length).zip x.hist).foldl (fun m e => m.put (f * 128 + e.1) e.2) m) []

end Sys2Proof.Machine
end

