-- ==== Sys2Proof/Machine/Time.lean ====
section
/-!
DEFINITION. Machine/Time.lean: the timebase, the PTP engine, time pulses and captures (R136 to R163), as
functions of their state.
-/

namespace Sys2Proof.Machine

/-! ### The timebase (R136, R137) -/

/-- Units of the accumulator `tb` in a timebase unit: 2^-39 ns against 2^-16 ns. -/
def tbUnit : Nat := 2 ^ 23

/-- The timebase value in units of 2^-16 ns. -/
def TimeState.value (t : TimeState) : Instant := floorDiv t.tb tbUnit

/-- `dt` TIME cycles pass (R137). -/
def TimeState.tick (t : TimeState) (dt : Nat) : TimeState :=
  { t with now := t.now + dt, tb := t.tb + (dt : Int) * (2 ^ 40 + t.rate) }

/-- A second and a nanosecond in timebase units. -/
def unitSec : Nat := 65536 * 1000000000
def unitNs : Nat := 65536

/-- TIME cycles in a second, a millisecond and a microsecond. -/
def cycSec : Nat := 500000000
def cycMs : Nat := 500000
def cycUs : Nat := 500

/-- The seconds (48 bits), nanoseconds and fraction of an instant (R136). -/
def stampSec (i : Instant) : Nat := modNat (floorDiv i unitSec) (2 ^ 48)
def stampNs (i : Instant) : Nat := modNat i unitSec / unitNs
def stampFrac (i : Instant) : Nat := modNat i unitNs

/-- A stamp as 14 bytes: seconds (8), nanoseconds (4), fraction (2). -/
def stampBytes (i : Instant) : Bytes := bytesLE 8 (stampSec i) ++ bytesLE 4 (stampNs i) ++ bytesLE 2 (stampFrac i)

/-- The instant of seconds, nanoseconds and fraction. -/
def instantOf (sec ns frac : Nat) : Instant := ((sec * unitSec + ns * unitNs + frac : Nat) : Int)

/-- Sticky bits of TIM_EVENT set. -/
def TimeState.raise (t : TimeState) (bit_ : Nat) : TimeState := { t with event := t.event ||| BitVec.ofNat 32 (2 ^ bit_) }

/-- The bound of r in units of 2^-40 (R137). -/
def TimeState.slewBound (t : TimeState) : Int := floorDiv ((t.cfg.slewPpm * 2 ^ 40 : Nat) : Int) 1000000

/-- The timebase is TRACKING or LOCKED (R145). -/
def TimeState.following (t : TimeState) : Bool := t.state == .tracking || t.state == .locked

/-- The newest spans of a history that cover `left` cycles. -/
def keepSpans : List (Nat × Int) → Nat → List (Nat × Int)
  | [], _ => []
  | (c, r) :: h, left => if left ≤ c then [(c, r)] else if c = 0 then keepSpans h left else (c, r) :: keepSpans h (left - c)

/-- The spans spent in TRACKING and LOCKED up to now, as far back as HOLD_AVG can reach: 1,024 s (R146, R159). -/
def TimeState.spans (t : TimeState) : List (Nat × Int) :=
  if t.following then keepSpans ((t.now - t.rateSince, t.rate) :: t.rateHist) (1024 * cycSec) else t.rateHist

/-- r changed; the span at the old r is kept for R146 while the timebase follows a master. -/
def TimeState.setRate (t : TimeState) (r : Int) : TimeState := { t with rate := r, rateSince := t.now, rateHist := t.spans }

/-- The sum of r × cycles and the cycles over the last `left` cycles of a history, newest first. -/
def rateSum : List (Nat × Int) → Nat → Int × Nat
  | [], _ => (0, 0)
  | (c, r) :: h, left =>
    let k := min c left
    let s := rateSum h (left - k)
    ((k : Int) * r + s.1, k + s.2)

/-- Units of the servo's integral in a unit of r: 2^-72 against 2^-40. -/
def gainUnit : Int := 2 ^ 32

/-- Entry to HOLDOVER: r becomes the mean of R146, to the nearest unit. -/
def TimeState.enterHoldover (t : TimeState) (gmChanged : Bool) : TimeState :=
  let s := rateSum t.spans (t.cfg.holdAvgS * cycSec)
  let r := if s.2 = 0 then t.rate else roundDiv s.1 s.2
  let t := { t with rate := r, rateSince := t.now, rateHist := t.spans, state := .holdover, holdSince := t.now,
                    ptp := { t.ptp with integ := r * gainUnit, acceptRun := 0, lockRun := 0, refuseRun := 0 } }
  let t := t.raise 1
  if gmChanged then t.raise 6 else t

/-- "Master lost" (R144): only TRACKING and LOCKED move. -/
def TimeState.masterLost (t : TimeState) (gmChanged : Bool) : TimeState :=
  if t.following then t.enterHoldover gmChanged else t

/-- The servo of R142 on an accepted sample. kp and ki are the device's; r is the sum rounded to its unit, halves up (DESIGN CHOICE,
assumption 86). -/
def TimeState.servo (t : TimeState) (o : Int) : TimeState :=
  let i := t.ptp.integ + Config.servoKi t.cfg.loopBwMilliHz t.ptp.logSync * o
  let r := clampInt (roundDiv (i + Config.servoKp t.cfg.loopBwMilliHz t.ptp.logSync * o) gainUnit.toNat) (-t.slewBound) t.slewBound
  { t with ptp := { t.ptp with integ := i } }.setRate r

/-- Microseconds and nanoseconds as timebase units. -/
def usUnits (us : Nat) : Int := ((us * 1000 * 65536 : Nat) : Int)
def nsUnits (ns : Int) : Int := ns * 65536

/-- A sample of offset `o` (R142 to R144). -/
def TimeState.sample (t : TimeState) (o : Int) : TimeState :=
  let t := { t with lastOffset := o, lastSampleAt := some t.now, ptp := { t.ptp with lastSyncAt := t.now } }
  if usUnits t.cfg.jumpThrUs < absInt o then
    let t := { t with ptp := { t.ptp with refusedCount := t.ptp.refusedCount + 1, refuseRun := t.ptp.refuseRun + 1,
                                          acceptRun := 0, lockRun := 0 } }
    let t := t.raise 0
    match t.state with
    | .free => t.setRate 0
    | .holdover => t
    | _ => if 4 ≤ t.ptp.refuseRun then t.enterHoldover false else t
  else
    let t := { t with ptp := { t.ptp with refuseRun := 0, acceptRun := t.ptp.acceptRun + 1 } }
    match t.state with
    | .free =>
      let t := { t with state := .tracking, rateSince := t.now, ptp := { t.ptp with integ := 0, lockRun := 0 } }
      (t.raise 2).servo o
    | .tracking =>
      let run := if absInt o ≤ nsUnits 100 then t.ptp.lockRun + 1 else 0
      let t := ({ t with ptp := { t.ptp with lockRun := run } } : TimeState).servo o
      if 16 ≤ run then ({ t with state := .locked } : TimeState).raise 3 else t
    | .locked =>
      let t := t.servo o
      if nsUnits 1000 < absInt o then ({ t with state := .tracking, ptp := { t.ptp with lockRun := 0 } } : TimeState).raise 4 else t
    | .holdover =>
      if 8 ≤ t.ptp.acceptRun then
        let t := { t with state := .tracking, holdFor := (t.now - t.holdSince) / cycSec, rateSince := t.now,
                          ptp := { t.ptp with integ := t.rate * gainUnit, lockRun := 0 } }
        (t.raise 2).servo o
      else t

/-! ### The PTP engine (R141 to R144) -/

/-- The mean path delay: the median of the last eight results, the mean of the two middle ones of an even
number; `free` stands for it before any exchange, where the spec names none. -/
def PtpState.delay (p : PtpState) (free : Int) : Int :=
  let l := sortBy (fun a b => decide (a ≤ b)) p.delays
  match l with
  | [] => free
  | _ =>
    let n := l.length
    if n % 2 = 1 then l.getD (n / 2) 0 else roundDiv (l.getD (n / 2 - 1) 0 + l.getD (n / 2) 0) 2

/-- The comparison key of a data set (IEEE 1588-2019, PRESUMED, assumption 44): smaller is better. -/
def ForeignMaster.key (m : ForeignMaster) : List Nat :=
  [m.data.priority1, m.data.clockClass, m.data.accuracy, m.data.variance, m.data.priority2, m.data.gmIdentity,
   m.data.stepsRemoved, m.port]

/-- Lexicographic order of two lists. -/
def listLess : List Nat → List Nat → Bool
  | a :: as, b :: bs => if a < b then true else if b < a then false else listLess as bs
  | _, _ => false

/-- The best of the qualified foreign masters: two Announce messages and fewer than 255 steps. -/
def bestMaster (ms : List ForeignMaster) : Option ForeignMaster :=
  (ms.filter fun m => 2 ≤ m.count && m.data.stepsRemoved < 255).foldl (fun best m =>
    match best with
    | none => some m
    | some b => if listLess m.key b.key then some m else some b) none

/-- The source is the parent. -/
def PtpState.fromParent (p : PtpState) (source : Nat) : Bool := p.parent.elim false (·.port == source)

/-- An interval of 2^log seconds in TIME cycles. -/
def intervalCycles (log : Int) : Nat := if 0 ≤ log then cycSec * 2 ^ log.toNat else cycSec / 2 ^ (-log).toNat

/-- A foreign master counts for four of its announce intervals after its last Announce (IEEE 1588-2019, PRESUMED, assumption 44). -/
def ForeignMaster.fresh (m : ForeignMaster) (now : Nat) : Bool := decide (now - m.last ≤ 4 * intervalCycles m.data.logAnnounce)

/-- An Announce message of a foreign master (R141, R144): those that have aged leave the list, but for the parent, which
announceReceiptTimeout ends. -/
def TimeState.announce (t : TimeState) (port : Nat) (d : AnnounceData) (mac ip : Nat) : TimeState :=
  let p := t.ptp
  let old := p.foreign.find? (·.port == port)
  let fresh := old.elim false (·.fresh t.now)
  let m : ForeignMaster := ⟨port, d, if fresh then (old.elim 0 (·.count)) + 1 else 1, t.now, mac, ip⟩
  let foreign := (p.foreign.filter fun x => x.port != port && (x.fresh t.now || p.fromParent x.port)) ++ [m]
  let best := bestMaster foreign
  let p' := { p with foreign := foreign }
  match best with
  | none => { t with ptp := p' }
  | some b =>
    let same := p.parent.elim false (·.port == b.port)
    let gm := p.parent.elim false fun q => q.data.gmIdentity != b.data.gmIdentity
    let p' := { p' with
      parent := some b
      lastAnnAt := if b.port = port then t.now else p.lastAnnAt
      portState := if same then p.portState else .uncalibrated
      pendingSync := if same then p.pendingSync else none
      pendingReq := if same then p.pendingReq else none
      delays := if same then p.delays else []
      lastT1 := if same then p.lastT1 else none
      lastT2 := if same then p.lastT2 else none
      acceptRun := if same then p.acceptRun else 0
      lastSyncAt := if same then p.lastSyncAt else t.now }
    let t := { t with ptp := p' }
    if gm then t.masterLost true else t

/-- The state after a formed sample: the port is SLAVE once a sample is accepted (DESIGN CHOICE, assumption
117: IEEE 1588 leaves the end of UNCALIBRATED to the implementation). -/
def TimeState.formed (t : TimeState) (o : Int) : TimeState :=
  let t' := t.sample o
  if 0 < t'.ptp.acceptRun || t'.state != t.state then { t' with ptp := { t'.ptp with portState := .slave } } else t'

/-- A Sync message of the parent: `t2` its receive stamp, `t1` its origin (R142). -/
def TimeState.sync (t : TimeState) (seq : Nat) (twoStep : Bool) (t1 t2 : Instant) (corr : Int) (logSync : Int) (free : Int) :
    TimeState :=
  let p := { t.ptp with logSync := logSync }
  if twoStep then { t with ptp := { p with pendingSync := some ⟨seq, t2, corr, logSync⟩ } }
  else
    let o := t2 - t1 - corr - p.delay free
    ({ t with ptp := { p with pendingSync := none, lastT1 := some (t1 + corr), lastT2 := some t2 } } : TimeState).formed o

/-- A Follow_Up message of the parent (R142). -/
def TimeState.followUp (t : TimeState) (seq : Nat) (t1 : Instant) (corr : Int) (free : Int) : TimeState :=
  match t.ptp.pendingSync with
  | none => t
  | some s =>
    if s.seq != seq then t
    else
      let p := { t.ptp with pendingSync := none, lastT1 := some (t1 + corr + s.corr), lastT2 := some s.t2 }
      ({ t with ptp := p } : TimeState).formed (s.t2 - t1 - corr - s.corr - p.delay free)

/-- A Delay_Resp message (R142): a result below 0 or above 10 ms is discarded. -/
def TimeState.delayResp (t : TimeState) (seq : Nat) (t4 : Instant) (corr : Int) : TimeState :=
  match t.ptp.pendingReq, t.ptp.lastT1, t.ptp.lastT2 with
  | some q, some t1, some t2 =>
    if q.seq != seq then t
    else
      let d := roundDiv ((t2 - t1) + (t4 - q.t3 - corr)) 2
      let p := { t.ptp with pendingReq := none }
      if d < 0 || usUnits 10000 < d then { t with ptp := p }
      else { t with ptp := { p with delays := (d :: p.delays).take 8 } }
  | _, _, _ => t

/-- PTP_CONFIG restarts the port in LISTENING, which counts as master lost (R158). -/
def TimeState.ptpRestart (t : TimeState) (c : PtpConfig) : TimeState :=
  let p : PtpState := { cfg := c, portState := if c.port = 0xFF then .disabled else .listening,
                        refusedCount := t.ptp.refusedCount, discards := t.ptp.discards, integ := t.ptp.integ,
                        lastAnnAt := t.now, lastSyncAt := t.now }
  ({ t with ptp := p } : TimeState).masterLost false

/-- The parent is lost: the port listens again (R144). -/
def TimeState.loseParent (t : TimeState) : TimeState :=
  let gone := t.ptp.parent.elim 0 (·.port)
  let p := { t.ptp with
    parent := none, foreign := t.ptp.foreign.filter (·.port != gone), pendingSync := none, pendingReq := none,
    acceptRun := 0, portState := .listening, delays := [] }
  ({ t with ptp := p } : TimeState).masterLost false

def PtpPortState.code : PtpPortState → Nat
  | .initializing => 1
  | .faulty => 2
  | .disabled => 3
  | .listening => 4
  | .uncalibrated => 8
  | .slave => 9

def TbState.code : TbState → Nat
  | .free => 0
  | .tracking => 1
  | .locked => 2
  | .holdover => 3

/-- TIM_STATUS (R156). -/
def TimeState.status (t : TimeState) : Nat := t.state.code + 256 * t.ptp.portState.code

/-- TIM_HOLD_S: seconds in the current or last HOLDOVER. -/
def TimeState.holdSeconds (t : TimeState) : Nat := if t.state = .holdover then (t.now - t.holdSince) / cycSec else t.holdFor

/-- The PTP_STATUS response (R163). -/
def TimeState.ptpStatus (t : TimeState) : Bytes :=
  let a := t.ptp.parent.map (·.data)
  let g (f : AnnounceData → Nat) : Nat := a.elim 0 f
  bytesLE 1 t.ptp.portState.code ++ bytesLE 1 t.state.code ++ bytesLES 2 (a.elim 0 (·.utcOffset)) ++ bytesLE 2 (g (·.flags) % 32)
    ++ bytesLE 2 (g (·.stepsRemoved)) ++ bytesLE 8 (g (·.gmIdentity)) ++ bytesLE 10 (t.ptp.parent.elim 0 (·.port)) ++ zeros 2
    ++ bytesLES 4 (if a.isNone then 0 else roundDiv (t.ptp.delay 0) 65536) ++ bytesLES 8 t.lastOffset ++ bytesLES 4 t.rate
    ++ bytesLE 4 t.ptp.refusedCount.toNat ++ bytesLE 4 t.ptp.discards.toNat ++ bytesLE 4 t.holdSeconds

/-! ### Time pulses (R150 to R153) -/

/-- The number of the first edge of a timebase schedule after an instant. -/
def PulseSched.firstAfter (s : PulseSched) (at_ : Instant) : Nat :=
  if at_ < s.start then 0 else if s.period = 0 then 1 else (floorDiv (at_ - s.start) s.period).toNat + 1

/-- The schedule has no edge left. -/
def PulseSched.spent (s : PulseSched) : Bool := s.count != 0 && s.count ≤ s.next

/-- The pulse output with its schedule ended if no edge is left. -/
def PulseOut.tidy (o : PulseOut) : PulseOut :=
  match o.sched with
  | some s => if s.spent then { o with sched := none } else o
  | none => o

/-- A leading edge at `at_`. -/
def PulseOut.drive (o : PulseOut) (at_ : Instant) : PulseOut :=
  { o with driving := true, endAt := some (at_ + nsUnits o.widthNs), edges := o.edges + 1 }

/-- An edge due at `due` fires at `at_`, or is skipped when the previous pulse leaves no 10 ns (R152); whether
PULSE_LATE is set. -/
def PulseOut.fire (o : PulseOut) (due at_ : Instant) : PulseOut × Bool :=
  match o.sched with
  | none => (o, false)
  | some s =>
    let o := { o with sched := some { s with next := s.next + 1 } }
    if o.endAt.elim false fun x => decide (due < x + nsUnits 10) then (o.tidy, true) else ((o.drive at_).tidy, false)

/-- A step of the timebase from `old` to `new_` (R153): an edge passed over fires once, whatever the output drives, and the schedule
goes on at the first edge after the step cycle; whether PULSE_LATE is set. -/
def PulseOut.stepped (o : PulseOut) (old new_ : Instant) : PulseOut × Bool :=
  let o := { o with endAt := o.endAt.map (· + (new_ - old)) }
  match o.sched with
  | some s =>
    if s.mode != 1 then (o, false)
    else
      let due := s.start + (s.next * s.period : Nat)
      let passed := decide (old < new_) && decide (due ≤ new_)
      let o1 := if passed then (({ o with sched := some { s with next := s.next + 1 } } : PulseOut).drive new_).tidy else o
      match o1.sched with
      | some s1 => (({ o1 with sched := some { s1 with next := max s1.next (s1.firstAfter new_) } } : PulseOut).tidy, passed)
      | none => (o1, passed)
  | none => (o, false)

/-- TIM_PLS_STAT. -/
def PulseOut.stat (o : PulseOut) : Nat :=
  (if o.driving then 2 else if o.sched.isSome then 1 else 0) + 4 * b2n (o.mode == 2)

/-! ### Captures (R154, R155) -/

/-- An edge on a capture input in TIME cycle `now`; whether CAP_OVF is set. The record carries SEQ as it stands before this edge
advances it: the first edge has SEQ 0 (DESIGN CHOICE, assumption 83). -/
def CaptureIn.edge (c : CaptureIn) (rising : Bool) (now : Nat) (at_ : Instant) (pos : Pos) : CaptureIn × Bool :=
  if !bit c.edges (if rising then 0 else 1) then (c, false)
  else
    let near := c.lastEdge.elim false fun l => decide (now - l < 10)
    let r : CaptureRec := ⟨at_, pos, rising, c.seq⟩
    let c' := { c with seq := (c.seq + 1) % 65536, lastEdge := some now }
    if near then (c', false)
    else if 16 ≤ c.queue.length then (c', true)
    else ({ c' with queue := c.queue ++ [r] }, false)

end Sys2Proof.Machine
end

