-- ==== Sys2Proof/Machine/Clock.lean ====
section
/-!
DEFINITION. Machine/Clock.lean: the show grid, positions, latch points and the show clock's states (R96 to R122,
R135), as functions of the clock's state.
-/

namespace Sys2Proof.Machine

/-! ### Rates -/

/-- The exact period of a table rate as a fraction of timebase units. -/
def exactPeriod (code : Nat) : Option (Int × Nat) := (tablePeriod code).map fun ab => ((ab.1 * 65536000000000 : Nat), ab.2)

/-- M of the reference: show frames in a reference frame (R97, R99). -/
def TimingBlock.mult (b : TimingBlock) : Nat :=
  if b.refKind = 2 || b.refKind = 3 then (rateMultiple b.rateCode b.refRate).getD 1
  else if b.refKind = 4 then max 1 (mainsMult b.rateCode) else 1

/-- The nominal period of a block's rate; a mains rate has the period that `mains`, in mHz, gives. The spec names no nominal period of
a mains rate whose frequency was never measured: the model takes 50 Hz (DESIGN CHOICE, assumption 75). -/
def TimingBlock.nominal (b : TimingBlock) (mains : Nat) : Int × Nat :=
  match exactPeriod b.rateCode with
  | some p => p
  | none => (65536000000000000, (if mains = 0 then 50000 else mains) * max 1 (mainsMult b.rateCode))

/-- D_cfg of a frame of period `t` (R106). -/
def TimingBlock.delay (b : TimingBlock) (t : Units) : Units := if b.presDelayNs = 0 then 2 * t else nsUnits b.presDelayNs

/-! ### The grid of PTP media time (R96, R102) -/

/-- The ST 2059-1 grid instant of index `i` at a rate: counted from the epoch of the timebase. -/
def ptpGrid (code : Nat) (i : Int) : Instant :=
  match exactPeriod code with
  | some p => roundDiv (i * p.1) p.2
  | none => 0

/-- The grid index at or after an instant. -/
def ptpIndexAfter (code : Nat) (x : Instant) : Int :=
  match exactPeriod code with
  | some p => let i := floorDiv (x * p.2) p.1.toNat
    if ptpGrid code i < x then i + 1 else i
  | none => 0

/-- The grid index nearest to an instant, for |e| ≤ T/2 (R121). -/
def ptpIndexNear (code : Nat) (x : Instant) : Int :=
  match exactPeriod code with
  | some p => roundDiv (x * p.2) p.1.toNat
  | none => 0

/-- The index at rate `b` of the grid instant `i` of rate `a`, where the two grids meet (R120). -/
def ptpConvert (a b : Nat) (i : Int) : Int :=
  match exactPeriod a, exactPeriod b with
  | some p, some q => roundDiv (i * p.1 * q.2) (p.2 * q.1.toNat)
  | _, _ => i

/-! ### The grid (R100, R101, R105) -/

/-- A frame of the grid whose period is fixed. -/
def ClockState.at_ (c : ClockState) (n : Nat) : Option GridFrame := c.grid.find? (·.n == n)

/-- The period of the current frame: "in force at the time of computation" (R105). -/
def ClockState.period (c : ClockState) : Units :=
  match c.at_ c.frame with
  | some g => g.period
  | none => (c.grid.getLast?).elim 0 (·.period)

/-- The block that frame `n` runs under. -/
def ClockState.blockOf (c : ClockState) (n : Nat) : TimingBlock :=
  match c.change with
  | some (b, nc) => if nc ≤ n then b else c.block
  | none => if n < c.changeFrame then c.prevBlock else c.block

/-- Frame `n` of the grid, or what the period in force makes of a frame that is not fixed yet (R105). -/
def ClockState.predict (c : ClockState) (n : Nat) : GridFrame :=
  match c.at_ n, c.grid.getLast? with
  | some g, _ => g
  | none, some g =>
    let t := g.t + g.period + ((n : Int) - g.n - 1) * c.period
    let d := (c.blockOf n).delay c.period
    let want := t + d - c.period - g.emax
    let floor_ := g.latch + ((n : Int) - g.n) * ceilDiv (4 * c.period) 5
    let l := if want < floor_ then floor_ else want
    ⟨n, t, c.period, l, l + c.period + g.emax, g.emax, d⟩
  | none, none => ⟨n, 0, 0, 0, 0, 0, 0⟩

/-- t(n), also of a frame that no grid frame and no prediction reaches: the periods before the first one kept count as long as it. -/
def ClockState.timeOf (c : ClockState) (n : Int) : Instant :=
  match c.grid.head? with
  | some g => if n < g.n then g.t - (g.n - n) * g.period else (c.predict n.toNat).t
  | none => 0

/-- The show position of an instant (R105); F 0+0 while the clock is stopped. -/
def ClockState.posAt (c : ClockState) (x : Instant) : Pos :=
  if !c.run then 0
  else
    let before := c.grid.filter fun g => decide (g.t ≤ x)
    match before.getLast? with
    | none => 0
    | some g =>
      let d := x - g.t
      if d < g.period || g.period ≤ 0 then mkPos g.n (min 65535 (floorDiv (d * 65536) g.period.toNat).toNat)
      else
        let p := if c.period ≤ 0 then 1 else c.period.toNat
        let k := (floorDiv (d - g.period) p).toNat
        mkPos (g.n + 1 + k) (floorDiv ((d - g.period - (k : Int) * p) * 65536) p).toNat

/-- The instant of a show position (R105). -/
def ClockState.instant (c : ClockState) (p : Pos) : Instant :=
  let g := c.predict (posFrame p)
  g.t + ceilDiv ((posSub p : Int) * g.period) 65536

/-- The show position of L(n). -/
def ClockState.latchPos (c : ClockState) (n : Nat) : Pos := c.posAt (c.predict n).latch

/-- L(n) and light(n) of a new frame (R106), from the frame before it. -/
def latchOf (prev : Option GridFrame) (t : Instant) (period dcfg emax : Units) : Instant :=
  let want := t + dcfg - period - emax
  match prev with
  | none => want
  | some g =>
    -- 0.8 T(n−1) or T(n−1) − 0.75 T(n), in twentieths
    let a := 16 * g.period
    let b := 20 * g.period - 15 * period
    let floor_ := g.latch + ceilDiv (if a < b then b else a) 20
    if want < floor_ then floor_ else want

/-- A frame added to the grid. -/
def ClockState.addFrame (c : ClockState) (n : Nat) (t : Instant) (period emax : Units) (b : TimingBlock) : ClockState :=
  let d := b.delay period
  let l := latchOf c.grid.getLast? t period d emax
  { c with grid := c.grid ++ [⟨n, t, period, l, l + period + emax, emax, d⟩] }

/-- The nominal boundary of frame `n` from the anchor (R100). -/
def ClockState.nominalAt (c : ClockState) (n : Nat) : Instant :=
  c.anchor + roundDiv (((n : Int) - c.anchorFrame) * c.trefNum) c.trefDen

/-- T_ref taken anew from boundary `t` of frame `n` on. -/
def ClockState.reanchor (c : ClockState) (n : Nat) (t : Instant) (tref : Int × Nat) : ClockState :=
  { c with anchor := t, anchorFrame := n, trefNum := tref.1, trefDen := max 1 tref.2 }

/-- The grid index of boundary `n` under PTP: in the rate of the period before it (R102, R120). -/
def ClockState.ptpIndex (c : ClockState) (n : Nat) : Int :=
  match c.change with
  | some (b, nc) =>
    if nc < n && b.refKind = 1 then ptpConvert c.block.rateCode b.rateCode (nc + c.gridOffset) + (n - nc : Nat) else n + c.gridOffset
  | none => n + c.gridOffset

/-- The anchor of a PTP grid lies at the epoch of the timebase, moved by what separates boundary `n` at `t`, of grid index `i`, from
its grid instant: an unslewed grid is the ST 2059-1 grid to the unit. -/
def ClockState.anchorPtp (c : ClockState) (n : Nat) (t : Instant) (code : Nat) (i : Int) : ClockState :=
  { c with anchor := t - ptpGrid code i, anchorFrame := n - i }

/-- The rate code of frame `n`. -/
def ClockState.rateOf (c : ClockState) (n : Nat) : Nat := (c.blockOf n).rateCode

/-- T_ref under a new block from the one that is held (R116, R121): a measured reference keeps its measurement, another
has the exact period. -/
def ClockState.trefUnder (c : ClockState) (old new_ : TimingBlock) : Int × Nat :=
  if old.refKind = new_.refKind && (old.refKind = 2 || old.refKind = 3 || old.refKind = 4) then
    (c.trefNum * old.mult, c.trefDen * new_.mult)
  else if old.refKind = 0 && new_.refKind = 0 && old.wordClock && new_.wordClock then
    match exactPeriod old.rateCode, exactPeriod new_.rateCode with
    | some a, some b => (c.trefNum * b.1 * a.2, c.trefDen * (b.2 * a.1.toNat))
    | _, _ => new_.nominal c.mainsMilliHz
  else new_.nominal c.mainsMilliHz

/-- The next period fixed (R101, R103): as near the reference as the slew limit allows. `emax` is E of the epoch in
force (R108). -/
def ClockState.fixNext (c : ClockState) (emax : Units) : ClockState :=
  match c.grid.getLast? with
  | none => c
  | some g =>
    let n := g.n + 1
    let t := g.t + g.period
    let b := c.blockOf n
    let c :=
      if c.change.elim false (fun ch => ch.2 == n) then
        let c' := c.reanchor n t (c.trefUnder c.block b)
        if b.refKind = 1 && c.block.refKind = 1 then c'.anchorPtp n t b.rateCode (ptpConvert c.block.rateCode b.rateCode (c.ptpIndex n)) else c'
      else c
    let lo := ceilDiv (c.trefNum * (1000000 - b.slewPpm)) (1000000 * c.trefDen)
    let hi := floorDiv (c.trefNum * (1000000 + b.slewPpm)) (1000000 * c.trefDen)
    let nom := c.nominalAt (n + 1) - t
    let period := clampInt (nom + c.residual) lo hi
    let corr := period - nom
    ({ c with anchor := c.anchor + corr, residual := c.residual - corr } : ClockState).addFrame n t period emax b

/-- Several periods fixed. -/
def ClockState.fixMany (c : ClockState) (emax : Units) : Nat → ClockState
  | 0 => c
  | k + 1 => (c.fixNext emax).fixMany emax k

/-- Grid frames that neither positions nor later latch points need are dropped. -/
def ClockState.prune (c : ClockState) : ClockState :=
  { c with grid := c.grid.filter fun g => min c.frame c.nextLatch ≤ g.n + 2 }

/-- The grid from its start: START_FRAME begins at `t0`, and the periods of it and of the eight frames after it are
fixed (R101, R109). -/
def ClockState.start (c : ClockState) (t0 : Instant) (tref : Int × Nat) (emax : Units) : ClockState :=
  let c := { c with run := true, frame := c.startFrame, grid := [], residual := 0, changeFrame := 0, prevBlock := c.block }
  let c := c.reanchor c.startFrame t0 tref
  let c := if c.block.refKind = 1 then c.anchorPtp c.startFrame t0 c.block.rateCode (c.ptpIndex c.startFrame) else c
  let p := c.nominalAt (c.startFrame + 1) - t0
  let c := (c.addFrame c.startFrame t0 p emax c.block).fixMany emax 8
  let first := c.grid.find? fun g => decide (t0 ≤ g.latch)
  let f := first.elim (c.startFrame + 9) (·.n)
  { c with firstRendered := f, nextLatch := f, refFrame := c.startFrame, startDue := none }

/-! ### Commit deadlines (R79) -/

/-- The position of the commit deadline of frame `n`. -/
def ClockState.deadline (c : ClockState) (n : Nat) (lead : Units) : Pos := c.posAt ((c.predict n).latch - lead)

/-- The earliest frame, from the next latch point on, whose deadline lies after a position. -/
def ClockState.earliest (c : ClockState) (lead : Units) (db : Pos) : Nat :=
  ((List.range 64).map (c.nextLatch + ·)).find? (fun n => db < c.deadline n lead) |>.getD (c.nextLatch + 64)

/-! ### Coincidences (R120) -/

/-- Boundary `n` of the old grid is a boundary of the new grid too. -/
def ClockState.coincides (c : ClockState) (new_ : TimingBlock) (n : Nat) : Bool :=
  match c.block.refKind with
  | 1 => match tablePeriod c.block.rateCode, tablePeriod new_.rateCode with
    | some a, some b => Int.emod (((n : Int) + c.gridOffset) * (a.1 * b.2 : Nat)) ((b.1 * a.2 : Nat) : Int) == 0
    | _, _ => true
  | 0 => true
  | _ => Int.emod ((n : Int) - c.refFrame) (c.block.mult : Int) == 0

/-- The first coincidence at or after `n`, looked for over a span that holds one if there is any: under PTP the two
grids meet within 1,001 s, which 240,240 frames cover; none beyond 1,048,576 frames (R120). It is a multiple of every canvas's
divider (R296). -/
def ClockState.firstCoincidence (c : ClockState) (ks : List Nat) (new_ : TimingBlock) (n : Nat) : Option Nat :=
  ((List.range 1048577).find? fun k => ks.all (fun d => (n + k) % d == 0) && c.coincides new_ (n + k)).map (n + ·)

/-! ### Phase error (R102, R103) -/

/-- The show boundary nearest to a reference boundary: e lies in (−T/2, +T/2]. -/
def ClockState.pairWith (c : ClockState) (x : Instant) : Option GridFrame :=
  c.grid.find? fun g => decide (- g.period < 2 * (x - g.t)) && decide (2 * (x - g.t) ≤ g.period)

/-- T_ref in the measure of frame `n`: the stored one is that of the last period fixed (R116, R122). -/
def ClockState.trefAt (c : ClockState) (n : Nat) : Int × Nat :=
  match c.change with
  | some ch => if n < ch.2 && (c.grid.getLast?.elim false fun g => ch.2 ≤ g.n) then c.trefUnder ch.1 c.block else (c.trefNum, c.trefDen)
  | none => if n < c.changeFrame then c.trefUnder c.block c.prevBlock else (c.trefNum, c.trefDen)

/-- The first frame in the measure of the stored T_ref. -/
def ClockState.cut (c : ClockState) : Nat := c.change.elim c.changeFrame (·.2)

/-- Where the reference puts boundary `m`, after it met boundary `n` with phase error `e` (R103): its own grid instant under PTP, and
T_ref for every frame between the two under the other references. -/
def ClockState.expected (c : ClockState) (n : Nat) (e : Int) (m : Nat) : Instant :=
  if c.block.refKind = 1 && (c.blockOf (m - 1)).refKind = 1 then
    ptpGrid (c.rateOf (m - 1)) (c.ptpIndex m) + nsUnits (c.blockOf (m - 1)).offsetNs
  else
    let a := c.trefAt n
    let b := c.trefAt (m - 1)
    let k : Nat := min m c.cut - n
    (c.predict n).t + e + roundDiv (k * a.1 * b.2 + ((m - n - k : Nat) : Int) * b.1 * a.2) (a.2 * b.2)

/-- The phase error that no fixed period covers yet, after one of `e` at frame `n` (R103). -/
def ClockState.uncovered (c : ClockState) (n : Nat) (e : Int) : Int :=
  (c.grid.getLast?).elim 0 fun g => c.expected n e (g.n + 1) - (g.t + g.period)

/-- A phase error measured at frame `n` (R103, R115); the interrupt of LOCK_REACHED where it is raised. -/
def ClockState.measure (c : ClockState) (n : Nat) (e : Int) : ClockState × List Nat :=
  let c := { c with phaseErr := e, residual := c.uncovered n e, refFrame := n }
  let near := absInt e ≤ nsUnits 50
  match c.phase with
  | .locked => (if near then c else { c with phase := .slewing }, [])
  | .slewing => if near then ({ c with phase := .locked }, [0x37]) else (c, [])
  | _ => (c, [])

/-- Word-clock frequencies in Hz (R98). -/
def wclkHz (code : Nat) : Nat :=
  match code with
  | 1 => 44100
  | 2 => 48000
  | 3 => 88200
  | 4 => 96000
  | 5 => 192000
  | _ => 1

/-- The key under which the boundaries of a block's reference are kept; 1 under PTP, which keeps none. -/
def TimingBlock.key (b : TimingBlock) : Nat := if b.refKind = 4 then 16 + 3 * b.mtrPoint + b.mtrPhase else b.refKind

/-- The newest boundaries of a word clock that cover a number of cycles. -/
def takeCycles : Nat → List (Instant × Nat) → List (Instant × Nat)
  | _, [] => []
  | 0, x :: _ => [x]
  | n, x :: l => x :: takeCycles (n - x.2) l

/-- The word-clock cycles of 16 frames of a block's rate. -/
def TimingBlock.meanCycles (b : TimingBlock) : Nat :=
  (exactPeriod b.rateCode).elim 1 fun p => (ceilDiv (16 * (wclkHz b.wclk : Nat) * p.1) (p.2 * 65536000000000)).toNat

/-- The boundaries received from a block's reference, newest first. -/
def ClockState.edgesOf (c : ClockState) (b : TimingBlock) : List (Instant × Nat) := c.edges.getD b.key []

/-- T_ref as the reference measures it ("The show grid"): the mean over the last 16 reference frames divided by M, the
last mains cycle divided by the multiplier, or the nominal number of word-clock cycles at their measured length. -/
def ClockState.measured (c : ClockState) (b : TimingBlock) : Option (Int × Nat) :=
  let l := if b.refKind = 0 then takeCycles b.meanCycles (c.edgesOf b) else (c.edgesOf b).take (if b.refKind = 4 then 2 else 17)
  match l.head?, l.getLast? with
  | some a, some z =>
    if l.length < 2 then none
    else if b.refKind = 0 then
      (exactPeriod b.rateCode).map fun p =>
        ((a.1 - z.1) * (wclkHz b.wclk : Nat) * p.1, max 1 (((l.dropLast.map (·.2)).sum) * p.2 * 65536000000000))
    else some (a.1 - z.1, (l.length - 1) * max 1 b.mult)
  | _, _ => none

/-- An interval lies within `ppm` of a nominal one. -/
def withinPpm (x : Units) (nom : Int × Nat) (ppm : Nat) : Bool :=
  decide (absInt (x * nom.2 - nom.1) * 1000000 ≤ nom.1 * ppm)

/-- The nominal interval between reference boundaries of a block: a reference frame, or a word-clock cycle. -/
def TimingBlock.refInterval (b : TimingBlock) : Int × Nat :=
  if b.refKind = 2 || b.refKind = 3 then (exactPeriod b.refRate).getD (1, 1)
  else if b.refKind = 0 then (65536000000000, wclkHz b.wclk)
  else (65536000000000, 50)

/-- A frequency of a mains cycle between 45 Hz and 65 Hz. -/
def mainsCycleOk (d : Units) : Bool := decide (65536000000000 ≤ d * 65) && decide (d * 45 ≤ 65536000000000)

/-- An interval of a block's reference is good: `k` word-clock cycles, or one reference frame (R114). -/
def TimingBlock.goodInterval (b : TimingBlock) (d : Units) (k : Nat) : Bool :=
  if b.refKind = 4 then mainsCycleOk d
  else if b.refKind = 0 then withinPpm d (b.refInterval.1 * k, b.refInterval.2) 1000
  else withinPpm d b.refInterval 100

/-- The intervals, or word-clock cycles, of the unbroken run of good ones up to now. -/
def goodRun (b : TimingBlock) : List (Instant × Nat) → Nat
  | x :: y :: l => if b.goodInterval (x.1 - y.1) x.2 then (if b.refKind = 0 then x.2 else 1) + goodRun b (y :: l) else 0
  | _ => 0

/-- How long a run makes a lost reference valid (R114). -/
def TimingBlock.validCount (b : TimingBlock) : Nat :=
  match b.refKind with
  | 0 => 1000
  | 2 => 16
  | 4 => 50
  | _ => 0

/-- How long after the last boundary a reference is lost (R114): the end of the window of the third absent V edge, three LTC
frame times, four word-clock periods. -/
def TimingBlock.lossAfter (b : TimingBlock) : Units :=
  let n := if b.refKind = 0 then 4 else 3
  ceilDiv (n * b.refInterval.1) b.refInterval.2 + (if b.refKind = 2 then usUnits 2 else 0)

/-- T_ref with which the clock starts: nominal after ACQ_TIMEOUT (R112). -/
def ClockState.startTref (c : ClockState) : Int × Nat :=
  if c.validAt.isNone || c.block.refKind = 1 || (c.block.refKind = 0 && !c.block.wordClock) then c.block.nominal c.mainsMilliHz
  else (c.measured c.block).getD (c.block.nominal c.mainsMilliHz)

/-- The length of one reference frame as T_ref stands. -/
def ClockState.refLength (c : ClockState) : Int × Nat :=
  let p := if c.run then c.trefAt c.frame else c.startTref
  (max 1 (p.1 * (max 1 c.block.mult : Nat)), max 1 p.2)

/-- A V edge lies within ±2 µs of an expected time: one to three reference frames after the last that did (R114). -/
def ClockState.expectedEdge (c : ClockState) (x : Instant) : Bool :=
  let p := c.refLength
  c.genlockAt.elim true fun w =>
    (List.range 3).any fun k => decide (absInt ((x - w) * p.2 - (k + 1) * p.1) ≤ usUnits 2 * p.2)

/-! ### LTC (R117) -/

/-- A BCD digit pair as a number. -/
def bcd (b : Nat) : Nat := b / 16 * 10 + b % 16

/-- The nominal LTC frames per second of a reference rate. -/
def ltcFps (code : Nat) : Nat := if code = 2 then 24 else if code = 3 then 25 else 30

/-- A timecode as a count of LTC frames, drop-frame numbering respected. -/
def ltcCount (fps : Nat) (drop : Bool) (w : Nat) : Nat :=
  let hh := bcd (bits w 24 8)
  let mm := bcd (bits w 16 8)
  let mins := hh * 60 + mm
  (mins * 60 + bcd (bits w 8 8)) * fps + bcd (bits w 0 8) - (if drop then 2 * (mins - mins / 10) else 0)

/-- Frames in a day. -/
def ltcDay (fps : Nat) (drop : Bool) : Nat := 86400 * fps - (if drop then 2 * (1440 - 144) else 0)

/-- A word is the successor of another. -/
def ltcNext (fps : Nat) (drop : Bool) (a b : Nat) : Bool :=
  (ltcCount fps drop a + 1) % ltcDay fps drop == ltcCount fps drop b

/-- Consecutive words at the head of a list, newest first. -/
def wordRun (fps : Nat) (drop : Bool) : List (Instant × Nat) → Nat
  | x :: y :: l => if ltcNext fps drop y.2 x.2 then 1 + wordRun fps drop (y :: l) else 1
  | [_] => 1
  | [] => 0

/-- The LTC word that a show boundary at `t` begins within: the last word received, for one LTC frame time and an eighth
(DEDUCED, assumption 51). -/
def ClockState.wordAt (c : ClockState) (t : Instant) : Nat :=
  let p := c.block.refInterval
  match c.words.head? with
  | some w => if c.block.refKind = 3 && decide ((t - w.1) * (8 * p.2 : Nat) < 9 * p.1) then w.2 else 0xFFFFFFFF
  | none => 0xFFFFFFFF

/-! ### SHOW_CLOCK_STATUS (R135) -/

def ClockPhase.code : ClockPhase → Nat
  | .stopped => 0
  | .acquiring => 1
  | .locked => 2
  | .holdover => 3
  | .slewing => 4

/-- The SHOW_CLOCK_STATUS response. -/
def ClockState.status (c : ClockState) : Bytes :=
  let g := c.predict c.frame
  let t := if c.run then g.period else 0
  let b := c.block
  bytesLE 1 c.phase.code ++ bytesLE 1 b.refKind ++ bytesLE 1 b.rateCode ++ bytesLE 1 (b2n c.change.isSome) ++ zeros 4
    ++ bytesLE 8 c.frame ++ bytesLE 8 t.toNat ++ bytesLE 4 (roundDiv (if c.run then g.dcfg else b.delay 0) 65536).toNat
    ++ bytesLE 4 (if c.run then roundDiv (g.light - g.t) 65536 else 0).toNat
    ++ bytesLES 4 (if c.phase = .holdover || b.refKind = 0 then 0 else roundDiv c.phaseErr 65536)
    ++ bytesLE 4 c.lossCount.toNat ++ bytesLE 8 (c.change.elim c.changeFrame (·.2)) ++ bytesLE 4 c.ltcFrame
    ++ bytesLE 4 (if b.refKind = 4 then c.mainsMilliHz else 0) ++ bytesLES 8 (if b.refKind = 1 then c.gridOffset else 0)

end Sys2Proof.Machine
end

