-- ==== Sys2Proof/Machine/StateBoard.lean ====
section
/-!
DEFINITION. Machine/StateBoard.lean: the state of memory integrity and queues (R473 to R493), and of power,
clocks and reset (R556 to R581).
-/

namespace Sys2Proof.Machine

/-! ### Memory integrity -/

/-- An entry of the repeat tracker (R475): word, and the TIME cycles of its last corrections, newest first. -/
structure TrackEntry where
  word : Nat
  times : List Nat
  deriving DecidableEq, Repr

/-- A word that was written under the flip mask (R482): the flipped data and check bits, and whether its first
correction is still to come (R475). -/
structure FlipMark where
  data : Nat
  check : Nat
  deriving DecidableEq, Repr

/-- Memory integrity (R473 to R482, R490, R491). Words are numbered MEM × 2^40 + address; banks and macros
MEM × 2^20 + number; rows MEM × 2^40 + row address. -/
structure EccState where
  sticky : Nat := 0
  /-- The TIME cycle in which the hardware last set each sticky bit (R10). -/
  stickyAt : Map Nat := []
  periodMin : Nat := 1440
  windowMin : Nat := 1440
  progress : Nat := 0
  passes : Nat := 0
  ceDram : BitVec 64 := 0
  ceSram : BitVec 64 := 0
  ueCount : Word := 0
  parityCount : Word := 0
  retiredDram : Nat := 0
  retiredSram : Nat := 0
  lastLoc : Nat := 0
  lastFrame : Nat := 0
  arm : Bool := false
  match_ : Bool := false
  flipMem : Nat := 0
  flipAddr : Nat := 0
  flipData : Nat := 0
  flipCheck : Nat := 0
  tracker : List TrackEntry := []
  marks : Map FlipMark := []
  /-- Words written under the flip mask whose first correction has not come yet (R475). -/
  uncounted : List Nat := []
  poisoned : List Nat := []
  /-- Spare rows used, by bank or macro. -/
  spares : Map Nat := []
  /-- Retired rows. -/
  retired : List Nat := []
  deriving DecidableEq, Repr

/-! ### Queues -/

/-- The flags, watermarks and counts of one queue of the table "Queues" (R484 to R488). -/
structure QueueDyn where
  high : Nat := 0
  low : Nat := 0
  underrun : Bool := false
  overflow : Bool := false
  wmHigh : Bool := false
  wmLow : Bool := false
  crossings : Word := 0
  corrected : Word := 0
  resets : Word := 0
  /-- The level after the last command. -/
  level : Nat := 0
  deriving DecidableEq, Repr

/-! ### Power, clocks and reset -/

/-- Where the device stands between power-on and mailbox ready (R564). -/
inductive ResetPhase where
  /-- The supervisor holds the internal reset. -/
  | held
  /-- Reset is released and secure boot runs. -/
  | booting
  /-- Lanishambe has started. -/
  | running
  deriving DecidableEq, Repr

/-- Power, thermal and reset state (R556 to R581). -/
structure PowerState where
  reset : ResetPhase := .held
  resetCause : Nat := 0
  /-- TEST_MODE was sampled high; the temperature trip holds the reset (R572). -/
  testMode : Bool := false
  tripped : Bool := false
  /-- Rails outside their tolerance, in the bit order of the table "Supply rails". -/
  railsOut : Nat := 0
  /-- TIME cycle since which every rail has been within its tolerance again (R559). -/
  railsGoodAt : Option Nat := none
  lastRail : Nat := 0
  ceilingMw : Nat := 55000
  /-- The ceiling in force, after the thermal reduction of R571. -/
  ceilingNow : Nat := 55000
  peakMw : Nat := 0
  /-- Estimates of the last 1,000 arbiter intervals, newest first. -/
  recent : List Nat := []
  fraction : Nat := 256
  dmaFloor : Bool := false
  mgmtFloor : Bool := false
  throttling : Bool := false
  exceeded : Bool := false
  throttleCount : Word := 0
  wdogCount : Word := 0
  /-- Junction readings in units of 1/16 °C. -/
  tj : Int := 0
  tjMax : Int := 0
  thermal : Bool := false
  railMa : List Nat := [0, 0, 0]
  /-- TIME cycle in which the stall in progress was detected (R567). -/
  stallSince : Option Nat := none
  deriving DecidableEq, Repr

end Sys2Proof.Machine
end

