-- ==== Sys2Proof/Machine/StateMeter.lean ====
section
/-!
DEFINITION. Machine/StateMeter.lean: the state of feeder metering (chapter "Feeder metering"). All of it
is device state.
-/

namespace Sys2Proof.Machine

/-- A metering channel (R407 to R413): its MTR_CHANNEL_SET settings, the gain in force as an index into
1, 2, 8, 32, its gain and offset corrections at each gain in units of 2^-32, and its run-time values.
`role` 0 stands for a channel that no MTR_CHANNEL_SET has configured. -/
structure MtrChannel where
  role : Nat := 0
  gainCode : Nat := 1
  rove : Bool := false
  invert : Bool := false
  scale : F32 := 0
  offset : F32 := 0
  phaseCorr : Int := 0
  auxMs : Nat := 100
  gain : Nat := 0
  kg : List Int
  zg : List Int
  live : Bool := false
  /-- Consecutive samples that would allow the next higher gain (R411). -/
  upRun : Nat := 0
  gainSwitches : Word := 0
  /-- TIME cycle of the last clipped sample. -/
  clippedAt : Option Nat := none
  roveCount : Word := 0
  roveFaults : Word := 0
  gainDelta : F32 := 0
  offsetDelta : F32 := 0
  roveSec : Nat := 0
  /-- The last raw sample and the last two engineering values, in units of 2^-240 V or A. -/
  x : Int := 0
  y : Int := 0
  yPrev : Int := 0
  /-- Sum of squares and samples of the running reference cycle, and the RMS of the last one. -/
  sqSum : Int := 0
  sqCount : Nat := 0
  rms : F32 := 0
  /-- Sum of x × k_1 + z_1 × 2^23 over the AUX period, in units of 2^-55, its samples and the last ρ. -/
  auxSum : Int := 0
  auxCount : Nat := 0
  auxSince : Nat := 0
  rho : F32 := 0
  deriving DecidableEq, Repr

/-- The states of a metering point (R416). -/
inductive MtrPhase where
  | disabled | start | normal | loss
  deriving DecidableEq, Repr

/-- The settings of MTR_POINT_SET. -/
structure MtrPointCfg where
  phases : Nat
  refPhase : Nat
  vCh : List Nat
  iCh : List Nat
  n : Nat
  zcMs : Nat
  deriving DecidableEq, Repr

/-- One energy register (R419): the 96-bit value in units of 2^-32 and its wrap count. -/
structure EnergyReg where
  acc : Nat := 0
  wraps : Nat := 0
  deriving DecidableEq, Repr

/-- The sums of one phase over a span of samples, in squares of 2^-240: v², i², v·i and v90·i. -/
structure PhaseSums where
  vv : Int := 0
  ii : Int := 0
  vi : Int := 0
  qi : Int := 0
  deriving DecidableEq, Repr

/-- The latest voltages and currents of one phase, newest first (R417, R418). -/
structure PhaseHist where
  v : List Int := []
  i : List Int := []
  deriving DecidableEq, Repr

/-- A cycle record (R415), with V_RMS, I_RMS, P, Q of each phase in a row. -/
structure CycleRec where
  loss : Bool := false
  overload : Bool := false
  freqRange : Bool := false
  w : Nat := 160
  freqMilliHz : Nat := 0
  endAt : Instant := 0
  phase : List F32 := []
  psum : F32 := 0
  deriving DecidableEq, Repr

/-- A latch record (R422, R433). -/
structure LatchRec where
  seq : Nat
  gen : Nat
  flags : Nat
  endAt : Instant
  endPos : Pos
  cycles : Nat
  freqMilliHz : Nat
  phase : List F32
  values : List Nat
  wraps : List Nat
  deriving DecidableEq, Repr

/-- The open latch interval (R422). -/
structure MtrInterval where
  startAt : Instant
  cycles : Nat := 0
  flags : Nat := 0
  lossSpan : Bool := false
  samples : Nat := 0
  sums : List PhaseSums := []
  deriving DecidableEq, Repr

/-- A metering point (R414 to R423). -/
structure MtrPoint where
  cfg : MtrPointCfg
  /-- A change of channels or REF_PHASE that waits for the next crossing (R423). -/
  change : Option MtrPointCfg := none
  phase : MtrPhase := .disabled
  gen : Nat := 0
  seq : Nat := 0
  recs : List LatchRec := []
  regs : List EnergyReg := []
  /-- Presets that wait for the next interval: register index, wrap count and value (R421). -/
  presets : List (Nat × Nat × Nat) := []
  interval : Option MtrInterval := none
  /-- N and ZC_TIMEOUT in force for the open interval. -/
  n : Nat
  zcMs : Nat
  lastCross : Option Instant := none
  /-- TIME cycle from which ZC_TIMEOUT counts (R416). -/
  zcSince : Nat := 0
  w : Nat := 160
  cycleSums : List PhaseSums := []
  cycleSamples : Nat := 0
  cycleOverload : Bool := false
  gainSwitched : Bool := false
  last : CycleRec := {}
  hist : List PhaseHist := []
  deriving DecidableEq, Repr

/-- A metering pulse output (R424, R425). `acc` is A × 1,000, in units of 2^-32 µWh, µvarh or µVAh. -/
structure MtrPulse where
  point : Option Nat := none
  quantity : Nat := 0
  polarity : Nat := 0
  const : Nat := 1
  widthMs : Nat := 1
  gapMs : Nat := 1
  acc : Nat := 0
  edges : List Instant := []
  backlog : Nat := 0
  driving : Bool := false
  gapping : Bool := false
  /-- TIME cycle of the last leading edge, and of the last end of a pulse. -/
  edgeAt : Nat := 0
  endAt : Nat := 0
  pulses : Word := 0
  deriving DecidableEq, Repr

/-- The steps of a recalibration (R412). -/
inductive RoveStep where
  | fit | selfCal | compare | settle
  deriving DecidableEq, Repr

/-- A recalibration in progress: channel, step, the TIME cycle in which the step began and, from step 5,
the corrections that step 4 measured. -/
structure RoveRun where
  channel : Nat
  step : RoveStep
  since : Nat
  kg : List Int := []
  zg : List Int := []
  deriving DecidableEq, Repr

/-- A capture of raw samples in progress (R434): its operation, channel and destination, the samples
still to come, those taken, the instant of the first and the gain switches at its start. -/
structure MtrCaptureRun where
  op : Nat
  channel : Nat
  dest : Nat
  left : Nat
  taken : List Int := []
  startAt : Option Instant := none
  switches : Nat := 0
  deriving DecidableEq, Repr

/-- All of feeder metering. -/
structure MeterState where
  /-- The metering coefficients in force: part 0x08 of the running package, empty for those of manufacture (R409, R534). -/
  coef : Bytes := []
  channels : Map MtrChannel := []
  points : Map MtrPoint := []
  pulses : Map MtrPulse := []
  rovePeriodMs : Nat := 5000
  roveSince : Nat := 0
  roveLast : Nat := 63
  rove : Option RoveRun := none
  /-- The index of the next sample (R408), once the MTR sample clock runs. -/
  nextSample : Nat := 0
  /-- TIME cycle in which the MTR sample clock started. -/
  base : Nat := 0
  /-- Creations and restarts of each point number (GEN of R423). -/
  gens : Map Nat := []
  captures : List MtrCaptureRun := []
  deriving DecidableEq, Repr

end Sys2Proof.Machine
end

