-- ==== Sys2Proof/Machine/StatePorts.lean ====
section
/-!
DEFINITION. Machine/StatePorts.lean: the run-time state of pixel lanes, DMX ports, PWM outputs,
tearing-effect inputs, the DisplayPort output and of each output's emission counts (R310, R311, R314 to R321,
R338, R345 to R374).
-/

namespace Sys2Proof.Machine

/-! ### Counts -/

/-- A count of a list increased. -/
def bump (i : Nat) (counts : List Word) : List Word := counts.zipIdx.map fun e => if e.2 = i then e.1 + 1 else e.1

/-! ### Pixel lanes -/

/-- The states of a lane's link (table "Lane link states"). -/
inductive LaneLink where
  | off | training | up
  deriving DecidableEq, Repr

/-- LANE_PHY_SET in force, with its reset values. -/
structure LanePhy where
  backchannel : Bool := true
  txInvert : Bool := false
  rxInvert : Bool := false
  swing : Nat := 2
  deemph : Nat := 0
  deriving DecidableEq, Repr

/-- A FRAME that a lane sent, as its latch acknowledgements need it (R310): its canvas frame and the one before it, the expected latch, T_c, LATCH_TOL_US and CABLE_NS, the LATCH_ACK flag, the tiles that acknowledged it, and those found missing. -/
structure LaneSent where
  frame : Nat
  canvas : Nat
  prev : Option Nat
  expect : Instant
  period : Units
  tolUs : Nat
  cableNs : Nat
  latchAck : Bool
  acks : List Nat := []
  missed : List Nat := []
  deriving DecidableEq, Repr

/-- A lane frame of a slice-mode canvas whose slices are still to come (R127, R128): when its scan began, its header, and what its
pixels are read with. -/
structure RollingScan where
  at_ : Instant
  header : LaneHeader
  canvas : Canvas
  bank : Nat
  segs : LaneSegs
  rgb : Bool
  bad : List Nat
  deriving DecidableEq, Repr

/-- One pixel lane at run time: its link and the TIME cycle of its entry to that state, the last FRAMEs sent (newest first), and the
counts A to E of PORT_STATUS (R354, R374). -/
structure LaneDyn where
  phy : LanePhy := {}
  link : LaneLink := .off
  since : Nat := 0
  failRaised : Bool := false
  retrain : Bool := false
  sendEnd : Option Instant := none
  content : Option Nat := none
  releaseLeft : Nat := 0
  /-- After a hand-over, until the first G: the GAP, and the FRAMEs before it, are still the old active's (R519). `skipGap` on the new
  active, `keeps` on the old one. -/
  skipGap : Bool := false
  keeps : Bool := false
  /-- The frames n_e up to whose gap changed settings are announced (R356). -/
  announces : List Nat := []
  sent : List LaneSent := []
  rolling : Option RollingScan := none
  /-- The GAP that latches the last FRAME has not been sent. -/
  gapOwed : Bool := false
  counts : List Word := [0, 0, 0, 0, 0]
  deriving DecidableEq, Repr

/-! ### DMX ports and RDM -/

/-- A queued RDM transaction: its operation, its request payload and the TIME cycle of its arrival (R364). -/
structure RdmJob where
  op : Nat
  payload : Bytes
  since : Nat
  deriving DecidableEq, Repr

/-- The RDM transaction on the wire: transaction number, and the instant and position of its break (R363). -/
structure RdmRun where
  job : RdmJob
  tn : Nat
  startAt : Instant
  reqPos : Pos
  deriving DecidableEq, Repr

/-- One DMX port at run time. `turnaround`: what ends at `sendEnd` is the turnaround after an RDM transaction. `deferDrive`: after a
hand-over, driver enable waits for the first break (R519). -/
structure DmxDyn where
  sendEnd : Option Instant := none
  turnaround : Bool := false
  deferDrive : Bool := false
  queue : List RdmJob := []
  run : Option RdmRun := none
  tn : Nat := 0
  counts : List Word := [0, 0, 0, 0, 0]
  deriving DecidableEq, Repr

/-! ### Local PWM -/

/-- A value waiting for the output's next period start: frame, instant, width and value (R336). -/
structure PwmLoad where
  frame : Nat
  at_ : Instant
  width : Nat
  value : Nat
  deriving DecidableEq, Repr

/-- One PWM output at run time: the settings in force, a change waiting for a period end (R368), the duty
value held, values to load, the count of its latest period start and whether that period was sensed, the sense count and the last
frame with a detection (R369). -/
structure PwmDyn where
  cfg : PwmCfg := {}
  change : Option PwmCfg := none
  value : Option (Nat × Nat) := none
  loads : List PwmLoad := []
  running : Bool := false
  lastStart : Option Nat := none
  sensed : Bool := true
  senseRun : Nat := 0
  detectFrame : Option Nat := none
  tested : Word := 0
  detections : Word := 0
  deriving DecidableEq, Repr

/-! ### Emission -/

/-- The emission counts of an output (R338, R345). -/
structure EmitDyn where
  emitted : Word := 0
  skipped : Word := 0
  superseded : Word := 0
  late : Word := 0
  maxLateNs : Nat := 0
  deriving DecidableEq, Repr

/-! ### Tearing-effect inputs and DisplayPort -/

/-- A tearing-effect input (R311, R320): its binding and the instant from which it holds, the canvas frames that edges matched,
and the last canvas frame whose edge was found present or missing. -/
structure TeDyn where
  canvas : Option Nat := none
  edge : Nat := 1
  offsetNs : Int := 0
  since : Instant := 0
  matched : List Nat := []
  checked : Option Nat := none
  deriving DecidableEq, Repr

/-- The settings of DISPLAY_SET. -/
structure DisplayCfg where
  mode : Nat := 1
  bpc : Nat := 8
  canvas : Nat := 0
  src : Rect := ⟨0, 0, 0, 0⟩
  dst : Rect := ⟨0, 0, 0, 0⟩
  deriving DecidableEq, Repr

/-- The DisplayPort output (R314 to R317): sink, link (rate code and lanes), the settings stored and in force,
frames still black after a change and whether DP_MODE_CHANGED follows them, the line fetched next, and the counts of R318. -/
structure DisplayDyn where
  hpd : Bool := false
  training : Bool := false
  link : Option (Nat × Nat) := none
  failed : Bool := false
  failedAt : Nat := 0
  stored : DisplayCfg := {}
  force : DisplayCfg := {}
  changed : Bool := false
  black : Nat := 0
  announce : Bool := false
  /-- The link carries mode 0x01 because the stored settings do not fit it: black (R315). -/
  low : Bool := false
  pllLost : Bool := false
  line : Nat := 0
  counts : List Word := [0, 0, 0]
  deriving DecidableEq, Repr

/-- All output ports. -/
structure PortState where
  lanes : Map LaneDyn := []
  dmx : Map DmxDyn := []
  pwm : Map PwmDyn := []
  /-- TIME cycle in which the PWM counter started from zero (R367). -/
  pwmBase : Nat := 0
  /-- Counts by output: kind × 65,536 + number, kinds 0 sACN, 1 DMX, 2 PWM, 3 lane. -/
  emit : Map EmitDyn := []
  te : Map TeDyn := []
  display : DisplayDyn := {}
  deriving DecidableEq, Repr

end Sys2Proof.Machine
end

