-- ==== Sys2Proof/Machine/StateSecure.lean ====
section
/-!
DEFINITION. Machine/StateSecure.lean: the state of field update and of the security functions (R527 to R555).
-/

namespace Sys2Proof.Machine

/-- The states of the staging area (R531). -/
inductive StagePhase where
  | empty | receiving | verifying | verified | invalid | activating
  deriving DecidableEq, Repr

/-- ACTIVATION of UPDATE_STATUS (R553). -/
inductive ActPhase where
  | none_ | accepted | decided | restarting | completed | reverted | abandoned
  deriving DecidableEq, Repr

/-- An activation (R532 to R536): frame m, scope, operation, changed parts, whether the show clock is stopped, the
TIME cycle at which a stopped clock's L(m) falls, devices that are prepared or hold another manifest. -/
structure Activation where
  frame : Nat
  scope : Nat
  op : Nat
  changed : Nat
  stopped : Bool := false
  atCycle : Nat := 0
  lead : Units := 0
  prepared : List Nat := []
  differs : Bool := false
  /-- This device's staging area holds the package; the digest of its manifest. -/
  mine : Bool := true
  digest : Bytes := []
  /-- The device has restarted as a whole, so every part starts again (R534). -/
  whole : Bool := false
  deriving DecidableEq, Repr

/-- A SerDes, as SerDes firmware restarts it: of a pixel lane, an Ethernet port, or the DisplayPort output. -/
inductive Serdes where
  | lane (l : Nat)
  | port (p : Nat)
  | display
  deriving DecidableEq, Repr

/-- Field update. -/
structure UpdateState where
  stage : StagePhase := .empty
  length : Nat := 0
  /-- Bytes written since UPDATE_BEGIN (R553). -/
  received : Nat := 0
  /-- The package images in areas 0 and 1, where an update has written them. -/
  areas : Map Bytes := []
  /-- Bytes received into the staging area: offset and block. -/
  blocks : List (Nat × Bytes) := []
  running : Nat := 0
  bootCopy : Nat := 0
  /-- The boot-loader copies that an activation has written (R527, R534). -/
  bootImages : Map Bytes := []
  bootFallback : Bool := false
  packFallback : Bool := false
  lastResult : Nat := 0
  act : Option Activation := none
  actPhase : ActPhase := .none_
  actFrame : Nat := 0
  failedPart : Nat := 0
  counter : Nat := 0
  revoked : Nat := 0
  /-- Parts still to start after the decision (R536). -/
  starting : List Nat := []
  /-- The SerDes that restart, the first of them now (R534). -/
  serdes : List Serdes := []
  /-- The frame that repeats because render parts restart from the previous package (R536). -/
  holdFrame : Option Nat := none
  /-- Members of the group that activate: no commit is accepted meanwhile (R533). -/
  foreign : List Nat := []
  deriving DecidableEq, Repr

/-- An installed credential: its role and its public key (R539, R543). -/
structure Credential where
  role : Nat
  pub : Bytes
  deriving DecidableEq, Repr

/-- A nonce that has been issued and not used (R541, R554): the session that requested it and the TIME cycle. -/
structure Nonce where
  value : Bytes
  session : Nat
  at_ : Nat
  deriving DecidableEq, Repr

/-- The states of the debug port (R546). -/
inductive DebugPhase where
  | locked | unlocked | disabled
  deriving DecidableEq, Repr

/-- The security monitor's state. -/
structure SecureState where
  creds : Map Credential := []
  nonces : List Nonce := []
  kek : Option Bytes := none
  linkKey : Option Bytes := none
  linkNext : Option Bytes := none
  /-- After an unlock the keys are refused until reset (R546). -/
  keysGone : Bool := false
  debugPort : DebugPhase := .locked
  trngFault : Bool := false
  /-- TIME cycles of the failed proofs that count (R542). -/
  failures : List Nat := []
  lockoutEnd : Option Nat := none
  authFails : Word := 0
  /-- Audit records (64 bytes each) by SEQ. -/
  audit : Map Bytes := []
  auditNext : Nat := 0
  /-- SEQs of the records that have been acknowledged. -/
  acked : List Nat := []
  /-- Records ever acknowledged (R555). -/
  ackedCount : Nat := 0
  policy : Nat := 0
  overwritten : Word := 0
  deriving DecidableEq, Repr

end Sys2Proof.Machine
end

