-- ==== Sys2Proof/Machine/State.lean ====
section
/-!
DEFINITION. Machine/State.lean: the whole state of the block, as plain data, and the block right after reset.
-/

namespace Sys2Proof.Machine

/-- What leaves the device, in the order in which it leaves. -/
inductive OutEvent where
  /-- A memory write to the host: completion records, bulk reads, network descriptors. -/
  | hostWrite (addr : Nat) (bytes : Bytes)
  /-- An MSI-X message of a vector (R468). -/
  | msix (vector : Nat) (addr : BitVec 64) (data : Word)
  /-- A PM_PME message (R470). -/
  | pme
  /-- An Ethernet frame at an instant, padded and with its FCS (R379); `badFcs` for one sent with its FCS inverted (R479). -/
  | eth (port : Nat) (at_ : Instant) (bytes : Bytes) (badFcs : Bool)
  /-- An Ethernet port begins or ends sending remote fault (R377). -/
  | remoteFault (port : Nat) (on : Bool)
  /-- A DMX packet: start code 0 and its slots, from its break on (R359). -/
  | dmx (port : Nat) (at_ : Instant) (slots : List Nat)
  /-- A DMX packet or RDM transaction in progress ends at once (R515). -/
  | dmxCut (port : Nat) (at_ : Instant)
  /-- An RDM request or discovery packet (R362). -/
  | rdm (port : Nat) (at_ : Instant) (op : Nat) (bytes : Bytes)
  /-- A PWM output loads a duty: counts active in the period that begins (R366). -/
  | pwm (output : Nat) (at_ : Instant) (active : Nat)
  /-- A pixel-lane frame: header and payload bytes (R348). -/
  | lane (lane : Nat) (at_ : Instant) (header : LaneHeader) (payload : Bytes)
  /-- A GAP mark of a pixel lane with its data byte (R347, R351). -/
  | gap (lane : Nat) (at_ : Instant) (byte : Nat)
  /-- A lane frame in progress ends at once, with EOF (R354). -/
  | laneCut (lane : Nat) (at_ : Instant)
  /-- A line of the DisplayPort output: channel values (R316). -/
  | display (line : Nat) (pixels : List Nat)
  /-- A time pulse output goes active or inactive (R150). -/
  | pulse (output : Nat) (at_ : Instant) (active : Bool)
  /-- A metering pulse output goes active or inactive (R424). -/
  | mtrPulse (output : Nat) (active : Bool)
  /-- A HELLO on a Zoette link (R501). -/
  | zlkHello (link : Nat) (h : Hello)
  /-- A DATA frame on a Zoette link (R500). -/
  | zlkData (link : Nat) (f : ZlkData)
  /-- A NAK on a Zoette link, naming the last frame accepted in order (R500). -/
  | zlkNak (link ack : Nat)
  /-- An ACK on a Zoette link, with the credits that it returns (R499, R500). -/
  | zlkAck (link : Nat) (ack : Nat) (credit : List Nat)
  /-- A TIME frame on a Zoette link: SEQ, ACK, credits, the count of protected frames before it (R547), transmit stamp, and the receive
  stamp of the last TIME frame received. -/
  | zlkTime (link seq ack : Nat) (credit : List Nat) (count : Nat) (tx : Instant) (rx : Option Instant)
  deriving DecidableEq, Repr

/-- The state of the block. -/
structure State where
  host : HostState := {}
  txn : TxnState := {}
  clock : ClockState := {}
  time : TimeState := {}
  icu : IcuState := {}
  render : RenderState := {}
  inputs : InputState := {}
  meter : MeterState := {}
  ports : PortState := {}
  net : NetState := {}
  fns : Map FnRec := []
  ecc : EccState := {}
  queues : Map QueueDyn := []
  group : GroupState := {}
  update : UpdateState := {}
  secure : SecureState := {}
  power : PowerState := {}
  /-- The host region: BAR2 offsets 0 to 0x1FFF_FFFF (R54, R60). -/
  mem : List Host.Cell := []
  /-- The number of free values used so far; the model's own field (assumption 3). -/
  freeCtr : Nat := 0
  /-- What has left the device, newest first; the model's own field. -/
  out : List OutEvent := []
  /-- The commands that wait, first in first out. -/
  pending : List Instr := []
  deriving DecidableEq, Repr

/-- Why a step faults. -/
inductive Fault where
  /-- A host access names a BAR2 offset outside the 512 MiB of the host region (R51): no such address exists.
  Raised by BAR2_WRITE. Safe: the model stops where the machine has no such location. -/
  | outsideRegion
  /-- A host access names a BAR0 offset outside the 64 KiB of the host window (R51). Raised by REGISTER_WRITE.
  Safe, as above. -/
  | outsideWindow
  deriving DecidableEq, Repr

/-- Why a step is refused. -/
inductive Refusal where
  /-- A command that has no meaning in the model. Raised by no meaning, only by an arm of the dispatch. Safe. -/
  | notModelled (mnemonic : String)
  deriving DecidableEq, Repr

/-- The block right after a full reset: the supervisor still holds it (BOOT_STAGE 0x00, R57, R563), every register at its reset value,
nothing in the host region's table, empty show state of epoch 0, no command waiting. RESET_RELEASE lets it boot. Where the spec gives no
reset value, the logs of the assumption rows name the value taken (assumption 2). -/
def State.reset : State := {}

end Sys2Proof.Machine
end

