-- ==== Sys2Proof/Machine/Ops.lean ====
section
/-!
DEFINITION. Machine/Ops.lean: the named operations that every command uses: time, free values, the host region, and
what leaves the device.
-/

namespace Sys2Proof.Machine

/-! ### Memory: the host region (R54, R60) -/

/-- The size of the host region: 512 MiB (R51). -/
def regionSize : Nat := 0x20000000

/-- A byte of a memory; an address that nothing has written reads as 0 (DESIGN CHOICE, assumption 1). -/
def memRead (m : List Host.Cell) (a : Nat) : Byte :=
  match m with
  | [] => 0
  | (b, v) :: m => if a = b then v else memRead m a

/-- A byte written; a byte of 0 removes the entry, so that equal memories are equal lists. -/
def memWrite : List Host.Cell → Nat → Byte → List Host.Cell
  | [], a, v => if v = 0 then [] else [(a, v)]
  | (b, w) :: m, a, v =>
    if a < b then (if v = 0 then (b, w) :: m else (a, v) :: (b, w) :: m)
    else if a = b then (if v = 0 then m else (a, v) :: m)
    else (b, w) :: memWrite m a v

/-- Bytes written from an address on. -/
def memWriteBytes (m : List Host.Cell) (a : Nat) : Bytes → List Host.Cell
  | [] => m
  | v :: vs => memWriteBytes (memWrite m a v) (a + 1) vs

/-- `len` bytes from an address on. -/
def memReadBytes (m : List Host.Cell) (a len : Nat) : Bytes := (List.range len).map fun i => memRead m (a + i)

/-- Every address of the list exceeds `a`, the addresses rise, and no entry holds 0. -/
def memFrom (a : Nat) : List Host.Cell → Bool
  | [] => true
  | (b, v) :: m => a ≤ b && v != 0 && memFrom (b + 1) m

/-- The canonical form of a memory. -/
def Memory.wf (m : List Host.Cell) : Bool := memFrom 0 m

/-- A range of the host region outside the mailbox bodies (R95). -/
def regionOk (off len : Nat) : Bool := off + len ≤ regionSize && (0x10000 ≤ off || len == 0)

/-- Bytes of the host region. -/
def State.readRegion (s : State) (off len : Nat) : Bytes := memReadBytes s.mem off len

/-- Bytes written to the host region. -/
def State.writeRegion (s : State) (off : Nat) (bs : Bytes) : State := { s with mem := memWriteBytes s.mem off bs }

/-! ### Time and positions -/

/-- `dt` TIME cycles pass. -/
def State.tick (s : State) (dt : Nat) : State := { s with time := s.time.tick dt }

/-- TIME cycles since power-on. -/
def State.now (s : State) : Nat := s.time.now

/-- The timebase. -/
def State.tb (s : State) : Instant := s.time.value

/-- What a stamp or a latch of this cycle carries: in a step cycle, the timebase before the step (R149). -/
def State.stamp (s : State) : Instant := s.time.stepAt.elim s.tb fun x => if x.1 = s.time.now then x.2 else s.tb

/-- The show position of now (R105); F 0+0 while the clock is stopped. -/
def State.pos (s : State) : Pos := s.clock.posAt s.tb

/-! ### Sticky bits that a write of 1 clears (R9, R10) -/

/-- The bits of a W1C register that the hardware set in cycle `now`, which a write of that cycle leaves set (R10). -/
def setBits (stamps : Map Nat) (now : Nat) : Word :=
  stamps.foldl (fun w e => if e.2 = now then w ||| BitVec.ofNat 32 (2 ^ e.1) else w) 0

/-- A write of a W1C register (R9, R10). -/
def w1c (old : Word) (v : Nat) (kept : Word) : Word := old &&& (~~~(BitVec.ofNat 32 v) ||| kept)

/-! ### Free values (assumption 3) -/

/-- A free value, and the state in which it is used up. -/
def State.fresh (s : State) : Nat × State := ((Config.freeValue s.freeCtr).toNat, { s with freeCtr := s.freeCtr + 1 })

/-- `n` free values. -/
def State.freshes (s : State) (n : Nat) : List Nat × State :=
  ((List.range n).map (fun i => (Config.freeValue (s.freeCtr + i)).toNat), { s with freeCtr := s.freeCtr + n })

/-! ### Output -/

/-- Something leaves the device. -/
def State.emit (s : State) (e : OutEvent) : State := { s with out := e :: s.out }

/-- Several things leave the device, in order. -/
def State.emitAll (s : State) (es : List OutEvent) : State := { s with out := es.reverse ++ s.out }

/-! ### Functions (R39 to R46) -/

/-- A function number of R46: class and instance. -/
def fnId (cls inst : Nat) : Nat := cls * 65536 + inst

/-- The record of a function. -/
def State.fn (s : State) (id : Nat) : FnRec := s.fns.getD id {}

/-- The number of a function or ring state. -/
def FnState.code : FnState → Nat
  | .disabled => 0
  | .enabled => 1
  | .draining => 2

/-- A function is ENABLED. -/
def State.enabled (s : State) (cls inst : Nat) : Bool := (s.fn (fnId cls inst)).state == .enabled

/-- An instant is still to come. -/
def State.ahead (s : State) (x : Option Instant) : Bool := x.elim false fun t => decide (s.tb < t)

/-- A function is not DISABLED: an output that drains still finishes its items. -/
def State.alive (s : State) (cls inst : Nat) : Bool := (s.fn (fnId cls inst)).state != .disabled

end Sys2Proof.Machine
end

