-- ==== Sys2Proof/Machine/Icu.lean ====
section
/-!
DEFINITION. Machine/Icu.lean: interrupt sources, presentation, claims and delivery (R461 to R472).
-/

namespace Sys2Proof.Machine

/-- A level source: capture-ready of a capture input (R461). -/
def isLevel (n : Nat) : Bool := 0x48 ≤ n && n ≤ 0x4F

/-- A source number that the table "Interrupt sources" assigns. -/
def srcAssigned (n : Nat) : Bool :=
  n < 256 && !((0x3D ≤ n && n ≤ 0x3F) || n == 0x47 || n == 0x6E || n == 0x6F || n == 0x7E || n == 0x7F || n == 0x9F
    || (0xAB ≤ n && n ≤ 0xAF) || n == 0xBE || n == 0xBF || n == 0xC7 || (0xCC ≤ n && n ≤ 0xEF))

/-- A source, a group and a target, with their reset values where nothing is recorded. -/
def IcuState.src (i : IcuState) (n : Nat) : IcuSource := i.sources.getD n {}
def IcuState.grp (i : IcuState) (g : Nat) : IcuGroup := i.groups.getD g {}
def IcuState.tgt (i : IcuState) (t : Nat) : IcuTarget := i.targets.getD t {}

/-- The group of a source. -/
def srcGroup (n : Nat) : Nat := n / 16

/-- A source becomes pending (R462, R463). -/
def IcuSource.pend (x : IcuSource) (now : Nat) : IcuSource :=
  let x := { x with count := x.count + 1 }
  match x.phase with
  | .idle => { x with phase := .pending, pendSince := now, redirected := false, pme := false }
  | .pending => x
  | .active => { x with phase := .activePending, pendSince := now, pme := false }
  | .activePending => x

/-- An edge of a source, from the hardware. -/
def IcuSource.edge (x : IcuSource) (now : Nat) : IcuSource := { x.pend now with edgeAt := some now }

/-- A write of 1 to the source's ICU_PEND bit (R463); it does not clear the edge of its own cycle (R10). -/
def IcuSource.clear (now : Nat) (x : IcuSource) : IcuSource :=
  if x.edgeAt = some now then x else
  match x.phase with
  | .pending => { x with phase := .idle, redirected := false }
  | .activePending => { x with phase := .active }
  | _ => x

/-- The claiming target completes the source; `holds` is the condition of a level source (R463). -/
def IcuSource.complete (x : IcuSource) (holds : Bool) (now : Nat) : IcuSource :=
  match x.phase with
  | .active =>
    if holds then { x with phase := .pending, pendSince := now, redirected := false, pme := false } else { x with phase := .idle }
  | .activePending => { x with phase := .pending, redirected := false }
  | _ => x

/-- The source is claimed. -/
def IcuSource.claimed (x : IcuSource) : Bool := x.phase == .active || x.phase == .activePending

/-- A target is asleep (R470). -/
def IcuState.asleep (i : IcuState) (t : Nat) : Bool :=
  if t < 32 then (i.tgt t).masked || i.fnMask || !i.msixEnable || !i.busMaster || i.d3hot else (i.tgt t).sleeping

/-- The route of a source (R464): a redirected source goes to the fallback while its own target sleeps, and no longer (R470). -/
def IcuState.route (i : IcuState) (n : Nat) : Nat :=
  let x := i.src n
  if x.redirected && i.asleep x.target then (i.grp (srcGroup n)).fallback else x.target

/-- The sources that a target has claimed. -/
def IcuState.claims (i : IcuState) (t : Nat) : List Nat :=
  (i.sources.filter fun e => e.2.claimed && e.2.claimant == t).map (·.1)

/-- The effective threshold of a target. -/
def IcuState.effective (i : IcuState) (t : Nat) : Nat :=
  (i.claims t).foldl (fun a n => max a (i.src n).prio) (i.tgt t).threshold

/-- The sources that a target presents (R464), in ascending order. -/
def IcuState.presented (i : IcuState) (t : Nat) : List Nat :=
  (i.sources.filter fun e => e.2.phase == .pending && i.route e.1 == t && i.effective t < e.2.prio).map (·.1)

/-- The best of some sources: the highest PRIO, then the lowest number. -/
def IcuState.bestOf (i : IcuState) (ns : List Nat) : Option Nat :=
  ns.foldl (fun b n =>
    match b with
    | none => some n
    | some k => if (i.src k).prio < (i.src n).prio then some n else some k) none

/-- The hold-off of a group runs (R469). -/
def IcuState.holding (i : IcuState) (g : Nat) : Bool := (i.grp g).holdEnd.isSome

/-- A target changed. -/
def IcuState.setTgt (i : IcuState) (t : Nat) (f : IcuTarget → IcuTarget) : IcuState := { i with targets := i.targets.upd t {} f }

/-- A source changed. -/
def IcuState.setSrc (i : IcuState) (n : Nat) (f : IcuSource → IcuSource) : IcuState := { i with sources := i.sources.upd n {} f }

/-- The hold-off of a source's group runs from now (R469). -/
def IcuState.startHold (i : IcuState) (n now : Nat) : IcuState :=
  let g := srcGroup n
  if (i.grp g).holdoffUs = 0 then i
  else { i with groups := i.groups.upd g {} fun x => { x with holdEnd := some (now + x.holdoffUs * cycUs) } }

/-- The pending sources that wake a sleeping target: those of its own with WAKE 1, and at a core those redirected to it, whatever
WAKE says (R470). A hold-off or a threshold limits notifications alone. -/
def IcuState.waking (i : IcuState) (t : Nat) : List Nat :=
  (i.sources.filter fun e => e.2.phase == .pending && i.route e.1 == t
    && ((e.2.wake && e.2.target == t) || (e.2.redirected && 32 ≤ t))).map (·.1)

/-- The presented sources that may cause a notification: a sleeping core takes none. -/
def IcuState.offered (i : IcuState) (t : Nat) : List Nat := if 32 ≤ t && i.asleep t then [] else i.presented t

/-- The notification of a sleeping MSI-X target (R468, R470): a mask, or MSI-X Enable 0, records it in the pending-bit array;
where neither stands in its way it waits for the wake-up, and so does one that was notified before it fell asleep. -/
def IcuState.evalAsleep (i : IcuState) (t : Nat) : IcuState :=
  let x := i.tgt t
  if x.presenting && !x.heldBack && !x.pba then i.setTgt t fun x => { x with sleptOn := true }
  else
    let free := (i.presented t).any fun n => !i.holding (srcGroup n)
    let kept := x.pba || ((x.masked || i.fnMask || !i.msixEnable) && free)
    i.setTgt t fun x => { x with presenting := true, heldBack := !kept, pba := kept }

/-- One target's delivery re-evaluated (R468 to R470): the controller and what is sent. -/
def IcuState.evalTarget (i : IcuState) (now t : Nat) : IcuState × List OutEvent :=
  let x := i.tgt t
  let ps := i.offered t
  if ps.isEmpty then (i.setTgt t fun x => { x with presenting := false, heldBack := false, pba := false, sleptOn := false }, [])
  else if t < 32 && i.asleep t then (i.evalAsleep t, [])
  else if x.presenting && !x.heldBack && !x.pba && !x.sleptOn then (i, [])
  else
    match i.bestOf (ps.filter fun n => !i.holding (srcGroup n)) with
    | none => (i.setTgt t fun x => { x with presenting := true, heldBack := true, sleptOn := false }, [])
    | some b =>
      ((i.startHold b now).setTgt t fun x => { x with presenting := true, heldBack := false, pba := false, sleptOn := false },
       if t < 32 then [.msix t x.addr x.data] else [])

/-- The management cores that wake: those that sleep while a source which wakes them is pending (R470). -/
def IcuState.wakeCores (i : IcuState) : IcuState :=
  let ks := (List.range' 32 4).filter fun t => i.asleep t && !(i.waking t).isEmpty
  ks.foldl (fun i t => i.setTgt t fun x => { x with sleeping := false }) i

/-- The PM_PME messages of a function in D3hot with PME_En set: one for each pending source that wakes a vector (R470). -/
def IcuState.wakeFunction (i : IcuState) : IcuState × List OutEvent :=
  if !i.d3hot || !i.pmeEn then (i, [])
  else
    let ns := ((List.range 32).flatMap i.waking).filter fun n => !(i.src n).pme
    (ns.foldl (fun i n => i.setSrc n fun x => { x with pme := true }) i, ns.map fun _ => .pme)

/-- Delivery of the first `n` targets re-evaluated: all 36, or the vectors alone while Lanishambe restarts (R535). -/
def IcuState.eval (i : IcuState) (now n : Nat) : IcuState × List OutEvent :=
  let woken := (if 32 < n then i.wakeCores else i).wakeFunction
  (List.range n).foldl (fun acc t => let r := acc.1.evalTarget now t; (r.1, acc.2 ++ r.2)) woken

/-- An edge of source `n`; numbers that the table reserves never become pending (R461). -/
def IcuState.edge (i : IcuState) (n now : Nat) : IcuState := if srcAssigned n then i.setSrc n (·.edge now) else i

/-- A write of 1 to the ICU_PEND_SET bit of source `n`. -/
def IcuState.pend (i : IcuState) (n now : Nat) : IcuState := if srcAssigned n then i.setSrc n (·.pend now) else i

/-- Events raised, in order. -/
def State.raise (s : State) (n : Nat) : State := { s with icu := s.icu.edge n s.now }

/-- Several events raised. -/
def State.raiseAll (s : State) (ns : List Nat) : State := ns.foldl State.raise s

/-- A source raised where a condition holds. -/
def State.raiseIf (s : State) (b : Bool) (n : Nat) : State := if b then s.raise n else s

/-- A DEV_EVENT bit set, with its interrupt source (R57, R461). -/
def State.devEvent (s : State) (b : Nat) : State :=
  let host := { s.host with
    devEvent := s.host.devEvent ||| BitVec.ofNat 32 (2 ^ b), devEventAt := s.host.devEventAt.put b s.now }
  ({ s with host := host } : State).raise (0x30 + b)

/-- The source became pending with an edge of this cycle, which a claim that falls into the cycle leaves for the next one (R11). -/
def IcuSource.justNow (x : IcuSource) (now : Nat) : Bool := x.edgeAt == some now && x.pendSince == now

/-- The best source claimed (R465): the controller and the value of the register. An edge of the claim's own cycle leaves the source
ACTIVE_PENDING (R467). -/
def IcuState.claim (i : IcuState) (t now : Nat) : IcuState × Nat :=
  match i.bestOf ((i.presented t).filter fun n => !(i.src n).justNow now) with
  | none => (i, 0)
  | some n =>
    let p := (i.src n).prio
    (i.setSrc n fun x =>
      let again := x.edgeAt == some now
      { x with
        phase := if again then .activePending else .active, claimant := t, redirected := false
        pendSince := if again then now else x.pendSince, pme := !again && x.pme },
     n + 256 * p + 2 ^ 31)

/-- A completion (R466): the source leaves ACTIVE, or BAD_COMPLETE is set. A target that still presents is notified
again, which `presenting := false` asks of the evaluation (R468). -/
def IcuState.complete (i : IcuState) (t n : Nat) (holds : Bool) (now : Nat) : IcuState :=
  let x := i.src n
  if x.claimed && x.claimant == t then
    (i.setSrc n fun x => x.complete holds now).setTgt t fun y => { y with presenting := false }
  else i.setTgt t fun y => { y with badComplete := true }

/-- The controller after a host-interface reset (R471); `holds` gives the conditions of level sources. -/
def IcuState.hostReset (i : IcuState) (holds : Nat → Bool) (now : Nat) : IcuState :=
  { i with
    sources := i.sources.mapVal fun n x => if x.claimed && x.claimant < 32 then x.complete (holds n) now else x
    targets := i.targets.mapVal fun t x =>
      if t < 32 then { x with threshold := 0, addr := 0, data := 0, masked := true, pba := false, presenting := false, heldBack := false, sleptOn := false } else x
    msixEnable := false
    fnMask := false
    busMaster := false
    d3hot := false
    pmeEn := false }

/-- The condition of a level source: its capture queue holds a record (R155). -/
def State.levelHolds (s : State) (n : Nat) : Bool := isLevel n && !((s.time.captures.getD (n - 0x48) {}).queue.isEmpty)

end Sys2Proof.Machine
end

