-- ==== Sys2Proof/Machine/Queues.lean ====
section
/-!
DEFINITION. Machine/Queues.lean: the queues that the host can inspect, their levels and watermarks (R483 to R489,
R493), and the end of every command: watermarks and interrupt delivery.
-/

namespace Sys2Proof.Machine

/-- Class and capacity of a queue of the table "Queues"; none outside it. -/
def queueClass (q : Nat) : Option (Nat × Nat) :=
  if q ≤ 7 then some (0, 16)
  else if 0x10 ≤ q && q ≤ 0x14 then some (0, 64)
  else if 0x18 ≤ q && q ≤ 0x1C then some (0, 64)
  else if q = 0x20 then some (0, 64)
  else if 0x30 ≤ q && q ≤ 0x3F then some (0, 4)
  else if q = 0x100 then some (1, 4096)
  else if q = 0x200 then some (1, 1048576)
  else if q = 0x300 then some (2, 1048576)
  else none

/-- The level of a queue. The timestamp queues are emptied as their frames complete, so their level between commands
is 0; the input record log holds the records of the frames in flight (DESIGN CHOICE, assumption 20). -/
def State.queueLevel (s : State) (q : Nat) : Nat :=
  if q ≤ 7 then ((s.time.captures.getD q {}).queue).length
  else if q = 0x20 then s.host.held.length
  else if 0x30 ≤ q && q ≤ 0x3F then ((s.ports.dmx.getD (q - 0x30) {}).queue).length
  else if q = 0x100 then s.render.ready.length
  else if q = 0x200 then (s.render.frames.filter fun r => !r.lightDone).length
  else if q = 0x300 then (s.meter.captures.map fun c => (3 * c.taken.length + 7) / 8).sum
  else 0

/-- A queue's record. -/
def State.queue (s : State) (q : Nat) : QueueDyn := s.queues.getD q {}

/-- A level observed: watermark flags, the crossings counted and how many there were (R488). -/
def QueueDyn.observe (d : QueueDyn) (lvl : Nat) : QueueDyn × Nat :=
  let up := d.high != 0 && decide (d.level < d.high) && decide (d.high ≤ lvl)
  let down := d.low != 0 && decide (d.low < d.level) && decide (lvl ≤ d.low)
  ({ d with level := lvl, wmHigh := d.wmHigh || up, wmLow := d.wmLow || down,
            crossings := d.crossings + BitVec.ofNat 32 (b2n up + b2n down) }, b2n up + b2n down)

/-- Every queue with a record observed. -/
def State.watch (s : State) : State :=
  let qs := s.queues.map fun e => (e.1, e.2.observe (s.queueLevel e.1))
  let n := (qs.map (·.2.2)).sum
  ({ s with queues := qs.map fun e => (e.1, e.2.1) } : State).raiseAll (List.replicate n 0xA9)

/-- A queue overflowed (R487). -/
def State.queueOverflow (s : State) (q : Nat) : State := { s with queues := s.queues.upd q { level := s.queueLevel q } fun d => { d with overflow := true } }

/-- What follows every command: watermarks, then interrupt delivery. -/
def State.settle (s : State) : State :=
  let s := s.watch
  let e := s.icu.eval s.now (if s.host.fwRestart then 32 else 36)
  ({ s with icu := e.1 } : State).emitAll e.2

/-- A command: time passes, the command acts, watermarks and interrupts follow. -/
def State.act (s : State) (dt : Nat) (f : State → State) : Host.Outcome State Fault Refusal := .next (f (s.tick dt)).settle

/-- The QUEUE_STATUS response (R493). -/
def State.queueStatus (s : State) (q : Nat) : Bytes :=
  let c := (queueClass q).getD (0, 0)
  let d := s.queue q
  let lvl := s.queueLevel q
  bytesLE 1 c.1
    ++ bytesLE 1 (b2n (lvl == 0) + 2 * b2n d.underrun + 4 * b2n d.overflow + 8 * b2n d.wmHigh + 16 * b2n d.wmLow)
    ++ zeros 2 ++ bytesLE 4 c.2 ++ bytesLE 4 lvl ++ bytesLE 4 d.high ++ bytesLE 4 d.low ++ bytesLE 4 d.crossings.toNat
    ++ bytesLE 4 (if c.1 = 0 then 0 else d.corrected.toNat) ++ bytesLE 4 (if c.1 = 0 then d.resets.toNat else 0)

end Sys2Proof.Machine
end

