-- ==== Sys2Proof/Machine/Audit.lean ====
section
/-!
DEFINITION. Machine/Audit.lean: the audit log (R544, R545).
-/

namespace Sys2Proof.Machine

/-- The records that the log holds. -/
def auditCapacity : Nat := 262144

/-- Records that are not acknowledged (R545). -/
def SecureState.unacked (x : SecureState) : Nat := (x.audit.filter fun e => !x.acked.contains e.1).length

/-- CHAIN of the last record; 16 zero bytes before the first (R544). -/
def SecureState.chain (x : SecureState) : Bytes :=
  match x.audit.getLast? with
  | some e => slice e.2 0x30 16
  | none => zeros 16

/-- An audit record. -/
def auditRecord (seq : Nat) (at_ : Instant) (event session role status : Nat) (detail chain : Bytes) : Bytes :=
  let head := bytesLE 8 seq ++ bytesLE 6 (stampSec at_) ++ bytesLE 4 (stampNs at_) ++ bytesLE 2 event ++ bytesLE 4 session
    ++ bytesLE 1 role ++ zeros 1 ++ bytesLE 2 status ++ padTo 20 detail
  head ++ (sha384 (chain ++ head)).take 16

/-- The records reserved beyond the capacity (R545). -/
def auditReserve : Nat := 256

/-- The log without the record that a new one replaces, where it is full: the oldest acknowledged one, else, under POLICY 0, the
oldest, counted in OVERWRITTEN. Under POLICY 1 the record goes into the reserve; once that is full too, which the spec leaves open, it
replaces the oldest uncounted (R545; DESIGN CHOICE, assumption 101). -/
def SecureState.makeRoom (x : SecureState) : SecureState :=
  if x.audit.length < auditCapacity then x
  else match x.audit.find? fun e => x.acked.contains e.1 with
    | some e => { x with audit := x.audit.del e.1, acked := x.acked.filter (· != e.1) }
    | none =>
      if x.policy = 0 then { x with audit := x.audit.drop 1, overwritten := x.overwritten + 1 }
      else if x.audit.length < auditCapacity + auditReserve then x else { x with audit := x.audit.drop 1 }

/-- A record appended (R544); AUDIT_HIGH is raised when the unacknowledged records reach 196,608. -/
def State.audit (s : State) (event session role status : Nat) (detail : Bytes) : State :=
  let x := s.secure.makeRoom
  let r := auditRecord x.auditNext s.stamp event session role status detail x.chain
  let x' := { x with audit := x.audit.put x.auditNext r, auditNext := x.auditNext + 1 }
  let s' := { s with secure := x' }
  if x.unacked < 196608 && 196608 ≤ x'.unacked then s'.raise 0xC4 else s'

/-- Under POLICY 1 a full log refuses every audited command (R545). -/
def State.auditFull (s : State) : Bool := s.secure.policy == 1 && auditCapacity ≤ s.secure.unacked

end Sys2Proof.Machine
end

