-- ==== Sys2Proof/Machine/Command.lean ====
section
/-!
DEFINITION. Machine/Command.lean: how a mailbox request is checked and completed, and how final completions are
delivered (R61 to R71, R77, R78, R92 to R94).
-/

namespace Sys2Proof.Machine

/-! ### Status codes -/

/-- The number of a status (table "Status codes"). -/
def Status.code : Status → Nat
  | .ok => 0x0000
  | .accepted => 0x0001
  | .badCommand => 0x0100
  | .badLength => 0x0101
  | .badArgument => 0x0102
  | .outOfRange => 0x0103
  | .notPermitted => 0x0200
  | .notAuthenticated => 0x0201
  | .busy => 0x0300
  | .late => 0x0301
  | .conflict => 0x0302
  | .noResource => 0x0400
  | .alreadyComplete => 0x0500
  | .aborted => 0x0501
  | .integrity => 0x0600
  | .degraded => 0x0700
  | .internal => 0x0F00

/-! ### Requests -/

/-- A request being executed: mailbox, header fields, role of its session, doorbell position and payload; `reserved` holds the
header's reserved words at 0x12 and 0x1E, `busy` says that a write of the transaction executed when a TXN_COMMIT was taken, and `dup`
that its TAG was in use. -/
structure Ctx where
  m : Nat
  code : Nat
  flags : Nat
  tag : Nat
  session : Nat
  length : Nat
  reserved : Nat
  role : Nat
  db : Pos
  payload : Bytes
  busy : Bool := false
  dup : Bool := false
  deriving DecidableEq, Repr

def Ctx.irq (c : Ctx) : Bool := bit c.flags 0
def Ctx.inTxn (c : Ctx) : Bool := bit c.flags 1
def Ctx.inSnap (c : Ctx) : Bool := bit c.flags 2
def Ctx.slot (c : Ctx) : Nat := bits c.flags 4 4
def Ctx.gen (c : Ctx) : Nat := bits c.flags 8 8

/-- The request that a mailbox's copied bytes hold (R61), with the role of its session. -/
def ctxOf (m : Nat) (req : Bytes) (db : Pos) (role : Nat) : Ctx :=
  let len := fld req 0x0C 4
  { m := m, code := fld req 0 2, flags := fld req 2 2, tag := fld req 4 4, session := fld req 8 4, length := len
    reserved := fld req 0x12 2 + 65536 * fld req 0x1E 2, role := role, db := db, payload := (req.drop 32).take (min len 4064) }

/-- The request that is in execution. -/
def ExecReq.ctx (e : ExecReq) : Ctx := { ctxOf e.mbx e.req e.dbPos e.role with busy := e.busy, dup := e.dup }

/-- What a command answers: its status, response payload, and the completion position where its rule names another
instant than the end of its execution (R62). -/
structure Reply where
  status : Status
  resp : Bytes := []
  pos : Option Pos := none
  deriving DecidableEq, Repr

/-- How a command stands to show state (R70). -/
inductive CmdKind where
  /-- Writes show state: carries IN_TXN. -/
  | show_
  /-- Writes device state, or belongs to group 0x01: carries neither flag. -/
  | device
  /-- Reads: carries IN_TXN or IN_SNAP or neither. -/
  | read
  deriving DecidableEq, Repr

/-- What a command's row and its tables say of it. `lengthOk` is check 2 of R69, `roleOk` check 4, `argOk` the reserved
fields of check 5, `rangeOk` check 6, and `body` the checks of the command and its effect. -/
structure CommandSpec where
  code : Nat
  kind : CmdKind
  lengthOk : Bytes → Bool
  roleOk : Ctx → State → Bool
  argOk : Ctx → State → Bool := fun _ _ => true
  rangeOk : Ctx → State → Bool := fun _ _ => true
  body : Ctx → State → State × Reply

/-! ### Roles (R71) -/

/-- Roles as a list of role numbers. -/
def roles (l : List Nat) (c : Ctx) (_ : State) : Bool := l.contains c.role

/-- ENGINEER alone; OPERATOR and ENGINEER; every role; ENGINEER and SECURITY_OFFICER; SECURITY_OFFICER alone. -/
def engineer : Ctx → State → Bool := roles [2]
def operator : Ctx → State → Bool := roles [1, 2]
def anyRole : Ctx → State → Bool := roles [0, 1, 2, 3]
def diagRead : Ctx → State → Bool := roles [2, 3]
def officer : Ctx → State → Bool := roles [3]

/-! ### Views (R77, R78, R85) -/

/-- The view of a transaction: its base epoch with its own staged writes. -/
def TxnSlot.view (t : TxnSlot) : ShowState := applyWrites t.baseView t.writes

/-- The transaction that a request names, where it is one of its session. -/
def State.txnOf (s : State) (c : Ctx) : Option TxnSlot :=
  (s.txn.slots.find c.slot).bind fun t => if t.gen = c.gen && t.session = c.session then some t else none

/-- The snapshot that a request names. -/
def State.snapOf (s : State) (c : Ctx) : Option SnapSlot :=
  (s.txn.snaps.find c.slot).bind fun t => if t.gen = c.gen && t.session = c.session then some t else none

/-- The show state of a retained epoch. -/
def TxnState.viewOf (t : TxnState) (cur epoch : Nat) : Option ShowState :=
  if epoch = cur then some t.view else (t.epochs.find? (·.epoch == epoch)).map (·.view)

/-- What a read command reads; none for a released snapshot. -/
def State.readView (s : State) (c : Ctx) : Option ShowState :=
  if c.inTxn then (s.txnOf c).map (·.view)
  else if c.inSnap then
    (s.snapOf c).bind fun n => if n.released then none else s.txn.viewOf s.host.devEpoch n.epoch
  else some s.txn.view

/-! ### The request checks (R69, R70) -/

/-- FLAGS, SLOT and GEN suit the command (R70). -/
def flagsOk (k : CmdKind) (c : Ctx) (s : State) : Bool :=
  !bit c.flags 3 &&
    match k with
    | .show_ => c.inTxn && !c.inSnap && (s.txnOf c).isSome
    | .device => !c.inTxn && !c.inSnap && c.slot == 0 && c.gen == 0
    | .read =>
      if c.inTxn && c.inSnap then false
      else if c.inTxn then (s.txnOf c).isSome
      else if c.inSnap then (s.snapOf c).isSome
      else c.slot == 0 && c.gen == 0

/-- TAG is the tag of an outstanding operation of the session: one that is ACCEPTED, or that a mailbox executes (DEDUCED,
assumption 5). -/
def State.tagTaken (s : State) (c : Ctx) : Bool :=
  s.host.ops.any (fun o => o.session == c.session && o.tag == c.tag)
    || s.host.execs.any fun e => fld e.req 8 4 == c.session && fld e.req 4 4 == c.tag

/-- The first failing check of R69 from check 2 on; SESSION_OPEN (0x0101) skips checks 3 and 4, and names no session whose tags could be
in use. Session, role and TAG are those found when the mailbox was taken (R64). -/
def CommandSpec.firstFail (p : CommandSpec) (c : Ctx) (s : State) : Option Status :=
  let opens := p.code == 0x0101
  if 4064 < c.length || !p.lengthOk c.payload then some .badLength
  else if !opens && c.role == 0xFF then some .notAuthenticated
  else if !opens && !p.roleOk c s then some .notPermitted
  else if c.reserved != 0 || !p.argOk c s || !flagsOk p.kind c s || (!opens && c.dup) || (opens && c.session != 0) then some .badArgument
  else if !p.rangeOk c s then some .outOfRange
  else none

/-- A read that names a snapshot which the limit of R85 has released. -/
def State.readsReleased (s : State) (p : CommandSpec) (c : Ctx) : Bool :=
  p.kind == .read && c.inSnap && (s.snapOf c).elim false (·.released)

/-- The command executed: the generic checks, then its own. A request that fails a check changes no state; one that
reads a released snapshot completes with ABORTED (R85), one that reads a poisoned word with INTEGRITY (R479). -/
def CommandSpec.execute (p : CommandSpec) (c : Ctx) (poison : Bool) (s : State) : State × Reply :=
  match p.firstFail c s with
  | some st => (s, ⟨st, [], none⟩)
  | none =>
    if s.readsReleased p c then (s, ⟨.aborted, [], none⟩)
    else if poison then (s, ⟨.integrity, [], none⟩) else p.body c s

/-! ### Completion in the mailbox (R62, R64, R68) -/

/-- A 32-byte header with STATUS and POSITION written (R61). -/
def headerBytes (code flags tag session len : Nat) (st : Status) (pos : Pos) : Bytes :=
  bytesLE 2 code ++ bytesLE 2 flags ++ bytesLE 4 tag ++ bytesLE 4 session ++ bytesLE 4 len ++ bytesLE 2 st.code ++ zeros 2
    ++ posBytes pos ++ zeros 2

/-- A tag completed in its session, which remembers the last 256 (R86). -/
def State.noteDone (s : State) (session tag : Nat) : State :=
  match s.host.sessions.find session with
  | none => s
  | some x =>
    { s with host := { s.host with sessions := s.host.sessions.put session { x with doneTags := (tag :: x.doneTags).take 256 } } }

/-- The control block of a mailbox. -/
def State.mbx (s : State) (m : Nat) : Mailbox := s.host.mbx.getD m {}

/-- A mailbox's control block changed. -/
def State.setMbx (s : State) (m : Nat) (b : Mailbox) : State := { s with host := { s.host with mbx := s.host.mbx.put m b } }

/-- The response written, MBX_DONE.DONE set and the interrupt raised (R64, R68). A request whose mailbox a
host-interface reset took away writes nothing (R52). -/
def State.finish (s : State) (c : Ctx) (orphan : Bool) (r : Reply) : State :=
  let s := if r.status = .accepted then s else s.noteDone c.session c.tag
  if orphan then s
  else
    let hdr := headerBytes c.code c.flags c.tag c.session r.resp.length r.status (r.pos.getD s.pos)
    let s := s.writeRegion (c.m * 0x1000) (hdr ++ r.resp)
    let s := s.setMbx c.m { s.mbx c.m with phase := .done, doneAt := some s.now, tag := BitVec.ofNat 32 c.tag }
    if c.irq then s.raise c.m else s

/-- The oldest executing request of mailbox `m` whose command is `code`. -/
def HostState.execOf (h : HostState) (m code : Nat) : Option ExecReq :=
  h.execs.find? fun e => e.mbx == m && fld e.req 0 2 == code

/-- An executing request is over. -/
def HostState.dropExec (h : HostState) (e : ExecReq) : HostState := { h with execs := h.execs.erase e }

/-- A request executed and completed. -/
def State.runExec (s : State) (p : CommandSpec) (e : ExecReq) : State :=
  let c := e.ctx
  let s := { s with host := s.host.dropExec e }
  let r := p.execute c e.poison s
  r.1.finish c e.orphan r.2

/-- The command row of `p`: the executing request of mailbox `m` that carries its code ends its execution. Where no
such request executes, the command does nothing (R16). -/
def State.runMbx (s : State) (p : CommandSpec) (m : Nat) : State :=
  if !s.host.mbxReady then s
  else match s.host.execOf m p.code with
    | some e => s.runExec p e
    | none => s

/-! ### Ring 0 and final completions (R92 to R94) -/

/-- A ring. -/
def State.ring (s : State) (r : Nat) : Ring := s.host.rings.getD r {}

/-- A ring changed. -/
def State.setRing (s : State) (r : Nat) (x : Ring) : State := { s with host := { s.host with rings := s.host.rings.put r x } }

/-- A ring is ENABLED. -/
def Ring.on (r : Ring) : Bool := r.phase == .enabled

/-- Entries that the device may still write to a device-to-host ring. -/
def Ring.free (r : Ring) : Nat := 2 ^ r.cfg.log2 - (r.devIdx - r.hostIdx).toNat

/-- The host address of the entry at the device index. -/
def Ring.entryAddr (r : Ring) (size : Nat) : Nat := r.base.toNat + r.devIdx.toNat % 2 ^ r.cfg.log2 * size

/-- A completion record of 128 bytes (R92). -/
def Completion.bytes (x : Completion) : Bytes :=
  headerBytes x.command x.flags x.tag x.session x.resp.length x.status x.pos ++ padTo 96 x.resp

/-- A completion record written to ring 0. -/
def State.writeCompletion (s : State) (x : Completion) : State :=
  let r := s.ring 0
  let s := (s.emit (.hostWrite (r.entryAddr 128) x.bytes)).setRing 0 { r with devIdx := r.devIdx + 1 }
  if bit x.flags 0 && r.cfg.irq then s.raise 0x10 else s

/-- A final completion delivered, or held (R93, R94). -/
def State.deliver (s : State) (x : Completion) : State :=
  if (s.ring 0).on && 0 < (s.ring 0).free && s.host.held.isEmpty then s.writeCompletion x
  else ({ s with host := { s.host with held := s.host.held ++ [x] } } : State).devEvent 3

/-- The operation of an id and command. -/
def State.op (s : State) (id code : Nat) : Option Op := s.host.ops.find? fun o => o.id == id && o.command == code

/-- An operation ends: its one final completion (R67, R92). -/
def State.endOp (s : State) (o : Op) (st : Status) (pos : Pos) (resp : Bytes) : State :=
  let s := { s with host := { s.host with ops := s.host.ops.filter (·.id != o.id) } }
  (s.noteDone o.session o.tag).deliver ⟨o.command, o.flags, o.tag, o.session, st, pos, resp⟩

/-- The operation of an id ends, where it exists. -/
def State.endOpId (s : State) (id : Nat) (st : Status) (pos : Pos) (resp : Bytes) : State :=
  match s.host.ops.find? (·.id == id) with
  | some o => s.endOp o st pos resp
  | none => s

/-- The conditions under which a command may answer ACCEPTED (R91, R93, R94). A commit that its coordinator has not answered yet counts
as an operation. -/
def State.acceptFail (s : State) : Option Status :=
  if !(s.ring 0).on then some .noResource
  else if !s.host.held.isEmpty || 64 ≤ s.host.ops.length + s.group.asked.length then some .busy
  else none

/-- A command answers ACCEPTED: `k` gets the id of the new operation. -/
def State.accept (s : State) (c : Ctx) (kind : OpKind) (resp : Bytes) (k : Nat → State → State) : State × Reply :=
  match s.acceptFail with
  | some st => (s, ⟨st, [], none⟩)
  | none =>
    let id := s.host.nextOp
    let o : Op := { id := id, command := c.code, flags := c.flags, tag := c.tag, session := c.session, kind := kind }
    (k id { s with host := { s.host with ops := s.host.ops ++ [o], nextOp := id + 1 } }, ⟨.accepted, resp, none⟩)

/-! ### Short forms of replies -/

/-- A refusal that changes nothing. -/
def State.fail (s : State) (st : Status) : State × Reply := (s, ⟨st, [], none⟩)

/-- OK with a response. -/
def State.okWith (s : State) (resp : Bytes) : State × Reply := (s, ⟨.ok, resp, none⟩)

/-- OK without a response. -/
def State.ok (s : State) : State × Reply := (s, ⟨.ok, [], none⟩)

/-! ### Lengths -/

/-- No payload; a fixed length; a head and `size` bytes for each of the number of records at `off`, 4 bytes. -/
def lenNone (p : Bytes) : Bool := p.isEmpty
def lenIs (n : Nat) (p : Bytes) : Bool := p.length == n
def lenRecs (head size off : Nat) (p : Bytes) : Bool := head ≤ p.length && p.length == head + size * fld p off 4

/-! ### Sessions that end (R52, R74) -/

/-- A session ends: its open transactions are discarded, its snapshots released, and the end is audited with its
cause: 0 closed, 1 timeout, 2 restart, 3 host reset (R544). -/
def State.endSession (s : State) (id cause : Nat) : State :=
  match s.host.sessions.find id with
  | none => s
  | some x =>
    let s := { s with
      host := { s.host with sessions := s.host.sessions.del id }
      txn := { s.txn with
        slots := s.txn.slots.filter fun e => !(e.2.session == id && e.2.commit.isNone)
        snaps := s.txn.snaps.filter fun e => e.2.session != id } }
    s.audit 0x0003 id x.role 0 [BitVec.ofNat 8 cause]

/-- Every session ends. -/
def State.endAllSessions (s : State) (cause : Nat) : State := s.host.sessions.foldl (fun s e => s.endSession e.1 cause) s

end Sys2Proof.Machine
end

