-- ==== Sys2Proof/Machine/Aes.lean ====
section
/-!
DEFINITION. Machine/Aes.lean: AES-256 (FIPS 197), AES-256-GCM (NIST SP 800-38D) and AES key unwrap (RFC 3394), which R397, R398 and R547
name. The standards stand outside the spec; their text is PRESUMED (assumption 43).
-/

namespace Sys2Proof.Machine

/-! ### The field and the S-box -/

/-- A byte times x in GF(2^8). -/
def aesX (a : Nat) : Nat := if a < 128 then 2 * a else (2 * a - 256) ^^^ 0x1B

/-- A product in GF(2^8), by the `n` low bits of the second factor. -/
def aesMul : Nat → Nat → Nat → Nat
  | 0, _, _ => 0
  | n + 1, a, b => (if b % 2 = 1 then a else 0) ^^^ aesMul n (aesX a) (b / 2)

/-- The S-box of FIPS 197, part 0. -/
def aesS0 : List Nat :=
  [0x63, 0x7c, 0x77, 0x7b, 0xf2, 0x6b, 0x6f, 0xc5, 0x30, 0x01, 0x67, 0x2b, 0xfe, 0xd7, 0xab, 0x76,
   0xca, 0x82, 0xc9, 0x7d, 0xfa, 0x59, 0x47, 0xf0, 0xad, 0xd4, 0xa2, 0xaf, 0x9c, 0xa4, 0x72, 0xc0,
   0xb7, 0xfd, 0x93, 0x26, 0x36, 0x3f, 0xf7, 0xcc, 0x34, 0xa5, 0xe5, 0xf1, 0x71, 0xd8, 0x31, 0x15,
   0x04, 0xc7, 0x23, 0xc3, 0x18, 0x96, 0x05, 0x9a, 0x07, 0x12, 0x80, 0xe2, 0xeb, 0x27, 0xb2, 0x75]

/-- The S-box of FIPS 197, part 1. -/
def aesS1 : List Nat :=
  [0x09, 0x83, 0x2c, 0x1a, 0x1b, 0x6e, 0x5a, 0xa0, 0x52, 0x3b, 0xd6, 0xb3, 0x29, 0xe3, 0x2f, 0x84,
   0x53, 0xd1, 0x00, 0xed, 0x20, 0xfc, 0xb1, 0x5b, 0x6a, 0xcb, 0xbe, 0x39, 0x4a, 0x4c, 0x58, 0xcf,
   0xd0, 0xef, 0xaa, 0xfb, 0x43, 0x4d, 0x33, 0x85, 0x45, 0xf9, 0x02, 0x7f, 0x50, 0x3c, 0x9f, 0xa8,
   0x51, 0xa3, 0x40, 0x8f, 0x92, 0x9d, 0x38, 0xf5, 0xbc, 0xb6, 0xda, 0x21, 0x10, 0xff, 0xf3, 0xd2]

/-- The S-box of FIPS 197, part 2. -/
def aesS2 : List Nat :=
  [0xcd, 0x0c, 0x13, 0xec, 0x5f, 0x97, 0x44, 0x17, 0xc4, 0xa7, 0x7e, 0x3d, 0x64, 0x5d, 0x19, 0x73,
   0x60, 0x81, 0x4f, 0xdc, 0x22, 0x2a, 0x90, 0x88, 0x46, 0xee, 0xb8, 0x14, 0xde, 0x5e, 0x0b, 0xdb,
   0xe0, 0x32, 0x3a, 0x0a, 0x49, 0x06, 0x24, 0x5c, 0xc2, 0xd3, 0xac, 0x62, 0x91, 0x95, 0xe4, 0x79,
   0xe7, 0xc8, 0x37, 0x6d, 0x8d, 0xd5, 0x4e, 0xa9, 0x6c, 0x56, 0xf4, 0xea, 0x65, 0x7a, 0xae, 0x08]

/-- The S-box of FIPS 197, part 3. -/
def aesS3 : List Nat :=
  [0xba, 0x78, 0x25, 0x2e, 0x1c, 0xa6, 0xb4, 0xc6, 0xe8, 0xdd, 0x74, 0x1f, 0x4b, 0xbd, 0x8b, 0x8a,
   0x70, 0x3e, 0xb5, 0x66, 0x48, 0x03, 0xf6, 0x0e, 0x61, 0x35, 0x57, 0xb9, 0x86, 0xc1, 0x1d, 0x9e,
   0xe1, 0xf8, 0x98, 0x11, 0x69, 0xd9, 0x8e, 0x94, 0x9b, 0x1e, 0x87, 0xe9, 0xce, 0x55, 0x28, 0xdf,
   0x8c, 0xa1, 0x89, 0x0d, 0xbf, 0xe6, 0x42, 0x68, 0x41, 0x99, 0x2d, 0x0f, 0xb0, 0x54, 0xbb, 0x16]

/-- The S-box. -/
def aesSbox : List Nat := aesS0 ++ aesS1 ++ aesS2 ++ aesS3

/-- A byte through the S-box, and back. -/
def aesSub (a : Nat) : Nat := aesSbox.getD a 0
def aesUnsub (a : Nat) : Nat := aesSbox.idxOf a

/-! ### Keys -/

/-- The bytes of two words added. -/
def xorL (a b : List Nat) : List Nat := (a.zip b).map fun e => e.1 ^^^ e.2

/-- The next words of the key schedule, newest first: `n` of them from word `i` on. -/
def aesExpand : Nat → Nat → Nat → List (List Nat) → List (List Nat)
  | 0, _, _, ws => ws
  | n + 1, i, rcon, ws =>
    let t := ws.headD []
    let turn := i % 8 == 0
    let t := if turn then (t.drop 1 ++ t.take 1).map aesSub else if i % 8 = 4 then t.map aesSub else t
    let t := if turn then xorL t [rcon, 0, 0, 0] else t
    aesExpand n (i + 1) (if turn then aesX rcon else rcon) (xorL (ws.getD 7 []) t :: ws)

/-- The sixteen bytes of a list, as words or round keys of `n` bytes. -/
def chopL (n : Nat) : Nat → List Nat → List (List Nat)
  | 0, _ => []
  | k + 1, l => l.take n :: chopL n k (l.drop n)

/-- The fifteen round keys of a 256-bit key. -/
def aesKeys (key : Bytes) : List (List Nat) :=
  chopL 16 15 (aesExpand 52 8 1 (chopL 4 8 ((padTo 32 key).map (·.toNat))).reverse).reverse.flatten

/-! ### Blocks: sixteen bytes, column by column -/

/-- Row `r` turns by `r` columns to the left, or to the right. -/
def aesShift (st : List Nat) : List Nat := (List.range 16).map fun i => st.getD ((i + 4 * (i % 4)) % 16) 0
def aesUnshift (st : List Nat) : List Nat := (List.range 16).map fun i => st.getD ((i + 12 * (i % 4)) % 16) 0

/-- Each column times the circulant matrix with the first row `m`. -/
def aesMix (m st : List Nat) : List Nat :=
  (chopL 4 4 st).flatMap fun c => (List.range 4).map fun r =>
    ((List.range 4).map fun k => aesMul 4 (c.getD k 0) (m.getD ((k + 4 - r) % 4) 0)).foldl (· ^^^ ·) 0

/-- A round of encryption, and one of decryption. -/
def aesRound (st key : List Nat) : List Nat := xorL (aesMix [2, 3, 1, 1] (aesShift (st.map aesSub))) key
def aesUnround (st key : List Nat) : List Nat := aesMix [14, 11, 13, 9] (xorL ((aesUnshift st).map aesUnsub) key)

/-- A block encrypted under its round keys. -/
def aesEncrypt (ks : List (List Nat)) (st : List Nat) : List Nat :=
  let s := ((ks.drop 1).take 13).foldl aesRound (xorL st (ks.getD 0 []))
  xorL (aesShift (s.map aesSub)) (ks.getD 14 [])

/-- A block decrypted. -/
def aesDecrypt (ks : List (List Nat)) (st : List Nat) : List Nat :=
  let s := ((ks.drop 1).take 13).reverse.foldl aesUnround (xorL st (ks.getD 14 []))
  xorL ((aesUnshift s).map aesUnsub) (ks.getD 0 [])

/-- A string of bytes as numbers, and back. -/
def natsOf (bs : Bytes) : List Nat := bs.map (·.toNat)
def bytesOf (l : List Nat) : Bytes := l.map (BitVec.ofNat 8)

/-! ### Galois/Counter Mode -/

/-- The product of GHASH, by the `n` high bits of `x`. -/
def ghashMul : Nat → Nat → Nat → Nat → Nat
  | 0, _, _, z => z
  | n + 1, x, v, z =>
    ghashMul n (2 * x % 2 ^ 128) (if v % 2 = 1 then v / 2 ^^^ (0xE1 <<< 120) else v / 2) (if x < 2 ^ 127 then z else z ^^^ v)

/-- A string padded with zeros to whole blocks. -/
def padBlocks (bs : Bytes) : Bytes := padTo ((bs.length + 15) / 16 * 16) bs

/-- GHASH of a whole number of blocks. -/
def ghash (h : Nat) (bs : Bytes) : Nat :=
  (records 16 (bs.length / 16) bs).foldl (fun y b => ghashMul 128 (y ^^^ beNat b) h 0) 0

/-- The key stream of `n` blocks from counter `ctr` on. -/
def gcmStream (ks : List (List Nat)) (iv : Bytes) : Nat → Nat → Bytes
  | 0, _ => []
  | n + 1, ctr => bytesOf (aesEncrypt ks (natsOf (iv ++ bytesBE 4 ctr))) ++ gcmStream ks iv n (ctr + 1)

/-- The text under the key stream. -/
def gcmText (ks : List (List Nat)) (iv bs : Bytes) : Bytes :=
  (bs.zip (gcmStream ks iv ((bs.length + 15) / 16) 2)).map fun e => e.1 ^^^ e.2

/-- The tag of a ciphertext with its additional data. -/
def gcmTag (ks : List (List Nat)) (iv aad ct : Bytes) : Bytes :=
  let h := beNat (bytesOf (aesEncrypt ks (List.replicate 16 0)))
  let s := ghash h (padBlocks aad ++ padBlocks ct ++ bytesBE 8 (8 * aad.length) ++ bytesBE 8 (8 * ct.length))
  ((bytesBE 16 s).zip (gcmStream ks iv 1 1)).map fun e => e.1 ^^^ e.2

/-- AES-256-GCM: key, 12-byte IV, additional data and plaintext to ciphertext with the 16-byte tag. -/
def gcmSeal (key iv aad pt : Bytes) : Bytes :=
  let ks := aesKeys key
  let ct := gcmText ks iv pt
  ct ++ gcmTag ks iv aad ct

/-- The plaintext, or nothing where the tag does not match. -/
def gcmOpen (key iv aad body : Bytes) : Option Bytes :=
  let ks := aesKeys key
  let ct := body.take (body.length - 16)
  if 16 ≤ body.length && gcmTag ks iv aad ct == body.drop (body.length - 16) then some (gcmText ks iv ct) else none

/-! ### Key unwrap -/

/-- The steps of the unwrapping, from step `t` down to 1: A and the `n` semiblocks, of which step `t` takes the last and brings it to the
front. -/
def unwrapSteps (ks : List (List Nat)) : Nat → Bytes → List Bytes → Bytes × List Bytes
  | 0, a, rs => (a, rs)
  | t + 1, a, rs =>
    let x := bytesBE 8 (beNat a ^^^ (t + 1))
    let b := bytesOf (aesDecrypt ks (natsOf (x ++ rs.getLastD [])))
    unwrapSteps ks t (b.take 8) (b.drop 8 :: rs.dropLast)

/-- AES key unwrap: key-encryption key and wrapped key; nothing where the integrity check fails. -/
def keyUnwrap (kek wrapped : Bytes) : Option Bytes :=
  let n := wrapped.length / 8 - 1
  let r := unwrapSteps (aesKeys kek) (6 * n) (wrapped.take 8) (records 8 n (wrapped.drop 8))
  if r.1 == List.replicate 8 0xA6 then some r.2.flatten else none

end Sys2Proof.Machine
end

