-- ==== Sys2Proof/Machine/Net.lean ====
section
/-!
DEFINITION. Machine/Net.lean: frames of the Ethernet ports as bytes, and what a port does with them (R379 to
R400). The layouts of Ethernet, IP, UDP, ANSI E1.31 and IEEE 802.1AE frames are those of the standards that
the spec names (PRESUMED, assumption 43).
-/

namespace Sys2Proof.Machine

/-! ### Checksums (R387) -/

/-- Sum of the 16-bit big-endian words of a byte string. -/
def wordSum : Bytes → Nat
  | a :: b :: bs => a.toNat * 256 + b.toNat + wordSum bs
  | [a] => a.toNat * 256
  | [] => 0

/-- Fold the carries of a ones' complement sum. -/
def foldSum (n : Nat) : Nat := let m := n / 65536 + n % 65536; m / 65536 + m % 65536

/-- The Internet checksum of a byte string. -/
def inetSum (bs : Bytes) : Nat := 65535 - foldSum (wordSum bs)

/-- Bytes written into a byte string from an offset on. -/
def patchBytes (bs : Bytes) (off : Nat) (new : Bytes) : Bytes := bs.take off ++ new ++ bs.drop (off + new.length)

/-! ### The parser (R387) -/

/-- The big-endian 16-bit field at an offset. -/
def be16 (bs : Bytes) (off : Nat) : Nat := beNat (slice bs off 2)

/-- VLAN tags at the front of a frame: one, or two with 0x88A8 outer and 0x8100 inner (R379). -/
def vlanTags (bs : Bytes) : Nat :=
  if be16 bs 12 = 0x88A8 then (if be16 bs 16 = 0x8100 then 2 else 1) else if be16 bs 12 = 0x8100 then 1 else 0

/-- The EtherType after the tags. -/
def etherType (bs : Bytes) : Nat := be16 bs (12 + 4 * vlanTags bs)

/-- What the parser finds: IP version, the offsets of the IP and the transport header, the protocol, and
whether the packet is a fragment. -/
structure Parsed where
  v6 : Bool
  ipOff : Nat
  l4Off : Nat
  proto : Nat
  fragment : Bool
  deriving DecidableEq, Repr

/-- The IPv6 extension headers that are recognised, up to 128 B in total. -/
def skipExt (bs : Bytes) (start : Nat) : Nat → Nat → Nat → Option (Nat × Nat)
  | 0, off, next => if off - start ≤ 128 then some (off, next) else none
  | fuel + 1, off, next =>
    if next = 0 || next = 43 || next = 60 then
      skipExt bs start fuel (off + 8 * ((slice bs (off + 1) 1).foldl (fun _ b => b.toNat) 0 + 1))
        ((slice bs off 1).foldl (fun _ b => b.toNat) 0)
    else if off - start ≤ 128 then some (off, next) else none

/-- The parse of a frame; none where the headers are not recognised. -/
def parseFrame (bs : Bytes) : Option Parsed :=
  let ip := 14 + 4 * vlanTags bs
  let b0 := (beNat (slice bs ip 1))
  if etherType bs = 0x0800 && b0 / 16 = 4 && 5 ≤ b0 % 16 && ip + 20 ≤ bs.length then
    some ⟨false, ip, ip + 4 * (b0 % 16), beNat (slice bs (ip + 9) 1), be16 bs (ip + 6) % 16384 != 0⟩
  else if etherType bs = 0x86DD && b0 / 16 = 6 && ip + 40 ≤ bs.length then
    match skipExt bs (ip + 40) 16 (ip + 40) (beNat (slice bs (ip + 6) 1)) with
    | some (off, next) => some ⟨true, ip, off, next, next == 44⟩
    | none => none
  else none

/-- The pseudo-header sum of a transport segment of `len` bytes. -/
def pseudoSum (bs : Bytes) (p : Parsed) (len : Nat) : Nat :=
  (if p.v6 then wordSum (slice bs (p.ipOff + 8) 32) else wordSum (slice bs (p.ipOff + 12) 8)) + p.proto + len

/-- Bytes of the transport segment, by the IP header's length. -/
def l4Len (bs : Bytes) (p : Parsed) : Nat :=
  if p.v6 then be16 bs (p.ipOff + 4) + 40 + p.ipOff - p.l4Off else be16 bs (p.ipOff + 2) + p.ipOff - p.l4Off

/-- The offset of the checksum in a transport header: UDP or TCP. -/
def l4SumOff (p : Parsed) : Option Nat := if p.proto = 17 then some 6 else if p.proto = 6 then some 16 else none

/-- The transport checksum of a segment whose checksum field is zero; UDP sends 0x0000 as 0xFFFF (R387). -/
def l4Sum (bs : Bytes) (p : Parsed) : Nat :=
  let s := 65535 - foldSum (foldSum (wordSum (slice bs p.l4Off (l4Len bs p)) + pseudoSum bs p (l4Len bs p)))
  if p.proto = 17 && s == 0 then 65535 else s

/-- Checksums inserted into a transmitted frame, and whether one that was asked for is skipped (R387). A fragment gets none. -/
def insertSums (bs : Bytes) (ip4 l4 : Bool) : Bytes × Bool :=
  match parseFrame bs with
  | none => (bs, ip4 || l4)
  | some p =>
    let doIp := ip4 && !p.v6 && !p.fragment
    let bs := if doIp then
        let z := patchBytes bs (p.ipOff + 10) [0, 0]
        patchBytes z (p.ipOff + 10) (bytesBE 2 (inetSum (slice z p.ipOff (p.l4Off - p.ipOff))))
      else bs
    match l4SumOff p with
    | some o =>
      if l4 && !p.fragment then
        let z := patchBytes bs (p.l4Off + o) [0, 0]
        (patchBytes z (p.l4Off + o) (bytesBE 2 (l4Sum z p)), ip4 && !doIp)
      else (bs, (ip4 && !doIp) || l4)
    | none => (bs, (ip4 && !doIp) || l4)

/-- The checksum bits of RX_STATUS, [7] to [10], of a received frame (R387). -/
def rxSums (bs : Bytes) : Nat :=
  match parseFrame bs with
  | none => 0
  | some p =>
    let ip := if p.v6 || p.fragment then 0
      else 128 + (if foldSum (wordSum (slice bs p.ipOff (p.l4Off - p.ipOff))) = 65535 then 0 else 256)
    match l4SumOff p with
    | some o =>
      if p.fragment then ip
      else
        let zero := be16 bs (p.l4Off + o) == 0
        let bad := if p.proto = 17 && zero then p.v6
          else foldSum (foldSum (wordSum (slice bs p.l4Off (l4Len bs p)) + pseudoSum bs p (l4Len bs p))) != 65535
        ip + 512 + (if bad then 1024 else 0)
    | none => ip

/-! ### sACN packets (R392) -/

/-- Flags and length of an E1.31 layer of `n` bytes. -/
def pduLen (n : Nat) : Bytes := bytesBE 2 (0x7000 + n)

/-- "ASC-E1.17", padded. -/
def acnId : Bytes := [0x41, 0x53, 0x43, 0x2D, 0x45, 0x31, 0x2E, 0x31, 0x37, 0, 0, 0]

/-- The E1.31 root layer over `body`. -/
def e131Root (cid vector : Nat) (body : Bytes) : Bytes :=
  bytesBE 2 0x0010 ++ bytesBE 2 0 ++ acnId ++ pduLen (22 + body.length) ++ bytesBE 4 vector ++ bytesBE 16 cid ++ body

/-- An E1.31 data packet. `options` holds Preview_Data [7], Stream_Terminated [6], Force_Synchronization [5]. -/
def e131Data (cid : Nat) (name : Bytes) (priority sync seq options uni : Nat) (slots : List Nat) : Bytes :=
  let dmp := pduLen (11 + slots.length) ++ [0x02, 0xA1] ++ bytesBE 2 0 ++ bytesBE 2 1 ++ bytesBE 2 (slots.length + 1)
    ++ [0] ++ slots.map (BitVec.ofNat 8)
  e131Root cid 4 (pduLen (77 + dmp.length) ++ bytesBE 4 2 ++ padTo 64 name ++ bytesBE 1 priority ++ bytesBE 2 sync
    ++ bytesBE 1 seq ++ bytesBE 1 options ++ bytesBE 2 uni ++ dmp)

/-- An E1.31 synchronisation packet. -/
def e131Sync (cid seq sync : Nat) : Bytes :=
  e131Root cid 8 (pduLen 11 ++ bytesBE 4 1 ++ bytesBE 1 seq ++ bytesBE 2 sync ++ bytesBE 2 0)

/-- A page of universe discovery. -/
def e131Discovery (cid : Nat) (name : Bytes) (page last : Nat) (us : List Nat) : Bytes :=
  let lst := pduLen (8 + 2 * us.length) ++ bytesBE 4 1 ++ bytesBE 1 page ++ bytesBE 1 last ++ us.flatMap (bytesBE 2)
  e131Root cid 8 (pduLen (74 + lst.length) ++ bytesBE 4 2 ++ padTo 64 name ++ zeros 4 ++ lst)

/-- The IPv6 group of a universe, ff18::83:00:hi:lo (R392): 0x83, 0x00, hi and lo are its last four bytes, as in ANSI E1.31-2018
(PRESUMED, assumption 43). -/
def sacnGroup6 (uni : Nat) : Nat := 0xFF18 * 2 ^ 112 + 0x83000000 + uni

/-- A UDP datagram between equal ports as an Ethernet frame: TTL or hop limit, DSCP and source addresses are the port's; over IPv4 DF is
set and the identification is 0 (R392). -/
def udpFrame (c : NetPortCfg) (tag : Bytes) (v6 : Bool) (udp mac ip : Nat) (payload : Bytes) : Bytes :=
  let seg := bytesBE 2 udp ++ bytesBE 2 udp ++ bytesBE 2 (8 + payload.length) ++ bytesBE 2 0 ++ payload
  let frame :=
    if v6 then
      bytesBE 6 mac ++ bytesBE 6 c.mac ++ tag ++ bytesBE 2 0x86DD
        ++ bytesBE 4 (0x60000000 + c.dscp * 4194304) ++ bytesBE 2 seg.length ++ [17] ++ bytesBE 1 c.ttl
        ++ bytesBE 16 c.ipv6 ++ bytesBE 16 ip ++ seg
    else
      bytesBE 6 mac ++ bytesBE 6 c.mac ++ tag ++ bytesBE 2 0x0800
        ++ [0x45] ++ bytesBE 1 (4 * c.dscp) ++ bytesBE 2 (20 + seg.length) ++ bytesBE 2 0 ++ bytesBE 2 0x4000
        ++ bytesBE 1 c.ttl ++ [17] ++ bytesBE 2 0 ++ bytesBE 4 c.ipv4 ++ bytesBE 4 ip ++ seg
  (insertSums frame (!v6) true).1

/-- A VLAN tag, or nothing for VLAN ID 0. -/
def vlanTag (pcp vid : Nat) : Bytes := if vid = 0 then [] else bytesBE 2 0x8100 ++ bytesBE 2 (pcp * 8192 + vid)

/-- A multicast Ethernet frame of a UDP payload to the group of a universe (R392). -/
def sacnFrame (c : NetPortCfg) (v6 : Bool) (uni : Nat) (payload : Bytes) : Bytes :=
  if v6 then udpFrame c (vlanTag c.pcp c.sacnVlan) true 5568 (0x333383000000 + uni) (sacnGroup6 uni) payload
  else udpFrame c (vlanTag c.pcp c.sacnVlan) false 5568 (0x01005E7F0000 + uni) (0xEFFF0000 + uni) payload

/-! ### PTP messages (R141) -/

/-- A Delay_Req message: the unicast flag where it is for one master, and the port's identity made from its MAC (PRESUMED, assumption
43). -/
def delayReqMessage (c : PtpConfig) (mac seq : Nat) (unicast : Bool) : Bytes :=
  [0x01, 0x12] ++ bytesBE 2 44 ++ bytesBE 1 c.domain ++ [0] ++ bytesBE 2 (if unicast then 0x0400 else 0) ++ zeros 12
    ++ bytesBE 3 (mac / 2 ^ 24) ++ [0xFF, 0xFE] ++ bytesBE 3 (mac % 2 ^ 24) ++ bytesBE 2 1 ++ bytesBE 2 seq ++ [0x01, 0x7F] ++ zeros 10

/-- A Delay_Req as a frame: to the multicast address of its transport, or to the addresses `one` of a parent (R158). -/
def delayReqFrame (c : PtpConfig) (x : NetPortCfg) (seq : Nat) (one : Option (Nat × Nat)) : Bytes :=
  let msg := delayReqMessage c x.mac seq one.isSome
  let tag := vlanTag 0 c.vlan
  if c.transport = 0 then udpFrame x tag false 319 ((one.map (·.1)).getD 0x01005E000181) ((one.map (·.2)).getD 0xE0000181) msg
  else if c.transport = 1 then
    udpFrame x tag true 319 ((one.map (·.1)).getD 0x333300000181) ((one.map (·.2)).getD (0xFF0E * 2 ^ 112 + 0x181)) msg
  else bytesBE 6 ((one.map (·.1)).getD 0x011B19000000) ++ bytesBE 6 x.mac ++ tag ++ bytesBE 2 0x88F7 ++ msg

/-! ### Counters (R391) -/

/-- A counter advanced by `k`: the port, and whether it crossed half range. -/
def NetPort.count (p : NetPort) (i k : Nat) : NetPort × Bool :=
  let old := (p.counters.getD i 0).toNat
  let crossed := decide (old < 2 ^ 31) && decide (2 ^ 31 ≤ old + k)
  ({ p with counters := p.counters.set i (BitVec.ofNat 32 (old + k)),
            half := if crossed && !bit p.half i then p.half + 2 ^ i else p.half }, crossed)

/-- Several counters advanced; whether any crossed half range. -/
def NetPort.countAll (p : NetPort) (l : List (Nat × Nat)) : NetPort × Bool :=
  l.foldl (fun acc e => let r := acc.1.count e.1 e.2; (r.1, acc.2 || r.2)) (p, false)

/-- The length class of a frame, 0 to 6 (RX_64 ... RX_1519_MAX). -/
def lengthClass (len : Nat) : Nat :=
  if len ≤ 64 then 0 else if len ≤ 127 then 1 else if len ≤ 255 then 2 else if len ≤ 511 then 3
  else if len ≤ 1023 then 4 else if len ≤ 1518 then 5 else 6

/-- Destination is a group address; destination is broadcast. -/
def isGroup (bs : Bytes) : Bool := beNat (slice bs 0 1) % 2 == 1
def isBroadcast (bs : Bytes) : Bool := beNat (slice bs 0 6) == 2 ^ 48 - 1

/-- The counters that a frame passing step 1 advances. -/
def rxCounts (bs : Bytes) (len : Nat) : List (Nat × Nat) :=
  [(0, 1), (1, len)] ++ (if isBroadcast bs then [(3, 1)] else if isGroup bs then [(2, 1)] else [])
    ++ (if 0 < vlanTags bs then [(6, 1)] else []) ++ [(7 + lengthClass len, 1)]

/-- The counters that a sent frame advances; `bs` without FCS and padding. -/
def txCounts (bs : Bytes) : List (Nat × Nat) :=
  let len := max 64 (bs.length + 4)
  [(30, 1), (31, len)] ++ (if isBroadcast bs then [(33, 1)] else if isGroup bs then [(32, 1)] else [])
    ++ (if 0 < vlanTags bs then [(34, 1)] else []) ++ [(35 + lengthClass len, 1)]

/-! ### Line rates and pause (R375, R388) -/

/-- The bit rate of a mode in Mbit/s; that of mode 0x10 where nothing has been negotiated. -/
def modeMbit (mode : Nat) : Nat := if mode ≤ 2 then 25000 else if mode = 3 then 10000 else 1000

/-- A mode that a port supports (table "Port modes"). -/
def modeFits (port mode : Nat) : Bool := if port < 4 then mode ≤ 3 else mode == 0x10 || mode == 0x11

/-- The bit rate of a port in Mbit/s. -/
def NetPort.mbit (x : NetPort) : Nat := if x.cfg.mode = 0x10 then max 1 x.sgmii else modeMbit x.cfg.mode

/-- `n` bit times as timebase units. -/
def NetPort.bitTimes (x : NetPort) (n : Nat) : Units := ceilDiv ((n * 65536 * 1000 : Nat) : Int) x.mbit

/-- The wire time of a frame, padding and FCS included, with preamble and gap. -/
def NetPort.wireTime (x : NetPort) (frame : Bytes) : Units := x.bitTimes (8 * (frame.length + 20))

/-! ### Padding and FCS (R379) -/

/-- One bit, and one byte, of the reflected CRC-32 of IEEE 802.3 (PRESUMED, assumption 43). -/
def fcsBit (c : Word) : Word := if c.toNat % 2 = 1 then (c >>> 1) ^^^ 0xEDB88320#32 else c >>> 1
def fcsByte (c : Word) (b : Byte) : Word :=
  fcsBit (fcsBit (fcsBit (fcsBit (fcsBit (fcsBit (fcsBit (fcsBit (c ^^^ b.setWidth 32))))))))

/-- A frame as the MAC sends it: padded to 64 B and with its FCS, which is inverted under a poisoned word (R379, R479). -/
def wireFrame (bs : Bytes) (bad : Bool) : Bytes :=
  let p := bs ++ zeros (60 - bs.length)
  let c := (p.foldl fcsByte 0xFFFFFFFF#32) ^^^ 0xFFFFFFFF#32
  p ++ bytesLE 4 (if bad then ~~~c else c).toNat

/-- A pause frame, and its quanta (R388). -/
def pauseQuanta (bs : Bytes) : Option Nat :=
  if beNat (slice bs 0 6) = 0x0180C2000001 && be16 bs 12 = 0x8808 && be16 bs 14 = 1 then some (be16 bs 16) else none

/-- Another MAC control frame. -/
def isMacControl (bs : Bytes) : Bool := be16 bs 12 == 0x8808

/-! ### MACsec (R397 to R399) -/

/-- An IV: SCI and PN, or under XPN the salt with SSCI and the 64-bit PN added in. -/
def macsecIv (xpn : Bool) (sci : Nat) (sa : MacsecSa) (pn : Nat) : Bytes :=
  if xpn then (List.zip (padTo 12 sa.salt) (bytesBE 4 sa.ssci ++ bytesBE 8 pn)).map fun e => e.1 ^^^ e.2
  else bytesBE 8 sci ++ bytesBE 4 pn

/-- A frame protected with the active transmit SA: SecTAG, ciphertext and ICV. -/
def SecY.seal (y : SecY) (an : Nat) (sa : MacsecSa) (bs : Bytes) : Bytes :=
  let user := bs.drop 12
  let tag := bytesBE 2 0x88E5 ++ bytesBE 1 (12 + (if y.includeSci then 32 else 0) + an)
    ++ bytesBE 1 (if user.length < 48 then user.length else 0) ++ bytesBE 4 sa.pn
    ++ (if y.includeSci then bytesBE 8 y.txSci else [])
  let clear := user.take y.confOffset
  let head := bs.take 12 ++ tag
  head ++ clear ++ gcmSeal sa.key (macsecIv y.xpn y.txSci sa sa.pn) (head ++ clear) (user.drop y.confOffset)

/-- The largest PN of a suite. -/
def SecY.maxPn (y : SecY) : Nat := if y.xpn then 2 ^ 64 - 1 else 2 ^ 32 - 1

/-- The PN above which MACSEC_PN_HIGH is raised (R399). -/
def SecY.highPn (y : SecY) : Nat := if y.xpn then 0xC000000000000000 else 0xC0000000

/-- The active transmit SA. -/
def SecY.txSa (y : SecY) : Option (Nat × MacsecSa) :=
  (y.active.find 0).bind fun an => (y.sas.find an).map fun sa => (an, sa)

/-- What the SecY makes of a frame to send: the frame, or nothing where it is dropped; whether it was
protected; and whether MACSEC_PN_HIGH and MACSEC_PN_EXHAUSTED are raised. -/
def SecY.protectFrame (y : SecY) (bs : Bytes) : SecY × Option Bytes × Bool × Bool × Bool :=
  match y.txSa with
  | none => (y, none, false, false, false)
  | some (an, sa) =>
    if y.maxPn < sa.pn then (y, none, false, false, false)
    else
      let next := sa.pn + 1
      let high := decide (sa.pn ≤ y.highPn) && decide (y.highPn < next)
      let ex := decide (y.maxPn < next)
      ({ y with sas := y.sas.put an { sa with pn := next }, exhausted := y.exhausted || ex }, some (y.seal an sa bs), true,
       high, ex)

/-- What step 3 of R382 makes of a received frame: the frame to go on with and whether the SecY verified it, or the counter of its drop.
As in IEEE 802.1AE, a frame that is not encrypted passes without validation unless that is Strict, and Disabled checks nothing. -/
def SecY.receive (y : SecY) (bs : Bytes) : SecY × (Nat ⊕ (Bytes × Bool)) :=
  if !y.enable || etherType bs = 0x888E then (y, .inr (bs, false))
  else if be16 bs 12 != 0x88E5 then (y, if y.validate = 2 then .inl 29 else .inr (bs, false))
  else
    let tci := beNat (slice bs 14 1)
    let hasSci := bit tci 5
    let sci := if hasSci then beNat (slice bs 20 8) else y.rxSci.headD 0
    let tagLen := if hasSci then 16 else 8
    let an := tci % 4
    let body := bs.drop (12 + tagLen)
    let unknown : Nat ⊕ (Bytes × Bool) :=
      if y.validate != 2 && !bit tci 2 then .inr (bs.take 12 ++ body.take (body.length - 16), false) else .inl 28
    match (List.range 4).find? fun i => y.rxSci.getD i 0 == sci && sci != 0 with
    | none => (y, unknown)
    | some i =>
      match y.sas.find (4 * (i + 1) + an) with
      | none => (y, unknown)
      | some sa =>
        let low := beNat (slice bs 16 4)
        let plain := bs.take 12 ++ body.take (body.length - 16)
        let pn := if y.xpn then
            (let base := sa.pn / 2 ^ 32 * 2 ^ 32 + low
             if base < sa.pn && 2 ^ 31 ≤ sa.pn % 2 ^ 32 - low then base + 2 ^ 32 else base)
          else low
        if y.validate = 0 then (y, .inr (plain, false))
        else if y.replay && pn < sa.pn then (y, .inl 27)
        else
          let clear := body.take y.confOffset
          match gcmOpen sa.key (macsecIv y.xpn sci sa pn) (bs.take (12 + tagLen) ++ clear) (body.drop y.confOffset) with
          | some pt =>
            let sa' := { sa with pn := max sa.pn (pn + 1 - (if y.replay then y.window else 0)) }
            ({ y with sas := y.sas.put (4 * (i + 1) + an) sa', active := y.active.put (i + 1) an }, .inr (bs.take 12 ++ clear ++ pt, true))
          | none =>
            if y.validate = 1 && !bit tci 2 then (y, .inr (plain, false)) else (y, .inl 26)

/-! ### Classification (R382) -/

/-- A UDP datagram of a frame: destination port. -/
def udpPort (bs : Bytes) : Option Nat :=
  match parseFrame bs with
  | some p => if p.proto = 17 && !p.fragment then some (be16 bs (p.l4Off + 2)) else none
  | none => none

/-- A PTP message over UDP (ports 319, 320) or Ethernet (0x88F7) of a domain. -/
def ptpDomain (bs : Bytes) : Option Nat :=
  if etherType bs = 0x88F7 then some (beNat (slice bs (14 + 4 * vlanTags bs + 4) 1))
  else match udpPort bs, parseFrame bs with
    | some d, some p => if d = 319 || d = 320 then some (beNat (slice bs (p.l4Off + 12) 1)) else none
    | _, _ => none

/-- The messageType of a PTP message. -/
def ptpType (bs : Bytes) : Nat :=
  let off := if etherType bs = 0x88F7 then 14 + 4 * vlanTags bs else (parseFrame bs).elim 0 (·.l4Off) + 8
  beNat (slice bs off 1) % 16

/-- PTP messages that need an option outside the table "PTP support": peer delay, management and signaling (R141). -/
def ptpUnsupported (bs : Bytes) : Bool := [2, 3, 0xA, 0xC, 0xD].contains (ptpType bs)

/-- An IGMP or MLD query: whether it is MLD, and the group it asks for, 0 for a general query (PRESUMED, assumption 43). -/
def queryOf (bs : Bytes) : Option (Bool × Nat) :=
  (parseFrame bs).bind fun p =>
    let kind := beNat (slice bs p.l4Off 1)
    if !p.v6 && p.proto == 2 && kind == 0x11 then some (false, beNat (slice bs (p.l4Off + 4) 4))
    else if p.v6 && p.proto == 58 && kind == 130 then some (true, beNat (slice bs (p.l4Off + 8) 16))
    else none

/-- The checksum of an IGMP or MLD message is good. -/
def querySumOk (bs : Bytes) : Bool :=
  (parseFrame bs).elim false fun p =>
    let n := wordSum (slice bs p.l4Off (l4Len bs p)) + (if p.v6 then pseudoSum bs p (l4Len bs p) else 0)
    foldSum (foldSum n) == 65535

/-- MATCH of a receive ring fits a frame. -/
def NetRing.fits (r : NetRing) (port : Nat) (bs : Bytes) : Bool :=
  r.host != 0 && bit r.ports port &&
    match r.match_ with
    | 0 => true
    | 1 => etherType bs == r.value % 65536
    | 2 => udpPort bs == some (r.value % 65536)
    | _ => beNat (slice bs 0 6) == r.value % 2 ^ 48

/-- The lowest-numbered bound receive ring that fits (step 8). -/
def NetState.ringFor (s : NetState) (port : Nat) (bs : Bytes) : Option Nat :=
  (List.range 56).find? fun k => match s.rings.find k with
    | some r => r.fits port bs
    | none => false

/-- The outer VLAN tag stripped, and its TCI (STRIP_VLAN). -/
def stripVlan (bs : Bytes) : Bytes × Nat :=
  if 0 < vlanTags bs then (bs.take 12 ++ bs.drop 16, be16 bs 14) else (bs, 0)

end Sys2Proof.Machine
end

