-- ==== Sys2Proof/Machine/Zlk.lean ====
section
/-!
DEFINITION. Machine/Zlk.lean: the group record, and the frames of the Zoette links: routes, credits, sequence numbers
and retries (R494 to R503).
-/

namespace Sys2Proof.Machine

/-! ### The group record in force (R494 to R496) -/

def GroupState.mode (g : GroupState) : Nat := if g.record.isEmpty then 0 else fld g.record 0 1
def GroupState.torus (g : GroupState) : Bool := fld g.record 1 1 == 1
def GroupState.ranks (g : GroupState) : Nat := if g.record.isEmpty then 1 else max 1 (fld g.record 2 1)
def GroupState.crypt (g : GroupState) : Bool := bit (fld g.record 3 1) 0
def GroupState.spareFor (g : GroupState) : Nat := if g.record.isEmpty then 0xFF else fld g.record 4 1
def GroupState.uidAt (g : GroupState) (rank plane : Nat) : Nat := fld g.record (0x10 + 128 * plane + 8 * rank) 8

/-- The group has Tango pairs; the device belongs to a Quadrille or a Tango pair. -/
def GroupState.paired (g : GroupState) : Bool := g.mode == 2 || g.mode == 3
def GroupState.inGroup (g : GroupState) : Bool := g.mode != 0

/-- A member's number: rank + 16 × plane, the format of DEST. -/
def memberNum (rank plane : Nat) : Nat := rank + 16 * plane

/-- This device's number, and its partner's. -/
def GroupState.me (g : GroupState) : Nat := memberNum g.rank g.plane
def GroupState.partner (g : GroupState) : Nat := memberNum g.rank (1 - g.plane)

/-- The members that the record names. -/
def GroupState.named (g : GroupState) : List Nat :=
  if !g.inGroup then []
  else List.range g.ranks ++ (if g.paired then (List.range g.ranks).map (memberNum · 1) else [])

/-- The members present. -/
def GroupState.present (g : GroupState) (who : Nat) : Bool := if who < 16 then bit g.presentA who else bit g.presentB (who - 16)

/-- The device is the coordinator. -/
def GroupState.isCoord (g : GroupState) : Bool := g.coord == some g.me

/-- GROUP_FORMED holds: formed, or degraded. -/
def GroupState.live (g : GroupState) : Bool := g.phase == .formed || g.phase == .degraded

/-- The logical links that the record uses (R45, R496). -/
def GroupState.linksUsed (g : GroupState) : List Nat :=
  (if g.mode = 1 || g.mode = 3 then (if g.torus then [0, 1, 2, 3] else [0, 1]) else []) ++ (if g.paired then [4] else [])

/-- The physical link of a logical one: link 5 takes the place of the one that SPARE_FOR names. -/
def GroupState.physical (g : GroupState) (l : Nat) : Nat := if l = g.spareFor then 5 else l

/-- The member at the far end of a logical link (table "Link use"). -/
def GroupState.farEnd (g : GroupState) (l : Nat) : Nat :=
  let r := g.rank
  let n := g.ranks
  let x := r % 4
  let y := r / 4
  if l = 4 then g.partner
  else if g.torus then
    memberNum (match l with
      | 0 => 4 * y + (x + 1) % 4
      | 1 => 4 * y + (x + 3) % 4
      | 2 => 4 * ((y + 1) % 4) + x
      | _ => 4 * ((y + 3) % 4) + x) g.plane
  else memberNum (if l = 0 then (r + 1) % n else (r + n - 1) % n) g.plane

/-- The logical link of a physical one, where the record uses it. -/
def GroupState.logical (g : GroupState) (l : Nat) : Option Nat := g.linksUsed.find? fun k => g.physical k == l

/-- The group digest (R494). -/
def GroupState.digest (g : GroupState) : Bytes := sha384 g.record

/-! ### Routes (R503) -/

/-- A link of the group, and whether it is UP. -/
def GroupState.link (g : GroupState) (l : Nat) : ZlkLink := g.links.getD l {}
def GroupState.linkUp (g : GroupState) (l : Nat) : Bool := (g.link l).phase == .up

/-- The two directions of an axis of `n` places, the shorter first; a tie goes by the first. -/
def axisLinks (n from_ to_ a b : Nat) : List Nat :=
  let d := (to_ + n - from_) % n
  if d = 0 then [] else if d ≤ n - d then [a, b] else [b, a]

/-- The logical links towards a member, best first: x before y in a torus, the plane crossed at the destination's
rank. A DOWN link gives way to the next. -/
def GroupState.towards (g : GroupState) (dest : Nat) : List Nat :=
  let to_ := dest % 16
  if to_ = g.rank then (if dest = g.me then [] else [4] ++ g.linksUsed.filter (· != 4))
  else
    let best :=
      if g.torus then
        let xs := axisLinks 4 (g.rank % 4) (to_ % 4) 0 1
        let ys := axisLinks 4 (g.rank / 4) (to_ / 4) 2 3
        xs.take 1 ++ ys.take 1 ++ xs.drop 1 ++ ys.drop 1
      else axisLinks g.ranks g.rank to_ 0 1
    best ++ g.linksUsed.filter fun l => !best.contains l

/-- The physical link that a frame for a member leaves by. -/
def GroupState.route (g : GroupState) (dest : Nat) : Option Nat :=
  ((g.towards dest).map g.physical).find? fun l => g.linksUsed.any (fun k => g.physical k == l) && g.linkUp l

/-! ### Frames of one link (R499, R500) -/

/-- The credits that a frame needs. -/
def creditCost (len : Nat) : Nat := (len + 24 + 63) / 64

/-- An entry of a list of four changed. -/
def atChan (l : List Nat) (c : Nat) (f : Nat → Nat) : List Nat := l.zipIdx.map fun e => if e.2 = c then f e.1 else e.1

/-- The most frames that wait for an acknowledgement. -/
def zlkWindow : Nat := 128

/-- The waiting frame that goes next: the lowest channel that has credits, in order within a channel. -/
def ZlkLink.nextFrame (k : ZlkLink) : Option ZlkData :=
  if zlkWindow ≤ k.sent.length then none
  else ((List.range 4).filterMap fun c =>
    (k.waiting.find? (·.chan == c)).bind fun f => if creditCost f.len ≤ k.credits.getD c 0 then some f else none).head?

/-- One frame sent. -/
def ZlkLink.sendOne (k : ZlkLink) (f : ZlkData) (now : Nat) : ZlkLink × ZlkData :=
  let f' := { f with seq := k.nextSeq, ack := k.lastRx, credit := k.owed, count := k.count }
  ({ k with
      waiting := k.waiting.erase f
      nextSeq := (k.nextSeq + 1) % 65536
      count := k.count + 1
      credits := atChan k.credits f.chan (· - creditCost f.len)
      owed := [0, 0, 0, 0]
      sent := k.sent ++ [⟨k.nextSeq, some f', 1, now, k.count⟩] }, f')

/-- As many frames as credits and window allow. -/
def ZlkLink.pump (k : ZlkLink) (now : Nat) : Nat → ZlkLink × List ZlkData
  | 0 => (k, [])
  | n + 1 =>
    match k.nextFrame with
    | none => (k, [])
    | some f =>
      let a := k.sendOne f now
      let b := a.1.pump now n
      (b.1, a.2 :: b.2)

/-- Frames up to SEQ `a` are acknowledged. -/
def ZlkLink.ackTo (k : ZlkLink) (a : Nat) : ZlkLink :=
  { k with sent := k.sent.filter fun x => 32768 ≤ (a + 65536 - x.seq) % 65536 }

/-- Credits returned by the far end. -/
def ZlkLink.addCredits (k : ZlkLink) (c : List Nat) : ZlkLink :=
  { k with credits := k.credits.zipIdx.map fun e => min 1024 (e.1 + c.getD e.2 0) }

/-! ### Links of the device -/

/-- A link changed. -/
def State.setLink (s : State) (l : Nat) (k : ZlkLink) : State := { s with group := { s.group with links := s.group.links.put l k } }

/-- What a link can send is sent. -/
def State.pumpLink (s : State) (l : Nat) : State :=
  let k := s.group.link l
  if k.phase != .up then s
  else
    let r := k.pump s.now k.waiting.length
    (s.setLink l r.1).emitAll (r.2.map (OutEvent.zlkData l))

/-- A frame queued on a link. -/
def State.queueFrame (s : State) (l : Nat) (f : ZlkData) : State :=
  let k := s.group.link l
  if k.phase != .up then s else (s.setLink l { k with waiting := k.waiting ++ [f] }).pumpLink l

/-- The sizes of payloads are not in the spec; a payload counts as one of 1,024 bytes at most (assumption 45). -/
def msgLen : GroupMsg → Nat
  | .prepared .. | .decide .. | .selfCheck .. | .coordinator .. | .membership .. | .actDecide .. | .actWithdrawn | .clockWithdrawn => 16
  | .hello .. | .digest .. | .root .. | .activate .. | .actPrepared .. | .grid .. | .clockRequest .. | .clockStart .. => 64
  | _ => 1024

/-- A message sent to a member. -/
def State.gsend (s : State) (dest chan : Nat) (m : GroupMsg) : State :=
  if dest = s.group.me then s
  else match s.group.route dest with
    | some l => s.queueFrame l { chan := chan, seq := 0, dest := dest, src := s.group.me, len := msgLen m, msg := m }
    | none => s

/-- A frame put on every UP link but one. -/
def State.flood (s : State) (f : ZlkData) (except_ : Option Nat) : State :=
  (s.group.linksUsed.map s.group.physical).foldl (fun s l => if some l = except_ then s else s.queueFrame l f) s

/-- A message broadcast to the group. -/
def State.gcast (s : State) (chan : Nat) (m : GroupMsg) : State :=
  if !s.group.inGroup then s
  else
    let n := s.group.castNext
    let s := { s with group := { s.group with castNext := n + 1 } }
    s.flood { chan := chan, seq := 0, origin := n, dest := 0x80, src := s.group.me, len := msgLen m, msg := m } none

/-- A TIME frame sent on a link; it returns credits, as any frame does, and waits for an acknowledgement like DATA (R500). -/
def State.sendTime (s : State) (l : Nat) : State :=
  let k := s.group.link l
  if k.phase != .up || zlkWindow ≤ k.sent.length then s
  else
    let k' := { k with
      nextSeq := (k.nextSeq + 1) % 65536, count := k.count + 1, owed := [0, 0, 0, 0], txStamp := some s.tb
      sent := k.sent ++ [⟨k.nextSeq, none, 1, s.now, k.count⟩] }
    (s.setLink l k').emit (.zlkTime l k.nextSeq k.lastRx k.owed k.count s.tb k.rxStamp)

/-- An UP link goes down: frames not acknowledged are discarded, ZLK_DOWN is raised, and the link locks again, or
says HELLO again (R501). -/
def State.linkDown (s : State) (l : Nat) (next : ZlkPhase) : State :=
  (s.setLink l { (s.group.link l) with phase := next, helloRx := 0, sent := [], waiting := [] }).raise 0xB4

/-- Frames from the one after `ack` on are sent again; one that has been sent eight times takes the link down (R500). -/
def State.resend (s : State) (l : Nat) : State :=
  let k := s.group.link l
  let s := s.raise 0xB5
  let k := { k with retries := k.retries + 1 }
  if k.sent.any (8 ≤ ·.sends) then (s.setLink l k).linkDown l .locking
  else
    let k := { k with sent := k.sent.map fun x => { x with sends := x.sends + 1, at_ := s.now } }
    let evs := k.sent.map fun x => match x.frame with
      | some f => OutEvent.zlkData l f
      | none => .zlkTime l x.seq k.lastRx [0, 0, 0, 0] x.count s.tb k.rxStamp
    (s.setLink l k).emitAll evs

end Sys2Proof.Machine
end

