-- ==== Sys2Proof/Machine/ShowSpec.lean ====
section
/-!
DEFINITION. Machine/ShowSpec.lean: the requests of the commands that write show state: their lengths, roles,
reserved fields and numeric ranges, where their data comes from, and how a write is checked and staged (R69, R77,
R81, R186).

A code that a request layout does not give is a numeric field outside its range (check 6 of R69, OUT_OF_RANGE), except where a
command's own rule answers an unknown code with BAD_ARGUMENT (DEDUCED, assumption 70).
-/

namespace Sys2Proof.Machine

/-! ### Request layouts -/

/-- A field is at most `hi`, or lies from `lo` to `hi`. -/
def upTo (p : Bytes) (off len hi : Nat) : Bool := fld p off len ≤ hi
def within (p : Bytes) (off len lo hi : Nat) : Bool := lo ≤ fld p off len && fld p off len ≤ hi

/-- The commands with the request layout of PATCH_WRITE: the record size and the most records in the host region
(R191, R267, and the chapters of the others). -/
def ShowCmd.recordLayout : ShowCmd → Option (Nat × Nat)
  | .patchWrite => some (32, 131072)
  | .videoSampleSet => some (16, 131072)
  | .calibSet => some (288, 131072)
  | .regionSet => some (96, 65536)
  | .pixelMapSet => some (32, 131072)
  | .safetyMemberSet => some (16, 262144)
  | _ => none

/-- The roles that may write: groups 0x04, 0x05 and 0x07, PARAM_WRITE and SLICE_MODE_SET accept an OPERATOR (R71,
R134, R194). -/
def ShowCmd.roleOk (c : ShowCmd) : Ctx → State → Bool :=
  match c with
  | .sliceModeSet | .paramWrite | .cuelistLoad | .sourceDelete | .effectDefine | .effectTableLoad | .playbackAction
  | .layerSet | .policySet | .sacnRxSet | .dmxInSet | .videoInSet | .videoSampleSet | .videoMapSet
  | .canvasSet | .segmentSet | .pixelMapSet | .rectCheckSet => operator
  | _ => engineer

/-- The payload length suits the command (R69, check 2). -/
def ShowCmd.lengthOk (c : ShowCmd) (p : Bytes) : Bool :=
  match c.recordLayout with
  | some (size, _) => if fld p 0 1 = 0 then lenRecs 16 size 4 p else lenIs 16 p
  | none =>
    match c with
    | .timingSet => lenIs 0x28 p
    | .sliceModeSet => lenIs 0x18 p
    | .profileLoad | .cuelistLoad | .dmxPortSet | .pwmSet | .curveLoad | .policySet => lenIs 16 p
    | .profileDelete | .patchClear | .sourceDelete | .layerSet | .laneSet => lenIs 8 p
    | .effectDefine => 64 ≤ p.length && p.length == 64 + (if fld p 0x30 8 = 0 then 4 * fld p 0x28 4 else 0)
    | .effectTableLoad => lenIs 520 p
    | .paramWrite | .feederMemberSet | .outputGroupSet | .safetyGroupSet => lenRecs 8 8 0 p
    | .playbackAction | .tempSourceSet => lenRecs 8 32 0 p
    | .derateSet | .sacnTxUniverseSet => lenRecs 8 16 0 p
    | .safetyClear => lenRecs 8 4 0 p
    | .sacnRxSet | .dmxInSet | .partitionSet => lenRecs 16 8 8 p
    | .videoInSet | .feederSet => lenIs 64 p
    | .videoMapSet | .canvasSet => lenIs 32 p
    | .segmentSet => 8 ≤ p.length && p.length == 8 + 8 * fld p 2 1
    | .rectCheckSet => 8 ≤ p.length && p.length == 8 + 16 * fld p 1 1
    | .sacnTxConfig => lenIs 0x58 p
    | _ => false

/-- Reserved fields and bits are zero (R69, check 5), and codes are known where the command's rule says BAD_ARGUMENT. -/
def ShowCmd.argOk (c : ShowCmd) (p : Bytes) : Bool :=
  match c.recordLayout with
  | some _ => zeroAt p 1 3 && (fld p 0 1 == 1 || zeroAt p 8 8)
  | none =>
    match c with
    | .timingSet => zeroAt p 0x21 7 && timingZeros p
    | .sliceModeSet => zeroAt p 3 1 && zeroAt p 0x14 4
    | .profileLoad | .cuelistLoad => zeroAt p 2 2
    | .profileDelete => zeroAt p 2 6
    | .paramWrite => zeroAt p 4 4 && paramZeros p
    | .playbackAction => zeroAt p 4 4 && (actionBytes p).all actionArgOk
    | .feederMemberSet => zeroAt p 4 4 && feederMemberZeros p
    | .outputGroupSet => zeroAt p 4 4 && outputGroupZeros p
    | .tempSourceSet => zeroAt p 4 4 && (tempRecords p).all tempRecZeros
    | .derateSet => zeroAt p 4 4 && (derateRecords p).all derateZeros
    | .safetyGroupSet => zeroAt p 4 4 && safetyGroupZeros p
    | .safetyClear => zeroAt p 4 4 && safetyClearZeros p
    | .effectDefine => effArgOk p (if fld p 0x30 8 = 0 then effMembers p [] else [])
    | .sacnTxConfig => sacnTxZeros p
    | .sacnTxUniverseSet => zeroAt p 4 4 && (txRecords p).all txZeros
    | .sourceDelete => zeroAt p 1 1 && zeroAt p 4 4
    | .effectTableLoad => zeroAt p 2 6
    | .policySet => zeroAt p 3 1 && zeroAt p 9 7
    | .sacnRxSet => upTo p 3 1 15 && upTo p 4 1 15 && zeroAt p 5 1 && zeroAt p 0x0C 4 && rxZeros p
    | .dmxInSet => upTo p 3 1 3 && zeroAt p 4 4 && zeroAt p 0x0C 4 && rxZeros p
    | .videoInSet => upTo p 7 1 7 && zeroAt p 0x0F 1
        && (bit (fld p 7 1) 1 || zeroAt p 0x14 12) && (bit (fld p 7 1) 2 || zeroAt p 0x20 16) && zeroAt p 0x32 14
    | .videoMapSet => upTo p 4 1 1 && zeroAt p 5 3 && zeroAt p 0x1C 4
    | .feederSet => upTo p 2 1 3 && zeroAt p 0x2A 22
    | .canvasSet => upTo p 1 1 1 && upTo p 2 1 15 && zeroAt p 0x14 12
    | .segmentSet => upTo p 3 1 1
    | .rectCheckSet => zeroAt p 2 6 && rectCheckZeros p
    | .curveLoad => upTo p 1 1 1 && zeroAt p 2 6 && (fld p 1 1 == 0 || zeroAt p 8 8)
    | .laneSet => zeroAt p 4 4
    | .dmxPortSet => zeroAt p 9 1
    | .pwmSet => upTo p 8 1 7 && zeroAt p 0x0A 6
    | .partitionSet => zeroAt p 0x0C 4 && partitionZeros p
    | _ => true

/-- Numeric fields lie within their ranges (R69, check 6); the checks of `ShowCmd.check` cover the rest. -/
def ShowCmd.rangeOk (c : ShowCmd) (p : Bytes) : Bool :=
  match c.recordLayout with
  | some (_, most) => upTo p 0 1 1 && within p 4 4 1 most
  | none =>
    match c with
    | .timingSet => upTo p 0x20 1 1 && timingRangeOk p
    | .sliceModeSet => upTo p 0 1 7 && upTo p 1 1 1 && upTo p 2 1 1 && (List.range 8).all fun k => upTo p (4 + 2 * k) 2 2159
    | .profileLoad => upTo p 0 2 4095 && within p 4 4 80 10432
    | .cuelistLoad => upTo p 0 2 4095 && within p 4 4 144 268435456
    | .profileDelete => upTo p 0 2 4095
    | .patchClear => within p 4 4 1 131072 && fld p 0 4 + fld p 4 4 ≤ 131072
    | .paramWrite | .safetyGroupSet => within p 0 4 1 507
    | .feederMemberSet | .outputGroupSet => within p 0 4 1 506
    | .playbackAction | .tempSourceSet => within p 0 4 1 126
    | .derateSet | .sacnTxUniverseSet => within p 0 4 1 253
    | .safetyClear => within p 0 4 1 1014
    | .sourceDelete => upTo p 0 1 2 && upTo p 2 2 (if fld p 0 1 = 0 then 4095 else if fld p 0 1 = 1 then 16383 else 1023)
    | .effectDefine => effRangeOk p
    | .effectTableLoad => upTo p 0 2 1023
    | .layerSet => upTo p 0 1 7 && upTo p 1 1 200 && upTo p 2 2 32768 && upTo p 4 4 86400000
    | .policySet => within p 4 4 1 8388608 && (upTo p 8 1 3 || fld p 8 1 == 0xFF)
    | .sacnRxSet => within p 0 2 1 63999 && upTo p 2 1 7 && upTo p 6 2 63999 && upTo p 8 4 506
    | .dmxInSet => upTo p 0 2 15 && upTo p 2 1 7 && upTo p 8 4 506
    | .videoInSet => upTo p 0 1 1 && upTo p 1 1 3 && upTo p 2 1 2 && upTo p 3 1 1 && upTo p 4 1 2 && upTo p 5 1 1 && within p 0x0C 2 1 65535 && within p 0x0E 1 96 127
        && (fld p 0x30 2 == 0 || within p 0x30 2 100 10000)
    | .videoMapSet => upTo p 0 1 63 && upTo p 1 1 7 && upTo p 2 1 7 && upTo p 3 1 1 && upTo p 0x1A 2 32768
    | .feederSet => feederRangeOk p
    | .canvasSet => upTo p 0 1 7
    | .segmentSet => upTo p 0 1 63 && (upTo p 1 1 7 || fld p 1 1 == 0xFF) && upTo p 2 1 16 && upTo p 4 4 10000
    | .rectCheckSet => upTo p 0 1 7 && within p 1 1 1 16
    | .curveLoad => within p 0 1 16 255
    | .laneSet => upTo p 0 1 63 && upTo p 1 1 1
    | .dmxPortSet => upTo p 1 1 1
    | .partitionSet => upTo p 8 4 506
    | _ => true

/-- What a write reads from the host region: offset and length. -/
def ShowCmd.source (c : ShowCmd) (p : Bytes) : Option (Nat × Nat) :=
  match c.recordLayout with
  | some (size, _) => if fld p 0 1 = 1 then some (fld p 8 8, size * fld p 4 4) else none
  | none =>
    match c with
    | .profileLoad | .cuelistLoad => some (fld p 8 8, fld p 4 4)
    | .effectDefine => if fld p 0x30 8 = 0 then none else some (fld p 0x30 8, 4 * fld p 0x28 4)
    | .curveLoad => if fld p 1 1 = 1 then none else some (fld p 8 8, 16384)
    | _ => none

/-- The write answers ACCEPTED and does its work later: CUELIST_LOAD, and the record commands that read the host
region. -/
def ShowCmd.slow (c : ShowCmd) (p : Bytes) : Bool := c == .cuelistLoad || (c.recordLayout.isSome && fld p 0 1 == 1)

/-! ### What the checks see of the device -/

/-- The rate that the show clock runs at, or that an accepted start names; 0 where there is none. -/
def ClockState.rateNow (c : ClockState) : Nat := if c.accepted then c.block.rateCode else 0

/-- The line rate and the tag bytes of an Ethernet port, for the load check of R396: a VLAN tag of 4 bytes, and 32
bytes of MACsec tag and ICV, 24 without the SCI. -/
def NetPort.loadOf (p : NetPort) : Nat × Nat :=
  (modeMbit p.cfg.mode * 1000000, (if p.cfg.sacnVlan = 0 then 0 else 4)
    + (if p.secy.enable && p.secy.protect then (if p.secy.includeSci then 32 else 24) else 0))

/-- The commits that are accepted and not yet applied, in the order of their acceptance: slot and transaction. -/
def TxnState.waiting (t : TxnState) : List (Nat × TxnSlot) :=
  sortBy (fun a b => decide (a.2.commit.elim 0 (·.seq) ≤ b.2.commit.elim 0 (·.seq))) (t.slots.filter fun e => e.2.commit.isSome)

/-- The transactions of accepted commits, in order. -/
def TxnState.waitingTxns (t : TxnState) : List TxnSlot := t.waiting.map (·.2)

/-- Targets of the pending actions of the device, follows included, once some accepted commits are applied too
(R198, R215). -/
def State.pendingActs (s : State) (ts : List TxnSlot) : List Nat :=
  ts.foldl (fun ps t => t.view.cues.pendingAfter ps)
    (s.render.dyn.pending.map (·.act.key) ++ (s.render.dyn.playbacks.filter (·.2.follow.isSome)).map (·.1))

/-- What the checks of a write see of the device, with the accepted commits `ts`. -/
def State.checkEnv (s : State) (ts : List TxnSlot) (db : Pos) : CheckEnv :=
  { dbFrame := posFrame db, pend := s.pendingActs ts,
    showRate := s.clock.rateNow,
    netPorts := (List.range 4).map fun p => ((s.net.ports.getD p {}).loadOf), ranks := s.group.ranks
    rank := if s.group.inGroup then s.group.rank else 0 }

/-! ### Staging (R77, R81) -/

/-- The bytes that a staged write counts (R77). -/
def writeBytes (payload data : Bytes) : Nat := payload.length + data.length

/-- The staged bytes of all transactions together. -/
def TxnState.staged (t : TxnState) : Nat := (t.slots.map fun e => e.2.bytes).sum

/-- The most that may be staged: 256 MiB (R77). -/
def stageMax : Nat := 268435456

/-- A write staged at the end of a transaction. -/
def TxnSlot.stage (t : TxnSlot) (w : ShowWrite) : TxnSlot :=
  { t with writes := t.writes ++ [w], bytes := t.bytes + writeBytes w.payload w.data }

/-- A write checked against the view of its transaction and staged; its status and response. -/
def State.stageWrite (s : State) (slot : Nat) (t : TxnSlot) (db : Pos) (w : ShowWrite) : State × Status × Bytes :=
  let r := w.check (s.checkEnv s.txn.waitingTxns db) t.view
  if r.status != .ok then (s, r.status, r.resp)
  else if stageMax < s.txn.staged + writeBytes w.payload w.data then (s, .noResource, [])
  else ({ s with txn := { s.txn with slots := s.txn.slots.put slot (t.stage w) } }, .ok, r.resp)

/-- The status of a write that reads the host region where it may not (R95); none where it may. -/
def sourceFails (src : Option (Nat × Nat)) : Bool := src.elim false fun r => !regionOk r.1 r.2

/-- The bytes that a write reads. -/
def State.sourceData (s : State) (src : Option (Nat × Nat)) : Bytes := src.elim [] fun r => s.readRegion r.1 r.2

/-- A show write after the generic checks: a committed transaction refuses it (R81); one that reads much data answers
ACCEPTED; any other is checked and staged at once. The reserved fields and ranges inside records come before the committed
transaction's CONFLICT too, as checks 5 and 6 of R69 (DEDUCED, assumption 93). -/
def ShowCmd.body (cmd : ShowCmd) (c : Ctx) (s : State) : State × Reply :=
  match s.txnOf c with
  | none => s.fail .badArgument
  | some t =>
    let src := cmd.source c.payload
    if t.commit.isSome then
      let r := if cmd.slow c.payload || sourceFails src then ({} : CheckRes)
        else ShowWrite.check (s.checkEnv s.txn.waitingTxns c.db) t.view ⟨c.code, c.payload, s.sourceData src⟩
      if r.status = .badArgument || r.status = .outOfRange then (s, ⟨r.status, r.resp, none⟩) else s.fail .conflict
    else if cmd.slow c.payload then
      if cmd != .cuelistLoad && sourceFails src then s.fail .outOfRange
      else
        let data := if sourceFails src then [] else s.sourceData src
        s.accept c (.stage c.slot c.gen c.payload data) [] fun _ s => s
    else if sourceFails src then s.fail .outOfRange
    else
      let r := s.stageWrite c.slot t c.db ⟨c.code, c.payload, s.sourceData src⟩
      (r.1, ⟨r.2.1, r.2.2, none⟩)

/-- The code of a show write. -/
def ShowCmd.code (cmd : ShowCmd) : Nat := ((showCodes.find? fun e => e.2 == cmd).map (·.1)).getD 0

/-- The command of a show write. -/
def ShowCmd.spec (cmd : ShowCmd) : CommandSpec :=
  { code := cmd.code, kind := .show_, lengthOk := cmd.lengthOk, roleOk := cmd.roleOk,
    argOk := fun c _ => cmd.argOk c.payload, rangeOk := fun c _ => cmd.rangeOk c.payload, body := cmd.body }

/-- A write that answered ACCEPTED ends: its data is checked and staged, and its final completion follows. A
transaction that has gone, or was committed, leaves it without effect. CUELIST_LOAD tests the image (BAD_ARGUMENT) before the
integrity of what it read; the others test the integrity first (R95, R227). -/
def State.stageDone (s : State) (code id : Nat) (poison : Bool) : State :=
  match s.op id code with
  | none => s
  | some o =>
    match o.kind with
    | .stage slot gen payload data =>
      match (s.txn.slots.find slot) with
      | none => s.endOp o .aborted s.pos []
      | some t =>
        if t.gen != gen || t.session != o.session then s.endOp o .aborted s.pos []
        else if t.commit.isSome then s.endOp o .conflict s.pos []
        else
          let src := (showCmd code).bind fun c => c.source payload
          let r := s.stageWrite slot t s.pos ⟨code, payload, data⟩
          let early := code == 0x0401 && r.2.1 == .badArgument
          if sourceFails src then s.endOp o .outOfRange s.pos []
          else if poison && !early then s.endOp o .integrity s.pos []
          else r.1.endOp o r.2.1 s.pos r.2.2
    | _ => s

end Sys2Proof.Machine
end

