-- ==== Sys2Proof/Machine/Commit.lean ====
section
/-!
DEFINITION. Machine/Commit.lean: transactions, commits and their checks, and snapshots (R75 to R85, R111, R119, R120,
R582 to R584).
-/

namespace Sys2Proof.Machine

/-! ### Views of accepted commits -/

/-- A view with accepted commits applied in their order. -/
def viewAfter (v : ShowState) (ts : List TxnSlot) : ShowState := ts.foldl (fun v t => (applyWrites v t.writes).settled) v

/-- Units between a deadline and L(n): T + 200 µs, or 2T on a member of a group (table after R78). -/
def State.commitLead (s : State) : Units :=
  if s.group.inGroup then 2 * s.clock.period else s.clock.period + usUnits 200

/-- The decision point of a commit has passed: the deadline of its target, or t(START_FRAME) for one accepted while
the show clock was stopped. -/
def State.commitDecided (s : State) (k : Commit) : Bool :=
  k.decided || (if k.stopped then s.clock.run else s.clock.run && s.clock.deadline k.target k.lead ≤ s.pos)

/-! ### The target (R79) and the checks that depend on it (step 4 of R583) -/

/-- The target of a commit while the show clock runs. A target whose deadline lies after MBX_DB_POS, but whose latch point has passed
when the commit executes, is LATE, and a search of MODE 1 begins at the latch point that comes next: the spec does not say
(DESIGN CHOICE, assumption 76). -/
def State.commitTarget (s : State) (mode target : Nat) (db : Pos) : Status ⊕ Nat :=
  let lead := s.commitLead
  if mode = 1 then .inr (s.clock.earliest lead db)
  else if posFrame db + 1048576 < target then .inl .outOfRange
  else if target < s.clock.firstRendered || target < s.clock.nextLatch || s.clock.deadline target lead ≤ db then .inl .late
  else .inr target

/-- A timing change that keeps the reference kind and changes the rate must fall on a coincidence (R120). -/
def ClockState.needsCoincidence (c : ClockState) (b : TimingBlock) : Bool :=
  c.block.refKind == b.refKind && c.block.rateCode != b.rateCode

/-- n_c of a timing change beside canvases of the dividers `ks`; none where no coincidence lies in reach (R120, R296). -/
def ClockState.changeAt (c : ClockState) (ks : List Nat) (tc : TimingChange) : Option Nat :=
  if tc.mode = 1 && c.needsCoincidence tc.block then c.firstCoincidence ks tc.block tc.frame else some tc.frame

/-- The dividers of the canvases of a view. -/
def ShowState.dividers (v : ShowState) : List Nat := (v.canvas.canvases.map fun e => e.2.divider).eraseDups

/-- n_c of the timing change that a transaction carries, beside the commits accepted before it. -/
def State.changeOf (s : State) (t : TxnSlot) (others : List TxnSlot) : Option Nat :=
  t.view.timing.bind (s.clock.changeAt (applyWrites (viewAfter s.txn.view others) t.writes).dividers)

/-- The checks of a timing change with change frame `at_` against a target (R119, R120). -/
def State.timingStatus (s : State) (tc : TimingChange) (at_ : Option Nat) (target : Nat) (others : List TxnSlot) : Option Status :=
  let c := s.clock
  match at_ with
  | none => some .outOfRange
  | some nc =>
    if nc < target + 8 || (c.predict (nc - 8)).t ≤ (c.predict target).latch then some .late
    else if c.change.isSome || others.any (fun t => t.view.timing.isSome) then some .conflict
    else if tc.mode = 0 && c.needsCoincidence tc.block && !c.coincides tc.block nc then some .conflict
    else none

/-- Step 4 of the commit checks: WHEN 0 actions not before the target (R212), then the timing change. -/
def State.targetStatus (s : State) (t : TxnSlot) (target : Nat) (others : List TxnSlot) : Option Status :=
  if t.view.cues.actions.any (fun a => a.when_ == 0 && decide (a.position < mkPos target 0)) then some .late
  else t.view.timing.bind fun tc => s.timingStatus tc ((t.commit.bind (·.changeFrame)) <|> s.changeOf t others) target others

/-! ### Conflicts with other transactions (R80) -/

/-- The transaction has written an object that a transaction accepted after its opening wrote. -/
def State.conflicts (s : State) (t : TxnSlot) : Bool :=
  let mine := writtenObjects t.baseView t.writes
  s.txn.accepted.any fun a => t.opened ≤ a.seq && a.objects.any mine.contains

/-! ### Staged writes and chapter checks (step 6) -/

/-- The timing changes that are pending, or carried by accepted commits or by the commit, as rate and change frame; `v` is the view
with the commit applied. -/
def State.changesAhead (s : State) (v : ShowState) (others : List TxnSlot) : List (Nat × Nat) :=
  let at_ (tc : TimingChange) (fixed : Option Nat) : Nat × Nat :=
    (tc.block.rateCode, (fixed <|> s.clock.changeAt v.dividers tc).getD tc.frame)
  (s.clock.change.map fun ch => (ch.1.rateCode, ch.2)).toList
    ++ (others.filterMap fun t => t.view.timing.map fun tc => at_ tc (t.commit.bind (·.changeFrame)))
    ++ v.timing.toList.map fun tc => at_ tc none

/-- Rates that will be in force from the target on: the one in force up to a change frame that the target does not reach, that of a
pending change, those that accepted commits carry, and one that the commit carries (R22). -/
def State.ratesFrom (s : State) (v : ShowState) (others : List TxnSlot) (target : Nat) : List Nat :=
  let ahead := s.changesAhead v others
  let now := if s.clock.accepted && !(s.clock.run && ahead.any fun e => e.2 ≤ target) then [s.clock.block.rateCode] else []
  let codes := (now ++ ahead.map (·.1)).eraseDups
  if codes.isEmpty then [0] else codes

/-- The frame that the checks take as the target of a commit: START_FRAME for one that waits for the show clock (R111). -/
def State.targetOf (s : State) (k : Commit) : Nat := if k.stopped && !k.decided then s.clock.startFrame else k.target

/-- Ranges that the waiting commits free, each at its target. -/
def State.freedBy (s : State) (v : ShowState) : List TxnSlot → List Freed
  | [] => []
  | t :: ts =>
    let v' := (applyWrites v t.writes).settled
    freedRanges v.canvas.canvases v'.canvas.canvases (t.commit.elim 0 s.targetOf) ++ s.freedBy v' ts

/-- The status of the first staged write that fails against DEV_EPOCH with the commits `others` applied, or of the
first failing chapter check (R582, R583). -/
def State.writesStatus (s : State) (ws : List ShowWrite) (others : List TxnSlot) (db : Pos) (target : Nat) : Option Status :=
  let before := viewAfter s.txn.view others
  let env := s.checkEnv others db
  match recheckWrites env before ws with
  | some st => some st
  | none =>
    let v := applyWrites before ws
    chapterStatus ⟨env, s.ratesFrom v others target, (s.changesAhead v others).map (·.2), before.canvas.canvases,
      s.render.freed ++ s.freedBy s.txn.view others, target⟩ v

/-! ### TXN_COMMIT (R81, R583) -/

/-- Another mailbox executes a write of the transaction (R80). -/
def State.writeExecuting (s : State) (slot : Nat) (t : TxnSlot) (m : Nat) : Bool :=
  s.host.execs.any fun e => e.mbx != m && bit (fld e.req 2 2) 1 && bits (fld e.req 2 2) 4 4 == slot
    && bits (fld e.req 2 2) 8 8 == t.gen && fld e.req 8 4 == t.session && (showCmd (fld e.req 0 2)).isSome

/-- The response of TXN_COMMIT. -/
def commitResp (target : Nat) (latch : Pos) (epoch : Nat) : Bytes :=
  bytesLE 8 target ++ posBytes latch ++ zeros 6 ++ bytesLE 8 epoch

/-- Steps 1 to 4 of the commit checks: the status, or the target (0 while the clock is stopped). -/
def State.commitFront (s : State) (t : TxnSlot) (mode target : Nat) (c : Ctx) : Status ⊕ Nat :=
  if c.busy || s.update.act.isSome || !s.update.foreign.isEmpty || s.group.phase == .forming then .inl .busy
  else if t.commit.isSome || (mode == 0 && !s.clock.run) then .inl .conflict
  else if !s.clock.run then .inr 0
  else match s.commitTarget mode target c.db with
    | .inl st => .inl st
    | .inr n => match s.targetStatus t n s.txn.waitingTxns with
      | some st => .inl st
      | none => .inr n

/-- A transaction discarded. -/
def State.dropTxn (s : State) (slot : Nat) : State := { s with txn := { s.txn with slots := s.txn.slots.del slot } }

/-- Accepted commits that no open transaction can conflict with any more are forgotten; in a group the last 128 stay. -/
def TxnState.pruneAccepted (t : TxnState) (order : Nat) : TxnState :=
  let low := (t.slots.map fun e => e.2.opened).foldl min t.nextSeq
  { t with accepted := t.accepted.filter fun a => low ≤ a.seq || (0 < a.place && order < a.place + 128) }

/-- A transaction becomes committed, with its place in the order of acceptance. -/
def State.markCommitted (s : State) (slot : Nat) (t : TxnSlot) (op gseq target : Nat) : State :=
  let place := if s.group.inGroup then s.group.order + 1 else 0
  let k : Commit := { seq := s.txn.nextSeq, op := op, target := target, lead := s.commitLead, stopped := !s.clock.run,
                      gseq := gseq, place := place
                      changeFrame := if s.clock.run then s.changeOf t s.txn.waitingTxns else none }
  { s with
    group := { s.group with order := place }
    txn := ({ s.txn with
      slots := s.txn.slots.put slot ({ t with commit := some k } : TxnSlot)
      accepted := s.txn.accepted ++ [⟨s.txn.nextSeq, place, writtenObjects t.baseView t.writes⟩]
      nextSeq := s.txn.nextSeq + 1 } : TxnState).pruneAccepted place }

/-- The number of this device's next commit in its group: its own count, and the member. -/
def GroupState.nextGseq (g : GroupState) : Nat := g.askNext * 32 + g.me

/-- A commit of this device accepted and, by the coordinator, sent to every other member (R509). -/
def State.takeCommit (s : State) (slot : Nat) (t : TxnSlot) (op target : Nat) : State :=
  let gseq := s.group.nextGseq
  let stopped := !s.clock.run
  let s := ({ s with group := { s.group with askNext := s.group.askNext + 1 } } : State).markCommitted slot t op gseq target
  if s.group.isCoord then s.gcast 1 (.commit gseq target s.group.order stopped t.writes) else s

/-- TXN_COMMIT after the generic checks. -/
def txnCommitBody (c : Ctx) (s : State) : State × Reply :=
  let slot := fld c.payload 0 1
  match s.txn.slots.find slot with
  | none => s.fail .badArgument
  | some t =>
    match s.commitFront t (fld c.payload 2 1) (fld c.payload 8 8) c with
    | .inl st => s.fail st
    | .inr n =>
      if s.conflicts t then (s.dropTxn slot).fail .conflict
      else match s.writesStatus t.writes s.txn.waitingTxns c.db (if s.clock.run then n else s.clock.startFrame) with
        | some st => s.fail st
        | none =>
          if s.group.inGroup && 64 ≤ s.txn.waiting.length + s.group.asked.length then s.fail .noResource
          else
            let pos := if s.clock.run then s.clock.latchPos n else 0
            s.accept c (.commit slot) (commitResp n pos 0) fun id s => s.takeCommit slot t id n

/-- The handle of TXN_COMMIT names a transaction of its session. -/
def commitHandleOk (c : Ctx) (s : State) : Bool :=
  (s.txn.slots.find (fld c.payload 0 1)).elim false (fun t => t.gen == fld c.payload 1 1 && t.session == c.session)
    && zeroAt c.payload 3 5

/-- TXN_COMMIT. -/
def txnCommitSpec : CommandSpec :=
  { code := 0x0111, kind := .device, lengthOk := lenIs 16, roleOk := operator, argOk := commitHandleOk
    rangeOk := fun c _ => upTo c.payload 2 1 1, body := txnCommitBody }

/-! ### TXN_COMMIT on a member of a group (R509) -/

/-- The commits of this device go to a coordinator that is another device. -/
def GroupState.asks (g : GroupState) : Bool := g.inGroup && g.live && !g.resync && g.coord.isSome && !g.isCoord

/-- A request that has passed this device's checks goes to the coordinator, and executes until the answer is there. -/
def State.askCommit (s : State) (e : ExecReq) : State :=
  let c := e.ctx
  let r := (txnCommitSpec.execute c e.poison s).2
  let slot := fld c.payload 0 1
  match s.txn.slots.find slot, s.group.coord with
  | some t, some k =>
    if r.status != .accepted then s.runExec txnCommitSpec e
    else
      let g := s.group.nextGseq
      let n := fld r.resp 0 8
      let a : Asked := ⟨e.mbx, e.req, g, slot, n, t.writes⟩
      let s := { s with group := { s.group with askNext := s.group.askNext + 1, asked := s.group.asked ++ [a] } }
      s.gsend k 1 (.commit g n s.group.order (!s.clock.run) t.writes)
  | _, _ => s.runExec txnCommitSpec e

/-- The row TXN_COMMIT. -/
def State.commitMbx (s : State) (m : Nat) : State :=
  if !s.group.asks || !s.host.mbxReady then s.runMbx txnCommitSpec m
  else
    let new_ := s.host.execs.find? fun e =>
      e.mbx == m && fld e.req 0 2 == 0x0111 && !s.group.asked.any fun a => a.mbx == m && a.req == e.req
    new_.elim s s.askCommit

/-- The request of a commit that the coordinator has answered completes. -/
def State.endAsked (s : State) (a : Asked) (f : Ctx → State → State × Reply) : State :=
  let s := { s with group := { s.group with asked := s.group.asked.filter (·.seq != a.seq) } }
  match s.host.execs.find? fun e => e.mbx == a.mbx && e.req == a.req with
  | none => (f (ctxOf a.mbx a.req 0 0xFF) s).1
  | some e =>
    let c := e.ctx
    let r := f c { s with host := s.host.dropExec e }
    r.1.finish c e.orphan r.2

/-- The coordinator has given a commit of this device its place: it is accepted. -/
def State.askedPlaced (s : State) (a : Asked) : State :=
  s.endAsked a fun c s =>
    match s.txn.slots.find a.slot with
    | none => s.fail .late
    | some t =>
      let done : Reply := ⟨.accepted, commitResp a.target (if s.clock.run then s.clock.latchPos a.target else 0) 0, none⟩
      let id := s.host.nextOp
      let o : Op := { id := id, command := c.code, flags := c.flags, tag := c.tag, session := c.session, kind := .commit a.slot }
      let s := { s with host := { s.host with ops := s.host.ops ++ [o], nextOp := id + 1 } }
      (s.markCommitted a.slot ({ t with writes := a.writes } : TxnSlot) id a.seq a.target, done)

/-- The coordinator refuses a commit of this device, which is discarded under R80, and stays open where there are too many (R509). -/
def State.askedConflict (s : State) (a : Asked) (full : Bool) : State :=
  s.endAsked a fun _ s => if full then s.fail .noResource else (s.dropTxn a.slot).fail .conflict

/-- Commits that no coordinator will answer complete with LATE, with no effect (DESIGN CHOICE, assumption 59). -/
def State.dropAsked (s : State) : State := s.group.asked.foldl (fun s a => s.endAsked a fun _ s => s.fail .late) s

/-- The commit of another member takes its place (R509): a slot of its own holds it. -/
def State.remoteCommit (s : State) (gseq target : Nat) (ws : List ShowWrite) : State :=
  let t : TxnSlot := { gen := 0, session := 0, base := s.host.devEpoch, baseView := s.txn.view, writes := ws, opened := s.txn.nextSeq }
  s.markCommitted (16 + s.txn.nextSeq) t 0 gseq target

/-- A commit that the group has given the number. -/
def State.groupCommit (s : State) (gseq : Nat) : Option (Nat × TxnSlot × Commit) :=
  (s.txn.waiting.find? fun e => e.2.commit.elim false (·.gseq == gseq)).bind fun e => e.2.commit.map fun k => (e.1, e.2, k)

/-- A commit changed. -/
def State.setCommit (s : State) (slot : Nat) (t : TxnSlot) (k : Commit) : State :=
  { s with txn := { s.txn with slots := s.txn.slots.put slot ({ t with commit := some k } : TxnSlot) } }

/-! ### TXN_OPEN, TXN_CANCEL -/

/-- The free numbers below `n` of a table. -/
def freeSlots {α : Type} (m : Map α) (n : Nat) : List Nat := (List.range n).filter fun k => !m.has k

/-- A free slot, which one being open (assumption 3). -/
def State.pickSlot (s : State) (free : List Nat) : Nat × State :=
  let r := s.fresh
  (free.getD (r.1 % max 1 free.length) 0, r.2)

/-- TXN_OPEN after the generic checks (R75, R76). -/
def txnOpenBody (c : Ctx) (s : State) : State × Reply :=
  let free := freeSlots s.txn.slots 16
  if free.isEmpty then s.fail .noResource
  else
    let r := s.pickSlot free
    let gen := s.txn.gens.getD r.1 0
    let t : TxnSlot :=
      { gen := gen, session := c.session, base := s.host.devEpoch, baseView := s.txn.view, opened := s.txn.nextSeq }
    let s := { r.2 with txn := { r.2.txn with
      slots := r.2.txn.slots.put r.1 t, gens := r.2.txn.gens.put r.1 ((gen + 1) % 256) } }
    s.okWith (bytesLE 1 r.1 ++ bytesLE 1 gen ++ zeros 6 ++ bytesLE 8 s.host.devEpoch)

/-- TXN_OPEN. -/
def txnOpenSpec : CommandSpec :=
  { code := 0x0110, kind := .device, lengthOk := lenIs 8, roleOk := operator,
    argOk := fun c _ => zeroAt c.payload 0 8, body := txnOpenBody }

/-- SLOT and GEN of a HANDLE. -/
def handleSlot (p : Bytes) : Nat := bits (fld p 0 4) 0 4
def handleGen (p : Bytes) : Nat := bits (fld p 0 4) 8 8

/-- The other bits of a HANDLE and the reserved field are zero. -/
def handleZeros (p : Bytes) : Bool := bits (fld p 0 4) 4 4 == 0 && bits (fld p 0 4) 16 16 == 0 && zeroAt p 4 4

/-- TXN_CANCEL (R83). -/
def txnCancelSpec : CommandSpec :=
  { code := 0x0112, kind := .device, lengthOk := lenIs 8, roleOk := operator,
    argOk := fun c s => handleZeros c.payload &&
      (s.txn.slots.find (handleSlot c.payload)).elim false fun t => t.gen == handleGen c.payload && t.session == c.session
    body := fun c s =>
      if (s.txn.slots.find (handleSlot c.payload)).elim false (·.commit.isSome) then s.fail .conflict
      else (s.dropTxn (handleSlot c.payload)).ok }

/-! ### Snapshots (R84, R85) -/

/-- A frame is in flight: its light time is to come, a window of it is open, or a canvas frame of it is still to be sent
(chapter "The H64 at work"). Its record stays for as long as its slot. -/
def FrameRec.inFlight (r : FrameRec) : Bool :=
  !r.lightDone || !r.mainClosed
    || (List.range 8).any fun k => r.hasCanvas k && !((r.win k).closed && (r.win k).scanDone)

/-- The epochs of the frames in flight. -/
def State.flightEpochs (s : State) : List Nat := (s.render.frames.filter (·.inFlight)).map (·.epoch)

/-- An epoch is retained for another reason than a snapshot (R84). -/
def State.keptAnyway (s : State) (e : Nat) : Bool := s.host.devEpoch < e + 64 || s.flightEpochs.contains e

/-- A snapshot that is not released pins the epoch. -/
def State.pinned (s : State) (e : Nat) : Bool := s.txn.snaps.any fun x => x.2.epoch == e && !x.2.released

/-- Epochs that nothing retains any more are dropped. -/
def State.pruneEpochs (s : State) : State :=
  { s with txn := { s.txn with epochs := s.txn.epochs.filter fun e => s.keptAnyway e.epoch || s.pinned e.epoch } }

/-- Bytes of object versions that are kept only because a snapshot pins them: versions of a pinned epoch that no epoch
retained for another reason holds, each counted once, with the 6 bytes of its object ID that its leaf digest covers too (R85, R522). -/
def State.pinnedBytes (s : State) : Nat :=
  let others := s.txn.view :: (s.txn.epochs.filter fun e => s.keptAnyway e.epoch).map (·.view)
  let only := (s.txn.epochs.filter fun e => !s.keptAnyway e.epoch && s.pinned e.epoch).flatMap fun e =>
    e.view.objects.filter fun o => !others.any fun v => v.objects.find o.1 == some o.2
  (only.eraseDups.map fun o => 6 + o.2.length).sum

/-- The oldest snapshot that is not released. -/
def TxnState.oldestSnap (t : TxnState) : Option Nat :=
  ((t.snaps.filter fun e => !e.2.released).foldl (fun b e =>
    match b with
    | none => some e
    | some x => if e.2.opened < x.2.opened then some e else some x) none).map (·.1)

/-- Snapshots released, oldest first, until the limit of 128 MiB holds (R85). -/
def State.limitSnaps (s : State) : Nat → State
  | 0 => s
  | k + 1 =>
    if s.pinnedBytes ≤ 134217728 then s
    else match s.txn.oldestSnap with
      | none => s
      | some i =>
        let s := { s with txn := { s.txn with snaps := s.txn.snaps.mapVal fun j x => if j = i then { x with released := true } else x } }
        ((s.devEvent 4).pruneEpochs).limitSnaps k

/-- The latch point at which a retained epoch took force. -/
def State.epochPos (s : State) (e : Nat) : Option Pos :=
  if e = s.host.devEpoch then some s.txn.viewPos
  else if s.keptAnyway e || s.pinned e then (s.txn.epochs.find? (·.epoch == e)).map (·.pos)
  else none

/-- SNAP_OPEN after the generic checks. -/
def snapOpenBody (c : Ctx) (s : State) : State × Reply :=
  let e := if fld c.payload 0 8 = 2 ^ 64 - 1 then s.host.devEpoch else fld c.payload 0 8
  let free := freeSlots s.txn.snaps 8
  match s.epochPos e with
  | none => s.fail .outOfRange
  | some pos =>
    if free.isEmpty then s.fail .noResource
    else
      let r := s.pickSlot free
      let gen := s.txn.snapGens.getD r.1 0
      let n : SnapSlot := ⟨gen, c.session, e, false, ((s.txn.snaps.map fun x => x.2.opened + 1).foldl max 0)⟩
      let s := { r.2 with txn := { r.2.txn with
        snaps := r.2.txn.snaps.put r.1 n, snapGens := r.2.txn.snapGens.put r.1 ((gen + 1) % 256) } }
      s.okWith (bytesLE 1 r.1 ++ bytesLE 1 gen ++ zeros 6 ++ bytesLE 8 e ++ posBytes pos ++ zeros 6)

/-- SNAP_OPEN. -/
def snapOpenSpec : CommandSpec :=
  { code := 0x0114, kind := .device, lengthOk := lenIs 8, roleOk := anyRole, body := snapOpenBody }

/-- SNAP_CLOSE (R85). -/
def snapCloseSpec : CommandSpec :=
  { code := 0x0115, kind := .device, lengthOk := lenIs 8, roleOk := anyRole,
    argOk := fun c s => handleZeros c.payload &&
      (s.txn.snaps.find (handleSlot c.payload)).elim false fun t => t.gen == handleGen c.payload && t.session == c.session
    body := fun c s =>
      (({ s with txn := { s.txn with snaps := s.txn.snaps.del (handleSlot c.payload) } } : State).pruneEpochs).ok }

/-! ### Commits that end without effect (R81, R111, R584) -/

/-- A commit ends without effect: its operation completes and its transaction is open again, also where its session has ended since
(DESIGN CHOICE, assumption 77: the spec does not say whether such a transaction is discarded); that of another member is forgotten. -/
def State.commitFails (s : State) (slot : Nat) (t : TxnSlot) (k : Commit) (st : Status) : State :=
  let s := { s with txn := { s.txn with
    slots := if slot < 16 then s.txn.slots.put slot ({ t with commit := none } : TxnSlot) else s.txn.slots.del slot
    accepted := s.txn.accepted.filter (·.seq != k.seq) } }
  let pos := if s.clock.run then s.clock.latchPos k.target else 0
  s.endOpId k.op st s.pos (commitResp (if s.clock.run then k.target else 0) pos 0)

/-- The statuses of the commits accepted after `seq`, checked again without it: slot, transaction, commit and what
fails (R584). -/
def State.recheckAfter (s : State) : List (Nat × TxnSlot) → List TxnSlot → List (Nat × TxnSlot × Commit × Status)
  | [], _ => []
  | (slot, t) :: rest, before =>
    match t.commit with
    | none => s.recheckAfter rest before
    | some k =>
      let early := if k.stopped then none else s.targetStatus t k.target before
      match early <|> s.writesStatus t.writes before s.pos (s.targetOf k) with
      | some st => (slot, t, k, st) :: s.recheckAfter rest before
      | none => s.recheckAfter rest (before ++ [t])

/-- ABORT of a commit: the new state, or nothing where a commit that has passed its decision point would fail. -/
def State.abortCommit (s : State) (slot : Nat) (t : TxnSlot) (k : Commit) : Option State :=
  let w := s.txn.waiting
  let before := (w.filter fun e => e.2.commit.elim false fun x => x.seq < k.seq).map (·.2)
  let after := w.filter fun e => e.2.commit.elim false fun x => k.seq < x.seq
  let bad := s.recheckAfter after before
  if bad.any (fun e => s.commitDecided e.2.2.1) then none
  else some (bad.foldl (fun s e => s.commitFails e.1 e.2.1 e.2.2.1 e.2.2.2) (s.commitFails slot t k .aborted))

/-- At t(START_FRAME) the commits accepted while the clock was stopped get their target, the first rendered frame, and
the checks that depend on it (R111). -/
def State.settleStopped (s : State) : State :=
  let n := s.clock.firstRendered
  (s.txn.waiting.filter fun e => e.2.commit.elim false fun k => k.stopped && !k.decided).foldl (fun s e =>
    match (s.txn.slots.find e.1).bind (·.commit) with
    | none => s
    | some k =>
      let t := e.2
      let before := (s.txn.waiting.filter fun x => x.2.commit.elim false fun y => y.seq < k.seq).map (·.2)
      let k := { k with target := n, decided := true, changeFrame := s.changeOf t before }
      match s.targetStatus t n before with
      | some st => s.commitFails e.1 t k st
      | none => { s with txn := { s.txn with slots := s.txn.slots.put e.1 { t with commit := some k } } }) s

/-! ### Meanings -/

/-- TXN_OPEN (R75, R76). -/
def execTxnOpen (dt m : Nat) (s : State) : Host.Outcome State Fault Refusal := s.act dt (·.runMbx txnOpenSpec m)

/-- TXN_COMMIT (R79 to R81, R111, R509, R582, R583). -/
def execTxnCommit (dt m : Nat) (s : State) : Host.Outcome State Fault Refusal := s.act dt (·.commitMbx m)

/-- TXN_CANCEL (R83). -/
def execTxnCancel (dt m : Nat) (s : State) : Host.Outcome State Fault Refusal := s.act dt (·.runMbx txnCancelSpec m)

/-- SNAP_OPEN (R84). -/
def execSnapOpen (dt m : Nat) (s : State) : Host.Outcome State Fault Refusal := s.act dt (·.runMbx snapOpenSpec m)

/-- SNAP_CLOSE (R85). -/
def execSnapClose (dt m : Nat) (s : State) : Host.Outcome State Fault Refusal := s.act dt (·.runMbx snapCloseSpec m)

end Sys2Proof.Machine
end

