-- ==== Sys2Proof/Machine/Receive.lean ====
section
/-!
DEFINITION. Machine/Receive.lean: reception of sACN, DMX, live values and video (R245 to R258), as functions
of the input state. The numbers answered beside a new state are interrupt sources.
-/

namespace Sys2Proof.Machine

/-- Interrupt sources of the table "Input events". -/
def srcSacnLimit : Nat := 0x60
def srcSacnLost : Nat := 0x61
def srcSacnSync : Nat := 0x62
def srcDmxLost : Nat := 0x63
def srcVideoFormat : Nat := 0x64
def srcVideoIncomplete : Nat := 0x65
def srcVideoRepeat : Nat := 0x66
def srcVideoSkip : Nat := 0x67
def srcVideoLost : Nat := 0x68

/-! ### sACN -/

/-- The source of a CID. -/
def RxDyn.source (d : RxDyn) (cid : Nat) : Option RxSource := d.sources.find? (·.cid == cid)

/-- The E1.31 sequence test of R246: d = new − last as a signed 8-bit number fails for −20 < d ≤ 0. -/
def seqFails (last new_ : Nat) : Bool :=
  let d := signed 8 ((new_ + 256 - last % 256) % 256)
  decide (-20 < d) && decide (d ≤ 0)

/-- A source put in place, or added at the end. -/
def RxDyn.putSource (d : RxDyn) (s : RxSource) : RxDyn :=
  { d with sources := if (d.source s.cid).isSome then d.sources.map fun x => if x.cid = s.cid then s else x else d.sources ++ [s] }

/-- A source ends (R247, R248): the universe keeps what it had when the last one ends. -/
def RxDyn.endSource (d : RxDyn) (cid : Nat) (pos : Pos) : RxDyn :=
  let left := d.sources.filter (·.cid != cid)
  let stamped := d.sources.any (·.stamped)
  let d := { d with counts := { d.counts with losses := d.counts.losses + 1 }, lastPos := pos }
  if left.isEmpty then
    { d with sources := [], lost := true, last := if stamped then mergedSlots d.sources else d.last,
             lastPrio := if stamped then mergedPriority d.sources else d.lastPrio }
  else { d with sources := left }

/-- A synchronisation address has lost its packets (R249). -/
def InputState.syncLost (s : InputState) (a : Nat) : Bool := (s.sync.find a).elim false (·.lost)

/-- A data packet of universe `k` (R245 to R249). -/
def RxDyn.dataPacket (d : RxDyn) (def_ : RxDef) (p : SacnData) (syncLost : Bool) (now : Nat) (pos : Pos) : RxDyn × List Nat :=
  let refuse : RxDyn := { d with counts := { d.counts with discarded := d.counts.discarded + 1 } }
  let src := d.source p.cid
  if p.preview || beNat (p.props.take 1) != 0 || 200 < p.priority || p.props.isEmpty || 513 < p.props.length
      || src.elim false (fun s => seqFails s.seq p.seq) then (refuse, [])
  else if src.isNone && 4 ≤ d.sources.length then
    ({ refuse with counts := { refuse.counts with repeats := refuse.counts.repeats + 1 } }, [srcSacnLimit])
  else
    let wasLost := d.lost
    -- a source that is tracked again ends the loss, whether its packet is stamped or held (R248)
    let d := { d with counts := { d.counts with accepted := d.counts.accepted + 1 }, lost := d.lost && src.isSome }
    if p.terminated then (if src.isSome then (d.endSource p.cid pos, [srcSacnLost]) else ({ d with lost := wasLost }, []))
    else
      let s0 : RxSource := src.getD ⟨p.cid, 0, 0, [], false, 0, none, 0, false⟩
      let named := p.sync != 0 && p.sync == def_.sync
      let s1 := { s0 with seq := p.seq, lastAt := now, sync := if named then p.sync else 0, force := p.force }
      if named && !(syncLost && !p.force) then
        ((d.putSource { s1 with held := some ⟨p.priority, p.props.drop 1, p.sync, p.force⟩ }), [])
      else
        ({ d.putSource { s1 with priority := p.priority, values := p.props.drop 1, stamped := true, held := none } with
           seen := true, lost := false, lastPos := pos, lastAt := now }, [])

/-- A synchronisation packet from `cid` with address `a` at a universe (R249). -/
def RxDyn.release (d : RxDyn) (cid a now : Nat) (pos : Pos) : RxDyn :=
  match d.source cid with
  | some s =>
    match s.held with
    | some h =>
      if h.sync = a then
        { d.putSource { s with priority := h.priority, values := h.values, stamped := true, held := none } with
          seen := true, lost := false, lastPos := pos, lastAt := now }
      else d
    | none => d
  | none => d

/-- A synchronisation packet (R249): it names its address alive and releases the held packets of its CID, at the universes that take
it. -/
def InputState.syncPacket (s : InputState) (takes : Nat → Bool) (cid a now : Nat) (pos : Pos) : InputState :=
  { s with sync := s.sync.put a ⟨now, false⟩, sacn := s.sacn.mapVal fun k d => if takes k then d.release cid a now pos else d }

/-- An address is lost (R249): from then on packets of Force_Synchronization 0 are stamped on arrival, and those already held stay held
(DEDUCED, assumption 116). -/
def InputState.loseSync (s : InputState) (a now : Nat) : InputState :=
  { s with
    sync := s.sync.put a ⟨(s.sync.find a).elim now (·.lastAt), true⟩
    sacn := s.sacn.mapVal fun _ d => if d.sources.any (·.sync == a) then
        { d with counts := { d.counts with losses := d.counts.losses + 1 } } else d }

/-- 2,500 ms and 1,250 ms in TIME cycles. -/
def lossCycles : Nat := 2500 * cycMs
def dmxLossCycles : Nat := 1250 * cycMs

/-- What a receive universe or DMX input contributes (R247, R248): live sources, or what it holds. -/
def RxDyn.latched (d : RxDyn) (hold : Bool) : Option RxLatched :=
  if d.sources.any (·.stamped) then some ⟨mergedSlots d.sources, mergedPriority d.sources⟩
  else if d.lost && hold then some ⟨d.last, d.lastPrio⟩
  else none

/-! ### DMX input (R250, R251) -/

/-- Slots set over the previous ones; the others keep their values. -/
def overlay (old new_ : Bytes) : Bytes := new_ ++ old.drop new_.length

/-- A DMX input packet: start code and the slots received up to the first framing error. -/
def RxDyn.dmxPacket (d : RxDyn) (start : Nat) (slots : Bytes) (now : Nat) (pos : Pos) : RxDyn :=
  if start != 0 then { d with counts := { d.counts with discarded := d.counts.discarded + 1 } }
  else
    { d with last := overlay d.last (slots.take 512), seen := true, lost := false, lastPos := pos, lastAt := now,
             counts := { d.counts with accepted := d.counts.accepted + 1 } }

/-- What a DMX input contributes. -/
def RxDyn.dmxLatched (d : RxDyn) (hold : Bool) : Option Bytes :=
  if !d.seen || (d.lost && !hold) then none else some d.last

/-! ### Live values (R252) -/

/-- The live values latched at L(n): those whose layer's timeout has not passed. -/
def liveKept (v : InputShow) (l : Instant) (m : Map LiveVal) : Map LiveVal :=
  m.filter fun e =>
    let wait := (v.layers.getD (e.1 / 2 ^ 24) {}).liveTimeout
    wait == 0 || decide (l < e.2.stamp + msUnits wait)

/-- The entries of LIVE_WRITE: address, whether it releases, value. -/
def liveEntries (p : Bytes) : List (Nat × Nat × Nat) :=
  (records 8 (fld p 4 4) (p.drop 8)).map fun r => (bits (fld r 0 4) 0 24, bits (fld r 0 4) 24 8, bits (fld r 4 4) 0 24)

/-- LIVE_WRITE applied to the live values (R252, R265). -/
def applyLive (m : Map LiveVal) (p : Bytes) (stamp : Instant) : Map LiveVal :=
  let l := fld p 0 1
  let m := if bit (fld p 1 1) 0 then m.filter (fun e => e.1 / 2 ^ 24 != l) else m
  (liveEntries p).foldl (fun m e =>
    if e.2.1 = 1 then m.del (l * 2 ^ 24 + e.1) else m.put (l * 2 ^ 24 + e.1) ⟨e.2.2, stamp⟩) m

/-! ### Video (R254 to R258) -/

/-- A received sample as 10 bits (R255). -/
def to10 (eight : Bool) (d : Nat) : Nat := if eight then d * 4 + d / 64 else d

/-- 4:2:2 carries 10 bits; 4:4:4 and RGB carry 8. -/
def vidEight (cfg : Bytes) : Bool := vidSampling cfg != 0

/-- A segment lies in the raster, and its pixels carry the chroma that the sampling gives them. -/
def segFits (cfg : Bytes) (s : VideoSeg) : Bool :=
  s.line < vidHeight cfg && s.column + s.pixels.length ≤ vidWidth cfg
    && ((List.range s.pixels.length).zip s.pixels).all fun e =>
        e.2.chroma.isSome == (vidSampling cfg != 0 || (s.column + e.1) % 2 == 0)

/-- A stored pixel. -/
def storePix (eight : Bool) (p : VideoPix) : VideoPix :=
  ⟨to10 eight p.d0, p.chroma.map fun c => (to10 eight c.1, to10 eight c.2)⟩

/-- A segment stored in a frame at an instant. -/
def VideoFrame.store (f : VideoFrame) (cfg : Bytes) (at_ : Instant) (s : VideoSeg) : VideoFrame :=
  { f with
    pixels := ((List.range s.pixels.length).zip s.pixels).foldl (fun m e =>
      m.put (s.line * 4096 + s.column + e.1) (storePix (vidEight cfg) e.2)) f.pixels
    lineAt := f.lineAt.put s.line at_ }

/-- Every pixel of a line is stored. -/
def VideoFrame.lineWhole (f : VideoFrame) (cfg : Bytes) (y : Nat) : Bool :=
  (List.range (vidWidth cfg)).all fun x => f.pixels.has (y * 4096 + x)

/-- The instant at which lines 0 to `y` are all in DRAM; none while one is missing. -/
def VideoFrame.writtenAt (f : VideoFrame) (cfg : Bytes) (y : Nat) : Option Instant :=
  if f.lineWhole cfg y then f.lineAt.find y else none

/-- An input frame that was being received becomes incomplete (R255). -/
def VideoDyn.giveUp (d : VideoDyn) : VideoDyn × List Nat :=
  match d.current with
  | none => (d, [])
  | some _ => ({ d with current := none, counts := { d.counts with incomplete := d.counts.incomplete + 1 } }, [srcVideoIncomplete])

/-- A packet belongs to the stream that an input is configured for: port, IP version, UDP port, payload type, group, and source where
the filter is on (R254). -/
def VideoPacket.suits (p : VideoPacket) (cfg : Bytes) : Bool :=
  p.port == vidPort cfg && p.v6 == bit (fld cfg 7 1) 1 && p.udp == fld cfg 0x0C 2 && p.payloadType == fld cfg 0x0E 1
    && p.group == slice cfg 0x10 16 && (!bit (fld cfg 7 1) 2 || p.source == slice cfg 0x20 16)

/-- The payload matches the configured raster and sampling, progressive (R254, R255). -/
def VideoPacket.fits (p : VideoPacket) (cfg : Bytes) : Bool :=
  p.sampling == vidSampling cfg && !p.field && p.segs.length ≤ 3 && p.segs.all (segFits cfg)

/-- A packet carries the first pixel of a frame: it is the frame's first packet. A frame whose first received packet is another has
lost packets before it (DEDUCED, assumption 91). -/
def VideoPacket.isFirst (p : VideoPacket) : Bool := (p.segs.head?).elim false fun x => x.line == 0 && x.column == 0

/-- The frame that is being received has another RTP timestamp than a packet: its marker packet is lost (R255). -/
def VideoDyn.overtaken (d : VideoDyn) (p : VideoPacket) : Bool := d.current.elim false (·.rtp != p.rtp)

/-- The frame that a packet adds to, as it stood and as the packet leaves it. -/
def VideoDyn.grown (d : VideoDyn) (cfg : Bytes) (p : VideoPacket) (at_ : Instant) : VideoFrame × VideoFrame :=
  let new_ : VideoFrame :=
    { id := d.nextId, firstAt := at_, seq := (p.seq + 65535) % 65536, gap := !p.isFirst, rtp := p.rtp }
  let f0 : VideoFrame := if d.overtaken p then new_ else d.current.getD new_
  (f0, p.segs.foldl (fun f x => f.store cfg at_ x) { f0 with seq := p.seq % 65536, gap := f0.gap || (f0.seq + 1) % 65536 != p.seq % 65536 })

/-- A packet of a video input (R255). `busy` says how many of the four buffers other frames hold. -/
def VideoDyn.packet (d : VideoDyn) (cfg : Bytes) (p : VideoPacket) (busy : Nat) (at_ : Instant) (now : Nat) (pos : Pos) :
    VideoDyn × List Nat :=
  let d := { d with lastPacket := now, seen := true }
  if !p.fits cfg then ({ d with counts := { d.counts with discarded := d.counts.discarded + 1 } }, [srcVideoFormat])
  else
    let e := if d.overtaken p then d.giveUp else (d, [])
    let d := e.1
    let start := d.current.isNone
    if d.dropping == some p.rtp then (d, e.2)
    else if start && 4 ≤ busy then
      -- no buffer: the arriving frame is dropped and counted as a skip
      ({ d with dropping := some p.rtp, counts := { d.counts with skips := d.counts.skips + 1 } }, e.2 ++ [srcVideoSkip])
    else
      let f := (d.grown cfg p at_).2
      let d := { d with nextId := if start then d.nextId + 1 else d.nextId, dropping := none }
      if !p.marker then ({ d with current := some f }, e.2)
      else if f.gap then
        let r := ({ d with current := some f } : VideoDyn).giveUp
        (r.1, e.2 ++ r.2)
      else
        ({ d with current := none, complete := d.complete ++ [{ f with completeAt := some at_ }], lost := false, lastPos := pos,
                  counts := { d.counts with accepted := d.counts.accepted + 1 } }, e.2)

/-- Whole-frame assignment at L(n) (R256, R258): the newest complete frame, or the one before again. -/
def VideoDyn.assign (d : VideoDyn) (hold : Bool) : VideoDyn × List Nat :=
  match d.complete.getLast? with
  | some f =>
    let k := d.complete.length - 1
    ({ d with assigned := some f, complete := [], counts := { d.counts with skips := d.counts.skips + BitVec.ofNat 32 k } },
     List.replicate k srcVideoSkip)
  | none =>
    if d.lost && !hold then ({ d with assigned := none }, [])
    else if d.lost || d.assigned.isNone then (d, [])
    else ({ d with counts := { d.counts with repeats := d.counts.repeats + 1 } }, [srcVideoRepeat])

/-! ### INPUT_STATUS (R269) -/

/-- STATE of INPUT_STATUS. -/
def inputStateCode (defined seen lost hold : Bool) : Nat :=
  if !defined then 0 else if lost then (if hold then 3 else 4) else if seen then 2 else 1

/-- The INPUT_STATUS response. -/
def inputStatus (state sources priority : Nat) (pos : Pos) (c : InputCounts) : Bytes :=
  bytesLE 1 state ++ bytesLE 1 sources ++ bytesLE 1 priority ++ zeros 5 ++ posBytes pos ++ zeros 6
    ++ bytesLE 4 c.accepted.toNat ++ bytesLE 4 c.discarded.toNat ++ bytesLE 4 c.losses.toNat ++ bytesLE 4 c.repeats.toNat
    ++ bytesLE 4 c.skips.toNat ++ bytesLE 4 c.incomplete.toNat

end Sys2Proof.Machine
end

