-- ==== Sys2Proof/Machine/IcuExec.lean ====
section
/-!
DEFINITION. Machine/IcuExec.lean: the commands of the interrupt controller and writes of its registers (R461 to R472).
-/

namespace Sys2Proof.Machine

/-- The sources whose bit is set in a 32-bit value written to register `p` of ICU_PEND or ICU_PEND_SET. -/
def pendBits (p v : Nat) : List Nat := ((List.range 32).filter (bit v)).map (32 * p + ·)

/-- A write of ICU_PEND_SET (R462). -/
def State.pendSet (s : State) (p v : Nat) : State :=
  { s with icu := (pendBits p v).foldl (fun i n => i.pend n s.now) s.icu }

/-- A write of ICU_PEND (R463). -/
def State.pendClear (s : State) (p v : Nat) : State :=
  { s with icu := (pendBits p v).foldl (fun i n => i.setSrc n (IcuSource.clear s.now)) s.icu }

/-- A read of ICU_CLAIM (R465). -/
def State.icuClaim (s : State) (t : Nat) : State :=
  if 36 ≤ t then s
  else
    let r := s.icu.claim t s.now
    { s with icu := r.1, host := { s.host with readData := r.2 } }

/-- A write of ICU_COMPLETE (R466). -/
def State.icuComplete (s : State) (t v : Nat) : State :=
  if 36 ≤ t then s else { s with icu := s.icu.complete t (v % 256) (s.levelHolds (v % 256)) s.now }

/-- A write of ICU_SRC_CFG: a TARGET above 35 keeps the old one. -/
def IcuSource.configure (x : IcuSource) (v : Nat) : IcuSource :=
  { x with prio := bits v 0 4, target := if bits v 4 6 ≤ 35 then bits v 4 6 else x.target, wake := bit v 10 }

/-- A write of ICU_GRP_CFG: a FALLBACK above 35 keeps the old one. -/
def IcuGroup.configure (x : IcuGroup) (v : Nat) : IcuGroup :=
  { x with holdoffUs := bits v 0 16, fallback := if bits v 16 6 ≤ 35 then bits v 16 6 else x.fallback }

/-- A 32-bit half of a 64-bit register replaced. -/
def setHalf (old : BitVec 64) (hi : Bool) (v : Nat) : BitVec 64 :=
  if hi then BitVec.ofNat 64 (old.toNat % 2 ^ 32 + v % 2 ^ 32 * 2 ^ 32)
  else BitVec.ofNat 64 (old.toNat / 2 ^ 32 * 2 ^ 32 + v % 2 ^ 32)

/-- A write to the MSI-X table (R472): address, data and vector control of vector `t`. -/
def IcuTarget.msixWrite (x : IcuTarget) (off v : Nat) : IcuTarget :=
  if off = 0 then { x with addr := setHalf x.addr false v }
  else if off = 4 then { x with addr := setHalf x.addr true v }
  else if off = 8 then { x with data := BitVec.ofNat 32 v }
  else { x with masked := bit v 0 }

/-- A 32-bit write to an ICU_ register at offset `off` (R472). -/
def State.icuWrite (s : State) (off v : Nat) : State :=
  if off < 0x400 then { s with icu := s.icu.setSrc (off / 4) (·.configure v) }
  else if off < 0x420 then s.pendClear ((off - 0x400) / 4) v
  else if off < 0x440 then s.pendSet ((off - 0x420) / 4) v
  else if 0x460 ≤ off && off < 0x4A0 then
    { s with icu := { s.icu with groups := s.icu.groups.upd ((off - 0x460) / 4) {} (·.configure v) } }
  else if 0x500 ≤ off && off < 0x700 then
    let t := (off - 0x500) / 16
    if off % 16 = 4 then s.icuComplete t v
    else if off % 16 = 8 then { s with icu := s.icu.setTgt t fun x => { x with threshold := bits v 0 4 } }
    else if off % 16 = 12 && bit v 6 then { s with icu := s.icu.setTgt t fun x => { x with badComplete := false } }
    else s
  else if 0x800 ≤ off && off < 0xA00 then
    { s with icu := s.icu.setTgt ((off - 0x800) / 16) (·.msixWrite (off % 16) v) }
  else s

/-- The registers that ICU_CONFIG_WRITE writes: ICU_SRC_CFG, ICU_GRP_CFG, ICU_THRESHOLD. -/
def icuConfigOff (off : Nat) : Bool :=
  off % 4 == 0 && (off < 0x400 || (0x460 ≤ off && off < 0x4A0) || (0x500 ≤ off && off < 0x700 && off % 16 == 8))

/-- A mask, enable, power or sleep state changes (R468, R470). -/
def IcuState.control (i : IcuState) (c : SleepControl) (on : Bool) : IcuState :=
  match c with
  | .vectorMask t => if t < 32 then i.setTgt t fun x => { x with masked := on } else i
  | .functionMask => { i with fnMask := on }
  | .msixEnable => { i with msixEnable := on }
  | .busMaster => { i with busMaster := on }
  | .d3hot => { i with d3hot := on }
  | .pmeEn => { i with pmeEn := on }
  | .coreSleep k => if k < 4 then i.setTgt (32 + k) fun x => { x with sleeping := on } else i

/-- The hold-off of a group ends (R469): every target that presents a source of the group is to be notified again. -/
def IcuState.holdExpire (i : IcuState) (g now : Nat) : IcuState :=
  match (i.grp g).holdEnd with
  | none => i
  | some e =>
    if now < e then i
    else
      let i := { i with groups := i.groups.upd g {} fun x => { x with holdEnd := none } }
      (List.range 36).foldl (fun i t =>
        if (i.offered t).any fun n => srcGroup n == g then i.setTgt t fun x => { x with presenting := false } else i) i

/-- A pending source without WAKE whose target sleeps goes to its group's fallback, once HOLDOFF_US has passed since it
became pending (R470). -/
def IcuState.redirect (i : IcuState) (n now : Nat) : IcuState :=
  let x := i.src n
  let wait := (i.grp (srcGroup n)).holdoffUs * cycUs
  if x.phase == .pending && !x.wake && !x.redirected && i.asleep x.target && x.pendSince + wait ≤ now then
    i.setSrc n fun x => { x with redirected := true }
  else i

/-- ICU_PEND_SET (R462): `p` is the pair of groups. -/
def execIcuPendSet (dt p value : Nat) (s : State) : Host.Outcome State Fault Refusal := s.act dt (·.pendSet (p % 8) value)
/-- ICU_PEND_CLEAR (R463). -/
def execIcuPendClear (dt p value : Nat) (s : State) : Host.Outcome State Fault Refusal := s.act dt (·.pendClear (p % 8) value)
/-- ICU_CLAIM (R465): the value read stands in `readData`. -/
def execIcuClaim (dt target : Nat) (s : State) : Host.Outcome State Fault Refusal := s.act dt (·.icuClaim target)
/-- ICU_COMPLETE (R466). -/
def execIcuComplete (dt target value : Nat) (s : State) : Host.Outcome State Fault Refusal :=
  s.act dt (·.icuComplete target value)
/-- ICU_CONFIG_WRITE (R470, R472): delivery is evaluated again after every command. -/
def execIcuConfigWrite (dt off value : Nat) (s : State) : Host.Outcome State Fault Refusal :=
  s.act dt fun s => if icuConfigOff off then s.icuWrite off value else s
/-- MSIX_MASK_CHANGE (R468, R470). -/
def execMsixMaskChange (dt : Nat) (control : SleepControl) (on : Bool) (s : State) : Host.Outcome State Fault Refusal :=
  s.act dt fun s => { s with icu := s.icu.control control on }
/-- ICU_HOLDOFF_EXPIRY (R469). -/
def execIcuHoldoffExpiry (dt g : Nat) (s : State) : Host.Outcome State Fault Refusal :=
  s.act dt fun s => { s with icu := s.icu.holdExpire g s.now }
/-- ICU_REDIRECT (R470). -/
def execIcuRedirect (dt source : Nat) (s : State) : Host.Outcome State Fault Refusal :=
  s.act dt fun s => { s with icu := s.icu.redirect source s.now }

end Sys2Proof.Machine
end

