-- ==== Sys2Proof/Machine/Ecc.lean ====
section
/-!
DEFINITION. Machine/Ecc.lean: memory integrity and the commands on queues (R473 to R493).
-/

namespace Sys2Proof.Machine

/-! ### Memories and words (R473) -/

/-- Bytes of MEM 0 to 4, in the order in which the scrubber takes them (DESIGN CHOICE, assumption 48). -/
def memSizes : List Nat := [2147483648, 134217728, 16777216, 2097152, 6291456]

/-- The word size of a memory. -/
def wordBytes (mem : Nat) : Nat := if mem = 0 then 8 else 4

/-- A word: MEM × 2^40 + byte offset, bits below the word size ignored. -/
def wordOf (mem addr : Nat) : Nat := mem * 2 ^ 40 + addr % 2 ^ 40 / wordBytes mem * wordBytes mem

def wordMem (w : Nat) : Nat := w / 2 ^ 40
def wordAddr (w : Nat) : Nat := w % 2 ^ 40

/-- The bank or macro of a word, as MEM × 2^20 + number, and the spare rows it has. -/
def wordBank (w : Nat) : Nat :=
  wordMem w * 2 ^ 20 + (if wordMem w = 0 then Config.dramBank (wordAddr w) % 256 else wordAddr w / 2 ^ 20)
def spareRows (mem : Nat) : Nat := if mem = 0 then 16 else 4

/-- The row of a word. -/
def wordRow (w : Nat) : Nat := wordMem w * 2 ^ 40 + Config.memRow (wordMem w) (wordAddr w)

/-- The number of ones in the low `n` bits of a number. -/
def ones (n x : Nat) : Nat := ((List.range n).filter (bit x)).length

/-! ### Events (R474, R475, R478, R490) -/

/-- ECC_LAST_LOC and ECC_LAST_FRAME take an event. -/
def EccState.note (e : EccState) (mem addr kind syndrome frame : Nat) : EccState :=
  { e with lastLoc := addr % 2 ^ 40 + mem * 2 ^ 40 + kind * 2 ^ 44 + syndrome % 256 * 2 ^ 48, lastFrame := frame }

/-- A sticky bit of ECC_STATUS set in cycle `now`. -/
def EccState.stick (e : EccState) (b now : Nat) : EccState :=
  { e with sticky := e.sticky ||| 2 ^ b, stickyAt := e.stickyAt.put b now }

/-- Test access is open (R491). -/
def HostState.eccOpen (h : HostState) : Bool := h.sessions.any fun s => s.2.eccAccess && s.2.role == 2

/-- A correction of a word noted by the repeat tracker: the times of its last three corrections, and no more than 256
entries, of which the one whose latest correction is oldest gives way. -/
def EccState.track (e : EccState) (w now : Nat) : EccState :=
  match e.tracker.find? (·.word == w) with
  | some x => { e with tracker := (e.tracker.filter (·.word != w)) ++ [⟨w, (now :: x.times).take 3⟩] }
  | none =>
    let oldest := e.tracker.foldl (fun b x =>
      match b with
      | none => some x
      | some y => if x.times.headD 0 < y.times.headD 0 then some x else some y) (none : Option TrackEntry)
    let kept := if e.tracker.length < 256 then e.tracker else oldest.elim e.tracker fun y => e.tracker.erase y
    { e with tracker := kept ++ [⟨w, [now]⟩] }

/-- A correction counts in CORRECTED of the large queue whose entry the word holds (R485): Reel's ready queue in the queue memories, the
input record log and the capture stream in DRAM. Whether it is one of theirs is free (assumption 99). -/
def State.queueCorrected (s : State) (mem : Nat) : State :=
  if mem != 0 && mem != 3 then s
  else
    let q := if mem = 3 then (if bit s.fresh.1 0 then 0x100 else 0) else [0, 0x200, 0x300].getD (s.fresh.1 % 3) 0
    let s := s.fresh.2
    if q = 0 then s
    else { s with queues := s.queues.upd q { level := s.queueLevel q } fun d => { d with corrected := d.corrected + 1 } }

/-- A single-bit error corrected and written back (R474). The first correction of a word written under the flip mask is
not tracked. -/
def State.corrected (s : State) (w syndrome : Nat) : State :=
  let e := s.ecc
  let mem := wordMem w
  let e := if mem = 0 then { e with ceDram := e.ceDram + 1 } else { e with ceSram := e.ceSram + 1 }
  let e := { e with marks := e.marks.del w }
  let e := if e.uncounted.contains w then { e with uncounted := e.uncounted.filter (· != w) } else e.track w s.now
  (({ s with ecc := (e.stick 1 s.now).note mem (wordAddr w) 1 syndrome (posFrame s.pos) } : State).raise 0xA5).queueCorrected mem

/-- An uncorrectable error found (R478): the word is poisoned, or is found so again. -/
def State.poisonWord (s : State) (w syndrome : Nat) : State :=
  let e := s.ecc
  let e := { e with ueCount := e.ueCount + 1, marks := e.marks.del w, uncounted := e.uncounted.filter (· != w),
                    poisoned := if e.poisoned.contains w then e.poisoned else w :: e.poisoned }
  ({ s with ecc := (e.stick 3 s.now).note (wordMem w) (wordAddr w) 2 syndrome (posFrame s.pos) } : State).raise 0xA7

/-- A parity error in a small structure (R480). -/
def State.parityError (s : State) (addr : Nat) : State :=
  let e := { s.ecc with parityCount := s.ecc.parityCount + 1 }
  ({ s with ecc := (e.stick 3 s.now).note 5 addr 3 0 (posFrame s.pos) } : State).raise 0xA7

/-- The errors that a read of a word finds: those of the flip mask where the word was written under it, else what the
reading brings: 0 none, 1 a single bit, 2 more. A poisoned word stays uncorrectable. -/
def EccState.errorsAt (e : EccState) (w found : Nat) : Nat :=
  if e.poisoned.contains w then 2
  else match e.marks.find w with
    | some m =>
      let n := ones 64 m.data + ones 8 m.check
      if n ≤ 2 then n else found
    | none => found

/-- A word read (R474, R478). -/
def State.readWord (s : State) (w found syndrome : Nat) : State :=
  match s.ecc.errorsAt w found with
  | 0 => s
  | 1 => s.corrected w syndrome
  | _ => s.poisonWord w syndrome

/-! ### The flip mask (R482) -/

/-- The masks that a memory uses: data bits and check or parity bits. -/
def flipMask (mem data check : Nat) : FlipMark :=
  if mem = 0 then ⟨data, check % 256⟩ else if mem = 5 then ⟨data % 2 ^ 32, check % 16⟩ else ⟨data % 2 ^ 32, check % 128⟩

/-- A write to memory `mem` under an armed mask. Which word of the memory the write meets is the device's own layout
and free where the spec gives none; with MATCH set, whether it is the word named is free in the same way. -/
def State.memWritten (s : State) (mem : Nat) : State :=
  let e := s.ecc
  if !e.arm || e.flipMem != mem then s
  else
    let r := s.fresh
    if e.match_ && !bit r.1 0 then r.2
    else
      let w := if e.match_ then wordOf mem e.flipAddr else wordOf mem (r.1 / 2)
      let m := flipMask mem e.flipData e.flipCheck
      let e := { e.stick 6 s.now with arm := false, poisoned := e.poisoned.filter (· != w) }
      let e := if m.data = 0 && m.check = 0 then { e with marks := e.marks.del w }
        else { e with marks := e.marks.put w m, uncounted := w :: e.uncounted }
      { r.2 with ecc := e }

/-! ### Row retirement (R475 to R477) -/

/-- The word has been corrected three times within the window. -/
def EccState.retireDue (e : EccState) (w : Nat) : Bool :=
  (e.tracker.find? (·.word == w)).elim false fun x =>
    x.times.length == 3 && x.times.headD 0 - x.times.getLastD 0 ≤ e.windowMin * 60 * cycSec

/-- The row of a word retired, or kept for want of a spare. -/
def State.retireRow (s : State) (w : Nat) : State :=
  if !s.ecc.retireDue w then s
  else
    let mem := wordMem w
    let bank := wordBank w
    let used := s.ecc.spares.getD bank 0
    let e := { s.ecc with tracker := s.ecc.tracker.filter (·.word != w) }
    let free := used < spareRows mem
    let e :=
      if free then
        { e.stick 2 s.now with
          spares := e.spares.put bank (used + 1), retired := e.retired ++ [wordRow w]
          retiredDram := e.retiredDram + b2n (mem == 0), retiredSram := e.retiredSram + b2n (mem != 0) }
      else e.stick 4 s.now
    ({ s with ecc := e.note mem (wordAddr w) (if free then 4 else 5) 0 (posFrame s.pos) } : State).raise 0xA6

/-- ECC_SPARES_MIN: the fewest free spares of a DRAM bank, and the lowest bank with that count. -/
def EccState.sparesMin (e : EccState) : Nat :=
  let free (b : Nat) : Nat := 16 - e.spares.getD b 0
  let best := (List.range 256).foldl (fun b k => if free k < free b then k else b) 0
  free best + 256 * best

/-! ### Scrubbing (R481) -/

/-- The word at a position of the pass, and the position after it. -/
def scrubWord (pos : Nat) : Nat × Nat :=
  let at_ := memSizes.zipIdx.foldl (fun a x => if a.2.2 then a else if a.1 < x.1 then (a.1, x.2, true) else (a.1 - x.1, 0, false)) (pos, 0, false)
  (wordOf at_.2.1 at_.1, pos + wordBytes at_.2.1)

/-- The next word scrubbed; at the end of the pass SCRUB_PASS is raised. `progress` counts the bytes scrubbed. -/
def State.scrub (s : State) (found syndrome : Nat) : State :=
  let r := scrubWord s.ecc.progress
  let s := s.readWord r.1 found syndrome
  if memSizes.sum ≤ r.2 then
    ({ s with ecc := { s.ecc.stick 5 s.now with progress := 0, passes := (s.ecc.passes + 1) % 65536 } } : State).raise 0xAA
  else { s with ecc := { s.ecc with progress := r.2 } }

/-- ECC_SCRUB_STATUS. -/
def EccState.scrubStatus (e : EccState) : Nat := e.progress * 65536 / memSizes.sum + 65536 * e.passes

/-! ### Queues with a pointer mismatch (R484) -/

/-- A small queue of the table "Queues" resets. The completion hold, RDM and mailbox queues are rebuilt and lose nothing; a capture queue loses
its records, as for a full queue. -/
def State.rebuildQueue (s : State) (q : Nat) : State :=
  if (queueClass q).elim true fun x => x.1 != 0 then s else
  let s := { s with queues := s.queues.upd q { level := s.queueLevel q } fun d => { d with resets := d.resets + 1 } }
  let s := s.raise 0xA8
  if q ≤ 7 && !(s.time.captures.getD q {}).queue.isEmpty then
    ({ s with time := (({ s.time with captures := s.time.captures.upd q {} fun c => { c with queue := [] } } : TimeState).raise (8 + q)) } : State).raise (0x50 + q)
  else s

/-! ### Registers -/

/-- A write of `v` to ECC_STATUS in cycle `now` (R9, R10). -/
def EccState.clearSticky (e : EccState) (v now : Nat) : EccState :=
  { e with sticky := (w1c (BitVec.ofNat 32 e.sticky) (v &&& 0x7E) (setBits e.stickyAt now)).toNat }

/-- A write of an ECC_ register with bytes `v` at offset `off` (R490, R491). -/
def State.eccWrite (s : State) (off size v : Nat) : State :=
  let e := s.ecc
  let set (e : EccState) : State := { s with ecc := e }
  let half (old : Nat) (hi : Bool) : Nat :=
    if size = 8 then v % 2 ^ 64 else if hi then old % 2 ^ 32 + v % 2 ^ 32 * 2 ^ 32 else old / 2 ^ 32 * 2 ^ 32 + v % 2 ^ 32
  if off = 0 then set (e.clearSticky v s.now)
  else if !s.host.eccOpen then s
  else if off = 4 then (if 60 ≤ v % 65536 && v % 65536 ≤ 10080 then set { e with periodMin := v % 65536 } else s)
  else if off = 8 then (if 1 ≤ v % 65536 && v % 65536 ≤ 10080 then set { e with windowMin := v % 65536 } else s)
  else if off = 0x40 then set { e with arm := bit v 0, match_ := bit v 1, flipMem := bits v 4 4 }
  else if off = 0x48 then set { e with flipAddr := half e.flipAddr false % 2 ^ 40 }
  else if off = 0x4C then set { e with flipAddr := half e.flipAddr true % 2 ^ 40 }
  else if off = 0x50 then set { e with flipData := half e.flipData false }
  else if off = 0x54 then set { e with flipData := half e.flipData true }
  else if off = 0x58 then set { e with flipCheck := v % 256 }
  else s

/-! ### Commands (R491, R493) -/

/-- ECC_ACCESS. -/
def eccAccessSpec : CommandSpec :=
  { code := 0x0C30, kind := .device, lengthOk := lenIs 8, roleOk := engineer
    argOk := fun c _ => zeroAt c.payload 1 7, rangeOk := fun c _ => upTo c.payload 0 1 1
    body := fun c s =>
      ({ s with host := { s.host with
        sessions := s.host.sessions.mapVal fun k x => if k = c.session then { x with eccAccess := fld c.payload 0 1 == 1 } else x } }
        : State).ok }

/-- QUEUE_STATUS: reports a queue, and with CLEAR clears its flags. -/
def queueStatusSpec : CommandSpec :=
  { code := 0x0C31, kind := .device, lengthOk := lenIs 8
    roleOk := fun c s => if bit (fld c.payload 2 1) 0 then engineer c s else diagRead c s
    argOk := fun c _ => upTo c.payload 2 1 1 && zeroAt c.payload 3 5
    rangeOk := fun c _ => (queueClass (fld c.payload 0 2)).isSome
    body := fun c s =>
      let q := fld c.payload 0 2
      let resp := s.queueStatus q
      if fld c.payload 2 1 = 1 then
        ({ s with queues := s.queues.upd q { level := s.queueLevel q } fun d =>
          { d with wmHigh := false, wmLow := false, underrun := false, overflow := false } } : State).okWith resp
      else s.okWith resp }

/-- Watermarks lie within their ranges. -/
def watermarksOk (cap high low : Nat) : Bool := high ≤ cap && (low == 0 || (if high = 0 then low ≤ cap else low < high))

/-- QUEUE_WM_SET. -/
def queueWmSetSpec : CommandSpec :=
  { code := 0x0C32, kind := .device, lengthOk := lenIs 12, roleOk := engineer
    argOk := fun c _ => zeroAt c.payload 2 2
    rangeOk := fun c _ => (queueClass (fld c.payload 0 2)).elim false fun x => watermarksOk x.2 (fld c.payload 4 4) (fld c.payload 8 4)
    body := fun c s =>
      let q := fld c.payload 0 2
      ({ s with queues := s.queues.upd q { level := s.queueLevel q } fun d =>
        { d with high := fld c.payload 4 4, low := fld c.payload 8 4 } } : State).ok }

/-! ### Meanings -/

/-- ECC_ROW_RETIRE (R476): `mem` and `addr` name the word. -/
def execEccRowRetire (dt mem addr : Nat) (s : State) : Host.Outcome State Fault Refusal :=
  s.act dt (·.retireRow (wordOf mem addr))
/-- SCRUB_READ (R481): what the read of the next word finds. -/
def execScrubRead (dt found syndrome : Nat) (s : State) : Host.Outcome State Fault Refusal :=
  s.act dt (·.scrub found syndrome)
/-- PARITY_RESTORE (R480): the register keeps its value. -/
def execParityRestore (dt addr : Nat) (s : State) : Host.Outcome State Fault Refusal := s.act dt (·.parityError addr)
/-- QUEUE_REBUILD (R484). -/
def execQueueRebuild (dt queue : Nat) (s : State) : Host.Outcome State Fault Refusal := s.act dt (·.rebuildQueue queue)
/-- ECC_FLIP_ARM (R482): a write of ECC_FLIP_CTRL. -/
def execEccFlipArm (dt value : Nat) (s : State) : Host.Outcome State Fault Refusal := s.act dt (·.eccWrite 0x40 4 value)
/-- ECC_ACCESS (R491). -/
def execEccAccess (dt m : Nat) (s : State) : Host.Outcome State Fault Refusal := s.act dt (·.runMbx eccAccessSpec m)
/-- QUEUE_STATUS (R493). -/
def execQueueStatus (dt m : Nat) (s : State) : Host.Outcome State Fault Refusal := s.act dt (·.runMbx queueStatusSpec m)
/-- QUEUE_WM_SET (R493). -/
def execQueueWmSet (dt m : Nat) (s : State) : Host.Outcome State Fault Refusal := s.act dt (·.runMbx queueWmSetSpec m)

end Sys2Proof.Machine
end

