-- ==== Sys2Proof/Machine/Ring.lean ====
section
/-!
DEFINITION. Machine/Ring.lean: host DMA rings, bulk transfers and the host's writes to BAR2 (R53, R54, R88 to R95).
-/

namespace Sys2Proof.Machine

/-! ### Configuration (R88, R89, R91) -/

/-- The classes that the spec assigns, and whether each runs from device to host. -/
def ringClassDir (cls : Nat) : Option Bool :=
  if cls = 1 then some true else if cls = 2 || cls = 3 || cls = 0x10 || cls = 0x11 then some false else none

/-- The size of a ring's entries. -/
def entrySize (cls : Nat) : Nat := if cls = 1 then 128 else if cls = 0x10 || cls = 0x11 then 64 else 32

/-- The fields of RNG_CFG in a value written. -/
def ringCfgOf (v : Nat) : RingCfg := { log2 := bits v 0 5, dir := bit v 5, irq := bit v 6, cls := bits v 8 8 }

/-- RNG_CFG as it reads (R88, R89). -/
def Ring.cfgReg (x : Ring) : Nat :=
  x.cfg.log2 + 32 * b2n x.cfg.dir + 64 * b2n x.cfg.irq + 256 * x.cfg.cls + 65536 * b2n x.on

/-- A configuration with which ring `r` may start. -/
def ringCfgOk (r : Nat) (c : RingCfg) : Bool := ringClassDir c.cls == some c.dir && (c.cls == 1) == (r == 0)

/-- RNG_STATUS.REFUSED set. -/
def Ring.refuse (x : Ring) : Ring := { x with refused := true }

/-! ### Entries that end -/

/-- The entry at the device index ends: its CODE is written, then the device index advances; an entry with its IRQ flag
raises the ring's interrupt under RNG_CFG.IRQ (R88, R92, R95). -/
def State.endEntry (s : State) (r code : Nat) (d : BulkDesc) : State :=
  let x := s.ring r
  let s := s.emit (.hostWrite (x.entryAddr (entrySize x.cfg.cls) + 0x0E) (bytesLE 2 code))
  let bad := code == 3 || code == 4
  let s := s.setRing r { x with
    devIdx := x.devIdx + 1, badEntry := x.badEntry || bad, badAt := if bad then some s.now else x.badAt }
  if bit d.flags 0 && x.cfg.irq then s.raise (0x10 + r) else s

/-! ### Network rings (R386) -/

/-- A network ring: receive 0 to 63, transmit 64 to 127. -/
def State.netRing (s : State) (k : Nat) : NetRing := s.net.rings.getD k {}

/-- A network ring changed. -/
def State.setNetRing (s : State) (k : Nat) (x : NetRing) : State := { s with net := { s.net with rings := s.net.rings.put k x } }

/-- Descriptors posted and not yet used: the level of a ring (R386). -/
def State.netLevel (s : State) (k : Nat) : Nat := let h := (s.netRing k).host
  if h = 0 then 0 else (s.ring h).posted.length

/-- The watermark of a receive ring crossed downwards. -/
def State.rxMark (s : State) (k before : Nat) : State :=
  let r := s.netRing k
  if r.arg != 0 && r.arg < before && s.netLevel k ≤ r.arg then
    (s.setNetRing k { r with crossings := r.crossings + 1 }).raise 0x85
  else s

/-! ### Entries that are cancelled (R89) -/

/-- Entries that have not started complete with CANCELLED, in order (R89). -/
def State.cancelEntries (s : State) (r : Nat) : List BulkDesc → State
  | [] => s
  | d :: ds => (s.endEntry r 2 d).cancelEntries r ds

/-- Every waiting entry of a ring completes with CANCELLED; the level of a receive ring bound to it falls to 0 (R386). -/
def State.cancelAll (s : State) (r : Nat) : State :=
  let x := s.ring r
  let s := (s.setRing r { x with posted := [] }).cancelEntries r x.posted
  (((s.net.rings.filter fun e => e.1 < 64 && e.2.host == r && r != 0)).map (·.1)).foldl (fun s k => s.rxMark k x.posted.length) s

/-- The entries of a draining ring that wait are cancelled, once nothing is in flight before them. -/
def State.cancelPosted (s : State) (r : Nat) : State :=
  let x := s.ring r
  if x.phase != .draining || x.inFlight.isSome then s else s.cancelAll r

/-- The function of Ethernet port `p`: ports 0 to 3, and the management port as 4 (R46). -/
def portFn (p : Nat) : Nat × Nat := if p < 4 then (1, p) else (2, 0)

/-- Ethernet port `p` is ENABLED. -/
def State.portOn (s : State) (p : Nat) : Bool := s.enabled (portFn p).1 (portFn p).2

/-- The Ethernet port that sends what ring `r` brings: that of the transmit network ring bound to it. -/
def State.txPortOf (s : State) (r : Nat) : Option Nat :=
  if r = 0 then none else (s.net.rings.find? fun e => decide (64 ≤ e.1) && e.2.host == r).map (·.2.ports)

/-- Frames presented to a port that is not ENABLED are refused with the outcome CANCELLED (R40, R41). -/
def State.refuseTx (s : State) (r : Nat) : State :=
  if (s.txPortOf r).elim false fun p => !s.portOn p then s.cancelAll r else s

/-- A write of RNG_CFG (R89). -/
def State.rngCfgWrite (s : State) (r v : Nat) : State :=
  let x := s.ring r
  let c := ringCfgOf v
  let on := bit v 16
  if c.log2 < 4 || 16 < c.log2 then s.setRing r x.refuse
  else match x.phase with
    | .disabled =>
      if !on then s.setRing r { x with cfg := c }
      else if ringCfgOk r c then s.setRing r { x with cfg := c, phase := .enabled }
      else s.setRing r x.refuse
    | .enabled =>
      if c != x.cfg then s.setRing r x.refuse
      else if on then s
      else (s.setRing r { x with phase := .draining, bound := s.now + cycMs }).cancelPosted r
    | .draining => if on || c != x.cfg then s.setRing r x.refuse else s

/-- A write of RNG_CFG with ENABLE as given and the other fields of `v`. -/
def withEnable (v : Nat) (on : Bool) : Nat := v % 65536 + 65536 * b2n on

/-- A write of RNG_BASE: bits 11 to 0 are stored as zero (DESIGN CHOICE, assumption 49). -/
def State.rngBaseWrite (s : State) (r : Nat) (v : BitVec 64) : State :=
  let x := s.ring r
  if x.phase == .disabled then s.setRing r { x with base := v &&& ~~~(0xFFF#64) } else s.setRing r x.refuse

/-- How far a write of RNG_HOST_IDX may move the host index (R90). -/
def Ring.moveLimit (x : Ring) : Nat :=
  if x.cfg.dir then (x.devIdx - x.hostIdx).toNat else (x.devIdx + BitVec.ofNat 32 (2 ^ x.cfg.log2) - x.hostIdx).toNat

/-- The entries that a move of the host index posts on a host-to-device ring: what the host has placed in them. -/
def padDescs (n : Nat) (ds : List BulkDesc) : List BulkDesc := (ds ++ List.replicate (n - ds.length) (BulkDesc.mk 0 0 0 0 0)).take n

/-- A write of RNG_HOST_IDX (R90). -/
def State.rngHostIdxWrite (s : State) (r : Nat) (v : Word) (ds : List BulkDesc) : State :=
  let x := s.ring r
  let k := (v - x.hostIdx).toNat
  if x.phase == .disabled then s.setRing r { x with hostIdx := v, devIdx := v, posted := [] }
  else if x.moveLimit < k then s.setRing r { x with overrun := true }
  else
    let new_ := if x.cfg.dir then [] else padDescs k ds
    ((s.setRing r { x with hostIdx := v, posted := x.posted ++ new_ }).cancelPosted r).refuseTx r

/-- The end of a drain: nothing is in flight, or the bound of 1 ms has passed (R41, R89). -/
def State.rngDrainEnd (s : State) (r : Nat) : State :=
  let x := s.ring r
  if x.phase != .draining then s
  else match x.inFlight with
    | none => s.setRing r { x with phase := .disabled }
    | some d =>
      if s.now < x.bound then s
      else
        let s := ((s.setRing r { x with inFlight := none }).endEntry r 2 d).cancelPosted r
        s.setRing r { s.ring r with phase := .disabled }

/-! ### Bulk transfers (R95) -/

/-- The ring is a bulk ring. -/
def Ring.bulk (x : Ring) : Bool := x.cfg.cls == 2 || x.cfg.cls == 3

/-- A descriptor that completes with BAD_RANGE; a LENGTH outside 1 B to 16 MiB is one (DESIGN CHOICE, assumption 50). -/
def BulkDesc.badRange (d : BulkDesc) : Bool := !regionOk d.regionOff d.length || d.length == 0 || 0x1000000 < d.length

/-- The engine takes the next descriptor of a bulk ring. -/
def State.bulkStart (s : State) (r : Nat) : State :=
  let x := s.ring r
  match x.posted with
  | [] => s
  | d :: ds =>
    if !x.on || !x.bulk || x.inFlight.isSome then s
    else if d.badRange then (s.setRing r { x with posted := ds }).endEntry r 3 d
    else s.setRing r { x with posted := ds, inFlight := some d }

/-- The transfer in flight ends. `data` is what a bulk write brought from the host; on a host error, what arrived before
it. A bulk read that meets an error brings the host nothing (DESIGN CHOICE, assumption 50). -/
def State.bulkDone (s : State) (r : Nat) (hostErr poison : Bool) (data : Bytes) : State :=
  let x := s.ring r
  match x.inFlight with
  | none => s
  | some d =>
    let s := s.setRing r { x with inFlight := none }
    let s :=
      if x.cfg.cls = 2 then
        (s.writeRegion d.regionOff (if hostErr then data.take d.length else padTo d.length data)).memWritten 0
      else if hostErr || poison then s
      else s.emit (.hostWrite d.hostAddr (s.readRegion d.regionOff d.length))
    let code := if hostErr then 4 else if poison && x.cfg.cls == 3 then 5 else 1
    (s.endEntry r code d).cancelPosted r

/-! ### Held completions (R93, R94) -/

/-- The first held completion delivered, where ring 0 has an entry for it. -/
def State.deliverHeld (s : State) : State :=
  match s.host.held with
  | [] => s
  | c :: cs =>
    if (s.ring 0).on && 0 < (s.ring 0).free then ({ s with host := { s.host with held := cs } } : State).writeCompletion c
    else s

/-! ### Meanings -/

/-- RNG_ENABLE (R89): a write of RNG_CFG with ENABLE 1. -/
def execRngEnable (dt r value : Nat) (s : State) : Host.Outcome State Fault Refusal :=
  s.act dt fun s => s.rngCfgWrite (r % 32) (withEnable value true)
/-- RNG_DISABLE (R89): a write of RNG_CFG with ENABLE 0. -/
def execRngDisable (dt r value : Nat) (s : State) : Host.Outcome State Fault Refusal :=
  s.act dt fun s => s.rngCfgWrite (r % 32) (withEnable value false)
/-- RNG_CONFIG_WRITE (R89): a write of RNG_CFG that leaves ENABLE as it reads. -/
def execRngConfigWrite (dt r value : Nat) (s : State) : Host.Outcome State Fault Refusal :=
  s.act dt fun s => s.rngCfgWrite (r % 32) (withEnable value (s.ring (r % 32)).on)
/-- RNG_BASE_WRITE (R89). -/
def execRngBaseWrite (dt r value : Nat) (s : State) : Host.Outcome State Fault Refusal :=
  s.act dt fun s => s.rngBaseWrite (r % 32) (BitVec.ofNat 64 value)
/-- RNG_HOST_IDX_WRITE (R90); `posted` is what the host placed in the entries it makes valid. -/
def execRngHostIdxWrite (dt r value : Nat) (posted : List BulkDesc) (s : State) : Host.Outcome State Fault Refusal :=
  s.act dt fun s => s.rngHostIdxWrite (r % 32) (BitVec.ofNat 32 value) posted
/-- RNG_DRAIN_END (R89). -/
def execRngDrainEnd (dt r : Nat) (s : State) : Host.Outcome State Fault Refusal := s.act dt (·.rngDrainEnd (r % 32))
/-- BULK_DESCRIPTOR_START (R95). -/
def execBulkDescriptorStart (dt r : Nat) (s : State) : Host.Outcome State Fault Refusal := s.act dt (·.bulkStart (r % 32))
/-- BULK_DESCRIPTOR_DONE (R95). -/
def execBulkDescriptorDone (dt r : Nat) (hostErr poison : Bool) (data : Bytes) (s : State) :
    Host.Outcome State Fault Refusal :=
  s.act dt (·.bulkDone (r % 32) hostErr poison data)
/-- COMPLETION_HELD_DELIVER (R93, R94). -/
def execCompletionHeldDeliver (dt : Nat) (s : State) : Host.Outcome State Fault Refusal := s.act dt (·.deliverHeld)
/-- HEARTBEAT_TICK (R58): counts from BOOT_STAGE 3 on, and not during a Lanishambe restart. -/
def execHeartbeatTick (dt : Nat) (s : State) : Host.Outcome State Fault Refusal :=
  s.act dt fun s =>
    if s.host.fwRestart || s.host.bootStage < 3 then s
    else { s with host := { s.host with heartbeat := s.host.heartbeat + 1 } }
/-- BAR2_WRITE (R54): an offset outside the 512 MiB of BAR2 faults. -/
def execBar2Write (dt off : Nat) (data : Bytes) (s : State) : Host.Outcome State Fault Refusal :=
  if regionSize < off + data.length then .fault .outsideRegion
  else s.act dt fun s => (s.writeRegion off data).memWritten 0

end Sys2Proof.Machine
end

