-- ==== Sys2Proof/Machine/NetTime.lean ====
section
/-!
DEFINITION. Machine/NetTime.lean: the commands of the timebase, the PTP engine, time pulses and captures (R136 to
R164).
-/

namespace Sys2Proof.Machine

/-! ### Events -/

/-- The interrupt source of a TIM_EVENT bit (R164, R461). -/
def timSource (b : Nat) : Nat := if b < 8 then 0x40 + b else 0x48 + b

/-- A change of network time: every TIM_EVENT bit that it sets raises its source, set already or not. -/
def State.withTime (s : State) (f : TimeState → TimeState) : State :=
  let t := f { s.time with event := 0 }
  let bs := (List.range 24).filter fun b => bit t.event.toNat b
  ({ s with time := { t with
      event := s.time.event ||| t.event
      eventAt := bs.foldl (fun m b => Map.put m b t.now) s.time.eventAt } } : State).raiseAll (bs.map timSource)

/-- The correction of an Ethernet port in timebase units: ingress, or egress (R140, R159). -/
def TimeConfig.corr (c : TimeConfig) (port : Nat) (egress : Bool) : Int := nsUnits (c.portCorr.getD (2 * port + b2n egress) 0)

/-! ### PTP messages (R141, R142) -/

/-- The engine takes messages that come this way. -/
def PtpState.takes (p : PtpState) (v : PtpVia) : Bool :=
  p.cfg.port == v.port && p.cfg.domain == v.domain && p.cfg.transport == v.transport && p.cfg.vlan == v.vlan && p.portState != .disabled && p.portState != .faulty
    && p.portState != .initializing

/-- A message discarded and counted. -/
def TimeState.discard (t : TimeState) : TimeState := { t with ptp := { t.ptp with discards := t.ptp.discards + 1 } }

/-- A PTP event or general message handled: messages that need an unsupported option are counted as discards. -/
def State.ptpMessage (s : State) (v : PtpVia) (unsupported : Bool) (f : State → State) : State :=
  if !s.time.ptp.takes v || !s.portOn v.port then s
  else if unsupported then { s with time := s.time.discard }
  else f s

/-- The free value that stands for the mean path delay before any exchange, where the spec names none. -/
def State.freeDelay (s : State) : Int × State :=
  if s.time.ptp.delays.isEmpty then ((s.fresh.1 : Int), s.fresh.2) else (0, s)

/-- The servo of R142 disciplines this timebase: a member of a group that is not its coordinator follows TIME frames instead
(R508). -/
def State.ownServo (s : State) : Bool := !s.group.inGroup || s.group.isCoord

/-- A Sync message: its receive stamp is that of its arrival, with the ingress correction. Unicast, or a rate outside the table
"PTP support", is an unsupported option. -/
def State.ptpSync (s : State) (m : PtpTimed) : State :=
  s.ptpMessage m.via (m.via.unicast || decide (m.logSync < -7) || decide (1 < m.logSync)) fun s =>
    if !s.time.ptp.fromParent m.source || !s.ownServo then s
    else
      let r := s.freeDelay
      let t2 := s.stamp + s.time.cfg.corr m.via.port false
      r.2.withTime fun t => t.sync m.seq m.twoStep m.stamp t2 m.corr m.logSync r.1

/-- A Follow_Up message. -/
def State.ptpFollowUp (s : State) (m : PtpTimed) : State :=
  s.ptpMessage m.via m.via.unicast fun s =>
    if !s.time.ptp.fromParent m.source || !s.ownServo then s
    else
      let r := s.freeDelay
      r.2.withTime fun t => t.followUp m.seq m.stamp m.corr r.1

/-- A Delay_Resp message: unicast is supported where the Delay_Req is sent so. -/
def State.ptpDelayResp (s : State) (m : PtpTimed) : State :=
  s.ptpMessage m.via (m.via.unicast && s.time.ptp.cfg.delayAddr == 0) fun s =>
    if !s.time.ptp.fromParent m.source then s else s.withTime fun t => t.delayResp m.seq m.stamp m.corr

/-- An Announce message. -/
def State.ptpAnnounce (s : State) (m : PtpAnnounce) : State :=
  s.ptpMessage m.via (m.via.unicast || decide (m.data.logAnnounce < -3) || decide (3 < m.data.logAnnounce))
    fun s => s.withTime fun t => t.announce m.source m.data m.via.mac m.via.ip

/-- announceReceiptTimeout has expired. -/
def TimeState.annDue (t : TimeState) : Bool :=
  t.ptp.parent.elim false fun m => t.ptp.lastAnnAt + t.ptp.cfg.annTimeout * intervalCycles m.data.logAnnounce ≤ t.now

/-- SYNC_LOSS Sync intervals have passed without a sample. -/
def TimeState.syncLost (t : TimeState) : Bool :=
  t.ptp.parent.isSome && t.ptp.lastSyncAt + t.ptp.cfg.syncLoss * intervalCycles t.ptp.logSync ≤ t.now

/-! ### PTP_CONFIG, PTP_STATUS, TIME_CONFIG -/

/-- A value, or the default that zero selects. -/
def orDefault (v d : Nat) : Nat := if v = 0 then d else v

/-- PTP_CONFIG (R158). -/
def ptpConfigSpec : CommandSpec :=
  { code := 0x0210, kind := .device, lengthOk := lenIs 16, roleOk := engineer
    argOk := fun c _ =>
      zeroAt c.payload 7 1 && zeroAt c.payload 10 6
    rangeOk := fun c _ =>
      (upTo c.payload 0 1 4 || fld c.payload 0 1 == 0xFF) && upTo c.payload 1 1 1 && upTo c.payload 3 1 2 && upTo c.payload 4 1 1 && upTo c.payload 2 1 127
        && (fld c.payload 5 1 == 0 || within c.payload 5 1 2 10) && (fld c.payload 6 1 == 0 || within c.payload 6 1 2 16)
        && upTo c.payload 8 2 4094
    body := fun c s =>
      let p := c.payload
      let port := fld p 0 1
      if port != 0xFF && !s.portOn port then s.fail .conflict
      else
        let cfg : PtpConfig :=
          { port := port, profile := fld p 1 1, domain := fld p 2 1, transport := fld p 3 1, delayAddr := fld p 4 1,
            annTimeout := orDefault (fld p 5 1) 3, syncLoss := orDefault (fld p 6 1) 3, vlan := fld p 8 2 }
        (s.withTime (·.ptpRestart cfg)).ok }

/-- PTP_STATUS (R163). -/
def ptpStatusSpec : CommandSpec :=
  { code := 0x0211, kind := .read, lengthOk := lenNone, roleOk := anyRole, body := fun _ s => s.okWith s.time.ptpStatus }

/-- TIME_CONFIG (R159). A lower TB_SLEW leaves r as it is until the next accepted sample, or the next entry to HOLDOVER, sets it
(DESIGN CHOICE, assumption 82). -/
def timeConfigSpec : CommandSpec :=
  { code := 0x0212, kind := .device, lengthOk := lenIs 32, roleOk := engineer
    argOk := fun c _ => zeroAt c.payload 10 2
    rangeOk := fun c _ =>
      upTo c.payload 0 4 10000000 && upTo c.payload 4 2 1000 && (fld c.payload 6 2 == 0 || within c.payload 6 2 10 1000)
        && upTo c.payload 8 2 1024
    body := fun c s =>
      let p := c.payload
      let cfg : TimeConfig :=
        { jumpThrUs := orDefault (fld p 0 4) 1000, slewPpm := orDefault (fld p 4 2) 100,
          loopBwMilliHz := orDefault (fld p 6 2) 100, holdAvgS := orDefault (fld p 8 2) 64,
          portCorr := (List.range 10).map fun i => fldS p (12 + 2 * i) 2 }
      ({ s with time := { s.time with cfg := cfg } } : State).ok }

/-! ### Time pulses (R150 to R153, R161) -/

/-- The instant of edge `k` of a schedule. -/
def State.edgeAt (s : State) (x : PulseSched) (k : Nat) : Instant :=
  if x.mode = 2 then s.clock.instant (x.start.toNat + k * x.period * 65536) else x.start + ((k * x.period : Nat) : Int)

/-- The next edge of an output. -/
def State.nextEdge (s : State) (o : PulseOut) : Option Instant := o.sched.map fun x => s.edgeAt x x.next

/-- A pulse output. -/
def State.pulse (s : State) (j : Nat) : PulseOut := s.time.pulses.getD j {}

/-- A pulse output changed. -/
def State.setPulse (s : State) (j : Nat) (o : PulseOut) : State :=
  { s with time := { s.time with pulses := s.time.pulses.put j o } }

/-- A leading edge falls, on the TIME tick nearest its instant (R151). An output that is not ENABLED drives none. -/
def State.pulseEdge (s : State) (j : Nat) : State :=
  let o := s.pulse j
  match s.nextEdge o with
  | none => s
  | some due =>
    if s.tb + nsUnits 1 < due then s
    else if !s.enabled 0x0E j then
      s.setPulse j (({ o with sched := o.sched.map fun x => { x with next := x.next + 1 } } : PulseOut).tidy)
    else
      let r := o.fire due s.tb
      let s := s.setPulse j r.1
      if r.2 then s.withTime (·.raise (16 + j)) else s.emit (.pulse j s.tb true)

/-- A pulse reaches its width. -/
def State.pulseEnd (s : State) (j : Nat) : State :=
  let o := s.pulse j
  if !o.driving || o.endAt.elim false fun x => decide (s.tb + nsUnits 1 < x) then s
  else (s.setPulse j { o with driving := false }).emit (.pulse j s.tb false)

/-- The START of a PULSE_SET: an instant, or a position. -/
def pulseStart (p : Bytes) : Int :=
  if fld p 1 1 = 2 then ((fldPos p 0x10 : Nat) : Int) else instantOf (fld p 0x10 8) (fld p 0x18 4) (fld p 0x1C 2)

/-- The first edge of a periodic schedule at least 10 µs away. A START that has not passed but lies closer than that is skipped as
one that has (DESIGN CHOICE, assumption 87). -/
def State.firstEdge (s : State) (x : PulseSched) : Nat :=
  let lim := s.tb + usUnits 10
  if lim ≤ s.edgeAt x 0 then 0
  else if x.mode = 2 then
    let p := max 1 (s.clock.period.toNat * x.period)
    let k := ((lim - s.edgeAt x 0) / (p : Int)).toNat
    if lim ≤ s.edgeAt x k then k else k + 1
  else (ceilDiv (lim - x.start) (max 1 x.period)).toNat

/-- A schedule that begins at its edge `k` (R161): COUNT pulses from there on. -/
def PulseSched.from_ (x : PulseSched) (k : Nat) : PulseSched :=
  { x with start := x.start + ((k * x.period * (if x.mode = 2 then 65536 else 1) : Nat) : Int) }

/-- PULSE_SET (R152, R161). -/
def pulseSetSpec : CommandSpec :=
  { code := 0x0220, kind := .device, lengthOk := lenIs 0x28, roleOk := engineer
    argOk := fun c _ =>
      let p := c.payload
      zeroAt p 3 1 && zeroAt p 0x0C 4
        && (fld p 1 1 == 0 || (if fld p 1 1 = 1 then zeroAt p 0x16 2 && zeroAt p 0x1E 2 else zeroAt p 0x1A 6))
        && (fld p 1 1 == 0 || fld p 0x20 8 != 0 || fld p 8 4 == 1)
    rangeOk := fun c s =>
      let p := c.payload
      let mode := fld p 1 1
      let per := fld p 0x20 8
      upTo p 0 1 7 && upTo p 1 1 2 && upTo p 2 1 1 &&
        (mode == 0 || (within p 4 4 10 4000000000
          && (mode == 2 || (upTo p 0x18 4 999999999 && (per == 0 || 1310720 ≤ per)))
          && (mode == 1 || per < 2 ^ 32)
          && (per == 0 || (mode == 2 && !s.clock.run)
            || (fld p 4 4 + 10) * 65536 ≤ (if mode = 2 then per * s.clock.period.toNat else per))))
    body := fun c s =>
      let p := c.payload
      let j := fld p 0 1
      let mode := fld p 1 1
      let o := s.pulse j
      if mode = 0 then (s.setPulse j { o with sched := none, edges := 0 }).ok
      else if mode = 2 && !s.clock.run then s.fail .conflict
      else
        let x : PulseSched := { mode := mode, count := fld p 8 4, start := pulseStart p, period := fld p 0x20 8, next := 0 }
        if x.count = 1 && s.edgeAt x 0 < s.tb + usUnits 10 then s.fail .late
        else
          let x := if x.count = 1 then x else x.from_ (s.firstEdge x)
          let o : PulseOut :=
            { o with polarity := fld p 2 1, widthNs := fld p 4 4, sched := some x, edges := 0, mode := mode }
          (s.setPulse j o.tidy).ok }

/-! ### Captures (R154, R155, R162) -/

/-- A capture input. -/
def State.capture (s : State) (i : Nat) : CaptureIn := s.time.captures.getD i {}

/-- An edge on an ENABLED capture input: the queue that becomes not empty raises capture-ready, and a full one drops the record (R155, R487). -/
def State.captureEdge (s : State) (i : Nat) (rising : Bool) : State :=
  if !s.enabled 0x0F i then s
  else
    let c := s.capture i
    let r := c.edge rising s.now s.stamp s.pos
    let s := { s with time := { s.time with captures := s.time.captures.put i r.1 } }
    let s := if r.2 then (s.withTime (·.raise (8 + i))).queueOverflow i else s
    if c.queue.isEmpty && !r.1.queue.isEmpty then s.raise (0x48 + i) else s

/-- The head record of a capture queue removed (R157). -/
def State.capPop (s : State) (i : Nat) : State :=
  let c := s.capture i
  { s with time := { s.time with captures := s.time.captures.put i { c with queue := c.queue.drop 1 } } }

/-- CAPTURE_SET (R162). -/
def captureSetSpec : CommandSpec :=
  { code := 0x0230, kind := .device, lengthOk := lenIs 8, roleOk := engineer
    argOk := fun c _ => zeroAt c.payload 2 6
    rangeOk := fun c _ => upTo c.payload 0 1 7 && within c.payload 1 1 1 3
    body := fun c s =>
      let i := fld c.payload 0 1
      ({ s with time := { s.time with captures := s.time.captures.put i { s.capture i with edges := fld c.payload 1 1 } } }
        : State).ok }

/-- TIM_CTRL.LATCH (R157). -/
def State.timLatch (s : State) : State := { s with time := { s.time with latch := ⟨s.stamp, s.pos⟩ } }

/-- A 32-bit write to a TIM_ register at offset `off` (R156). -/
def State.timWrite (s : State) (off v : Nat) : State :=
  if off = 0 then (if bit v 0 then s.timLatch else s)
  else if off = 8 then
    { s with time := { s.time with event := w1c s.time.event v (setBits s.time.eventAt s.now) } }
  else if 0x100 ≤ off && off < 0x200 && off % 32 = 0x1C && bit v 0 then s.capPop ((off - 0x100) / 32)
  else s

/-! ### Meanings -/

/-- PTP_SYNC_RX (R142). -/
def execPtpSyncRx (dt : Nat) (msg : PtpTimed) (s : State) : Host.Outcome State Fault Refusal := s.act dt (·.ptpSync msg)
/-- PTP_FOLLOW_UP_RX (R142). -/
def execPtpFollowUpRx (dt : Nat) (msg : PtpTimed) (s : State) : Host.Outcome State Fault Refusal := s.act dt (·.ptpFollowUp msg)
/-- PTP_DELAY_RESP_RX (R142). -/
def execPtpDelayRespRx (dt : Nat) (msg : PtpTimed) (s : State) : Host.Outcome State Fault Refusal :=
  s.act dt (·.ptpDelayResp msg)
/-- PTP_ANNOUNCE_RX (R141, R144). -/
def execPtpAnnounceRx (dt : Nat) (msg : PtpAnnounce) (s : State) : Host.Outcome State Fault Refusal :=
  s.act dt (·.ptpAnnounce msg)
/-- ANNOUNCE_RECEIPT_TIMEOUT (R144). -/
def execAnnounceReceiptTimeout (dt : Nat) (s : State) : Host.Outcome State Fault Refusal :=
  s.act dt fun s => if s.time.annDue then s.withTime (·.loseParent) else s
/-- SYNC_LOSS_TIMEOUT (R144). -/
def execSyncLossTimeout (dt : Nat) (s : State) : Host.Outcome State Fault Refusal :=
  s.act dt fun s =>
    if s.time.syncLost then
      s.withTime fun t => ({ t with ptp := { t.ptp with lastSyncAt := t.now } } : TimeState).masterLost false
    else s
/-- PTP_CONFIG (R158). -/
def execPtpConfig (dt m : Nat) (s : State) : Host.Outcome State Fault Refusal := s.act dt (·.runMbx ptpConfigSpec m)
/-- PTP_STATUS (R163). -/
def execPtpStatus (dt m : Nat) (s : State) : Host.Outcome State Fault Refusal := s.act dt (·.runMbx ptpStatusSpec m)
/-- TIME_CONFIG (R159). -/
def execTimeConfig (dt m : Nat) (s : State) : Host.Outcome State Fault Refusal := s.act dt (·.runMbx timeConfigSpec m)
/-- PULSE_SET (R152, R161). -/
def execPulseSet (dt m : Nat) (s : State) : Host.Outcome State Fault Refusal := s.act dt (·.runMbx pulseSetSpec m)
/-- PULSE_EDGE (R150, R151). -/
def execPulseEdge (dt output : Nat) (s : State) : Host.Outcome State Fault Refusal := s.act dt (·.pulseEdge (output % 8))
/-- PULSE_END (R150). -/
def execPulseEnd (dt output : Nat) (s : State) : Host.Outcome State Fault Refusal := s.act dt (·.pulseEnd (output % 8))
/-- CAPTURE_SET (R162). -/
def execCaptureSet (dt m : Nat) (s : State) : Host.Outcome State Fault Refusal := s.act dt (·.runMbx captureSetSpec m)
/-- CAPTURE_EDGE (R154, R155). -/
def execCaptureEdge (dt input : Nat) (rising : Bool) (s : State) : Host.Outcome State Fault Refusal :=
  s.act dt (·.captureEdge (input % 8) rising)
/-- TIM_LATCH (R157). -/
def execTimLatch (dt : Nat) (s : State) : Host.Outcome State Fault Refusal := s.act dt (·.timLatch)
/-- TIM_CAP_POP (R157). -/
def execTimCapPop (dt input : Nat) (s : State) : Host.Outcome State Fault Refusal := s.act dt (·.capPop (input % 8))

end Sys2Proof.Machine
end

