-- ==== Sys2Proof/Machine/ShowClock.lean ====
section
/-!
DEFINITION. Machine/ShowClock.lean: the start of the show clock, its boundaries, and the loss and return of its
reference (R96 to R122, R131, R132, R135, R508).
-/

namespace Sys2Proof.Machine

/-- The clock changed. -/
def State.setClock (s : State) (c : ClockState) : State := { s with clock := c }

/-- This device follows the reference itself: alone, or as the coordinator of its group (R508). -/
def State.followsRef (s : State) : Bool := !s.group.inGroup || s.group.isCoord

/-- The transactions whose commits were accepted while the clock was stopped. -/
def TxnState.stoppedTxns (t : TxnState) : List TxnSlot := t.waitingTxns.filter fun x => x.commit.elim false (·.stopped)

/-- E of the epoch in force, in timebase units (R108). Up to the first rendered latch point that is the epoch with every commit
accepted while the clock was stopped: they apply there, and R22 names that state (DEDUCED, assumption 69). -/
def State.emax (s : State) : Units :=
  usUnits (if s.clock.run && s.clock.firstRendered < s.clock.nextLatch then s.txn.view
    else viewAfter s.txn.view s.txn.stoppedTxns).latencyUs

/-! ### Validity of a reference (R114) -/

/-- The input of a block's reference takes edges: the reference input of class 0x11, or the metering point. -/
def State.refInputOn (s : State) (b : TimingBlock) : Bool :=
  match b.refKind with
  | 0 => !b.wordClock || s.enabled 0x11 2
  | 1 => true
  | 2 => s.enabled 0x11 0
  | 3 => s.enabled 0x11 1
  | _ => s.enabled 0x0C b.mtrPoint && s.meter.points.has b.mtrPoint

/-- The last boundary of a reference is `d` or more in the past, or there is none. -/
def State.silentFor (s : State) (l : List (Instant × Nat)) (d : Units) : Bool :=
  l.head?.elim true fun x => decide (x.1 + d ≤ s.tb)

/-- The mains reference is lost: its point stands still, has lost its phase, or its last cycle leaves 45 Hz to 65 Hz. -/
def State.mainsLost (s : State) (b : TimingBlock) : Bool :=
  (s.meter.points.find b.mtrPoint).elim true (fun p => p.phase == .loss || p.phase == .disabled)
    || (match s.clock.edgesOf b with
      | x :: y :: _ => !mainsCycleOk (x.1 - y.1)
      | _ => false)

/-- Three expected V edges are absent: the window of the third after the last that came at its time has passed, whatever came
outside the windows. -/
def State.genlockGone (s : State) : Bool :=
  let p := s.clock.refLength
  s.clock.genlockAt.elim true fun w => decide (w + ceilDiv (3 * p.1) p.2 + usUnits 2 ≤ s.tb)

/-- A reference meets the condition of its loss. -/
def State.refGone (s : State) (b : TimingBlock) : Bool :=
  !s.refInputOn b ||
    match b.refKind with
    | 0 => b.wordClock && s.silentFor (s.clock.edgesOf b) b.lossAfter
    | 1 => !s.time.following
    | 2 => s.genlockGone
    | 3 => s.silentFor s.clock.words b.lossAfter
    | _ => s.mainsLost b

/-- A reference meets the rule that makes it valid, and is not lost. -/
def State.refOk (s : State) (b : TimingBlock) : Bool :=
  s.refInputOn b && !s.refGone b &&
    match b.refKind with
    | 0 => !b.wordClock || b.validCount ≤ goodRun b (s.clock.edgesOf b)
    | 1 => s.time.following
    | 3 => 8 ≤ wordRun (ltcFps b.refRate) b.dropFrame s.clock.words
    | _ => b.validCount ≤ goodRun b (s.clock.edgesOf b)

/-! ### The start (R109, R111, R112, R132) -/

/-- The boundary of the reference at or after `lim` that a boundary at `x`, without REF_OFFSET_NS, makes known (R109): its own, or with
a negative REF_OFFSET_NS the next one, which comes ahead of its edge. -/
def ClockState.boundaryFrom (c : ClockState) (x lim : Instant) : Option Instant :=
  let off := nsUnits c.block.offsetNs
  let p := c.refLength
  let t := if 0 ≤ off then x + off else x + roundDiv p.1 p.2 + off
  if lim ≤ t then some t else none

/-- The first boundary at or after `lim` that the TIME counter gives at the held length of the reference (R116). -/
def ClockState.heldBoundary (c : ClockState) (lim : Instant) : Instant :=
  let p := c.refLength
  match (c.edgesOf c.block).head? with
  | none => lim
  | some x =>
    let t := x.1 + nsUnits c.block.offsetNs
    if lim ≤ t then t else t + roundDiv (ceilDiv ((lim - t) * p.2) p.1.toNat * p.1) p.2

/-- t(START_FRAME) is known; a coordinator tells its group. -/
def State.setStart (s : State) (due : Instant) (offset : Int) : State :=
  let s := s.setClock { s.clock with startDue := some due, gridOffset := offset }
  s.gcast 1 (.clockStart s.clock.block s.clock.startFrame due s.clock.startTref offset s.clock.validAt.isSome)

/-- The reference of an accepted start counts as valid from `x` on: PTP and free run know their start at once, the others
start at a boundary that is still to come (R109). -/
def State.startFrom (s : State) (x : Instant) : State :=
  let c := { s.clock with phase := .locked, validAt := some x }
  let s := s.setClock c
  let lim := x + usUnits 1000
  if c.block.refKind = 1 then
    let off := nsUnits c.block.offsetNs
    let i := ptpIndexAfter c.block.rateCode (lim - off)
    s.setStart (ptpGrid c.block.rateCode i + off) (i - c.startFrame)
  else if c.block.refKind = 0 then s.setStart lim 0
  else ((c.edgesOf c.block).reverse.findSome? fun e => c.boundaryFrom e.1 lim).elim s fun t => s.setStart t 0

/-- A start accepted: the clock acquires its reference. A reference that is valid already counts as valid from now. -/
def State.beginClock (s : State) (p : Bytes) : State :=
  let b := timingOf p
  let s := s.setClock { s.clock with
    accepted := true, block := b, prevBlock := b, startFrame := fld p 0x18 8, acqTimeout := fld p 0x20 2, acqSince := s.now,
    phase := .acquiring, frame := 0 }
  if s.refOk b then s.startFrom s.tb else s

/-- SHOW_CLOCK_START (R109, R113, R131, R132). A member of a group that is not its coordinator forwards it (R508). -/
def showClockStartSpec : CommandSpec :=
  { code := 0x0201, kind := .device, lengthOk := lenIs 0x28, roleOk := engineer
    argOk := fun c _ => timingZeros c.payload && zeroAt c.payload 0x22 6
    rangeOk := fun c _ => timingRangeOk c.payload && upTo c.payload 0x20 2 600
    body := fun c s =>
      let b := timingOf c.payload
      if !timingDerivable b then s.fail .badArgument
      else if !latencyFits (viewAfter s.txn.view s.txn.waitingTxns).latencyUs b.rateCode then s.fail .outOfRange
      else if s.clock.accepted then s.fail .conflict
      else if s.followsRef && !s.refInputOn b then s.fail .conflict
      else s.accept c .clockStart [] fun _ s =>
        if s.followsRef then s.beginClock c.payload
        else s.group.coord.elim s fun k => s.gsend k 1 (.clockRequest c.payload) }

/-- A start that has not come yet is off (R86). -/
def State.stopStart (s : State) : State :=
  s.setClock { s.clock with
    accepted := false, phase := .stopped, block := {}, prevBlock := {}, startFrame := 0, acqTimeout := 0, acqSince := 0
    startDue := none, validAt := none }

/-- The operations of SHOW_CLOCK_START end at t(START_FRAME). -/
def State.endStarts (s : State) (n : Nat) (locked : Bool) : State :=
  (s.host.ops.filter fun o => o.kind == .clockStart).foldl
    (fun s o => s.endOp o .ok (mkPos n 0) (posBytes (mkPos n 0) ++ bytesLE 1 (b2n locked) ++ zeros 5)) s

/-- Frame START_FRAME begins. -/
def State.clockStarts (s : State) : State :=
  match s.clock.startDue with
  | none => s
  | some t0 =>
    if s.tb < t0 || s.clock.run then s
    else
      let locked := s.clock.phase != .holdover && (s.clock.validAt.isSome || !s.followsRef)
      let c := s.clock.start t0 (if s.followsRef then s.clock.startTref else (s.clock.trefNum, s.clock.trefDen)) s.emax
      let word := c.wordAt t0
      let s := s.setClock { c with ltcFrame := word, ltcHist := [(c.startFrame, word)] }
      (s.endStarts c.startFrame locked).settleStopped

/-! ### Boundaries (R101, R104, R115, R117, R121, R122) -/

/-- The index of the PTP grid instant reached last, and that instant with the offset. -/
def ptpReached (b : TimingBlock) (x : Instant) : Int × Instant :=
  let off := nsUnits b.offsetNs
  let i := ptpIndexAfter b.rateCode (x - off)
  let i := if ptpGrid b.rateCode i = x - off then i else i - 1
  (i, ptpGrid b.rateCode i + off)

/-- The frame with which the last reference boundary is paired, and the phase error (R102). -/
def ClockState.lastError (c : ClockState) (now : Instant) : Option (Nat × Int) :=
  if c.block.refKind = 1 then
    -- the frame of the grid index, however far a step of the timebase has moved it
    let r := ptpReached c.block now
    let n := r.1 - c.gridOffset
    if c.grid.isEmpty then none else some (n.toNat, r.2 - c.timeOf n)
  else
    (c.edgesOf c.block).head?.bind fun x =>
      let b := x.1 + nsUnits c.block.offsetNs
      (c.pairWith b).map fun g => (g.n, b - g.t)

/-- T_ref follows the measurement from the next period that is not fixed, in the measure of the last period that is. Periods
fixed beyond a change of reference do not follow the old one (R121). -/
def ClockState.follow (c : ClockState) : ClockState :=
  match c.grid.getLast? with
  | none => c
  | some g =>
    let b := c.blockOf g.n
    if b.key != c.block.key || b.refKind = 1 then c
    else match c.measured b with
      | some t => c.reanchor (g.n + 1) (g.t + g.period) t
      | none => c

/-- The state that a valid reference gives: LOCKED or SLEWING by the phase error. -/
def ClockState.relock (c : ClockState) (now : Instant) : ClockState :=
  let c := c.follow
  match (if c.block.refKind = 0 then none else c.lastError now : Option (Nat × Int)) with
  | none => { c with phase := .locked, phaseErr := 0, residual := 0 }
  | some e =>
    let c := (c.measure e.1 e.2).1
    { c with phase := if absInt e.2 ≤ nsUnits 50 then .locked else .slewing }

/-- Two blocks follow the same input at the same nominal frequency. -/
def TimingBlock.sameInput (a b : TimingBlock) : Bool :=
  a.refKind == b.refKind && a.key == b.key && a.wordClock == b.wordClock && a.wclk == b.wclk && a.refRate == b.refRate
    && a.twoFields == b.twoFields && a.dropFrame == b.dropFrame

/-- The grid offset of PTP from change frame `n` at `t` on: it stays that of the same grid instants under a PTP reference, and is the
nearest one after a change to PTP (R102, R120, R121). -/
def ClockState.offsetFrom (c : ClockState) (b : TimingBlock) (n : Nat) (t : Instant) : Int :=
  if b.refKind != 1 then 0
  else if c.block.refKind = 1 then ptpConvert c.block.rateCode b.rateCode (n + c.gridOffset) - n
  else ptpIndexNear b.rateCode (t - nsUnits b.offsetNs) - n

/-- The clock under the new block, before the new reference is judged. -/
def ClockState.changed (c : ClockState) (b : TimingBlock) (n : Nat) (t : Instant) : ClockState :=
  let c' := { c with block := b, prevBlock := c.block, change := none, changeFrame := n, gridOffset := c.offsetFrom b n t }
  match c'.grid.getLast? with
  | some g => if b.refKind = 1 && c.block.refKind != 1 then c'.anchorPtp (g.n + 1) (g.t + g.period) b.rateCode (c'.ptpIndex (g.n + 1)) else c'
  | none => c'

/-- A timing change takes effect at its change frame: LOCKED, SLEWING or HOLDOVER by the new reference's validity and e. A reference
that was followed before is valid until it is lost. -/
def State.timingChanges (s : State) (b : TimingBlock) (n : Nat) (t : Instant) : State :=
  let c := s.clock
  let valid := if b.sameInput c.block then c.phase != .holdover && !s.refGone b else s.refOk b
  let c' := c.changed b n t
  (s.setClock (if valid then c'.relock t else { c' with phase := .holdover, residual := 0 })).raise 0x38

/-- A show boundary: the frame number advances, and the period eight frames on is fixed; a coordinator sends it to its group. -/
def State.showBoundary (s : State) : State :=
  let c := s.clock
  let g := c.predict (c.frame + 1)
  if !c.run || s.tb < g.t then s
  else
    let s := s.setClock { c with frame := g.n }
    let s := match c.change with
      | some (b, nc) => if nc = g.n then s.timingChanges b g.n g.t else s
      | none => s
    let known := (s.clock.at_ (g.n + 8)).isSome
    let c := if known then s.clock else s.clock.fixMany s.emax (g.n + 8 - (s.clock.grid.getLast?.elim g.n (·.n)))
    let word := c.wordAt g.t
    let c := { c with ltcFrame := word, ltcHist := c.ltcHist.range (g.n - 31) (g.n + 1) ++ [(g.n, word)] }
    let s := s.setClock c.prune
    if s.group.inGroup && s.group.isCoord && !known then
      (c.grid.getLast?).elim s fun f => s.gcast 1 (.grid f c.phase)
    else s

/-! ### Reference boundaries, loss and return (R102, R103, R114 to R117) -/

/-- The reference input of a key takes edges. -/
def State.keyOn (s : State) (key : Nat) : Bool :=
  if key = 0 then s.enabled 0x11 2 else if key = 1 then true else if key = 2 then s.enabled 0x11 0
  else if key = 3 then s.enabled 0x11 1 else 16 ≤ key && s.enabled 0x0C ((key - 16) / 3)

/-- A reference boundary, `x` without REF_OFFSET_NS, pairs with the grid while the clock runs LOCKED or SLEWING, or starts the
clock. -/
def State.boundaryAt (s : State) (x : Instant) : State :=
  let c := s.clock
  if !c.run then
    match c.phase, c.startDue, c.validAt with
    | .locked, none, some v => (c.boundaryFrom x (v + usUnits 1000)).elim s fun t => s.setStart t 0
    | _, _, _ => s
  else if c.phase = .locked || c.phase = .slewing then
    let c := c.follow
    match (if c.block.refKind = 0 then none else c.lastError s.tb : Option (Nat × Int)) with
    | none => s.setClock c
    | some e =>
      let r := c.measure e.1 e.2
      (s.setClock r.1).raiseAll r.2
  else s

/-- The boundaries kept of an input: 64, or those of 131,072 word-clock cycles, which cover 16 frames of any rate. -/
def keptEdges (key : Nat) (l : List (Instant × Nat)) : List (Instant × Nat) :=
  if key = 0 then (takeCycles 131072 l).take 131073 else l.take 64

/-- The last V edge at its expected time, after a V edge at `x`; while genlock is not followed, every V edge counts. -/
def ClockState.genlockEdge (c : ClockState) (x : Instant) : Option Instant :=
  let followed := c.accepted && c.block.refKind == 2 && (c.phase == .locked || c.phase == .slewing)
  if followed && !c.expectedEdge x then c.genlockAt else some x

/-- An edge of a reference input: key, word-clock cycles since the edge before, and how long ago it lies. -/
def State.refEdge (s : State) (key cycles : Nat) (back : Units) : State :=
  if !s.followsRef || !s.keyOn key then s
  else
    let x := s.tb - back
    let c := s.clock
    let old := c.edges.getD key []
    let c := if key = 2 then { c with genlockAt := c.genlockEdge x } else c
    let c := if key = 1 then c else { c with edges := c.edges.put key (keptEdges key ((x, cycles) :: old)) }
    let mine := c.accepted && c.block.key == key && (key != 0 || c.block.wordClock)
    let c := if mine && 16 ≤ key then
        { c with mainsMilliHz := old.head?.elim c.mainsMilliHz fun y =>
            if x ≤ y.1 then c.mainsMilliHz else (roundDiv 65536000000000000 (x - y.1).toNat).toNat }
      else c
    let s := s.setClock c
    if mine then s.boundaryAt x else s

/-- An LTC word (R117): LTC_JUMP where it is not the successor of the word before. -/
def State.ltcWord (s : State) (w : Nat) : State :=
  if !s.enabled 0x11 1 || !s.followsRef then s
  else
    let c := s.clock
    let b := c.block
    let fps := ltcFps b.refRate
    let jump := c.accepted && b.refKind == 3 && c.words.head?.elim false fun x => !ltcNext fps b.dropFrame x.2 w
    let s := s.setClock { c with ltcWord := w, words := ((s.tb, w) :: c.words).take 16 }
    if jump then s.raise 0x3A else s

/-- A reference lost before the boundary that was to start the clock: the clock starts at the boundary that its held length gives
(DESIGN CHOICE, assumption 73). -/
def State.startHeld (s : State) : State :=
  let c := s.clock
  match c.startDue, c.validAt with
  | none, some v => s.setStart (c.heldBoundary (max s.tb (v + usUnits 1000))) 0
  | _, _ => s

/-- The reference meets its loss condition. -/
def State.refLost (s : State) : State :=
  let c := s.clock
  if !s.followsRef || !c.accepted || !(c.phase == .locked || c.phase == .slewing) || !s.refGone c.block then s
  else
    let s := (s.setClock { c with phase := .holdover, residual := 0, lossCount := c.lossCount + 1 }).raise 0x35
    if c.run then s else s.startHeld

/-- The reference meets its validity condition. Where a start after ACQ_TIMEOUT is still to come, there is no boundary to measure e
at: the clock slews, and the first boundary after the start measures it (DEDUCED, assumption 74). -/
def State.refValid (s : State) : State :=
  let c := s.clock
  if !s.followsRef || !c.accepted || !s.refOk c.block then s
  else match c.phase with
    | .acquiring => s.startFrom s.tb
    | .holdover => (s.setClock (if c.run then c.relock s.tb else { c with phase := .slewing })).raise 0x36
    | _ => s

/-- ACQ_TIMEOUT expires (R112). -/
def State.acqTimeout (s : State) : State :=
  let c := s.clock
  if !s.followsRef || c.phase != .acquiring || c.acqTimeout = 0 || s.now < c.acqSince + c.acqTimeout * cycSec then s
  else
    let due := s.tb + usUnits 1000
    let off := if c.block.refKind = 1 then ptpIndexNear c.block.rateCode (due - nsUnits c.block.offsetNs) - c.startFrame else 0
    (s.setClock { c with phase := .holdover }).setStart due off

/-- SHOW_CLOCK_STATUS (R135). -/
def showClockStatusSpec : CommandSpec :=
  { code := 0x0203, kind := .read, lengthOk := lenNone, roleOk := anyRole, body := fun _ s => s.okWith s.clock.status }

/-! ### Meanings -/

/-- SHOW_CLOCK_START (R109, R132). -/
def execShowClockStart (dt m : Nat) (s : State) : Host.Outcome State Fault Refusal := s.act dt (·.runMbx showClockStartSpec m)
/-- SHOW_CLOCK_STARTS (R109 to R111). -/
def execShowClockStarts (dt : Nat) (s : State) : Host.Outcome State Fault Refusal := s.act dt (·.clockStarts)
/-- ACQ_TIMEOUT (R112). -/
def execAcqTimeout (dt : Nat) (s : State) : Host.Outcome State Fault Refusal := s.act dt (·.acqTimeout)
/-- SHOW_CLOCK_STATUS (R135). -/
def execShowClockStatus (dt m : Nat) (s : State) : Host.Outcome State Fault Refusal := s.act dt (·.runMbx showClockStatusSpec m)
/-- SHOW_BOUNDARY (R101, R104, R122). -/
def execShowBoundary (dt : Nat) (s : State) : Host.Outcome State Fault Refusal := s.act dt (·.showBoundary)
/-- REFERENCE_BOUNDARY (R102, R103, R115): `key` names the input (0 word clock, 1 PTP, 2 genlock, 3 LTC, 16 + 3 × point +
phase mains), `cycles` the word-clock cycles since the boundary before, `back` how long ago it lies. -/
def execReferenceBoundary (dt key cycles back : Nat) (s : State) : Host.Outcome State Fault Refusal :=
  s.act dt (·.refEdge key cycles back)
/-- LTC_WORD (R117). -/
def execLtcWord (dt word : Nat) (s : State) : Host.Outcome State Fault Refusal := s.act dt (·.ltcWord (word % 2 ^ 32))
/-- REF_LOST (R114, R115). -/
def execRefLost (dt : Nat) (s : State) : Host.Outcome State Fault Refusal := s.act dt (·.refLost)
/-- REF_VALID (R114, R115). -/
def execRefValid (dt : Nat) (s : State) : Host.Outcome State Fault Refusal := s.act dt (·.refValid)

end Sys2Proof.Machine
end

