-- ==== Sys2Proof/Machine/InputExec.lean ====
section
/-!
DEFINITION. Machine/InputExec.lean: the commands of live inputs and merging (R243 to R258, R265, R269).
-/

namespace Sys2Proof.Machine

/-- The inputs changed, with the interrupt sources raised. -/
def State.withInputs (s : State) (i : InputState) (raised : List Nat) : State := ({ s with inputs := i } : State).raiseAll raised

/-! ### sACN (R245 to R249) -/

/-- A packet on an ENABLED port: multicast by an IP version and on a port that the universe joins, or unicast to the port's own
address (R245). -/
def State.sacnPortOk (s : State) (d : RxDef) (port : Nat) (unicast v6 : Bool) : Bool :=
  s.portOn port && (unicast || (bit d.ports port && if v6 then d.ipv6 else d.ipv4))

/-- A data packet. A synchronisation address that a held packet names counts its 2,500 ms from that packet where none has
arrived yet. -/
def State.sacnData (s : State) (p : SacnData) : State :=
  match s.txn.view.inputs.sacn.find p.uni with
  | none => s
  | some d =>
    if !s.sacnPortOk d p.port p.unicast p.v6 then s
    else
      let r := (s.inputs.sacn.getD p.uni {}).dataPacket d p (s.inputs.syncLost p.sync) s.now s.pos
      let sync := if p.sync != 0 && p.sync == d.sync && !s.inputs.sync.has p.sync then
          s.inputs.sync.put p.sync ⟨s.now, false⟩ else s.inputs.sync
      s.withInputs { s.inputs with sacn := s.inputs.sacn.put p.uni r.1, sync := sync } r.2

/-- A synchronisation packet of an address that the host has named for some universe, by a way on which the universe receives. -/
def State.sacnSync (s : State) (port cid : Nat) (p : SacnSync) : State :=
  let takes (d : RxDef) : Bool := s.sacnPortOk d port p.unicast p.v6
  let defs := s.txn.view.inputs.sacn
  if p.addr = 0 || !(defs.any fun e => e.2.sync == p.addr && takes e.2) then s
  else { s with inputs := s.inputs.syncPacket (fun k => (defs.find k).elim false takes) cid p.addr s.now s.pos }

/-- A source has been silent for 2,500 ms. -/
def State.sacnSourceTimeout (s : State) (uni cid : Nat) : State :=
  let d := s.inputs.sacn.getD uni {}
  if (d.source cid).elim false fun x => x.lastAt + lossCycles ≤ s.now then
    s.withInputs { s.inputs with sacn := s.inputs.sacn.put uni (d.endSource cid s.pos) } [srcSacnLost]
  else s

/-- An address has had no synchronisation packet for 2,500 ms. -/
def State.sacnSyncTimeout (s : State) (addr : Nat) : State :=
  if (s.inputs.sync.find addr).elim false fun x => !x.lost && x.lastAt + lossCycles ≤ s.now then
    s.withInputs (s.inputs.loseSync addr s.now) [srcSacnSync]
  else s

/-! ### DMX input (R250, R251) -/

/-- Port `k` is an ENABLED DMX input that the host has bound. -/
def State.dmxInOn (s : State) (k : Nat) : Bool :=
  s.enabled 4 k && s.txn.view.inputs.dmxIn.has k && (s.txn.view.ports.dmx.getD k {}).input

/-- A DMX port. -/
def State.dmxPort (s : State) (j : Nat) : DmxDyn := s.ports.dmx.getD j {}

/-- A DMX port changed. -/
def State.setDmx (s : State) (j : Nat) (d : DmxDyn) : State := { s with ports := { s.ports with dmx := s.ports.dmx.put j d } }

/-- A packet and its framing error are counted on an ENABLED input-direction port (R374). -/
def State.dmxInCount (s : State) (k : Nat) (framing : Bool) : State :=
  if !(s.enabled 4 k && (s.txn.view.ports.dmx.getD k {}).input) then s
  else
    let counts := bump 0 (s.dmxPort k).counts
    s.setDmx k { s.dmxPort k with counts := if framing then bump 2 counts else counts }

/-- A port accepts a break of at least 88 µs, a mark after it of at least 8 µs, and a bit rate within 2 % of 250 kbit/s (R361). -/
def DmxLine.accepted (p : DmxLine) : Bool := 88000 ≤ p.breakNs && 8000 ≤ p.mabNs && 245000 ≤ p.bitRate && p.bitRate ≤ 255000

/-- A packet is complete; a slot with a framing error ends it at the slot before (R250, R251, R361). -/
def State.dmxInPacket (s : State) (k start : Nat) (slots : Bytes) (line : DmxLine) : State :=
  if !line.accepted then s
  else
    let s := s.dmxInCount k line.framing
    if !s.dmxInOn k then s
    else { s with inputs := { s.inputs with dmx := s.inputs.dmx.upd k {} fun d => d.dmxPacket start slots s.now s.pos } }

/-- No complete packet for 1,250 ms. Before the first one the time counts from the binding of the input, or from the enabling of its
port (DEDUCED, assumption 92). -/
def State.dmxInTimeout (s : State) (k : Nat) : State :=
  let d := s.inputs.dmx.getD k {}
  if s.dmxInOn k && !d.lost && d.lastAt + dmxLossCycles ≤ s.now then
    let d := { d with lost := true, counts := { d.counts with losses := d.counts.losses + 1 } }
    s.withInputs { s.inputs with dmx := s.inputs.dmx.put k d } [srcDmxLost]
  else s

/-! ### Video (R254 to R258) -/

/-- The configuration of an ENABLED video input. -/
def State.videoCfg (s : State) (i : Nat) : Option Bytes := if s.enabled 7 i then s.txn.view.inputs.videoIn.find i else none

/-- A video input. -/
def State.video (s : State) (i : Nat) : VideoDyn := s.inputs.video.getD i {}

/-- A video input changed. -/
def State.setVideo (s : State) (i : Nat) (r : VideoDyn × List Nat) : State :=
  s.withInputs { s.inputs with video := s.inputs.video.put i r.1 } r.2

/-- The buffers of an input that other frames hold: complete ones, the one assigned last and those that frames in flight
read (R255, R256). -/
def State.videoBusy (s : State) (i : Nat) : Nat :=
  let d := s.video i
  let ids := d.complete.map (·.id) ++ (d.assigned.map (·.id)).toList ++ (s.render.frames.filter fun r => !r.lightDone).flatMap fun r =>
    ((r.inputs.video.find i).map (·.id)).toList ++ r.canvases.filterMap fun e =>
      if (r.view.canvas.slices.find e.1).elim false (fun m => m.enable && m.input == i) then e.2.input.map VideoFrame.id else none
  ids.eraseDups.length

/-- The configuration of an ENABLED video input whose stream a packet belongs to, on an ENABLED Ethernet port. -/
def State.videoTakes (s : State) (i : Nat) (p : VideoPacket) : Option Bytes :=
  (s.videoCfg i).bind fun cfg => if p.suits cfg && s.portOn p.port then some cfg else none

/-- A packet arrives. -/
def State.videoPacket (s : State) (i : Nat) (p : VideoPacket) : State :=
  match s.videoTakes i p with
  | none => s
  | some cfg => s.setVideo i ((s.video i).packet cfg p (s.videoBusy i) s.tb s.now s.pos)

/-- T of R255: the show period, or the input's own while the show clock is stopped (DESIGN CHOICE, assumption 52). -/
def State.videoPeriod (s : State) (cfg : Bytes) : Units :=
  if s.clock.run then s.clock.period else (shortestPeriod (vidRate cfg) : Nat)

/-- No packet for four periods of the input's rate, counted from its configuration or its enabling before the first one (DEDUCED,
assumption 92). -/
def State.videoLoss (s : State) (i : Nat) : State :=
  match s.videoCfg i with
  | none => s
  | some cfg =>
    let d := s.video i
    if !d.lost && decide (4 * (shortestPeriod (vidRate cfg) : Nat) ≤ (s.now - d.lastPacket) * 131072) then
      s.setVideo i ({ d with lost := true, counts := { d.counts with losses := d.counts.losses + 1 } }, [srcVideoLost])
    else s

/-! ### LIVE_WRITE (R252, R253, R265) -/

/-- The frame to which an input stamped `x` belongs (R107); 0 while the show clock is stopped (DESIGN CHOICE,
assumption 52). -/
def ClockState.frameOf (c : ClockState) (x : Instant) : Nat :=
  if !c.run then 0
  else ((List.range 64).map (c.nextLatch + ·)).find? (fun n => decide (x < (c.predict n).latch)) |>.getD (c.nextLatch + 64)

/-- LIVE_WRITE. -/
def liveWriteSpec : CommandSpec :=
  { code := 0x0520, kind := .device, lengthOk := lenRecs 8 8 4, roleOk := operator
    argOk := fun c _ =>
      upTo c.payload 1 1 1 && zeroAt c.payload 2 2
        && (records 8 (fld c.payload 4 4) (c.payload.drop 8)).all fun r =>
          fld r 3 1 ≤ 1 && fld r 7 1 == 0 && (fld r 3 1 == 0 || fld r 4 4 == 0)
    rangeOk := fun c _ => upTo c.payload 0 1 7 && upTo c.payload 4 4 507
    body := fun c s =>
      let m := applyLive s.inputs.live c.payload s.tb
      if 1048576 < m.length then s.fail .noResource
      else ({ s with inputs := { s.inputs with live := m } } : State).okWith (bytesLE 8 (s.clock.frameOf s.tb)) }

/-! ### INPUT_STATUS, MERGE_READ (R269) -/

/-- The INPUT_STATUS response. -/
def State.inputStatus (s : State) (kind k : Nat) : Bytes :=
  let v := s.txn.view.inputs
  if kind = 2 then
    let d := s.video k
    let hold := (v.videoIn.find k).elim false vidHold
    Sys2Proof.Machine.inputStatus (inputStateCode (v.videoIn.has k) d.seen d.lost hold) 0 0 d.lastPos d.counts
  else
    let def_ := if kind = 0 then v.sacn.find k else v.dmxIn.find k
    let d := if kind = 0 then s.inputs.sacn.getD k {} else s.inputs.dmx.getD k {}
    let prio := if d.sources.any (·.stamped) then mergedPriority d.sources else d.lastPrio
    Sys2Proof.Machine.inputStatus (inputStateCode def_.isSome d.seen d.lost (def_.elim false (·.hold)))
      (if kind = 0 then d.sources.length else 0) (if kind = 0 then prio else 0) d.lastPos d.counts

/-- INPUT_STATUS. -/
def inputStatusSpec : CommandSpec :=
  { code := 0x0540, kind := .device, lengthOk := lenIs 8, roleOk := anyRole
    argOk := fun c _ => zeroAt c.payload 1 1 && zeroAt c.payload 4 4
    rangeOk := fun c _ =>
      match fld c.payload 0 1 with
      | 0 => within c.payload 2 2 1 63999
      | 1 => upTo c.payload 2 2 15
      | 2 => upTo c.payload 2 2 1
      | _ => false
    body := fun c s => s.okWith (s.inputStatus (fld c.payload 0 1) (fld c.payload 2 2)) }

/-- The MERGE_READ entry of an address. -/
def ClosedMain.mergeEntry (m : ClosedMain) (addr : Nat) : Bytes :=
  mergeReadEntry ((m.fixtures.find (addr / 128)).bind fun x => x.merged[addr % 128]?)

/-- MERGE_READ. -/
def mergeReadSpec : CommandSpec :=
  { code := 0x0541, kind := .device, lengthOk := lenRecs 8 4 0, roleOk := anyRole
    argOk := fun c _ => zeroAt c.payload 4 4 && (records 4 (fld c.payload 0 4) (c.payload.drop 8)).all fun r => fld r 3 1 == 0
    rangeOk := fun c _ => within c.payload 0 4 1 100
    body := fun c s =>
      s.okWith (bytesLE 8 s.render.closed.frame
        ++ (records 4 (fld c.payload 0 4) (c.payload.drop 8)).flatMap fun r => s.render.closed.mergeEntry (fld r 0 4)) }

/-! ### Meanings -/

/-- SACN_DATA_RX (R245 to R249). -/
def execSacnDataRx (dt : Nat) (packet : SacnData) (s : State) : Host.Outcome State Fault Refusal := s.act dt (·.sacnData packet)
/-- SACN_SYNC_RX (R245, R249). -/
def execSacnSyncRx (dt port cid : Nat) (packet : SacnSync) (s : State) : Host.Outcome State Fault Refusal :=
  s.act dt (·.sacnSync port cid packet)
/-- SACN_SOURCE_TIMEOUT (R247). -/
def execSacnSourceTimeout (dt uni cid : Nat) (s : State) : Host.Outcome State Fault Refusal :=
  s.act dt (·.sacnSourceTimeout uni cid)
/-- SACN_SYNC_TIMEOUT (R249). -/
def execSacnSyncTimeout (dt addr : Nat) (s : State) : Host.Outcome State Fault Refusal := s.act dt (·.sacnSyncTimeout addr)
/-- DMX_IN_PACKET (R250, R251). -/
def execDmxInPacket (dt port start : Nat) (slots : Bytes) (line : DmxLine) (s : State) : Host.Outcome State Fault Refusal :=
  s.act dt (·.dmxInPacket port start slots line)
/-- DMX_IN_TIMEOUT (R251). -/
def execDmxInTimeout (dt port : Nat) (s : State) : Host.Outcome State Fault Refusal := s.act dt (·.dmxInTimeout port)
/-- LIVE_WRITE (R252, R265). -/
def execLiveWrite (dt m : Nat) (s : State) : Host.Outcome State Fault Refusal := s.act dt (·.runMbx liveWriteSpec m)
/-- VIDEO_LOSS_TIMEOUT (R258). -/
def execVideoLossTimeout (dt input : Nat) (s : State) : Host.Outcome State Fault Refusal := s.act dt (·.videoLoss input)
/-- INPUT_STATUS (R269). -/
def execInputStatus (dt m : Nat) (s : State) : Host.Outcome State Fault Refusal := s.act dt (·.runMbx inputStatusSpec m)
/-- MERGE_READ (R269). -/
def execMergeRead (dt m : Nat) (s : State) : Host.Outcome State Fault Refusal := s.act dt (·.runMbx mergeReadSpec m)

end Sys2Proof.Machine
end

