-- ==== Sys2Proof/Machine/Sacn.lean ====
section
/-!
DEFINITION. Machine/Sacn.lean: emission latencies (R336), the sACN schedule, sequence numbers and terminations (R393 to R395),
and the packets of a frame (R392).
-/

namespace Sys2Proof.Machine

/-! ### Latencies (R172, R336, R394) -/

/-- The declared output latency of a fixture, in µs. -/
def PatchState.fixtureLatency (v : PatchState) (f : Nat) : Nat :=
  (v.patch.find f).elim 0 fun r => ((v.profiles.find r.profile).map profLatencyUs).getD 0 + r.extraUs

/-- The declared output latencies of the fixtures on a universe or DMX port. -/
def PatchState.destLatencies (v : PatchState) (kind dest : Nat) : List Nat :=
  (v.patch.filter fun e => e.2.destKind == kind && e.2.dest == dest).map fun e => v.fixtureLatency e.1

/-- The fixture whose footprint covers a PWM output, and its latency. -/
def PatchState.pwmLatencies (v : PatchState) (j : Nat) : List Nat :=
  (v.patch.filter fun e => e.2.destKind == 3 && (v.span e.2).elim false fun sp => sp.2.1 ≤ j && j < sp.2.2).map fun e =>
    v.fixtureLatency e.1

/-- The largest of a list, 0 of none; and the smallest. -/
def maxOf (l : List Nat) : Nat := l.foldl max 0
def minOf (l : List Nat) : Nat := l.foldl min (maxOf l)

/-- λ of a universe in µs. -/
def ShowState.universeLambda (v : ShowState) (u : Nat) : Nat := maxOf (v.patch.destLatencies 1 u)

/-- λ of a synchronisation address, over the universes that name it (R394). -/
def ShowState.syncLambda (v : ShowState) (us : List Nat) (a : Nat) : Nat :=
  maxOf ((us.filter fun u => (v.net.tx u).sync == a).map v.universeLambda)

/-! ### Schedule, sequence numbers and terminations (R393 to R395) -/

/-- A universe is scheduled in the frame. -/
def FrameRec.uniScheduled (r : FrameRec) (u : Nat) : Bool := scheduled (r.view.net.tx u).rateHz (r.view.txRate r.rate) r.n

/-- The universes that the frame sends. -/
def FrameRec.dueUniverses (r : FrameRec) : List Nat := r.universes.filter r.uniScheduled

/-- The synchronisation addresses that the frame sends. -/
def FrameRec.dueSyncs (r : FrameRec) : List Nat :=
  ((r.dueUniverses.map fun u => (r.view.net.tx u).sync).filter (· != 0)).eraseDups

/-- The number after the last one of a key; 0 for a key that is new. -/
def nextNumber (m : Map Nat) (k : Nat) : Nat := (m.find k).elim 0 fun x => (x + 1) % 256

/-- The keys of the numbers that a frame's transmitted universes keep. -/
def FrameRec.seqKeys (r : FrameRec) : List Nat :=
  r.universes ++ (((r.universes.map fun u => (r.view.net.tx u).sync).filter (· != 0)).eraseDups).map (65536 + ·)

/-- The numbers after the frame: those that its packets carry put in place. -/
def FrameRec.stepSeq (r : FrameRec) (m : Map Nat) : Map Nat :=
  let kept : Map Nat := m.filter fun e => r.seqKeys.contains e.1
  kept.putAll ((r.dueUniverses ++ r.dueSyncs.map (65536 + ·)).map fun k => (k, nextNumber kept k))

/-- The ports on which a view transmits a universe. -/
def ShowState.txPorts (v : ShowState) (u : Nat) : Nat :=
  if (v.net.transmitted v.patch).contains u then (v.net.tx u).ports % 16 else 0

/-- The terminations that a new view begins: universes of this rank that lose a port; `slots` gives the last values. -/
def newTerms (old new_ : ShowState) (rank : Nat) (seq : Map Nat) (slots : Nat → List Nat) : List Termination :=
  ((old.net.transmitted old.patch).filter fun u => old.universeRank u == rank).flatMap fun u =>
    ((List.range 4).filter fun p => bit (old.txPorts u) p && !bit (new_.txPorts u) p).map fun p =>
      let x := old.net.tx u
      { uni := u, port := p, left := 3, seq := seq.getD u 255, slots := slots u, lambda := usUnits (old.universeLambda u)
        priority := x.priority, sync := x.sync, force := x.forceSync, config := old.net.config }

/-- Terminations in the frame: those still running, and those that begin, each with its next number. -/
def stepTerms (running begun : List Termination) (view : ShowState) : List Termination :=
  ((running.filter fun t => 0 < t.left && !bit (view.txPorts t.uni) t.port) ++ begun).map fun t =>
    { t with left := t.left - 1, seq := (t.seq + 1) % 256 }

/-! ### Packets (R392) -/

/-- The data packet of a universe in the frame, as a port sends it. -/
def FrameRec.dataPacket (r : FrameRec) (m : WireImage) (c : NetPortCfg) (u : Nat) : Bytes :=
  let x := r.view.net.tx u
  let v := r.view.net
  sacnFrame c v.ipv6 u (e131Data v.cid v.sourceName x.priority x.sync (r.tx.seq.getD u 0) (32 * b2n x.forceSync) u
    ((m.slots (65536 + u)).take x.slots))

/-- The synchronisation packet of an address. -/
def FrameRec.syncPacket (r : FrameRec) (c : NetPortCfg) (a : Nat) : Bytes :=
  sacnFrame c r.view.net.ipv6 a (e131Sync r.view.net.cid (r.tx.seq.getD (65536 + a) 0) a)

/-- A data packet with Stream_Terminated. -/
def Termination.packet (t : Termination) (c : NetPortCfg) : Bytes :=
  let v : NetShow := { config := t.config }
  sacnFrame c v.ipv6 t.uni (e131Data v.cid v.sourceName t.priority t.sync t.seq (64 + 32 * b2n t.force) t.uni t.slots)

end Sys2Proof.Machine
end

