-- ==== Sys2Proof/Machine/Join.lean ====
section
/-!
DEFINITION. Machine/Join.lean: Ethernet ports, the multicast groups that the H64's own engines join on them, and the IGMPv3 and MLDv2
reports of those groups (R377, R378, R381). The layouts of the reports are those of RFC 3376 and RFC 3810 (PRESUMED, assumption 43).
-/

namespace Sys2Proof.Machine

/-! ### Ethernet ports -/

/-- An Ethernet port. -/
def State.port (s : State) (p : Nat) : NetPort := s.net.ports.getD p {}

/-- An Ethernet port changed. -/
def State.setPort (s : State) (p : Nat) (x : NetPort) : State := { s with net := { s.net with ports := s.net.ports.put p x } }

/-- Port counters advanced; one that crosses half range raises NET_STAT_HALF of the port. -/
def State.countPort (s : State) (p : Nat) (l : List (Nat × Nat)) : State :=
  let r := (s.port p).countAll l
  (s.setPort p r.1).raiseIf r.2 (0x95 + p)

/-- A port goes DOWN (R377). -/
def State.portDown (s : State) (p : Nat) : State :=
  if (s.port p).up then ((s.setPort p { s.port p with up := false }).countPort p [(47, 1)]).raise (0x90 + p) else s

/-- A port sends: it is ENABLED and UP (R377, R378). -/
def State.sends (s : State) (p : Nat) : Bool := s.portOn p && (s.port p).up

/-- A frame of the H64's own engines is protected where the port's SecY protects frames. -/
def NetPort.protects (x : NetPort) : Bool := x.secy.enable && x.secy.protect

/-- A frame of the H64's engines queued on a port behind its emission runs (R389). -/
def State.queueOther (s : State) (p ring : Nat) (bs : Bytes) : State :=
  let x := s.port p
  s.setPort p { x with otherQueue := x.otherQueue ++ [{ bytes := bs, protect := x.protects, ring := ring }] }

/-! ### Groups (R381) -/

/-- A multicast group: IPv6 or IPv4, its address, and the one source that it is received from, if any. -/
structure Group where
  v6 : Bool
  addr : Nat
  source : Option Nat := none
  deriving DecidableEq, Repr

/-- The groups of an E1.31 universe or synchronisation address. -/
def sacnGroups (v4 v6 : Bool) (u : Nat) : List Group :=
  (if v4 then [⟨false, 0xEFFF0000 + u, none⟩] else []) ++ (if v6 then [⟨true, sacnGroup6 u, none⟩] else [])

/-- The flags, UDP port, group and source of a video input. -/
def vidIs6 (c : Bytes) : Bool := bit (fld c 7 1) 1
def vidUdp (c : Bytes) : Nat := fld c 12 2
def vidAddr (c : Bytes) (off : Nat) : Nat := if vidIs6 c then beNat (slice c off 16) else beNat (slice c off 4)
def vidGroup (c : Bytes) : Group := ⟨vidIs6 c, vidAddr c 0x10, if bit (fld c 7 1) 2 then some (vidAddr c 0x20) else none⟩

/-- The groups that the inputs of a show state join on a port. -/
def InputShow.groups (v : InputShow) (p : Nat) : List Group :=
  (v.sacn.flatMap fun e =>
    if bit e.2.ports p then
      sacnGroups e.2.ipv4 e.2.ipv6 e.1 ++ (if e.2.sync = 0 then [] else sacnGroups e.2.ipv4 e.2.ipv6 e.2.sync)
    else [])
  ++ (v.videoIn.filter fun e => vidPort e.2 == p).map fun e => vidGroup e.2

/-- The groups that the PTP engine joins on a port. -/
def PtpConfig.groups (c : PtpConfig) (p : Nat) : List Group :=
  if c.port != p then [] else if c.transport = 0 then [⟨false, 0xE0000181, none⟩]
  else if c.transport = 1 then [⟨true, 0xFF0E * 2 ^ 112 + 0x181, none⟩] else []

/-- The groups joined on a port. -/
def State.groups (s : State) (p : Nat) : List Group := (s.txn.view.inputs.groups p ++ s.time.ptp.cfg.groups p).eraseDups

/-! ### Reports -/

/-- A group record: type, group and its source. -/
def Group.reportRec (g : Group) (type_ : Nat) : Bytes :=
  let w := if g.v6 then 16 else 4
  bytesBE 1 type_ ++ bytesBE 1 0 ++ bytesBE 2 (g.source.elim 0 fun _ => 1) ++ bytesBE w g.addr ++ g.source.elim [] fun x => bytesBE w x

/-- An IGMPv3 report of at most 120 groups, each with its record type. -/
def igmpReport (c : NetPortCfg) (gs : List (Group × Nat)) : Bytes :=
  let body := bytesBE 4 gs.length ++ gs.flatMap fun g => g.1.reportRec g.2
  let z : Bytes := [0x22, 0, 0, 0] ++ body
  let igmp := patchBytes z 2 (bytesBE 2 (inetSum z))
  let ip : Bytes := [0x46, 0xC0] ++ bytesBE 2 (24 + igmp.length) ++ bytesBE 4 0x00004000 ++ [1, 2, 0, 0] ++ bytesBE 4 c.ipv4
    ++ bytesBE 4 0xE0000016 ++ [0x94, 4, 0, 0]
  bytesBE 6 0x01005E000016 ++ bytesBE 6 c.mac ++ bytesBE 2 0x0800 ++ patchBytes ip 10 (bytesBE 2 (inetSum ip)) ++ igmp

/-- An MLDv2 report of at most 60 groups, each with its record type. -/
def mldReport (c : NetPortCfg) (gs : List (Group × Nat)) : Bytes :=
  let z : Bytes := [143, 0, 0, 0] ++ bytesBE 4 gs.length ++ gs.flatMap fun g => g.1.reportRec g.2
  let dest := 0xFF02 * 2 ^ 112 + 0x16
  let pseudo := bytesBE 16 c.ipv6 ++ bytesBE 16 dest ++ bytesBE 4 z.length ++ bytesBE 4 58
  let mld := patchBytes z 2 (bytesBE 2 (65535 - foldSum (foldSum (wordSum pseudo + wordSum z))))
  bytesBE 6 0x333300000016 ++ bytesBE 6 c.mac ++ bytesBE 2 0x86DD ++ bytesBE 4 0x60000000 ++ bytesBE 2 (8 + mld.length) ++ [0, 1]
    ++ bytesBE 16 c.ipv6 ++ bytesBE 16 dest ++ [58, 0, 5, 2, 0, 0, 1, 0] ++ mld

/-- A list in pieces of `n`. -/
def piecesOf {α : Type} (n : Nat) : Nat → List α → List (List α)
  | 0, _ => []
  | fuel + 1, l => if l.isEmpty then [] else l.take n :: piecesOf n fuel (l.drop n)

/-- The reports of some groups, each with its record type, queued on a port that sends. -/
def State.reportGroups (s : State) (p : Nat) (gs : List (Group × Nat)) : State :=
  if !s.sends p then s
  else
    let c := (s.port p).cfg
    let v4 := (piecesOf 120 (gs.length + 1) (gs.filter fun g => !g.1.v6)).map (igmpReport c)
    let v6 := (piecesOf 60 (gs.length + 1) (gs.filter fun g => g.1.v6)).map (mldReport c)
    (v4 ++ v6).foldl (fun s bs => s.queueOther p 61 bs) s

/-- The record type of a group as it stands: MODE_IS_INCLUDE or MODE_IS_EXCLUDE. -/
def Group.stands (g : Group) : Nat := if g.source.isSome then 1 else 2

/-- Every group that a port has joined reported, in answer to a query or when the port goes UP. -/
def State.reportAll (s : State) (p : Nat) (v4 v6 : Bool) : State :=
  s.reportGroups p (((s.groups p).filter fun g => if g.v6 then v6 else v4).map fun g => (g, g.stands))

/-- A query answered with the groups that it asks for (R381). -/
def State.answerQuery (s : State) (p : Nat) (q : Bool × Nat) : State :=
  if q.2 = 0 then s.reportAll p (!q.1) q.1
  else s.reportGroups p (((s.groups p).filter fun g => g.v6 == q.1 && g.addr == q.2).map fun g => (g, g.stands))

/-- The MAC address of a group. -/
def Group.mac (g : Group) : Nat := if g.v6 then 0x333300000000 + g.addr % 2 ^ 32 else 0x01005E000000 + g.addr % 2 ^ 23

/-- The MAC addresses of steps 5 and 6 of R382: those of the joined groups, and of PTP over Ethernet. -/
def State.groupMacs (s : State) (p : Nat) : List Nat :=
  (s.groups p).map (·.mac) ++ (if s.time.ptp.cfg.port = p && s.time.ptp.cfg.transport = 2 then [0x011B19000000] else [])

/-- Groups joined and left on every port since `old`. -/
def State.reportChanges (s : State) (old : Nat → List Group) : State :=
  (List.range 5).foldl (fun s p =>
    let now := s.groups p
    let joined := (now.filter fun g => !(old p).contains g).map fun g => (g, if g.source.isSome then 3 else 4)
    let left := ((old p).filter fun g => !now.contains g).map fun g => (({ g with source := none } : Group), 3)
    if joined.isEmpty && left.isEmpty then s else s.reportGroups p (joined ++ left)) s

end Sys2Proof.Machine
end

