-- ==== Sys2Proof/Machine/ReadExec.lean ====
section
/-!
DEFINITION. Machine/ReadExec.lean: the reads of the patch, of playbacks and of the feeder governor (R190, R193, R195,
R196, R232, R291).
-/

namespace Sys2Proof.Machine

/-- What a read does with its view; a released snapshot answers ABORTED (R85). -/
def State.withView (s : State) (c : Ctx) (f : ShowState → State × Reply) : State × Reply :=
  match s.readView c with
  | some v => f v
  | none => s.fail .aborted

/-- Bytes that a read writes to the host region (R54, R482). -/
def State.storeRead (s : State) (off : Nat) (bs : Bytes) : State := if bs.isEmpty then s else (s.writeRegion off bs).memWritten 0

/-! ### PROFILE_READ, PATCH_READ, PARAM_READ, POOL_STATUS -/

/-- PROFILE_READ (R190). -/
def profileReadBody (c : Ctx) (s : State) : State × Reply :=
  s.withView c fun v =>
    match v.patch.profiles.find (fld c.payload 0 2) with
    | none => s.fail .badArgument
    | some img =>
      let resp := bytesLE 4 img.length ++ bytesLE 4 (v.patch.usersOf (fld c.payload 0 2)).length
      if fld c.payload 4 4 < img.length then (s, ⟨.outOfRange, resp, none⟩)
      else if !regionOk (fld c.payload 8 8) img.length then s.fail .outOfRange
      else (s.storeRead (fld c.payload 8 8) img).okWith resp

def profileReadSpec : CommandSpec :=
  { code := 0x0303, kind := .read, lengthOk := lenIs 16, roleOk := anyRole
    argOk := fun c _ => zeroAt c.payload 2 2
    rangeOk := fun c _ => upTo c.payload 0 2 4095
    body := profileReadBody }

/-- PATCH_READ (R193). Records to the host region are not limited to 126. -/
def patchReadBody (c : Ctx) (s : State) : State × Reply :=
  s.withView c fun v =>
    let off := fld c.payload 8 8
    let got := patchReadScan v.patch (fld c.payload 0 4) (fld c.payload 4 4) (if off = 0 then 126 else 131073)
    let recs := got.1.flatMap fun e => patchRecBytes e.1 e.2
    let head := bytesLE 4 got.1.length ++ bytesLE 4 got.2
    if off = 0 then s.okWith (head ++ recs)
    else if !regionOk off recs.length then s.fail .outOfRange
    else (s.storeRead off recs).okWith head

def patchReadSpec : CommandSpec :=
  { code := 0x0312, kind := .read, lengthOk := lenIs 16, roleOk := anyRole
    rangeOk := fun c _ => fld c.payload 0 4 + fld c.payload 4 4 ≤ 131072
    body := patchReadBody }

/-- PARAM_READ (R195). -/
def paramReadSpec : CommandSpec :=
  { code := 0x0321, kind := .read, lengthOk := lenRecs 8 4 0, roleOk := anyRole
    argOk := fun c _ => zeroAt c.payload 4 4 && (records 4 (fld c.payload 0 4) (c.payload.drop 8)).all fun r => fld r 3 1 == 0
    rangeOk := fun c _ => within c.payload 0 4 1 507
    body := fun c s =>
      s.withView c fun v =>
        s.okWith ((records 4 (fld c.payload 0 4) (c.payload.drop 8)).flatMap fun r => paramReadEntry v.patch (fld r 0 4)) }

/-- POOL_STATUS (R196). -/
def poolStatusSpec : CommandSpec :=
  { code := 0x0330, kind := .read, lengthOk := lenNone, roleOk := anyRole
    body := fun c s => s.withView c fun v => s.okWith (poolStatus v.patch) }

/-! ### PLAYBACK_STATUS (R232) -/

/-- LTC as the frame in DEV_FRAME reads it. -/
def State.frameLtc (s : State) : LtcView := (s.render.frames.find? (·.grid.n == s.host.devFrame)).elim {} (·.ltc)

/-- The running state at the evaluation position of the frame in DEV_FRAME, which its record holds; a frame that is not sealed
yet, or that has left its flight, takes what stands. -/
def State.dynNow (s : State) : DynState :=
  match s.render.frames.find? fun r => r.grid.n == s.host.devFrame && r.sealed with
  | some r => r.dyn
  | none => (s.render.dyn.upTo s.txn.view.patch s.txn.view.cues (s.clock.rateOf s.host.devFrame) (mkPos s.host.devFrame 0)).1

def playbackStatusSpec : CommandSpec :=
  { code := 0x0430, kind := .read, lengthOk := lenIs 8, roleOk := anyRole
    argOk := fun c _ => zeroAt c.payload 1 1 && zeroAt c.payload 4 4
    rangeOk := fun c _ => upTo c.payload 0 1 1 && upTo c.payload 2 2 (if fld c.payload 0 1 = 0 then 4095 else 16383)
    body := fun c s =>
      s.withView c fun v =>
        let k := fld c.payload 2 2
        let n := s.host.devFrame
        s.okWith (if fld c.payload 0 1 = 0 then playbackStatus v.cues s.dynNow k n
          else effectStatus v.patch v.cues (s.clock.rateOf n) s.frameLtc s.dynNow k n) }

/-! ### FEEDER_STATUS, SOLVE_READ (R291) -/

/-- The FEEDER_STATUS response: the frame whose main window closed last. -/
def ClosedMain.feeder (m : ClosedMain) (j : Nat) : Bytes :=
  feederStatus (m.view.colour.feeders.find j) (m.gov.getD j {}) m.frame
    (m.view.colour.members.filter fun e => e.2.1 == j).length (m.view.colour.regions.filter fun e => regFeeder e.2 == j).length

def feederStatusSpec : CommandSpec :=
  { code := 0x0630, kind := .device, lengthOk := lenIs 8, roleOk := anyRole
    argOk := fun c _ => zeroAt c.payload 1 7
    rangeOk := fun c _ => upTo c.payload 0 1 63
    body := fun c s => s.okWith (s.render.closed.feeder (fld c.payload 0 1)) }

/-- The SOLVE_READ entry of a fixture. -/
def ClosedMain.solveEntry (m : ClosedMain) (f : Nat) : Bytes :=
  match m.fixtures.find f with
  | none => bytesLE 4 f ++ bytesLE 4 32 ++ zeros 40
  | some x =>
    let o := x.solve
    bytesLE 4 f
      ++ bytesLE 4 (b2n o.calibrated + 2 * b2n o.mapped + 4 * b2n o.clipped + 8 * b2n x.exempt + 16 * b2n o.mismatch
        + 32 * b2n (!o.solved))
      ++ ((List.range 8).flatMap fun k => bytesF (if o.solved then o.drives.getD k F32.f0 else F32.f0))
      ++ bytesF (F32.add o.idle o.dyn) ++ bytesF x.scale

def solveReadSpec : CommandSpec :=
  { code := 0x0631, kind := .device, lengthOk := lenRecs 8 4 0, roleOk := anyRole
    argOk := fun c _ => zeroAt c.payload 4 4 && (records 4 (fld c.payload 0 4) (c.payload.drop 8)).all fun r => fld r 0 4 < 131072
    rangeOk := fun c _ => within c.payload 0 4 1 84
    body := fun c s =>
      s.okWith (bytesLE 8 s.render.closed.frame
        ++ (records 4 (fld c.payload 0 4) (c.payload.drop 8)).flatMap fun r => s.render.closed.solveEntry (fld r 0 4)) }

/-! ### Meanings -/

/-- PROFILE_READ (R190). -/
def execProfileRead (dt m : Nat) (s : State) : Host.Outcome State Fault Refusal := s.act dt (·.runMbx profileReadSpec m)

/-- PATCH_READ (R193). -/
def execPatchRead (dt m : Nat) (s : State) : Host.Outcome State Fault Refusal := s.act dt (·.runMbx patchReadSpec m)

/-- PARAM_READ (R195). -/
def execParamRead (dt m : Nat) (s : State) : Host.Outcome State Fault Refusal := s.act dt (·.runMbx paramReadSpec m)

/-- POOL_STATUS (R196). -/
def execPoolStatus (dt m : Nat) (s : State) : Host.Outcome State Fault Refusal := s.act dt (·.runMbx poolStatusSpec m)

/-- PLAYBACK_STATUS (R232). -/
def execPlaybackStatus (dt m : Nat) (s : State) : Host.Outcome State Fault Refusal := s.act dt (·.runMbx playbackStatusSpec m)

/-- FEEDER_STATUS (R291). -/
def execFeederStatus (dt m : Nat) (s : State) : Host.Outcome State Fault Refusal := s.act dt (·.runMbx feederStatusSpec m)

/-- SOLVE_READ (R291). -/
def execSolveRead (dt m : Nat) (s : State) : Host.Outcome State Fault Refusal := s.act dt (·.runMbx solveReadSpec m)

end Sys2Proof.Machine
end

