-- ==== Sys2Proof/Machine/Counters.lean ====
section
/-!
DEFINITION. Machine/Counters.lean: performance counters, the central reader, counter snapshots and the decision trace
(R447 to R460).

How much of a unit's work falls into an event that happens inside cycles (slots, solves, memory traffic) is not fixed by anything
the model holds: what such an event adds over a stretch of cycles is a free value within the bounds that the spec gives, one for
all counters of the unit that select the event, and the four kinds of slot add up to 16 for each cycle (R450; assumption 53).
-/

namespace Sys2Proof.Machine

/-! ### Interrupt sources of this chapter (R456) -/

def srcFrameRepeat : Nat := 0xA0
def srcCanvasRepeat : Nat := 0xA1
def srcClusterFault : Nat := 0xA2
def srcPerfOverflow : Nat := 0xA3
def srcTraceFull : Nat := 0xA4

/-! ### Units (table "Counter units") -/

/-- Unit codes in the order of the table, and the number of counters of a unit, 0 for a code outside it. -/
def unitCodes : List Nat := List.range 0x44 ++ [0x50, 0x60, 0x61, 0x70, 0x71, 0x72, 0x73, 0x74]
def unitSize (u : Nat) : Nat :=
  if u < 0x44 then 9 else if u = 0x50 then 13 else if u = 0x60 || u = 0x61 then 8
  else if 0x70 ≤ u && u ≤ 0x74 then 48 else 0

/-- The unit after `u` in the table; the first one after the last. -/
def nextUnit (u : Nat) : Nat := (unitCodes.find? (fun x => decide (u < x))).getD 0

/-- The selection after a read under AUTO (R452). -/
def nextSel (unit index : Nat) : Nat × Nat := if index + 1 < unitSize unit then (unit, index + 1) else (nextUnit unit, 0)

/-- The counters of a unit. -/
def State.unit (s : State) (u : Nat) : UnitCounters := s.render.reader.units.getD u {}

/-- The counters of a unit changed. -/
def State.setUnit (s : State) (u : Nat) (x : UnitCounters) : State :=
  { s with render := { s.render with reader := { s.render.reader with units := s.render.reader.units.put u x } } }

/-- Some render cluster is not DISABLED, so that CORE runs. -/
def State.coreOn (s : State) : Bool := (List.range 64).any fun c => s.alive 9 c

/-- The clock of a unit's domain runs (R28, R448). -/
def State.unitOn (s : State) (u : Nat) : Bool :=
  if u < 0x40 then s.alive 9 u else if u = 0x50 then s.coreOn else s.power.reset != .held

/-- Cycles of a unit's domain in five TIME cycles of 500 MHz: CORE at 1.2 GHz, MGMT at 800 MHz, MEM at 400 MHz. -/
def unitRate (u : Nat) : Nat := if u < 0x40 || u = 0x50 then 12 else if u < 0x44 then 8 else 4

/-- Fifths of a cycle of a unit's domain that have passed since its counters were brought up to date. -/
def State.fifthsOf (s : State) (u : Nat) : Nat :=
  let x := s.unit u
  x.fifths + if s.unitOn u then unitRate u * (s.now - x.since) else 0

/-- The cycle counter of a unit. -/
def State.cyclesOf (s : State) (u : Nat) : Nat := ((s.unit u).cycles + s.fifthsOf u / 5) % 2 ^ 64

/-! ### Programmable counters (R448, R449) -/

/-- Events that are counted as they occur: tasks granted by kind and tasks ended under R445; 0x00 holds. -/
def eventCounted (e : Nat) : Bool := e == 0 || (0x10 ≤ e && e ≤ 0x13) || e == 0x34

/-- An event suits a unit. -/
def eventSuits (u e : Nat) : Bool :=
  e == 0 || if u < 0x40 || u = 0xFF then e ≤ 6 || (0x10 ≤ e && e ≤ 0x13) || (0x20 ≤ e && e ≤ 0x23) || (0x30 ≤ e && e ≤ 0x34)
    else 0x80 ≤ e && e ≤ 0x83

/-- A programmable counter of a unit. -/
def UnitCounters.prog (x : UnitCounters) (i : Nat) : ProgCounter := x.progs.getD i {}

/-- Counter `i` is the odd counter of a chained pair. -/
def UnitCounters.chained (x : UnitCounters) (i : Nat) : Bool := i % 2 == 1 && (x.prog (i - 1)).chain

/-- The event that moves counter `i`. -/
def UnitCounters.source (x : UnitCounters) (i : Nat) : Nat := if x.chained i then (x.prog (i - 1)).event else (x.prog i).event

/-- Counter `i` after it adds `n`; its carry. -/
def UnitCounters.addTo (x : UnitCounters) (i n : Nat) : UnitCounters × Nat :=
  let v := (x.prog i).value + n
  let p : ProgCounter := { x.prog i with value := v % 2 ^ 48 }
  ({ x with progs := x.progs.set i p }, v / 2 ^ 48)

/-- A bit of OVF_MASK set in cycle `now`. -/
def UnitCounters.setOvf (x : UnitCounters) (i now : Nat) : UnitCounters := { x with ovf := x.ovf ||| 2 ^ i, ovfAt := x.ovfAt.put i now }

/-- The bit of OVF_MASK set where a counter that is not chained wrapped. -/
def UnitCounters.overflow (x : UnitCounters) (i carry now : Nat) : UnitCounters × Bool :=
  if carry = 0 then (x, false) else (x.setOvf i now, true)

/-- A write of PCN_OVF_MASK in cycle `now` (R9, R10). -/
def UnitCounters.clearOvf (x : UnitCounters) (mask now : Nat) : UnitCounters :=
  { x with ovf := (w1c (BitVec.ofNat 32 x.ovf) mask (setBits x.ovfAt now)).toNat }

/-- Events occur in cycle `now`, event `e` as often as `n e` says: the unit, and how many counters overflowed. -/
def UnitCounters.count (x : UnitCounters) (n : Nat → Nat) (now : Nat) : UnitCounters × Nat :=
  (List.range 8).foldl (fun acc i =>
    let x := acc.1
    if x.chained i || n (x.prog i).event == 0 then acc
    else
      let a := x.addTo i (n (x.prog i).event)
      if (x.prog i).chain && i % 2 == 0 then
        let b := a.1.addTo (i + 1) a.2
        let o := b.1.overflow (i + 1) b.2 now
        (o.1, acc.2 + b2n o.2)
      else
        let o := a.1.overflow i a.2 now
        (o.1, acc.2 + b2n o.2)) (x, 0)

/-- An event of a unit is counted. -/
def State.countEvent (s : State) (u e n : Nat) : State :=
  let r := (s.unit u).count (fun x => if x = e then n else 0) s.now
  (s.setUnit u r.1).raiseAll (List.replicate r.2 srcPerfOverflow)

/-! ### Events inside cycles (R450) -/

/-- The most that an event of a unit can add in `n` cycles: a solve a cycle, 8 power products, and 16 of everything else but cycles.
A cluster without a task works on nothing, and one with a task waits for none. -/
def eventMost (u e n : Nat) (task : Bool) : Nat :=
  if u < 0x40 && e = 5 then (if task then 0 else n)
  else if u < 0x40 && !task then (if e = 3 then 16 * n else 0)
  else if e = 0x23 then 8 * n
  else if e = 6 || e = 0x20 || e = 0x30 || e = 0x33 || e = 0x83 then n
  else 16 * n

/-- The slots of `n` cycles in the categories retired, wasted, front-starved and back-starved (R450): `forced` fixes one category,
and `fr` divides the rest. Without a task every slot is front-starved. -/
def splitSlots (n : Nat) (task : Bool) (forced : Option (Nat × Nat)) (fr : List Nat) (e : Nat) : Nat :=
  if !task then (if e = 3 then 16 * n else 0)
  else
    let fixed := forced.elim 0 fun f => if 1 ≤ f.1 && f.1 ≤ 4 then f.2 else 0
    let other := [1, 2, 3, 4].filter fun k => fixed == 0 || forced.elim true fun f => f.1 != k
    let rest := 16 * n - fixed
    let a := fr.getD 0 0 % (rest + 1)
    let b := fr.getD 1 0 % (rest - a + 1)
    let c := if other.length = 4 then fr.getD 2 0 % (rest - a - b + 1) else rest - a - b
    if !other.contains e then fixed
    else [a, b, c, rest - a - b - c].getD (other.findIdx (· == e)) 0

/-- What event `e` adds to the counters of unit `u` in `n` cycles. A cluster that asks and holds no task waits for a grant in every
cycle; other events are free within their bound. -/
def State.eventAmount (s : State) (u n : Nat) (forced : Option (Nat × Nat)) (fr : List Nat) (e : Nat) : Nat :=
  let task := s.render.held.any (·.cluster == u)
  if e = 0 || (u < 0x40 && eventCounted e) then 0
  else if e = 5 then (if s.enabled 9 u && !task then n else 0)
  else if u < 0x40 && e ≤ 4 then splitSlots n task forced fr e
  else if forced.any (fun f => f.1 == e) then forced.elim 0 (·.2)
  else fr.getD (e % 32 + 8) 0 % (eventMost u e n task + 1)

/-- The counters of a render cluster, a management core or Reel brought up to now, with what their events added; `forced` fixes what
one event adds. -/
def State.syncUnit (s : State) (u : Nat) (forced : Option (Nat × Nat)) : State :=
  let x := s.unit u
  let k := s.fifthsOf u
  let x := { x with cycles := (x.cycles + k / 5) % 2 ^ 64, since := s.now, fifths := k % 5 }
  if k / 5 = 0 || x.progs.all (·.event == 0) then s.setUnit u x
  else
    let f := s.freshes 40
    let r := x.count (f.2.eventAmount u (k / 5) forced f.1) s.now
    (f.2.setUnit u r.1).raiseAll (List.replicate r.2 srcPerfOverflow)

/-- The counters of a DRAM controller brought up to now: bytes read and written, at most 256 a cycle, and five counts of cycles. -/
def State.syncDram (s : State) (u : Nat) : State :=
  let x := s.unit u
  let k := s.fifthsOf u
  let f := s.freshes 7
  let progs : List ProgCounter := x.progs.zipIdx.map fun e =>
    { e.1 with value := (e.1.value + f.1.getD e.2 0 % ((if e.2 < 2 then 256 else 1) * (k / 5) + 1)) % 2 ^ 64 }
  let x := { x with cycles := (x.cycles + k / 5) % 2 ^ 64, since := s.now, fifths := k % 5 }
  if k / 5 = 0 then s.setUnit u x else f.2.setUnit u { x with progs := progs }

/-- A unit brought up to now; the counters of Reel and of Ethernet ports always are. -/
def State.sync (s : State) (u : Nat) : State :=
  if u ≤ 0x50 then s.syncUnit u none else if u = 0x60 || u = 0x61 then s.syncDram u else s

/-- The counters of the CORE domain brought up to now, before clusters start or stop. -/
def State.syncCycles (s : State) : State := (List.range 0x40 ++ [0x50]).foldl (fun s u => s.syncUnit u none) s

/-- What must be added to the event that moves counter `i` for the counter to pass 2^48 − 1. -/
def UnitCounters.toWrap (x : UnitCounters) (i : Nat) : Nat :=
  if x.chained i then (2 ^ 48 - (x.prog i).value) * 2 ^ 48 - (x.prog (i - 1)).value else 2 ^ 48 - (x.prog i).value

/-- COUNTER_WRAP: a counter of events inside cycles passes 2^48 − 1 in this cycle (R449). It has no effect on a counter that raises
nothing, or that cannot have come so far. -/
def State.counterWraps (s : State) (u i : Nat) : State :=
  let x := s.unit u
  let e := x.source i
  if 0x44 ≤ u || 8 ≤ i || eventCounted e || ((x.prog i).chain && i % 2 == 0) then s
  else if eventMost u e (s.fifthsOf u / 5) (s.render.held.any (·.cluster == u)) < x.toWrap i then s
  else s.syncUnit u (some (e, x.toWrap i))

/-! ### Values -/

/-- A counter of a unit that is up to date. -/
def State.counterValue (s : State) (u i : Nat) : Nat :=
  if u < 0x44 || u = 0x60 || u = 0x61 then (if i = 0 then s.cyclesOf u else ((s.unit u).prog (i - 1)).value)
  else if u = 0x50 then
    let r := s.render.reel
    let stall := r.stalls + s.render.stalledAt.elim 0 fun t => 12 * (s.now - t) / 5
    ([s.cyclesOf 0x50] ++ r.granted ++ [stall, r.mainOver, r.canvasOver, r.frameRepeats, r.canvasRepeats, r.peak,
      r.decisionCycles, r.regrants]).getD i 0
  else ((s.net.ports.getD (u - 0x70) {}).counters.getD i 0).toNat

/-- The central reader changed. -/
def State.setReader (s : State) (r : ReaderState) : State := { s with render := { s.render with reader := r } }

/-- A counter read. A unit whose clock is gated goes on showing its last value (R28). -/
def State.readCounter (s : State) (u i : Nat) : Nat × State := ((s.sync u).counterValue u i, s.sync u)

/-- Every counter in the order of AUTO: 881 of them. -/
def counterOrder : List (Nat × Nat) := unitCodes.flatMap fun u => (List.range (unitSize u)).map fun i => (u, i)

/-- Every counter read at one instant. -/
def State.readAll (s : State) : List Nat × State :=
  let s := unitCodes.foldl (fun s u => s.sync u) s
  (counterOrder.map fun e => s.counterValue e.1 e.2, s)

/-! ### Writes to a unit (R28, R449, R457) -/

/-- A counter of a unit configured; it keeps its value unless it is cleared. -/
def State.configCounter (s : State) (u i event : Nat) (chain clear : Bool) : State :=
  let s := s.sync u
  let x := s.unit u
  s.setUnit u { x with progs := x.progs.set i ⟨event, chain, if clear then 0 else (x.prog i).value⟩ }

/-- A write to a unit whose clock runs. -/
def State.doWrite (s : State) : HeldWrite → State
  | .config u i event chain clear => s.configCounter u i event chain clear
  | .ovf u mask => s.setUnit u ((s.unit u).clearOvf mask s.now)

/-- The unit that a write is for. -/
def HeldWrite.unit : HeldWrite → Nat
  | .config u _ _ _ _ => u
  | .ovf u _ => u

/-- A write to unit `u`: at once while its clock runs, else held (R28). -/
def State.writeUnit (s : State) (u : Nat) (w : HeldWrite) : State :=
  if s.unitOn u then s.doWrite w else s.setReader { s.render.reader with held := s.render.reader.held ++ [w] }

/-- The clock of unit `u` runs again: the writes held for it take effect. -/
def State.wakeUnit (s : State) (u : Nat) : State :=
  let r := s.render.reader
  (r.held.filter (·.unit == u)).foldl (fun s w => s.doWrite w) (s.setReader { r with held := r.held.filter (·.unit != u) })

/-! ### Counter snapshots (R454, R455) -/

/-- Counter access is open (R453). -/
def State.accessOpen (s : State) : Bool := s.host.sessions.any fun e => e.2.counterAccess

/-- A trigger: it starts a counter snapshot, or joins the one that is BUSY. -/
def State.snapTrigger (s : State) : State :=
  if s.render.reader.busy then s
  else
    let r := s.readAll
    r.2.setReader { r.2.render.reader with busy := true, next := ⟨r.1, s.stamp, s.pos⟩ }

/-- The counter snapshot in progress is complete. -/
def State.snapDone (s : State) : State :=
  let r := s.render.reader
  if r.busy then s.setReader { r with busy := false, valid := true, snap := r.next, seq := (r.seq + 1) % 65536 } else s

/-- SNP_CTRL written (R453, R454). -/
def State.snpCtrlWrite (s : State) (freeze auto : Bool) : State :=
  if !s.accessOpen then s
  else
    let was := s.render.reader.freeze
    let s := s.setReader { s.render.reader with freeze := freeze, autoFrame := auto }
    if freeze && !was then s.snapTrigger else s

/-- SNP_TAKE.TAKE written with 1. -/
def State.snpTake (s : State) : State := if s.accessOpen then s.snapTrigger else s

/-! ### PCN_ registers (R451, R452) -/

/-- A counter of the counter snapshot; while BUSY the read is answered from the one being captured. -/
def ReaderState.snapValue (r : ReaderState) (u i : Nat) : Nat :=
  ((if r.busy then r.next else r.snap).values.getD (counterOrder.findIdx (fun e => e.1 == u && e.2 == i)) 0)

/-- A read of PCN_VALUE. While access is not open it answers 0 and leaves the selection. -/
def State.pcnRead (s : State) : Nat × State :=
  if !s.accessOpen then (0, s)
  else
    let r := s.render.reader
    let u := bits r.sel 0 8
    let i := bits r.sel 8 8
    let ok := decide (i < unitSize u)
    let v : Nat × State := if !ok then (0, s) else if r.freeze then (r.snapValue u i, s) else s.readCounter u i
    let n := nextSel u i
    let sel := if bit r.sel 16 then n.1 + 256 * n.2 + 65536 else r.sel
    (v.1, v.2.setReader { v.2.render.reader with sel := sel, badSel := r.badSel || !ok, badSelAt := if ok then r.badSelAt else some s.now })

/-- A write of a PCN_ register: PCN_STATUS.BAD_SEL and the bits of PCN_OVF_MASK clear by writing 1. -/
def State.pcnWrite (s : State) (off v : Nat) : State :=
  let r := s.render.reader
  if off = 0 then (if bit v 2 && r.badSelAt != some s.now then s.setReader { r with badSel := false } else s)
  else if off = 8 then (if s.accessOpen then s.setReader { r with sel := v % 2 ^ 17 } else s)
  else if off = 0x18 then
    if 0x44 ≤ bits r.sel 0 8 then s
    else s.writeUnit (bits r.sel 0 8) (.ovf (bits r.sel 0 8) v)
  else s

/-- A write of an SNP_ register. -/
def State.snpWrite (s : State) (off v : Nat) : State :=
  if off = 0 then s.snpCtrlWrite (bit v 0) (bit v 1) else if off = 4 && bit v 0 then s.snpTake else s

/-! ### The decision trace (R447) -/

/-- Records that the buffer holds. -/
def traceSize : Nat := 65536

/-- Whether TRACE_CONFIG lets a record pass: events 4 and 5 ignore KINDS. -/
def TraceCfg.passes (t : TraceCfg) (r : TraceRec) : Bool :=
  t.mode != 0 && bit t.events (r.event - 1) && (r.event == 4 || r.event == 5 || bit t.kinds (r.kind - 1))
    && decide (t.first ≤ r.frame) && decide (r.frame ≤ t.last)

/-- A record offered to the trace. -/
def State.traceWrite (s : State) (r : TraceRec) : State :=
  let x := s.render
  if !x.trace.passes r || (x.trace.mode == 2 && x.traceFull) then s
  else
    let n := x.traceCount + 1
    let full := x.trace.mode == 2 && n == traceSize
    let s := { s with render := { x with traceBuf := (r :: x.traceBuf).take traceSize, traceCount := n, traceFull := full } }
    if full then s.raise srcTraceFull else s

/-- KIND of a task. -/
def TaskKind.code : TaskKind → Nat
  | .phase1 => 1
  | .phase2 => 2
  | .tile => 3
  | .packet => 4

/-- WINDOW of a task: 0 the main window, 1 to 8 that of a canvas. -/
def Task.window (t : Task) : Nat := if t.kind = .tile then t.canvas + 1 else 0

/-- A trace record of Reel at this instant. -/
def State.traceOf (s : State) (event kind task cluster window frame : Nat) : TraceRec :=
  { cycle := s.cyclesOf 0x50 % 2 ^ 32, frame := frame, event := event, kind := kind, task := task, cluster := cluster,
    window := window, level := min 4095 s.render.ready.length }

/-- An event of a task. -/
def State.traceTask (s : State) (event : Nat) (t : Task) (cluster : Nat) : State :=
  s.traceWrite (s.traceOf event t.kind.code t.index cluster t.window t.frame)

/-- A window closes (event 6) or overruns (event 7). Which kind, and which task of an overrun, the record names is free
(assumption 53). -/
def State.traceWindow (s : State) (event window frame : Nat) : State :=
  let r := s.freshes 2
  let r2 := (r.1.getD 1 0) % 2 ^ 32
  r.2.traceWrite (r.2.traceOf event (r.1.getD 0 0 % 5 + 1) (if event = 6 then 0 else r2) 0xFF window frame)

/-- The bytes of a trace record. -/
def TraceRec.bytes (r : TraceRec) : Bytes :=
  bytesLE 4 r.cycle ++ bytesLE 2 r.frame ++ bytesLE 1 r.event ++ bytesLE 1 r.kind ++ bytesLE 4 r.task ++ bytesLE 1 r.cluster
    ++ bytesLE 1 r.window ++ bytesLE 2 r.level

/-! ### Commands (R457 to R460) -/

/-- COUNTER_ACCESS. -/
def counterAccessSpec : CommandSpec :=
  { code := 0x0C01, kind := .device, lengthOk := lenIs 8, roleOk := diagRead
    argOk := fun c _ => zeroAt c.payload 1 7, rangeOk := fun c _ => upTo c.payload 0 1 1
    body := fun c s =>
      match s.host.sessions.find c.session with
      | none => s.ok
      | some x =>
        let x := { x with counterAccess := fld c.payload 0 1 == 1 }
        ({ s with host := { s.host with sessions := s.host.sessions.put c.session x } } : State).ok }

/-- COUNTER_CONFIG. -/
def counterConfigSpec : CommandSpec :=
  { code := 0x0C02, kind := .device, lengthOk := lenIs 8, roleOk := engineer
    argOk := fun c _ => upTo c.payload 3 1 3 && zeroAt c.payload 4 4
    rangeOk := fun c _ => upTo c.payload 1 1 7 && (fld c.payload 0 1 < 0x44 || fld c.payload 0 1 == 0xFF)
    body := fun c s =>
      let us := if fld c.payload 0 1 = 0xFF then List.range 64 else [fld c.payload 0 1]
      if !eventSuits (fld c.payload 0 1) (fld c.payload 2 1) || (bit (fld c.payload 3 1) 0 && fld c.payload 1 1 % 2 == 1) then
        s.fail .badArgument
      else
        (us.foldl (fun s u =>
          s.writeUnit u (.config u (fld c.payload 1 1) (fld c.payload 2 1) (bit (fld c.payload 3 1) 0) (bit (fld c.payload 3 1) 1))) s).ok }

/-- COUNTER_DUMP. -/
def counterDumpSpec : CommandSpec :=
  { code := 0x0C03, kind := .device, lengthOk := lenIs 16, roleOk := diagRead
    argOk := fun c _ => zeroAt c.payload 1 7
    rangeOk := fun c _ => upTo c.payload 0 1 1 && fld c.payload 8 8 % 8 == 0 && regionOk (fld c.payload 8 8) 7048
    body := fun c s =>
      if fld c.payload 0 1 = 1 && !s.render.reader.valid then s.fail .conflict
      else
        let s := if fld c.payload 0 1 = 0 then s.snapTrigger.snapDone else s
        let r := s.render.reader
        (s.storeRead (fld c.payload 8 8) (r.snap.values.flatMap (bytesLE 8))).okWith (bytesLE 4 7048 ++ bytesLE 2 r.seq ++ zeros 2) }

/-- TRACE_CONFIG. -/
def traceConfigSpec : CommandSpec :=
  { code := 0x0C10, kind := .device, lengthOk := lenIs 24, roleOk := engineer
    argOk := fun c _ => upTo c.payload 1 1 31 && upTo c.payload 2 2 255 && zeroAt c.payload 4 4
    rangeOk := fun c _ => upTo c.payload 0 1 2
    body := fun c s =>
      let t : TraceCfg := ⟨fld c.payload 0 1, fld c.payload 1 1, fld c.payload 2 2, fld c.payload 8 8, fld c.payload 16 8⟩
      ({ s with render := { s.render with trace := t, traceBuf := [], traceCount := 0, traceFull := false } } : State).ok }

/-- TRACE_READ: numbers count modulo 2^32. -/
def traceReadBody (c : Ctx) (s : State) : State × Reply :=
  let x := s.render
  let oldest := x.traceCount - x.traceBuf.length
  -- the record number of FIRST counted from the oldest held record; a number before it has been overwritten
  let back := (x.traceCount % 2 ^ 32 + 2 ^ 32 - fld c.payload 0 4) % 2 ^ 32
  let first := if back ≤ x.traceCount then x.traceCount - back else x.traceCount
  let start := max first oldest
  let got := (x.traceBuf.reverse.drop (start - oldest)).take (fld c.payload 4 4)
  if !regionOk (fld c.payload 8 8) (16 * got.length) then s.fail .outOfRange
  else
    let s := s.storeRead (fld c.payload 8 8) (got.flatMap (·.bytes))
    let next := if got.isEmpty then fld c.payload 0 4 else (start + got.length) % 2 ^ 32
    s.okWith (bytesLE 4 got.length ++ bytesLE 4 next ++ bytesLE 4 (start - first))

def traceReadSpec : CommandSpec :=
  { code := 0x0C11, kind := .device, lengthOk := lenIs 16, roleOk := diagRead
    rangeOk := fun c _ => within c.payload 4 4 1 65536
    body := traceReadBody }

/-- The RENDER_STATUS response. -/
def State.renderStatus (s : State) : Bytes :=
  let r := s.render
  let stall := s.counterValue 0x50 5
  bytesLE 8 r.closed.frame ++ bytesLE 1 ((List.range 64).filter fun c => s.enabled 9 c).length ++ zeros 3
    ++ bytesLE 4 r.closed.budget ++ bytesLE 4 r.closed.cycles ++ bytesLE 4 r.mainMax ++ bytesLE 4 r.reel.frameRepeats
    ++ bytesLE 4 r.reel.canvasRepeats ++ bytesLE 4 stall ++ bytesLE 4 r.reel.regrants

/-- RENDER_STATUS. -/
def renderStatusSpec : CommandSpec :=
  { code := 0x0C20, kind := .device, lengthOk := lenNone, roleOk := diagRead
    body := fun _ s => s.okWith s.renderStatus }

/-! ### Meanings -/

/-- COUNTER_ACCESS (R453, R457). -/
def execCounterAccess (dt m : Nat) (s : State) : Host.Outcome State Fault Refusal := s.act dt (·.runMbx counterAccessSpec m)

/-- COUNTER_CONFIG (R457). -/
def execCounterConfig (dt m : Nat) (s : State) : Host.Outcome State Fault Refusal := s.act dt (·.runMbx counterConfigSpec m)

/-- COUNTER_DUMP (R458). -/
def execCounterDump (dt m : Nat) (s : State) : Host.Outcome State Fault Refusal := s.act dt (·.runMbx counterDumpSpec m)

/-- TRACE_CONFIG (R459). -/
def execTraceConfig (dt m : Nat) (s : State) : Host.Outcome State Fault Refusal := s.act dt (·.runMbx traceConfigSpec m)

/-- TRACE_READ (R459). -/
def execTraceRead (dt m : Nat) (s : State) : Host.Outcome State Fault Refusal := s.act dt (·.runMbx traceReadSpec m)

/-- RENDER_STATUS (R460). -/
def execRenderStatus (dt m : Nat) (s : State) : Host.Outcome State Fault Refusal := s.act dt (·.runMbx renderStatusSpec m)

/-- PCN_VALUE_READ (R451 to R453). -/
def execPcnValueRead (dt : Nat) (s : State) : Host.Outcome State Fault Refusal :=
  s.act dt fun s => { s.pcnRead.2 with host := { s.pcnRead.2.host with readData := s.pcnRead.1 } }

/-- SNP_TAKE (R454). -/
def execSnpTake (dt : Nat) (s : State) : Host.Outcome State Fault Refusal := s.act dt (·.snpTake)

/-- SNP_FREEZE (R454): SNP_CTRL written with FREEZE 1 and the given AUTO_FRAME. -/
def execSnpFreeze (dt : Nat) (auto : Bool) (s : State) : Host.Outcome State Fault Refusal := s.act dt (·.snpCtrlWrite true auto)

/-- SNP_CAPTURE_DONE (R454). -/
def execSnpCaptureDone (dt : Nat) (s : State) : Host.Outcome State Fault Refusal := s.act dt (·.snapDone)

/-- COUNTER_WRAP (R449). -/
def execCounterWrap (dt unit counter : Nat) (s : State) : Host.Outcome State Fault Refusal := s.act dt (·.counterWraps unit counter)

end Sys2Proof.Machine
end

