-- ==== Sys2Proof/Machine/Meter.lean ====
section
/-!
DEFINITION. Machine/Meter.lean: samples, line cycles, energy registers, latch records and pulses of
feeder metering (R407 to R425).

The spec gives real formulas and, for the registers, their rounding (R419). Samples and sums are kept
exact in units of 2^-240, and a binary32 result is the nearest to the exact value (assumption 41).
-/

namespace Sys2Proof.Machine

/-! ### Numbers -/

/-- ⌊√n⌋ by bits: `b` is the weight of the bit tried next. -/
def isqrtAux (n : Nat) : Nat → Nat → Nat
  | 0, r => r
  | k + 1, r => let r' := r + 2 ^ k
    isqrtAux n k (if r' * r' ≤ n then r' else r)

/-- ⌊√n⌋ for n below 2^1200. -/
def isqrt (n : Nat) : Nat := isqrtAux n 600 0

/-- √(n / d) to the nearest whole number. -/
def roundSqrt (n d : Nat) : Nat := (isqrt (4 * n / d) + 1) / 2

/-- The binary32 nearest to √(n / d), taken to 2^-100. -/
def sqrtF (n d : Nat) : F32 := F32.ofRat (isqrt (n * 2 ^ 200 / d)) (2 ^ 100)

/-- The unit of an engineering value: 2^-240. -/
def yUnit : Nat := 2 ^ 240

/-! ### Channels (R407 to R411) -/

/-- The gain of an index. -/
def gainOf (g : Nat) : Nat := if g = 0 then 1 else if g = 1 then 2 else if g = 2 then 8 else 32

/-- The channel of an index before any setting: its corrections are the factory ones (R409). -/
def channelReset (coef : Bytes) (c : Nat) : MtrChannel :=
  { kg := (List.range 4).map (Config.meterGain coef c), zg := (List.range 4).map (Config.meterOffset coef c) }

/-- A channel, as configured or as after reset. -/
def MeterState.channel (m : MeterState) (c : Nat) : MtrChannel := m.channels.getD c (channelReset m.coef c)

/-- Other coefficients take over: channels whose corrections are not those of live recalibration take the new factory ones
(R534). -/
def MeterState.recoef (m : MeterState) (coef : Bytes) : MeterState :=
  { m with
    coef := coef
    channels := m.channels.mapVal fun c x =>
      if x.live then x else { x with kg := (channelReset coef c).kg, zg := (channelReset coef c).zg } }

/-- The engineering value of raw sample `x` at gain index `g`, in units of 2^-240 (R409). -/
def MtrChannel.engineering (c : MtrChannel) (g : Nat) (x : Int) : Int :=
  c.scale.sval * (x * c.kg.getD g 0 + c.zg.getD g 0 * 2 ^ 23) * 2 ^ 36 / (gainOf g : Int) - c.offset.sval * 2 ^ 91

/-- The gain index after sample `x` (R411): clipping goes to gain 1, 0.95 of full scale steps down, one
second at or below 0.45 of the next full scale steps up. The tests read the sample against the gains'
nominal ratio. -/
def MtrChannel.nextGain (c : MtrChannel) (x : Int) : Nat × Nat :=
  let a := (absInt x).toNat
  let fs := 2 ^ 23
  if c.role != 2 || c.gainCode != 0 then (c.gain, 0)
  else if fs - 1 ≤ a then (0, 0)
  else if 95 * fs ≤ 100 * a then
    (((List.range c.gain).reverse.find? fun g => 100 * a * gainOf g < 95 * fs * gainOf c.gain).getD 0, 0)
  else if c.gain < 3 && 100 * a * gainOf (c.gain + 1) ≤ 45 * fs * gainOf c.gain then
    if 8000 ≤ c.upRun + 1 then (c.gain + 1, 0) else (c.gain, c.upRun + 1)
  else (c.gain, 0)

/-- A sample of an enabled channel at TIME cycle `now`: its value, its gain for the next sample, whether it
clipped and whether the gain switched. -/
def MtrChannel.sample (c : MtrChannel) (raw : Int) (now : Nat) : MtrChannel × Bool × Bool :=
  let x := if c.invert then -raw else raw
  let clipped := c.role == 2 && 2 ^ 23 - 1 ≤ (absInt raw).toNat
  let y0 := c.engineering c.gain x
  let y := if c.role = 2 then (y0 * (65536 - c.phaseCorr) + c.yPrev * c.phaseCorr) / 65536 else y0
  let ng := c.nextGain x
  let aux := if c.role = 3 then x * c.kg.getD 0 0 + c.zg.getD 0 0 * 2 ^ 23 else 0
  ({ c with
      x := x, y := y, yPrev := y0, gain := ng.1, upRun := ng.2
      gainSwitches := if ng.1 = c.gain then c.gainSwitches else c.gainSwitches + 1
      clippedAt := if clipped then some now else c.clippedAt
      sqSum := c.sqSum + y * y, sqCount := c.sqCount + 1
      auxSum := c.auxSum + aux, auxCount := c.auxCount + 1 }, clipped, ng.1 != c.gain)

/-- The end of an AUX period delivers ρ, the mean over it (R410). -/
def MtrChannel.auxEnd (c : MtrChannel) (now : Nat) : MtrChannel :=
  { c with rho := if c.auxCount = 0 then c.rho else F32.ofRat c.auxSum (2 ^ 55 * c.auxCount),
           auxSum := 0, auxCount := 0, auxSince := now }

/-! ### Power samples (R418) -/

/-- The sum of products over the first `w` entries. -/
def dotSum : Nat → List Int → List Int → Int
  | w + 1, a :: as, b :: bs => a * b + dotSum w as bs
  | _, _, _ => 0

/-- The voltage delayed by W/4 samples, times 4 (v90). -/
def delayed (w : Nat) (v : List Int) : List Int :=
  let q := w / 4
  let r : Int := (w % 4 : Nat)
  let a := v.drop q
  let b := v.drop (q + 1)
  (List.range w).map fun k => a.getD k 0 * (4 - r) + b.getD k 0 * r

/-- The increments of one power sample in units of 2^-32 of a mWh, mvarh or mVAh: active, reactive and apparent, with the signs that
the exact p and q have (R418). -/
structure PowerInc where
  p : Nat := 0
  q : Nat := 0
  s : Nat := 0
  pNeg : Bool := false
  qNeg : Bool := false
  deriving DecidableEq, Repr

/-- The power sample at the end of a history of `w` samples, rounded to its increments (R419). -/
def powerIncrements (w : Nat) (h : PhaseHist) : PowerInc :=
  let den : Nat := w * yUnit * yUnit * 36000000
  let num : Nat := 1250 * 2 ^ 32
  let p := dotSum w h.v h.i
  let q := dotSum w (delayed w h.v) h.i
  let vv := dotSum w h.v h.v
  let ii := dotSum w h.i h.i
  { p := (roundDiv (absInt p * (num : Int)) den).toNat, q := (roundDiv (absInt q * (num : Int)) (4 * den)).toNat
    s := roundSqrt ((vv * ii).toNat * (num * num)) (den * den), pNeg := decide (p < 0), qNeg := decide (q < 0) }

/-- The register that an active and a reactive power sample add to (R418). -/
def quadrant (pNeg qNeg : Bool) : Nat :=
  if pNeg then (if qNeg then 4 else 3) else (if qNeg then 5 else 2)

/-- An increment added to a register; the flag tells a wrap of the value (R419). -/
def EnergyReg.add (r : EnergyReg) (e : Nat) : EnergyReg × Bool :=
  let t := r.acc + e
  if t < 2 ^ 96 then ({ r with acc := t }, false) else (⟨t - 2 ^ 96, (r.wraps + 1) % 65536⟩, true)

/-- An increment added to register `k` of a list. -/
def addReg (rs : List EnergyReg) (k e : Nat) : List EnergyReg × Bool :=
  let r := (rs.getD k {}).add e
  (rs.set k r.1, r.2)

/-- The seven registers of phase `ph` after one power sample. -/
def addPower (rs : List EnergyReg) (ph : Nat) (inc : PowerInc) : List EnergyReg × Bool :=
  let b := 7 * ph
  let r1 := addReg rs (b + b2n inc.pNeg) inc.p
  let r2 := addReg r1.1 (b + quadrant inc.pNeg inc.qNeg) inc.q
  let r3 := addReg r2.1 (b + 6) inc.s
  (r3.1, r1.2 || r2.2 || r3.2)

/-- The increment of a pulse quantity over the phases of a point (R424). -/
def quantityInc (qn : Nat) (incs : List PowerInc) : Nat :=
  (incs.map fun i =>
    match qn with
    | 0 => if i.pNeg then 0 else i.p
    | 1 => if i.pNeg then i.p else 0
    | 2 => if i.qNeg then 0 else i.q
    | 3 => if i.qNeg then i.q else 0
    | _ => i.s).sum

/-- The edges that one power sample schedules: the sample ends at `at_`, its increment is `e` (R424). -/
def pulseEdges (at_ : Instant) (const e : Nat) : Nat → Nat → List Instant × Nat
  | 0, acc => ([], acc)
  | fuel + 1, acc =>
    if acc < const * 2 ^ 32 || e = 0 then ([], acc)
    else
      let rest := acc - const * 2 ^ 32
      let back := roundDiv ((125000 * 65536 * rest : Nat) : Int) (e * 1000)
      let r := pulseEdges at_ const e fuel rest
      ((at_ - back + 250000 * 65536) :: r.1, r.2)

/-- A pulse output after one power sample of its point (R424). -/
def MtrPulse.advance (o : MtrPulse) (at_ : Instant) (incs : List PowerInc) : MtrPulse :=
  let e := quantityInc o.quantity incs
  let acc := o.acc + 1000 * e
  let r := pulseEdges at_ o.const e (acc / (o.const * 2 ^ 32) + 1) acc
  { o with acc := r.2, edges := o.edges ++ r.1 }

/-! ### Points -/

/-- The sums of one phase with one more sample. -/
def PhaseSums.push (s : PhaseSums) (v i v90x4 : Int) : PhaseSums :=
  ⟨s.vv + v * v, s.ii + i * i, s.vi + v * i, s.qi + v90x4 * i⟩

/-- Lists of sums, phase by phase, with one more sample. -/
def pushAll (ss : List PhaseSums) (vs : List (Int × Int × Int)) : List PhaseSums :=
  (List.range vs.length).map fun k => let x := vs.getD k (0, 0, 0)
    (ss.getD k {}).push x.1 x.2.1 x.2.2

/-- One sample of a point whose phases carry `vis` (v, i): the point, the increments per phase and whether
a register wrapped. -/
def MtrPoint.sample (p : MtrPoint) (vis : List (Int × Int)) (clipped switched : Bool) :
    MtrPoint × List PowerInc × Bool :=
  if p.phase = .disabled then (p, [], false)
  else
    let hist := (List.range p.cfg.phases).map fun k =>
      let h := p.hist.getD k {}
      let x := vis.getD k (0, 0)
      ({ v := (x.1 :: h.v).take 12000, i := (x.2 :: h.i).take 12000 } : PhaseHist)
    let incs := hist.map (powerIncrements p.w)
    let acc := (List.range incs.length).foldl (fun (a : List EnergyReg × Bool) k =>
        let r := addPower a.1 k (incs.getD k {})
        (r.1, a.2 || r.2)) (p.regs, false)
    let trip := (List.range p.cfg.phases).map fun k =>
      let x := vis.getD k (0, 0)
      (x.1, x.2, (delayed p.w ((hist.getD k {}).v)).headD 0)
    ({ p with
        hist := hist, regs := acc.1
        cycleSums := pushAll p.cycleSums trip, cycleSamples := p.cycleSamples + 1
        cycleOverload := p.cycleOverload || clipped, gainSwitched := p.gainSwitched || switched
        interval := p.interval.map fun iv => { iv with samples := iv.samples + 1, sums := pushAll iv.sums trip } },
      incs, acc.2)

/-- V_RMS, I_RMS, P and Q of one phase over `n` samples. -/
def phaseMeans (n : Nat) (s : PhaseSums) : List F32 :=
  let d := n * yUnit * yUnit
  if n = 0 then [F32.f0, F32.f0, F32.f0, F32.f0]
  else [sqrtF s.vv.toNat d, sqrtF s.ii.toNat d, F32.ofRat s.vi d, F32.ofRat s.qi (4 * d)]

/-- The means of three phases in a row, zero beyond the point's phases. -/
def allMeans (phases n : Nat) (ss : List PhaseSums) : List F32 :=
  (List.range 3).flatMap fun k => if k < phases then phaseMeans n (ss.getD k {}) else [F32.f0, F32.f0, F32.f0, F32.f0]

/-- The frequency in mHz of `n` cycles over a duration. -/
def milliHz (n : Nat) (d : Units) : Nat := if d ≤ 0 then 0 else (roundDiv ((65536000000000000 * n : Nat) : Int) d.toNat).toNat

/-- A cycle of duration `d` lies outside 45 Hz to 65 Hz (R415). -/
def outOfBand (d : Units) : Bool := decide (65536000000000 < d * 45) || decide (d * 65 < 65536000000000)

/-- The cycle record of the cycle that ends at `at_` (R415). -/
def MtrPoint.cycleRec (p : MtrPoint) (at_ : Instant) : CycleRec :=
  let d := at_ - p.lastCross.getD at_
  let ph := allMeans p.cfg.phases p.cycleSamples p.cycleSums
  { overload := p.cycleOverload, freqRange := outOfBand d, w := p.cycleSamples, freqMilliHz := milliHz 1 d,
    endAt := at_, phase := ph,
    psum := (List.range p.cfg.phases).foldl (fun a k => F32.add a (ph.getD (4 * k + 2) F32.f0)) F32.f0 }

/-- The record that a closing interval writes (R422). Its mean frequency is that of its cycles: one that a time-out closes ends for it at
the last crossing. -/
def MtrPoint.latchRec (p : MtrPoint) (iv : MtrInterval) (at_ : Instant) (pos : Pos) (extra : Nat) : LatchRec :=
  let until_ := if bit extra 0 then p.lastCross.getD at_ else at_
  { seq := p.seq, gen := p.gen, flags := iv.flags ||| extra ||| (if p.gainSwitched then 32 else 0), endAt := at_,
    endPos := pos, cycles := if iv.lossSpan then 0 else iv.cycles,
    freqMilliHz := if iv.lossSpan then 0 else milliHz iv.cycles (until_ - iv.startAt),
    phase := allMeans p.cfg.phases iv.samples iv.sums,
    values := (List.range 21).map fun k => (p.regs.getD k {}).acc / 2 ^ 32,
    wraps := (List.range 21).map fun k => (p.regs.getD k {}).wraps }

/-- Presets take effect at the start of an interval (R421): registers, and whether any was set. -/
def MtrPoint.applyPresets (p : MtrPoint) : MtrPoint × Bool :=
  ({ p with regs := p.presets.foldl (fun rs e => rs.set e.1 ⟨e.2.2 * 2 ^ 32, e.2.1⟩) p.regs, presets := [] },
    !p.presets.isEmpty)

/-- Close the open interval, where there is one (R422). -/
def MtrPoint.close (p : MtrPoint) (at_ : Instant) (pos : Pos) (extra : Nat) : MtrPoint :=
  match p.interval with
  | none => p
  | some iv => { p with
      recs := (p.latchRec iv at_ pos extra :: p.recs).take 16, seq := (p.seq + 1) % 2 ^ 32, interval := none
      gainSwitched := false }

/-- Open an interval; N and ZC_TIMEOUT of the settings come into force (R423). -/
def MtrPoint.open_ (p : MtrPoint) (at_ : Instant) (lossSpan : Bool) : MtrPoint :=
  let r := p.applyPresets
  { r.1 with interval := some { startAt := at_, flags := if r.2 then 16 else 0, lossSpan := lossSpan },
             n := p.cfg.n, zcMs := p.cfg.zcMs }

/-- A new line cycle begins. -/
def MtrPoint.openCycle (p : MtrPoint) (at_ : Instant) : MtrPoint :=
  { p with lastCross := some at_, cycleSums := [], cycleSamples := 0, cycleOverload := false }

/-- Registers of a point at creation or restart (R419, R423). -/
def zeroRegs : List EnergyReg := List.replicate 21 {}

/-- A change of channels or REF_PHASE comes into force (R423): SHORT, registers at zero, GEN up. A preset still waits for the interval
that follows (R421). -/
def MtrPoint.restart (p : MtrPoint) (cfg : MtrPointCfg) (at_ : Instant) (pos : Pos) : MtrPoint :=
  let c := p.close at_ pos 2
  { c with cfg := cfg, change := none, regs := zeroRegs, gen := (p.gen + 1) % 65536, hist := [] }

/-- A crossing of the reference phase in NORMAL (R415, R416, R422): the point, and whether a latch record was
written. `stop` closes the point because its function drains. -/
def MtrPoint.crossNormal (p : MtrPoint) (at_ : Instant) (pos : Pos) (stop : Bool) : MtrPoint × Bool :=
  let rec_ := p.cycleRec at_
  let p1 : MtrPoint := { p with
    last := rec_, w := if p.cycleSamples = 0 then p.w else p.cycleSamples
    interval := p.interval.map fun iv => { iv with
      cycles := iv.cycles + 1
      flags := iv.flags ||| (if rec_.overload then 4 else 0) ||| (if rec_.freqRange then 8 else 0) } }
  if stop then ({ p1.close at_ pos 0 with phase := .disabled, lastCross := none }, p1.interval.isSome)
  else match p.change with
  | some cfg => (((p1.restart cfg at_ pos).open_ at_ false).openCycle at_, p1.interval.isSome)
  | none =>
    let full : Bool := match p1.interval with
      | some iv => decide (p1.n ≤ iv.cycles)
      | none => false
    if full then (((p1.close at_ pos 0).open_ at_ false).openCycle at_, true) else (p1.openCycle at_, false)

/-- The cycle record of a point in LOSS (R417), which stays until a cycle has completed again. -/
def CycleRec.lost (r : CycleRec) : CycleRec :=
  { r with loss := true, overload := false, freqRange := false, phase := [], psum := F32.f0 }

/-- FN_ENABLE of a point: START, with W = 160 (R416). -/
def MtrPoint.start (p : MtrPoint) (now : Nat) : MtrPoint :=
  { p with phase := .start, w := 160, zcSince := now, lastCross := none, cycleSums := [], cycleSamples := 0,
           cycleOverload := false, interval := none, hist := [], last := { loss := true } }

/-- The cycle record that a frame latches (R417). -/
def MtrPoint.latched (p : MtrPoint) : CycleRec :=
  if p.phase = .normal then p.last else p.last.lost

/-- The measurement that the governor reads: valid unless the cycle reports a voltage loss ("Measurement, hard limit and gain"). -/
def CycleRec.meas (r : CycleRec) (phases : Nat) : FeederMeas :=
  { valid := !r.loss, watts := r.psum,
    volts := (List.range phases).map fun k => r.phase.getD (4 * k) F32.f0,
    amps := (List.range phases).map fun k => r.phase.getD (4 * k + 1) F32.f0 }

/-! ### Pulses (R424, R425) -/

/-- Drive a pulse. -/
def MtrPulse.drive (o : MtrPulse) (now : Nat) : MtrPulse :=
  { o with driving := true, edgeAt := now, pulses := o.pulses + 1 }

/-- A scheduled edge falls due: driven, or kept in BACKLOG; the flag raises MTR_PULSE_BACKLOG. -/
def MtrPulse.edge (o : MtrPulse) (now : Nat) : MtrPulse × Bool :=
  let o' := { o with edges := o.edges.drop 1 }
  if o.driving || o.gapping || o.backlog != 0 then ({ o' with backlog := o.backlog + 1 }, o.backlog == 0)
  else (o'.drive now, false)

/-! ### Recalibration (R412, R413) -/

/-- The corrections of step 4 lie within 1% of the factory ones: the gain by ratio, the offset by full
scale (assumption 41). -/
def roveWithin (coef : Bytes) (c : Nat) (kg zg : List Int) : Bool :=
  (List.range 4).all fun g =>
    decide (absInt (kg.getD g 0 - Config.meterGain coef c g) * 100 ≤ absInt (Config.meterGain coef c g))
      && decide (absInt (zg.getD g 0 - Config.meterOffset coef c g) * 100 ≤ 2 ^ 32)

/-- The channel after step 5 with the residual difference in units of 2^-32 of full scale: new corrections
stand, or the old ones with a fault (R413). -/
def MtrChannel.roveDone (c : MtrChannel) (coef : Bytes) (ch : Nat) (kg zg : List Int) (residual : Int) (sec : Nat) : MtrChannel × Bool :=
  if 10000 * absInt residual ≤ 2 * 2 ^ 32 && roveWithin coef ch kg zg then
    ({ c with kg := kg, zg := zg, live := true, roveCount := c.roveCount + 1, roveSec := sec,
              gainDelta := F32.div (F32.ofRat (kg.getD c.gain 0 - c.kg.getD c.gain 0) (2 ^ 32))
                (F32.ofRat (c.kg.getD c.gain 0) (2 ^ 32)),
              offsetDelta := F32.ofRat (zg.getD c.gain 0 - c.zg.getD c.gain 0) (2 ^ 32) }, false)
  else
    ({ c with roveCount := c.roveCount + 1, roveFaults := c.roveFaults + 1, roveSec := sec, gainDelta := F32.f0, offsetDelta := F32.f0 }, true)

end Sys2Proof.Machine
end

