-- ==== Sys2Proof/Machine/MeterExec.lean ====
section
/-!
DEFINITION. Machine/MeterExec.lean: the commands and events of feeder metering (R408 to R434), and the readings of
temperature sources (R327).
-/

namespace Sys2Proof.Machine

/-! ### Interrupt sources (R427) and times -/

def srcMtrLoss : Nat := 0x88
def srcMtrReturn : Nat := 0x89
def srcMtrOverload : Nat := 0x8A
def srcMtrFreq : Nat := 0x8B
def srcMtrLatch : Nat := 0x8C
def srcMtrWrap : Nat := 0x8D
def srcMtrRoveFault : Nat := 0x8E
def srcMtrBacklog : Nat := 0x8F

/-- TIME cycles in a sample period of 125 µs. -/
def cycSample : Nat := 62500

/-- Metering changed. -/
def State.withMeter (s : State) (m : MeterState) : State := { s with meter := m }

/-! ### Temperature readings (R327) -/

/-- A reading that arrives for every temperature source of the show state in force that satisfies `p`: its value, and
whether it is marked invalid; the value of the latest valid reading stays then (R328). -/
def State.tempReading (s : State) (p : Bytes → Bool) (value : Bytes → F32) (invalid : Bool) : State :=
  let ts : Map TempDyn := s.txn.view.output.temps.foldl (fun m e =>
    if p e.2 then
      let d := Map.getD m e.1 {}
      Map.put m e.1 ({ d with value := if invalid then d.value else value e.2, stamp := s.tb, invalid := invalid } : TempDyn)
    else m) s.render.temps
  { s with render := { s.render with temps := ts } }

/-! ### Samples (R408 to R411, R418, R424) -/

/-- Channels that sample: those that are not DISABLED. -/
def State.mtrLive (s : State) (c : Nat) : Bool := s.alive 0x0B c

/-- A recalibration restarts its step when its channel switches gain in step 2 or 5 (R413). -/
def RoveRun.gainSwitch (r : RoveRun) (now : Nat) : RoveRun :=
  if r.step = .fit || r.step = .compare then { r with since := now } else r

/-- The voltage and current of each phase of a point. A channel that does not sample keeps its last value. -/
def MeterState.phaseValues (m : MeterState) (p : MtrPoint) : List (Int × Int) :=
  (List.range p.cfg.phases).map fun k => ((m.channel (p.cfg.vCh.getD k 0)).y, (m.channel (p.cfg.iCh.getD k 0)).y)

/-- The current channels of a point include one of the list. -/
def MtrPoint.touches (p : MtrPoint) (cs : List Nat) : Bool := (p.cfg.iCh.take p.cfg.phases).any cs.contains

/-- A capture takes a sample. -/
def MtrCaptureRun.take (r : MtrCaptureRun) (x : Int) (at_ : Instant) (switches : Nat) : MtrCaptureRun :=
  if r.left = 0 then r
  else { r with left := r.left - 1, taken := r.taken ++ [x], startAt := some (r.startAt.getD at_),
                switches := if r.startAt.isNone then switches else r.switches }

/-- The channels after one sample of each: the channels, those that clipped, those that switched gain. -/
def State.sampleChannels (s : State) (raw : List Int) : Map MtrChannel × List Nat × List Nat :=
  (List.range 64).foldl (fun acc c =>
    if s.mtrLive c then
      let r := (s.meter.channel c).sample (clampInt (raw.getD c 0) (-8388608) 8388607) s.now
      (acc.1.put c r.1, if r.2.1 then acc.2.1 ++ [c] else acc.2.1, if r.2.2 then acc.2.2 ++ [c] else acc.2.2)
    else acc) (s.meter.channels, [], [])

/-- MTR_SAMPLE: nothing before the next sample's instant. -/
def State.mtrSample (s : State) (raw : List Int) : State :=
  if !((List.range 64).any s.mtrLive) || s.now < s.meter.base + cycSample * s.meter.nextSample then s
  else
    let cs := s.sampleChannels raw
    let rove := s.meter.rove.map fun r => if cs.2.2.contains r.channel then r.gainSwitch s.now else r
    let m : MeterState := { s.meter with channels := cs.1, nextSample := s.meter.nextSample + 1, rove := rove }
    let ps := m.points.map fun e => (e.1, e.2.sample (m.phaseValues e.2) (e.2.touches cs.2.1) (e.2.touches cs.2.2))
    let incs (p : Nat) : List PowerInc := (ps.find? (·.1 == p)).elim [] (·.2.2.1)
    let pulses := m.pulses.mapVal fun j o =>
      match o.point with
      | some p => if s.enabled 0x0D j then o.advance s.tb (incs p) else o
      | none => o
    let caps := m.captures.map fun r =>
      let c := m.channel r.channel
      r.take c.x s.tb c.gainSwitches.toNat
    let wraps := (ps.filter fun e => e.2.2.2).length
    (s.withMeter { m with points := ps.map (fun e => (e.1, e.2.1)), pulses := pulses, captures := caps }).raiseAll
      (List.replicate wraps srcMtrWrap)

/-! ### Line cycles (R414 to R417, R422) -/

/-- The channels of a point close a reference cycle: RMS over it, for MTR_CHANNEL_STATUS. -/
def MeterState.closeRms (m : MeterState) (p : MtrPoint) : MeterState :=
  let used := (p.cfg.vCh.take p.cfg.phases ++ p.cfg.iCh.take p.cfg.phases).eraseDups
  { m with channels := used.foldl (fun cs c =>
      match cs.find c with
      | none => cs
      | some x =>
        let r := if x.sqCount = 0 then F32.f0 else sqrtF x.sqSum.toNat (x.sqCount * yUnit * yUnit)
        cs.put c { x with rms := r, sqSum := 0, sqCount := 0 }) m.channels }

/-- A point changed; GEN of its number follows it. -/
def MeterState.setPoint (m : MeterState) (k : Nat) (p : MtrPoint) : MeterState :=
  { m with points := m.points.put k p, gens := m.gens.put k p.gen }

/-- A point drains. -/
def State.pointDrains (s : State) (k : Nat) : Bool := (s.fn (fnId 0x0C k)).state == .draining

/-- A crossing of a point in LOSS: the loss interval closes with LOSS; a new interval and cycle open unless it drains. -/
def MtrPoint.crossLoss (p : MtrPoint) (at_ : Instant) (pos : Pos) (stop : Bool) : MtrPoint :=
  let c := p.close at_ pos 1
  if stop then { c with phase := .disabled, lastCross := none }
  else { (c.open_ at_ false).openCycle at_ with phase := .normal, last := c.last.lost }

/-- A crossing of a point in START. -/
def MtrPoint.crossStart (p : MtrPoint) (at_ : Instant) (stop : Bool) : MtrPoint :=
  if stop then { p with phase := .disabled, lastCross := none }
  else { (p.open_ at_ false).openCycle at_ with phase := .normal }

/-- A crossing on the reference phase of point `k` (R414): ignored within 12 ms of the one before. -/
def State.mtrCross (s : State) (k : Nat) (at_ : Instant) : State :=
  match s.meter.points.find k with
  | none => s
  | some p =>
    let early : Bool := p.lastCross.elim false fun c => decide (at_ - c < 12000000 * 65536)
    if p.phase = .disabled || s.tb < at_ || early then s
    else
      let pos := s.clock.posAt at_
      let stop := s.pointDrains k
      match p.phase with
      | .disabled => s
      | .start => s.withMeter ((s.meter.closeRms p).setPoint k { p.crossStart at_ stop with zcSince := s.now })
      | .loss =>
        ((s.withMeter (s.meter.setPoint k { p.crossLoss at_ pos stop with zcSince := s.now })).raise srcMtrReturn).raiseIf
          p.interval.isSome srcMtrLatch
      | .normal =>
        let r := p.crossNormal at_ pos stop
        let n := r.1.last
        (((s.withMeter ((s.meter.closeRms p).setPoint k { r.1 with zcSince := s.now })).raiseIf
          (n.overload && !p.last.overload) srcMtrOverload).raiseIf (n.freqRange && !p.last.freqRange) srcMtrFreq).raiseIf
          r.2 srcMtrLatch

/-- ZC_TIMEOUT of point `k` (R416): into LOSS, or the end of a drain. A change that waited for a crossing of the old
reference takes effect (R423). -/
def State.mtrZcTimeout (s : State) (k : Nat) : State :=
  match s.meter.points.find k with
  | none => s
  | some p =>
    if p.phase = .disabled || s.now < p.zcSince + p.zcMs * cycMs || (p.phase = .loss && !s.pointDrains k) then s
    else
      let c := p.close s.tb s.pos 1
      let c := match c.change with
        | some cfg => c.restart cfg s.tb s.pos
        | none => c
      let c := if s.pointDrains k then { c with phase := .disabled, lastCross := none }
        else { c.open_ s.tb true with phase := .loss, last := c.last.lost }
      ((s.withMeter (s.meter.setPoint k c)).raiseIf p.interval.isSome srcMtrLatch).raiseIf (p.phase != .loss) srcMtrLoss

/-- The end of an AUX period: ρ, and the readings of the NTC sources on the channel (R410, R327). -/
def State.mtrAuxEnd (s : State) (c : Nat) : State :=
  let x := s.meter.channel c
  if x.role != 3 || !s.mtrLive c || s.now < x.auxSince + x.auxMs * cycMs then s
  else
    let y := x.auxEnd s.now
    (s.withMeter { s.meter with channels := s.meter.channels.put c y }).tempReading
      (fun r => tsKind r == 3 && tsPort r == c) (fun r => ntcTemp r y.rho) (ntcInvalid y.rho)

/-! ### Live recalibration (R412, R413) -/

/-- The next channel in ascending order that is ENABLED and has ROVE set. -/
def State.roveNext (s : State) : Option Nat :=
  let from_ := s.meter.roveLast + 1
  ((List.range 64).map fun i => (from_ + i) % 64).find? fun c => s.enabled 0x0B c && (s.meter.channel c).rove

/-- Step 1 and 2. -/
def State.roveStart (s : State) : State :=
  if s.meter.rove.isSome || s.now < s.meter.roveSince + s.meter.rovePeriodMs * cycMs then s
  else match s.roveNext with
    | none => s
    | some c =>
      s.withMeter { s.meter with rove := some { channel := c, step := .fit, since := s.now }, roveSince := s.now, roveLast := c }

/-- A recalibration moves from a step that has lasted `ms` to the next. -/
def State.roveStep (s : State) (step : RoveStep) (ms : Nat) (f : RoveRun → State) : State :=
  match s.meter.rove with
  | some r => if r.step = step && r.since + ms * cycMs ≤ s.now then f r else s
  | none => s

/-- Steps 3 and 4. -/
def State.roveTakeover (s : State) : State :=
  s.roveStep .fit 250 fun r => s.withMeter { s.meter with rove := some { r with step := .selfCal, since := s.now } }

/-- Step 5, with the corrections that step 4 measured. -/
def State.roveRejoin (s : State) (kg zg : List Int) : State :=
  s.roveStep .selfCal 400 fun r =>
    s.withMeter { s.meter with rove := some { r with step := .compare, since := s.now, kg := kg, zg := zg } }

/-- Step 6: the new corrections stand, or the old ones with MTR_ROVE_FAULT. -/
def State.roveReturn (s : State) (residual : Int) : State :=
  s.roveStep .compare 250 fun r =>
    let x := (s.meter.channel r.channel).roveDone s.meter.coef r.channel r.kg r.zg residual (stampSec s.tb)
    (s.withMeter { s.meter with channels := s.meter.channels.put r.channel x.1,
                                rove := some { r with step := .settle, since := s.now } }).raiseIf x.2 srcMtrRoveFault

/-- The end of step 7. -/
def State.roveEnd (s : State) : State := s.roveStep .settle 100 fun _ => s.withMeter { s.meter with rove := none }

/-- A recalibration of channel `c` ends at once (R413). -/
def MeterState.roveAbort (m : MeterState) (c : Nat) : MeterState :=
  match m.rove with
  | some r => if r.channel = c then { m with rove := none } else m
  | none => m

/-! ### Pulse outputs (R424, R425) -/

/-- A pulse output changed. -/
def State.setMtrPulse (s : State) (j : Nat) (o : MtrPulse) : State :=
  s.withMeter { s.meter with pulses := s.meter.pulses.put j o }

/-- A scheduled edge falls due on an output that is not DISABLED. -/
def State.mtrPulseEdge (s : State) (j : Nat) : State :=
  let o := s.meter.pulses.getD j {}
  let due : Bool := o.edges.head?.elim false fun t => decide (t ≤ s.tb)
  if !s.enabled 0x0D j || !due then s
  else
    let r := o.edge s.now
    let s := (s.setMtrPulse j r.1).raiseIf r.2 srcMtrBacklog
    if r.1.driving && !o.driving then s.emit (.mtrPulse j true) else s

/-- A pulse reaches WIDTH_MS. -/
def State.mtrPulseEnd (s : State) (j : Nat) : State :=
  let o := s.meter.pulses.getD j {}
  if !o.driving || s.now < o.edgeAt + o.widthMs * cycMs then s
  else (s.setMtrPulse j { o with driving := false, gapping := true, endAt := s.now }).emit (.mtrPulse j false)

/-- The gap expires; a waiting pulse is driven. -/
def State.mtrPulseGapEnd (s : State) (j : Nat) : State :=
  let o := s.meter.pulses.getD j {}
  if !o.gapping || s.now < o.endAt + o.gapMs * cycMs then s
  else
    let o := { o with gapping := false }
    if o.backlog = 0 || !s.enabled 0x0D j then s.setMtrPulse j o
    else (s.setMtrPulse j ({ o with backlog := o.backlog - 1 }.drive s.now)).emit (.mtrPulse j true)

/-! ### MTR_CHANNEL_SET, MTR_POINT_SET (R423, R428) -/

/-- Points that name a channel: `cur` for current channels. -/
def MtrPointCfg.names (c : MtrPointCfg) (ch : Nat) : Bool := (c.vCh.take c.phases ++ c.iCh.take c.phases).contains ch

/-- A channel is named by an ENABLED point. -/
def State.channelTied (s : State) (c : Nat) : Bool :=
  s.meter.points.any fun e => s.enabled 0x0C e.1 && (e.2.cfg.names c || e.2.change.elim false (·.names c))

/-- MTR_CHANNEL_SET after the generic checks. A fixed gain takes force; automatic gain goes on from the one in force. -/
def mtrChannelBody (c : Ctx) (s : State) : State × Reply :=
  let p := c.payload
  let k := fld p 0 1
  let role := fld p 1 1
  let x := s.meter.channel k
  if x.role != role && s.channelTied k then s.fail .conflict
  else
    let m := if x.role = role then s.meter else s.meter.roveAbort k
    let y := { x with
      role := role, gainCode := fld p 2 1, rove := bit (fld p 3 1) 0, invert := bit (fld p 3 1) 1, scale := fldF p 4
      offset := fldF p 8, phaseCorr := fldS p 12 2, auxMs := if fld p 14 2 = 0 then 100 else fld p 14 2
      gain := if fld p 2 1 = 0 then x.gain else fld p 2 1 - 1, upRun := 0 }
    (s.withMeter { m with channels := m.channels.put k y }).ok

/-- MTR_CHANNEL_SET. -/
def mtrChannelSpec : CommandSpec :=
  { code := 0x0B01, kind := .device, lengthOk := lenIs 16, roleOk := engineer
    argOk := fun c _ =>
      let p := c.payload
      upTo p 3 1 3
    rangeOk := fun c _ =>
      let p := c.payload
      upTo p 0 1 63 && within p 1 1 1 3 && upTo p 2 1 4 && (fld p 1 1 == 3 || (F32.isPlain (fldF p 4) && F32.lt F32.f0 (fldF p 4)))
        && (fldF p 8).exp != 255 && upTo p 14 2 1000 && (fld p 1 1 == 2 || (fld p 2 1 == 1 && fld p 12 2 == 0))
        && (fld p 1 1 == 3 || fld p 14 2 == 0)
    body := mtrChannelBody }

/-- The settings of MTR_POINT_SET. -/
def pointCfgOf (p : Bytes) : MtrPointCfg :=
  { phases := fld p 1 1, refPhase := fld p 2 1, vCh := (List.range 3).map fun k => fld p (4 + k) 1
    iCh := (List.range 3).map fun k => fld p (7 + k) 1, n := fld p 10 2, zcMs := if fld p 12 2 = 0 then 60 else fld p 12 2 }

/-- Channels of the wrong role, or a current channel of another point. -/
def MeterState.pointConflict (m : MeterState) (k : Nat) (c : MtrPointCfg) : Bool :=
  (c.vCh.take c.phases).any (fun x => (m.channel x).role != 1)
    || (c.iCh.take c.phases).any fun x => (m.channel x).role != 2
      || m.points.any fun e => e.1 != k && ((e.2.cfg.iCh.take e.2.cfg.phases).contains x
        || e.2.change.elim false fun d => (d.iCh.take d.phases).contains x)

/-- The settings differ only in N or ZC_TIMEOUT. -/
def MtrPointCfg.sameChannels (a b : MtrPointCfg) : Bool :=
  a.phases == b.phases && a.refPhase == b.refPhase && a.vCh == b.vCh && a.iCh == b.iCh

/-- A point defined or changed. -/
def State.definePoint (s : State) (k : Nat) (c : MtrPointCfg) : State :=
  match s.meter.points.find k with
  | none =>
    let p : MtrPoint := { cfg := c, n := c.n, zcMs := c.zcMs, regs := zeroRegs, gen := (s.meter.gens.getD k 0 + 1) % 65536 }
    s.withMeter (s.meter.setPoint k (if s.enabled 0x0C k then p.start s.now else p))
  | some p =>
    if p.cfg.sameChannels c then
      let q := { p with cfg := c, change := none }
      s.withMeter (s.meter.setPoint k (if p.phase = .disabled then { q with n := c.n, zcMs := c.zcMs } else q))
    else if p.phase = .normal then s.withMeter (s.meter.setPoint k { p with change := some c })
    else
      let q := p.restart c s.tb s.pos
      let q := if p.phase = .loss then q.open_ s.tb true
        else if p.phase = .disabled then { q with n := c.n, zcMs := c.zcMs } else q
      (s.withMeter (s.meter.setPoint k q)).raiseIf p.interval.isSome srcMtrLatch

/-- MTR_POINT_SET after the generic checks. -/
def mtrPointBody (c : Ctx) (s : State) : State × Reply :=
  let k := fld c.payload 0 1
  if fld c.payload 1 1 = 0 then
    if s.meter.points.has k && s.enabled 0x0C k then s.fail .conflict
    else (s.withMeter { s.meter with points := s.meter.points.del k }).ok
  else if s.meter.pointConflict k (pointCfgOf c.payload) then s.fail .conflict
  else (s.definePoint k (pointCfgOf c.payload)).ok

/-- MTR_POINT_SET. -/
def mtrPointSpec : CommandSpec :=
  { code := 0x0B02, kind := .device, lengthOk := lenIs 16, roleOk := engineer
    argOk := fun c _ => zeroAt c.payload 3 1 && zeroAt c.payload 14 2
    rangeOk := fun c _ =>
      let p := c.payload
      let ph := fld p 1 1
      upTo p 0 1 31 && [0, 1, 3].contains ph && (ph == 0 || (fld p 2 1 < ph && within p 10 2 1 65535 && (fld p 12 2 == 0 || within p 12 2 10 1000)
        && (List.range 3).all fun i =>
          if i < ph then upTo p (4 + i) 1 63 && upTo p (7 + i) 1 63 else fld p (4 + i) 1 == 255 && fld p (7 + i) 1 == 255))
    body := mtrPointBody }

/-! ### MTR_ENERGY_PRESET, MTR_PULSE_SET, MTR_ROVE_SET (R421, R429 to R431) -/

/-- MTR_ENERGY_PRESET after the generic checks: audited as event 0x0050. -/
def mtrPresetBody (c : Ctx) (s : State) : State × Reply :=
  let p := c.payload
  if s.auditFull then s.fail .busy
  else match s.meter.points.find (fld p 0 1) with
    | none => s.fail .conflict
    | some x =>
      let y := { x with presets := x.presets ++ [(7 * fld p 1 1 + fld p 2 1, fld p 4 2, fld p 8 8)] }
      ((s.withMeter (s.meter.setPoint (fld p 0 1) y)).audit 0x0050 c.session c.role 0 (bytesLE 2 0x0B03 ++ p.take 16)).ok

/-- MTR_ENERGY_PRESET. -/
def mtrPresetSpec : CommandSpec :=
  { code := 0x0B03, kind := .device, lengthOk := lenIs 16, roleOk := officer
    argOk := fun c _ => zeroAt c.payload 3 1 && zeroAt c.payload 6 2
    rangeOk := fun c _ => upTo c.payload 0 1 31 && upTo c.payload 1 1 2 && upTo c.payload 2 1 6
    body := mtrPresetBody }

/-- MTR_PULSE_SET after the generic checks: another point or quantity clears A and BACKLOG. -/
def mtrPulseSetBody (c : Ctx) (s : State) : State × Reply :=
  let p := c.payload
  if !s.meter.points.has (fld p 1 1) then s.fail .conflict
  else
    let o := s.meter.pulses.getD (fld p 0 1) {}
    let same := o.point == some (fld p 1 1) && o.quantity == fld p 2 1
    let n := { o with
      point := some (fld p 1 1), quantity := fld p 2 1, polarity := fld p 3 1, const := fld p 4 4, widthMs := fld p 8 2
      gapMs := fld p 10 2, acc := if same then o.acc else 0, backlog := if same then o.backlog else 0, pulses := 0 }
    (s.setMtrPulse (fld p 0 1) n).ok

/-- MTR_PULSE_SET. -/
def mtrPulseSetSpec : CommandSpec :=
  { code := 0x0B04, kind := .device, lengthOk := lenIs 16, roleOk := engineer
    argOk := fun c _ => zeroAt c.payload 12 4
    rangeOk := fun c _ =>
      let p := c.payload
      upTo p 0 1 7 && upTo p 1 1 31 && upTo p 2 1 4 && upTo p 3 1 1 && within p 4 4 1 1000000000 && within p 8 2 1 1000 && within p 10 2 1 1000
    body := mtrPulseSetBody }

/-- MTR_ROVE_SET. -/
def mtrRoveSetSpec : CommandSpec :=
  { code := 0x0B05, kind := .device, lengthOk := lenIs 8, roleOk := engineer
    argOk := fun c _ => zeroAt c.payload 4 4
    rangeOk := fun c _ => fld c.payload 0 4 == 0 || within c.payload 0 4 1000 3600000
    body := fun c s =>
      let ms := if fld c.payload 0 4 = 0 then 5000 else fld c.payload 0 4
      (s.withMeter { s.meter with rovePeriodMs := ms,
                                  roveSince := if s.meter.rove.isSome then s.meter.roveSince else s.now }).ok }

/-! ### Reads (R432, R433) -/

/-- The instant of the next leading edge of an output: with a backlog, the end of the gap that runs or follows (R425). -/
def State.mtrNextEdge (s : State) (o : MtrPulse) : Option Instant :=
  if o.backlog = 0 then o.edges.head?
  else
    let end_ := if o.driving then o.edgeAt + (o.widthMs + o.gapMs) * cycMs else o.endAt + o.gapMs * cycMs
    some (s.tick (end_ - s.now)).tb

/-- The MTR_PULSE_STATUS response. -/
def State.mtrPulseStatus (s : State) (j : Nat) : Bytes :=
  let o := s.meter.pulses.getD j {}
  bytesLE 1 (s.fn (fnId 0x0D j)).state.code ++ bytesLE 1 (o.point.getD 255) ++ bytesLE 1 o.quantity ++ zeros 1
    ++ bytesLE 4 o.const ++ bytesLE 8 (o.acc / 1000) ++ bytesLE 4 o.backlog ++ bytesLE 4 o.pulses.toNat
    ++ posBytes ((s.mtrNextEdge o).elim 0 s.clock.posAt) ++ zeros 6

def mtrPulseStatusSpec : CommandSpec :=
  { code := 0x0B13, kind := .device, lengthOk := lenIs 8, roleOk := anyRole
    argOk := fun c _ => zeroAt c.payload 1 7
    rangeOk := fun c _ => upTo c.payload 0 1 7
    body := fun c s => s.okWith (s.mtrPulseStatus (fld c.payload 0 1)) }

/-- The MTR_LATCH_READ response. -/
def LatchRec.bytes (r : LatchRec) : Bytes :=
  bytesLE 4 r.seq ++ bytesLE 2 r.gen ++ bytesLE 2 r.flags ++ stampBytes r.endAt ++ bytesLE 2 r.cycles ++ posBytes r.endPos
    ++ zeros 2 ++ bytesLE 4 r.freqMilliHz ++ ((List.range 12).flatMap fun k => bytesF (r.phase.getD k F32.f0))
    ++ ((List.range 21).flatMap fun k => bytesLE 8 (r.values.getD k 0))
    ++ ((List.range 21).flatMap fun k => bytesLE 2 (r.wraps.getD k 0)) ++ zeros 6

def mtrLatchReadSpec : CommandSpec :=
  { code := 0x0B10, kind := .device, lengthOk := lenIs 8, roleOk := anyRole
    argOk := fun c _ => zeroAt c.payload 1 3
    rangeOk := fun c _ => upTo c.payload 0 1 31
    body := fun c s =>
      let rs := (s.meter.points.find (fld c.payload 0 1)).elim [] (·.recs)
      let q := fld c.payload 4 4
      match if q = 0xFFFFFFFF then rs.head? else rs.find? (·.seq == q) with
      | some r => s.okWith r.bytes
      | none => s.fail .outOfRange }

/-- STATE of MTR_CYCLE_READ. -/
def MtrPhase.code : MtrPhase → Nat
  | .disabled => 1
  | .start => 2
  | .normal => 3
  | .loss => 4

/-- The MTR_CYCLE_READ response. -/
def mtrCycleRead (p : Option MtrPoint) : Bytes :=
  match p with
  | none => zeros 0x50
  | some x =>
    let r := x.latched
    bytesLE 1 x.phase.code ++ bytesLE 1 (b2n r.freqRange + 2 * b2n r.overload + 4 * b2n r.loss) ++ bytesLE 2 x.w
      ++ bytesLE 4 r.freqMilliHz ++ stampBytes r.endAt ++ zeros 2
      ++ ((List.range 12).flatMap fun k => bytesF (r.phase.getD k F32.f0)) ++ bytesF r.psum ++ zeros 4

def mtrCycleReadSpec : CommandSpec :=
  { code := 0x0B11, kind := .device, lengthOk := lenIs 8, roleOk := anyRole
    argOk := fun c _ => zeroAt c.payload 1 7
    rangeOk := fun c _ => upTo c.payload 0 1 31
    body := fun c s => s.okWith (mtrCycleRead (s.meter.points.find (fld c.payload 0 1))) }

/-- The MTR_CHANNEL_STATUS response. -/
def State.mtrChannelStatus (s : State) (k : Nat) : Bytes :=
  let x := s.meter.channel k
  let roving : Bool := s.meter.rove.elim false fun r => r.channel == k
  let clipped : Bool := x.clippedAt.elim false fun t => s.now < t + cycSec
  let aux := F32.sub (F32.mul x.scale x.rho) x.offset
  bytesLE 1 (s.fn (fnId 0x0B k)).state.code ++ bytesLE 1 x.role ++ bytesLE 1 (gainOf x.gain)
    ++ bytesLE 1 (b2n roving + 2 * b2n clipped + 4 * b2n x.live) ++ bytesF (if x.role = 3 then aux else x.rms)
    ++ bytesF (if x.role = 3 then x.rho else F32.f0) ++ bytesLE 4 x.gainSwitches.toNat ++ bytesLE 4 x.roveCount.toNat
    ++ bytesLE 4 x.roveFaults.toNat ++ bytesF x.gainDelta ++ bytesF x.offsetDelta ++ bytesLE 8 x.roveSec

def mtrChannelStatusSpec : CommandSpec :=
  { code := 0x0B12, kind := .device, lengthOk := lenIs 8, roleOk := anyRole
    argOk := fun c _ => zeroAt c.payload 1 7
    rangeOk := fun c _ => upTo c.payload 0 1 63
    body := fun c s => s.okWith (s.mtrChannelStatus (fld c.payload 0 1)) }

/-! ### MTR_CAPTURE (R434, R489) -/

/-- Bytes of a capture of `n` samples, with the last word padded. -/
def captureLen (n : Nat) : Nat := (3 * n + 7) / 8 * 8

/-- MTR_CAPTURE. -/
def mtrCaptureSpec : CommandSpec :=
  { code := 0x0B20, kind := .device, lengthOk := lenIs 16, roleOk := engineer
    argOk := fun c _ => zeroAt c.payload 1 3
    rangeOk := fun c _ => upTo c.payload 0 1 63 && fld c.payload 8 8 % 8 == 0 && within c.payload 4 4 1 1048576
      && regionOk (fld c.payload 8 8) (captureLen (fld c.payload 4 4))
    body := fun c s =>
      let k := fld c.payload 0 1
      if !s.enabled 0x0B k then s.fail .conflict
      else s.accept c (.job [k] []) [] fun id s =>
        let r : MtrCaptureRun := { op := id, channel := k, dest := fld c.payload 8 8, left := fld c.payload 4 4 }
        s.withMeter { s.meter with captures := s.meter.captures ++ [r] } }

/-- The samples of a capture as packed words. -/
def MtrCaptureRun.bytes (r : MtrCaptureRun) : Bytes :=
  let bs := r.taken.flatMap (bytesLES 3)
  padTo (captureLen r.taken.length) bs

/-- MTR_CAPTURE_DONE: the last sample has been taken. -/
def State.mtrCaptureDone (s : State) (op : Nat) : State :=
  match s.meter.captures.find? (·.op == op) with
  | none => s
  | some r =>
    if r.left != 0 then s
    else
      let at_ := r.startAt.getD 0
      let sw := (s.meter.channel r.channel).gainSwitches.toNat - r.switches
      let s := s.withMeter { s.meter with captures := s.meter.captures.filter (·.op != op) }
      (s.storeRead r.dest r.bytes).endOpId op .ok s.pos
        (bytesLE 4 (3 * r.taken.length) ++ zeros 4 ++ bytesLE 8 (stampSec at_) ++ bytesLE 4 (stampNs at_) ++ bytesLE 4 sw)

/-! ### Meanings -/

/-- MTR_SAMPLE (R408 to R411, R418, R424): the raw samples of the 64 channels. -/
def execMtrSample (dt : Nat) (raw : List Int) (s : State) : Host.Outcome State Fault Refusal := s.act dt (·.mtrSample raw)

/-- MTR_ZERO_CROSSING (R414 to R416, R422): a crossing of a point's reference voltage at an interpolated instant. -/
def execMtrZeroCrossing (dt point : Nat) (stamp : Int) (s : State) : Host.Outcome State Fault Refusal :=
  s.act dt (·.mtrCross point stamp)

/-- MTR_ZC_TIMEOUT (R416). -/
def execMtrZcTimeout (dt point : Nat) (s : State) : Host.Outcome State Fault Refusal := s.act dt (·.mtrZcTimeout point)

/-- MTR_AUX_PERIOD_END (R410). -/
def execMtrAuxPeriodEnd (dt channel : Nat) (s : State) : Host.Outcome State Fault Refusal := s.act dt (·.mtrAuxEnd channel)

/-- MTR_ROVE_START (R412). -/
def execMtrRoveStart (dt : Nat) (s : State) : Host.Outcome State Fault Refusal := s.act dt (·.roveStart)

/-- MTR_ROVE_TAKEOVER (R412). -/
def execMtrRoveTakeover (dt : Nat) (s : State) : Host.Outcome State Fault Refusal := s.act dt (·.roveTakeover)

/-- MTR_ROVE_REJOIN (R412): the corrections measured in step 4, by gain, in units of 2^-32. -/
def execMtrRoveRejoin (dt : Nat) (kg zg : List Int) (s : State) : Host.Outcome State Fault Refusal := s.act dt (·.roveRejoin kg zg)

/-- MTR_ROVE_RETURN (R413): the residual difference in units of 2^-32 of full scale. -/
def execMtrRoveReturn (dt : Nat) (residual : Int) (s : State) : Host.Outcome State Fault Refusal := s.act dt (·.roveReturn residual)

/-- MTR_ROVE_END (R412). -/
def execMtrRoveEnd (dt : Nat) (s : State) : Host.Outcome State Fault Refusal := s.act dt (·.roveEnd)

/-- MTR_PULSE_EDGE (R424, R425). -/
def execMtrPulseEdge (dt output : Nat) (s : State) : Host.Outcome State Fault Refusal := s.act dt (·.mtrPulseEdge output)

/-- MTR_PULSE_END (R425). -/
def execMtrPulseEnd (dt output : Nat) (s : State) : Host.Outcome State Fault Refusal := s.act dt (·.mtrPulseEnd output)

/-- MTR_PULSE_GAP_END (R425). -/
def execMtrPulseGapEnd (dt output : Nat) (s : State) : Host.Outcome State Fault Refusal := s.act dt (·.mtrPulseGapEnd output)

/-- MTR_CHANNEL_SET (R428). -/
def execMtrChannelSet (dt m : Nat) (s : State) : Host.Outcome State Fault Refusal := s.act dt (·.runMbx mtrChannelSpec m)

/-- MTR_POINT_SET (R423, R428). -/
def execMtrPointSet (dt m : Nat) (s : State) : Host.Outcome State Fault Refusal := s.act dt (·.runMbx mtrPointSpec m)

/-- MTR_ENERGY_PRESET (R421, R429). -/
def execMtrEnergyPreset (dt m : Nat) (s : State) : Host.Outcome State Fault Refusal := s.act dt (·.runMbx mtrPresetSpec m)

/-- MTR_PULSE_SET (R430). -/
def execMtrPulseSet (dt m : Nat) (s : State) : Host.Outcome State Fault Refusal := s.act dt (·.runMbx mtrPulseSetSpec m)

/-- MTR_ROVE_SET (R431). -/
def execMtrRoveSet (dt m : Nat) (s : State) : Host.Outcome State Fault Refusal := s.act dt (·.runMbx mtrRoveSetSpec m)

/-- MTR_PULSE_STATUS (R432). -/
def execMtrPulseStatus (dt m : Nat) (s : State) : Host.Outcome State Fault Refusal := s.act dt (·.runMbx mtrPulseStatusSpec m)

/-- MTR_LATCH_READ (R433). -/
def execMtrLatchRead (dt m : Nat) (s : State) : Host.Outcome State Fault Refusal := s.act dt (·.runMbx mtrLatchReadSpec m)

/-- MTR_CYCLE_READ (R433). -/
def execMtrCycleRead (dt m : Nat) (s : State) : Host.Outcome State Fault Refusal := s.act dt (·.runMbx mtrCycleReadSpec m)

/-- MTR_CHANNEL_STATUS (R433). -/
def execMtrChannelStatus (dt m : Nat) (s : State) : Host.Outcome State Fault Refusal := s.act dt (·.runMbx mtrChannelStatusSpec m)

/-- MTR_CAPTURE (R434). -/
def execMtrCapture (dt m : Nat) (s : State) : Host.Outcome State Fault Refusal := s.act dt (·.runMbx mtrCaptureSpec m)

/-- MTR_CAPTURE_DONE (R434). -/
def execMtrCaptureDone (dt op : Nat) (s : State) : Host.Outcome State Fault Refusal := s.act dt (·.mtrCaptureDone op)

end Sys2Proof.Machine
end

