-- ==== Sys2Proof/Machine/Reel.lean ====
section
/-!
DEFINITION. Machine/Reel.lean: tasks and their constraints, grants, completions, back-pressure and the governor's decision
(R436 to R445), and what follows the last tile of a canvas frame (R305, R308, R312, R313).
-/

namespace Sys2Proof.Machine

/-! ### Frames and windows -/

/-- The frame in flight of a number. -/
def State.frame (s : State) (n : Nat) : Option FrameRec := s.render.frames.find? (·.n == n)

/-- A frame in flight changed. -/
def State.setFrame (s : State) (r : FrameRec) : State :=
  { s with render := { s.render with frames := s.render.frames.map fun x => if x.n == r.n then r else x } }

/-- The end of the main window (R17). -/
def FrameRec.mainEnd (r : FrameRec) : Instant := r.grid.latch + ceilDiv (4 * r.grid.period) 5

/-- A window record changed. -/
def FrameRec.setWin (r : FrameRec) (k : Nat) (w : CanvasWin) : FrameRec := { r with canvases := r.canvases.put k w }

/-- The canvas period T_c of a canvas in the frame (R296). -/
def FrameRec.canvasPeriod (r : FrameRec) (c : Canvas) : Units := c.divider * r.grid.period

/-- The first instant at which an output of the frame may emit, L(n) + T (R25). It holds back an output whose latency exceeds the E with
which light(n) was fixed, because a later commit has raised it (R108; DEDUCED, assumption 78). -/
def FrameRec.firstEmission (r : FrameRec) : Instant := r.grid.latch + r.grid.period

/-- The emission instant of a latency in µs: light(n) − λ, and not before L(n) + T (R25, R336). -/
def FrameRec.emissionAt (r : FrameRec) (us : Nat) : Instant := max (r.grid.light - usUnits us) r.firstEmission

/-- The scan start S(n): light(n) − Lc, or A_0(n) + T/8 in slice mode, unknown before A_0 (R304, R126). -/
def FrameRec.scanStart (r : FrameRec) (k : Nat) (c : Canvas) : Option Instant :=
  if (r.view.sliceMode k).isSome then (r.win k).openAt.map (· + ceilDiv r.grid.period 8)
  else some (r.emissionAt c.latencyUs)

/-- The gap start G(n) (R304). -/
def FrameRec.gapStart (r : FrameRec) (k : Nat) (c : Canvas) : Option Instant :=
  (r.scanStart k c).map (· - c.gap (r.canvasPeriod c))

/-- C(n) of a canvas in whole-frame mode: T before its scan start, and so never before L(n) (R304). -/
def FrameRec.canvasOpen (r : FrameRec) (c : Canvas) : Instant := r.emissionAt c.latencyUs - r.grid.period

/-- The end of a canvas window (R18). -/
def FrameRec.canvasEnd (r : FrameRec) (k : Nat) : Instant :=
  ((r.win k).openAt.getD r.grid.light) + ceilDiv (4 * r.grid.period) 5

/-- The end of a slice window (R124). -/
def FrameRec.sliceEnd (r : FrameRec) (k j : Nat) : Instant :=
  ((r.win k).slices.find j).elim r.grid.light (fun w => w.openAt + ceilDiv r.grid.period 10)

/-- When the window of a task closes. -/
def State.windowEnd (s : State) (t : Task) : Instant :=
  match s.frame t.frame with
  | none => 0
  | some r => match t.kind with
    | .tile => if (r.view.sliceMode t.canvas).isSome then r.sliceEnd t.canvas t.slice else r.canvasEnd t.canvas
    | _ => r.mainEnd

/-- Every task of the main window, and the decision, has completed. -/
def FrameRec.mainDone (r : FrameRec) : Bool :=
  !r.forceRepeat && r.decided && r.done1.length == r.batches && r.done2.length == r.batches && r.packets.length == r.jobs.length

/-- Every tile of a canvas has completed. -/
def FrameRec.tilesDone (r : FrameRec) (k : Nat) (c : Canvas) : Bool := (r.win k).done.length == (r.tileTasks k c).length

/-! ### Ordering constraints (R440) -/

/-- The batches with a fixture patched to a universe. -/
def FrameRec.universeBatches (r : FrameRec) (u : Nat) : List Nat :=
  (r.view.patch.patch.filterMap fun e => if e.2.destKind == 1 && e.2.dest == u then r.batchOf e.1 else none).eraseDups

/-- The packet jobs of the same universes in the frame before are done, or that frame's main window is closed. -/
def State.packetBefore (s : State) (n : Nat) (job : Nat × List Nat) : Bool :=
  if n = 0 then true
  else (s.frame (n - 1)).elim true fun p =>
    p.mainClosed || (p.jobs.zipIdx.all fun e => e.1.1 != job.1 || !(e.1.2.any job.2.contains) || p.packets.contains e.2)

/-- A tile's window lets it be granted. -/
def FrameRec.tileOpen (r : FrameRec) (t : Task) : Bool :=
  let w := r.win t.canvas
  match r.view.canvas.canvases.find t.canvas with
  | none => false
  | some c =>
    (r.tileTasks t.canvas c).contains (t.index + 65536 * t.slice) && !w.done.contains (t.index + 65536 * t.slice) && !w.repeated
      && (if (r.view.sliceMode t.canvas).isSome then (w.slices.find t.slice).elim false (fun x => !x.closed)
          else w.openAt.isSome && !w.closed)

/-- Every constraint of a task is met, it has not been done, and it is neither ready nor held. -/
def State.taskMet (s : State) (t : Task) : Bool :=
  !s.render.ready.any (·.task == t) && !s.render.held.any (·.task == t) &&
  match s.frame t.frame with
  | none => false
  | some r =>
    !r.failedTasks.contains t && r.sealed &&
    match t.kind with
    | .phase1 => !r.mainClosed && t.index < r.batches && !r.done1.contains t.index
    | .phase2 => !r.mainClosed && r.decided && t.index < r.batches && !r.done2.contains t.index
    | .packet => !r.mainClosed && r.decided && !r.packets.contains t.index && (r.jobs[t.index]?).elim false fun job =>
        (job.2.all fun u => (r.universeBatches u).all r.done2.contains) && s.packetBefore r.n job
    | .tile => r.tileOpen t

/-! ### The ready queue (R441, R442) -/

/-- Entries of the ready queue. -/
def readyMax : Nat := 4096

/-- A task is in the form that names it: only tiles carry a canvas and a slice. -/
def Task.plain (t : Task) : Bool := t.kind == .tile || (t.canvas == 0 && t.slice == 0)

/-- The task generator adds a task, or stands still at a full queue, which refuses the entry (R487). -/
def State.taskReady (s : State) (t : Task) : State :=
  if !t.plain || !s.taskMet t then s
  else if readyMax ≤ s.render.ready.length then
    let s := s.queueOverflow 0x100
    if s.render.stalledAt.isSome then s
    else ({ s with render := { s.render with stalledAt := some s.now } } : State).traceWrite (s.traceOf 4 0 0 0xFF t.window t.frame)
  else
    let ready := s.render.ready ++ [⟨t, none⟩]
    let reel := { s.render.reel with peak := max s.render.reel.peak ready.length }
    ({ s with render := { s.render with ready := ready, reel := reel } } : State).traceTask 3 t 0xFF

/-- The generator resumes once the queue has room. -/
def State.unstall (s : State) : State :=
  match s.render.stalledAt with
  | none => s
  | some a =>
    if readyMax ≤ s.render.ready.length then s
    else
      let reel := { s.render.reel with stalls := s.render.reel.stalls + 12 * (s.now - a) / 5 }
      let s := { s with render := { s.render with stalledAt := none, reel := reel } }
      s.traceWrite (s.traceOf 5 0 0 0xFF 0 s.clock.frame)

/-- The order of kinds at a tie. -/
def TaskKind.rank : TaskKind → Nat
  | .packet => 0
  | .phase2 => 1
  | .phase1 => 2
  | .tile => 3

/-- The task with the earlier window end goes first; then by kind, task index, slice and canvas. -/
def State.goesBefore (s : State) (a b : Task) : Bool :=
  let x := s.windowEnd a
  let y := s.windowEnd b
  if x < y then true else if y < x then false
  else listLess [a.kind.rank, a.index, a.slice, a.canvas, a.frame] [b.kind.rank, b.index, b.slice, b.canvas, b.frame]

/-- The ready task that a cluster gets. A task of a faulted cluster goes to the next one that asks (R445), and so before every other
task. -/
def State.bestReady (s : State) (cluster : Nat) : Option Ready :=
  (s.render.ready.filter fun x => x.avoid != some cluster).foldl (fun best x =>
    match best with
    | none => some x
    | some b =>
      if x.avoid.isSome != b.avoid.isSome then (if x.avoid.isSome then some x else some b)
      else if s.goesBefore x.task b.task then some x else some b) none

/-- A counter of a list of four increased at the place of a kind. -/
def bumpKind (l : List Nat) (k : TaskKind) : List Nat := l.zipIdx.map fun e => if e.2 + 1 = k.code then e.1 + 1 else e.1

/-- A cluster asks and gets a task; whether it got one. A task that carries a cluster to avoid is a second run (R445). -/
def State.grantTo (s : State) (cluster : Nat) : State × Bool :=
  match s.bestReady cluster with
  | none => (s, false)
  | some x =>
    let again := x.avoid.isSome
    let reel := { s.render.reel with
      granted := bumpKind s.render.reel.granted x.task.kind, regrants := s.render.reel.regrants + b2n again }
    let s := s.syncUnit cluster none
    let held := s.render.held ++ [⟨cluster, x.task, again⟩]
    let s := { s with render := { s.render with ready := s.render.ready.erase x, held := held, reel := reel } }
    (((s.countEvent cluster (0x0F + x.task.kind.code) 1).traceTask (if again then 8 else 1) x.task cluster).unstall, true)

/-- The clusters that ask: ENABLED and without a task (R436). -/
def State.asking (s : State) : List Nat :=
  (List.range 64).filter fun c => s.enabled 9 c && !s.render.held.any (·.cluster == c)

/-- One CORE cycle of grants: at most eight, to asking clusters in ascending order (R441). -/
def State.grant (s : State) : State :=
  (s.asking.foldl (fun (a : State × Nat) c =>
    if 8 ≤ a.2 then a else let g := a.1.grantTo c; (g.1, a.2 + b2n g.2)) (s, 0)).1

/-! ### After the last tile: stage 12 and the flip commit -/

/-- The run-time state of a canvas. -/
def State.canvas (s : State) (k : Nat) : CanvasDyn := s.render.canvases.getD k {}

/-- The run-time state of a canvas changed. -/
def State.setCanvas (s : State) (k : Nat) (d : CanvasDyn) : State :=
  { s with render := { s.render with canvases := s.render.canvases.put k d } }

/-- One of the six events of R318: counted and raised. -/
def State.canvasEvent (s : State) (k i : Nat) : State :=
  let d := s.canvas k
  (s.setCanvas k { d with counts := d.counts.zipIdx.map fun e => if e.2 = i then e.1 + 1 else e.1 }).raise (0x70 + i)

/-- The flip commit of canvas `k` in frame `r` (R305, R306, R308). -/
def State.flipCommit (s : State) (r : FrameRec) (k : Nat) (c : Canvas) : State :=
  let late := (r.gapStart k c).elim false fun g => decide (g ≤ s.tb)
  let s := s.setFrame (r.setWin k { r.win k with committed := true, late := late })
  let s := s.setCanvas k { s.canvas k with pending := some r.n }
  if late then s.canvasEvent k 0 else s

/-- The frame as a slice of its canvas reads it: with the input frame of A_0 (R124). -/
def FrameRec.forTiles (r : FrameRec) (k : Nat) : FrameRec :=
  match r.view.sliceMode k, (r.win k).input with
  | some m, some f =>
    let inputs := { r.inputs with video := r.inputs.video.put m.input f }
    { r with inputs := inputs }
  | _, _ => r

/-- Stage 12 of a canvas frame (R312, R313), and its flip commit. In slice mode the flip commit was written at A_0, so that
BLOCK suppresses nothing (DEDUCED, assumption 98). -/
def State.finishCanvas (s : State) (r : FrameRec) (k : Nat) (c : Canvas) : State :=
  let w := r.win k
  let res := r.checkRects s.render.store k c w.bank
  let bad := res.2
  let r := r.setWin k { w with crcs := res.1, mismatch := (bad.map fun b => 2 ^ b.1).sum }
  let s := s.setFrame r
  let s := bad.foldl (fun (s : State) (b : Nat × Bool × Rect) =>
    let gs := r.rectFaults k b.2.2
    let s := s.canvasEvent k 5
    if gs.isEmpty then s else { s with render := { s.render with rawFaults := s.render.rawFaults ++ [.crc gs] } }) s
  let s := { s with render := { s.render with regionLog := s.render.regionLog ++ (r.forTiles k).regionLogs k (r.lineLimit k c) } }
  if w.committed then s
  else if bad.any (·.2.1) then s.setFrame (r.setWin k { r.win k with repeated := true })
  else s.flipCommit r k c

/-! ### Completions (R436, R443, R445) -/

/-- The wire-image slot of a frame (R23). -/
def RenderState.slot (x : RenderState) (n : Nat) : WireSlot := x.slots.getD (n % 8) {}

/-- The image of a frame's slot changed. -/
def State.setImage (s : State) (n : Nat) (m : WireImage) : State :=
  { s with render := { s.render with slots := s.render.slots.put (n % 8) ⟨n, m⟩ } }

/-- CORE cycles in a duration of timebase units. -/
def coreCycles (u : Units) : Nat := (floorDiv (12 * u) 655360).toNat

/-- The frame after a main-window task ended: the cycles are those of the last one. -/
def FrameRec.noteMain (r : FrameRec) (now : Instant) : FrameRec :=
  if r.mainDone then { r with mainCycles := coreCycles (now - r.grid.latch) } else r

/-- A tile task has what its stages 5 and 6 wait for (R299, R440). -/
def FrameRec.tileCanEnd (r : FrameRec) (t : Task) : Bool :=
  r.decided && match r.view.canvas.canvases.find t.canvas with
    | none => true
    | some c => (r.tileFixtures t.canvas c t.index).all fun f =>
        match r.batchOf f with
        | some b => r.done2.contains b || r.mainClosed
        | none => true

/-- The result of a tile. -/
def State.endTile (s : State) (r : FrameRec) (t : Task) : State :=
  match r.view.canvas.canvases.find t.canvas with
  | none => s
  | some c =>
    let w := r.win t.canvas
    let store := (r.forTiles t.canvas).runTile s.render.store t.canvas c w.bank (r.taskRect t.canvas c t.index t.slice)
      (r.lineLimit t.canvas c)
    let r := r.setWin t.canvas { w with done := w.done ++ [t.index + 65536 * t.slice] }
    let s := ({ s with render := { s.render with store := store } } : State).setFrame r
    if r.tilesDone t.canvas c then s.finishCanvas r t.canvas c else s

/-- The result of a task whose window is open. -/
def State.endTask (s : State) (r : FrameRec) (t : Task) : State :=
  match t.kind with
  | .phase1 => s.setFrame ((r.runPhase1 t.index).noteMain s.tb)
  | .phase2 =>
    let m := r.runPhase2 (s.render.slot r.n).image t.index
    (s.setImage r.n m).setFrame ({ r with done2 := r.done2 ++ [t.index] } |>.noteMain s.tb)
  | .packet => s.setFrame ({ r with packets := r.packets ++ [t.index] } |>.noteMain s.tb)
  | .tile => s.endTile r t

/-- The window of a task is still open for its result. -/
def FrameRec.takes (r : FrameRec) (t : Task) : Bool := if t.kind = .tile then r.tileOpen t else !r.mainClosed

/-- A cluster gives up its task. -/
def State.drop (s : State) (h : Held) : State :=
  let s := s.syncUnit h.cluster none
  { s with render := { s.render with held := s.render.held.erase h } }

/-- A task that consumed poison (R445): once more on another cluster, or never. It needs no free queue entry. -/
def State.faultTask (s : State) (h : Held) : State :=
  let s := ((s.drop h).raise srcClusterFault).countEvent h.cluster 0x34 1
  if (s.frame h.task.frame).elim true fun r => !r.takes h.task then s
  else if h.again then
    match s.frame h.task.frame with
    | some r => s.setFrame { r with failedTasks := r.failedTasks ++ [h.task] }
    | none => s
  else
    let ready := s.render.ready ++ [⟨h.task, some h.cluster⟩]
    { s with render := { s.render with ready := ready, reel := { s.render.reel with peak := max s.render.reel.peak ready.length } } }

/-- A cluster's task ends: with its result, without one after its window closed, or on poison. -/
def State.taskComplete (s : State) (cluster : Nat) (poison : Bool) : State :=
  match s.render.held.find? (·.cluster == cluster) with
  | none => s
  | some h =>
    if poison then s.faultTask h
    else match s.frame h.task.frame with
      | none => (s.drop h).traceTask 2 h.task cluster
      | some r =>
        if !r.takes h.task then (s.drop h).traceTask 2 h.task cluster
        else if h.task.kind == .tile && !r.tileCanEnd h.task then s
        else ((s.drop h).traceTask 2 h.task cluster).endTask r h.task

/-! ### The decision (R283, R333, R438) -/

/-- The tiles of frame n − 8 that compute region power are done, or their windows closed. -/
def State.regionsReady (s : State) (n : Nat) : Bool :=
  if n < 8 then true
  else (s.frame (n - 8)).elim true fun p => p.view.canvas.canvases.all fun e =>
    !p.hasCanvas e.1 || !(p.view.colour.regions.any fun q => regCanvas q.2 == e.1)
      || (p.win e.1).closed || (p.win e.1).repeated || p.tilesDone e.1 e.2

/-- The frame whose decision is due. -/
def State.toDecide (s : State) : Option FrameRec :=
  s.render.frames.find? fun r => !r.decided && !r.mainClosed && r.sealed && r.done1.length == r.batches && s.regionsReady r.n

/-- The decision of a frame: what it raises. -/
def State.decideFrame (s : State) (r : FrameRec) : State × FrameRec :=
  let d := r.decide
  let s := (s.raiseAll d.2.1).raiseAll (List.replicate d.2.2.1.length 0x79 ++ List.replicate d.2.2.2.length 0x7A)
  (s, d.1)

/-- GOVERNOR_DECISION. Its cycles are one for each feeder member and at most 2,000 more; how many more is free. -/
def State.governorDecision (s : State) : State :=
  match s.toDecide with
  | none => s
  | some r =>
    let members := (r.view.colour.feeders.map fun e => (r.members e.1).length).sum
    let f := s.fresh
    let d := f.2.decideFrame r
    let reel := { d.1.render.reel with decisionCycles := d.1.render.reel.decisionCycles + members + f.1 % 2001 }
    let s := ({ d.1 with render := { d.1.render with reel := reel } } : State).setFrame (d.2.noteMain d.1.tb)
    s.traceWrite (s.traceOf 2 5 0 0xFF 0 r.n)

/-! ### Meanings -/

/-- TASK_READY (R440, R442). -/
def execTaskReady (dt : Nat) (t : Task) (s : State) : Host.Outcome State Fault Refusal := s.act dt (·.taskReady t)
/-- TASK_GRANT (R441). -/
def execTaskGrant (dt : Nat) (s : State) : Host.Outcome State Fault Refusal := s.act dt (·.grant)
/-- TASK_COMPLETE (R436, R443, R445). -/
def execTaskComplete (dt cluster : Nat) (poison : Bool) (s : State) : Host.Outcome State Fault Refusal :=
  s.act dt (·.taskComplete cluster poison)
/-- GOVERNOR_DECISION (R283, R333, R438). -/
def execGovernorDecision (dt : Nat) (s : State) : Host.Outcome State Fault Refusal := s.act dt (·.governorDecision)

end Sys2Proof.Machine
end

