-- ==== Sys2Proof/Machine/Digest.lean ====
section
/-!
DEFINITION. Machine/Digest.lean: the frame digest records of a Tango pair and their comparison (R511, R517, R518).
-/

namespace Sys2Proof

/-- The CRC-32C of a sealed input record: the record has no byte layout in the spec (R510, R517). -/
opaque Config.sealCrc : Machine.SealRecord → BitVec 32

namespace Machine

/-- A list of numbers as bytes. -/
def numBytes (l : List Nat) : Bytes := l.flatMap (bytesLE 4)

/-- The device belongs to a pair whose digests are compared: it is the active or the standby. -/
def State.compares (s : State) : Bool := s.group.paired && (s.group.role == .active || s.group.role == .standby)

/-- Every window of the frame has closed. -/
def FrameRec.windowsClosed (r : FrameRec) : Bool :=
  r.mainClosed && r.view.canvas.canvases.all fun e => !r.hasCanvas e.1 || (r.win e.1).closed

/-- Part 0: the wire image. -/
def imageCrc (m : WireImage) : Nat := (crc32c (m.flatMap fun e => numBytes (e.1 :: e.2))).toNat

/-- Parts 1 to 8: the bank written for a canvas; 0 where the frame rendered none. -/
def FrameRec.bankCrc (r : FrameRec) (store : Map Nat) (k : Nat) : Nat :=
  match r.view.canvas.canvases.find k with
  | some c => if r.hasCanvas k then (crc32c (rectBytes store c (r.win k).bank ⟨0, 0, c.width, c.height⟩)).toNat else 0
  | none => 0

/-- Part 9: the rectangle CRCs; part 10: the safety-group states and the governor scale factors. -/
def FrameRec.rectsCrc (r : FrameRec) : Nat :=
  (crc32c (r.canvases.flatMap fun e => e.2.crcs.flatMap fun x => numBytes [e.1, x.1, x.2])).toNat
def FrameRec.stateCrc (r : FrameRec) : Nat :=
  (crc32c ((r.safety.flatMap fun e => numBytes [e.1, b2n e.2.failed])
    ++ r.gov.flatMap fun e => numBytes (e.1 :: e.2.scales.map (·.toNat)))).toNat

/-- The parts that read a video input whose copy differs (R511). -/
def FrameRec.notCompared (r : FrameRec) : Nat :=
  let hit (i : Nat) : Bool := r.videoDiffer.contains i
  let main := r.view.inputs.samples.any fun e => hit e.2.input
  let canvas (k : Nat) : Bool := r.view.inputs.maps.any fun e => e.2.canvas == k && hit e.2.input
  let any := (List.range 8).any canvas
  b2n main + ((List.range 8).map fun k => if canvas k then 2 ^ (k + 1) else 0).sum + 512 * b2n any + 1024 * b2n (main || any)

/-- The frame digest record. How its parts order what they cover is the model's (assumption 45). -/
def FrameRec.digest (r : FrameRec) (x : RenderState) : Bytes :=
  let canvasRep := r.canvases.any fun e => e.2.repeated
  let sliceRep := r.canvases.any fun e => e.2.slices.any fun w => w.2.repeated
  bytesLE 8 r.n ++ bytesLE 8 r.epoch ++ bytesLE 4 r.sealCrc ++ bytesLE 2 (b2n (r.mainRepeat || canvasRep) + 2 * b2n sliceRep)
    ++ bytesLE 2 r.notCompared ++ bytesLE 4 (imageCrc (x.slot r.n).image)
    ++ ((List.range 8).flatMap fun k => bytesLE 4 (r.bankCrc x.store k)) ++ bytesLE 4 r.rectsCrc ++ bytesLE 4 r.stateCrc

/-- The fields of a digest record. -/
def dgFrame (d : Bytes) : Nat := fld d 0 8
def dgFlags (d : Bytes) : Nat := fld d 0x14 2
def dgSkip (d : Bytes) : Nat := fld d 0x16 2
def dgPart (d : Bytes) (p : Nat) : Nat := fld d (0x18 + 4 * p) 4

/-- Two records differ in more than the parts that either marks as not compared (R517). -/
def digestsDiffer (a b : Bytes) : Bool :=
  fld a 8 8 != fld b 8 8 || fld a 0x10 4 != fld b 0x10 4
    || (List.range 11).any fun p => !bit (dgSkip a ||| dgSkip b) p && dgPart a p != dgPart b p

/-- A digest comparison changed. -/
def State.setRun (s : State) (n : Nat) (d : DigestRun) : State := { s with group := { s.group with runs := s.group.runs.put n d } }

/-- A digest comparison that is over. -/
def State.endRun (s : State) (n : Nat) : State := { s with group := { s.group with runs := s.group.runs.del n } }

/-- Both records are here: they are compared, or counted as uncompared. -/
def State.compareDigests (s : State) (n : Nat) : State :=
  let d := s.group.runs.getD n {}
  match d.own, d.peer with
  | some a, some b =>
    if d.mismatch then s
    else if dgFlags a != 0 || dgFlags b != 0 then
      ({ s with group := { s.group with uncompared := s.group.uncompared + 1 } } : State).endRun n
    else
      let s := { s with group := { s.group with compared := s.group.compared + 1 } }
      if digestsDiffer a b then
        ((({ s with group := { s.group with mismatches := s.group.mismatches + 1 } } : State).setRun n { d with mismatch := true }).raise 0xB8)
      else s.endRun n
  | _, _ => s

/-- The digest record of frame `n` is formed and sent once every window of the frame has closed. -/
def State.digestIfClosed (s : State) (n : Nat) : State :=
  match s.frame n with
  | none => s
  | some r =>
    if !s.compares || r.digestSent || !r.windowsClosed then s
    else
      let d := r.digest s.render
      let s := s.setFrame { r with digestSent := true }
      let s := s.gsend s.group.partner 2 (.digest d)
      (s.setRun n { s.group.runs.getD n {} with own := some d }).compareDigests n

end Machine

end Sys2Proof
end

