-- ==== Sys2Proof/Machine/Windows.lean ====
section
/-!
DEFINITION. Machine/Windows.lean: the windows of a frame: the close of the main window and repeats (R17, R38, R443, R444),
canvas windows (R18, R304, R308) and slice windows (R124 to R130, R257).
-/

namespace Sys2Proof.Machine

/-! ### The main window -/

/-- Ready tasks that fail a test are dropped. -/
def State.keepReady (s : State) (p : Task → Bool) : State :=
  ({ s with render := { s.render with ready := s.render.ready.filter fun x => p x.task } } : State).unstall

/-- What reads report of a closed main window (R269, R291, R345, R460); a repeat keeps the fixtures of the frame before. -/
def State.report (s : State) (r : FrameRec) (cycles budget : Nat) : ClosedMain :=
  { frame := r.n, view := r.view, fixtures := if r.mainRepeat then s.render.closed.fixtures else r.fixtures, gov := r.gov,
    safety := r.safety, factors := r.factors, temps := r.temps, tempHeld := r.tempHeld, budget := budget, cycles := cycles }

/-- The state that the next frame takes over from a closed one. -/
def State.adopt (s : State) (r : FrameRec) (cycles : Nat) : State :=
  let budget := coreCycles (ceilDiv (4 * r.grid.period) 5)
  let closed := s.report r cycles budget
  ({ s with render := { s.render with
      gov := r.gov, safety := r.safety, factors := r.factors, hist := r.histAfter, closed := closed
      mainMax := max s.render.mainMax cycles } } : State).setFrame { r with mainClosed := true }

/-- A main window that overran: the wire image of the frame before under this frame's safety groups, and the governor state
of the frame before (R443, R444). -/
def State.repeatMain (s : State) (r : FrameRec) : State :=
  let safe := r.decideSafety
  let raised := List.replicate safe.2.1.length 0x79 ++ List.replicate safe.2.2.length 0x7A
  let s := if r.decided then s else s.raiseAll raised
  let r := { r with gov := r.gov0, safety := if r.decided then r.safety else safe.1, decided := true, mainRepeat := true }
  let s := s.setImage r.n (r.failImage (s.render.slot (r.n + 7)).image)
  let reel := { s.render.reel with mainOver := s.render.reel.mainOver + 1, frameRepeats := s.render.reel.frameRepeats + 1 }
  let s := (({ s with render := { s.render with reel := reel } } : State).raise srcFrameRepeat).traceWindow 7 0 r.n
  s.adopt r (coreCycles (ceilDiv (4 * r.grid.period) 5))

/-- The main window of a frame closes. -/
def State.closeMain (s : State) (r : FrameRec) : State :=
  let s := if r.mainDone then (s.setImage r.n (r.failPwm (s.render.slot r.n).image)).adopt r r.mainCycles else s.repeatMain r
  let s := s.keepReady fun t => t.kind == .tile || t.frame != r.n
  (s.traceWindow 6 0 r.n).digestIfClosed r.n

/-- MAIN_WINDOW_CLOSE: the earliest frame whose window has come to its end. -/
def State.mainWindowClose (s : State) : State :=
  match s.render.frames.find? fun r => !r.mainClosed && decide (r.mainEnd ≤ s.tb) with
  | some r => s.closeMain r
  | none => s

/-! ### Canvas windows -/

/-- The frame whose whole-frame window of canvas `k` opens next. -/
def State.toOpen (s : State) (k : Nat) : Option (FrameRec × Canvas) :=
  s.render.frames.findSome? fun r =>
    (r.view.canvas.canvases.find k).bind fun c =>
      if r.hasCanvas k && (r.view.sliceMode k).isNone && (r.win k).openAt.isNone && r.canvasOpen c ≤ s.tb then some (r, c) else none

/-- CANVAS_WINDOW_OPEN: a pending flip leaves the window without tasks, and the frame repeats (R308). -/
def State.canvasWindowOpen (s : State) (k : Nat) : State :=
  match s.toOpen k with
  | none => s
  | some (r, c) =>
    let d := s.canvas k
    s.setFrame (r.setWin k { r.win k with openAt := some (r.canvasOpen c), bank := 1 - d.front, repeated := d.pending.isSome })

/-- The fail state of a repeated frame written to the front bank, between G and S (R444). -/
def State.failFront (s : State) (r : FrameRec) (k : Nat) (c : Canvas) : State :=
  { s with render := { s.render with store := r.failCanvas s.render.store k c (s.canvas k).front } }

/-- What CANVAS_STATUS reports of a closed canvas frame: one that repeats keeps the CRCs of the frame it repeats (R312). -/
def State.noteCrcs (s : State) (r : FrameRec) (k : Nat) (checked : Bool) : State :=
  let w := r.win k
  let d := s.canvas k
  s.setCanvas k { d with crcFrame := r.n, crcs := if w.repeated then d.crcs else w.crcs, mismatch := if checked then w.mismatch else d.mismatch }

/-- CANVAS_REPEAT, and how many windows overran. -/
def State.canvasRepeat (s : State) (k n exceeded : Nat) : State :=
  let reel := { s.render.reel with canvasOver := s.render.reel.canvasOver + exceeded, canvasRepeats := s.render.reel.canvasRepeats + 1 }
  let s := ({ s with render := { s.render with reel := reel } } : State).raise srcCanvasRepeat
  if exceeded = 0 then s else s.traceWindow 7 (k + 1) n

/-- CANVAS_WINDOW_CLOSE. -/
def State.canvasWindowClose (s : State) (k : Nat) : State :=
  let hit := s.render.frames.find? fun r =>
    r.hasCanvas k && (r.view.sliceMode k).isNone && (r.win k).openAt.isSome && !(r.win k).closed && decide (r.canvasEnd k ≤ s.tb)
  match hit, hit.bind fun r => r.view.canvas.canvases.find k with
  | some r, some c =>
    let w := r.win k
    let all := r.tilesDone k c
    let exceeded := !all && !w.repeated
    let r := r.setWin k { w with closed := true, repeated := w.repeated || exceeded }
    let s := (s.setFrame r).noteCrcs r k all
    let s := if (r.win k).repeated then s.canvasRepeat k r.n (b2n exceeded) else s
    let s := if (r.win k).repeated && (r.win k).gapDone then s.failFront r k c else s
    let s := s.keepReady fun t => t.kind != .tile || t.frame != r.n || t.canvas != k
    (s.traceWindow 6 (k + 1) r.n).digestIfClosed r.n
  | _, _ => s

/-! ### Slice windows -/

/-- The end of the span in which A_0(n) may fall (R257). -/
def FrameRec.spanEnd (r : FrameRec) : Instant := r.grid.latch + ceilDiv (9 * r.grid.period) 5

/-- The input lines that slice `j` of canvas `k` reads. -/
def FrameRec.sliceReads (r : FrameRec) (k : Nat) (c : Canvas) (m : SliceMode) (j : Nat) : List Nat :=
  let rows := (List.range (sliceRow c.height (j + 1))).drop (sliceRow c.height j)
  ((r.view.inputs.maps.filter fun e => e.2.canvas == k && e.2.input == m.input).flatMap fun e =>
    (rows.filter fun y => e.2.dstY ≤ y && y < e.2.dstY + e.2.dstH).flatMap fun y =>
      (filterTaps e.2.srcY e.2.srcH e.2.dstH (y - e.2.dstY) (m.lines.getD j 0)).map (·.1)).eraseDups

/-- A slice repeats its rows of frame n − 1 (R130): they come from the other bank, under this frame's fail states. -/
def State.repeatSlice (s : State) (r : FrameRec) (k : Nat) (c : Canvas) (j : Nat) : State × FrameRec :=
  let w := r.win k
  let y0 := sliceRow c.height j
  let q : Rect := ⟨0, y0, c.width, sliceRow c.height (j + 1) - y0⟩
  let store := q.pixels.foldl (fun m p =>
    let vs := storePixel s.render.store (1 - w.bank) (c.index p.1 p.2)
    (List.range 4).foldl (fun m ch => storePut m w.bank (c.index p.1 p.2) ch (vs.getD ch 0)) m) s.render.store
  let store := r.failCanvas store k c w.bank
  let old := w.slices.getD j ⟨s.tb, false, false⟩
  let done := w.done ++ ((c.sliceTiles j).map (· + 65536 * j)).filter fun t => !w.done.contains t
  let w := { w with slices := w.slices.put j { old with closed := true, repeated := true }, done := done }
  let r := r.setWin k w
  let s := { s with render := { s.render with store := store } }
  ((s.setFrame r).raise 0x3B, r)

/-- The lane enters TRAINING in TIME cycle `now` (R354). -/
def LaneDyn.train (d : LaneDyn) (now : Nat) : LaneDyn :=
  { d with link := .training, since := now, failRaised := false, retrain := false, counts := bump 3 d.counts }

/-- A retraining that waits for the end of the lane frame being sent, at an instant of TIME cycle `now` (R354). -/
def LaneDyn.settle (d : LaneDyn) (tb : Instant) (now : Nat) : LaneDyn :=
  let late := d.sendEnd.elim 0 fun x => tb - x
  if d.retrain && 0 ≤ late then d.train (now - (late / 131072).toNat) else d

/-- A lane. -/
def State.lane (s : State) (l : Nat) : LaneDyn := (s.ports.lanes.getD l {} : LaneDyn).settle s.tb s.now

/-- A lane changed. -/
def State.setLane (s : State) (l : Nat) (d : LaneDyn) : State := { s with ports := { s.ports with lanes := s.ports.lanes.put l d } }

/-- The pixel bytes of a lane in the sending order of R302 and R349. -/
def lanePixels (store : Map Nat) (c : Canvas) (bank : Nat) (g : LaneSegs) (rgb : Bool) : Bytes :=
  (List.range g.pixels).flatMap fun i =>
    match laneXY c.scan g.rects i with
    | some p => ((storePixel store bank (c.index p.1 p.2)).take (if rgb then 3 else 4)).flatMap (bytesLE 2)
    | none => []

/-- Bytes of a pixel on a lane. -/
def laneBytes (rgb : Bool) : Nat := if rgb then 6 else 8

/-- The payload of a lane frame, read from the bank that it scans. -/
def RollingScan.payload (x : RollingScan) (store : Map Nat) : Bytes :=
  blocks (laneBytes x.rgb) x.bad (x.segs.pixels / 512 + 1) 0 (lanePixels store x.canvas x.bank x.segs x.rgb)

/-- A lane frame that waits for its payload is told. -/
def State.flushLane (s : State) (l : Nat) : State :=
  match (s.lane l).rolling with
  | none => s
  | some x => (s.setLane l { s.lane l with rolling := none }).emit (.lane l x.at_ x.header (x.payload s.render.store))

/-- The lanes that still scan the slices of a canvas frame have their payload. -/
def State.flushRolling (s : State) (k n : Nat) : State :=
  (s.ports.lanes.map (·.1)).foldl (fun s l =>
    if (s.lane l).rolling.elim false fun x => x.header.canvas == k && x.header.frame == n then s.flushLane l else s) s

/-- The canvas frame is over once its eight slices are closed. -/
def State.slicesOver (s : State) (n k : Nat) (c : Canvas) : State :=
  match s.frame n with
  | none => s
  | some r =>
    let w := r.win k
    if w.closed || !(List.range 8).all (fun j => (w.slices.find j).elim false (·.closed)) then s
    else
      let s := if r.tilesDone k c && w.crcs.isEmpty then s.finishCanvas r k c else s
      match s.frame n with
      | none => s
      | some r =>
        let r := r.setWin k { r.win k with closed := true }
        ((((s.setFrame r).noteCrcs r k true).traceWindow 6 (k + 1) n).digestIfClosed n).flushRolling k n

/-- A slice window closes: finished, or with a repeat. -/
def State.closeSlice (s : State) (r : FrameRec) (k : Nat) (c : Canvas) (j : Nat) : State :=
  let w := r.win k
  let fin := ((c.sliceTiles j).map (· + 65536 * j)).all w.done.contains
  let s :=
    if fin then
      let old := w.slices.getD j ⟨s.tb, false, false⟩
      s.setFrame (r.setWin k { w with slices := w.slices.put j { old with closed := true } })
    else (s.repeatSlice r k c j).1
  let s := s.keepReady fun t => t.kind != .tile || t.frame != r.n || t.canvas != k || t.slice != j
  s.slicesOver r.n k c

/-- A slice-mode canvas whose input was lost at L(n) and contributes nothing: no line is waited for, and its slices render without
the input at the end of the span (R258; DESIGN CHOICE, assumption 54). -/
def State.openDark (s : State) (r : FrameRec) (k : Nat) (c : Canvas) : State :=
  let all : Map SliceWin := (List.range 8).map fun j => (j, ⟨s.tb, false, false⟩)
  let r := r.setWin k { r.win k with openAt := some s.tb, bank := 1 - (s.canvas k).front, input := none, slices := all }
  (s.setFrame r).flipCommit r k c

/-- No input frame fell in the span: every slice repeats; the lanes send no frame of it (DESIGN CHOICE, assumption 54). VIDEO_REPEAT
is raised, unless the input is lost and holds (R257, R258). -/
def State.repeatSlices (s : State) (r : FrameRec) (k : Nat) (m : SliceMode) : State :=
  let all : Map SliceWin := (List.range 8).map fun j => (j, ⟨r.spanEnd, true, true⟩)
  let r := r.setWin k { r.win k with slices := all, repeated := true, closed := true, gapDone := true, scanDone := true }
  let v := s.video m.input
  let s := (s.setFrame r).raiseAll (List.replicate 8 0x3B)
  let s := if r.inputs.lost.contains m.input then s
    else s.setVideo m.input ({ v with counts := { v.counts with repeats := v.counts.repeats + 1 } }, [srcVideoRepeat])
  let s := s.setCanvas k { s.canvas k with scanFrame := some r.n }
  (((s.noteCrcs r k false).canvasRepeat k r.n 0).traceWindow 6 (k + 1) r.n).digestIfClosed r.n

/-- The span of A_0(n) ends without a line of an input frame. -/
def State.noSlices (s : State) (r : FrameRec) (k : Nat) (c : Canvas) (m : SliceMode) : State :=
  let hold := (r.view.inputs.videoIn.find m.input).elim false vidHold
  if r.inputs.lost.contains m.input && !hold then s.openDark r k c else s.repeatSlices r k m

/-- A line that a slice reads is lost: VIDEO_INCOMPLETE, counted at the input (R257, R262). -/
def State.sliceLost (s : State) (i : Nat) : State :=
  let v := s.video i
  s.setVideo i ({ v with counts := { v.counts with incomplete := v.counts.incomplete + 1 } }, [srcVideoIncomplete])

/-- SLICE_WINDOW_CLOSE. A slice whose line never comes closes one period after A_0 (DESIGN CHOICE, assumption 54). -/
def State.sliceWindowClose (s : State) (k j : Nat) : State :=
  let hit := s.render.frames.find? fun r => r.hasCanvas k && (r.view.sliceMode k).isSome && !(r.win k).closed
    && !((r.win k).slices.find j).elim false (·.closed)
  match hit with
  | none => s
  | some r =>
    match r.view.canvas.canvases.find k, r.view.sliceMode k, (r.win k).openAt with
    | some c, some m, none => if r.spanEnd ≤ s.tb then s.noSlices r k c m else s
    | some c, some _, some a0 =>
      let due := match (r.win k).slices.find j with
        | some w => w.openAt + ceilDiv r.grid.period 10
        | none => a0 + r.grid.period
      if 8 ≤ j || s.tb < due then s else s.closeSlice r k c j
    | _, _, _ => s

/-- Slice `j` opens at A_j, or repeats where a line that it reads is lost (R257). -/
def State.openSlice (s : State) (n k : Nat) (c : Canvas) (m : SliceMode) (cfg : Bytes) (f : VideoFrame) (ended : Bool) (j : Nat) :
    State :=
  match s.frame n with
  | none => s
  | some r =>
    let w := r.win k
    let line := m.lines.getD j 0
    if w.slices.has j || w.closed then s
    else if f.lineWhole cfg line then
      if (r.sliceReads k c m j).all (f.lineWhole cfg) then s.setFrame (r.setWin k { w with slices := w.slices.put j ⟨s.tb, false, false⟩ })
      else (((s.repeatSlice r k c j).1).sliceLost m.input).slicesOver n k c
    else if ended || f.lineAt.any (fun e => line < e.1) then
      (((s.repeatSlice r k c j).1).sliceLost m.input).slicesOver n k c
    else s

/-- A_0(n): the input frame is assigned, and the flip commit written (R257, R305). -/
def State.openFirst (s : State) (r : FrameRec) (k : Nat) (c : Canvas) (f : VideoFrame) : State :=
  let r := r.setWin k { r.win k with openAt := some s.tb, bank := 1 - (s.canvas k).front, input := some f }
  (s.setFrame r).flipCommit r k c

/-- What a packet of input `i` with the frame `f` as it now stands does for a slice-mode canvas of a frame in flight. -/
def State.feedSlices (s : State) (i : Nat) (cfg : Bytes) (before f : VideoFrame) (ended : Bool) (n k : Nat) : State :=
  match s.frame n with
  | none => s
  | some r =>
    match r.view.canvas.canvases.find k, r.view.sliceMode k with
    | some c, some m =>
      if m.input != i || !r.hasCanvas k || (r.win k).closed then s
      else
        let line0 := m.lines.getD 0 0
        let first := (r.win k).openAt.isNone && f.lineWhole cfg line0 && !before.lineWhole cfg line0
          && decide (r.mainEnd ≤ s.tb) && decide (s.tb < r.spanEnd)
        let s := if first then s.openFirst r k c f else s
        match s.frame n with
        | none => s
        | some r =>
          if (r.win k).input.elim true (fun x => x.id != f.id) then s
          else
            let s := s.setFrame (r.setWin k { r.win k with input := some f })
            (List.range 8).foldl (fun s j => s.openSlice n k c m cfg f ended j) s
    | _, _ => s

/-- A change of the frame of input `i` reaches every slice-mode canvas of every frame in flight. -/
def State.feedAll (s : State) (i : Nat) (cfg : Bytes) (before f : VideoFrame) (ended : Bool) : State :=
  (s.render.frames.map (·.n)).foldl (fun s n => (List.range 8).foldl (fun s k => s.feedSlices i cfg before f ended n k) s) s

/-- A packet of a video input, and the slices that its lines open. One that overtakes a frame ends that frame. -/
def State.videoPacketRx (s : State) (i : Nat) (p : VideoPacket) : State :=
  match s.videoTakes i p with
  | none => s
  | some cfg =>
    let d := s.video i
    let s := s.videoPacket i p
    if !p.fits cfg then s
    else
      let s := if d.overtaken p then d.current.elim s fun f => s.feedAll i cfg f f true else s
      -- a packet of a dropped frame feeds no slice
      if d.dropping == some p.rtp || (s.video i).counts.skips != d.counts.skips then s
      else
        let g := d.grown cfg p s.tb
        s.feedAll i cfg g.1 g.2 p.marker

/-- The marker packet has not come within T + 1 ms: the frame is incomplete, and what still comes of it is dropped (R255). -/
def State.videoFrameTimeout (s : State) (i : Nat) : State :=
  match s.videoCfg i, (s.video i).current with
  | some cfg, some f =>
    if s.tb < f.firstAt + s.videoPeriod cfg + usUnits 1000 then s
    else
      let r := (s.video i).giveUp
      (s.setVideo i ({ r.1 with dropping := some f.rtp }, r.2)).feedAll i cfg f f true
  | _, _ => s

/-! ### Meanings -/

/-- CANVAS_WINDOW_OPEN (R18, R308). -/
def execCanvasWindowOpen (dt k : Nat) (s : State) : Host.Outcome State Fault Refusal := s.act dt (·.canvasWindowOpen k)
/-- CANVAS_WINDOW_CLOSE (R18, R305, R443). -/
def execCanvasWindowClose (dt k : Nat) (s : State) : Host.Outcome State Fault Refusal := s.act dt (·.canvasWindowClose k)
/-- SLICE_WINDOW_CLOSE (R124, R130). -/
def execSliceWindowClose (dt k j : Nat) (s : State) : Host.Outcome State Fault Refusal := s.act dt (·.sliceWindowClose k j)
/-- VIDEO_FRAME_TIMEOUT (R255). -/
def execVideoFrameTimeout (dt input : Nat) (s : State) : Host.Outcome State Fault Refusal := s.act dt (·.videoFrameTimeout input)
/-- VIDEO_PACKET_RX (R254, R255, R257). -/
def execVideoPacketRx (dt input : Nat) (packet : VideoPacket) (s : State) : Host.Outcome State Fault Refusal :=
  s.act dt (·.videoPacketRx input packet)

end Sys2Proof.Machine
end

