-- ==== Sys2Proof/Machine/Apply.lean ====
section
/-!
DEFINITION. Machine/Apply.lean: playback actions that take effect (R211 to R217), and what the application of a commit at a
latch point changes (R31, R82, R122, R218, R226, R266, R286, R294, R295, R309, R356, R368).
-/

namespace Sys2Proof.Machine

/-! ### Actions -/

/-- The running state of playbacks and effects changed. -/
def State.setDyn (s : State) (d : DynState) : State := { s with render := { s.render with dyn := d } }

/-- ACTION_VOID of actions without effect at given positions: at once where they have come, else when they come (R216). -/
def State.noteVoids (s : State) (ps : List Int) : State :=
  let ps : List Int := s.render.voids ++ ps
  let due : List Int := if s.clock.run then ps.filter fun (p : Int) => decide (p ≤ (s.pos : Int)) else ps
  let rest : List Int := if s.clock.run then ps.filter fun (p : Int) => decide ((s.pos : Int) < p) else []
  ({ s with render := { s.render with voids := rest } } : State).raiseAll
    (due.map fun _ => 0x3C)

/-- Every action up to position `x` takes effect under a show state, at the rate of the frame that contains it. -/
def State.takeActions (s : State) (v : ShowState) (rate : Nat) (x : Int) : State :=
  let r := s.render.dyn.upTo v.patch v.cues rate x
  (s.setDyn r.1).noteVoids r.2

/-- The first frame whose running state is not taken yet. -/
def State.openFrame (s : State) : Nat :=
  s.render.frames.foldl (fun m r => if r.sealed then m else min m r.n) s.clock.nextLatch

/-- The position just before the evaluation position of frame `n`. -/
def beforeFrame (n : Nat) : Int := (mkPos n 0 : Nat) - 1

/-- The actions inside the frame before `n` that have come take effect, under the show state and at the rate of that frame
(R206, R208). -/
def State.settleBefore (s : State) (n : Nat) (x : Int) : State := s.takeActions s.txn.view (s.clock.rateOf (n - 1)) (min x (beforeFrame n))

/-! ### What a new show state changes in the state around it -/

/-- The frames of the base values of a fixture (R236): those of addresses that are live and unchanged are kept. -/
def baseFrames (old new_ : PatchState) (n : Nat) (m : Map Nat) (f : Nat) : Map Nat :=
  (List.range (new_.paramsOf f).length).foldl (fun m i =>
    let a := f * 128 + i
    if old.live a && old.base24 a == new_.base24 a then m else m.put a n) m

/-- Base-value frames after a commit at `n`; those of fixtures that are gone are dropped. -/
def baseAfter (old new_ : PatchState) (n : Nat) (m : Map Nat) : Map Nat :=
  let kept : Map Nat := m.filter fun e => new_.patch.has (e.1 / 128)
  new_.patch.foldl (fun m e =>
    if old.patch.find e.1 == some e.2 && old.pool.find e.1 == new_.pool.find e.1 && old.profileOf e.1 == new_.profileOf e.1 then m
    else baseFrames old new_ n m e.1) kept

/-- Governor states after a commit (R286). -/
def govAfter (old new_ : ColourShow) (m : Map GovFeeder) : Map GovFeeder :=
  new_.feeders.map fun e => (e.1, govRedefine (old.feeders.find e.1) (some e.2) (m.getD e.1 {}))

/-- Entries of a table whose key another table has. -/
def keepKeys {α β : Type} (m : Map α) (keys : Map β) : Map α := m.filter fun e => keys.has e.1

/-- Temperature readings of sources whose record is unchanged (DESIGN CHOICE, assumption 55). -/
def tempsAfter (old new_ : OutputShow) (m : Map TempDyn) : Map TempDyn := m.filter fun e => old.temps.find e.1 == new_.temps.find e.1

/-- Region power is not held for regions that cease (R281). -/
def regionsAfter (old new_ : ColourShow) (n : Nat) (l : List RegionLog) : List RegionLog :=
  l ++ (old.regions.filter fun e => !new_.regions.has e.1).map fun e => ⟨n, e.1, none⟩

/-- A new canvas: both banks zero in its range, bank 0 in front, no flips (R295). Its event counts go on. -/
def RenderState.newCanvas (x : RenderState) (k : Nat) (c : Canvas) : RenderState :=
  let inRange (key : Nat) : Bool := let i := key % 33554432 / 4
    c.base ≤ i && i < c.limit
  let store : Map Nat := x.store.filter fun e => !inRange e.1
  let d := x.canvases.getD k {}
  { x with store := store, canvases := x.canvases.put k { counts := d.counts } }

/-- Canvases that a commit defines. -/
def RenderState.newCanvases (x : RenderState) (old new_ : CanvasShow) : RenderState :=
  (new_.canvases.filter fun e => !old.canvases.has e.1).foldl (fun x e => x.newCanvas e.1 e.2) x

/-- Inputs after a commit: what is no longer defined is forgotten, the loss of a new DMX input or video configuration counts from now
(assumption 92), and a new video configuration discards the stored input frames (R266). -/
def InputState.after (x : InputState) (old new_ : InputShow) (now : Nat) : InputState :=
  let kept := keepKeys x.dmx new_.dmxIn
  let dmx : Map RxDyn := (new_.dmxIn.filter fun e => !old.dmxIn.has e.1).foldl (fun m e => m.put e.1 ({ lastAt := now } : RxDyn)) kept
  let fresh (d : VideoDyn) : VideoDyn :=
    { d with current := none, complete := [], assigned := none, dropping := none, lastPacket := now, seen := false, lost := false }
  let changed := (new_.videoIn.filter fun e => old.videoIn.find e.1 != some e.2).map (·.1)
  let sync : Map SyncDyn := x.sync.filter fun e => new_.sacn.any fun d => d.2.sync == e.1
  { x with
    sacn := keepKeys x.sacn new_.sacn
    dmx := dmx
    sync := sync
    video := changed.foldl (fun m i => m.put i (fresh (x.video.getD i {}))) x.video }

/-- A PWM output under new settings (R368): depth, divider and offset change at the end of its period, or at once while it
does not run. -/
def PwmDyn.after (d : PwmDyn) (c : PwmCfg) : PwmDyn :=
  if d.running then { d with cfg := { d.cfg with flags := c.flags, senseDelay := c.senseDelay }, change := some c }
  else { d with cfg := c, change := none }

/-- PWM outputs after a commit. -/
def PortState.pwmAfter (x : PortState) (old new_ : PortShow) : PortState :=
  (List.range 32).foldl (fun x j =>
    let c := new_.pwm.getD j {}
    if old.pwm.getD j {} == c then x else { x with pwm := x.pwm.put j ((x.pwm.getD j {}).after c) }) x

/-! ### Lane settings (R309, R356) -/

/-- The settings of a lane: canvas, pixels, format, T_c and gap in ns, and ROLLING. -/
structure LaneSettings where
  canvas : Nat
  pixels : Nat
  format : Nat
  periodNs : Nat
  gapNs : Nat
  rolling : Bool
  deriving DecidableEq, Repr

/-- The settings of lane `l` in frames of period `t`; none where its canvas is not defined. -/
def ShowState.laneSettings (v : ShowState) (l : Nat) (t : Units) : Option LaneSettings :=
  (v.canvas.segments.find l).bind fun g => (v.canvas.canvases.find g.canvas).map fun c =>
    { canvas := g.canvas, pixels := g.pixels, format := b2n (v.ports.lanes.getD l {}).rgb
      periodNs := unitsToNs (c.divider * t), gapNs := unitsToNs (c.gap (c.divider * t)), rolling := (v.sliceMode g.canvas).isSome }

/-- The first frame from `n` on that a canvas renders. -/
def Canvas.firstFrom (c : Canvas) (n : Nat) : Nat := (n + c.divider - 1) / max 1 c.divider * max 1 c.divider

/-- The canvas of a lane. -/
def ShowState.laneCanvas (v : ShowState) (l : Nat) : Option Canvas := (v.canvas.segments.find l).bind fun g => v.canvas.canvases.find g.canvas

/-- Frames from which a commit applied at `n` changes the settings of lane `l`; `nc` is the change frame of a new rate. -/
def announceFrames (old new_ : ShowState) (l n : Nat) (t : Units) (nc : Option Nat) : List Nat :=
  match new_.laneCanvas l with
  | none => []
  | some c =>
    (if old.laneSettings l t != new_.laneSettings l t then [c.firstFrom n] else []) ++ (nc.map c.firstFrom).toList

/-- The announcements that begin with a commit. -/
def PortState.announce (x : PortState) (old new_ : ShowState) (n : Nat) (t : Units) (nc : Option Nat) : PortState :=
  new_.canvas.segments.foldl (fun x e =>
    match announceFrames old new_ e.1 n t nc with
    | [] => x
    | fs =>
      let d := x.lanes.getD e.1 {}
      { x with lanes := x.lanes.put e.1 { d with announces := d.announces ++ fs } }) x

/-! ### The application of a commit (R82) -/

/-- A timing change of a commit becomes pending, with its change frame (R119). -/
def ClockState.pend (c : ClockState) (tc : Option TimingChange) (nc : Option Nat) : ClockState :=
  match tc, nc with
  | some x, some n => { c with change := some (x.block, n) }
  | _, _ => c

/-- The change frame of a change that brings another rate. -/
def ClockState.rateChangeAt (c : ClockState) (tc : Option TimingChange) (nc : Option Nat) : Option Nat :=
  tc.bind fun x => if x.block.rateCode = c.block.rateCode then none else nc

/-- The show state changes from `old` to that of `raw`; `at_` is the change frame of a timing change among the writes. -/
def State.adoptView (s : State) (old raw : ShowState) (n : Nat) (t : Units) (at_ : Option Nat) : State :=
  let new_ := raw.settled
  let nc := s.clock.rateChangeAt raw.timing at_
  let x := s.render.newCanvases old.canvas new_.canvas
  { s with
    clock := s.clock.pend raw.timing at_
    inputs := s.inputs.after old.inputs new_.inputs s.now
    ports := (s.ports.pwmAfter old.ports new_.ports).announce old new_ n t nc
    render := { x with
      gov := govAfter old.colour new_.colour x.gov
      safety := keepKeys x.safety new_.output.safety
      temps := tempsAfter old.output new_.output x.temps
      freed := x.freed.filter (fun f => n < f.frame + 8) ++ freedRanges old.canvas.canvases new_.canvas.canvases n
      regionLog := regionsAfter old.colour new_.colour n x.regionLog
      baseSince := baseAfter old.patch new_.patch n x.baseSince } }

/-- Queued RDM transactions of a port end with ABORTED (R361, R370). -/
def State.abortRdm (s : State) (j : Nat) : State :=
  let d := s.dmxPort j
  (d.queue.map (·.op)).foldl (fun s op => s.endOpId op .aborted s.pos []) (s.setDmx j { d with queue := [] })

/-- Ports that become input-direction give up their queued RDM transactions (R361). -/
def State.turnInputs (s : State) (old new_ : PortShow) : State :=
  ((List.range 16).filter fun j => (new_.dmx.getD j {}).input && !(old.dmx.getD j {}).input).foldl (fun s j => s.abortRdm j) s

/-- Staged writes applied at L(n): a new epoch takes force. -/
def State.applyWritesAt (s : State) (n acc : Nat) (ltc : LtcView) (t : Units) (ws : List ShowWrite) (at_ : Option Nat) : State :=
  let old := s.txn.view
  let joined := s.groups
  let raw := applyWrites old ws
  let d := DynState.applyCommit old.cues raw.cues (s.clock.rateOf n) ltc n acc s.render.dyn
  let s := ((s.setDyn d).adoptView old raw n t at_).turnInputs old.ports raw.settled.ports
  let txn := { s.txn with
    epochs := s.txn.epochs ++ [⟨s.host.devEpoch, old, s.txn.viewPos⟩], view := raw.settled, viewPos := s.clock.latchPos n }
  let host := { s.host with devEpoch := s.host.devEpoch + 1 }
  ((({ s with txn := txn, host := host } : State).reportChanges joined).devEvent 2).pruneEpochs.limitSnaps 8

/-- The final completion of an applied commit (R82). -/
def State.commitDone (s : State) (slot op n : Nat) : State :=
  let st := if s.host.degraded then Status.degraded else .ok
  (s.dropTxn slot).endOpId op st (s.clock.latchPos n) (commitResp n (s.clock.latchPos n) s.host.devEpoch)

/-- A commit's place in the order of acceptance, which a group counts by its coordinator's order (R509). -/
def Commit.order (k : Commit) : Nat := if k.place = 0 then k.seq else 2 ^ 40 + k.place

/-- What is to be applied at L(n), in order: writes, the place in the order of acceptance, the slot and operation of a commit of this
device, and the change frame of its timing change. -/
structure Applied where
  writes : List ShowWrite
  order : Nat
  mine : Option (Nat × Nat) := none
  changeFrame : Option Nat := none

/-- The commits that frame `n` applies, in the order of acceptance: in a group as far as the coordinator decided to apply them
(R509). An isolated device, and one that resynchronises, applies none (R506, R507). -/
def State.toApply (s : State) (n : Nat) : List Applied :=
  let due := (s.txn.waiting.filter fun e => e.2.commit.elim false (·.target == n)).filterMap fun e =>
    e.2.commit.map fun k => (k.apply, ({ writes := e.2.writes, order := k.order, mine := some (e.1, k.op), changeFrame := k.changeFrame } : Applied))
  if !s.group.inGroup then due.map (·.2)
  else if s.group.phase == .isolated || (s.group.resync && !s.group.holds) then []
  else (due.filter (·.1 == some true)).map (·.2)

/-- A member that holds no decision on a commit at its latch point is isolated (R509). -/
def State.checkDecisions (s : State) (n : Nat) : State :=
  if s.group.inGroup && !s.group.isCoord && s.group.live && s.txn.waiting.any (fun e => e.2.commit.elim false fun k => k.target == n && k.apply.isNone) then
    ({ s with group := { s.group with phase := .isolated } } : State).dropAsked
  else s

/-- The safety clears that the commits carry, as (group, op). -/
def clearsOf (v : ShowState) : List Applied → List (Nat × Nat)
  | [] => []
  | a :: l => let raw := applyWrites v a.writes
    raw.output.clears ++ clearsOf raw.settled l

/-- Commits applied one after the other. -/
def State.applyAll (s : State) (n : Nat) (ltc : LtcView) (t : Units) : List Applied → State
  | [] => s
  | a :: l =>
    let s := s.applyWritesAt n a.order ltc t a.writes a.changeFrame
    let s := a.mine.elim s fun k => s.commitDone k.1 k.2 n
    s.applyAll n ltc t l

/-- The targets whose pending actions the commits remove. -/
def clearedKeys (v : ShowState) : List Applied → List Nat
  | [] => []
  | a :: l => let raw := applyWrites v a.writes
    raw.cues.cleared ++ clearedKeys raw.settled l

/-- The stored positions rescaled at a rate change (R217). -/
def State.rescaleAt (s : State) (n : Nat) : State :=
  let a := s.clock.rateOf (n - 1)
  let b := s.clock.rateOf n
  if n ≤ s.clock.firstRendered || a = b then s else s.setDyn (s.render.dyn.rateChange s.txn.view.cues a b n)

/-- The running state up to the evaluation position of frame `n`, before its commits are applied: actions that have come; then those
that the commits do not remove; then the change of rate (R211 to R218). -/
def State.dynBefore (s : State) (n : Nat) (as : List Applied) : State :=
  let s := s.settleBefore n s.pos
  let s := s.setDyn (s.render.dyn.clearPending (clearedKeys s.txn.view as))
  (s.settleBefore n (beforeFrame n)).rescaleAt n

/-! ### Meanings -/

/-- ACTION_TAKES_EFFECT (R211 to R216): the actions whose position has come, of a frame that is latched and sealed. Those at or after
the evaluation position of the next frame wait for its show state (R197, R213). -/
def State.actionsDue (s : State) : State := if s.clock.run then (s.settleBefore s.openFrame s.pos).noteVoids [] else s

/-- ACTION_TAKES_EFFECT (R211 to R216). -/
def execActionTakesEffect (dt : Nat) (s : State) : Host.Outcome State Fault Refusal := s.act dt (·.actionsDue)

end Sys2Proof.Machine
end

