-- ==== Sys2Proof/Machine/Seal.lean ====
section
/-!
DEFINITION. Machine/Seal.lean: what a frame latches: inputs, measurements, temperatures, derating factors, faults and LTC
(R107, R243, R281, R327 to R335, R417), a member's input delta (R510), and the root of an epoch (R522).
-/

namespace Sys2Proof

/-- The CRC-32C of a stored input frame: its bytes are not laid out in the spec (R510, assumption 45). -/
opaque Config.frameCrc : Machine.VideoFrame → BitVec 32

namespace Machine

/-! ### Inputs -/

/-- What the receive universes contribute, and the DMX inputs. -/
def State.latchSacn (s : State) (v : InputShow) : Map RxLatched :=
  v.sacn.filterMap fun e => (s.inputs.sacn.find e.1).bind fun d => (d.latched e.2.hold).map fun x => (e.1, x)
def State.latchDmx (s : State) (v : InputShow) : Map Bytes :=
  v.dmxIn.filterMap fun e => (s.inputs.dmx.find e.1).bind fun d => (d.dmxLatched e.2.hold).map fun x => (e.1, x)

/-- Something samples input `i` under whole-frame assignment: a sample, a map of a canvas that is not in slice mode, or no map
at all. -/
def ShowState.wholeUse (v : ShowState) (i : Nat) : Bool :=
  let onCanvas := v.inputs.maps.filter fun e => e.2.input == i
  v.inputs.samples.any (fun e => e.2.input == i) || onCanvas.isEmpty
    || onCanvas.any fun e => (v.sliceMode e.2.canvas).elim true fun m => m.input != i

/-- Whole-frame assignment of one video input (R256); where only slices read it, complete frames are just released. -/
def State.latchVideo (s : State) (i : Nat) (cfg : Bytes) : State :=
  if !s.enabled 7 i then s
  else
    let d := s.video i
    if s.txn.view.wholeUse i then s.setVideo i (d.assign (vidHold cfg))
    else s.setVideo i ({ d with complete := [], assigned := none }, [])

/-- Every video input. -/
def State.latchVideos (s : State) : State := s.txn.view.inputs.videoIn.foldl (fun s e => s.latchVideo e.1 e.2) s

/-- The video inputs that are lost (R258). -/
def State.lostVideos (s : State) : List Nat :=
  (s.txn.view.inputs.videoIn.filter fun e => s.enabled 7 e.1 && (s.video e.1).lost).map (·.1)

/-- The frames that the inputs hold for a latched frame. -/
def State.assigned (s : State) : Map VideoFrame :=
  s.txn.view.inputs.videoIn.filterMap fun e =>
    if s.enabled 7 e.1 then (s.video e.1).assigned.map fun f => (e.1, f) else none

/-- The measurement of each feeder (R417). -/
def State.latchMeas (s : State) : Map FeederMeas :=
  s.txn.view.colour.feeders.filterMap fun e =>
    let k := fdPoint e.2
    if !s.enabled 0x0C k then none
    else (s.meter.points.find k).map fun p => (e.1, p.latched.meas p.cfg.phases)

/-! ### Temperatures and factors (R327 to R329) -/

/-- A source is valid at L(n). -/
def TempDyn.valid (d : TempDyn) (cfg : Bytes) (l : Instant) : Bool :=
  !d.invalid && decide (l - d.stamp ≤ usUnits (tsMaxAge cfg * 1000000))

/-- The readings of a frame: the values of valid sources, all that are held, and how many sources were lost. -/
def State.latchTemps (s : State) (l : Instant) : State × Map F32 × Map F32 :=
  let ts := s.txn.view.output.temps.filterMap fun e => (s.render.temps.find e.1).map fun d => (e.1, d, d.valid e.2 l)
  let held : Map F32 := ts.map fun e => (e.1, e.2.1.value)
  let good : Map F32 := (ts.filter fun e => e.2.2).map fun e => (e.1, e.2.1.value)
  let lost := (ts.filter fun e => e.2.1.wasValid && !e.2.2).length
  let dyns : Map TempDyn := ts.map fun e => (e.1, { e.2.1 with wasValid := e.2.2 })
  (({ s with render := { s.render with temps := dyns } } : State).raiseAll (List.replicate lost 0x7C), good, held)

/-- The applied factor of one derating record. -/
def derateNext (rec : Bytes) (temps : Map F32) (period : Units) (f : F32) : F32 :=
  let target := match temps.find (drSource rec) with
    | some x => derateTarget rec x
    | none => if drLossFloor rec then drFloor rec else f
  derateStep f target period.toNat

/-- The applied factors of a frame. -/
def factorsOf (v : OutputShow) (before : Map F32) (temps : Map F32) (period : Units) : Map F32 :=
  v.derates.map fun e => (e.1, derateNext e.2 temps period (before.getD e.1 F32.f1))

/-- How many factors fall below 1.0 from 1.0: DERATE_ACTIVE. -/
def factorDrops (before after : Map F32) : Nat :=
  (after.filter fun e => F32.eqv (before.getD e.1 F32.f1) F32.f1 && F32.lt e.2 F32.f1).length

/-! ### Faults (R332) -/

/-- The kind of a fault, and whether a member record is what it names. -/
def RawFault.kind : RawFault → Nat
  | .lamp _ _ => 1
  | .tile _ _ => 2
  | .pwm _ => 3
  | .crc _ => 4
def RawFault.names (x : RawFault) (r : Bytes) : Bool :=
  match x with
  | .lamp port uid => smKind r == 0 && smPort r == port && smUid r == uid
  | .tile lane t => smKind r == 2 && smLane r == lane && smTile r == t
  | .pwm j => smKind r == 3 && smOutput r == j
  | .crc _ => false

/-- The faults that an event is: one of every group that holds the member and enables the kind. -/
def OutputShow.faultsOf (v : OutputShow) (x : RawFault) : List GroupFault :=
  match x with
  | .crc gs => (gs.filter fun g => v.safety.has g.1).map fun g => ⟨g.1, 4, g.2⟩
  | _ => v.safety.filterMap fun e =>
      if !bit e.2.flags x.kind then none
      else (v.members.find? fun r => smGroup r == e.1 && x.names r).map fun r => ⟨e.1, x.kind, r⟩

/-- The faults of a frame: those that a seal missed, the latched ones, and the forced ones. -/
def State.latchFaults (s : State) (forced : List Nat) : List GroupFault :=
  let v := s.txn.view.output
  s.render.lateFaults ++ s.render.rawFaults.flatMap v.faultsOf
    ++ (forced.filter v.safety.has).map fun g => ⟨g, 5, zeros 16⟩

/-! ### LTC (R117, R214, R221) -/

/-- The LTC value of frame `n`: the word latched for it, or the one it would begin within. -/
def State.latchLtc (s : State) (n : Nat) (l : Instant) : LtcView :=
  let b := s.clock.blockOf n
  let word := (s.clock.ltcHist.find n).getD (s.clock.wordAt l)
  let v := if b.refKind = 3 && word != 0xFFFFFFFF then some (ltcCount (ltcFps b.refRate) b.dropFrame word) else none
  let j := if v.isSome && v == s.clock.ltcPrev then s.clock.ltcAge + 1 else 0
  { v := v, m := b.mult, j := j }

/-- TIMECODE of an action as a count of frames, for the reference of frame `n`. -/
def ClockState.countOf (c : ClockState) (n : Nat) (w : Nat) : Nat :=
  let b := c.blockOf n
  ltcCount (ltcFps b.refRate) b.dropFrame w

/-- The LTC value of a frame takes its effect: armed actions fire, and the frame's running state is taken. -/
def State.fireLtc (s : State) (r : FrameRec) (ltc : LtcView) : State × FrameRec :=
  let d := s.render.dyn.fireTimecode (s.clock.countOf r.n) s.clock.ltcPrev ltc.v r.n
  let s := ((s.setDyn d).setClock { s.clock with ltcPrev := ltc.v, ltcAge := ltc.j }).takeActions r.view r.rate (mkPos r.n 0)
  (s, { r with ltc := ltc, dyn := s.render.dyn })

/-! ### Deltas (R510) -/

/-- Entries of a table under the numbers of a rank, and those of a rank without them; `k` is above every key. -/
def rankKeys {α : Type} (k rank : Nat) (m : Map α) : Map α := m.map fun e => (rank * k + e.1, e.2)
def ofRankKeys {α : Type} (k rank : Nat) (m : Map α) : Map α := (m.range (rank * k) (rank * k + k)).map fun e => (e.1 - rank * k, e.2)

/-- The newest FRAME of a lane that a tile has acknowledged, and the tiles that have (R310). -/
def LaneDyn.lastAcks (d : LaneDyn) : Option (Nat × List Nat) :=
  ((d.sent.filter fun x => !x.acks.isEmpty).getLast?).map fun x => (x.frame, x.acks)

/-- What a device contributes to the sealed record of a frame that it has just latched. -/
def State.deltaOf (s : State) (r : FrameRec) : SealRecord :=
  { sacn := r.inputs.sacn, dmx := r.inputs.dmx, live := rankKeys (2 ^ 27) r.rank s.inputs.live, meas := r.meas, temps := r.temps
    acks := rankKeys 64 r.rank (s.ports.lanes.filterMap fun e => e.2.lastAcks.map fun x => (e.1, x))
    readings := rankKeys 65536 r.rank s.render.temps, power := r.regionPower, faults := r.faults, gov := r.gov0
    safety := r.safety0, factors := r.factors, ltc := r.ltc
    video := r.inputs.video.map fun e => (e.1, e.2.rtp, (Config.frameCrc e.2).toNat) }

/-- The key of a delta, a root or a list of leaves: frame and member. -/
def memberKeyOf (n who : Nat) : Nat := n * 32 + who

/-- The device's delta of a frame goes to the coordinator; a standby sends none. -/
def State.sendDelta (s : State) (r : FrameRec) : State :=
  if !s.group.live || s.group.resync || (s.group.paired && s.group.role != .active) then s
  else if s.group.isCoord then
    { s with group := { s.group with deltas := s.group.deltas.put (memberKeyOf r.n s.group.me) (s.deltaOf r) } }
  else s.group.coord.elim s fun k => s.gsend k 2 (.delta r.n s.group.me (s.deltaOf r))

/-! ### The Cotillion tree (R522) -/

/-- The six bytes of an object ID: GROUP, KIND and KEY. -/
def objBytes (o : Nat) : Bytes := bytesLE 1 (o / 2 ^ 40) ++ bytesLE 1 (o / 2 ^ 32 % 256) ++ bytesLE 4 (o % 2 ^ 32)

/-- The leaf digests of a show state, by object. -/
def ShowState.leaves (v : ShowState) : Map Bytes := v.objects.mapVal fun o bs => sha384 (objBytes o ++ bs)

/-- The digest of a bucket, and of a group. -/
def bucketDigest (ls : Map Bytes) (group k : Nat) : Bytes :=
  let mine := ls.filter fun e => e.1 / 2 ^ 40 == group && e.1 % 256 == k
  if mine.isEmpty then zeros 48 else sha384 (mine.flatMap (·.2))
def groupDigest (ls : Map Bytes) (group : Nat) : Bytes := sha384 ((List.range 256).flatMap (bucketDigest ls group))

/-- The root. -/
def ShowState.root (v : ShowState) : Bytes := sha384 ((List.range 16).flatMap (groupDigest v.leaves))

end Machine

end Sys2Proof
end

