-- ==== Sys2Proof/Machine/GroupSeal.lean ====
section
/-!
DEFINITION. Machine/GroupSeal.lean: the coordinator's seal of a frame's input record, and what the sealed record gives a
frame (R510, R511).
-/

namespace Sys2Proof.Machine

/-! ### The sealed record -/

/-- Entries of two tables; where both have one, that of the first. -/
def mergeMap {α : Type} (a b : Map α) : Map α := b.foldl (fun m e => if m.has e.1 then m else m.put e.1 e.2) a

/-- What a member of a rank contributes: of the governor and of safety groups, the state of what that rank renders. -/
def SealRecord.ofRank (d : SealRecord) (v : ShowState) (rank : Nat) : SealRecord :=
  let gov : Map GovFeeder := d.gov.filter fun e => v.feederRank e.1 == rank
  let safety : Map SafetyDyn := d.safety.filter fun e => v.groupRank e.1 == rank
  let power : Map (F32 × F32) := d.power.filter fun e => (v.colour.regions.find e.1).elim false fun q => v.part.canvas (regCanvas q) == rank
  { d with gov := gov, safety := safety, power := power }

/-- Two contributions together. Where both have an entry for the same thing, that of the lower member holds (DESIGN CHOICE,
assumption 60). -/
def SealRecord.merge (a b : SealRecord) : SealRecord :=
  { sacn := mergeMap a.sacn b.sacn, dmx := mergeMap a.dmx b.dmx, live := mergeMap a.live b.live, meas := mergeMap a.meas b.meas
    temps := mergeMap a.temps b.temps, readings := mergeMap a.readings b.readings, power := mergeMap a.power b.power
    faults := a.faults ++ b.faults, acks := mergeMap a.acks b.acks, gov := mergeMap a.gov b.gov
    safety := mergeMap a.safety b.safety, factors := mergeMap a.factors b.factors, video := mergeMap a.video b.video
    ltc := a.ltc, who := a.who ++ b.who }

/-- The deltas of a frame, by member. -/
def GroupState.deltasOf (g : GroupState) (n : Nat) : List (Nat × SealRecord) :=
  (g.deltas.filter fun e => e.1 / 32 == n).map fun e => (e.1 % 32, e.2)

/-- The ranks that have a member present. -/
def GroupState.ranksPresent (g : GroupState) : List Nat := (List.range g.ranks).filter fun r => g.present r || g.present (16 + r)

/-- The delta of every current member is here. -/
def GroupState.deltasHere (g : GroupState) (n : Nat) : Bool := g.ranksPresent.all fun r => (g.deltasOf n).any (·.1 % 16 == r)

/-- The sealed record, with the LTC value of the coordinator. -/
def State.sealOf (s : State) (r : FrameRec) : SealRecord :=
  let ds := (s.group.deltasOf r.n).map fun e => ({ e.2 with who := [e.1] } : SealRecord).ofRank r.view (e.1 % 16)
  { ds.foldl SealRecord.merge {} with ltc := r.ltc }

/-! ### What it gives a frame -/

/-- The copy of an input frame that the seal names, and whether it differs from it (R511). -/
def State.sealedFrame (s : State) (i : Nat) (own : Option VideoFrame) (rtp crc : Nat) : Option VideoFrame × Bool :=
  let ok (f : VideoFrame) : Bool := f.rtp == rtp && (Config.frameCrc f).toNat == crc
  match own.bind fun f => if ok f then some f else none with
  | some f => (some f, false)
  | none =>
    match (s.video i).complete.find? ok with
    | some f => (some f, false)
    | none => (own, true)

/-- The input record of a frame under its seal. -/
def State.sealInputs (s : State) (r : FrameRec) (d : SealRecord) : InputRecord × List Nat :=
  let vs := d.video.map fun e => (e.1, s.sealedFrame e.1 (r.inputs.video.find e.1) e.2.1 e.2.2)
  let video : Map VideoFrame := vs.foldl (fun m e => e.2.1.elim m (m.put e.1)) r.inputs.video
  let live : Map Nat := d.live.foldl (fun (m : Map Nat) e => if m.has (e.1 % 2 ^ 27) then m else m.put (e.1 % 2 ^ 27) e.2.value) []
  ({ r.inputs with sacn := d.sacn, dmx := d.dmx, live := live, video := video }, (vs.filter fun e => e.2.2).map (·.1))

/-- What a Tango device that is not the active takes over from the active through the record: its live values and the readings of
its temperature sources (R253, R335). -/
def State.carry (s : State) (r : FrameRec) (d : SealRecord) : State :=
  if !s.group.paired || s.group.role == .active then s
  else
    { s with
      inputs := { s.inputs with live := ofRankKeys (2 ^ 27) r.rank d.live }
      render := { s.render with temps := ofRankKeys 65536 r.rank d.readings } }

/-- Frame `r` takes its sealed record: derating factors step, and its LTC value takes effect. -/
def State.sealFrame (s : State) (r : FrameRec) (d : SealRecord) : State :=
  let s := s.carry r d
  let after := factorsOf r.view.output d.factors d.temps r.grid.period
  let s := s.raiseAll (List.replicate (factorDrops d.factors after) 0x7B)
  let x := s.sealInputs r d
  let r := { r with
    inputs := x.1, videoDiffer := x.2, meas := d.meas, temps := d.temps, faults := d.faults, gov0 := d.gov, safety0 := d.safety, regionPower := d.power
    factors := after, sealed := true, sealCrc := (Config.sealCrc d).toNat }
  let f := s.fireLtc r d.ltc
  f.1.setFrame f.2

/-- This device's delta missed the seal of a frame: it is counted, and its faults go into the next delta. -/
def State.sealMissed (s : State) (r : FrameRec) (d : SealRecord) : State :=
  let due := !s.group.paired || s.group.role == .active
  if !due || s.group.resync || d.who.contains s.group.me then s
  else
    { s with
      group := { s.group with sealMisses := s.group.sealMisses + 1 }
      render := { s.render with lateFaults := s.render.lateFaults ++ r.faults } }

/-- A seal that is held is given to its frame. -/
def State.useSeal (s : State) (n : Nat) : State :=
  match s.frame n, s.group.seals.find n with
  | some r, some d => if r.sealed then s else (s.sealMissed r d).sealFrame r d
  | _, _ => s

/-- A sealed record is received, or made here. The records of the last 16 frames stay. -/
def State.takeSeal (s : State) (n : Nat) (d : SealRecord) : State :=
  let seals : Map SealRecord := s.group.seals.range (n - 15) (n + 17)
  let deltas : Map SealRecord := s.group.deltas.filter fun e => n < e.1 / 32
  let last := max n (s.group.lastSeal.getD 0)
  ({ s with group := { s.group with seals := seals.put n d, deltas := deltas, lastSeal := some last } } : State).useSeal n

/-! ### The seal (R506, R510) -/

/-- Seals in a row that missed the delta of each rank. -/
def GroupState.countMissed (g : GroupState) (n : Nat) : GroupState :=
  let missed : Map Nat := g.ranksPresent.map fun r =>
    (r, if (g.deltasOf n).any (·.1 % 16 == r) then 0 else g.missed.getD r 0 + 1)
  { g with missed := missed }

/-- INPUT_SEAL: the coordinator seals the first frame that is not sealed, with every delta, or 150 µs after L(n). -/
def State.inputSeal (s : State) : State :=
  if !s.group.live || !s.group.isCoord then s
  else match s.render.frames.find? fun r => !r.sealed with
    | none => s
    | some r =>
      if !s.group.deltasHere r.n && decide (s.tb < r.grid.latch + usUnits 150) then s
      else
        let d := s.sealOf r
        let s := { s with group := s.group.countMissed r.n }
        (s.gcast 2 (.seal r.n d)).takeSeal r.n d

/-- A delta of another member arrives at the coordinator. -/
def State.takeDelta (s : State) (n who : Nat) (d : SealRecord) : State :=
  let g := { s.group with activeOf := s.group.activeOf.put (who % 16) who }
  if (s.frame n).elim false (·.sealed) then { s with group := g }
  else { s with group := { g with deltas := g.deltas.put (memberKeyOf n who) d } }

/-- INPUT_SEAL (R510). -/
def execInputSeal (dt : Nat) (s : State) : Host.Outcome State Fault Refusal := s.act dt (·.inputSeal)

end Sys2Proof.Machine
end

