-- ==== Sys2Proof/Machine/Cotillion.lean ====
section
/-!
DEFINITION. Machine/Cotillion.lean: roots, their comparison and the objects that differ (R522, R523, R526).
-/

namespace Sys2Proof.Machine

/-- The last comparison changed. -/
def State.setCot (s : State) (c : Cotillion) : State := { s with group := { s.group with cot := c } }

/-- The show state of frame `n`. -/
def State.viewAt (s : State) (n : Nat) : ShowState := (s.frame n).elim s.txn.view (·.view)

/-- A member's root for the frame of the comparison differs from this device's: it is told, and its leaves are asked for. -/
def State.rootDiffers (s : State) (n who : Nat) : State :=
  let c := s.group.cot
  let mine := who == s.group.partner && s.group.role == .active
  let c := { c with
    differ := if s.group.isCoord then c.differ ||| 2 ^ (who % 16) else c.differ
    standbyDiffer := c.standbyDiffer || mine }
  let s := (s.setCot c).raise 0xBC
  let s := if mine then s.gsend who 2 (.rootDiffer n) else s
  s.gsend who 3 (.leavesRequest n)

/-- Roots of frame `n` that are here are compared with this device's. -/
def State.compareRoots (s : State) (n : Nat) : State :=
  if s.group.cot.frame != n then s
  else
    let mine := (s.group.roots.filter fun e => e.1 / 32 == n).map fun e => (e.1 % 32, e.2)
    let kept : Map Bytes := s.group.roots.filter fun e => e.1 / 32 != n
    let s := { s with group := { s.group with roots := kept } }
    mine.foldl (fun s e => if e.2 == s.group.cot.root then s else s.rootDiffers n e.1) s

/-- The root of a frame with n mod 16 = 0 goes to the coordinator, and from a standby to its active too; a new comparison
begins. -/
def State.sendRoot (s : State) (n : Nat) : State :=
  if n % 16 != 0 || !s.group.live || s.group.resync then s
  else
    let root := s.txn.view.root
    let s := s.setCot { frame := n, root := root }
    let s := s.group.coord.elim s fun k => s.gsend k 2 (.root n s.group.me root)
    let s := if s.group.role == .standby && s.group.coord != some s.group.partner then s.gsend s.group.partner 2 (.root n s.group.me root) else s
    s.compareRoots n

/-- A root arrives: at the coordinator, or at the active of a standby. Roots of the last 16 frames wait. -/
def State.takeRoot (s : State) (n who : Nat) (root : Bytes) : State :=
  let kept : Map Bytes := s.group.roots.filter fun e => n < e.1 / 32 + 16
  ({ s with group := { s.group with roots := kept.put (memberKeyOf n who) root } } : State).compareRoots n

/-- The objects whose leaf digests differ between two trees. -/
def leavesDiffer (a b : Map Bytes) : List Nat :=
  ((a.filter fun e => b.find e.1 != some e.2).map (·.1) ++ (b.filter fun e => !a.has e.1).map (·.1))

/-- The leaves of a differing device: up to 64 objects are listed. -/
def State.takeLeaves (s : State) (n : Nat) (ls : Map Bytes) : State :=
  let c := s.group.cot
  if c.frame != n then s
  else s.setCot { c with objects := ((c.objects ++ leavesDiffer (s.viewAt n).leaves ls).eraseDups).take 64 }

/-- The bytes of COTILLION_STATUS. -/
def Cotillion.bytes (c : Cotillion) : Bytes :=
  bytesLE 8 c.frame ++ padTo 48 c.root ++ bytesLE 2 c.differ ++ bytesLE 1 (b2n c.standbyDiffer) ++ bytesLE 1 c.objects.length ++ zeros 4
    ++ c.objects.flatMap objBytes

/-- COTILLION_STATUS (0x0D30). -/
def cotillionStatusSpec : CommandSpec :=
  { code := 0x0D30, kind := .read, lengthOk := lenNone, roleOk := anyRole, body := fun _ s => s.okWith s.group.cot.bytes }

/-- COTILLION_STATUS (R526). -/
def execCotillionStatus (dt m : Nat) (s : State) : Host.Outcome State Fault Refusal := s.act dt (·.runMbx cotillionStatusSpec m)

end Sys2Proof.Machine
end

