-- ==== Sys2Proof/Machine/Latch.lean ====
section
/-!
DEFINITION. Machine/Latch.lean: the latch point of a frame (R17, R19, R31, R32, R82, R106, R107, R243, R335, R509, R510, R519).
-/

namespace Sys2Proof.Machine

/-! ### Roles that change at L(m) (R515, R519) -/

/-- The device's own outputs are its business: it stands alone, or is a joined member that is not a standby. -/
def State.emits (s : State) : Bool :=
  !s.group.inGroup || ((s.group.live || s.group.phase == .isolated) && !s.group.resync && (!s.group.paired || s.group.role == .active))

/-- The standby becomes active at L(m). It raises TANGO_ACTIVE where TANGO_PEER_ACT reads low; a takeover that no host commanded
raises TANGO_TAKEOVER. -/
def State.becomeActive (s : State) (m : Nat) (commanded : Bool) : State :=
  let g := s.group
  let coord := if g.coord == some g.partner then some g.me else g.coord
  let lanes := s.ports.lanes.mapVal fun _ d => { d with skipGap := commanded, keeps := false, releaseLeft := 0 }
  let dmx := (List.range 16).foldl (fun (x : Map DmxDyn) j => x.put j { x.getD j {} with deferDrive := commanded }) s.ports.dmx
  let s := { s with
    group := { g with role := .active, actPin := !g.peerAct, lastTakeover := m, takeover := none, coord := coord }
    ports := { s.ports with lanes := lanes, dmx := dmx } }
  let s := if coord == some g.me then s.gcast 0 (.coordinator g.me) else s
  s.raiseIf (!commanded) 0xB6

/-- The active becomes standby at L(m): TANGO_ACTIVE drops, and every lane, after its GAP, sends 16 release frames (R352, R519). -/
def State.becomeStandby (s : State) (m : Nat) : State :=
  let g := s.group
  let coord := if g.coord == some g.me then some g.partner else g.coord
  let lanes := s.ports.lanes.mapVal fun _ d => { d with releaseLeft := 16, skipGap := false, keeps := d.link == .up }
  let s := { s with
    group := { g with
      role := .standby, actPin := false, peerAct := true, yieldCause := 5, lastTakeover := m, takeover := none, coord := coord,
      switchOp := none, sealFrom := m }
    ports := { s.ports with lanes := lanes } }
  g.switchOp.elim s fun op => s.endOpId op .ok (s.clock.latchPos m) []

/-- A takeover or hand-over that is due at L(n). -/
def State.tangoAt (s : State) (n : Nat) : State :=
  match s.group.takeover with
  | some (m, commanded) =>
    if n < m then s
    else if s.group.role == .standby then s.becomeActive n commanded
    else if s.group.role == .active then s.becomeStandby n
    else { s with group := { s.group with takeover := none } }
  | none => s

/-! ### The frame's record -/

/-- Windows of earlier frames that are still open close, and a frame leaves its flight after eight (R24). Where E is large and latch
points stand closer than T, in a glide or after a rate change, frame n − 8 can still have emissions to come: the frame is dropped
with them, and its slot is rewritten (DESIGN CHOICE, assumption 79). -/
def State.closeBefore (s : State) (n : Nat) : State :=
  let s := s.render.frames.foldl (fun s r => if r.mainClosed then s else (s.frame r.n).elim s s.closeMain) s
  { s with render := { s.render with frames := s.render.frames.filter fun r => n < r.n + 8 } }

/-- Canvas windows of a new frame whose gap has passed already. -/
def State.earlyGaps (s : State) (n : Nat) : Map CanvasWin :=
  s.render.canvases.filterMap fun e =>
    if e.2.gapAhead.elim false (n ≤ ·) then some (e.1, ({ gapDone := true } : CanvasWin)) else none

/-- Terminations and sequence numbers of the frame (R393, R395). -/
def State.latchTx (s : State) (old : ShowState) (r : FrameRec) : State × TxSeqs :=
  let slots (u : Nat) : List Nat := ((s.render.slot (r.n + 7)).image.slots (65536 + u)).take (old.net.tx u).slots
  let begun := newTerms old r.view r.rank s.net.seq slots
  let terms := stepTerms s.net.terms begun r.view
  let seq := r.stepSeq s.net.seq
  ({ s with net := { s.net with seq := seq, terms := terms } }, ⟨seq, terms⟩)

/-- Render part 4 or 5 starts in this frame, which repeats (R534, R536). -/
def State.restartsAt (s : State) (n : Nat) : Bool :=
  s.update.holdFrame == some n || s.update.actPhase == .decided && s.update.act.elim false fun a => a.frame == n && (bit a.changed 4 || bit a.changed 5)

/-- The record of a frame, with what this device latches for it. `forced` are the groups that commits of the frame fault. -/
def State.frameRecord (s : State) (g : GridFrame) (clears forced : List Nat) (temps held : Map F32) : FrameRec :=
  let v := s.txn.view
  let n := g.n
  let x := s.render
  let live : Map Nat := (liveKept v.inputs g.latch s.inputs.live).map fun e => (e.1, e.2.value)
  let factors := if s.group.live || s.group.holds then x.factors else factorsOf v.output x.factors temps g.period
  let power : Map (F32 × F32) :=
    if n < 8 then [] else v.colour.regions.filterMap fun e => (regionAt x.regionLog (n - 8) e.1).map fun p => (e.1, p)
  { grid := g, epoch := s.host.devEpoch, rate := s.clock.rateOf n, view := v, rank := if s.group.inGroup then s.group.rank else 0
    inputs := { sacn := s.latchSacn v.inputs, dmx := s.latchDmx v.inputs, live := live, video := s.assigned, lost := s.lostVideos }
    temps := temps, tempHeld := held, factors := factors, meas := s.latchMeas, faults := s.latchFaults forced, clears := clears
    gov0 := x.gov, safety0 := x.safety, hist0 := x.hist, baseSince := x.baseSince, regionPower := power
    canvases := s.earlyGaps n, forceRepeat := s.restartsAt n, sealed := !s.group.live && !s.group.holds }

/-- The frame takes its place: its slot is cleared, what it latched is used up, and its main window opens. -/
def State.enterFrame (s : State) (r : FrameRec) : State :=
  let x := s.render
  let live := liveKept r.view.inputs r.grid.latch s.inputs.live
  let log := if r.n < 8 then x.regionLog else pruneRegions x.regionLog (r.n - 8)
  { s with
    inputs := { s.inputs with live := live }
    clock := { s.clock with nextLatch := r.n + 1 }
    host := { s.host with devFrame := r.n }
    render := { x with
      frames := x.frames ++ [r], slots := x.slots.put (r.n % 8) ⟨r.n, []⟩, rawFaults := [], lateFaults := [], regionLog := log } }

/-- The latch point of the frame of a grid place. -/
def State.latch (s : State) (g : GridFrame) : State :=
  let n := g.n
  let s := ((s.closeBefore n).tangoAt n).checkDecisions n
  let ltc := s.latchLtc n g.latch
  let old := s.txn.view
  let as := s.toApply n
  let clears := clearsOf old as
  let s := ((s.dynBefore n as).applyAll n ltc g.period as).latchVideos
  let t := s.latchTemps g.latch
  let s := t.1
  let r := s.frameRecord g ((clears.filter fun e => e.2 == 0).map (·.1)) ((clears.filter fun e => e.2 == 1).map (·.1)) t.2.1 t.2.2
  let s := s.raiseAll (List.replicate (factorDrops s.render.factors r.factors) 0x7B)
  let tx := s.latchTx old r
  let r := { r with tx := tx.2, ltc := ltc }
  let f := if r.sealed then tx.1.fireLtc r ltc else (tx.1, r)
  let s := f.1.enterFrame f.2
  let s := if s.render.reader.autoFrame && !s.render.reader.freeze then s.snapTrigger else s
  (((s.sendDelta f.2).useSeal n).sendRoot n)

/-- LATCH_POINT: the next frame whose latch point has come. -/
def State.latchPoint (s : State) : State :=
  match s.clock.at_ s.clock.nextLatch with
  | some g => if !s.clock.run || s.tb < g.latch then s else s.latch g
  | none => s

/-! ### The end of a frame's flight (R24, R106, R118) -/

/-- The frame whose light time has come. -/
def State.toLight (s : State) : Option FrameRec := s.render.frames.find? fun r => decide (r.grid.light ≤ s.tb) && !r.lightDone

/-- A frame glides while its effective presentation delay is not the configured one. -/
def GridFrame.glides (g : GridFrame) : Bool := g.light - g.t != g.dcfg

/-- LIGHT_TIME: the frame leaves flight, and GLIDE_DONE ends a glide. -/
def State.lightTime (s : State) : State :=
  match s.toLight with
  | none => s
  | some r =>
    let glides := r.grid.glides
    let s := (s.raiseIf (s.clock.gliding && !glides) 0x39)
    let s := s.setClock { s.clock with gliding := glides }
    (s.setFrame { r with lightDone := true }).pruneEpochs

/-! ### Meanings -/

/-- LIGHT_TIME (R106, R118). -/
def execLightTime (dt : Nat) (s : State) : Host.Outcome State Fault Refusal := s.act dt (·.lightTime)

end Sys2Proof.Machine
end

