-- ==== Sys2Proof/Machine/Scan.lean ====
section
/-!
DEFINITION. Machine/Scan.lean: the gap and the scan of a canvas frame: flips, GAP marks, announcements, lane frames and release
frames (R301 to R310, R346 to R356, R519).
-/

namespace Sys2Proof.Machine

/-! ### Lanes -/

/-- The emission counts of an output (kind × 65,536 + number). -/
def State.emission (s : State) (key : Nat) : EmitDyn := s.ports.emit.getD key {}

/-- Emission counts changed. -/
def State.setEmission (s : State) (key : Nat) (d : EmitDyn) : State := { s with ports := { s.ports with emit := s.ports.emit.put key d } }

/-- One more frame emitted, skipped or superseded on an output. -/
def State.emitted (s : State) (key : Nat) : State := let d := s.emission key
  s.setEmission key { d with emitted := d.emitted + 1 }
def State.skipped (s : State) (key : Nat) : State := let d := s.emission key
  s.setEmission key { d with skipped := d.skipped + 1 }
def State.superseded (s : State) (key : Nat) : State := let d := s.emission key
  s.setEmission key { d with superseded := d.superseded + 1 }

/-- The emission key of a lane. -/
def laneKey (l : Nat) : Nat := 3 * 65536 + l

/-- The lanes of a canvas in a view, in ascending order. -/
def ShowState.lanesOf (v : ShowState) (k : Nat) : List (Nat × LaneSegs) :=
  v.canvas.segments.filter fun e => e.2.canvas == k && !e.2.rects.isEmpty

/-- A lane of canvas `k` carries it but for the state of its link (R351, R355). After a hand-over the lane is the old active's up to its
next GAP. -/
def State.wouldCarry (s : State) (k l : Nat) : Bool :=
  (if s.emits then !(s.lane l).skipGap else (s.lane l).keeps) && s.enabled 3 l && s.enabled 8 k

/-- A lane carries its canvas. -/
def State.carries (s : State) (k l : Nat) : Bool := s.wouldCarry k l && (s.lane l).link == .up

/-- A lane has release frames to send: its device gave up its role by a commanded hand-over, and the lane's GAP has passed (R352,
R519). -/
def State.releases (s : State) (l : Nat) : Bool := !s.emits && !(s.lane l).keeps && 0 < (s.lane l).releaseLeft

/-! ### Instants -/

/-- The units of one TIME tick. -/
def tickUnits : Units := 131072

/-- The tick of an instant, rounded down, has come (R336). -/
def State.tickReached (s : State) (x : Instant) : Bool := decide (x < s.tb + tickUnits)

/-! ### The frame whose gap or scan is due -/

/-- A frame that has not latched yet, as far as its gap needs it (R356). -/
def State.aheadFrame (s : State) (n : Nat) : FrameRec :=
  { grid := s.clock.predict n, epoch := s.host.devEpoch, rate := s.clock.rateOf n, view := s.txn.view
    rank := if s.group.inGroup then s.group.rank else 0 }

/-- The frames of canvas `k` whose gap has not passed, in order: those in flight, then some that have not latched. -/
def State.gapFrames (s : State) (k : Nat) : List FrameRec :=
  (s.render.frames.filter fun r => r.hasCanvas k && !(r.win k).gapDone)
    ++ (((List.range 9).map fun i => s.aheadFrame (s.clock.nextLatch + i)).filter fun r =>
        r.hasCanvas k && (r.view.sliceMode k).isNone && (s.canvas k).gapAhead.elim true (· < r.n))

/-- The canvas frame whose gap starts: its record, canvas and G. -/
def State.gapDue (s : State) (k : Nat) : Option (FrameRec × Canvas × Instant) :=
  (s.gapFrames k).head?.bind fun r => (r.view.canvas.canvases.find k).bind fun c => (r.gapStart k c).bind fun g =>
    if s.clock.run && g ≤ s.tb then some (r, c, g) else none

/-! ### GAP_START -/

/-- The flip at G(n): a commit written before G of its own frame, or at an earlier gap (R306, R308). -/
def State.flipAt (s : State) (k n : Nat) (g : Instant) : State :=
  let d := s.canvas k
  match d.pending with
  | none => s
  | some m =>
    if n < m || (m == n && (s.frame m).elim false fun r => (r.win k).late) then s
    else s.setCanvas k { d with
      front := 1 - d.front, pending := none, flipCount := d.flipCount + 1, lastFlipFrame := m, lastFlipAt := g }

/-- FRAMEs still to be sent under the old settings, from the gap of frame `n` up to frame `e` (R356). -/
def countdownTo (n e k : Nat) : Nat := (e - n + (k - 1)) / max 1 k

/-- An ANNOUNCE of settings (table "Lane frame header"). -/
def announceHeader (l n content countdown holdMs : Nat) (x : LaneSettings) : LaneHeader :=
  { type_ := 2, flags := 4 * b2n x.rolling, canvas := x.canvas, lane := l, frame := n, content := content, pixels := x.pixels
    format := x.format, countdown := countdown, holdMs := holdMs, periodNs := x.periodNs, gapNs := x.gapNs }

/-- HOLD_MS of a lane in a view. -/
def ShowState.holdMs (v : ShowState) (l : Nat) : Nat := (v.ports.lanes.getD l {}).holdMs

/-- The time that a lane frame takes (R350). -/
def laneTime (pixels bytes : Nat) : Units := ceilDiv ((laneGroups pixels bytes * 1048576 : Nat) : Int) 5

/-- An ANNOUNCE goes out. -/
def State.sendAnnounce (s : State) (l : Nat) (at_ : Instant) (h : LaneHeader) : State :=
  (s.setLane l { s.lane l with sendEnd := some (at_ + laneTime 0 8) }).emit (.lane l at_ h [])

/-- The ANNOUNCE that a lane sends in the gap of frame `n`, at an instant, with the settings in force from frame n_e on. A countdown
that one byte cannot hold is free (assumption 56). -/
def State.announceAt (s : State) (r : FrameRec) (c : Canvas) (l : Nat) (at_ : Instant) : State :=
  let d := s.lane l
  let due := d.announces.filter (r.n ≤ ·)
  match (sortBy (fun a b => decide (a ≤ b)) due).head? with
  | some e =>
    let v := (s.frame e).elim s.txn.view (·.view)
    match v.laneSettings l (s.clock.predict e).period with
    | none => s
    | some x =>
      let k := countdownTo r.n e c.divider
      let f := if k ≤ 254 then (k, s) else (s.fresh.1 % 256, s.fresh.2)
      f.2.sendAnnounce l at_ (announceHeader l r.n e f.1 (v.holdMs l) x)
  | none =>
    if r.n / max 1 c.divider % 64 != 0 then s
    else match r.view.laneSettings l r.grid.period with
      | none => s
      | some x => s.sendAnnounce l at_ (announceHeader l r.n r.n 255 (r.view.holdMs l) x)

/-- One lane at G(n): GAP and any ANNOUNCE that is due. After a hand-over the old active sends the first GAP, and the new one every
GAP after it (R519). -/
def State.gapLane (s : State) (r : FrameRec) (k : Nat) (c : Canvas) (g : Instant) (l : Nat) : State :=
  let d := s.lane l
  let mark (s : State) : State := s.emit (.gap l g ((r.n + 256 * c.divider - c.divider) % 256))
  let s :=
    if s.carries k l then (mark s).announceAt r c l (g + ceilDiv 2097152 5)
    else if d.gapOwed && d.link == .up && (s.fn (fnId 3 l)).state == .draining then mark s
    else s
  let d := s.lane l
  s.setLane l { d with announces := d.announces.filter (r.n < ·), skipGap := false, keeps := false, gapOwed := false }

/-- The gap of a frame has passed. -/
def State.passGap (s : State) (r : FrameRec) (k : Nat) : State :=
  match s.frame r.n with
  | some x => s.setFrame (x.setWin k { x.win k with gapDone := true })
  | none => s.setCanvas k { s.canvas k with gapAhead := some r.n }

/-- GAP_START of canvas `k`. -/
def State.gapStart (s : State) (k : Nat) : State :=
  match s.gapDue k with
  | none => s
  | some (r, c, g) =>
    let s := (s.flipAt k r.n g).passGap r k
    let s := (r.view.lanesOf k).foldl (fun s e => s.gapLane r k c g e.1) s
    if (r.win k).repeated then s.failFront r k c else s

/-! ### SCAN_START -/

/-- The expected latch of a canvas frame whose scan starts at an instant (R310). -/
def FrameRec.expectOf (r : FrameRec) (k : Nat) (c : Canvas) (at_ : Instant) : LatchExpect :=
  let first : Units := if (r.view.sliceMode k).isSome then nsUnits 144 else 0
  { frame := r.n, at_ := at_ + first + usUnits c.latencyUs, period := r.canvasPeriod c, tolUs := c.tolUs }

/-- A FRAME of a lane; `bad` names its blocks that hold a poisoned word. In slice mode its payload is known once the slices are there,
since each slice is written before the scan reaches it (R127, R128). -/
def State.sendFrame (s : State) (r : FrameRec) (k : Nat) (c : Canvas) (at_ : Instant) (bad : List Nat) (l : Nat) (g : LaneSegs)
    (prev : Option Nat) : State :=
  let s := s.flushLane l
  let d := s.lane l
  let cd := s.canvas k
  let cfg := r.view.ports.lanes.getD l {}
  let rolling := (r.view.sliceMode k).isSome
  let h : LaneHeader :=
    { type_ := 1, flags := 1 + 2 * b2n (d.content == some cd.lastFlipFrame) + 4 * b2n rolling, canvas := k, lane := l, frame := r.n
      content := cd.lastFlipFrame, pixels := g.pixels, format := b2n cfg.rgb, holdMs := cfg.holdMs
      periodNs := unitsToNs (r.canvasPeriod c), gapNs := unitsToNs (c.gap (r.canvasPeriod c)) }
  let p : RollingScan := { at_ := at_, header := h, canvas := c, bank := cd.front, segs := g, rgb := cfg.rgb, bad := bad }
  let e := r.expectOf k c at_
  let x : LaneSent :=
    { frame := r.n, canvas := k, prev := prev, expect := e.at_, period := e.period, tolUs := e.tolUs
      cableNs := g.cableNs, latchAck := g.latchAck }
  let s := s.setLane l { d with
    sendEnd := some (at_ + laneTime g.pixels (laneBytes cfg.rgb)), content := some cd.lastFlipFrame, sent := x :: d.sent.take 7
    gapOwed := true, counts := bump 0 d.counts, rolling := some p }
  (if rolling then s else s.flushLane l).emitted (laneKey l)

/-- A release frame of a lane that is ENABLED and UP (R352). -/
def State.sendRelease (s : State) (r : FrameRec) (k : Nat) (c : Canvas) (at_ : Instant) (l : Nat) : State :=
  let d := s.lane l
  let cd := s.canvas k
  let cfg := r.view.ports.lanes.getD l {}
  let h : LaneHeader :=
    { type_ := 1, flags := 2 * b2n (d.content == some cd.lastFlipFrame) + 4 * b2n (r.view.sliceMode k).isSome, canvas := k, lane := l
      frame := r.n, content := cd.lastFlipFrame, pixels := 0, format := b2n cfg.rgb, holdMs := cfg.holdMs
      periodNs := unitsToNs (r.canvasPeriod c), gapNs := unitsToNs (c.gap (r.canvasPeriod c)) }
  (s.setLane l { d with
    sendEnd := some (at_ + laneTime 0 8), content := some cd.lastFlipFrame, counts := bump 0 d.counts }).emit (.lane l at_ h [])

/-- A lane at one of the 16 canvas frames after a hand-over: its release frame, which a lane that is not UP does not send (R352, R355). -/
def State.releaseAt (s : State) (r : FrameRec) (k : Nat) (c : Canvas) (at_ : Instant) (l : Nat) : State :=
  let s := s.setLane l { s.lane l with releaseLeft := (s.lane l).releaseLeft - 1 }
  if !s.enabled 3 l then s
  else if (s.lane l).link == .up then s.sendRelease r k c at_ l
  else s.skipped (laneKey l)

/-- The next canvas frame starts its scan on the lane no later than this one (R338). -/
def State.laneOvertaken (s : State) (r : FrameRec) (k : Nat) (c : Canvas) (x : Instant) (l : Nat) : Bool :=
  (s.frame (r.n + c.divider)).elim false fun q =>
    q.hasCanvas k && (q.view.canvas.segments.find l).elim false (fun g => g.canvas == k && !g.rects.isEmpty)
      && ((q.view.canvas.canvases.find k).bind fun d => q.scanStart k d).elim false fun y => decide (y ≤ x)

/-- One lane at S(n); `prev` is the canvas frame before. The frame is superseded where the next one starts no later, and skipped where
the lane still sends an earlier frame (R338) or the link is not UP (R355). -/
def State.scanLane (s : State) (r : FrameRec) (k : Nat) (c : Canvas) (at_ : Instant) (bad : List (Nat × Nat)) (prev : Option Nat)
    (e : Nat × LaneSegs) : State :=
  if s.carries k e.1 && s.laneOvertaken r k c at_ e.1 then s.superseded (laneKey e.1)
  else if s.carries k e.1 && (s.lane e.1).sendEnd.elim false (fun x => decide (s.tb < x)) then s.skipped (laneKey e.1)
  else if s.carries k e.1 then s.sendFrame r k c at_ ((bad.filter (·.1 == e.1)).map (·.2)) e.1 e.2 prev
  else if s.releases e.1 then s.releaseAt r k c at_ e.1
  else if s.wouldCarry k e.1 then s.skipped (laneKey e.1)
  else s

/-- The canvas frame whose scan starts: its record, canvas and S. -/
def State.scanDue (s : State) (k : Nat) : Option (FrameRec × Canvas × Instant) :=
  (s.render.frames.find? fun r => r.hasCanvas k && (r.win k).gapDone && !(r.win k).scanDone).bind fun r =>
    (r.view.canvas.canvases.find k).bind fun c => (r.scanStart k c).bind fun x => if s.tickReached x then some (r, c, x) else none

/-- SCAN_START of canvas `k`; `bad` names blocks that hold a poisoned word, as lane and block (R479). -/
def State.scanStart (s : State) (k : Nat) (bad : List (Nat × Nat)) : State :=
  match s.scanDue k with
  | none => s
  | some (r, c, x) =>
    let prev := (s.canvas k).scanFrame
    let es := (s.canvas k).expects.filter fun e => s.tb - 2 * usUnits 1000000 < e.at_
    let s := s.setFrame (r.setWin k { r.win k with scanDone := true })
    -- a DISABLED canvas has no scan-out, and so no expected latch (R297)
    let s := s.setCanvas k { s.canvas k with scanFrame := some r.n, expects := if s.enabled 8 k then r.expectOf k c x :: es else es }
    (r.view.lanesOf k).foldl (fun s e => s.scanLane r k c x bad prev e) s

/-! ### Meanings -/

/-- GAP_START (R306, R307, R351, R356). -/
def execGapStart (dt k : Nat) (s : State) : Host.Outcome State Fault Refusal := s.act dt (·.gapStart k)
/-- SCAN_START (R304, R351, R352, R355). -/
def execScanStart (dt k : Nat) (bad : List (Nat × Nat)) (s : State) : Host.Outcome State Fault Refusal := s.act dt (·.scanStart k bad)

end Sys2Proof.Machine
end

