-- ==== Sys2Proof/Machine/Emit.lean ====
section
/-!
DEFINITION. Machine/Emit.lean: emission instants (R25, R30, R336 to R338, R378, R394, R395): sACN runs, synchronisation packets,
DMX packets, PWM values and lane frames.
-/

namespace Sys2Proof.Machine

/-! ### Instants -/

/-- The emission latency of an output in frame `r`, in µs: kinds 0 sACN universe, 1 DMX port, 2 PWM output, 3 lane, 4
synchronisation address (R336, R394). -/
def FrameRec.lambdaUs (r : FrameRec) (kind number : Nat) : Nat :=
  match kind with
  | 0 => r.view.universeLambda number
  | 1 => maxOf (r.view.patch.destLatencies 2 number)
  | 2 => maxOf (r.view.patch.pwmLatencies number)
  | 3 => (r.view.laneCanvas number).elim 0 (·.latencyUs)
  | _ => r.view.syncLambda (r.universes.filter fun u => (r.view.net.tx u).sync == number) number

/-- The emission instant of an output in frame `r`. -/
def FrameRec.instantOf (r : FrameRec) (kind number : Nat) : Instant := r.emissionAt (r.lambdaUs kind number)

/-- The output has an emission in the frame. A synchronised universe leaves with its synchronisation packet. -/
def FrameRec.emitsOn (r : FrameRec) (kind number : Nat) : Bool :=
  match kind with
  | 0 => r.dueUniverses.contains number && (r.view.net.tx number).sync == 0
  | 4 => r.dueSyncs.contains number
  | _ => true

/-- The key of an output. -/
def outKey (kind number : Nat) : Nat := kind * 65536 + number

/-- The frame's emission on an output is settled. -/
def State.settleOut (s : State) (n key : Nat) : State :=
  (s.frame n).elim s fun r => s.setFrame { r with settled := r.settled ++ [key] }

/-- Frame n + 1 has an instant no later than that of frame n on the output (R338). -/
def State.overtaken (s : State) (r : FrameRec) (kind number : Nat) : Bool :=
  (s.frame (r.n + 1)).elim false fun q => q.emitsOn kind number && decide (q.instantOf kind number ≤ r.instantOf kind number)

/-! ### sACN (R337, R393 to R395) -/

/-- A frame queued for an emission run: runs leave in the order of their instants, and packets due at the same instant in ascending
universe number (R337). -/
def State.queueRun (s : State) (p : Nat) (f : TxFrame) : State :=
  let x := s.port p
  let before (a b : TxFrame) : Bool := decide (a.due < b.due) || (decide (a.due = b.due) && a.output ≤ b.output)
  s.setPort p { x with runQueue := insertBy before { f with run := true, protect := x.protects, ring := 56 + p } x.runQueue }

/-- The universe still waits on the port in an earlier frame (R338). -/
def NetPort.stillSends (x : NetPort) (key n : Nat) : Bool := x.runQueue.any fun f => f.output == key && f.frame < n

/-- The ports of a port set. -/
def portsOf (mask : Nat) : List Nat := (List.range 4).filter (bit mask)

/-- A packet released on each port of a set: it is queued where the port is ENABLED and UP and no earlier frame of the output
waits. The frame counts as emitted where one port takes it, and as skipped where one does not (DESIGN CHOICE, assumption 57). -/
def State.releaseOn (s : State) (n key : Nat) (due : Instant) (ps : List Nat) (bad : Bool) (packet : NetPortCfg → Bytes) : State :=
  let ok := ps.filter fun p => s.sends p && !(s.port p).stillSends key n
  let s := ok.foldl (fun s p => s.queueRun p { bytes := packet (s.port p).cfg, due := due, output := key, frame := n, bad := bad }) s
  let s := if ok.isEmpty then s else s.emitted key
  if ok.length < ps.length then s.skipped key else s

/-- The data packet of an unsynchronised universe at its instant. -/
def State.emitUniverse (s : State) (r : FrameRec) (u : Nat) (bad : Bool) : State :=
  let image := (s.render.slot r.n).image
  (s.releaseOn r.n u (r.instantOf 0 u) (portsOf (r.view.net.tx u).ports) bad fun c => r.dataPacket image c u).settleOut r.n u

/-- The key of a termination. -/
def Termination.key (t : Termination) : Nat := 1048576 + 4 * t.uni + t.port

/-- The instant of a termination packet. -/
def FrameRec.termAt (r : FrameRec) (t : Termination) : Instant := max (r.grid.light - t.lambda) r.firstEmission

/-- Packets of a universe that ends on a port (R395). -/
def State.emitTerms (s : State) (r : FrameRec) (u : Nat) : State :=
  (r.tx.terms.filter fun t => t.uni == u && !r.settled.contains t.key && s.tickReached (r.termAt t)).foldl (fun s t =>
    let s := if s.emits && s.sends t.port then
        s.queueRun t.port { bytes := t.packet (s.port t.port).cfg, due := r.termAt t, output := u, frame := r.n }
      else if s.emits then s.skipped u else s
    s.settleOut r.n t.key) s

/-- The ports on which the frame sends the synchronisation packet of an address. -/
def FrameRec.syncPorts (r : FrameRec) (a : Nat) : List Nat :=
  (List.range 4).filter fun p => r.dueUniverses.any fun u => (r.view.net.tx u).sync == a && bit (r.view.net.tx u).ports p

/-- The synchronised universes that a frame sends with an address. -/
def FrameRec.syncMembers (r : FrameRec) (a : Nat) : List Nat := r.dueUniverses.filter fun u => (r.view.net.tx u).sync == a && a != 0

/-- The data packet of a synchronised universe. -/
def State.syncData (s : State) (r : FrameRec) (p u : Nat) : TxFrame :=
  let x := s.port p
  { bytes := r.dataPacket (s.render.slot r.n).image x.cfg u, output := u, frame := r.n, protect := x.protects, ring := 56 + p }

/-- The data packets of synchronised universes, handed to the ports that send once the main window has closed (R394). -/
def State.queueSynced (s : State) (n : Nat) : State :=
  match s.frame n with
  | none => s
  | some r =>
    if r.syncedSent || !r.mainClosed then s
    else
      let s := s.setFrame { r with syncedSent := true }
      if !s.emits then s
      else
        (r.dueUniverses.filter fun u => (r.view.net.tx u).sync != 0).foldl (fun s u =>
          ((portsOf (r.view.net.tx u).ports).filter s.sends).foldl (fun s p =>
            s.setPort p { s.port p with otherQueue := (s.port p).otherQueue ++ [s.syncData r p u] }) s) s

/-- The data packet of a synchronised universe on a port when the instant of its synchronisation packet comes: one that has not left
joins the emission run, or is not sent where the port is DISABLED or DOWN (R378, R394). Whether the packet is sent. -/
def State.syncOut (s : State) (r : FrameRec) (due : Instant) (u p : Nat) : State × Bool :=
  let gone := (s.frame r.n).elim false fun q => q.syncLeft.contains (4 * u + p)
  let x := s.port p
  let s := s.setPort p { x with otherQueue := x.otherQueue.filter fun f => !(f.frame == r.n && f.output == u) }
  if gone then (s, true)
  else if !s.sends p then (s, false)
  else
    let x := s.port p
    (s.setPort p { x with runQueue := x.runQueue ++ [{ s.syncData r p u with run := true, due := due }] }, true)

/-- A synchronised universe at the instant of its address: counted as emitted where a port sends it, and as skipped where one does not
(assumption 57). -/
def State.syncUniverse (s : State) (r : FrameRec) (due : Instant) (u : Nat) : State :=
  let ps := portsOf (r.view.net.tx u).ports
  let a := ps.foldl (fun (a : State × Nat) p => let o := a.1.syncOut r due u p; (o.1, a.2 + b2n o.2)) (s, 0)
  let s := if a.2 = 0 then a.1 else a.1.emitted u
  if a.2 < ps.length then s.skipped u else s

/-- The synchronisation packet at its instant: data packets of its universes that have not left go before it. -/
def State.emitSync (s : State) (r : FrameRec) (a : Nat) (bad : Bool) : State :=
  let s := s.queueSynced r.n
  let due := r.instantOf 4 a
  let s := (r.syncMembers a).foldl (fun s u => s.syncUniverse r due u) s
  let key := outKey 4 a
  let s := (s.releaseOn r.n key due (r.syncPorts a) bad fun c => r.syncPacket c a).settleOut r.n key
  let mine (f : TxFrame) : Bool := f.frame == r.n && (r.syncMembers a).contains f.output
  (r.syncPorts a).foldl (fun s p =>
    let x := s.port p
    if x.runQueue.any fun f => mine f then
      s.setPort p { x with runQueue := x.runQueue.map fun f => if f.output == key && f.frame == r.n then { f with held := true } else f }
    else s) s

/-! ### DMX, PWM and lanes -/

/-- The port is still sending a packet, or an RDM transaction runs. -/
def DmxDyn.busy (d : DmxDyn) (now : Instant) : Bool := d.run.isSome || d.sendEnd.elim false fun x => decide (now < x)

/-- The DMX packet of a frame (R359, R360). One that would hold a poisoned word is not sent (R479), nor one on a port that a later
epoch has turned to input (R361). -/
def State.emitDmx (s : State) (r : FrameRec) (j : Nat) (bad : Bool) : State :=
  let c := r.view.ports.dmx.getD j {}
  let s := s.settleOut r.n (outKey 1 j)
  if c.input || (s.txn.view.ports.dmx.getD j {}).input || !s.enabled 4 j || !s.emits then s
  else if (s.dmxPort j).busy s.tb || bad then s.skipped (outKey 1 j)
  else
    let slots := ((s.render.slot r.n).image.slots (131072 + j)).take c.slots
    let s := s.setDmx j { s.dmxPort j with
      sendEnd := some (s.tb + usUnits c.packetUs), turnaround := false, deferDrive := false, counts := bump 0 (s.dmxPort j).counts }
    (s.emit (.dmx j s.tb slots)).emitted (outKey 1 j)

/-- A PWM output. -/
def State.pwmOut (s : State) (j : Nat) : PwmDyn := s.ports.pwm.getD j {}

/-- A PWM output changed. -/
def State.setPwm (s : State) (j : Nat) (d : PwmDyn) : State := { s with ports := { s.ports with pwm := s.ports.pwm.put j d } }

/-- A PWM value: the output loads it at its next period start (R336, R366). It keeps its value where the new one is poisoned. -/
def State.emitPwm (s : State) (r : FrameRec) (j : Nat) (bad : Bool) : State :=
  let s := s.settleOut r.n (outKey 2 j)
  if !s.enabled 5 j || !s.emits || bad then s
  else
    let v := (s.render.slot r.n).image.getD (196608 + j) [16, 0]
    let d := s.pwmOut j
    (s.setPwm j { d with loads := d.loads ++ [⟨r.n, r.instantOf 2 j, v.headD 16, v.getD 1 0⟩] }).emitted (outKey 2 j)

/-! ### EMISSION_INSTANT -/

/-- The packets of a synchronised universe in a frame that still wait are not sent. -/
def State.dropSynced (s : State) (n u : Nat) : State :=
  let drop (x : NetPort) : NetPort := { x with otherQueue := x.otherQueue.filter fun f => !(f.frame == n && f.output == u) }
  { s with net := { s.net with ports := s.net.ports.mapVal fun _ x => drop x } }

/-- A frame superseded on an output; under a synchronisation address, on its universes (R338). -/
def State.supersede (s : State) (r : FrameRec) (kind number : Nat) : State :=
  let s := s.settleOut r.n (outKey kind number)
  if kind = 4 then (r.syncMembers number).foldl (fun s u => (s.dropSynced r.n u).superseded u) s
  else s.superseded (outKey kind number)

/-- The emission of an output in a frame whose instant has come. -/
def State.emitOut (s : State) (r : FrameRec) (kind number : Nat) (bad : Bool) : State :=
  if s.overtaken r kind number then s.supersede r kind number
  else if kind = 0 then s.emitUniverse r number bad
  else if kind = 1 then s.emitDmx r number bad
  else if kind = 2 then s.emitPwm r number bad
  else s.emitSync r number bad

/-- The output number exists. -/
def outExists (kind number : Nat) : Bool :=
  if kind = 1 then number < 16 else if kind = 2 then number < 32 else if kind = 3 then number < 64 else if kind = 0 then 1 ≤ number && number ≤ 63999 else number < 65536

/-- EMISSION_INSTANT of an output in frame `n`. A lane frame begins with the scan of its canvas. A device that is no active member
emits nothing. `bad`: what is emitted holds a poisoned word (R479). -/
def State.emissionInstant (s : State) (kind number n : Nat) (bad : Bool) : State :=
  match s.frame n with
  | none => s
  | some r =>
    if !r.mainClosed || 4 < kind || !outExists kind number then s
    else if kind = 3 then (r.view.canvas.segments.find number).elim s fun g => s.scanStart g.canvas (if bad then (List.range 512).map fun i => (number, i) else [])
    else
      let s := if kind = 0 then s.emitTerms r number else s
      if r.settled.contains (outKey kind number) || !r.emitsOn kind number || !s.tickReached (r.instantOf kind number) then s
      else if !s.emits then s.settleOut n (outKey kind number)
      else s.emitOut r kind number bad

/-- MAIN_WINDOW_CLOSE, and the packets that leave after it. -/
def State.mainWindowEnd (s : State) : State :=
  let s := s.mainWindowClose
  (s.render.frames.map (·.n)).foldl (fun s n => s.queueSynced n) s

/-! ### Meanings -/

/-- MAIN_WINDOW_CLOSE (R394, R443, R444). -/
def execMainWindowClose (dt : Nat) (s : State) : Host.Outcome State Fault Refusal := s.act dt (·.mainWindowEnd)
/-- EMISSION_INSTANT (R336 to R338, R394, R395): `kind` 0 sACN universe, 1 DMX port, 2 PWM output, 3 lane, 4 synchronisation
address. -/
def execEmissionInstant (dt kind number frame : Nat) (poison : Bool) (s : State) : Host.Outcome State Fault Refusal :=
  s.act dt (·.emissionInstant kind number frame poison)

end Sys2Proof.Machine
end

