-- ==== Sys2Proof/Machine/Lanes.lean ====
section
/-!
DEFINITION. Machine/Lanes.lean: the links of pixel lanes, their back-channel messages, latch acknowledgements and LANE_PHY_SET
(R310, R346, R347, R354 to R358, R372).
-/

namespace Sys2Proof.Machine

/-! ### Link states (R354) -/

/-- TIME cycles that a lane has been in TRAINING. -/
def State.laneAge (s : State) (l : Nat) : Nat := s.now - (s.lane l).since

/-- LANE_TRAINED: the sets of a back-channel's 64 in a row after at least 20 µs, or 100 µs without a back-channel. -/
def State.laneTrained (s : State) (l : Nat) : State :=
  let d := s.lane l
  if d.link = .training && (if d.phy.backchannel then 20 * cycUs else 100 * cycUs) ≤ s.laneAge l then
    s.setLane l { d with link := .up, since := s.now, failRaised := false }
  else s

/-- LANE_TRAIN_TIMEOUT: LANE_TRAIN_FAIL, once per stay in TRAINING. -/
def State.laneTrainTimeout (s : State) (l : Nat) : State :=
  let d := s.lane l
  if d.link = .training && !d.failRaised && 2 * cycMs ≤ s.laneAge l then
    (s.setLane l { d with failRaised := true }).raise 0x80
  else s

/-- LANE_LINK_LOSS: a lane frame being sent ends at once. -/
def State.laneLinkLoss (s : State) (l : Nat) : State :=
  let d := s.lane l
  if d.link != .up || !d.phy.backchannel then s
  else
    let s := if d.sendEnd.elim false fun x => decide (s.tb < x) then (s.flushLane l).emit (.laneCut l s.tb) else s
    (s.setLane l { (s.lane l).train s.now with sendEnd := none }).raise 0x81

/-- TRAINING again at the end of the lane frame being sent, or at once when none is being sent. -/
def State.laneRetrain (s : State) (l : Nat) : State :=
  let d := s.lane l
  if d.link != .up then s
  else s.setLane l (if d.sendEnd.elim false fun x => decide (s.tb < x) then { d with retrain := true } else d.train s.now)

/-! ### Back-channel messages (R357, R358) -/

/-- A message is discarded: counted while the receiver of the lane is on. -/
def State.laneDiscard (s : State) (l : Nat) : State :=
  let d := s.lane l
  if d.link = .off then s else s.setLane l { d with counts := bump 2 d.counts }

/-- A message arrives: the H64 discards it while the lane is not UP, and otherwise accepts it and acts. -/
def State.laneMessage (s : State) (l : Nat) (act : State → State) : State :=
  let d := s.lane l
  if d.link != .up then s.laneDiscard l else act (s.setLane l { d with counts := bump 1 d.counts })

/-- LATCH_ACK: the stamp of the latch, compared with the expected latch of the frame that it acknowledges (R310). -/
def State.latchAck (s : State) (l t frameLo ageNs : Nat) : State :=
  s.laneMessage l fun s =>
    let d := s.lane l
    match d.sent.find? fun x => x.frame % 4294967296 == frameLo with
    | none => s
    | some x =>
      let acks := if x.acks.contains t then x.acks else x.acks ++ [t]
      let s := s.setLane l { d with sent := d.sent.map fun y => if y.frame == x.frame then { y with acks := acks } else y }
      if !x.latchAck || !s.alive 8 x.canvas then s
      else
        let diff := s.tb - nsUnits ageNs - nsUnits x.cableNs - x.expect
        let s := s.setCanvas x.canvas { s.canvas x.canvas with latchDiffNs := roundDiv diff 65536 }
        if usUnits x.tolUs < absInt diff then s.canvasEvent x.canvas 1 else s

/-- A tile is missing from the acknowledgements of a FRAME: it acknowledged the canvas frame before, and not this one by the
expected latch + T_c / 2. -/
def LaneDyn.misses (d : LaneDyn) (t : Nat) (tb : Instant) (x : LaneSent) : Bool :=
  x.latchAck && decide (2 * x.expect + x.period ≤ 2 * tb) && !x.acks.contains t && !x.missed.contains t
    && d.sent.any fun y => some y.frame == x.prev && y.acks.contains t

/-- TILE_LATCH_MISSING_TIMEOUT of a tile. -/
def State.tileMissing (s : State) (l t : Nat) : State :=
  let d := s.lane l
  match d.sent.find? fun x => d.misses t s.tb x && s.alive 8 x.canvas with
  | none => s
  | some x =>
    (s.setLane l { d with
      sent := d.sent.map fun y => if y.frame == x.frame then { y with missed := y.missed ++ [t] } else y }).canvasEvent x.canvas 2

/-- TEMP: a reading for every temperature source that names the lane and tile (R327). -/
def State.tileTempRx (s : State) (l t : Nat) (failed : Bool) (raw : Nat) : State :=
  s.laneMessage l fun s =>
    s.tempReading (fun r => tsKind r == 2 && tsPort r == l && tsTile r == t) (fun _ => tileTemp (signed 16 (raw % 65536))) failed

/-- FAULT: an open (1) or a short (2) is a back-channel safety fault (R332). -/
def State.tileFault (s : State) (l t kind : Nat) : State :=
  s.laneMessage l fun s =>
    let s := if kind = 1 || kind = 2 then { s with render := { s.render with rawFaults := s.render.rawFaults ++ [.tile l t] } } else s
    s.raise 0x83

/-- RX_ERROR. -/
def State.laneRxError (s : State) (l : Nat) : State :=
  s.laneMessage l fun s =>
    let d := s.lane l
    (s.setLane l { d with counts := bump 4 d.counts }).raise 0x82

/-- The CRC-32C that a TEST_ECHO must return for the TEST of frame `n` (R349). -/
def testCrc (n : Nat) : Nat := (crc32c (testBlock n)).toNat

/-- TEST_ECHO: the loopback test of the lane has its echo where the CRC is that of the TEST block (R521). -/
def State.testEcho (s : State) (l frameLo crc : Nat) : State :=
  s.laneMessage l fun s =>
    if crc = testCrc frameLo then { s with group := { s.group with echoes := s.group.echoes.filter (· != l) } } else s

/-! ### LANE_PHY_SET (R372) -/

/-- LANE_PHY_SET (0x0902). -/
def lanePhySetSpec : CommandSpec :=
  { code := 0x0902, kind := .device, lengthOk := lenIs 8, roleOk := engineer
    argOk := fun c _ => bits (fld c.payload 1 1) 3 5 == 0 && zeroAt c.payload 4 4
    rangeOk := fun c _ => upTo c.payload 0 1 63 && upTo c.payload 2 1 3 && upTo c.payload 3 1 7
    body := fun c s =>
      let p := c.payload
      let l := fld p 0 1
      let f := fld p 1 1
      let phy : LanePhy :=
        { backchannel := bit f 0, txInvert := bit f 1, rxInvert := bit f 2, swing := fld p 2 1, deemph := fld p 3 1 }
      ((s.setLane l { s.lane l with phy := phy }).laneRetrain l).ok }

/-! ### Meanings -/

/-- LANE_LINK_LOSS (R354). -/
def execLaneLinkLoss (dt lane : Nat) (s : State) : Host.Outcome State Fault Refusal := s.act dt (·.laneLinkLoss lane)
/-- LATCH_ACK (R310, R357): FRAME[31:0] of the latched FRAME and AGE_NS. -/
def execLatchAck (dt lane tileNo frameLo ageNs : Nat) (s : State) : Host.Outcome State Fault Refusal :=
  s.act dt (·.latchAck lane tileNo frameLo ageNs)
/-- TILE_LATCH_MISSING_TIMEOUT (R310). -/
def execTileLatchMissingTimeout (dt lane tileNo : Nat) (s : State) : Host.Outcome State Fault Refusal :=
  s.act dt (·.tileMissing lane tileNo)
/-- TEMP (R327, R357): TEMP in units of 1/16 °C, as 16 bits. -/
def execTemp (dt lane tileNo : Nat) (failed : Bool) (raw : Nat) (s : State) : Host.Outcome State Fault Refusal :=
  s.act dt (·.tileTempRx lane tileNo failed raw)
/-- FAULT (R332, R357). -/
def execFault (dt lane tileNo kind : Nat) (s : State) : Host.Outcome State Fault Refusal := s.act dt (·.tileFault lane tileNo kind)
/-- RX_ERROR (R357). -/
def execRxError (dt lane : Nat) (s : State) : Host.Outcome State Fault Refusal := s.act dt (·.laneRxError lane)
/-- RETRAIN (R354, R357). -/
def execRetrain (dt lane : Nat) (s : State) : Host.Outcome State Fault Refusal :=
  s.act dt fun s => s.laneMessage lane fun s => s.laneRetrain lane
/-- TEST_ECHO (R357): FRAME[31:0] and the CRC of the TEST block as received. -/
def execTestEcho (dt lane frameLo crc : Nat) (s : State) : Host.Outcome State Fault Refusal := s.act dt (·.testEcho lane frameLo crc)
/-- BACKCHANNEL_MESSAGE_DISCARD (R358): CRC error, code violation, unknown TYPE or wrong length. -/
def execBackchannelMessageDiscard (dt lane : Nat) (s : State) : Host.Outcome State Fault Refusal := s.act dt (·.laneDiscard lane)
/-- LANE_PHY_SET (R372). -/
def execLanePhySet (dt m : Nat) (s : State) : Host.Outcome State Fault Refusal := s.act dt (·.runMbx lanePhySetSpec m)

end Sys2Proof.Machine
end

