-- ==== Sys2Proof/Machine/LaneCode.lean ====
section
/-!
DEFINITION. Machine/LaneCode.lean: the code groups of pixel lanes and back-channels: 8b/10b with running disparity, ordered sets, lane
frames and back-channel messages as they stand on the wire (R346 to R349, R357, R358).

The code tables are those of IEEE 802.3 clause 36, which the spec names and does not copy (PRESUMED, assumption 43).
-/

namespace Sys2Proof.Machine

/-! ### 8b/10b -/

/-- A code group: a data byte, or one of the four special groups that the ordered sets use. -/
inductive CodeGroup where
  | data (b : Byte)
  | k28_5
  | k28_0
  | k27_7
  | k29_7
  deriving DecidableEq, Repr

/-- The 6-bit code abcdei of D.x where the running disparity is negative. -/
def sixBits (x : Nat) : Nat :=
  ([0b100111, 0b011101, 0b101101, 0b110001, 0b110101, 0b101001, 0b011001, 0b111000, 0b111001, 0b100101, 0b010101, 0b110100, 0b001101,
    0b101100, 0b011100, 0b010111, 0b011011, 0b100011, 0b010011, 0b110010, 0b001011, 0b101010, 0b011010, 0b111010, 0b110011, 0b100110,
    0b010110, 0b110110, 0b001110, 0b101110, 0b011110, 0b101011] : List Nat).getD x 0

/-- The 4-bit code fghj of D.x.y where the running disparity is negative. -/
def fourBits (y : Nat) : Nat := ([0b1011, 0b1001, 0b0101, 0b1100, 0b1101, 0b1010, 0b0110, 0b1110] : List Nat).getD y 0

/-- The ones of a code of `k` bits. -/
def onesOf (k v : Nat) : Nat := ((List.range k).filter (bit v)).length

/-- A code of `k` bits chosen for a running disparity: complemented where it is positive, for the codes that have two forms. -/
def forDisparity (rd : Bool) (k v : Nat) (two : Bool) : Nat := if rd && two then 2 ^ k - 1 - v else v

/-- The running disparity after a code of `k` bits. -/
def afterBits (rd : Bool) (k v : Nat) : Bool := if k < 2 * onesOf k v then true else if 2 * onesOf k v < k then false else rd

/-- The alternate code of D.x.7, which avoids five equal bits in a row. -/
def alternate7 (rd : Bool) (x : Nat) : Bool := if rd then x == 11 || x == 13 || x == 14 else x == 17 || x == 18 || x == 20

/-- The ten bits of a data byte, first bit sent highest. -/
def dataBits (rd : Bool) (b : Nat) : Nat :=
  let x := b % 32
  let y := b / 32
  let six := forDisparity rd 6 (sixBits x) (onesOf 6 (sixBits x) != 3 || x == 7)
  let rd' := afterBits rd 6 six
  let v := if y = 7 && alternate7 rd' x then 0b0111 else fourBits y
  six * 16 + forDisparity rd' 4 v (onesOf 4 v != 2 || y == 3)

/-- The ten bits of a code group under a running disparity; `rd` stands for a positive one. -/
def CodeGroup.bits10 (rd : Bool) : CodeGroup → Nat
  | .data b => dataBits rd b.toNat
  | .k28_5 => forDisparity rd 10 0b0011111010 true
  | .k28_0 => forDisparity rd 10 0b0011110100 true
  | .k27_7 => forDisparity rd 10 0b1101101000 true
  | .k29_7 => forDisparity rd 10 0b1011101000 true

/-- The bits of code groups sent one after the other, and the running disparity after them. -/
def encodeGroups (rd : Bool) : List CodeGroup → List Nat × Bool
  | [] => ([], rd)
  | g :: gs =>
    let v := g.bits10 rd
    let r := encodeGroups (afterBits rd 10 v) gs
    (v :: r.1, r.2)

/-- All code groups. -/
def allGroups : List CodeGroup :=
  [.k28_5, .k28_0, .k27_7, .k29_7] ++ (List.range 256).map fun b => .data (BitVec.ofNat 8 b)

/-- The code group that ten received bits stand for; none is a code violation. -/
def decodeGroup (rd : Bool) (v : Nat) : Option CodeGroup := allGroups.find? fun g => g.bits10 rd == v

/-- A code group takes 3.2 ns on a lane and 51.2 ns on a back-channel, in units of 1/5 of 2^-16 ns (R346). -/
def laneGroupFifths : Nat := 16 * 65536
def backGroupFifths : Nat := 256 * 65536

/-! ### Ordered sets (table "Lane ordered sets") -/

def setIdle (rd : Bool) : List CodeGroup := [.k28_5, .data (if rd then 0xC5 else 0x50)]
def setTrain : List CodeGroup := [.k28_5, .data 0x4A]
def setSof : List CodeGroup := [.k27_7]
def setEof : List CodeGroup := [.k29_7]
def setGap (b : Nat) : List CodeGroup := [.k28_0, .data (BitVec.ofNat 8 b)]

/-- IDLE for `n` code groups; the last one is cut short after its K28.5 where a SOF or GAP must begin (R347). An IDLE leaves the running
disparity negative. -/
def idleFill (rd : Bool) : Nat → List CodeGroup
  | 0 => []
  | 1 => [.k28_5]
  | n + 2 => setIdle rd ++ idleFill false n

/-- What a lane sends between lane frames and GAP marks; none is electrical idle (R351, R354). -/
def LaneDyn.filler (d : LaneDyn) (rd : Bool) : Option (List CodeGroup) :=
  match d.link with
  | .off => none
  | .training => some setTrain
  | .up => some (setIdle rd)

/-! ### Lane frames and back-channel messages -/

/-- The code groups of a lane frame: SOF, header with its CRC, payload, EOF. -/
def laneFrameGroups (h : LaneHeader) (payload : Bytes) : List CodeGroup :=
  setSof ++ (h.encoded ++ payload).map .data ++ setEof

/-- The code groups of what leaves on a lane. -/
def OutEvent.laneGroups : OutEvent → List CodeGroup
  | .lane _ _ h payload => laneFrameGroups h payload
  | .gap _ _ b => setGap b
  | .laneCut _ _ => setEof
  | _ => []

/-- A back-channel message: TYPE, TILE and BODY. -/
structure BackMessage where
  type_ : Nat
  tile : Nat
  body : Bytes
  deriving DecidableEq, Repr

/-- TYPE, TILE and BODY as bytes. -/
def BackMessage.bytes (m : BackMessage) : Bytes := bytesLE 1 m.type_ ++ bytesLE 2 m.tile ++ m.body

/-- The code groups of a message, with its CRC-32C. -/
def BackMessage.groups (m : BackMessage) : List CodeGroup :=
  setSof ++ (m.bytes ++ bytesLE 4 (crc32c m.bytes).toNat).map .data ++ setEof

/-- The length of the body of a TYPE (R357). -/
def backLength (type_ : Nat) : Option Nat := ([(1, 8), (2, 4), (3, 4), (4, 8), (5, 0), (6, 8)].find? fun e => e.1 == type_).map (·.2)

/-- The byte of a data code group. -/
def CodeGroup.byte? : CodeGroup → Option Byte
  | .data b => some b
  | _ => none

/-- The message that received code groups carry between SOF and EOF; none where the H64 discards them: a CRC error, an unknown TYPE, or a
body length that does not suit it (R358). -/
def readBack (gs : List CodeGroup) : Option BackMessage :=
  let bs := gs.filterMap (·.byte?)
  let n := bs.length - 4
  let m : BackMessage := ⟨fld bs 0 1, fld bs 1 2, slice bs 3 (n - 3)⟩
  if bs.length == gs.length && 7 ≤ bs.length && beNat ((slice bs n 4).reverse) == (crc32c (bs.take n)).toNat
      && backLength m.type_ == some (n - 3) then some m
  else none

end Sys2Proof.Machine
end

