-- ==== Sys2Proof/Machine/Rdm.lean ====
section
/-!
DEFINITION. Machine/Rdm.lean: RDM transactions on DMX ports (R327, R332, R361 to R364, R372, R373). The layout of ANSI E1.20
packets is not in the spec (PRESUMED, assumption 43).
-/

namespace Sys2Proof.Machine

/-! ### The request (R362) -/

/-- The fields of a RDM_TRANSACTION request. -/
def RdmJob.port (j : RdmJob) : Nat := fld j.payload 0 1
def RdmJob.pdl (j : RdmJob) : Nat := fld j.payload 1 1
def RdmJob.cc (j : RdmJob) : Nat := fld j.payload 2 1
def RdmJob.dest (j : RdmJob) : Nat := beNat (slice j.payload 4 6)
def RdmJob.pid (j : RdmJob) : Nat := beNat (slice j.payload 12 2)
def RdmJob.respCap (j : RdmJob) : Nat := fld j.payload 14 2
def RdmJob.respOff (j : RdmJob) : Nat := fld j.payload 16 8

/-- DISC_UNIQUE_BRANCH: command class 0x10, PID 0x0001. -/
def RdmJob.discovers (j : RdmJob) : Bool := j.cc == 0x10 && j.pid == 1

/-- The request goes to every device, or to every device of a manufacturer. -/
def RdmJob.broadcast (j : RdmJob) : Bool := j.dest % 2 ^ 32 == 0xFFFFFFFF

/-- The sum of bytes, 16 bits. -/
def rdmSum (bs : Bytes) : Nat := (bs.map (·.toNat)).sum % 65536

/-- The packet of a request, from its start code on. -/
def RdmJob.packet (j : RdmJob) (uid tn : Nat) : Bytes :=
  let head : Bytes := bytesBE 1 0xCC ++ bytesBE 1 0x01 ++ bytesBE 1 (24 + j.pdl) ++ slice j.payload 4 6 ++ bytesBE 6 uid ++ bytesBE 1 tn
    ++ bytesBE 1 (j.port + 1) ++ bytesBE 1 0 ++ slice j.payload 10 2 ++ bytesBE 1 j.cc ++ slice j.payload 12 2 ++ bytesBE 1 j.pdl
    ++ slice j.payload 24 j.pdl
  head ++ bytesBE 2 (rdmSum head)

/-- The time from the break to the end of the last stop bit, in µs (table "RDM transaction"). -/
def RdmJob.requestUs (j : RdmJob) : Nat := 176 + 12 + 44 * (26 + j.pdl)

/-- RDM_TRANSACTION (0x0911). -/
def rdmTransactionSpec : CommandSpec :=
  { code := 0x0911, kind := .device, roleOk := engineer
    lengthOk := fun p => 0x18 ≤ p.length && p.length == 0x18 + fld p 1 1
    argOk := fun c _ => zeroAt c.payload 3 1
    rangeOk := fun c _ => [0x10, 0x20, 0x30].contains (fld c.payload 2 1) && upTo c.payload 0 1 15 && upTo c.payload 1 1 231 && upTo c.payload 14 2 512
      && regionOk (fld c.payload 16 8) (fld c.payload 14 2)
    body := fun c s =>
      let j := fld c.payload 0 1
      let d := s.dmxPort j
      let cfg := s.txn.view.ports.dmx.getD j {}
      if cfg.input || cfg.uid = 0 || !s.emits || !s.enabled 4 j then s.fail .conflict
      else if 4 ≤ d.queue.length then (s.queueOverflow (0x30 + fld c.payload 0 1)).fail .busy
      else s.accept c (.job [j] []) [] fun id s =>
        let d := s.dmxPort j
        s.setDmx j { d with queue := d.queue ++ [⟨id, c.payload, s.now⟩] } }

/-! ### The start (R364) -/

/-- The next emission instant of a DMX port. -/
def State.nextDmxInstant (s : State) (j : Nat) : Option Instant :=
  let flying := s.render.frames.filter fun r => !r.settled.contains (outKey 1 j)
  let ahead := if s.clock.run then (List.range 9).map fun i => s.aheadFrame (s.clock.nextLatch + i) else []
  (sortBy (fun a b => decide (a ≤ b)) ((flying ++ ahead).map fun r => r.instantOf 1 j)).head?

/-- RDM_TRANSACTION_START on a port. -/
def State.rdmStart (s : State) (j : Nat) : State :=
  let d := s.dmxPort j
  match d.queue with
  | [] => s
  | job :: rest =>
    let cfg := s.txn.view.ports.dmx.getD j {}
    let room := (s.nextDmxInstant j).elim true fun x => decide (s.tb + usUnits (job.requestUs + 5800) ≤ x)
    let forced := job.since + 500 * cycMs ≤ s.now
    if d.busy s.tb || !s.emits || !s.enabled 4 j || !(room || forced) then s
    else
      let counts := bump 1 d.counts
      let run : RdmRun := { job := job, tn := d.tn, startAt := s.tb, reqPos := s.pos }
      (s.setDmx j { d with
        queue := rest, tn := (d.tn + 1) % 256, run := some run, turnaround := false, deferDrive := false
        counts := if room then counts else bump 4 counts }).emit (.rdm j s.tb job.op (job.packet cfg.uid d.tn))

/-! ### The response (R327, R332, R363) -/

/-- A byte of a discovery response from its two encoded bytes. -/
def discByte (a b : Byte) : Option Byte :=
  if a &&& 0xAA == 0xAA && b &&& 0x55 == 0x55 then some (a &&& b) else none

/-- The bytes of a discovery response from their encoded pairs. -/
def discBytes : Bytes → Option Bytes
  | [] => some []
  | [_] => none
  | a :: b :: rest => match discByte a b, discBytes rest with
    | some x, some xs => some (x :: xs)
    | _, _ => none

/-- Received bytes decode as exactly one discovery response. -/
def discOk (bs : Bytes) : Bool :=
  let pre := (bs.takeWhile (· == 0xFE)).length
  let body := bs.drop (pre + 1)
  pre ≤ 7 && bs.getD pre 0 == 0xAA && body.length == 16
    && (discBytes body).elim false fun x => beNat (x.drop 6) == rdmSum (body.take 12)

/-- Received bytes are a complete response with a valid checksum. -/
def rdmOk (bs : Bytes) : Bool :=
  let len := fld bs 2 1
  fld bs 0 1 == 0xCC && fld bs 1 1 == 1 && 24 ≤ len && len + 2 ≤ bs.length && beNat (slice bs len 2) == rdmSum (bs.take len)

/-- RESULT. `brk`: a response break came. -/
def RdmJob.result (j : RdmJob) (brk : Bool) (bs : Bytes) : Nat :=
  if j.discovers then (if bs.isEmpty then 1 else if discOk bs then 0 else 3)
  else if j.broadcast then 4
  else if !brk then 1
  else if rdmOk bs then 0 else 2

/-- A response that is a reading of temperature sources: GET SENSOR_VALUE, PID 0x0201. A NACK names the sensor of the request. -/
def State.rdmSensor (s : State) (j : RdmJob) (bs : Bytes) : State :=
  let nack := fld bs 16 1 == 2
  if fld bs 20 1 != 0x21 || beNat (slice bs 21 2) != 0x0201 || !(nack || fld bs 16 1 == 0) then s
  else
    let sensor := if nack then fld j.payload 24 1 else fld bs 24 1
    let uid := beNat (slice bs 9 6)
    let present := signed 16 (beNat (slice bs 25 2))
    s.tempReading (fun r => tsKind r == 1 && tsPort r == j.port && tsSensor r == sensor && tsUid r == uid) (fun r => rdmTemp r present) nack

/-- A response that is a lamp fault: GET LAMP_STATE, PID 0x0403, LAMP_NOT_PRESENT or LAMP_ERROR. -/
def State.rdmLamp (s : State) (j : RdmJob) (bs : Bytes) : State :=
  let st := fld bs 24 1
  if fld bs 20 1 == 0x21 && beNat (slice bs 21 2) == 0x0403 && fld bs 16 1 == 0 && (st == 0x04 || st == 0x7F) then
    { s with render := { s.render with rawFaults := s.render.rawFaults ++ [.lamp j.port (beNat (slice bs 9 6))] } }
  else s

/-- The transaction may end: a response ends after its request, and an empty window when it closes. -/
def RdmRun.ended (r : RdmRun) (brk : Bool) (tb : Instant) : Bool :=
  let t1 := r.startAt + usUnits r.job.requestUs
  let wait := if r.job.discovers then 2800 else if r.job.broadcast then 176 else if brk then 0 else 2800
  decide (t1 + usUnits wait ≤ tb)

/-- RDM_RESPONSE_END on a port: the received bytes, from the start code on. -/
def State.rdmEnd (s : State) (j : Nat) (brk : Bool) (bs : Bytes) : State :=
  let d := s.dmxPort j
  match d.run with
  | none => s
  | some run =>
    if !run.ended brk s.tb then s
    else
      let job := run.job
      let quiet := job.broadcast && !job.discovers
      let bs := if quiet then [] else bs
      let result := job.result brk bs
      let counts := if result = 0 then d.counts else bump 3 d.counts
      let s := s.setDmx j { d with run := none, sendEnd := some (s.tb + usUnits 176), turnaround := true, counts := counts }
      let s := if result = 0 && !job.discovers then (s.rdmSensor job bs).rdmLamp job bs else s
      let out := bs.take job.respCap
      let s := if out.isEmpty then s else (s.writeRegion job.respOff out).memWritten 0
      s.endOpId job.op .ok s.pos (bytesLE 1 result ++ bytesLE 1 run.tn ++ bytesLE 2 bs.length ++ zeros 4 ++ posBytes run.reqPos ++ zeros 6)

/-! ### The signals of a DMX port (R361, R363, R370) -/

/-- The request of the transaction on the wire is still being sent. -/
def RdmRun.requesting (r : RdmRun) (tb : Instant) : Bool := decide (tb < r.startAt + usUnits r.job.requestUs)

/-- The port sends a DMX packet or an RDM request; otherwise its transmit signal is at mark. -/
def State.dmxTransmits (s : State) (j : Nat) : Bool :=
  let d := s.dmxPort j
  match d.run with
  | some r => r.requesting s.tb
  | none => !d.turnaround && s.ahead d.sendEnd

/-- The driver-enable signal of a port: asserted while it sends, and on an output-direction port that is not DISABLED, on a device that is
not a standby, but for the span from the last stop bit of an RDM request to 176 µs after the transaction. -/
def State.driverEnable (s : State) (j : Nat) : Bool :=
  let d := s.dmxPort j
  let quiet := d.run.isSome || (d.turnaround && s.ahead d.sendEnd)
  s.alive 4 j && (s.dmxTransmits j
    || (!quiet && !(s.txn.view.ports.dmx.getD j {}).input && s.emits && !d.deferDrive))

/-! ### Meanings -/

/-- RDM_TRANSACTION (R362, R364, R373). -/
def execRdmTransaction (dt m : Nat) (s : State) : Host.Outcome State Fault Refusal := s.act dt (·.runMbx rdmTransactionSpec m)
/-- RDM_TRANSACTION_START (R362 to R364). -/
def execRdmTransactionStart (dt port : Nat) (s : State) : Host.Outcome State Fault Refusal := s.act dt (·.rdmStart port)
/-- RDM_RESPONSE_END (R362, R363): whether a response break came, and the bytes received. -/
def execRdmResponseEnd (dt port : Nat) (brk : Bool) (bytes : Bytes) (s : State) : Host.Outcome State Fault Refusal :=
  s.act dt (·.rdmEnd port brk bytes)

end Sys2Proof.Machine
end

