-- ==== Sys2Proof/Machine/Pwm.lean ====
section
/-!
DEFINITION. Machine/Pwm.lean: the periods and the open-load sense of local PWM outputs (R332, R336, R365 to R369).
-/

namespace Sys2Proof.Machine

/-! ### Periods (R365 to R368) -/

/-- The count of the PWM counter: PWM cycles of 5 ns, TIME cycles of 2 ns. -/
def State.pwmCount (s : State) : Nat := 2 * (s.now - s.ports.pwmBase) / 5

/-- The latest period start at or before a count. -/
def PwmCfg.startAt (c : PwmCfg) (j count : Nat) : Option Nat :=
  let o := c.offsetOf j
  if count < o then none else some (count - (count - o) % max 1 c.period)

/-- A period start that output `j` has not taken yet. -/
def State.pwmDue (s : State) (j : Nat) : Option Nat :=
  let d := s.pwmOut j
  (d.cfg.startAt j s.pwmCount).bind fun c => if d.lastStart.elim true (· < c) then some c else none

/-- The value that a period start loads: the newest whose instant, rounded down to a TIME tick, has come (R336). -/
def PwmDyn.load (d : PwmDyn) (tb : Instant) : PwmDyn :=
  match (d.loads.filter fun x => decide (x.at_ < tb + tickUnits)).getLast? with
  | none => d
  | some x => { d with value := some (x.width, x.value), loads := d.loads.filter fun y => decide (tb + tickUnits ≤ y.at_) }

/-- The active counts of the period that begins. -/
def PwmDyn.active (d : PwmDyn) : Nat :=
  match d.value with
  | some v => d.cfg.active v.1 v.2
  | none => 0

/-- A change of settings that waits takes effect at this period end; the next start is one of the new grid. -/
def PwmDyn.adopt (d : PwmDyn) (c : PwmCfg) (count : Nat) : PwmDyn :=
  { d with cfg := c, change := none, running := false, lastStart := some count }

/-- PWM_PERIOD_START of output `j`. -/
def State.pwmPeriodStart (s : State) (j : Nat) : State :=
  match s.pwmDue j with
  | none => s
  | some count =>
    let d := s.pwmOut j
    let stays := d.change.filter fun c => c.bitCount == d.cfg.bitCount && c.divider == d.cfg.divider && c.offset == d.cfg.offset
    match d.change, stays with
    | some c, none =>
      let d := d.adopt c count
      let due := c.startAt j count == some count
      if due then
        let d := d.load s.tb
        let drives := s.enabled 5 j && s.emits
        (s.setPwm j { d with running := drives, sensed := false }).emit (.pwm j s.tb (if drives then d.active else 0))
      else (s.setPwm j d).emit (.pwm j s.tb 0)
    | _, _ =>
      let d := (d.change.elim d fun c => ({ d with cfg := c, change := none } : PwmDyn)).load s.tb
      let drives := s.enabled 5 j && s.emits
      let act := if drives then d.active else 0
      (s.setPwm j { d with lastStart := some count, running := drives, sensed := false }).emit (.pwm j s.tb act)

/-! ### Open-load sense (R369) -/

/-- The current frame of the show clock, in which a detection falls. -/
def State.frameNow (s : State) : Nat := posFrame s.pos

/-- PWM_SENSE_SAMPLE of output `j`: whether the sample shows load current. -/
def State.pwmSense (s : State) (j : Nat) (current : Bool) : State :=
  let d := s.pwmOut j
  let edge := d.lastStart.getD 0
  let tests := bit d.cfg.flags 1 && d.running && !d.sensed && d.cfg.senseCounts + 40 ≤ d.active
    && edge + d.cfg.senseCounts ≤ s.pwmCount && s.enabled 5 j && s.emits
  if !tests then s
  else
    let run := if current then 0 else d.senseRun + 1
    let again := decide (4 < run) && d.detectFrame != some s.frameNow
    let hit := run == 4 || again
    let s := s.setPwm j { d with
      sensed := true, tested := d.tested + 1, senseRun := run, detectFrame := if hit then some s.frameNow else d.detectFrame
      detections := if hit then d.detections + 1 else d.detections }
    if hit then
      ({ s with render := { s.render with rawFaults := s.render.rawFaults ++ [.pwm j] } } : State).raise 0x84
    else s

/-! ### Meanings -/

/-- PWM_PERIOD_START (R336, R365 to R368). -/
def execPwmPeriodStart (dt output : Nat) (s : State) : Host.Outcome State Fault Refusal := s.act dt (·.pwmPeriodStart output)
/-- PWM_SENSE_SAMPLE (R369). -/
def execPwmSenseSample (dt output : Nat) (current : Bool) (s : State) : Host.Outcome State Fault Refusal :=
  s.act dt (·.pwmSense output current)

end Sys2Proof.Machine
end

