-- ==== Sys2Proof/Machine/Display.lean ====
section
/-!
DEFINITION. Machine/Display.lean: tearing-effect inputs (R311, R320) and the DisplayPort confidence output (R314 to R317, R320,
R321, R562).
-/

namespace Sys2Proof.Machine

/-! ### Tearing-effect inputs -/

/-- A tearing-effect input. -/
def State.te (s : State) (i : Nat) : TeDyn := s.ports.te.getD i {}

/-- A tearing-effect input changed. -/
def State.setTe (s : State) (i : Nat) (d : TeDyn) : State := { s with ports := { s.ports with te := s.ports.te.put i d } }

/-- TE_SET (0x0705). It applies from the next edge. -/
def teSetSpec : CommandSpec :=
  { code := 0x0705, kind := .device, lengthOk := lenIs 8, roleOk := operator
    argOk := fun c _ => zeroAt c.payload 3 1
    rangeOk := fun c _ => upTo c.payload 0 1 3 && upTo c.payload 1 1 7 && within c.payload 2 1 1 2
      && decide (absInt (fldS c.payload 4 4) < 1000000000)
    body := fun c s =>
      let p := c.payload
      (s.setTe (fld p 0 1) { canvas := some (fld p 1 1), edge := fld p 2 1, offsetNs := fldS p 4 4, since := s.tb }).ok }

/-- The expected latches of a frame record whose scan has not started. -/
def FrameRec.expectAhead (r : FrameRec) (k : Nat) : Option LatchExpect :=
  (r.view.canvas.canvases.find k).bind fun c => (r.scanStart k c).map fun x => r.expectOf k c x

/-- The expected latches of a canvas that an edge with a negative or positive offset may concern: those of the scans that have
started, of the frames in flight, and of the frames of the next second. -/
def State.expectsOf (s : State) (k : Nat) : List LatchExpect :=
  let flying := s.render.frames.filter fun r => r.hasCanvas k && !(r.win k).scanDone
  let ahead := if s.clock.run then
      ((List.range 256).map fun i => s.aheadFrame (s.clock.nextLatch + i)).filter fun r => r.hasCanvas k && (r.view.sliceMode k).isNone
    else []
  (s.canvas k).expects ++ (flying ++ ahead).filterMap (·.expectAhead k)

/-- The input is ENABLED and bound to a canvas that is not DISABLED (R297), and selects an edge of this kind: 1 rising, 2 falling. -/
def State.teOn (s : State) (i : Nat) : Bool := s.enabled 0x10 i && (s.te i).canvas.elim false fun k => s.alive 8 k

/-- The distance of an instant from the expected edge of a canvas frame. -/
def TeDyn.distance (d : TeDyn) (x : Instant) (e : LatchExpect) : Units := absInt (x - (e.at_ + d.offsetNs * 65536))

/-- TE_EDGE. -/
def State.teEdge (s : State) (i : Nat) (rising : Bool) : State :=
  let d := s.te i
  let k := d.canvas.getD 0
  if !s.teOn i || rising != (d.edge == 1) then s
  else
    match (s.expectsOf k).find? fun e => decide (2 * d.distance s.tb e ≤ e.period) with
    | none => s
    | some e =>
      let s := s.setTe i { d with matched := e.frame :: d.matched.filter (· != e.frame) }
      if usUnits e.tolUs < d.distance s.tb e then s.canvasEvent k 3 else s

/-- The first canvas frame whose span of T_c / 2 around the expected edge has passed since the binding, and that has not been
looked at. -/
def State.teDue (s : State) (i : Nat) : Option LatchExpect :=
  let d := s.te i
  let late (e : LatchExpect) : Bool :=
    let x := e.at_ + d.offsetNs * 65536
    decide (2 * x + e.period < 2 * s.tb) && decide (2 * d.since ≤ 2 * x - e.period) && d.checked.elim true (· < e.frame)
  (sortBy (fun a b => decide (a.frame ≤ b.frame)) ((s.expectsOf (d.canvas.getD 0)).filter late)).head?

/-- TE_MISSING_TIMEOUT. -/
def State.teMissing (s : State) (i : Nat) : State :=
  let d := s.te i
  if !s.teOn i then s
  else match s.teDue i with
    | none => s
    | some e =>
      let found := d.matched.contains e.frame
      let s := s.setTe i { d with checked := some e.frame, matched := d.matched.filter (e.frame < ·) }
      if found then s else s.canvasEvent (d.canvas.getD 0) 4

/-! ### Confidence modes (R314) -/

/-- Width, height and pixel clock in kHz of a mode. -/
def dpMode (m : Nat) : Option (Nat × Nat × Nat) :=
  ([(640, 480, 25175), (1280, 720, 74250), (1280, 720, 74250), (1920, 1080, 74250), (1920, 1080, 74250), (1920, 1080, 74250),
    (1920, 1080, 148500), (1920, 1080, 148500), (1920, 1200, 154000), (3840, 2160, 297000), (3840, 2160, 297000), (3840, 2160, 297000),
    (3840, 2160, 594000), (3840, 2160, 594000)] : List (Nat × Nat × Nat))[m - 1]?

/-- The rate of a main-link lane in kbit/s: RBR, HBR, HBR2, HBR3. -/
def dpRate (code : Nat) : Nat := ([1620000, 2700000, 5400000, 8100000] : List Nat).getD (code - 1) 0

/-- The settings fit a trained link (R315). -/
def DisplayCfg.fits (c : DisplayCfg) (link : Nat × Nat) : Bool :=
  (dpMode c.mode).elim false fun m => 10 * (m.2.2 * 3 * c.bpc) ≤ 8 * (dpRate link.1 * link.2)

/-- DISPLAY_SET (0x0710). -/
def displaySetSpec : CommandSpec :=
  { code := 0x0710, kind := .device, lengthOk := lenIs 24, roleOk := operator
    argOk := fun c _ => zeroAt c.payload 3 1 && zeroAt c.payload 0x14 4
    rangeOk := fun c _ =>
      let p := c.payload
      within p 0 1 1 14 && (fld p 1 1 == 8 || fld p 1 1 == 10) && upTo p 2 1 7
        && (dpMode (fld p 0 1)).elim false fun m => fld p 0x0C 2 + fld p 0x10 2 ≤ m.1 && fld p 0x0E 2 + fld p 0x12 2 ≤ m.2.1
    body := fun c s =>
      let p := c.payload
      let rect (o : Nat) : Rect := ⟨fld p o 2, fld p (o + 2) 2, fld p (o + 4) 2, fld p (o + 6) 2⟩
      let cfg : DisplayCfg := { mode := fld p 0 1, bpc := fld p 1 1, canvas := fld p 2 1, src := rect 4, dst := rect 0x0C }
      let d := s.ports.display
      if d.link.elim false fun l => !cfg.fits l then s.fail .conflict
      else ({ s with ports := { s.ports with display := { d with stored := cfg, changed := d.link.isSome } } } : State).ok }

/-! ### The link (R315) -/

/-- The DisplayPort output changed. -/
def State.setDisplay (s : State) (d : DisplayDyn) : State := { s with ports := { s.ports with display := d } }

/-- One of the three events of the output: counted and raised. -/
def State.displayEvent (s : State) (i : Nat) : State :=
  let d := s.ports.display
  (s.setDisplay { d with counts := bump i d.counts }).raise (0x76 + i)

/-- DP_HPD_CHANGE: hot-plug detect rises or falls. -/
def State.dpHpd (s : State) (present : Bool) : State :=
  let d := s.ports.display
  if d.hpd = present then s
  else
    let d := { d with hpd := present, training := present && s.enabled 6 0, link := none, failed := false, changed := false }
    let s := s.setDisplay d
    if s.alive 6 0 then s.displayEvent 0 else s

/-- DP_IRQ_HPD: the link is trained again where its status shows that lock is lost. -/
def State.dpIrq (s : State) (lockLost : Bool) : State :=
  let d := s.ports.display
  if d.hpd && d.link.isSome && lockLost && s.enabled 6 0 then s.setDisplay { d with training := true, link := none } else s

/-- Settings come into force: at a change of MODE or BPC at most two frames are black, how many is free, and DP_MODE_CHANGED follows
(R317). -/
def State.displayForce (s : State) (cfg : DisplayCfg) : State :=
  let d := s.ports.display
  if cfg.mode = d.force.mode && cfg.bpc = d.force.bpc then s.setDisplay { d with force := cfg, changed := false, low := false }
  else
    let f := s.fresh
    f.2.setDisplay { d with force := cfg, changed := false, low := false, black := f.1 % 3, announce := true, line := 0 }

/-- DP_TRAINING_DONE: the link that training yields, as LINK_RATE and LANES, or none. -/
def State.dpTrained (s : State) (link : Option (Nat × Nat)) : State :=
  let d := s.ports.display
  if !d.training || !s.enabled 6 0 then s
  else match link with
    | none => (s.setDisplay { d with training := false, failed := true, failedAt := s.now, link := none }).displayEvent 1
    | some l =>
      let s := s.setDisplay { d with training := false, failed := false, link := some l, line := 0 }
      if d.stored.fits l then s.displayForce d.stored
      else
        let low : DisplayCfg := { d.stored with mode := 1, bpc := 8 }
        (s.setDisplay { s.ports.display with force := low, low := true, announce := false, black := 0 }).displayEvent 2

/-- A link that DisplayPort has: a rate of R314 and 1, 2 or 4 lanes. -/
def dpLinkOk (link : Option (Nat × Nat)) : Bool := link.elim true fun l => 1 ≤ l.1 && l.1 ≤ 4 && [1, 2, 4].contains l.2

/-- DP_TRAIN_RETRY: once per second while a sink is present. -/
def State.dpRetry (s : State) : State :=
  let d := s.ports.display
  if d.failed && d.hpd && !d.training && d.failedAt + cycSec ≤ s.now && s.enabled 6 0 then s.setDisplay { d with training := true }
  else s

/-- The output sends frames. -/
def State.displaySends (s : State) : Bool :=
  s.alive 6 0 && s.ports.display.link.isSome && !s.ports.display.pllLost

/-! ### Frames and lines (R316, R317) -/

/-- The stored settings do not fit the trained link: the output shows black. -/
def DisplayDyn.misfit (d : DisplayDyn) : Bool := d.link.elim false fun l => !d.stored.fits l

/-- DP_VBLANK. -/
def State.dpVblank (s : State) : State :=
  if !s.displaySends then s
  else
    let s := if s.ports.display.changed then s.displayForce s.ports.display.stored else s
    let d := s.ports.display
    let s := s.setDisplay { d with line := 0, black := d.black - 1, announce := d.announce && d.black != 0 }
    if d.announce && d.black = 0 then s.displayEvent 2 else s

/-- A component round((c / 65,535)^(1/2.2) × top): the largest m with ((2m − 1) / 2·top)^11 ≤ (c / 65,535)^5. -/
def gammaUp (c top : Nat) : Nat :=
  let fits (m : Nat) : Bool := m == 0 || (2 * m - 1) ^ 11 * 65535 ^ 5 ≤ c ^ 5 * (2 * top) ^ 11
  (List.range 10).foldl (fun m i => if m + 2 ^ (9 - i) ≤ top && fits (m + 2 ^ (9 - i)) then m + 2 ^ (9 - i) else m) 0

/-- R, G and B of a pixel of the scan-out store. -/
def dpPixel (px : List Nat) (bpc : Nat) : List Nat :=
  (px.take 3).map fun c => gammaUp (min 65535 (c + px.getD 3 0)) (2 ^ bpc - 1)

/-- The canvas that the confidence output reads: as it stood in the frame in front. -/
def State.frontCanvas (s : State) (k : Nat) : Option Canvas :=
  let v := (s.frame (s.canvas k).lastFlipFrame).elim s.txn.view (·.view)
  if s.alive 8 k && s.txn.view.canvas.canvases.has k then v.canvas.canvases.find k else none

/-- The pixel of the output at (x, y). -/
def State.dpAt (s : State) (cfg : DisplayCfg) (x y : Nat) : List Nat :=
  let q := cfg.dst
  match s.frontCanvas cfg.canvas with
  | none => [0, 0, 0]
  | some c =>
    let w := min cfg.src.w (c.width - cfg.src.x)
    let h := min cfg.src.h (c.height - cfg.src.y)
    if x < q.x || q.x + q.w ≤ x || y < q.y || q.y + q.h ≤ y || w = 0 || h = 0 then [0, 0, 0]
    else
      let sx := cfg.src.x + (2 * (x - q.x) + 1) * w / (2 * q.w)
      let sy := cfg.src.y + (2 * (y - q.y) + 1) * h / (2 * q.h)
      dpPixel (storePixel s.render.store (s.canvas cfg.canvas).front (c.index sx sy)) cfg.bpc

/-- DP_LINE_FETCH: the next line of the output; a poisoned pixel is black (R479). -/
def State.dpLine (s : State) (bad : List Nat) : State :=
  let d := s.ports.display
  match dpMode d.force.mode with
  | none => s
  | some m =>
    if !s.displaySends || m.2.1 ≤ d.line then s
    else
      let dark := 0 < d.black || d.announce || d.low
      let px := (List.range m.1).flatMap fun x => if dark || bad.contains x then [0, 0, 0] else s.dpAt d.force x d.line
      (s.setDisplay { d with line := d.line + 1 }).emit (.display d.line px)

/-! ### The DPX PLL (R562) -/

/-- DP_PLL_LOSS: the output blanks. -/
def State.dpPllLoss (s : State) : State := s.setDisplay { s.ports.display with pllLost := true }

/-- DP_PLL_RELOCK: the output starts again as at a change of mode. -/
def State.dpPllRelock (s : State) : State :=
  let d := s.ports.display
  if !d.pllLost then s
  else
    let f := s.fresh
    f.2.setDisplay { d with pllLost := false, black := f.1 % 3, announce := true, line := 0 }

/-! ### DISPLAY_STATUS (R321) -/

/-- STATE of DISPLAY_STATUS. -/
def State.displayCode (s : State) : Nat :=
  let d := s.ports.display
  if !s.alive 6 0 then 0 else if !d.hpd then 1 else if d.failed && !d.training then 4 else if d.link.isNone then 2
  else if d.misfit then 5 else 3

/-- DISPLAY_STATUS (0x0721). -/
def displayStatusSpec : CommandSpec :=
  { code := 0x0721, kind := .read, lengthOk := lenNone, roleOk := anyRole
    argOk := fun c _ => !c.inTxn && !c.inSnap
    body := fun _ s =>
      let d := s.ports.display
      let l := d.link.getD (0, 0)
      s.okWith (bytesLE 1 s.displayCode ++ bytesLE 1 d.force.mode ++ bytesLE 1 l.1 ++ bytesLE 1 l.2 ++ bytesLE 1 d.force.bpc ++ zeros 3
        ++ d.counts.flatMap fun x => bytesLE 4 x.toNat) }

/-! ### Meanings -/

/-- TE_SET (R320). -/
def execTeSet (dt m : Nat) (s : State) : Host.Outcome State Fault Refusal := s.act dt (·.runMbx teSetSpec m)
/-- DISPLAY_SET (R315, R317, R320). -/
def execDisplaySet (dt m : Nat) (s : State) : Host.Outcome State Fault Refusal := s.act dt (·.runMbx displaySetSpec m)
/-- DISPLAY_STATUS (R321). -/
def execDisplayStatus (dt m : Nat) (s : State) : Host.Outcome State Fault Refusal := s.act dt (·.runMbx displayStatusSpec m)
/-- TE_EDGE (R311): a rising or falling edge of a tearing-effect input. -/
def execTeEdge (dt input : Nat) (rising : Bool) (s : State) : Host.Outcome State Fault Refusal := s.act dt (·.teEdge input rising)
/-- TE_MISSING_TIMEOUT (R311). -/
def execTeMissingTimeout (dt input : Nat) (s : State) : Host.Outcome State Fault Refusal := s.act dt (·.teMissing input)
/-- DP_IRQ_HPD (R315): whether the link status shows that lock is lost. -/
def execDpIrqHpd (dt : Nat) (lockLost : Bool) (s : State) : Host.Outcome State Fault Refusal := s.act dt (·.dpIrq lockLost)
/-- DP_TRAIN_RETRY (R315). -/
def execDpTrainRetry (dt : Nat) (s : State) : Host.Outcome State Fault Refusal := s.act dt (·.dpRetry)
/-- DP_VBLANK (R317). -/
def execDpVblank (dt : Nat) (s : State) : Host.Outcome State Fault Refusal := s.act dt (·.dpVblank)
/-- DP_LINE_FETCH (R316, R479): the columns that a poisoned word fills. -/
def execDpLineFetch (dt : Nat) (poisoned : List Nat) (s : State) : Host.Outcome State Fault Refusal := s.act dt (·.dpLine poisoned)
/-- DP_PLL_LOSS (R562). -/
def execDpPllLoss (dt : Nat) (s : State) : Host.Outcome State Fault Refusal := s.act dt (·.dpPllLoss)
/-- DP_PLL_RELOCK (R562). -/
def execDpPllRelock (dt : Nat) (s : State) : Host.Outcome State Fault Refusal := s.act dt (·.dpPllRelock)

end Sys2Proof.Machine
end

