-- ==== Sys2Proof/Machine/P384.lean ====
section
/-!
DEFINITION. Machine/P384.lean: ECDSA and ECDH on curve P-384 (FIPS 186-5), which R530, R539, R541 and R554 name, and the device identity
key. The standard stands outside the spec; its text is PRESUMED (assumption 43).
-/

namespace Sys2Proof.Machine

/-! ### The curve y² = x³ − 3x + b over the field of p elements -/

/-- The prime p. -/
def ecP : Nat := 2 ^ 384 - 2 ^ 128 - 2 ^ 96 + 2 ^ 32 - 1
/-- The coefficient b. -/
def ecB : Nat :=
  0xb3312fa7e23ee7e4988e056be3f82d19181d9c6efe8141120314088f5013875ac656398d8a2ed19d2a85c8edd3ec2aef
/-- The base point. -/
def ecGx : Nat :=
  0xaa87ca22be8b05378eb1c71ef320ad746e1d3b628ba79b9859f741e082542a385502f25dbf55296c3a545e3872760ab7
def ecGy : Nat :=
  0x3617de4a96262c6f5d9e98bf9292dc29f8f41dbd289a147ce9da3113b5f0b8c00a60b1ce1d7e819d7a431d7c90ea0e5f
/-- The order of the base point. -/
def ecN : Nat :=
  0xffffffffffffffffffffffffffffffffffffffffffffffffc7634d81f4372ddf581a0db248b0a77aecec196accc52973

/-- A difference modulo `m`. -/
def subMod (m a b : Nat) : Nat := (a + m - b % m) % m

/-- A power modulo `m`, by the `k` low bits of the exponent. -/
def powMod (m : Nat) : Nat → Nat → Nat → Nat → Nat
  | 0, _, _, acc => acc
  | k + 1, a, e, acc => powMod m k (a * a % m) (e / 2) (if e % 2 = 1 then acc * a % m else acc)

/-- The inverse modulo a prime. -/
def invMod (m a : Nat) : Nat := powMod m 384 (a % m) (m - 2) 1

/-- A point in Jacobian coordinates: (X/Z², Y/Z³), and the point at infinity where Z is 0. -/
structure EcPoint where
  x : Nat
  y : Nat
  z : Nat
  deriving DecidableEq, Repr

/-- The point at infinity, and the base point. -/
def ecZero : EcPoint := ⟨1, 1, 0⟩
def ecBase : EcPoint := ⟨ecGx, ecGy, 1⟩

/-- A point doubled. -/
def EcPoint.double (q : EcPoint) : EcPoint :=
  let zz := q.z * q.z % ecP
  let yy := q.y * q.y % ecP
  let s := 4 * q.x * yy % ecP
  let m := 3 * subMod ecP q.x zz * (q.x + zz) % ecP
  let x := subMod ecP (m * m) (2 * s)
  ⟨x, subMod ecP (m * subMod ecP s x) (8 * (yy * yy % ecP)), 2 * q.y * q.z % ecP⟩

/-- The sum of two points. -/
def EcPoint.plus (a b : EcPoint) : EcPoint :=
  if a.z = 0 then b
  else if b.z = 0 then a
  else
    let za := a.z * a.z % ecP
    let zb := b.z * b.z % ecP
    let ua := a.x * zb % ecP
    let ub := b.x * za % ecP
    let sa := a.y * (zb * b.z % ecP) % ecP
    let sb := b.y * (za * a.z % ecP) % ecP
    if ua = ub then (if sa = sb then a.double else ecZero)
    else
      let h := subMod ecP ub ua
      let r := subMod ecP sb sa
      let hh := h * h % ecP
      let hhh := h * hh % ecP
      let v := ua * hh % ecP
      let x := subMod ecP (r * r) (hhh + 2 * v)
      ⟨x, subMod ecP (r * subMod ecP v x) (sa * hhh), h * (a.z * b.z % ecP) % ecP⟩

/-- A multiple of a point, by the `k` low bits of the factor. -/
def ecTimes : Nat → Nat → EcPoint → EcPoint → EcPoint
  | 0, _, _, acc => acc
  | k + 1, n, q, acc => ecTimes k (n / 2) q.double (if n % 2 = 1 then acc.plus q else acc)

/-- A multiple of a point. -/
def EcPoint.times (q : EcPoint) (n : Nat) : EcPoint := ecTimes 384 n q ecZero

/-- The affine coordinates of a point other than that at infinity. -/
def EcPoint.affine (q : EcPoint) : Nat × Nat :=
  let i := invMod ecP q.z
  let ii := i * i % ecP
  (q.x * ii % ecP, q.y * (ii * i % ecP) % ecP)

/-! ### Public keys: 0x04, X and Y (R529) -/

/-- The point that 97 bytes name. -/
def ecPoint (pub : Bytes) : EcPoint := ⟨beNat (slice pub 1 48), beNat (slice pub 49 48), 1⟩

/-- 97 bytes are a point of P-384. -/
def onCurve (pub : Bytes) : Bool :=
  let q := ecPoint pub
  pub.length == 97 && pub.headD 0 == 4 && decide (q.x < ecP) && decide (q.y < ecP)
    && q.y * q.y % ecP == (q.x * q.x % ecP * q.x + ecB + 3 * (ecP - q.x)) % ecP

/-! ### ECDSA over SHA-384, and ECDH -/

/-- A signature r, s of a digest verifies under a public key. -/
def ecdsaCheck (pub : Bytes) (e r s : Nat) : Bool :=
  let w := invMod ecN s
  let q := (ecBase.times (e * w % ecN)).plus ((ecPoint pub).times (r * w % ecN))
  onCurve pub && decide (0 < r) && decide (r < ecN) && decide (0 < s) && decide (s < ecN) && q.z % ecP != 0 && q.affine.1 % ecN == r

/-- Public key, signed bytes and signature. -/
def ecdsaVerify (pub msg sig : Bytes) : Bool :=
  sig.length == 96 && ecdsaCheck pub (beNat (sha384 msg)) (beNat (sig.take 48)) (beNat (sig.drop 48))

/-- The private key of the device, derived from the PUF (R539). -/
def deviceKey : Nat := Config.deviceSecret % (ecN - 1) + 1

/-- DEVICE_PUB. -/
def devicePub : Bytes :=
  let q := (ecBase.times deviceKey).affine
  0x04 :: bytesBE 48 q.1 ++ bytesBE 48 q.2

/-- The signature of the device identity key. Its secret number is free: ECDSA fixes none. -/
def ecdsaSign (msg : Bytes) : Bytes :=
  let k := Config.signSecret msg % (ecN - 1) + 1
  let r := (ecBase.times k).affine.1 % ecN
  bytesBE 48 r ++ bytesBE 48 (invMod ecN k * (beNat (sha384 msg) + r * deviceKey) % ecN)

/-- The X coordinate of the ECDH point of a host key and the device identity key. -/
def ecdhX (pub : Bytes) : Bytes := bytesBE 48 ((ecPoint pub).times deviceKey).affine.1

end Sys2Proof.Machine
end

