-- ==== Sys2Proof/Machine/Session.lean ====
section
/-!
DEFINITION. Machine/Session.lean: sessions and their proofs (R72 to R74, R541, R542).
-/

namespace Sys2Proof.Machine

/-! ### SESSION_OPEN (R72, R73, R541, R542) -/

/-- A session ID: non-zero and never used before (R72); which one the random number generator gives is free. -/
def HostState.newId (h : HostState) (r : Nat) : Nat :=
  ((List.range (h.usedIds.length + 2)).map fun i => (r + i) % 2 ^ 32).find? (fun x => x != 0 && !h.usedIds.contains x) |>.getD 1

/-- A lockout runs. -/
def SecureState.locked (x : SecureState) (now : Nat) : Bool := x.lockoutEnd.elim false (now < ·)

/-- A nonce may still be used: 30 s. -/
def Nonce.fresh (n : Nonce) (now : Nat) : Bool := now - n.at_ ≤ 30 * cycSec

/-- The proof of a SESSION_OPEN passes (R541). -/
def SecureState.proofOk (x : SecureState) (p : Bytes) (now : Nat) : Bool :=
  let auth := p.drop 8
  let nonce := slice auth 4 32
  match x.creds.find (fld auth 0 1) with
  | none => false
  | some c =>
    c.role == fld p 0 1 && x.nonces.any (fun n => n.value == nonce && n.fresh now)
      && ecdsaVerify c.pub (nonce ++ bytesLE 8 Config.uid.toNat ++ slice p 0 1 ++ slice p 2 2) (slice auth 0x24 96)

/-- A failed proof: counted, and the eighth within 60 s starts a lockout (R542). -/
def SecureState.fail (x : SecureState) (now : Nat) : SecureState :=
  let fs := now :: x.failures.filter fun t => now - t < 60 * cycSec
  if 8 ≤ fs.length then { x with authFails := x.authFails + 1, failures := [], lockoutEnd := some (now + 60 * cycSec) }
  else { x with authFails := x.authFails + 1, failures := fs }

/-- The session opened. -/
def State.openSession (s : State) (p : Bytes) : State × Reply :=
  let r := s.fresh
  let id := s.host.newId r.1
  let x : Session := { role := fld p 0 1, idle := fld p 2 2, lastNamed := s.now }
  let s := { r.2 with host := { r.2.host with
    sessions := r.2.host.sessions.put id x, usedIds := id :: r.2.host.usedIds } }
  let slot := if fld p 0 1 = 0 then 0 else fld p 8 1
  (s.audit 0x0001 id x.role 0 (bytesLE 1 slot ++ bytesLE 1 x.role)).okWith
    (bytesLE 4 id ++ bytesLE 1 x.role ++ zeros 3 ++ bytesLE 8 s.host.devEpoch)

/-- SESSION_OPEN after the generic checks, in the order of R73. Without a working random number generator it changes
nothing (R540). -/
def sessionOpenBody (c : Ctx) (s : State) : State × Reply :=
  let p := c.payload
  let role := fld p 0 1
  if role != 3 && s.auditFull then s.fail .busy
  else if role != 0 && s.secure.locked s.now then s.fail .busy
  else if 32 ≤ s.host.sessions.length then s.fail .noResource
  else if s.secure.trngFault then s.fail .internal
  else if role = 0 then s.openSession p
  else
    let ok := s.secure.proofOk p s.now
    let s := { s with secure := { s.secure with nonces := s.secure.nonces.filter (·.value != slice p 12 32) } }
    if ok then s.openSession p
    else
      let s := (({ s with secure := s.secure.fail s.now } : State).raise 0xC3).audit 0x0002 0 0xFF
        Status.notAuthenticated.code (slice p 8 1 ++ bytesLE 1 role)
      s.fail .notAuthenticated

/-- SESSION_OPEN. -/
def sessionOpenSpec : CommandSpec :=
  { code := 0x0101, kind := .device
    lengthOk := fun p => 8 ≤ p.length && p.length == 8 + fld p 4 4
    roleOk := fun _ _ => true
    argOk := fun c _ => zeroAt c.payload 1 1 && fld c.payload 4 4 == (if fld c.payload 0 1 = 0 then 0 else 132)
      && zeroAt c.payload 9 3
    rangeOk := fun c _ => upTo c.payload 0 1 3 && upTo c.payload 2 2 3600
    body := sessionOpenBody }

/-! ### SESSION_CLOSE, SESSION_IDLE_TIMEOUT (R74) -/

/-- The session that a SESSION_CLOSE names. -/
def closeTarget (c : Ctx) : Nat := if fld c.payload 0 4 = 0 then c.session else fld c.payload 0 4

/-- SESSION_CLOSE. -/
def sessionCloseSpec : CommandSpec :=
  { code := 0x0102, kind := .device, lengthOk := lenIs 8
    roleOk := fun c _ => closeTarget c == c.session || c.role == 3
    argOk := fun c s => zeroAt c.payload 4 4 && s.host.sessions.has (closeTarget c)
    body := fun c s =>
      if s.auditFull && (s.host.sessions.find (closeTarget c)).elim true (·.role != 3) then s.fail .busy
      else ((s.endSession (closeTarget c) 0).pruneEpochs).ok }

/-- A session that no request has named for its timeout ends. -/
def State.idleTimeout (s : State) (id : Nat) : State :=
  match s.host.sessions.find id with
  | some x => if x.idle != 0 && x.idle * cycSec ≤ s.now - x.lastNamed then (s.endSession id 1).pruneEpochs else s
  | none => s

/-! ### Meanings -/

/-- SESSION_OPEN (R72, R73). -/
def execSessionOpen (dt m : Nat) (s : State) : Host.Outcome State Fault Refusal := s.act dt (·.runMbx sessionOpenSpec m)

/-- SESSION_CLOSE (R74). -/
def execSessionClose (dt m : Nat) (s : State) : Host.Outcome State Fault Refusal := s.act dt (·.runMbx sessionCloseSpec m)

/-- SESSION_IDLE_TIMEOUT (R74). -/
def execSessionIdleTimeout (dt session : Nat) (s : State) : Host.Outcome State Fault Refusal :=
  s.act dt (·.idleTimeout session)

end Sys2Proof.Machine
end

