-- ==== Sys2Proof/Machine/Secure.lean ====
section
/-!
DEFINITION. Machine/Secure.lean: credentials, keys, the audit log's commands, the debug port and the random number
generator (R539 to R546, R554, R555).
-/

namespace Sys2Proof.Machine

/-! ### AUTH_CHALLENGE (R554) -/

/-- The nonces that are neither used nor expired. -/
def SecureState.live (x : SecureState) (now : Nat) : List Nonce := x.nonces.filter (·.fresh now)

/-- AUTH_CHALLENGE: a random nonce; a session's fifth replaces its oldest. -/
def authChallengeBody (c : Ctx) (s : State) : State × Reply :=
  if s.secure.trngFault then s.fail .internal
  else
    let r := s.freshes 4
    let value := r.1.flatMap (bytesLE 8)
    let old := s.secure.live s.now
    let mine := old.filter (·.session == c.session)
    let kept := if mine.length < 4 then old else mine.head?.elim old fun o => old.filter (· != o)
    ({ r.2 with secure := { r.2.secure with nonces := kept ++ [⟨value, c.session, s.now⟩] } } : State).okWith value

def authChallengeSpec : CommandSpec :=
  { code := 0x0F01, kind := .device, lengthOk := lenNone, roleOk := anyRole, body := authChallengeBody }

/-! ### CRED_SET (R543, R554) -/

/-- A SECURITY_OFFICER credential is installed. -/
def hasOfficer (m : Map Credential) : Bool := m.any fun e => e.2.role == 3

/-- The credentials after a CRED_SET of `slot` to `role`, 0xFF for a deletion. -/
def credsAfter (m : Map Credential) (slot role : Nat) (pub : Bytes) : Map Credential :=
  if role = 0xFF then m.del slot else m.put slot ⟨role, pub⟩

/-- The credentials once every CRED_SET that has been accepted is in flash: a later one is checked against these, so that no two together
leave none of a SECURITY_OFFICER, and one ownership claim is accepted (R543). -/
def State.credsDue (s : State) : Map Credential :=
  s.host.ops.foldl (fun (m : Map Credential) o =>
    match o.command, o.kind with
    | 0x0F02, .job [slot, role] pub => credsAfter m slot role pub
    | _, _ => m) s.secure.creds

/-- The check value of a key. -/
def kcv (k : Bytes) : Bytes := (sha384 k).take 16

def credSetBody (c : Ctx) (s : State) : State × Reply :=
  let slot := fld c.payload 0 1
  let role := fld c.payload 1 1
  let pub := slice c.payload 8 97
  if (if role = 0xFF then !allZero pub else !onCurve pub) then s.fail .badArgument
  else if s.auditFull then s.fail .busy
  else if !hasOfficer (credsAfter s.credsDue slot role pub) then s.fail .conflict
  else s.accept c (.job [slot, role] pub) [] fun _ s => s

def credSetSpec : CommandSpec :=
  { code := 0x0F02, kind := .device, lengthOk := lenIs 0x70
    roleOk := fun c s => c.role == 3 || (!hasOfficer s.credsDue && fld c.payload 1 1 == 3)
    argOk := fun c _ => zeroAt c.payload 2 6 && zeroAt c.payload 0x69 7
    rangeOk := fun c _ => upTo c.payload 0 1 31 && (within c.payload 1 1 1 3 || fld c.payload 1 1 == 0xFF)
    body := credSetBody }

/-- The role of an operation's session, 0xFF where it has ended. -/
def State.roleOf (s : State) (session : Nat) : Nat := (s.host.sessions.find session).elim 0xFF (·.role)

def State.credSetDone (s : State) (id : Nat) : State :=
  match s.op id 0x0F02 with
  | none => s
  | some o =>
    match o.kind with
    | .job [slot, role] pub =>
      let s := { s with secure := { s.secure with creds := credsAfter s.secure.creds slot role pub } }
      (s.audit 0x0010 o.session (s.roleOf o.session) 0 (bytesLE 1 slot ++ bytesLE 1 role ++ kcv pub)).endOp o .ok s.pos []
    | _ => s

/-! ### KEY_ESTABLISH, KEY_INSTALL (R554) -/

/-- The keys that may be used: none after an unlock of the debug port (R546). -/
def SecureState.kekNow (x : SecureState) : Option Bytes := if x.keysGone then none else x.kek
def SecureState.linkNow (x : SecureState) : Option Bytes := if x.keysGone then none else x.linkKey

/-- KEY_ESTABLISH: a HOST_PUB that is no point of P-384, or a NONCE that is not usable, is a malformed field (DESIGN
CHOICE, assumption 46). The nonce is used up. -/
def keyEstablishBody (c : Ctx) (s : State) : State × Reply :=
  let pub := slice c.payload 0 97
  let nonce := slice c.payload 0x64 32
  if !onCurve pub || !(s.secure.live s.now).any (fun n => n.value == nonce) then s.fail .badArgument
  else if s.auditFull then s.fail .busy
  else if s.secure.trngFault then s.fail .internal
  else s.accept c (.job [] (nonce ++ pub)) [] fun _ s =>
    { s with secure := { s.secure with nonces := s.secure.nonces.filter (·.value != nonce) } }

def keyEstablishSpec : CommandSpec :=
  { code := 0x0F10, kind := .device, lengthOk := lenIs 0x84, roleOk := officer
    argOk := fun c _ => zeroAt c.payload 0x61 3, body := keyEstablishBody }

def State.keyEstablishDone (s : State) (id : Nat) : State :=
  match s.op id 0x0F10 with
  | none => s
  | some o =>
    match o.kind with
    | .job _ b =>
      let kek := hkdf (b.take 32) (ecdhX (b.drop 32)) (bytesLE 8 Config.uid.toNat) 32
      let s := { s with secure := { s.secure with kek := some kek } }
      (s.audit 0x0011 o.session (s.roleOf o.session) 0 (kcv kek)).endOp o .ok s.pos (kcv kek)
    | _ => s

def keyInstallBody (c : Ctx) (s : State) : State × Reply :=
  if s.auditFull then s.fail .busy
  else if s.secure.kekNow.isNone then s.fail .conflict
  else s.accept c (.job [] (slice c.payload 8 40)) [] fun _ s => s

def keyInstallSpec : CommandSpec :=
  { code := 0x0F11, kind := .device, lengthOk := lenIs 48, roleOk := officer
    argOk := fun c _ => zeroAt c.payload 0 8, body := keyInstallBody }

def State.keyInstallDone (s : State) (id : Nat) : State :=
  match s.op id 0x0F11 with
  | none => s
  | some o =>
    match o.kind with
    | .job _ b =>
      match s.secure.kekNow.bind fun k => keyUnwrap k b with
      | none => (s.audit 0x0012 o.session (s.roleOf o.session) Status.integrity.code (zeros 16)).endOp o .integrity s.pos []
      | some k =>
        let s := { s with secure := { s.secure with linkNext := some k } }
        (s.audit 0x0012 o.session (s.roleOf o.session) 0 (kcv k)).endOp o .ok s.pos (kcv k)
    | _ => s

/-! ### AUDIT_READ (R545, R554) -/

def auditReadSpec : CommandSpec :=
  { code := 0x0F20, kind := .device, lengthOk := lenIs 24, roleOk := officer
    argOk := fun c _ => upTo c.payload 12 1 1 && zeroAt c.payload 14 2
    rangeOk := fun c _ => (upTo c.payload 13 1 1 || fld c.payload 13 1 == 0xFF) && within c.payload 8 4 1 262144 && regionOk (fld c.payload 16 8) (64 * fld c.payload 8 4 + 128)
    body := fun c s => s.accept c (.job [] c.payload) [] fun _ s => s }

/-- The signed trailer after the records. -/
def auditTrailer (last : Option (Nat × Bytes)) : Bytes :=
  let head := bytesLE 8 (last.elim 0 fun e => e.1) ++ last.elim (zeros 16) (fun e => slice e.2 0x30 16) ++ zeros 8
  head ++ ecdsaSign head

/-- The records of a read, acknowledged and with the policy set where it asks for that. -/
def State.auditReadDone (s : State) (id : Nat) : State :=
  match s.op id 0x0F20 with
  | none => s
  | some o =>
    match o.kind with
    | .job _ p =>
      let first := fld p 0 8
      let ack := fld p 12 1 == 1
      let pol := fld p 13 1
      let x := s.secure
      let got := (x.audit.filter fun e => first ≤ e.1).take (fld p 8 4)
      let lost := (x.auditNext - first) - (x.audit.filter fun e => first ≤ e.1).length
      let next := match got.getLast? with
        | some e => e.1 + 1
        | none => first
      let seqs : List Nat := (got.map fun e => e.1).filter fun k => !x.acked.contains k
      let s := s.writeRegion (fld p 16 8) (got.flatMap (·.2) ++ auditTrailer got.getLast?)
      let s := { s with secure := { s.secure with
        acked := if ack then s.secure.acked ++ seqs else s.secure.acked
        ackedCount := s.secure.ackedCount + (if ack then seqs.length else 0)
        policy := if pol = 0xFF then s.secure.policy else pol } }
      let s := if ack || pol != 0xFF then
          s.audit 0x0040 o.session (s.roleOf o.session) 0 (bytesLE 8 (if ack then got.getLast?.elim 0 (·.1) else 0) ++ bytesLE 1 s.secure.policy)
        else s
      s.endOp o .ok s.pos (bytesLE 4 got.length ++ bytesLE 8 next ++ bytesLE 4 lost)
    | _ => s

/-! ### The debug port (R546) -/

def DebugPhase.code : DebugPhase → Nat
  | .locked => 0
  | .unlocked => 1
  | .disabled => 2

/-- The debug port is unlocked: the KEK, the link group key and every SAK are erased from working memory. -/
def State.unlockDebug (s : State) : State :=
  ({ s with
    secure := { s.secure with debugPort := .unlocked, keysGone := true }
    net := { s.net with ports := s.net.ports.mapVal fun _ p => { p with secy := { p.secy with sas := [], active := [] } } } }
    : State).raise 0xC5

def debugSetBody (c : Ctx) (s : State) : State × Reply :=
  let op := fld c.payload 0 1
  let d := s.secure.debugPort
  if s.auditFull then s.fail .busy
  else if op == 1 && (d == .disabled || s.group.role == .active) then s.fail .conflict
  else if op == 2 && fld c.payload 8 8 != Config.uid.toNat then s.fail .conflict
  else
    let s' :=
      if op = 1 then (if d = .unlocked then s else s.unlockDebug)
      else if op = 0 then (if d = .unlocked then { s with secure := { s.secure with debugPort := .locked } } else s)
      else { s with secure := { s.secure with debugPort := .disabled } }
    (s'.audit 0x0030 c.session c.role 0 (bytesLE 1 op ++ bytesLE 1 s'.secure.debugPort.code)).ok

def debugSetSpec : CommandSpec :=
  { code := 0x0F30, kind := .device, lengthOk := lenIs 16, roleOk := officer
    argOk := fun c _ => zeroAt c.payload 1 7 && (fld c.payload 0 1 == 2 || zeroAt c.payload 8 8)
    rangeOk := fun c _ => upTo c.payload 0 1 2
    body := debugSetBody }

/-- A debugger attaches: only an UNLOCKED port lets it reach anything. The audit record's OP is 3 (DESIGN CHOICE,
assumption 46). -/
def State.debugAttach (s : State) : State :=
  if s.secure.debugPort = .unlocked then (s.raise 0xC5).audit 0x0030 0 0xFF 0 (bytesLE 1 3 ++ bytesLE 1 1) else s

/-! ### SECURITY_STATUS (R555) -/

/-- The SECURITY_STATUS response. -/
def State.securityStatus (s : State) : Bytes :=
  let x := s.secure
  let left := x.lockoutEnd.elim 0 fun e => (e - s.now + cycSec - 1) / cycSec
  bytesLE 1 x.debugPort.code ++ bytesLE 1 (b2n x.trngFault) ++ bytesLE 1 x.creds.length
    ++ bytesLE 1 (b2n x.kek.isSome + 2 * b2n x.linkNow.isSome + 4 * b2n x.linkNext.isSome + 16 * (s.update.revoked % 16))
    ++ bytesLE 2 left ++ bytesLE 1 x.policy ++ zeros 1 ++ bytesLE 8 x.auditNext ++ bytesLE 8 x.ackedCount
    ++ bytesLE 4 x.overwritten.toNat ++ bytesLE 4 x.authFails.toNat ++ x.kek.elim (zeros 16) kcv
    ++ x.linkNow.elim (zeros 16) kcv ++ devicePub ++ zeros 3

def securityStatusSpec : CommandSpec :=
  { code := 0x0F40, kind := .device, lengthOk := lenNone, roleOk := anyRole, body := fun _ s => s.okWith s.securityStatus }

/-! ### Events of the security monitor (R540, R542) -/

def State.lockoutEnds (s : State) : State :=
  if s.secure.lockoutEnd.elim false (· ≤ s.now) then { s with secure := { s.secure with lockoutEnd := none } } else s

def State.trngFails (s : State) (test : Nat) : State :=
  (({ s with secure := { s.secure with trngFault := true } } : State).raise 0xC6).audit 0x0031 0 0xFF 0 (bytesLE 1 test)

/-! ### Meanings -/

/-- AUTH_CHALLENGE (R554). -/
def execAuthChallenge (dt m : Nat) (s : State) : Host.Outcome State Fault Refusal := s.act dt (·.runMbx authChallengeSpec m)
/-- CRED_SET (R543). -/
def execCredSet (dt m : Nat) (s : State) : Host.Outcome State Fault Refusal := s.act dt (·.runMbx credSetSpec m)
/-- CRED_SET_DONE (R554). -/
def execCredSetDone (dt op : Nat) (s : State) : Host.Outcome State Fault Refusal := s.act dt (·.credSetDone op)
/-- KEY_ESTABLISH (R554). -/
def execKeyEstablish (dt m : Nat) (s : State) : Host.Outcome State Fault Refusal := s.act dt (·.runMbx keyEstablishSpec m)
/-- KEY_ESTABLISH_DONE (R554). -/
def execKeyEstablishDone (dt op : Nat) (s : State) : Host.Outcome State Fault Refusal := s.act dt (·.keyEstablishDone op)
/-- KEY_INSTALL (R554). -/
def execKeyInstall (dt m : Nat) (s : State) : Host.Outcome State Fault Refusal := s.act dt (·.runMbx keyInstallSpec m)
/-- KEY_INSTALL_DONE (R554). -/
def execKeyInstallDone (dt op : Nat) (s : State) : Host.Outcome State Fault Refusal := s.act dt (·.keyInstallDone op)
/-- AUDIT_READ (R554). -/
def execAuditRead (dt m : Nat) (s : State) : Host.Outcome State Fault Refusal := s.act dt (·.runMbx auditReadSpec m)
/-- AUDIT_READ_DONE (R554). -/
def execAuditReadDone (dt op : Nat) (s : State) : Host.Outcome State Fault Refusal := s.act dt (·.auditReadDone op)
/-- DEBUG_SET (R546). -/
def execDebugSet (dt m : Nat) (s : State) : Host.Outcome State Fault Refusal := s.act dt (·.runMbx debugSetSpec m)
/-- DEBUG_ATTACH (R546). -/
def execDebugAttach (dt : Nat) (s : State) : Host.Outcome State Fault Refusal := s.act dt State.debugAttach
/-- SECURITY_STATUS (R555). -/
def execSecurityStatus (dt m : Nat) (s : State) : Host.Outcome State Fault Refusal := s.act dt (·.runMbx securityStatusSpec m)
/-- AUTH_LOCKOUT_END (R542). -/
def execAuthLockoutEnd (dt : Nat) (s : State) : Host.Outcome State Fault Refusal := s.act dt State.lockoutEnds
/-- TRNG_FAULT (R540): a health test fails. -/
def execTrngFault (dt test : Nat) (s : State) : Host.Outcome State Fault Refusal := s.act dt (·.trngFails test)
/-- TRNG_HEALTHY (R540): 1,024 samples in a row have passed. -/
def execTrngHealthy (dt : Nat) (s : State) : Host.Outcome State Fault Refusal :=
  s.act dt fun s => { s with secure := { s.secure with trngFault := false } }

end Sys2Proof.Machine
end

