-- ==== Sys2Proof/Machine/Status.lean ====
section
/-!
DEFINITION. Machine/Status.lean: the reads of canvases, the output stage and the ports (R321, R345, R374).
-/

namespace Sys2Proof.Machine

/-- STATE of a function: 0 DISABLED, 1 ENABLED, 2 DRAINING. -/
def State.fnCode (s : State) (cls inst : Nat) : Nat :=
  match (s.fn (fnId cls inst)).state with
  | .disabled => 0
  | .enabled => 1
  | .draining => 2

/-- The bytes of 4-byte counts. -/
def countBytes (l : List Word) : Bytes := l.flatMap fun x => bytesLE 4 x.toNat

/-- A read of device state: it carries neither IN_TXN nor IN_SNAP. -/
def plainRead (c : Ctx) : Bool := !c.inTxn && !c.inSnap

/-! ### CANVAS_STATUS -/

/-- CANVAS_STATUS (0x0720). -/
def canvasStatusSpec : CommandSpec :=
  { code := 0x0720, kind := .read, lengthOk := lenIs 8, roleOk := anyRole
    argOk := fun c _ => plainRead c && zeroAt c.payload 1 7
    rangeOk := fun c _ => upTo c.payload 0 1 7
    body := fun c s =>
      let k := fld c.payload 0 1
      let d := s.canvas k
      let v := s.txn.view
      let flags := b2n (v.canvas.canvases.has k) + 2 * b2n d.pending.isSome + 4 * b2n (v.sliceMode k).isSome + 8 * (d.front % 2)
      s.okWith (bytesLE 1 (s.fnCode 8 k) ++ bytesLE 1 flags ++ bytesLE 2 d.mismatch ++ bytesLE 4 d.flipCount.toNat
        ++ bytesLE 8 d.lastFlipFrame ++ stampBytes d.lastFlipAt ++ zeros 2 ++ bytesLE 8 d.crcFrame
        ++ (List.range 16).flatMap (fun i => bytesLE 4 (d.crcs.getD i 0)) ++ bytesLES 4 d.latchDiffNs ++ countBytes d.counts) }

/-! ### SAFETY_STATUS and DERATE_STATUS -/

/-- SAFETY_STATUS (0x0830). -/
def safetyStatusSpec : CommandSpec :=
  { code := 0x0830, kind := .read, lengthOk := lenIs 8, roleOk := anyRole
    argOk := fun c _ => plainRead c && zeroAt c.payload 2 6
    rangeOk := fun c _ => upTo c.payload 0 2 1023
    body := fun c s =>
      let g := fld c.payload 0 2
      let x := s.render.closed
      let d := x.safety.getD g {}
      let st := if !x.view.output.safety.has g then 0 else if d.failed then 2 else 1
      let members := (x.view.output.members.filter fun r => smGroup r == g).length
      s.okWith (bytesLE 1 st ++ bytesLE 1 d.cause ++ zeros 2 ++ bytesLE 4 members ++ bytesLE 8 d.faultFrame ++ padTo 16 d.causeMember
        ++ countBytes [d.faultCount, d.clearCount] ++ bytesLE 8 x.frame) }

/-- The temperature that a source held, in the record of the closed frame. Where it never had a reading the value is free. -/
def State.thetaOf (s : State) (src : Nat) : F32 × State :=
  match s.render.closed.tempHeld.find src with
  | some x => (x, s)
  | none => (BitVec.ofNat 32 s.fresh.1, s.fresh.2)

/-- DERATE_STATUS (0x0831). Fields of an undefined record are zero (DESIGN CHOICE, assumption 104). -/
def derateStatusSpec : CommandSpec :=
  { code := 0x0831, kind := .read, lengthOk := lenIs 8, roleOk := anyRole
    argOk := fun c _ => plainRead c && zeroAt c.payload 4 4 && bits (fld c.payload 0 4) 17 14 == 0
    rangeOk := fun c _ => !bit (fld c.payload 0 4) 31 || bits (fld c.payload 0 4) 0 17 ≤ 65535
    body := fun c s =>
      let x := s.render.closed
      let key := fld c.payload 0 4
      match x.view.output.derates.find key with
      | none => s.okWith (zeros 16 ++ bytesLE 8 x.frame)
      | some rec =>
        let f := x.factors.getD key F32.f1
        let th := s.thetaOf (drSource rec)
        let valid := x.temps.has (drSource rec)
        let target := match x.temps.find (drSource rec) with
          | some t => derateTarget rec t
          | none => if drLossFloor rec then drFloor rec else f
        th.2.okWith (bytesLE 1 (1 + 2 * b2n valid + 4 * b2n (F32.lt f F32.f1)) ++ zeros 3 ++ bytesLE 4 th.1.toNat
          ++ bytesLE 4 target.toNat ++ bytesLE 4 f.toNat ++ bytesLE 8 x.frame) }

/-! ### EMIT_STATUS -/

/-- The declared latencies of an output's fixtures, in µs. -/
def ShowState.latencies (v : ShowState) (kind number : Nat) : List Nat :=
  match kind with
  | 0 => v.patch.destLatencies 1 number
  | 1 => v.patch.destLatencies 2 number
  | 2 => v.patch.pwmLatencies number
  | _ => ((v.laneCanvas number).map (·.latencyUs)).toList

/-- The instant of an output in a frame, where it emits in it: the scan start of a lane's canvas, the synchronisation packet of a
synchronised universe, or the output's own instant. -/
def FrameRec.nextOn (r : FrameRec) (kind number : Nat) : Option Instant :=
  if kind = 3 then
    (r.view.canvas.segments.find number).bind fun g =>
      if r.hasCanvas g.canvas && !(r.win g.canvas).scanDone then
        (r.view.canvas.canvases.find g.canvas).bind fun c => r.scanStart g.canvas c
      else none
  else
    let sync := if kind = 0 then (r.view.net.tx number).sync else 0
    let key := if sync = 0 then (kind, number) else (4, sync)
    let out := kind != 0 || (r.uniScheduled number && r.universes.contains number)
    if out && !r.settled.contains (outKey key.1 key.2) then some (r.instantOf key.1 key.2) else none

/-- The next emission instant of an output, now or later. A universe of 1 Hz is scheduled once in 240 frames at most. -/
def State.nextInstant (s : State) (kind number : Nat) : Option Instant :=
  if !s.clock.run then none
  else
    let ahead := (List.range (if kind = 0 then 249 else 9)).map fun i => s.aheadFrame (s.clock.nextLatch + i)
    let is := (s.render.frames ++ ahead).filterMap fun r => r.nextOn kind number
    (sortBy (fun a b => decide (a ≤ b)) (is.filter fun x => decide (s.tb ≤ x))).head?

/-- The position of the next emission instant, rounded down to a TIME tick (R336). Where no instant is due the value is free. -/
def State.nextEmitPos (s : State) (kind number : Nat) : Pos × State :=
  match s.nextInstant kind number with
  | some x => (s.clock.posAt (s.tb + floorDiv (x - s.tb) 131072 * tickUnits), s)
  | none => s.fresh

/-- EMIT_STATUS (0x0832). -/
def emitStatusSpec : CommandSpec :=
  { code := 0x0832, kind := .read, lengthOk := lenIs 8, roleOk := anyRole
    argOk := fun c _ => plainRead c && zeroAt c.payload 1 1 && zeroAt c.payload 4 4
    rangeOk := fun c _ => fld c.payload 0 1 ≤ 3 && outExists (fld c.payload 0 1) (fld c.payload 2 2)
    body := fun c s =>
      let kind := fld c.payload 0 1
      let number := fld c.payload 2 2
      let ls := s.txn.view.latencies kind number
      let e := s.emission (outKey kind number)
      let next := s.nextEmitPos kind number
      next.2.okWith (bytesLE 4 (1000 * maxOf ls) ++ bytesLE 4 (1000 * (maxOf ls - minOf ls)) ++ posBytes next.1 ++ zeros 6
        ++ countBytes [e.emitted, e.skipped, e.superseded, e.late] ++ bytesLE 4 e.maxLateNs) }

/-! ### PORT_STATUS -/

/-- LINK, TILES and the five counts of a port. -/
def State.portReport (s : State) (kind number : Nat) : Nat × Nat × List Word :=
  match kind with
  | 0 =>
    let d := s.lane number
    let link := match d.link with
      | .off => 0
      | .training => 1
      | .up => 2
    (link, (d.sent.head?.elim 0 fun x => x.acks.length), d.counts)
  | 1 =>
    let d := s.dmxPort number
    (if d.run.isSome then 2 else if d.busy s.tb then 1 else 0, 0, d.counts)
  | _ =>
    let d := s.pwmOut number
    (b2n (4 ≤ d.senseRun), 0, [d.tested, d.detections, 0, 0, 0])

/-- PORT_STATUS (0x0930). -/
def portStatusSpec : CommandSpec :=
  { code := 0x0930, kind := .read, lengthOk := lenIs 8, roleOk := anyRole
    argOk := fun c _ => plainRead c && zeroAt c.payload 2 6
    rangeOk := fun c _ => fld c.payload 0 1 ≤ 2 && fld c.payload 1 1 < ([64, 16, 32] : List Nat).getD (fld c.payload 0 1) 0
    body := fun c s =>
      let kind := fld c.payload 0 1
      let number := fld c.payload 1 1
      let x := s.portReport kind number
      s.okWith (bytesLE 1 (s.fnCode (3 + kind) number) ++ bytesLE 1 x.1 ++ bytesLE 2 x.2.1 ++ countBytes x.2.2) }

/-! ### Meanings -/

/-- CANVAS_STATUS (R321). -/
def execCanvasStatus (dt m : Nat) (s : State) : Host.Outcome State Fault Refusal := s.act dt (·.runMbx canvasStatusSpec m)
/-- SAFETY_STATUS (R345). -/
def execSafetyStatus (dt m : Nat) (s : State) : Host.Outcome State Fault Refusal := s.act dt (·.runMbx safetyStatusSpec m)
/-- DERATE_STATUS (R345). -/
def execDerateStatus (dt m : Nat) (s : State) : Host.Outcome State Fault Refusal := s.act dt (·.runMbx derateStatusSpec m)
/-- EMIT_STATUS (R345). -/
def execEmitStatus (dt m : Nat) (s : State) : Host.Outcome State Fault Refusal := s.act dt (·.runMbx emitStatusSpec m)
/-- PORT_STATUS (R374). -/
def execPortStatus (dt m : Nat) (s : State) : Host.Outcome State Fault Refusal := s.act dt (·.runMbx portStatusSpec m)

end Sys2Proof.Machine
end

