-- ==== Sys2Proof/Machine/NetRun.lean ====
section
/-!
DEFINITION. Machine/NetRun.lean: links, reception, transmission and the commands of the Ethernet ports (R375 to R406).
-/

namespace Sys2Proof.Machine

/-! ### Counters and links (R377, R391) -/

/-- NET_LINK_UP. The port reports the groups joined on it. Ports 0 to 3 read TX_FAULT of their module, and port 4 has the rate that it
has negotiated. A port that is UP already only takes these. -/
def State.netUp (s : State) (p mbit : Nat) (txFault : Bool) : State :=
  let x := s.port p
  if 4 < p then s
  else
    let x := { x with txFault := txFault && p != 4, sgmii := if p = 4 then mbit else x.sgmii }
    if x.up || !s.portOn p then s.setPort p x
    else
      let s := (s.setPort p { x with up := true, modAbs := false, rxLos := false }).raise (0x90 + p)
      (if p < 4 then s.emit (.remoteFault p false) else s).reportAll p true true

/-- NET_LINK_DOWN, with the module signals of ports 0 to 3 as they read then: an ENABLED port sends remote fault while it is DOWN. -/
def State.netDown (s : State) (p : Nat) (modAbs txFault rxLos : Bool) : State :=
  if 4 < p then s
  else
    let was := (s.port p).up
    let s := if p = 4 then s else s.setPort p { s.port p with modAbs := modAbs, txFault := txFault, rxLos := rxLos }
    let s := s.portDown p
    if was && p < 4 then s.emit (.remoteFault p true) else s

/-! ### Rings of descriptors -/

/-- A frame delivered or sent by a network ring. -/
def State.ringFrame (s : State) (k : Nat) : State := let x := s.netRing k
  s.setNetRing k { x with frames := x.frames + 1 }

/-- The descriptor in front of a host ring completes: what the H64 writes from offset 0x0E on (R383, R384). `bad`: its CODE is BAD_RANGE
or HOST_ERROR, which set BAD_ENTRY (R88). -/
def State.endNetEntry (s : State) (h : Nat) (d : BulkDesc) (bs : Bytes) (bad : Bool) : State :=
  let x := s.ring h
  let s := s.emit (.hostWrite (x.entryAddr 64 + 0x0E) bs)
  let s := s.setRing h { x with
    devIdx := x.devIdx + 1, posted := x.posted.drop 1, badEntry := x.badEntry || bad, badAt := if bad then some s.now else x.badAt }
  if bit d.flags 0 && x.cfg.irq then s.raise (0x10 + h) else s

/-- The stamp fields of a descriptor: seconds, nanoseconds, fraction and show position, or zeros. -/
def State.stampFields (s : State) (at_ : Option Instant) : Bytes :=
  match at_ with
  | some x => padTo 16 (stampBytes x) ++ posBytes (s.clock.posAt x) ++ zeros 6
  | none => zeros 32

/-! ### Reception (R379, R382 to R388, R390) -/

/-- Step 1: the counter of a frame that is dropped. -/
def NetPortCfg.step1 (c : NetPortCfg) (f : RxFrame) : Option Nat :=
  let len := f.bytes.length + 4
  let most := c.maxFrame + 4 * vlanTags f.bytes
  if len < 64 then some (if f.fcsOk then 14 else 15)
  else if most < len then some (if f.fcsOk then 16 else 17)
  else if f.fcsOk then none else some 18

/-- A pause frame (R388). -/
def State.pauseRx (s : State) (p q : Nat) : State :=
  let s := s.countPort p [(4, 1)]
  let x := s.port p
  if !x.cfg.pauseRx then s
  else if q = 0 then s.setPort p { x with pauseEnd := none }
  else
    let held := x.pauseEnd.elim false fun e => decide (s.tb < e)
    let s := s.setPort p { x with pauseEnd := some (s.tb + x.bitTimes (512 * q)) }
    if held then s else s.countPort p [(42, 1)]

/-- Destination and IP destination of a frame. -/
def macDest (bs : Bytes) : Nat := beNat (slice bs 0 6)
def ipDest (bs : Bytes) : Option (Bool × Nat) :=
  (parseFrame bs).map fun q => if q.v6 then (true, beNat (slice bs (q.ipOff + 24) 16)) else (false, beNat (slice bs (q.ipOff + 16) 4))

/-- The frame is sent to a group that the H64's engines have joined on the port, or to the port's own IP address. -/
def State.toEngine (s : State) (p : Nat) (bs : Bytes) : Bool :=
  let c := (s.port p).cfg
  (ipDest bs).elim false fun d =>
    ((s.groups p).any fun g => g.v6 == d.1 && g.addr == d.2) || (if d.1 then d.2 == c.ipv6 && d.2 != 0 else d.2 == c.ipv4 && d.2 != 0)

/-- The VLAN ID of a frame, 0 where it is untagged. -/
def vlanId (bs : Bytes) : Nat := if vlanTags bs = 0 then 0 else be16 bs 14 % 4096

/-- Step 5: a message of the PTP engine's port, transport and domain. -/
def State.ptpFrame (s : State) (p : Nat) (bs : Bytes) : Bool :=
  let c := s.time.ptp.cfg
  let v6 := (parseFrame bs).elim false (·.v6)
  c.port == p && ptpDomain bs == some c.domain && vlanId bs == c.vlan
    && (if c.transport = 2 then etherType bs == 0x88F7 else etherType bs != 0x88F7 && (c.transport == 1) == v6)

/-- Step 6: the internal ring of sACN or of a video input. -/
def State.engineRing (s : State) (p : Nat) (bs : Bytes) : Option Nat :=
  let c := (s.port p).cfg
  if !s.toEngine p bs then none
  else if udpPort bs == some 5568 && (vlanId bs == 0 || vlanId bs == c.sacnVlan) && p < 4 then some (56 + p)
  else (s.txn.view.inputs.videoIn.find? fun e =>
      vidPort e.2 == p && udpPort bs == some (vidUdp e.2) && ipDest bs == some (vidIs6 e.2, (vidGroup e.2).addr)).map fun e => 60 + e.1 % 2

/-- A frame for an internal ring passes the checksum test (R382). -/
def sumsOk (bs : Bytes) : Bool := !bit (rxSums bs) 8 && !bit (rxSums bs) 10

/-- A frame for an internal ring. What it does there is the command of its engine (DESIGN CHOICE, assumption 109). -/
def State.toInternal (s : State) (p k : Nat) (bs : Bytes) : State :=
  if sumsOk bs then s.ringFrame k else s.countPort p [(22, 1)]

/-- A frame for the PTP engine. Messages that it does not support are counted as discards (R141); the others are commands of their
own. -/
def State.toPtp (s : State) (p : Nat) (bs : Bytes) : State :=
  let t := s.toInternal p 62 bs
  if sumsOk bs && ptpUnsupported bs then { t with time := t.time.discard } else t

/-- An IGMP or MLD query copied to ring 63 and answered, once its checksums pass (R381, R382). -/
def State.takeQuery (s : State) (p : Nat) (bs : Bytes) : State :=
  match queryOf bs with
  | none => s
  | some q => if sumsOk bs && querySumOk bs then (s.ringFrame 63).answerQuery p q else s.countPort p [(22, 1)]

/-- A receive descriptor as the host must write it. -/
def rxDescOk (d : BulkDesc) : Bool := d.hostAddr % 64 == 0 && d.length % 64 == 0 && 256 ≤ d.length && d.length ≤ 16384

/-- The fields that the H64 writes into a receive descriptor, from CODE on. -/
def rxFields (code len status port tci frameLen : Nat) (stamp : Bytes) : Bytes :=
  bytesLE 2 code ++ bytesLE 2 len ++ bytesLE 2 status ++ bytesLE 1 port ++ zeros 1 ++ bytesLE 2 tci ++ bytesLE 4 frameLen ++ zeros 4 ++ stamp

/-- A frame as a receive ring gets it: its bytes, the TCI of a stripped tag, RX_STATUS [11:4], its stamp and its length as received. -/
structure RxDelivery where
  port : Nat
  bytes : Bytes
  tci : Nat
  status : Nat
  stamp : Bytes
  frameLen : Nat
  deriving DecidableEq, Repr

/-- A frame written to the descriptors of a host ring, one at a time (R385). A descriptor that breaks its limits completes with
BAD_RANGE and the next is taken (DEDUCED, assumption 25). Whether the whole frame was written. `stop`: the frame breaks off after that
many descriptors, with CODE `code`: 5 at a poisoned word (R479), 4 where the host answers with an error (R383). -/
def State.rxWrite (x : RxDelivery) (h code : Nat) : Nat → Bool → Option Nat → Bytes → State → State × Bool
  | 0, _, _, _, s => (s, false)
  | fuel + 1, sop, stop, rest, s =>
    match (s.ring h).posted with
    | [] => (s, false)
    | d :: ds =>
      if !rxDescOk d then
        State.rxWrite x h code fuel sop stop rest (s.endNetEntry h d (rxFields 3 0 0 x.port 0 0 (zeros 32)) true)
      else
        let part := rest.take d.length
        let left := rest.drop d.length
        let bad := stop == some 0
        let last := left.isEmpty || bad || !(ds.any rxDescOk)
        let cut := last && !left.isEmpty && !bad
        let st := b2n sop + 2 * b2n last + 4 * b2n (cut || bad) + 8 * b2n cut + (if last then x.status else bits x.status 6 6 * 64)
        let s := s.emit (.hostWrite d.hostAddr (if bad then [] else part))
        let s := s.endNetEntry h d (rxFields (if bad then code else 1) (if bad then 0 else part.length) st x.port
          x.tci (if last then x.frameLen else 0) (if last then x.stamp else zeros 32)) (bad && code == 4)
        if last then (s, left.isEmpty && !bad) else State.rxWrite x h code fuel false (stop.map (· - 1)) left s

/-- Where a frame breaks off and with which CODE: at the host's error, or at a poisoned word before it. -/
def RxFrame.breaks (f : RxFrame) (poison : Option Nat) : Option Nat × Nat :=
  match f.hostErr, poison with
  | some h, some q => if q ≤ h then (some q, 5) else (some h, 4)
  | some h, none => (some h, 4)
  | none, q => (q, 5)

/-- A frame for receive ring `k` (steps 8 and 9, R385, R386, R390). -/
def State.toRing (s : State) (p k : Nat) (f : RxFrame) (verified : Bool) (stop : Option Nat) (bs : Bytes) : State :=
  let r := s.netRing k
  let wants := bit r.flags 0
  let valid := wants && f.stampsHeld < 56
  let s := if wants && !valid then
      (((s.setNetRing k { r with tsLost := r.tsLost + 1 }).countPort p [(25, 1)]).raise (0x9A + p)).queueOverflow (0x18 + p)
    else s
  let strip := bit r.flags 1 && 0 < vlanTags bs
  let sums := rxSums bs
  let s := if bit sums 8 || bit sums 10 then s.countPort p [(22, 1)] else s
  let data := if strip then (stripVlan bs).1 else bs
  let at_ := s.stamp + s.time.cfg.corr p false
  let x : RxDelivery :=
    { port := p, bytes := data, tci := if strip then (stripVlan bs).2 else 0
      status := 16 * b2n valid + 32 * b2n (wants && !valid) + 64 * b2n strip + sums + 2048 * b2n verified
      stamp := s.stampFields (if valid then some at_ else none), frameLen := f.bytes.length }
  let before := s.netLevel k
  let h := (s.netRing k).host
  let some_ := (s.ring h).on && (s.ring h).posted.any rxDescOk
  let cut := f.breaks stop
  let w := if some_ then State.rxWrite x h cut.2 ((s.ring h).posted.length + 1) true cut.1 data s else (s, false)
  let s := w.1.rxMark k before
  if w.2 then s.ringFrame k
  else if cut.1.isSome && some_ then s
  else
    let r := s.netRing k
    (s.setNetRing k { r with noBuffer := r.noBuffer + 1 }).countPort p [(23, 1)]

/-- Step 4: the destination address is for this port. A general IGMP or MLD query to all hosts is taken too, since R381 has it
answered (DEDUCED, assumption 88). -/
def State.rxTakes (s : State) (p : Nat) (bs : Bytes) : Bool :=
  let c := (s.port p).cfg
  macDest bs == c.mac || isBroadcast bs || c.promisc || (s.groupMacs p).contains (macDest bs)
    || ((queryOf bs).isSome && (macDest bs == 0x01005E000001 || macDest bs == 0x333300000001))
    || (List.range 56).any fun k => (s.netRing k).match_ == 3 && (s.netRing k).fits p bs

/-- A loopback frame between the partners of a Tango pair: the active sends it back, and the standby has its echo (R521). -/
def State.rxLoopback (s : State) (p : Nat) (bs : Bytes) : State :=
  if s.group.role = .active then s.queueOther p 61 (slice bs 6 6 ++ slice bs 0 6 ++ bs.drop 12)
  else { s with group := { s.group with echoes := s.group.echoes.filter (· != 192 + p) } }

/-- Steps 4 to 9, after MACsec. -/
def State.classify (s : State) (p : Nat) (f : RxFrame) (verified : Bool) (stop : Option Nat) (bs : Bytes) : State :=
  if !s.rxTakes p bs then s.countPort p [(24, 1)]
  else if s.ptpFrame p bs then s.toPtp p bs
  else if s.group.paired && etherType bs == 0x88B5 && macDest bs == (s.port p).cfg.mac then s.rxLoopback p bs
  else match s.engineRing p bs with
    | some k => s.toInternal p k bs
    | none =>
      let s := s.takeQuery p bs
      match s.net.ringFor p bs with
      | some k => s.toRing p k f verified stop bs
      | none => s.countPort p [(24, 1)]

/-- The line errors that a port has met (R391); FEC runs in modes 0x00 and 0x01 alone. -/
def State.lineErrors (s : State) (p : Nat) (f : RxFrame) : State :=
  let fec := p < 4 && (s.port p).cfg.mode ≤ 1
  s.countPort p [(19, f.pcsErr), (20, if fec then f.fecCorr else 0), (21, if fec then f.fecUncorr else 0)]

/-- NET_FRAME_RX: a frame at a port. `stop`: descriptors that a frame fills before a poisoned word (R479). -/
def State.netRx (s : State) (p : Nat) (f : RxFrame) (stop : Option Nat) : State :=
  let x := s.port p
  if !s.portOn p || !x.up || 4 < p then s
  else
    let s := s.lineErrors p f
    match x.cfg.step1 f with
    | some k => s.countPort p [(k, 1)]
    | none =>
      let s := s.countPort p (rxCounts f.bytes (f.bytes.length + 4))
      match pauseQuanta f.bytes with
      | some q => s.pauseRx p q
      | none =>
        if isMacControl f.bytes then s.countPort p [(5, 1)]
        else
          let r := (s.port p).secy.receive f.bytes
          let s := s.setPort p { s.port p with secy := r.1 }
          match r.2 with
          | .inl k => s.countPort p [(k, 1)]
          | .inr (bs, verified) => s.classify p f verified stop bs

/-- PAUSE_EXPIRY. -/
def State.pauseExpiry (s : State) (p : Nat) : State :=
  let x := s.port p
  if x.pauseEnd.elim false fun e => decide (e ≤ s.tb) then s.setPort p { x with pauseEnd := none } else s

/-! ### Transmission (R384, R387, R389, R390, R399) -/

/-- A port is free to send. -/
def State.portFree (s : State) (p : Nat) : Bool :=
  let x := s.port p
  p ≤ 4 && s.sends p && (x.pauseEnd.elim true fun e => decide (e ≤ s.tb)) && x.wireEnd.elim true fun e => decide (e ≤ s.tb)

/-- A frame put on the wire. -/
def State.putOnWire (s : State) (p : Nat) (bad : Bool) (bs : Bytes) : State :=
  let s := s.countPort p (txCounts bs ++ (if bad then [(44, 1)] else []))
  let x := s.port p
  let frame := wireFrame bs bad
  (s.setPort p { x with wireEnd := some (s.tb + x.wireTime frame) }).emit (.eth p s.tb frame bad)

/-- A frame protected on its way out; nothing where the SecY drops it. -/
def State.protectOut (s : State) (p : Nat) (want : Bool) (bs : Bytes) : State × Option Bytes :=
  let x := s.port p
  if !want || !x.secy.enable then (s, some bs)
  else
    let r := x.secy.protectFrame bs
    let s := ((s.setPort p { x with secy := r.1 }).raiseIf r.2.2.2.1 0x86).raiseIf r.2.2.2.2 0x87
    (s.countPort p (if r.2.2.1 then [(45, 1)] else if x.secy.exhausted then [(46, 1)] else []), r.2.1)

/-- The outputs of a late frame: a universe, or the universes that a synchronisation packet serves. -/
def State.lateOutputs (s : State) (f : TxFrame) : List Nat :=
  if f.output < 65536 then [f.output]
  else (s.frame f.frame).elim [] fun r => r.dueUniverses.filter fun u => outKey 4 (r.view.net.tx u).sync == f.output

/-- Lateness of an emission run (R338, R394): that of its first packet, or of a synchronisation packet that data packets held back. -/
def State.noteLate (s : State) (p : Nat) (f : TxFrame) : State :=
  let x := s.port p
  let own := (floorDiv (max 0 (s.tb - f.due)) 65536).toNat
  let first := x.runDue != some f.due
  let run := if first then own else x.runLate
  let s := s.setPort p { x with runDue := some f.due, runLate := run }
  let ns := if f.held then own else run
  if ns ≤ 1000 && !f.held then s
  else
    let s := (s.lateOutputs f).foldl (fun s u =>
      let e := s.emission u
      s.setEmission u { e with late := e.late + 1, maxLateNs := max e.maxLateNs ns }) s
    let x := s.port p
    if x.lateFrames.contains f.frame then s
    else (s.setPort p { x with lateFrames := (f.frame :: x.lateFrames).take 16 }).raise 0x7D

/-- A synchronised data packet of a frame leaves a port. -/
def State.noteSyncLeft (s : State) (p : Nat) (f : TxFrame) : State :=
  if f.output = 0 || 65536 ≤ f.output then s
  else (s.frame f.frame).elim s fun r => s.setFrame { r with syncLeft := r.syncLeft ++ [4 * f.output + p] }

/-- A frame of the H64's own engines sent. -/
def State.sendOwn (s : State) (p : Nat) (f : TxFrame) : State :=
  let s := (if f.run then s.noteLate p f else s).noteSyncLeft p f
  let r := s.protectOut p f.protect f.bytes
  match r.2 with
  | none => r.1
  | some bs => (r.1.ringFrame (64 + f.ring)).putOnWire p f.bad bs

/-! #### Host transmit rings -/

/-- The descriptors of the chain in front of a ring: up to the first EOP, or to the one before the next SOP. -/
def chainOf : List BulkDesc → List BulkDesc
  | [] => []
  | d :: ds => if bit d.flags 2 then [d] else match ds with
    | [] => [d]
    | e :: _ => if bit e.flags 1 then [d] else d :: chainOf ds

/-- The chain is complete: it ends with EOP, or is broken by a SOP or by its 65th descriptor. -/
def chainReady (posted : List BulkDesc) : Bool :=
  let c := chainOf posted
  !c.isEmpty && ((c.getLast?.elim false fun d => bit d.flags 2) || c.length < posted.length || 64 < c.length)

/-- The chain keeps the limits of R384. Send flags are bits 7 to 3. -/
def chainOk (maxFrame : Nat) (c : List BulkDesc) : Bool :=
  let total := (c.map (·.length)).sum
  c.length ≤ 64 && (c.head?.elim false fun d => bit d.flags 1) && (c.getLast?.elim false fun d => bit d.flags 2)
    && c.all (fun d => 1 ≤ d.length && d.length ≤ 16384 && bits d.flags 3 5 == bits (c.head?.elim 0 (·.flags)) 3 5 && d.flags < 256)
    && total ≤ maxFrame - 4

/-- The transmit rings of a port whose front chain is complete, by ring number. -/
def State.txReady (s : State) (p : Nat) : List Nat :=
  (List.range 56).filter fun k =>
    let r := s.netRing (64 + k)
    r.host != 0 && r.ports == p && (s.ring r.host).on && chainReady (s.ring r.host).posted

/-- Deficit round robin (R389): the ring that sends, with the deficits then. Each visit grants a ring WEIGHT × 256 B. -/
def drrPick (len weight : Nat → Nat) (ready : List Nat) : Nat → Nat → Map Nat → Option (Nat × Map Nat)
  | 0, _, _ => none
  | fuel + 1, turn, m =>
    if ready.contains turn && len turn ≤ m.getD turn 0 then some (turn, m.put turn (m.getD turn 0 - len turn))
    else
      let m := if ready.contains turn then m else m.put turn 0
      match (ready.find? fun k => turn < k).orElse fun _ => ready.head? with
      | none => none
      | some k => drrPick len weight ready fuel k (m.put k (m.getD k 0 + weight k * 256))

/-- Every descriptor of a chain completes with a CODE and the chain is not sent: BAD_FRAME (R384), HOST_ERROR. -/
def State.endChain (s : State) (h code : Nat) (c : List BulkDesc) : State :=
  c.foldl (fun s d => s.endNetEntry h d (bytesLE 2 code) (code == 4)) s

/-- A chain that breaks the limits of R384. -/
def State.badChain (s : State) (p h : Nat) (c : List BulkDesc) : State := (s.endChain h 6 c).countPort p [(44, 1)]

/-- The tag of VLAN_INSERT put into a frame. -/
def insertVlan (bs : Bytes) (tci : Nat) : Bytes := bs.take 12 ++ bytesBE 2 0x8100 ++ bytesBE 2 tci ++ bs.drop 12

/-- A chain sent: its bytes in host memory are `data`. A stamp is lost where other frames hold 56 entries of the transmit timestamp queue
(R390). -/
def State.sendChain (s : State) (p k : Nat) (c : List BulkDesc) (data : Bytes) (stampsHeld : Nat) : State :=
  let h := (s.netRing (64 + k)).host
  let total := (c.map (·.length)).sum
  let fl := c.head?.elim 0 (·.flags)
  let sums := insertSums (padTo total data) (bit fl 3) (bit fl 4)
  let bs := if bit fl 6 then insertVlan sums.1 (c.head?.elim 0 (·.regionOff)) else sums.1
  let stamp := s.stamp + s.time.cfg.corr p true
  let valid := bit fl 5 && stampsHeld < 56
  let lost := bit fl 5 && !valid
  let fields := s.stampFields (if valid then some stamp else none)
  let s := if lost then
      let r := s.netRing (64 + k)
      (((s.setNetRing (64 + k) { r with tsLost := r.tsLost + 1 }).countPort p [(43, 1)]).raise (0x9A + p)).queueOverflow (0x10 + p)
    else s
  let r := s.protectOut p (bit fl 7) bs
  let s := match r.2 with
    | none => r.1
    | some out => (r.1.ringFrame (64 + k)).putOnWire p false out
  let status := b2n valid + 2 * b2n lost + 4 * b2n sums.2
  (c.foldl (fun (a : State × Nat) d =>
    let last := a.2 + 1 == c.length
    (a.1.endNetEntry h d (bytesLE 2 1 ++ bytesLE 2 d.regionOff ++ bytesLE 2 (if last then status else 0) ++ zeros 12
      ++ (if last then fields else zeros 32)) false, a.2 + 1)) (s, 0)).1

/-- The host ring in turn sends its chain, or gives it up. `hostErr`: the host answers a read of its buffers with an error. -/
def State.sendHost (s : State) (p : Nat) (data : Bytes) (hostErr : Bool) (stampsHeld : Nat) : State :=
  let ready := s.txReady p
  let chain (k : Nat) : List BulkDesc := chainOf (s.ring (s.netRing (64 + k)).host).posted
  let x := s.port p
  let cost (k : Nat) : Nat := if chainOk x.cfg.maxFrame (chain k) then ((chain k).map (·.length)).sum else 0
  match drrPick cost (fun k => (s.netRing (64 + k)).arg) ready 20000 x.turn x.deficits with
  | none => s
  | some (k, m) =>
    let s := s.setPort p { x with turn := k, deficits := m }
    let c := chain k
    let h := (s.netRing (64 + k)).host
    if !chainOk x.cfg.maxFrame c then s.badChain p h c else if hostErr then s.endChain h 4 c else s.sendChain p k c data stampsHeld

/-- NET_FRAME_TX: the port takes its next frame. `data` is what the host's buffers hold, where a host ring is next, `hostErr` that the
host answers with an error, and `stampsHeld` the entries of the transmit timestamp queue that other frames hold. A run whose packets
have come due goes first. -/
def State.netTx (s : State) (p : Nat) (data : Bytes) (hostErr : Bool) (stampsHeld : Nat) : State :=
  if !s.portFree p then s
  else
    let x := s.port p
    match x.runQueue.filter fun f => s.tickReached f.due with
    | f :: _ => (s.setPort p { x with runQueue := x.runQueue.erase f }).sendOwn p f
    | [] => match x.otherQueue with
      | f :: fs => (s.setPort p { x with otherQueue := fs }).sendOwn p f
      | [] => s.sendHost p data hostErr stampsHeld

/-! ### Delay_Req (R141, R389) -/

/-- The engine sends a Delay_Req to its parent, on a port that is UP and free to send (R388, R389). -/
def State.ptpDelayReq (s : State) : State :=
  let c := s.time.ptp
  let p := c.cfg.port
  if !s.portFree p || c.parent.isNone || (c.portState != .uncalibrated && c.portState != .slave) then s
  else
    let one := if c.cfg.delayAddr = 1 then c.parent.map fun m => (m.mac, m.ip) else none
    let bs := delayReqFrame c.cfg (s.port p).cfg c.reqSeq one
    let t3 := s.stamp + s.time.cfg.corr p true
    let s := { s with time := { s.time with ptp := { c with pendingReq := some ⟨c.reqSeq, t3⟩, reqSeq := (c.reqSeq + 1) % 65536 } } }
    let r := s.protectOut p (s.port p).protects bs
    match r.2 with
    | none => r.1
    | some out => (r.1.ringFrame (64 + 60)).putOnWire p false out

/-! ### Universe discovery (R392) -/

/-- The universes that the device transmits on a port. -/
def State.discovered (s : State) (p : Nat) : List Nat :=
  let v := s.txn.view
  let rank := if s.group.inGroup then s.group.rank else 0
  (v.net.transmitted v.patch).filter fun u => bit (v.txPorts u) p && v.universeRank u == rank

/-- SACN_DISCOVERY_TIMER: every 10 s, a list of the universes of each port that carries some (DESIGN CHOICE, assumption 30). -/
def State.sacnDiscovery (s : State) : State :=
  let v := s.txn.view.net
  if !v.discovery || v.cid = 0 || !s.emits || s.net.discoveryAt.elim false fun x => s.now < x + 10 * cycSec then s
  else
    let s := { s with net := { s.net with discoveryAt := some s.now } }
    ((List.range 4).filter s.sends).foldl (fun s p =>
      let pages := piecesOf 512 64 (s.discovered p)
      (pages.zipIdx).foldl (fun s e =>
        s.queueOther p (56 + p) (sacnFrame (s.port p).cfg v.ipv6 64214 (e131Discovery v.cid v.sourceName e.2 (pages.length - 1) e.1))) s) s

/-! ### NET_PORT_SET, NET_RING_BIND and their reads (R401 to R404) -/

/-- NET_PORT_SET (0x0A01). -/
def netPortSetSpec : CommandSpec :=
  { code := 0x0A01, kind := .device, lengthOk := lenIs 40, roleOk := engineer
    argOk := fun c _ => fld c.payload 2 2 ≤ 3 && zeroAt c.payload 0x15 3
    rangeOk := fun c _ => upTo c.payload 0 1 4 && modeFits (min 4 (fld c.payload 0 1)) (fld c.payload 1 1) && within c.payload 4 2 1518 9600 && upTo c.payload 6 2 4094
      && upTo c.payload 0x0E 1 7 && upTo c.payload 0x0F 1 63 && fld c.payload 8 1 % 2 == 0
    body := fun c s =>
      let q := c.payload
      let p := fld q 0 1
      let x := s.port p
      if fld q 1 1 != x.cfg.mode && s.alive (portFn p).1 (portFn p).2 then s.fail .conflict
      else
        let cfg : NetPortCfg :=
          { mode := fld q 1 1, pauseRx := bit (fld q 2 2) 0, promisc := bit (fld q 2 2) 1, maxFrame := fld q 4 2, sacnVlan := fld q 6 2
            mac := beNat (slice q 8 6), pcp := fld q 0x0E 1, dscp := fld q 0x0F 1, ipv4 := beNat (slice q 0x10 4)
            ttl := if fld q 0x14 1 = 0 then 64 else fld q 0x14 1, ipv6 := beNat (slice q 0x18 16) }
        (s.setPort p { x with cfg := cfg }).ok }

/-- The fields of NET_RING_BIND within their codes: PORTS, MATCH, FLAGS and VALUE of a receive ring; zeros of a transmit ring. -/
def bindArgOk (q : Bytes) : Bool :=
  (if fld q 1 1 = 0 then fld q 3 1 < 32 && fld q 5 1 ≤ 3 && (fld q 4 1 != 0 || zeroAt q 8 8)
        && (fld q 4 1 == 3 || zeroAt q 10 6) && zeroAt q 14 2
     else zeroAt q 4 2 && zeroAt q 8 8)

/-- NET_RING_BIND (0x0A02). -/
def netRingBindSpec : CommandSpec :=
  { code := 0x0A02, kind := .device, lengthOk := lenIs 16, roleOk := engineer
    argOk := fun c _ => bindArgOk c.payload
    rangeOk := fun c _ => upTo c.payload 0 1 55 && upTo c.payload 1 1 1 && upTo c.payload 2 1 31 && (fld c.payload 1 1 == 1 || upTo c.payload 4 1 3)
      && (fld c.payload 1 1 == 0 || fld c.payload 2 1 == 0 || (upTo c.payload 3 1 4 && within c.payload 6 2 1 255))
    body := fun c s =>
      let q := c.payload
      let dir := fld q 1 1
      let k := 64 * dir + fld q 0 1
      let h := fld q 2 1
      let r := s.netRing k
      let idle (i : Nat) : Bool := i == 0 || (s.ring i).phase == .disabled
      let taken := h != 0 && s.net.rings.any fun e => e.1 != k && e.2.host == h
      let classOk := h == 0 || ((s.ring h).cfg.cls == 0x10 + dir && !(s.ring h).cfg.dir)
      if !idle h || !idle r.host || !classOk || taken then s.fail .conflict
      else
        (s.setNetRing k { r with
          host := h, ports := fld q 3 1, match_ := fld q 4 1, flags := fld q 5 1, arg := fld q 6 2
          value := if fld q 4 1 = 3 then fld q 8 6 else fld q 8 2 }).ok }

/-- NET_PORT_STATUS (0x0A10); CLEAR_HALF needs an ENGINEER. -/
def netPortStatusSpec : CommandSpec :=
  { code := 0x0A10, kind := .read, lengthOk := lenIs 8
    roleOk := fun c s => anyRole c s && (!bit (fld c.payload 1 1) 0 || engineer c s)
    argOk := fun c _ => fld c.payload 1 1 ≤ 1 && zeroAt c.payload 2 6
    rangeOk := fun c _ => upTo c.payload 0 1 4
    body := fun c s =>
      let p := fld c.payload 0 1
      let x := s.port p
      let off := s.fnCode (portFn p).1 (portFn p).2 == 0
      let ns := x.pauseEnd.elim 0 fun e => (roundDiv (max 0 (e - s.tb)) 65536).toNat
      let resp := bytesLE 1 (s.fnCode (portFn p).1 (portFn p).2) ++ bytesLE 1 (b2n x.up) ++ bytesLE 1 x.cfg.mode
        ++ bytesLE 1 (b2n x.modAbs + 2 * b2n x.txFault + 4 * b2n x.rxLos + 8 * b2n (off && p < 4)) ++ bytesLE 4 ns ++ bytesLE 8 x.half
        ++ countBytes x.counters
      (if bit (fld c.payload 1 1) 0 then s.setPort p { x with half := 0 } else s).okWith resp }

/-- NET_RING_STATUS (0x0A11). -/
def netRingStatusSpec : CommandSpec :=
  { code := 0x0A11, kind := .read, lengthOk := lenIs 8, roleOk := anyRole
    argOk := fun c _ => zeroAt c.payload 2 6
    rangeOk := fun c _ => upTo c.payload 0 1 63 && upTo c.payload 1 1 1
    body := fun c s =>
      let k := 64 * fld c.payload 1 1 + fld c.payload 0 1
      let r := s.netRing k
      s.okWith (bytesLE 1 r.host ++ zeros 3 ++ bytesLE 4 (s.netLevel k) ++ countBytes [r.crossings, r.frames, r.noBuffer, r.tsLost]) }

/-! ### MACsec (R398, R399, R406) -/

/-- A MACsec command is audited (R544): its port, SC, AN and OP, the last three zero for MACSEC_SECY_SET. -/
def State.auditMacsec (s : State) (c : Ctx) (detail : Bytes) : State := s.audit 0x0013 c.session c.role 0 detail

/-- MACSEC_SECY_SET (0x0A30). -/
def macsecSecySetSpec : CommandSpec :=
  { code := 0x0A30, kind := .device, lengthOk := lenIs 56, roleOk := officer
    argOk := fun c _ => upTo c.payload 4 1 7 && zeroAt c.payload 6 2 && zeroAt c.payload 0x0C 4
    rangeOk := fun c _ => upTo c.payload 0 1 4 && upTo c.payload 1 1 1 && upTo c.payload 2 1 1 && upTo c.payload 3 1 2
      && [0, 30, 50].contains (fld c.payload 5 1)
    body := fun c s =>
      let q := c.payload
      let p := fld q 0 1
      let x := s.port p
      let xpn := fld q 2 1 == 1
      if s.auditFull then s.fail .busy
      else if x.secy.enable && xpn != x.secy.xpn then s.fail .conflict
      else
        let f := fld q 4 1
        ((s.auditMacsec c [BitVec.ofNat 8 p]).setPort p { x with secy := { x.secy with
          enable := fld q 1 1 == 1, xpn := xpn, validate := fld q 3 1, protect := bit f 0, includeSci := bit f 1, replay := bit f 2
          confOffset := fld q 5 1, window := fld q 8 4, txSci := fld q 0x10 8, rxSci := (List.range 4).map fun i => fld q (0x18 + 8 * i) 8 } }).ok }

/-- MACSEC_SA_SET (0x0A31). -/
def macsecSaSetSpec : CommandSpec :=
  { code := 0x0A31, kind := .device, lengthOk := lenIs 72, roleOk := officer
    argOk := fun c s =>
      let q := c.payload
      let xpn := (s.port (fld q 0 1)).secy.xpn
      zeroAt q 0x1C 4 && (xpn || (zeroAt q 4 4 && zeroAt q 0x10 12)) && (fld q 3 1 != 2 || zeroAt q 0x20 40)
    rangeOk := fun c s => upTo c.payload 0 1 4 && upTo c.payload 1 1 4 && upTo c.payload 2 1 3 && upTo c.payload 3 1 2
      && fld c.payload 8 8 ≤ (s.port (fld c.payload 0 1)).secy.maxPn
    body := fun c s =>
      let q := c.payload
      let p := fld q 0 1
      let sc := fld q 1 1
      let an := fld q 2 1
      let x := s.port p
      let y := x.secy
      let set (z : SecY) : State := (s.auditMacsec c (q.take 4)).setPort p { x with secy := z }
      if s.auditFull then s.fail .busy
      else if fld q 3 1 = 2 then
        if sc = 0 && y.active.find 0 == some an then s.fail .conflict
        else
          let act := if y.active.find sc == some an then y.active.del sc else y.active
          (set { y with sas := y.sas.del (4 * sc + an), active := act }).ok
      else match s.secure.kekNow.bind fun k => keyUnwrap k (slice q 0x20 40) with
        | none => s.fail .integrity
        | some key =>
          let sa : MacsecSa := { key := key, pn := fld q 8 8, ssci := fld q 4 4, salt := slice q 0x10 12 }
          let on := fld q 3 1 = 1
          let act := if on then y.active.put sc an else y.active
          (set { y with sas := y.sas.put (4 * sc + an) sa, active := act, exhausted := y.exhausted && !(on && sc == 0) }).ok }

/-- MACSEC_STATUS (0x0A32). -/
def macsecStatusSpec : CommandSpec :=
  { code := 0x0A32, kind := .read, lengthOk := lenIs 8, roleOk := diagRead
    argOk := fun c _ => zeroAt c.payload 1 7
    rangeOk := fun c _ => upTo c.payload 0 1 4
    body := fun c s =>
      let y := (s.port (fld c.payload 0 1)).secy
      let mask (sc : Nat) : Nat := ((List.range 4).map fun an => b2n (y.sas.has (4 * sc + an)) * 2 ^ an).sum
      let pn (sc : Nat) : Nat := ((y.active.find sc).bind fun an => y.sas.find (4 * sc + an)).elim 0 (·.pn)
      s.okWith (bytesLE 1 (b2n y.enable) ++ bytesLE 1 (y.active.getD 0 0) ++ bytesLE 2 (mask 0)
        ++ bytesLE 4 (((List.range 4).map fun i => mask (i + 1) * 16 ^ i).sum) ++ bytesLE 8 (pn 0)
        ++ (List.range 4).flatMap fun i => bytesLE 8 (pn (i + 1))) }

/-! ### Meanings -/

/-- NET_FRAME_RX (R379, R382 to R388, R390). -/
def execNetFrameRx (dt port : Nat) (frame : RxFrame) (stop : Option Nat) (s : State) : Host.Outcome State Fault Refusal :=
  s.act dt (·.netRx port frame stop)
/-- PAUSE_EXPIRY (R388). -/
def execPauseExpiry (dt port : Nat) (s : State) : Host.Outcome State Fault Refusal := s.act dt (·.pauseExpiry port)
/-- NET_FRAME_TX (R337, R338, R384, R387, R389, R390, R399). -/
def execNetFrameTx (dt port : Nat) (turn : TxTurn) (s : State) : Host.Outcome State Fault Refusal :=
  s.act dt (·.netTx port turn.data turn.hostErr turn.stampsHeld)
/-- PTP_DELAY_REQ_TX (R141). -/
def execPtpDelayReqTx (dt : Nat) (s : State) : Host.Outcome State Fault Refusal := s.act dt (·.ptpDelayReq)
/-- SACN_DISCOVERY_TIMER (R392). -/
def execSacnDiscoveryTimer (dt : Nat) (s : State) : Host.Outcome State Fault Refusal := s.act dt (·.sacnDiscovery)
/-- NET_PORT_SET (R401). -/
def execNetPortSet (dt m : Nat) (s : State) : Host.Outcome State Fault Refusal := s.act dt (·.runMbx netPortSetSpec m)
/-- NET_RING_BIND (R402). -/
def execNetRingBind (dt m : Nat) (s : State) : Host.Outcome State Fault Refusal := s.act dt (·.runMbx netRingBindSpec m)
/-- NET_PORT_STATUS (R403). -/
def execNetPortStatus (dt m : Nat) (s : State) : Host.Outcome State Fault Refusal := s.act dt (·.runMbx netPortStatusSpec m)
/-- NET_RING_STATUS (R404). -/
def execNetRingStatus (dt m : Nat) (s : State) : Host.Outcome State Fault Refusal := s.act dt (·.runMbx netRingStatusSpec m)
/-- MACSEC_SECY_SET (R406). -/
def execMacsecSecySet (dt m : Nat) (s : State) : Host.Outcome State Fault Refusal := s.act dt (·.runMbx macsecSecySetSpec m)
/-- MACSEC_SA_SET (R398, R399, R406). -/
def execMacsecSaSet (dt m : Nat) (s : State) : Host.Outcome State Fault Refusal := s.act dt (·.runMbx macsecSaSetSpec m)
/-- MACSEC_STATUS (R406). -/
def execMacsecStatus (dt m : Nat) (s : State) : Host.Outcome State Fault Refusal := s.act dt (·.runMbx macsecStatusSpec m)

end Sys2Proof.Machine
end

