-- ==== Sys2Proof/Machine/Tango.lean ====
section
/-!
DEFINITION. Machine/Tango.lean: the roles of a Tango pair: takeovers, yields, self-checks and TANGO_SWITCH (R513 to R520,
R526).
-/

namespace Sys2Proof.Machine

/-- The group changed. -/
def State.setGroup (s : State) (g : GroupState) : State := { s with group := g }

/-! ### A yield (R513 to R515) -/

/-- A lane frame or a DMX packet on the wire is cut short. -/
def State.cutLane (s : State) (l : Nat) (d : LaneDyn) : State :=
  if d.sendEnd.elim false fun x => decide (s.tb < x) then
    let s := s.flushLane l
    (s.setLane l { s.lane l with sendEnd := none }).emit (.laneCut l s.tb)
  else s
def State.cutDmx (s : State) (j : Nat) (d : DmxDyn) : State :=
  let s := s.abortRdm j
  let s := d.run.elim s fun r => s.endOpId r.job.op .aborted s.pos []
  let busy := d.run.isSome || d.sendEnd.elim false fun x => decide (s.tb < x)
  let s := s.setDmx j { s.dmxPort j with run := none, sendEnd := none, turnaround := false, deferDrive := false }
  if busy then s.emit (.dmxCut j s.tb) else s

/-- A PWM output goes inactive, and what waits for it is dropped. -/
def State.cutPwm (s : State) (j : Nat) (d : PwmDyn) : State :=
  let s := s.setPwm j { d with value := none, loads := [], running := false }
  if d.running then s.emit (.pwm j s.tb 0) else s

/-- sACN packets that wait for an Ethernet port are dropped. -/
def NetPort.dropRuns (x : NetPort) : NetPort := { x with runQueue := [], otherQueue := x.otherQueue.filter fun f => !f.run }

/-- Every emission stops at once. -/
def State.stopEmissions (s : State) : State :=
  let s := s.ports.lanes.foldl (fun s e => s.cutLane e.1 e.2) s
  let s := s.ports.dmx.foldl (fun s e => s.cutDmx e.1 e.2) s
  let s := s.ports.pwm.foldl (fun s e => s.cutPwm e.1 e.2) s
  { s with net := { s.net with ports := s.net.ports.mapVal fun _ x => x.dropRuns } }

/-- An ACTIVE device yields for a cause: 1 watchdog, 2 poison, 3 PLL, 4 self-check. A hand-over in progress is over. -/
def State.yieldFor (s : State) (cause : Nat) : State :=
  let g := s.group
  if g.role != .active then s
  else
    let coord := if g.isCoord then some g.partner else g.coord
    let s := s.setGroup { g with
      role := .faulted, actPin := false, yieldCause := cause, yieldPull := !g.yieldStuck, yieldAt := s.now, takeover := none
      switchOp := none, coord := coord }
    let s := g.switchOp.elim s fun op => s.endOpId op .aborted s.pos []
    s.stopEmissions.raise 0xB7

/-- TANGO_YIELD: the fault of R513 is noted for the self-checks of R518, and an ACTIVE device yields. -/
def State.tangoYield (s : State) (cause : Nat) : State :=
  if !s.group.paired || cause = 0 || 3 < cause then s
  else
    let g := s.group
    let n := s.host.devFrame
    let g := if cause = 2 then { g with criticalPoison := some n } else if cause = 3 then { g with pllLoss := some n } else g
    (s.setGroup g).yieldFor cause

/-- TANGO_YIELD_PULSE_END: the net is released after 1 ms. -/
def State.yieldPulseEnd (s : State) : State :=
  if s.group.yieldPull && s.group.yieldAt + cycMs ≤ s.now then s.setGroup { s.group with yieldPull := false } else s

/-! ### The pins (R514, R515) -/

/-- Two cycles lie within 10 µs of each other. -/
def within10us (a b : Nat) : Bool := a ≤ b + 10 * cycUs && b ≤ a + 10 * cycUs

/-- The first latch point at least 50 µs away. -/
def State.takeoverFrame (s : State) : Nat :=
  let n := s.clock.nextLatch
  let ok (k : Nat) : Bool := decide (s.tb + usUnits 50 ≤ (s.clock.predict k).latch)
  ((List.range 16).map (n + ·)).find? ok |>.getD (n + 16)

/-- A standby takes over; at once where the show clock is stopped and there is no latch point (DESIGN CHOICE, assumption 61). -/
def State.takeOver (s : State) : State :=
  let g := s.group
  let low := g.yieldLowAt.elim false fun t => !g.yieldStuck && within10us t s.now
  let s := s.setGroup { g with yieldTakeover := low, takeover := some (s.takeoverFrame, false) }
  if s.clock.run then s else s.becomeActive s.host.devFrame false

/-- TANGO_PEER_ACT_LOW. An ACTIVE device that waited for its partner raises TANGO_ACTIVE (R519). -/
def State.peerActLow (s : State) : State :=
  if !s.group.paired then s
  else
    let s := s.setGroup { s.group with peerAct := false, peerLowAt := some s.now }
    match s.group.role with
    | .standby => if s.group.takeover.elim false fun t => !t.2 then s else s.takeOver
    | .suspect | .resync | .detached => s.raise 0xB1
    | .active => s.setGroup { s.group with actPin := true }
    | _ => s

/-- TANGO_YIELD_NET_LOW: the net goes low, or has been low for 10 µs while TANGO_PEER_ACT stays high. A low that is not stuck is
over after 2 ms, so a low after that is a new one. -/
def State.yieldNetLow (s : State) : State :=
  let g := s.group
  if !g.paired || g.yieldStuck then s
  else
    let goesLow := g.yieldLowAt.elim true fun t => t + 2 * cycMs ≤ s.now
    if goesLow then
      let late := g.takeover.isSome && g.role == .standby && g.peerLowAt.elim false fun t => within10us t s.now
      s.setGroup { g with yieldNet := false, yieldLowAt := some s.now, netWarned := false, yieldTakeover := g.yieldTakeover || late }
    else if g.peerAct && !g.netWarned && g.yieldLowAt.elim false (fun t => t + 10 * cycUs ≤ s.now) then
      (s.setGroup { g with netWarned := true }).raise 0xB1
    else s

/-- TANGO_YIELD_NET_STUCK: low for more than 2 ms. -/
def State.yieldNetStuck (s : State) : State :=
  let g := s.group
  if g.paired && !g.yieldStuck && g.yieldLowAt.elim false (fun t => t + 2 * cycMs < s.now) then
    (s.setGroup { g with yieldStuck := true }).raise 0xB1
  else s

/-- TANGO_YIELD_NET_HIGH. -/
def State.yieldNetHigh (s : State) : State :=
  s.setGroup { s.group with yieldNet := true, yieldStuck := false, yieldLowAt := none, netWarned := false }

/-! ### Digests and self-checks (R517, R518) -/

/-- The partner's digest record arrives. -/
def State.takeDigest (s : State) (d : Bytes) : State :=
  let n := dgFrame d
  if s.compares then (s.setRun n { s.group.runs.getD n {} with peer := some d }).compareDigests n else s

/-- DIGEST_TIMEOUT: a frame whose records have not both arrived within four frames. -/
def State.digestTimeout (s : State) : State :=
  match s.group.runs.find? fun e => !e.2.mismatch && (e.2.own.isNone || e.2.peer.isNone) && e.1 + 4 ≤ s.host.devFrame with
  | some e => ({ s with group := { s.group with uncompared := s.group.uncompared + 1 } } : State).endRun e.1
  | none => s

/-- The self-check of frame `n` ends: it passes when the re-render equals the device's own digest, with neither critical poison
nor PLL loss since frame n − 8. -/
def State.selfCheckDone (s : State) (n : Nat) (same : Bool) : State :=
  let d := s.group.runs.getD n {}
  if !d.mismatch || d.ownPass.isSome then s
  else
    let since (x : Option Nat) : Bool := x.elim false (n ≤ · + 8)
    let pass := same && !since s.group.criticalPoison && !since s.group.pllLoss
    (s.setRun n { d with ownPass := some pass }).gsend s.group.partner 2 (.selfCheck n pass)

/-- The partner's report. -/
def State.takeCheck (s : State) (n : Nat) (pass : Bool) : State :=
  if s.compares then s.setRun n { s.group.runs.getD n {} with peerPass := some pass } else s

/-- A standby becomes suspect. -/
def State.becomeSuspect (s : State) : State :=
  if s.group.role = .standby then (s.setGroup { s.group with role := .suspect, takeover := none }).raise 0xB9 else s

/-- MISMATCH_OUTCOME of frame `n`: with both reports, or after four frames, when a missing report counts as a fail. -/
def State.mismatchOutcome (s : State) (n : Nat) : State :=
  let d := s.group.runs.getD n {}
  if !d.mismatch || ((d.ownPass.isNone || d.peerPass.isNone) && s.host.devFrame < n + 4) then s
  else
    let own := d.ownPass.getD false
    let peer := d.peerPass.getD false
    let s := s.endRun n
    match s.group.role with
    | .active => if !own && peer then s.yieldFor 4 else s.setGroup { s.group with peerSuspect := true }
    | .standby => if own && !peer then s else s.becomeSuspect
    | _ => s

/-- STANDBY_DETACH_TIMEOUT: no sealed record for 16 frames. -/
def State.standbyDetach (s : State) : State :=
  let from_ := max s.group.sealFrom (s.group.lastSeal.elim 0 (· + 1))
  if s.group.role = .standby && s.clock.run && from_ + 16 ≤ s.clock.nextLatch then
    s.setGroup { s.group with role := .detached, takeover := none }
  else s

/-! ### TANGO_SWITCH (R519, R526) -/

/-- The partner is a member in STANDBY. -/
def GroupState.partnerReady (g : GroupState) : Bool :=
  g.present g.partner && !g.peerSuspect && !g.resyncing.contains g.partner

/-- The frame of a hand-over. -/
def State.switchTarget (s : State) (mode frame : Nat) (db : Pos) : Option Nat :=
  let lead := s.commitLead
  if mode = 1 then some (s.clock.earliest lead db)
  else if frame < s.clock.nextLatch || s.clock.deadline frame lead ≤ db then none else some frame

/-- TANGO_SWITCH (0x0D20). A stopped show clock, or a hand-over in progress, is a conflict (DESIGN CHOICE, assumption 61). -/
def tangoSwitchSpec : CommandSpec :=
  { code := 0x0D20, kind := .device, lengthOk := lenIs 16, roleOk := engineer
    argOk := fun c _ => zeroAt c.payload 1 7, rangeOk := fun c _ => upTo c.payload 0 1 1
    body := fun c s =>
      let g := s.group
      if s.auditFull then s.fail .busy
      else if g.role != .active || !g.partnerReady || g.takeover.isSome || !s.clock.run then s.fail .conflict
      else match s.switchTarget (fld c.payload 0 1) (fld c.payload 8 8) c.db with
        | none => s.fail .late
        | some m =>
          s.accept c (.job [m] []) [] fun id s =>
            let s := s.audit 0x0050 c.session c.role 1 (bytesLE 2 0x0D20 ++ slice c.payload 0 16)
            (s.setGroup { s.group with takeover := some (m, true), switchOp := some id }).gsend s.group.partner 1 (.switch_ m) }

/-- The partner hands over at L(m), or calls it off. -/
def State.takeSwitch (s : State) (m : Nat) : State :=
  if s.group.role = .standby then s.setGroup { s.group with takeover := some (m, true) } else s
def State.dropSwitch (s : State) : State :=
  match s.group.takeover with
  | some (_, true) => s.setGroup { s.group with takeover := none }
  | _ => s

/-! ### Meanings -/

/-- DIGEST_TIMEOUT (R517). -/
def execDigestTimeout (dt : Nat) (s : State) : Host.Outcome State Fault Refusal := s.act dt (·.digestTimeout)
/-- SELF_CHECK_DONE (R518): the frame, and whether the re-render equals the device's own digest. -/
def execSelfCheckDone (dt frame : Nat) (same : Bool) (s : State) : Host.Outcome State Fault Refusal :=
  s.act dt (·.selfCheckDone frame same)
/-- MISMATCH_OUTCOME (R518). -/
def execMismatchOutcome (dt frame : Nat) (s : State) : Host.Outcome State Fault Refusal := s.act dt (·.mismatchOutcome frame)
/-- TANGO_PEER_ACT_LOW (R514, R515, R577). -/
def execTangoPeerActLow (dt : Nat) (s : State) : Host.Outcome State Fault Refusal := s.act dt (·.peerActLow)
/-- TANGO_YIELD (R513, R515). -/
def execTangoYield (dt cause : Nat) (s : State) : Host.Outcome State Fault Refusal := s.act dt (·.tangoYield cause)
/-- TANGO_YIELD_PULSE_END (R514). -/
def execTangoYieldPulseEnd (dt : Nat) (s : State) : Host.Outcome State Fault Refusal := s.act dt (·.yieldPulseEnd)
/-- TANGO_YIELD_NET_LOW (R514). -/
def execTangoYieldNetLow (dt : Nat) (s : State) : Host.Outcome State Fault Refusal := s.act dt (·.yieldNetLow)
/-- TANGO_YIELD_NET_STUCK (R514). -/
def execTangoYieldNetStuck (dt : Nat) (s : State) : Host.Outcome State Fault Refusal := s.act dt (·.yieldNetStuck)
/-- TANGO_YIELD_NET_HIGH (R514). -/
def execTangoYieldNetHigh (dt : Nat) (s : State) : Host.Outcome State Fault Refusal := s.act dt (·.yieldNetHigh)
/-- STANDBY_DETACH_TIMEOUT (R515). -/
def execStandbyDetachTimeout (dt : Nat) (s : State) : Host.Outcome State Fault Refusal := s.act dt (·.standbyDetach)
/-- TANGO_SWITCH (R519, R526). -/
def execTangoSwitch (dt m : Nat) (s : State) : Host.Outcome State Fault Refusal := s.act dt (·.runMbx tangoSwitchSpec m)

end Sys2Proof.Machine
end

