-- ==== Sys2Proof/Machine/Member.lean ====
section
/-!
DEFINITION. Machine/Member.lean: forming the group, membership and coordinator, group commits, and resynchronisation
(R504 to R509).
-/

namespace Sys2Proof.Machine

/-! ### Presence (R505, R506) -/

/-- The presence bit of a member set or cleared. -/
def GroupState.setPresent (g : GroupState) (who : Nat) (b : Bool) : GroupState :=
  let f (x : Nat) : Nat := if bit x (who % 16) == b then x else if b then x + 2 ^ (who % 16) else x - 2 ^ (who % 16)
  if who < 16 then { g with presentA := f g.presentA } else { g with presentB := f g.presentB }

/-- A rank that the record names lacks an active device. -/
def GroupState.lacks (g : GroupState) : Bool := (List.range g.ranks).any fun r => !g.present r && !g.present (16 + r)

/-- The phase follows the presence bits; GROUP_DEGRADED is raised where the group becomes degraded. -/
def State.regroup (s : State) : State :=
  if !s.group.live then s
  else
    let lacks := s.group.lacks
    let newly := lacks && s.group.phase == .formed
    let phase : GroupPhase := if lacks then .degraded else .formed
    let s := { s with group := { s.group with phase := phase }, host := { s.host with degraded := lacks } }
    s.raiseIf newly 0xB1

/-- A member has been heard within the last 200 µs. -/
def State.reaches (s : State) (who : Nat) : Bool := (s.group.heard.find who).elim false fun t => s.now < t + 200 * cycUs

/-- A frame from a member has arrived. -/
def State.hear (s : State) (who : Nat) : State := { s with group := { s.group with heard := s.group.heard.put who s.now } }

/-- The active device of a rank, as far as it is known here: the one whose delta came last, or the one present, plane A first. -/
def GroupState.activeFor (g : GroupState) (r : Nat) : Nat :=
  match g.activeOf.find r with
  | some w => if g.present w && w % 16 == r then w else if g.present r then r else 16 + r
  | none => if g.present r then r else 16 + r

/-- The device is isolated: commits that wait for the coordinator end (R506). -/
def State.isolate (s : State) : State := ({ s with group := { s.group with phase := .isolated } } : State).dropAsked

/-! ### Forming (R504, R505) -/

/-- The members of the record that have been heard, and this device. -/
def GroupState.reached (g : GroupState) : List Nat := g.named.filter fun w => w == g.me || g.heard.has w

/-- The group forms with the given members: presence, role and coordinator. -/
def State.form (s : State) (ms : List Nat) (peerAct : Bool) : State :=
  let g := ms.foldl (fun g w => g.setPresent w true) ({ s.group with presentA := 0, presentB := 0 } : GroupState)
  let alone := !ms.contains g.partner
  let active := g.paired && !peerAct && (g.plane == 0 || alone)
  let role : TangoRole := if !g.paired then .none_ else if active then .active else .standby
  let first := (List.range g.ranks).find? fun r => g.present r || g.present (16 + r)
  let coord := first.map fun r => if r == g.rank && g.paired && active then g.me else if g.present r then r else 16 + r
  let phase : GroupPhase := if g.lacks || ms.length != g.named.length then .degraded else .formed
  let g := { g with role := role, actPin := role == TangoRole.active, peerAct := peerAct, coord := coord, phase := phase, sealFrom := s.clock.nextLatch }
  let s := { s with group := g, host := { s.host with groupFormed := true, degraded := phase == GroupPhase.degraded } }
  let s := s.raise 0xB0
  if g.isCoord then s.gcast 0 (.coordinator g.me) else s

/-- GROUP_FORMATION: every member that the record names has been reached, and no group has formed without this device. -/
def State.groupFormation (s : State) (peerAct : Bool) : State :=
  let g := s.group
  if g.phase != .forming || !s.host.mbxReady || g.presentA + g.presentB != 0 || !g.named.all g.reached.contains then s
  else s.form g.named peerAct

/-- GROUP_FORMATION_TIMEOUT: at 4.0 s the members that have been reached form the group. -/
def State.groupTimeout (s : State) (peerAct : Bool) : State :=
  let g := s.group
  if g.phase != .forming || !s.host.mbxReady || s.now < 4 * cycSec || g.presentA + g.presentB != 0 || g.named.all g.reached.contains then s
  else
    let s := s.form g.reached peerAct
    ({ s with group := { s.group with phase := .degraded }, host := { s.host with degraded := true } } : State).raise 0xB1

/-! ### Loss (R505, R506) -/

/-- The presence bits of a membership notice. A device that the notice leaves out is isolated; one that has not formed yet keeps
the bits, and joins by resynchronisation. -/
def State.takeMembership (s : State) (a b : Nat) : State :=
  let g := s.group
  let g' := { g with presentA := a, presentB := b }
  if !g.live then s.setGroup g'
  else
    let lost := g.named.filter fun w => g.present w && !g'.present w
    let new_ := g.named.filter fun w => !g.present w && g'.present w
    let s := (s.setGroup g').raiseAll (List.replicate lost.length 0xB2 ++ List.replicate new_.length 0xB3)
    if lost.contains g.me then s.isolate else s.regroup

/-- The coordinator tells the group who is present. -/
def State.announceMembers (s : State) : State := s.gcast 0 (.membership s.group.presentA s.group.presentB s.clock.nextLatch)

/-- Presence bits that the coordinator changes, with the event of each. -/
def State.dropMember (s : State) (who : Nat) : State :=
  let g := s.group.setPresent who false
  let g := { g with missed := g.missed.del (who % 16), resyncing := g.resyncing.filter (· != who) }
  (((s.setGroup g).announceMembers).raise 0xB2).regroup

/-- MEMBER_LOSS_TIMEOUT of a member: nothing from it for 200 µs, or three seals in a row without its delta. -/
def State.memberLoss (s : State) (who : Nat) : State :=
  let g := s.group
  let silent := !s.reaches who
  let missing := g.activeFor (who % 16) == who && 3 ≤ g.missed.getD (who % 16) 0
  if g.live && g.isCoord && who != g.me && g.present who && (silent || missing) then s.dropMember who else s

/-- The device is the coordinator from now on. -/
def State.becomeCoord (s : State) : State := (s.setGroup { s.group with coord := some s.group.me }).gcast 0 (.coordinator s.group.me)

/-- COORDINATOR_LOSS_TIMEOUT. While the coordinator's partner is reached, a takeover keeps the role at its rank; otherwise the
active of the lowest rank that is still reached is elected, and a device that reaches none is isolated. -/
def State.coordinatorLoss (s : State) : State :=
  let g := s.group
  match g.coord with
  | none => s
  | some k =>
    let twin := memberNum (k % 16) (1 - k / 16)
    if !g.live || g.isCoord || g.resync || s.reaches k || (g.paired && (twin == g.me || (g.present twin && s.reaches twin))) then s
    else
      let there := g.named.filter fun w => w != g.me && g.present w && w % 16 != k % 16 && s.reaches w
      if there.isEmpty then s.isolate
      else
        let ranks := (List.range g.ranks).filter fun r => r == g.rank || there.any (· % 16 == r)
        let first := ranks.headD g.rank
        let c := if first == g.rank then (if g.paired && g.role != .active then g.partner else g.me)
          else if there.contains (g.activeFor first) then g.activeFor first
          else if there.contains first then first else 16 + first
        let g' := (g.setPresent k false).setPresent twin false
        let s := (s.setGroup { g' with coord := some c }).raise 0xB2
        let s := if c == g.me then s.becomeCoord.announceMembers else s
        s.regroup

/-! ### Group commits (R509) -/

/-- Members that a commit awaits: every other current member and every standby that does not resynchronise. -/
def GroupState.awaited (g : GroupState) : List Nat :=
  g.named.filter fun w => w != g.me && g.present w && !g.resyncing.contains w && !(w == g.partner && g.peerSuspect)

/-- A commit arrives from its issuer at the coordinator: the transactions that the issuer did not know of may conflict with it;
otherwise it takes its place and is distributed. -/
def State.orderCommit (s : State) (gseq target place : Nat) (stopped : Bool) (ws : List ShowWrite) : State :=
  let mine := writtenObjects s.txn.view ws
  let clash := s.txn.accepted.any fun a => place < a.place && a.objects.any mine.contains
  let issuer := gseq % 32
  if clash || 64 ≤ s.txn.waiting.length then s.gsend issuer 1 (.conflict gseq !clash)
  else
    let s := s.remoteCommit gseq target ws
    s.gcast 1 (.commit gseq target s.group.order stopped ws)

/-- A commit distributed by the coordinator arrives: it takes its place here too and is acknowledged as prepared. -/
def State.placeCommit (s : State) (gseq target : Nat) (ws : List ShowWrite) : State :=
  let s := match s.group.asked.find? (·.seq == gseq) with
    | some a => s.askedPlaced a
    | none => if (s.groupCommit gseq).isSome then s else s.remoteCommit gseq target ws
  s.group.coord.elim s fun k => s.gsend k 1 (.prepared gseq s.group.me)

/-- The commit message of R509, at the coordinator or at another member. -/
def State.takeCommitMsg (s : State) (gseq target place : Nat) (stopped : Bool) (ws : List ShowWrite) : State :=
  if s.group.isCoord then s.orderCommit gseq target place stopped ws else s.placeCommit gseq target ws

/-- An acknowledgement. -/
def State.takePrepared (s : State) (gseq who : Nat) : State :=
  match s.groupCommit gseq with
  | some (slot, t, k) => s.setCommit slot t { k with prepared := who :: k.prepared.filter (· != who) }
  | none => s

/-- The coordinator's decision on a commit: it stays to be applied, or ends without effect, with LATE at its issuer. -/
def State.decideCommit (s : State) (gseq : Nat) (apply : Bool) : State :=
  match s.groupCommit gseq with
  | some (slot, t, k) => if apply then s.setCommit slot t { k with apply := some true } else s.commitFails slot t k .late
  | none => s

/-- A commit refused by the coordinator. -/
def State.takeConflict (s : State) (gseq : Nat) (full : Bool) : State :=
  (s.group.asked.find? (·.seq == gseq)).elim s fun a => s.askedConflict a full

/-- A commit that its issuer withdrew: the later ones are checked again (R584). -/
def State.takeWithdrawn (s : State) (gseq : Nat) : State :=
  match s.groupCommit gseq with
  | some (slot, t, k) => (s.abortCommit slot t k).getD s
  | none => s

/-- COMMIT_DEADLINE: the decision on the first commit whose deadline has come. A device that reaches no coordinator lets its own
commits end with LATE. -/
def State.commitDeadline (s : State) : State :=
  let due := s.txn.waiting.filterMap fun e => e.2.commit.bind fun k =>
    if k.apply.isNone && s.commitDecided { k with decided := false } then some (e.1, e.2, k) else none
  match due.head? with
  | none => s
  | some (slot, t, k) =>
    if !s.group.inGroup then s
    else if s.group.phase == .isolated then s.commitFails slot t k .late
    else if !s.group.live || !s.group.isCoord then s
    else
      let ready := s.group.awaited.all k.prepared.contains
      let s := s.gcast 1 (.decide k.gseq ready)
      let s := s.decideCommit k.gseq ready
      s.raiseIf (!ready) 0xBD

/-! ### Resynchronisation (R507) -/

/-- RESYNC_START: a late, isolated or suspect device, or a detached one that gets seals again, asks for the state of the group. -/
def State.resyncStart (s : State) : State :=
  let g := s.group
  let late := g.phase == .forming && g.presentA + g.presentB != 0
  let lone := g.phase == .isolated && g.coord.elim false s.reaches
  let back := g.role == .detached && g.lastSeal.elim false fun n => s.clock.nextLatch ≤ n + 16
  if !g.inGroup || g.resync || g.coord.isNone || !(late || lone || g.role == .suspect || back) then s
  else
    let role : TangoRole := if g.paired then .resync else .none_
    let s := s.setGroup { g with resync := true, holds := false, role := role, actPin := false, takeover := none }
    s.gcast 3 (.resyncRequest g.me)

/-- What a device sends of its state. -/
def State.transfer (s : State) : Transfer :=
  { epoch := s.host.devEpoch, view := s.txn.view, viewPos := s.txn.viewPos, next := s.clock.nextLatch, clock := s.clock
    dyn := s.render.dyn, gov := s.render.gov, safety := s.render.safety, factors := s.render.factors, hist := s.render.hist
    baseSince := s.render.baseSince, regionLog := s.render.regionLog, tx := ⟨s.net.seq, s.net.terms⟩, commits := s.txn.waitingTxns, order := s.group.order
    seals := s.group.seals }

/-- A device asks for a transfer: its partner, or else the coordinator, answers; no commit and no seal awaits it meanwhile. -/
def State.takeResyncRequest (s : State) (who : Nat) : State :=
  let g := { s.group with resyncing := who :: s.group.resyncing.filter (· != who) }
  let s := s.setGroup g
  let twin := memberNum (who % 16) (1 - who / 16)
  let partnerSends := g.paired && g.present twin
  if g.live && !g.resync && (if partnerSends then g.me == twin else g.isCoord) then s.gsend who 3 (.state s.transfer) else s

/-- The clock of the group, with this device's own reference edges; it latches the first frame still to come. -/
def State.joinClock (s : State) (t : Transfer) : ClockState :=
  let c := { t.clock with edges := s.clock.edges, words := s.clock.words }
  let ahead := ((List.range 64).map (t.next + ·)).find? fun n => decide (s.tb < (c.predict n).latch)
  { c with nextLatch := if c.run then ahead.getD (t.next + 64) else t.next }

/-- The group's commits in a transfer, and those that arrived while it was under way, in their order; each in a slot of its own. -/
def State.joinCommits (s : State) (t : Transfer) : List TxnSlot :=
  let later := s.txn.waitingTxns.filter fun x => x.commit.elim false fun k => t.order < k.place
  let known (g : Nat) : Option (Option Bool) := (s.groupCommit g).map fun x => x.2.2.apply
  (t.commits ++ later).map fun x => { x with
    session := 0
    commit := x.commit.map fun k => { k with op := 0, apply := k.apply <|> (known k.gseq).getD none } }

/-- The commits of this device end without effect: no coordinator decided on them. -/
def State.failOwn (s : State) : State :=
  s.txn.waiting.foldl (fun s e => if e.1 < 16 then e.2.commit.elim s fun k => s.commitFails e.1 e.2 k .late else s) s

/-- The commits of a transfer whose latch points passed while it was under way are applied. -/
def State.catchUp (s : State) : List (Nat × TxnSlot) → State
  | [] => s
  | e :: l =>
    match e.2.commit with
    | some k =>
      if k.apply == some true && k.target < s.clock.nextLatch then
        let s := s.applyWritesAt k.target k.order {} (s.clock.predict k.target).period e.2.writes k.changeFrame
        (s.dropTxn e.1).catchUp l
      else s.catchUp l
    | none => s.catchUp l

/-- A transfer arrives at a device that waits for it. Snapshots of epochs that it no longer retains are released (DESIGN CHOICE,
assumption 62). -/
def State.takeTransfer (s : State) (t : Transfer) : State :=
  if !s.group.resync || s.group.holds then s
  else
    let ks := s.joinCommits t
    let s := s.failOwn
    let clock := s.joinClock t
    let kept : Map TxnSlot := s.txn.slots.range 0 16
    let slots := (ks.zipIdx).foldl (fun (m : Map TxnSlot) x => m.put (16 + s.txn.nextSeq + x.2)
      { x.1 with commit := x.1.commit.map fun k => { k with seq := s.txn.nextSeq + x.2 } }) kept
    let snaps : Map SnapSlot := s.txn.snaps.mapVal fun _ x => { x with released := true }
    let txn := { s.txn with
      view := t.view, viewPos := t.viewPos, epochs := [], slots := slots, nextSeq := s.txn.nextSeq + ks.length, snaps := snaps, accepted := [] }
    let render := { s.render with
      frames := [], dyn := t.dyn, gov := t.gov, safety := t.safety, factors := t.factors, hist := t.hist, baseSince := t.baseSince
      regionLog := t.regionLog }
    let s := { s with
      txn := txn, clock := clock, render := render
      host := { s.host with devEpoch := t.epoch }
      net := { s.net with seq := t.tx.seq, terms := t.tx.terms }
      group := { s.group with holds := true, order := max t.order s.group.order, seals := mergeMap t.seals s.group.seals, sealFrom := clock.nextLatch } }
    s.catchUp s.txn.waiting

/-- The device holds the epoch and the sealed record of the frame latched last, or the show clock is stopped. -/
def State.complete (s : State) : Bool :=
  !s.clock.run || (s.render.frames.getLast?).elim false (·.sealed)

/-- RESYNC_DONE: the device is a member again. -/
def State.resyncDone (s : State) : State :=
  let g := s.group
  if !g.resync || !g.holds || !s.complete then s
  else
    let role : TangoRole := if g.paired then .standby else .none_
    let g := ({ g with resync := false, holds := false, role := role, phase := .formed, sealFrom := s.clock.nextLatch } : GroupState).setPresent g.me true
    let s := { s with group := g, host := { s.host with groupFormed := true } }
    ((s.regroup).raise 0xBA).gcast 0 (.joined g.me)

/-- A device has joined. -/
def State.takeJoined (s : State) (who : Nat) : State :=
  let g := (s.group.setPresent who true)
  let g := { g with
    resyncing := g.resyncing.filter (· != who), missed := g.missed.put (who % 16) 0, peerSuspect := g.peerSuspect && who != g.partner }
  ((s.setGroup g).raise 0xB3).regroup

/-- The payload of a device's HELLO broadcast (R504, R507): a member that the record names is reached. The coordinator tells a
device that is not present who is. -/
def State.takeHelloMsg (s : State) (uid rank plane : Nat) (digest : Bytes) : State :=
  let g := s.group
  let who := memberNum rank plane
  if !g.named.contains who || g.uidAt rank plane != uid || digest != g.digest then s
  else
    let s := s.hear who
    if g.live && g.isCoord && !g.present who then
      let s := s.gsend who 0 (.coordinator g.me)
      s.gsend who 0 (.membership g.presentA g.presentB s.clock.nextLatch)
    else s

/-! ### Meanings -/

/-- GROUP_FORMATION (R504, R505, R515): the level of TANGO_PEER_ACT. -/
def execGroupFormation (dt : Nat) (peerAct : Bool) (s : State) : Host.Outcome State Fault Refusal := s.act dt (·.groupFormation peerAct)
/-- GROUP_FORMATION_TIMEOUT (R504, R515). -/
def execGroupFormationTimeout (dt : Nat) (peerAct : Bool) (s : State) : Host.Outcome State Fault Refusal :=
  s.act dt (·.groupTimeout peerAct)
/-- MEMBER_LOSS_TIMEOUT (R506). -/
def execMemberLossTimeout (dt who : Nat) (s : State) : Host.Outcome State Fault Refusal := s.act dt (·.memberLoss who)
/-- COORDINATOR_LOSS_TIMEOUT (R505, R506). -/
def execCoordinatorLossTimeout (dt : Nat) (s : State) : Host.Outcome State Fault Refusal := s.act dt (·.coordinatorLoss)
/-- COMMIT_DEADLINE (R81, R509). -/
def execCommitDeadline (dt : Nat) (s : State) : Host.Outcome State Fault Refusal := s.act dt (·.commitDeadline)
/-- RESYNC_START (R507, R515). -/
def execResyncStart (dt : Nat) (s : State) : Host.Outcome State Fault Refusal := s.act dt (·.resyncStart)
/-- RESYNC_DONE (R507, R515). -/
def execResyncDone (dt : Nat) (s : State) : Host.Outcome State Fault Refusal := s.act dt (·.resyncDone)

end Sys2Proof.Machine
end

