-- ==== Sys2Proof/Machine/Update.lean ====
section
/-!
DEFINITION. Machine/Update.lean: packages, their verification, and the commands that receive and verify them (R527 to
R531, R550, R551, R553).
-/

namespace Sys2Proof.Machine

/-! ### Packages (R529) -/

/-- The image of a package area: the factory package stands in area 0 until an update writes it (R527). -/
def UpdateState.area (u : UpdateState) (i : Nat) : Bytes := u.areas.getD i (if i = 0 then Config.factoryPackage else [])

/-- The running package and the staging area's number. -/
def UpdateState.package (u : UpdateState) : Bytes := u.area u.running
def UpdateState.staging (u : UpdateState) : Nat := 1 - u.running

/-- Header fields of a manifest. -/
def pkLength (p : Bytes) : Nat := fld p 4 4
def pkRelease (p : Bytes) : Nat := fld p 8 4
def pkSecurity (p : Bytes) : Nat := fld p 0x0C 4
def pkGen (p : Bytes) : Nat := fld p 0x10 2
def pkPubkey (p : Bytes) : Bytes := slice p 0x20 97

/-- The manifest's bytes under the signature, the whole manifest, and its digest. -/
def pkSigned (p : Bytes) : Bytes := p.take (0x90 + 64 * 8)
def pkManifest (p : Bytes) : Bytes := p.take (0x90 + 64 * 8 + 96)
def pkDigest (p : Bytes) : Bytes := sha384 (pkManifest p)

/-- Entry of part `k`, 1 to 8. -/
def pkPart (p : Bytes) (k : Nat) : Bytes := slice p (0x90 + 64 * (k - 1)) 64

/-- The image that a part entry names. -/
def pkImage (p e : Bytes) : Bytes := slice p (fld e 8 4) (fld e 12 4)

/-- The largest length of a part (table "Parts"). -/
def partMax (k : Nat) : Nat :=
  match k with
  | 1 => 0x100000
  | 2 => 0x200000
  | 3 => 0x800000
  | 4 => 0x400000
  | 5 => 0x100000
  | 6 => 0x200000
  | 7 => 0x100000
  | _ => 0x10000

/-- A part entry is as R529 gives. -/
def partOk (p : Bytes) (k : Nat) : Bool :=
  let e := pkPart p k
  fld e 0 1 == k && zeroAt e 1 3 && fld e 8 4 % 4096 == 0 && 0x90 + 64 * 8 + 96 ≤ fld e 8 4
    && 1 ≤ fld e 12 4 && fld e 12 4 ≤ partMax k && fld e 8 4 + fld e 12 4 ≤ pkLength p

/-- Two parts do not overlap. -/
def partsApart (p : Bytes) (a b : Nat) : Bool :=
  let x := pkPart p a
  let y := pkPart p b
  a == b || fld x 8 4 + fld x 12 4 ≤ fld y 8 4 || fld y 8 4 + fld y 12 4 ≤ fld x 8 4

/-- FORMAT, PART_COUNT, entries and reserved fields are as R529 gives. -/
def formatOk (p : Bytes) : Bool :=
  let ks := [1, 2, 3, 4, 5, 6, 7, 8]
  fld p 0 2 == 1 && fld p 2 2 == 8 && pkLength p ≤ 33554432 && pkSecurity p ≤ 63 && zeroAt p 0x13 13 && zeroAt p 0x81 15
    && ks.all (partOk p) && ks.all fun a => ks.all (partsApart p a)

/-- RESULT of R530 for a package, `complete` telling whether every byte of it is there. -/
def verifyPackage (counter revoked : Nat) (complete : Bool) (p : Bytes) : Nat :=
  if !complete then 7
  else if !formatOk p then 1
  else if fld p 0x12 1 != 0xB0 then 6
  else if !((List.range 4).any fun k => Config.manifestKeyHash k == sha384 (pkPubkey p) && !bit revoked k) then 2
  else if !ecdsaVerify (pkPubkey p) (pkSigned p) (slice p (0x90 + 64 * 8) 96) then 3
  else if pkSecurity p < counter then 4
  else if !([1, 2, 3, 4, 5, 6, 7, 8].all fun k => sha384 (pkImage p (pkPart p k)) == slice (pkPart p k) 16 48) then 5
  else 0

/-- The parts of a package that change against another, as a bit mask (R528). -/
def changedParts (old new_ : Bytes) : Nat :=
  [1, 2, 3, 4, 5, 6, 7, 8].foldl (fun a k =>
    if slice (pkPart old k) 4 4 != slice (pkPart new_ k) 4 4 || slice (pkPart old k) 16 48 != slice (pkPart new_ k) 16 48
    then a + 2 ^ k else a) 0

/-! ### The staging area (R531) -/

/-- Bytes of the blocks in the staging area. -/
def UpdateState.held (u : UpdateState) : Nat := (u.blocks.map fun b => b.2.length).sum

/-- A byte range overlaps a block that is already written. -/
def UpdateState.overlaps (u : UpdateState) (off len : Nat) : Bool :=
  u.blocks.any fun b => off < b.1 + b.2.length && b.1 < off + len

/-- A byte of the staging area; erased flash reads as ones (PRESUMED, assumption 47). -/
def UpdateState.byteAt (u : UpdateState) (i : Nat) : Byte :=
  match u.blocks.find? fun b => b.1 ≤ i && i < b.1 + b.2.length with
  | some b => b.2.getD (i - b.1) 0xFF
  | none => 0xFF

/-- The image that the staging area holds: the blocks received, or the package that an activation left there. -/
def UpdateState.staged (u : UpdateState) : Bytes :=
  if u.blocks.isEmpty then u.area u.staging else (List.range u.length).map u.byteAt

/-- Every byte up to LENGTH is there, and LENGTH is PACKAGE_LENGTH. -/
def UpdateState.complete (u : UpdateState) : Bool :=
  if u.blocks.isEmpty then !(u.area u.staging).isEmpty
  else u.held == u.length && u.length == pkLength u.staged

/-- RESULT of the staging area. -/
def UpdateState.verdict (u : UpdateState) : Nat := verifyPackage u.counter u.revoked u.complete u.staged

def StagePhase.code : StagePhase → Nat
  | .empty => 0
  | .receiving => 1
  | .verifying => 2
  | .verified => 3
  | .invalid => 4
  | .activating => 5

def ActPhase.code : ActPhase → Nat
  | .none_ => 0
  | .accepted => 1
  | .decided => 2
  | .restarting => 3
  | .completed => 4
  | .reverted => 5
  | .abandoned => 6

/-- The staging area is VERIFYING or ACTIVATING. -/
def UpdateState.engaged (u : UpdateState) : Bool := u.stage == .verifying || u.stage == .activating

/-! ### UPDATE_BEGIN, UPDATE_BLOCK, UPDATE_VERIFY -/

def updateBeginSpec : CommandSpec :=
  { code := 0x0E01, kind := .device, lengthOk := lenIs 8, roleOk := engineer
    argOk := fun c _ => zeroAt c.payload 4 4
    rangeOk := fun c _ => within c.payload 0 4 4096 33554432
    body := fun c s =>
      if s.update.engaged then s.fail .busy
      else s.accept c (.job [fld c.payload 0 4] []) [] fun _ s => s }

/-- The staging area is erased for a package of `len` bytes. -/
def UpdateState.begin_ (u : UpdateState) (len : Nat) : UpdateState :=
  { u with stage := .receiving, blocks := [], length := len, received := 0, areas := u.areas.put u.staging [] }

/-- UPDATE_BEGIN_DONE. The effect of UPDATE_BEGIN falls here as a whole, since ABORT ends it without effect until then (DESIGN CHOICE,
assumption 67); an area that is VERIFYING or ACTIVATING by then is left alone, with BUSY. -/
def State.updateBeginDone (s : State) (id : Nat) : State :=
  match s.op id 0x0E01 with
  | none => s
  | some o =>
    match o.kind with
    | .job [len] _ =>
      if s.update.engaged then s.endOp o .busy s.pos [] else ({ s with update := s.update.begin_ len } : State).endOp o .ok s.pos []
    | _ => s

/-- A block written, or the status that refuses it. -/
def State.putBlock (s : State) (off crc : Nat) (data : Bytes) : State × Status :=
  if s.update.stage != .receiving then (s, .conflict)
  else if s.update.length < off + data.length then (s, .outOfRange)
  else if crc32c data != BitVec.ofNat 32 crc then (s, .integrity)
  else if s.update.overlaps off data.length then (s, .conflict)
  else ({ s with update := { s.update with
    blocks := s.update.blocks ++ [(off, data)], received := s.update.received + data.length } }, .ok)

/-- UPDATE_BLOCK. Until an UPDATE_BEGIN has given a LENGTH there is no range to lie outside of, and the staging area is not RECEIVING. -/
def updateBlockSpec : CommandSpec :=
  { code := 0x0E02, kind := .device, roleOk := engineer
    lengthOk := fun p => 24 ≤ p.length && p.length == 24 + (if fld p 0x10 8 = 0 then fld p 4 4 else 0)
    argOk := fun c _ => zeroAt c.payload 12 4
    rangeOk := fun c s =>
      (s.update.length == 0 || fld c.payload 0 4 + fld c.payload 4 4 ≤ s.update.length)
        && (if fld c.payload 0x10 8 = 0 then within c.payload 4 4 1 4040
          else within c.payload 4 4 1 1048576 && regionOk (fld c.payload 0x10 8) (fld c.payload 4 4))
    body := fun c s =>
      let p := c.payload
      let off := fld p 0 4
      let len := fld p 4 4
      if s.update.engaged then s.fail .busy
      else if s.update.stage != .receiving then s.fail .conflict
      else if fld p 0x10 8 = 0 then
        let r := s.putBlock off (fld p 8 4) (p.drop 24)
        r.1.fail r.2
      else s.accept c (.job [off, fld p 8 4] (s.readRegion (fld p 0x10 8) len)) [] fun _ s => s }

def State.updateBlockDone (s : State) (id : Nat) (poison : Bool) : State :=
  match s.op id 0x0E02 with
  | none => s
  | some o =>
    match o.kind with
    | .job [off, crc] data =>
      if poison then s.endOp o .integrity s.pos []
      else
        let r := s.putBlock off crc data
        r.1.endOp o r.2 s.pos []
    | _ => s

def updateVerifySpec : CommandSpec :=
  { code := 0x0E03, kind := .device, lengthOk := lenNone, roleOk := engineer
    body := fun c s =>
      if s.auditFull then s.fail .busy
      else if s.update.engaged then s.fail .busy
      else if s.update.stage = .empty then s.fail .conflict
      else s.accept c (.job [s.update.stage.code] []) [] fun _ s =>
        { s with update := { s.update with stage := .verifying } } }

/-- The final completion response of UPDATE_VERIFY. -/
def verifyResp (old new_ : Bytes) (result : Nat) : Bytes :=
  bytesLE 1 result ++ zeros 1 ++ bytesLE 2 (changedParts old new_) ++ bytesLE 4 (pkRelease new_) ++ bytesLE 4 (pkSecurity new_)
    ++ bytesLE 2 (pkGen new_) ++ zeros 2 ++ (pkDigest new_).take 16

def State.updateVerifyDone (s : State) (id : Nat) : State :=
  match s.op id 0x0E03 with
  | none => s
  | some o =>
    let u := s.update
    let img := u.staged
    let r := u.verdict
    let s := { s with update := { u with stage := if r = 0 then .verified else .invalid, lastResult := r } }
    let s := s.raise (if r = 0 then 0xC0 else 0xC2)
    let st : Status := if r = 0 then .ok else .integrity
    let s := s.audit 0x0020 o.session (s.roleOf o.session) st.code (bytesLE 1 r ++ (pkDigest img).take 16)
    s.endOp o st s.pos (verifyResp u.package img r)

/-! ### UPDATE_STATUS (R553) -/

def State.updateStatus (s : State) : Bytes :=
  let u := s.update
  bytesLE 1 u.stage.code ++ bytesLE 1 u.lastResult ++ bytesLE 1 u.actPhase.code
    ++ bytesLE 1 (u.bootCopy + 2 * b2n u.bootFallback + 4 * b2n u.packFallback) ++ bytesLE 4 u.received
    ++ bytesLE 4 (pkRelease u.package) ++ bytesLE 2 (pkGen u.package) ++ bytesLE 2 u.failedPart ++ bytesLE 8 u.actFrame
    ++ bytesLE 4 u.counter

def updateStatusSpec : CommandSpec :=
  { code := 0x0E10, kind := .device, lengthOk := lenNone, roleOk := anyRole, body := fun _ s => s.okWith s.updateStatus }

/-! ### UPDATE_ACTIVATE (R532, R533, R552) -/

/-- The response of UPDATE_ACTIVATE. -/
def activateResp (m : Nat) (pos : Pos) (changed : Nat) : Bytes := bytesLE 8 m ++ posBytes pos ++ bytesLE 2 changed

/-- The target frame of an activation: 0 on a stopped clock, where MODE 1 means 10 ms after acceptance. -/
def State.activateTarget (s : State) (mode frame : Nat) (db : Pos) : Status ⊕ Nat :=
  if !s.clock.run then (if mode = 0 then .inl .conflict else .inr 0) else s.commitTarget mode frame db

/-- The activation record of a device. -/
def State.activation (s : State) (id scope m : Nat) (digest : Bytes) (mine : Bool) : Activation :=
  { frame := m, scope := scope, op := id, changed := changedParts s.update.package s.update.staged, stopped := !s.clock.run
    atCycle := s.now + 10 * cycMs, lead := s.commitLead, digest := digest, mine := mine }

/-- An activation accepted: a group activation is distributed as a commit is, and any other device of the group learns that it
accepts no commit meanwhile (R532, R533). -/
def State.startActivation (s : State) (id scope m : Nat) : State :=
  let digest := pkDigest s.update.staged
  let a := s.activation id scope m digest true
  let s := { s with update := { s.update with stage := .activating, act := some a, actPhase := .accepted, actFrame := m } }
  let msg := GroupMsg.activate m scope digest
  if !s.group.inGroup then s
  else if scope = 0 || s.group.isCoord then s.gcast 1 msg
  else s.group.coord.elim s fun k => s.gsend k 1 msg

def updateActivateSpec : CommandSpec :=
  { code := 0x0E04, kind := .device, lengthOk := lenIs 16, roleOk := engineer
    argOk := fun c _ => zeroAt c.payload 2 6, rangeOk := fun c _ => upTo c.payload 0 1 1 && upTo c.payload 1 1 1
    body := fun c s =>
      let u := s.update
      let scope := fld c.payload 0 1
      if s.auditFull || u.act.isSome || !u.foreign.isEmpty then s.fail .busy
      else if u.stage != .verified
          || (scope == 0 && s.group.inGroup && (s.group.role != .standby || pkGen u.staged != pkGen u.package))
          || !s.txn.waiting.isEmpty || !s.group.asked.isEmpty then s.fail .conflict
      else match s.activateTarget (fld c.payload 1 1) (fld c.payload 8 8) c.db with
        | .inl st => s.fail st
        | .inr m =>
          let ch := changedParts u.package u.staged
          let pos := if s.clock.run then s.clock.latchPos m else 0
          s.accept c (.job [m, ch] []) (activateResp m pos ch) fun id s => s.startActivation id scope m }

/-! ### Meanings -/

/-- UPDATE_BEGIN (R550). -/
def execUpdateBegin (dt m : Nat) (s : State) : Host.Outcome State Fault Refusal := s.act dt (·.runMbx updateBeginSpec m)
/-- UPDATE_BEGIN_DONE (R531). -/
def execUpdateBeginDone (dt op : Nat) (s : State) : Host.Outcome State Fault Refusal := s.act dt (·.updateBeginDone op)
/-- UPDATE_BLOCK (R531, R550). -/
def execUpdateBlock (dt m : Nat) (s : State) : Host.Outcome State Fault Refusal := s.act dt (·.runMbx updateBlockSpec m)
/-- UPDATE_BLOCK_DONE (R550). -/
def execUpdateBlockDone (dt op : Nat) (poison : Bool) (s : State) : Host.Outcome State Fault Refusal :=
  s.act dt (·.updateBlockDone op poison)
/-- UPDATE_VERIFY (R551). -/
def execUpdateVerify (dt m : Nat) (s : State) : Host.Outcome State Fault Refusal := s.act dt (·.runMbx updateVerifySpec m)
/-- UPDATE_VERIFY_DONE (R530, R531). -/
def execUpdateVerifyDone (dt op : Nat) (s : State) : Host.Outcome State Fault Refusal := s.act dt (·.updateVerifyDone op)
/-- UPDATE_STATUS (R553). -/
def execUpdateStatus (dt m : Nat) (s : State) : Host.Outcome State Fault Refusal := s.act dt (·.runMbx updateStatusSpec m)

end Sys2Proof.Machine
end

