-- ==== Sys2Proof/Machine/Power.lean ====
section
/-!
DEFINITION. Machine/Power.lean: full resets and the start, Lanishambe restarts, supplies and clocks, watchdogs, the power-budget
arbiter and temperatures (R45, R58, R64, R494, R495, R535, R537, R538, R556 to R572, R580, R581).
-/

namespace Sys2Proof.Machine

/-! ### Full reset (R563, R564) -/

/-- What a full reset keeps of field update and of the security functions: flash and OTP, and the audit log. -/
def UpdateState.kept (u : UpdateState) : UpdateState :=
  { areas := if u.blocks.isEmpty then u.areas else u.areas.put u.staging (if u.complete then u.staged else []), running := u.running, bootCopy := u.bootCopy, bootImages := u.bootImages, counter := u.counter, revoked := u.revoked }
def SecureState.kept (x : SecureState) : SecureState :=
  { creds := x.creds, kek := x.kek, linkKey := x.linkNext <|> x.linkKey, audit := x.audit, auditNext := x.auditNext, acked := x.acked, ackedCount := x.ackedCount
    policy := x.policy, overwritten := x.overwritten, debugPort := if x.debugPort = .disabled then .disabled else .locked }

/-- The DRAM retirements, which stand in the persistent configuration (R477). -/
def EccState.kept (e : EccState) : EccState :=
  { spares := Map.range e.spares 0 (2 ^ 20), retired := e.retired.filter (· < 2 ^ 40), retiredDram := e.retiredDram }

/-- A full reset of a cause begins: everything but flash, OTP and audit log returns to its reset value, and the supervisor
holds the device in reset. The supervisor goes on monitoring rails and temperature. The host region holds nothing (DESIGN CHOICE,
assumption 63). -/
def State.fullReset (s : State) (cause : Nat) : State :=
  { host := {}, update := s.update.kept, secure := s.secure.kept, ecc := s.ecc.kept, group := { flash := s.group.flash }
    power := {
      reset := .held, resetCause := cause, tripped := cause != 0 && s.power.tripped, tj := s.power.tj, tjMax := s.power.tj
      railsOut := if cause = 0 then 0 else s.power.railsOut }
    freeCtr := s.freeCtr, out := s.out, pending := s.pending }

/-- The plane whose UID list holds this device at its rank (R495). -/
def GroupState.planeOf (g : GroupState) (uid : Nat) : Option Nat :=
  (if g.paired then [0, 1] else [0]).find? fun p => g.rank < g.ranks && g.uidAt g.rank p == uid

/-- The group as it stands at reset release: the record in flash takes effect. -/
def GroupState.start (flash : Bytes) (rank uid : Nat) : GroupState :=
  let g : GroupState := { record := flash, flash := flash, rank := rank }
  if !g.inGroup then g
  else match g.planeOf uid with
    | some p => { g with plane := p, phase := .forming }
    | none => { g with phase := .refused }

/-- What the supervisor knows of allows the release: no temperature trip, and no rail outside its tolerance for 1 ms (R559, R572). -/
def State.releasable (s : State) : Bool :=
  s.power.reset == .held && !s.power.tripped && s.power.railsOut == 0 && s.power.railsGoodAt.elim true (· + cycMs ≤ s.now)

/-- RESET_RELEASE: straps are sampled, and secure boot begins. TIME counts from here. -/
def State.resetRelease (s : State) (rank : Nat) (testMode : Bool) : State :=
  if !s.releasable then s
  else
    { s with
      power := { s.power with reset := .booting, testMode := testMode, railsGoodAt := none }
      host := { s.host with bootStage := if testMode then 0 else 1 }
      time := {}
      group := GroupState.start s.group.flash (rank % 16) Config.uid.toNat }

/-! ### Secure boot and the start of Lanishambe (R45, R504, R537, R538, R564) -/

/-- The image of a package area passes its checks at boot: a package that an update wrote passes R530, and the factory package, whose
other checks manufacture vouches for, is not rolled back (R538). `bad`: the image does not read as it was written. -/
def UpdateState.boots (u : UpdateState) (area : Nat) (bad : Bool) : Bool :=
  !bad && match u.areas.find area with
    | some img => verifyPackage u.counter u.revoked (!img.isEmpty) img == 0
    | none => area == 0 && !decide (pkSecurity (u.area area) < u.counter)

/-- The Zoette links that the record uses are ENABLED, and lock. -/
def State.startLinks (s : State) : State :=
  (s.group.linksUsed.map s.group.physical).foldl (fun s l =>
    if s.enabled 0x0A l then s
    else
      let s := { s with fns := s.fns.put (fnId 0x0A l) { s.fn (fnId 0x0A l) with state := .enabled } }
      s.setLink l { s.group.link l with phase := .locking }) s

/-- The package area that boots: the running one, or the other. -/
def UpdateState.bootArea (u : UpdateState) (areaBad : Nat) : Option Nat :=
  if u.boots u.running (bit areaBad u.running) then some u.running
  else if u.boots u.staging (bit areaBad u.staging) then some u.staging else none

/-- Field update after the start from a package area: the other area is VERIFIED where it holds a package that passes R530
(R531). An activation whose package does not start is reverted (R536). -/
def UpdateState.booted (u : UpdateState) (area : Nat) (copyFell fell : Bool) : UpdateState :=
  let u := { u with running := area, bootFallback := copyFell, packFallback := fell }
  let back := fell && u.act.isSome
  { u with
    stage := if u.verdict = 0 then .verified else .empty
    bootCopy := if back && u.act.elim false (bit ·.changed 1) then 1 - u.bootCopy else u.bootCopy
    act := if back then none else u.act, actPhase := if back then .reverted else u.actPhase }

/-- LANISHAMBE_START: BOOT_STAGE reaches 0x03. `bootBad` and `areaBad` name the boot-loader copies and package areas whose
images fail their checks as read from flash, and `part` the part that failed. Where no copy, or no area, passes, the device stays
at BOOT_STAGE 0x01. -/
def State.lanishambeStart (s : State) (bootBad areaBad part : Nat) : State :=
  let u := s.update
  if s.power.reset != .booting || !(s.host.bootStage == 1 || s.host.bootStage == 2) || (bit bootBad 0 && bit bootBad 1) then s
  else match u.bootArea areaBad with
    | none => s
    | some area =>
      let fell := area != u.running
      let copyFell := bit bootBad u.bootCopy
      let s := { s with
        update := u.booted area copyFell fell
        meter := { s.meter with coef := if u.areas.has area then pkImage (u.area area) (pkPart (u.area area) 8) else [] }
        host := { s.host with bootStage := 3 }
        power := { s.power with reset := .running } }
      let s := if fell || copyFell then s.audit 0x0022 0 0xFF 0 (bytesLE 4 (pkRelease (s.update.package)) ++ bytesLE 2 part) else s
      let s := if fell && u.act.isSome then ({ s with update := { s.update with failedPart := part } } : State).raise 0xC2 else s
      s.startLinks

/-- Self-test begins: every part of a package area that passes has been verified, and BOOT_STAGE becomes 0x02 (step 4 of the table
"Secure boot"). -/
def State.selfTest (s : State) : State :=
  if s.power.reset = .booting && s.host.bootStage = 1 && (s.update.bootArea 0).isSome then { s with host := { s.host with bootStage := 2 } } else s

/-- HID_FW_VER: the release of the running package; the factory package is release 1.0.0 (R56). -/
def UpdateState.fwVersion (u : UpdateState) : Word := if u.areas.has u.running then BitVec.ofNat 32 (pkRelease u.package) else 0x00010000

/-- MBX_READY_REACHED: render clusters that passed self-test are ENABLED; `failed` lists the functions that
did not. -/
def State.mbxReadyReached (s : State) (failed : List Nat) : State :=
  if s.power.reset != .running || s.host.mbxReady || s.host.fwRestart then s
  else
    let s := s.syncCycles
    let fns := failed.foldl (fun (m : Map FnRec) id => m.upd id {} fun f => { f with failed := true }) s.fns
    let good := (List.range 64).filter fun k => !failed.contains (fnId 9 k)
    let fns := good.foldl (fun (m : Map FnRec) k => m.upd (fnId 9 k) {} fun f => { f with state := .enabled }) fns
    let woken := good.filter fun k => !s.alive 9 k
    let s := woken.foldl (fun s k => s.wakeUnit k) ({ s with fns := fns } : State)
    ({ s with host := { s.host with fwVer := s.update.fwVersion, mbxReady := true, bootStage := 0x10 } } : State).startLinks

/-! ### Lanishambe restarts (R64, R74, R535, R567) -/

/-- Lanishambe restarts: every session ends, and mailboxes take nothing. -/
def State.fwRestart (s : State) : State :=
  let s := s.endAllSessions 2
  { s with host := { s.host with fwRestart := true, mbxReady := false } }

/-- The request of a mailbox ends with ABORTED and no effect. -/
def State.abortMbx (s : State) (m : Nat) : State :=
  let b := s.mbx m
  match b.phase with
  | .posted => s.finish (ctxOf m (s.readRegion (m * 0x1000) 0x1000) b.dbPos 0xFF) false ⟨.aborted, [], none⟩
  | .executing =>
    match s.host.execs.find? fun e => e.mbx == m && !e.orphan with
    | some e => s.finish e.ctx false ⟨.aborted, [], none⟩
    | none => s
  | _ => s

/-- A Lanishambe restart ends: posted and executing requests are ABORTED, and HID_FW_VER carries the running release. -/
def State.fwRestartEnd (s : State) : State :=
  if !s.host.fwRestart then s
  else
    let s := { s with host := { s.host with fwRestart := false, mbxReady := true, fwVer := s.update.fwVersion } }
    let s := (List.range 16).foldl State.abortMbx s
    ({ s with host := { s.host with execs := [] }, group := { s.group with asked := [] } } : State).devEvent 0

/-- MGMT_WATCHDOG_EXPIRY. -/
def State.mgmtWatchdog (s : State) : State :=
  if s.power.reset != .running || s.host.fwRestart then s
  else (({ s with power := { s.power with wdogCount := s.power.wdogCount + 1 } } : State).raise 0xCB).fwRestart

/-- RENDER_STALL: a stall is detected; a Tango active yields. -/
def State.renderStall (s : State) : State :=
  if s.power.reset != .running then s
  else
    let s := { s with power := { s.power with wdogCount := s.power.wdogCount + 1, stallSince := some s.now } }
    (s.raise 0xCB).yieldFor 1

/-- RENDER_STALL_RESET: the stall has lasted 100 ms. -/
def State.renderStallReset (s : State) : State :=
  if s.power.stallSince.elim false fun t => t + 100 * cycMs ≤ s.now then s.fullReset 4 else s

/-! ### Supplies (R559) -/

/-- SUPPLY_FAULT of a rail, in the bit order of the table "Supply rails". A device in reset raises nothing. -/
def State.supplyFault (s : State) (rail : Nat) : State :=
  if 8 ≤ rail then s
  else
    let s := { s with power := { s.power with railsOut := s.power.railsOut ||| 2 ^ rail, railsGoodAt := none } }
    if s.power.reset = .held then s else ({ s with power := { s.power with lastRail := rail } } : State).raise 0xCA

/-- RAIL_WITHIN_TOLERANCE. -/
def State.railWithin (s : State) (rail : Nat) : State :=
  if bit s.power.railsOut rail then
    let out := s.power.railsOut - 2 ^ rail
    { s with power := { s.power with railsOut := out, railsGoodAt := if out = 0 then some s.now else none } }
  else s

/-! ### Temperatures (R571, R572) -/

/-- T_max in units of 1/16 °C. -/
def tMax : Int := if Config.orderCode = 0x43 then 95 * 16 else 105 * 16

/-- A junction reading: THERMAL_HIGH is raised, and the thermal flag set, 5 °C below T_max; the flag clears below T_max − 8 °C (R571). Below
100 °C a trip no longer holds the reset (R572). -/
def State.junction (s : State) (tj : Int) : State :=
  let p := s.power
  let on := p.reset != .held
  let hot := decide (tMax - 80 ≤ tj)
  let s := { s with power := { p with
    tj := tj, tjMax := max p.tjMax tj, tripped := p.tripped && decide (1600 ≤ tj), thermal := on && (hot || (p.thermal && decide (tMax - 128 ≤ tj))) } }
  s.raiseIf (on && hot && !p.thermal) 0xC9

/-- THERMAL_TRIP: at 120 °C the device resets, until it is below 100 °C. -/
def State.thermalTrip (s : State) (tj : Int) : State :=
  if tj < 1920 then s
  else
    let s := (s.junction tj).fullReset 5
    { s with power := { s.power with tripped := true } }

/-! ### The power-budget arbiter (R568, R569) -/

/-- What an arbiter interval sees: the power of everything at full rate, in mW, in the order in which it is throttled, and the
currents of VDD_CORE, VDD_SRAM and VDD_SDS in mA. -/
structure ArbiterLoad where
  fixed : Nat
  clusters : Nat
  dma : Nat
  mgmt : Nat
  railMa : List Nat
  deriving DecidableEq, Repr

/-- The ceiling in force at a junction temperature. -/
def PowerState.effective (p : PowerState) : Nat :=
  if p.tj ≤ tMax then p.ceilingMw else p.ceilingMw - 1000 * ((p.tj - tMax) / 16).toNat

/-- The issue fraction, from 256 down to 16: power follows it in proportion (DEDUCED from the example after R569, assumption 64). -/
def issueFraction (ceiling rest clusters : Nat) : Nat :=
  if rest + clusters ≤ ceiling then 256 else max 16 ((ceiling - rest) * 256 / max 1 clusters)

/-- The estimate under the throttles, and whether the DMA engine and the management cores are at their floors. -/
def throttledPower (ceiling : Nat) (x : ArbiterLoad) (f : Nat) : Nat × Bool × Bool :=
  let c := x.clusters * f / 256
  let dma := if x.fixed + c + x.dma + x.mgmt ≤ ceiling then x.dma else max (x.dma / 4) (ceiling - (x.fixed + c + x.mgmt))
  let mgmt := if x.fixed + c + dma + x.mgmt ≤ ceiling then x.mgmt else max (x.mgmt / 2) (ceiling - (x.fixed + c + dma))
  (x.fixed + c + dma + mgmt, dma != x.dma && dma == x.dma / 4, mgmt != x.mgmt && mgmt == x.mgmt / 2)

/-- ARBITER_INTERVAL. POWER_THROTTLE is raised in the first of a run of throttled intervals, and with OVER. -/
def State.arbiterInterval (s : State) (x : ArbiterLoad) (tj : Int) : State :=
  let s := s.junction tj
  if s.power.reset = .held then s
  else
    let p := s.power
    let ceiling := p.effective
    let f := issueFraction ceiling (x.fixed + x.dma + x.mgmt) x.clusters
    let throttled := f != 256
    let r := throttledPower ceiling x f
    let exceeded := decide (ceiling < r.1)
    let event := (throttled && !p.throttling) || exceeded
    let p' := { p with
      ceilingNow := ceiling, peakMw := max p.peakMw r.1, recent := (r.1 :: p.recent).take 1000
      fraction := if throttled then f else p.fraction, dmaFloor := r.2.1, mgmtFloor := r.2.2, throttling := throttled, exceeded := exceeded
      throttleCount := if event then p.throttleCount + 1 else p.throttleCount, railMa := x.railMa }
    ({ s with power := p' } : State).raiseIf event 0xC8

/-! ### POWER_CONFIG, SUPPLY_STATUS (R581) -/

/-- POWER_CONFIG (0x0C40). -/
def powerConfigSpec : CommandSpec :=
  { code := 0x0C40, kind := .device, lengthOk := lenIs 8, roleOk := engineer
    argOk := fun c _ => zeroAt c.payload 4 4
    rangeOk := fun c _ => fld c.payload 0 4 == 0 || within c.payload 0 4 20000 58000
    body := fun c s =>
      ({ s with power := { s.power with ceilingMw := if fld c.payload 0 4 = 0 then 55000 else fld c.payload 0 4 } } : State).ok }

/-- The mean of the estimates of the last millisecond; 0 before the first. -/
def PowerState.mean (p : PowerState) : Nat := p.recent.sum / max 1 p.recent.length

/-- The SUPPLY_STATUS response. -/
def PowerState.bytes (p : PowerState) : Bytes :=
  bytesLE 4 p.ceilingNow ++ bytesLE 4 p.mean ++ bytesLE 4 p.peakMw ++ bytesLE 2 p.fraction
    ++ bytesLE 1 (b2n p.throttling + 2 * b2n p.exceeded + 4 * b2n p.thermal + 8 * b2n (p.railsOut != 0)) ++ bytesLE 1 p.lastRail
    ++ bytesLES 2 p.tj ++ bytesLES 2 p.tjMax ++ (List.range 3).flatMap (fun i => bytesLE 4 (p.railMa.getD i 0))
    ++ bytesLE 4 p.throttleCount.toNat ++ bytesLE 4 p.wdogCount.toNat ++ bytesLE 4 p.resetCause

/-- SUPPLY_STATUS (0x0C41): reading it resets PEAK_MW. -/
def supplyStatusSpec : CommandSpec :=
  { code := 0x0C41, kind := .read, lengthOk := lenNone, roleOk := diagRead
    body := fun _ s => ({ s with power := { s.power with peakMw := 0 } } : State).okWith s.power.bytes }

/-! ### Meanings -/

/-- POWER_ON (R557, R558, R563, R565). -/
def execPowerOn (dt : Nat) (s : State) : Host.Outcome State Fault Refusal := s.act dt (·.fullReset 0)
/-- PORST_N_ASSERT (R563). -/
def execPorstNAssert (dt : Nat) (s : State) : Host.Outcome State Fault Refusal := s.act dt (·.fullReset 1)
/-- SUPPLY_RESET (R559, R563, R575). -/
def execSupplyReset (dt : Nat) (s : State) : Host.Outcome State Fault Refusal := s.act dt (·.fullReset 2)
/-- REFCLK_LOSS (R561, R562). -/
def execRefclkLoss (dt : Nat) (s : State) : Host.Outcome State Fault Refusal := s.act dt (·.fullReset 3)
/-- PLL_LOCK_LOSS (R562). -/
def execPllLockLoss (dt : Nat) (s : State) : Host.Outcome State Fault Refusal := s.act dt (·.fullReset 3)
/-- RESET_RELEASE (R495, R538, R564): the straps. -/
def execResetRelease (dt rank : Nat) (testMode : Bool) (s : State) : Host.Outcome State Fault Refusal :=
  s.act dt (·.resetRelease rank testMode)
/-- LANISHAMBE_START (R537, R538, R564). -/
def execLanishambeStart (dt bootBad areaBad part : Nat) (s : State) : Host.Outcome State Fault Refusal :=
  s.act dt (·.lanishambeStart bootBad areaBad part)
/-- MBX_READY_REACHED (R45, R58). -/
def execMbxReadyReached (dt : Nat) (failed : List Nat) (s : State) : Host.Outcome State Fault Refusal :=
  s.act dt (·.mbxReadyReached failed)
/-- FW_RESTART_END (R64, R535). -/
def execFwRestartEnd (dt : Nat) (s : State) : Host.Outcome State Fault Refusal := s.act dt (·.fwRestartEnd)
/-- MGMT_WATCHDOG_EXPIRY (R567). -/
def execMgmtWatchdogExpiry (dt : Nat) (s : State) : Host.Outcome State Fault Refusal := s.act dt (·.mgmtWatchdog)
/-- RENDER_STALL (R567). -/
def execRenderStall (dt : Nat) (s : State) : Host.Outcome State Fault Refusal := s.act dt (·.renderStall)
/-- RENDER_STALL_RESET (R567). -/
def execRenderStallReset (dt : Nat) (s : State) : Host.Outcome State Fault Refusal := s.act dt (·.renderStallReset)
/-- SUPPLY_FAULT (R559). -/
def execSupplyFault (dt rail : Nat) (s : State) : Host.Outcome State Fault Refusal := s.act dt (·.supplyFault rail)
/-- RAIL_WITHIN_TOLERANCE (R559). -/
def execRailWithinTolerance (dt rail : Nat) (s : State) : Host.Outcome State Fault Refusal := s.act dt (·.railWithin rail)
/-- THERMAL_HIGH (R571): T_j in units of 1/16 °C. -/
def execThermalHigh (dt : Nat) (tj : Int) (s : State) : Host.Outcome State Fault Refusal := s.act dt (·.junction tj)
/-- THERMAL_TRIP (R572). -/
def execThermalTrip (dt : Nat) (tj : Int) (s : State) : Host.Outcome State Fault Refusal := s.act dt (·.thermalTrip tj)
/-- ARBITER_INTERVAL (R568, R569, R571): powers at full rate in mW, rail currents in mA, and T_j. -/
def execArbiterInterval (dt fixed clusters dma mgmt : Nat) (railMa : List Nat) (tj : Int) (s : State) : Host.Outcome State Fault Refusal :=
  s.act dt (·.arbiterInterval ⟨fixed, clusters, dma, mgmt, railMa⟩ tj)
/-- POWER_CONFIG (R581). -/
def execPowerConfig (dt m : Nat) (s : State) : Host.Outcome State Fault Refusal := s.act dt (·.runMbx powerConfigSpec m)
/-- SUPPLY_STATUS (R581). -/
def execSupplyStatus (dt m : Nat) (s : State) : Host.Outcome State Fault Refusal := s.act dt (·.runMbx supplyStatusSpec m)

end Sys2Proof.Machine
end

