-- ==== Sys2Proof/Machine/Activate.lean ====
section
/-!
DEFINITION. Machine/Activate.lean: the activation of a package: distribution, decision, and the parts that restart at L(m) (R532
to R536, R552).
-/

namespace Sys2Proof.Machine

/-- Field update changed. -/
def State.setUpdate (s : State) (u : UpdateState) : State := { s with update := u }

/-! ### Distribution (R532, R533) -/

/-- The parts that restart. -/
def Activation.parts (a : Activation) : List Nat := [1, 2, 3, 4, 5, 6, 7, 8].filter (bit a.changed)

/-- This device takes part in a group activation: it answers with the digest of what it has staged. The coordinator also enters it
where its own staging area holds another manifest, or none, so that it can abandon it (R532). -/
def State.joinActivation (s : State) (m : Nat) (digest : Bytes) : State :=
  let u := s.update
  let held := u.stage == .verified || u.stage == .activating
  let mine := held && pkDigest u.staged == digest
  let s := if u.act.isSome || !(mine || s.group.isCoord) then s
    else
      let a := { s.activation 0 1 m digest mine with differs := held && !mine }
      s.setUpdate { u with act := some a, actPhase := .accepted, actFrame := m, stage := if mine then .activating else u.stage }
  if !held || s.group.isCoord then s
  else s.group.coord.elim s fun k => s.gsend k 1 (.actPrepared s.group.me (pkDigest u.staged))

/-- An activation message from `src`: its issuer, or the coordinator that distributes it. -/
def State.takeActivate (s : State) (src m scope : Nat) (digest : Bytes) : State :=
  if scope = 0 then s.setUpdate { s.update with foreign := src :: s.update.foreign.filter (· != src) }
  else
    let others := s.group.named.filter fun w => s.group.present w && w != s.group.me
    let s := s.setUpdate { s.update with foreign := others }
    let s := if s.group.isCoord then s.gcast 1 (.activate m scope digest) else s
    s.joinActivation m digest

/-- An acknowledgement, at the coordinator. -/
def State.takeActPrepared (s : State) (who : Nat) (digest : Bytes) : State :=
  match s.update.act with
  | none => s
  | some a =>
    let a := if digest == a.digest then { a with prepared := who :: a.prepared } else { a with differs := true }
    s.setUpdate { s.update with act := some a }

/-- Another device has ended its pause, or has left the group. -/
def State.foreignDone (s : State) (who : Nat) : State := s.setUpdate { s.update with foreign := s.update.foreign.filter (· != who) }

/-! ### The decision (R532, R534) -/

/-- The image that was staged stands in its package area. -/
def UpdateState.settleStage (u : UpdateState) : UpdateState :=
  if u.blocks.isEmpty then u else { u with areas := u.areas.put u.staging u.staged, blocks := [] }

/-- The position of a decision. -/
def State.decisionPos (s : State) (a : Activation) : Pos := if s.clock.run && !a.stopped then s.clock.deadline a.frame a.lead else s.pos

/-- The final completion of UPDATE_ACTIVATE. -/
def State.endActivate (s : State) (a : Activation) (st : Status) : State :=
  s.endOpId a.op st (s.decisionPos a) (activateResp a.frame (if a.stopped then 0 else s.clock.latchPos a.frame) a.changed)

/-- The package areas change roles, and with a boot loader that changes so do its copies. -/
def UpdateState.swap (u : UpdateState) (a : Activation) : UpdateState :=
  { u with running := u.staging, stage := .verified, bootCopy := if bit a.changed 1 then 1 - u.bootCopy else u.bootCopy }

/-- The boot loader of the staged package is written into the copy that is not selected, where it changes. -/
def UpdateState.writeBoot (u : UpdateState) (a : Activation) : UpdateState :=
  if bit a.changed 1 then { u with bootImages := u.bootImages.put (1 - u.bootCopy) (pkImage u.staged (pkPart u.staged 1)) } else u

/-- Audit record 0x0021 of an activation, for the session whose operation it is. -/
def State.auditDecision (s : State) (a : Activation) (st : Status) : State :=
  let session := (s.host.ops.find? fun o => o.id == a.op).elim 0 (·.session)
  s.audit 0x0021 session (s.roleOf session) st.code (bytesLE 8 a.frame ++ bytesLE 1 a.scope)

/-- The activation is decided: the staging area becomes the running area, and a new boot loader the selected copy. -/
def State.activationGo (s : State) (a : Activation) : State :=
  let s := s.setUpdate { (s.update.settleStage.writeBoot a).swap a with
    actPhase := .decided, act := some { a with atCycle := s.now + 10 * cycMs }, starting := a.parts }
  (s.auditDecision a .ok).endActivate a .ok

/-- The activation is abandoned on this device. -/
def State.activationDrop (s : State) (a : Activation) (st : Status) : State :=
  let u := s.update
  let s := s.setUpdate { u with
    act := none, actPhase := .abandoned, foreign := [], stage := if u.stage = .activating then .verified else u.stage }
  (s.auditDecision a st).endActivate a st

/-- The decision point has come. -/
def State.activationDue (s : State) (a : Activation) : Bool :=
  a.stopped || (s.clock.run && s.clock.deadline a.frame a.lead ≤ s.pos)

/-- The status of a group activation that is abandoned. -/
def Activation.dropStatus (a : Activation) : Status := if a.differs then .conflict else .late

/-- ACTIVATION_DECISION. Of a group activation the coordinator decides: with every acknowledgement, and otherwise it is abandoned;
while the show clock is stopped it waits up to 10 ms for them (DESIGN CHOICE, assumption 65). -/
def State.activationDecision (s : State) : State :=
  match s.update.act with
  | none => s
  | some a =>
    if s.update.actPhase != .accepted || !s.activationDue a then s
    else if a.scope = 0 || !s.group.inGroup then s.activationGo a
    else if !s.group.live then s.activationDrop a .late
    else if !s.group.isCoord then s
    else
      let ready := a.mine && !a.differs && s.group.awaited.all a.prepared.contains
      if ready then (s.gcast 1 (.actDecide true false)).activationGo a
      else if a.stopped && !a.differs && s.now < a.atCycle then s
      else (s.gcast 1 (.actDecide false a.differs)).activationDrop a a.dropStatus

/-- The coordinator's decision arrives. -/
def State.takeActDecide (s : State) (go differs : Bool) : State :=
  match s.update.act with
  | none => if go then s else s.setUpdate { s.update with foreign := [] }
  | some a => if s.update.actPhase != .accepted then s else if go then s.activationGo a else s.activationDrop a ({ a with differs := differs } : Activation).dropStatus

/-- This device's activation is taken back before its decision (R86): it ends with ABORTED. -/
def State.withdrawActivation (s : State) (a : Activation) : State :=
  let u := s.update
  let s := s.setUpdate { u with
    act := none, actPhase := .abandoned, foreign := [], stage := if u.stage = .activating then .verified else u.stage }
  let s := s.auditDecision a .aborted
  s.endOpId a.op .aborted s.pos (activateResp a.frame (if a.stopped then 0 else s.clock.latchPos a.frame) a.changed)

/-- ABORT of UPDATE_ACTIVATE, which the group learns. -/
def State.abortActivation (s : State) (a : Activation) : State :=
  let s := s.withdrawActivation a
  if !s.group.inGroup then s
  else if a.scope = 0 then s.gcast 1 (.actDone s.group.me)
  else if s.group.isCoord then s.gcast 1 (.actDecide false false)
  else s.gcast 1 .actWithdrawn

/-- Another device has taken its activation back. -/
def State.takeActWithdrawn (s : State) : State :=
  match s.update.act with
  | some a => if s.update.actPhase == .accepted && a.op == 0 then s.withdrawActivation a else s
  | none => s.setUpdate { s.update with foreign := [] }

/-! ### L(m) (R534) -/

/-- L(m) of a decided activation has come. -/
def State.actLatched (s : State) (a : Activation) : Bool :=
  if a.stopped then a.atCycle ≤ s.now else decide (a.frame < s.clock.nextLatch)

/-- A SerDes is up, so that its restart is a pause. -/
def State.serdesUp (s : State) (x : Serdes) : Bool :=
  match x with
  | .lane l => (s.lane l).link == .up
  | .port p => (s.port p).up
  | .display => s.ports.display.link.isSome

/-- A SerDes is restarting. -/
def State.serdesWaits (s : State) (x : Serdes) : Bool :=
  match x with
  | .lane l => (s.lane l).link == .training || (s.lane l).retrain
  | .port p => s.portOn p && !(s.port p).up
  | .display => s.ports.display.training

/-- A SerDes restarts: a lane retrains at the end of the lane frame being sent, an Ethernet port is DOWN until its link is up again, and
DisplayPort trains its link again. -/
def State.retrainSerdes (s : State) (x : Serdes) : State :=
  match x with
  | .lane l => s.laneRetrain l
  | .port p => s.netDown p (s.port p).modAbs (s.port p).txFault (s.port p).rxLos
  | .display => s.setDisplay { s.ports.display with training := true, link := none }

/-- The SerDes of a list restart in turn: the first that is up restarts now, and the others wait for it. -/
def State.serdesFrom : List Serdes → State → State
  | [], s => s.setUpdate { s.update with serdes := [] }
  | x :: xs, s =>
    if s.serdesUp x then (s.setUpdate { s.update with serdes := x :: xs }).retrainSerdes x else State.serdesFrom xs s

/-- SerDes firmware restarts: pixel lanes, then Ethernet ports, one at a time, and DisplayPort once. Their order is that of the table
"Parts" and of their numbers (DESIGN CHOICE, assumption 102). -/
def State.restartSerdes (s : State) : State :=
  s.serdesFrom ((List.range 32).map Serdes.lane ++ (List.range 5).map Serdes.port ++ [.display])

/-- The restart of a SerDes has ended, and the next begins. -/
def State.serdesDone (s : State) (x : Serdes) : State :=
  match s.update.serdes with
  | y :: ys => if x = y then s.serdesFrom ys else s
  | [] => s

/-- The restarts of L(m), once: a full reset covers every other part; render parts repeat frame m; SerDes and metering
coefficients take effect. Lanishambe restarts by its own command. -/
def State.restartParts (s : State) : State :=
  match s.update.act with
  | none => s
  | some a =>
    if s.update.actPhase != .decided || !s.actLatched a then s
    else if [1, 2, 7].any (bit a.changed) then
      let s := s.fullReset 6
      s.setUpdate { s.update with act := some { a with op := 0, whole := true }, actPhase := .restarting, actFrame := a.frame }
    else
      let s := s.setUpdate { s.update with actPhase := .restarting }
      let s := if bit a.changed 6 then s.restartSerdes else s
      if bit a.changed 8 then { s with meter := s.meter.recoef (pkImage s.update.package (pkPart s.update.package 8)) } else s

/-- LATCH_POINT, with the restarts of an activation at L(m). -/
def State.latchRow (s : State) : State :=
  let s' := s.latchPoint
  if s'.clock.nextLatch = s.clock.nextLatch then s' else s'.restartParts

/-- FW_RESTART: Lanishambe is a part that restarts. -/
def State.fwRestartRow (s : State) : State :=
  let s := if s.update.act.elim false (·.stopped) then s.restartParts else s
  if s.update.actPhase == .restarting && s.update.starting.contains 3 && !s.host.fwRestart then
    (s.setUpdate { s.update with starting := s.update.starting.filter (· != 3) }).fwRestart
  else s

/-! ### The end of an activation (R536) -/

/-- The parts that have restarted by now: part 0x03 restarts by its own command. -/
def State.restarted (s : State) (a : Activation) : List Nat := a.parts.filter fun k => !(k == 3 && s.update.starting.contains 3)

/-- The parts of `ks` restart from the running package with the pauses of R534: Ethernet ports and lanes retrain, the next frame
repeats, metering takes its coefficients, and Lanishambe restarts. -/
def State.restartFrom (s : State) (ks : List Nat) : State :=
  let u := s.update
  let coef := if u.areas.has u.running then pkImage u.package (pkPart u.package 8) else []
  let s := if ks.contains 6 then s.restartSerdes else s
  let s := if (ks.contains 4 || ks.contains 5) && s.clock.run then s.setUpdate { s.update with holdFrame := some s.clock.nextLatch } else s
  let s := if ks.contains 8 then { s with meter := s.meter.recoef coef } else s
  if ks.contains 3 && !s.host.fwRestart then s.fwRestart else s

/-- The activation is reverted: the previous package runs again. -/
def State.revertTo (s : State) (a : Activation) (part : Nat) : State :=
  s.setUpdate { s.update.swap a with act := none, actPhase := .reverted, failedPart := part, starting := [] }

/-- PART_START_FAIL: the previous package runs again, and every part that had restarted restarts from it; a device that had restarted
as a whole does so again. -/
def State.partStartFail (s : State) (part : Nat) : State :=
  match s.update.act with
  | none => s
  | some a =>
    if s.update.actPhase != .restarting || !(a.whole || a.parts.contains part) then s
    else
      let ks := s.restarted a
      let s := if a.whole then
          let s' := s.fullReset 6
          ({ s' with update := { s'.update with actFrame := a.frame } } : State).revertTo a part
        else (s.revertTo a part).restartFrom ks
      let s := (s.raise 0xC2).audit 0x0022 0 0xFF 0 (bytesLE 4 (pkRelease s.update.package) ++ bytesLE 2 part)
      if s.group.inGroup then s.gcast 1 (.actDone s.group.me) else s

/-- The security version counter advances to that of the running package. -/
def State.advanceCounter (s : State) : State :=
  let v := pkSecurity s.update.package
  if s.update.counter < v then (s.setUpdate { s.update with counter := v }).audit 0x0023 0 0xFF 0 (bytesLE 4 v) else s

/-- The SerDes in front no longer restarts, so the next does: its function has been disabled meanwhile. -/
def State.serdesCheck (s : State) : State :=
  match s.update.serdes with
  | x :: _ => if s.serdesWaits x then s else s.serdesDone x
  | [] => s

/-- ACTIVATION_COMPLETE: every part has started. -/
def State.activationComplete (s : State) : State :=
  let s := (if s.update.act.elim false (·.stopped) then s.restartParts else s).serdesCheck
  match s.update.act with
  | none => s
  | some _ =>
    if s.update.actPhase != .restarting || s.power.reset != .running || s.host.fwRestart || s.update.starting.contains 3 || !s.update.serdes.isEmpty then s
    else
      let s := s.setUpdate { s.update with act := none, actPhase := .completed, starting := [] }
      let s := (s.raise 0xC1).audit 0x0022 0 0xFF 0 (bytesLE 4 (pkRelease s.update.package) ++ bytesLE 2 0)
      let s := s.advanceCounter
      if s.group.inGroup then s.gcast 1 (.actDone s.group.me) else s

/-! ### Meanings -/

/-- LANE_TRAINED (R354, R534). -/
def execLaneTrained (dt lane : Nat) (s : State) : Host.Outcome State Fault Refusal :=
  s.act dt fun s => let s := s.laneTrained lane; if s.serdesWaits (.lane lane) then s else s.serdesDone (.lane lane)
/-- LANE_TRAIN_TIMEOUT (R354, R534): the lane goes on training, and the SerDes after it does not wait. -/
def execLaneTrainTimeout (dt lane : Nat) (s : State) : Host.Outcome State Fault Refusal :=
  s.act dt fun s => let s := s.laneTrainTimeout lane; if (s.lane lane).failRaised then s.serdesDone (.lane lane) else s
/-- NET_LINK_UP (R375 to R377, R534), with the rate that port 4 negotiated and TX_FAULT as it reads. -/
def execNetLinkUp (dt : Nat) (link : LinkUp) (s : State) : Host.Outcome State Fault Refusal :=
  s.act dt fun s =>
    let s := s.netUp link.port link.mbit link.txFault
    if s.serdesWaits (.port link.port) then s else s.serdesDone (.port link.port)
/-- NET_LINK_DOWN (R377, R534), with MOD_ABS, TX_FAULT and RX_LOS as they read (R376). A port without a link keeps no SerDes waiting. -/
def execNetLinkDown (dt port : Nat) (modAbs txFault rxLos : Bool) (s : State) : Host.Outcome State Fault Refusal :=
  s.act dt fun s => (s.netDown port modAbs txFault rxLos).serdesDone (.port port)
/-- DP_TRAINING_DONE (R315, R534): the rate code and lane count of the link, or none where training failed. -/
def execDpTrainingDone (dt : Nat) (link : Option (Nat × Nat)) (s : State) : Host.Outcome State Fault Refusal :=
  s.act dt fun s => if dpLinkOk link then (s.dpTrained link).serdesDone .display else s
/-- DP_HPD_CHANGE (R315, R534). -/
def execDpHpdChange (dt : Nat) (present : Bool) (s : State) : Host.Outcome State Fault Refusal :=
  s.act dt fun s => let s := s.dpHpd present; if s.ports.display.hpd then s else s.serdesDone .display

/-- LATCH_POINT (R82, R107, R243, R534). -/
def execLatchPoint (dt : Nat) (s : State) : Host.Outcome State Fault Refusal := s.act dt (·.latchRow)
/-- UPDATE_ACTIVATE (R532, R533, R552). -/
def execUpdateActivate (dt m : Nat) (s : State) : Host.Outcome State Fault Refusal := s.act dt (·.runMbx updateActivateSpec m)
/-- ACTIVATION_DECISION (R532, R534). -/
def execActivationDecision (dt : Nat) (s : State) : Host.Outcome State Fault Refusal := s.act dt (·.activationDecision)
/-- PART_START_FAIL (R536). -/
def execPartStartFail (dt part : Nat) (s : State) : Host.Outcome State Fault Refusal := s.act dt (·.partStartFail part)
/-- ACTIVATION_COMPLETE (R536). -/
def execActivationComplete (dt : Nat) (s : State) : Host.Outcome State Fault Refusal := s.act dt (·.activationComplete)
/-- FW_RESTART (R535). -/
def execFwRestart (dt : Nat) (s : State) : Host.Outcome State Fault Refusal := s.act dt (·.fwRestartRow)

end Sys2Proof.Machine
end

