-- ==== Sys2Proof/Machine/Link.lean ====
section
/-!
DEFINITION. Machine/Link.lean: frames that arrive on Zoette links, what their messages do, and the states of a link (R498 to
R503, R507 to R510, R547).
-/

namespace Sys2Proof.Machine

/-! ### What a message does -/

/-- A coordinator announces itself. Where two do, the one of the lower rank, plane A first, holds. -/
def State.takeCoordinator (s : State) (who : Nat) : State :=
  let key (w : Nat) : Nat := w % 16 * 2 + w / 16
  if s.group.isCoord && s.group.live && key s.group.me < key who then s else s.setGroup { s.group with coord := some who }

/-- A period that the coordinator fixed, and the state of its clock (R508). -/
def State.takeGrid (s : State) (g : GridFrame) (phase : ClockPhase) : State :=
  let c := s.clock
  if s.followsRef || !c.run then s
  else s.setClock { c with phase := phase, grid := if (c.at_ g.n).isSome then c.grid else c.grid ++ [g] }

/-- A forwarded SHOW_CLOCK_START, at the coordinator. -/
def State.takeClockRequest (s : State) (src : Nat) (p : Bytes) : State :=
  if !s.followsRef || s.clock.accepted then s
  else if !s.refInputOn (timingOf p) then s.gsend src 1 .clockRefused
  else s.beginClock p

/-- The operations of a forwarded SHOW_CLOCK_START end with CONFLICT. -/
def State.clockRefused (s : State) : State :=
  (s.host.ops.filter fun o => o.kind == .clockStart).foldl (fun s o => s.endOp o .conflict s.pos []) s

/-- The start of the show clock, as the coordinator fixed it. -/
def State.takeClockStart (s : State) (b : TimingBlock) (frame : Nat) (due : Instant) (tref : Int × Nat) (offset : Int) (locked : Bool) :
    State :=
  if s.followsRef || s.clock.run then s
  else s.setClock { s.clock with
    accepted := true, block := b, prevBlock := b, startFrame := frame, startDue := some due, gridOffset := offset
    phase := if locked then .locked else .holdover, trefNum := tref.1, trefDen := tref.2, frame := 0 }

/-- A start of the show clock that ABORT ended at the device that issued it. -/
def State.takeClockWithdrawn (s : State) : State :=
  if s.clock.run then s
  else if s.followsRef then
    if s.host.ops.any (fun o => o.kind == .clockStart) then s else s.stopStart.gcast 1 .clockWithdrawn
  else s.stopStart.clockRefused

/-- A message from a member. -/
def State.onMsg (s : State) (src : Nat) (m : GroupMsg) : State :=
  let fromCoord := s.group.coord == some src
  match m with
  | .hello uid rank plane digest => s.takeHelloMsg uid rank plane digest
  | .coordinator who => s.takeCoordinator who
  | .membership a b _ => if fromCoord then s.takeMembership a b else s
  | .commit g n place stopped ws => if fromCoord || s.group.isCoord then s.takeCommitMsg g n place stopped ws else s
  | .prepared g who => s.takePrepared g who
  | .conflict g full => s.takeConflict g full
  | .withdrawn g => s.takeWithdrawn g
  | .decide g apply => if fromCoord then s.decideCommit g apply else s
  | .delta n who d => if s.group.isCoord then s.takeDelta n who d else s
  | .seal n d => if s.group.isCoord then s else s.takeSeal n d
  | .digest d => s.takeDigest d
  | .selfCheck n pass => s.takeCheck n pass
  | .root n who r => s.takeRoot n who r
  | .leaves n _ ls => s.takeLeaves n ls
  | .leavesRequest n => s.gsend src 3 (.leaves n s.group.me (s.viewAt n).leaves)
  | .rootDiffer _ => (s.raise 0xBC).becomeSuspect
  | .resyncRequest who => s.takeResyncRequest who
  | .state t => s.takeTransfer t
  | .joined who => s.takeJoined who
  | .switch_ n => if src = s.group.partner then s.takeSwitch n else s
  | .switchOff => if src = s.group.partner then s.dropSwitch else s
  | .activate n scope d => s.takeActivate src n scope d
  | .actPrepared who d => s.takeActPrepared who d
  | .actDecide go differs => if fromCoord then s.takeActDecide go differs else s
  | .actDone who => s.foreignDone who
  | .grid g phase => if fromCoord then s.takeGrid g phase else s
  | .actWithdrawn => s.takeActWithdrawn
  | .clockWithdrawn => s.takeClockWithdrawn
  | .clockRequest p => s.takeClockRequest src p
  | .clockRefused => if fromCoord then s.clockRefused else s
  | .clockStart b n due t off locked => if fromCoord then s.takeClockStart b n due t off locked else s

/-! ### Acceptance and delivery (R499, R500, R503, R547) -/

/-- The keys of an encrypted group are there: without them every protected frame fails (R546). -/
def State.linkOpen (s : State) : Bool := !s.group.crypt || s.secure.linkNow.isSome

/-- A frame that is not accepted: one NAK, until the expected SEQ arrives. -/
def State.refuseFrame (s : State) (l : Nat) : State :=
  let k := s.group.link l
  if k.nakSent then s else (s.setLink l { k with nakSent := true }).emit (.zlkNak l k.lastRx)

/-- The ACK and the credits that a frame carries. -/
def State.takeAck (s : State) (l ack : Nat) (credit : List Nat) : State :=
  (s.setLink l (((s.group.link l).ackTo ack).addCredits credit)).pumpLink l

/-- An ACK goes out, with the credits that are owed. -/
def State.sendAck (s : State) (l : Nat) : State :=
  let k := s.group.link l
  if k.phase != .up then s else (s.setLink l { k with owed := [0, 0, 0, 0] }).emit (.zlkAck l k.lastRx k.owed)

/-- A DATA frame delivered here, forwarded, or both. A broadcast that has been seen is dropped. -/
def State.routeFrame (s : State) (l : Nat) (f : ZlkData) : State :=
  let s := s.hear f.src
  if f.dest = 0x80 then
    let id := (f.src, f.origin)
    if f.src = s.group.me || s.group.seen.contains id then s
    else
      let s := s.setGroup { s.group with seen := (id :: s.group.seen).take 256 }
      (s.flood f (some l)).onMsg f.src f.msg
  else if f.dest = s.group.me then s.onMsg f.src f.msg
  else (s.group.route f.dest).elim s fun k => s.queueFrame k f

/-- ZLK_DATA_RX: accepted with a good CRC and the next SEQ; its space is freed at once. -/
def State.zlkDataRx (s : State) (l : Nat) (f : ZlkData) : State :=
  let k := s.group.link l
  if k.phase != .up then s
  else if !f.crcOk || !s.linkOpen || f.seq != (k.lastRx + 1) % 65536 then s.refuseFrame l
  else
    let s := s.setLink l { k with lastRx := f.seq, nakSent := false, owed := atChan k.owed f.chan (· + creditCost f.len) }
    let s := s.takeAck l f.ack f.credit
    (s.sendAck l).routeFrame l f

/-- The offset of this device's timebase from that of the far end, from the stamps of the last exchange (R508). -/
def hopOffset (t1 t2 t3 t4 : Instant) : Int := floorDiv ((t4 - t3) - (t2 - t1)) 2

/-- The link towards the coordinator, which disciplines this device's timebase. -/
def State.timeLink (s : State) : Option Nat :=
  if s.group.isCoord || !s.group.inGroup then none else s.group.coord.bind s.group.route

/-- ZLK_TIME_RX: it is acknowledged by the TIME frame that answers it. -/
def State.zlkTimeRx (s : State) (l seq ack : Nat) (crcOk : Bool) (credit : List Nat) (tx : Instant) (rx : Option Instant) : State :=
  let k := s.group.link l
  if k.phase != .up then s
  else if !crcOk || !s.linkOpen || seq != (k.lastRx + 1) % 65536 then s.refuseFrame l
  else
    let s := s.setLink l { k with lastRx := seq, nakSent := false, rxStamp := some s.tb }
    let s := s.takeAck l ack credit
    let s := (s.group.logical l).elim s fun j => s.hear (s.group.farEnd j)
    let s := match k.txStamp, rx with
      | some t1, some t2 =>
        if s.timeLink = some l then
          let o := hopOffset t1 t2 tx s.tb
          let s := s.withTime fun t => t.sample o
          s.setGroup { s.group with timeOffset := o }
        else s
      | _, _ => s
    s.sendTime l

/-- ZLK_ACK_RX. -/
def State.zlkAckRx (s : State) (l ack : Nat) (credit : List Nat) : State :=
  if (s.group.link l).phase = .up then s.takeAck l ack credit else s

/-- ZLK_NAK_RX: the frames after ACK are sent again. -/
def State.zlkNakRx (s : State) (l ack : Nat) (credit : List Nat) : State :=
  if (s.group.link l).phase != .up then s
  else
    let s := s.setLink l (((s.group.link l).ackTo ack).addCredits credit)
    (s.resend l).pumpLink l

/-- ZLK_RETRY_TIMEOUT: no ACK for 4 µs after the oldest frame was sent. -/
def State.zlkRetryTimeout (s : State) (l : Nat) : State :=
  let k := s.group.link l
  if k.phase = .up && k.sent.any (fun x => x.at_ + 4 * cycUs ≤ s.now) then s.resend l else s

/-! ### Link states (R501, R502) -/

/-- The HELLO of a link. -/
def State.helloOf (s : State) (l : Nat) : Hello :=
  { uid := Config.uid.toNat, rank := s.group.rank, plane := s.group.plane, link := l, version := Config.zlkVersion.toNat
    helloRx := (s.group.link l).helloRx, digest := s.group.digest.take 16 }

/-- ZLK_BLOCK_LOCK. -/
def State.zlkBlockLock (s : State) (l : Nat) : State :=
  let k := s.group.link l
  if k.phase != .locking then s
  else
    let s := s.setLink l { k with phase := .hello, helloRx := 0 }
    s.emit (.zlkHello l (s.helloOf l))

/-- ZLK_HELLO_TIMER: every 10 µs in HELLO, and for the first 100 µs of UP. -/
def State.zlkHelloTimer (s : State) (l : Nat) : State :=
  let k := s.group.link l
  if k.phase = .hello || (k.phase = .up && s.now ≤ k.upAt + 100 * cycUs) then s.emit (.zlkHello l (s.helloOf l)) else s

/-- The peer's HELLO passes the check of R502. -/
def GroupState.helloOk (g : GroupState) (l : Nat) (h : Hello) : Bool :=
  (g.logical l).elim false fun j => h.digest == g.digest.take 16 && memberNum h.rank h.plane == g.farEnd j

/-- A link reaches UP: SEQ, ACK and credits return to their full values; TIME frames and the discovery broadcast begin. -/
def State.zlkUp (s : State) (l : Nat) (k : ZlkLink) : State :=
  let k : ZlkLink := { phase := .up, helloRx := k.helloRx, peerRx := k.peerRx, upAt := s.now, retries := k.retries }
  let g := s.group
  ((s.setLink l k).sendTime l).gcast 0 (.hello Config.uid.toNat g.rank g.plane g.digest)

/-- A HELLO with another group digest, from a device that comes before this one in the order of the coordinators: a device whose group
has not formed does not join, and is REFUSED (R495; DEDUCED, assumption 97). -/
def GroupState.refusedBy (g : GroupState) (h : Hello) : Bool :=
  g.phase == .forming && h.digest != g.digest.take 16 && h.rank * 2 + h.plane < g.rank * 2 + g.plane

/-- ZLK_HELLO_RX: a HELLO, good or bad. -/
def State.zlkHelloRx (s : State) (l : Nat) (good : Bool) (h : Hello) : State :=
  let k := s.group.link l
  if k.phase != .hello && k.phase != .up then s
  else if !good then s.setLink l { k with helloRx := 0 }
  else if !s.group.helloOk l h then
    let s := if s.group.refusedBy h then s.setGroup { s.group with phase := .refused } else s
    let s := s.linkDown l .hello
    s.setLink l { s.group.link l with helloRx := min 255 (k.helloRx + 1) }
  else
    let k := { k with helloRx := min 255 (k.helloRx + 1), peerRx := h.helloRx }
    let s := (s.hear (memberNum h.rank h.plane)).setLink l k
    if k.phase = .hello && 16 ≤ k.helloRx && 16 ≤ h.helloRx then s.zlkUp l k else s

/-- ZLK_LOCK_LOSS: block lock lost on any lane for 2 µs. -/
def State.zlkLockLoss (s : State) (l : Nat) : State :=
  let k := s.group.link l
  match k.phase with
  | .up => s.linkDown l .locking
  | .hello => s.setLink l { k with helloRx := 0 }
  | _ => s

/-! ### Meanings -/

/-- ZLK_BLOCK_LOCK (R501). -/
def execZlkBlockLock (dt link : Nat) (s : State) : Host.Outcome State Fault Refusal := s.act dt (·.zlkBlockLock link)
/-- ZLK_HELLO_RX (R498, R501, R502). -/
def execZlkHelloRx (dt link : Nat) (good : Bool) (h : Hello) (s : State) : Host.Outcome State Fault Refusal :=
  s.act dt (·.zlkHelloRx link good h)
/-- ZLK_HELLO_TIMER (R501). -/
def execZlkHelloTimer (dt link : Nat) (s : State) : Host.Outcome State Fault Refusal := s.act dt (·.zlkHelloTimer link)
/-- ZLK_LOCK_LOSS (R501, R562). -/
def execZlkLockLoss (dt link : Nat) (s : State) : Host.Outcome State Fault Refusal := s.act dt (·.zlkLockLoss link)
/-- ZLK_DATA_RX (R499, R500, R503). -/
def execZlkDataRx (dt link : Nat) (f : ZlkData) (s : State) : Host.Outcome State Fault Refusal := s.act dt (·.zlkDataRx link f)
/-- ZLK_ACK_RX (R499, R500). -/
def execZlkAckRx (dt link ack : Nat) (credit : List Nat) (s : State) : Host.Outcome State Fault Refusal :=
  s.act dt (·.zlkAckRx link ack credit)
/-- ZLK_NAK_RX (R500). -/
def execZlkNakRx (dt link ack : Nat) (credit : List Nat) (s : State) : Host.Outcome State Fault Refusal :=
  s.act dt (·.zlkNakRx link ack credit)
/-- ZLK_TIME_RX (R500, R508). -/
def execZlkTimeRx (dt link seq ack : Nat) (crcOk : Bool) (credit : List Nat) (tx : Instant) (rx : Option Instant) (s : State) :
    Host.Outcome State Fault Refusal :=
  s.act dt (·.zlkTimeRx link seq ack crcOk credit tx rx)
/-- ZLK_RETRY_TIMEOUT (R500). -/
def execZlkRetryTimeout (dt link : Nat) (s : State) : Host.Outcome State Fault Refusal := s.act dt (·.zlkRetryTimeout link)

end Sys2Proof.Machine
end

