-- ==== Sys2Proof/Machine/GroupExec.lean ====
section
/-!
DEFINITION. Machine/GroupExec.lean: loopback tests, GROUP_CONFIG and GROUP_STATUS (R521, R525, R526).
-/

namespace Sys2Proof.Machine

/-! ### Loopback tests (R521) -/

/-- Seconds between tests. -/
def GroupState.loopbackS (g : GroupState) : Nat := orDefault (fld g.record 6 2) 60

/-- A failed test: counted, raised and named. -/
def State.loopFail (s : State) (output : Nat) : State :=
  (s.setGroup { s.group with loopFails := s.group.loopFails + 1, loopPort := output }).raise 0xBB

/-- The frame of the gap of canvas `k` that came last. -/
def State.lastGap (s : State) (k : Nat) : Nat :=
  (((s.canvas k).gapAhead.toList) ++ ((s.render.frames.filter fun r => r.hasCanvas k && (r.win k).gapDone).map (·.n))).foldl max 0

/-- The header of a TEST frame, whose payload holds no pixels (R348). -/
def State.testHeader (s : State) (l : Nat) : LaneHeader :=
  let v := s.txn.view
  let k := (v.canvas.segments.find l).elim 0 (·.canvas)
  let n := s.lastGap k
  let hold := (v.ports.lanes.getD l {}).holdMs
  match v.laneSettings l (s.clock.predict n).period with
  | none => { type_ := 3, canvas := k, lane := l, frame := n, holdMs := hold }
  | some x =>
    { type_ := 3, flags := 4 * b2n x.rolling, canvas := k, lane := l, frame := n, format := x.format, holdMs := hold
      periodNs := x.periodNs, gapNs := x.gapNs }

/-- The TEST frame of a lane. Frames of a lane without a back-channel have no echo to test. -/
def State.testLane (s : State) (l : Nat) : State :=
  let d := s.lane l
  if !s.enabled 3 l || d.link != .up || !d.phy.backchannel then s
  else
    let h := s.testHeader l
    let block := testBlock h.frame
    let s := s.setLane l { d with sendEnd := some (s.tb + laneTime 256 1) }
    let s := s.emit (.lane l s.tb h (block ++ bytesLE 4 (crc32c block).toNat))
    s.setGroup { s.group with echoes := s.group.echoes ++ [l] }

/-- The test frame of an Ethernet port: 64 bytes with its FCS. The partner's port address and what the frame carries are not in
the spec (assumption 3). -/
def State.testPort (s : State) (p : Nat) : State :=
  if !s.portOn p || !(s.port p).up then s
  else
    let f := s.freshes 47
    let bs := bytesBE 6 (f.1.headD 0) ++ bytesBE 6 ((s.port p).cfg.mac) ++ bytesBE 2 0x88B5 ++ (f.1.drop 1).map (BitVec.ofNat 8)
    let s := f.2.queueOther p 61 bs
    s.setGroup { s.group with echoes := s.group.echoes ++ [192 + p] }

/-- LOOPBACK_TEST: a standby tests its lanes, DMX ports, PWM outputs and Ethernet ports; `badDmx` and `badPwm` are the ports and
outputs whose read-back fails. -/
def State.loopbackTest (s : State) (badDmx badPwm : List Nat) : State :=
  if s.group.role != .standby || s.now < s.group.loopAt + s.group.loopbackS * cycSec then s
  else
    let s := s.setGroup { s.group with loopAt := s.now, echoes := [] }
    let s := (List.range 64).foldl State.testLane s
    let s := ((List.range 16).filter fun j => s.enabled 4 j && badDmx.contains j).foldl (fun s j => s.loopFail (64 + j)) s
    let s := ((List.range 32).filter fun j => s.enabled 5 j && badPwm.contains j).foldl (fun s j => s.loopFail (128 + j)) s
    (List.range 4).foldl State.testPort s

/-- LOOPBACK_ECHO_TIMEOUT of an output: 100 µs for a lane, 4 ms for an Ethernet port. -/
def State.loopbackTimeout (s : State) (output : Nat) : State :=
  let limit := if output < 64 then 100 * cycUs else 4 * cycMs
  if !s.group.echoes.contains output || s.now < s.group.loopAt + limit then s
  else (s.setGroup { s.group with echoes := s.group.echoes.filter (· != output) }).loopFail output

/-! ### GROUP_CONFIG (R494, R525) -/

/-- The fields of a group record lie in their ranges. -/
def groupRangeOk (p : Bytes) : Bool :=
  let mode := fld p 0 1
  let torus := fld p 1 1
  let ranks := fld p 2 1
  let single := mode == 0 || mode == 2
  upTo p 0 1 3 && upTo p 1 1 1 && within p 2 1 1 16 && (!single || (torus == 0 && ranks == 1)) && (torus == 0 || ranks == 16)
    && (upTo p 4 1 3 || fld p 4 1 == 0xFF) && upTo p 6 2 3600

/-- The UIDs of a record: those within RANKS, of plane B only where there are pairs, and the others, which are zero. -/
def groupUids (p : Bytes) : List Nat × List Nat :=
  let mode := fld p 0 1
  let all := (List.range 32).map fun i => (fld p (0x10 + 8 * i) 8, i % 16 < fld p 2 1 && (i < 16 || mode == 2 || mode == 3))
  ((all.filter (·.2)).map (·.1), (all.filter fun e => !e.2).map (·.1))

/-- No UID occurs twice, and none within RANKS is zero. -/
def groupUidsOk (p : Bytes) : Bool :=
  let u := (groupUids p).1
  u.all (· != 0) && u.eraseDups.length == u.length

/-- GROUP_CONFIG (0x0D01). UIDs beyond RANKS or of an unused plane are zero, or the record is malformed. -/
def groupConfigSpec : CommandSpec :=
  { code := 0x0D01, kind := .device, lengthOk := lenIs 0x110, roleOk := engineer
    argOk := fun c _ => upTo c.payload 3 1 1 && zeroAt c.payload 5 1 && zeroAt c.payload 8 8
    rangeOk := fun c _ => groupRangeOk c.payload
    body := fun c s =>
      if s.auditFull then s.fail .busy
      else if !groupUidsOk c.payload || (groupUids c.payload).2.any (· != 0) then s.fail .badArgument
      else s.accept c (.job [] c.payload) [] fun _ s => s }

/-- GROUP_CONFIG_DONE: the record stands in flash. -/
def State.groupConfigDone (s : State) (id : Nat) : State :=
  match s.op id 0x0D01 with
  | none => s
  | some o =>
    match o.kind with
    | .job _ p =>
      let s := s.setGroup { s.group with flash := p }
      (s.audit 0x0050 o.session (s.roleOf o.session) 0 (bytesLE 2 0x0D01 ++ p.take 16)).endOp o .ok s.pos []
    | _ => s

/-! ### GROUP_STATUS (R526) -/

def GroupPhase.code : GroupPhase → Nat
  | .standalone => 0
  | .forming => 1
  | .formed => 2
  | .degraded => 3
  | .isolated => 4
  | .refused => 5

def TangoRole.code : TangoRole → Nat
  | .none_ => 0
  | .active => 1
  | .standby => 2
  | .suspect => 3
  | .resync => 4
  | .faulted => 5
  | .detached => 6

/-- The response. COORD without a coordinator is the device's own number (DESIGN CHOICE, assumption 66). -/
def GroupState.bytes (g : GroupState) : Bytes :=
  bytesLE 1 g.phase.code ++ bytesLE 1 g.rank ++ bytesLE 1 g.role.code ++ bytesLE 1 (g.coord.getD g.me)
    ++ bytesLE 2 g.presentA ++ bytesLE 2 g.presentB ++ bytesLE 1 (((List.range 6).filter g.linkUp).map (2 ^ ·)).sum
    ++ bytesLE 1 g.yieldCause ++ bytesLE 1 g.loopPort ++ bytesLE 1 (b2n g.yieldStuck + 2 * b2n g.yieldTakeover)
    ++ (List.range 6).flatMap (fun l => bytesLE 4 (g.link l).retries.toNat) ++ bytesLE 4 g.compared.toNat ++ bytesLE 4 g.uncompared.toNat
    ++ bytesLE 4 g.mismatches.toNat ++ bytesLE 4 g.loopFails.toNat ++ bytesLE 4 g.sealMisses.toNat ++ bytesLES 4 g.timeOffset ++ zeros 4
    ++ bytesLE 8 g.lastTakeover

/-- GROUP_STATUS (0x0D02). -/
def groupStatusSpec : CommandSpec :=
  { code := 0x0D02, kind := .read, lengthOk := lenNone, roleOk := anyRole, body := fun _ s => s.okWith s.group.bytes }

/-! ### Meanings -/

/-- LOOPBACK_TEST (R521). -/
def execLoopbackTest (dt : Nat) (badDmx badPwm : List Nat) (s : State) : Host.Outcome State Fault Refusal :=
  s.act dt (·.loopbackTest badDmx badPwm)
/-- LOOPBACK_ECHO_TIMEOUT (R521). -/
def execLoopbackEchoTimeout (dt output : Nat) (s : State) : Host.Outcome State Fault Refusal := s.act dt (·.loopbackTimeout output)
/-- GROUP_CONFIG (R525). -/
def execGroupConfig (dt m : Nat) (s : State) : Host.Outcome State Fault Refusal := s.act dt (·.runMbx groupConfigSpec m)
/-- GROUP_CONFIG_DONE (R525). -/
def execGroupConfigDone (dt op : Nat) (s : State) : Host.Outcome State Fault Refusal := s.act dt (·.groupConfigDone op)
/-- GROUP_STATUS (R526). -/
def execGroupStatus (dt m : Nat) (s : State) : Host.Outcome State Fault Refusal := s.act dt (·.runMbx groupStatusSpec m)

end Sys2Proof.Machine
end

