-- ==== Sys2Proof/Machine/Fn.lean ====
section
/-!
DEFINITION. Machine/Fn.lean: the states of functions, their drains, and FN_ENABLE, FN_DISABLE and FN_STATUS (R39 to R49).
-/

namespace Sys2Proof.Machine

/-! ### Classes (R46) -/

/-- The number of instances of a class; none for an unknown class. -/
def classSize (cls : Nat) : Option Nat :=
  [(1, 4), (2, 1), (3, 64), (4, 16), (5, 32), (6, 1), (7, 2), (8, 8), (9, 64), (10, 6), (11, 64), (12, 32), (13, 8), (14, 8), (15, 8),
   (16, 4), (17, 3)].lookup cls

/-- The Ethernet port of a function of class 1 or 2. -/
def portOf (cls inst : Nat) : Nat := if cls = 2 then 4 else inst

/-- The host rings bound to the transmit network rings of an Ethernet port. -/
def State.txRings (s : State) (p : Nat) : List Nat :=
  ((s.net.rings.filter fun e => decide (64 ≤ e.1) && e.2.host != 0 && e.2.ports == p).map (·.2.host)).eraseDups

/-- Host frames that wait for an Ethernet port: descriptors with EOP (R384). -/
def State.chainsQueued (s : State) (p : Nat) : Nat :=
  ((s.txRings p).map fun r => ((s.ring r).posted.filter fun d => bit d.flags 2).length).sum

/-- Total pixels of a frame of each confidence mode, blanking included (VESA DMT and CTA-861, PRESUMED, assumption 43). -/
def dpTotals : List Nat :=
  [420000, 1485000, 1237500, 3093750, 2970000, 2475000, 2970000, 2475000, 2568800, 12375000, 11880000, 9900000, 11880000, 9900000]

/-- One frame of a confidence mode in TIME cycles (R46). -/
def dpFrameCycles (m : Nat) : Nat :=
  (ceilDiv ((dpTotals.getD (m - 1) 0 * 500000 : Nat) : Int) ((dpMode m).elim 1 (·.2.2))).toNat

/-- The sample that a metering channel takes when its drain begins is still in flight: none has been taken since. -/
def State.sampleInFlight (s : State) (c : Nat) : Bool :=
  let f := s.fn (fnId 11 c)
  let began := if f.state = .draining then f.bound - 125 * cycUs else s.now
  s.mtrLive c && (s.meter.nextSample == 0 || decide (s.meter.base + cycSample * (s.meter.nextSample - 1) < began))

/-- Lanes of a canvas that send a frame. -/
def State.canvasLanes (s : State) (k : Nat) : Nat := ((s.txn.view.lanesOf k).filter fun e => s.ahead (s.lane e.1).sendEnd).length

/-- Items in flight of a function. -/
def State.itemsLeft (s : State) (cls inst : Nat) : Nat :=
  match cls with
  | 1 | 2 => b2n (s.ahead (s.port (portOf cls inst)).wireEnd)
  | 3 => b2n (s.ahead (s.lane inst).sendEnd || (s.lane inst).gapOwed)
  | 4 => b2n (s.ahead (s.dmxPort inst).sendEnd || (s.dmxPort inst).run.isSome)
  | 5 => b2n (s.pwmOut inst).running
  | 6 => b2n (s.ports.display.link.isSome && s.ports.display.line != 0)
  | 8 => s.canvasLanes inst
  | 9 => (s.render.held.filter (·.cluster == inst)).length
  | 10 => (s.group.link inst).sent.length
  | 11 => b2n (s.sampleInFlight inst)
  | 12 => b2n ((s.meter.points.find inst).elim false (·.interval.isSome))
  | 13 => b2n (s.meter.pulses.getD inst {}).driving
  | 14 => b2n (s.pulse inst).driving
  | _ => 0

/-- Queued items of a function, which a drain cancels. -/
def State.itemsQueued (s : State) (cls inst : Nat) : Nat :=
  match cls with
  | 1 | 2 => (s.port (portOf cls inst)).runQueue.length + (s.port (portOf cls inst)).otherQueue.length
      + s.chainsQueued (portOf cls inst)
  | 4 => (s.dmxPort inst).queue.length
  | 5 => (s.pwmOut inst).loads.length
  | 7 => b2n (s.video inst).current.isSome
  | 10 => (s.group.link inst).waiting.length
  | 11 => (s.meter.captures.filter (·.channel == inst)).length
  | 13 => (s.meter.pulses.getD inst {}).backlog + (s.meter.pulses.getD inst {}).edges.length
  | 14 => b2n (s.pulse inst).sched.isSome
  | _ => 0

/-- TIME cycles of a duration, rounded up. -/
def unitCyc (u : Units) : Nat := (ceilDiv u 131072).toNat

/-- The drain bound of a function, in TIME cycles. -/
def State.drainBound (s : State) (cls inst : Nat) : Nat :=
  let period (k : Nat) : Units := ((s.txn.view.canvas.canvases.find k).elim 1 (·.divider)) * s.clock.period
  match cls with
  | 1 | 2 | 7 | 10 => cycMs
  | 3 => unitCyc (period ((s.txn.view.canvas.segments.find inst).elim 0 (·.canvas))) + cycMs
  | 4 => if (s.dmxPort inst).run.isSome then 80 * cycMs else unitCyc ((s.dmxPort inst).sendEnd.elim 0 fun t => max 0 (t - s.tb)) + cycMs
  | 5 => (5 * (s.pwmOut inst).cfg.period + 1) / 2 + cycMs
  | 6 => dpFrameCycles s.ports.display.force.mode
  | 8 => unitCyc (2 * period inst)
  | 9 => unitCyc (floorDiv (4 * s.clock.period) 5)
  | 11 => 125 * cycUs
  | 12 => ((s.meter.points.find inst).elim 0 (·.cfg.zcMs)) * cycMs
  | 13 => (s.meter.pulses.getD inst {}).widthMs * cycMs
  | 14 => (s.pulse inst).widthNs / 2
  | 15 | 16 => cycUs
  | _ => 0

/-- A dependency refuses FN_DISABLE. -/
def State.dependency (s : State) (cls inst : Nat) : Bool :=
  match cls with
  | 9 => !((List.range 64).any fun k => k != inst && s.enabled 9 k)
  | 10 => s.group.inGroup && (s.group.logical inst).isSome
  | 11 => s.meter.points.any fun e => s.enabled 12 e.1 && (e.2.cfg.vCh ++ e.2.cfg.iCh).contains inst
  | 12 => s.txn.view.colour.feeders.any fun e => fdPoint e.2 == inst
  | 17 => s.clock.accepted
      && (match s.clock.block.refKind with
        | 0 => s.clock.block.wordClock && inst == 2
        | 2 => inst == 0
        | 3 => inst == 1
        | _ => false)
  | _ => false

/-! ### What starts and what ends -/

/-- The record of a function changed. -/
def State.setFn (s : State) (id : Nat) (f : FnRec) : State := { s with fns := s.fns.put id f }

/-- The state of a function changed. Of a render cluster, the cycle counters are brought up to now first, and the writes held while its
clock was gated take effect when it runs again (R28). -/
def State.moveFn (s : State) (cls inst : Nat) (st : FnState) : State :=
  let wakes := cls = 9 && !s.alive 9 inst
  let s := if cls = 9 then s.syncCycles else s
  let s := s.setFn (fnId cls inst) { s.fn (fnId cls inst) with state := st }
  if wakes && s.alive 9 inst then s.wakeUnit inst else s

/-- A function starts work. -/
def State.startFn (s : State) (cls inst : Nat) : State :=
  match cls with
  | 1 => s.emit (.remoteFault inst true)
  | 4 =>
    let dmx := s.inputs.dmx.mapVal fun k d => if k = inst then { d with lastAt := s.now } else d
    { s with inputs := { s.inputs with dmx := dmx } }
  | 7 => s.setVideo inst ({ s.video inst with lastPacket := s.now }, [])
  | 3 => s.setLane inst ((s.lane inst).train s.now)
  | 5 =>
    let base := if (List.range 32).any fun j => j != inst && s.alive 5 j then s.ports.pwmBase else s.now
    let s := { s with ports := { s.ports with pwmBase := base } }
    s.setPwm inst { s.pwmOut inst with value := none, loads := [], running := false, lastStart := none, senseRun := 0 }
  | 6 => if s.ports.display.hpd then s.setDisplay { s.ports.display with training := true } else s
  | 8 =>
    let te : Map TeDyn := s.ports.te.mapVal fun _ d => if d.canvas = some inst then { d with since := s.tb } else d
    { s with ports := { s.ports with te := te } }
  | 10 => s.setLink inst { s.group.link inst with phase := .locking }
  | 11 => if (List.range 64).any (fun c => c != inst && s.mtrLive c) then s
      else s.withMeter { s.meter with base := s.now, nextSample := 0 }
  | 12 => match s.meter.points.find inst with
    | some p => s.withMeter (s.meter.setPoint inst (p.start s.now))
    | none => s
  | 16 => { s with ports := { s.ports with te := s.ports.te.put inst { s.ports.te.getD inst {} with since := s.tb } } }
  | _ => s

/-- Captures of a metering channel that a drain cancels (R41). -/
def State.abortCaptures (s : State) (c : Nat) : State :=
  let mine := s.meter.captures.filter (·.channel == c)
  let s := s.withMeter { (s.meter.roveAbort c) with captures := s.meter.captures.filter (·.channel != c) }
  mine.foldl (fun s r => s.endOpId r.op .aborted s.pos []) s

/-- A drain begins: queued items are cancelled. -/
def State.cancelQueued (s : State) (cls inst : Nat) : State :=
  match cls with
  | 1 | 2 =>
    let p := portOf cls inst
    let s := s.setPort p { s.port p with runQueue := [], otherQueue := [] }
    (s.txRings p).foldl (fun s r => s.cancelAll r) s
  | 4 => s.abortRdm inst
  | 5 => s.setPwm inst { s.pwmOut inst with loads := [] }
  | 7 => s.setVideo inst ({ s.video inst with current := none }, [])
  | 10 => s.setLink inst { s.group.link inst with waiting := [] }
  | 11 => s.abortCaptures inst
  | 13 => s.setMtrPulse inst { s.meter.pulses.getD inst {} with edges := [], backlog := 0 }
  | 14 => s.setPulse inst { s.pulse inst with sched := none }
  | _ => s

/-- A function stands still: what was in flight beyond the drain bound is cut short, and the output takes its idle state (R44). -/
def State.stopFn (s : State) (cls inst : Nat) : State :=
  match cls with
  | 1 | 2 =>
    let p := portOf cls inst
    (s.setPort p { s.port p with runQueue := [], otherQueue := [], pauseEnd := none }).portDown p
  | 3 =>
    let d := s.lane inst
    let s := s.cutLane inst d
    s.setLane inst { s.lane inst with link := .off, retrain := false, gapOwed := false, sendEnd := none }
  | 4 => s.cutDmx inst (s.dmxPort inst)
  | 5 => s.cutPwm inst (s.pwmOut inst)
  | 6 => s.setDisplay { s.ports.display with link := none, training := false, failed := false, line := 0 }
  | 10 => s.setLink inst { s.group.link inst with phase := .disabled, sent := [], waiting := [], helloRx := 0 }
  | 12 => match s.meter.points.find inst with
    | some p => s.withMeter (s.meter.setPoint inst { p with phase := .disabled, interval := none, lastCross := none })
    | none => s
  | 13 =>
    let o := s.meter.pulses.getD inst {}
    let s := s.setMtrPulse inst { o with driving := false, gapping := false, edges := [], backlog := 0 }
    if o.driving then s.emit (.mtrPulse inst false) else s
  | 14 =>
    let o := s.pulse inst
    let s := s.setPulse inst { o with driving := false, sched := none }
    if o.driving then s.emit (.pulse inst s.tb false) else s
  | _ => s

/-! ### FN_ENABLE, FN_DISABLE, FN_STATUS (R47 to R49) -/

/-- Class and instance of a FUNC_ID. -/
def fnClass (id : Nat) : Nat := id / 65536
def fnInst (id : Nat) : Nat := id % 65536

/-- The response. -/
def State.fnResp (s : State) (id : Nat) : Bytes :=
  let f := s.fn id
  bytesLE 4 id ++ bytesLE 1 (s.fnCode (fnClass id) (fnInst id)) ++ zeros 3 ++ bytesLE 4 f.doneCount.toNat ++ bytesLE 4 f.cancelCount.toNat

/-- FUNC_ID names a class, and an instance of it. -/
def fnArgOk (c : Ctx) (_ : State) : Bool := (classSize (fnClass (fld c.payload 0 4))).isSome && zeroAt c.payload 4 4
def fnRangeOk (c : Ctx) (_ : State) : Bool :=
  (classSize (fnClass (fld c.payload 0 4))).elim false (fnInst (fld c.payload 0 4) < ·)

/-- FN_ENABLE (0x0120). -/
def fnEnableSpec : CommandSpec :=
  { code := 0x0120, kind := .device, lengthOk := lenIs 8, roleOk := engineer, argOk := fnArgOk, rangeOk := fnRangeOk
    body := fun c s =>
      let id := fld c.payload 0 4
      match (s.fn id).state with
      | .draining => s.fail .busy
      | .enabled => s.okWith (s.fnResp id)
      | .disabled =>
        if (s.fn id).failed then s.fail .integrity
        else
          let s := (s.startFn (fnClass id) (fnInst id)).moveFn (fnClass id) (fnInst id) .enabled
          s.okWith (s.fnResp id) }

/-- The end of a drain: DISABLED, with the counts of the drain; the final completion of FN_DISABLE is delivered. -/
def State.drainEnds (s : State) (id : Nat) : State :=
  let f := s.fn id
  let left := s.itemsLeft (fnClass id) (fnInst id)
  let s := (s.stopFn (fnClass id) (fnInst id)).moveFn (fnClass id) (fnInst id) .disabled
  let s := s.setFn id { s.fn id with
    doneCount := BitVec.ofNat 32 (f.inFlight - left), cancelCount := f.cancelCount + BitVec.ofNat 32 left, op := none, inFlight := 0 }
  f.op.elim s fun op => s.endOpId op .ok s.pos (s.fnResp id)

/-- The drain begins. -/
def State.drainBegins (s : State) (id op : Nat) : State :=
  let cls := fnClass id
  let inst := fnInst id
  let f : FnRec := { s.fn id with
    op := some op, inFlight := s.itemsLeft cls inst, cancelCount := BitVec.ofNat 32 (s.itemsQueued cls inst)
    bound := s.now + s.drainBound cls inst }
  ((s.setFn id f).cancelQueued cls inst).moveFn cls inst .draining

/-- FN_DISABLE (0x0121). -/
def fnDisableSpec : CommandSpec :=
  { code := 0x0121, kind := .device, lengthOk := lenIs 8, roleOk := engineer, argOk := fnArgOk, rangeOk := fnRangeOk
    body := fun c s =>
      let id := fld c.payload 0 4
      match (s.fn id).state with
      | .draining => s.fail .busy
      | .disabled => s.okWith (s.fnResp id)
      | .enabled =>
        if s.dependency (fnClass id) (fnInst id) then s.fail .conflict
        else
          let r := s.accept c (.fnDisable id) [] fun op s => s.drainBegins id op
          if r.2.status = .accepted then (r.1, { r.2 with resp := r.1.fnResp id }) else r }

/-- FN_STATUS (0x0122). -/
def fnStatusSpec : CommandSpec :=
  { code := 0x0122, kind := .read, lengthOk := lenIs 8, roleOk := anyRole
    argOk := fun c s => plainRead c && fnArgOk c s, rangeOk := fnRangeOk, body := fun c s => s.okWith (s.fnResp (fld c.payload 0 4)) }

/-! ### The end of a drain (R39) -/

/-- DRAIN_COMPLETE: the last in-flight item has ended. -/
def State.drainComplete (s : State) (id : Nat) : State :=
  if (s.fn id).state = .draining && s.itemsLeft (fnClass id) (fnInst id) = 0 then s.drainEnds id else s

/-- DRAIN_BOUND_EXPIRY: remaining items are cancelled. -/
def State.drainExpiry (s : State) (id : Nat) : State :=
  if (s.fn id).state = .draining && (s.fn id).bound ≤ s.now then s.drainEnds id else s

/-! ### Meanings -/

/-- FN_ENABLE (R39, R48, R49). -/
def execFnEnable (dt m : Nat) (s : State) : Host.Outcome State Fault Refusal := s.act dt (·.runMbx fnEnableSpec m)
/-- FN_DISABLE (R39, R40, R48, R49). -/
def execFnDisable (dt m : Nat) (s : State) : Host.Outcome State Fault Refusal := s.act dt (·.runMbx fnDisableSpec m)
/-- FN_STATUS (R49). -/
def execFnStatus (dt m : Nat) (s : State) : Host.Outcome State Fault Refusal := s.act dt (·.runMbx fnStatusSpec m)
/-- DRAIN_COMPLETE (R39). -/
def execDrainComplete (dt fn : Nat) (s : State) : Host.Outcome State Fault Refusal := s.act dt (·.drainComplete fn)
/-- DRAIN_BOUND_EXPIRY (R39). -/
def execDrainBoundExpiry (dt fn : Nat) (s : State) : Host.Outcome State Fault Refusal := s.act dt (·.drainExpiry fn)

end Sys2Proof.Machine
end

