-- ==== Sys2Proof/Machine/Abort.lean ====
section
/-!
DEFINITION. Machine/Abort.lean: ABORT (R86, R87, R584).
-/

namespace Sys2Proof.Machine

/-! ### Operations by their decision points -/

/-- An operation ends without effect. -/
def State.cancelOp (s : State) (o : Op) : State × Reply := (s.endOp o .aborted s.pos []).ok

/-- The decision point has passed. -/
def State.tooLate (s : State) : State × Reply := s.fail .alreadyComplete

/-- ABORT of a commit: its decision point is the deadline of its target, or t(START_FRAME). -/
def State.abortTxn (s : State) (slot : Nat) : State × Reply :=
  match s.txn.slots.find slot with
  | none => s.tooLate
  | some t =>
    match t.commit with
    | none => s.tooLate
    | some k =>
      if s.commitDecided k || k.apply.isSome then s.tooLate
      else match s.abortCommit slot t k with
        | none => s.fail .conflict
        | some s' => (if s.group.inGroup then s'.gcast 1 (.withdrawn k.gseq) else s').ok

/-- ABORT of a SHOW_CLOCK_START, decided at t(START_FRAME). -/
def State.abortStart (s : State) (o : Op) : State × Reply :=
  if s.clock.run then s.tooLate
  else
    let s' := s.stopStart
    let s' := if s.followsRef then s'.gcast 1 .clockWithdrawn else s.group.coord.elim s' fun k => s'.gsend k 1 .clockWithdrawn
    s'.cancelOp o

/-- ABORT of an RDM_TRANSACTION, decided when its break starts. -/
def State.withdrawRdm (s : State) (o : Op) (j : Nat) : State × Reply :=
  let d := s.dmxPort j
  if d.queue.any (·.op == o.id) then (s.setDmx j { d with queue := d.queue.filter (·.op != o.id) }).cancelOp o else s.tooLate

/-- ABORT of an MTR_CAPTURE, decided at its first sample. -/
def State.abortCapture (s : State) (o : Op) : State × Reply :=
  if s.meter.captures.any fun r => r.op == o.id && r.startAt.isNone then
    (s.withMeter { s.meter with captures := s.meter.captures.filter (·.op != o.id) }).cancelOp o
  else s.tooLate

/-- ABORT of an UPDATE_ACTIVATE, decided at the commit deadline of its frame, or at its acceptance. -/
def State.abortActivate (s : State) (o : Op) : State × Reply :=
  match s.update.act with
  | none => s.tooLate
  | some a =>
    if a.op != o.id || s.update.actPhase != .accepted || s.activationDue a then s.tooLate else (s.abortActivation a).ok

/-- ABORT of a TANGO_SWITCH, decided at the commit deadline of its frame. -/
def State.abortSwitch (s : State) (o : Op) (m : Nat) : State × Reply :=
  if s.group.switchOp != some o.id || (s.clock.run && s.clock.deadline m s.commitLead ≤ s.pos) then s.tooLate
  else ((s.setGroup { s.group with takeover := none, switchOp := none }).gsend s.group.partner 1 .switchOff).cancelOp o

/-- The phase of the staging area with a code. -/
def stageOf (code : Nat) : StagePhase :=
  (([.empty, .receiving, .verifying, .verified, .invalid, .activating] : List StagePhase).find? (·.code == code)).getD .empty

/-- ABORT of an operation whose decision point is the start of its flash write (R525, R554). The spec does not say when between the
acceptance and the completion that is, so a free value decides, once (assumption 67). -/
def State.abortFlash (s : State) (o : Op) : State × Reply :=
  if o.begun then s.tooLate
  else
    let r := s.fresh
    if r.1 % 2 = 0 then r.2.cancelOp o
    else
      let ops := r.2.host.ops.map fun x => if x.id == o.id then { x with begun := true } else x
      ({ r.2 with host := { r.2.host with ops := ops } } : State).tooLate

/-- ABORT of an operation of another chapter. -/
def State.abortJob (s : State) (o : Op) (nums : List Nat) : State × Reply :=
  match o.command with
  | 0x0911 => s.withdrawRdm o (nums.headD 0)
  | 0x0B20 => s.abortCapture o
  | 0x0D20 => s.abortSwitch o (nums.headD 0)
  | 0x0D01 => s.abortFlash o
  | 0x0F02 => s.abortFlash o
  | 0x0F10 => s.abortFlash o
  | 0x0F11 => s.abortFlash o
  | 0x0E01 => s.cancelOp o
  | 0x0E02 => s.cancelOp o
  | 0x0E03 => ({ s with update := { s.update with stage := stageOf (nums.headD 0) } } : State).cancelOp o
  | 0x0E04 => s.abortActivate o
  | _ => s.tooLate

/-- ABORT of an ACCEPTED operation. -/
def State.abortOp (s : State) (o : Op) : State × Reply :=
  match o.kind with
  | .commit slot => s.abortTxn slot
  | .fnDisable _ => s.tooLate
  | .clockStart => s.abortStart o
  | .stage .. => s.cancelOp o
  | .job nums _ => s.abortJob o nums

/-! ### ABORT (0x0104) -/

/-- A 4-byte field at offset `off` of a mailbox body. -/
def State.bodyField (s : State) (m off : Nat) : Nat := fld (s.readRegion (m * 0x1000 + off) 4) 0 4

/-- The mailbox that holds a POSTED request of a session and tag. -/
def State.postedMbx (s : State) (session tag : Nat) : Option Nat :=
  (List.range 16).find? fun m =>
    (s.mbx m).phase == .posted && s.bodyField m 8 == session && s.bodyField m 4 == tag

/-- The tag is one of the session's last 256 completed operations. -/
def State.tagDone (s : State) (session tag : Nat) : Bool := (s.host.sessions.find session).elim false (·.doneTags.contains tag)

/-- An executing request of the session carries the tag. -/
def State.tagExecuting (s : State) (session tag : Nat) : Bool :=
  s.host.execs.any fun e => fld e.req 8 4 == session && fld e.req 4 4 == tag

/-- ABORT after the generic checks. -/
def abortBody (c : Ctx) (s : State) : State × Reply :=
  let tag := fld c.payload 0 4
  match s.host.ops.find? fun o => o.session == c.session && o.tag == tag with
  | some o => s.abortOp o
  | none =>
    match s.postedMbx c.session tag with
    | some m => (s.abortMbx m).ok
    | none => if tag = c.tag || s.tagExecuting c.session tag || s.tagDone c.session tag then s.tooLate else s.fail .badArgument

/-- ABORT. -/
def abortSpec : CommandSpec :=
  { code := 0x0104, kind := .device, lengthOk := lenIs 8, roleOk := anyRole, argOk := fun c _ => zeroAt c.payload 4 4, body := abortBody }

/-- ABORT (R86, R87, R584). -/
def execAbort (dt m : Nat) (s : State) : Host.Outcome State Fault Refusal := s.act dt (·.runMbx abortSpec m)

end Sys2Proof.Machine
end

