-- ==== Sys2Proof/Machine/Regs.lean ====
section
/-!
DEFINITION. Machine/Regs.lean: the host's register writes, the mailbox control blocks, and the reset of the host interface (R9,
R12, R14, R52, R57, R63, R64, R88).
-/

namespace Sys2Proof.Machine

/-! ### Mailbox control blocks (R63, R64) -/

/-- The next state of a mailbox at a doorbell (table "Mailbox states"). -/
def Mailbox.doorbell (b : Mailbox) (ready : Bool) (pos : Pos) : Mailbox :=
  if !ready then { b with refused := true }
  else match b.phase with
    | .posted => { b with refused := true }
    | .executing => { b with refused := true }
    | .free => { b with phase := .posted, dbPos := pos }
    | .done => { b with phase := .posted, dbPos := pos }

/-- A write of MBX_DOORBELL. -/
def State.doorbell (s : State) (m value : Nat) : State :=
  if bit value 0 then s.setMbx m ((s.mbx m).doorbell s.host.mbxReady s.pos) else s

/-- A write of 1 to bits of MBX_DONE: clearing DONE returns the mailbox to FREE, but for a DONE set in the same cycle (R10). -/
def Mailbox.clearDone (b : Mailbox) (v now : Nat) : Mailbox :=
  let b := if bit v 1 then { b with refused := false } else b
  if bit v 0 && b.phase == .done && b.doneAt != some now then { b with phase := .free } else b

/-- A write of an MBX_ register at offset `off` of the block. -/
def State.mbxWrite (s : State) (off v : Nat) : State :=
  let m := off / 64
  if off % 64 = 0 then s.doorbell m v
  else if off % 64 = 8 then s.setMbx m ((s.mbx m).clearDone v s.now)
  else s

/-! ### DEV_ and RNG_ registers (R57, R88) -/

/-- A write of DEV_EVENT. -/
def State.devWrite (s : State) (off v : Nat) : State :=
  if off = 0x18 then
    { s with host := { s.host with devEvent := w1c s.host.devEvent v (setBits s.host.devEventAt s.now) } }
  else s

/-- A write of RNG_STATUS. -/
def Ring.clearStatus (x : Ring) (v now : Nat) : Ring :=
  { x with refused := x.refused && !bit v 2, badEntry := x.badEntry && (!bit v 3 || x.badAt == some now), overrun := x.overrun && !bit v 5 }

/-- A write of an RNG_ register at offset `off` of the block; a half of RNG_BASE is a write of its own. -/
def State.rngWrite (s : State) (off size v : Nat) (posted : List BulkDesc) : State :=
  let r := off / 32
  let x := s.ring r
  if off % 32 = 0 then s.rngBaseWrite r (if size = 8 then BitVec.ofNat 64 v else setHalf x.base false v)
  else if off % 32 = 4 then s.rngBaseWrite r (setHalf x.base true v)
  else if off % 32 = 8 then s.rngCfgWrite r v
  else if off % 32 = 0xC then s.setRing r (x.clearStatus v s.now)
  else if off % 32 = 0x10 then s.rngHostIdxWrite r (BitVec.ofNat 32 v) posted
  else s

/-! ### REGISTER_WRITE (R9, R12, R14) -/

/-- The 64-bit registers that the host writes: RNG_BASE, ECC_FLIP_ADDR and ECC_FLIP_DATA. -/
def wideReg (off : Nat) : Bool :=
  (0x2000 ≤ off && off < 0x2400 && off % 32 == 0) || off == 0x6048 || off == 0x6050

/-- The access is an aligned word of a size that the register takes. -/
def accessOk (off size : Nat) : Bool := (size == 4 && off % 4 == 0) || (size == 8 && wideReg off)

/-- A write of `size` bytes at offset `off` of the host window ("Host window map"). -/
def State.regWrite (s : State) (off size v : Nat) (posted : List BulkDesc) : State :=
  if !accessOk off size then s
  else if 0x100 ≤ off && off < 0x120 then s.devWrite (off - 0x100) v
  else if 0x400 ≤ off && off < 0x800 then s.mbxWrite (off - 0x400) v
  else if 0x1000 ≤ off && off < 0x2000 then s.icuWrite (off - 0x1000) v
  else if 0x2000 ≤ off && off < 0x2400 then s.rngWrite (off - 0x2000) size v posted
  else if 0x3000 ≤ off && off < 0x3300 then s.timWrite (off - 0x3000) v
  else if 0x3800 ≤ off && off < 0x3840 then s.snpWrite (off - 0x3800) v
  else if 0x4000 ≤ off && off < 0x4020 then s.pcnWrite (off - 0x4000) v
  else if 0x6000 ≤ off && off < 0x6060 then s.eccWrite (off - 0x6000) size v
  else s

/-! ### HOST_INTERFACE_RESET (R52) -/

/-- A ring after the reset: a descriptor in flight or not started is abandoned, and the indices stay. -/
def Ring.hostReset (x : Ring) : Ring := { x with phase := .disabled, posted := x.inFlight.toList ++ x.posted, inFlight := none }

/-- What the host interface keeps: rings' registers, requests that execute, operations and held completions. -/
def HostState.reset (h : HostState) : HostState :=
  { h with
    mbx := []
    execs := h.execs.map fun e => { e with orphan := true }
    rings := h.rings.mapVal fun _ x => x.hostReset }

/-- Open transactions are discarded and snapshots released; accepted commits stay. -/
def TxnState.hostReset (t : TxnState) : TxnState := { t with slots := t.slots.filter fun e => e.2.commit.isSome, snaps := [] }

/-- The reset of the host interface. -/
def State.hostReset (s : State) : State :=
  let s := s.endAllSessions 3
  let s := { s with
    host := s.host.reset, txn := s.txn.hostReset
    icu := s.icu.hostReset s.levelHolds s.now }
  (s.pruneEpochs).devEvent 1

/-! ### Meanings -/

/-- REGISTER_WRITE (R9, R12, R14): `posted` is what the host has placed in the entries that a write of RNG_HOST_IDX makes valid. An
offset outside the 64 KiB of BAR0 faults. -/
def execRegisterWrite (dt off size value : Nat) (posted : List BulkDesc) (s : State) : Host.Outcome State Fault Refusal :=
  if 0x10000 < off + size then .fault .outsideWindow else s.act dt fun s => s.regWrite off size value posted
/-- HOST_INTERFACE_RESET (R52). -/
def execHostInterfaceReset (dt : Nat) (s : State) : Host.Outcome State Fault Refusal := s.act dt (·.hostReset)
/-- MBX_DOORBELL (R64): a write of MBX_DOORBELL of mailbox `m`. -/
def execMbxDoorbell (dt m value : Nat) (s : State) : Host.Outcome State Fault Refusal := s.act dt fun s => s.doorbell (m % 16) value
/-- MBX_DONE_CLEAR (R64): a write of MBX_DONE of mailbox `m`. -/
def execMbxDoneClear (dt m value : Nat) (s : State) : Host.Outcome State Fault Refusal :=
  s.act dt fun s => s.setMbx (m % 16) ((s.mbx (m % 16)).clearDone value s.now)

end Sys2Proof.Machine
end

