-- ==== Sys2Proof/Machine/ShowExec.lean ====
section
/-!
DEFINITION. Machine/ShowExec.lean: the meanings of the commands that write show state.
-/

namespace Sys2Proof.Machine

/-- SHOW_TIMING_SET (R133). -/
def execShowTimingSet (dt m : Nat) (s : State) : Host.Outcome State Fault Refusal :=
  s.act dt (·.runMbx (ShowCmd.spec .timingSet) m)

/-- SLICE_MODE_SET (R134). -/
def execSliceModeSet (dt m : Nat) (s : State) : Host.Outcome State Fault Refusal :=
  s.act dt (·.runMbx (ShowCmd.spec .sliceModeSet) m)

/-- PROFILE_LOAD (R189). -/
def execProfileLoad (dt m : Nat) (s : State) : Host.Outcome State Fault Refusal :=
  s.act dt (·.runMbx (ShowCmd.spec .profileLoad) m)

/-- PROFILE_DELETE (R189). -/
def execProfileDelete (dt m : Nat) (s : State) : Host.Outcome State Fault Refusal :=
  s.act dt (·.runMbx (ShowCmd.spec .profileDelete) m)

/-- PATCH_WRITE (R191). -/
def execPatchWrite (dt m : Nat) (s : State) : Host.Outcome State Fault Refusal :=
  s.act dt (·.runMbx (ShowCmd.spec .patchWrite) m)

/-- PATCH_CLEAR (R192). -/
def execPatchClear (dt m : Nat) (s : State) : Host.Outcome State Fault Refusal :=
  s.act dt (·.runMbx (ShowCmd.spec .patchClear) m)

/-- PARAM_WRITE (R194). -/
def execParamWrite (dt m : Nat) (s : State) : Host.Outcome State Fault Refusal :=
  s.act dt (·.runMbx (ShowCmd.spec .paramWrite) m)

/-- CUELIST_LOAD (R227). -/
def execCuelistLoad (dt m : Nat) (s : State) : Host.Outcome State Fault Refusal :=
  s.act dt (·.runMbx (ShowCmd.spec .cuelistLoad) m)

/-- SOURCE_DELETE (R228). -/
def execSourceDelete (dt m : Nat) (s : State) : Host.Outcome State Fault Refusal :=
  s.act dt (·.runMbx (ShowCmd.spec .sourceDelete) m)

/-- EFFECT_DEFINE (R229). -/
def execEffectDefine (dt m : Nat) (s : State) : Host.Outcome State Fault Refusal :=
  s.act dt (·.runMbx (ShowCmd.spec .effectDefine) m)

/-- EFFECT_TABLE_LOAD (R230). -/
def execEffectTableLoad (dt m : Nat) (s : State) : Host.Outcome State Fault Refusal :=
  s.act dt (·.runMbx (ShowCmd.spec .effectTableLoad) m)

/-- PLAYBACK_ACTION (R231). -/
def execPlaybackAction (dt m : Nat) (s : State) : Host.Outcome State Fault Refusal :=
  s.act dt (·.runMbx (ShowCmd.spec .playbackAction) m)

/-- LAYER_SET (R263). -/
def execLayerSet (dt m : Nat) (s : State) : Host.Outcome State Fault Refusal :=
  s.act dt (·.runMbx (ShowCmd.spec .layerSet) m)

/-- POLICY_SET (R263). -/
def execPolicySet (dt m : Nat) (s : State) : Host.Outcome State Fault Refusal :=
  s.act dt (·.runMbx (ShowCmd.spec .policySet) m)

/-- SACN_RX_SET (R264). -/
def execSacnRxSet (dt m : Nat) (s : State) : Host.Outcome State Fault Refusal :=
  s.act dt (·.runMbx (ShowCmd.spec .sacnRxSet) m)

/-- DMX_IN_SET (R264). -/
def execDmxInSet (dt m : Nat) (s : State) : Host.Outcome State Fault Refusal :=
  s.act dt (·.runMbx (ShowCmd.spec .dmxInSet) m)

/-- VIDEO_IN_SET (R266). -/
def execVideoInSet (dt m : Nat) (s : State) : Host.Outcome State Fault Refusal :=
  s.act dt (·.runMbx (ShowCmd.spec .videoInSet) m)

/-- VIDEO_SAMPLE_SET (R267). -/
def execVideoSampleSet (dt m : Nat) (s : State) : Host.Outcome State Fault Refusal :=
  s.act dt (·.runMbx (ShowCmd.spec .videoSampleSet) m)

/-- VIDEO_MAP_SET (R268). -/
def execVideoMapSet (dt m : Nat) (s : State) : Host.Outcome State Fault Refusal :=
  s.act dt (·.runMbx (ShowCmd.spec .videoMapSet) m)

/-- CALIB_SET (R289). -/
def execCalibSet (dt m : Nat) (s : State) : Host.Outcome State Fault Refusal :=
  s.act dt (·.runMbx (ShowCmd.spec .calibSet) m)

/-- REGION_SET (R289). -/
def execRegionSet (dt m : Nat) (s : State) : Host.Outcome State Fault Refusal :=
  s.act dt (·.runMbx (ShowCmd.spec .regionSet) m)

/-- FEEDER_SET (R290). -/
def execFeederSet (dt m : Nat) (s : State) : Host.Outcome State Fault Refusal :=
  s.act dt (·.runMbx (ShowCmd.spec .feederSet) m)

/-- FEEDER_MEMBER_SET (R290). -/
def execFeederMemberSet (dt m : Nat) (s : State) : Host.Outcome State Fault Refusal :=
  s.act dt (·.runMbx (ShowCmd.spec .feederMemberSet) m)

/-- CANVAS_SET (R319). -/
def execCanvasSet (dt m : Nat) (s : State) : Host.Outcome State Fault Refusal :=
  s.act dt (·.runMbx (ShowCmd.spec .canvasSet) m)

/-- SEGMENT_SET (R319). -/
def execSegmentSet (dt m : Nat) (s : State) : Host.Outcome State Fault Refusal :=
  s.act dt (·.runMbx (ShowCmd.spec .segmentSet) m)

/-- PIXEL_MAP_SET (R319). -/
def execPixelMapSet (dt m : Nat) (s : State) : Host.Outcome State Fault Refusal :=
  s.act dt (·.runMbx (ShowCmd.spec .pixelMapSet) m)

/-- RECT_CHECK_SET (R319). -/
def execRectCheckSet (dt m : Nat) (s : State) : Host.Outcome State Fault Refusal :=
  s.act dt (·.runMbx (ShowCmd.spec .rectCheckSet) m)

/-- CURVE_LOAD (R340). -/
def execCurveLoad (dt m : Nat) (s : State) : Host.Outcome State Fault Refusal :=
  s.act dt (·.runMbx (ShowCmd.spec .curveLoad) m)

/-- OUTPUT_GROUP_SET (R341). -/
def execOutputGroupSet (dt m : Nat) (s : State) : Host.Outcome State Fault Refusal :=
  s.act dt (·.runMbx (ShowCmd.spec .outputGroupSet) m)

/-- TEMP_SOURCE_SET (R342). -/
def execTempSourceSet (dt m : Nat) (s : State) : Host.Outcome State Fault Refusal :=
  s.act dt (·.runMbx (ShowCmd.spec .tempSourceSet) m)

/-- DERATE_SET (R342). -/
def execDerateSet (dt m : Nat) (s : State) : Host.Outcome State Fault Refusal :=
  s.act dt (·.runMbx (ShowCmd.spec .derateSet) m)

/-- SAFETY_GROUP_SET (R343). -/
def execSafetyGroupSet (dt m : Nat) (s : State) : Host.Outcome State Fault Refusal :=
  s.act dt (·.runMbx (ShowCmd.spec .safetyGroupSet) m)

/-- SAFETY_MEMBER_SET (R343). -/
def execSafetyMemberSet (dt m : Nat) (s : State) : Host.Outcome State Fault Refusal :=
  s.act dt (·.runMbx (ShowCmd.spec .safetyMemberSet) m)

/-- SAFETY_CLEAR (R344). -/
def execSafetyClear (dt m : Nat) (s : State) : Host.Outcome State Fault Refusal :=
  s.act dt (·.runMbx (ShowCmd.spec .safetyClear) m)

/-- LANE_SET (R372). -/
def execLaneSet (dt m : Nat) (s : State) : Host.Outcome State Fault Refusal :=
  s.act dt (·.runMbx (ShowCmd.spec .laneSet) m)

/-- DMX_PORT_SET (R372). -/
def execDmxPortSet (dt m : Nat) (s : State) : Host.Outcome State Fault Refusal :=
  s.act dt (·.runMbx (ShowCmd.spec .dmxPortSet) m)

/-- PWM_SET (R368). -/
def execPwmSet (dt m : Nat) (s : State) : Host.Outcome State Fault Refusal :=
  s.act dt (·.runMbx (ShowCmd.spec .pwmSet) m)

/-- SACN_TX_CONFIG (R405). -/
def execSacnTxConfig (dt m : Nat) (s : State) : Host.Outcome State Fault Refusal :=
  s.act dt (·.runMbx (ShowCmd.spec .sacnTxConfig) m)

/-- SACN_TX_UNIVERSE_SET (R405). -/
def execSacnTxUniverseSet (dt m : Nat) (s : State) : Host.Outcome State Fault Refusal :=
  s.act dt (·.runMbx (ShowCmd.spec .sacnTxUniverseSet) m)

/-- PARTITION_SET (R526). -/
def execPartitionSet (dt m : Nat) (s : State) : Host.Outcome State Fault Refusal :=
  s.act dt (·.runMbx (ShowCmd.spec .partitionSet) m)

/-- PATCH_WRITE_DONE (R191). -/
def execPatchWriteDone (dt op : Nat) (poison : Bool) (s : State) : Host.Outcome State Fault Refusal :=
  s.act dt (·.stageDone 0x0310 op poison)

/-- CUELIST_LOAD_DONE (R227). -/
def execCuelistLoadDone (dt op : Nat) (poison : Bool) (s : State) : Host.Outcome State Fault Refusal :=
  s.act dt (·.stageDone 0x0401 op poison)

/-- VIDEO_SAMPLE_SET_DONE (R267). -/
def execVideoSampleSetDone (dt op : Nat) (poison : Bool) (s : State) : Host.Outcome State Fault Refusal :=
  s.act dt (·.stageDone 0x0531 op poison)

/-- CALIB_SET_DONE (R289). -/
def execCalibSetDone (dt op : Nat) (poison : Bool) (s : State) : Host.Outcome State Fault Refusal :=
  s.act dt (·.stageDone 0x0601 op poison)

/-- REGION_SET_DONE (R289). -/
def execRegionSetDone (dt op : Nat) (poison : Bool) (s : State) : Host.Outcome State Fault Refusal :=
  s.act dt (·.stageDone 0x0610 op poison)

/-- PIXEL_MAP_SET_DONE (R319). -/
def execPixelMapSetDone (dt op : Nat) (poison : Bool) (s : State) : Host.Outcome State Fault Refusal :=
  s.act dt (·.stageDone 0x0703 op poison)

/-- SAFETY_MEMBER_SET_DONE (R343). -/
def execSafetyMemberSetDone (dt op : Nat) (poison : Bool) (s : State) : Host.Outcome State Fault Refusal :=
  s.act dt (·.stageDone 0x0821 op poison)

end Sys2Proof.Machine
end

