-- ==== Sys2Proof/Machine/Shift.lean ====
section
/-!
DEFINITION. Machine/Shift.lean: every instant that the device holds moves with a step of the timebase (R148).
-/

namespace Sys2Proof.Machine

/-- An instant that may be absent. -/
def shiftOpt (d : Int) (x : Option Instant) : Option Instant := x.map (· + d)

/-- Instants kept with a number. -/
def shiftPairs (d : Int) (l : List (Instant × Nat)) : List (Instant × Nat) := l.map fun e => (e.1 + d, e.2)

/-! ### The show clock -/

/-- Boundary, latch point and light time of a frame. -/
def GridFrame.shift (d : Int) (g : GridFrame) : GridFrame := { g with t := g.t + d, latch := g.latch + d, light := g.light + d }

/-- The show grid, the start that is due, and the boundaries and words received from references. -/
def ClockState.shift (d : Int) (c : ClockState) : ClockState :=
  { c with
    startDue := shiftOpt d c.startDue, grid := c.grid.map (·.shift d), anchor := c.anchor + d
    edges := c.edges.mapVal fun _ l => shiftPairs d l, words := shiftPairs d c.words
    genlockAt := shiftOpt d c.genlockAt, validAt := shiftOpt d c.validAt }

/-! ### Inputs and rendering -/

/-- A frame of a video input. -/
def VideoFrame.shift (d : Int) (v : VideoFrame) : VideoFrame :=
  { v with firstAt := v.firstAt + d, lineAt := v.lineAt.mapVal fun _ x => x + d, completeAt := shiftOpt d v.completeAt }

/-- A video input. -/
def VideoDyn.shift (d : Int) (v : VideoDyn) : VideoDyn :=
  { v with
    current := v.current.map (·.shift d), complete := v.complete.map (·.shift d), assigned := v.assigned.map (·.shift d) }

/-- Video frames and the ages of live values. -/
def InputState.shift (d : Int) (x : InputState) : InputState :=
  { x with
    video := x.video.mapVal fun _ v => v.shift d
    live := x.live.mapVal fun _ (v : LiveVal) => { v with stamp := v.stamp + d } }

/-- The times that a governor counts from. -/
def GovFeeder.shift (d : Int) (g : GovFeeder) : GovFeeder :=
  { g with
    lastDown := shiftOpt d g.lastDown, lastHard := shiftOpt d g.lastHard, firstTest := shiftOpt d g.firstTest
    lastOver := shiftOpt d g.lastOver }

/-- The governors of all feeders. -/
def shiftGov (d : Int) (m : Map GovFeeder) : Map GovFeeder := m.mapVal fun _ g => g.shift d

/-- The windows of a canvas frame. -/
def CanvasWin.shift (d : Int) (w : CanvasWin) : CanvasWin :=
  { w with
    openAt := shiftOpt d w.openAt, input := w.input.map (·.shift d)
    slices := w.slices.mapVal fun _ (x : SliceWin) => { x with openAt := x.openAt + d } }

/-- A frame in flight: its emission instants follow its grid. -/
def FrameRec.shift (d : Int) (r : FrameRec) : FrameRec :=
  { r with
    grid := r.grid.shift d, gov0 := shiftGov d r.gov0, gov := shiftGov d r.gov, canvases := r.canvases.mapVal fun _ w => w.shift d }

/-- A canvas: the latches that its tiles are expected to report. -/
def CanvasDyn.shift (d : Int) (c : CanvasDyn) : CanvasDyn :=
  { c with expects := c.expects.map fun (e : LatchExpect) => { e with at_ := e.at_ + d } }

/-- Frames in flight, governors, temperatures and canvases. -/
def RenderState.shift (d : Int) (r : RenderState) : RenderState :=
  { r with
    frames := r.frames.map (·.shift d), gov := shiftGov d r.gov, canvases := r.canvases.mapVal fun _ c => c.shift d
    temps := r.temps.mapVal fun _ (t : TempDyn) => { t with stamp := t.stamp + d } }

/-! ### Metering -/

/-- A metering point: its last crossing and the start of its open interval. -/
def MtrPoint.shift (d : Int) (p : MtrPoint) : MtrPoint :=
  { p with
    lastCross := shiftOpt d p.lastCross
    interval := p.interval.map fun (i : MtrInterval) => { i with startAt := i.startAt + d } }

/-- Points and the edges that pulse outputs still owe. -/
def MeterState.shift (d : Int) (m : MeterState) : MeterState :=
  { m with
    points := m.points.mapVal fun _ p => p.shift d
    pulses := m.pulses.mapVal fun _ (p : MtrPulse) => { p with edges := p.edges.map (· + d) } }

/-! ### Output ports and Ethernet -/

/-- A pixel lane. -/
def LaneDyn.shift (d : Int) (l : LaneDyn) : LaneDyn :=
  { l with
    sendEnd := shiftOpt d l.sendEnd
    rolling := l.rolling.map fun (x : RollingScan) => { x with at_ := x.at_ + d }
    sent := l.sent.map fun (x : LaneSent) => { x with expect := x.expect + d } }

/-- A DMX port. -/
def DmxDyn.shift (d : Int) (x : DmxDyn) : DmxDyn :=
  { x with
    sendEnd := shiftOpt d x.sendEnd
    run := x.run.map fun (r : RdmRun) => { r with startAt := r.startAt + d } }

/-- A PWM output: the values that wait for their instants. -/
def PwmDyn.shift (d : Int) (x : PwmDyn) : PwmDyn := { x with loads := x.loads.map fun (l : PwmLoad) => { l with at_ := l.at_ + d } }

/-- All output ports. -/
def PortState.shift (d : Int) (p : PortState) : PortState :=
  { p with
    lanes := p.lanes.mapVal fun _ l => l.shift d, dmx := p.dmx.mapVal fun _ x => x.shift d, pwm := p.pwm.mapVal fun _ x => x.shift d
    te := p.te.mapVal fun _ (t : TeDyn) => { t with since := t.since + d } }

/-- A frame that waits for a port. -/
def TxFrame.shift (d : Int) (f : TxFrame) : TxFrame := { f with due := f.due + d }

/-- An Ethernet port. -/
def NetPort.shift (d : Int) (p : NetPort) : NetPort :=
  { p with
    pauseEnd := shiftOpt d p.pauseEnd, wireEnd := shiftOpt d p.wireEnd, runDue := shiftOpt d p.runDue
    runQueue := p.runQueue.map (·.shift d), otherQueue := p.otherQueue.map (·.shift d) }

/-- A Zoette link: the stamps of a TIME exchange that is open. -/
def ZlkLink.shift (d : Int) (k : ZlkLink) : ZlkLink := { k with txStamp := shiftOpt d k.txStamp, rxStamp := shiftOpt d k.rxStamp }

/-! ### Network time -/

/-- A PTP engine after a step (R142, R149): the integral takes the rate that is held, the delay filter is empty, and exchanges that
began before are discarded. -/
def PtpState.stepped (p : PtpState) (rate : Int) : PtpState :=
  { p with integ := rate * gainUnit, delays := [], pendingSync := none, pendingReq := none, lastT1 := none, lastT2 := none }

/-- A pulse of show mode ends where it would have; one of timebase mode follows R153. Whether PULSE_LATE is set, and whether an
edge falls. -/
def PulseOut.afterStep (o : PulseOut) (on : Bool) (old new_ : Instant) : PulseOut × Bool × Bool :=
  let r := if on then o.stepped old new_ else (({ o with endAt := o.endAt.map (· + (new_ - old)) } : PulseOut), false)
  (r.1, r.2, decide (r.1.edges != o.edges))

/-- The pulse outputs after a step. -/
def State.stepPulses (s : State) (old new_ : Instant) : State :=
  (List.range 8).foldl (fun s j =>
    match s.time.pulses.find j with
    | none => s
    | some o =>
      let r := o.afterStep (s.enabled 0x0E j) old new_
      let s := s.setPulse j r.1
      let s := if r.2.1 then s.withTime (·.raise (16 + j)) else s
      if r.2.2 then s.emit (.pulse j old true) else s) s

/-- The timebase after a step of `d` units; stamps already delivered stay (R149). -/
def TimeState.step (t : TimeState) (d : Int) : TimeState :=
  { t with
    tb := t.tb + d * (tbUnit : Nat), stepCount := t.stepCount + 1, lastStep := d, stepAt := some (t.now, t.value)
    ptp := t.ptp.stepped t.rate }

/-- Every instant held moves, and with it the timebase: no output moves. -/
def State.shift (s : State) (d : Int) : State :=
  { s with
    clock := s.clock.shift d, inputs := s.inputs.shift d, render := s.render.shift d, meter := s.meter.shift d, ports := s.ports.shift d
    net := { s.net with ports := s.net.ports.mapVal fun _ p => p.shift d }
    group := { s.group with links := s.group.links.mapVal fun _ k => k.shift d }
    time := s.time.step d }

end Sys2Proof.Machine
end

