-- ==== Sys2Proof/Machine/TimeStep.lean ====
section
/-!
DEFINITION. Machine/TimeStep.lean: TIME_STEP (R148, R149, R153, R160).
-/

namespace Sys2Proof.Machine

/-- SEC, NS and FRAC of a request: signed in mode 1. -/
def stepSec (p : Bytes) : Int := signed 64 (fld p 8 8)
def stepNs (p : Bytes) : Int := signed 32 (fld p 0x10 4)

/-- The sign of a step of mode 1. -/
def stepNegative (p : Bytes) : Bool := decide (stepSec p < 0) || decide (stepNs p < 0)

/-- The step that mode 1 names: the fraction has the sign of the step. -/
def addedStep (p : Bytes) : Int :=
  let f : Int := ((fld p 0x14 2 : Nat) : Int)
  stepSec p * unitSec + stepNs p * unitNs + (if stepNegative p then -f else f)

/-- The step in timebase units. A step of mode 0 leaves what lies below the timebase unit as it is (DESIGN CHOICE, assumption 68). -/
def State.stepOf (s : State) (p : Bytes) : Int :=
  match fld p 0 1 with
  | 0 => instantOf (fld p 8 8) (fld p 0x10 4) (fld p 0x14 2) - s.tb
  | 1 => addedStep p
  | _ => - s.time.lastOffset

/-- SEC and NS do not disagree in sign. -/
def stepSigns (p : Bytes) : Bool := stepSec p == 0 || stepNs p == 0 || decide (stepSec p < 0) == decide (stepNs p < 0)

/-- Check 5: the reserved fields, and the fields that a mode gives. SEC and NS that disagree in sign are malformed, not out of range
(DESIGN CHOICE, assumption 85). -/
def stepArgOk (p : Bytes) : Bool :=
  zeroAt p 1 7 && zeroAt p 0x16 2
    && match fld p 0 1 with
      | 0 => true
      | 1 => stepSigns p
      | 2 => zeroAt p 8 14
      | _ => true

/-- Check 6: the ranges of MODE, SEC and NS. -/
def stepRangeOk (p : Bytes) : Bool :=
  match fld p 0 1 with
  | 0 => decide (fld p 8 8 < 2 ^ 48) && decide (fld p 0x10 4 < 1000000000)
  | 1 => decide (absInt (stepNs p) < 1000000000)
  | 2 => true
  | _ => false

/-- The TIME_STEP response: Δ with one sign, and TIM_STEP_COUNT. -/
def stepBytes (d : Int) (count : Word) : Bytes :=
  let a := (absInt d).toNat
  let sec : Int := ((a / unitSec : Nat) : Int)
  let ns : Int := ((a % unitSec / unitNs : Nat) : Int)
  bytesLES 8 (if d < 0 then -sec else sec) ++ bytesLES 4 (if d < 0 then -ns else ns) ++ bytesLE 4 count.toNat

/-- The last sample is at most 2 s old. -/
def TimeState.sampleRecent (t : TimeState) : Bool := t.lastSampleAt.elim false fun x => decide (t.now - x ≤ 2 * cycSec)

/-- The step carried out, in the one TIME cycle of its execution. -/
def State.timeStep (s : State) (d : Int) : State :=
  let old := s.tb
  ((s.shift d).stepPulses old (old + d)).withTime (·.raise 5)

/-- TIME_STEP after the generic checks. -/
def timeStepBody (c : Ctx) (s : State) : State × Reply :=
  if s.auditFull then s.fail .busy
  else if fld c.payload 0 1 = 2 && !s.time.sampleRecent then s.fail .conflict
  else
    let d := s.stepOf c.payload
    let s := s.audit 0x0050 c.session c.role 0 (bytesLE 2 0x0213 ++ slice c.payload 0 16)
    let s := s.timeStep d
    (s, ⟨.ok, stepBytes d s.time.stepCount, some s.pos⟩)

/-- TIME_STEP (0x0213). -/
def timeStepSpec : CommandSpec :=
  { code := 0x0213, kind := .device, lengthOk := lenIs 24, roleOk := engineer
    argOk := fun c _ => stepArgOk c.payload, rangeOk := fun c _ => stepRangeOk c.payload, body := timeStepBody }

/-- TIME_STEP (R148, R149, R153, R160). -/
def execTimeStep (dt m : Nat) (s : State) : Host.Outcome State Fault Refusal := s.act dt (·.runMbx timeStepSpec m)

end Sys2Proof.Machine
end

