-- ==== Sys2Proof/Machine/Exec.lean ====
section
/-!
DEFINITION. Machine/Exec.lean: how a management core takes a POSTED mailbox and executes its request (R64 to R66, R69, R74).
-/

namespace Sys2Proof.Machine

/-! ### Every command of the manual -/

/-- The commands that are not show writes. -/
def plainSpecs : List CommandSpec :=
  [abortSpec, auditReadSpec, authChallengeSpec, canvasStatusSpec, captureSetSpec, cotillionStatusSpec, counterAccessSpec, counterConfigSpec]
    ++ [counterDumpSpec, credSetSpec, debugSetSpec, derateStatusSpec, displaySetSpec, displayStatusSpec, eccAccessSpec, emitStatusSpec]
    ++ [feederStatusSpec, fnDisableSpec, fnEnableSpec, fnStatusSpec, groupConfigSpec, groupStatusSpec, inputStatusSpec, keyEstablishSpec]
    ++ [keyInstallSpec, lanePhySetSpec, liveWriteSpec, macsecSaSetSpec, macsecSecySetSpec, macsecStatusSpec, mergeReadSpec, mtrCaptureSpec]
    ++ [mtrChannelSpec, mtrChannelStatusSpec, mtrCycleReadSpec, mtrLatchReadSpec, mtrPointSpec, mtrPresetSpec, mtrPulseSetSpec, mtrPulseStatusSpec]
    ++ [mtrRoveSetSpec, netPortSetSpec, netPortStatusSpec, netRingBindSpec, netRingStatusSpec, paramReadSpec, patchReadSpec, playbackStatusSpec]
    ++ [poolStatusSpec, portStatusSpec, powerConfigSpec, profileReadSpec, ptpConfigSpec, ptpStatusSpec, pulseSetSpec, queueStatusSpec]
    ++ [queueWmSetSpec, rdmTransactionSpec, renderStatusSpec, safetyStatusSpec, securityStatusSpec, sessionCloseSpec, sessionOpenSpec, showClockStartSpec]
    ++ [showClockStatusSpec, snapCloseSpec, snapOpenSpec, solveReadSpec, supplyStatusSpec, tangoSwitchSpec, teSetSpec, timeConfigSpec]
    ++ [timeStepSpec, traceConfigSpec, traceReadSpec, txnCancelSpec, txnCommitSpec, txnOpenSpec, updateActivateSpec, updateBeginSpec]
    ++ [updateBlockSpec, updateStatusSpec, updateVerifySpec]

/-- The command of a code; none for a code that the manual does not define. -/
def specOf (code : Nat) : Option CommandSpec := (plainSpecs.find? (·.code == code)) <|> (showCmd code).map ShowCmd.spec

/-! ### Taking a mailbox (R66) -/

/-- MBX_DB_POS as the register reads: bits 47 to 0 of the frame number and the subframe. -/
def Mailbox.dbReg (b : Mailbox) : Nat := b.dbPos % 2 ^ 64

/-- The POSTED mailbox that is next: the smallest MBX_DB_POS, and of equals the smallest number. -/
def State.nextMbx (s : State) : Option Nat :=
  ((List.range 16).filter fun m => (s.mbx m).phase == .posted).foldl (fun best m =>
    match best with
    | none => some m
    | some b => if (s.mbx m).dbReg < (s.mbx b).dbReg then some m else best) none

/-- A request that passes checks 1 to 3 of R69 names its session as it enters EXECUTING (R74). -/
def State.nameSession (s : State) (c : Ctx) : State :=
  match specOf c.code, s.host.sessions.find c.session with
  | some p, some x =>
    if 4064 < c.length || !p.lengthOk c.payload then s
    else { s with host := { s.host with sessions := s.host.sessions.put c.session { x with lastNamed := s.now } } }
  | _, _ => s

/-- The request is a TXN_COMMIT, and a write of its transaction executes in another mailbox (R80). -/
def State.commitTaken (s : State) (m : Nat) (req : Bytes) : Bool :=
  fld req 0 2 == txnCommitSpec.code
    && (s.txn.slots.find (fld req 0x20 1)).elim false fun t => s.writeExecuting (fld req 0x20 1) t m

/-- The mailbox enters EXECUTING: header and payload are copied from its body. -/
def State.takeMbx (s : State) (m : Nat) (poison : Bool) : State × ExecReq :=
  let b := s.mbx m
  let req := s.readRegion (m * 0x1000) 0x1000
  let role := (s.host.sessions.find (fld req 8 4)).elim 0xFF (·.role)
  let c := ctxOf m req b.dbPos role
  let e : ExecReq := { mbx := m, req := req, dbPos := b.dbPos, role := role, dup := s.tagTaken c, poison := poison, busy := s.commitTaken m req }
  let s := s.setMbx m { b with phase := .executing }
  let s := { s with host := { s.host with execs := s.host.execs ++ [e] } }
  (s.nameSession c, e)

/-- The request runs to its end; an undefined code completes with BAD_COMMAND. -/
def State.runTaken (s : State) (e : ExecReq) : State :=
  let c := e.ctx
  match specOf c.code with
  | none => ({ s with host := s.host.dropExec e } : State).finish c e.orphan ⟨.badCommand, [], none⟩
  | some p => if p.code = txnCommitSpec.code then s.commitMbx e.mbx else s.runExec p e

/-- MBX_EXECUTE. With `hold` the request stays in execution, up to the row of its own command; an undefined code completes here
in either case. -/
def State.mbxExecute (s : State) (hold poison : Bool) : State :=
  if !s.host.mbxReady || 4 ≤ s.host.execs.length then s
  else match s.nextMbx with
    | none => s
    | some m =>
      let r := s.takeMbx m poison
      if hold && (specOf (fld r.2.req 0 2)).isSome then r.1 else r.1.runTaken r.2

/-- MBX_EXECUTE (R64, R65, R66, R69). -/
def execMbxExecute (dt : Nat) (hold poison : Bool) (s : State) : Host.Outcome State Fault Refusal :=
  s.act dt (·.mbxExecute hold poison)

end Sys2Proof.Machine
end

