-- ==== Sys2Proof/Machine/Dispatch.lean ====
section
/-! DEFINITION. Machine/Dispatch.lean: each command sent to its meaning. -/

namespace Sys2Proof.Machine

open Sys2Proof

def exec (i : Instr) (s : State) : Host.Outcome State Fault Refusal :=
  match i with
  | .registerWrite dt off size value posted => Sys2Proof.Machine.execRegisterWrite dt off size value posted s
  | .hostInterfaceReset dt => Sys2Proof.Machine.execHostInterfaceReset dt s
  | .mbxDoorbell dt m value => Sys2Proof.Machine.execMbxDoorbell dt m value s
  | .mbxExecute dt hold poison => Sys2Proof.Machine.execMbxExecute dt hold poison s
  | .mbxDoneClear dt m value => Sys2Proof.Machine.execMbxDoneClear dt m value s
  | .sessionOpen dt m => Sys2Proof.Machine.execSessionOpen dt m s
  | .sessionClose dt m => Sys2Proof.Machine.execSessionClose dt m s
  | .sessionIdleTimeout dt session => Sys2Proof.Machine.execSessionIdleTimeout dt session s
  | .abort dt m => Sys2Proof.Machine.execAbort dt m s
  | .txnOpen dt m => Sys2Proof.Machine.execTxnOpen dt m s
  | .txnCommit dt m => Sys2Proof.Machine.execTxnCommit dt m s
  | .txnCancel dt m => Sys2Proof.Machine.execTxnCancel dt m s
  | .snapOpen dt m => Sys2Proof.Machine.execSnapOpen dt m s
  | .snapClose dt m => Sys2Proof.Machine.execSnapClose dt m s
  | .fnEnable dt m => Sys2Proof.Machine.execFnEnable dt m s
  | .fnDisable dt m => Sys2Proof.Machine.execFnDisable dt m s
  | .fnStatus dt m => Sys2Proof.Machine.execFnStatus dt m s
  | .drainComplete dt fn => Sys2Proof.Machine.execDrainComplete dt fn s
  | .drainBoundExpiry dt fn => Sys2Proof.Machine.execDrainBoundExpiry dt fn s
  | .rngEnable dt r value => Sys2Proof.Machine.execRngEnable dt r value s
  | .rngDisable dt r value => Sys2Proof.Machine.execRngDisable dt r value s
  | .rngConfigWrite dt r value => Sys2Proof.Machine.execRngConfigWrite dt r value s
  | .rngBaseWrite dt r value => Sys2Proof.Machine.execRngBaseWrite dt r value s
  | .rngHostIdxWrite dt r value posted => Sys2Proof.Machine.execRngHostIdxWrite dt r value posted s
  | .rngDrainEnd dt r => Sys2Proof.Machine.execRngDrainEnd dt r s
  | .bulkDescriptorStart dt r => Sys2Proof.Machine.execBulkDescriptorStart dt r s
  | .bulkDescriptorDone dt r hostErr poison data => Sys2Proof.Machine.execBulkDescriptorDone dt r hostErr poison data s
  | .completionHeldDeliver dt => Sys2Proof.Machine.execCompletionHeldDeliver dt s
  | .heartbeatTick dt => Sys2Proof.Machine.execHeartbeatTick dt s
  | .showBoundary dt => Sys2Proof.Machine.execShowBoundary dt s
  | .latchPoint dt => Sys2Proof.Machine.execLatchPoint dt s
  | .mainWindowClose dt => Sys2Proof.Machine.execMainWindowClose dt s
  | .canvasWindowOpen dt k => Sys2Proof.Machine.execCanvasWindowOpen dt k s
  | .canvasWindowClose dt k => Sys2Proof.Machine.execCanvasWindowClose dt k s
  | .sliceWindowClose dt k j => Sys2Proof.Machine.execSliceWindowClose dt k j s
  | .taskReady dt t => Sys2Proof.Machine.execTaskReady dt t s
  | .taskGrant dt => Sys2Proof.Machine.execTaskGrant dt s
  | .taskComplete dt cluster poison => Sys2Proof.Machine.execTaskComplete dt cluster poison s
  | .governorDecision dt => Sys2Proof.Machine.execGovernorDecision dt s
  | .gapStart dt k => Sys2Proof.Machine.execGapStart dt k s
  | .scanStart dt k bad => Sys2Proof.Machine.execScanStart dt k bad s
  | .emissionInstant dt kind number frame poison => Sys2Proof.Machine.execEmissionInstant dt kind number frame poison s
  | .lightTime dt => Sys2Proof.Machine.execLightTime dt s
  | .actionTakesEffect dt => Sys2Proof.Machine.execActionTakesEffect dt s
  | .showClockStart dt m => Sys2Proof.Machine.execShowClockStart dt m s
  | .showClockStarts dt => Sys2Proof.Machine.execShowClockStarts dt s
  | .acqTimeout dt => Sys2Proof.Machine.execAcqTimeout dt s
  | .showTimingSet dt m => Sys2Proof.Machine.execShowTimingSet dt m s
  | .sliceModeSet dt m => Sys2Proof.Machine.execSliceModeSet dt m s
  | .showClockStatus dt m => Sys2Proof.Machine.execShowClockStatus dt m s
  | .referenceBoundary dt key cycles back => Sys2Proof.Machine.execReferenceBoundary dt key cycles back s
  | .ltcWord dt word => Sys2Proof.Machine.execLtcWord dt word s
  | .refLost dt => Sys2Proof.Machine.execRefLost dt s
  | .refValid dt => Sys2Proof.Machine.execRefValid dt s
  | .ptpSyncRx dt msg => Sys2Proof.Machine.execPtpSyncRx dt msg s
  | .ptpFollowUpRx dt msg => Sys2Proof.Machine.execPtpFollowUpRx dt msg s
  | .ptpDelayRespRx dt msg => Sys2Proof.Machine.execPtpDelayRespRx dt msg s
  | .ptpAnnounceRx dt msg => Sys2Proof.Machine.execPtpAnnounceRx dt msg s
  | .ptpDelayReqTx dt => Sys2Proof.Machine.execPtpDelayReqTx dt s
  | .announceReceiptTimeout dt => Sys2Proof.Machine.execAnnounceReceiptTimeout dt s
  | .syncLossTimeout dt => Sys2Proof.Machine.execSyncLossTimeout dt s
  | .ptpConfig dt m => Sys2Proof.Machine.execPtpConfig dt m s
  | .ptpStatus dt m => Sys2Proof.Machine.execPtpStatus dt m s
  | .timeConfig dt m => Sys2Proof.Machine.execTimeConfig dt m s
  | .timeStep dt m => Sys2Proof.Machine.execTimeStep dt m s
  | .pulseSet dt m => Sys2Proof.Machine.execPulseSet dt m s
  | .pulseEdge dt output => Sys2Proof.Machine.execPulseEdge dt output s
  | .pulseEnd dt output => Sys2Proof.Machine.execPulseEnd dt output s
  | .captureSet dt m => Sys2Proof.Machine.execCaptureSet dt m s
  | .captureEdge dt input rising => Sys2Proof.Machine.execCaptureEdge dt input rising s
  | .timLatch dt => Sys2Proof.Machine.execTimLatch dt s
  | .timCapPop dt input => Sys2Proof.Machine.execTimCapPop dt input s
  | .profileLoad dt m => Sys2Proof.Machine.execProfileLoad dt m s
  | .profileDelete dt m => Sys2Proof.Machine.execProfileDelete dt m s
  | .profileRead dt m => Sys2Proof.Machine.execProfileRead dt m s
  | .patchWrite dt m => Sys2Proof.Machine.execPatchWrite dt m s
  | .patchWriteDone dt op poison => Sys2Proof.Machine.execPatchWriteDone dt op poison s
  | .patchClear dt m => Sys2Proof.Machine.execPatchClear dt m s
  | .patchRead dt m => Sys2Proof.Machine.execPatchRead dt m s
  | .paramWrite dt m => Sys2Proof.Machine.execParamWrite dt m s
  | .paramRead dt m => Sys2Proof.Machine.execParamRead dt m s
  | .poolStatus dt m => Sys2Proof.Machine.execPoolStatus dt m s
  | .cuelistLoad dt m => Sys2Proof.Machine.execCuelistLoad dt m s
  | .cuelistLoadDone dt op poison => Sys2Proof.Machine.execCuelistLoadDone dt op poison s
  | .sourceDelete dt m => Sys2Proof.Machine.execSourceDelete dt m s
  | .effectDefine dt m => Sys2Proof.Machine.execEffectDefine dt m s
  | .effectTableLoad dt m => Sys2Proof.Machine.execEffectTableLoad dt m s
  | .playbackAction dt m => Sys2Proof.Machine.execPlaybackAction dt m s
  | .playbackStatus dt m => Sys2Proof.Machine.execPlaybackStatus dt m s
  | .layerSet dt m => Sys2Proof.Machine.execLayerSet dt m s
  | .policySet dt m => Sys2Proof.Machine.execPolicySet dt m s
  | .sacnRxSet dt m => Sys2Proof.Machine.execSacnRxSet dt m s
  | .dmxInSet dt m => Sys2Proof.Machine.execDmxInSet dt m s
  | .liveWrite dt m => Sys2Proof.Machine.execLiveWrite dt m s
  | .videoInSet dt m => Sys2Proof.Machine.execVideoInSet dt m s
  | .videoSampleSet dt m => Sys2Proof.Machine.execVideoSampleSet dt m s
  | .videoSampleSetDone dt op poison => Sys2Proof.Machine.execVideoSampleSetDone dt op poison s
  | .videoMapSet dt m => Sys2Proof.Machine.execVideoMapSet dt m s
  | .inputStatus dt m => Sys2Proof.Machine.execInputStatus dt m s
  | .mergeRead dt m => Sys2Proof.Machine.execMergeRead dt m s
  | .sacnDataRx dt packet => Sys2Proof.Machine.execSacnDataRx dt packet s
  | .sacnSyncRx dt port cid packet => Sys2Proof.Machine.execSacnSyncRx dt port cid packet s
  | .sacnSourceTimeout dt uni cid => Sys2Proof.Machine.execSacnSourceTimeout dt uni cid s
  | .sacnSyncTimeout dt addr => Sys2Proof.Machine.execSacnSyncTimeout dt addr s
  | .dmxInPacket dt port start slots line => Sys2Proof.Machine.execDmxInPacket dt port start slots line s
  | .dmxInTimeout dt port => Sys2Proof.Machine.execDmxInTimeout dt port s
  | .videoPacketRx dt input packet => Sys2Proof.Machine.execVideoPacketRx dt input packet s
  | .videoFrameTimeout dt input => Sys2Proof.Machine.execVideoFrameTimeout dt input s
  | .videoLossTimeout dt input => Sys2Proof.Machine.execVideoLossTimeout dt input s
  | .calibSet dt m => Sys2Proof.Machine.execCalibSet dt m s
  | .calibSetDone dt op poison => Sys2Proof.Machine.execCalibSetDone dt op poison s
  | .regionSet dt m => Sys2Proof.Machine.execRegionSet dt m s
  | .regionSetDone dt op poison => Sys2Proof.Machine.execRegionSetDone dt op poison s
  | .feederSet dt m => Sys2Proof.Machine.execFeederSet dt m s
  | .feederMemberSet dt m => Sys2Proof.Machine.execFeederMemberSet dt m s
  | .feederStatus dt m => Sys2Proof.Machine.execFeederStatus dt m s
  | .solveRead dt m => Sys2Proof.Machine.execSolveRead dt m s
  | .canvasSet dt m => Sys2Proof.Machine.execCanvasSet dt m s
  | .segmentSet dt m => Sys2Proof.Machine.execSegmentSet dt m s
  | .pixelMapSet dt m => Sys2Proof.Machine.execPixelMapSet dt m s
  | .pixelMapSetDone dt op poison => Sys2Proof.Machine.execPixelMapSetDone dt op poison s
  | .rectCheckSet dt m => Sys2Proof.Machine.execRectCheckSet dt m s
  | .teSet dt m => Sys2Proof.Machine.execTeSet dt m s
  | .displaySet dt m => Sys2Proof.Machine.execDisplaySet dt m s
  | .canvasStatus dt m => Sys2Proof.Machine.execCanvasStatus dt m s
  | .displayStatus dt m => Sys2Proof.Machine.execDisplayStatus dt m s
  | .tileLatchMissingTimeout dt lane tileNo => Sys2Proof.Machine.execTileLatchMissingTimeout dt lane tileNo s
  | .teEdge dt input rising => Sys2Proof.Machine.execTeEdge dt input rising s
  | .teMissingTimeout dt input => Sys2Proof.Machine.execTeMissingTimeout dt input s
  | .dpHpdChange dt present => Sys2Proof.Machine.execDpHpdChange dt present s
  | .dpIrqHpd dt lockLost => Sys2Proof.Machine.execDpIrqHpd dt lockLost s
  | .dpTrainingDone dt link => Sys2Proof.Machine.execDpTrainingDone dt link s
  | .dpTrainRetry dt => Sys2Proof.Machine.execDpTrainRetry dt s
  | .dpVblank dt => Sys2Proof.Machine.execDpVblank dt s
  | .dpLineFetch dt poisoned => Sys2Proof.Machine.execDpLineFetch dt poisoned s
  | .curveLoad dt m => Sys2Proof.Machine.execCurveLoad dt m s
  | .outputGroupSet dt m => Sys2Proof.Machine.execOutputGroupSet dt m s
  | .tempSourceSet dt m => Sys2Proof.Machine.execTempSourceSet dt m s
  | .derateSet dt m => Sys2Proof.Machine.execDerateSet dt m s
  | .safetyGroupSet dt m => Sys2Proof.Machine.execSafetyGroupSet dt m s
  | .safetyMemberSet dt m => Sys2Proof.Machine.execSafetyMemberSet dt m s
  | .safetyMemberSetDone dt op poison => Sys2Proof.Machine.execSafetyMemberSetDone dt op poison s
  | .safetyClear dt m => Sys2Proof.Machine.execSafetyClear dt m s
  | .safetyStatus dt m => Sys2Proof.Machine.execSafetyStatus dt m s
  | .derateStatus dt m => Sys2Proof.Machine.execDerateStatus dt m s
  | .emitStatus dt m => Sys2Proof.Machine.execEmitStatus dt m s
  | .laneTrained dt lane => Sys2Proof.Machine.execLaneTrained dt lane s
  | .laneTrainTimeout dt lane => Sys2Proof.Machine.execLaneTrainTimeout dt lane s
  | .laneLinkLoss dt lane => Sys2Proof.Machine.execLaneLinkLoss dt lane s
  | .latchAck dt lane tileNo frameLo ageNs => Sys2Proof.Machine.execLatchAck dt lane tileNo frameLo ageNs s
  | .temp dt lane tileNo failed raw => Sys2Proof.Machine.execTemp dt lane tileNo failed raw s
  | .fault dt lane tileNo kind => Sys2Proof.Machine.execFault dt lane tileNo kind s
  | .rxError dt lane => Sys2Proof.Machine.execRxError dt lane s
  | .retrain dt lane => Sys2Proof.Machine.execRetrain dt lane s
  | .testEcho dt lane frameLo crc => Sys2Proof.Machine.execTestEcho dt lane frameLo crc s
  | .backchannelMessageDiscard dt lane => Sys2Proof.Machine.execBackchannelMessageDiscard dt lane s
  | .laneSet dt m => Sys2Proof.Machine.execLaneSet dt m s
  | .lanePhySet dt m => Sys2Proof.Machine.execLanePhySet dt m s
  | .dmxPortSet dt m => Sys2Proof.Machine.execDmxPortSet dt m s
  | .pwmSet dt m => Sys2Proof.Machine.execPwmSet dt m s
  | .rdmTransaction dt m => Sys2Proof.Machine.execRdmTransaction dt m s
  | .rdmTransactionStart dt port => Sys2Proof.Machine.execRdmTransactionStart dt port s
  | .rdmResponseEnd dt port brk bytes => Sys2Proof.Machine.execRdmResponseEnd dt port brk bytes s
  | .portStatus dt m => Sys2Proof.Machine.execPortStatus dt m s
  | .pwmPeriodStart dt output => Sys2Proof.Machine.execPwmPeriodStart dt output s
  | .pwmSenseSample dt output current => Sys2Proof.Machine.execPwmSenseSample dt output current s
  | .netLinkUp dt link => Sys2Proof.Machine.execNetLinkUp dt link s
  | .netLinkDown dt port modAbs txFault rxLos => Sys2Proof.Machine.execNetLinkDown dt port modAbs txFault rxLos s
  | .netFrameRx dt port frame stop => Sys2Proof.Machine.execNetFrameRx dt port frame stop s
  | .pauseExpiry dt port => Sys2Proof.Machine.execPauseExpiry dt port s
  | .netFrameTx dt port turn => Sys2Proof.Machine.execNetFrameTx dt port turn s
  | .sacnDiscoveryTimer dt => Sys2Proof.Machine.execSacnDiscoveryTimer dt s
  | .netPortSet dt m => Sys2Proof.Machine.execNetPortSet dt m s
  | .netRingBind dt m => Sys2Proof.Machine.execNetRingBind dt m s
  | .netPortStatus dt m => Sys2Proof.Machine.execNetPortStatus dt m s
  | .netRingStatus dt m => Sys2Proof.Machine.execNetRingStatus dt m s
  | .sacnTxConfig dt m => Sys2Proof.Machine.execSacnTxConfig dt m s
  | .sacnTxUniverseSet dt m => Sys2Proof.Machine.execSacnTxUniverseSet dt m s
  | .macsecSecySet dt m => Sys2Proof.Machine.execMacsecSecySet dt m s
  | .macsecSaSet dt m => Sys2Proof.Machine.execMacsecSaSet dt m s
  | .macsecStatus dt m => Sys2Proof.Machine.execMacsecStatus dt m s
  | .mtrSample dt raw => Sys2Proof.Machine.execMtrSample dt raw s
  | .mtrZeroCrossing dt point stamp => Sys2Proof.Machine.execMtrZeroCrossing dt point stamp s
  | .mtrZcTimeout dt point => Sys2Proof.Machine.execMtrZcTimeout dt point s
  | .mtrAuxPeriodEnd dt channel => Sys2Proof.Machine.execMtrAuxPeriodEnd dt channel s
  | .mtrRoveStart dt => Sys2Proof.Machine.execMtrRoveStart dt s
  | .mtrRoveTakeover dt => Sys2Proof.Machine.execMtrRoveTakeover dt s
  | .mtrRoveRejoin dt kg zg => Sys2Proof.Machine.execMtrRoveRejoin dt kg zg s
  | .mtrRoveReturn dt residual => Sys2Proof.Machine.execMtrRoveReturn dt residual s
  | .mtrRoveEnd dt => Sys2Proof.Machine.execMtrRoveEnd dt s
  | .mtrPulseEdge dt output => Sys2Proof.Machine.execMtrPulseEdge dt output s
  | .mtrPulseEnd dt output => Sys2Proof.Machine.execMtrPulseEnd dt output s
  | .mtrChannelSet dt m => Sys2Proof.Machine.execMtrChannelSet dt m s
  | .mtrPointSet dt m => Sys2Proof.Machine.execMtrPointSet dt m s
  | .mtrEnergyPreset dt m => Sys2Proof.Machine.execMtrEnergyPreset dt m s
  | .mtrPulseSet dt m => Sys2Proof.Machine.execMtrPulseSet dt m s
  | .mtrRoveSet dt m => Sys2Proof.Machine.execMtrRoveSet dt m s
  | .mtrPulseStatus dt m => Sys2Proof.Machine.execMtrPulseStatus dt m s
  | .mtrLatchRead dt m => Sys2Proof.Machine.execMtrLatchRead dt m s
  | .mtrCycleRead dt m => Sys2Proof.Machine.execMtrCycleRead dt m s
  | .mtrChannelStatus dt m => Sys2Proof.Machine.execMtrChannelStatus dt m s
  | .mtrCapture dt m => Sys2Proof.Machine.execMtrCapture dt m s
  | .mtrCaptureDone dt op => Sys2Proof.Machine.execMtrCaptureDone dt op s
  | .counterAccess dt m => Sys2Proof.Machine.execCounterAccess dt m s
  | .counterConfig dt m => Sys2Proof.Machine.execCounterConfig dt m s
  | .counterDump dt m => Sys2Proof.Machine.execCounterDump dt m s
  | .traceConfig dt m => Sys2Proof.Machine.execTraceConfig dt m s
  | .traceRead dt m => Sys2Proof.Machine.execTraceRead dt m s
  | .renderStatus dt m => Sys2Proof.Machine.execRenderStatus dt m s
  | .pcnValueRead dt => Sys2Proof.Machine.execPcnValueRead dt s
  | .snpTake dt => Sys2Proof.Machine.execSnpTake dt s
  | .snpFreeze dt auto => Sys2Proof.Machine.execSnpFreeze dt auto s
  | .snpCaptureDone dt => Sys2Proof.Machine.execSnpCaptureDone dt s
  | .icuPendSet dt p value => Sys2Proof.Machine.execIcuPendSet dt p value s
  | .icuPendClear dt p value => Sys2Proof.Machine.execIcuPendClear dt p value s
  | .icuClaim dt target => Sys2Proof.Machine.execIcuClaim dt target s
  | .icuComplete dt target value => Sys2Proof.Machine.execIcuComplete dt target value s
  | .icuConfigWrite dt off value => Sys2Proof.Machine.execIcuConfigWrite dt off value s
  | .msixMaskChange dt control on => Sys2Proof.Machine.execMsixMaskChange dt control on s
  | .icuHoldoffExpiry dt g => Sys2Proof.Machine.execIcuHoldoffExpiry dt g s
  | .icuRedirect dt source => Sys2Proof.Machine.execIcuRedirect dt source s
  | .eccRowRetire dt mem addr => Sys2Proof.Machine.execEccRowRetire dt mem addr s
  | .scrubRead dt found syndrome => Sys2Proof.Machine.execScrubRead dt found syndrome s
  | .parityRestore dt addr => Sys2Proof.Machine.execParityRestore dt addr s
  | .queueRebuild dt queue => Sys2Proof.Machine.execQueueRebuild dt queue s
  | .eccFlipArm dt value => Sys2Proof.Machine.execEccFlipArm dt value s
  | .eccAccess dt m => Sys2Proof.Machine.execEccAccess dt m s
  | .queueStatus dt m => Sys2Proof.Machine.execQueueStatus dt m s
  | .queueWmSet dt m => Sys2Proof.Machine.execQueueWmSet dt m s
  | .zlkBlockLock dt link => Sys2Proof.Machine.execZlkBlockLock dt link s
  | .zlkHelloRx dt link good h => Sys2Proof.Machine.execZlkHelloRx dt link good h s
  | .zlkHelloTimer dt link => Sys2Proof.Machine.execZlkHelloTimer dt link s
  | .zlkLockLoss dt link => Sys2Proof.Machine.execZlkLockLoss dt link s
  | .zlkDataRx dt link f => Sys2Proof.Machine.execZlkDataRx dt link f s
  | .zlkAckRx dt link ack credit => Sys2Proof.Machine.execZlkAckRx dt link ack credit s
  | .zlkNakRx dt link ack credit => Sys2Proof.Machine.execZlkNakRx dt link ack credit s
  | .zlkTimeRx dt link seq ack crcOk credit tx rx => Sys2Proof.Machine.execZlkTimeRx dt link seq ack crcOk credit tx rx s
  | .zlkRetryTimeout dt link => Sys2Proof.Machine.execZlkRetryTimeout dt link s
  | .groupFormation dt peerAct => Sys2Proof.Machine.execGroupFormation dt peerAct s
  | .groupFormationTimeout dt peerAct => Sys2Proof.Machine.execGroupFormationTimeout dt peerAct s
  | .memberLossTimeout dt who => Sys2Proof.Machine.execMemberLossTimeout dt who s
  | .coordinatorLossTimeout dt => Sys2Proof.Machine.execCoordinatorLossTimeout dt s
  | .resyncStart dt => Sys2Proof.Machine.execResyncStart dt s
  | .resyncDone dt => Sys2Proof.Machine.execResyncDone dt s
  | .commitDeadline dt => Sys2Proof.Machine.execCommitDeadline dt s
  | .inputSeal dt => Sys2Proof.Machine.execInputSeal dt s
  | .digestTimeout dt => Sys2Proof.Machine.execDigestTimeout dt s
  | .selfCheckDone dt frame same => Sys2Proof.Machine.execSelfCheckDone dt frame same s
  | .mismatchOutcome dt frame => Sys2Proof.Machine.execMismatchOutcome dt frame s
  | .tangoPeerActLow dt => Sys2Proof.Machine.execTangoPeerActLow dt s
  | .tangoYield dt cause => Sys2Proof.Machine.execTangoYield dt cause s
  | .tangoYieldPulseEnd dt => Sys2Proof.Machine.execTangoYieldPulseEnd dt s
  | .tangoYieldNetLow dt => Sys2Proof.Machine.execTangoYieldNetLow dt s
  | .tangoYieldNetStuck dt => Sys2Proof.Machine.execTangoYieldNetStuck dt s
  | .standbyDetachTimeout dt => Sys2Proof.Machine.execStandbyDetachTimeout dt s
  | .loopbackTest dt badDmx badPwm => Sys2Proof.Machine.execLoopbackTest dt badDmx badPwm s
  | .groupConfig dt m => Sys2Proof.Machine.execGroupConfig dt m s
  | .groupConfigDone dt op => Sys2Proof.Machine.execGroupConfigDone dt op s
  | .groupStatus dt m => Sys2Proof.Machine.execGroupStatus dt m s
  | .partitionSet dt m => Sys2Proof.Machine.execPartitionSet dt m s
  | .tangoSwitch dt m => Sys2Proof.Machine.execTangoSwitch dt m s
  | .cotillionStatus dt m => Sys2Proof.Machine.execCotillionStatus dt m s
  | .updateBegin dt m => Sys2Proof.Machine.execUpdateBegin dt m s
  | .updateBeginDone dt op => Sys2Proof.Machine.execUpdateBeginDone dt op s
  | .updateBlock dt m => Sys2Proof.Machine.execUpdateBlock dt m s
  | .updateBlockDone dt op poison => Sys2Proof.Machine.execUpdateBlockDone dt op poison s
  | .updateVerify dt m => Sys2Proof.Machine.execUpdateVerify dt m s
  | .updateVerifyDone dt op => Sys2Proof.Machine.execUpdateVerifyDone dt op s
  | .updateActivate dt m => Sys2Proof.Machine.execUpdateActivate dt m s
  | .activationDecision dt => Sys2Proof.Machine.execActivationDecision dt s
  | .partStartFail dt part => Sys2Proof.Machine.execPartStartFail dt part s
  | .activationComplete dt => Sys2Proof.Machine.execActivationComplete dt s
  | .updateStatus dt m => Sys2Proof.Machine.execUpdateStatus dt m s
  | .fwRestart dt => Sys2Proof.Machine.execFwRestart dt s
  | .fwRestartEnd dt => Sys2Proof.Machine.execFwRestartEnd dt s
  | .authChallenge dt m => Sys2Proof.Machine.execAuthChallenge dt m s
  | .credSet dt m => Sys2Proof.Machine.execCredSet dt m s
  | .credSetDone dt op => Sys2Proof.Machine.execCredSetDone dt op s
  | .keyEstablish dt m => Sys2Proof.Machine.execKeyEstablish dt m s
  | .keyEstablishDone dt op => Sys2Proof.Machine.execKeyEstablishDone dt op s
  | .keyInstall dt m => Sys2Proof.Machine.execKeyInstall dt m s
  | .keyInstallDone dt op => Sys2Proof.Machine.execKeyInstallDone dt op s
  | .auditRead dt m => Sys2Proof.Machine.execAuditRead dt m s
  | .auditReadDone dt op => Sys2Proof.Machine.execAuditReadDone dt op s
  | .debugSet dt m => Sys2Proof.Machine.execDebugSet dt m s
  | .debugAttach dt => Sys2Proof.Machine.execDebugAttach dt s
  | .securityStatus dt m => Sys2Proof.Machine.execSecurityStatus dt m s
  | .authLockoutEnd dt => Sys2Proof.Machine.execAuthLockoutEnd dt s
  | .trngFault dt test => Sys2Proof.Machine.execTrngFault dt test s
  | .powerOn dt => Sys2Proof.Machine.execPowerOn dt s
  | .porstNAssert dt => Sys2Proof.Machine.execPorstNAssert dt s
  | .resetRelease dt rank testMode => Sys2Proof.Machine.execResetRelease dt rank testMode s
  | .lanishambeStart dt bootBad areaBad part => Sys2Proof.Machine.execLanishambeStart dt bootBad areaBad part s
  | .mbxReadyReached dt failed => Sys2Proof.Machine.execMbxReadyReached dt failed s
  | .supplyFault dt rail => Sys2Proof.Machine.execSupplyFault dt rail s
  | .supplyReset dt => Sys2Proof.Machine.execSupplyReset dt s
  | .refclkLoss dt => Sys2Proof.Machine.execRefclkLoss dt s
  | .pllLockLoss dt => Sys2Proof.Machine.execPllLockLoss dt s
  | .dpPllLoss dt => Sys2Proof.Machine.execDpPllLoss dt s
  | .mgmtWatchdogExpiry dt => Sys2Proof.Machine.execMgmtWatchdogExpiry dt s
  | .renderStall dt => Sys2Proof.Machine.execRenderStall dt s
  | .renderStallReset dt => Sys2Proof.Machine.execRenderStallReset dt s
  | .arbiterInterval dt fixed clusters dma mgmt railMa tj => Sys2Proof.Machine.execArbiterInterval dt fixed clusters dma mgmt railMa tj s
  | .thermalHigh dt tj => Sys2Proof.Machine.execThermalHigh dt tj s
  | .thermalTrip dt tj => Sys2Proof.Machine.execThermalTrip dt tj s
  | .powerConfig dt m => Sys2Proof.Machine.execPowerConfig dt m s
  | .supplyStatus dt m => Sys2Proof.Machine.execSupplyStatus dt m s
  | .bar2Write dt off data => Sys2Proof.Machine.execBar2Write dt off data s
  | .counterWrap dt unit counter => Sys2Proof.Machine.execCounterWrap dt unit counter s
  | .mtrPulseGapEnd dt output => Sys2Proof.Machine.execMtrPulseGapEnd dt output s
  | .loopbackEchoTimeout dt output => Sys2Proof.Machine.execLoopbackEchoTimeout dt output s
  | .tangoYieldNetHigh dt => Sys2Proof.Machine.execTangoYieldNetHigh dt s
  | .trngHealthy dt => Sys2Proof.Machine.execTrngHealthy dt s
  | .railWithinTolerance dt rail => Sys2Proof.Machine.execRailWithinTolerance dt rail s
  | .dpPllRelock dt => Sys2Proof.Machine.execDpPllRelock dt s

end Sys2Proof.Machine
end

