-- ==== Sys2Proof/Machine/Step.lean ====
section
/-!
DEFINITION. Machine/Step.lean: one step takes the command at the front of the queue.
-/

namespace Sys2Proof.Machine

/-- A step: the front command acts on the state with the rest of the queue. On an empty queue the block idles, and time stands still,
because time passes by the commands' `dt`; the one thing that happens then is the step of secure boot to self-test, which no command
stands for (DESIGN CHOICE, assumption 4). -/
def step (s : State) : Host.Outcome State Fault Refusal :=
  match s.pending with
  | [] => .next s.selfTest
  | c :: cs => exec c { s with pending := cs }

/-- The state with the command that a word spells at the front of its queue; unchanged where the word spells none. -/
def State.withFetchWord (s : State) (nbits w : Nat) : State :=
  match Sys2Proof.decodeTableWord nbits w with
  | some c => { s with pending := c :: s.pending }
  | none => s

end Sys2Proof.Machine
end

