-- ==== Sys2Proof/Machine/RegRead.lean ====
section
/-!
DEFINITION. Machine/RegRead.lean: what the host's read of a register answers (R4, R9, R11, R12, R14, R51, R56, R57, R63, R88, R156,
R451, R455, R472, R490). The opcode table has a command for the two reads with an effect, ICU_CLAIM and PCN_VALUE_READ; the plain
reads change nothing, and `State.regRead` says what they answer.
-/

namespace Sys2Proof.Machine

/-! ### Identity (R4, R51, R56) -/

/-- The identity of the hardware: vendor and device ID, stepping and class code (R4, R51). -/
def pciVendor : Nat := 0x1F9A
def pciDevice : Nat := 0x6400
def stepping : Nat := 0xB0
def pciClass : Nat := 0x048000

/-- Subsystem vendor ID and subsystem ID: those stored, else the vendor and device ID (R51). -/
def pciSubsystem : Nat := (Config.storedSubsystem.elim (BitVec.ofNat 32 (pciVendor + 65536 * pciDevice)) id).toNat

/-- The sizes of BAR0 and BAR2, and the number of MSI-X vectors (R51). -/
def bar0Size : Nat := 0x10000
def bar2Size : Nat := regionSize
def msixVectors : Nat := 32

/-- The 32-bit words of the function's configuration header that R51 gives: identity, revision with class, and subsystem, at the
offsets of PCI Express (PRESUMED, assumption 43). -/
def pciHeader (off : Nat) : Option Nat :=
  if off = 0x00 then some (pciVendor + 65536 * pciDevice)
  else if off = 0x08 then some (stepping + 256 * pciClass)
  else if off = 0x2C then some pciSubsystem
  else none

/-- HID_ORDER, HID_STEPPING and HID_FW_VER hold their fields alone. -/
def State.hidRead (s : State) (off : Nat) : Nat :=
  if off = 0x00 then 0x48363430
  else if off = 0x04 then pciVendor + 65536 * pciDevice
  else if off = 0x08 then stepping
  else if off = 0x0C then Config.orderCode.toNat
  else if off = 0x10 then s.host.fwVer.toNat % 2 ^ 24
  else 0

/-! ### Parts of words -/

/-- The 32-bit half at offset `off` of a 64-bit register. -/
def halfAt (v off : Nat) : Nat := if off % 8 = 0 then v % 2 ^ 32 else v / 2 ^ 32 % 2 ^ 32

/-- A word with bit `i` set where `f i` holds. -/
def flagWord (f : Nat → Bool) : Nat := ((List.range 32).map fun i => 2 ^ i * b2n (f i)).sum

/-- The seconds, nanoseconds and fraction of an instant as the TIM_LAT_ and SNP_ registers hold them, at byte offset 0 to 12. -/
def stampWord (at_ : Instant) (off : Nat) : Nat :=
  if off < 8 then halfAt (stampSec at_) off else if off = 8 then stampNs at_ else stampFrac at_

/-- The frame number and subframe of a position, at byte offset 0 to 8. -/
def posWord (p : Pos) (off : Nat) : Nat := if off < 8 then halfAt (posFrame p % 2 ^ 64) off else posSub p

/-- A signed value in 32 or 64 bits. -/
def wrap (w : Nat) (v : Int) : Nat := modNat v (2 ^ w)

/-! ### DEV_ and MBX_ (R57, R63) -/

/-- DEV_STATUS. -/
def State.devStatus (s : State) : Nat :=
  b2n s.host.mbxReady + 2 * b2n s.host.fwRestart + 4 * b2n s.clock.run + 8 * b2n s.group.actPin + 16 * b2n s.host.groupFormed
    + 32 * b2n s.host.degraded + 256 * (s.host.bootStage % 256)

/-- A word of the DEV_ registers. -/
def State.devRead (s : State) (off : Nat) : Nat :=
  if off = 0x00 then s.devStatus
  else if off = 0x04 then s.host.heartbeat.toNat
  else if off < 0x10 then halfAt s.host.devEpoch off
  else if off < 0x18 then halfAt s.host.devFrame off
  else if off = 0x18 then s.host.devEvent.toNat
  else 0

def MbxPhase.code : MbxPhase → Nat
  | .free => 0
  | .posted => 1
  | .executing => 2
  | .done => 3

/-- A word of the MBX_ registers of one mailbox. -/
def Mailbox.word (b : Mailbox) (off : Nat) : Nat :=
  if off = 0x04 then b.phase.code
  else if off = 0x08 then b2n (b.phase == .done) + 2 * b2n b.refused
  else if off = 0x0C then b.tag.toNat
  else if off = 0x10 || off = 0x14 then halfAt b.dbPos off
  else 0

/-! ### ICU_ (R472) -/

/-- ICU_SRC_CFG of source `n`. -/
def IcuState.srcCfg (i : IcuState) (n : Nat) : Nat :=
  let x := i.src n
  x.prio + 16 * x.target + 1024 * b2n x.wake + 2048 * b2n (isLevel n)

/-- The pending bit of a source. -/
def IcuSource.isPending (x : IcuSource) : Bool := x.phase == .pending || x.phase == .activePending

/-- A word of the MSI-X table entry of a vector. -/
def IcuTarget.msixWord (x : IcuTarget) (off : Nat) : Nat :=
  if off < 8 then halfAt x.addr.toNat off else if off = 8 then x.data.toNat else b2n x.masked

/-- ICU_TGT_STATUS; `best` is what BEST shows while nothing is presented. -/
def IcuState.tgtStatus (i : IcuState) (t best : Nat) : Nat :=
  let b := i.bestOf (i.presented t)
  i.effective t + 16 * b2n b.isSome + 32 * b2n (i.asleep t) + 64 * b2n (i.tgt t).badComplete + 256 * b.getD (best % 256)

/-- A word of the ICU_ registers but ICU_CLAIM; `x` stands for BEST where it is not valid. -/
def IcuState.word (i : IcuState) (off x : Nat) : Nat :=
  if off < 0x400 then i.srcCfg (off / 4)
  else if off < 0x420 then flagWord fun k => (i.src (8 * (off - 0x400) + k)).isPending
  else if off < 0x440 then 0
  else if off < 0x460 then flagWord fun k => (i.src (8 * (off - 0x440) + k)).claimed
  else if off < 0x4A0 then (i.grp ((off - 0x460) / 4)).holdoffUs + 65536 * (i.grp ((off - 0x460) / 4)).fallback
  else if off = 0x4A0 then flagWord fun k => k < 16 && i.holding k
  else if 0x500 ≤ off && off < 0x700 then
    if off % 16 = 8 then (i.tgt ((off - 0x500) / 16)).threshold
    else if off % 16 = 12 then i.tgtStatus ((off - 0x500) / 16) x
    else 0
  else if 0x800 ≤ off && off < 0xA00 then (i.tgt ((off - 0x800) / 16)).msixWord (off % 16)
  else if off = 0xA00 then flagWord fun k => (i.tgt k).pba
  else if 0xC00 ≤ off then (i.src ((off - 0xC00) / 4)).count.toNat
  else 0

/-! ### RNG_ (R88) -/

/-- RNG_STATUS; HELD is ring 0's alone. -/
def State.ringStatus (s : State) (r : Nat) : Nat :=
  let x := s.ring r
  x.phase.code + 4 * b2n x.refused + 8 * b2n x.badEntry + 16 * b2n (r == 0 && !s.host.held.isEmpty) + 32 * b2n x.overrun

/-- A word of the RNG_ registers. -/
def State.rngRead (s : State) (off : Nat) : Nat :=
  let x := s.ring (off / 32)
  if off % 32 < 8 then halfAt x.base.toNat off
  else if off % 32 = 8 then x.cfgReg
  else if off % 32 = 0xC then s.ringStatus (off / 32)
  else if off % 32 = 0x10 then x.hostIdx.toNat
  else if off % 32 = 0x14 then x.devIdx.toNat
  else 0

/-! ### TIM_ (R156) -/

/-- A word of a capture queue's registers; `x` is what the head fields show where they hold no record. -/
def CaptureIn.word (c : CaptureIn) (off x : Nat) : Nat :=
  let level := 65536 * c.queue.length
  match c.queue.head? with
  | some r =>
    if off < 8 then stampWord r.stamp off
    else if off = 0x08 then stampNs r.stamp + 2 ^ 30 * (if r.rising then 1 else 2)
    else if off = 0x0C then stampFrac r.stamp + level + 2 ^ 31
    else if off < 0x18 then halfAt (posFrame r.pos % 2 ^ 64) (off - 0x10)
    else if off = 0x18 then posSub r.pos + 65536 * r.seq
    else 0
  | none =>
    if c.lastEdge.isNone || off = 0x1C then 0
    else if off = 0x04 then x % 2 ^ 16
    else if off = 0x0C then x % 2 ^ 16
    else x % 2 ^ 32

/-- A word of a pulse output's registers; `next` is its next leading edge, and `x` what TIM_PLS_NEXT_ shows where there is none. -/
def PulseOut.word (o : PulseOut) (next : Option Instant) (off x : Nat) : Nat :=
  if off = 0 then o.stat
  else if off = 4 then o.edges.toNat
  else match next with
    | some t => if off = 8 then stampNs t else stampSec t % 2 ^ 32
    | none => if o == {} then 0 else x % 2 ^ 32

/-- A word of the TIM_ registers. A read after TIM_CTRL.LATCH finds the latch complete (R157). -/
def State.timRead (s : State) (off x : Nat) : Nat :=
  let t := s.time
  if off = 0x004 then t.status
  else if off = 0x008 then t.event.toNat
  else if off = 0x00C then t.stepCount.toNat
  else if 0x010 ≤ off && off < 0x020 then stampWord t.latch.stamp (off - 0x010)
  else if 0x020 ≤ off && off < 0x02C then posWord t.latch.pos (off - 0x020)
  else if 0x030 ≤ off && off < 0x038 then halfAt (wrap 64 t.lastOffset) off
  else if off = 0x038 then wrap 32 t.rate
  else if off = 0x03C then t.holdSeconds % 2 ^ 32
  else if 0x040 ≤ off && off < 0x048 then halfAt (wrap 64 (t.lastStep.tdiv unitSec)) off
  else if off = 0x048 then wrap 32 ((t.lastStep.tmod unitSec).tdiv unitNs)
  else if 0x100 ≤ off && off < 0x200 then (t.captures.getD ((off - 0x100) / 32) {}).word (off % 32) x
  else if 0x200 ≤ off && off < 0x280 then
    (s.pulse ((off - 0x200) / 16)).word (s.nextEdge (s.pulse ((off - 0x200) / 16))) (off % 16) x
  else 0

/-! ### SNP_ and PCN_ (R451, R453, R455) -/

/-- A word of the SNP_ registers. -/
def State.snpRead (s : State) (off : Nat) : Nat :=
  let r := s.render.reader
  if off = 0x00 then b2n r.freeze + 2 * b2n r.autoFrame
  else if off = 0x08 then b2n r.busy + 2 * b2n r.valid + 65536 * r.seq
  else if 0x10 ≤ off && off < 0x20 then stampWord r.snap.stamp (off - 0x10)
  else if 0x20 ≤ off && off < 0x2C then posWord r.snap.pos (off - 0x20)
  else 0

/-- A word of the PCN_ registers but PCN_VALUE; PCN_OVF_MASK reads zero while access is not open. -/
def State.pcnWord (s : State) (off : Nat) : Nat :=
  let r := s.render.reader
  if off = 0x00 then b2n s.accessOpen + 2 * b2n r.freeze + 4 * b2n r.badSel
  else if off = 0x08 then r.sel
  else if off = 0x18 then (if s.accessOpen then (s.unit (bits r.sel 0 8)).ovf else 0)
  else 0

/-! ### ECC_ (R490, R491) -/

/-- A word of the ECC_ registers. -/
def State.eccRead (s : State) (off : Nat) : Nat :=
  let e := s.ecc
  if off = 0x00 then b2n s.host.eccOpen + e.sticky
  else if off = 0x04 then e.periodMin
  else if off = 0x08 then e.windowMin
  else if off = 0x0C then e.scrubStatus
  else if off < 0x18 then halfAt e.ceDram.toNat off
  else if off < 0x20 then halfAt e.ceSram.toNat off
  else if off = 0x20 then e.ueCount.toNat
  else if off = 0x24 then e.parityCount.toNat
  else if off = 0x28 then e.retiredDram % 65536 + 65536 * (e.retiredSram % 65536)
  else if off = 0x2C then e.sparesMin
  else if off < 0x38 then halfAt e.lastLoc off
  else if off < 0x40 then halfAt (e.lastFrame % 2 ^ 64) off
  else if off = 0x40 then b2n e.arm + 2 * b2n e.match_ + 16 * e.flipMem
  else if off = 0x48 || off = 0x4C then halfAt e.flipAddr off
  else if off = 0x50 || off = 0x54 then halfAt e.flipData off
  else if off = 0x58 then e.flipCheck
  else 0

/-! ### The host window -/

/-- The registers that are 64 bits wide. -/
def wideRead (off : Nat) : Bool :=
  off == 0x18 || off == 0x108 || off == 0x110
    || (0x400 ≤ off && off < 0x800 && off % 64 == 0x10)
    || off == 0x1A00
    || (0x2000 ≤ off && off < 0x2400 && off % 32 == 0)
    || off == 0x3010 || off == 0x3020 || off == 0x3030 || off == 0x3040
    || (0x3100 ≤ off && off < 0x3200 && (off % 32 == 0 || off % 32 == 0x10))
    || off == 0x3810 || off == 0x3820 || off == 0x4010
    || off == 0x6010 || off == 0x6018 || off == 0x6030 || off == 0x6038 || off == 0x6048 || off == 0x6050

/-- The 32-bit word at an aligned offset of the host window ("Host window map"); reserved offsets and write-only registers read
zero (R9, R12). `x` stands for what a field shows where the spec gives it no value. -/
def State.word (s : State) (off x : Nat) : Nat :=
  if off < 0x18 then s.hidRead off
  else if off < 0x20 then halfAt Config.uid.toNat off
  else if off < 0x100 then 0
  else if off < 0x120 then s.devRead (off - 0x100)
  else if off < 0x400 then 0
  else if off < 0x800 then (s.mbx ((off - 0x400) / 64)).word (off % 64)
  else if off < 0x1000 then 0
  else if off < 0x2000 then s.icu.word (off - 0x1000) x
  else if off < 0x2400 then s.rngRead (off - 0x2000)
  else if off < 0x3000 then 0
  else if off < 0x3300 then s.timRead (off - 0x3000) x
  else if off < 0x3800 then 0
  else if off < 0x3840 then s.snpRead (off - 0x3800)
  else if off < 0x4000 then 0
  else if off < 0x4020 then s.pcnWord (off - 0x4000)
  else if 0x6000 ≤ off && off < 0x6060 then s.eccRead (off - 0x6000)
  else 0

/-- A read of `size` bytes at offset `off` of the host window: the value answered and the state after it. Reads of ICU_CLAIM claim
(R465), a 64-bit read of PCN_VALUE moves the selection (R452), and no other read changes a register. A read of another size or
alignment answers a free value (R14), and claims or moves nothing (DESIGN CHOICE, assumption 96). -/
def State.regRead (s : State) (off size : Nat) : Nat × State :=
  if size = 4 && off % 4 = 0 then
    if 0x1500 ≤ off && off < 0x1700 && off % 16 = 0 then
      let t := s.icuClaim ((off - 0x1500) / 16)
      (t.host.readData, t)
    else if off = 0x4010 || off = 0x4014 then (s.fresh.1 % 2 ^ 32, s.fresh.2)
    else (s.word off s.fresh.1, s.fresh.2)
  else if size = 8 && wideRead off then
    if off = 0x4010 then s.pcnRead else (s.word off s.fresh.1 + 2 ^ 32 * s.word (off + 4) s.fresh.1, s.fresh.2)
  else (s.fresh.1 % 2 ^ (8 * size), s.fresh.2)

end Sys2Proof.Machine
end

