-- ==== Sys2Proof/Safety.lean ====
section
/-!
DEFINITION. Safety.lean: what statements say of a command and of a state.
-/

namespace Sys2Proof.Machine

/-! ### Outcomes -/

/-- The command answers a next state of which `p` holds. -/
def Runs (c : Instr) (s : State) (p : State → Prop) : Prop := ∃ t, exec c s = .next t ∧ p t

/-- The outcome is neither a fault nor a refusal. -/
def goesOn : Host.Outcome State Fault Refusal → Bool
  | .next _ => true
  | _ => false

/-! ### Mailbox commands (R61 to R70) -/

/-- The request `e` of mailbox `m` is the one that the row of `spec` completes, it passes the request checks (R69, R70) and it has read
no poisoned word and names no snapshot that the limit of R85 has released. `c` is what its header says, `p` its payload, and `t` the
state in which it acts: `dt` later, the request taken out of
execution. -/
abbrev Running (spec : CommandSpec) (m dt : Nat) (s : State) (e : ExecReq) (c : Ctx) (t : State) (p : Bytes) : Prop :=
  s.host.mbxReady = true ∧ s.host.execOf m spec.code = some e ∧ e.poison = false ∧ c = e.ctx
    ∧ t = { s.tick dt with host := s.host.dropExec e } ∧ p = c.payload ∧ spec.firstFail c t = none
    ∧ t.readsReleased spec c = false

/-- The next state in which the request has completed with a status and a response payload: `t` is the state after the command's own
effect, and the completion (R62, R64, R68) and what follows every command come on top. -/
def answers (e : ExecReq) (c : Ctx) (t : State) (st : Status) (resp : Bytes) : Host.Outcome State Fault Refusal :=
  .next (t.finish c e.orphan ⟨st, resp, none⟩).settle

/-- A command that writes show state: its `dt`, its mailbox, and the kind of write. -/
def showOf : Instr → Option (Nat × Nat × ShowCmd)
  | .showTimingSet dt m => some (dt, m, .timingSet)
  | .sliceModeSet dt m => some (dt, m, .sliceModeSet)
  | .profileLoad dt m => some (dt, m, .profileLoad)
  | .profileDelete dt m => some (dt, m, .profileDelete)
  | .patchWrite dt m => some (dt, m, .patchWrite)
  | .patchClear dt m => some (dt, m, .patchClear)
  | .paramWrite dt m => some (dt, m, .paramWrite)
  | .cuelistLoad dt m => some (dt, m, .cuelistLoad)
  | .sourceDelete dt m => some (dt, m, .sourceDelete)
  | .effectDefine dt m => some (dt, m, .effectDefine)
  | .effectTableLoad dt m => some (dt, m, .effectTableLoad)
  | .playbackAction dt m => some (dt, m, .playbackAction)
  | .layerSet dt m => some (dt, m, .layerSet)
  | .policySet dt m => some (dt, m, .policySet)
  | .sacnRxSet dt m => some (dt, m, .sacnRxSet)
  | .dmxInSet dt m => some (dt, m, .dmxInSet)
  | .videoInSet dt m => some (dt, m, .videoInSet)
  | .videoSampleSet dt m => some (dt, m, .videoSampleSet)
  | .videoMapSet dt m => some (dt, m, .videoMapSet)
  | .calibSet dt m => some (dt, m, .calibSet)
  | .regionSet dt m => some (dt, m, .regionSet)
  | .feederSet dt m => some (dt, m, .feederSet)
  | .feederMemberSet dt m => some (dt, m, .feederMemberSet)
  | .canvasSet dt m => some (dt, m, .canvasSet)
  | .segmentSet dt m => some (dt, m, .segmentSet)
  | .pixelMapSet dt m => some (dt, m, .pixelMapSet)
  | .rectCheckSet dt m => some (dt, m, .rectCheckSet)
  | .curveLoad dt m => some (dt, m, .curveLoad)
  | .outputGroupSet dt m => some (dt, m, .outputGroupSet)
  | .tempSourceSet dt m => some (dt, m, .tempSourceSet)
  | .derateSet dt m => some (dt, m, .derateSet)
  | .safetyGroupSet dt m => some (dt, m, .safetyGroupSet)
  | .safetyMemberSet dt m => some (dt, m, .safetyMemberSet)
  | .safetyClear dt m => some (dt, m, .safetyClear)
  | .laneSet dt m => some (dt, m, .laneSet)
  | .dmxPortSet dt m => some (dt, m, .dmxPortSet)
  | .pwmSet dt m => some (dt, m, .pwmSet)
  | .sacnTxConfig dt m => some (dt, m, .sacnTxConfig)
  | .sacnTxUniverseSet dt m => some (dt, m, .sacnTxUniverseSet)
  | .partitionSet dt m => some (dt, m, .partitionSet)
  | _ => none

/-- A command that completes a mailbox request and writes no show state, TXN_COMMIT apart (R509): its `dt`, its mailbox, and what the
spec says of it. -/
def plainOf : Instr → Option (Nat × Nat × CommandSpec)
  | .sessionOpen dt m => some (dt, m, sessionOpenSpec)
  | .sessionClose dt m => some (dt, m, sessionCloseSpec)
  | .abort dt m => some (dt, m, abortSpec)
  | .txnOpen dt m => some (dt, m, txnOpenSpec)
  | .txnCancel dt m => some (dt, m, txnCancelSpec)
  | .snapOpen dt m => some (dt, m, snapOpenSpec)
  | .snapClose dt m => some (dt, m, snapCloseSpec)
  | .fnEnable dt m => some (dt, m, fnEnableSpec)
  | .fnDisable dt m => some (dt, m, fnDisableSpec)
  | .fnStatus dt m => some (dt, m, fnStatusSpec)
  | .showClockStart dt m => some (dt, m, showClockStartSpec)
  | .showClockStatus dt m => some (dt, m, showClockStatusSpec)
  | .ptpConfig dt m => some (dt, m, ptpConfigSpec)
  | .ptpStatus dt m => some (dt, m, ptpStatusSpec)
  | .timeConfig dt m => some (dt, m, timeConfigSpec)
  | .timeStep dt m => some (dt, m, timeStepSpec)
  | .pulseSet dt m => some (dt, m, pulseSetSpec)
  | .captureSet dt m => some (dt, m, captureSetSpec)
  | .profileRead dt m => some (dt, m, profileReadSpec)
  | .patchRead dt m => some (dt, m, patchReadSpec)
  | .paramRead dt m => some (dt, m, paramReadSpec)
  | .poolStatus dt m => some (dt, m, poolStatusSpec)
  | .playbackStatus dt m => some (dt, m, playbackStatusSpec)
  | .liveWrite dt m => some (dt, m, liveWriteSpec)
  | .inputStatus dt m => some (dt, m, inputStatusSpec)
  | .mergeRead dt m => some (dt, m, mergeReadSpec)
  | .feederStatus dt m => some (dt, m, feederStatusSpec)
  | .solveRead dt m => some (dt, m, solveReadSpec)
  | .teSet dt m => some (dt, m, teSetSpec)
  | .displaySet dt m => some (dt, m, displaySetSpec)
  | .canvasStatus dt m => some (dt, m, canvasStatusSpec)
  | .displayStatus dt m => some (dt, m, displayStatusSpec)
  | .safetyStatus dt m => some (dt, m, safetyStatusSpec)
  | .derateStatus dt m => some (dt, m, derateStatusSpec)
  | .emitStatus dt m => some (dt, m, emitStatusSpec)
  | .lanePhySet dt m => some (dt, m, lanePhySetSpec)
  | .rdmTransaction dt m => some (dt, m, rdmTransactionSpec)
  | .portStatus dt m => some (dt, m, portStatusSpec)
  | .netPortSet dt m => some (dt, m, netPortSetSpec)
  | .netRingBind dt m => some (dt, m, netRingBindSpec)
  | .netPortStatus dt m => some (dt, m, netPortStatusSpec)
  | .netRingStatus dt m => some (dt, m, netRingStatusSpec)
  | .macsecSecySet dt m => some (dt, m, macsecSecySetSpec)
  | .macsecSaSet dt m => some (dt, m, macsecSaSetSpec)
  | .macsecStatus dt m => some (dt, m, macsecStatusSpec)
  | .mtrChannelSet dt m => some (dt, m, mtrChannelSpec)
  | .mtrPointSet dt m => some (dt, m, mtrPointSpec)
  | .mtrEnergyPreset dt m => some (dt, m, mtrPresetSpec)
  | .mtrPulseSet dt m => some (dt, m, mtrPulseSetSpec)
  | .mtrRoveSet dt m => some (dt, m, mtrRoveSetSpec)
  | .mtrPulseStatus dt m => some (dt, m, mtrPulseStatusSpec)
  | .mtrLatchRead dt m => some (dt, m, mtrLatchReadSpec)
  | .mtrCycleRead dt m => some (dt, m, mtrCycleReadSpec)
  | .mtrChannelStatus dt m => some (dt, m, mtrChannelStatusSpec)
  | .mtrCapture dt m => some (dt, m, mtrCaptureSpec)
  | .counterAccess dt m => some (dt, m, counterAccessSpec)
  | .counterConfig dt m => some (dt, m, counterConfigSpec)
  | .counterDump dt m => some (dt, m, counterDumpSpec)
  | .traceConfig dt m => some (dt, m, traceConfigSpec)
  | .traceRead dt m => some (dt, m, traceReadSpec)
  | .renderStatus dt m => some (dt, m, renderStatusSpec)
  | .eccAccess dt m => some (dt, m, eccAccessSpec)
  | .queueStatus dt m => some (dt, m, queueStatusSpec)
  | .queueWmSet dt m => some (dt, m, queueWmSetSpec)
  | .groupConfig dt m => some (dt, m, groupConfigSpec)
  | .groupStatus dt m => some (dt, m, groupStatusSpec)
  | .tangoSwitch dt m => some (dt, m, tangoSwitchSpec)
  | .cotillionStatus dt m => some (dt, m, cotillionStatusSpec)
  | .updateBegin dt m => some (dt, m, updateBeginSpec)
  | .updateBlock dt m => some (dt, m, updateBlockSpec)
  | .updateVerify dt m => some (dt, m, updateVerifySpec)
  | .updateActivate dt m => some (dt, m, updateActivateSpec)
  | .updateStatus dt m => some (dt, m, updateStatusSpec)
  | .authChallenge dt m => some (dt, m, authChallengeSpec)
  | .credSet dt m => some (dt, m, credSetSpec)
  | .keyEstablish dt m => some (dt, m, keyEstablishSpec)
  | .keyInstall dt m => some (dt, m, keyInstallSpec)
  | .auditRead dt m => some (dt, m, auditReadSpec)
  | .debugSet dt m => some (dt, m, debugSetSpec)
  | .securityStatus dt m => some (dt, m, securityStatusSpec)
  | .powerConfig dt m => some (dt, m, powerConfigSpec)
  | .supplyStatus dt m => some (dt, m, supplyStatusSpec)
  | _ => none

/-- A command that completes a mailbox request, TXN_COMMIT apart. -/
def mailboxOf (i : Instr) : Option (Nat × Nat × CommandSpec) :=
  plainOf i <|> (showOf i).map fun r => (r.1, r.2.1, r.2.2.spec)

/-! ### Frames -/

/-- Everything but the host interface, the interrupt controller, the audit log, TIME, the region and what is sent. -/
abbrev sameElse (s t : State) : Prop :=
  t.clock = s.clock ∧ t.render = s.render ∧ t.inputs = s.inputs ∧ t.meter = s.meter ∧ t.ports = s.ports ∧ t.net = s.net
    ∧ t.fns = s.fns ∧ t.ecc = s.ecc ∧ t.group = s.group ∧ t.update = s.update ∧ t.power = s.power

/-! ### The invariant -/

/-- The interrupt controller keeps its sources by rising number. -/
def IcuState.sorted (i : IcuState) : Prop := (i.sources.map (·.1)).Pairwise (· < ·)

/-- Queue watermarks have seen the present levels, and interrupt delivery has nothing left to send. -/
def Settled (s : State) : Prop :=
  (∀ e ∈ s.queues, e.2.level = s.queueLevel e.1) ∧ (s.icu.eval s.now (if s.host.fwRestart then 32 else 36)).2 = []

/-! ### Writes to the show (R70, R77, R81) -/

/-- The write `cmd` with payload `p` is one that runs at once: the request names the transaction `x`, which is not committed, the data
that it reads from the host region is `d`, the check of the command against the transaction's view passes, and the bytes fit (R77). -/
abbrev Stages (cmd : ShowCmd) (c : Ctx) (t : State) (p d : Bytes) (x : TxnSlot) : Prop :=
  t.txnOf c = some x ∧ x.commit = none ∧ cmd.slow p = false ∧ sourceFails (cmd.source p) = false ∧ d = t.sourceData (cmd.source p)
    ∧ (cmd.check (t.checkEnv t.txn.waitingTxns c.db) x.view p d).status = .ok ∧ t.txn.staged + (p.length + d.length) ≤ stageMax

/-- The write stands at the end of its transaction, and nothing else has changed. -/
def State.staged (t : State) (slot : Nat) (x : TxnSlot) (w : ShowWrite) : State :=
  { t with txn := { t.txn with slots := t.txn.slots.put slot (x.stage w) } }

/-- The operation `o` is one of `cmd` that answered ACCEPTED, its transaction `x` still takes writes, and the data that it read passes
the check of the command against the transaction's view. -/
abbrev StagesLater (cmd : ShowCmd) (code op : Nat) (t : State) (o : Op) (slot : Nat) (x : TxnSlot) (p d : Bytes) : Prop :=
  t.op op code = some o ∧ o.kind = .stage slot x.gen p d ∧ t.txn.slots.find slot = some x ∧ x.session = o.session ∧ x.commit = none
    ∧ sourceFails (cmd.source p) = false ∧ (cmd.check (t.checkEnv t.txn.waitingTxns t.pos) x.view p d).status = .ok
    ∧ t.txn.staged + (p.length + d.length) ≤ stageMax

/-- The operation that a command starts when it answers ACCEPTED. -/
def newOp (t : State) (c : Ctx) (kind : OpKind) : Op :=
  { id := t.host.nextOp, command := c.code, flags := c.flags, tag := c.tag, session := c.session, kind := kind }

/-- The state in which an operation has started (R67). -/
def State.started (t : State) (c : Ctx) (kind : OpKind) : State :=
  { t with host := { t.host with ops := t.host.ops ++ [newOp t c kind], nextOp := t.host.nextOp + 1 } }

end Sys2Proof.Machine
end

