-- ==== Sys2Proof/Certificates/Slice0/Obligations.lean ====
section
/-!
DEFINITION. Certificates/Slice0/Obligations.lean: the statements for the provers.
-/

open Sys2Proof Sys2Proof.Machine

/-- A step runs the command at the front of the queue. A step with command c at the front of the queue is exec of c on the state with
the rest of the queue; on an empty queue the block idles, but that secure boot goes on: where the device is booting at BOOT_STAGE 0x01
and a package area passes its checks, self-test begins, BOOT_STAGE reads 0x02 and nothing else changes (what an empty queue stands for
is the model's choice, assumption 4). -/
def Obligations.StepRunsFrontCommand : Prop :=
  (∀ (s : State), s.pending = [] → (s.power.reset ≠ .booting ∨ s.host.bootStage ≠ 1 ∨ s.update.bootArea 0 = none) → step s = .next s)
  ∧ (∀ (s : State) (a : Nat), s.pending = [] → s.power.reset = .booting → s.host.bootStage = 1 → s.update.bootArea 0 = some a →
      step s = .next { s with host := { s.host with bootStage := 2 } })
  ∧ (∀ (s : State) (c : Instr) (cs : List Instr), s.pending = c :: cs → step s = exec c { s with pending := cs })
  ∧ (∀ (s : State) (c : Instr) (cs : List Instr), step { s with pending := c :: cs } = exec c { s with pending := cs })

/-- What reset leaves. After reset mailboxes do not work yet, DEV_HEARTBEAT, DEV_EPOCH and DEV_EVENT are 0, every mailbox is FREE, there
is no session, transaction, snapshot, operation or held completion, every function and every ring is DISABLED, the show clock is
STOPPED, the timebase is FREE, no interrupt source is pending and none is configured, the host region lists nothing and no command
waits. The supervisor holds the device in reset, and BOOT_STAGE is 0. The host region's contents are the model's choice (assumptions 1
and 63). -/
def Obligations.ResetState : Prop :=
  State.reset.power.reset = .held ∧ State.reset.host.mbxReady = false ∧ State.reset.host.bootStage = 0 ∧ State.reset.host.heartbeat = 0
  ∧ State.reset.host.devEpoch = 0 ∧ State.reset.host.devEvent = 0
  ∧ (∀ m, (State.reset.mbx m).phase = .free ∧ (State.reset.mbx m).refused = false ∧ (State.reset.mbx m).tag = 0)
  ∧ State.reset.host.sessions = [] ∧ State.reset.txn.slots = [] ∧ State.reset.txn.snaps = []
  ∧ State.reset.host.ops = [] ∧ State.reset.host.held = []
  ∧ (∀ id, (State.reset.fn id).state = .disabled)
  ∧ (∀ r, (State.reset.ring r).phase = .disabled ∧ (State.reset.ring r).hostIdx = 0 ∧ (State.reset.ring r).devIdx = 0)
  ∧ State.reset.clock.phase = .stopped ∧ State.reset.clock.run = false ∧ State.reset.time.state = .free
  ∧ (∀ n, (State.reset.icu.src n).phase = .idle ∧ (State.reset.icu.src n).prio = 0)
  ∧ State.reset.icu.msixEnable = false ∧ (∀ t, (State.reset.icu.tgt t).masked = true)
  ∧ State.reset.ecc.sticky = 0 ∧ State.reset.mem = [] ∧ State.reset.pending = []

/-- Reset is settled. The reset state has its queue watermarks observed, no interrupt to deliver, and a host region in canonical form:
it meets the invariants that later statements say every step keeps. -/
def Obligations.ResetSettled : Prop :=
  Settled State.reset ∧ Memory.wf State.reset.mem = true

/-- Every step keeps the queue watermarks observed and interrupt delivery up to date. From any state in which every recorded queue level
is the present level and the interrupt controller has nothing left to send, any step that answers a next state answers one of which the
same holds: the controller is re-evaluated, and watermarks observed, with every command. -/
def Obligations.StepKeepsSettled : Prop :=
  ∀ (s t : State), Settled s → step s = .next t → Settled t

/-- What follows every command changes only interrupt delivery. Observing the watermarks and re-evaluating interrupt delivery changes
the recorded queue levels and flags, the interrupt controller and what has been sent, and nothing else; of the controller it changes no
configuration of a source, no mask and no enable, and of the sources only QUEUE_WM, for the watermark crossings, and whether a PM_PME
has gone for a source. -/
def Obligations.SettleChangesOnlyDelivery : Prop :=
  ∀ (s : State),
    s.settle.host = s.host ∧ s.settle.txn = s.txn ∧ s.settle.clock = s.clock ∧ s.settle.time = s.time ∧ s.settle.render = s.render
    ∧ s.settle.inputs = s.inputs ∧ s.settle.meter = s.meter ∧ s.settle.ports = s.ports ∧ s.settle.net = s.net ∧ s.settle.fns = s.fns
    ∧ s.settle.ecc = s.ecc ∧ s.settle.group = s.group ∧ s.settle.update = s.update ∧ s.settle.secure = s.secure
    ∧ s.settle.power = s.power ∧ s.settle.mem = s.mem ∧ s.settle.freeCtr = s.freeCtr ∧ s.settle.pending = s.pending
    ∧ (∃ new, s.settle.out = new ++ s.out)
    ∧ (∀ n, n ≠ 0xA9 → ∃ b, s.settle.icu.src n = { s.icu.src n with pme := b })
    ∧ (∀ t, (s.settle.icu.tgt t).threshold = (s.icu.tgt t).threshold ∧ (s.settle.icu.tgt t).masked = (s.icu.tgt t).masked
      ∧ (s.settle.icu.tgt t).addr = (s.icu.tgt t).addr ∧ (s.settle.icu.tgt t).data = (s.icu.tgt t).data)
    ∧ s.settle.icu.msixEnable = s.icu.msixEnable ∧ s.settle.icu.fnMask = s.icu.fnMask ∧ s.settle.icu.d3hot = s.icu.d3hot

/-- The host region reads back what BAR2_WRITE wrote. BAR2_WRITE of an offset and bytes inside the 512 MiB answers a next state whose
host region, read at those addresses, gives the bytes written, and at every other address what it gave before; the memory keeps its
canonical form. A write outside the region faults. The reading of a byte that nothing wrote is the model's choice (assumption 1). -/
def Obligations.RegionReadsBack : Prop :=
  (∀ (dt off : Nat) (data : Bytes) (s : State), off + data.length ≤ regionSize → Memory.wf s.mem = true →
      Runs (.bar2Write dt off data) s fun t =>
        (∀ i, i < data.length → memRead t.mem (off + i) = data.getD i 0)
        ∧ (∀ a, (a < off ∨ off + data.length ≤ a) → memRead t.mem a = memRead s.mem a)
        ∧ Memory.wf t.mem = true ∧ t.host = s.host ∧ t.txn = s.txn ∧ t.secure = s.secure ∧ t.time = s.time.tick dt
        ∧ t.clock = s.clock ∧ t.render = s.render ∧ t.inputs = s.inputs ∧ t.meter = s.meter ∧ t.ports = s.ports ∧ t.net = s.net
        ∧ t.fns = s.fns ∧ t.group = s.group ∧ t.update = s.update ∧ t.power = s.power ∧ t.pending = s.pending)
  ∧ (∀ (dt off : Nat) (data : Bytes) (s : State), regionSize < off + data.length →
      exec (.bar2Write dt off data) s = .fault .outsideRegion)

/-- How a request completes in its mailbox. Completing a request writes its header with STATUS, LENGTH and POSITION, then the response,
into the body of its mailbox and nowhere else, sets MBX_STATE to DONE with MBX_TAG the tag of the request, and raises interrupt source m
where FLAGS.IRQ is set, and no source where it is not. A request whose mailbox a host-interface reset has taken away writes nothing. -/
def Obligations.CompletionWritesBody : Prop :=
  (∀ (s : State) (c : Ctx) (r : Reply), c.m < 16 → r.resp.length ≤ 4064 → Memory.wf s.mem = true →
      (s.finish c false r).mbx c.m = { s.mbx c.m with phase := .done, doneAt := some s.now, tag := BitVec.ofNat 32 c.tag }
      ∧ (∀ m, m ≠ c.m → (s.finish c false r).mbx m = s.mbx m)
      ∧ (s.finish c false r).readRegion (c.m * 0x1000) (32 + r.resp.length)
          = headerBytes c.code c.flags c.tag c.session r.resp.length r.status (r.pos.getD s.pos) ++ r.resp
      ∧ (∀ a, (a < c.m * 0x1000 ∨ c.m * 0x1000 + 32 + r.resp.length ≤ a) → memRead (s.finish c false r).mem a = memRead s.mem a)
      ∧ (s.finish c false r).icu = (if c.irq then s.icu.edge c.m s.now else s.icu)
      ∧ (s.finish c false r).txn = s.txn ∧ (s.finish c false r).clock = s.clock ∧ (s.finish c false r).time = s.time
      ∧ (s.finish c false r).render = s.render ∧ (s.finish c false r).ports = s.ports ∧ (s.finish c false r).net = s.net
      ∧ (s.finish c false r).meter = s.meter ∧ (s.finish c false r).secure = s.secure ∧ (s.finish c false r).out = s.out)
  ∧ (∀ (s : State) (c : Ctx) (r : Reply),
      (s.finish c true r).mem = s.mem ∧ (s.finish c true r).host.mbx = s.host.mbx ∧ (s.finish c true r).icu = s.icu)

/-- A request that fails a check changes no state. For every mailbox command: where its executing request fails a check of R69 or R70,
the row completes the request with the status of the first failing check and no response payload, and nothing else changes; where no
request of the mailbox executes that command, the row has no effect. -/
def Obligations.FailedCheckChangesNothing : Prop :=
  (∀ (i : Instr) (dt m : Nat) (spec : CommandSpec) (s t : State) (e : ExecReq) (c : Ctx) (st : Status),
      mailboxOf i = some (dt, m, spec) → s.host.mbxReady = true → s.host.execOf m spec.code = some e →
      c = e.ctx → t = { s.tick dt with host := s.host.dropExec e } → spec.firstFail c t = some st →
      exec i s = answers e c t st [])
  ∧ (∀ (i : Instr) (dt m : Nat) (spec : CommandSpec) (s : State),
      mailboxOf i = some (dt, m, spec) → s.host.execOf m spec.code = none → exec i s = .next (s.tick dt).settle)

/-- A request that read a poisoned word completes with INTEGRITY. For every mailbox command, a request that passes the request checks
and has read a poisoned word completes with INTEGRITY, and the command has no effect. -/
def Obligations.PoisonedRequestIntegrity : Prop :=
  ∀ (i : Instr) (dt m : Nat) (spec : CommandSpec) (s t : State) (e : ExecReq) (c : Ctx),
    mailboxOf i = some (dt, m, spec) → s.host.mbxReady = true → s.host.execOf m spec.code = some e → e.poison = true →
    c = e.ctx → t = { s.tick dt with host := s.host.dropExec e } → spec.firstFail c t = none →
    exec i s = answers e c t .integrity []

/-- Doorbells post mailboxes, and a management core takes the one whose doorbell came first. A doorbell of a FREE or DONE mailbox while
mailboxes work latches the show position and makes it POSTED; of a POSTED or EXECUTING mailbox, or while MBX_READY is 0, it sets REFUSED
and moves nothing. A write of 1 to DONE returns a DONE mailbox to FREE, and a write of 1 to REFUSED clears it. Every other mailbox, and
every other register, stays as it is. While mailboxes work and fewer than four requests execute, MBX_EXECUTE with a held request takes
the mailbox that comes first: it was POSTED, no POSTED mailbox has a smaller doorbell position, nor an equal one and a smaller number.
Its request is copied from its body and it becomes EXECUTING. With four requests executing, or no mailbox POSTED, nothing is taken. -/
def Obligations.MailboxesArePostedAndTaken : Prop :=
  (∀ (dt m value : Nat) (s : State),
    m < 16 → bit value 0 = true → s.host.mbxReady = true → ((s.mbx m).phase = .free ∨ (s.mbx m).phase = .done) →
      exec (.mbxDoorbell dt m value) s = .next ((s.tick dt) |>.setMbx m { s.mbx m with phase := .posted, dbPos := (s.tick dt).pos }).settle)
  ∧ (∀ (dt m value : Nat) (s : State),
    m < 16 → bit value 0 = true → (s.host.mbxReady = false ∨ (s.mbx m).phase = .posted ∨ (s.mbx m).phase = .executing) →
      exec (.mbxDoorbell dt m value) s = .next ((s.tick dt) |>.setMbx m { s.mbx m with refused := true }).settle)
  ∧ (∀ (dt m value : Nat) (s : State),
    bit value 0 = false → exec (.mbxDoorbell dt m value) s = .next ((s.tick dt)).settle)
  ∧ (∀ (dt m value : Nat) (s : State),
    m < 16 → bit value 0 = true → bit value 1 = false → (s.mbx m).phase = .done → (s.mbx m).doneAt ≠ some (s.tick dt).now →
      exec (.mbxDoneClear dt m value) s = .next ((s.tick dt) |>.setMbx m { s.mbx m with phase := .free }).settle)
  ∧ (∀ (dt m value : Nat) (s : State),
    m < 16 → (bit value 0 = false ∨ (s.mbx m).phase ≠ .done) → bit value 1 = true →
      exec (.mbxDoneClear dt m value) s = .next ((s.tick dt) |>.setMbx m { s.mbx m with refused := false }).settle)
  ∧ (∀ (dt : Nat) (poison : Bool) (m : Nat) (s : State),
    s.host.mbxReady = true → s.host.execs.length < 4 → s.nextMbx = some m →
      (specOf (fld (s.readRegion (m * 0x1000) 0x1000) 0 2)).isSome = true →
      Runs (.mbxExecute dt true poison) s fun t =>
      (s.mbx m).phase = .posted ∧ (∀ k, k < 16 → (s.mbx k).phase = .posted → (s.mbx m).dbReg < (s.mbx k).dbReg ∨ ((s.mbx m).dbReg = (s.mbx k).dbReg ∧ m ≤ k))
      ∧ (t.mbx m).phase = .executing ∧ (t.mbx m).dbPos = (s.mbx m).dbPos ∧ (∀ k, k ≠ m → t.mbx k = s.mbx k)
      ∧ (∃ e, t.host.execs = s.host.execs ++ [e] ∧ e.mbx = m ∧ e.req = s.readRegion (m * 0x1000) 0x1000 ∧ e.dbPos = (s.mbx m).dbPos ∧ e.poison = poison ∧ e.orphan = false)
      ∧ t.mem = s.mem ∧ t.txn = s.txn ∧ t.clock = s.clock ∧ t.secure = s.secure)
  ∧ (∀ (dt : Nat) (hold poison : Bool) (s : State),
    (s.host.mbxReady = false ∨ 4 ≤ s.host.execs.length ∨ s.nextMbx = none) →
      exec (.mbxExecute dt hold poison) s = .next ((s.tick dt)).settle)

/-- A register access does what the register's own command does. REGISTER_WRITE of an aligned word reaches the register at its offset: a
mailbox doorbell or MBX_DONE, DEV_EVENT (a written 1 clears), RNG_CFG, RNG_HOST_IDX, ICU_PEND, ICU_PEND_SET, ICU_COMPLETE, ICU_SRC_CFG
and ICU_THRESHOLD act as the commands of those registers. A misaligned access has no effect, and one outside the 64 KiB window faults. A
32-bit read answers the identity registers' values, zero at reserved offsets, DEV_EVENT as it stands, and a read of ICU_CLAIM claims as
ICU_CLAIM does (the other plain reads have no command: `State.regRead`). -/
def Obligations.RegisterWriteReachesUnit : Prop :=
  (∀ (dt off size value : Nat) (posted : List BulkDesc) (s : State),
    0x10000 < off + size → exec (.registerWrite dt off size value posted) s = .fault .outsideWindow)
  ∧ (∀ (dt off size value : Nat) (posted : List BulkDesc) (s : State),
    off + size ≤ 0x10000 → accessOk off size = false → exec (.registerWrite dt off size value posted) s = .next ((s.tick dt)).settle)
  ∧ (∀ (dt value : Nat) (posted : List BulkDesc) (s : State),
    exec (.registerWrite dt 0x118 4 value posted) s = .next ({ (s.tick dt) with host := { s.host with devEvent := w1c s.host.devEvent value (setBits s.host.devEventAt (s.tick dt).now) } }).settle)
  ∧ (∀ (dt value : Nat) (posted : List BulkDesc) (m : Nat) (s : State),
    m < 16 → exec (.registerWrite dt (0x400 + 64 * m) 4 value posted) s = exec (.mbxDoorbell dt m value) s)
  ∧ (∀ (dt value : Nat) (posted : List BulkDesc) (m : Nat) (s : State),
    m < 16 → exec (.registerWrite dt (0x408 + 64 * m) 4 value posted) s = exec (.mbxDoneClear dt m value) s)
  ∧ (∀ (dt value : Nat) (posted : List BulkDesc) (r : Nat) (s : State),
    r < 32 → exec (.registerWrite dt (0x2010 + 32 * r) 4 value posted) s = exec (.rngHostIdxWrite dt r value posted) s)
  ∧ (∀ (dt value : Nat) (posted : List BulkDesc) (p : Nat) (s : State),
    p < 8 → exec (.registerWrite dt (0x1420 + 4 * p) 4 value posted) s = exec (.icuPendSet dt p value) s)
  ∧ (∀ (dt value : Nat) (posted : List BulkDesc) (p : Nat) (s : State),
    p < 8 → exec (.registerWrite dt (0x1400 + 4 * p) 4 value posted) s = exec (.icuPendClear dt p value) s)
  ∧ (∀ (dt value : Nat) (posted : List BulkDesc) (k : Nat) (s : State),
    k < 32 → exec (.registerWrite dt (0x1504 + 16 * k) 4 value posted) s = exec (.icuComplete dt k value) s)
  ∧ (∀ (dt off value : Nat) (posted : List BulkDesc) (s : State),
    icuConfigOff off = true → exec (.registerWrite dt (0x1000 + off) 4 value posted) s = exec (.icuConfigWrite dt off value) s)
  ∧ (∀ (s : State),
    (s.regRead 0x00 4).1 = 0x48363430 ∧ (s.regRead 0x04 4).1 = 0x64001F9A ∧ (s.regRead 0x08 4).1 = 0xB0
    ∧ (∀ off, 0x20 ≤ off → off < 0x100 → off % 4 = 0 → (s.regRead off 4).1 = 0) ∧ (s.regRead 0x118 4).1 = s.host.devEvent.toNat
    ∧ (∀ k, k < 32 → (s.regRead (0x1500 + 16 * k) 4).2 = s.icuClaim k))

/-- A host-interface reset ends what the host started and keeps the rest. HOST_INTERFACE_RESET ends every session, discards open
transactions, releases snapshots, frees every mailbox, disables every ring with its registers and indices kept, clears the MSI-X enables
and the base thresholds of the vectors, and sets DEV_EVENT.HOST_RESET. Requests that execute run on without a mailbox; operations, held
completions and accepted commits stay, and so do the show, the clock, the ports and the host region. -/
def Obligations.HostInterfaceReset : Prop :=
  ∀ (dt : Nat) (s : State),
    Runs (.hostInterfaceReset dt) s fun t =>
      t.host.sessions = [] ∧ t.host.mbx = [] ∧ t.txn.snaps = [] ∧ (∀ x ∈ t.txn.slots, x.2.commit.isSome = true)
      ∧ (∀ r, (t.ring r).phase = .disabled ∧ (t.ring r).hostIdx = (s.ring r).hostIdx ∧ (t.ring r).devIdx = (s.ring r).devIdx
          ∧ (t.ring r).base = (s.ring r).base ∧ (t.ring r).cfg = (s.ring r).cfg)
      ∧ (∀ e ∈ t.host.execs, e.orphan = true) ∧ t.host.execs.length = s.host.execs.length
      ∧ t.icu.msixEnable = false ∧ (∀ k, k < 32 → (t.icu.tgt k).threshold = 0 ∧ (t.icu.tgt k).masked = true)
      ∧ t.host.devEvent = s.host.devEvent ||| 2#32
      ∧ t.host.ops = s.host.ops ∧ t.host.held = s.host.held ∧ t.txn.accepted = s.txn.accepted ∧ t.txn.view = s.txn.view
      ∧ t.mem = s.mem ∧ t.clock = s.clock ∧ t.render = s.render ∧ t.ports = s.ports ∧ t.net = s.net ∧ t.meter = s.meter ∧ t.fns = s.fns

/-- Sessions open under new IDs and end. SESSION_OPEN of an OBSERVER opens a session under a non-zero ID never used before, with its
idle timeout, where fewer than 32 sessions exist and the audit log does not refuse it. SESSION_CLOSE ends the session it names: its open
transactions go and its snapshots are released, and its operations run on; while the audit log is full under its policy it ends only the
session of a SECURITY_OFFICER and answers BUSY for every other. SESSION_IDLE_TIMEOUT ends a session that no request has named for its
timeout, and no other. -/
def Obligations.SessionCommands : Prop :=
  (∀ (dt m : Nat) (s t : State) (e : ExecReq) (c : Ctx) (p : Bytes),
    Running sessionOpenSpec m dt s e c t p → fld p 0 1 = 0 → t.auditFull = false → t.host.sessions.length < 32 →
      t.secure.trngFault = false → s.host.usedIds.length + 2 < 2 ^ 32 →
      Runs (.sessionOpen dt m) s fun u =>
      ∃ id x, id ≠ 0 ∧ id ∉ s.host.usedIds ∧ id < 2 ^ 32 ∧ u.host.usedIds = id :: s.host.usedIds ∧ u.host.sessions.find id = some x
        ∧ x.role = 0 ∧ x.idle = fld p 2 2 ∧ x.lastNamed = u.now
        ∧ (∀ k, k ≠ id → k ≠ c.session → u.host.sessions.find k = s.host.sessions.find k))
  ∧ (∀ (dt m : Nat) (s t : State) (e : ExecReq) (c : Ctx) (p : Bytes) (x : Session),
    Running sessionCloseSpec m dt s e c t p → t.host.sessions.find (closeTarget c) = some x → (t.auditFull = false ∨ x.role = 3) →
      exec (.sessionClose dt m) s = answers e c ((t.endSession (closeTarget c) 0).pruneEpochs) .ok [])
  ∧ (∀ (dt m : Nat) (s t : State) (e : ExecReq) (c : Ctx) (p : Bytes) (x : Session),
    Running sessionCloseSpec m dt s e c t p → t.host.sessions.find (closeTarget c) = some x → t.secure.policy = 1 →
      auditCapacity ≤ t.secure.unacked → x.role ≠ 3 → exec (.sessionClose dt m) s = answers e c t .busy [])
  ∧ (∀ (dt session : Nat) (x : Session) (s : State),
    s.host.sessions.find session = some x → x.idle ≠ 0 → x.idle * cycSec ≤ (s.tick dt).now - x.lastNamed →
      exec (.sessionIdleTimeout dt session) s = .next (((s.tick dt).endSession session 1).pruneEpochs).settle)
  ∧ (∀ (dt session : Nat) (x : Session) (s : State),
    s.host.sessions.find session = some x → (x.idle = 0 ∨ (s.tick dt).now - x.lastNamed < x.idle * cycSec) →
      exec (.sessionIdleTimeout dt session) s = .next ((s.tick dt)).settle)

/-- What the end of a session takes with it. When a session ends, it is gone from the table, its open transactions are discarded and its
snapshots released; other sessions, accepted commits, and operations in progress stay, and an audit record is appended. -/
def Obligations.SessionEnds : Prop :=
  ∀ (s : State) (id cause : Nat) (x : Session), s.host.sessions.find id = some x →
    (s.endSession id cause).host.sessions.find id = none
    ∧ (∀ k, k ≠ id → (s.endSession id cause).host.sessions.find k = s.host.sessions.find k)
    ∧ (∀ e, e ∈ (s.endSession id cause).txn.slots ↔ e ∈ s.txn.slots ∧ (e.2.session = id → e.2.commit.isSome = true))
    ∧ (∀ e, e ∈ (s.endSession id cause).txn.snaps ↔ e ∈ s.txn.snaps ∧ e.2.session ≠ id)
    ∧ (s.endSession id cause).host.ops = s.host.ops ∧ (s.endSession id cause).host.held = s.host.held
    ∧ (s.endSession id cause).txn.accepted = s.txn.accepted ∧ (s.endSession id cause).txn.view = s.txn.view
    ∧ (s.endSession id cause).secure.auditNext = s.secure.auditNext + 1 ∧ (s.endSession id cause).mem = s.mem

/-- TXN_CANCEL discards an open transaction and refuses a committed one. TXN_CANCEL of an open transaction discards it and completes
with OK, and every other transaction stays; on a committed transaction it completes with CONFLICT and changes nothing, so that ABORT
applies instead. -/
def Obligations.CancelDiscardsTransaction : Prop :=
  (∀ (dt m : Nat) (s t : State) (e : ExecReq) (c : Ctx) (p : Bytes) (x : TxnSlot),
    Running txnCancelSpec m dt s e c t p → t.txn.slots.find (handleSlot p) = some x → x.commit = none →
      exec (.txnCancel dt m) s = answers e c ({ t with txn := { t.txn with slots := t.txn.slots.del (handleSlot p) } }) .ok [])
  ∧ (∀ (dt m : Nat) (s t : State) (e : ExecReq) (c : Ctx) (p : Bytes) (x : TxnSlot),
    Running txnCancelSpec m dt s e c t p → t.txn.slots.find (handleSlot p) = some x → x.commit.isSome = true →
      exec (.txnCancel dt m) s = answers e c t .conflict [])

/-- Transactions and snapshots open and close in their slots. TXN_OPEN takes a free slot of the 16, based on the present epoch and its
view, and answers slot, generation and base epoch; with none free it completes with NO_RESOURCE. TXN_COMMIT whose checks pass answers
ACCEPTED with its target and starts one operation. SNAP_OPEN of a retained epoch takes a free slot of the 8 and pins that epoch;
SNAP_CLOSE frees the slot. Which free slot is taken is a free value (assumption 3). -/
def Obligations.TransactionCommands : Prop :=
  (∀ (dt m : Nat) (s t : State) (e : ExecReq) (c : Ctx) (p : Bytes),
    Running txnOpenSpec m dt s e c t p → freeSlots t.txn.slots 16 ≠ [] →
      Runs (.txnOpen dt m) s fun u =>
      ∃ slot gen, slot < 16 ∧ s.txn.slots.has slot = false ∧ gen = s.txn.gens.getD slot 0 ∧ u.txn.gens.getD slot 0 = (gen + 1) % 256
        ∧ u.txn.slots.find slot = some { gen := gen, session := c.session, base := s.host.devEpoch, baseView := s.txn.view, opened := s.txn.nextSeq }
        ∧ (∀ k, k ≠ slot → u.txn.slots.find k = s.txn.slots.find k) ∧ u.txn.view = s.txn.view ∧ u.txn.snaps = s.txn.snaps
        ∧ (e.orphan = false → u.mem = memWriteBytes s.mem (c.m * 0x1000) (headerBytes c.code c.flags c.tag c.session 16 .ok t.pos
            ++ (bytesLE 1 slot ++ bytesLE 1 gen ++ zeros 6 ++ bytesLE 8 s.host.devEpoch))))
  ∧ (∀ (dt m : Nat) (s t : State) (e : ExecReq) (c : Ctx) (p : Bytes),
    Running txnOpenSpec m dt s e c t p → freeSlots t.txn.slots 16 = [] → exec (.txnOpen dt m) s = answers e c t .noResource [])
  ∧ (∀ (dt m : Nat) (s t : State) (e : ExecReq) (c : Ctx) (p : Bytes) (n : Nat) (pos : Pos),
    Running snapOpenSpec m dt s e c t p → n = (if fld p 0 8 = 2 ^ 64 - 1 then s.host.devEpoch else fld p 0 8) → t.epochPos n = some pos →
      freeSlots t.txn.snaps 8 ≠ [] →
      Runs (.snapOpen dt m) s fun u =>
      ∃ slot gen, slot < 8 ∧ s.txn.snaps.has slot = false ∧ gen = s.txn.snapGens.getD slot 0
        ∧ (∃ o, u.txn.snaps.find slot = some ⟨gen, c.session, n, false, o⟩)
        ∧ (∀ k, k ≠ slot → u.txn.snaps.find k = s.txn.snaps.find k) ∧ u.txn.slots = s.txn.slots ∧ u.txn.view = s.txn.view)
  ∧ (∀ (dt m : Nat) (s t : State) (e : ExecReq) (c : Ctx) (p : Bytes),
    Running snapCloseSpec m dt s e c t p →
      exec (.snapClose dt m) s = answers e c ((({ t with txn := { t.txn with snaps := t.txn.snaps.del (handleSlot p) } } : State).pruneEpochs)) .ok [])
  ∧ (∀ (dt m : Nat) (u : State) (e : ExecReq) (c : Ctx) (p : Bytes) (x : TxnSlot) (n : Nat) (s : State),
    Running txnCommitSpec m dt s e c u p → s.group.inGroup = false → u.txn.slots.find (fld p 0 1) = some x →
      u.commitFront x (fld p 2 1) (fld p 8 8) c = .inr n → u.conflicts x = false →
      u.writesStatus x.writes u.txn.waitingTxns c.db (if u.clock.run then n else u.clock.startFrame) = none → u.acceptFail = none →
      Runs (.txnCommit dt m) s fun t =>
      t.host.ops = s.host.ops ++ [{ id := s.host.nextOp, command := 0x0111, flags := c.flags, tag := c.tag, session := c.session, kind := .commit (fld p 0 1) }]
      ∧ (∃ y k, t.txn.slots.find (fld p 0 1) = some y ∧ y.commit = some k ∧ k.target = n ∧ k.op = s.host.nextOp ∧ k.seq = s.txn.nextSeq ∧ k.stopped = !s.clock.run ∧ y.writes = x.writes)
      ∧ (∀ j, j ≠ fld p 0 1 → t.txn.slots.find j = s.txn.slots.find j) ∧ t.txn.view = s.txn.view ∧ t.clock = s.clock)

/-- ABORT takes back what has not passed its decision point. ABORT of a staging operation, of an operation of UPDATE_BEGIN or
UPDATE_BLOCK, and of a request still POSTED ends it with ABORTED; of a tag that has completed or that executes it answers
ALREADY_COMPLETE; of a tag the session does not know, BAD_ARGUMENT. -/
def Obligations.AbortCommand : Prop :=
  (∀ (dt m : Nat) (s t : State) (e : ExecReq) (c : Ctx) (p : Bytes) (o : Op) (ns : List Nat) (bs : Bytes),
    Running abortSpec m dt s e c t p → t.host.ops.find? (fun o => o.session == c.session && o.tag == fld p 0 4) = some o →
      (o.command = 0x0E01 ∨ o.command = 0x0E02) → o.kind = .job ns bs →
      exec (.abort dt m) s = answers e c (t.endOp o .aborted t.pos []) .ok [])
  ∧ (∀ (dt m : Nat) (s t : State) (e : ExecReq) (c : Ctx) (p : Bytes) (k : Nat),
    Running abortSpec m dt s e c t p → t.host.ops.find? (fun o => o.session == c.session && o.tag == fld p 0 4) = none →
      t.postedMbx c.session (fld p 0 4) = some k → exec (.abort dt m) s = answers e c (t.abortMbx k) .ok [])
  ∧ (∀ (dt m : Nat) (s t : State) (e : ExecReq) (c : Ctx) (p : Bytes),
    Running abortSpec m dt s e c t p → t.host.ops.find? (fun o => o.session == c.session && o.tag == fld p 0 4) = none →
      t.postedMbx c.session (fld p 0 4) = none → t.tagDone c.session (fld p 0 4) = true →
      exec (.abort dt m) s = answers e c t .alreadyComplete [])
  ∧ (∀ (dt m : Nat) (s t : State) (e : ExecReq) (c : Ctx) (p : Bytes),
    Running abortSpec m dt s e c t p → t.host.ops.find? (fun o => o.session == c.session && o.tag == fld p 0 4) = none →
      t.postedMbx c.session (fld p 0 4) = none → fld p 0 4 ≠ c.tag → t.tagExecuting c.session (fld p 0 4) = false →
      t.tagDone c.session (fld p 0 4) = false → exec (.abort dt m) s = answers e c t .badArgument [])

/-- FN_ENABLE, FN_DISABLE, FN_STATUS and the ends of drains act as the table "Function states" gives. FN_ENABLE of a DISABLED function
starts it and makes it ENABLED; of an ENABLED one it answers OK and changes nothing; of a DRAINING one BUSY. FN_DISABLE of an ENABLED
function without a dependency is ACCEPTED, becomes one operation (an RDM port and a metering channel also end the operations of what
they cancel), cancels what is queued and makes the function DRAINING with its bound; with a dependency it answers CONFLICT; of a
DISABLED one OK; of a DRAINING one BUSY. FN_STATUS answers state and counts. DRAIN_COMPLETE of a DRAINING function with nothing left in
flight, and DRAIN_BOUND_EXPIRY of one whose bound has come, make it DISABLED, record the counts of the drain and deliver the final
completion of its FN_DISABLE; otherwise they have no effect. -/
def Obligations.FunctionsEnableAndDrain : Prop :=
  (∀ (dt m : Nat) (s t : State) (e : ExecReq) (c : Ctx) (p : Bytes) (i : Nat),
    Running fnEnableSpec m dt s e c t p → i = fld p 0 4 → (t.fn i).state = .disabled → (t.fn i).failed = false →
      exec (.fnEnable dt m) s = answers e c ((t.startFn (fnClass i) (fnInst i)).moveFn (fnClass i) (fnInst i) .enabled) .ok (((t.startFn (fnClass i) (fnInst i)).moveFn (fnClass i) (fnInst i) .enabled).fnResp i))
  ∧ (∀ (dt m : Nat) (s t : State) (e : ExecReq) (c : Ctx) (p : Bytes),
    Running fnEnableSpec m dt s e c t p → (t.fn (fld p 0 4)).state = .enabled →
      exec (.fnEnable dt m) s = answers e c t .ok (t.fnResp (fld p 0 4)))
  ∧ (∀ (dt m : Nat) (s t : State) (e : ExecReq) (c : Ctx) (p : Bytes),
    Running fnEnableSpec m dt s e c t p → (t.fn (fld p 0 4)).state = .draining → exec (.fnEnable dt m) s = answers e c t .busy [])
  ∧ (∀ (dt m : Nat) (s t : State) (e : ExecReq) (c : Ctx) (p : Bytes),
    Running fnDisableSpec m dt s e c t p → (t.fn (fld p 0 4)).state = .disabled →
      exec (.fnDisable dt m) s = answers e c t .ok (t.fnResp (fld p 0 4)))
  ∧ (∀ (dt m : Nat) (s t : State) (e : ExecReq) (c : Ctx) (p : Bytes),
    Running fnDisableSpec m dt s e c t p → (t.fn (fld p 0 4)).state = .draining → exec (.fnDisable dt m) s = answers e c t .busy [])
  ∧ (∀ (dt m : Nat) (s t : State) (e : ExecReq) (c : Ctx) (p : Bytes),
    Running fnDisableSpec m dt s e c t p → (t.fn (fld p 0 4)).state = .enabled →
      t.dependency (fnClass (fld p 0 4)) (fnInst (fld p 0 4)) = true → exec (.fnDisable dt m) s = answers e c t .conflict [])
  ∧ (∀ (dt m : Nat) (s t : State) (e : ExecReq) (c : Ctx) (p : Bytes) (i : Nat),
    Running fnDisableSpec m dt s e c t p → i = fld p 0 4 → (t.fn i).state = .enabled → t.dependency (fnClass i) (fnInst i) = false →
      t.acceptFail = none →
      Runs (.fnDisable dt m) s fun u =>
      (u.fn i).state = .draining ∧ (u.fn i).op = some t.host.nextOp
        ∧ (fnClass i ≠ 4 → fnClass i ≠ 11 → u.host.ops = t.host.ops ++ [{ id := t.host.nextOp, command := 0x0121, flags := c.flags, tag := c.tag, session := c.session, kind := .fnDisable i }])
        ∧ (fnClass i = 4 → (u.dmxPort (fnInst i)).queue = []) ∧ (fnClass i ≤ 2 → 1 ≤ fnClass i → (u.port (portOf (fnClass i) (fnInst i))).runQueue = [])
        ∧ (∀ k, k ≠ i → u.fn k = t.fn k) ∧ u.txn = t.txn)
  ∧ (∀ (dt m : Nat) (s t : State) (e : ExecReq) (c : Ctx) (p : Bytes),
    Running fnStatusSpec m dt s e c t p → exec (.fnStatus dt m) s = answers e c t .ok (t.fnResp (fld p 0 4)))
  ∧ (∀ (dt fn : Nat) (s : State),
    (s.fn fn).state = .draining → (s.tick dt).itemsLeft (fnClass fn) (fnInst fn) = 0 →
      Runs (.drainComplete dt fn) s fun t =>
      (t.fn fn).state = .disabled ∧ (t.fn fn).op = none ∧ (t.fn fn).doneCount = BitVec.ofNat 32 (s.fn fn).inFlight
      ∧ (t.fn fn).cancelCount = (s.fn fn).cancelCount ∧ (∀ k, k ≠ fn → t.fn k = s.fn k) ∧ t.txn = s.txn ∧ t.clock = s.clock)
  ∧ (∀ (dt fn : Nat) (s : State),
    (s.fn fn).state = .draining → (s.fn fn).bound ≤ (s.tick dt).now →
      Runs (.drainBoundExpiry dt fn) s fun t =>
      (t.fn fn).state = .disabled ∧ (t.fn fn).op = none
      ∧ (t.fn fn).doneCount = BitVec.ofNat 32 ((s.fn fn).inFlight - (s.tick dt).itemsLeft (fnClass fn) (fnInst fn))
      ∧ (t.fn fn).cancelCount = (s.fn fn).cancelCount + BitVec.ofNat 32 ((s.tick dt).itemsLeft (fnClass fn) (fnInst fn)) ∧ (∀ k, k ≠ fn → t.fn k = s.fn k))
  ∧ (∀ (dt fn : Nat) (s : State),
    (s.fn fn).state ≠ .draining → exec (.drainComplete dt fn) s = .next ((s.tick dt)).settle)
  ∧ (∀ (dt fn : Nat) (s : State),
    (s.fn fn).state ≠ .draining → exec (.drainBoundExpiry dt fn) s = .next ((s.tick dt)).settle)

/-- Rings start, stop and move their indices as R89 and R90 say. A write of RNG_CFG with ENABLE to a DISABLED ring whose configuration
is valid stores the fields and enables the ring; an invalid configuration, or a LOG2_SIZE outside 4 to 16, sets REFUSED and changes
nothing else; without ENABLE it stores the fields of a DISABLED ring. Clearing ENABLE of an ENABLED ring starts a drain with a bound of
1 ms. RNG_BASE is written only while the ring is DISABLED. While a ring is DISABLED, a write of RNG_HOST_IDX sets both indices. While it
is not, a value within the limit becomes the host index, a value beyond it is ignored and sets OVERRUN; a device-to-host ring's host
index never passes the device index, and a host-to-device ring's runs at most 2^LOG2_SIZE entries ahead of it. The device index, the
configuration and every other ring stay (the entries a drained ring cancels at once excepted). -/
def Obligations.RingRegisters : Prop :=
  (∀ (dt r value : Nat) (s : State),
    r < 32 → (s.ring r).phase = .disabled → 4 ≤ (ringCfgOf value).log2 → (ringCfgOf value).log2 ≤ 16 →
      ringCfgOk r (ringCfgOf value) = true →
      exec (.rngEnable dt r value) s = .next ((s.tick dt).setRing r { s.ring r with cfg := ringCfgOf value, phase := .enabled }).settle)
  ∧ (∀ (dt r value : Nat) (s : State),
    r < 32 →
      ((ringCfgOf value).log2 < 4 ∨ 16 < (ringCfgOf value).log2 ∨ (s.ring r).phase = .draining ∨ ((s.ring r).phase = .disabled ∧ ringCfgOk r (ringCfgOf value) = false)) →
      exec (.rngEnable dt r value) s = .next ((s.tick dt).setRing r { s.ring r with refused := true }).settle)
  ∧ (∀ (dt r value : Nat) (s : State),
    r < 32 → (s.ring r).phase = .disabled → 4 ≤ (ringCfgOf value).log2 → (ringCfgOf value).log2 ≤ 16 →
      exec (.rngConfigWrite dt r value) s = .next ((s.tick dt).setRing r { s.ring r with cfg := ringCfgOf value }).settle)
  ∧ (∀ (dt r value : Nat) (s : State),
    r < 32 → (s.ring r).phase ≠ .disabled → ringCfgOf value ≠ (s.ring r).cfg →
      exec (.rngConfigWrite dt r value) s = .next ((s.tick dt).setRing r { s.ring r with refused := true }).settle)
  ∧ (∀ (dt r value : Nat) (s : State),
    r < 32 → (s.ring r).phase = .enabled → 4 ≤ (ringCfgOf value).log2 → (ringCfgOf value).log2 ≤ 16 → ringCfgOf value = (s.ring r).cfg →
      Runs (.rngDisable dt r value) s fun t =>
      (t.ring r).phase = .draining ∧ (t.ring r).bound = (s.tick dt).now + 500000 ∧ (t.ring r).cfg = (s.ring r).cfg ∧ (t.ring r).base = (s.ring r).base
      ∧ (t.ring r).hostIdx = (s.ring r).hostIdx ∧ (∀ k, k ≠ r → t.ring k = s.ring k) ∧ ((s.ring r).inFlight = none → (t.ring r).posted = [])
      ∧ t.mem = s.mem ∧ t.txn = s.txn)
  ∧ (∀ (dt r value : Nat) (s : State),
    r < 32 → (s.ring r).phase = .disabled →
      exec (.rngBaseWrite dt r value) s = .next ((s.tick dt).setRing r { s.ring r with base := BitVec.ofNat 64 value &&& ~~~(0xFFF#64) }).settle)
  ∧ (∀ (dt r value : Nat) (s : State),
    r < 32 → (s.ring r).phase ≠ .disabled →
      exec (.rngBaseWrite dt r value) s = .next ((s.tick dt).setRing r { s.ring r with refused := true }).settle)
  ∧ (∀ (dt r : Nat) (s : State),
    r < 32 → (s.ring r).phase = .draining → (s.ring r).inFlight = none →
      exec (.rngDrainEnd dt r) s = .next ((s.tick dt).setRing r { s.ring r with phase := .disabled }).settle)
  ∧ (∀ (dt r value : Nat) (posted : List BulkDesc) (s : State),
    r < 32 → (s.ring r).phase = .disabled →
      exec (.rngHostIdxWrite dt r value posted) s = .next ((s.tick dt).setRing r { s.ring r with hostIdx := BitVec.ofNat 32 value, devIdx := BitVec.ofNat 32 value, posted := [] }).settle)
  ∧ (∀ (dt r value : Nat) (posted : List BulkDesc) (s : State),
    r < 32 → (s.ring r).phase = .enabled → (s.ring r).cfg.dir = true → s.txPortOf r = none →
      BitVec.ofNat 32 value - (s.ring r).hostIdx ≤ (s.ring r).devIdx - (s.ring r).hostIdx →
      exec (.rngHostIdxWrite dt r value posted) s = .next ((s.tick dt).setRing r { s.ring r with hostIdx := BitVec.ofNat 32 value }).settle)
  ∧ (∀ (dt r value : Nat) (posted : List BulkDesc) (s : State),
    r < 32 → (s.ring r).phase = .enabled → (s.ring r).cfg.dir = false → (∀ port, s.txPortOf r = some port → s.portOn port = true) →
      BitVec.ofNat 32 value - (s.ring r).hostIdx ≤ (s.ring r).devIdx + BitVec.ofNat 32 (2 ^ (s.ring r).cfg.log2) - (s.ring r).hostIdx →
      Runs (.rngHostIdxWrite dt r value posted) s fun t =>
      (t.ring r).hostIdx = BitVec.ofNat 32 value ∧ (t.ring r).devIdx = (s.ring r).devIdx ∧ (t.ring r).cfg = (s.ring r).cfg
      ∧ (t.ring r).posted.length = (s.ring r).posted.length + (BitVec.ofNat 32 value - (s.ring r).hostIdx).toNat ∧ (∀ k, k ≠ r → t.ring k = s.ring k))
  ∧ (∀ (dt r value : Nat) (posted : List BulkDesc) (s : State),
    r < 32 → (s.ring r).phase ≠ .disabled →
      (if (s.ring r).cfg.dir = true then (s.ring r).devIdx - (s.ring r).hostIdx < BitVec.ofNat 32 value - (s.ring r).hostIdx else (s.ring r).devIdx + BitVec.ofNat 32 (2 ^ (s.ring r).cfg.log2) - (s.ring r).hostIdx < BitVec.ofNat 32 value - (s.ring r).hostIdx) →
      exec (.rngHostIdxWrite dt r value posted) s = .next ((s.tick dt).setRing r { s.ring r with overrun := true }).settle)

/-- Bulk descriptors complete in ring order with their CODE. BULK_DESCRIPTOR_START takes the next descriptor of an ENABLED bulk ring:
one with a bad range ends with BAD_RANGE and moves no data, any other begins. BULK_DESCRIPTOR_DONE of a bulk write puts the bytes into
the host region at REGION_OFF and nowhere else, a bulk read sends the region's bytes to the host; CODE is written and the device index
advances by one. COMPLETION_HELD_DELIVER writes the first held completion to ring 0 where it has a free entry. -/
def Obligations.BulkTransfers : Prop :=
  (∀ (dt r : Nat) (d : BulkDesc) (ds : List BulkDesc) (s : State),
    r < 32 → (s.ring r).phase = .enabled → ((s.ring r).cfg.cls = 2 ∨ (s.ring r).cfg.cls = 3) → (s.ring r).inFlight = none →
      (s.ring r).posted = d :: ds → d.badRange = false →
      exec (.bulkDescriptorStart dt r) s = .next ((s.tick dt).setRing r { s.ring r with posted := ds, inFlight := some d }).settle)
  ∧ (∀ (dt r : Nat) (d : BulkDesc) (ds : List BulkDesc) (s : State),
    r < 32 → (s.ring r).phase = .enabled → ((s.ring r).cfg.cls = 2 ∨ (s.ring r).cfg.cls = 3) → (s.ring r).inFlight = none →
      (s.ring r).posted = d :: ds → d.badRange = true →
      exec (.bulkDescriptorStart dt r) s = .next (((s.tick dt).setRing r { s.ring r with posted := ds }).endEntry r 3 d).settle)
  ∧ (∀ (dt r : Nat) (data : Bytes) (d : BulkDesc) (s : State),
    r < 32 → (s.ring r).phase = .enabled → (s.ring r).cfg.cls = 2 → (s.ring r).inFlight = some d →
      Runs (.bulkDescriptorDone dt r false false data) s fun t =>
      (t.ring r).devIdx = (s.ring r).devIdx + 1 ∧ (t.ring r).inFlight = none ∧ (t.ring r).hostIdx = (s.ring r).hostIdx
      ∧ t.mem = memWriteBytes s.mem d.regionOff (padTo d.length data) ∧ (∀ k, k ≠ r → t.ring k = s.ring k)
      ∧ (∃ new, t.out = new ++ .hostWrite ((s.ring r).entryAddr 32 + 0x0E) (bytesLE 2 1) :: s.out))
  ∧ (∀ (dt r : Nat) (data : Bytes) (d : BulkDesc) (s : State),
    r < 32 → (s.ring r).phase = .enabled → (s.ring r).cfg.cls = 3 → (s.ring r).inFlight = some d →
      Runs (.bulkDescriptorDone dt r false false data) s fun t =>
      (t.ring r).devIdx = (s.ring r).devIdx + 1 ∧ (t.ring r).inFlight = none ∧ t.mem = s.mem ∧ (∀ k, k ≠ r → t.ring k = s.ring k)
      ∧ (∃ new, t.out = new ++ .hostWrite ((s.ring r).entryAddr 32 + 0x0E) (bytesLE 2 1) :: .hostWrite d.hostAddr (s.readRegion d.regionOff d.length) :: s.out))
  ∧ (∀ (dt : Nat) (x : Completion) (cs : List Completion) (s : State),
    s.host.held = x :: cs → (s.ring 0).phase = .enabled → 0 < (s.ring 0).free →
      Runs (.completionHeldDeliver dt) s fun t =>
      t.host.held = cs ∧ (t.ring 0).devIdx = (s.ring 0).devIdx + 1 ∧ (∀ k, k ≠ 0 → t.ring k = s.ring k)
      ∧ (∃ new, t.out = new ++ .hostWrite ((s.ring 0).entryAddr 128) x.bytes :: s.out) ∧ t.host.ops = s.host.ops)
  ∧ (∀ (dt : Nat) (s : State),
    (s.ring 0).phase ≠ .enabled → exec (.completionHeldDeliver dt) s = .next ((s.tick dt)).settle)

/-- An interrupt source moves as the table "Source states" gives. An edge latches an IDLE source as PENDING and an ACTIVE one as
ACTIVE_PENDING, and only counts for the others; it always adds one to ICU_COUNT. A write of 1 to its ICU_PEND bit takes PENDING to IDLE
and ACTIVE_PENDING to ACTIVE, and does not clear an edge of its own cycle. A completion takes ACTIVE to IDLE, or to PENDING for a level
source whose condition holds, and ACTIVE_PENDING to PENDING. None of them changes PRIO, TARGET or WAKE. -/
def Obligations.SourceStates : Prop :=
  ∀ (x : IcuSource) (now : Nat) (holds : Bool),
    (x.edge now).count = x.count + 1
    ∧ (x.edge now).phase = (match x.phase with
        | .idle => .pending | .pending => .pending | .active => .activePending | .activePending => .activePending)
    ∧ (x.clear now).phase = (if x.edgeAt = some now then x.phase else match x.phase with
        | .idle => .idle | .pending => .idle | .active => .active | .activePending => .active)
    ∧ (x.complete holds now).phase = (match x.phase with
        | .idle => .idle | .pending => .pending | .active => if holds then .pending else .idle | .activePending => .pending)
    ∧ (∀ y, y = x.edge now ∨ y = x.clear now ∨ y = x.complete holds now → y.prio = x.prio ∧ y.target = x.target ∧ y.wake = x.wake)
    ∧ (x.clear now).count = x.count ∧ (x.complete holds now).count = x.count

/-- The table of interrupt sources stays in rising order. The controller keeps its sources by rising number: after reset, and under
every edge, clearing write, configuration, claim, completion, hold-off end, redirection, mask change and re-evaluation of delivery. -/
def Obligations.SourceTableStaysSorted : Prop :=
  State.reset.icu.sorted
  ∧ ∀ (i : IcuState), i.sorted → ∀ (n t now k : Nat) (holds on : Bool) (c : SleepControl) (f : IcuSource → IcuSource),
      (i.edge n now).sorted ∧ (i.setSrc n f).sorted ∧ (i.claim t now).1.sorted ∧ (i.pend n now).sorted ∧ (i.complete t n holds now).sorted
      ∧ (i.holdExpire n now).sorted ∧ (i.redirect n now).sorted ∧ (i.control c on).sorted ∧ (i.eval now k).1.sorted

/-- A claim returns the best source a target presents, and makes it ACTIVE. A target presents the sources that are PENDING, routed to it
and of a PRIO above its effective threshold; the best of them has the highest PRIO, and among equals the lowest number. A read of
ICU_CLAIM returns it with VALID 1, it becomes ACTIVE with the target as its claimant, and the effective threshold rises to its PRIO;
where the target presents nothing the read returns VALID 0 and changes no source. A source that became pending with an edge of the
read's own cycle is kept for the next read, and one pending before that has such an edge becomes ACTIVE_PENDING. Hold-offs play no part. -/
def Obligations.ClaimTakesBestSource : Prop :=
  (∀ (dt k n : Nat) (s : State), k < 36 → s.icu.sorted →
      s.icu.bestOf ((s.icu.presented k).filter fun j => !(s.icu.src j).justNow (s.tick dt).now) = some n →
      exec (.icuClaim dt k) s = .next ({ s.tick dt with
        icu := s.icu.setSrc n (fun x =>
          if x.edgeAt = some (s.tick dt).now then
            { x with phase := .activePending, claimant := k, redirected := false, pendSince := (s.tick dt).now, pme := false }
          else { x with phase := .active, claimant := k, redirected := false })
        host := { s.host with readData := n + 256 * (s.icu.src n).prio + 2 ^ 31 } } : State).settle
      ∧ (s.icu.src n).phase = .pending ∧ s.icu.route n = k ∧ s.icu.effective k < (s.icu.src n).prio
      ∧ (∀ j, (s.icu.src j).phase = .pending → s.icu.route j = k → s.icu.effective k < (s.icu.src j).prio →
          (s.icu.src j).justNow (s.tick dt).now = false →
          (s.icu.src j).prio < (s.icu.src n).prio ∨ ((s.icu.src j).prio = (s.icu.src n).prio ∧ n ≤ j))
      ∧ (s.icu.claim k (s.tick dt).now).1.effective k = (s.icu.src n).prio)
  ∧ (∀ (dt k : Nat) (s : State), k < 36 → (∀ j ∈ s.icu.presented k, (s.icu.src j).justNow (s.tick dt).now = true) →
      exec (.icuClaim dt k) s = .next ({ s.tick dt with host := { s.host with readData := 0 } } : State).settle)
  ∧ (∀ (i : IcuState) (k j : Nat), i.sorted → (i.src j).phase = .pending → i.route j = k → i.effective k < (i.src j).prio →
      i.presented k ≠ [])

/-- Writes of the interrupt controller's registers change the sources, groups and targets they name. ICU_PEND_SET makes every assigned
source whose bit is 1 pend as an edge does; ICU_PEND clears those whose bit is 1; ICU_COMPLETE by the claiming target takes the source
out of ACTIVE, and by any other target sets BAD_COMPLETE and changes no source; ICU_SRC_CFG, ICU_GRP_CFG and ICU_THRESHOLD take their
fields, a TARGET or FALLBACK above 35 keeping the old one; a mask change takes effect; a hold-off ends when its time has come; a source
without WAKE whose target sleeps is redirected once the hold-off time has passed. Every other source, group and target stays. -/
def Obligations.InterruptController : Prop :=
  (∀ (dt p value : Nat) (s : State),
    p < 8 →
      Runs (.icuPendSet dt p value) s fun t =>
      (∀ n, n < 256 → n ≠ 0xA9 → ∃ b, t.icu.src n = { (if n / 32 = p ∧ bit value (n % 32) = true ∧ srcAssigned n = true then (s.icu.src n).pend (s.tick dt).now else s.icu.src n) with pme := b })
      ∧ t.host = s.host ∧ t.time = (s.tick dt).time ∧ t.mem = s.mem)
  ∧ (∀ (dt p value : Nat) (s : State),
    p < 8 →
      Runs (.icuPendClear dt p value) s fun t =>
      (∀ n, n < 256 → n ≠ 0xA9 → ∃ b, t.icu.src n = { (if n / 32 = p ∧ bit value (n % 32) = true then (s.icu.src n).clear (s.tick dt).now else s.icu.src n) with pme := b })
      ∧ t.host = s.host ∧ t.time = (s.tick dt).time ∧ t.mem = s.mem)
  ∧ (∀ (dt k n : Nat) (s : State),
    k < 36 → n < 256 → ((s.icu.src n).phase = .active ∨ (s.icu.src n).phase = .activePending) → (s.icu.src n).claimant = k →
      exec (.icuComplete dt k n) s = .next ({ (s.tick dt) with icu := (s.icu.setSrc n fun x => x.complete ((s.tick dt).levelHolds n) (s.tick dt).now).setTgt k fun y => { y with presenting := false } }).settle)
  ∧ (∀ (dt k n : Nat) (s : State),
    k < 36 → n < 256 → ((s.icu.src n).claimed = false ∨ (s.icu.src n).claimant ≠ k) →
      exec (.icuComplete dt k n) s = .next ({ (s.tick dt) with icu := s.icu.setTgt k fun y => { y with badComplete := true } }).settle)
  ∧ (∀ (dt value n : Nat) (s : State),
    n < 256 → bits value 4 6 ≤ 35 →
      exec (.icuConfigWrite dt (4 * n) value) s = .next ({ (s.tick dt) with icu := s.icu.setSrc n fun x => { x with prio := bits value 0 4, target := bits value 4 6, wake := bit value 10 } }).settle)
  ∧ (∀ (dt value g : Nat) (s : State),
    g < 16 → bits value 16 6 ≤ 35 →
      exec (.icuConfigWrite dt (0x460 + 4 * g) value) s = .next ({ (s.tick dt) with icu := { s.icu with groups := s.icu.groups.put g { s.icu.grp g with holdoffUs := bits value 0 16, fallback := bits value 16 6 } } }).settle)
  ∧ (∀ (dt value k : Nat) (s : State),
    k < 32 →
      exec (.icuConfigWrite dt (0x508 + 16 * k) value) s = .next ({ (s.tick dt) with icu := s.icu.setTgt k fun x => { x with threshold := bits value 0 4 } }).settle)
  ∧ (∀ (dt : Nat) (on : Bool) (v : Nat) (s : State),
    v < 32 →
      exec (.msixMaskChange dt (.vectorMask v) on) s = .next ({ (s.tick dt) with icu := s.icu.setTgt v fun x => { x with masked := on } }).settle)
  ∧ (∀ (dt : Nat) (on : Bool) (k : Nat) (s : State),
    k < 4 →
      exec (.msixMaskChange dt (.coreSleep k) on) s = .next ({ (s.tick dt) with icu := s.icu.setTgt (32 + k) fun x => { x with sleeping := on } }).settle)
  ∧ (∀ (dt : Nat) (on : Bool) (s : State),
    exec (.msixMaskChange dt .msixEnable on) s = .next ({ (s.tick dt) with icu := { s.icu with msixEnable := on } }).settle)
  ∧ (∀ (dt : Nat) (on : Bool) (s : State),
    exec (.msixMaskChange dt .functionMask on) s = .next ({ (s.tick dt) with icu := { s.icu with fnMask := on } }).settle)
  ∧ (∀ (dt : Nat) (on : Bool) (s : State),
    exec (.msixMaskChange dt .d3hot on) s = .next ({ (s.tick dt) with icu := { s.icu with d3hot := on } }).settle)
  ∧ (∀ (dt g x : Nat) (s : State),
    (s.icu.grp g).holdEnd = some x → x ≤ (s.tick dt).now →
      Runs (.icuHoldoffExpiry dt g) s fun t =>
      ∃ i : IcuState, (i.grp g).holdEnd = none ∧ (∀ h, h ≠ g → i.grp h = s.icu.grp h) ∧ i.sources = s.icu.sources
      ∧ (∀ k, (i.tgt k).threshold = (s.icu.tgt k).threshold ∧ (i.tgt k).masked = (s.icu.tgt k).masked) ∧ t = ({ (s.tick dt) with icu := i } : State).settle)
  ∧ (∀ (dt g : Nat) (s : State),
    ((s.icu.grp g).holdEnd = none ∨ (∃ x, (s.icu.grp g).holdEnd = some x ∧ (s.tick dt).now < x)) →
      exec (.icuHoldoffExpiry dt g) s = .next ((s.tick dt)).settle)
  ∧ (∀ (dt source : Nat) (s : State),
    (s.icu.src source).phase = .pending → (s.icu.src source).wake = false → (s.icu.src source).redirected = false →
      s.icu.asleep (s.icu.src source).target = true →
      (s.icu.src source).pendSince + (s.icu.grp (srcGroup source)).holdoffUs * 500 ≤ (s.tick dt).now →
      exec (.icuRedirect dt source) s = .next ({ (s.tick dt) with icu := s.icu.setSrc source fun x => { x with redirected := true } }).settle)
  ∧ (∀ (dt source : Nat) (s : State),
    ((s.icu.src source).wake = true ∨ (s.icu.src source).phase ≠ .pending ∨ s.icu.asleep (s.icu.src source).target = false) →
      exec (.icuRedirect dt source) s = .next ((s.tick dt)).settle)

/-- Memory errors are counted, logged, retired and poisoned as the ECC rules give. A parity error counts in ECC_PARITY_COUNT, sets its
sticky bit, is logged with MEM 5 and raises ECC_POISON. A word due for retirement takes a spare row of its bank where one is free and is
counted, else ROW_RETIRE has no effect on the word. A scrub read that finds one bad bit corrects it and counts it, one that finds more
poisons the word, and the pass goes on by one word. A write of ECC_FLIP_CTRL under test access takes ARM, MATCH and MEM, and without it
is ignored. A queue with a pointer mismatch resets: RESETS counts, QUEUE_FAULT is raised. -/
def Obligations.MemoryIntegrity : Prop :=
  (∀ (dt addr : Nat) (s : State),
    exec (.parityRestore dt addr) s = .next (({ (s.tick dt) with ecc := (({ s.ecc with parityCount := s.ecc.parityCount + 1 } : EccState).stick 3 (s.tick dt).now).note 5 addr 3 0 (posFrame (s.tick dt).pos) } : State).raise 0xA7).settle)
  ∧ (∀ (dt mem addr w : Nat) (s : State),
    w = wordOf mem addr → s.ecc.retireDue w = true → s.ecc.spares.getD (wordBank w) 0 < spareRows (wordMem w) →
      Runs (.eccRowRetire dt mem addr) s fun t =>
      t.ecc.spares.getD (wordBank w) 0 = s.ecc.spares.getD (wordBank w) 0 + 1 ∧ t.ecc.retired = s.ecc.retired ++ [wordRow w]
      ∧ t.ecc.retiredDram = s.ecc.retiredDram + b2n (wordMem w == 0) ∧ t.ecc.tracker = s.ecc.tracker.filter (·.word != w)
      ∧ t.ecc.poisoned = s.ecc.poisoned ∧ t.mem = s.mem)
  ∧ (∀ (dt mem addr : Nat) (s : State),
    s.ecc.retireDue (wordOf mem addr) = false → exec (.eccRowRetire dt mem addr) s = .next ((s.tick dt)).settle)
  ∧ (∀ (dt found syndrome : Nat) (s : State),
    s.ecc.errorsAt (scrubWord s.ecc.progress).1 found = 0 → (scrubWord s.ecc.progress).2 < memSizes.sum →
      exec (.scrubRead dt found syndrome) s = .next ({ (s.tick dt) with ecc := { s.ecc with progress := (scrubWord s.ecc.progress).2 } }).settle)
  ∧ (∀ (dt found syndrome w : Nat) (s : State),
    w = (scrubWord s.ecc.progress).1 → s.ecc.errorsAt w found = 2 → (scrubWord s.ecc.progress).2 < memSizes.sum →
      Runs (.scrubRead dt found syndrome) s fun t =>
      t.ecc.ueCount = s.ecc.ueCount + 1 ∧ w ∈ t.ecc.poisoned ∧ (∀ v, v ≠ w → (v ∈ t.ecc.poisoned ↔ v ∈ s.ecc.poisoned)) ∧ t.ecc.progress = (scrubWord s.ecc.progress).2 ∧ t.ecc.ceDram = s.ecc.ceDram)
  ∧ (∀ (dt found syndrome : Nat) (s : State),
    wordMem (scrubWord s.ecc.progress).1 = 0 → s.ecc.errorsAt (scrubWord s.ecc.progress).1 found = 1 →
      (scrubWord s.ecc.progress).2 < memSizes.sum →
      Runs (.scrubRead dt found syndrome) s fun t =>
      t.ecc.ceDram = s.ecc.ceDram + 1 ∧ t.ecc.poisoned = s.ecc.poisoned ∧ t.ecc.ueCount = s.ecc.ueCount ∧ t.ecc.progress = (scrubWord s.ecc.progress).2)
  ∧ (∀ (dt value : Nat) (s : State),
    s.host.eccOpen = true →
      exec (.eccFlipArm dt value) s = .next ({ (s.tick dt) with ecc := { s.ecc with arm := bit value 0, match_ := bit value 1, flipMem := bits value 4 4 } }).settle)
  ∧ (∀ (dt value : Nat) (s : State),
    s.host.eccOpen = false → exec (.eccFlipArm dt value) s = .next ((s.tick dt)).settle)
  ∧ (∀ (dt queue : Nat) (s : State),
    (queueClass queue).map (·.1) = some 0 → (s.icu.src 0xA8).count < 2 ^ 31 →
      Runs (.queueRebuild dt queue) s fun t =>
      (t.queue queue).resets = (s.queue queue).resets + 1 ∧ (t.queue queue).high = (s.queue queue).high
      ∧ (queue ≤ 7 → (t.time.captures.getD queue {}).queue = []) ∧ t.host = s.host ∧ t.ports = s.ports ∧ t.render = s.render ∧ (s.icu.src 0xA8).count < (t.icu.src 0xA8).count)
  ∧ (∀ (dt queue : Nat) (s : State),
    (∀ x, queueClass queue = some x → x.1 ≠ 0) → exec (.queueRebuild dt queue) s = .next ((s.tick dt)).settle)
  ∧ (∀ (dt m : Nat) (s t : State) (e : ExecReq) (c : Ctx) (p : Bytes),
    Running eccAccessSpec m dt s e c t p →
      exec (.eccAccess dt m) s = answers e c ({ t with host := { t.host with sessions := t.host.sessions.mapVal fun k x => if k = c.session then { x with eccAccess := fld p 0 1 == 1 } else x } }) .ok [])
  ∧ (∀ (dt m : Nat) (s t : State) (e : ExecReq) (c : Ctx) (p : Bytes),
    Running queueStatusSpec m dt s e c t p → fld p 2 1 = 0 → exec (.queueStatus dt m) s = answers e c t .ok (t.queueStatus (fld p 0 2)))
  ∧ (∀ (dt m : Nat) (s t : State) (e : ExecReq) (c : Ctx) (p : Bytes),
    Running queueWmSetSpec m dt s e c t p →
      exec (.queueWmSet dt m) s = answers e c ({ t with queues := t.queues.put (fld p 0 2) { t.queues.getD (fld p 0 2) { level := t.queueLevel (fld p 0 2) } with high := fld p 4 4, low := fld p 8 4 } }) .ok [])

/-- The show clock is started, and begins at START_FRAME. SHOW_CLOCK_START that passes its checks answers ACCEPTED, stores the timing
block, START_FRAME and ACQ_TIMEOUT, and the clock acquires its reference (or is locked at once where the reference is valid already). At
t(START_FRAME) the clock runs: its grid begins there with START_FRAME, the periods of nine frames are fixed one after the other, and
every SHOW_CLOCK_START operation ends. ACQ_TIMEOUT without a valid reference starts the clock in HOLDOVER 1 ms later. -/
def Obligations.ShowClockStartStop : Prop :=
  (∀ (dt m : Nat) (s t : State) (e : ExecReq) (c : Ctx) (p : Bytes),
    Running showClockStartSpec m dt s e c t p → timingDerivable (timingOf p) = true →
      latencyFits (viewAfter t.txn.view t.txn.waitingTxns).latencyUs (timingOf p).rateCode = true → t.clock.accepted = false →
      t.followsRef = true → t.refInputOn (timingOf p) = true → t.acceptFail = none →
      Runs (.showClockStart dt m) s fun u =>
      u.clock.accepted = true ∧ u.clock.block = timingOf p ∧ u.clock.startFrame = fld p 0x18 8 ∧ u.clock.acqTimeout = fld p 0x20 2
        ∧ (u.clock.phase = .acquiring ∨ u.clock.phase = .locked) ∧ u.clock.run = s.clock.run
        ∧ u.host.ops = s.host.ops ++ [{ id := s.host.nextOp, command := 0x0201, flags := c.flags, tag := c.tag, session := c.session, kind := .clockStart }]
        ∧ u.txn = s.txn ∧ u.time = s.time.tick dt)
  ∧ (∀ (dt : Nat) (x : Instant) (s : State),
    s.clock.startDue = some x → x ≤ (s.tick dt).tb → s.clock.run = false →
      Runs (.showClockStarts dt) s fun t =>
      t.clock.run = true ∧ t.clock.frame = s.clock.startFrame ∧ t.clock.startDue = none ∧ t.clock.grid.length = 9
      ∧ t.clock.grid.head?.map (fun g => (g.n, g.t)) = some (s.clock.startFrame, x)
      ∧ (∀ i g h, t.clock.grid[i]? = some g → t.clock.grid[i + 1]? = some h → h.n = g.n + 1 ∧ h.t = g.t + g.period)
      ∧ (∀ o ∈ t.host.ops, o.kind ≠ .clockStart) ∧ t.clock.block = s.clock.block)
  ∧ (∀ (dt : Nat) (s : State),
    (s.clock.startDue = none ∨ s.clock.run = true) → exec (.showClockStarts dt) s = .next ((s.tick dt)).settle)
  ∧ (∀ (dt : Nat) (s : State),
    s.followsRef = true → s.clock.phase = .acquiring → s.clock.acqTimeout ≠ 0 →
      s.clock.acqSince + s.clock.acqTimeout * cycSec ≤ (s.tick dt).now →
      Runs (.acqTimeout dt) s fun t =>
      t.clock.phase = .holdover ∧ t.clock.startDue = some ((s.tick dt).tb + usUnits 1000) ∧ t.clock.accepted = s.clock.accepted ∧ t.clock.block = s.clock.block ∧ t.txn = s.txn)
  ∧ (∀ (dt m : Nat) (s t : State) (e : ExecReq) (c : Ctx) (p : Bytes),
    Running showClockStatusSpec m dt s e c t p → exec (.showClockStatus dt m) s = answers e c t .ok t.clock.status)

/-- Boundaries advance the frame, and references are lost and found. A show boundary that is due advances the frame number by one, and
one that is not due changes nothing. An edge of a reference input that is ENABLED is recorded with its instant. An LTC word received is
stored and reported by TIM and status. A reference that meets its loss condition while the clock follows it puts the clock in HOLDOVER,
counts the loss and raises REF_LOST; where the clock has not started yet, the start then comes at the instant that the held length gives
(assumption 73, the model's choice). One that meets its validity condition while the clock acquires counts as valid from then, and in
HOLDOVER the clock locks again; before the start it slews (assumption 74, the model's reading). -/
def Obligations.ShowClockRuns : Prop :=
  (∀ (dt : Nat) (s : State),
    s.clock.run = true → (s.clock.predict (s.clock.frame + 1)).t ≤ (s.tick dt).tb → s.clock.change = none →
      Runs (.showBoundary dt) s fun t =>
      t.clock.frame = s.clock.frame + 1 ∧ t.clock.run = true ∧ t.clock.block = s.clock.block ∧ t.clock.phase = s.clock.phase ∧ t.txn = s.txn ∧ t.host.devFrame = s.host.devFrame)
  ∧ (∀ (dt : Nat) (s : State),
    (s.clock.run = false ∨ (s.tick dt).tb < (s.clock.predict (s.clock.frame + 1)).t) →
      exec (.showBoundary dt) s = .next ((s.tick dt)).settle)
  ∧ (∀ (dt key cycles back : Nat) (s : State),
    s.followsRef = true → s.keyOn key = true → key ≠ 1 → s.clock.accepted = false →
      exec (.referenceBoundary dt key cycles back) s = .next ((s.tick dt).setClock { s.clock with edges := s.clock.edges.put key (keptEdges key (((s.tick dt).tb - back, cycles) :: s.clock.edges.getD key [])), genlockAt := if key = 2 then some ((s.tick dt).tb - back) else s.clock.genlockAt }).settle)
  ∧ (∀ (dt key cycles back : Nat) (s : State),
    (s.followsRef = false ∨ s.keyOn key = false) → exec (.referenceBoundary dt key cycles back) s = .next ((s.tick dt)).settle)
  ∧ (∀ (dt word : Nat) (s : State),
    s.enabled 0x11 1 = true → s.followsRef = true → word < 2 ^ 32 → (s.clock.accepted = false ∨ s.clock.block.refKind ≠ 3) →
      exec (.ltcWord dt word) s = .next ((s.tick dt).setClock { s.clock with ltcWord := word, words := (((s.tick dt).tb, word) :: s.clock.words).take 16 }).settle)
  ∧ (∀ (dt : Nat) (s : State),
    s.followsRef = true → s.clock.accepted = true → (s.clock.phase = .locked ∨ s.clock.phase = .slewing) →
      (s.tick dt).refGone s.clock.block = true → s.clock.run = true →
      exec (.refLost dt) s = .next (((s.tick dt).setClock { s.clock with phase := .holdover, residual := 0, lossCount := s.clock.lossCount + 1 }).raise 0x35).settle)
  ∧ (∀ (dt : Nat) (s : State),
    s.followsRef = true → s.clock.accepted = true → (s.clock.phase = .locked ∨ s.clock.phase = .slewing) →
      (s.tick dt).refGone s.clock.block = true → s.clock.run = false →
      Runs (.refLost dt) s fun t =>
      t.clock.phase = .holdover ∧ t.clock.lossCount = s.clock.lossCount + 1 ∧ t.clock.validAt = s.clock.validAt ∧ t.clock.run = false ∧ t.clock.startFrame = s.clock.startFrame ∧ (s.clock.validAt.isSome = true → t.clock.startDue.isSome = true))
  ∧ (∀ (dt : Nat) (s : State),
    s.clock.phase ≠ .locked → s.clock.phase ≠ .slewing → exec (.refLost dt) s = .next ((s.tick dt)).settle)
  ∧ (∀ (dt : Nat) (s : State),
    s.followsRef = true → s.clock.accepted = true → (s.tick dt).refOk s.clock.block = true → s.clock.phase = .acquiring →
      exec (.refValid dt) s = .next ((s.tick dt).startFrom (s.tick dt).tb).settle)
  ∧ (∀ (dt : Nat) (s : State),
    s.followsRef = true → s.clock.accepted = true → (s.tick dt).refOk s.clock.block = true → s.clock.phase = .holdover →
      s.clock.run = true → exec (.refValid dt) s = .next (((s.tick dt).setClock (s.clock.relock (s.tick dt).tb)).raise 0x36).settle)
  ∧ (∀ (dt : Nat) (s : State),
    s.followsRef = true → s.clock.accepted = true → (s.tick dt).refOk s.clock.block = true → s.clock.phase = .holdover →
      s.clock.run = false → exec (.refValid dt) s = .next (((s.tick dt).setClock { s.clock with phase := .slewing }).raise 0x36).settle)

/-- The PTP engine takes the messages of its port, domain and parent. A two-step Sync of the parent is kept with its receive stamp until
its Follow_Up, which forms the sample: its offset is the receive stamp less origin, corrections and mean path delay. A Delay_Resp that
answers the outstanding request adds a path delay. A first Announce records the foreign master. A message of another port, domain or of
an ENABLED port's stranger changes nothing. Delay_Req is sent on an UP port to the parent. Without Announce for announceReceiptTimeout
the parent is lost and the port listens; without Sync for SYNC_LOSS intervals a following timebase enters HOLDOVER. -/
def Obligations.PtpEngine : Prop :=
  (∀ (dt : Nat) (msg : PtpTimed) (s : State),
    s.time.ptp.takes msg.via = true → s.portOn msg.via.port = true → msg.via.unicast = false → -7 ≤ msg.logSync → msg.logSync ≤ 1 →
      s.time.ptp.fromParent msg.source = true → s.ownServo = true → msg.twoStep = true →
      Runs (.ptpSyncRx dt msg) s fun t =>
      t.time.ptp.pendingSync = some ⟨msg.seq, (s.tick dt).stamp + s.time.cfg.corr msg.via.port false, msg.corr, msg.logSync⟩ ∧ t.time.ptp.parent = s.time.ptp.parent ∧ t.time.state = s.time.state ∧ t.time.rate = s.time.rate ∧ t.clock = s.clock)
  ∧ (∀ (dt : Nat) (msg : PtpTimed) (s : State),
    (s.time.ptp.takes msg.via = false ∨ s.portOn msg.via.port = false) → exec (.ptpSyncRx dt msg) s = .next ((s.tick dt)).settle)
  ∧ (∀ (dt : Nat) (msg : PtpTimed) (q : PendingSync) (s : State),
    s.time.ptp.takes msg.via = true → s.portOn msg.via.port = true → msg.via.unicast = false → s.time.ptp.fromParent msg.source = true →
      s.ownServo = true → s.time.ptp.pendingSync = some q → q.seq = msg.seq → s.time.ptp.delays ≠ [] →
      Runs (.ptpFollowUpRx dt msg) s fun t =>
      t.time.lastOffset = q.t2 - msg.stamp - msg.corr - q.corr - s.time.ptp.delay 0 ∧ t.time.lastSampleAt = some (s.tick dt).now ∧ t.time.ptp.pendingSync = none ∧ t.clock = s.clock)
  ∧ (∀ (dt : Nat) (msg : PtpTimed) (q : PendingDelayReq) (a b d : Int) (s : State),
    s.time.ptp.takes msg.via = true → s.portOn msg.via.port = true → msg.via.unicast = false → s.time.ptp.fromParent msg.source = true →
      s.time.ptp.pendingReq = some q → q.seq = msg.seq → s.time.ptp.lastT1 = some a → s.time.ptp.lastT2 = some b →
      d = roundDiv ((b - a) + (msg.stamp - q.t3 - msg.corr)) 2 → 0 ≤ d → d ≤ usUnits 10000 →
      Runs (.ptpDelayRespRx dt msg) s fun t =>
      t.time.ptp.delays = (d :: s.time.ptp.delays).take 8 ∧ t.time.ptp.pendingReq = none ∧ t.time.state = s.time.state ∧ t.time.rate = s.time.rate)
  ∧ (∀ (dt : Nat) (msg : PtpAnnounce) (s : State),
    s.time.ptp.takes msg.via = true → s.portOn msg.via.port = true → msg.via.unicast = false → -3 ≤ msg.data.logAnnounce →
      msg.data.logAnnounce ≤ 3 → s.time.ptp.foreign = [] → s.time.ptp.parent = none →
      Runs (.ptpAnnounceRx dt msg) s fun t =>
      t.time.ptp.foreign = [⟨msg.source, msg.data, 1, (s.tick dt).now, msg.via.mac, msg.via.ip⟩] ∧ t.time.ptp.parent = none ∧ t.time.ptp.portState = s.time.ptp.portState ∧ t.time.state = s.time.state)
  ∧ (∀ (dt : Nat) (u : State) (bs out : Bytes) (s : State),
    u = { (s.tick dt) with time := { (s.tick dt).time with ptp := { s.time.ptp with pendingReq := some ⟨s.time.ptp.reqSeq, (s.tick dt).stamp + s.time.cfg.corr s.time.ptp.cfg.port true⟩, reqSeq := (s.time.ptp.reqSeq + 1) % 65536 } } } →
      bs = delayReqFrame s.time.ptp.cfg (s.port s.time.ptp.cfg.port).cfg s.time.ptp.reqSeq (if s.time.ptp.cfg.delayAddr = 1 then s.time.ptp.parent.map (fun m => (m.mac, m.ip)) else none) →
      (u.protectOut s.time.ptp.cfg.port (s.port s.time.ptp.cfg.port).protects bs).2 = some out →
      (s.net.ports.getD s.time.ptp.cfg.port {}).up = true → (s.net.ports.getD s.time.ptp.cfg.port {}).pauseEnd = none →
      (s.net.ports.getD s.time.ptp.cfg.port {}).wireEnd = none → s.portOn s.time.ptp.cfg.port = true → s.time.ptp.cfg.port ≤ 4 →
      s.time.ptp.parent.isSome = true → (s.time.ptp.portState = .uncalibrated ∨ s.time.ptp.portState = .slave) →
      exec (.ptpDelayReqTx dt) s = .next (((u.protectOut s.time.ptp.cfg.port (s.port s.time.ptp.cfg.port).protects bs).1.ringFrame 124).putOnWire s.time.ptp.cfg.port false out).settle)
  ∧ (∀ (dt : Nat) (s : State),
    (s.tick dt).time.annDue = true →
      Runs (.announceReceiptTimeout dt) s fun t =>
      t.time.ptp.parent = none ∧ t.time.ptp.portState = .listening ∧ t.time.ptp.delays = [] ∧ t.time.ptp.pendingSync = none ∧ (s.time.following = true → t.time.state = .holdover) ∧ (s.time.following = false → t.time.state = s.time.state))
  ∧ (∀ (dt : Nat) (s : State),
    (s.tick dt).time.annDue = false → exec (.announceReceiptTimeout dt) s = .next ((s.tick dt)).settle)
  ∧ (∀ (dt : Nat) (s : State),
    (s.tick dt).time.syncLost = true → s.time.following = true →
      Runs (.syncLossTimeout dt) s fun t =>
      t.time.state = .holdover ∧ t.time.holdSince = (s.tick dt).now ∧ t.time.ptp.parent = s.time.ptp.parent)
  ∧ (∀ (dt : Nat) (s : State),
    (s.tick dt).time.syncLost = false → exec (.syncLossTimeout dt) s = .next ((s.tick dt)).settle)

/-- PTP_CONFIG, TIME_CONFIG and TIME_STEP change the timebase as their rules give. PTP_CONFIG restarts the port with its configuration,
defaults standing for zero, LISTENING or with port 0xFF DISABLED; a following timebase enters HOLDOVER. TIME_CONFIG stores its
configuration. TIME_STEP moves the timebase by the given difference at once, counts it, sets STEPPED, and answers the difference; no
position of the show moves. PTP_STATUS answers the engine's state. -/
def Obligations.TimebaseCommands : Prop :=
  (∀ (dt m : Nat) (s t : State) (e : ExecReq) (c : Ctx) (p : Bytes),
    Running ptpConfigSpec m dt s e c t p → (fld p 0 1 = 0xFF ∨ t.portOn (fld p 0 1) = true) →
      Runs (.ptpConfig dt m) s fun u =>
      u.time.ptp.cfg.port = fld p 0 1 ∧ u.time.ptp.cfg.domain = fld p 2 1 ∧ u.time.ptp.cfg.annTimeout = (if fld p 5 1 = 0 then 3 else fld p 5 1)
        ∧ u.time.ptp.portState = (if fld p 0 1 = 0xFF then .disabled else .listening) ∧ u.time.ptp.parent = none ∧ u.time.ptp.delays = []
        ∧ (s.time.following = true → u.time.state = .holdover) ∧ (s.time.following = false → u.time.state = s.time.state) ∧ u.clock = s.clock)
  ∧ (∀ (dt m : Nat) (s t : State) (e : ExecReq) (c : Ctx) (p : Bytes),
    Running ptpStatusSpec m dt s e c t p → exec (.ptpStatus dt m) s = answers e c t .ok t.time.ptpStatus)
  ∧ (∀ (dt m : Nat) (s t : State) (e : ExecReq) (c : Ctx) (p : Bytes),
    Running timeConfigSpec m dt s e c t p →
      exec (.timeConfig dt m) s = answers e c ({ t with time := { t.time with cfg := { jumpThrUs := (if fld p 0 4 = 0 then 1000 else fld p 0 4), slewPpm := (if fld p 4 2 = 0 then 100 else fld p 4 2), loopBwMilliHz := (if fld p 6 2 = 0 then 100 else fld p 6 2), holdAvgS := (if fld p 8 2 = 0 then 64 else fld p 8 2), portCorr := (List.range 10).map fun i => fldS p (12 + 2 * i) 2 } } }) .ok [])
  ∧ (∀ (dt m : Nat) (s t : State) (e : ExecReq) (c : Ctx) (p : Bytes),
    Running timeStepSpec m dt s e c t p → t.auditFull = false → (fld p 0 1 = 2 → t.time.sampleRecent = true) →
      Runs (.timeStep dt m) s fun u =>
      u.time.tb = t.time.tb + t.stepOf p * (tbUnit : Nat) ∧ u.time.stepCount = s.time.stepCount + 1 ∧ u.time.now = s.time.now + dt ∧ u.time.state = s.time.state ∧ u.time.rate = s.time.rate
        ∧ u.time.lastStep = t.stepOf p ∧ u.clock.frame = s.clock.frame ∧ u.clock.run = s.clock.run ∧ u.clock.phase = s.clock.phase
        ∧ u.pos = t.pos ∧ bit u.time.event.toNat 5 = true ∧ u.secure.auditNext = s.secure.auditNext + 1)
  ∧ (∀ (dt m : Nat) (s t : State) (e : ExecReq) (c : Ctx) (p : Bytes),
    Running timeStepSpec m dt s e c t p → t.auditFull = false → fld p 0 1 = 2 → t.time.sampleRecent = false →
      exec (.timeStep dt m) s = answers e c t .conflict [])

/-- Time pulses fire at their edges, and captures take stamps in order. PULSE_SET with MODE 0 ends the schedule of its output; with MODE
1 it sets a timebase schedule of one pulse, or one without end that starts at least 10 µs ahead, LATE where a single edge is less than
10 µs away. A due edge of an ENABLED output that comes at least 10 ns after the end of the pulse before it drives it active and counts;
one that comes sooner is skipped and sets PULSE_LATE; an output that reaches its width goes inactive. CAPTURE_SET chooses the edges; a
chosen edge of an ENABLED input puts a record with stamp, position and sequence number at the end of the queue of 16; a pop removes the
first record. TIM_CTRL.LATCH latches the timebase and the show position. -/
def Obligations.PulsesAndCaptures : Prop :=
  (∀ (dt m : Nat) (s t : State) (e : ExecReq) (c : Ctx) (p : Bytes),
    Running pulseSetSpec m dt s e c t p → fld p 1 1 = 0 →
      exec (.pulseSet dt m) s = answers e c (t.setPulse (fld p 0 1) { t.pulse (fld p 0 1) with sched := none, edges := 0 }) .ok [])
  ∧ (∀ (dt m : Nat) (s t : State) (e : ExecReq) (c : Ctx) (p : Bytes),
    Running pulseSetSpec m dt s e c t p → fld p 1 1 = 1 → fld p 8 4 = 1 → t.tb + usUnits 10 ≤ pulseStart p →
      exec (.pulseSet dt m) s = answers e c (t.setPulse (fld p 0 1) { t.pulse (fld p 0 1) with polarity := fld p 2 1, widthNs := fld p 4 4, sched := some { mode := 1, count := 1, start := pulseStart p, period := fld p 0x20 8, next := 0 }, edges := 0, mode := 1 }) .ok [])
  ∧ (∀ (dt m : Nat) (s t : State) (e : ExecReq) (c : Ctx) (p : Bytes),
    Running pulseSetSpec m dt s e c t p → fld p 1 1 = 1 → fld p 8 4 = 1 → pulseStart p < t.tb + usUnits 10 →
      exec (.pulseSet dt m) s = answers e c t .late [])
  ∧ (∀ (dt m : Nat) (s t : State) (e : ExecReq) (c : Ctx) (p : Bytes),
    Running pulseSetSpec m dt s e c t p → fld p 1 1 = 1 → fld p 8 4 = 0 → t.tb + usUnits 10 ≤ pulseStart p →
      exec (.pulseSet dt m) s = answers e c (t.setPulse (fld p 0 1) { t.pulse (fld p 0 1) with polarity := fld p 2 1, widthNs := fld p 4 4, sched := some { mode := 1, count := 0, start := pulseStart p, period := fld p 0x20 8, next := 0 }, edges := 0, mode := 1 }) .ok [])
  ∧ (∀ (dt output : Nat) (x : Instant) (s : State),
    output < 8 → s.nextEdge (s.pulse output) = some x → x ≤ (s.tick dt).tb + nsUnits 1 → s.enabled 0x0E output = true →
      (∀ y, (s.pulse output).endAt = some y → y + nsUnits 10 ≤ x) →
      Runs (.pulseEdge dt output) s fun t =>
      (t.pulse output).driving = true ∧ (t.pulse output).endAt = some ((s.tick dt).tb + nsUnits (s.pulse output).widthNs) ∧ (t.pulse output).edges = (s.pulse output).edges + 1
      ∧ (∃ new, t.out = new ++ .pulse output (s.tick dt).tb true :: s.out) ∧ (∀ k, k ≠ output → t.pulse k = s.pulse k))
  ∧ (∀ (dt output : Nat) (x y : Instant) (s : State),
    output < 8 → s.nextEdge (s.pulse output) = some x → x ≤ (s.tick dt).tb + nsUnits 1 → s.enabled 0x0E output = true →
      (s.pulse output).endAt = some y → x < y + nsUnits 10 →
      Runs (.pulseEdge dt output) s fun t =>
      (t.pulse output).driving = (s.pulse output).driving ∧ (t.pulse output).endAt = some y ∧ (t.pulse output).edges = (s.pulse output).edges ∧ bit t.time.event.toNat (16 + output) = true
      ∧ t.fns = s.fns ∧ (∀ k, k ≠ output → t.pulse k = s.pulse k))
  ∧ (∀ (dt output : Nat) (y : Instant) (s : State),
    output < 8 → (s.pulse output).driving = true → (s.pulse output).endAt = some y → y ≤ (s.tick dt).tb + nsUnits 1 →
      exec (.pulseEnd dt output) s = .next (((s.tick dt).setPulse output { s.pulse output with driving := false }).emit (.pulse output (s.tick dt).tb false)).settle)
  ∧ (∀ (dt m : Nat) (s t : State) (e : ExecReq) (c : Ctx) (p : Bytes),
    Running captureSetSpec m dt s e c t p →
      exec (.captureSet dt m) s = answers e c ({ t with time := { t.time with captures := t.time.captures.put (fld p 0 1) { t.capture (fld p 0 1) with edges := fld p 1 1 } } }) .ok [])
  ∧ (∀ (dt input : Nat) (rising : Bool) (s : State),
    input < 8 → s.enabled 0x0F input = true → bit (s.capture input).edges (if rising then 0 else 1) = true →
      (s.capture input).lastEdge = none → (s.capture input).queue.length < 16 →
      Runs (.captureEdge dt input rising) s fun t =>
      (t.capture input).queue = (s.capture input).queue ++ [⟨(s.tick dt).stamp, (s.tick dt).pos, rising, (s.capture input).seq⟩] ∧ (t.capture input).seq = ((s.capture input).seq + 1) % 65536 ∧ (∀ k, k ≠ input → t.capture k = s.capture k))
  ∧ (∀ (dt input : Nat) (rising : Bool) (s : State),
    input < 8 → (s.enabled 0x0F input = false ∨ (s.capture input).edges = 0) →
      exec (.captureEdge dt input rising) s = .next ((s.tick dt)).settle)
  ∧ (∀ (dt : Nat) (s : State),
    exec (.timLatch dt) s = .next ({ (s.tick dt) with time := { (s.tick dt).time with latch := ⟨(s.tick dt).stamp, (s.tick dt).pos⟩ } }).settle)
  ∧ (∀ (dt input : Nat) (s : State),
    input < 8 →
      exec (.timCapPop dt input) s = .next ({ (s.tick dt) with time := { (s.tick dt).time with captures := s.time.captures.put input { s.capture input with queue := (s.capture input).queue.drop 1 } } }).settle)

/-- Writes to the timing, the profiles, the patch, the base values and the cue store, and actions. A write that carries IN_TXN, passes
the checks against the view of its transaction and fits in the staging store answers OK, stands at the end of its transaction, and
changes nothing else of the device; the view of the transaction is the old one with the effect of the command: SHOW_TIMING_SET stages
the timing change, PROFILE_LOAD defines the profile with the image that it read, PROFILE_DELETE removes it, PATCH_WRITE applies its
records in order and answers no FAIL_INDEX and the words in use, PATCH_CLEAR unpatches its range, PARAM_WRITE applies its entries in
order. The objects that a write leaves are those of its records. SOURCE_DELETE removes the list, instance or table, and drops the staged
actions of the object; EFFECT_DEFINE stores the definition with its members, inline or from the host region; EFFECT_TABLE_LOAD stores
its 256 points; PLAYBACK_ACTION stages its action records in order. Each answers OK and changes nothing but its transaction. -/
def Obligations.ShowWritesOfPatchCuesAndEffects : Prop :=
  (∀ (dt m : Nat) (s t : State) (e : ExecReq) (c : Ctx) (p d : Bytes) (x : TxnSlot),
    Running (ShowCmd.spec .timingSet) m dt s e c t p → Stages .timingSet c t p d x →
      exec (.showTimingSet dt m) s = answers e c (t.staged c.slot x ⟨0x0202, p, d⟩) .ok []
      ∧ (x.stage ⟨0x0202, p, d⟩).view = { x.view with timing := some ⟨timingOf p, fld p 0x18 8, fld p 0x20 1⟩, objects := putObjects x.view.objects ([(objId 2 2 (0), some p)]) })
  ∧ (∀ (dt m : Nat) (s t : State) (e : ExecReq) (c : Ctx) (p d : Bytes) (x : TxnSlot),
    Running (ShowCmd.spec .profileLoad) m dt s e c t p → Stages .profileLoad c t p d x →
      exec (.profileLoad dt m) s = answers e c (t.staged c.slot x ⟨0x0301, p, d⟩) .ok []
      ∧ (x.stage ⟨0x0301, p, d⟩).view = { x.view with patch := { x.view.patch with profiles := x.view.patch.profiles.put (fld p 0 2) d }, objects := putObjects x.view.objects ([(objId 3 1 (fld p 0 2), some d)]) })
  ∧ (∀ (dt m : Nat) (s t : State) (e : ExecReq) (c : Ctx) (p d : Bytes) (x : TxnSlot),
    Running (ShowCmd.spec .profileDelete) m dt s e c t p → Stages .profileDelete c t p d x →
      exec (.profileDelete dt m) s = answers e c (t.staged c.slot x ⟨0x0302, p, d⟩) .ok []
      ∧ (x.stage ⟨0x0302, p, d⟩).view = { x.view with patch := { x.view.patch with profiles := x.view.patch.profiles.del (fld p 0 2) }, objects := putObjects x.view.objects ([(objId 3 1 (fld p 0 2), none)]) })
  ∧ (∀ (dt m : Nat) (s t : State) (e : ExecReq) (c : Ctx) (p d : Bytes) (x : TxnSlot),
    Running (ShowCmd.spec .patchWrite) m dt s e c t p → Stages .patchWrite c t p d x →
      exec (.patchWrite dt m) s = answers e c (t.staged c.slot x ⟨0x0310, p, d⟩) .ok (bytesLE 4 0xFFFFFFFF ++ bytesLE 4 ((patchRecords p d).foldl applyPatchRec x.view.patch).wordsInUse)
      ∧ (x.stage ⟨0x0310, p, d⟩).view = { x.view with patch := (patchRecords p d).foldl applyPatchRec x.view.patch, objects := putObjects x.view.objects (((patchRecords p d).map fun r => (objId 3 0x10 (fld r 0 4), some r)) ++ (basesWritten x.view.patch (patchRecords p d)).eraseDups.map (baseObject { x.view with patch := (patchRecords p d).foldl applyPatchRec x.view.patch })) })
  ∧ (∀ (dt m : Nat) (s t : State) (e : ExecReq) (c : Ctx) (p d : Bytes) (x : TxnSlot),
    Running (ShowCmd.spec .patchClear) m dt s e c t p → Stages .patchClear c t p d x →
      exec (.patchClear dt m) s = answers e c (t.staged c.slot x ⟨0x0311, p, d⟩) .ok []
      ∧ (x.stage ⟨0x0311, p, d⟩).view = { x.view with 
          patch := { x.view.patch with
            patch := x.view.patch.patch.filter fun r => !(fld p 0 4 ≤ r.1 && r.1 < fld p 0 4 + fld p 4 4)
            pool := x.view.patch.pool.filter fun r => !(fld p 0 4 ≤ r.1 && r.1 < fld p 0 4 + fld p 4 4) }
          objects := putObjects x.view.objects ((x.view.patch.patch.range (fld p 0 4) (fld p 0 4 + fld p 4 4)).flatMap fun r => [(objId 3 0x10 r.1, none), (objId 3 0x20 r.1, none)]) })
  ∧ (∀ (dt m : Nat) (s t : State) (e : ExecReq) (c : Ctx) (p d : Bytes) (x : TxnSlot),
    Running (ShowCmd.spec .paramWrite) m dt s e c t p → Stages .paramWrite c t p d x →
      exec (.paramWrite dt m) s = answers e c (t.staged c.slot x ⟨0x0320, p, d⟩) .ok []
      ∧ (x.stage ⟨0x0320, p, d⟩).view = { x.view with patch := (paramEntries p).foldl applyParamEntry x.view.patch, objects := putObjects x.view.objects (((paramEntries p).map fun r => r.1 / 128).eraseDups.map (baseObject { x.view with patch := (paramEntries p).foldl applyParamEntry x.view.patch })) })
  ∧ (∀ (dt m : Nat) (s t : State) (e : ExecReq) (c : Ctx) (p d : Bytes) (x : TxnSlot),
    Running (ShowCmd.spec .sourceDelete) m dt s e c t p → Stages .sourceDelete c t p d x →
      exec (.sourceDelete dt m) s = answers e c (t.staged c.slot x ⟨0x0402, p, d⟩) .ok []
      ∧ (x.stage ⟨0x0402, p, d⟩).view = { x.view with 
          cues := if fld p 0 1 = 0 then
            { x.view.cues with lists := x.view.cues.lists.del (fld p 2 2), deleted := x.view.cues.deleted ++ [fld p 2 2],
                               actions := x.view.cues.actions.filter fun a => !(a.kind == 0 && a.target == fld p 2 2) }
          else if fld p 0 1 = 1 then
            { x.view.cues with effects := x.view.cues.effects.del (fld p 2 2), deleted := x.view.cues.deleted ++ [65536 + fld p 2 2],
                               actions := x.view.cues.actions.filter fun a => !(a.kind == 1 && a.target == fld p 2 2) }
          else { x.view.cues with tables := x.view.cues.tables.del (fld p 2 2) }
          objects := putObjects x.view.objects ([(objId 4 (if fld p 0 1 = 0 then 1 else if fld p 0 1 = 1 then 0x10 else 0x11) (fld p 2 2), none)]) })
  ∧ (∀ (dt m : Nat) (s t : State) (e : ExecReq) (c : Ctx) (p d : Bytes) (x : TxnSlot),
    Running (ShowCmd.spec .effectDefine) m dt s e c t p → Stages .effectDefine c t p d x →
      exec (.effectDefine dt m) s = answers e c (t.staged c.slot x ⟨0x0410, p, d⟩) .ok []
      ∧ (x.stage ⟨0x0410, p, d⟩).view = { x.view with cues := { x.view.cues with effects := x.view.cues.effects.put (effInstance p) ⟨p.take 64, effMembers p d⟩ }, objects := putObjects x.view.objects ([(objId 4 0x10 (fld p 0 2), some (p ++ d))]) })
  ∧ (∀ (dt m : Nat) (s t : State) (e : ExecReq) (c : Ctx) (p d : Bytes) (x : TxnSlot),
    Running (ShowCmd.spec .effectTableLoad) m dt s e c t p → Stages .effectTableLoad c t p d x →
      exec (.effectTableLoad dt m) s = answers e c (t.staged c.slot x ⟨0x0411, p, d⟩) .ok []
      ∧ (x.stage ⟨0x0411, p, d⟩).view = { x.view with cues := { x.view.cues with tables := x.view.cues.tables.put (fld p 0 2) (p.drop 8) }, objects := putObjects x.view.objects ([(objId 4 0x11 (fld p 0 2), some p)]) })
  ∧ (∀ (dt m : Nat) (s t : State) (e : ExecReq) (c : Ctx) (p d : Bytes) (x : TxnSlot),
    Running (ShowCmd.spec .playbackAction) m dt s e c t p → Stages .playbackAction c t p d x →
      exec (.playbackAction dt m) s = answers e c (t.staged c.slot x ⟨0x0420, p, d⟩) .ok []
      ∧ (x.stage ⟨0x0420, p, d⟩).view = { x.view with cues := { x.view.cues with actions := x.view.cues.actions ++ (actionBytes p).map actionOf }, objects := putObjects x.view.objects ([]) })

/-- Writes to layers, policies and live inputs. LAYER_SET stores the layer; POLICY_SET overrides the policy of its run of addresses, or
removes overrides; SACN_RX_SET and DMX_IN_SET define, replace or remove an input with its map; VIDEO_IN_SET stores the input;
VIDEO_SAMPLE_SET applies its records in order, and answers no FAIL_INDEX and the number of samples; VIDEO_MAP_SET defines, replaces or
removes a map. Each answers OK and changes nothing but its transaction. -/
def Obligations.ShowWritesOfInputsAndMerge : Prop :=
  (∀ (dt m : Nat) (s t : State) (e : ExecReq) (c : Ctx) (p d : Bytes) (x : TxnSlot),
    Running (ShowCmd.spec .layerSet) m dt s e c t p → Stages .layerSet c t p d x →
      exec (.layerSet dt m) s = answers e c (t.staged c.slot x ⟨0x0501, p, d⟩) .ok []
      ∧ (x.stage ⟨0x0501, p, d⟩).view = { x.view with inputs := { x.view.inputs with layers := x.view.inputs.layers.put (fld p 0 1) ⟨fld p 1 1, fld p 2 2, fld p 4 4⟩ }, objects := putObjects x.view.objects ([(objId 5 1 (fld p 0 1), some p)]) })
  ∧ (∀ (dt m : Nat) (s t : State) (e : ExecReq) (c : Ctx) (p d : Bytes) (x : TxnSlot),
    Running (ShowCmd.spec .policySet) m dt s e c t p → Stages .policySet c t p d x →
      exec (.policySet dt m) s = answers e c (t.staged c.slot x ⟨0x0502, p, d⟩) .ok []
      ∧ (x.stage ⟨0x0502, p, d⟩).view = { x.view with 
          inputs := { x.view.inputs with
            overrides := if fld p 8 1 = 0xFF then cutRuns x.view.inputs.overrides (fld p 0 4) (fld p 0 4 + fld p 4 4)
              else insertRun (cutRuns x.view.inputs.overrides (fld p 0 4) (fld p 0 4 + fld p 4 4)) ⟨fld p 0 4, fld p 4 4, fld p 8 1⟩ }
          objects := putObjects x.view.objects (policyObjects x.view { x.view with inputs := applyPolicySet x.view.inputs p }) })
  ∧ (∀ (dt m : Nat) (s t : State) (e : ExecReq) (c : Ctx) (p d : Bytes) (x : TxnSlot),
    Running (ShowCmd.spec .sacnRxSet) m dt s e c t p → Stages .sacnRxSet c t p d x →
      exec (.sacnRxSet dt m) s = answers e c (t.staged c.slot x ⟨0x0510, p, d⟩) .ok []
      ∧ (x.stage ⟨0x0510, p, d⟩).view = { x.view with inputs := { x.view.inputs with sacn := if bit (fld p 3 1) 0 then x.view.inputs.sacn.put (fld p 0 2) (rxDefOf p) else x.view.inputs.sacn.del (fld p 0 2) }, objects := putObjects x.view.objects ([(objId 5 0x10 (fld p 0 2), if bit (fld p 3 1) 0 then some p else none)]) })
  ∧ (∀ (dt m : Nat) (s t : State) (e : ExecReq) (c : Ctx) (p d : Bytes) (x : TxnSlot),
    Running (ShowCmd.spec .dmxInSet) m dt s e c t p → Stages .dmxInSet c t p d x →
      exec (.dmxInSet dt m) s = answers e c (t.staged c.slot x ⟨0x0511, p, d⟩) .ok []
      ∧ (x.stage ⟨0x0511, p, d⟩).view = { x.view with inputs := { x.view.inputs with dmxIn := if bit (fld p 3 1) 0 then x.view.inputs.dmxIn.put (fld p 0 2) (rxDefOf p) else x.view.inputs.dmxIn.del (fld p 0 2) }, objects := putObjects x.view.objects ([(objId 5 0x11 (fld p 0 2), if bit (fld p 3 1) 0 then some p else none)]) })
  ∧ (∀ (dt m : Nat) (s t : State) (e : ExecReq) (c : Ctx) (p d : Bytes) (x : TxnSlot),
    Running (ShowCmd.spec .videoInSet) m dt s e c t p → Stages .videoInSet c t p d x →
      exec (.videoInSet dt m) s = answers e c (t.staged c.slot x ⟨0x0530, p, d⟩) .ok []
      ∧ (x.stage ⟨0x0530, p, d⟩).view = { x.view with inputs := { x.view.inputs with videoIn := x.view.inputs.videoIn.put (fld p 0 1) p }, objects := putObjects x.view.objects ([(objId 5 0x30 (fld p 0 1), some p)]) })
  ∧ (∀ (dt m : Nat) (s t : State) (e : ExecReq) (c : Ctx) (p d : Bytes) (x : TxnSlot),
    Running (ShowCmd.spec .videoSampleSet) m dt s e c t p → Stages .videoSampleSet c t p d x →
      exec (.videoSampleSet dt m) s = answers e c (t.staged c.slot x ⟨0x0531, p, d⟩) .ok (bytesLE 4 0xFFFFFFFF ++ bytesLE 4 ((sampleRecords p d).foldl applySampleRec x.view.inputs).samples.length)
      ∧ (x.stage ⟨0x0531, p, d⟩).view = { x.view with inputs := (sampleRecords p d).foldl applySampleRec x.view.inputs, objects := putObjects x.view.objects (recordObjects 5 0x31 (fun r => fld r 0 4 * 8 + fld r 11 1) (fun r => fld r 14 2 == 0) (sampleRecords p d)) })
  ∧ (∀ (dt m : Nat) (s t : State) (e : ExecReq) (c : Ctx) (p d : Bytes) (x : TxnSlot),
    Running (ShowCmd.spec .videoMapSet) m dt s e c t p → Stages .videoMapSet c t p d x →
      exec (.videoMapSet dt m) s = answers e c (t.staged c.slot x ⟨0x0532, p, d⟩) .ok []
      ∧ (x.stage ⟨0x0532, p, d⟩).view = { x.view with inputs := { x.view.inputs with maps := if bit (fld p 4 1) 0 then x.view.inputs.maps.put (fld p 0 1) (videoMapOf p) else x.view.inputs.maps.del (fld p 0 1) }, objects := putObjects x.view.objects ([(objId 5 0x32 (fld p 0 1), if bit (fld p 4 1) 0 then some p else none)]) })

/-- Writes to calibrations, regions, feeders, canvases, segments, pixel maps, rectangle checks and slices. CALIB_SET, REGION_SET and
PIXEL_MAP_SET apply their records in order, each defining, replacing or removing, and answer no FAIL_INDEX and how many there are;
FEEDER_SET defines, replaces or removes the feeder; FEEDER_MEMBER_SET moves each fixture in or out; CANVAS_SET defines or removes the
canvas; SEGMENT_SET replaces or removes the segments of the lane; RECT_CHECK_SET defines or removes each rectangle; SLICE_MODE_SET
stores the mode of the canvas. Each answers OK and changes nothing but its transaction. -/
def Obligations.ShowWritesOfColourAndCanvases : Prop :=
  (∀ (dt m : Nat) (s t : State) (e : ExecReq) (c : Ctx) (p d : Bytes) (x : TxnSlot),
    Running (ShowCmd.spec .calibSet) m dt s e c t p → Stages .calibSet c t p d x →
      exec (.calibSet dt m) s = answers e c (t.staged c.slot x ⟨0x0601, p, d⟩) .ok (bytesLE 4 0xFFFFFFFF ++ bytesLE 4 ((sourceRecords 288 p d).foldl applyCalibRec x.view.colour).calib.length)
      ∧ (x.stage ⟨0x0601, p, d⟩).view = { x.view with colour := (sourceRecords 288 p d).foldl applyCalibRec x.view.colour, objects := putObjects x.view.objects (recordObjects 6 1 (fun r => fld r 0 4) (fun r => calEmitters r == 0) (sourceRecords 288 p d)) })
  ∧ (∀ (dt m : Nat) (s t : State) (e : ExecReq) (c : Ctx) (p d : Bytes) (x : TxnSlot),
    Running (ShowCmd.spec .regionSet) m dt s e c t p → Stages .regionSet c t p d x →
      exec (.regionSet dt m) s = answers e c (t.staged c.slot x ⟨0x0610, p, d⟩) .ok (bytesLE 4 0xFFFFFFFF ++ bytesLE 4 ((sourceRecords 96 p d).foldl applyRegionRec x.view.colour).regions.length)
      ∧ (x.stage ⟨0x0610, p, d⟩).view = { x.view with colour := (sourceRecords 96 p d).foldl applyRegionRec x.view.colour, objects := putObjects x.view.objects (recordObjects 6 0x10 (fun r => fld r 0 2) (fun r => regCanvas r == 0xFF) (sourceRecords 96 p d)) })
  ∧ (∀ (dt m : Nat) (s t : State) (e : ExecReq) (c : Ctx) (p d : Bytes) (x : TxnSlot),
    Running (ShowCmd.spec .feederSet) m dt s e c t p → Stages .feederSet c t p d x →
      exec (.feederSet dt m) s = answers e c (t.staged c.slot x ⟨0x0620, p, d⟩) .ok []
      ∧ (x.stage ⟨0x0620, p, d⟩).view = { x.view with colour := { x.view.colour with feeders := if fdMode p = 0 then x.view.colour.feeders.del (fld p 0 1) else x.view.colour.feeders.put (fld p 0 1) p }, objects := putObjects x.view.objects ([(objId 6 0x20 (fld p 0 1), if fdMode p = 0 then none else some p)]) })
  ∧ (∀ (dt m : Nat) (s t : State) (e : ExecReq) (c : Ctx) (p d : Bytes) (x : TxnSlot),
    Running (ShowCmd.spec .feederMemberSet) m dt s e c t p → Stages .feederMemberSet c t p d x →
      exec (.feederMemberSet dt m) s = answers e c (t.staged c.slot x ⟨0x0621, p, d⟩) .ok []
      ∧ (x.stage ⟨0x0621, p, d⟩).view = { x.view with 
          colour := (memberEntries p).foldl (fun v r =>
            { v with members := if fld r 4 1 = 0xFF then v.members.del (fld r 0 4) else v.members.put (fld r 0 4) (fld r 4 1, fld r 5 1) }) x.view.colour
          objects := putObjects x.view.objects (recordObjects 6 0x21 (fun r => fld r 0 4) (fun r => fld r 4 1 == 0xFF) (memberEntries p)) })
  ∧ (∀ (dt m : Nat) (s t : State) (e : ExecReq) (c : Ctx) (p d : Bytes) (x : TxnSlot),
    Running (ShowCmd.spec .canvasSet) m dt s e c t p → Stages .canvasSet c t p d x →
      exec (.canvasSet dt m) s = answers e c (t.staged c.slot x ⟨0x0701, p, d⟩) .ok []
      ∧ (x.stage ⟨0x0701, p, d⟩).view = { x.view with canvas := { x.view.canvas with canvases := if bit (fld p 1 1) 0 then x.view.canvas.canvases.put (fld p 0 1) (canvasOf p) else x.view.canvas.canvases.del (fld p 0 1) }, objects := putObjects x.view.objects ([(objId 7 1 (fld p 0 1), if bit (fld p 1 1) 0 then some p else none)]) })
  ∧ (∀ (dt m : Nat) (s t : State) (e : ExecReq) (c : Ctx) (p d : Bytes) (x : TxnSlot),
    Running (ShowCmd.spec .segmentSet) m dt s e c t p → Stages .segmentSet c t p d x →
      exec (.segmentSet dt m) s = answers e c (t.staged c.slot x ⟨0x0702, p, d⟩) .ok []
      ∧ (x.stage ⟨0x0702, p, d⟩).view = { x.view with canvas := { x.view.canvas with segments := if fld p 1 1 = 0xFF then x.view.canvas.segments.del (fld p 0 1) else x.view.canvas.segments.put (fld p 0 1) ⟨fld p 1 1, bit (fld p 3 1) 0, fld p 4 4, segRects p⟩ }, objects := putObjects x.view.objects ([(objId 7 2 (fld p 0 1), if fld p 1 1 = 0xFF then none else some p)]) })
  ∧ (∀ (dt m : Nat) (s t : State) (e : ExecReq) (c : Ctx) (p d : Bytes) (x : TxnSlot),
    Running (ShowCmd.spec .pixelMapSet) m dt s e c t p → Stages .pixelMapSet c t p d x →
      exec (.pixelMapSet dt m) s = answers e c (t.staged c.slot x ⟨0x0703, p, d⟩) .ok ((ShowCmd.check .pixelMapSet (t.checkEnv t.txn.waitingTxns c.db) x.view p d).resp)
      ∧ (x.stage ⟨0x0703, p, d⟩).view = { x.view with canvas := (sourceRecords 32 p d).foldl applyPixmapRec x.view.canvas, objects := putObjects x.view.objects (recordObjects 7 3 (fun r => fld r 0 4) (fun r => fld r 4 1 == 0xFF) (sourceRecords 32 p d)) })
  ∧ (∀ (dt m : Nat) (s t : State) (e : ExecReq) (c : Ctx) (p d : Bytes) (x : TxnSlot),
    Running (ShowCmd.spec .rectCheckSet) m dt s e c t p → Stages .rectCheckSet c t p d x →
      exec (.rectCheckSet dt m) s = answers e c (t.staged c.slot x ⟨0x0704, p, d⟩) .ok []
      ∧ (x.stage ⟨0x0704, p, d⟩).view = { x.view with 
          canvas := (rectRecords p).foldl (fun v r =>
            { v with checks := if bit (fld r 1 1) 0 then
                v.checks.put (fld p 0 1 * 16 + fld r 0 1) ⟨bit (fld r 1 1) 1, bit (fld r 1 1) 2, rectOf r, fld r 12 4⟩
              else v.checks.del (fld p 0 1 * 16 + fld r 0 1) }) x.view.canvas
          objects := putObjects x.view.objects (recordObjects 7 4 (fun r => fld p 0 1 * 16 + fld r 0 1) (fun r => !bit (fld r 1 1) 0) (rectRecords p)) })
  ∧ (∀ (dt m : Nat) (s t : State) (e : ExecReq) (c : Ctx) (p d : Bytes) (x : TxnSlot),
    Running (ShowCmd.spec .sliceModeSet) m dt s e c t p → Stages .sliceModeSet c t p d x →
      exec (.sliceModeSet dt m) s = answers e c (t.staged c.slot x ⟨0x0204, p, d⟩) .ok []
      ∧ (x.stage ⟨0x0204, p, d⟩).view = { x.view with canvas := { x.view.canvas with slices := x.view.canvas.slices.put (fld p 0 1) (sliceOf p) }, objects := putObjects x.view.objects ([(objId 2 4 (fld p 0 1), some p)]) })

/-- Writes to curves, output groups, temperatures, safety, ports and the network show. CURVE_LOAD stores or deletes a curve;
OUTPUT_GROUP_SET, TEMP_SOURCE_SET, DERATE_SET and SAFETY_GROUP_SET apply their entries in order, removing a safety group with its
members; SAFETY_MEMBER_SET applies its records and answers how many members there are; SAFETY_CLEAR stages its clears and forced faults;
LANE_SET, DMX_PORT_SET, PWM_SET and SACN_TX_CONFIG store their settings; SACN_TX_UNIVERSE_SET applies its records; PARTITION_SET
replaces the partition. Each answers OK and changes nothing but its transaction. -/
def Obligations.ShowWritesOfOutputsAndPorts : Prop :=
  (∀ (dt m : Nat) (s t : State) (e : ExecReq) (c : Ctx) (p d : Bytes) (x : TxnSlot),
    Running (ShowCmd.spec .curveLoad) m dt s e c t p → Stages .curveLoad c t p d x →
      exec (.curveLoad dt m) s = answers e c (t.staged c.slot x ⟨0x0801, p, d⟩) .ok []
      ∧ (x.stage ⟨0x0801, p, d⟩).view = { x.view with output := { x.view.output with curves := if bit (fld p 1 1) 0 then x.view.output.curves.del (fld p 0 1) else x.view.output.curves.put (fld p 0 1) d }, objects := putObjects x.view.objects ([(objId 8 1 (fld p 0 1), if bit (fld p 1 1) 0 then none else some d)]) })
  ∧ (∀ (dt m : Nat) (s t : State) (e : ExecReq) (c : Ctx) (p d : Bytes) (x : TxnSlot),
    Running (ShowCmd.spec .outputGroupSet) m dt s e c t p → Stages .outputGroupSet c t p d x →
      exec (.outputGroupSet dt m) s = answers e c (t.staged c.slot x ⟨0x0802, p, d⟩) .ok []
      ∧ (x.stage ⟨0x0802, p, d⟩).view = { x.view with 
          output := (groupEntries p).foldl (fun v r =>
            { v with groups := if fld r 4 1 = 0xFF then v.groups.del (fld r 0 2) else v.groups.put (fld r 0 2) ⟨fld r 2 1, fld r 3 1, fld r 4 1⟩ }) x.view.output
          objects := putObjects x.view.objects (recordObjects 8 2 (fun r => fld r 0 2) (fun r => fld r 4 1 == 0xFF) (groupEntries p)) })
  ∧ (∀ (dt m : Nat) (s t : State) (e : ExecReq) (c : Ctx) (p d : Bytes) (x : TxnSlot),
    Running (ShowCmd.spec .tempSourceSet) m dt s e c t p → Stages .tempSourceSet c t p d x →
      exec (.tempSourceSet dt m) s = answers e c (t.staged c.slot x ⟨0x0810, p, d⟩) .ok []
      ∧ (x.stage ⟨0x0810, p, d⟩).view = { x.view with 
          output := (tempRecords p).foldl (fun v r =>
            { v with temps := if tsKind r = 0 then v.temps.del (fld r 0 2) else v.temps.put (fld r 0 2) r }) x.view.output
          objects := putObjects x.view.objects (recordObjects 8 0x10 (fun r => fld r 0 2) (fun r => tsKind r == 0) (tempRecords p)) })
  ∧ (∀ (dt m : Nat) (s t : State) (e : ExecReq) (c : Ctx) (p d : Bytes) (x : TxnSlot),
    Running (ShowCmd.spec .derateSet) m dt s e c t p → Stages .derateSet c t p d x →
      exec (.derateSet dt m) s = answers e c (t.staged c.slot x ⟨0x0811, p, d⟩) .ok []
      ∧ (x.stage ⟨0x0811, p, d⟩).view = { x.view with 
          output := (derateRecords p).foldl (fun v r =>
            { v with derates := if drSource r = 0xFFFF then v.derates.del (fld r 0 4) else v.derates.put (fld r 0 4) r }) x.view.output
          objects := putObjects x.view.objects (recordObjects 8 0x11 (fun r => fld r 0 4) (fun r => drSource r == 0xFFFF) (derateRecords p)) })
  ∧ (∀ (dt m : Nat) (s t : State) (e : ExecReq) (c : Ctx) (p d : Bytes) (x : TxnSlot),
    Running (ShowCmd.spec .safetyGroupSet) m dt s e c t p → Stages .safetyGroupSet c t p d x →
      exec (.safetyGroupSet dt m) s = answers e c (t.staged c.slot x ⟨0x0820, p, d⟩) .ok []
      ∧ (x.stage ⟨0x0820, p, d⟩).view = { x.view with 
          output := (safetyEntries p).foldl (fun v r =>
            if bit (fld r 2 1) 0 then { v with safety := v.safety.put (fld r 0 2) ⟨fld r 2 1, fld r 3 1, fld r 4 2⟩ }
            else { v with safety := v.safety.del (fld r 0 2), members := v.members.filter fun m => smGroup m != fld r 0 2 }) x.view.output
          objects := putObjects x.view.objects ((safetyEntries p).flatMap fun r => if bit (fld r 2 1) 0 then [(objId 8 0x20 (fld r 0 2), some r)] else [(objId 8 0x20 (fld r 0 2), none), (objId 8 0x21 (fld r 0 2), none)]) })
  ∧ (∀ (dt m : Nat) (s t : State) (e : ExecReq) (c : Ctx) (p d : Bytes) (x : TxnSlot),
    Running (ShowCmd.spec .safetyMemberSet) m dt s e c t p → Stages .safetyMemberSet c t p d x →
      exec (.safetyMemberSet dt m) s = answers e c (t.staged c.slot x ⟨0x0821, p, d⟩) .ok ((ShowCmd.check .safetyMemberSet (t.checkEnv t.txn.waitingTxns c.db) x.view p d).resp)
      ∧ (x.stage ⟨0x0821, p, d⟩).view = { x.view with output := (sourceRecords 16 p d).foldl applyMemberRec x.view.output, objects := putObjects x.view.objects (((sourceRecords 16 p d).map smGroup).eraseDups.map fun g => (objId 8 0x21 g, if ((((sourceRecords 16 p d).foldl applyMemberRec x.view.output).members).filter fun m => smGroup m == g).isEmpty then none else some (((((sourceRecords 16 p d).foldl applyMemberRec x.view.output).members).filter fun m => smGroup m == g).flatMap id))) })
  ∧ (∀ (dt m : Nat) (s t : State) (e : ExecReq) (c : Ctx) (p d : Bytes) (x : TxnSlot),
    Running (ShowCmd.spec .safetyClear) m dt s e c t p → Stages .safetyClear c t p d x →
      exec (.safetyClear dt m) s = answers e c (t.staged c.slot x ⟨0x0822, p, d⟩) .ok []
      ∧ (x.stage ⟨0x0822, p, d⟩).view = { x.view with output := { x.view.output with clears := x.view.output.clears ++ (clearEntries p).map fun r => (fld r 0 2, fld r 2 1) }, objects := putObjects x.view.objects ([]) })
  ∧ (∀ (dt m : Nat) (s t : State) (e : ExecReq) (c : Ctx) (p d : Bytes) (x : TxnSlot),
    Running (ShowCmd.spec .laneSet) m dt s e c t p → Stages .laneSet c t p d x →
      exec (.laneSet dt m) s = answers e c (t.staged c.slot x ⟨0x0901, p, d⟩) .ok []
      ∧ (x.stage ⟨0x0901, p, d⟩).view = { x.view with ports := { x.view.ports with lanes := x.view.ports.lanes.put (fld p 0 1) ⟨fld p 1 1 == 1, fld p 2 2⟩ }, objects := putObjects x.view.objects ([(objId 9 1 (fld p 0 1), some p)]) })
  ∧ (∀ (dt m : Nat) (s t : State) (e : ExecReq) (c : Ctx) (p d : Bytes) (x : TxnSlot),
    Running (ShowCmd.spec .dmxPortSet) m dt s e c t p → Stages .dmxPortSet c t p d x →
      exec (.dmxPortSet dt m) s = answers e c (t.staged c.slot x ⟨0x0910, p, d⟩) .ok []
      ∧ (x.stage ⟨0x0910, p, d⟩).view = { x.view with ports := { x.view.ports with dmx := x.view.ports.dmx.put (fld p 0 1) ⟨fld p 1 1 == 1, fld p 2 2, fld p 4 2, fld p 6 2, fld p 8 1, beNat (slice p 0x0A 6)⟩ }, objects := putObjects x.view.objects ([(objId 9 0x10 (fld p 0 1), some p)]) })
  ∧ (∀ (dt m : Nat) (s t : State) (e : ExecReq) (c : Ctx) (p d : Bytes) (x : TxnSlot),
    Running (ShowCmd.spec .pwmSet) m dt s e c t p → Stages .pwmSet c t p d x →
      exec (.pwmSet dt m) s = answers e c (t.staged c.slot x ⟨0x0920, p, d⟩) .ok []
      ∧ (x.stage ⟨0x0920, p, d⟩).view = { x.view with ports := { x.view.ports with pwm := x.view.ports.pwm.put (fld p 0 1) (pwmCfgOf p) }, objects := putObjects x.view.objects ([(objId 9 0x20 (fld p 0 1), some p)]) })
  ∧ (∀ (dt m : Nat) (s t : State) (e : ExecReq) (c : Ctx) (p d : Bytes) (x : TxnSlot),
    Running (ShowCmd.spec .sacnTxConfig) m dt s e c t p → Stages .sacnTxConfig c t p d x →
      exec (.sacnTxConfig dt m) s = answers e c (t.staged c.slot x ⟨0x0A20, p, d⟩) .ok []
      ∧ (x.stage ⟨0x0A20, p, d⟩).view = { x.view with net := { x.view.net with config := p }, objects := putObjects x.view.objects ([(objId 0x0A 0x20 (0), some p)]) })
  ∧ (∀ (dt m : Nat) (s t : State) (e : ExecReq) (c : Ctx) (p d : Bytes) (x : TxnSlot),
    Running (ShowCmd.spec .sacnTxUniverseSet) m dt s e c t p → Stages .sacnTxUniverseSet c t p d x →
      exec (.sacnTxUniverseSet dt m) s = answers e c (t.staged c.slot x ⟨0x0A21, p, d⟩) .ok []
      ∧ (x.stage ⟨0x0A21, p, d⟩).view = { x.view with net := (txRecords p).foldl (fun v r => { v with universes := if bit (fld r 2 1) 0 then v.universes.put (fld r 0 2) r else v.universes.del (fld r 0 2) }) x.view.net, objects := putObjects x.view.objects (recordObjects 0x0A 0x21 (fun r => fld r 0 2) (fun r => !bit (fld r 2 1) 0) (txRecords p)) })
  ∧ (∀ (dt m : Nat) (s t : State) (e : ExecReq) (c : Ctx) (p d : Bytes) (x : TxnSlot),
    Running (ShowCmd.spec .partitionSet) m dt s e c t p → Stages .partitionSet c t p d x →
      exec (.partitionSet dt m) s = answers e c (t.staged c.slot x ⟨0x0D10, p, d⟩) .ok []
      ∧ (x.stage ⟨0x0D10, p, d⟩).view = { x.view with part := partitionOf p, objects := putObjects x.view.objects ([(objId 0x0D 0x10 (0), some p)]) })

/-- Writes that answer ACCEPTED: their data is read, and their work is checked and staged at the end. CUELIST_LOAD, and a record command
whose records are in the host region, answers ACCEPTED within its transaction and starts one operation with what it read; nothing is
staged yet. At its end, data that passes the checks against the view that the transaction has then stands at the end of the transaction,
and the one final completion is OK with the response of the command; the effect on the view is that of the same write made at once. Of
CUELIST_LOAD it is the cue list defined, its staged actions dropped. Poisoned data stages nothing and completes with INTEGRITY. The
order in which the accepted data is read and checked is the model's (assumption 6). -/
def Obligations.SlowShowWrites : Prop :=
  (∀ (i : Instr) (dt m : Nat) (cmd : ShowCmd) (s t : State) (e : ExecReq) (c : Ctx) (p : Bytes) (x : TxnSlot),
    showOf i = some (dt, m, cmd) → Running cmd.spec m dt s e c t p → t.txnOf c = some x → x.commit = none → cmd.slow p = true →
      sourceFails (cmd.source p) = false → t.acceptFail = none →
      exec i s = answers e c (t.started c (.stage c.slot c.gen p (t.sourceData (cmd.source p)))) .accepted [])
  ∧ (∀ (dt m : Nat) (s t : State) (e : ExecReq) (c : Ctx) (p : Bytes) (x : TxnSlot),
    Running (ShowCmd.spec .cuelistLoad) m dt s e c t p → t.txnOf c = some x → x.commit = none → t.acceptFail = none →
      exec (.cuelistLoad dt m) s = answers e c (t.started c (.stage c.slot c.gen p (if sourceFails (ShowCmd.source .cuelistLoad p) then [] else t.sourceData (ShowCmd.source .cuelistLoad p)))) .accepted [])
  ∧ (∀ (dt op : Nat) (o : Op) (slot : Nat) (x : TxnSlot) (p d : Bytes) (s : State),
    StagesLater .cuelistLoad 0x0401 op (s.tick dt) o slot x p d →
      exec (.cuelistLoadDone dt op false) s = .next (((s.tick dt).staged slot x ⟨0x0401, p, d⟩).endOp o .ok (s.tick dt).pos []).settle
      ∧ (x.stage ⟨0x0401, p, d⟩).view = { x.view with
          cues := { x.view.cues with
            lists := x.view.cues.lists.put (fld p 0 2) d
            loaded := x.view.cues.loaded ++ [fld p 0 2]
            actions := x.view.cues.actions.filter fun a => !(a.kind == 0 && a.target == fld p 0 2) }
          objects := putObjects x.view.objects [(objId 4 1 (fld p 0 2), some d)] })
  ∧ (∀ (dt op : Nat) (o : Op) (slot : Nat) (x : TxnSlot) (p d : Bytes) (s : State),
    StagesLater .patchWrite 0x0310 op (s.tick dt) o slot x p d →
      exec (.patchWriteDone dt op false) s = .next (((s.tick dt).staged slot x ⟨0x0310, p, d⟩).endOp o .ok (s.tick dt).pos (bytesLE 4 0xFFFFFFFF ++ bytesLE 4 ((patchRecords p d).foldl applyPatchRec x.view.patch).wordsInUse)).settle)
  ∧ (∀ (dt op : Nat) (o : Op) (slot : Nat) (x : TxnSlot) (p d : Bytes) (s : State),
    (s.tick dt).op op 0x0310 = some o → o.kind = .stage slot x.gen p d → s.txn.slots.find slot = some x → x.session = o.session →
      x.commit = none → exec (.patchWriteDone dt op true) s = .next ((s.tick dt).endOp o .integrity (s.tick dt).pos []).settle)
  ∧ (∀ (dt op : Nat) (o : Op) (slot : Nat) (x : TxnSlot) (p d : Bytes) (s : State),
    StagesLater .videoSampleSet 0x0531 op (s.tick dt) o slot x p d →
      exec (.videoSampleSetDone dt op false) s = .next (((s.tick dt).staged slot x ⟨0x0531, p, d⟩).endOp o .ok (s.tick dt).pos (bytesLE 4 0xFFFFFFFF ++ bytesLE 4 ((sampleRecords p d).foldl applySampleRec x.view.inputs).samples.length)).settle)
  ∧ (∀ (dt op : Nat) (o : Op) (slot : Nat) (x : TxnSlot) (p d : Bytes) (s : State),
    StagesLater .calibSet 0x0601 op (s.tick dt) o slot x p d →
      exec (.calibSetDone dt op false) s = .next (((s.tick dt).staged slot x ⟨0x0601, p, d⟩).endOp o .ok (s.tick dt).pos (bytesLE 4 0xFFFFFFFF ++ bytesLE 4 ((sourceRecords 288 p d).foldl applyCalibRec x.view.colour).calib.length)).settle)
  ∧ (∀ (dt op : Nat) (o : Op) (slot : Nat) (x : TxnSlot) (p d : Bytes) (s : State),
    StagesLater .regionSet 0x0610 op (s.tick dt) o slot x p d →
      exec (.regionSetDone dt op false) s = .next (((s.tick dt).staged slot x ⟨0x0610, p, d⟩).endOp o .ok (s.tick dt).pos (bytesLE 4 0xFFFFFFFF ++ bytesLE 4 ((sourceRecords 96 p d).foldl applyRegionRec x.view.colour).regions.length)).settle)
  ∧ (∀ (dt op : Nat) (o : Op) (slot : Nat) (x : TxnSlot) (p d : Bytes) (s : State),
    StagesLater .pixelMapSet 0x0703 op (s.tick dt) o slot x p d →
      exec (.pixelMapSetDone dt op false) s = .next (((s.tick dt).staged slot x ⟨0x0703, p, d⟩).endOp o .ok (s.tick dt).pos ((ShowCmd.check .pixelMapSet ((s.tick dt).checkEnv s.txn.waitingTxns (s.tick dt).pos) x.view p d).resp)).settle)
  ∧ (∀ (dt op : Nat) (o : Op) (slot : Nat) (x : TxnSlot) (p d : Bytes) (s : State),
    StagesLater .safetyMemberSet 0x0821 op (s.tick dt) o slot x p d →
      exec (.safetyMemberSetDone dt op false) s = .next (((s.tick dt).staged slot x ⟨0x0821, p, d⟩).endOp o .ok (s.tick dt).pos ((ShowCmd.check .safetyMemberSet ((s.tick dt).checkEnv s.txn.waitingTxns (s.tick dt).pos) x.view p d).resp)).settle)

/-- Reads answer from the view that the request names. A read without IN_TXN and IN_SNAP reads the show state of DEV_EPOCH, with IN_TXN
the view of its transaction, with IN_SNAP that of its snapshot. PROFILE_READ writes the image to the region and answers its length and
its users; PATCH_READ answers the records of its scan, inline or in the region, and where it stopped; PARAM_READ, POOL_STATUS and
PLAYBACK_STATUS answer their layouts. Each answers OK and changes no state but the region that it writes. -/
def Obligations.ReadsOfTheShow : Prop :=
  (∀ (dt m : Nat) (s t : State) (e : ExecReq) (c : Ctx) (p : Bytes) (v : ShowState) (img : Bytes),
    Running profileReadSpec m dt s e c t p → t.readView c = some v → v.patch.profiles.find (fld p 0 2) = some img →
      img.length ≤ fld p 4 4 → regionOk (fld p 8 8) img.length = true →
      exec (.profileRead dt m) s = answers e c (t.storeRead (fld p 8 8) img) .ok (bytesLE 4 img.length ++ bytesLE 4 (v.patch.patch.filter fun r => r.2.profile == fld p 0 2).length))
  ∧ (∀ (dt m : Nat) (s t : State) (e : ExecReq) (c : Ctx) (p : Bytes) (v : ShowState),
    Running patchReadSpec m dt s e c t p → t.readView c = some v → fld p 8 8 = 0 →
      exec (.patchRead dt m) s = answers e c t .ok (bytesLE 4 (patchReadScan v.patch (fld p 0 4) (fld p 4 4) 126).1.length ++ bytesLE 4 (patchReadScan v.patch (fld p 0 4) (fld p 4 4) 126).2
        ++ (patchReadScan v.patch (fld p 0 4) (fld p 4 4) 126).1.flatMap fun r => patchRecBytes r.1 r.2))
  ∧ (∀ (dt m : Nat) (s t : State) (e : ExecReq) (c : Ctx) (p : Bytes) (v : ShowState),
    Running patchReadSpec m dt s e c t p → t.readView c = some v → fld p 8 8 ≠ 0 →
      regionOk (fld p 8 8) ((patchReadScan v.patch (fld p 0 4) (fld p 4 4) 131073).1.flatMap fun r => patchRecBytes r.1 r.2).length = true →
      exec (.patchRead dt m) s = answers e c (t.storeRead (fld p 8 8) ((patchReadScan v.patch (fld p 0 4) (fld p 4 4) 131073).1.flatMap fun r => patchRecBytes r.1 r.2)) .ok (bytesLE 4 (patchReadScan v.patch (fld p 0 4) (fld p 4 4) 131073).1.length ++ bytesLE 4 (patchReadScan v.patch (fld p 0 4) (fld p 4 4) 131073).2))
  ∧ (∀ (dt m : Nat) (s t : State) (e : ExecReq) (c : Ctx) (p : Bytes) (v : ShowState),
    Running paramReadSpec m dt s e c t p → t.readView c = some v →
      exec (.paramRead dt m) s = answers e c t .ok ((records 4 (fld p 0 4) (p.drop 8)).flatMap fun r =>
        if v.patch.live (fld r 0 4) then bytesLE 4 (fld r 0 4 + b2n (v.patch.park (fld r 0 4)) * 2 ^ 24) ++ bytesLE 4 (v.patch.base24 (fld r 0 4))
        else bytesLE 4 (fld r 0 4 + 2 ^ 25) ++ zeros 4))
  ∧ (∀ (dt m : Nat) (s t : State) (e : ExecReq) (c : Ctx) (p : Bytes) (v : ShowState),
    Running poolStatusSpec m dt s e c t p → t.readView c = some v →
      exec (.poolStatus dt m) s = answers e c t .ok (bytesLE 4 v.patch.wordsInUse ++ bytesLE 4 (8388608 - v.patch.wordsInUse) ++ bytesLE 4 v.patch.patch.length
        ++ bytesLE 2 v.patch.profiles.length ++ zeros 2 ++ bytesLE 4 v.patch.universes.length ++ bytesLE 4 v.patch.maxLatencyUs))
  ∧ (∀ (dt m : Nat) (s t : State) (e : ExecReq) (c : Ctx) (p : Bytes) (v : ShowState),
    Running playbackStatusSpec m dt s e c t p → t.readView c = some v →
      exec (.playbackStatus dt m) s = answers e c t .ok (if fld p 0 1 = 0 then playbackStatus v.cues t.dynNow (fld p 2 2) t.host.devFrame
        else effectStatus v.patch v.cues (t.clock.rateOf t.host.devFrame) t.frameLtc t.dynNow (fld p 2 2) t.host.devFrame))
  ∧ (∀ (c : Ctx) (s : State),
    c.inTxn = false → c.inSnap = false → s.readView c = some s.txn.view)
  ∧ (∀ (c : Ctx) (x : TxnSlot) (s : State),
    c.inTxn = true → s.txnOf c = some x → s.readView c = some x.view)

/-- Reads of inputs, colour, canvases, outputs and ports answer their layouts. INPUT_STATUS, MERGE_READ, FEEDER_STATUS, SOLVE_READ,
CANVAS_STATUS, DISPLAY_STATUS, SAFETY_STATUS, DERATE_STATUS, EMIT_STATUS and PORT_STATUS answer OK with the response of their tables,
and change nothing; MERGE_READ, FEEDER_STATUS, SOLVE_READ, SAFETY_STATUS and DERATE_STATUS report the frame whose main window closed
last. Where no next emission instant is known, or a temperature source never had a reading, that one field is a free value (assumption
3). -/
def Obligations.ReadsOfTheDevice : Prop :=
  (∀ (dt m : Nat) (s t : State) (e : ExecReq) (c : Ctx) (p : Bytes),
    Running inputStatusSpec m dt s e c t p → exec (.inputStatus dt m) s = answers e c t .ok (t.inputStatus (fld p 0 1) (fld p 2 2)))
  ∧ (∀ (dt m : Nat) (s t : State) (e : ExecReq) (c : Ctx) (p : Bytes),
    Running mergeReadSpec m dt s e c t p →
      exec (.mergeRead dt m) s = answers e c t .ok (bytesLE 8 t.render.closed.frame ++ (records 4 (fld p 0 4) (p.drop 8)).flatMap fun r => t.render.closed.mergeEntry (fld r 0 4)))
  ∧ (∀ (dt m : Nat) (s t : State) (e : ExecReq) (c : Ctx) (p : Bytes),
    Running feederStatusSpec m dt s e c t p → exec (.feederStatus dt m) s = answers e c t .ok (t.render.closed.feeder (fld p 0 1)))
  ∧ (∀ (dt m : Nat) (s t : State) (e : ExecReq) (c : Ctx) (p : Bytes),
    Running solveReadSpec m dt s e c t p →
      exec (.solveRead dt m) s = answers e c t .ok (bytesLE 8 t.render.closed.frame ++ (records 4 (fld p 0 4) (p.drop 8)).flatMap fun r => t.render.closed.solveEntry (fld r 0 4)))
  ∧ (∀ (dt m : Nat) (s t : State) (e : ExecReq) (c : Ctx) (p : Bytes) (k : Nat),
    Running canvasStatusSpec m dt s e c t p → k = fld p 0 1 →
      exec (.canvasStatus dt m) s = answers e c t .ok (bytesLE 1 (t.fnCode 8 k)
        ++ bytesLE 1 (b2n (t.txn.view.canvas.canvases.has k) + 2 * b2n (t.canvas k).pending.isSome + 4 * b2n (t.txn.view.sliceMode k).isSome + 8 * ((t.canvas k).front % 2))
        ++ bytesLE 2 (t.canvas k).mismatch ++ bytesLE 4 (t.canvas k).flipCount.toNat ++ bytesLE 8 (t.canvas k).lastFlipFrame
        ++ stampBytes (t.canvas k).lastFlipAt ++ zeros 2 ++ bytesLE 8 (t.canvas k).crcFrame
        ++ (List.range 16).flatMap (fun i => bytesLE 4 ((t.canvas k).crcs.getD i 0)) ++ bytesLES 4 (t.canvas k).latchDiffNs
        ++ countBytes (t.canvas k).counts))
  ∧ (∀ (dt m : Nat) (s t : State) (e : ExecReq) (c : Ctx) (p : Bytes),
    Running displayStatusSpec m dt s e c t p →
      exec (.displayStatus dt m) s = answers e c t .ok (bytesLE 1 t.displayCode ++ bytesLE 1 t.ports.display.force.mode ++ bytesLE 1 (t.ports.display.link.getD (0, 0)).1
        ++ bytesLE 1 (t.ports.display.link.getD (0, 0)).2 ++ bytesLE 1 t.ports.display.force.bpc ++ zeros 3
        ++ t.ports.display.counts.flatMap fun x => bytesLE 4 x.toNat))
  ∧ (∀ (dt m : Nat) (s t : State) (e : ExecReq) (c : Ctx) (p : Bytes) (g : Nat) (d : SafetyDyn),
    Running safetyStatusSpec m dt s e c t p → g = fld p 0 2 → d = t.render.closed.safety.getD g {} →
      exec (.safetyStatus dt m) s = answers e c t .ok (bytesLE 1 (if !t.render.closed.view.output.safety.has g then 0 else if d.failed then 2 else 1) ++ bytesLE 1 d.cause ++ zeros 2
        ++ bytesLE 4 (t.render.closed.view.output.members.filter fun r => smGroup r == g).length ++ bytesLE 8 d.faultFrame ++ padTo 16 d.causeMember
        ++ countBytes [d.faultCount, d.clearCount] ++ bytesLE 8 t.render.closed.frame))
  ∧ (∀ (dt m : Nat) (s t : State) (e : ExecReq) (c : Ctx) (p : Bytes),
    Running derateStatusSpec m dt s e c t p → t.render.closed.view.output.derates.find (fld p 0 4) = none →
      exec (.derateStatus dt m) s = answers e c t .ok (zeros 16 ++ bytesLE 8 t.render.closed.frame))
  ∧ (∀ (dt m : Nat) (s t : State) (e : ExecReq) (c : Ctx) (p r : Bytes) (f : F32),
    Running derateStatusSpec m dt s e c t p → t.render.closed.view.output.derates.find (fld p 0 4) = some r →
      f = t.render.closed.factors.getD (fld p 0 4) F32.f1 →
      exec (.derateStatus dt m) s = answers e c ((t.thetaOf (drSource r)).2) .ok (bytesLE 1 (1 + 2 * b2n (t.render.closed.temps.has (drSource r)) + 4 * b2n (F32.lt f F32.f1)) ++ zeros 3
        ++ bytesLE 4 (t.thetaOf (drSource r)).1.toNat
        ++ bytesLE 4 (match t.render.closed.temps.find (drSource r) with
            | some x => derateTarget r x
            | none => if drLossFloor r then drFloor r else f).toNat
        ++ bytesLE 4 f.toNat ++ bytesLE 8 t.render.closed.frame))
  ∧ (∀ (dt m : Nat) (s t : State) (e : ExecReq) (c : Ctx) (p : Bytes) (k j : Nat),
    Running emitStatusSpec m dt s e c t p → k = fld p 0 1 → j = fld p 2 2 →
      exec (.emitStatus dt m) s = answers e c ((t.nextEmitPos k j).2) .ok (bytesLE 4 (1000 * maxOf (t.txn.view.latencies k j))
        ++ bytesLE 4 (1000 * (maxOf (t.txn.view.latencies k j) - minOf (t.txn.view.latencies k j))) ++ posBytes (t.nextEmitPos k j).1 ++ zeros 6
        ++ countBytes [(t.emission (outKey k j)).emitted, (t.emission (outKey k j)).skipped, (t.emission (outKey k j)).superseded, (t.emission (outKey k j)).late]
        ++ bytesLE 4 (t.emission (outKey k j)).maxLateNs))
  ∧ (∀ (dt m : Nat) (s t : State) (e : ExecReq) (c : Ctx) (p : Bytes),
    Running portStatusSpec m dt s e c t p →
      exec (.portStatus dt m) s = answers e c t .ok (bytesLE 1 (t.fnCode (3 + fld p 0 1) (fld p 1 1)) ++ bytesLE 1 (t.portReport (fld p 0 1) (fld p 1 1)).1
        ++ bytesLE 2 (t.portReport (fld p 0 1) (fld p 1 1)).2.1 ++ countBytes (t.portReport (fld p 0 1) (fld p 1 1)).2.2))

/-- A frame latches, its main window closes, and its light time ends its flight. At the latch point of the next frame DEV_FRAME takes
its number, it becomes the newest frame in flight and frames eight or more behind leave it. A main window whose end has come closes:
what reads report is then this frame, under its own view; where a task or the decision is missing the frame repeats, FRAME_REPEATS
counts it, and the governor state of the frame before stands. At light(n) the frame leaves flight, and GLIDE_DONE is raised where a
glide has ended. Before its instant each of these rows changes nothing. -/
def Obligations.FramesOpenAndClose : Prop :=
  (∀ (dt : Nat) (g : GridFrame) (s : State),
    s.update.act = none → s.clock.at_ s.clock.nextLatch = some g → s.clock.run = true → g.latch ≤ (s.tick dt).tb →
      Runs (.latchPoint dt) s fun t =>
      t.host.devFrame = g.n ∧ t.clock.nextLatch = g.n + 1 ∧ (t.frame g.n).isSome = true ∧ (∀ r ∈ t.render.frames, g.n < r.n + 8))
  ∧ (∀ (dt : Nat) (s : State),
    (s.clock.run = false ∨ (∀ g, s.clock.at_ s.clock.nextLatch = some g → (s.tick dt).tb < g.latch)) →
      exec (.latchPoint dt) s = .next ((s.tick dt)).settle)
  ∧ (∀ (dt : Nat) (r : FrameRec) (s : State),
    s.render.frames.find? (fun r => !r.mainClosed && decide (r.mainEnd ≤ (s.tick dt).tb)) = some r →
      Runs (.mainWindowClose dt) s fun t =>
      t.render.closed.frame = r.n ∧ t.render.closed.view = r.view
      ∧ t.render.closed.gov = (if r.mainDone then r.gov else r.gov0)
      ∧ t.render.reel.frameRepeats = s.render.reel.frameRepeats + (if r.mainDone then 0 else 1)
      ∧ t.clock = s.clock ∧ t.txn = s.txn ∧ t.host.devFrame = s.host.devFrame)
  ∧ (∀ (dt : Nat) (s : State),
    s.render.frames.find? (fun r => !r.mainClosed && decide (r.mainEnd ≤ (s.tick dt).tb)) = none →
      Runs (.mainWindowClose dt) s fun t =>
      t.render.frames.map (·.mainClosed) = s.render.frames.map (·.mainClosed) ∧ t.render.closed = s.render.closed)
  ∧ (∀ (dt : Nat) (r : FrameRec) (s : State),
    (s.tick dt).toLight = some r →
      exec (.lightTime dt) s = .next (((((s.tick dt).raiseIf (s.clock.gliding && !r.grid.glides) 0x39).setClock { s.clock with gliding := r.grid.glides }).setFrame { r with lightDone := true }).pruneEpochs).settle)
  ∧ (∀ (dt : Nat) (s : State),
    (s.tick dt).toLight = none → exec (.lightTime dt) s = .next ((s.tick dt)).settle)

/-- Canvas windows, flips and scans. A canvas window opens at C(n) on the bank that is not in front; with a flip pending it repeats. At
its end a frame whose tiles are not all done repeats, and CANVAS_REPEATS counts each frame that repeats; CANVAS_STATUS reports its CRCs.
A slice window that is due closes. At G(n) a flip that was committed for an earlier frame takes the other bank in front, counts, and
names the frame and the instant. At S(n) the lanes of the canvas send: the canvas notes the frame scanned and the latch that it expects,
and each lane that carries the canvas is served: where the lane sends, that is its FRAME, and otherwise the frame counts as skipped.
Before its instant each of these rows changes nothing. -/
def Obligations.CanvasFrames : Prop :=
  (∀ (dt k : Nat) (r : FrameRec) (c : Canvas) (s : State),
    (s.tick dt).toOpen k = some (r, c) →
      exec (.canvasWindowOpen dt k) s = .next ((s.tick dt).setFrame (r.setWin k { r.win k with openAt := some (r.canvasOpen c), bank := 1 - (s.canvas k).front, repeated := (s.canvas k).pending.isSome })).settle)
  ∧ (∀ (dt k : Nat) (s : State),
    (s.tick dt).toOpen k = none → exec (.canvasWindowOpen dt k) s = .next ((s.tick dt)).settle)
  ∧ (∀ (dt k : Nat) (r : FrameRec) (c : Canvas) (s : State),
    s.render.frames.find? (fun r => r.hasCanvas k && (r.view.sliceMode k).isNone && (r.win k).openAt.isSome && !(r.win k).closed && decide (r.canvasEnd k ≤ (s.tick dt).tb)) = some r →
      r.view.canvas.canvases.find k = some c →
      Runs (.canvasWindowClose dt k) s fun t =>
      (t.canvas k).crcFrame = r.n ∧ (t.canvas k).mismatch = (if r.tilesDone k c then (r.win k).mismatch else (s.canvas k).mismatch)
      ∧ t.render.reel.canvasRepeats = s.render.reel.canvasRepeats + (if (r.win k).repeated || !r.tilesDone k c then 1 else 0)
      ∧ (t.canvas k).front = (s.canvas k).front ∧ (t.canvas k).pending = (s.canvas k).pending ∧ t.txn = s.txn ∧ t.clock = s.clock)
  ∧ (∀ (dt k : Nat) (s : State),
    s.render.frames.find? (fun r => r.hasCanvas k && (r.view.sliceMode k).isNone && (r.win k).openAt.isSome && !(r.win k).closed && decide (r.canvasEnd k ≤ (s.tick dt).tb)) = none →
      exec (.canvasWindowClose dt k) s = .next ((s.tick dt)).settle)
  ∧ (∀ (dt k j : Nat) (r : FrameRec) (c : Canvas) (x : Instant) (s : State),
    s.render.frames.find? (fun r => r.hasCanvas k && (r.view.sliceMode k).isSome && !(r.win k).closed && !((r.win k).slices.find j).elim false (·.closed)) = some r →
      r.view.canvas.canvases.find k = some c → (r.view.sliceMode k).isSome = true → (r.win k).openAt = some x → j < 8 →
      (match (r.win k).slices.find j with | some w => w.openAt + ceilDiv r.grid.period 10 | none => x + r.grid.period) ≤ (s.tick dt).tb →
      exec (.sliceWindowClose dt k j) s = .next ((s.tick dt).closeSlice r k c j).settle)
  ∧ (∀ (dt k : Nat) (r : FrameRec) (c : Canvas) (g : Instant) (s : State),
    (s.tick dt).gapDue k = some (r, c, g) →
      Runs (.gapStart dt k) s fun t =>
      (∀ m, (s.canvas k).pending = some m → m < r.n →
        (t.canvas k).front = 1 - (s.canvas k).front ∧ (t.canvas k).pending = none ∧ (t.canvas k).flipCount = (s.canvas k).flipCount + 1
          ∧ (t.canvas k).lastFlipFrame = m ∧ (t.canvas k).lastFlipAt = g)
      ∧ ((s.canvas k).pending = none → (t.canvas k).front = (s.canvas k).front ∧ (t.canvas k).flipCount = (s.canvas k).flipCount)
      ∧ t.clock = s.clock ∧ t.txn = s.txn ∧ t.time = (s.tick dt).time)
  ∧ (∀ (dt k : Nat) (s : State),
    (s.tick dt).gapDue k = none → exec (.gapStart dt k) s = .next ((s.tick dt)).settle)
  ∧ (∀ (dt k : Nat) (bad : List (Nat × Nat)) (r : FrameRec) (c : Canvas) (x : Instant) (s : State),
    (s.tick dt).scanDue k = some (r, c, x) →
      Runs (.scanStart dt k bad) s fun t =>
      (t.canvas k).scanFrame = some r.n ∧ (s.enabled 8 k = true → (t.canvas k).expects.head? = some (r.expectOf k c x)) ∧ (t.canvas k).front = (s.canvas k).front
      ∧ t.clock = s.clock ∧ t.txn = s.txn)
  ∧ (∀ (dt k : Nat) (bad : List (Nat × Nat)) (u : State) (r : FrameRec) (c : Canvas) (x : Instant) (l : Nat) (g : LaneSegs) (s : State),
    (s.tick dt).scanDue k = some (r, c, x) →
      u = ((s.tick dt).setFrame (r.setWin k { r.win k with scanDone := true })).setCanvas k { s.canvas k with
        scanFrame := some r.n
        expects := (if s.enabled 8 k then [r.expectOf k c x] else []) ++ (s.canvas k).expects.filter fun e => (s.tick dt).tb - 2 * usUnits 1000000 < e.at_ } →
      r.view.lanesOf k = [(l, g)] → u.carries k l = true → u.laneOvertaken r k c x l = false →
      (u.lane l).sendEnd.elim false (fun y => decide (u.tb < y)) = false →
      exec (.scanStart dt k bad) s = .next (u.sendFrame r k c x ((bad.filter (·.1 == l)).map (·.2)) l g (s.canvas k).scanFrame).settle)
  ∧ (∀ (dt k : Nat) (bad : List (Nat × Nat)) (s : State),
    (s.tick dt).scanDue k = none → exec (.scanStart dt k bad) s = .next ((s.tick dt)).settle)

/-- Tasks become ready, are granted, and complete. A task whose constraints are met joins the ready queue, or stops the generator where
the queue is full; any other changes nothing. In a CORE cycle of grants an ENABLED cluster without a task takes the ready task that goes
first, and no cluster gets two. A task that completes in its window leaves its result: a packet task is marked done, a fixture task
writes its batch; after the window it leaves none; on poison it becomes ready once more for another cluster. The decision runs once
phase 1 of a sealed frame is done and sets the feeder scales and the safety states of the frame. -/
def Obligations.TasksAreGrantedAndComplete : Prop :=
  (∀ (dt : Nat) (t : Task) (s : State),
    t.plain = true → (s.tick dt).taskMet t = true → s.render.ready.length < readyMax →
      exec (.taskReady dt t) s = .next (({ (s.tick dt) with render := { s.render with ready := s.render.ready ++ [⟨t, none⟩], reel := { s.render.reel with peak := max s.render.reel.peak (s.render.ready.length + 1) } } } : State).traceTask 3 t 0xFF).settle)
  ∧ (∀ (dt : Nat) (t : Task) (s : State),
    (t.plain = false ∨ (s.tick dt).taskMet t = false) → exec (.taskReady dt t) s = .next ((s.tick dt)).settle)
  ∧ (∀ (dt : Nat) (t : Task) (s : State),
    t.plain = true → (s.tick dt).taskMet t = true → readyMax ≤ s.render.ready.length → s.render.stalledAt = none →
      exec (.taskReady dt t) s = .next (({ (s.tick dt).queueOverflow 0x100 with render := { s.render with stalledAt := some (s.tick dt).now } } : State).traceWrite (({ (s.tick dt).queueOverflow 0x100 with render := { s.render with stalledAt := some (s.tick dt).now } } : State).traceOf 4 0 0 0xFF t.window t.frame)).settle)
  ∧ (∀ (dt c : Nat) (x : Ready) (s : State),
    (s.tick dt).asking = [c] → (s.tick dt).bestReady c = some x →
      Runs (.taskGrant dt) s fun t =>
      t.render.held = s.render.held ++ [⟨c, x.task, x.avoid.isSome⟩] ∧ t.render.ready = s.render.ready.erase x ∧ t.render.frames = s.render.frames ∧ t.txn = s.txn)
  ∧ (∀ (dt : Nat) (s : State),
    Runs (.taskGrant dt) s fun t =>
      (∀ h ∈ t.render.held, h ∈ s.render.held ∨ h.cluster ∈ (s.tick dt).asking) ∧ t.render.held.length ≤ s.render.held.length + 8
      ∧ t.render.frames = s.render.frames ∧ t.txn = s.txn)
  ∧ (∀ (dt cluster : Nat) (poison : Bool) (s : State),
    s.render.held.find? (·.cluster == cluster) = none → exec (.taskComplete dt cluster poison) s = .next ((s.tick dt)).settle)
  ∧ (∀ (dt cluster : Nat) (h : Held) (r : FrameRec) (s : State),
    s.render.held.find? (·.cluster == cluster) = some h → s.frame h.task.frame = some r → r.mainClosed = false → h.task.kind = .packet →
      exec (.taskComplete dt cluster false) s = .next ((((s.tick dt).drop h).traceTask 2 h.task cluster).setFrame (({ r with packets := r.packets ++ [h.task.index] } : FrameRec).noteMain (s.tick dt).tb)).settle)
  ∧ (∀ (dt cluster : Nat) (h : Held) (r : FrameRec) (s : State),
    s.render.held.find? (·.cluster == cluster) = some h → s.frame h.task.frame = some r → r.mainClosed = false → h.task.kind = .phase1 →
      exec (.taskComplete dt cluster false) s = .next ((((s.tick dt).drop h).traceTask 2 h.task cluster).setFrame ((r.runPhase1 h.task.index).noteMain (s.tick dt).tb)).settle)
  ∧ (∀ (dt cluster : Nat) (h : Held) (r : FrameRec) (s : State),
    s.render.held.find? (·.cluster == cluster) = some h → s.frame h.task.frame = some r → r.mainClosed = false → h.task.kind = .phase2 →
      exec (.taskComplete dt cluster false) s = .next (((((s.tick dt).drop h).traceTask 2 h.task cluster).setImage r.n (r.runPhase2 (s.render.slot r.n).image h.task.index)).setFrame (({ r with done2 := r.done2 ++ [h.task.index] } : FrameRec).noteMain (s.tick dt).tb)).settle)
  ∧ (∀ (dt cluster : Nat) (h : Held) (r : FrameRec) (s : State),
    s.render.held.find? (·.cluster == cluster) = some h → s.frame h.task.frame = some r → r.takes h.task = false →
      exec (.taskComplete dt cluster false) s = .next (((s.tick dt).drop h).traceTask 2 h.task cluster).settle)
  ∧ (∀ (dt cluster : Nat) (h : Held) (r : FrameRec) (s : State),
    s.render.held.find? (·.cluster == cluster) = some h → s.frame h.task.frame = some r → r.takes h.task = true → h.again = false →
      Runs (.taskComplete dt cluster true) s fun t =>
      t.render.ready = s.render.ready ++ [⟨h.task, some cluster⟩] ∧ t.render.held = s.render.held.erase h ∧ t.render.frames = s.render.frames)
  ∧ (∀ (dt : Nat) (r : FrameRec) (s : State),
    (s.tick dt).toDecide = some r →
      Runs (.governorDecision dt) s fun t =>
      (t.frame r.n).map (fun q => (q.decided, q.gov, q.safety)) = some (true, r.decide.1.gov, r.decide.1.safety) ∧ t.render.held = s.render.held
      ∧ t.clock = s.clock ∧ t.txn = s.txn)
  ∧ (∀ (dt : Nat) (s : State),
    (s.tick dt).toDecide = none → exec (.governorDecision dt) s = .next ((s.tick dt)).settle)

/-- Outputs emit at their instants, and actions take effect at their positions. At its instant a frame whose main window has closed
leaves on an output: a DMX port that is ENABLED, an output and free sends the slots of its image; a PWM output queues its value; an
unsynchronised universe is queued on each of its ports; each emission is counted and settled once. A frame that the next one has
overtaken on the output is counted as superseded and not sent, on a synchronisation address on each of its universes; a busy DMX port
skips it. Before the instant, or once settled, nothing changes. While the show clock runs, the scheduled actions whose position has come
take effect in their order, up to the evaluation position of the next frame to be sealed, and ACTION_VOID is raised for one that has
none. -/
def Obligations.OutputsEmit : Prop :=
  (∀ (dt number frame : Nat) (r : FrameRec) (s : State),
    s.frame frame = some r → r.mainClosed = true → number < 16 → (r.settled.contains (outKey 1 number)) = false →
      (s.tick dt).tickReached (r.instantOf 1 number) = true → (s.tick dt).overtaken r 1 number = false →
      (r.view.ports.dmx.getD number {}).input = false → (s.txn.view.ports.dmx.getD number {}).input = false → s.enabled 4 number = true →
      (s.tick dt).emits = true → ((s.tick dt).dmxPort number).busy (s.tick dt).tb = false →
      exec (.emissionInstant dt 1 number frame false) s = .next (((((s.tick dt).settleOut r.n (outKey 1 number)).setDmx number { (s.tick dt).dmxPort number with
        sendEnd := some ((s.tick dt).tb + usUnits (r.view.ports.dmx.getD number {}).packetUs), turnaround := false, deferDrive := false, counts := bump 0 ((s.tick dt).dmxPort number).counts }).emit
        (.dmx number (s.tick dt).tb (((s.render.slot r.n).image.slots (131072 + number)).take (r.view.ports.dmx.getD number {}).slots))).emitted (outKey 1 number)).settle)
  ∧ (∀ (dt number frame : Nat) (poison : Bool) (r : FrameRec) (s : State),
    s.frame frame = some r → r.mainClosed = true → number < 16 → (r.settled.contains (outKey 1 number)) = false →
      (s.tick dt).tickReached (r.instantOf 1 number) = true → (s.tick dt).overtaken r 1 number = false →
      (r.view.ports.dmx.getD number {}).input = false → (s.txn.view.ports.dmx.getD number {}).input = false → s.enabled 4 number = true →
      (s.tick dt).emits = true → (((s.tick dt).dmxPort number).busy (s.tick dt).tb = true ∨ poison = true) →
      exec (.emissionInstant dt 1 number frame poison) s = .next (((s.tick dt).settleOut r.n (outKey 1 number)).skipped (outKey 1 number)).settle)
  ∧ (∀ (dt number frame : Nat) (r : FrameRec) (s : State),
    s.frame frame = some r → r.mainClosed = true → number < 32 → (r.settled.contains (outKey 2 number)) = false →
      (s.tick dt).tickReached (r.instantOf 2 number) = true → (s.tick dt).overtaken r 2 number = false → s.enabled 5 number = true →
      (s.tick dt).emits = true →
      exec (.emissionInstant dt 2 number frame false) s = .next ((((s.tick dt).settleOut r.n (outKey 2 number)).setPwm number { (s.tick dt).pwmOut number with
        loads := ((s.tick dt).pwmOut number).loads ++ [⟨r.n, r.instantOf 2 number, ((s.render.slot r.n).image.getD (196608 + number) [16, 0]).headD 16, ((s.render.slot r.n).image.getD (196608 + number) [16, 0]).getD 1 0⟩] }).emitted (outKey 2 number)).settle)
  ∧ (∀ (dt number frame : Nat) (poison : Bool) (r : FrameRec) (s : State),
    s.frame frame = some r → r.mainClosed = true → 1 ≤ number → number ≤ 63999 → r.tx.terms = [] →
      (r.settled.contains (outKey 0 number)) = false → r.emitsOn 0 number = true → (s.tick dt).tickReached (r.instantOf 0 number) = true →
      (s.tick dt).overtaken r 0 number = false → (s.tick dt).emits = true →
      exec (.emissionInstant dt 0 number frame poison) s = .next (((s.tick dt).releaseOn r.n number (r.instantOf 0 number) (portsOf (r.view.net.tx number).ports) poison fun c => r.dataPacket (s.render.slot r.n).image c number).settleOut r.n number).settle)
  ∧ (∀ (dt kind number frame : Nat) (poison : Bool) (r : FrameRec) (s : State),
    s.frame frame = some r → r.mainClosed = true → (kind = 1 ∨ kind = 2) → outExists kind number = true →
      (r.settled.contains (outKey kind number)) = false → r.emitsOn kind number = true →
      (s.tick dt).tickReached (r.instantOf kind number) = true → (s.tick dt).overtaken r kind number = true → (s.tick dt).emits = true →
      exec (.emissionInstant dt kind number frame poison) s = .next (((s.tick dt).settleOut r.n (outKey kind number)).superseded (outKey kind number)).settle)
  ∧ (∀ (dt number frame : Nat) (poison : Bool) (r : FrameRec) (s : State),
    s.frame frame = some r → r.mainClosed = true → number < 65536 → (r.settled.contains (outKey 4 number)) = false →
      r.emitsOn 4 number = true → (s.tick dt).tickReached (r.instantOf 4 number) = true → (s.tick dt).overtaken r 4 number = true →
      (s.tick dt).emits = true →
      exec (.emissionInstant dt 4 number frame poison) s = .next ((r.syncMembers number).foldl (fun s u => (s.dropSynced r.n u).superseded u) ((s.tick dt).settleOut r.n (outKey 4 number))).settle)
  ∧ (∀ (dt kind number frame : Nat) (poison : Bool) (s : State),
    (s.frame frame = none ∨ (∃ r, s.frame frame = some r ∧ r.mainClosed = false)) →
      exec (.emissionInstant dt kind number frame poison) s = .next ((s.tick dt)).settle)
  ∧ (∀ (dt rate : Nat) (x : Int) (a : DueAct) (s : State),
    s.clock.run = true → s.render.voids = [] → rate = (s.tick dt).clock.rateOf ((s.tick dt).openFrame - 1) →
      x = min ((s.tick dt).pos : Int) (beforeFrame (s.tick dt).openFrame) → s.render.dyn.first = some a → a.pos ≤ x →
      (DynState.act s.txn.view.patch s.txn.view.cues rate s.render.dyn a).1.first = none →
      exec (.actionTakesEffect dt) s = .next (((s.tick dt).setDyn (DynState.act s.txn.view.patch s.txn.view.cues rate s.render.dyn a).1).raiseIf (DynState.act s.txn.view.patch s.txn.view.cues rate s.render.dyn a).2 0x3C).settle)
  ∧ (∀ (dt : Nat) (s : State),
    s.clock.run = true →
      Runs (.actionTakesEffect dt) s fun t =>
      t.render.dyn = (s.render.dyn.upTo s.txn.view.patch s.txn.view.cues ((s.tick dt).clock.rateOf ((s.tick dt).openFrame - 1)) (min ((s.tick dt).pos : Int) (beforeFrame (s.tick dt).openFrame))).1
      ∧ t.render.frames = s.render.frames ∧ t.txn = s.txn ∧ t.clock = s.clock)
  ∧ (∀ (dt : Nat) (s : State),
    (s.clock.run = false ∨ (s.render.voids = [] ∧ (s.render.dyn.first = none ∨ (∀ a, s.render.dyn.first = some a → ((s.tick dt).pos : Int) < a.pos)))) →
      exec (.actionTakesEffect dt) s = .next ((s.tick dt)).settle)

/-- Live values are stored, and sACN packets stamp, hold and end their sources. LIVE_WRITE clears the layer where it asks for it, sets
and releases its entries with the stamp of its execution, and answers the frame to which the stamp belongs. A data packet that E1.31
accepts stamps the values and priority of its source; with the synchronisation address of its universe it is held instead, until the
synchronisation packet of its source. A packet that is a preview, of another start code, out of sequence or malformed is counted as
discarded, and a fifth source is refused with SACN_SOURCE_LIMIT. A source silent for 2,500 ms ends, and an address silent for 2,500 ms
is lost. A packet of a universe that the host has not named changes nothing. -/
def Obligations.LiveValuesAndSacn : Prop :=
  (∀ (dt m : Nat) (s t : State) (e : ExecReq) (c : Ctx) (p : Bytes),
    Running liveWriteSpec m dt s e c t p → (applyLive t.inputs.live p t.tb).length ≤ 1048576 →
      exec (.liveWrite dt m) s = answers e c ({ t with inputs := { t.inputs with live := applyLive t.inputs.live p t.tb } }) .ok (bytesLE 8 (t.clock.frameOf t.tb)))
  ∧ (∀ (l : Map LiveVal) (p : Bytes) (x : Instant),
    applyLive l p x = (liveEntries p).foldl (fun (a : Map LiveVal) e => if e.2.1 = 1 then a.del (fld p 0 1 * 2 ^ 24 + e.1) else a.put (fld p 0 1 * 2 ^ 24 + e.1) ⟨e.2.2, x⟩)
        (if bit (fld p 1 1) 0 then l.filter (fun e => e.1 / 2 ^ 24 != fld p 0 1) else l))
  ∧ (∀ (dt : Nat) (packet : SacnData) (d : RxDef) (s : State),
    s.txn.view.inputs.sacn.find packet.uni = some d → (s.tick dt).sacnPortOk d packet.port packet.unicast packet.v6 = true →
      packet.preview = false → packet.props.head? = some 0 → packet.priority ≤ 200 → packet.props.length ≤ 513 →
      packet.terminated = false →
      (∀ x, (s.inputs.sacn.getD packet.uni {}).source packet.cid = some x → seqFails x.seq packet.seq = false) →
      (packet.sync = 0 ∨ packet.sync ≠ d.sync) →
      (((s.inputs.sacn.getD packet.uni {}).source packet.cid).isSome = true ∨ (s.inputs.sacn.getD packet.uni {}).sources.length < 4) →
      Runs (.sacnDataRx dt packet) s fun t =>
      ((t.inputs.sacn.getD packet.uni {}).source packet.cid).map (fun y => (y.values, y.priority, y.stamped, y.seq, y.lastAt)) = some (packet.props.drop 1, packet.priority, true, packet.seq, (s.tick dt).now)
      ∧ (t.inputs.sacn.getD packet.uni {}).counts.accepted = (s.inputs.sacn.getD packet.uni {}).counts.accepted + 1 ∧ (t.inputs.sacn.getD packet.uni {}).seen = true ∧ (t.inputs.sacn.getD packet.uni {}).lost = false ∧ (t.inputs.sacn.getD packet.uni {}).lastPos = (s.tick dt).pos ∧ t.clock = s.clock ∧ t.txn = s.txn ∧ t.render = s.render ∧ t.ports = s.ports)
  ∧ (∀ (dt : Nat) (packet : SacnData) (d : RxDef) (s : State),
    s.txn.view.inputs.sacn.find packet.uni = some d → (s.tick dt).sacnPortOk d packet.port packet.unicast packet.v6 = true →
      packet.preview = false → packet.props.head? = some 0 → packet.priority ≤ 200 → packet.props.length ≤ 513 →
      packet.terminated = false →
      (∀ x, (s.inputs.sacn.getD packet.uni {}).source packet.cid = some x → seqFails x.seq packet.seq = false) → packet.sync ≠ 0 →
      packet.sync = d.sync → s.inputs.syncLost packet.sync = false →
      (((s.inputs.sacn.getD packet.uni {}).source packet.cid).isSome = true ∨ (s.inputs.sacn.getD packet.uni {}).sources.length < 4) →
      Runs (.sacnDataRx dt packet) s fun t =>
      (((t.inputs.sacn.getD packet.uni {}).source packet.cid).bind (·.held)).map (fun y => (y.values, y.priority, y.sync)) = some (packet.props.drop 1, packet.priority, packet.sync)
      ∧ ((t.inputs.sacn.getD packet.uni {}).source packet.cid).map (fun y => (y.values, y.priority, y.stamped)) = some (((s.inputs.sacn.getD packet.uni {}).source packet.cid).elim ([], 0, false) fun y => (y.values, y.priority, y.stamped)) ∧ t.clock = s.clock ∧ t.txn = s.txn ∧ t.render = s.render ∧ t.ports = s.ports)
  ∧ (∀ (dt : Nat) (packet : SacnData) (d : RxDef) (s : State),
    s.txn.view.inputs.sacn.find packet.uni = some d → (s.tick dt).sacnPortOk d packet.port packet.unicast packet.v6 = true →
      (packet.preview = true ∨ packet.props.head? ≠ some 0 ∨ 200 < packet.priority ∨ 513 < packet.props.length) →
      Runs (.sacnDataRx dt packet) s fun t =>
      (t.inputs.sacn.getD packet.uni {}).counts.discarded = (s.inputs.sacn.getD packet.uni {}).counts.discarded + 1 ∧ (t.inputs.sacn.getD packet.uni {}).sources = (s.inputs.sacn.getD packet.uni {}).sources ∧ t.clock = s.clock ∧ t.txn = s.txn ∧ t.render = s.render ∧ t.ports = s.ports)
  ∧ (∀ (dt : Nat) (packet : SacnData) (d : RxDef) (s : State),
    s.txn.view.inputs.sacn.find packet.uni = some d → (s.tick dt).sacnPortOk d packet.port packet.unicast packet.v6 = true →
      packet.preview = false → packet.props.head? = some 0 → packet.priority ≤ 200 → packet.props.length ≤ 513 →
      (s.inputs.sacn.getD packet.uni {}).source packet.cid = none → 4 ≤ (s.inputs.sacn.getD packet.uni {}).sources.length →
      Runs (.sacnDataRx dt packet) s fun t =>
      (t.inputs.sacn.getD packet.uni {}).counts.repeats = (s.inputs.sacn.getD packet.uni {}).counts.repeats + 1 ∧ (t.inputs.sacn.getD packet.uni {}).sources = (s.inputs.sacn.getD packet.uni {}).sources ∧ t.clock = s.clock ∧ t.txn = s.txn ∧ t.render = s.render ∧ t.ports = s.ports)
  ∧ (∀ (dt : Nat) (packet : SacnData) (s : State),
    s.txn.view.inputs.sacn.find packet.uni = none → exec (.sacnDataRx dt packet) s = .next ((s.tick dt)).settle)
  ∧ (∀ (dt port cid : Nat) (packet : Machine.SacnSync) (s : State),
    packet.addr ≠ 0 →
      (s.txn.view.inputs.sacn.any fun e => e.2.sync == packet.addr && (s.tick dt).sacnPortOk e.2 port packet.unicast packet.v6) = true →
      Runs (.sacnSyncRx dt port cid packet) s fun t =>
      t.inputs.sync.find packet.addr = some ⟨(s.tick dt).now, false⟩
      ∧ t.inputs.sacn = s.inputs.sacn.mapVal (fun k d => if (s.txn.view.inputs.sacn.find k).elim false (fun x => (s.tick dt).sacnPortOk x port packet.unicast packet.v6) then d.release cid packet.addr (s.tick dt).now (s.tick dt).pos else d) ∧ t.clock = s.clock ∧ t.txn = s.txn ∧ t.render = s.render ∧ t.ports = s.ports)
  ∧ (∀ (dt port cid : Nat) (packet : Machine.SacnSync) (s : State),
    (packet.addr = 0 ∨ (s.txn.view.inputs.sacn.any fun e => e.2.sync == packet.addr && (s.tick dt).sacnPortOk e.2 port packet.unicast packet.v6) = false) →
      exec (.sacnSyncRx dt port cid packet) s = .next ((s.tick dt)).settle)
  ∧ (∀ (d : RxDyn) (x y addr cid : Nat) (z : RxSource) (h : HeldPacket),
    d.source cid = some z → z.held = some h → h.sync = addr →
      (d.release cid addr x y).source cid = some { z with priority := h.priority, values := h.values, stamped := true, held := none })
  ∧ (∀ (dt uni cid : Nat) (x : RxSource) (s : State),
    (s.inputs.sacn.getD uni {}).source cid = some x → x.lastAt + lossCycles ≤ (s.tick dt).now →
      exec (.sacnSourceTimeout dt uni cid) s = .next (((s.tick dt).withInputs { s.inputs with sacn := s.inputs.sacn.put uni ((s.inputs.sacn.getD uni {}).endSource cid (s.tick dt).pos) } [srcSacnLost])).settle)
  ∧ (∀ (dt uni cid : Nat) (s : State),
    (∀ x, (s.inputs.sacn.getD uni {}).source cid = some x → (s.tick dt).now < x.lastAt + lossCycles) →
      exec (.sacnSourceTimeout dt uni cid) s = .next ((s.tick dt)).settle)
  ∧ (∀ (dt addr : Nat) (x : SyncDyn) (s : State),
    s.inputs.sync.find addr = some x → x.lost = false → x.lastAt + lossCycles ≤ (s.tick dt).now →
      Runs (.sacnSyncTimeout dt addr) s fun t =>
      t.inputs.sync.find addr = some ⟨x.lastAt, true⟩ ∧ t.clock = s.clock ∧ t.txn = s.txn ∧ t.render = s.render ∧ t.ports = s.ports)
  ∧ (∀ (dt addr : Nat) (s : State),
    (∀ x, s.inputs.sync.find addr = some x → x.lost = true ∨ (s.tick dt).now < x.lastAt + lossCycles) →
      exec (.sacnSyncTimeout dt addr) s = .next ((s.tick dt)).settle)

/-- DMX packets and video packets are received, and lost inputs are noticed. A DMX packet whose break, mark and bit rate the port
accepts lays its slots over those received before and is counted, where its start code is 0 and the port is an ENABLED, bound input;
another start code is counted as discarded; on a port that is not ENABLED, or with a break, mark or bit rate outside the limits, nothing
changes. A DMX input with no packet for 1,250 ms is lost, once. A video packet of the configured stream, in sequence and in the
configured format, stores its segments; with the marker the input frame is complete and accepted, and where a packet is missing it is
incomplete; a packet in another format is discarded with VIDEO_FORMAT. A frame whose marker does not come within T and 1 ms is given up;
an input without a packet for four periods is lost, once. -/
def Obligations.DmxAndVideoInputs : Prop :=
  (∀ (dt port start : Nat) (slots : Bytes) (line : Machine.DmxLine) (s : State),
    88000 ≤ line.breakNs → 8000 ≤ line.mabNs → 245000 ≤ line.bitRate → line.bitRate ≤ 255000 → start = 0 → s.enabled 4 port = true →
      s.txn.view.inputs.dmxIn.has port = true → (s.txn.view.ports.dmx.getD port {}).input = true →
      Runs (.dmxInPacket dt port start slots line) s fun t =>
      (t.inputs.dmx.getD port {}).last = overlay (s.inputs.dmx.getD port {}).last (slots.take 512) ∧ (t.inputs.dmx.getD port {}).seen = true ∧ (t.inputs.dmx.getD port {}).lost = false ∧ (t.inputs.dmx.getD port {}).lastAt = (s.tick dt).now ∧ (t.inputs.dmx.getD port {}).lastPos = (s.tick dt).pos
      ∧ (t.inputs.dmx.getD port {}).counts.accepted = (s.inputs.dmx.getD port {}).counts.accepted + 1 ∧ t.clock = s.clock ∧ t.txn = s.txn ∧ t.meter = s.meter ∧ t.fns = s.fns)
  ∧ (∀ (dt port start : Nat) (slots : Bytes) (line : Machine.DmxLine) (s : State),
    88000 ≤ line.breakNs → 8000 ≤ line.mabNs → 245000 ≤ line.bitRate → line.bitRate ≤ 255000 → start ≠ 0 → s.enabled 4 port = true →
      s.txn.view.inputs.dmxIn.has port = true → (s.txn.view.ports.dmx.getD port {}).input = true →
      Runs (.dmxInPacket dt port start slots line) s fun t =>
      (t.inputs.dmx.getD port {}).last = (s.inputs.dmx.getD port {}).last ∧ (t.inputs.dmx.getD port {}).counts.discarded = (s.inputs.dmx.getD port {}).counts.discarded + 1 ∧ t.clock = s.clock ∧ t.txn = s.txn ∧ t.meter = s.meter ∧ t.fns = s.fns)
  ∧ (∀ (dt port start : Nat) (slots : Bytes) (line : Machine.DmxLine) (s : State),
    (s.enabled 4 port = false ∨ line.breakNs < 88000 ∨ line.mabNs < 8000 ∨ line.bitRate < 245000 ∨ 255000 < line.bitRate) →
      exec (.dmxInPacket dt port start slots line) s = .next ((s.tick dt)).settle)
  ∧ (∀ (dt port : Nat) (s : State),
    s.dmxInOn port = true → (s.inputs.dmx.getD port {}).lost = false →
      (s.inputs.dmx.getD port {}).lastAt + dmxLossCycles ≤ (s.tick dt).now →
      Runs (.dmxInTimeout dt port) s fun t =>
      (t.inputs.dmx.getD port {}).lost = true ∧ (t.inputs.dmx.getD port {}).counts.losses = (s.inputs.dmx.getD port {}).counts.losses + 1 ∧ (t.inputs.dmx.getD port {}).last = (s.inputs.dmx.getD port {}).last ∧ t.clock = s.clock ∧ t.txn = s.txn ∧ t.meter = s.meter ∧ t.fns = s.fns)
  ∧ (∀ (dt port : Nat) (s : State),
    (s.dmxInOn port = false ∨ (s.inputs.dmx.getD port {}).lost = true ∨ (s.tick dt).now < (s.inputs.dmx.getD port {}).lastAt + dmxLossCycles) →
      exec (.dmxInTimeout dt port) s = .next ((s.tick dt)).settle)
  ∧ (∀ (dt input : Nat) (packet : VideoPacket) (cfg : Bytes) (f : VideoFrame) (s : State),
    (s.tick dt).videoTakes input packet = some cfg → packet.sampling = vidSampling cfg → packet.field = false → packet.segs.length ≤ 3 →
      packet.segs.all (segFits cfg) = true → ((s.tick dt).video input).dropping ≠ some packet.rtp →
      ((s.tick dt).video input).current = some f → f.rtp = packet.rtp → f.gap = false → (f.seq + 1) % 65536 = packet.seq % 65536 →
      packet.marker = true →
      Runs (.videoPacketRx dt input packet) s fun t =>
      (t.inputs.video.getD input {}).current = none ∧ (t.inputs.video.getD input {}).complete.length = (s.inputs.video.getD input {}).complete.length + 1 ∧ (t.inputs.video.getD input {}).counts.accepted = (s.inputs.video.getD input {}).counts.accepted + 1 ∧ (t.inputs.video.getD input {}).lost = false
      ∧ (t.inputs.video.getD input {}).lastPos = (s.tick dt).pos ∧ (t.inputs.video.getD input {}).lastPacket = (s.tick dt).now ∧ t.clock = s.clock ∧ t.txn = s.txn ∧ t.meter = s.meter ∧ t.fns = s.fns)
  ∧ (∀ (dt input : Nat) (packet : VideoPacket) (cfg : Bytes) (f : VideoFrame) (s : State),
    (s.tick dt).videoTakes input packet = some cfg → packet.sampling = vidSampling cfg → packet.field = false → packet.segs.length ≤ 3 →
      packet.segs.all (segFits cfg) = true → ((s.tick dt).video input).dropping ≠ some packet.rtp →
      ((s.tick dt).video input).current = some f → f.rtp = packet.rtp → packet.marker = false →
      Runs (.videoPacketRx dt input packet) s fun t =>
      (t.inputs.video.getD input {}).current.map (fun g => (g.id, g.seq, g.pixels)) = some (f.id, packet.seq % 65536, (packet.segs.foldl (fun g x => g.store cfg (s.tick dt).tb x) f).pixels)
      ∧ (t.inputs.video.getD input {}).complete = (s.inputs.video.getD input {}).complete ∧ (t.inputs.video.getD input {}).lastPacket = (s.tick dt).now ∧ t.clock = s.clock ∧ t.txn = s.txn ∧ t.meter = s.meter ∧ t.fns = s.fns)
  ∧ (∀ (dt input : Nat) (packet : VideoPacket) (cfg : Bytes) (s : State),
    (s.tick dt).videoTakes input packet = some cfg →
      (packet.sampling ≠ vidSampling cfg ∨ packet.field = true ∨ 3 < packet.segs.length ∨ packet.segs.all (segFits cfg) = false) →
      exec (.videoPacketRx dt input packet) s = .next ((s.tick dt).setVideo input ({ (s.tick dt).video input with lastPacket := (s.tick dt).now, seen := true, counts := { ((s.tick dt).video input).counts with discarded := ((s.tick dt).video input).counts.discarded + 1 } }, [srcVideoFormat])).settle)
  ∧ (∀ (dt input : Nat) (packet : VideoPacket) (s : State),
    (s.tick dt).videoTakes input packet = none → exec (.videoPacketRx dt input packet) s = .next ((s.tick dt)).settle)
  ∧ (∀ (dt input : Nat) (cfg : Bytes) (f : VideoFrame) (s : State),
    (s.tick dt).videoCfg input = some cfg → ((s.tick dt).video input).current = some f →
      f.firstAt + (s.tick dt).videoPeriod cfg + usUnits 1000 ≤ (s.tick dt).tb →
      exec (.videoFrameTimeout dt input) s = .next (((s.tick dt).setVideo input ({ (s.tick dt).video input with current := none, dropping := some f.rtp, counts := { ((s.tick dt).video input).counts with incomplete := ((s.tick dt).video input).counts.incomplete + 1 } }, [srcVideoIncomplete])).feedAll input cfg f f true).settle)
  ∧ (∀ (dt input : Nat) (s : State),
    ((s.tick dt).videoCfg input = none ∨ ((s.tick dt).video input).current = none) →
      exec (.videoFrameTimeout dt input) s = .next ((s.tick dt)).settle)
  ∧ (∀ (dt input : Nat) (cfg : Bytes) (s : State),
    (s.tick dt).videoCfg input = some cfg → ((s.tick dt).video input).lost = false →
      4 * (shortestPeriod (vidRate cfg) : Nat) ≤ ((s.tick dt).now - ((s.tick dt).video input).lastPacket) * 131072 →
      exec (.videoLossTimeout dt input) s = .next ((s.tick dt).setVideo input ({ (s.tick dt).video input with lost := true, counts := { ((s.tick dt).video input).counts with losses := ((s.tick dt).video input).counts.losses + 1 } }, [srcVideoLost])).settle)
  ∧ (∀ (dt input : Nat) (s : State),
    ((s.tick dt).videoCfg input = none ∨ ((s.tick dt).video input).lost = true) →
      exec (.videoLossTimeout dt input) s = .next ((s.tick dt)).settle)

/-- Tearing-effect edges are matched to latches, and the confidence output follows its sink. TE_SET binds an input from the next edge;
DISPLAY_SET stores the settings, to come into force at the next vertical blanking of a trained link. An edge of the selected kind on an
ENABLED input bound to a canvas that is not DISABLED is matched with the expected latch within half a canvas period, and counts
TE_MISMATCH beyond the tolerance; a frame whose span passed without an edge counts TE_MISSING; other edges change nothing. A change of
hot-plug detect starts or ends training and counts DP_HOTPLUG; lost lock trains again; training yields the link, or fails, counts
DP_LINK_FAIL and is tried again after a second; where the output is the SerDes that an activation restarts, the end of its training lets
the next one begin; a loss of the DPX PLL blanks the output until it locks again. Vertical blanking starts the lines of the next frame,
and each line is sent in order. How many frames are black after a change, zero to two, is free (assumption 3). -/
def Obligations.TearingEffectAndConfidenceOutput : Prop :=
  (∀ (dt m : Nat) (s t : State) (e : ExecReq) (c : Ctx) (p : Bytes),
    Running teSetSpec m dt s e c t p →
      exec (.teSet dt m) s = answers e c (t.setTe (fld p 0 1) { canvas := some (fld p 1 1), edge := fld p 2 1, offsetNs := fldS p 4 4, since := t.tb }) .ok [])
  ∧ (∀ (dt m : Nat) (s t : State) (e : ExecReq) (c : Ctx) (p : Bytes),
    Running displaySetSpec m dt s e c t p →
      (∀ l, t.ports.display.link = some l → DisplayCfg.fits { mode := fld p 0 1, bpc := fld p 1 1, canvas := fld p 2 1, src := ⟨fld p 4 2, fld p 6 2, fld p 8 2, fld p 10 2⟩, dst := ⟨fld p 12 2, fld p 14 2, fld p 16 2, fld p 18 2⟩ } l = true) →
      exec (.displaySet dt m) s = answers e c ({ t with ports := { t.ports with display := { t.ports.display with
        stored := { mode := fld p 0 1, bpc := fld p 1 1, canvas := fld p 2 1, src := ⟨fld p 4 2, fld p 6 2, fld p 8 2, fld p 10 2⟩, dst := ⟨fld p 12 2, fld p 14 2, fld p 16 2, fld p 18 2⟩ }
        changed := t.ports.display.link.isSome } } }) .ok [])
  ∧ (∀ (dt input : Nat) (rising : Bool) (k : Nat) (e : LatchExpect) (s : State),
    s.enabled 0x10 input = true → (s.te input).canvas = some k → s.alive 8 k = true → (rising = true) = ((s.te input).edge = 1) →
      ((s.tick dt).expectsOf k).find? (fun e => decide (2 * (s.te input).distance (s.tick dt).tb e ≤ e.period)) = some e →
      Runs (.teEdge dt input rising) s fun t =>
      (t.te input).matched.head? = some e.frame ∧ (t.te input).canvas = some k ∧ (t.canvas k).counts = (if usUnits e.tolUs < (s.te input).distance (s.tick dt).tb e then (s.canvas k).counts.zipIdx.map (fun x => if x.2 = 3 then x.1 + 1 else x.1) else (s.canvas k).counts)
      ∧ t.clock = s.clock ∧ t.txn = s.txn)
  ∧ (∀ (dt input : Nat) (rising : Bool) (s : State),
    (s.enabled 0x10 input = false ∨ (s.te input).canvas = none ∨ (∃ k, (s.te input).canvas = some k ∧ s.alive 8 k = false)) →
      exec (.teEdge dt input rising) s = .next ((s.tick dt)).settle)
  ∧ (∀ (dt input k : Nat) (e : LatchExpect) (s : State),
    s.enabled 0x10 input = true → (s.te input).canvas = some k → s.alive 8 k = true → (s.tick dt).teDue input = some e →
      exec (.teMissingTimeout dt input) s = .next ((if (s.te input).matched.contains e.frame then (s.tick dt).setTe input { s.te input with checked := some e.frame, matched := (s.te input).matched.filter (e.frame < ·) }
        else ((s.tick dt).setTe input { s.te input with checked := some e.frame, matched := (s.te input).matched.filter (e.frame < ·) }).canvasEvent k 4)).settle)
  ∧ (∀ (dt input : Nat) (s : State),
    (s.enabled 0x10 input = false ∨ (s.tick dt).teDue input = none) → exec (.teMissingTimeout dt input) s = .next ((s.tick dt)).settle)
  ∧ (∀ (dt : Nat) (present : Bool) (s : State),
    s.ports.display.hpd ≠ present → s.enabled 6 0 = true →
      exec (.dpHpdChange dt present) s = .next (if present then ((s.tick dt).setDisplay { s.ports.display with hpd := true, training := true, link := none, failed := false, changed := false }).displayEvent 0 else (((s.tick dt).setDisplay { s.ports.display with hpd := false, training := false, link := none, failed := false, changed := false }).displayEvent 0).serdesDone .display).settle)
  ∧ (∀ (dt : Nat) (present : Bool) (s : State),
    s.ports.display.hpd ≠ present → s.alive 6 0 = false →
      exec (.dpHpdChange dt present) s = .next (if present then (s.tick dt).setDisplay { s.ports.display with hpd := true, training := false, link := none, failed := false, changed := false } else ((s.tick dt).setDisplay { s.ports.display with hpd := false, training := false, link := none, failed := false, changed := false }).serdesDone .display).settle)
  ∧ (∀ (dt : Nat) (present : Bool) (s : State),
    s.ports.display.hpd = present →
      exec (.dpHpdChange dt present) s = .next (if present then (s.tick dt) else (s.tick dt).serdesDone .display).settle)
  ∧ (∀ (dt : Nat) (s : State),
    s.ports.display.hpd = true → s.ports.display.link.isSome = true → s.enabled 6 0 = true →
      exec (.dpIrqHpd dt true) s = .next ((s.tick dt).setDisplay { s.ports.display with training := true, link := none }).settle)
  ∧ (∀ (dt : Nat) (s : State),
    exec (.dpIrqHpd dt false) s = .next ((s.tick dt)).settle)
  ∧ (∀ (dt : Nat) (s : State),
    s.ports.display.training = true → s.enabled 6 0 = true →
      exec (.dpTrainingDone dt none) s = .next ((((s.tick dt).setDisplay { s.ports.display with training := false, failed := true, failedAt := (s.tick dt).now, link := none }).displayEvent 1).serdesDone .display).settle)
  ∧ (∀ (dt : Nat) (l : Nat × Nat) (s : State),
    s.ports.display.training = true → s.enabled 6 0 = true → dpLinkOk (some l) = true → s.ports.display.stored.fits l = true →
      s.ports.display.stored.mode = s.ports.display.force.mode → s.ports.display.stored.bpc = s.ports.display.force.bpc →
      exec (.dpTrainingDone dt (some l)) s = .next (((s.tick dt).setDisplay { s.ports.display with training := false, failed := false, link := some l, line := 0, force := s.ports.display.stored, changed := false, low := false }).serdesDone .display).settle)
  ∧ (∀ (dt : Nat) (l : Nat × Nat) (s : State),
    s.ports.display.training = true → s.enabled 6 0 = true → dpLinkOk (some l) = true → .display ∉ s.update.serdes.tail →
      s.ports.display.stored.fits l = false →
      Runs (.dpTrainingDone dt (some l)) s fun t =>
      t.ports.display.link = some l ∧ t.ports.display.force = { s.ports.display.stored with mode := 1, bpc := 8 } ∧ t.ports.display.low = true ∧ t.ports.display.counts = bump 2 s.ports.display.counts ∧ t.ports.display.stored = s.ports.display.stored)
  ∧ (∀ (dt : Nat) (link : Option (Nat × Nat)) (s : State),
    (s.ports.display.training = false ∨ s.enabled 6 0 = false) →
      exec (.dpTrainingDone dt link) s = .next (if dpLinkOk link then (s.tick dt).serdesDone .display else (s.tick dt)).settle)
  ∧ (∀ (dt : Nat) (s : State),
    s.ports.display.failed = true → s.ports.display.hpd = true → s.ports.display.training = false →
      s.ports.display.failedAt + cycSec ≤ (s.tick dt).now → s.enabled 6 0 = true →
      exec (.dpTrainRetry dt) s = .next ((s.tick dt).setDisplay { s.ports.display with training := true }).settle)
  ∧ (∀ (dt : Nat) (s : State),
    (s.ports.display.failed = false ∨ s.ports.display.hpd = false ∨ (s.tick dt).now < s.ports.display.failedAt + cycSec) →
      exec (.dpTrainRetry dt) s = .next ((s.tick dt)).settle)
  ∧ (∀ (dt : Nat) (s : State),
    (s.tick dt).displaySends = true → s.ports.display.changed = false →
      Runs (.dpVblank dt) s fun t =>
      t.ports.display.line = 0 ∧ t.ports.display.black = s.ports.display.black - 1 ∧ t.ports.display.force = s.ports.display.force ∧ t.ports.display.link = s.ports.display.link
      ∧ t.ports.display.counts = (if s.ports.display.announce && s.ports.display.black = 0 then bump 2 s.ports.display.counts else s.ports.display.counts))
  ∧ (∀ (dt : Nat) (s : State),
    (s.tick dt).displaySends = true → s.ports.display.changed = true →
      Runs (.dpVblank dt) s fun t =>
      t.ports.display.line = 0 ∧ t.ports.display.force = s.ports.display.stored ∧ t.ports.display.changed = false ∧ t.ports.display.black ≤ 1 + s.ports.display.black)
  ∧ (∀ (dt : Nat) (s : State),
    (s.tick dt).displaySends = false → exec (.dpVblank dt) s = .next ((s.tick dt)).settle)
  ∧ (∀ (dt : Nat) (poisoned : List Nat) (m : Nat × Nat × Nat) (s : State),
    (s.tick dt).displaySends = true → dpMode s.ports.display.force.mode = some m → s.ports.display.line < m.2.1 →
      Runs (.dpLineFetch dt poisoned) s fun t =>
      t.ports.display.line = s.ports.display.line + 1 ∧ (∃ new px, t.out = new ++ .display s.ports.display.line px :: s.out) ∧ t.render = s.render ∧ t.clock = s.clock)
  ∧ (∀ (dt : Nat) (poisoned : List Nat) (s : State),
    (s.tick dt).displaySends = false → exec (.dpLineFetch dt poisoned) s = .next ((s.tick dt)).settle)
  ∧ (∀ (dt : Nat) (s : State),
    exec (.dpPllLoss dt) s = .next ((s.tick dt).setDisplay { s.ports.display with pllLost := true }).settle)
  ∧ (∀ (dt : Nat) (s : State),
    s.ports.display.pllLost = true →
      Runs (.dpPllRelock dt) s fun t =>
      t.ports.display.pllLost = false ∧ t.ports.display.black ≤ 2 ∧ t.ports.display.announce = true ∧ t.ports.display.line = 0 ∧ t.ports.display.link = s.ports.display.link ∧ t.ports.display.force = s.ports.display.force)
  ∧ (∀ (dt : Nat) (s : State),
    s.ports.display.pllLost = false → exec (.dpPllRelock dt) s = .next ((s.tick dt)).settle)

/-- Lane links move and back-channel messages act as their tables give. A lane in TRAINING goes UP after 20 µs with a back-channel and
100 µs without one, and not sooner; 2 ms in TRAINING raise LANE_TRAIN_FAIL once per stay. Lost lock takes an UP lane with a back-channel
to TRAINING, and counts a retraining; a RETRAIN message does so at once where no lane frame is being sent, and at its end otherwise;
LANE_PHY_SET stores its settings and retrains likewise. Nothing else about the lane changes, and where the lane is the SerDes that an
activation restarts the next one begins. A message accepted on an UP lane is counted. LATCH_ACK notes the tile as having acknowledged
the FRAME it names; where the lane checks latches and its canvas is not DISABLED, the age and the cable delay of the lane give the
latch, its distance from the expected latch is stored, and one beyond the tolerance counts TILE_LATCH_LATE. TEMP gives its reading to
the temperature sources that name the lane and tile; FAULT raises TILE_FAULT, and for an open or a short a back-channel safety fault;
RX_ERROR is counted and raised; TEST_ECHO with the CRC of its TEST block settles the loopback test of the lane. While the lane is not
UP, and for a malformed message, only the discarded count moves. A tile whose acknowledgement is missing half a canvas period after the
expected latch counts TILE_LATCH_MISSING. -/
def Obligations.LaneLinksAndBackChannel : Prop :=
  (∀ (dt lane : Nat) (u s : State),
    u = (s.tick dt).setLane lane { ((s.tick dt).lane lane) with link := .up, since := (s.tick dt).now, failRaised := false } →
      ((s.tick dt).lane lane).link = .training →
      ((s.tick dt).lane lane).since + (if ((s.tick dt).lane lane).phy.backchannel then 20 * cycUs else 100 * cycUs) ≤ (s.tick dt).now →
      exec (.laneTrained dt lane) s = .next (if u.serdesWaits (.lane lane) then u else u.serdesDone (.lane lane)).settle)
  ∧ (∀ (dt lane : Nat) (s : State),
    (((s.tick dt).lane lane).link ≠ .training ∨ (s.tick dt).now < ((s.tick dt).lane lane).since + (if ((s.tick dt).lane lane).phy.backchannel then 20 * cycUs else 100 * cycUs)) →
      exec (.laneTrained dt lane) s = .next (if (s.tick dt).serdesWaits (.lane lane) then (s.tick dt) else (s.tick dt).serdesDone (.lane lane)).settle)
  ∧ (∀ (dt lane : Nat) (s : State),
    ((s.tick dt).lane lane).link = .training → ((s.tick dt).lane lane).failRaised = false →
      ((s.tick dt).lane lane).since + 2 * cycMs ≤ (s.tick dt).now →
      exec (.laneTrainTimeout dt lane) s = .next ((((s.tick dt).setLane lane { ((s.tick dt).lane lane) with failRaised := true }).raise 0x80).serdesDone (.lane lane)).settle)
  ∧ (∀ (dt lane : Nat) (s : State),
    (((s.tick dt).lane lane).link ≠ .training ∨ ((s.tick dt).lane lane).failRaised = true ∨ (s.tick dt).now < ((s.tick dt).lane lane).since + 2 * cycMs) →
      exec (.laneTrainTimeout dt lane) s = .next (if ((s.tick dt).lane lane).failRaised then (s.tick dt).serdesDone (.lane lane) else (s.tick dt)).settle)
  ∧ (∀ (dt lane : Nat) (s : State),
    ((s.tick dt).lane lane).link = .up → ((s.tick dt).lane lane).phy.backchannel = true →
      (∀ x, ((s.tick dt).lane lane).sendEnd = some x → x ≤ (s.tick dt).tb) →
      exec (.laneLinkLoss dt lane) s = .next (((s.tick dt).setLane lane { ((s.tick dt).lane lane) with link := .training, since := (s.tick dt).now, failRaised := false, retrain := false, counts := bump 3 ((s.tick dt).lane lane).counts, sendEnd := none }).raise 0x81).settle)
  ∧ (∀ (dt lane : Nat) (x : Instant) (s : State),
    ((s.tick dt).lane lane).link = .up → ((s.tick dt).lane lane).phy.backchannel = true → ((s.tick dt).lane lane).sendEnd = some x →
      (s.tick dt).tb < x →
      exec (.laneLinkLoss dt lane) s = .next ((((((s.tick dt).flushLane lane).emit (.laneCut lane (s.tick dt).tb)).setLane lane { ((s.tick dt).lane lane) with link := .training, since := (s.tick dt).now, failRaised := false, retrain := false, counts := bump 3 ((s.tick dt).lane lane).counts, sendEnd := none, rolling := none }).raise 0x81)).settle)
  ∧ (∀ (dt lane : Nat) (s : State),
    (((s.tick dt).lane lane).link ≠ .up ∨ ((s.tick dt).lane lane).phy.backchannel = false) →
      exec (.laneLinkLoss dt lane) s = .next ((s.tick dt)).settle)
  ∧ (∀ (dt lane : Nat) (s : State),
    ((s.tick dt).lane lane).link = .up → (∀ x, ((s.tick dt).lane lane).sendEnd = some x → x ≤ (s.tick dt).tb) →
      exec (.retrain dt lane) s = .next ((s.tick dt).setLane lane { ((s.tick dt).lane lane) with link := .training, since := (s.tick dt).now, failRaised := false, retrain := false, counts := bump 3 (bump 1 ((s.tick dt).lane lane).counts) }).settle)
  ∧ (∀ (dt lane : Nat) (x : Instant) (s : State),
    ((s.tick dt).lane lane).link = .up → ((s.tick dt).lane lane).sendEnd = some x → (s.tick dt).tb < x →
      exec (.retrain dt lane) s = .next ((s.tick dt).setLane lane { ((s.tick dt).lane lane) with retrain := true, counts := bump 1 ((s.tick dt).lane lane).counts }).settle)
  ∧ (∀ (dt m : Nat) (s t : State) (e : ExecReq) (c : Ctx) (p : Bytes),
    Running lanePhySetSpec m dt s e c t p → (t.lane (fld p 0 1)).link ≠ .up →
      exec (.lanePhySet dt m) s = answers e c (t.setLane (fld p 0 1) { t.lane (fld p 0 1) with
        phy := { backchannel := bit (fld p 1 1) 0, txInvert := bit (fld p 1 1) 1, rxInvert := bit (fld p 1 1) 2, swing := fld p 2 1, deemph := fld p 3 1 } }) .ok [])
  ∧ (∀ (dt m : Nat) (s t : State) (e : ExecReq) (c : Ctx) (p : Bytes),
    Running lanePhySetSpec m dt s e c t p → (t.lane (fld p 0 1)).link = .up →
      (t.lane (fld p 0 1)).sendEnd.elim true (fun x => decide (x ≤ t.tb)) = true →
      Runs (.lanePhySet dt m) s fun u =>
      u.lane (fld p 0 1) = { t.lane (fld p 0 1) with phy := { backchannel := bit (fld p 1 1) 0, txInvert := bit (fld p 1 1) 1, rxInvert := bit (fld p 1 1) 2, swing := fld p 2 1, deemph := fld p 3 1 }, link := .training, since := t.now, failRaised := false, retrain := false, counts := bump 3 (t.lane (fld p 0 1)).counts }
      ∧ (∀ k, k ≠ fld p 0 1 → u.ports.lanes.getD k {} = t.ports.lanes.getD k {}) ∧ u.render = t.render ∧ u.clock = t.clock)
  ∧ (∀ (dt m : Nat) (s t : State) (e : ExecReq) (c : Ctx) (p : Bytes),
    Running lanePhySetSpec m dt s e c t p → (t.lane (fld p 0 1)).link = .up →
      (t.lane (fld p 0 1)).sendEnd.elim false (fun x => decide (t.tb < x)) = true →
      Runs (.lanePhySet dt m) s fun u =>
      u.lane (fld p 0 1) = { t.lane (fld p 0 1) with phy := { backchannel := bit (fld p 1 1) 0, txInvert := bit (fld p 1 1) 1, rxInvert := bit (fld p 1 1) 2, swing := fld p 2 1, deemph := fld p 3 1 }, retrain := true }
      ∧ (∀ k, k ≠ fld p 0 1 → u.ports.lanes.getD k {} = t.ports.lanes.getD k {}) ∧ u.render = t.render ∧ u.clock = t.clock)
  ∧ (∀ (dt lane tileNo frameLo ageNs : Nat) (x : LaneSent) (s : State),
    ((s.tick dt).lane lane).link = .up → (((s.tick dt).lane lane).sent.find? fun x => x.frame % 4294967296 == frameLo) = some x →
      x.latchAck = true → s.alive 8 x.canvas = true →
      Runs (.latchAck dt lane tileNo frameLo ageNs) s fun t =>
      (t.ports.lanes.getD lane {}).sent = ((s.tick dt).lane lane).sent.map (fun y => if y.frame == x.frame then { y with acks := if x.acks.contains tileNo then x.acks else x.acks ++ [tileNo] } else y)
      ∧ (t.canvas x.canvas).latchDiffNs = roundDiv ((s.tick dt).tb - nsUnits ageNs - nsUnits x.cableNs - x.expect) 65536
      ∧ (t.canvas x.canvas).counts = (if usUnits x.tolUs < absInt ((s.tick dt).tb - nsUnits ageNs - nsUnits x.cableNs - x.expect) then bump 1 (s.canvas x.canvas).counts else (s.canvas x.canvas).counts)
      ∧ (t.ports.lanes.getD lane {}).counts = bump 1 ((s.tick dt).lane lane).counts ∧ t.clock = s.clock ∧ t.txn = s.txn ∧ t.mem = s.mem ∧ t.fns = s.fns)
  ∧ (∀ (dt lane tileNo frameLo ageNs : Nat) (x : LaneSent) (s : State),
    ((s.tick dt).lane lane).link = .up → (((s.tick dt).lane lane).sent.find? fun x => x.frame % 4294967296 == frameLo) = some x →
      (x.latchAck = false ∨ s.alive 8 x.canvas = false) →
      exec (.latchAck dt lane tileNo frameLo ageNs) s = .next ((s.tick dt).setLane lane { ((s.tick dt).lane lane) with counts := bump 1 ((s.tick dt).lane lane).counts, sent := ((s.tick dt).lane lane).sent.map (fun y => if y.frame == x.frame then { y with acks := if x.acks.contains tileNo then x.acks else x.acks ++ [tileNo] } else y) }).settle)
  ∧ (∀ (dt lane tileNo frameLo ageNs : Nat) (s : State),
    ((s.tick dt).lane lane).link = .up → (((s.tick dt).lane lane).sent.find? fun x => x.frame % 4294967296 == frameLo) = none →
      exec (.latchAck dt lane tileNo frameLo ageNs) s = .next ((s.tick dt).setLane lane { ((s.tick dt).lane lane) with counts := bump 1 ((s.tick dt).lane lane).counts }).settle)
  ∧ (∀ (dt lane tileNo frameLo ageNs : Nat) (s : State),
    ((s.tick dt).lane lane).link ≠ .up → exec (.latchAck dt lane tileNo frameLo ageNs) s = .next ((s.tick dt).laneDiscard lane).settle)
  ∧ (∀ (dt lane tileNo : Nat) (x : LaneSent) (s : State),
    (((s.tick dt).lane lane).sent.find? fun x => ((s.tick dt).lane lane).misses tileNo (s.tick dt).tb x && s.alive 8 x.canvas) = some x →
      exec (.tileLatchMissingTimeout dt lane tileNo) s = .next (((s.tick dt).setLane lane { ((s.tick dt).lane lane) with sent := ((s.tick dt).lane lane).sent.map fun y => if y.frame == x.frame then { y with missed := y.missed ++ [tileNo] } else y }).canvasEvent x.canvas 2).settle)
  ∧ (∀ (dt lane tileNo : Nat) (s : State),
    (((s.tick dt).lane lane).sent.find? fun x => ((s.tick dt).lane lane).misses tileNo (s.tick dt).tb x && s.alive 8 x.canvas) = none →
      exec (.tileLatchMissingTimeout dt lane tileNo) s = .next ((s.tick dt)).settle)
  ∧ (∀ (dt lane tileNo : Nat) (failed : Bool) (raw : Nat) (s : State),
    ((s.tick dt).lane lane).link = .up →
      exec (.temp dt lane tileNo failed raw) s = .next (((s.tick dt).setLane lane { ((s.tick dt).lane lane) with counts := bump 1 ((s.tick dt).lane lane).counts }).tempReading (fun r => tsKind r == 2 && tsPort r == lane && tsTile r == tileNo) (fun _ => F32.ofRat (signed 16 (raw % 65536)) 16) failed).settle)
  ∧ (∀ (dt lane tileNo : Nat) (failed : Bool) (raw : Nat) (s : State),
    ((s.tick dt).lane lane).link ≠ .up → exec (.temp dt lane tileNo failed raw) s = .next ((s.tick dt).laneDiscard lane).settle)
  ∧ (∀ (dt lane tileNo raw id : Nat) (r : Bytes) (s : State),
    ((s.tick dt).lane lane).link = .up → s.txn.view.output.temps = [(id, r)] → tsKind r = 2 → tsPort r = lane → tsTile r = tileNo →
      Runs (.temp dt lane tileNo false raw) s fun t =>
      t.render.temps.getD id {} = { s.render.temps.getD id {} with value := F32.ofRat (signed 16 (raw % 65536)) 16, stamp := (s.tick dt).tb, invalid := false })
  ∧ (∀ (dt lane tileNo kind : Nat) (s : State),
    ((s.tick dt).lane lane).link = .up → (kind = 1 ∨ kind = 2) →
      Runs (.fault dt lane tileNo kind) s fun t =>
      t.render.rawFaults = s.render.rawFaults ++ [.tile lane tileNo] ∧ (t.icu.src 0x83).count = (s.icu.src 0x83).count + 1 ∧ (t.ports.lanes.getD lane {}).counts = bump 1 ((s.tick dt).lane lane).counts ∧ t.clock = s.clock ∧ t.txn = s.txn ∧ t.mem = s.mem ∧ t.fns = s.fns)
  ∧ (∀ (dt lane tileNo kind : Nat) (s : State),
    ((s.tick dt).lane lane).link = .up → kind ≠ 1 → kind ≠ 2 →
      Runs (.fault dt lane tileNo kind) s fun t =>
      t.render.rawFaults = s.render.rawFaults ∧ (t.icu.src 0x83).count = (s.icu.src 0x83).count + 1 ∧ (t.ports.lanes.getD lane {}).counts = bump 1 ((s.tick dt).lane lane).counts ∧ t.clock = s.clock ∧ t.txn = s.txn ∧ t.mem = s.mem ∧ t.fns = s.fns)
  ∧ (∀ (dt lane : Nat) (s : State),
    ((s.tick dt).lane lane).link = .up →
      exec (.rxError dt lane) s = .next (((s.tick dt).setLane lane { ((s.tick dt).lane lane) with counts := bump 4 (bump 1 ((s.tick dt).lane lane).counts) }).raise 0x82).settle)
  ∧ (∀ (dt lane : Nat) (s : State),
    ((s.tick dt).lane lane).link ≠ .up → exec (.rxError dt lane) s = .next ((s.tick dt).laneDiscard lane).settle)
  ∧ (∀ (dt lane frameLo crc : Nat) (s : State),
    ((s.tick dt).lane lane).link = .up →
      Runs (.testEcho dt lane frameLo crc) s fun t =>
      t.group.echoes = (if crc = (crc32c (testBlock frameLo)).toNat then s.group.echoes.filter (· ≠ lane) else s.group.echoes) ∧ (t.ports.lanes.getD lane {}).counts = bump 1 ((s.tick dt).lane lane).counts ∧ t.render = s.render ∧ t.clock = s.clock ∧ t.txn = s.txn ∧ t.mem = s.mem ∧ t.fns = s.fns)
  ∧ (∀ (dt lane : Nat) (s : State),
    ((s.tick dt).lane lane).link ≠ .off →
      exec (.backchannelMessageDiscard dt lane) s = .next ((s.tick dt).setLane lane { ((s.tick dt).lane lane) with counts := bump 2 ((s.tick dt).lane lane).counts }).settle)
  ∧ (∀ (dt lane : Nat) (s : State),
    ((s.tick dt).lane lane).link = .off → exec (.backchannelMessageDiscard dt lane) s = .next ((s.tick dt)).settle)

/-- RDM transactions queue on their port, start when there is room, and end with their result. RDM_TRANSACTION on an output-direction
port with a UID that is ENABLED answers ACCEPTED and joins the queue of the port; the fifth answers BUSY, and a port that cannot send
answers CONFLICT. When the port is idle the oldest transaction starts where the next emission lies at least the request and 5.8 ms
ahead, or after it has waited 500 ms, which counts a forced start; the request leaves with the next transaction number. Its end
completes the operation with the result, and the response lands in the region, up to its capacity; no other byte of the region changes.
The layout of the packet is that of assumption 43. -/
def Obligations.RdmTransactionsQueueAndEnd : Prop :=
  (∀ (dt m : Nat) (s t : State) (e : ExecReq) (c : Ctx) (p : Bytes),
    Running rdmTransactionSpec m dt s e c t p → (t.txn.view.ports.dmx.getD (fld p 0 1) {}).input = false →
      (t.txn.view.ports.dmx.getD (fld p 0 1) {}).uid ≠ 0 → t.emits = true → t.enabled 4 (fld p 0 1) = true →
      (t.dmxPort (fld p 0 1)).queue.length < 4 → t.acceptFail = none →
      exec (.rdmTransaction dt m) s = answers e c ((t.started c (.job [fld p 0 1] [])).setDmx (fld p 0 1) { t.dmxPort (fld p 0 1) with queue := (t.dmxPort (fld p 0 1)).queue ++ [⟨t.host.nextOp, p, t.now⟩] }) .accepted [])
  ∧ (∀ (dt m : Nat) (s t : State) (e : ExecReq) (c : Ctx) (p : Bytes),
    Running rdmTransactionSpec m dt s e c t p → (t.txn.view.ports.dmx.getD (fld p 0 1) {}).input = false →
      (t.txn.view.ports.dmx.getD (fld p 0 1) {}).uid ≠ 0 → t.emits = true → t.enabled 4 (fld p 0 1) = true →
      4 ≤ (t.dmxPort (fld p 0 1)).queue.length → exec (.rdmTransaction dt m) s = answers e c (t.queueOverflow (0x30 + fld p 0 1)) .busy [])
  ∧ (∀ (dt m : Nat) (s t : State) (e : ExecReq) (c : Ctx) (p : Bytes),
    Running rdmTransactionSpec m dt s e c t p →
      ((t.txn.view.ports.dmx.getD (fld p 0 1) {}).input = true ∨ (t.txn.view.ports.dmx.getD (fld p 0 1) {}).uid = 0 ∨ t.emits = false ∨ t.enabled 4 (fld p 0 1) = false) →
      exec (.rdmTransaction dt m) s = answers e c t .conflict [])
  ∧ (∀ (dt port : Nat) (job : RdmJob) (rest : List RdmJob) (s : State),
    ((s.tick dt).dmxPort port).queue = job :: rest → ((s.tick dt).dmxPort port).busy (s.tick dt).tb = false → s.emits = true →
      s.enabled 4 port = true → (∀ x, (s.tick dt).nextDmxInstant port = some x → (s.tick dt).tb + usUnits (job.requestUs + 5800) ≤ x) →
      exec (.rdmTransactionStart dt port) s = .next (((s.tick dt).setDmx port { ((s.tick dt).dmxPort port) with queue := rest, tn := (((s.tick dt).dmxPort port).tn + 1) % 256, run := some { job := job, tn := ((s.tick dt).dmxPort port).tn, startAt := (s.tick dt).tb, reqPos := (s.tick dt).pos }, turnaround := false, deferDrive := false, counts := bump 1 ((s.tick dt).dmxPort port).counts }).emit
        (.rdm port (s.tick dt).tb job.op (job.packet (s.txn.view.ports.dmx.getD port {}).uid ((s.tick dt).dmxPort port).tn))).settle)
  ∧ (∀ (dt port : Nat) (job : RdmJob) (rest : List RdmJob) (x : Instant) (s : State),
    ((s.tick dt).dmxPort port).queue = job :: rest → ((s.tick dt).dmxPort port).busy (s.tick dt).tb = false → s.emits = true →
      s.enabled 4 port = true → (s.tick dt).nextDmxInstant port = some x → x < (s.tick dt).tb + usUnits (job.requestUs + 5800) →
      job.since + 500 * cycMs ≤ (s.tick dt).now →
      exec (.rdmTransactionStart dt port) s = .next (((s.tick dt).setDmx port { ((s.tick dt).dmxPort port) with queue := rest, tn := (((s.tick dt).dmxPort port).tn + 1) % 256, run := some { job := job, tn := ((s.tick dt).dmxPort port).tn, startAt := (s.tick dt).tb, reqPos := (s.tick dt).pos }, turnaround := false, deferDrive := false, counts := bump 4 (bump 1 ((s.tick dt).dmxPort port).counts) }).emit
        (.rdm port (s.tick dt).tb job.op (job.packet (s.txn.view.ports.dmx.getD port {}).uid ((s.tick dt).dmxPort port).tn))).settle)
  ∧ (∀ (dt port : Nat) (s : State),
    (((s.tick dt).dmxPort port).queue = [] ∨ ((s.tick dt).dmxPort port).busy (s.tick dt).tb = true ∨ s.emits = false ∨ s.enabled 4 port = false) →
      exec (.rdmTransactionStart dt port) s = .next ((s.tick dt)).settle)
  ∧ (∀ (dt port : Nat) (job : RdmJob) (rest : List RdmJob) (x : Instant) (s : State),
    ((s.tick dt).dmxPort port).queue = job :: rest → (s.tick dt).nextDmxInstant port = some x →
      x < (s.tick dt).tb + usUnits (job.requestUs + 5800) → (s.tick dt).now < job.since + 500 * cycMs →
      exec (.rdmTransactionStart dt port) s = .next ((s.tick dt)).settle)
  ∧ (∀ (dt port : Nat) (run : RdmRun) (s : State),
    ((s.tick dt).dmxPort port).run = some run → run.startAt + usUnits (run.job.requestUs + 2800) ≤ (s.tick dt).tb →
      run.job.discovers = false → run.job.broadcast = false →
      exec (.rdmResponseEnd dt port false []) s = .next (((s.tick dt).setDmx port { ((s.tick dt).dmxPort port) with run := none, sendEnd := some ((s.tick dt).tb + usUnits 176), turnaround := true, counts := bump 3 ((s.tick dt).dmxPort port).counts }).endOpId run.job.op .ok (s.tick dt).pos (bytesLE 1 1 ++ bytesLE 1 run.tn ++ bytesLE 2 0 ++ zeros 4 ++ posBytes run.reqPos ++ zeros 6)).settle)
  ∧ (∀ (dt port : Nat) (brk : Bool) (bytes : Bytes) (run : RdmRun) (s : State),
    ((s.tick dt).dmxPort port).run = some run → run.startAt + usUnits (run.job.requestUs + 176) ≤ (s.tick dt).tb →
      run.job.discovers = false → run.job.broadcast = true →
      exec (.rdmResponseEnd dt port brk bytes) s = .next (((s.tick dt).setDmx port { ((s.tick dt).dmxPort port) with run := none, sendEnd := some ((s.tick dt).tb + usUnits 176), turnaround := true, counts := bump 3 ((s.tick dt).dmxPort port).counts }).endOpId run.job.op .ok (s.tick dt).pos (bytesLE 1 4 ++ bytesLE 1 run.tn ++ bytesLE 2 0 ++ zeros 4 ++ posBytes run.reqPos ++ zeros 6)).settle)
  ∧ (∀ (dt port : Nat) (bytes : Bytes) (run : RdmRun) (s : State),
    Memory.wf s.mem = true → ((s.tick dt).dmxPort port).run = some run → run.startAt + usUnits run.job.requestUs ≤ (s.tick dt).tb →
      run.job.discovers = false → run.job.broadcast = false →
      Runs (.rdmResponseEnd dt port true bytes) s fun t =>
      (t.ports.dmx.getD port {}).run = none ∧ (t.ports.dmx.getD port {}).queue = ((s.tick dt).dmxPort port).queue ∧ (t.ports.dmx.getD port {}).sendEnd = some ((s.tick dt).tb + usUnits 176) ∧ t.txn = s.txn ∧ t.clock = s.clock
      ∧ (∀ a, memRead t.mem a = (if run.job.respOff ≤ a ∧ a < run.job.respOff + (bytes.take run.job.respCap).length then bytes.getD (a - run.job.respOff) 0 else memRead s.mem a)))
  ∧ (∀ (dt port : Nat) (brk : Bool) (bytes : Bytes) (s : State),
    (((s.tick dt).dmxPort port).run = none ∨ (∃ run, ((s.tick dt).dmxPort port).run = some run ∧ (s.tick dt).tb < run.startAt + usUnits run.job.requestUs)) →
      exec (.rdmResponseEnd dt port brk bytes) s = .next ((s.tick dt)).settle)

/-- PWM periods load values at their starts, and open loads are sensed. A period of output j begins at every count c with c mod P_j =
OFFSET_j: there it loads the newest value whose instant, rounded down to a TIME tick, has come, and is active for d x DIV counts; a
DISABLED output and one of a Tango standby stay inactive. New settings with the same grid come into force with it. A sample without load
current counts one step, a sample with current resets the count, untested periods leave it; the fourth step in a row is a detection,
which is a PWM open-load fault and raises PWM_OPEN_LOAD. -/
def Obligations.LocalPwmOutputs : Prop :=
  (∀ (dt output n : Nat) (s : State),
    (s.tick dt).pwmDue output = some n → ((s.tick dt).pwmOut output).change = none → s.enabled 5 output = true → s.emits = true →
      exec (.pwmPeriodStart dt output) s = .next (((s.tick dt).setPwm output { ((s.tick dt).pwmOut output).load (s.tick dt).tb with lastStart := some n, running := true, sensed := false }).emit (.pwm output (s.tick dt).tb ((((s.tick dt).pwmOut output).load (s.tick dt).tb).active))).settle)
  ∧ (∀ (dt output n : Nat) (s : State),
    (s.tick dt).pwmDue output = some n → ((s.tick dt).pwmOut output).change = none → (s.enabled 5 output = false ∨ s.emits = false) →
      exec (.pwmPeriodStart dt output) s = .next (((s.tick dt).setPwm output { ((s.tick dt).pwmOut output).load (s.tick dt).tb with lastStart := some n, running := false, sensed := false }).emit (.pwm output (s.tick dt).tb 0)).settle)
  ∧ (∀ (dt output n : Nat) (k : PwmCfg) (s : State),
    (s.tick dt).pwmDue output = some n → ((s.tick dt).pwmOut output).change = some k →
      k.bitCount = ((s.tick dt).pwmOut output).cfg.bitCount → k.divider = ((s.tick dt).pwmOut output).cfg.divider →
      k.offset = ((s.tick dt).pwmOut output).cfg.offset → s.enabled 5 output = true → s.emits = true →
      Runs (.pwmPeriodStart dt output) s fun t =>
      (t.ports.pwm.getD output {}).cfg = k ∧ (t.ports.pwm.getD output {}).change = none ∧ (t.ports.pwm.getD output {}).lastStart = some n ∧ (t.ports.pwm.getD output {}).running = true ∧ (∃ new a, t.out = new ++ .pwm output (s.tick dt).tb a :: s.out) ∧ t.render = s.render ∧ t.clock = s.clock)
  ∧ (∀ (dt output : Nat) (s : State),
    (s.tick dt).pwmDue output = none → exec (.pwmPeriodStart dt output) s = .next ((s.tick dt)).settle)
  ∧ (∀ (output : Nat) (c : PwmCfg) (n k w v : Nat),
    0 < c.divider →
      (c.startAt output n = some k → k ≤ n ∧ k % c.period = c.offsetOf output % c.period ∧ n < k + c.period) ∧ (c.active w v = c.divider * ((v * 2 ^ (c.bitCount + 1) + (2 ^ w - 1)) / (2 * (2 ^ w - 1)))))
  ∧ (∀ (d : PwmDyn) (tb : Instant) (x : PwmLoad),
    (d.loads.filter fun x => decide (x.at_ < tb + tickUnits)).getLast? = some x → (d.load tb).value = some (x.width, x.value) ∧ ∀ y ∈ (d.load tb).loads, tb + tickUnits ≤ y.at_)
  ∧ (∀ (dt output : Nat) (s : State),
    bit ((s.tick dt).pwmOut output).cfg.flags 1 = true → ((s.tick dt).pwmOut output).running = true →
      ((s.tick dt).pwmOut output).sensed = false → ((s.tick dt).pwmOut output).cfg.senseCounts + 40 ≤ ((s.tick dt).pwmOut output).active →
      (((s.tick dt).pwmOut output).lastStart.getD 0) + ((s.tick dt).pwmOut output).cfg.senseCounts ≤ (s.tick dt).pwmCount →
      s.enabled 5 output = true → s.emits = true →
      Runs (.pwmSenseSample dt output true) s fun t =>
      (t.ports.pwm.getD output {}).senseRun = 0 ∧ (t.ports.pwm.getD output {}).sensed = true ∧ (t.ports.pwm.getD output {}).tested = ((s.tick dt).pwmOut output).tested + 1 ∧ (t.ports.pwm.getD output {}).detections = ((s.tick dt).pwmOut output).detections ∧ t.render = s.render ∧ t.clock = s.clock)
  ∧ (∀ (dt output : Nat) (s : State),
    bit ((s.tick dt).pwmOut output).cfg.flags 1 = true → ((s.tick dt).pwmOut output).running = true →
      ((s.tick dt).pwmOut output).sensed = false → ((s.tick dt).pwmOut output).cfg.senseCounts + 40 ≤ ((s.tick dt).pwmOut output).active →
      (((s.tick dt).pwmOut output).lastStart.getD 0) + ((s.tick dt).pwmOut output).cfg.senseCounts ≤ (s.tick dt).pwmCount →
      s.enabled 5 output = true → s.emits = true → ((s.tick dt).pwmOut output).senseRun = 3 →
      Runs (.pwmSenseSample dt output false) s fun t =>
      (t.ports.pwm.getD output {}).senseRun = 4 ∧ (t.ports.pwm.getD output {}).detections = ((s.tick dt).pwmOut output).detections + 1 ∧ (t.ports.pwm.getD output {}).detectFrame = some (s.tick dt).frameNow ∧ t.render.rawFaults = s.render.rawFaults ++ [.pwm output] ∧ (t.icu.src 0x84).count = (s.icu.src 0x84).count + 1)
  ∧ (∀ (dt output : Nat) (s : State),
    bit ((s.tick dt).pwmOut output).cfg.flags 1 = true → ((s.tick dt).pwmOut output).running = true →
      ((s.tick dt).pwmOut output).sensed = false → ((s.tick dt).pwmOut output).cfg.senseCounts + 40 ≤ ((s.tick dt).pwmOut output).active →
      (((s.tick dt).pwmOut output).lastStart.getD 0) + ((s.tick dt).pwmOut output).cfg.senseCounts ≤ (s.tick dt).pwmCount →
      s.enabled 5 output = true → s.emits = true → ((s.tick dt).pwmOut output).senseRun < 3 →
      Runs (.pwmSenseSample dt output false) s fun t =>
      (t.ports.pwm.getD output {}).senseRun = ((s.tick dt).pwmOut output).senseRun + 1 ∧ (t.ports.pwm.getD output {}).detections = ((s.tick dt).pwmOut output).detections ∧ t.render = s.render)
  ∧ (∀ (dt output : Nat) (current : Bool) (s : State),
    (bit ((s.tick dt).pwmOut output).cfg.flags 1 = false ∨ ((s.tick dt).pwmOut output).running = false ∨ ((s.tick dt).pwmOut output).sensed = true ∨ ((s.tick dt).pwmOut output).active < ((s.tick dt).pwmOut output).cfg.senseCounts + 40) →
      exec (.pwmSenseSample dt output current) s = .next ((s.tick dt)).settle)

/-- Ethernet ports go up and down, count and sort what they receive, pause, and send in the transmit order. A port that is ENABLED goes
UP, and DOWN with the module signals of ports 0 to 3 as they read, sending remote fault; a change raises NET_LINK_CHANGE of the port,
and going DOWN is counted. Port 4 takes the rate it has negotiated. Where the SerDes of the port restarts with an activation, the next
one begins. A frame of a wrong length or FCS is dropped and counted; one that passes is counted by its class. A pause frame stops the
port for q x 512 bit times, or ends the pause; other MAC control frames are only counted; a frame for nobody is counted as filtered; a
frame for a bound receive ring is written to its descriptors with its fields. A port that is free sends a due packet of an emission run
first, then the other frames of its engines in order, then the host ring in turn; a port that is not free sends nothing. Universe
discovery is queued every 10 s, for each port in pages of 512. Frame layouts are those of assumption 43. -/
def Obligations.EthernetPortsReceiveAndSend : Prop :=
  (∀ (dt : Nat) (link : Machine.LinkUp) (s : State),
    (s.tick dt).portOn link.port = true → link.port ≤ 4 → (s.port link.port).up = false → s.update.serdes = [] →
      Runs (.netLinkUp dt link) s fun t =>
      (t.port link.port).up = true ∧ (t.port link.port).modAbs = false ∧ (t.port link.port).rxLos = false ∧ (t.port link.port).txFault = (link.txFault && link.port != 4) ∧ (t.port link.port).sgmii = (if link.port = 4 then link.mbit else (s.port link.port).sgmii) ∧ (t.port link.port).cfg = (s.port link.port).cfg ∧ (t.port link.port).counters = (s.port link.port).counters
      ∧ (t.icu.src (0x90 + link.port)).count = (s.icu.src (0x90 + link.port)).count + 1 ∧ (∀ q, q ≠ link.port → t.port q = s.port q) ∧ t.clock = s.clock ∧ t.txn = s.txn ∧ t.mem = s.mem)
  ∧ (∀ (dt : Nat) (link : Machine.LinkUp) (s : State),
    ((s.tick dt).portOn link.port = false ∨ (s.port link.port).up = true) → link.port ≤ 4 → s.update.serdes = [] →
      exec (.netLinkUp dt link) s = .next ((s.tick dt).setPort link.port { ((s.tick dt).port link.port) with txFault := link.txFault && link.port != 4, sgmii := if link.port = 4 then link.mbit else (s.port link.port).sgmii }).settle)
  ∧ (∀ (dt : Nat) (link : Machine.LinkUp) (ys : List Serdes) (s : State),
    (s.tick dt).portOn link.port = true → link.port ≤ 4 → s.update.serdes = .port link.port :: ys →
      exec (.netLinkUp dt link) s = .next (((s.tick dt).netUp link.port link.mbit link.txFault).serdesFrom ys).settle)
  ∧ (∀ (dt port : Nat) (modAbs txFault rxLos : Bool) (s : State),
    (s.port port).up = true → port < 4 →
      exec (.netLinkDown dt port modAbs txFault rxLos) s = .next ((((((s.tick dt).setPort port { ((s.tick dt).port port) with up := false, modAbs := modAbs, txFault := txFault, rxLos := rxLos }).countPort port [(47, 1)]).raise (0x90 + port)).emit (.remoteFault port true)).serdesDone (.port port)).settle)
  ∧ (∀ (dt : Nat) (modAbs txFault rxLos : Bool) (s : State),
    (s.port 4).up = true →
      exec (.netLinkDown dt 4 modAbs txFault rxLos) s = .next (((((s.tick dt).setPort 4 { (s.tick dt).port 4 with up := false }).countPort 4 [(47, 1)]).raise 0x94).serdesDone (.port 4)).settle)
  ∧ (∀ (dt port : Nat) (modAbs txFault rxLos : Bool) (s : State),
    (s.port port).up = false → port < 4 →
      exec (.netLinkDown dt port modAbs txFault rxLos) s = .next (((s.tick dt).setPort port { ((s.tick dt).port port) with up := false, modAbs := modAbs, txFault := txFault, rxLos := rxLos }).serdesDone (.port port)).settle)
  ∧ (∀ (dt port : Nat) (frame : RxFrame) (stop : Option Nat) (k : Nat) (s : State),
    (s.tick dt).portOn port = true → port ≤ 4 → ((s.tick dt).port port).up = true → ((s.tick dt).port port).cfg.step1 frame = some k →
      exec (.netFrameRx dt port frame stop) s = .next (((s.tick dt).lineErrors port frame).countPort port [(k, 1)]).settle)
  ∧ (∀ (dt port : Nat) (frame : RxFrame) (stop : Option Nat) (q : Nat) (s : State),
    (s.tick dt).portOn port = true → port ≤ 4 → ((s.tick dt).port port).up = true → ((s.tick dt).port port).cfg.step1 frame = none →
      pauseQuanta frame.bytes = some q → ((s.tick dt).port port).cfg.pauseRx = true →
      Runs (.netFrameRx dt port frame stop) s fun t =>
      (t.port port).pauseEnd = (if q = 0 then none else some ((s.tick dt).tb + (s.port port).bitTimes (512 * q))) ∧ (t.port port).cfg = (s.port port).cfg ∧ (∀ q, q ≠ port → t.port q = s.port q) ∧ t.clock = s.clock ∧ t.txn = s.txn ∧ t.mem = s.mem)
  ∧ (∀ (dt port : Nat) (frame : RxFrame) (stop : Option Nat) (q : Nat) (s : State),
    (s.tick dt).portOn port = true → port ≤ 4 → ((s.tick dt).port port).up = true → ((s.tick dt).port port).cfg.step1 frame = none →
      pauseQuanta frame.bytes = some q → ((s.tick dt).port port).cfg.pauseRx = false →
      exec (.netFrameRx dt port frame stop) s = .next ((((s.tick dt).lineErrors port frame).countPort port (rxCounts frame.bytes (frame.bytes.length + 4))).countPort port [(4, 1)]).settle)
  ∧ (∀ (dt port : Nat) (frame : RxFrame) (stop : Option Nat) (s : State),
    (s.tick dt).portOn port = true → port ≤ 4 → ((s.tick dt).port port).up = true → ((s.tick dt).port port).cfg.step1 frame = none →
      pauseQuanta frame.bytes = none → isMacControl frame.bytes = true →
      exec (.netFrameRx dt port frame stop) s = .next ((((s.tick dt).lineErrors port frame).countPort port (rxCounts frame.bytes (frame.bytes.length + 4))).countPort port [(5, 1)]).settle)
  ∧ (∀ (dt port : Nat) (frame : RxFrame) (stop : Option Nat) (s : State),
    (s.tick dt).portOn port = true → port ≤ 4 → ((s.tick dt).port port).up = true → ((s.tick dt).port port).cfg.step1 frame = none →
      pauseQuanta frame.bytes = none → isMacControl frame.bytes = false → (s.port port).secy.enable = false →
      (s.tick dt).rxTakes port frame.bytes = false →
      exec (.netFrameRx dt port frame stop) s = .next ((((s.tick dt).lineErrors port frame).countPort port (rxCounts frame.bytes (frame.bytes.length + 4))).countPort port [(24, 1)]).settle)
  ∧ (∀ (dt port : Nat) (frame : RxFrame) (k h : Nat) (d : BulkDesc) (ds : List BulkDesc) (s : State),
    (s.tick dt).portOn port = true → port ≤ 4 → ((s.tick dt).port port).up = true → ((s.tick dt).port port).cfg.step1 frame = none →
      pauseQuanta frame.bytes = none → isMacControl frame.bytes = false → (s.port port).secy.enable = false →
      (s.tick dt).rxTakes port frame.bytes = true → (s.tick dt).ptpFrame port frame.bytes = false → s.group.paired = false →
      (s.tick dt).engineRing port frame.bytes = none → queryOf frame.bytes = none → frame.hostErr = none →
      s.net.ringFor port frame.bytes = some k → (s.netRing k).host = h → (s.netRing k).flags = 0 → (s.ring h).phase = .enabled →
      (s.ring h).posted = d :: ds → rxDescOk d = true → frame.bytes.length ≤ d.length →
      Runs (.netFrameRx dt port frame none) s fun t =>
      (t.netRing k).frames = (s.netRing k).frames + 1 ∧ (t.ring h).devIdx = (s.ring h).devIdx + 1 ∧ (t.ring h).posted = ds ∧ (∀ j, j ≠ k → t.netRing j = s.netRing j)
      ∧ (∃ new f, t.out = new ++ .hostWrite ((s.ring h).entryAddr 64 + 0x0E) f :: .hostWrite d.hostAddr frame.bytes :: s.out) ∧ (∀ q, q ≠ port → t.port q = s.port q) ∧ t.clock = s.clock ∧ t.txn = s.txn ∧ t.mem = s.mem)
  ∧ (∀ (dt port : Nat) (frame : RxFrame) (stop : Option Nat) (s : State),
    ((s.tick dt).portOn port = false ∨ (s.port port).up = false ∨ 4 < port) →
      exec (.netFrameRx dt port frame stop) s = .next ((s.tick dt)).settle)
  ∧ (∀ (dt port : Nat) (x : Instant) (s : State),
    ((s.tick dt).port port).pauseEnd = some x → x ≤ (s.tick dt).tb →
      exec (.pauseExpiry dt port) s = .next ((s.tick dt).setPort port { ((s.tick dt).port port) with pauseEnd := none }).settle)
  ∧ (∀ (dt port : Nat) (x : Instant) (s : State),
    ((s.tick dt).port port).pauseEnd = some x → (s.tick dt).tb < x → exec (.pauseExpiry dt port) s = .next ((s.tick dt)).settle)
  ∧ (∀ (dt port : Nat) (turn : Machine.TxTurn) (f : TxFrame) (fs : List TxFrame) (s : State),
    (s.tick dt).portFree port = true → (((s.tick dt).port port).runQueue.filter fun f => (s.tick dt).tickReached f.due) = [] →
      ((s.tick dt).port port).otherQueue = f :: fs → f.run = false → (f.protect = false ∨ ((s.tick dt).port port).secy.enable = false) →
      exec (.netFrameTx dt port turn) s = .next (((((s.tick dt).setPort port { ((s.tick dt).port port) with otherQueue := fs }).noteSyncLeft port f).ringFrame (64 + f.ring)).putOnWire port f.bad f.bytes).settle)
  ∧ (∀ (dt port : Nat) (turn : Machine.TxTurn) (f : TxFrame) (fs : List TxFrame) (s : State),
    (s.tick dt).portFree port = true → (((s.tick dt).port port).runQueue.filter fun f => (s.tick dt).tickReached f.due) = f :: fs →
      (f.protect = false ∨ ((s.tick dt).port port).secy.enable = false) →
      Runs (.netFrameTx dt port turn) s fun t =>
      (t.port port).runQueue = (s.port port).runQueue.erase f ∧ (t.port port).otherQueue = (s.port port).otherQueue ∧ (t.port port).wireEnd = some ((s.tick dt).tb + (s.port port).wireTime (wireFrame f.bytes f.bad)) ∧ (∃ new, t.out = new ++ .eth port (s.tick dt).tb (wireFrame f.bytes f.bad) f.bad :: s.out) ∧ (∀ q, q ≠ port → t.port q = s.port q) ∧ t.clock = s.clock ∧ t.txn = s.txn ∧ t.mem = s.mem)
  ∧ (∀ (dt port : Nat) (turn : Machine.TxTurn) (k h : Nat) (d : BulkDesc) (s : State),
    (s.tick dt).portFree port = true → (((s.tick dt).port port).runQueue.filter fun f => (s.tick dt).tickReached f.due) = [] →
      turn.hostErr = false → ((s.tick dt).port port).otherQueue = [] → s.txReady port = [k] → (s.netRing (64 + k)).host = h →
      chainOf (s.ring h).posted = [d] → chainOk ((s.tick dt).port port).cfg.maxFrame [d] = true → bits d.flags 3 5 = 0 →
      1 ≤ (s.netRing (64 + k)).arg →
      Runs (.netFrameTx dt port turn) s fun t =>
      (t.ring h).devIdx = (s.ring h).devIdx + 1 ∧ (t.ring h).posted = (s.ring h).posted.drop 1 ∧ (t.netRing (64 + k)).frames = (s.netRing (64 + k)).frames + 1
      ∧ (∃ new f, t.out = new ++ .hostWrite ((s.ring h).entryAddr 64 + 0x0E) f :: .eth port (s.tick dt).tb (wireFrame (padTo d.length turn.data) false) false :: s.out) ∧ (∀ q, q ≠ port → t.port q = s.port q) ∧ t.clock = s.clock ∧ t.txn = s.txn ∧ t.mem = s.mem)
  ∧ (∀ (dt port : Nat) (turn : Machine.TxTurn) (s : State),
    (s.tick dt).portFree port = false → exec (.netFrameTx dt port turn) s = .next ((s.tick dt)).settle)
  ∧ (∀ (dt : Nat) (s : State),
    s.txn.view.net.discovery = true → s.txn.view.net.cid ≠ 0 → s.emits = true →
      (∀ x, s.net.discoveryAt = some x → x + 10 * cycSec ≤ (s.tick dt).now) →
      Runs (.sacnDiscoveryTimer dt) s fun t =>
      t.net.discoveryAt = some (s.tick dt).now ∧ t.clock = s.clock ∧ t.txn = s.txn
      ∧ (∀ p, p < 4 → (t.port p).otherQueue = (s.port p).otherQueue ++ (if (s.tick dt).sends p then (piecesOf 512 64 (s.discovered p)).zipIdx.map (fun e =>
          { bytes := sacnFrame (s.port p).cfg s.txn.view.net.ipv6 64214 (e131Discovery s.txn.view.net.cid s.txn.view.net.sourceName e.2 ((piecesOf 512 64 (s.discovered p)).length - 1) e.1)
            protect := (s.port p).protects
            ring := 56 + p }) else [])))
  ∧ (∀ (dt : Nat) (s : State),
    (s.txn.view.net.discovery = false ∨ s.txn.view.net.cid = 0 ∨ s.emits = false) →
      exec (.sacnDiscoveryTimer dt) s = .next ((s.tick dt)).settle)
  ∧ (∀ (dt x : Nat) (s : State),
    s.net.discoveryAt = some x → (s.tick dt).now < x + 10 * cycSec → exec (.sacnDiscoveryTimer dt) s = .next ((s.tick dt)).settle)

/-- NET_PORT_SET, NET_RING_BIND, the MACsec commands and their reads. NET_PORT_SET stores the settings of a port, and answers CONFLICT
where it changes the mode of a port that is not DISABLED. NET_RING_BIND binds a network ring to a DISABLED host ring of its class that
no other network ring uses, and otherwise answers CONFLICT. MACSEC_SECY_SET stores the settings of a SecY, and answers CONFLICT where it
changes the suite of an enabled one. MACSEC_SA_SET installs the key that the MACsec key-encryption key unwraps, answers INTEGRITY where
it does not unwrap and changes nothing, and deletes an SA other than the active transmit SA; both are audited, and answer BUSY where the
audit log refuses them. The reads answer what the port, ring and SecY hold; NET_PORT_STATUS clears HALF where it asks so; keys are not
read. -/
def Obligations.EthernetAndMacsecCommands : Prop :=
  (∀ (dt m : Nat) (s t : State) (e : ExecReq) (c : Ctx) (p : Bytes),
    Running netPortSetSpec m dt s e c t p →
      (fld p 1 1 = (t.port (fld p 0 1)).cfg.mode ∨ t.alive (portFn (fld p 0 1)).1 (portFn (fld p 0 1)).2 = false) →
      exec (.netPortSet dt m) s = answers e c (t.setPort (fld p 0 1) { (t.port (fld p 0 1)) with cfg :=
          { mode := fld p 1 1, pauseRx := bit (fld p 2 2) 0, promisc := bit (fld p 2 2) 1, maxFrame := fld p 4 2, sacnVlan := fld p 6 2
            mac := beNat (slice p 8 6), pcp := fld p 0x0E 1, dscp := fld p 0x0F 1, ipv4 := beNat (slice p 0x10 4)
            ttl := if fld p 0x14 1 = 0 then 64 else fld p 0x14 1, ipv6 := beNat (slice p 0x18 16) } }) .ok [])
  ∧ (∀ (dt m : Nat) (s t : State) (e : ExecReq) (c : Ctx) (p : Bytes),
    Running netPortSetSpec m dt s e c t p → fld p 1 1 ≠ (t.port (fld p 0 1)).cfg.mode →
      t.alive (portFn (fld p 0 1)).1 (portFn (fld p 0 1)).2 = true → exec (.netPortSet dt m) s = answers e c t .conflict [])
  ∧ (∀ (dt m : Nat) (s t : State) (e : ExecReq) (c : Ctx) (p : Bytes) (h : Nat),
    Running netRingBindSpec m dt s e c t p → h = fld p 2 1 → h ≠ 0 → (t.ring h).phase = .disabled →
      ((t.netRing (64 * fld p 1 1 + fld p 0 1)).host = 0 ∨ (t.ring (t.netRing (64 * fld p 1 1 + fld p 0 1)).host).phase = .disabled) →
      (t.ring h).cfg.cls = 0x10 + fld p 1 1 → (t.ring h).cfg.dir = false →
      (∀ e ∈ t.net.rings, e.1 ≠ (64 * fld p 1 1 + fld p 0 1) → e.2.host ≠ h) →
      exec (.netRingBind dt m) s = answers e c (t.setNetRing (64 * fld p 1 1 + fld p 0 1) { t.netRing (64 * fld p 1 1 + fld p 0 1) with host := fld p 2 1, ports := fld p 3 1, match_ := fld p 4 1, flags := fld p 5 1, arg := fld p 6 2, value := if fld p 4 1 = 3 then fld p 8 6 else fld p 8 2 }) .ok [])
  ∧ (∀ (dt m : Nat) (s t : State) (e : ExecReq) (c : Ctx) (p : Bytes),
    Running netRingBindSpec m dt s e c t p → fld p 2 1 = 0 →
      ((t.netRing (64 * fld p 1 1 + fld p 0 1)).host = 0 ∨ (t.ring (t.netRing (64 * fld p 1 1 + fld p 0 1)).host).phase = .disabled) →
      exec (.netRingBind dt m) s = answers e c (t.setNetRing (64 * fld p 1 1 + fld p 0 1) { t.netRing (64 * fld p 1 1 + fld p 0 1) with host := 0, ports := fld p 3 1, match_ := fld p 4 1, flags := fld p 5 1, arg := fld p 6 2, value := if fld p 4 1 = 3 then fld p 8 6 else fld p 8 2 }) .ok [])
  ∧ (∀ (dt m : Nat) (s t : State) (e : ExecReq) (c : Ctx) (p : Bytes),
    Running netRingBindSpec m dt s e c t p → fld p 2 1 ≠ 0 →
      ((t.ring (fld p 2 1)).phase ≠ .disabled ∨ (t.ring (fld p 2 1)).cfg.cls ≠ 0x10 + fld p 1 1 ∨ (∃ e ∈ t.net.rings, e.1 ≠ (64 * fld p 1 1 + fld p 0 1) ∧ e.2.host = fld p 2 1)) →
      exec (.netRingBind dt m) s = answers e c t .conflict [])
  ∧ (∀ (dt m : Nat) (s t : State) (e : ExecReq) (c : Ctx) (p : Bytes),
    Running netPortStatusSpec m dt s e c t p →
      exec (.netPortStatus dt m) s = answers e c ((if bit (fld p 1 1) 0 then t.setPort (fld p 0 1) { (t.port (fld p 0 1)) with half := 0 } else t)) .ok (bytesLE 1 (t.fnCode (portFn (fld p 0 1)).1 (portFn (fld p 0 1)).2) ++ bytesLE 1 (b2n (t.port (fld p 0 1)).up) ++ bytesLE 1 (t.port (fld p 0 1)).cfg.mode
          ++ bytesLE 1 (b2n (t.port (fld p 0 1)).modAbs + 2 * b2n (t.port (fld p 0 1)).txFault + 4 * b2n (t.port (fld p 0 1)).rxLos + 8 * b2n (t.fnCode (portFn (fld p 0 1)).1 (portFn (fld p 0 1)).2 == 0 && fld p 0 1 < 4))
          ++ bytesLE 4 ((t.port (fld p 0 1)).pauseEnd.elim 0 fun e => (roundDiv (max 0 (e - t.tb)) 65536).toNat) ++ bytesLE 8 (t.port (fld p 0 1)).half ++ (t.port (fld p 0 1)).counters.flatMap (fun x => bytesLE 4 x.toNat)))
  ∧ (∀ (dt m : Nat) (s t : State) (e : ExecReq) (c : Ctx) (p : Bytes),
    Running netRingStatusSpec m dt s e c t p →
      exec (.netRingStatus dt m) s = answers e c t .ok (bytesLE 1 (t.netRing (64 * fld p 1 1 + fld p 0 1)).host ++ zeros 3 ++ bytesLE 4 (t.netLevel (64 * fld p 1 1 + fld p 0 1)) ++ [(t.netRing (64 * fld p 1 1 + fld p 0 1)).crossings, (t.netRing (64 * fld p 1 1 + fld p 0 1)).frames, (t.netRing (64 * fld p 1 1 + fld p 0 1)).noBuffer, (t.netRing (64 * fld p 1 1 + fld p 0 1)).tsLost].flatMap (fun x => bytesLE 4 x.toNat)))
  ∧ (∀ (dt m : Nat) (s t : State) (e : ExecReq) (c : Ctx) (p : Bytes),
    Running macsecSecySetSpec m dt s e c t p → t.auditFull = false →
      ((t.port (fld p 0 1)).secy.enable = false ∨ ((t.port (fld p 0 1)).secy.xpn = true ↔ fld p 2 1 = 1)) →
      exec (.macsecSecySet dt m) s = answers e c ((t.audit 0x0013 c.session c.role 0 [BitVec.ofNat 8 (fld p 0 1)]).setPort (fld p 0 1) { (t.port (fld p 0 1)) with secy := { (t.port (fld p 0 1)).secy with
          enable := fld p 1 1 == 1, xpn := fld p 2 1 == 1, validate := fld p 3 1, protect := bit (fld p 4 1) 0, includeSci := bit (fld p 4 1) 1, replay := bit (fld p 4 1) 2
          confOffset := fld p 5 1, window := fld p 8 4, txSci := fld p 0x10 8, rxSci := (List.range 4).map fun i => fld p (0x18 + 8 * i) 8 } }) .ok [])
  ∧ (∀ (dt m : Nat) (s t : State) (e : ExecReq) (c : Ctx) (p : Bytes),
    Running macsecSecySetSpec m dt s e c t p → t.auditFull = false → (t.port (fld p 0 1)).secy.enable = true →
      (t.port (fld p 0 1)).secy.xpn = true → fld p 2 1 = 0 → exec (.macsecSecySet dt m) s = answers e c t .conflict [])
  ∧ (∀ (dt m : Nat) (s t : State) (e : ExecReq) (c : Ctx) (p kek : Bytes),
    Running macsecSaSetSpec m dt s e c t p → t.auditFull = false → fld p 3 1 = 1 → t.secure.kekNow = some kek →
      exec (.macsecSaSet dt m) s = answers e c ((keyUnwrap kek (slice p 0x20 40)).elim t fun key => (t.audit 0x0013 c.session c.role 0 (p.take 4)).setPort (fld p 0 1) { (t.port (fld p 0 1)) with secy := { (t.port (fld p 0 1)).secy with
          sas := (t.port (fld p 0 1)).secy.sas.put (4 * fld p 1 1 + fld p 2 1) { key := key, pn := fld p 8 8, ssci := fld p 4 4, salt := slice p 0x10 12 }
          active := (t.port (fld p 0 1)).secy.active.put (fld p 1 1) (fld p 2 1)
          exhausted := (t.port (fld p 0 1)).secy.exhausted && !(fld p 1 1 == 0) } }) (if (keyUnwrap kek (slice p 0x20 40)).isSome then .ok else .integrity) [])
  ∧ (∀ (dt m : Nat) (s t : State) (e : ExecReq) (c : Ctx) (p kek : Bytes),
    Running macsecSaSetSpec m dt s e c t p → t.auditFull = false → fld p 3 1 = 0 → t.secure.kekNow = some kek →
      exec (.macsecSaSet dt m) s = answers e c ((keyUnwrap kek (slice p 0x20 40)).elim t fun key => (t.audit 0x0013 c.session c.role 0 (p.take 4)).setPort (fld p 0 1) { (t.port (fld p 0 1)) with secy := { (t.port (fld p 0 1)).secy with
          sas := (t.port (fld p 0 1)).secy.sas.put (4 * fld p 1 1 + fld p 2 1) { key := key, pn := fld p 8 8, ssci := fld p 4 4, salt := slice p 0x10 12 } } }) (if (keyUnwrap kek (slice p 0x20 40)).isSome then .ok else .integrity) [])
  ∧ (∀ (dt m : Nat) (s t : State) (e : ExecReq) (c : Ctx) (p : Bytes),
    Running macsecSaSetSpec m dt s e c t p → t.auditFull = false → fld p 3 1 ≠ 2 → t.secure.kekNow = none →
      exec (.macsecSaSet dt m) s = answers e c t .integrity [])
  ∧ (∀ (dt m : Nat) (s t : State) (e : ExecReq) (c : Ctx) (p : Bytes),
    Running macsecSaSetSpec m dt s e c t p → t.auditFull = false → fld p 3 1 = 2 →
      (t.port (fld p 0 1)).secy.active.find (fld p 1 1) ≠ some (fld p 2 1) →
      exec (.macsecSaSet dt m) s = answers e c ((t.audit 0x0013 c.session c.role 0 (p.take 4)).setPort (fld p 0 1) { (t.port (fld p 0 1)) with secy := { (t.port (fld p 0 1)).secy with sas := (t.port (fld p 0 1)).secy.sas.del (4 * fld p 1 1 + fld p 2 1) } }) .ok [])
  ∧ (∀ (dt m : Nat) (s t : State) (e : ExecReq) (c : Ctx) (p : Bytes),
    Running macsecSaSetSpec m dt s e c t p → t.auditFull = false → fld p 3 1 = 2 → fld p 1 1 = 0 →
      (t.port (fld p 0 1)).secy.active.find 0 = some (fld p 2 1) → exec (.macsecSaSet dt m) s = answers e c t .conflict [])
  ∧ (∀ (dt m : Nat) (s t : State) (e : ExecReq) (c : Ctx) (p : Bytes),
    Running macsecStatusSpec m dt s e c t p →
      exec (.macsecStatus dt m) s = answers e c t .ok (bytesLE 1 (b2n (t.port (fld p 0 1)).secy.enable) ++ bytesLE 1 ((t.port (fld p 0 1)).secy.active.getD 0 0)
          ++ bytesLE 2 (((List.range 4).map fun an => b2n ((t.port (fld p 0 1)).secy.sas.has an) * 2 ^ an).sum)
          ++ bytesLE 4 (((List.range 4).map fun i => ((List.range 4).map fun an => b2n ((t.port (fld p 0 1)).secy.sas.has (4 * (i + 1) + an)) * 2 ^ an).sum * 16 ^ i).sum)
          ++ (List.range 5).flatMap fun i => bytesLE 8 ((((t.port (fld p 0 1)).secy.active.find i).bind fun an => (t.port (fld p 0 1)).secy.sas.find (4 * i + an)).elim 0 (·.pn))))

/-- Metering samples, line cycles, recalibration and pulses run as their tables give. A sample is taken at its instant, of every channel
that is not DISABLED, with its engineering value and the next gain. A crossing of a point in START opens its first interval; in NORMAL
it ends a line cycle, and the N-th closes the latch interval with a record; in LOSS it closes the loss interval, raises MTR_RETURN and
goes to NORMAL; a crossing within 12 ms of the one before, or of a DISABLED point, changes nothing. After ZC_TIMEOUT without a crossing
the point goes to LOSS with MTR_LOSS. An AUX_DC channel delivers its mean at the end of its period. A recalibration goes through its
steps in order, each after its time, and its outcome decides the coefficients. A due edge is driven, or waits in BACKLOG during a pulse
and its gap; a pulse ends after WIDTH_MS, and a waiting one is driven after the gap. -/
def Obligations.MeteringSamplesCyclesAndPulses : Prop :=
  (∀ (dt : Nat) (raw : List Int) (c : Nat) (s : State),
    c < 64 → s.mtrLive c = true → s.meter.base + 62500 * s.meter.nextSample ≤ (s.tick dt).now →
      Runs (.mtrSample dt raw) s fun t =>
      t.meter.nextSample = s.meter.nextSample + 1
      ∧ (∀ c, c < 64 → t.meter.channel c = if s.mtrLive c then ((s.meter.channel c).sample (clampInt (raw.getD c 0) (-8388608) 8388607) (s.tick dt).now).1 else s.meter.channel c) ∧ t.clock = s.clock ∧ t.txn = s.txn ∧ t.mem = s.mem ∧ t.fns = s.fns ∧ t.inputs = s.inputs)
  ∧ (∀ (dt : Nat) (raw : List Int) (s : State),
    ((s.tick dt).now < s.meter.base + 62500 * s.meter.nextSample ∨ (∀ c, c < 64 → s.mtrLive c = false)) →
      exec (.mtrSample dt raw) s = .next ((s.tick dt)).settle)
  ∧ (∀ (c : MtrChannel) (raw : Int) (now : Nat),
    (c.sample raw now).1.x = (if c.invert then -raw else raw)
      ∧ (c.sample raw now).1.y = (if c.role = 2 then (c.engineering c.gain (if c.invert then -raw else raw) * (65536 - c.phaseCorr) + c.yPrev * c.phaseCorr) / 65536 else c.engineering c.gain (if c.invert then -raw else raw)) ∧ (c.sample raw now).1.gain = (c.nextGain (if c.invert then -raw else raw)).1
      ∧ ((c.sample raw now).2.2 = true ↔ (c.nextGain (if c.invert then -raw else raw)).1 ≠ c.gain) ∧ (c.sample raw now).1.sqCount = c.sqCount + 1 ∧ (c.sample raw now).1.kg = c.kg ∧ (c.sample raw now).1.zg = c.zg)
  ∧ (∀ (c : MtrChannel) (x : Int),
    c.role = 2 → c.gainCode = 0 → 2 ^ 23 - 1 ≤ absInt x → c.nextGain x = (0, 0))
  ∧ (∀ (dt point : Nat) (stamp : Int) (p : MtrPoint) (s : State),
    s.meter.points.find point = some p → p.phase = .start → stamp ≤ (s.tick dt).tb →
      (∀ c, p.lastCross = some c → 12000000 * 65536 ≤ stamp - c) → s.pointDrains point = false →
      Runs (.mtrZeroCrossing dt point stamp) s fun t =>
      (t.meter.points.find point) = some ({ (p.open_ stamp false).openCycle stamp with phase := .normal, zcSince := (s.tick dt).now }) ∧ (∀ k, k ≠ point → t.meter.points.find k = s.meter.points.find k) ∧ t.clock = s.clock ∧ t.txn = s.txn ∧ t.mem = s.mem ∧ t.fns = s.fns ∧ t.inputs = s.inputs)
  ∧ (∀ (dt point : Nat) (stamp : Int) (p : MtrPoint) (v : MtrInterval) (s : State),
    s.meter.points.find point = some p → p.phase = .normal → stamp ≤ (s.tick dt).tb →
      (∀ c, p.lastCross = some c → 12000000 * 65536 ≤ stamp - c) → s.pointDrains point = false → p.change = none → p.interval = some v →
      v.cycles + 1 < p.n →
      Runs (.mtrZeroCrossing dt point stamp) s fun t =>
      (t.meter.points.find point).map (fun q => (q.phase, q.recs, q.seq, q.interval.map (·.cycles), q.lastCross)) = some (.normal, p.recs, p.seq, some (v.cycles + 1), some stamp)
      ∧ (t.meter.points.find point).map (·.last) = some (p.cycleRec stamp) ∧ (∀ k, k ≠ point → t.meter.points.find k = s.meter.points.find k) ∧ t.clock = s.clock ∧ t.txn = s.txn ∧ t.mem = s.mem ∧ t.fns = s.fns ∧ t.inputs = s.inputs)
  ∧ (∀ (dt point : Nat) (stamp : Int) (p : MtrPoint) (v : MtrInterval) (s : State),
    s.meter.points.find point = some p → p.phase = .normal → stamp ≤ (s.tick dt).tb →
      (∀ c, p.lastCross = some c → 12000000 * 65536 ≤ stamp - c) → s.pointDrains point = false → p.change = none → p.interval = some v →
      p.n ≤ v.cycles + 1 →
      Runs (.mtrZeroCrossing dt point stamp) s fun t =>
      (t.meter.points.find point).map (fun q => (q.phase, q.recs.length, q.seq, q.interval.map (fun y => (y.startAt, y.cycles)), q.lastCross)) = some (.normal, min 16 (p.recs.length + 1), (p.seq + 1) % 2 ^ 32, some (stamp, 0), some stamp)
      ∧ (t.meter.points.find point).bind (fun q => q.recs.head?.map fun r => (r.seq, r.gen, r.endAt)) = some (p.seq, p.gen, stamp) ∧ (t.icu.src 0x8C).count = (s.icu.src 0x8C).count + 1 ∧ (∀ k, k ≠ point → t.meter.points.find k = s.meter.points.find k) ∧ t.clock = s.clock ∧ t.txn = s.txn ∧ t.mem = s.mem ∧ t.fns = s.fns ∧ t.inputs = s.inputs)
  ∧ (∀ (dt point : Nat) (stamp : Int) (p : MtrPoint) (v : MtrInterval) (s : State),
    s.meter.points.find point = some p → p.phase = .loss → stamp ≤ (s.tick dt).tb →
      (∀ c, p.lastCross = some c → 12000000 * 65536 ≤ stamp - c) → s.pointDrains point = false → p.interval = some v →
      Runs (.mtrZeroCrossing dt point stamp) s fun t =>
      (t.meter.points.find point).map (fun q => (q.phase, q.lastCross)) = some (.normal, some stamp) ∧ (t.meter.points.find point).bind (fun q => q.recs.head?.map fun r => (r.seq, r.flags % 2)) = some (p.seq, 1) ∧ (t.icu.src 0x89).count = (s.icu.src 0x89).count + 1 ∧ (∀ k, k ≠ point → t.meter.points.find k = s.meter.points.find k) ∧ t.clock = s.clock ∧ t.txn = s.txn ∧ t.mem = s.mem ∧ t.fns = s.fns ∧ t.inputs = s.inputs)
  ∧ (∀ (dt point : Nat) (stamp : Int) (s : State),
    (∀ p, s.meter.points.find point = some p → p.phase = .disabled ∨ (s.tick dt).tb < stamp ∨ ∃ c, p.lastCross = some c ∧ stamp - c < 12000000 * 65536) →
      exec (.mtrZeroCrossing dt point stamp) s = .next ((s.tick dt)).settle)
  ∧ (∀ (dt point : Nat) (p : MtrPoint) (s : State),
    s.meter.points.find point = some p → (p.phase = .normal ∨ p.phase = .start) → p.zcSince + p.zcMs * cycMs ≤ (s.tick dt).now →
      s.pointDrains point = false →
      Runs (.mtrZcTimeout dt point) s fun t =>
      (t.meter.points.find point).map (fun q => (q.phase, q.interval.map (fun y => (y.startAt, y.lossSpan)))) = some (.loss, some ((s.tick dt).tb, true)) ∧ (t.icu.src 0x88).count = (s.icu.src 0x88).count + 1 ∧ (∀ k, k ≠ point → t.meter.points.find k = s.meter.points.find k) ∧ t.clock = s.clock ∧ t.txn = s.txn ∧ t.mem = s.mem ∧ t.fns = s.fns ∧ t.inputs = s.inputs)
  ∧ (∀ (dt point : Nat) (s : State),
    (∀ p, s.meter.points.find point = some p → p.phase = .disabled ∨ (s.tick dt).now < p.zcSince + p.zcMs * cycMs ∨ (p.phase = .loss ∧ s.pointDrains point = false)) →
      exec (.mtrZcTimeout dt point) s = .next ((s.tick dt)).settle)
  ∧ (∀ (dt channel : Nat) (s : State),
    (s.meter.channel channel).role = 3 → s.mtrLive channel = true →
      (s.meter.channel channel).auxSince + (s.meter.channel channel).auxMs * cycMs ≤ (s.tick dt).now →
      Runs (.mtrAuxPeriodEnd dt channel) s fun t =>
      (t.meter.channel channel).rho = (if (s.meter.channel channel).auxCount = 0 then (s.meter.channel channel).rho else F32.ofRat (s.meter.channel channel).auxSum (2 ^ 55 * (s.meter.channel channel).auxCount))
      ∧ (t.meter.channel channel).auxCount = 0 ∧ (t.meter.channel channel).auxSum = 0 ∧ (t.meter.channel channel).auxSince = (s.tick dt).now ∧ (∀ c, c ≠ channel → t.meter.channel c = s.meter.channel c) ∧ t.clock = s.clock ∧ t.txn = s.txn ∧ t.mem = s.mem ∧ t.fns = s.fns ∧ t.inputs = s.inputs)
  ∧ (∀ (dt channel : Nat) (s : State),
    ((s.meter.channel channel).role ≠ 3 ∨ s.mtrLive channel = false ∨ (s.tick dt).now < (s.meter.channel channel).auxSince + (s.meter.channel channel).auxMs * cycMs) →
      exec (.mtrAuxPeriodEnd dt channel) s = .next ((s.tick dt)).settle)
  ∧ (∀ (dt c : Nat) (s : State),
    s.meter.rove = none → s.meter.roveSince + s.meter.rovePeriodMs * cycMs ≤ (s.tick dt).now → (s.tick dt).roveNext = some c →
      exec (.mtrRoveStart dt) s = .next (((s.tick dt)).withMeter { s.meter with rove := some { channel := c, step := .fit, since := (s.tick dt).now }, roveSince := (s.tick dt).now, roveLast := c }).settle)
  ∧ (∀ (c : Nat) (s : State),
    s.roveNext = some c → c < 64 ∧ s.enabled 0x0B c = true ∧ (s.meter.channel c).rove = true)
  ∧ (∀ (dt : Nat) (s : State),
    (s.meter.rove.isSome = true ∨ (s.tick dt).now < s.meter.roveSince + s.meter.rovePeriodMs * cycMs ∨ (s.tick dt).roveNext = none) →
      exec (.mtrRoveStart dt) s = .next ((s.tick dt)).settle)
  ∧ (∀ (dt : Nat) (r : RoveRun) (s : State),
    s.meter.rove = some r → r.step = .fit → r.since + 250 * cycMs ≤ (s.tick dt).now →
      exec (.mtrRoveTakeover dt) s = .next ((s.tick dt).withMeter { s.meter with rove := some { r with step := .selfCal, since := (s.tick dt).now } }).settle)
  ∧ (∀ (dt : Nat) (kg zg : List Int) (r : RoveRun) (s : State),
    s.meter.rove = some r → r.step = .selfCal → r.since + 400 * cycMs ≤ (s.tick dt).now →
      exec (.mtrRoveRejoin dt kg zg) s = .next ((s.tick dt).withMeter { s.meter with rove := some { r with step := .compare, since := (s.tick dt).now, kg := kg, zg := zg } }).settle)
  ∧ (∀ (dt : Nat) (residual : Int) (r : RoveRun) (s : State),
    s.meter.rove = some r → r.step = .compare → r.since + 250 * cycMs ≤ (s.tick dt).now →
      Runs (.mtrRoveReturn dt residual) s fun t =>
      t.meter.rove = some { r with step := .settle, since := (s.tick dt).now }
      ∧ t.meter.channel r.channel = (if 10000 * absInt residual ≤ 2 * 2 ^ 32 ∧ roveWithin s.meter.coef r.channel r.kg r.zg = true then { s.meter.channel r.channel with kg := r.kg, zg := r.zg, live := true, roveCount := (s.meter.channel r.channel).roveCount + 1, roveSec := stampSec (s.tick dt).tb, gainDelta := (t.meter.channel r.channel).gainDelta, offsetDelta := (t.meter.channel r.channel).offsetDelta }
        else { s.meter.channel r.channel with roveCount := (s.meter.channel r.channel).roveCount + 1, roveFaults := (s.meter.channel r.channel).roveFaults + 1, roveSec := stampSec (s.tick dt).tb, gainDelta := F32.f0, offsetDelta := F32.f0 })
      ∧ (∀ c, c ≠ r.channel → t.meter.channel c = s.meter.channel c) ∧ t.clock = s.clock ∧ t.txn = s.txn ∧ t.mem = s.mem ∧ t.fns = s.fns ∧ t.inputs = s.inputs)
  ∧ (∀ (dt : Nat) (r : RoveRun) (s : State),
    s.meter.rove = some r → r.step = .settle → r.since + 100 * cycMs ≤ (s.tick dt).now →
      exec (.mtrRoveEnd dt) s = .next ((s.tick dt).withMeter { s.meter with rove := none }).settle)
  ∧ (∀ (dt : Nat) (s : State),
    (s.meter.rove = none ∨ ∃ r, s.meter.rove = some r ∧ (r.step ≠ .settle ∨ (s.tick dt).now < r.since + 100 * cycMs)) →
      exec (.mtrRoveEnd dt) s = .next ((s.tick dt)).settle)
  ∧ (∀ (dt output : Nat) (x : Instant) (es : List Instant) (s : State),
    s.enabled 0x0D output = true → (s.meter.pulses.getD output {}).edges = x :: es → x ≤ (s.tick dt).tb →
      (s.meter.pulses.getD output {}).driving = false → (s.meter.pulses.getD output {}).gapping = false →
      (s.meter.pulses.getD output {}).backlog = 0 →
      exec (.mtrPulseEdge dt output) s = .next (((s.tick dt).setMtrPulse output { (s.meter.pulses.getD output {}) with edges := es, driving := true, edgeAt := (s.tick dt).now, pulses := (s.meter.pulses.getD output {}).pulses + 1 }).emit (.mtrPulse output true)).settle)
  ∧ (∀ (dt output : Nat) (x : Instant) (es : List Instant) (s : State),
    s.enabled 0x0D output = true → (s.meter.pulses.getD output {}).edges = x :: es → x ≤ (s.tick dt).tb →
      (s.meter.pulses.getD output {}).driving = true →
      exec (.mtrPulseEdge dt output) s = .next (((s.tick dt).setMtrPulse output { (s.meter.pulses.getD output {}) with edges := es, backlog := (s.meter.pulses.getD output {}).backlog + 1 }).raiseIf ((s.meter.pulses.getD output {}).backlog == 0) 0x8F).settle)
  ∧ (∀ (dt output : Nat) (s : State),
    (s.enabled 0x0D output = false ∨ (s.meter.pulses.getD output {}).edges = [] ∨ ∃ x ∈ (s.meter.pulses.getD output {}).edges.head?, (s.tick dt).tb < x) →
      exec (.mtrPulseEdge dt output) s = .next ((s.tick dt)).settle)
  ∧ (∀ (dt output : Nat) (s : State),
    (s.meter.pulses.getD output {}).driving = true →
      (s.meter.pulses.getD output {}).edgeAt + (s.meter.pulses.getD output {}).widthMs * cycMs ≤ (s.tick dt).now →
      exec (.mtrPulseEnd dt output) s = .next (((s.tick dt).setMtrPulse output { (s.meter.pulses.getD output {}) with driving := false, gapping := true, endAt := (s.tick dt).now }).emit (.mtrPulse output false)).settle)
  ∧ (∀ (dt output : Nat) (s : State),
    ((s.meter.pulses.getD output {}).driving = false ∨ (s.tick dt).now < (s.meter.pulses.getD output {}).edgeAt + (s.meter.pulses.getD output {}).widthMs * cycMs) →
      exec (.mtrPulseEnd dt output) s = .next ((s.tick dt)).settle)
  ∧ (∀ (dt output : Nat) (s : State),
    (s.meter.pulses.getD output {}).gapping = true →
      (s.meter.pulses.getD output {}).endAt + (s.meter.pulses.getD output {}).gapMs * cycMs ≤ (s.tick dt).now →
      (s.meter.pulses.getD output {}).backlog ≠ 0 → s.enabled 0x0D output = true →
      exec (.mtrPulseGapEnd dt output) s = .next (((s.tick dt).setMtrPulse output { (s.meter.pulses.getD output {}) with gapping := false, backlog := (s.meter.pulses.getD output {}).backlog - 1, driving := true, edgeAt := (s.tick dt).now, pulses := (s.meter.pulses.getD output {}).pulses + 1 }).emit (.mtrPulse output true)).settle)
  ∧ (∀ (dt output : Nat) (s : State),
    (s.meter.pulses.getD output {}).gapping = true →
      (s.meter.pulses.getD output {}).endAt + (s.meter.pulses.getD output {}).gapMs * cycMs ≤ (s.tick dt).now →
      ((s.meter.pulses.getD output {}).backlog = 0 ∨ s.enabled 0x0D output = false) →
      exec (.mtrPulseGapEnd dt output) s = .next ((s.tick dt).setMtrPulse output { (s.meter.pulses.getD output {}) with gapping := false }).settle)
  ∧ (∀ (dt output : Nat) (s : State),
    ((s.meter.pulses.getD output {}).gapping = false ∨ (s.tick dt).now < (s.meter.pulses.getD output {}).endAt + (s.meter.pulses.getD output {}).gapMs * cycMs) →
      exec (.mtrPulseGapEnd dt output) s = .next ((s.tick dt)).settle)

/-- The metering commands set channels, points, presets, pulses and recalibration, and their reads answer what is held. MTR_CHANNEL_SET
stores the settings of a channel, and answers CONFLICT where it changes the role of a channel that an ENABLED point names. MTR_POINT_SET
creates a point with its registers at zero, changes one, or deletes one that is not ENABLED; channels of the wrong role or of another
point answer CONFLICT. MTR_ENERGY_PRESET queues a preset for the next interval and is audited. MTR_PULSE_SET stores the settings of an
output, and clears A and BACKLOG where the point or the quantity changes. MTR_ROVE_SET sets the period, zero standing for 5,000 ms. The
reads answer records, cycles and states as they are; MTR_LATCH_READ of a record that is not kept answers OUT_OF_RANGE. MTR_CAPTURE
answers ACCEPTED and begins a capture, whose samples land in the region at its end. -/
def Obligations.MeteringCommands : Prop :=
  (∀ (dt m : Nat) (s t : State) (e : ExecReq) (c : Ctx) (p : Bytes),
    Running mtrChannelSpec m dt s e c t p → ((t.meter.channel (fld p 0 1)).role = fld p 1 1 ∨ t.channelTied (fld p 0 1) = false) →
      Runs (.mtrChannelSet dt m) s fun u =>
      (u.meter.channel (fld p 0 1)).role = fld p 1 1 ∧ (u.meter.channel (fld p 0 1)).gainCode = fld p 2 1 ∧ (u.meter.channel (fld p 0 1)).rove = bit (fld p 3 1) 0 ∧ (u.meter.channel (fld p 0 1)).invert = bit (fld p 3 1) 1
      ∧ (u.meter.channel (fld p 0 1)).scale = fldF p 4 ∧ (u.meter.channel (fld p 0 1)).offset = fldF p 8 ∧ (u.meter.channel (fld p 0 1)).phaseCorr = fldS p 12 2 ∧ (u.meter.channel (fld p 0 1)).auxMs = (if fld p 14 2 = 0 then 100 else fld p 14 2)
      ∧ (u.meter.channel (fld p 0 1)).gain = (if fld p 2 1 = 0 then (t.meter.channel (fld p 0 1)).gain else fld p 2 1 - 1) ∧ (u.meter.channel (fld p 0 1)).kg = (t.meter.channel (fld p 0 1)).kg
      ∧ (∀ k, k ≠ fld p 0 1 → u.meter.channel k = t.meter.channel k) ∧ u.meter.points = t.meter.points ∧ u.txn = t.txn)
  ∧ (∀ (dt m : Nat) (s t : State) (e : ExecReq) (c : Ctx) (p : Bytes),
    Running mtrChannelSpec m dt s e c t p → (t.meter.channel (fld p 0 1)).role ≠ fld p 1 1 → t.channelTied (fld p 0 1) = true →
      exec (.mtrChannelSet dt m) s = answers e c t .conflict [])
  ∧ (∀ (dt m : Nat) (s t : State) (e : ExecReq) (c : Ctx) (p : Bytes),
    Running mtrPointSpec m dt s e c t p → fld p 1 1 ≠ 0 → t.meter.pointConflict (fld p 0 1) (pointCfgOf p) = false →
      t.meter.points.find (fld p 0 1) = none → t.enabled 0x0C (fld p 0 1) = false →
      exec (.mtrPointSet dt m) s = answers e c (t.withMeter (t.meter.setPoint (fld p 0 1) { cfg := pointCfgOf p, n := (pointCfgOf p).n, zcMs := (pointCfgOf p).zcMs, regs := zeroRegs, gen := (t.meter.gens.getD (fld p 0 1) 0 + 1) % 65536 })) .ok [])
  ∧ (∀ (dt m : Nat) (s t : State) (e : ExecReq) (c : Ctx) (p : Bytes) (x : MtrPoint),
    Running mtrPointSpec m dt s e c t p → fld p 1 1 ≠ 0 → t.meter.pointConflict (fld p 0 1) (pointCfgOf p) = false →
      t.meter.points.find (fld p 0 1) = some x → x.phase = .normal → x.cfg.sameChannels (pointCfgOf p) = false →
      exec (.mtrPointSet dt m) s = answers e c (t.withMeter (t.meter.setPoint (fld p 0 1) { x with change := some (pointCfgOf p) })) .ok [])
  ∧ (∀ (dt m : Nat) (s t : State) (e : ExecReq) (c : Ctx) (p : Bytes),
    Running mtrPointSpec m dt s e c t p → fld p 1 1 = 0 → (t.meter.points.has (fld p 0 1) = false ∨ t.enabled 0x0C (fld p 0 1) = false) →
      exec (.mtrPointSet dt m) s = answers e c (t.withMeter { t.meter with points := t.meter.points.del (fld p 0 1) }) .ok [])
  ∧ (∀ (dt m : Nat) (s t : State) (e : ExecReq) (c : Ctx) (p : Bytes),
    Running mtrPointSpec m dt s e c t p → fld p 1 1 = 0 → t.meter.points.has (fld p 0 1) = true → t.enabled 0x0C (fld p 0 1) = true →
      exec (.mtrPointSet dt m) s = answers e c t .conflict [])
  ∧ (∀ (dt m : Nat) (s t : State) (e : ExecReq) (c : Ctx) (p : Bytes),
    Running mtrPointSpec m dt s e c t p → fld p 1 1 ≠ 0 → t.meter.pointConflict (fld p 0 1) (pointCfgOf p) = true →
      exec (.mtrPointSet dt m) s = answers e c t .conflict [])
  ∧ (∀ (dt m : Nat) (s t : State) (e : ExecReq) (c : Ctx) (p : Bytes) (x : MtrPoint),
    Running mtrPresetSpec m dt s e c t p → t.auditFull = false → t.meter.points.find (fld p 0 1) = some x →
      Runs (.mtrEnergyPreset dt m) s fun u =>
      u.meter.points.find (fld p 0 1) = some { x with presets := x.presets ++ [(7 * fld p 1 1 + fld p 2 1, fld p 4 2, fld p 8 8)] } ∧ u.secure.auditNext = t.secure.auditNext + 1 ∧ (∀ k, k ≠ fld p 0 1 → u.meter.points.find k = t.meter.points.find k))
  ∧ (∀ (dt m : Nat) (s t : State) (e : ExecReq) (c : Ctx) (p : Bytes),
    Running mtrPresetSpec m dt s e c t p → t.auditFull = false → t.meter.points.find (fld p 0 1) = none →
      exec (.mtrEnergyPreset dt m) s = answers e c t .conflict [])
  ∧ (∀ (dt m : Nat) (s t : State) (e : ExecReq) (c : Ctx) (p : Bytes),
    Running mtrPulseSetSpec m dt s e c t p → t.meter.points.has (fld p 1 1) = true →
      exec (.mtrPulseSet dt m) s = answers e c (t.setMtrPulse (fld p 0 1) { (t.meter.pulses.getD (fld p 0 1) {}) with point := some (fld p 1 1), quantity := fld p 2 1, polarity := fld p 3 1, const := fld p 4 4, widthMs := fld p 8 2, gapMs := fld p 10 2, pulses := 0, acc := if (t.meter.pulses.getD (fld p 0 1) {}).point = some (fld p 1 1) ∧ (t.meter.pulses.getD (fld p 0 1) {}).quantity = fld p 2 1 then (t.meter.pulses.getD (fld p 0 1) {}).acc else 0, backlog := if (t.meter.pulses.getD (fld p 0 1) {}).point = some (fld p 1 1) ∧ (t.meter.pulses.getD (fld p 0 1) {}).quantity = fld p 2 1 then (t.meter.pulses.getD (fld p 0 1) {}).backlog else 0 }) .ok [])
  ∧ (∀ (dt m : Nat) (s t : State) (e : ExecReq) (c : Ctx) (p : Bytes),
    Running mtrPulseSetSpec m dt s e c t p → t.meter.points.has (fld p 1 1) = false →
      exec (.mtrPulseSet dt m) s = answers e c t .conflict [])
  ∧ (∀ (dt m : Nat) (s t : State) (e : ExecReq) (c : Ctx) (p : Bytes),
    Running mtrRoveSetSpec m dt s e c t p →
      exec (.mtrRoveSet dt m) s = answers e c (t.withMeter { t.meter with rovePeriodMs := if fld p 0 4 = 0 then 5000 else fld p 0 4, roveSince := if t.meter.rove.isSome then t.meter.roveSince else t.now }) .ok [])
  ∧ (∀ (dt m : Nat) (s t : State) (e : ExecReq) (c : Ctx) (p : Bytes),
    Running mtrPulseStatusSpec m dt s e c t p →
      exec (.mtrPulseStatus dt m) s = answers e c t .ok (bytesLE 1 (t.fn (fnId 0x0D (fld p 0 1))).state.code ++ bytesLE 1 ((t.meter.pulses.getD (fld p 0 1) {}).point.getD 255) ++ bytesLE 1 (t.meter.pulses.getD (fld p 0 1) {}).quantity ++ zeros 1
          ++ bytesLE 4 (t.meter.pulses.getD (fld p 0 1) {}).const ++ bytesLE 8 ((t.meter.pulses.getD (fld p 0 1) {}).acc / 1000) ++ bytesLE 4 (t.meter.pulses.getD (fld p 0 1) {}).backlog ++ bytesLE 4 (t.meter.pulses.getD (fld p 0 1) {}).pulses.toNat ++ posBytes ((t.mtrNextEdge (t.meter.pulses.getD (fld p 0 1) {})).elim 0 t.clock.posAt) ++ zeros 6))
  ∧ (∀ (dt m : Nat) (s t : State) (e : ExecReq) (c : Ctx) (p : Bytes) (x : MtrPoint) (r : LatchRec),
    Running mtrLatchReadSpec m dt s e c t p → t.meter.points.find (fld p 0 1) = some x →
      (if fld p 4 4 = 0xFFFFFFFF then x.recs.head? else x.recs.find? (·.seq == fld p 4 4)) = some r →
      exec (.mtrLatchRead dt m) s = answers e c t .ok (bytesLE 4 r.seq ++ bytesLE 2 r.gen ++ bytesLE 2 r.flags ++ stampBytes r.endAt ++ bytesLE 2 r.cycles ++ posBytes r.endPos
          ++ zeros 2 ++ bytesLE 4 r.freqMilliHz ++ ((List.range 12).flatMap fun k => bytesF (r.phase.getD k F32.f0))
          ++ ((List.range 21).flatMap fun k => bytesLE 8 (r.values.getD k 0)) ++ ((List.range 21).flatMap fun k => bytesLE 2 (r.wraps.getD k 0)) ++ zeros 6))
  ∧ (∀ (dt m : Nat) (s t : State) (e : ExecReq) (c : Ctx) (p : Bytes) (x : MtrPoint),
    Running mtrLatchReadSpec m dt s e c t p → t.meter.points.find (fld p 0 1) = some x →
      (if fld p 4 4 = 0xFFFFFFFF then x.recs.head? else x.recs.find? (·.seq == fld p 4 4)) = none →
      exec (.mtrLatchRead dt m) s = answers e c t .outOfRange [])
  ∧ (∀ (dt m : Nat) (s t : State) (e : ExecReq) (c : Ctx) (p : Bytes) (x : MtrPoint),
    Running mtrCycleReadSpec m dt s e c t p → t.meter.points.find (fld p 0 1) = some x →
      exec (.mtrCycleRead dt m) s = answers e c t .ok (bytesLE 1 x.phase.code ++ bytesLE 1 (b2n x.latched.freqRange + 2 * b2n x.latched.overload + 4 * b2n x.latched.loss) ++ bytesLE 2 x.w
          ++ bytesLE 4 x.latched.freqMilliHz ++ stampBytes x.latched.endAt ++ zeros 2 ++ ((List.range 12).flatMap fun k => bytesF (x.latched.phase.getD k F32.f0)) ++ bytesF x.latched.psum ++ zeros 4))
  ∧ (∀ (dt m : Nat) (s t : State) (e : ExecReq) (c : Ctx) (p : Bytes),
    Running mtrCycleReadSpec m dt s e c t p → t.meter.points.find (fld p 0 1) = none →
      exec (.mtrCycleRead dt m) s = answers e c t .ok (zeros 0x50))
  ∧ (∀ (dt m : Nat) (s t : State) (e : ExecReq) (c : Ctx) (p : Bytes),
    Running mtrChannelStatusSpec m dt s e c t p →
      exec (.mtrChannelStatus dt m) s = answers e c t .ok (bytesLE 1 (t.fn (fnId 0x0B (fld p 0 1))).state.code ++ bytesLE 1 (t.meter.channel (fld p 0 1)).role ++ bytesLE 1 (gainOf (t.meter.channel (fld p 0 1)).gain)
          ++ bytesLE 1 (b2n (t.meter.rove.elim false fun r => r.channel == fld p 0 1) + 2 * b2n ((t.meter.channel (fld p 0 1)).clippedAt.elim false fun y => t.now < y + cycSec) + 4 * b2n (t.meter.channel (fld p 0 1)).live)
          ++ bytesF (if (t.meter.channel (fld p 0 1)).role = 3 then F32.sub (F32.mul (t.meter.channel (fld p 0 1)).scale (t.meter.channel (fld p 0 1)).rho) (t.meter.channel (fld p 0 1)).offset else (t.meter.channel (fld p 0 1)).rms) ++ bytesF (if (t.meter.channel (fld p 0 1)).role = 3 then (t.meter.channel (fld p 0 1)).rho else F32.f0)
          ++ bytesLE 4 (t.meter.channel (fld p 0 1)).gainSwitches.toNat ++ bytesLE 4 (t.meter.channel (fld p 0 1)).roveCount.toNat ++ bytesLE 4 (t.meter.channel (fld p 0 1)).roveFaults.toNat ++ bytesF (t.meter.channel (fld p 0 1)).gainDelta ++ bytesF (t.meter.channel (fld p 0 1)).offsetDelta ++ bytesLE 8 (t.meter.channel (fld p 0 1)).roveSec))
  ∧ (∀ (dt m : Nat) (s t : State) (e : ExecReq) (c : Ctx) (p : Bytes),
    Running mtrCaptureSpec m dt s e c t p → t.enabled 0x0B (fld p 0 1) = true → t.acceptFail = none →
      exec (.mtrCapture dt m) s = answers e c ((t.started c (.job [fld p 0 1] [])).withMeter { t.meter with captures := t.meter.captures ++ [{ op := t.host.nextOp, channel := fld p 0 1, dest := fld p 8 8, left := fld p 4 4 }] }) .accepted [])
  ∧ (∀ (dt m : Nat) (s t : State) (e : ExecReq) (c : Ctx) (p : Bytes),
    Running mtrCaptureSpec m dt s e c t p → t.enabled 0x0B (fld p 0 1) = false → exec (.mtrCapture dt m) s = answers e c t .conflict [])
  ∧ (∀ (dt op : Nat) (r : MtrCaptureRun) (s : State),
    Memory.wf s.mem = true → s.meter.captures.find? (·.op == op) = some r → r.left = 0 →
      Runs (.mtrCaptureDone dt op) s fun t =>
      t.meter.captures = s.meter.captures.filter (·.op ≠ op) ∧ t.clock = s.clock ∧ t.txn = s.txn
      ∧ (∀ a, memRead t.mem a = (if r.dest ≤ a ∧ a < r.dest + r.bytes.length then r.bytes.getD (a - r.dest) 0 else memRead s.mem a)))
  ∧ (∀ (dt op : Nat) (s : State),
    (∀ r, s.meter.captures.find? (·.op == op) = some r → r.left ≠ 0) → exec (.mtrCaptureDone dt op) s = .next ((s.tick dt)).settle)

/-- Counters are read, configured and captured, and the decision trace is set and read, and the heartbeat counts. COUNTER_ACCESS opens
or closes counter access for its session. COUNTER_CONFIG sets event, chaining and, where asked, the value of a programmable counter of
its units; a unit whose clock is gated takes it when the clock runs again; an event that does not suit the unit, or chaining from an odd
counter, answers BAD_ARGUMENT. A read of PCN_VALUE gives the selected counter of a unit brought up to now, or that of the counter
snapshot under FREEZE, and under AUTO moves the selection on; a selection outside the table reads 0 and sets BAD_SEL; without access it
reads 0 and changes nothing. SNP_TAKE and a set FREEZE begin a counter snapshot, or join the one that is BUSY; its end makes it valid
and advances its SEQ. COUNTER_DUMP writes the 881 values to the region. TRACE_CONFIG sets the filter and empties the buffer, TRACE_READ
writes the records asked for. What events inside a cycle add to a counter is free within its bounds (assumption 53); a counter of such
events that passes its largest value sets its OVF bit and raises PERF_OVERFLOW. A heartbeat tick adds one to DEV_HEARTBEAT where
BOOT_STAGE has reached 3 and no restart runs; otherwise DEV_HEARTBEAT holds its value. Nothing else of the host interface changes. -/
def Obligations.CountersTraceAndHeartbeat : Prop :=
  (∀ (dt m : Nat) (s t : State) (e : ExecReq) (c : Ctx) (p : Bytes) (x : Session),
    Running counterAccessSpec m dt s e c t p → t.host.sessions.find c.session = some x →
      exec (.counterAccess dt m) s = answers e c ({ t with host := { t.host with sessions := t.host.sessions.put c.session { x with counterAccess := fld p 0 1 == 1 } } }) .ok [])
  ∧ (∀ (dt m : Nat) (s t : State) (e : ExecReq) (c : Ctx) (p : Bytes),
    Running counterConfigSpec m dt s e c t p → fld p 0 1 < 0x44 → eventSuits (fld p 0 1) (fld p 2 1) = true →
      (bit (fld p 3 1) 0 = false ∨ fld p 1 1 % 2 = 0) → t.unitOn (fld p 0 1) = true → fld p 1 1 < 8 →
      (t.unit (fld p 0 1)).progs.length = 8 →
      Runs (.counterConfig dt m) s fun u =>
      ((u.unit (fld p 0 1)).prog (fld p 1 1)) = ⟨fld p 2 1, bit (fld p 3 1) 0, if bit (fld p 3 1) 1 then 0 else (((t.sync (fld p 0 1)).unit (fld p 0 1)).prog (fld p 1 1)).value⟩
      ∧ (∀ j, j ≠ fld p 1 1 → (u.unit (fld p 0 1)).prog j = ((t.sync (fld p 0 1)).unit (fld p 0 1)).prog j)
      ∧ (∀ k, k ≠ fld p 0 1 → u.unit k = t.unit k) ∧ u.txn = t.txn ∧ u.clock = t.clock)
  ∧ (∀ (dt m : Nat) (s t : State) (e : ExecReq) (c : Ctx) (p : Bytes),
    Running counterConfigSpec m dt s e c t p → fld p 0 1 < 0x44 → eventSuits (fld p 0 1) (fld p 2 1) = true →
      (bit (fld p 3 1) 0 = false ∨ fld p 1 1 % 2 = 0) → t.unitOn (fld p 0 1) = false →
      Runs (.counterConfig dt m) s fun u =>
      u.render.reader.held = t.render.reader.held ++ [.config (fld p 0 1) (fld p 1 1) (fld p 2 1) (bit (fld p 3 1) 0) (bit (fld p 3 1) 1)] ∧ u.render.reader.units = t.render.reader.units ∧ u.txn = t.txn ∧ u.clock = t.clock)
  ∧ (∀ (dt m : Nat) (s t : State) (e : ExecReq) (c : Ctx) (p : Bytes),
    Running counterConfigSpec m dt s e c t p → fld p 0 1 = 0xFF → eventSuits 0xFF (fld p 2 1) = true →
      (bit (fld p 3 1) 0 = false ∨ fld p 1 1 % 2 = 0) → fld p 1 1 < 8 →
      Runs (.counterConfig dt m) s fun u =>
      (∀ k, k < 64 → t.unitOn k = true → (t.unit k).progs.length = 8 → ((u.unit k).prog (fld p 1 1)).event = fld p 2 1 ∧ ((u.unit k).prog (fld p 1 1)).chain = bit (fld p 3 1) 0) ∧ u.txn = t.txn ∧ u.clock = t.clock)
  ∧ (∀ (dt m : Nat) (s t : State) (e : ExecReq) (c : Ctx) (p : Bytes),
    Running counterConfigSpec m dt s e c t p →
      (eventSuits (fld p 0 1) (fld p 2 1) = false ∨ (bit (fld p 3 1) 0 = true ∧ fld p 1 1 % 2 = 1)) →
      exec (.counterConfig dt m) s = answers e c t .badArgument [])
  ∧ (∀ (dt m : Nat) (s t : State) (e : ExecReq) (c : Ctx) (p : Bytes),
    Running counterDumpSpec m dt s e c t p → fld p 0 1 = 1 → t.render.reader.valid = true →
      Runs (.counterDump dt m) s fun u =>
      (∀ a, memRead u.mem a = memRead (memWriteBytes t.mem (fld p 8 8) (t.render.reader.snap.values.flatMap (bytesLE 8))) a)
      ∧ u.render = t.render ∧ u.clock = t.clock ∧ u.txn = t.txn)
  ∧ (∀ (dt m : Nat) (s t : State) (e : ExecReq) (c : Ctx) (p : Bytes),
    Running counterDumpSpec m dt s e c t p → fld p 0 1 = 1 → t.render.reader.valid = false →
      exec (.counterDump dt m) s = answers e c t .conflict [])
  ∧ (∀ (dt m : Nat) (s t : State) (e : ExecReq) (c : Ctx) (p : Bytes),
    Running counterDumpSpec m dt s e c t p → fld p 0 1 = 0 → t.render.reader.busy = false →
      Runs (.counterDump dt m) s fun u =>
      u.render.reader.valid = true ∧ u.render.reader.busy = false ∧ u.render.reader.snap.values.length = 881 ∧ u.render.reader.seq = (t.render.reader.seq + 1) % 65536 ∧ u.clock = t.clock ∧ u.txn = t.txn)
  ∧ (∀ (dt m : Nat) (s t : State) (e : ExecReq) (c : Ctx) (p : Bytes),
    Running traceConfigSpec m dt s e c t p →
      exec (.traceConfig dt m) s = answers e c ({ t with render := { t.render with trace := ⟨fld p 0 1, fld p 1 1, fld p 2 2, fld p 8 8, fld p 16 8⟩, traceBuf := [], traceCount := 0, traceFull := false } }) .ok [])
  ∧ (∀ (dt m : Nat) (s t : State) (e : ExecReq) (c : Ctx) (p : Bytes),
    Running traceReadSpec m dt s e c t p → t.render.traceCount = t.render.traceBuf.length → t.render.traceCount < 2 ^ 32 →
      fld p 0 4 ≤ t.render.traceCount →
      regionOk (fld p 8 8) (16 * ((t.render.traceBuf.reverse.drop (fld p 0 4)).take (fld p 4 4)).length) = true →
      exec (.traceRead dt m) s = answers e c (t.storeRead (fld p 8 8) (((t.render.traceBuf.reverse.drop (fld p 0 4)).take (fld p 4 4)).flatMap (·.bytes))) .ok (bytesLE 4 ((t.render.traceBuf.reverse.drop (fld p 0 4)).take (fld p 4 4)).length ++ bytesLE 4 (if ((t.render.traceBuf.reverse.drop (fld p 0 4)).take (fld p 4 4)).isEmpty then fld p 0 4 else fld p 0 4 + ((t.render.traceBuf.reverse.drop (fld p 0 4)).take (fld p 4 4)).length) ++ bytesLE 4 0))
  ∧ (∀ (dt m : Nat) (s t : State) (e : ExecReq) (c : Ctx) (p : Bytes),
    Running renderStatusSpec m dt s e c t p → t.render.reel.granted.length = 4 →
      exec (.renderStatus dt m) s = answers e c t .ok (bytesLE 8 t.render.closed.frame ++ bytesLE 1 ((List.range 64).filter fun k => t.enabled 9 k).length ++ zeros 3
          ++ bytesLE 4 t.render.closed.budget ++ bytesLE 4 t.render.closed.cycles ++ bytesLE 4 t.render.mainMax ++ bytesLE 4 t.render.reel.frameRepeats
          ++ bytesLE 4 t.render.reel.canvasRepeats ++ bytesLE 4 (t.render.reel.stalls + t.render.stalledAt.elim 0 fun x => 12 * (t.now - x) / 5) ++ bytesLE 4 t.render.reel.regrants))
  ∧ (∀ (dt v i b : Nat) (s : State),
    s.accessOpen = true → s.render.reader.sel = v + 256 * i + 65536 * b → v < 256 → i < unitSize v → b < 2 →
      s.render.reader.freeze = false →
      Runs (.pcnValueRead dt) s fun t =>
      t.host.readData = ((s.tick dt).sync v).counterValue v i ∧ ((v ≤ 0x50 ∨ v = 0x60 ∨ v = 0x61) → i = 0 → t.host.readData = (s.tick dt).cyclesOf v)
      ∧ t.render.reader.units = ((s.tick dt).sync v).render.reader.units ∧ t.render.reader.sel = (if b = 1 then (nextSel v i).1 + 256 * (nextSel v i).2 + 65536 else s.render.reader.sel) ∧ t.render.reader.badSel = s.render.reader.badSel ∧ t.clock = s.clock ∧ t.txn = s.txn ∧ t.mem = s.mem ∧ t.ports = s.ports ∧ t.net = s.net)
  ∧ (∀ (dt v i b : Nat) (s : State),
    s.accessOpen = true → s.render.reader.sel = v + 256 * i + 65536 * b → v < 256 → i < unitSize v → b < 2 →
      s.render.reader.freeze = true →
      Runs (.pcnValueRead dt) s fun t =>
      t.host.readData = s.render.reader.snapValue v i ∧ t.render.reader.units = s.render.reader.units ∧ t.render.reader.badSel = s.render.reader.badSel ∧ t.clock = s.clock ∧ t.txn = s.txn ∧ t.mem = s.mem ∧ t.ports = s.ports ∧ t.net = s.net)
  ∧ (∀ (dt v i b : Nat) (s : State),
    s.accessOpen = true → s.render.reader.sel = v + 256 * i + 65536 * b → v < 256 → i < 256 → b < 2 → unitSize v ≤ i →
      Runs (.pcnValueRead dt) s fun t =>
      t.host.readData = 0 ∧ t.render.reader.badSel = true ∧ t.render.reader.units = s.render.reader.units ∧ t.clock = s.clock ∧ t.txn = s.txn ∧ t.mem = s.mem ∧ t.ports = s.ports ∧ t.net = s.net)
  ∧ (∀ (dt : Nat) (s : State),
    s.accessOpen = false → exec (.pcnValueRead dt) s = .next ({ (s.tick dt) with host := { s.host with readData := 0 } }).settle)
  ∧ (∀ (dt : Nat) (s : State),
    s.accessOpen = true → s.render.reader.busy = false →
      Runs (.snpTake dt) s fun t =>
      t.render.reader.busy = true ∧ t.render.reader.next.stamp = (s.tick dt).stamp ∧ t.render.reader.next.pos = (s.tick dt).pos ∧ t.render.reader.next.values.length = 881 ∧ t.render.reader.snap = s.render.reader.snap ∧ t.render.reader.seq = s.render.reader.seq ∧ t.clock = s.clock ∧ t.txn = s.txn ∧ t.mem = s.mem ∧ t.ports = s.ports ∧ t.net = s.net)
  ∧ (∀ (dt : Nat) (s : State),
    (s.accessOpen = false ∨ s.render.reader.busy = true) → exec (.snpTake dt) s = .next ((s.tick dt)).settle)
  ∧ (∀ (dt : Nat) (auto : Bool) (s : State),
    s.accessOpen = true → s.render.reader.freeze = false →
      Runs (.snpFreeze dt auto) s fun t =>
      t.render.reader.freeze = true ∧ t.render.reader.autoFrame = auto ∧ t.render.reader.busy = true ∧ t.render.reader.snap = s.render.reader.snap ∧ t.clock = s.clock ∧ t.txn = s.txn ∧ t.mem = s.mem ∧ t.ports = s.ports ∧ t.net = s.net)
  ∧ (∀ (dt : Nat) (auto : Bool) (s : State),
    s.accessOpen = false → exec (.snpFreeze dt auto) s = .next ((s.tick dt)).settle)
  ∧ (∀ (dt : Nat) (s : State),
    s.render.reader.busy = true →
      exec (.snpCaptureDone dt) s = .next ((s.tick dt).setReader { s.render.reader with busy := false, valid := true, snap := s.render.reader.next, seq := (s.render.reader.seq + 1) % 65536 }).settle)
  ∧ (∀ (dt : Nat) (s : State),
    s.render.reader.busy = false → exec (.snpCaptureDone dt) s = .next ((s.tick dt)).settle)
  ∧ (∀ (dt unit counter e : Nat) (s : State),
    unit < 0x44 → counter < 8 → (s.unit unit).progs.length = 8 → (∀ j, ((s.unit unit).prog j).value < 2 ^ 48) →
      e = (s.unit unit).source counter → eventCounted e = false → (((s.unit unit).prog counter).chain = false ∨ counter % 2 = 1) →
      (s.unit unit).toWrap counter ≤ eventMost unit e ((s.tick dt).fifthsOf unit / 5) (s.render.held.any (·.cluster == unit)) →
      eventSuits unit e = true → (e = 5 → s.enabled 9 unit = true) → (s.icu.src 0xA3).count < 2 ^ 31 →
      Runs (.counterWrap dt unit counter) s fun t =>
      bit (t.unit unit).ovf counter = true ∧ (s.icu.src 0xA3).count < (t.icu.src 0xA3).count ∧ (∀ k, k ≠ unit → t.unit k = s.unit k) ∧ t.render.frames = s.render.frames ∧ t.clock = s.clock ∧ t.txn = s.txn ∧ t.mem = s.mem ∧ t.ports = s.ports ∧ t.net = s.net)
  ∧ (∀ (dt unit counter : Nat) (s : State),
    (0x44 ≤ unit ∨ 8 ≤ counter ∨ eventCounted ((s.unit unit).source counter) = true) →
      exec (.counterWrap dt unit counter) s = .next ((s.tick dt)).settle)
  ∧ (∀ (dt : Nat) (s : State),
    s.host.fwRestart = false → 3 ≤ s.host.bootStage →
      exec (.heartbeatTick dt) s = .next ({ (s.tick dt) with host := { s.host with heartbeat := s.host.heartbeat + 1 } }).settle)
  ∧ (∀ (dt : Nat) (s : State),
    (s.host.fwRestart = true ∨ s.host.bootStage < 3) → exec (.heartbeatTick dt) s = .next ((s.tick dt)).settle)

/-- Zoette links come up, carry frames in order, and go down as the table "Zoette link states" gives. Block lock takes a LOCKING link to
HELLO. A good HELLO of the expected peer is counted; after 16 of them and a report of 16 the link is UP with SEQ, ACK and credits at
their full values; a bad one restarts the count, and one that fails R502 raises ZLK_DOWN and takes the link to HELLO. HELLO is sent
while the timer asks for it. Lost lock takes an UP link to LOCKING with its unacknowledged frames discarded. A frame with a good CRC and
the next SEQ is accepted and acknowledged, delivered or forwarded; any other draws one NAK. An acknowledgement clears the frames up to
it and returns credits. A NAK, or 4 µs without an acknowledgement, sends the frames again and counts a retry; a frame sent eight times
takes the link down. A TIME frame is answered by one. -/
def Obligations.ZoetteLinks : Prop :=
  (∀ (dt link : Nat) (s : State),
    (s.group.link link).phase = .locking →
      exec (.zlkBlockLock dt link) s = .next (((s.tick dt).setLink link { (s.group.link link) with phase := .hello, helloRx := 0 }).emit (.zlkHello link { (s.tick dt).helloOf link with helloRx := 0 })).settle)
  ∧ (∀ (dt link : Nat) (s : State),
    (s.group.link link).phase ≠ .locking → exec (.zlkBlockLock dt link) s = .next ((s.tick dt)).settle)
  ∧ (∀ (dt : Nat) (h : Hello) (s : State),
    (s.group.link 0).phase = .hello → s.group.logical 0 = some 0 → h.digest = s.group.digest.take 16 →
      memberNum h.rank h.plane = s.group.farEnd 0 → 15 ≤ (s.group.link 0).helloRx → 16 ≤ h.helloRx →
      Runs (.zlkHelloRx dt 0 true h) s fun t =>
      (t.group.link 0).phase = .up ∧ (t.group.link 0).upAt = (s.tick dt).now ∧ (t.group.link 0).lastRx = 65535 ∧ (t.group.link 0).helloRx = min 255 ((s.group.link 0).helloRx + 1) ∧ (t.group.link 0).peerRx = h.helloRx ∧ t.clock = s.clock ∧ t.txn = s.txn ∧ t.mem = s.mem ∧ t.render = s.render)
  ∧ (∀ (dt link : Nat) (h : Hello) (j : Nat) (s : State),
    (s.group.link link).phase = .hello → s.group.logical link = some j → h.digest = s.group.digest.take 16 →
      memberNum h.rank h.plane = s.group.farEnd j → ((s.group.link link).helloRx < 15 ∨ h.helloRx < 16) →
      Runs (.zlkHelloRx dt link true h) s fun t =>
      (t.group.link link) = { (s.group.link link) with helloRx := min 255 ((s.group.link link).helloRx + 1), peerRx := h.helloRx } ∧ (∀ k, k ≠ link → t.group.link k = s.group.link k) ∧ t.clock = s.clock ∧ t.txn = s.txn ∧ t.mem = s.mem ∧ t.render = s.render)
  ∧ (∀ (dt link : Nat) (h : Hello) (s : State),
    ((s.group.link link).phase = .hello ∨ (s.group.link link).phase = .up) →
      exec (.zlkHelloRx dt link false h) s = .next ((s.tick dt).setLink link { (s.group.link link) with helloRx := 0 }).settle)
  ∧ (∀ (dt link : Nat) (h : Hello) (s : State),
    ((s.group.link link).phase = .hello ∨ (s.group.link link).phase = .up) →
      (s.group.logical link = none ∨ (∃ j, s.group.logical link = some j ∧ memberNum h.rank h.plane ≠ s.group.farEnd j)) →
      Runs (.zlkHelloRx dt link true h) s fun t =>
      (t.group.link link).phase = .hello ∧ (t.group.link link).sent = [] ∧ (t.group.link link).waiting = [] ∧ (t.group.link link).helloRx = min 255 ((s.group.link link).helloRx + 1) ∧ (t.icu.src 0xB4).count = (s.icu.src 0xB4).count + 1 ∧ (∀ k, k ≠ link → t.group.link k = s.group.link k) ∧ t.clock = s.clock ∧ t.txn = s.txn ∧ t.mem = s.mem ∧ t.render = s.render)
  ∧ (∀ (dt link : Nat) (good : Bool) (h : Hello) (s : State),
    ((s.group.link link).phase = .disabled ∨ (s.group.link link).phase = .locking) →
      exec (.zlkHelloRx dt link good h) s = .next ((s.tick dt)).settle)
  ∧ (∀ (dt link : Nat) (s : State),
    ((s.group.link link).phase = .hello ∨ ((s.group.link link).phase = .up ∧ (s.tick dt).now ≤ (s.group.link link).upAt + 100 * cycUs)) →
      exec (.zlkHelloTimer dt link) s = .next ((s.tick dt).emit (.zlkHello link ((s.tick dt).helloOf link))).settle)
  ∧ (∀ (dt link : Nat) (s : State),
    ((s.group.link link).phase = .disabled ∨ (s.group.link link).phase = .locking ∨ ((s.group.link link).phase = .up ∧ (s.group.link link).upAt + 100 * cycUs < (s.tick dt).now)) →
      exec (.zlkHelloTimer dt link) s = .next ((s.tick dt)).settle)
  ∧ (∀ (dt link : Nat) (s : State),
    (s.group.link link).phase = .up →
      exec (.zlkLockLoss dt link) s = .next (((s.tick dt).setLink link { (s.group.link link) with phase := .locking, helloRx := 0, sent := [], waiting := [] }).raise 0xB4).settle)
  ∧ (∀ (dt link : Nat) (s : State),
    (s.group.link link).phase = .hello →
      exec (.zlkLockLoss dt link) s = .next ((s.tick dt).setLink link { (s.group.link link) with helloRx := 0 }).settle)
  ∧ (∀ (dt link : Nat) (s : State),
    ((s.group.link link).phase = .disabled ∨ (s.group.link link).phase = .locking) →
      exec (.zlkLockLoss dt link) s = .next ((s.tick dt)).settle)
  ∧ (∀ (dt link : Nat) (f : ZlkData) (s : State),
    (s.group.link link).phase = .up → f.crcOk = true → s.linkOpen = true → f.seq = ((s.group.link link).lastRx + 1) % 65536 →
      exec (.zlkDataRx dt link f) s = .next (((((s.tick dt).setLink link { (s.group.link link) with lastRx := f.seq, nakSent := false, owed := atChan (s.group.link link).owed f.chan (· + creditCost f.len) }).takeAck link f.ack f.credit).sendAck link).routeFrame link f).settle)
  ∧ (∀ (dt link : Nat) (f : ZlkData) (s : State),
    (s.group.link link).phase = .up → f.crcOk = true → s.linkOpen = true → f.seq = ((s.group.link link).lastRx + 1) % 65536 →
      f.dest = 0x80 → (f.src = s.group.me ∨ (f.src, f.origin) ∈ s.group.seen) →
      Runs (.zlkDataRx dt link f) s fun t =>
      (t.group.link link).lastRx = f.seq ∧ (t.group.link link).nakSent = false ∧ (t.group.link link).owed = [0, 0, 0, 0] ∧ (t.group.link link).phase = .up ∧ (∀ k, k ≠ link → t.group.link k = s.group.link k) ∧ t.host = s.host ∧ t.group.phase = s.group.phase ∧ t.clock = s.clock ∧ t.txn = s.txn ∧ t.mem = s.mem ∧ t.render = s.render)
  ∧ (∀ (dt link : Nat) (f : ZlkData) (s : State),
    (s.group.link link).phase = .up → (s.group.link link).nakSent = false →
      (f.crcOk = false ∨ f.seq ≠ ((s.group.link link).lastRx + 1) % 65536) →
      exec (.zlkDataRx dt link f) s = .next (((s.tick dt).setLink link { (s.group.link link) with nakSent := true }).emit (.zlkNak link (s.group.link link).lastRx)).settle)
  ∧ (∀ (dt link : Nat) (f : ZlkData) (s : State),
    (s.group.link link).phase ≠ .up → exec (.zlkDataRx dt link f) s = .next ((s.tick dt)).settle)
  ∧ (∀ (dt link ack : Nat) (credit : List Nat) (s : State),
    (s.group.link link).phase = .up → (s.group.link link).waiting = [] →
      Runs (.zlkAckRx dt link ack credit) s fun t =>
      (t.group.link link).sent = (s.group.link link).sent.filter (fun x => 32768 ≤ (ack + 65536 - x.seq) % 65536) ∧ (t.group.link link).credits = (s.group.link link).credits.zipIdx.map (fun e => min 1024 (e.1 + credit.getD e.2 0)) ∧ (t.group.link link).nextSeq = (s.group.link link).nextSeq ∧ (t.group.link link).lastRx = (s.group.link link).lastRx ∧ (t.group.link link).phase = .up ∧ (∀ k, k ≠ link → t.group.link k = s.group.link k) ∧ t.clock = s.clock ∧ t.txn = s.txn ∧ t.mem = s.mem ∧ t.render = s.render)
  ∧ (∀ (dt link ack : Nat) (credit : List Nat) (s : State),
    (s.group.link link).phase ≠ .up → exec (.zlkAckRx dt link ack credit) s = .next ((s.tick dt)).settle)
  ∧ (∀ (dt link ack : Nat) (credit : List Nat) (s : State),
    (s.group.link link).phase = .up → (s.group.link link).waiting = [] → (∀ x ∈ ((s.group.link link).ackTo ack).sent, x.sends < 8) →
      Runs (.zlkNakRx dt link ack credit) s fun t =>
      (t.group.link link).sent = ((s.group.link link).ackTo ack).sent.map (fun x => { x with sends := x.sends + 1, at_ := (s.tick dt).now }) ∧ (t.group.link link).retries = (s.group.link link).retries + 1 ∧ (t.group.link link).phase = .up ∧ (t.icu.src 0xB5).count = (s.icu.src 0xB5).count + 1 ∧ (∀ k, k ≠ link → t.group.link k = s.group.link k) ∧ t.clock = s.clock ∧ t.txn = s.txn ∧ t.mem = s.mem ∧ t.render = s.render)
  ∧ (∀ (dt link ack : Nat) (credit : List Nat) (s : State),
    (s.group.link link).phase = .up → (∃ x ∈ ((s.group.link link).ackTo ack).sent, 8 ≤ x.sends) →
      Runs (.zlkNakRx dt link ack credit) s fun t =>
      (t.group.link link).phase = .locking ∧ (t.group.link link).sent = [] ∧ (t.group.link link).waiting = [] ∧ (t.icu.src 0xB4).count = (s.icu.src 0xB4).count + 1 ∧ (t.icu.src 0xB5).count = (s.icu.src 0xB5).count + 1 ∧ (∀ k, k ≠ link → t.group.link k = s.group.link k) ∧ t.clock = s.clock ∧ t.txn = s.txn ∧ t.mem = s.mem ∧ t.render = s.render)
  ∧ (∀ (dt link seq ack : Nat) (credit : List Nat) (tx : Instant) (rx : Option Instant) (s : State),
    (s.group.link link).phase = .up → s.linkOpen = true → seq = ((s.group.link link).lastRx + 1) % 65536 →
      (s.group.link link).waiting = [] → ((s.group.link link).ackTo ack).sent.length < zlkWindow →
      Runs (.zlkTimeRx dt link seq ack true credit tx rx) s fun t =>
      (t.group.link link).lastRx = seq ∧ (t.group.link link).rxStamp = some (s.tick dt).tb ∧ (t.group.link link).txStamp = some (s.tick dt).tb ∧ (t.group.link link).nextSeq = ((s.group.link link).nextSeq + 1) % 65536 ∧ (∃ new o k r, t.out = new ++ .zlkTime link (s.group.link link).nextSeq seq o k (s.tick dt).tb r :: s.out) ∧ (∀ k, k ≠ link → t.group.link k = s.group.link k) ∧ t.clock = s.clock ∧ t.txn = s.txn ∧ t.mem = s.mem ∧ t.render = s.render)
  ∧ (∀ (dt link seq ack : Nat) (credit : List Nat) (tx : Instant) (rx : Option Instant) (s : State),
    (s.group.link link).phase = .up → (s.group.link link).nakSent = false →
      exec (.zlkTimeRx dt link seq ack false credit tx rx) s = .next (((s.tick dt).setLink link { (s.group.link link) with nakSent := true }).emit (.zlkNak link (s.group.link link).lastRx)).settle)
  ∧ (∀ (t1 t2 t3 t4 : Instant) (d o : Int),
    (t2 : Int) - t1 = d + o → t4 - t3 = d - o → hopOffset t1 t2 t3 t4 = -o)
  ∧ (∀ (dt link : Nat) (s : State),
    (s.group.link link).phase = .up → (∃ x ∈ (s.group.link link).sent, x.at_ + 4 * cycUs ≤ (s.tick dt).now) →
      (∀ x ∈ (s.group.link link).sent, x.sends < 8) →
      Runs (.zlkRetryTimeout dt link) s fun t =>
      (t.group.link link).sent = (s.group.link link).sent.map (fun x => { x with sends := x.sends + 1, at_ := (s.tick dt).now }) ∧ (t.group.link link).retries = (s.group.link link).retries + 1 ∧ (t.icu.src 0xB5).count = (s.icu.src 0xB5).count + 1 ∧ (∀ k, k ≠ link → t.group.link k = s.group.link k) ∧ t.clock = s.clock ∧ t.txn = s.txn ∧ t.mem = s.mem ∧ t.render = s.render)
  ∧ (∀ (dt link : Nat) (s : State),
    ((s.group.link link).phase ≠ .up ∨ (∀ x ∈ (s.group.link link).sent, (s.tick dt).now < x.at_ + 4 * cycUs)) →
      exec (.zlkRetryTimeout dt link) s = .next ((s.tick dt)).settle)

/-- A group forms, loses and regains members, decides its commits and seals its input records. A forming device whose members have all
been reached is FORMED; at 4.0 s the members reached form a DEGRADED group. The coordinator that hears nothing from a member for 200 µs,
or misses its delta three times, clears its presence with MEMBER_LOST. A member that reaches neither the coordinator nor anyone else is
isolated; otherwise the lowest rank still reached is elected. A resynchronisation begins with a request and ends with RESYNC_DONE as a
member. At its deadline the coordinator lets a commit stand when every awaited member has prepared it, and else ends it with LATE. It
seals the first open frame with every delta, or 150 µs after L(n). -/
def Obligations.GroupMembership : Prop :=
  (∀ (dt : Nat) (peerAct : Bool) (s : State),
    s.group.phase = .forming → s.host.mbxReady = true → s.group.presentA = 0 → s.group.presentB = 0 →
      (∀ w ∈ s.group.named, w = s.group.me ∨ s.group.heard.has w = true) → s.group.mode = 1 → s.group.ranks ≤ 16 →
      Runs (.groupFormation dt peerAct) s fun t =>
      t.group.phase = .formed ∧ t.host.groupFormed = true ∧ t.host.degraded = false ∧ (∀ w ∈ s.group.named, t.group.present w = true) ∧ t.group.role = .none_ ∧ t.group.coord = some 0 ∧ (t.icu.src 0xB0).count = (s.icu.src 0xB0).count + 1 ∧ t.clock = s.clock ∧ t.txn = s.txn ∧ t.mem = s.mem ∧ t.render = s.render)
  ∧ (∀ (dt : Nat) (peerAct : Bool) (s : State),
    s.group.phase = .forming → s.host.mbxReady = true → s.group.presentA = 0 → s.group.presentB = 0 →
      (∀ w ∈ s.group.named, w = s.group.me ∨ s.group.heard.has w = true) → s.group.paired = true → s.group.rank < s.group.ranks →
      s.group.ranks ≤ 16 → s.group.plane ≤ 1 →
      Runs (.groupFormation dt peerAct) s fun t =>
      t.group.phase = .formed ∧ t.host.groupFormed = true ∧ t.group.role = (if peerAct = false ∧ s.group.plane = 0 then .active else .standby) ∧ t.group.actPin = (!peerAct && s.group.plane == 0) ∧ t.group.peerAct = peerAct ∧ (t.icu.src 0xB0).count = (s.icu.src 0xB0).count + 1 ∧ t.clock = s.clock ∧ t.txn = s.txn ∧ t.mem = s.mem ∧ t.render = s.render)
  ∧ (∀ (dt : Nat) (peerAct : Bool) (s : State),
    (s.group.phase ≠ .forming ∨ s.host.mbxReady = false ∨ (∃ w ∈ s.group.named, w ≠ s.group.me ∧ s.group.heard.has w = false)) →
      exec (.groupFormation dt peerAct) s = .next ((s.tick dt)).settle)
  ∧ (∀ (dt : Nat) (peerAct : Bool) (s : State),
    s.group.phase = .forming → s.host.mbxReady = true → s.group.presentA = 0 → s.group.presentB = 0 →
      (∃ w ∈ s.group.named, w ≠ s.group.me ∧ s.group.heard.has w = false) → 4 * cycSec ≤ (s.tick dt).now → s.group.ranks ≤ 16 →
      Runs (.groupFormationTimeout dt peerAct) s fun t =>
      t.group.phase = .degraded ∧ t.host.groupFormed = true ∧ t.host.degraded = true ∧ (∀ w ∈ s.group.named, t.group.present w = (w == s.group.me || s.group.heard.has w)) ∧ (t.icu.src 0xB0).count = (s.icu.src 0xB0).count + 1 ∧ (t.icu.src 0xB1).count = (s.icu.src 0xB1).count + 1 ∧ t.clock = s.clock ∧ t.txn = s.txn ∧ t.mem = s.mem ∧ t.render = s.render)
  ∧ (∀ (dt : Nat) (peerAct : Bool) (s : State),
    (s.group.phase ≠ .forming ∨ s.host.mbxReady = false ∨ (s.tick dt).now < 4 * cycSec) →
      exec (.groupFormationTimeout dt peerAct) s = .next ((s.tick dt)).settle)
  ∧ (∀ (dt who : Nat) (s : State),
    s.group.live = true → s.group.isCoord = true → who ≠ s.group.me → who < 32 → s.group.present who = true →
      ((s.tick dt).reaches who = false ∨ (s.group.activeFor (who % 16) = who ∧ 3 ≤ s.group.missed.getD (who % 16) 0)) →
      Runs (.memberLossTimeout dt who) s fun t =>
      t.group.present who = false ∧ (∀ w, w < 32 → w ≠ who → t.group.present w = s.group.present w) ∧ t.group.phase = (if t.group.lacks then .degraded else .formed) ∧ t.host.degraded = t.group.lacks ∧ (t.icu.src 0xB2).count = (s.icu.src 0xB2).count + 1 ∧ t.clock = s.clock ∧ t.txn = s.txn ∧ t.mem = s.mem ∧ t.render = s.render)
  ∧ (∀ (dt who : Nat) (s : State),
    (s.group.live = false ∨ s.group.isCoord = false ∨ who = s.group.me ∨ s.group.present who = false ∨ ((s.tick dt).reaches who = true ∧ s.group.missed.getD (who % 16) 0 < 3)) →
      exec (.memberLossTimeout dt who) s = .next ((s.tick dt)).settle)
  ∧ (∀ (dt k : Nat) (s : State),
    s.group.live = true → s.group.coord = some k → s.group.isCoord = false → s.group.resync = false → (s.tick dt).reaches k = false →
      s.group.paired = false → s.group.asked = [] →
      (∀ w ∈ s.group.named, w ≠ s.group.me → s.group.present w = true → w % 16 ≠ k % 16 → (s.tick dt).reaches w = false) →
      exec (.coordinatorLossTimeout dt) s = .next ((s.tick dt).setGroup { s.group with phase := .isolated }).settle)
  ∧ (∀ (dt k j : Nat) (s : State),
    s.group.live = true → s.group.coord = some k → k < s.group.ranks → s.group.ranks ≤ 16 → s.group.isCoord = false →
      s.group.resync = false → (s.tick dt).reaches k = false → s.group.paired = false → s.group.plane = 0 → s.group.rank < s.group.ranks →
      j ∈ s.group.named → j ≠ s.group.me → s.group.present j = true → j ≠ k → (s.tick dt).reaches j = true →
      Runs (.coordinatorLossTimeout dt) s fun t =>
      (∃ c, t.group.coord = some c ∧ (c = s.group.me ∨ (s.tick dt).reaches c = true) ∧ ∀ w, w < s.group.ranks → w = s.group.me ∨ (s.group.present w = true ∧ w ≠ k ∧ (s.tick dt).reaches w = true) → c ≤ w) ∧ t.group.present k = false ∧ (t.icu.src 0xB2).count = (s.icu.src 0xB2).count + 1 ∧ t.clock = s.clock ∧ t.txn = s.txn ∧ t.mem = s.mem ∧ t.render = s.render)
  ∧ (∀ (dt : Nat) (s : State),
    (s.group.coord = none ∨ s.group.live = false ∨ s.group.isCoord = true ∨ s.group.resync = true) →
      exec (.coordinatorLossTimeout dt) s = .next ((s.tick dt)).settle)
  ∧ (∀ (dt k : Nat) (s : State),
    s.group.inGroup = true → s.group.resync = false → s.group.coord = some k →
      (s.group.role = .suspect ∨ (s.group.phase = .forming ∧ s.group.presentA + s.group.presentB ≠ 0) ∨ (s.group.phase = .isolated ∧ (s.tick dt).reaches k = true)) →
      Runs (.resyncStart dt) s fun t =>
      t.group.resync = true ∧ t.group.holds = false ∧ t.group.actPin = false ∧ t.group.takeover = none ∧ t.group.role = (if s.group.paired then .resync else .none_) ∧ t.group.record = s.group.record ∧ t.clock = s.clock ∧ t.txn = s.txn ∧ t.mem = s.mem ∧ t.render = s.render ∧ t.host = s.host)
  ∧ (∀ (dt : Nat) (s : State),
    (s.group.inGroup = false ∨ s.group.resync = true ∨ s.group.coord = none) → exec (.resyncStart dt) s = .next ((s.tick dt)).settle)
  ∧ (∀ (dt : Nat) (s : State),
    s.group.resync = true → s.group.holds = true → s.group.rank < 16 → s.group.plane ≤ 1 →
      (s.clock.run = false ∨ ∃ r, s.render.frames.getLast? = some r ∧ r.sealed = true) →
      Runs (.resyncDone dt) s fun t =>
      t.group.resync = false ∧ t.group.holds = false ∧ t.group.role = (if s.group.paired then .standby else .none_) ∧ t.group.present s.group.me = true ∧ t.group.phase = (if t.group.lacks then .degraded else .formed) ∧ t.host.groupFormed = true ∧ (t.icu.src 0xBA).count = (s.icu.src 0xBA).count + 1 ∧ t.clock = s.clock ∧ t.txn = s.txn ∧ t.mem = s.mem ∧ t.render = s.render)
  ∧ (∀ (dt : Nat) (s : State),
    (s.group.resync = false ∨ s.group.holds = false ∨ s.complete = false) → exec (.resyncDone dt) s = .next ((s.tick dt)).settle)
  ∧ (∀ (dt slot : Nat) (x : TxnSlot) (k : Commit) (s : State),
    s.txn.waiting = [(slot, x)] → x.commit = some k → k.apply = none → (s.tick dt).commitDecided { k with decided := false } = true →
      s.group.inGroup = true → s.group.live = true → s.group.isCoord = true → (∀ w ∈ s.group.awaited, w ∈ k.prepared) →
      Runs (.commitDeadline dt) s fun t =>
      (t.txn.slots.find slot).bind (·.commit) = some { k with apply := some true } ∧ t.clock = s.clock ∧ t.host = s.host ∧ t.render = s.render)
  ∧ (∀ (dt slot w : Nat) (x : TxnSlot) (k : Commit) (s : State),
    s.txn.waiting = [(slot, x)] → x.commit = some k → k.apply = none → (s.tick dt).commitDecided { k with decided := false } = true →
      s.group.inGroup = true → s.group.live = true → s.group.isCoord = true → slot < 16 → w ∈ s.group.awaited → w ∉ k.prepared →
      Runs (.commitDeadline dt) s fun t =>
      (t.txn.slots.find slot).map (·.commit) = some none ∧ (t.icu.src 0xBD).count = (s.icu.src 0xBD).count + 1 ∧ t.clock = s.clock ∧ t.render = s.render)
  ∧ (∀ (dt : Nat) (s : State),
    (s.txn.waiting = [] ∨ s.group.inGroup = false) → exec (.commitDeadline dt) s = .next ((s.tick dt)).settle)
  ∧ (∀ (dt : Nat) (r : FrameRec) (s : State),
    s.group.live = true → s.group.isCoord = true → s.render.frames.find? (fun x => !x.sealed) = some r →
      (s.group.deltasHere r.n = true ∨ r.grid.latch + usUnits 150 ≤ (s.tick dt).tb) →
      Runs (.inputSeal dt) s fun t =>
      t.group.seals.find r.n = some ((s.tick dt).sealOf r) ∧ t.group.lastSeal = some (max r.n (s.group.lastSeal.getD 0)) ∧ (∀ q ∈ s.group.ranksPresent, t.group.missed.getD q 0 = if (s.group.deltasOf r.n).any (·.1 % 16 == q) then 0 else s.group.missed.getD q 0 + 1) ∧ t.group.phase = s.group.phase ∧ t.group.coord = s.group.coord ∧ t.txn = s.txn)
  ∧ (∀ (dt : Nat) (s : State),
    (s.group.live = false ∨ s.group.isCoord = false ∨ s.render.frames.find? (fun x => !x.sealed) = none) →
      exec (.inputSeal dt) s = .next ((s.tick dt)).settle)
  ∧ (∀ (dt : Nat) (r : FrameRec) (s : State),
    s.render.frames.find? (fun x => !x.sealed) = some r → s.group.deltasHere r.n = false → (s.tick dt).tb < r.grid.latch + usUnits 150 →
      exec (.inputSeal dt) s = .next ((s.tick dt)).settle)

/-- Digest comparisons end as their table gives, standbys test their outputs, and the group commands answer. A frame whose digest
records have not both come within four frames is counted as uncompared. A self-check passes when the re-render equals the own digest and
no critical poison or PLL loss lies in the eight frames before; of a mismatch an active that fails alone yields, and otherwise holds its
partner suspect; a standby that passes alone goes on, and otherwise becomes suspect. A standby tests its outputs every LOOPBACK_S
seconds, and an echo that does not come is a failure with LOOPBACK_FAIL. GROUP_CONFIG answers ACCEPTED and writes the record to flash
only; duplicate or missing UIDs answer BAD_ARGUMENT. GROUP_STATUS and COTILLION_STATUS answer what is held. -/
def Obligations.DigestsLoopbackAndGroupCommands : Prop :=
  (∀ (dt : Nat) (e : Nat × DigestRun) (s : State),
    s.group.runs.find? (fun e => !e.2.mismatch && (e.2.own.isNone || e.2.peer.isNone) && e.1 + 4 ≤ s.host.devFrame) = some e →
      exec (.digestTimeout dt) s = .next ({ (s.tick dt) with group := { s.group with uncompared := s.group.uncompared + 1, runs := s.group.runs.del e.1 } }).settle)
  ∧ (∀ (dt : Nat) (s : State),
    (∀ e ∈ s.group.runs, e.2.mismatch = true ∨ (e.2.own.isSome = true ∧ e.2.peer.isSome = true) ∨ s.host.devFrame < e.1 + 4) →
      exec (.digestTimeout dt) s = .next ((s.tick dt)).settle)
  ∧ (∀ (dt frame : Nat) (same : Bool) (s : State),
    (s.group.runs.getD frame {}).mismatch = true → (s.group.runs.getD frame {}).ownPass = none → s.group.criticalPoison = none →
      s.group.pllLoss = none →
      Runs (.selfCheckDone dt frame same) s fun t =>
      (t.group.runs.getD frame {}) = { (s.group.runs.getD frame {}) with ownPass := some same } ∧ t.clock = s.clock ∧ t.txn = s.txn ∧ t.mem = s.mem ∧ t.render = s.render)
  ∧ (∀ (dt frame : Nat) (same : Bool) (s : State),
    (s.group.runs.getD frame {}).mismatch = true → (s.group.runs.getD frame {}).ownPass = none →
      ((∃ n, s.group.criticalPoison = some n ∧ frame ≤ n + 8) ∨ (∃ n, s.group.pllLoss = some n ∧ frame ≤ n + 8)) →
      Runs (.selfCheckDone dt frame same) s fun t =>
      (t.group.runs.getD frame {}) = { (s.group.runs.getD frame {}) with ownPass := some false } ∧ t.clock = s.clock ∧ t.txn = s.txn ∧ t.mem = s.mem ∧ t.render = s.render)
  ∧ (∀ (dt frame : Nat) (same : Bool) (s : State),
    ((s.group.runs.getD frame {}).mismatch = false ∨ (s.group.runs.getD frame {}).ownPass.isSome = true) →
      exec (.selfCheckDone dt frame same) s = .next ((s.tick dt)).settle)
  ∧ (∀ (dt frame : Nat) (s : State),
    s.group.role = .active → (s.group.runs.getD frame {}).mismatch = true → (s.group.runs.getD frame {}).ownPass = some false →
      (s.group.runs.getD frame {}).peerPass = some true →
      Runs (.mismatchOutcome dt frame) s fun t =>
      t.group.role = .faulted ∧ t.group.yieldCause = 4 ∧ t.group.actPin = false ∧ t.group.runs.find frame = none ∧ (t.icu.src 0xB7).count = (s.icu.src 0xB7).count + 1 ∧ t.clock = s.clock ∧ t.txn = s.txn)
  ∧ (∀ (dt frame : Nat) (a b : Bool) (s : State),
    s.group.role = .active → (s.group.runs.getD frame {}).mismatch = true → (s.group.runs.getD frame {}).ownPass = some a →
      (s.group.runs.getD frame {}).peerPass = some b → (a = true ∨ b = false) →
      exec (.mismatchOutcome dt frame) s = .next ((s.tick dt).setGroup { s.group with runs := s.group.runs.del frame, peerSuspect := true }).settle)
  ∧ (∀ (dt frame : Nat) (s : State),
    s.group.role = .standby → (s.group.runs.getD frame {}).mismatch = true → (s.group.runs.getD frame {}).ownPass = some true →
      (s.group.runs.getD frame {}).peerPass = some false →
      exec (.mismatchOutcome dt frame) s = .next ((s.tick dt).setGroup { s.group with runs := s.group.runs.del frame }).settle)
  ∧ (∀ (dt frame : Nat) (a b : Bool) (s : State),
    s.group.role = .standby → (s.group.runs.getD frame {}).mismatch = true → (s.group.runs.getD frame {}).ownPass = some a →
      (s.group.runs.getD frame {}).peerPass = some b → (a = false ∨ b = true) →
      exec (.mismatchOutcome dt frame) s = .next (((s.tick dt).setGroup { s.group with runs := s.group.runs.del frame, role := .suspect, takeover := none }).raise 0xB9).settle)
  ∧ (∀ (dt frame : Nat) (s : State),
    ((s.group.runs.getD frame {}).mismatch = false ∨ (((s.group.runs.getD frame {}).ownPass = none ∨ (s.group.runs.getD frame {}).peerPass = none) ∧ s.host.devFrame < frame + 4)) →
      exec (.mismatchOutcome dt frame) s = .next ((s.tick dt)).settle)
  ∧ (∀ (dt : Nat) (badDmx badPwm : List Nat) (s : State),
    s.group.role = .standby → s.group.loopAt + s.group.loopbackS * cycSec ≤ (s.tick dt).now →
      Runs (.loopbackTest dt badDmx badPwm) s fun t =>
      t.group.loopAt = (s.tick dt).now ∧ (∀ l, l < 64 → (l ∈ t.group.echoes ↔ s.enabled 3 l = true ∧ ((s.tick dt).lane l).link = .up ∧ ((s.tick dt).lane l).phy.backchannel = true))
      ∧ t.group.loopFails = s.group.loopFails + BitVec.ofNat 32 (((List.range 16).filter fun j => s.enabled 4 j && badDmx.contains j).length + ((List.range 32).filter fun j => s.enabled 5 j && badPwm.contains j).length) ∧ t.clock = s.clock ∧ t.txn = s.txn ∧ t.mem = s.mem ∧ t.render = s.render ∧ t.ports.dmx = s.ports.dmx ∧ t.ports.pwm = s.ports.pwm)
  ∧ (∀ (dt : Nat) (badDmx badPwm : List Nat) (s : State),
    (s.group.role ≠ .standby ∨ (s.tick dt).now < s.group.loopAt + s.group.loopbackS * cycSec) →
      exec (.loopbackTest dt badDmx badPwm) s = .next ((s.tick dt)).settle)
  ∧ (∀ (dt output : Nat) (s : State),
    s.group.echoes.contains output = true → s.group.loopAt + (if output < 64 then 100 * cycUs else 4 * cycMs) ≤ (s.tick dt).now →
      exec (.loopbackEchoTimeout dt output) s = .next (((s.tick dt).setGroup { s.group with echoes := s.group.echoes.filter (· != output), loopFails := s.group.loopFails + 1, loopPort := output }).raise 0xBB).settle)
  ∧ (∀ (dt output : Nat) (s : State),
    (s.group.echoes.contains output = false ∨ (s.tick dt).now < s.group.loopAt + (if output < 64 then 100 * cycUs else 4 * cycMs)) →
      exec (.loopbackEchoTimeout dt output) s = .next ((s.tick dt)).settle)
  ∧ (∀ (dt m : Nat) (s t : State) (e : ExecReq) (c : Ctx) (p : Bytes),
    Running groupConfigSpec m dt s e c t p → t.auditFull = false → groupUidsOk p = true → (∀ x ∈ (groupUids p).2, x = 0) →
      t.acceptFail = none → exec (.groupConfig dt m) s = answers e c (t.started c (.job [] p)) .accepted [])
  ∧ (∀ (dt m : Nat) (s t : State) (e : ExecReq) (c : Ctx) (p : Bytes),
    Running groupConfigSpec m dt s e c t p → t.auditFull = false → (groupUidsOk p = false ∨ (∃ x ∈ (groupUids p).2, x ≠ 0)) →
      exec (.groupConfig dt m) s = answers e c t .badArgument [])
  ∧ (∀ (p : Bytes),
    groupUidsOk p = true ↔ (∀ x ∈ (groupUids p).1, x ≠ 0) ∧ (groupUids p).1.Nodup)
  ∧ (∀ (dt op : Nat) (o : Op) (l : List Nat) (p : Bytes) (s : State),
    s.op op 0x0D01 = some o → o.kind = .job l p →
      Runs (.groupConfigDone dt op) s fun t =>
      t.group.flash = p ∧ t.group.record = s.group.record ∧ (∀ o ∈ t.host.ops, o.id ≠ op) ∧ t.secure.auditNext = s.secure.auditNext + 1 ∧ t.clock = s.clock ∧ t.txn = s.txn ∧ t.mem = s.mem ∧ t.render = s.render)
  ∧ (∀ (dt op : Nat) (s : State),
    s.op op 0x0D01 = none → exec (.groupConfigDone dt op) s = .next ((s.tick dt)).settle)
  ∧ (∀ (dt m : Nat) (s t : State) (e : ExecReq) (c : Ctx) (p : Bytes),
    Running groupStatusSpec m dt s e c t p →
      exec (.groupStatus dt m) s = answers e c t .ok (bytesLE 1 t.group.phase.code ++ bytesLE 1 t.group.rank ++ bytesLE 1 t.group.role.code ++ bytesLE 1 (t.group.coord.getD t.group.me)
          ++ bytesLE 2 t.group.presentA ++ bytesLE 2 t.group.presentB ++ bytesLE 1 (((List.range 6).filter t.group.linkUp).map (2 ^ ·)).sum
          ++ bytesLE 1 t.group.yieldCause ++ bytesLE 1 t.group.loopPort ++ bytesLE 1 (b2n t.group.yieldStuck + 2 * b2n t.group.yieldTakeover)
          ++ (List.range 6).flatMap (fun l => bytesLE 4 (t.group.link l).retries.toNat) ++ bytesLE 4 t.group.compared.toNat ++ bytesLE 4 t.group.uncompared.toNat
          ++ bytesLE 4 t.group.mismatches.toNat ++ bytesLE 4 t.group.loopFails.toNat ++ bytesLE 4 t.group.sealMisses.toNat ++ bytesLES 4 t.group.timeOffset ++ zeros 4
          ++ bytesLE 8 t.group.lastTakeover))
  ∧ (∀ (dt m : Nat) (s t : State) (e : ExecReq) (c : Ctx) (p : Bytes),
    Running cotillionStatusSpec m dt s e c t p →
      exec (.cotillionStatus dt m) s = answers e c t .ok (bytesLE 8 t.group.cot.frame ++ padTo 48 t.group.cot.root ++ bytesLE 2 t.group.cot.differ ++ bytesLE 1 (b2n t.group.cot.standbyDiffer) ++ bytesLE 1 t.group.cot.objects.length ++ zeros 4
          ++ t.group.cot.objects.flatMap objBytes))

/-- A Tango pair takes over, yields and hands over as its pins and tables give. A standby that sees TANGO_PEER_ACT go low takes over at
the first latch point at least 50 µs away unless it already waits for one, or at once while the clock is stopped; an active that waited
raises TANGO_ACTIVE; a suspect, resynchronising or detached device only raises GROUP_DEGRADED. An active with a fault of its own yields:
it is FAULTED with the cause, drops TANGO_ACTIVE, pulls TANGO_YIELD for 1 ms, stops its emissions and raises TANGO_YIELD. The yield net
low is noted; low for more than 2 ms it is stuck. A standby without a sealed record for 16 frames is detached. TANGO_SWITCH of an active
with a ready partner answers ACCEPTED and hands over at its frame; otherwise CONFLICT. -/
def Obligations.TangoPairs : Prop :=
  (∀ (dt : Nat) (s : State),
    s.group.paired = true → s.group.role = .standby → s.group.takeover.elim true (·.2) = true → s.clock.run = true →
      Runs (.tangoPeerActLow dt) s fun t =>
      t.group.role = .standby ∧ t.group.takeover = some ((s.tick dt).takeoverFrame, false) ∧ t.group.peerAct = false ∧ t.group.peerLowAt = some (s.tick dt).now ∧ t.group.actPin = s.group.actPin ∧ t.render = s.render ∧ t.txn = s.txn ∧ t.mem = s.mem ∧ t.clock = s.clock)
  ∧ (∀ (dt : Nat) (s : State),
    s.group.paired = true → s.group.role = .standby → s.group.takeover.elim true (·.2) = true → s.clock.run = false →
      Runs (.tangoPeerActLow dt) s fun t =>
      t.group.role = .active ∧ t.group.takeover = none ∧ t.group.actPin = true ∧ t.group.lastTakeover = s.host.devFrame ∧ (t.icu.src 0xB6).count = (s.icu.src 0xB6).count + 1 ∧ t.txn = s.txn ∧ t.mem = s.mem ∧ t.clock = s.clock)
  ∧ (∀ (dt n : Nat) (s : State),
    s.group.paired = true → s.group.role = .standby → s.group.takeover = some (n, false) →
      exec (.tangoPeerActLow dt) s = .next ((s.tick dt).setGroup { s.group with peerAct := false, peerLowAt := some (s.tick dt).now }).settle)
  ∧ (∀ (dt : Nat) (s : State),
    s.group.paired = true → s.group.role = .active →
      exec (.tangoPeerActLow dt) s = .next ((s.tick dt).setGroup { s.group with peerAct := false, peerLowAt := some (s.tick dt).now, actPin := true }).settle)
  ∧ (∀ (dt : Nat) (s : State),
    s.group.paired = true → (s.group.role = .suspect ∨ s.group.role = .resync ∨ s.group.role = .detached) →
      exec (.tangoPeerActLow dt) s = .next (((s.tick dt).setGroup { s.group with peerAct := false, peerLowAt := some (s.tick dt).now }).raise 0xB1).settle)
  ∧ (∀ (dt : Nat) (s : State),
    s.group.paired = false → exec (.tangoPeerActLow dt) s = .next ((s.tick dt)).settle)
  ∧ (∀ (dt cause : Nat) (s : State),
    s.group.paired = true → 1 ≤ cause → cause ≤ 3 → s.group.role = .active →
      Runs (.tangoYield dt cause) s fun t =>
      t.group.role = .faulted ∧ t.group.actPin = false ∧ t.group.yieldCause = cause ∧ t.group.yieldPull = (!s.group.yieldStuck) ∧ t.group.yieldAt = (s.tick dt).now ∧ t.group.takeover = none ∧ t.group.switchOp = none ∧ (t.icu.src 0xB7).count = (s.icu.src 0xB7).count + 1
      ∧ (∀ q, (t.port q).runQueue = []) ∧ (∀ j, (t.pwmOut j).running = false ∧ (t.pwmOut j).loads = []) ∧ t.txn = s.txn ∧ t.mem = s.mem ∧ t.clock = s.clock)
  ∧ (∀ (dt cause : Nat) (s : State),
    s.group.paired = true → 1 ≤ cause → cause ≤ 3 → s.group.role ≠ .active →
      exec (.tangoYield dt cause) s = .next ((s.tick dt).setGroup { s.group with criticalPoison := if cause = 2 then some s.host.devFrame else s.group.criticalPoison, pllLoss := if cause = 3 then some s.host.devFrame else s.group.pllLoss }).settle)
  ∧ (∀ (dt cause : Nat) (s : State),
    (s.group.paired = false ∨ cause = 0 ∨ 3 < cause) → exec (.tangoYield dt cause) s = .next ((s.tick dt)).settle)
  ∧ (∀ (dt : Nat) (s : State),
    s.group.yieldPull = true → s.group.yieldAt + cycMs ≤ (s.tick dt).now →
      exec (.tangoYieldPulseEnd dt) s = .next ((s.tick dt).setGroup { s.group with yieldPull := false }).settle)
  ∧ (∀ (dt : Nat) (s : State),
    (s.group.yieldPull = false ∨ (s.tick dt).now < s.group.yieldAt + cycMs) → exec (.tangoYieldPulseEnd dt) s = .next ((s.tick dt)).settle)
  ∧ (∀ (dt : Nat) (s : State),
    s.group.paired = true → s.group.yieldStuck = false → s.group.yieldLowAt = none →
      Runs (.tangoYieldNetLow dt) s fun t =>
      t.group.yieldNet = false ∧ t.group.yieldLowAt = some (s.tick dt).now ∧ t.group.role = s.group.role ∧ t.group.takeover = s.group.takeover ∧ t.render = s.render ∧ t.txn = s.txn ∧ t.mem = s.mem ∧ t.clock = s.clock)
  ∧ (∀ (dt x : Nat) (s : State),
    s.group.paired = true → s.group.yieldStuck = false → s.group.yieldLowAt = some x → x + 10 * cycUs ≤ (s.tick dt).now →
      (s.tick dt).now < x + 2 * cycMs → s.group.peerAct = true → s.group.netWarned = false →
      exec (.tangoYieldNetLow dt) s = .next (((s.tick dt).setGroup { s.group with netWarned := true }).raise 0xB1).settle)
  ∧ (∀ (dt : Nat) (s : State),
    (s.group.paired = false ∨ s.group.yieldStuck = true) → exec (.tangoYieldNetLow dt) s = .next ((s.tick dt)).settle)
  ∧ (∀ (dt x : Nat) (s : State),
    s.group.paired = true → s.group.yieldStuck = false → s.group.yieldLowAt = some x → x + 2 * cycMs < (s.tick dt).now →
      exec (.tangoYieldNetStuck dt) s = .next (((s.tick dt).setGroup { s.group with yieldStuck := true }).raise 0xB1).settle)
  ∧ (∀ (dt : Nat) (s : State),
    (s.group.paired = false ∨ s.group.yieldStuck = true ∨ s.group.yieldLowAt = none) →
      exec (.tangoYieldNetStuck dt) s = .next ((s.tick dt)).settle)
  ∧ (∀ (dt : Nat) (s : State),
    exec (.tangoYieldNetHigh dt) s = .next ((s.tick dt).setGroup { s.group with yieldNet := true, yieldStuck := false, yieldLowAt := none, netWarned := false }).settle)
  ∧ (∀ (dt : Nat) (s : State),
    s.group.role = .standby → s.clock.run = true → s.group.sealFrom + 16 ≤ s.clock.nextLatch →
      (∀ n, s.group.lastSeal = some n → n + 17 ≤ s.clock.nextLatch) →
      exec (.standbyDetachTimeout dt) s = .next ((s.tick dt).setGroup { s.group with role := .detached, takeover := none }).settle)
  ∧ (∀ (dt : Nat) (s : State),
    (s.group.role ≠ .standby ∨ s.clock.run = false ∨ s.clock.nextLatch < s.group.sealFrom + 16 ∨ (∃ n, s.group.lastSeal = some n ∧ s.clock.nextLatch < n + 17)) →
      exec (.standbyDetachTimeout dt) s = .next ((s.tick dt)).settle)
  ∧ (∀ (dt m : Nat) (s t : State) (e : ExecReq) (c : Ctx) (p : Bytes) (k : Nat),
    Running tangoSwitchSpec m dt s e c t p → t.auditFull = false → t.group.role = .active → t.group.partnerReady = true →
      t.group.takeover = none → t.clock.run = true → t.switchTarget (fld p 0 1) (fld p 8 8) c.db = some k → t.acceptFail = none →
      Runs (.tangoSwitch dt m) s fun u =>
      u.group.takeover = some (k, true) ∧ u.group.switchOp = some t.host.nextOp ∧ u.group.role = .active ∧ u.host.ops = t.host.ops ++ [newOp t c (.job [k] [])] ∧ u.secure.auditNext = t.secure.auditNext + 1 ∧ u.clock = t.clock ∧ u.txn = t.txn)
  ∧ (∀ (dt m : Nat) (s t : State) (e : ExecReq) (c : Ctx) (p : Bytes),
    Running tangoSwitchSpec m dt s e c t p → t.auditFull = false →
      (t.group.role ≠ .active ∨ t.group.partnerReady = false ∨ t.group.takeover.isSome = true ∨ t.clock.run = false) →
      exec (.tangoSwitch dt m) s = answers e c t .conflict [])
  ∧ (∀ (dt m : Nat) (s t : State) (e : ExecReq) (c : Ctx) (p : Bytes),
    Running tangoSwitchSpec m dt s e c t p → t.auditFull = false → t.group.role = .active → t.group.partnerReady = true →
      t.group.takeover = none → t.clock.run = true → t.switchTarget (fld p 0 1) (fld p 8 8) c.db = none →
      exec (.tangoSwitch dt m) s = answers e c t .late [])

/-- A package is received, verified, activated and completed or reverted. UPDATE_BEGIN is ACCEPTED, and at its end the staging area is
erased and RECEIVING. A block is written once, with a matching CRC-32C and no overlap; a wrong CRC answers INTEGRITY and an overlap
CONFLICT, with nothing written. UPDATE_VERIFY makes the area VERIFYING and then VERIFIED or INVALID as the checks of R530 give. While
the area is VERIFYING or ACTIVATING the three answer BUSY. UPDATE_ACTIVATE is ACCEPTED for a VERIFIED area, and refused as its table
gives; at its decision point the staging area becomes the running area and the operation ends with OK, or a group activation is
abandoned. A part that fails makes the device revert; with every part started the activation is complete and the security version
counter never falls. A Lanishambe restart ends the sessions and leaves the outputs alone, and aborts the requests at its end. That
UPDATE_BEGIN takes effect at its end is the model choice of log entry 67. -/
def Obligations.FieldUpdate : Prop :=
  (∀ (dt m : Nat) (s t : State) (e : ExecReq) (c : Ctx) (p : Bytes),
    Running updateBeginSpec m dt s e c t p → t.update.engaged = false → t.acceptFail = none →
      exec (.updateBegin dt m) s = answers e c (t.started c (.job [fld p 0 4] [])) .accepted [])
  ∧ (∀ (dt m : Nat) (s t : State) (e : ExecReq) (c : Ctx) (p : Bytes),
    Running updateBeginSpec m dt s e c t p → t.update.engaged = true → exec (.updateBegin dt m) s = answers e c t .busy [])
  ∧ (∀ (dt op : Nat) (o : Op) (len : Nat) (bs : Bytes) (s : State),
    (s.tick dt).op op 0x0E01 = some o → o.kind = .job [len] bs → s.update.engaged = false →
      exec (.updateBeginDone dt op) s = .next (({ (s.tick dt) with update := { s.update with stage := .receiving, blocks := [], length := len, received := 0, areas := s.update.areas.put s.update.staging [] } } : State).endOp o .ok (s.tick dt).pos []).settle)
  ∧ (∀ (dt op : Nat) (o : Op) (len : Nat) (bs : Bytes) (s : State),
    (s.tick dt).op op 0x0E01 = some o → o.kind = .job [len] bs → s.update.engaged = true →
      exec (.updateBeginDone dt op) s = .next ((s.tick dt).endOp o .busy (s.tick dt).pos []).settle)
  ∧ (∀ (dt op : Nat) (s : State),
    (s.tick dt).op op 0x0E01 = none → exec (.updateBeginDone dt op) s = .next ((s.tick dt)).settle)
  ∧ (∀ (dt m : Nat) (s t : State) (e : ExecReq) (c : Ctx) (p : Bytes),
    Running updateBlockSpec m dt s e c t p → fld p 0x10 8 = 0 → t.update.stage = .receiving → fld p 0 4 + fld p 4 4 ≤ t.update.length →
      crc32c (p.drop 24) = BitVec.ofNat 32 (fld p 8 4) → t.update.overlaps (fld p 0 4) (fld p 4 4) = false →
      exec (.updateBlock dt m) s = answers e c ({ t with update := { t.update with blocks := t.update.blocks ++ [(fld p 0 4, p.drop 24)], received := t.update.received + (p.drop 24).length } }) .ok [])
  ∧ (∀ (dt m : Nat) (s t : State) (e : ExecReq) (c : Ctx) (p : Bytes),
    Running updateBlockSpec m dt s e c t p → fld p 0x10 8 = 0 → t.update.stage = .receiving → fld p 0 4 + fld p 4 4 ≤ t.update.length →
      crc32c (p.drop 24) ≠ BitVec.ofNat 32 (fld p 8 4) → exec (.updateBlock dt m) s = answers e c t .integrity [])
  ∧ (∀ (dt m : Nat) (s t : State) (e : ExecReq) (c : Ctx) (p : Bytes) (b : Nat × Bytes),
    Running updateBlockSpec m dt s e c t p → fld p 0x10 8 = 0 → t.update.stage = .receiving → fld p 0 4 + fld p 4 4 ≤ t.update.length →
      crc32c (p.drop 24) = BitVec.ofNat 32 (fld p 8 4) → b ∈ t.update.blocks → fld p 0 4 < b.1 + b.2.length →
      b.1 < fld p 0 4 + fld p 4 4 → exec (.updateBlock dt m) s = answers e c t .conflict [])
  ∧ (∀ (dt m : Nat) (s t : State) (e : ExecReq) (c : Ctx) (p : Bytes),
    Running updateBlockSpec m dt s e c t p → t.update.engaged = false → t.update.stage ≠ .receiving →
      exec (.updateBlock dt m) s = answers e c t .conflict [])
  ∧ (∀ (s : State) (c : Ctx),
    s.update.length ≠ 0 → s.update.length < fld c.payload 0 4 + fld c.payload 4 4 → updateBlockSpec.rangeOk c s = false)
  ∧ (∀ (dt m : Nat) (s t : State) (e : ExecReq) (c : Ctx) (p : Bytes),
    Running updateBlockSpec m dt s e c t p → t.update.engaged = true → exec (.updateBlock dt m) s = answers e c t .busy [])
  ∧ (∀ (dt m : Nat) (s t : State) (e : ExecReq) (c : Ctx) (p : Bytes),
    Running updateBlockSpec m dt s e c t p → fld p 0x10 8 ≠ 0 → t.update.stage = .receiving → fld p 0 4 + fld p 4 4 ≤ t.update.length →
      t.acceptFail = none →
      exec (.updateBlock dt m) s = answers e c (t.started c (.job [fld p 0 4, fld p 8 4] (t.readRegion (fld p 0x10 8) (fld p 4 4)))) .accepted [])
  ∧ (∀ (dt op : Nat) (poison : Bool) (o : Op) (off crc : Nat) (data : Bytes) (s : State),
    (s.tick dt).op op 0x0E02 = some o → o.kind = .job [off, crc] data → poison = false → s.update.stage = .receiving →
      off + data.length ≤ s.update.length → crc32c data = BitVec.ofNat 32 crc →
      (∀ b ∈ s.update.blocks, b.1 + b.2.length ≤ off ∨ off + data.length ≤ b.1) →
      exec (.updateBlockDone dt op poison) s = .next (({ (s.tick dt) with update := { s.update with blocks := s.update.blocks ++ [(off, data)], received := s.update.received + data.length } } : State).endOp o .ok (s.tick dt).pos []).settle)
  ∧ (∀ (dt op : Nat) (poison : Bool) (o : Op) (off crc : Nat) (data : Bytes) (s : State),
    (s.tick dt).op op 0x0E02 = some o → o.kind = .job [off, crc] data →
      (poison = true ∨ (s.update.stage = .receiving ∧ off + data.length ≤ s.update.length ∧ crc32c data ≠ BitVec.ofNat 32 crc)) →
      exec (.updateBlockDone dt op poison) s = .next ((s.tick dt).endOp o .integrity (s.tick dt).pos []).settle)
  ∧ (∀ (dt op : Nat) (poison : Bool) (o : Op) (off crc : Nat) (data : Bytes) (s : State),
    (s.tick dt).op op 0x0E02 = some o → o.kind = .job [off, crc] data → poison = false →
      (s.update.stage ≠ .receiving ∨ (off + data.length ≤ s.update.length ∧ crc32c data = BitVec.ofNat 32 crc ∧ s.update.overlaps off data.length = true)) →
      exec (.updateBlockDone dt op poison) s = .next ((s.tick dt).endOp o .conflict (s.tick dt).pos []).settle)
  ∧ (∀ (dt m : Nat) (s t : State) (e : ExecReq) (c : Ctx) (p : Bytes),
    Running updateVerifySpec m dt s e c t p → t.auditFull = false → t.update.engaged = false → t.update.stage ≠ .empty →
      t.acceptFail = none →
      exec (.updateVerify dt m) s = answers e c ({ t.started c (.job [t.update.stage.code] []) with update := { t.update with stage := .verifying } }) .accepted [])
  ∧ (∀ (dt m : Nat) (s t : State) (e : ExecReq) (c : Ctx) (p : Bytes),
    Running updateVerifySpec m dt s e c t p → t.auditFull = false → t.update.stage = .empty →
      exec (.updateVerify dt m) s = answers e c t .conflict [])
  ∧ (∀ (dt m : Nat) (s t : State) (e : ExecReq) (c : Ctx) (p : Bytes),
    Running updateVerifySpec m dt s e c t p → (t.auditFull = true ∨ t.update.engaged = true) →
      exec (.updateVerify dt m) s = answers e c t .busy [])
  ∧ (∀ (dt op : Nat) (o : Op) (s : State),
    (s.tick dt).op op 0x0E03 = some o →
      exec (.updateVerifyDone dt op) s = .next (((({ (s.tick dt) with update := { s.update with stage := if s.update.verdict = 0 then .verified else .invalid, lastResult := s.update.verdict } } : State).raise
      (if s.update.verdict = 0 then 0xC0 else 0xC2)).audit 0x0020 o.session ((s.tick dt).roleOf o.session) (if s.update.verdict = 0 then Status.ok else .integrity).code (bytesLE 1 s.update.verdict ++ (pkDigest s.update.staged).take 16)).endOp o
      (if s.update.verdict = 0 then .ok else .integrity) (s.tick dt).pos (verifyResp s.update.package s.update.staged s.update.verdict)).settle)
  ∧ (∀ (counter revoked : Nat) (whole : Bool) (g : Bytes),
    verifyPackage counter revoked whole g = 0 ↔ whole = true ∧ formatOk g = true ∧ fld g 0x12 1 = 0xB0
      ∧ (∃ k, k < 4 ∧ Config.manifestKeyHash k = sha384 (pkPubkey g) ∧ bit revoked k = false)
      ∧ ecdsaVerify (pkPubkey g) (pkSigned g) (slice g 0x290 96) = true ∧ counter ≤ pkSecurity g
      ∧ ∀ k, 1 ≤ k → k ≤ 8 → sha384 (pkImage g (pkPart g k)) = slice (pkPart g k) 16 48)
  ∧ (∀ (dt op : Nat) (s : State),
    (s.tick dt).op op 0x0E03 = none → exec (.updateVerifyDone dt op) s = .next ((s.tick dt)).settle)
  ∧ (∀ (dt m : Nat) (s t : State) (e : ExecReq) (c : Ctx) (p : Bytes) (f : Nat),
    Running updateActivateSpec m dt s e c t p → t.group.inGroup = false → t.auditFull = false → t.update.act = none →
      t.update.foreign = [] → t.update.stage = .verified → t.txn.waiting = [] → t.group.asked = [] → t.acceptFail = none →
      ((t.clock.run = false ∧ fld p 1 1 = 1 ∧ f = 0) ∨ (t.clock.run = true ∧ t.commitTarget (fld p 1 1) (fld p 8 8) c.db = .inr f)) →
      exec (.updateActivate dt m) s = answers e c ({ t.started c (.job [f, changedParts t.update.package t.update.staged] []) with update := { t.update with stage := .activating, act := some (t.activation t.host.nextOp (fld p 0 1) f (pkDigest t.update.staged) true), actPhase := .accepted, actFrame := f } }) .accepted (activateResp f (if t.clock.run then t.clock.latchPos f else 0) (changedParts t.update.package t.update.staged)))
  ∧ (∀ (dt m : Nat) (s t : State) (e : ExecReq) (c : Ctx) (p : Bytes) (f k : Nat),
    Running updateActivateSpec m dt s e c t p → t.group.inGroup = true → fld p 0 1 = 1 → t.auditFull = false → t.update.act = none →
      t.update.foreign = [] → t.update.stage = .verified → t.txn.waiting = [] → t.group.asked = [] → t.acceptFail = none →
      ((t.clock.run = false ∧ fld p 1 1 = 1 ∧ f = 0) ∨ (t.clock.run = true ∧ t.commitTarget (fld p 1 1) (fld p 8 8) c.db = .inr f)) →
      t.group.isCoord = false → t.group.coord = some k →
      exec (.updateActivate dt m) s = answers e c (({ t.started c (.job [f, changedParts t.update.package t.update.staged] []) with update := { t.update with stage := .activating, act := some (t.activation t.host.nextOp 1 f (pkDigest t.update.staged) true), actPhase := .accepted, actFrame := f } } : State).gsend k 1 (.activate f 1 (pkDigest t.update.staged))) .accepted (activateResp f (if t.clock.run then t.clock.latchPos f else 0) (changedParts t.update.package t.update.staged)))
  ∧ (∀ (dt m : Nat) (s t : State) (e : ExecReq) (c : Ctx) (p : Bytes) (f : Nat),
    Running updateActivateSpec m dt s e c t p → t.group.inGroup = true → fld p 0 1 = 1 → t.auditFull = false → t.update.act = none →
      t.update.foreign = [] → t.update.stage = .verified → t.txn.waiting = [] → t.group.asked = [] → t.acceptFail = none →
      ((t.clock.run = false ∧ fld p 1 1 = 1 ∧ f = 0) ∨ (t.clock.run = true ∧ t.commitTarget (fld p 1 1) (fld p 8 8) c.db = .inr f)) →
      t.group.isCoord = true →
      exec (.updateActivate dt m) s = answers e c (({ t.started c (.job [f, changedParts t.update.package t.update.staged] []) with update := { t.update with stage := .activating, act := some (t.activation t.host.nextOp 1 f (pkDigest t.update.staged) true), actPhase := .accepted, actFrame := f } } : State).gcast 1 (.activate f 1 (pkDigest t.update.staged))) .accepted (activateResp f (if t.clock.run then t.clock.latchPos f else 0) (changedParts t.update.package t.update.staged)))
  ∧ (∀ (dt m : Nat) (s t : State) (e : ExecReq) (c : Ctx) (p : Bytes),
    Running updateActivateSpec m dt s e c t p → (t.auditFull = true ∨ t.update.act.isSome = true ∨ t.update.foreign ≠ []) →
      exec (.updateActivate dt m) s = answers e c t .busy [])
  ∧ (∀ (dt m : Nat) (s t : State) (e : ExecReq) (c : Ctx) (p : Bytes),
    Running updateActivateSpec m dt s e c t p → t.auditFull = false → t.update.act = none → t.update.foreign = [] →
      (t.update.stage ≠ .verified ∨ t.txn.waiting ≠ [] ∨ t.group.asked ≠ [] ∨ (t.clock.run = false ∧ fld p 1 1 = 0)
      ∨ (fld p 0 1 = 0 ∧ t.group.inGroup = true ∧ (t.group.role ≠ .standby ∨ pkGen t.update.staged ≠ pkGen t.update.package))) →
      exec (.updateActivate dt m) s = answers e c t .conflict [])
  ∧ (∀ (dt m : Nat) (s t : State) (e : ExecReq) (c : Ctx) (p : Bytes) (st : Status),
    Running updateActivateSpec m dt s e c t p → t.group.inGroup = false → t.auditFull = false → t.update.act = none →
      t.update.foreign = [] → t.update.stage = .verified → t.txn.waiting = [] → t.group.asked = [] → t.clock.run = true →
      t.commitTarget (fld p 1 1) (fld p 8 8) c.db = .inl st → exec (.updateActivate dt m) s = answers e c t st [])
  ∧ (∀ (dt : Nat) (a : Activation) (s : State),
    s.update.act = some a → s.update.actPhase = .accepted → (s.tick dt).activationDue a = true → s.group.inGroup = false →
      Runs (.activationDecision dt) s fun t =>
      t.update.running = s.update.staging ∧ t.update.package = s.update.staged ∧ t.update.bootCopy = (if bit a.changed 1 then 1 - s.update.bootCopy else s.update.bootCopy)
      ∧ t.update.stage = .verified ∧ t.update.actPhase = .decided ∧ t.update.starting = a.parts ∧ t.update.counter = s.update.counter
      ∧ (∀ o ∈ t.host.ops, o.id ≠ a.op) ∧ t.secure.auditNext = s.secure.auditNext + 1 ∧ t.clock = s.clock ∧ t.render = s.render ∧ t.ports = s.ports ∧ t.net = s.net ∧ t.txn = s.txn)
  ∧ (∀ (dt : Nat) (a : Activation) (s : State),
    s.update.act = some a → s.update.actPhase = .accepted → s.update.stage = .activating → (s.tick dt).activationDue a = true →
      a.stopped = false → a.scope ≠ 0 → s.group.inGroup = true → s.group.live = true → s.group.isCoord = true →
      (a.differs = true ∨ ∃ w ∈ s.group.awaited, w ∉ a.prepared) →
      Runs (.activationDecision dt) s fun t =>
      t.update.running = s.update.running ∧ t.update.act = none ∧ t.update.actPhase = .abandoned ∧ t.update.stage = .verified
      ∧ t.update.foreign = [] ∧ (∀ o ∈ t.host.ops, o.id ≠ a.op) ∧ t.clock = s.clock ∧ t.render = s.render ∧ t.ports = s.ports ∧ t.net = s.net ∧ t.txn = s.txn)
  ∧ (∀ (dt : Nat) (s : State),
    (s.update.act = none ∨ s.update.actPhase ≠ .accepted ∨ (∃ a, s.update.act = some a ∧ (s.tick dt).activationDue a = false)) →
      exec (.activationDecision dt) s = .next ((s.tick dt)).settle)
  ∧ (∀ (dt part : Nat) (a : Activation) (s : State),
    s.update.act = some a → a.whole = false → s.update.actPhase = .restarting → part ∈ a.parts →
      Runs (.partStartFail dt part) s fun t =>
      t.update.running = s.update.staging ∧ t.update.bootCopy = (if bit a.changed 1 then 1 - s.update.bootCopy else s.update.bootCopy) ∧ t.update.act = none
      ∧ t.update.actPhase = .reverted ∧ t.update.failedPart = part ∧ t.update.stage = .verified ∧ t.update.counter = s.update.counter ∧ (t.icu.src 0xC2).count = (s.icu.src 0xC2).count + 1)
  ∧ (∀ (dt part : Nat) (a : Activation) (s : State),
    s.update.act = some a → a.whole = true → s.update.actPhase = .restarting →
      Runs (.partStartFail dt part) s fun t =>
      t.update.running = s.update.staging ∧ t.update.act = none ∧ t.update.actPhase = .reverted ∧ t.update.failedPart = part ∧ t.power.reset = .held ∧ t.power.resetCause = 6 ∧ t.update.counter = s.update.counter)
  ∧ (∀ (dt part : Nat) (s : State),
    (s.update.act = none ∨ s.update.actPhase ≠ .restarting ∨ (∃ a, s.update.act = some a ∧ a.whole = false ∧ part ∉ a.parts)) →
      exec (.partStartFail dt part) s = .next ((s.tick dt)).settle)
  ∧ (∀ (dt : Nat) (a : Activation) (s : State),
    s.update.act = some a → a.stopped = false → s.update.actPhase = .restarting → s.power.reset = .running → s.host.fwRestart = false →
      3 ∉ s.update.starting → s.update.serdes = [] →
      Runs (.activationComplete dt) s fun t =>
      t.update.act = none ∧ t.update.actPhase = .completed ∧ t.update.running = s.update.running ∧ t.update.starting = [] ∧ t.update.counter = max s.update.counter (pkSecurity s.update.package)
      ∧ (t.icu.src 0xC1).count = (s.icu.src 0xC1).count + 1 ∧ t.clock = s.clock ∧ t.render = s.render ∧ t.ports = s.ports ∧ t.net = s.net ∧ t.txn = s.txn)
  ∧ (∀ (dt : Nat) (s : State),
    s.update.serdes = [] →
      (s.update.act = none ∨ (∃ a, s.update.act = some a ∧ a.stopped = false ∧ (s.update.actPhase ≠ .restarting ∨ s.power.reset ≠ .running ∨ s.host.fwRestart = true ∨ 3 ∈ s.update.starting))) →
      exec (.activationComplete dt) s = .next ((s.tick dt)).settle)
  ∧ (∀ (dt m : Nat) (s t : State) (e : ExecReq) (c : Ctx) (p : Bytes),
    Running updateStatusSpec m dt s e c t p →
      exec (.updateStatus dt m) s = answers e c t .ok (bytesLE 1 t.update.stage.code ++ bytesLE 1 t.update.lastResult ++ bytesLE 1 t.update.actPhase.code
      ++ bytesLE 1 (t.update.bootCopy + 2 * b2n t.update.bootFallback + 4 * b2n t.update.packFallback) ++ bytesLE 4 t.update.received
      ++ bytesLE 4 (pkRelease t.update.package) ++ bytesLE 2 (pkGen t.update.package) ++ bytesLE 2 t.update.failedPart ++ bytesLE 8 t.update.actFrame ++ bytesLE 4 t.update.counter))
  ∧ (∀ (dt : Nat) (a : Activation) (s : State),
    s.update.act = some a → a.stopped = false → s.update.actPhase = .restarting → 3 ∈ s.update.starting → s.host.fwRestart = false →
      Runs (.fwRestart dt) s fun t =>
      t.host.fwRestart = true ∧ t.host.mbxReady = false ∧ t.host.sessions = [] ∧ 3 ∉ t.update.starting ∧ t.update.actPhase = .restarting
      ∧ t.clock = s.clock ∧ t.render = s.render ∧ t.ports = s.ports ∧ t.net = s.net ∧ t.group = s.group ∧ t.power = s.power)
  ∧ (∀ (dt : Nat) (s : State),
    s.update.act = none → (s.update.actPhase ≠ .restarting ∨ s.host.fwRestart = true ∨ 3 ∉ s.update.starting) →
      exec (.fwRestart dt) s = .next ((s.tick dt)).settle)
  ∧ (∀ (dt : Nat) (s : State),
    s.host.fwRestart = true →
      Runs (.fwRestartEnd dt) s fun t =>
      t.host.fwRestart = false ∧ t.host.mbxReady = true ∧ t.host.fwVer = s.update.fwVersion ∧ t.host.execs = [] ∧ (∀ m, m < 16 → (t.mbx m).phase ≠ .posted ∧ ((t.mbx m).phase = .executing → ∀ e ∈ s.host.execs, e.mbx ≠ m ∨ e.orphan = true))
      ∧ t.clock = s.clock ∧ t.render = s.render ∧ t.ports = s.ports ∧ t.net = s.net ∧ t.update = s.update)
  ∧ (∀ (dt : Nat) (s : State),
    s.host.fwRestart = false → exec (.fwRestartEnd dt) s = .next ((s.tick dt)).settle)

/-- Nonces, credentials, keys, the audit log and the debug port follow their rules. AUTH_CHALLENGE answers 32 random bytes and keeps
them as a nonce, a session's fifth in place of its oldest; with a TRNG fault it answers INTERNAL. CRED_SET is ACCEPTED for a point of
P-384 or a deletion that leaves a SECURITY_OFFICER, counting those still under way, and its credential stands at its end. KEY_ESTABLISH
uses a live nonce up and stores the derived KEK; KEY_INSTALL unwraps under the KEK, or answers CONFLICT without one and INTEGRITY on a
wrong wrap. AUDIT_READ writes the records and the signed trailer, acknowledges them and sets the policy where it asks for that. An
unlocked debug port has no keys. Each of these is in the audit log, and under POLICY 1 a full log answers BUSY. The answers of
KEY_ESTABLISH to a bad HOST_PUB or NONCE and OP 3 of an attach are the model choice of log entry 46. -/
def Obligations.SecurityFunctions : Prop :=
  (∀ (dt m : Nat) (s t : State) (e : ExecReq) (c : Ctx) (p : Bytes),
    Running authChallengeSpec m dt s e c t p → t.secure.trngFault = false →
      ((t.secure.live t.now).filter fun n => n.session == c.session).length < 4 →
      exec (.authChallenge dt m) s = answers e c ({ (t.freshes 4).2 with secure := { t.secure with nonces := t.secure.live t.now ++ [⟨(t.freshes 4).1.flatMap (bytesLE 8), c.session, t.now⟩] } }) .ok ((t.freshes 4).1.flatMap (bytesLE 8)))
  ∧ (∀ (dt m : Nat) (s t : State) (e : ExecReq) (c : Ctx) (p : Bytes) (o : Nonce) (rest : List Nonce),
    Running authChallengeSpec m dt s e c t p → t.secure.trngFault = false →
      (t.secure.live t.now).filter (fun n => n.session == c.session) = o :: rest → 3 ≤ rest.length →
      exec (.authChallenge dt m) s = answers e c ({ (t.freshes 4).2 with secure := { t.secure with nonces := (t.secure.live t.now).filter (fun n => n != o) ++ [⟨(t.freshes 4).1.flatMap (bytesLE 8), c.session, t.now⟩] } }) .ok ((t.freshes 4).1.flatMap (bytesLE 8)))
  ∧ (∀ (dt m : Nat) (s t : State) (e : ExecReq) (c : Ctx) (p : Bytes),
    Running authChallengeSpec m dt s e c t p → t.secure.trngFault = true → exec (.authChallenge dt m) s = answers e c t .internal [])
  ∧ (∀ (dt m : Nat) (s t : State) (e : ExecReq) (c : Ctx) (p : Bytes),
    Running credSetSpec m dt s e c t p → t.auditFull = false → fld p 1 1 ≠ 0xFF →
      hasOfficer (t.credsDue.put (fld p 0 1) ⟨fld p 1 1, slice p 8 97⟩) = true → t.acceptFail = none →
      exec (.credSet dt m) s =
      if onCurve (slice p 8 97) then answers e c (t.started c (.job [fld p 0 1, fld p 1 1] (slice p 8 97))) .accepted [] else answers e c t .badArgument [])
  ∧ (∀ (dt m : Nat) (s t : State) (e : ExecReq) (c : Ctx) (p : Bytes),
    Running credSetSpec m dt s e c t p → t.auditFull = false → fld p 1 1 = 0xFF → allZero (slice p 8 97) = true →
      hasOfficer (t.credsDue.del (fld p 0 1)) = true → t.acceptFail = none →
      exec (.credSet dt m) s = answers e c (t.started c (.job [fld p 0 1, 0xFF] (slice p 8 97))) .accepted [])
  ∧ (∀ (dt m : Nat) (s t : State) (e : ExecReq) (c : Ctx) (p : Bytes),
    Running credSetSpec m dt s e c t p → t.auditFull = false → fld p 1 1 = 0xFF → allZero (slice p 8 97) = true →
      hasOfficer (t.credsDue.del (fld p 0 1)) = false → exec (.credSet dt m) s = answers e c t .conflict [])
  ∧ (∀ (dt m : Nat) (s t : State) (e : ExecReq) (c : Ctx) (p : Bytes),
    Running credSetSpec m dt s e c t p → fld p 1 1 = 0xFF → allZero (slice p 8 97) = true → t.secure.policy = 1 →
      auditCapacity ≤ t.secure.unacked → exec (.credSet dt m) s = answers e c t .busy [])
  ∧ (∀ (dt op : Nat) (o : Op) (slot role : Nat) (pub : Bytes) (s : State),
    (s.tick dt).op op 0x0F02 = some o → o.kind = .job [slot, role] pub →
      exec (.credSetDone dt op) s = .next ((({ (s.tick dt) with secure := { s.secure with creds := if role = 0xFF then s.secure.creds.del slot else s.secure.creds.put slot ⟨role, pub⟩ } } : State).audit 0x0010 o.session ((s.tick dt).roleOf o.session) 0 (bytesLE 1 slot ++ bytesLE 1 role ++ (sha384 pub).take 16)).endOp o .ok (s.tick dt).pos []).settle)
  ∧ (∀ (dt op : Nat) (s : State),
    (s.tick dt).op op 0x0F02 = none → exec (.credSetDone dt op) s = .next ((s.tick dt)).settle)
  ∧ (∀ (dt m : Nat) (s t : State) (e : ExecReq) (c : Ctx) (p : Bytes) (n : Nonce),
    Running keyEstablishSpec m dt s e c t p → t.auditFull = false → n ∈ t.secure.live t.now → n.value = slice p 0x64 32 →
      t.secure.trngFault = false → t.acceptFail = none →
      exec (.keyEstablish dt m) s =
      if onCurve (slice p 0 97) then answers e c { t.started c (.job [] (slice p 0x64 32 ++ slice p 0 97)) with secure := { t.secure with nonces := t.secure.nonces.filter fun n => n.value != slice p 0x64 32 } } .accepted []
      else answers e c t .badArgument [])
  ∧ (∀ (dt m : Nat) (s t : State) (e : ExecReq) (c : Ctx) (p : Bytes),
    Running keyEstablishSpec m dt s e c t p → t.auditFull = false → (∀ n ∈ t.secure.live t.now, n.value ≠ slice p 0x64 32) →
      exec (.keyEstablish dt m) s = answers e c t .badArgument [])
  ∧ (∀ (dt op : Nat) (o : Op) (ns : List Nat) (b : Bytes) (s : State),
    (s.tick dt).op op 0x0F10 = some o → o.kind = .job ns b →
      exec (.keyEstablishDone dt op) s = .next ((({ (s.tick dt) with secure := { s.secure with kek := some (hkdf (b.take 32) (ecdhX (b.drop 32)) (bytesLE 8 Config.uid.toNat) 32) } } : State).audit
      0x0011 o.session ((s.tick dt).roleOf o.session) 0 (kcv (hkdf (b.take 32) (ecdhX (b.drop 32)) (bytesLE 8 Config.uid.toNat) 32))).endOp o .ok (s.tick dt).pos
      (kcv (hkdf (b.take 32) (ecdhX (b.drop 32)) (bytesLE 8 Config.uid.toNat) 32))).settle)
  ∧ (∀ (dt op : Nat) (s : State),
    (s.tick dt).op op 0x0F10 = none → exec (.keyEstablishDone dt op) s = .next ((s.tick dt)).settle)
  ∧ (∀ (dt m : Nat) (s t : State) (e : ExecReq) (c : Ctx) (p k : Bytes),
    Running keyInstallSpec m dt s e c t p → t.auditFull = false → t.secure.kekNow = some k → t.acceptFail = none →
      exec (.keyInstall dt m) s = answers e c (t.started c (.job [] (slice p 8 40))) .accepted [])
  ∧ (∀ (dt m : Nat) (s t : State) (e : ExecReq) (c : Ctx) (p : Bytes),
    Running keyInstallSpec m dt s e c t p → t.auditFull = false → t.secure.kekNow = none →
      exec (.keyInstall dt m) s = answers e c t .conflict [])
  ∧ (∀ (dt op : Nat) (o : Op) (ns : List Nat) (b k : Bytes) (s : State),
    (s.tick dt).op op 0x0F11 = some o → o.kind = .job ns b → s.secure.kekNow = some k →
      exec (.keyInstallDone dt op) s = .next (((keyUnwrap k b).elim (((s.tick dt).audit 0x0012 o.session ((s.tick dt).roleOf o.session) 0x0600 (zeros 16)).endOp o .integrity (s.tick dt).pos []) fun w =>
      (({ (s.tick dt) with secure := { s.secure with linkNext := some w } } : State).audit 0x0012 o.session ((s.tick dt).roleOf o.session) 0 ((sha384 w).take 16)).endOp o .ok (s.tick dt).pos ((sha384 w).take 16))).settle)
  ∧ (∀ (dt op : Nat) (s : State),
    (s.tick dt).op op 0x0F11 = none → exec (.keyInstallDone dt op) s = .next ((s.tick dt)).settle)
  ∧ (∀ (dt m : Nat) (s t : State) (e : ExecReq) (c : Ctx) (p : Bytes),
    Running auditReadSpec m dt s e c t p → t.acceptFail = none →
      exec (.auditRead dt m) s = answers e c (t.started c (.job [] p)) .accepted [])
  ∧ (∀ (dt op : Nat) (o : Op) (ns : List Nat) (p : Bytes) (got : List (Nat × Bytes)) (s : State),
    (s.tick dt).op op 0x0F20 = some o → o.kind = .job ns p → got = ((s.secure.audit.filter fun e => fld p 0 8 ≤ e.1).take (fld p 8 4)) →
      fld p 12 1 = 0 → fld p 13 1 = 0xFF →
      exec (.auditReadDone dt op) s = .next (((s.tick dt).writeRegion (fld p 16 8) (got.flatMap (fun e => e.2) ++ auditTrailer got.getLast?)).endOp o .ok (s.tick dt).pos (bytesLE 4 got.length ++ bytesLE 8 (got.getLast?.elim (fld p 0 8) fun e => e.1 + 1) ++ bytesLE 4 (s.secure.auditNext - fld p 0 8 - (s.secure.audit.filter fun e => fld p 0 8 ≤ e.1).length))).settle)
  ∧ (∀ (dt op : Nat) (o : Op) (ns : List Nat) (p : Bytes) (got : List (Nat × Bytes)) (s : State),
    (s.tick dt).op op 0x0F20 = some o → o.kind = .job ns p → got = ((s.secure.audit.filter fun e => fld p 0 8 ≤ e.1).take (fld p 8 4)) →
      fld p 12 1 = 1 →
      exec (.auditReadDone dt op) s = .next ((({ (s.tick dt).writeRegion (fld p 16 8) (got.flatMap (fun e => e.2) ++ auditTrailer got.getLast?) with secure := { s.secure with acked := s.secure.acked ++ (got.map (fun e => e.1)).filter (fun k => !s.secure.acked.contains k), ackedCount := s.secure.ackedCount + ((got.map (fun e => e.1)).filter (fun k => !s.secure.acked.contains k)).length, policy := if fld p 13 1 = 0xFF then s.secure.policy else fld p 13 1 } } : State).audit
      0x0040 o.session ((s.tick dt).roleOf o.session) 0 (bytesLE 8 (got.getLast?.elim 0 fun e => e.1) ++ bytesLE 1 (if fld p 13 1 = 0xFF then s.secure.policy else fld p 13 1))).endOp o .ok (s.tick dt).pos (bytesLE 4 got.length ++ bytesLE 8 (got.getLast?.elim (fld p 0 8) fun e => e.1 + 1) ++ bytesLE 4 (s.secure.auditNext - fld p 0 8 - (s.secure.audit.filter fun e => fld p 0 8 ≤ e.1).length))).settle)
  ∧ (∀ (dt op : Nat) (s : State),
    (s.tick dt).op op 0x0F20 = none → exec (.auditReadDone dt op) s = .next ((s.tick dt)).settle)
  ∧ (∀ (dt m : Nat) (s t : State) (e : ExecReq) (c : Ctx) (p : Bytes),
    Running debugSetSpec m dt s e c t p → t.auditFull = false → fld p 0 1 = 1 → t.secure.debugPort = .locked → t.group.role ≠ .active →
      Runs (.debugSet dt m) s fun u =>
      u.secure.debugPort = .unlocked ∧ u.secure.kekNow = none ∧ u.secure.linkNow = none ∧ (∀ e ∈ u.net.ports, e.2.secy.sas = [] ∧ e.2.secy.active = []) ∧ (u.icu.src 0xC5).count = (t.icu.src 0xC5).count + 1 ∧ u.secure.auditNext = t.secure.auditNext + 1 ∧ u.clock = t.clock ∧ u.txn = t.txn)
  ∧ (∀ (dt m : Nat) (s t : State) (e : ExecReq) (c : Ctx) (p : Bytes),
    Running debugSetSpec m dt s e c t p → t.auditFull = false → fld p 0 1 = 0 → t.secure.debugPort = .unlocked →
      exec (.debugSet dt m) s = answers e c (({ t with secure := { t.secure with debugPort := .locked } } : State).audit 0x0030 c.session c.role 0 (bytesLE 1 0 ++ bytesLE 1 0)) .ok [])
  ∧ (∀ (dt m : Nat) (s t : State) (e : ExecReq) (c : Ctx) (p : Bytes),
    Running debugSetSpec m dt s e c t p → t.auditFull = false → fld p 0 1 = 1 →
      (t.secure.debugPort = .disabled ∨ t.group.role = .active) → exec (.debugSet dt m) s = answers e c t .conflict [])
  ∧ (∀ (dt m : Nat) (s t : State) (e : ExecReq) (c : Ctx) (p : Bytes),
    Running debugSetSpec m dt s e c t p → t.auditFull = false → fld p 0 1 = 2 →
      exec (.debugSet dt m) s = if fld p 8 8 = Config.uid.toNat then answers e c (({ t with secure := { t.secure with debugPort := .disabled } } : State).audit 0x0030 c.session c.role 0 (bytesLE 1 2 ++ bytesLE 1 2)) .ok []
      else answers e c t .conflict [])
  ∧ (∀ (dt : Nat) (s : State),
    s.secure.debugPort = .unlocked →
      exec (.debugAttach dt) s = .next (((s.tick dt).raise 0xC5).audit 0x0030 0 0xFF 0 (bytesLE 1 3 ++ bytesLE 1 1)).settle)
  ∧ (∀ (dt : Nat) (s : State),
    s.secure.debugPort ≠ .unlocked → exec (.debugAttach dt) s = .next ((s.tick dt)).settle)
  ∧ (∀ (dt m : Nat) (s t : State) (e : ExecReq) (c : Ctx) (p : Bytes),
    Running securityStatusSpec m dt s e c t p →
      exec (.securityStatus dt m) s = answers e c t .ok (bytesLE 1 t.secure.debugPort.code ++ bytesLE 1 (b2n t.secure.trngFault) ++ bytesLE 1 t.secure.creds.length
      ++ bytesLE 1 (b2n t.secure.kek.isSome + 2 * b2n t.secure.linkNow.isSome + 4 * b2n t.secure.linkNext.isSome + 16 * (t.update.revoked % 16))
      ++ bytesLE 2 (t.secure.lockoutEnd.elim 0 fun i => (i - t.now + cycSec - 1) / cycSec) ++ bytesLE 1 t.secure.policy ++ zeros 1 ++ bytesLE 8 t.secure.auditNext
      ++ bytesLE 8 t.secure.ackedCount ++ bytesLE 4 t.secure.overwritten.toNat ++ bytesLE 4 t.secure.authFails.toNat
      ++ t.secure.kek.elim (zeros 16) kcv ++ t.secure.linkNow.elim (zeros 16) kcv ++ devicePub ++ zeros 3))
  ∧ (∀ (dt at_ : Nat) (s : State),
    s.secure.lockoutEnd = some at_ → at_ ≤ (s.tick dt).now →
      exec (.authLockoutEnd dt) s = .next ({ (s.tick dt) with secure := { s.secure with lockoutEnd := none } }).settle)
  ∧ (∀ (dt : Nat) (s : State),
    (s.secure.lockoutEnd = none ∨ (∃ i, s.secure.lockoutEnd = some i ∧ (s.tick dt).now < i)) →
      exec (.authLockoutEnd dt) s = .next ((s.tick dt)).settle)
  ∧ (∀ (dt test : Nat) (s : State),
    exec (.trngFault dt test) s = .next ((({ (s.tick dt) with secure := { s.secure with trngFault := true } } : State).raise 0xC6).audit 0x0031 0 0xFF 0 (bytesLE 1 test)).settle)
  ∧ (∀ (dt : Nat) (s : State),
    exec (.trngHealthy dt) s = .next ({ (s.tick dt) with secure := { s.secure with trngFault := false } }).settle)

/-- A full reset keeps flash, OTP and the audit log; the device boots, starts and becomes mailbox ready. Power-on, PORST_N, a supply out
of its range, a loss of REFCLK25 or of a PLL, a render stall of 100 ms and a trip each cause a full reset with their cause: what stands
in flash, in OTP and in the audit log is kept and everything else is at its reset value. Reset release samples the straps once every
rail has been good for 1 ms; a tripped device stays in reset. Secure boot starts the running package, or the other one where its checks
fail, with PACK_FALLBACK and an audit record, and ends a restart that fails as reverted. MBX_READY comes with BOOT_STAGE 0x10 and the
render clusters that passed self-test enabled. -/
def Obligations.ResetAndStart : Prop :=
  (∀ (dt : Nat) (s : State),
    exec (.powerOn dt) s = .next (({ host := {}, update := s.update.kept, secure := s.secure.kept, ecc := s.ecc.kept, group := { flash := s.group.flash }, power := { reset := .held, resetCause := 0, tripped := false, tj := s.power.tj, tjMax := s.power.tj, railsOut := 0 }, freeCtr := s.freeCtr, out := s.out, pending := s.pending } : State)).settle)
  ∧ (∀ (dt : Nat) (s : State),
    exec (.porstNAssert dt) s = .next (({ host := {}, update := s.update.kept, secure := s.secure.kept, ecc := s.ecc.kept, group := { flash := s.group.flash }, power := { reset := .held, resetCause := 1, tripped := s.power.tripped, tj := s.power.tj, tjMax := s.power.tj, railsOut := s.power.railsOut }, freeCtr := s.freeCtr, out := s.out, pending := s.pending } : State)).settle)
  ∧ (∀ (dt : Nat) (s : State),
    exec (.supplyReset dt) s = .next (({ host := {}, update := s.update.kept, secure := s.secure.kept, ecc := s.ecc.kept, group := { flash := s.group.flash }, power := { reset := .held, resetCause := 2, tripped := s.power.tripped, tj := s.power.tj, tjMax := s.power.tj, railsOut := s.power.railsOut }, freeCtr := s.freeCtr, out := s.out, pending := s.pending } : State)).settle)
  ∧ (∀ (dt : Nat) (s : State),
    exec (.refclkLoss dt) s = .next (({ host := {}, update := s.update.kept, secure := s.secure.kept, ecc := s.ecc.kept, group := { flash := s.group.flash }, power := { reset := .held, resetCause := 3, tripped := s.power.tripped, tj := s.power.tj, tjMax := s.power.tj, railsOut := s.power.railsOut }, freeCtr := s.freeCtr, out := s.out, pending := s.pending } : State)).settle)
  ∧ (∀ (dt : Nat) (s : State),
    exec (.pllLockLoss dt) s = .next (({ host := {}, update := s.update.kept, secure := s.secure.kept, ecc := s.ecc.kept, group := { flash := s.group.flash }, power := { reset := .held, resetCause := 3, tripped := s.power.tripped, tj := s.power.tj, tjMax := s.power.tj, railsOut := s.power.railsOut }, freeCtr := s.freeCtr, out := s.out, pending := s.pending } : State)).settle)
  ∧ (∀ (dt rank : Nat) (testMode : Bool) (s : State),
    s.power.reset = .held → s.power.tripped = false → s.power.railsOut = 0 →
      (∀ g, s.power.railsGoodAt = some g → g + cycMs ≤ (s.tick dt).now) →
      Runs (.resetRelease dt rank testMode) s fun t =>
      t.power = { s.power with reset := .booting, testMode := testMode, railsGoodAt := none } ∧ t.host = { s.host with bootStage := if testMode then 0 else 1 } ∧ t.time = {}
      ∧ t.group.record = s.group.flash ∧ t.group.flash = s.group.flash ∧ t.group.rank = rank % 16 ∧ t.group.phase ≠ .formed ∧ t.update = s.update ∧ t.secure = s.secure)
  ∧ (∀ (dt rank : Nat) (testMode : Bool) (s : State),
    (s.power.reset ≠ .held ∨ s.power.tripped = true ∨ s.power.railsOut ≠ 0 ∨ (∃ g, s.power.railsGoodAt = some g ∧ (s.tick dt).now < g + cycMs)) →
      exec (.resetRelease dt rank testMode) s = .next ((s.tick dt)).settle)
  ∧ (∀ (dt bootBad areaBad part : Nat) (s : State),
    s.power.reset = .booting → (s.host.bootStage = 1 ∨ s.host.bootStage = 2) → (bit bootBad 0 = false ∨ bit bootBad 1 = false) →
      s.update.boots s.update.running (bit areaBad s.update.running) = true →
      Runs (.lanishambeStart dt bootBad areaBad part) s fun t =>
      t.host.bootStage = 3 ∧ t.power.reset = .running ∧ t.update.running = s.update.running ∧ t.update.areas = s.update.areas ∧ t.update.packFallback = false
      ∧ t.update.bootFallback = bit bootBad s.update.bootCopy ∧ t.update.counter = s.update.counter ∧ t.secure.auditNext = s.secure.auditNext + b2n (bit bootBad s.update.bootCopy)
      ∧ t.update.stage = (if (s.update.booted s.update.running (bit bootBad s.update.bootCopy) false).verdict = 0 then .verified else .empty) ∧ t.clock = s.clock ∧ t.txn = s.txn)
  ∧ (∀ (dt bootBad areaBad part : Nat) (s : State),
    s.power.reset = .booting → (s.host.bootStage = 1 ∨ s.host.bootStage = 2) → (bit bootBad 0 = false ∨ bit bootBad 1 = false) →
      s.update.running ≤ 1 → s.update.boots s.update.running (bit areaBad s.update.running) = false →
      s.update.boots s.update.staging (bit areaBad s.update.staging) = true →
      Runs (.lanishambeStart dt bootBad areaBad part) s fun t =>
      t.host.bootStage = 3 ∧ t.power.reset = .running ∧ t.update.running = s.update.staging ∧ t.update.packFallback = true ∧ t.secure.auditNext = s.secure.auditNext + 1
      ∧ (s.update.act.isSome = true → t.update.act = none ∧ t.update.actPhase = .reverted ∧ t.update.failedPart = part ∧ (t.icu.src 0xC2).count = (s.icu.src 0xC2).count + 1))
  ∧ (∀ (dt bootBad areaBad part : Nat) (s : State),
    (s.power.reset ≠ .booting ∨ (s.host.bootStage ≠ 1 ∧ s.host.bootStage ≠ 2) ∨ (bit bootBad 0 = true ∧ bit bootBad 1 = true)
      ∨ (s.update.boots s.update.running (bit areaBad s.update.running) = false ∧ s.update.boots s.update.staging (bit areaBad s.update.staging) = false)) →
      exec (.lanishambeStart dt bootBad areaBad part) s = .next ((s.tick dt)).settle)
  ∧ (∀ (dt : Nat) (failed : List Nat) (s : State),
    s.power.reset = .running → s.host.mbxReady = false → s.host.fwRestart = false →
      Runs (.mbxReadyReached dt failed) s fun t =>
      t.host.mbxReady = true ∧ t.host.bootStage = 0x10 ∧ t.host.fwVer = s.update.fwVersion ∧ (∀ k, k < 64 → fnId 9 k ∉ failed → t.enabled 9 k = true) ∧ (∀ id ∈ failed, (t.fns.getD id {}).failed = true)
      ∧ t.clock = s.clock ∧ t.txn = s.txn ∧ t.update = s.update ∧ t.secure = s.secure ∧ t.power = s.power)
  ∧ (∀ (dt : Nat) (failed : List Nat) (s : State),
    (s.power.reset ≠ .running ∨ s.host.mbxReady = true ∨ s.host.fwRestart = true) →
      exec (.mbxReadyReached dt failed) s = .next ((s.tick dt)).settle)
  ∧ (∀ (dt at_ : Nat) (s : State),
    s.power.stallSince = some at_ → at_ + 100 * cycMs ≤ (s.tick dt).now →
      exec (.renderStallReset dt) s = .next (({ host := {}, update := s.update.kept, secure := s.secure.kept, ecc := s.ecc.kept, group := { flash := s.group.flash }, power := { reset := .held, resetCause := 4, tripped := s.power.tripped, tj := s.power.tj, tjMax := s.power.tj, railsOut := s.power.railsOut }, freeCtr := s.freeCtr, out := s.out, pending := s.pending } : State)).settle)
  ∧ (∀ (dt : Nat) (s : State),
    (s.power.stallSince = none ∨ (∃ i, s.power.stallSince = some i ∧ (s.tick dt).now < i + 100 * cycMs)) →
      exec (.renderStallReset dt) s = .next ((s.tick dt)).settle)
  ∧ (∀ (dt : Nat) (tj : Int) (s : State),
    1920 ≤ tj →
      exec (.thermalTrip dt tj) s = .next (({ host := {}, update := s.update.kept, secure := s.secure.kept, ecc := s.ecc.kept, group := { flash := s.group.flash }, power := { reset := .held, resetCause := 5, tripped := true, tj := tj, tjMax := tj, railsOut := s.power.railsOut }, freeCtr := s.freeCtr, out := s.out, pending := s.pending } : State)).settle)
  ∧ (∀ (dt : Nat) (tj : Int) (s : State),
    tj < 1920 → exec (.thermalTrip dt tj) s = .next ((s.tick dt)).settle)

/-- Watchdogs, rails, temperatures and the arbiter act as their rules give. The management watchdog counts, warns and restarts
Lanishambe, with the outputs left alone. A render stall counts and warns, and a Tango active drops TANGO_ACTIVE. A rail out of tolerance
raises SUPPLY_FAULT, unless the device is held in reset, and names itself until it is back; the time from which all rails are good again
is kept. Outside reset the thermal flag sets 5 °C under T_max with THERMAL_HIGH, and clears 8 °C under it; it is clear in reset. Under
the ceiling the arbiter throttles nothing; above it the clusters are throttled so that the estimate stays under the ceiling, with
POWER_THROTTLE at the first interval of a run; where all floors are not enough OVER is set, with POWER_THROTTLE at every interval; in
reset an interval only takes its temperature. POWER_CONFIG sets the ceiling, 0 standing for 55,000 mW, and SUPPLY_STATUS reports and
resets the peak. That power follows the issue fraction in proportion is the model choice of log entry 64. -/
def Obligations.PowerAndThermal : Prop :=
  (∀ (dt : Nat) (s : State),
    s.power.reset = .running → s.host.fwRestart = false →
      Runs (.mgmtWatchdogExpiry dt) s fun t =>
      t.power = { s.power with wdogCount := s.power.wdogCount + 1 } ∧ t.host.fwRestart = true ∧ t.host.mbxReady = false ∧ t.host.sessions = [] ∧ (t.icu.src 0xCB).count = (s.icu.src 0xCB).count + 1
      ∧ t.clock = s.clock ∧ t.render = s.render ∧ t.ports = s.ports ∧ t.net = s.net ∧ t.group = s.group ∧ t.update = s.update)
  ∧ (∀ (dt : Nat) (s : State),
    (s.power.reset ≠ .running ∨ s.host.fwRestart = true) → exec (.mgmtWatchdogExpiry dt) s = .next ((s.tick dt)).settle)
  ∧ (∀ (dt : Nat) (s : State),
    s.power.reset = .running → s.group.role ≠ .active →
      exec (.renderStall dt) s = .next (({ (s.tick dt) with power := { s.power with wdogCount := s.power.wdogCount + 1, stallSince := some (s.tick dt).now } } : State).raise 0xCB).settle)
  ∧ (∀ (dt : Nat) (s : State),
    s.power.reset = .running → s.group.role = .active →
      Runs (.renderStall dt) s fun t =>
      t.power = { s.power with wdogCount := s.power.wdogCount + 1, stallSince := some (s.tick dt).now } ∧ t.group.role = .faulted ∧ t.group.actPin = false ∧ t.group.yieldCause = 1 ∧ (t.icu.src 0xCB).count = (s.icu.src 0xCB).count + 1 ∧ (t.icu.src 0xB7).count = (s.icu.src 0xB7).count + 1 ∧ t.clock = s.clock ∧ t.txn = s.txn)
  ∧ (∀ (dt : Nat) (s : State),
    s.power.reset ≠ .running → exec (.renderStall dt) s = .next ((s.tick dt)).settle)
  ∧ (∀ (dt rail : Nat) (s : State),
    rail < 8 → s.power.reset ≠ .held →
      exec (.supplyFault dt rail) s = .next (({ (s.tick dt) with power := { s.power with railsOut := s.power.railsOut ||| 2 ^ rail, railsGoodAt := none, lastRail := rail } } : State).raise 0xCA).settle)
  ∧ (∀ (dt rail : Nat) (s : State),
    rail < 8 → s.power.reset = .held →
      exec (.supplyFault dt rail) s = .next ({ (s.tick dt) with power := { s.power with railsOut := s.power.railsOut ||| 2 ^ rail, railsGoodAt := none } }).settle)
  ∧ (∀ (dt rail : Nat) (s : State),
    8 ≤ rail → exec (.supplyFault dt rail) s = .next ((s.tick dt)).settle)
  ∧ (∀ (dt rail : Nat) (s : State),
    bit s.power.railsOut rail = true →
      exec (.railWithinTolerance dt rail) s = .next ({ (s.tick dt) with power := { s.power with railsOut := s.power.railsOut - 2 ^ rail, railsGoodAt := if s.power.railsOut - 2 ^ rail = 0 then some (s.tick dt).now else none } }).settle)
  ∧ (∀ (dt rail : Nat) (s : State),
    Runs (.railWithinTolerance dt rail) s fun t =>
      ∀ k, k ≠ rail → bit t.power.railsOut k = bit s.power.railsOut k)
  ∧ (∀ (dt rail : Nat) (s : State),
    bit s.power.railsOut rail = false → exec (.railWithinTolerance dt rail) s = .next ((s.tick dt)).settle)
  ∧ (∀ (dt : Nat) (tj : Int) (s : State),
    s.power.reset ≠ .held →
      exec (.thermalHigh dt tj) s = .next (if tMax - 80 ≤ tj ∧ s.power.thermal = false then ({ (s.tick dt) with power := { s.power with tj := tj, tjMax := max s.power.tjMax tj, tripped := s.power.tripped && decide (1600 ≤ tj), thermal := true } } : State).raise 0xC9
      else { (s.tick dt) with power := { s.power with tj := tj, tjMax := max s.power.tjMax tj, tripped := s.power.tripped && decide (1600 ≤ tj), thermal := decide (tMax - 80 ≤ tj) || (s.power.thermal && decide (tMax - 128 ≤ tj)) } }).settle)
  ∧ (∀ (dt : Nat) (tj : Int) (s : State),
    s.power.reset = .held →
      exec (.thermalHigh dt tj) s = .next ({ (s.tick dt) with power := { s.power with tj := tj, tjMax := max s.power.tjMax tj, tripped := s.power.tripped && decide (1600 ≤ tj), thermal := false } }).settle)
  ∧ (∀ (dt fixed clusters dma mgmt : Nat) (railMa : List Nat) (tj : Int) (s : State),
    s.power.reset ≠ .held → tj ≤ 1520 → fixed + clusters + dma + mgmt ≤ s.power.ceilingMw →
      Runs (.arbiterInterval dt fixed clusters dma mgmt railMa tj) s fun t =>
      t.power = { s.power with tj := tj, tjMax := max s.power.tjMax tj, tripped := s.power.tripped && decide (1600 ≤ tj), thermal := decide (tMax - 80 ≤ tj) || (s.power.thermal && decide (tMax - 128 ≤ tj)), ceilingNow := s.power.ceilingMw, peakMw := max s.power.peakMw (fixed + clusters + dma + mgmt), recent := ((fixed + clusters + dma + mgmt) :: s.power.recent).take 1000, dmaFloor := false, mgmtFloor := false, throttling := false, exceeded := false, railMa := railMa }
      ∧ (t.icu.src 0xC8).count = (s.icu.src 0xC8).count)
  ∧ (∀ (dt fixed clusters dma mgmt : Nat) (railMa : List Nat) (tj : Int) (s : State),
    s.power.reset ≠ .held → tj ≤ 1520 → s.power.ceilingMw < fixed + clusters + dma + mgmt → fixed + dma + mgmt ≤ s.power.ceilingMw →
      16 * clusters ≤ (s.power.ceilingMw - (fixed + dma + mgmt)) * 256 →
      Runs (.arbiterInterval dt fixed clusters dma mgmt railMa tj) s fun t =>
      t.power.throttling = true ∧ t.power.exceeded = false ∧ t.power.fraction = (s.power.ceilingMw - (fixed + dma + mgmt)) * 256 / clusters ∧ t.power.fraction < 256
      ∧ t.power.dmaFloor = false ∧ t.power.mgmtFloor = false ∧ (∃ q, t.power.recent.head? = some q ∧ q ≤ s.power.ceilingMw)
      ∧ t.power.throttleCount = s.power.throttleCount + (if s.power.throttling then 0 else 1) ∧ (t.icu.src 0xC8).count = (s.icu.src 0xC8).count + (if s.power.throttling then 0 else 1))
  ∧ (∀ (dt fixed clusters dma mgmt : Nat) (railMa : List Nat) (tj : Int) (s : State),
    s.power.reset ≠ .held → tj ≤ 1520 → s.power.ceilingMw < fixed + clusters * 16 / 256 + dma / 4 + mgmt / 2 →
      Runs (.arbiterInterval dt fixed clusters dma mgmt railMa tj) s fun t =>
      t.power.throttling = true ∧ t.power.exceeded = true ∧ t.power.fraction = 16 ∧ t.power.recent.head? = some (fixed + clusters * 16 / 256 + dma / 4 + mgmt / 2)
      ∧ t.power.throttleCount = s.power.throttleCount + 1 ∧ (t.icu.src 0xC8).count = (s.icu.src 0xC8).count + 1)
  ∧ (∀ (dt fixed clusters dma mgmt : Nat) (railMa : List Nat) (tj : Int) (s : State),
    s.power.reset = .held →
      exec (.arbiterInterval dt fixed clusters dma mgmt railMa tj) s = .next ({ (s.tick dt) with power := { s.power with tj := tj, tjMax := max s.power.tjMax tj, tripped := s.power.tripped && decide (1600 ≤ tj), thermal := false } }).settle)
  ∧ (∀ (dt m : Nat) (s t : State) (e : ExecReq) (c : Ctx) (p : Bytes),
    Running powerConfigSpec m dt s e c t p →
      exec (.powerConfig dt m) s = answers e c ({ t with power := { t.power with ceilingMw := if fld p 0 4 = 0 then 55000 else fld p 0 4 } }) .ok [])
  ∧ (∀ (dt m : Nat) (s t : State) (e : ExecReq) (c : Ctx) (p : Bytes),
    Running supplyStatusSpec m dt s e c t p →
      exec (.supplyStatus dt m) s = answers e c ({ t with power := { t.power with peakMw := 0 } }) .ok (bytesLE 4 t.power.ceilingNow ++ bytesLE 4 (t.power.recent.sum / max 1 t.power.recent.length) ++ bytesLE 4 t.power.peakMw ++ bytesLE 2 t.power.fraction
      ++ bytesLE 1 (b2n t.power.throttling + 2 * b2n t.power.exceeded + 4 * b2n t.power.thermal + 8 * b2n (t.power.railsOut != 0)) ++ bytesLE 1 t.power.lastRail
      ++ bytesLES 2 t.power.tj ++ bytesLES 2 t.power.tjMax ++ (List.range 3).flatMap (fun i => bytesLE 4 (t.power.railMa.getD i 0))
      ++ bytesLE 4 t.power.throttleCount.toNat ++ bytesLE 4 t.power.wdogCount.toNat ++ bytesLE 4 t.power.resetCause))
end

