-- ==== Sys2Proof/Laws/Exec.lean ====
section
/-!
SUPPORT. Laws/Exec.lean: each command's arm, and what a step is.
-/

namespace Sys2Proof.Machine

/-! ### A step (front of the queue) -/

@[simp] theorem step_idle (s : State) (h : s.pending = []) : step s = .next s.selfTest := by simp [step, h]

@[simp] theorem step_front (s : State) (c : Instr) (cs : List Instr) :
    step { s with pending := c :: cs } = exec c { s with pending := cs } := rfl

theorem step_cases (s : State) :
    (s.pending = [] ∧ step s = .next s.selfTest)
      ∨ ∃ c cs, s.pending = c :: cs ∧ step s = exec c { s with pending := cs } := by
  cases h : s.pending with
  | nil => exact .inl ⟨rfl, by simp [step, h]⟩
  | cons c cs => exact .inr ⟨c, cs, rfl, by simp [step, h]⟩

/-! ### The arm of each command -/

@[simp] theorem exec_registerWrite (dt off size value : Nat) (posted : List BulkDesc) (s : State) :
    exec (.registerWrite dt off size value posted) s = execRegisterWrite dt off size value posted s := rfl
@[simp] theorem exec_hostInterfaceReset (dt : Nat) (s : State) : exec (.hostInterfaceReset dt) s = execHostInterfaceReset dt s := rfl
@[simp] theorem exec_mbxDoorbell (dt m value : Nat) (s : State) : exec (.mbxDoorbell dt m value) s = execMbxDoorbell dt m value s := rfl
@[simp] theorem exec_mbxExecute (dt : Nat) (hold poison : Bool) (s : State) :
    exec (.mbxExecute dt hold poison) s = execMbxExecute dt hold poison s := rfl
@[simp] theorem exec_mbxDoneClear (dt m value : Nat) (s : State) : exec (.mbxDoneClear dt m value) s = execMbxDoneClear dt m value s := rfl
@[simp] theorem exec_sessionOpen (dt m : Nat) (s : State) : exec (.sessionOpen dt m) s = execSessionOpen dt m s := rfl
@[simp] theorem exec_sessionClose (dt m : Nat) (s : State) : exec (.sessionClose dt m) s = execSessionClose dt m s := rfl
@[simp] theorem exec_sessionIdleTimeout (dt session : Nat) (s : State) :
    exec (.sessionIdleTimeout dt session) s = execSessionIdleTimeout dt session s := rfl
@[simp] theorem exec_abort (dt m : Nat) (s : State) : exec (.abort dt m) s = execAbort dt m s := rfl
@[simp] theorem exec_txnOpen (dt m : Nat) (s : State) : exec (.txnOpen dt m) s = execTxnOpen dt m s := rfl
@[simp] theorem exec_txnCommit (dt m : Nat) (s : State) : exec (.txnCommit dt m) s = execTxnCommit dt m s := rfl
@[simp] theorem exec_txnCancel (dt m : Nat) (s : State) : exec (.txnCancel dt m) s = execTxnCancel dt m s := rfl
@[simp] theorem exec_snapOpen (dt m : Nat) (s : State) : exec (.snapOpen dt m) s = execSnapOpen dt m s := rfl
@[simp] theorem exec_snapClose (dt m : Nat) (s : State) : exec (.snapClose dt m) s = execSnapClose dt m s := rfl
@[simp] theorem exec_fnEnable (dt m : Nat) (s : State) : exec (.fnEnable dt m) s = execFnEnable dt m s := rfl
@[simp] theorem exec_fnDisable (dt m : Nat) (s : State) : exec (.fnDisable dt m) s = execFnDisable dt m s := rfl
@[simp] theorem exec_fnStatus (dt m : Nat) (s : State) : exec (.fnStatus dt m) s = execFnStatus dt m s := rfl
@[simp] theorem exec_drainComplete (dt fn : Nat) (s : State) : exec (.drainComplete dt fn) s = execDrainComplete dt fn s := rfl
@[simp] theorem exec_drainBoundExpiry (dt fn : Nat) (s : State) : exec (.drainBoundExpiry dt fn) s = execDrainBoundExpiry dt fn s := rfl
@[simp] theorem exec_rngEnable (dt r value : Nat) (s : State) : exec (.rngEnable dt r value) s = execRngEnable dt r value s := rfl
@[simp] theorem exec_rngDisable (dt r value : Nat) (s : State) : exec (.rngDisable dt r value) s = execRngDisable dt r value s := rfl
@[simp] theorem exec_rngConfigWrite (dt r value : Nat) (s : State) : exec (.rngConfigWrite dt r value) s = execRngConfigWrite dt r value s := rfl
@[simp] theorem exec_rngBaseWrite (dt r value : Nat) (s : State) : exec (.rngBaseWrite dt r value) s = execRngBaseWrite dt r value s := rfl
@[simp] theorem exec_rngHostIdxWrite (dt r value : Nat) (posted : List BulkDesc) (s : State) :
    exec (.rngHostIdxWrite dt r value posted) s = execRngHostIdxWrite dt r value posted s := rfl
@[simp] theorem exec_rngDrainEnd (dt r : Nat) (s : State) : exec (.rngDrainEnd dt r) s = execRngDrainEnd dt r s := rfl
@[simp] theorem exec_bulkDescriptorStart (dt r : Nat) (s : State) : exec (.bulkDescriptorStart dt r) s = execBulkDescriptorStart dt r s := rfl
@[simp] theorem exec_bulkDescriptorDone (dt r : Nat) (hostErr poison : Bool) (data : Bytes) (s : State) :
    exec (.bulkDescriptorDone dt r hostErr poison data) s = execBulkDescriptorDone dt r hostErr poison data s := rfl
@[simp] theorem exec_completionHeldDeliver (dt : Nat) (s : State) : exec (.completionHeldDeliver dt) s = execCompletionHeldDeliver dt s := rfl
@[simp] theorem exec_heartbeatTick (dt : Nat) (s : State) : exec (.heartbeatTick dt) s = execHeartbeatTick dt s := rfl
@[simp] theorem exec_showBoundary (dt : Nat) (s : State) : exec (.showBoundary dt) s = execShowBoundary dt s := rfl
@[simp] theorem exec_latchPoint (dt : Nat) (s : State) : exec (.latchPoint dt) s = execLatchPoint dt s := rfl
@[simp] theorem exec_mainWindowClose (dt : Nat) (s : State) : exec (.mainWindowClose dt) s = execMainWindowClose dt s := rfl
@[simp] theorem exec_canvasWindowOpen (dt k : Nat) (s : State) : exec (.canvasWindowOpen dt k) s = execCanvasWindowOpen dt k s := rfl
@[simp] theorem exec_canvasWindowClose (dt k : Nat) (s : State) : exec (.canvasWindowClose dt k) s = execCanvasWindowClose dt k s := rfl
@[simp] theorem exec_sliceWindowClose (dt k j : Nat) (s : State) : exec (.sliceWindowClose dt k j) s = execSliceWindowClose dt k j s := rfl
@[simp] theorem exec_taskReady (dt : Nat) (t : Task) (s : State) : exec (.taskReady dt t) s = execTaskReady dt t s := rfl
@[simp] theorem exec_taskGrant (dt : Nat) (s : State) : exec (.taskGrant dt) s = execTaskGrant dt s := rfl
@[simp] theorem exec_taskComplete (dt cluster : Nat) (poison : Bool) (s : State) :
    exec (.taskComplete dt cluster poison) s = execTaskComplete dt cluster poison s := rfl
@[simp] theorem exec_governorDecision (dt : Nat) (s : State) : exec (.governorDecision dt) s = execGovernorDecision dt s := rfl
@[simp] theorem exec_gapStart (dt k : Nat) (s : State) : exec (.gapStart dt k) s = execGapStart dt k s := rfl
@[simp] theorem exec_scanStart (dt k : Nat) (bad : List (Nat × Nat)) (s : State) : exec (.scanStart dt k bad) s = execScanStart dt k bad s := rfl
@[simp] theorem exec_emissionInstant (dt kind number frame : Nat) (poison : Bool) (s : State) :
    exec (.emissionInstant dt kind number frame poison) s = execEmissionInstant dt kind number frame poison s := rfl
@[simp] theorem exec_lightTime (dt : Nat) (s : State) : exec (.lightTime dt) s = execLightTime dt s := rfl
@[simp] theorem exec_actionTakesEffect (dt : Nat) (s : State) : exec (.actionTakesEffect dt) s = execActionTakesEffect dt s := rfl
@[simp] theorem exec_showClockStart (dt m : Nat) (s : State) : exec (.showClockStart dt m) s = execShowClockStart dt m s := rfl
@[simp] theorem exec_showClockStarts (dt : Nat) (s : State) : exec (.showClockStarts dt) s = execShowClockStarts dt s := rfl
@[simp] theorem exec_acqTimeout (dt : Nat) (s : State) : exec (.acqTimeout dt) s = execAcqTimeout dt s := rfl
@[simp] theorem exec_showTimingSet (dt m : Nat) (s : State) : exec (.showTimingSet dt m) s = execShowTimingSet dt m s := rfl
@[simp] theorem exec_sliceModeSet (dt m : Nat) (s : State) : exec (.sliceModeSet dt m) s = execSliceModeSet dt m s := rfl
@[simp] theorem exec_showClockStatus (dt m : Nat) (s : State) : exec (.showClockStatus dt m) s = execShowClockStatus dt m s := rfl
@[simp] theorem exec_referenceBoundary (dt key cycles back : Nat) (s : State) :
    exec (.referenceBoundary dt key cycles back) s = execReferenceBoundary dt key cycles back s := rfl
@[simp] theorem exec_ltcWord (dt word : Nat) (s : State) : exec (.ltcWord dt word) s = execLtcWord dt word s := rfl
@[simp] theorem exec_refLost (dt : Nat) (s : State) : exec (.refLost dt) s = execRefLost dt s := rfl
@[simp] theorem exec_refValid (dt : Nat) (s : State) : exec (.refValid dt) s = execRefValid dt s := rfl
@[simp] theorem exec_ptpSyncRx (dt : Nat) (msg : PtpTimed) (s : State) : exec (.ptpSyncRx dt msg) s = execPtpSyncRx dt msg s := rfl
@[simp] theorem exec_ptpFollowUpRx (dt : Nat) (msg : PtpTimed) (s : State) : exec (.ptpFollowUpRx dt msg) s = execPtpFollowUpRx dt msg s := rfl
@[simp] theorem exec_ptpDelayRespRx (dt : Nat) (msg : PtpTimed) (s : State) : exec (.ptpDelayRespRx dt msg) s = execPtpDelayRespRx dt msg s := rfl
@[simp] theorem exec_ptpAnnounceRx (dt : Nat) (msg : PtpAnnounce) (s : State) : exec (.ptpAnnounceRx dt msg) s = execPtpAnnounceRx dt msg s := rfl
@[simp] theorem exec_ptpDelayReqTx (dt : Nat) (s : State) : exec (.ptpDelayReqTx dt) s = execPtpDelayReqTx dt s := rfl
@[simp] theorem exec_announceReceiptTimeout (dt : Nat) (s : State) : exec (.announceReceiptTimeout dt) s = execAnnounceReceiptTimeout dt s := rfl
@[simp] theorem exec_syncLossTimeout (dt : Nat) (s : State) : exec (.syncLossTimeout dt) s = execSyncLossTimeout dt s := rfl
@[simp] theorem exec_ptpConfig (dt m : Nat) (s : State) : exec (.ptpConfig dt m) s = execPtpConfig dt m s := rfl
@[simp] theorem exec_ptpStatus (dt m : Nat) (s : State) : exec (.ptpStatus dt m) s = execPtpStatus dt m s := rfl
@[simp] theorem exec_timeConfig (dt m : Nat) (s : State) : exec (.timeConfig dt m) s = execTimeConfig dt m s := rfl
@[simp] theorem exec_timeStep (dt m : Nat) (s : State) : exec (.timeStep dt m) s = execTimeStep dt m s := rfl
@[simp] theorem exec_pulseSet (dt m : Nat) (s : State) : exec (.pulseSet dt m) s = execPulseSet dt m s := rfl
@[simp] theorem exec_pulseEdge (dt output : Nat) (s : State) : exec (.pulseEdge dt output) s = execPulseEdge dt output s := rfl
@[simp] theorem exec_pulseEnd (dt output : Nat) (s : State) : exec (.pulseEnd dt output) s = execPulseEnd dt output s := rfl
@[simp] theorem exec_captureSet (dt m : Nat) (s : State) : exec (.captureSet dt m) s = execCaptureSet dt m s := rfl
@[simp] theorem exec_captureEdge (dt input : Nat) (rising : Bool) (s : State) :
    exec (.captureEdge dt input rising) s = execCaptureEdge dt input rising s := rfl
@[simp] theorem exec_timLatch (dt : Nat) (s : State) : exec (.timLatch dt) s = execTimLatch dt s := rfl
@[simp] theorem exec_timCapPop (dt input : Nat) (s : State) : exec (.timCapPop dt input) s = execTimCapPop dt input s := rfl
@[simp] theorem exec_profileLoad (dt m : Nat) (s : State) : exec (.profileLoad dt m) s = execProfileLoad dt m s := rfl
@[simp] theorem exec_profileDelete (dt m : Nat) (s : State) : exec (.profileDelete dt m) s = execProfileDelete dt m s := rfl
@[simp] theorem exec_profileRead (dt m : Nat) (s : State) : exec (.profileRead dt m) s = execProfileRead dt m s := rfl
@[simp] theorem exec_patchWrite (dt m : Nat) (s : State) : exec (.patchWrite dt m) s = execPatchWrite dt m s := rfl
@[simp] theorem exec_patchWriteDone (dt op : Nat) (poison : Bool) (s : State) :
    exec (.patchWriteDone dt op poison) s = execPatchWriteDone dt op poison s := rfl
@[simp] theorem exec_patchClear (dt m : Nat) (s : State) : exec (.patchClear dt m) s = execPatchClear dt m s := rfl
@[simp] theorem exec_patchRead (dt m : Nat) (s : State) : exec (.patchRead dt m) s = execPatchRead dt m s := rfl
@[simp] theorem exec_paramWrite (dt m : Nat) (s : State) : exec (.paramWrite dt m) s = execParamWrite dt m s := rfl
@[simp] theorem exec_paramRead (dt m : Nat) (s : State) : exec (.paramRead dt m) s = execParamRead dt m s := rfl
@[simp] theorem exec_poolStatus (dt m : Nat) (s : State) : exec (.poolStatus dt m) s = execPoolStatus dt m s := rfl
@[simp] theorem exec_cuelistLoad (dt m : Nat) (s : State) : exec (.cuelistLoad dt m) s = execCuelistLoad dt m s := rfl
@[simp] theorem exec_cuelistLoadDone (dt op : Nat) (poison : Bool) (s : State) :
    exec (.cuelistLoadDone dt op poison) s = execCuelistLoadDone dt op poison s := rfl
@[simp] theorem exec_sourceDelete (dt m : Nat) (s : State) : exec (.sourceDelete dt m) s = execSourceDelete dt m s := rfl
@[simp] theorem exec_effectDefine (dt m : Nat) (s : State) : exec (.effectDefine dt m) s = execEffectDefine dt m s := rfl
@[simp] theorem exec_effectTableLoad (dt m : Nat) (s : State) : exec (.effectTableLoad dt m) s = execEffectTableLoad dt m s := rfl
@[simp] theorem exec_playbackAction (dt m : Nat) (s : State) : exec (.playbackAction dt m) s = execPlaybackAction dt m s := rfl
@[simp] theorem exec_playbackStatus (dt m : Nat) (s : State) : exec (.playbackStatus dt m) s = execPlaybackStatus dt m s := rfl
@[simp] theorem exec_layerSet (dt m : Nat) (s : State) : exec (.layerSet dt m) s = execLayerSet dt m s := rfl
@[simp] theorem exec_policySet (dt m : Nat) (s : State) : exec (.policySet dt m) s = execPolicySet dt m s := rfl
@[simp] theorem exec_sacnRxSet (dt m : Nat) (s : State) : exec (.sacnRxSet dt m) s = execSacnRxSet dt m s := rfl
@[simp] theorem exec_dmxInSet (dt m : Nat) (s : State) : exec (.dmxInSet dt m) s = execDmxInSet dt m s := rfl
@[simp] theorem exec_liveWrite (dt m : Nat) (s : State) : exec (.liveWrite dt m) s = execLiveWrite dt m s := rfl
@[simp] theorem exec_videoInSet (dt m : Nat) (s : State) : exec (.videoInSet dt m) s = execVideoInSet dt m s := rfl
@[simp] theorem exec_videoSampleSet (dt m : Nat) (s : State) : exec (.videoSampleSet dt m) s = execVideoSampleSet dt m s := rfl
@[simp] theorem exec_videoSampleSetDone (dt op : Nat) (poison : Bool) (s : State) :
    exec (.videoSampleSetDone dt op poison) s = execVideoSampleSetDone dt op poison s := rfl
@[simp] theorem exec_videoMapSet (dt m : Nat) (s : State) : exec (.videoMapSet dt m) s = execVideoMapSet dt m s := rfl
@[simp] theorem exec_inputStatus (dt m : Nat) (s : State) : exec (.inputStatus dt m) s = execInputStatus dt m s := rfl
@[simp] theorem exec_mergeRead (dt m : Nat) (s : State) : exec (.mergeRead dt m) s = execMergeRead dt m s := rfl
@[simp] theorem exec_sacnDataRx (dt : Nat) (packet : SacnData) (s : State) : exec (.sacnDataRx dt packet) s = execSacnDataRx dt packet s := rfl
@[simp] theorem exec_sacnSyncRx (dt port cid : Nat) (packet : SacnSync) (s : State) :
    exec (.sacnSyncRx dt port cid packet) s = execSacnSyncRx dt port cid packet s := rfl
@[simp] theorem exec_sacnSourceTimeout (dt uni cid : Nat) (s : State) :
    exec (.sacnSourceTimeout dt uni cid) s = execSacnSourceTimeout dt uni cid s := rfl
@[simp] theorem exec_sacnSyncTimeout (dt addr : Nat) (s : State) : exec (.sacnSyncTimeout dt addr) s = execSacnSyncTimeout dt addr s := rfl
@[simp] theorem exec_dmxInPacket (dt port start : Nat) (slots : Bytes) (line : DmxLine) (s : State) :
    exec (.dmxInPacket dt port start slots line) s = execDmxInPacket dt port start slots line s := rfl
@[simp] theorem exec_dmxInTimeout (dt port : Nat) (s : State) : exec (.dmxInTimeout dt port) s = execDmxInTimeout dt port s := rfl
@[simp] theorem exec_videoPacketRx (dt input : Nat) (packet : VideoPacket) (s : State) :
    exec (.videoPacketRx dt input packet) s = execVideoPacketRx dt input packet s := rfl
@[simp] theorem exec_videoFrameTimeout (dt input : Nat) (s : State) : exec (.videoFrameTimeout dt input) s = execVideoFrameTimeout dt input s := rfl
@[simp] theorem exec_videoLossTimeout (dt input : Nat) (s : State) : exec (.videoLossTimeout dt input) s = execVideoLossTimeout dt input s := rfl
@[simp] theorem exec_calibSet (dt m : Nat) (s : State) : exec (.calibSet dt m) s = execCalibSet dt m s := rfl
@[simp] theorem exec_calibSetDone (dt op : Nat) (poison : Bool) (s : State) :
    exec (.calibSetDone dt op poison) s = execCalibSetDone dt op poison s := rfl
@[simp] theorem exec_regionSet (dt m : Nat) (s : State) : exec (.regionSet dt m) s = execRegionSet dt m s := rfl
@[simp] theorem exec_regionSetDone (dt op : Nat) (poison : Bool) (s : State) :
    exec (.regionSetDone dt op poison) s = execRegionSetDone dt op poison s := rfl
@[simp] theorem exec_feederSet (dt m : Nat) (s : State) : exec (.feederSet dt m) s = execFeederSet dt m s := rfl
@[simp] theorem exec_feederMemberSet (dt m : Nat) (s : State) : exec (.feederMemberSet dt m) s = execFeederMemberSet dt m s := rfl
@[simp] theorem exec_feederStatus (dt m : Nat) (s : State) : exec (.feederStatus dt m) s = execFeederStatus dt m s := rfl
@[simp] theorem exec_solveRead (dt m : Nat) (s : State) : exec (.solveRead dt m) s = execSolveRead dt m s := rfl
@[simp] theorem exec_canvasSet (dt m : Nat) (s : State) : exec (.canvasSet dt m) s = execCanvasSet dt m s := rfl
@[simp] theorem exec_segmentSet (dt m : Nat) (s : State) : exec (.segmentSet dt m) s = execSegmentSet dt m s := rfl
@[simp] theorem exec_pixelMapSet (dt m : Nat) (s : State) : exec (.pixelMapSet dt m) s = execPixelMapSet dt m s := rfl
@[simp] theorem exec_pixelMapSetDone (dt op : Nat) (poison : Bool) (s : State) :
    exec (.pixelMapSetDone dt op poison) s = execPixelMapSetDone dt op poison s := rfl
@[simp] theorem exec_rectCheckSet (dt m : Nat) (s : State) : exec (.rectCheckSet dt m) s = execRectCheckSet dt m s := rfl
@[simp] theorem exec_teSet (dt m : Nat) (s : State) : exec (.teSet dt m) s = execTeSet dt m s := rfl
@[simp] theorem exec_displaySet (dt m : Nat) (s : State) : exec (.displaySet dt m) s = execDisplaySet dt m s := rfl
@[simp] theorem exec_canvasStatus (dt m : Nat) (s : State) : exec (.canvasStatus dt m) s = execCanvasStatus dt m s := rfl
@[simp] theorem exec_displayStatus (dt m : Nat) (s : State) : exec (.displayStatus dt m) s = execDisplayStatus dt m s := rfl
@[simp] theorem exec_tileLatchMissingTimeout (dt lane tileNo : Nat) (s : State) :
    exec (.tileLatchMissingTimeout dt lane tileNo) s = execTileLatchMissingTimeout dt lane tileNo s := rfl
@[simp] theorem exec_teEdge (dt input : Nat) (rising : Bool) (s : State) : exec (.teEdge dt input rising) s = execTeEdge dt input rising s := rfl
@[simp] theorem exec_teMissingTimeout (dt input : Nat) (s : State) : exec (.teMissingTimeout dt input) s = execTeMissingTimeout dt input s := rfl
@[simp] theorem exec_dpHpdChange (dt : Nat) (present : Bool) (s : State) : exec (.dpHpdChange dt present) s = execDpHpdChange dt present s := rfl
@[simp] theorem exec_dpIrqHpd (dt : Nat) (lockLost : Bool) (s : State) : exec (.dpIrqHpd dt lockLost) s = execDpIrqHpd dt lockLost s := rfl
@[simp] theorem exec_dpTrainingDone (dt : Nat) (link : Option (Nat × Nat)) (s : State) :
    exec (.dpTrainingDone dt link) s = execDpTrainingDone dt link s := rfl
@[simp] theorem exec_dpTrainRetry (dt : Nat) (s : State) : exec (.dpTrainRetry dt) s = execDpTrainRetry dt s := rfl
@[simp] theorem exec_dpVblank (dt : Nat) (s : State) : exec (.dpVblank dt) s = execDpVblank dt s := rfl
@[simp] theorem exec_dpLineFetch (dt : Nat) (poisoned : List Nat) (s : State) :
    exec (.dpLineFetch dt poisoned) s = execDpLineFetch dt poisoned s := rfl
@[simp] theorem exec_curveLoad (dt m : Nat) (s : State) : exec (.curveLoad dt m) s = execCurveLoad dt m s := rfl
@[simp] theorem exec_outputGroupSet (dt m : Nat) (s : State) : exec (.outputGroupSet dt m) s = execOutputGroupSet dt m s := rfl
@[simp] theorem exec_tempSourceSet (dt m : Nat) (s : State) : exec (.tempSourceSet dt m) s = execTempSourceSet dt m s := rfl
@[simp] theorem exec_derateSet (dt m : Nat) (s : State) : exec (.derateSet dt m) s = execDerateSet dt m s := rfl
@[simp] theorem exec_safetyGroupSet (dt m : Nat) (s : State) : exec (.safetyGroupSet dt m) s = execSafetyGroupSet dt m s := rfl
@[simp] theorem exec_safetyMemberSet (dt m : Nat) (s : State) : exec (.safetyMemberSet dt m) s = execSafetyMemberSet dt m s := rfl
@[simp] theorem exec_safetyMemberSetDone (dt op : Nat) (poison : Bool) (s : State) :
    exec (.safetyMemberSetDone dt op poison) s = execSafetyMemberSetDone dt op poison s := rfl
@[simp] theorem exec_safetyClear (dt m : Nat) (s : State) : exec (.safetyClear dt m) s = execSafetyClear dt m s := rfl
@[simp] theorem exec_safetyStatus (dt m : Nat) (s : State) : exec (.safetyStatus dt m) s = execSafetyStatus dt m s := rfl
@[simp] theorem exec_derateStatus (dt m : Nat) (s : State) : exec (.derateStatus dt m) s = execDerateStatus dt m s := rfl
@[simp] theorem exec_emitStatus (dt m : Nat) (s : State) : exec (.emitStatus dt m) s = execEmitStatus dt m s := rfl
@[simp] theorem exec_laneTrained (dt lane : Nat) (s : State) : exec (.laneTrained dt lane) s = execLaneTrained dt lane s := rfl
@[simp] theorem exec_laneTrainTimeout (dt lane : Nat) (s : State) : exec (.laneTrainTimeout dt lane) s = execLaneTrainTimeout dt lane s := rfl
@[simp] theorem exec_laneLinkLoss (dt lane : Nat) (s : State) : exec (.laneLinkLoss dt lane) s = execLaneLinkLoss dt lane s := rfl
@[simp] theorem exec_latchAck (dt lane tileNo frameLo ageNs : Nat) (s : State) :
    exec (.latchAck dt lane tileNo frameLo ageNs) s = execLatchAck dt lane tileNo frameLo ageNs s := rfl
@[simp] theorem exec_temp (dt lane tileNo : Nat) (failed : Bool) (raw : Nat) (s : State) :
    exec (.temp dt lane tileNo failed raw) s = execTemp dt lane tileNo failed raw s := rfl
@[simp] theorem exec_fault (dt lane tileNo kind : Nat) (s : State) : exec (.fault dt lane tileNo kind) s = execFault dt lane tileNo kind s := rfl
@[simp] theorem exec_rxError (dt lane : Nat) (s : State) : exec (.rxError dt lane) s = execRxError dt lane s := rfl
@[simp] theorem exec_retrain (dt lane : Nat) (s : State) : exec (.retrain dt lane) s = execRetrain dt lane s := rfl
@[simp] theorem exec_testEcho (dt lane frameLo crc : Nat) (s : State) :
    exec (.testEcho dt lane frameLo crc) s = execTestEcho dt lane frameLo crc s := rfl
@[simp] theorem exec_backchannelMessageDiscard (dt lane : Nat) (s : State) :
    exec (.backchannelMessageDiscard dt lane) s = execBackchannelMessageDiscard dt lane s := rfl
@[simp] theorem exec_laneSet (dt m : Nat) (s : State) : exec (.laneSet dt m) s = execLaneSet dt m s := rfl
@[simp] theorem exec_lanePhySet (dt m : Nat) (s : State) : exec (.lanePhySet dt m) s = execLanePhySet dt m s := rfl
@[simp] theorem exec_dmxPortSet (dt m : Nat) (s : State) : exec (.dmxPortSet dt m) s = execDmxPortSet dt m s := rfl
@[simp] theorem exec_pwmSet (dt m : Nat) (s : State) : exec (.pwmSet dt m) s = execPwmSet dt m s := rfl
@[simp] theorem exec_rdmTransaction (dt m : Nat) (s : State) : exec (.rdmTransaction dt m) s = execRdmTransaction dt m s := rfl
@[simp] theorem exec_rdmTransactionStart (dt port : Nat) (s : State) :
    exec (.rdmTransactionStart dt port) s = execRdmTransactionStart dt port s := rfl
@[simp] theorem exec_rdmResponseEnd (dt port : Nat) (brk : Bool) (bytes : Bytes) (s : State) :
    exec (.rdmResponseEnd dt port brk bytes) s = execRdmResponseEnd dt port brk bytes s := rfl
@[simp] theorem exec_portStatus (dt m : Nat) (s : State) : exec (.portStatus dt m) s = execPortStatus dt m s := rfl
@[simp] theorem exec_pwmPeriodStart (dt output : Nat) (s : State) : exec (.pwmPeriodStart dt output) s = execPwmPeriodStart dt output s := rfl
@[simp] theorem exec_pwmSenseSample (dt output : Nat) (current : Bool) (s : State) :
    exec (.pwmSenseSample dt output current) s = execPwmSenseSample dt output current s := rfl
@[simp] theorem exec_netLinkUp (dt : Nat) (link : LinkUp) (s : State) : exec (.netLinkUp dt link) s = execNetLinkUp dt link s := rfl
@[simp] theorem exec_netLinkDown (dt port : Nat) (modAbs txFault rxLos : Bool) (s : State) :
    exec (.netLinkDown dt port modAbs txFault rxLos) s = execNetLinkDown dt port modAbs txFault rxLos s := rfl
@[simp] theorem exec_netFrameRx (dt port : Nat) (frame : RxFrame) (stop : Option Nat) (s : State) :
    exec (.netFrameRx dt port frame stop) s = execNetFrameRx dt port frame stop s := rfl
@[simp] theorem exec_pauseExpiry (dt port : Nat) (s : State) : exec (.pauseExpiry dt port) s = execPauseExpiry dt port s := rfl
@[simp] theorem exec_netFrameTx (dt port : Nat) (turn : TxTurn) (s : State) :
    exec (.netFrameTx dt port turn) s = execNetFrameTx dt port turn s := rfl
@[simp] theorem exec_sacnDiscoveryTimer (dt : Nat) (s : State) : exec (.sacnDiscoveryTimer dt) s = execSacnDiscoveryTimer dt s := rfl
@[simp] theorem exec_netPortSet (dt m : Nat) (s : State) : exec (.netPortSet dt m) s = execNetPortSet dt m s := rfl
@[simp] theorem exec_netRingBind (dt m : Nat) (s : State) : exec (.netRingBind dt m) s = execNetRingBind dt m s := rfl
@[simp] theorem exec_netPortStatus (dt m : Nat) (s : State) : exec (.netPortStatus dt m) s = execNetPortStatus dt m s := rfl
@[simp] theorem exec_netRingStatus (dt m : Nat) (s : State) : exec (.netRingStatus dt m) s = execNetRingStatus dt m s := rfl
@[simp] theorem exec_sacnTxConfig (dt m : Nat) (s : State) : exec (.sacnTxConfig dt m) s = execSacnTxConfig dt m s := rfl
@[simp] theorem exec_sacnTxUniverseSet (dt m : Nat) (s : State) : exec (.sacnTxUniverseSet dt m) s = execSacnTxUniverseSet dt m s := rfl
@[simp] theorem exec_macsecSecySet (dt m : Nat) (s : State) : exec (.macsecSecySet dt m) s = execMacsecSecySet dt m s := rfl
@[simp] theorem exec_macsecSaSet (dt m : Nat) (s : State) : exec (.macsecSaSet dt m) s = execMacsecSaSet dt m s := rfl
@[simp] theorem exec_macsecStatus (dt m : Nat) (s : State) : exec (.macsecStatus dt m) s = execMacsecStatus dt m s := rfl
@[simp] theorem exec_mtrSample (dt : Nat) (raw : List Int) (s : State) : exec (.mtrSample dt raw) s = execMtrSample dt raw s := rfl
@[simp] theorem exec_mtrZeroCrossing (dt point : Nat) (stamp : Int) (s : State) :
    exec (.mtrZeroCrossing dt point stamp) s = execMtrZeroCrossing dt point stamp s := rfl
@[simp] theorem exec_mtrZcTimeout (dt point : Nat) (s : State) : exec (.mtrZcTimeout dt point) s = execMtrZcTimeout dt point s := rfl
@[simp] theorem exec_mtrAuxPeriodEnd (dt channel : Nat) (s : State) : exec (.mtrAuxPeriodEnd dt channel) s = execMtrAuxPeriodEnd dt channel s := rfl
@[simp] theorem exec_mtrRoveStart (dt : Nat) (s : State) : exec (.mtrRoveStart dt) s = execMtrRoveStart dt s := rfl
@[simp] theorem exec_mtrRoveTakeover (dt : Nat) (s : State) : exec (.mtrRoveTakeover dt) s = execMtrRoveTakeover dt s := rfl
@[simp] theorem exec_mtrRoveRejoin (dt : Nat) (kg zg : List Int) (s : State) : exec (.mtrRoveRejoin dt kg zg) s = execMtrRoveRejoin dt kg zg s := rfl
@[simp] theorem exec_mtrRoveReturn (dt : Nat) (residual : Int) (s : State) :
    exec (.mtrRoveReturn dt residual) s = execMtrRoveReturn dt residual s := rfl
@[simp] theorem exec_mtrRoveEnd (dt : Nat) (s : State) : exec (.mtrRoveEnd dt) s = execMtrRoveEnd dt s := rfl
@[simp] theorem exec_mtrPulseEdge (dt output : Nat) (s : State) : exec (.mtrPulseEdge dt output) s = execMtrPulseEdge dt output s := rfl
@[simp] theorem exec_mtrPulseEnd (dt output : Nat) (s : State) : exec (.mtrPulseEnd dt output) s = execMtrPulseEnd dt output s := rfl
@[simp] theorem exec_mtrChannelSet (dt m : Nat) (s : State) : exec (.mtrChannelSet dt m) s = execMtrChannelSet dt m s := rfl
@[simp] theorem exec_mtrPointSet (dt m : Nat) (s : State) : exec (.mtrPointSet dt m) s = execMtrPointSet dt m s := rfl
@[simp] theorem exec_mtrEnergyPreset (dt m : Nat) (s : State) : exec (.mtrEnergyPreset dt m) s = execMtrEnergyPreset dt m s := rfl
@[simp] theorem exec_mtrPulseSet (dt m : Nat) (s : State) : exec (.mtrPulseSet dt m) s = execMtrPulseSet dt m s := rfl
@[simp] theorem exec_mtrRoveSet (dt m : Nat) (s : State) : exec (.mtrRoveSet dt m) s = execMtrRoveSet dt m s := rfl
@[simp] theorem exec_mtrPulseStatus (dt m : Nat) (s : State) : exec (.mtrPulseStatus dt m) s = execMtrPulseStatus dt m s := rfl
@[simp] theorem exec_mtrLatchRead (dt m : Nat) (s : State) : exec (.mtrLatchRead dt m) s = execMtrLatchRead dt m s := rfl
@[simp] theorem exec_mtrCycleRead (dt m : Nat) (s : State) : exec (.mtrCycleRead dt m) s = execMtrCycleRead dt m s := rfl
@[simp] theorem exec_mtrChannelStatus (dt m : Nat) (s : State) : exec (.mtrChannelStatus dt m) s = execMtrChannelStatus dt m s := rfl
@[simp] theorem exec_mtrCapture (dt m : Nat) (s : State) : exec (.mtrCapture dt m) s = execMtrCapture dt m s := rfl
@[simp] theorem exec_mtrCaptureDone (dt op : Nat) (s : State) : exec (.mtrCaptureDone dt op) s = execMtrCaptureDone dt op s := rfl
@[simp] theorem exec_counterAccess (dt m : Nat) (s : State) : exec (.counterAccess dt m) s = execCounterAccess dt m s := rfl
@[simp] theorem exec_counterConfig (dt m : Nat) (s : State) : exec (.counterConfig dt m) s = execCounterConfig dt m s := rfl
@[simp] theorem exec_counterDump (dt m : Nat) (s : State) : exec (.counterDump dt m) s = execCounterDump dt m s := rfl
@[simp] theorem exec_traceConfig (dt m : Nat) (s : State) : exec (.traceConfig dt m) s = execTraceConfig dt m s := rfl
@[simp] theorem exec_traceRead (dt m : Nat) (s : State) : exec (.traceRead dt m) s = execTraceRead dt m s := rfl
@[simp] theorem exec_renderStatus (dt m : Nat) (s : State) : exec (.renderStatus dt m) s = execRenderStatus dt m s := rfl
@[simp] theorem exec_pcnValueRead (dt : Nat) (s : State) : exec (.pcnValueRead dt) s = execPcnValueRead dt s := rfl
@[simp] theorem exec_snpTake (dt : Nat) (s : State) : exec (.snpTake dt) s = execSnpTake dt s := rfl
@[simp] theorem exec_snpFreeze (dt : Nat) (auto : Bool) (s : State) : exec (.snpFreeze dt auto) s = execSnpFreeze dt auto s := rfl
@[simp] theorem exec_snpCaptureDone (dt : Nat) (s : State) : exec (.snpCaptureDone dt) s = execSnpCaptureDone dt s := rfl
@[simp] theorem exec_icuPendSet (dt p value : Nat) (s : State) : exec (.icuPendSet dt p value) s = execIcuPendSet dt p value s := rfl
@[simp] theorem exec_icuPendClear (dt p value : Nat) (s : State) : exec (.icuPendClear dt p value) s = execIcuPendClear dt p value s := rfl
@[simp] theorem exec_icuClaim (dt target : Nat) (s : State) : exec (.icuClaim dt target) s = execIcuClaim dt target s := rfl
@[simp] theorem exec_icuComplete (dt target value : Nat) (s : State) :
    exec (.icuComplete dt target value) s = execIcuComplete dt target value s := rfl
@[simp] theorem exec_icuConfigWrite (dt off value : Nat) (s : State) :
    exec (.icuConfigWrite dt off value) s = execIcuConfigWrite dt off value s := rfl
@[simp] theorem exec_msixMaskChange (dt : Nat) (control : SleepControl) (on : Bool) (s : State) :
    exec (.msixMaskChange dt control on) s = execMsixMaskChange dt control on s := rfl
@[simp] theorem exec_icuHoldoffExpiry (dt g : Nat) (s : State) : exec (.icuHoldoffExpiry dt g) s = execIcuHoldoffExpiry dt g s := rfl
@[simp] theorem exec_icuRedirect (dt source : Nat) (s : State) : exec (.icuRedirect dt source) s = execIcuRedirect dt source s := rfl
@[simp] theorem exec_eccRowRetire (dt mem addr : Nat) (s : State) : exec (.eccRowRetire dt mem addr) s = execEccRowRetire dt mem addr s := rfl
@[simp] theorem exec_scrubRead (dt found syndrome : Nat) (s : State) :
    exec (.scrubRead dt found syndrome) s = execScrubRead dt found syndrome s := rfl
@[simp] theorem exec_parityRestore (dt addr : Nat) (s : State) : exec (.parityRestore dt addr) s = execParityRestore dt addr s := rfl
@[simp] theorem exec_queueRebuild (dt queue : Nat) (s : State) : exec (.queueRebuild dt queue) s = execQueueRebuild dt queue s := rfl
@[simp] theorem exec_eccFlipArm (dt value : Nat) (s : State) : exec (.eccFlipArm dt value) s = execEccFlipArm dt value s := rfl
@[simp] theorem exec_eccAccess (dt m : Nat) (s : State) : exec (.eccAccess dt m) s = execEccAccess dt m s := rfl
@[simp] theorem exec_queueStatus (dt m : Nat) (s : State) : exec (.queueStatus dt m) s = execQueueStatus dt m s := rfl
@[simp] theorem exec_queueWmSet (dt m : Nat) (s : State) : exec (.queueWmSet dt m) s = execQueueWmSet dt m s := rfl
@[simp] theorem exec_zlkBlockLock (dt link : Nat) (s : State) : exec (.zlkBlockLock dt link) s = execZlkBlockLock dt link s := rfl
@[simp] theorem exec_zlkHelloRx (dt link : Nat) (good : Bool) (h : Hello) (s : State) :
    exec (.zlkHelloRx dt link good h) s = execZlkHelloRx dt link good h s := rfl
@[simp] theorem exec_zlkHelloTimer (dt link : Nat) (s : State) : exec (.zlkHelloTimer dt link) s = execZlkHelloTimer dt link s := rfl
@[simp] theorem exec_zlkLockLoss (dt link : Nat) (s : State) : exec (.zlkLockLoss dt link) s = execZlkLockLoss dt link s := rfl
@[simp] theorem exec_zlkDataRx (dt link : Nat) (f : ZlkData) (s : State) : exec (.zlkDataRx dt link f) s = execZlkDataRx dt link f s := rfl
@[simp] theorem exec_zlkAckRx (dt link ack : Nat) (credit : List Nat) (s : State) :
    exec (.zlkAckRx dt link ack credit) s = execZlkAckRx dt link ack credit s := rfl
@[simp] theorem exec_zlkNakRx (dt link ack : Nat) (credit : List Nat) (s : State) :
    exec (.zlkNakRx dt link ack credit) s = execZlkNakRx dt link ack credit s := rfl
@[simp] theorem exec_zlkTimeRx (dt link seq ack : Nat) (crcOk : Bool) (credit : List Nat) (tx : Instant) (rx : Option Instant) (s : State) :
    exec (.zlkTimeRx dt link seq ack crcOk credit tx rx) s = execZlkTimeRx dt link seq ack crcOk credit tx rx s := rfl
@[simp] theorem exec_zlkRetryTimeout (dt link : Nat) (s : State) : exec (.zlkRetryTimeout dt link) s = execZlkRetryTimeout dt link s := rfl
@[simp] theorem exec_groupFormation (dt : Nat) (peerAct : Bool) (s : State) :
    exec (.groupFormation dt peerAct) s = execGroupFormation dt peerAct s := rfl
@[simp] theorem exec_groupFormationTimeout (dt : Nat) (peerAct : Bool) (s : State) :
    exec (.groupFormationTimeout dt peerAct) s = execGroupFormationTimeout dt peerAct s := rfl
@[simp] theorem exec_memberLossTimeout (dt who : Nat) (s : State) : exec (.memberLossTimeout dt who) s = execMemberLossTimeout dt who s := rfl
@[simp] theorem exec_coordinatorLossTimeout (dt : Nat) (s : State) : exec (.coordinatorLossTimeout dt) s = execCoordinatorLossTimeout dt s := rfl
@[simp] theorem exec_resyncStart (dt : Nat) (s : State) : exec (.resyncStart dt) s = execResyncStart dt s := rfl
@[simp] theorem exec_resyncDone (dt : Nat) (s : State) : exec (.resyncDone dt) s = execResyncDone dt s := rfl
@[simp] theorem exec_commitDeadline (dt : Nat) (s : State) : exec (.commitDeadline dt) s = execCommitDeadline dt s := rfl
@[simp] theorem exec_inputSeal (dt : Nat) (s : State) : exec (.inputSeal dt) s = execInputSeal dt s := rfl
@[simp] theorem exec_digestTimeout (dt : Nat) (s : State) : exec (.digestTimeout dt) s = execDigestTimeout dt s := rfl
@[simp] theorem exec_selfCheckDone (dt frame : Nat) (same : Bool) (s : State) :
    exec (.selfCheckDone dt frame same) s = execSelfCheckDone dt frame same s := rfl
@[simp] theorem exec_mismatchOutcome (dt frame : Nat) (s : State) : exec (.mismatchOutcome dt frame) s = execMismatchOutcome dt frame s := rfl
@[simp] theorem exec_tangoPeerActLow (dt : Nat) (s : State) : exec (.tangoPeerActLow dt) s = execTangoPeerActLow dt s := rfl
@[simp] theorem exec_tangoYield (dt cause : Nat) (s : State) : exec (.tangoYield dt cause) s = execTangoYield dt cause s := rfl
@[simp] theorem exec_tangoYieldPulseEnd (dt : Nat) (s : State) : exec (.tangoYieldPulseEnd dt) s = execTangoYieldPulseEnd dt s := rfl
@[simp] theorem exec_tangoYieldNetLow (dt : Nat) (s : State) : exec (.tangoYieldNetLow dt) s = execTangoYieldNetLow dt s := rfl
@[simp] theorem exec_tangoYieldNetStuck (dt : Nat) (s : State) : exec (.tangoYieldNetStuck dt) s = execTangoYieldNetStuck dt s := rfl
@[simp] theorem exec_standbyDetachTimeout (dt : Nat) (s : State) : exec (.standbyDetachTimeout dt) s = execStandbyDetachTimeout dt s := rfl
@[simp] theorem exec_loopbackTest (dt : Nat) (badDmx badPwm : List Nat) (s : State) :
    exec (.loopbackTest dt badDmx badPwm) s = execLoopbackTest dt badDmx badPwm s := rfl
@[simp] theorem exec_groupConfig (dt m : Nat) (s : State) : exec (.groupConfig dt m) s = execGroupConfig dt m s := rfl
@[simp] theorem exec_groupConfigDone (dt op : Nat) (s : State) : exec (.groupConfigDone dt op) s = execGroupConfigDone dt op s := rfl
@[simp] theorem exec_groupStatus (dt m : Nat) (s : State) : exec (.groupStatus dt m) s = execGroupStatus dt m s := rfl
@[simp] theorem exec_partitionSet (dt m : Nat) (s : State) : exec (.partitionSet dt m) s = execPartitionSet dt m s := rfl
@[simp] theorem exec_tangoSwitch (dt m : Nat) (s : State) : exec (.tangoSwitch dt m) s = execTangoSwitch dt m s := rfl
@[simp] theorem exec_cotillionStatus (dt m : Nat) (s : State) : exec (.cotillionStatus dt m) s = execCotillionStatus dt m s := rfl
@[simp] theorem exec_updateBegin (dt m : Nat) (s : State) : exec (.updateBegin dt m) s = execUpdateBegin dt m s := rfl
@[simp] theorem exec_updateBeginDone (dt op : Nat) (s : State) : exec (.updateBeginDone dt op) s = execUpdateBeginDone dt op s := rfl
@[simp] theorem exec_updateBlock (dt m : Nat) (s : State) : exec (.updateBlock dt m) s = execUpdateBlock dt m s := rfl
@[simp] theorem exec_updateBlockDone (dt op : Nat) (poison : Bool) (s : State) :
    exec (.updateBlockDone dt op poison) s = execUpdateBlockDone dt op poison s := rfl
@[simp] theorem exec_updateVerify (dt m : Nat) (s : State) : exec (.updateVerify dt m) s = execUpdateVerify dt m s := rfl
@[simp] theorem exec_updateVerifyDone (dt op : Nat) (s : State) : exec (.updateVerifyDone dt op) s = execUpdateVerifyDone dt op s := rfl
@[simp] theorem exec_updateActivate (dt m : Nat) (s : State) : exec (.updateActivate dt m) s = execUpdateActivate dt m s := rfl
@[simp] theorem exec_activationDecision (dt : Nat) (s : State) : exec (.activationDecision dt) s = execActivationDecision dt s := rfl
@[simp] theorem exec_partStartFail (dt part : Nat) (s : State) : exec (.partStartFail dt part) s = execPartStartFail dt part s := rfl
@[simp] theorem exec_activationComplete (dt : Nat) (s : State) : exec (.activationComplete dt) s = execActivationComplete dt s := rfl
@[simp] theorem exec_updateStatus (dt m : Nat) (s : State) : exec (.updateStatus dt m) s = execUpdateStatus dt m s := rfl
@[simp] theorem exec_fwRestart (dt : Nat) (s : State) : exec (.fwRestart dt) s = execFwRestart dt s := rfl
@[simp] theorem exec_fwRestartEnd (dt : Nat) (s : State) : exec (.fwRestartEnd dt) s = execFwRestartEnd dt s := rfl
@[simp] theorem exec_authChallenge (dt m : Nat) (s : State) : exec (.authChallenge dt m) s = execAuthChallenge dt m s := rfl
@[simp] theorem exec_credSet (dt m : Nat) (s : State) : exec (.credSet dt m) s = execCredSet dt m s := rfl
@[simp] theorem exec_credSetDone (dt op : Nat) (s : State) : exec (.credSetDone dt op) s = execCredSetDone dt op s := rfl
@[simp] theorem exec_keyEstablish (dt m : Nat) (s : State) : exec (.keyEstablish dt m) s = execKeyEstablish dt m s := rfl
@[simp] theorem exec_keyEstablishDone (dt op : Nat) (s : State) : exec (.keyEstablishDone dt op) s = execKeyEstablishDone dt op s := rfl
@[simp] theorem exec_keyInstall (dt m : Nat) (s : State) : exec (.keyInstall dt m) s = execKeyInstall dt m s := rfl
@[simp] theorem exec_keyInstallDone (dt op : Nat) (s : State) : exec (.keyInstallDone dt op) s = execKeyInstallDone dt op s := rfl
@[simp] theorem exec_auditRead (dt m : Nat) (s : State) : exec (.auditRead dt m) s = execAuditRead dt m s := rfl
@[simp] theorem exec_auditReadDone (dt op : Nat) (s : State) : exec (.auditReadDone dt op) s = execAuditReadDone dt op s := rfl
@[simp] theorem exec_debugSet (dt m : Nat) (s : State) : exec (.debugSet dt m) s = execDebugSet dt m s := rfl
@[simp] theorem exec_debugAttach (dt : Nat) (s : State) : exec (.debugAttach dt) s = execDebugAttach dt s := rfl
@[simp] theorem exec_securityStatus (dt m : Nat) (s : State) : exec (.securityStatus dt m) s = execSecurityStatus dt m s := rfl
@[simp] theorem exec_authLockoutEnd (dt : Nat) (s : State) : exec (.authLockoutEnd dt) s = execAuthLockoutEnd dt s := rfl
@[simp] theorem exec_trngFault (dt test : Nat) (s : State) : exec (.trngFault dt test) s = execTrngFault dt test s := rfl
@[simp] theorem exec_powerOn (dt : Nat) (s : State) : exec (.powerOn dt) s = execPowerOn dt s := rfl
@[simp] theorem exec_porstNAssert (dt : Nat) (s : State) : exec (.porstNAssert dt) s = execPorstNAssert dt s := rfl
@[simp] theorem exec_resetRelease (dt rank : Nat) (testMode : Bool) (s : State) :
    exec (.resetRelease dt rank testMode) s = execResetRelease dt rank testMode s := rfl
@[simp] theorem exec_lanishambeStart (dt bootBad areaBad part : Nat) (s : State) :
    exec (.lanishambeStart dt bootBad areaBad part) s = execLanishambeStart dt bootBad areaBad part s := rfl
@[simp] theorem exec_mbxReadyReached (dt : Nat) (failed : List Nat) (s : State) :
    exec (.mbxReadyReached dt failed) s = execMbxReadyReached dt failed s := rfl
@[simp] theorem exec_supplyFault (dt rail : Nat) (s : State) : exec (.supplyFault dt rail) s = execSupplyFault dt rail s := rfl
@[simp] theorem exec_supplyReset (dt : Nat) (s : State) : exec (.supplyReset dt) s = execSupplyReset dt s := rfl
@[simp] theorem exec_refclkLoss (dt : Nat) (s : State) : exec (.refclkLoss dt) s = execRefclkLoss dt s := rfl
@[simp] theorem exec_pllLockLoss (dt : Nat) (s : State) : exec (.pllLockLoss dt) s = execPllLockLoss dt s := rfl
@[simp] theorem exec_dpPllLoss (dt : Nat) (s : State) : exec (.dpPllLoss dt) s = execDpPllLoss dt s := rfl
@[simp] theorem exec_mgmtWatchdogExpiry (dt : Nat) (s : State) : exec (.mgmtWatchdogExpiry dt) s = execMgmtWatchdogExpiry dt s := rfl
@[simp] theorem exec_renderStall (dt : Nat) (s : State) : exec (.renderStall dt) s = execRenderStall dt s := rfl
@[simp] theorem exec_renderStallReset (dt : Nat) (s : State) : exec (.renderStallReset dt) s = execRenderStallReset dt s := rfl
@[simp] theorem exec_arbiterInterval (dt fixed clusters dma mgmt : Nat) (railMa : List Nat) (tj : Int) (s : State) :
    exec (.arbiterInterval dt fixed clusters dma mgmt railMa tj) s = execArbiterInterval dt fixed clusters dma mgmt railMa tj s := rfl
@[simp] theorem exec_thermalHigh (dt : Nat) (tj : Int) (s : State) : exec (.thermalHigh dt tj) s = execThermalHigh dt tj s := rfl
@[simp] theorem exec_thermalTrip (dt : Nat) (tj : Int) (s : State) : exec (.thermalTrip dt tj) s = execThermalTrip dt tj s := rfl
@[simp] theorem exec_powerConfig (dt m : Nat) (s : State) : exec (.powerConfig dt m) s = execPowerConfig dt m s := rfl
@[simp] theorem exec_supplyStatus (dt m : Nat) (s : State) : exec (.supplyStatus dt m) s = execSupplyStatus dt m s := rfl
@[simp] theorem exec_bar2Write (dt off : Nat) (data : Bytes) (s : State) : exec (.bar2Write dt off data) s = execBar2Write dt off data s := rfl
@[simp] theorem exec_counterWrap (dt unit counter : Nat) (s : State) :
    exec (.counterWrap dt unit counter) s = execCounterWrap dt unit counter s := rfl
@[simp] theorem exec_mtrPulseGapEnd (dt output : Nat) (s : State) : exec (.mtrPulseGapEnd dt output) s = execMtrPulseGapEnd dt output s := rfl
@[simp] theorem exec_loopbackEchoTimeout (dt output : Nat) (s : State) :
    exec (.loopbackEchoTimeout dt output) s = execLoopbackEchoTimeout dt output s := rfl
@[simp] theorem exec_tangoYieldNetHigh (dt : Nat) (s : State) : exec (.tangoYieldNetHigh dt) s = execTangoYieldNetHigh dt s := rfl
@[simp] theorem exec_trngHealthy (dt : Nat) (s : State) : exec (.trngHealthy dt) s = execTrngHealthy dt s := rfl
@[simp] theorem exec_railWithinTolerance (dt rail : Nat) (s : State) :
    exec (.railWithinTolerance dt rail) s = execRailWithinTolerance dt rail s := rfl
@[simp] theorem exec_dpPllRelock (dt : Nat) (s : State) : exec (.dpPllRelock dt) s = execDpPllRelock dt s := rfl

end Sys2Proof.Machine
end

