-- ==== Sys2Proof/Laws/State.lean ====
section
/-!
SUPPORT. Laws/State.lean: what each named update of the state changes and what it leaves, and what every command
does before and after its own effect (time, watermarks, interrupt delivery).
-/

namespace Sys2Proof.Machine

/-! ### Named updates -/

@[simp] theorem State.tick_host (s : State) (dt : Nat) : (s.tick dt).host = s.host := by rfl
@[simp] theorem State.tick_txn (s : State) (dt : Nat) : (s.tick dt).txn = s.txn := by rfl
@[simp] theorem State.tick_clock (s : State) (dt : Nat) : (s.tick dt).clock = s.clock := by rfl
@[simp] theorem State.tick_time (s : State) (dt : Nat) : (s.tick dt).time = s.time.tick dt := by rfl
@[simp] theorem State.tick_icu (s : State) (dt : Nat) : (s.tick dt).icu = s.icu := by rfl
@[simp] theorem State.tick_render (s : State) (dt : Nat) : (s.tick dt).render = s.render := by rfl
@[simp] theorem State.tick_inputs (s : State) (dt : Nat) : (s.tick dt).inputs = s.inputs := by rfl
@[simp] theorem State.tick_meter (s : State) (dt : Nat) : (s.tick dt).meter = s.meter := by rfl
@[simp] theorem State.tick_ports (s : State) (dt : Nat) : (s.tick dt).ports = s.ports := by rfl
@[simp] theorem State.tick_net (s : State) (dt : Nat) : (s.tick dt).net = s.net := by rfl
@[simp] theorem State.tick_fns (s : State) (dt : Nat) : (s.tick dt).fns = s.fns := by rfl
@[simp] theorem State.tick_ecc (s : State) (dt : Nat) : (s.tick dt).ecc = s.ecc := by rfl
@[simp] theorem State.tick_queues (s : State) (dt : Nat) : (s.tick dt).queues = s.queues := by rfl
@[simp] theorem State.tick_group (s : State) (dt : Nat) : (s.tick dt).group = s.group := by rfl
@[simp] theorem State.tick_update (s : State) (dt : Nat) : (s.tick dt).update = s.update := by rfl
@[simp] theorem State.tick_secure (s : State) (dt : Nat) : (s.tick dt).secure = s.secure := by rfl
@[simp] theorem State.tick_power (s : State) (dt : Nat) : (s.tick dt).power = s.power := by rfl
@[simp] theorem State.tick_mem (s : State) (dt : Nat) : (s.tick dt).mem = s.mem := by rfl
@[simp] theorem State.tick_freeCtr (s : State) (dt : Nat) : (s.tick dt).freeCtr = s.freeCtr := by rfl
@[simp] theorem State.tick_out (s : State) (dt : Nat) : (s.tick dt).out = s.out := by rfl
@[simp] theorem State.tick_pending (s : State) (dt : Nat) : (s.tick dt).pending = s.pending := by rfl

@[simp] theorem State.emit_host (s : State) (e : OutEvent) : (s.emit e).host = s.host := by rfl
@[simp] theorem State.emit_txn (s : State) (e : OutEvent) : (s.emit e).txn = s.txn := by rfl
@[simp] theorem State.emit_clock (s : State) (e : OutEvent) : (s.emit e).clock = s.clock := by rfl
@[simp] theorem State.emit_time (s : State) (e : OutEvent) : (s.emit e).time = s.time := by rfl
@[simp] theorem State.emit_icu (s : State) (e : OutEvent) : (s.emit e).icu = s.icu := by rfl
@[simp] theorem State.emit_render (s : State) (e : OutEvent) : (s.emit e).render = s.render := by rfl
@[simp] theorem State.emit_inputs (s : State) (e : OutEvent) : (s.emit e).inputs = s.inputs := by rfl
@[simp] theorem State.emit_meter (s : State) (e : OutEvent) : (s.emit e).meter = s.meter := by rfl
@[simp] theorem State.emit_ports (s : State) (e : OutEvent) : (s.emit e).ports = s.ports := by rfl
@[simp] theorem State.emit_net (s : State) (e : OutEvent) : (s.emit e).net = s.net := by rfl
@[simp] theorem State.emit_fns (s : State) (e : OutEvent) : (s.emit e).fns = s.fns := by rfl
@[simp] theorem State.emit_ecc (s : State) (e : OutEvent) : (s.emit e).ecc = s.ecc := by rfl
@[simp] theorem State.emit_queues (s : State) (e : OutEvent) : (s.emit e).queues = s.queues := by rfl
@[simp] theorem State.emit_group (s : State) (e : OutEvent) : (s.emit e).group = s.group := by rfl
@[simp] theorem State.emit_update (s : State) (e : OutEvent) : (s.emit e).update = s.update := by rfl
@[simp] theorem State.emit_secure (s : State) (e : OutEvent) : (s.emit e).secure = s.secure := by rfl
@[simp] theorem State.emit_power (s : State) (e : OutEvent) : (s.emit e).power = s.power := by rfl
@[simp] theorem State.emit_mem (s : State) (e : OutEvent) : (s.emit e).mem = s.mem := by rfl
@[simp] theorem State.emit_freeCtr (s : State) (e : OutEvent) : (s.emit e).freeCtr = s.freeCtr := by rfl
@[simp] theorem State.emit_out (s : State) (e : OutEvent) : (s.emit e).out = e :: s.out := by rfl
@[simp] theorem State.emit_pending (s : State) (e : OutEvent) : (s.emit e).pending = s.pending := by rfl

@[simp] theorem State.emitAll_host (s : State) (es : List OutEvent) : (s.emitAll es).host = s.host := by rfl
@[simp] theorem State.emitAll_txn (s : State) (es : List OutEvent) : (s.emitAll es).txn = s.txn := by rfl
@[simp] theorem State.emitAll_clock (s : State) (es : List OutEvent) : (s.emitAll es).clock = s.clock := by rfl
@[simp] theorem State.emitAll_time (s : State) (es : List OutEvent) : (s.emitAll es).time = s.time := by rfl
@[simp] theorem State.emitAll_icu (s : State) (es : List OutEvent) : (s.emitAll es).icu = s.icu := by rfl
@[simp] theorem State.emitAll_render (s : State) (es : List OutEvent) : (s.emitAll es).render = s.render := by rfl
@[simp] theorem State.emitAll_inputs (s : State) (es : List OutEvent) : (s.emitAll es).inputs = s.inputs := by rfl
@[simp] theorem State.emitAll_meter (s : State) (es : List OutEvent) : (s.emitAll es).meter = s.meter := by rfl
@[simp] theorem State.emitAll_ports (s : State) (es : List OutEvent) : (s.emitAll es).ports = s.ports := by rfl
@[simp] theorem State.emitAll_net (s : State) (es : List OutEvent) : (s.emitAll es).net = s.net := by rfl
@[simp] theorem State.emitAll_fns (s : State) (es : List OutEvent) : (s.emitAll es).fns = s.fns := by rfl
@[simp] theorem State.emitAll_ecc (s : State) (es : List OutEvent) : (s.emitAll es).ecc = s.ecc := by rfl
@[simp] theorem State.emitAll_queues (s : State) (es : List OutEvent) : (s.emitAll es).queues = s.queues := by rfl
@[simp] theorem State.emitAll_group (s : State) (es : List OutEvent) : (s.emitAll es).group = s.group := by rfl
@[simp] theorem State.emitAll_update (s : State) (es : List OutEvent) : (s.emitAll es).update = s.update := by rfl
@[simp] theorem State.emitAll_secure (s : State) (es : List OutEvent) : (s.emitAll es).secure = s.secure := by rfl
@[simp] theorem State.emitAll_power (s : State) (es : List OutEvent) : (s.emitAll es).power = s.power := by rfl
@[simp] theorem State.emitAll_mem (s : State) (es : List OutEvent) : (s.emitAll es).mem = s.mem := by rfl
@[simp] theorem State.emitAll_freeCtr (s : State) (es : List OutEvent) : (s.emitAll es).freeCtr = s.freeCtr := by rfl
@[simp] theorem State.emitAll_out (s : State) (es : List OutEvent) : (s.emitAll es).out = es.reverse ++ s.out := by rfl
@[simp] theorem State.emitAll_pending (s : State) (es : List OutEvent) : (s.emitAll es).pending = s.pending := by rfl

@[simp] theorem State.raise_host (s : State) (n : Nat) : (s.raise n).host = s.host := by rfl
@[simp] theorem State.raise_txn (s : State) (n : Nat) : (s.raise n).txn = s.txn := by rfl
@[simp] theorem State.raise_clock (s : State) (n : Nat) : (s.raise n).clock = s.clock := by rfl
@[simp] theorem State.raise_time (s : State) (n : Nat) : (s.raise n).time = s.time := by rfl
@[simp] theorem State.raise_icu (s : State) (n : Nat) : (s.raise n).icu = s.icu.edge n s.now := by rfl
@[simp] theorem State.raise_render (s : State) (n : Nat) : (s.raise n).render = s.render := by rfl
@[simp] theorem State.raise_inputs (s : State) (n : Nat) : (s.raise n).inputs = s.inputs := by rfl
@[simp] theorem State.raise_meter (s : State) (n : Nat) : (s.raise n).meter = s.meter := by rfl
@[simp] theorem State.raise_ports (s : State) (n : Nat) : (s.raise n).ports = s.ports := by rfl
@[simp] theorem State.raise_net (s : State) (n : Nat) : (s.raise n).net = s.net := by rfl
@[simp] theorem State.raise_fns (s : State) (n : Nat) : (s.raise n).fns = s.fns := by rfl
@[simp] theorem State.raise_ecc (s : State) (n : Nat) : (s.raise n).ecc = s.ecc := by rfl
@[simp] theorem State.raise_queues (s : State) (n : Nat) : (s.raise n).queues = s.queues := by rfl
@[simp] theorem State.raise_group (s : State) (n : Nat) : (s.raise n).group = s.group := by rfl
@[simp] theorem State.raise_update (s : State) (n : Nat) : (s.raise n).update = s.update := by rfl
@[simp] theorem State.raise_secure (s : State) (n : Nat) : (s.raise n).secure = s.secure := by rfl
@[simp] theorem State.raise_power (s : State) (n : Nat) : (s.raise n).power = s.power := by rfl
@[simp] theorem State.raise_mem (s : State) (n : Nat) : (s.raise n).mem = s.mem := by rfl
@[simp] theorem State.raise_freeCtr (s : State) (n : Nat) : (s.raise n).freeCtr = s.freeCtr := by rfl
@[simp] theorem State.raise_out (s : State) (n : Nat) : (s.raise n).out = s.out := by rfl
@[simp] theorem State.raise_pending (s : State) (n : Nat) : (s.raise n).pending = s.pending := by rfl

@[simp] theorem State.writeRegion_host (s : State) (off : Nat) (bs : Bytes) : (s.writeRegion off bs).host = s.host := by rfl
@[simp] theorem State.writeRegion_txn (s : State) (off : Nat) (bs : Bytes) : (s.writeRegion off bs).txn = s.txn := by rfl
@[simp] theorem State.writeRegion_clock (s : State) (off : Nat) (bs : Bytes) : (s.writeRegion off bs).clock = s.clock := by rfl
@[simp] theorem State.writeRegion_time (s : State) (off : Nat) (bs : Bytes) : (s.writeRegion off bs).time = s.time := by rfl
@[simp] theorem State.writeRegion_icu (s : State) (off : Nat) (bs : Bytes) : (s.writeRegion off bs).icu = s.icu := by rfl
@[simp] theorem State.writeRegion_render (s : State) (off : Nat) (bs : Bytes) : (s.writeRegion off bs).render = s.render := by rfl
@[simp] theorem State.writeRegion_inputs (s : State) (off : Nat) (bs : Bytes) : (s.writeRegion off bs).inputs = s.inputs := by rfl
@[simp] theorem State.writeRegion_meter (s : State) (off : Nat) (bs : Bytes) : (s.writeRegion off bs).meter = s.meter := by rfl
@[simp] theorem State.writeRegion_ports (s : State) (off : Nat) (bs : Bytes) : (s.writeRegion off bs).ports = s.ports := by rfl
@[simp] theorem State.writeRegion_net (s : State) (off : Nat) (bs : Bytes) : (s.writeRegion off bs).net = s.net := by rfl
@[simp] theorem State.writeRegion_fns (s : State) (off : Nat) (bs : Bytes) : (s.writeRegion off bs).fns = s.fns := by rfl
@[simp] theorem State.writeRegion_ecc (s : State) (off : Nat) (bs : Bytes) : (s.writeRegion off bs).ecc = s.ecc := by rfl
@[simp] theorem State.writeRegion_queues (s : State) (off : Nat) (bs : Bytes) : (s.writeRegion off bs).queues = s.queues := by rfl
@[simp] theorem State.writeRegion_group (s : State) (off : Nat) (bs : Bytes) : (s.writeRegion off bs).group = s.group := by rfl
@[simp] theorem State.writeRegion_update (s : State) (off : Nat) (bs : Bytes) : (s.writeRegion off bs).update = s.update := by rfl
@[simp] theorem State.writeRegion_secure (s : State) (off : Nat) (bs : Bytes) : (s.writeRegion off bs).secure = s.secure := by rfl
@[simp] theorem State.writeRegion_power (s : State) (off : Nat) (bs : Bytes) : (s.writeRegion off bs).power = s.power := by rfl
@[simp] theorem State.writeRegion_mem (s : State) (off : Nat) (bs : Bytes) : (s.writeRegion off bs).mem = memWriteBytes s.mem off bs := by rfl
@[simp] theorem State.writeRegion_freeCtr (s : State) (off : Nat) (bs : Bytes) : (s.writeRegion off bs).freeCtr = s.freeCtr := by rfl
@[simp] theorem State.writeRegion_out (s : State) (off : Nat) (bs : Bytes) : (s.writeRegion off bs).out = s.out := by rfl
@[simp] theorem State.writeRegion_pending (s : State) (off : Nat) (bs : Bytes) : (s.writeRegion off bs).pending = s.pending := by rfl

@[simp] theorem State.setMbx_host (s : State) (m : Nat) (b : Mailbox) : (s.setMbx m b).host = { s.host with mbx := s.host.mbx.put m b } := by rfl
@[simp] theorem State.setMbx_txn (s : State) (m : Nat) (b : Mailbox) : (s.setMbx m b).txn = s.txn := by rfl
@[simp] theorem State.setMbx_clock (s : State) (m : Nat) (b : Mailbox) : (s.setMbx m b).clock = s.clock := by rfl
@[simp] theorem State.setMbx_time (s : State) (m : Nat) (b : Mailbox) : (s.setMbx m b).time = s.time := by rfl
@[simp] theorem State.setMbx_icu (s : State) (m : Nat) (b : Mailbox) : (s.setMbx m b).icu = s.icu := by rfl
@[simp] theorem State.setMbx_render (s : State) (m : Nat) (b : Mailbox) : (s.setMbx m b).render = s.render := by rfl
@[simp] theorem State.setMbx_inputs (s : State) (m : Nat) (b : Mailbox) : (s.setMbx m b).inputs = s.inputs := by rfl
@[simp] theorem State.setMbx_meter (s : State) (m : Nat) (b : Mailbox) : (s.setMbx m b).meter = s.meter := by rfl
@[simp] theorem State.setMbx_ports (s : State) (m : Nat) (b : Mailbox) : (s.setMbx m b).ports = s.ports := by rfl
@[simp] theorem State.setMbx_net (s : State) (m : Nat) (b : Mailbox) : (s.setMbx m b).net = s.net := by rfl
@[simp] theorem State.setMbx_fns (s : State) (m : Nat) (b : Mailbox) : (s.setMbx m b).fns = s.fns := by rfl
@[simp] theorem State.setMbx_ecc (s : State) (m : Nat) (b : Mailbox) : (s.setMbx m b).ecc = s.ecc := by rfl
@[simp] theorem State.setMbx_queues (s : State) (m : Nat) (b : Mailbox) : (s.setMbx m b).queues = s.queues := by rfl
@[simp] theorem State.setMbx_group (s : State) (m : Nat) (b : Mailbox) : (s.setMbx m b).group = s.group := by rfl
@[simp] theorem State.setMbx_update (s : State) (m : Nat) (b : Mailbox) : (s.setMbx m b).update = s.update := by rfl
@[simp] theorem State.setMbx_secure (s : State) (m : Nat) (b : Mailbox) : (s.setMbx m b).secure = s.secure := by rfl
@[simp] theorem State.setMbx_power (s : State) (m : Nat) (b : Mailbox) : (s.setMbx m b).power = s.power := by rfl
@[simp] theorem State.setMbx_mem (s : State) (m : Nat) (b : Mailbox) : (s.setMbx m b).mem = s.mem := by rfl
@[simp] theorem State.setMbx_freeCtr (s : State) (m : Nat) (b : Mailbox) : (s.setMbx m b).freeCtr = s.freeCtr := by rfl
@[simp] theorem State.setMbx_out (s : State) (m : Nat) (b : Mailbox) : (s.setMbx m b).out = s.out := by rfl
@[simp] theorem State.setMbx_pending (s : State) (m : Nat) (b : Mailbox) : (s.setMbx m b).pending = s.pending := by rfl

@[simp] theorem State.setRing_host (s : State) (r : Nat) (x : Ring) : (s.setRing r x).host = { s.host with rings := s.host.rings.put r x } := by rfl
@[simp] theorem State.setRing_txn (s : State) (r : Nat) (x : Ring) : (s.setRing r x).txn = s.txn := by rfl
@[simp] theorem State.setRing_clock (s : State) (r : Nat) (x : Ring) : (s.setRing r x).clock = s.clock := by rfl
@[simp] theorem State.setRing_time (s : State) (r : Nat) (x : Ring) : (s.setRing r x).time = s.time := by rfl
@[simp] theorem State.setRing_icu (s : State) (r : Nat) (x : Ring) : (s.setRing r x).icu = s.icu := by rfl
@[simp] theorem State.setRing_render (s : State) (r : Nat) (x : Ring) : (s.setRing r x).render = s.render := by rfl
@[simp] theorem State.setRing_inputs (s : State) (r : Nat) (x : Ring) : (s.setRing r x).inputs = s.inputs := by rfl
@[simp] theorem State.setRing_meter (s : State) (r : Nat) (x : Ring) : (s.setRing r x).meter = s.meter := by rfl
@[simp] theorem State.setRing_ports (s : State) (r : Nat) (x : Ring) : (s.setRing r x).ports = s.ports := by rfl
@[simp] theorem State.setRing_net (s : State) (r : Nat) (x : Ring) : (s.setRing r x).net = s.net := by rfl
@[simp] theorem State.setRing_fns (s : State) (r : Nat) (x : Ring) : (s.setRing r x).fns = s.fns := by rfl
@[simp] theorem State.setRing_ecc (s : State) (r : Nat) (x : Ring) : (s.setRing r x).ecc = s.ecc := by rfl
@[simp] theorem State.setRing_queues (s : State) (r : Nat) (x : Ring) : (s.setRing r x).queues = s.queues := by rfl
@[simp] theorem State.setRing_group (s : State) (r : Nat) (x : Ring) : (s.setRing r x).group = s.group := by rfl
@[simp] theorem State.setRing_update (s : State) (r : Nat) (x : Ring) : (s.setRing r x).update = s.update := by rfl
@[simp] theorem State.setRing_secure (s : State) (r : Nat) (x : Ring) : (s.setRing r x).secure = s.secure := by rfl
@[simp] theorem State.setRing_power (s : State) (r : Nat) (x : Ring) : (s.setRing r x).power = s.power := by rfl
@[simp] theorem State.setRing_mem (s : State) (r : Nat) (x : Ring) : (s.setRing r x).mem = s.mem := by rfl
@[simp] theorem State.setRing_freeCtr (s : State) (r : Nat) (x : Ring) : (s.setRing r x).freeCtr = s.freeCtr := by rfl
@[simp] theorem State.setRing_out (s : State) (r : Nat) (x : Ring) : (s.setRing r x).out = s.out := by rfl
@[simp] theorem State.setRing_pending (s : State) (r : Nat) (x : Ring) : (s.setRing r x).pending = s.pending := by rfl

@[simp] theorem State.setClock_host (s : State) (c : ClockState) : (s.setClock c).host = s.host := by rfl
@[simp] theorem State.setClock_txn (s : State) (c : ClockState) : (s.setClock c).txn = s.txn := by rfl
@[simp] theorem State.setClock_clock (s : State) (c : ClockState) : (s.setClock c).clock = c := by rfl
@[simp] theorem State.setClock_time (s : State) (c : ClockState) : (s.setClock c).time = s.time := by rfl
@[simp] theorem State.setClock_icu (s : State) (c : ClockState) : (s.setClock c).icu = s.icu := by rfl
@[simp] theorem State.setClock_render (s : State) (c : ClockState) : (s.setClock c).render = s.render := by rfl
@[simp] theorem State.setClock_inputs (s : State) (c : ClockState) : (s.setClock c).inputs = s.inputs := by rfl
@[simp] theorem State.setClock_meter (s : State) (c : ClockState) : (s.setClock c).meter = s.meter := by rfl
@[simp] theorem State.setClock_ports (s : State) (c : ClockState) : (s.setClock c).ports = s.ports := by rfl
@[simp] theorem State.setClock_net (s : State) (c : ClockState) : (s.setClock c).net = s.net := by rfl
@[simp] theorem State.setClock_fns (s : State) (c : ClockState) : (s.setClock c).fns = s.fns := by rfl
@[simp] theorem State.setClock_ecc (s : State) (c : ClockState) : (s.setClock c).ecc = s.ecc := by rfl
@[simp] theorem State.setClock_queues (s : State) (c : ClockState) : (s.setClock c).queues = s.queues := by rfl
@[simp] theorem State.setClock_group (s : State) (c : ClockState) : (s.setClock c).group = s.group := by rfl
@[simp] theorem State.setClock_update (s : State) (c : ClockState) : (s.setClock c).update = s.update := by rfl
@[simp] theorem State.setClock_secure (s : State) (c : ClockState) : (s.setClock c).secure = s.secure := by rfl
@[simp] theorem State.setClock_power (s : State) (c : ClockState) : (s.setClock c).power = s.power := by rfl
@[simp] theorem State.setClock_mem (s : State) (c : ClockState) : (s.setClock c).mem = s.mem := by rfl
@[simp] theorem State.setClock_freeCtr (s : State) (c : ClockState) : (s.setClock c).freeCtr = s.freeCtr := by rfl
@[simp] theorem State.setClock_out (s : State) (c : ClockState) : (s.setClock c).out = s.out := by rfl
@[simp] theorem State.setClock_pending (s : State) (c : ClockState) : (s.setClock c).pending = s.pending := by rfl

@[simp] theorem State.setDyn_host (s : State) (d : DynState) : (s.setDyn d).host = s.host := by rfl
@[simp] theorem State.setDyn_txn (s : State) (d : DynState) : (s.setDyn d).txn = s.txn := by rfl
@[simp] theorem State.setDyn_clock (s : State) (d : DynState) : (s.setDyn d).clock = s.clock := by rfl
@[simp] theorem State.setDyn_time (s : State) (d : DynState) : (s.setDyn d).time = s.time := by rfl
@[simp] theorem State.setDyn_icu (s : State) (d : DynState) : (s.setDyn d).icu = s.icu := by rfl
@[simp] theorem State.setDyn_render (s : State) (d : DynState) : (s.setDyn d).render = { s.render with dyn := d } := by rfl
@[simp] theorem State.setDyn_inputs (s : State) (d : DynState) : (s.setDyn d).inputs = s.inputs := by rfl
@[simp] theorem State.setDyn_meter (s : State) (d : DynState) : (s.setDyn d).meter = s.meter := by rfl
@[simp] theorem State.setDyn_ports (s : State) (d : DynState) : (s.setDyn d).ports = s.ports := by rfl
@[simp] theorem State.setDyn_net (s : State) (d : DynState) : (s.setDyn d).net = s.net := by rfl
@[simp] theorem State.setDyn_fns (s : State) (d : DynState) : (s.setDyn d).fns = s.fns := by rfl
@[simp] theorem State.setDyn_ecc (s : State) (d : DynState) : (s.setDyn d).ecc = s.ecc := by rfl
@[simp] theorem State.setDyn_queues (s : State) (d : DynState) : (s.setDyn d).queues = s.queues := by rfl
@[simp] theorem State.setDyn_group (s : State) (d : DynState) : (s.setDyn d).group = s.group := by rfl
@[simp] theorem State.setDyn_update (s : State) (d : DynState) : (s.setDyn d).update = s.update := by rfl
@[simp] theorem State.setDyn_secure (s : State) (d : DynState) : (s.setDyn d).secure = s.secure := by rfl
@[simp] theorem State.setDyn_power (s : State) (d : DynState) : (s.setDyn d).power = s.power := by rfl
@[simp] theorem State.setDyn_mem (s : State) (d : DynState) : (s.setDyn d).mem = s.mem := by rfl
@[simp] theorem State.setDyn_freeCtr (s : State) (d : DynState) : (s.setDyn d).freeCtr = s.freeCtr := by rfl
@[simp] theorem State.setDyn_out (s : State) (d : DynState) : (s.setDyn d).out = s.out := by rfl
@[simp] theorem State.setDyn_pending (s : State) (d : DynState) : (s.setDyn d).pending = s.pending := by rfl

@[simp] theorem State.setUpdate_host (s : State) (u : UpdateState) : (s.setUpdate u).host = s.host := by rfl
@[simp] theorem State.setUpdate_txn (s : State) (u : UpdateState) : (s.setUpdate u).txn = s.txn := by rfl
@[simp] theorem State.setUpdate_clock (s : State) (u : UpdateState) : (s.setUpdate u).clock = s.clock := by rfl
@[simp] theorem State.setUpdate_time (s : State) (u : UpdateState) : (s.setUpdate u).time = s.time := by rfl
@[simp] theorem State.setUpdate_icu (s : State) (u : UpdateState) : (s.setUpdate u).icu = s.icu := by rfl
@[simp] theorem State.setUpdate_render (s : State) (u : UpdateState) : (s.setUpdate u).render = s.render := by rfl
@[simp] theorem State.setUpdate_inputs (s : State) (u : UpdateState) : (s.setUpdate u).inputs = s.inputs := by rfl
@[simp] theorem State.setUpdate_meter (s : State) (u : UpdateState) : (s.setUpdate u).meter = s.meter := by rfl
@[simp] theorem State.setUpdate_ports (s : State) (u : UpdateState) : (s.setUpdate u).ports = s.ports := by rfl
@[simp] theorem State.setUpdate_net (s : State) (u : UpdateState) : (s.setUpdate u).net = s.net := by rfl
@[simp] theorem State.setUpdate_fns (s : State) (u : UpdateState) : (s.setUpdate u).fns = s.fns := by rfl
@[simp] theorem State.setUpdate_ecc (s : State) (u : UpdateState) : (s.setUpdate u).ecc = s.ecc := by rfl
@[simp] theorem State.setUpdate_queues (s : State) (u : UpdateState) : (s.setUpdate u).queues = s.queues := by rfl
@[simp] theorem State.setUpdate_group (s : State) (u : UpdateState) : (s.setUpdate u).group = s.group := by rfl
@[simp] theorem State.setUpdate_update (s : State) (u : UpdateState) : (s.setUpdate u).update = u := by rfl
@[simp] theorem State.setUpdate_secure (s : State) (u : UpdateState) : (s.setUpdate u).secure = s.secure := by rfl
@[simp] theorem State.setUpdate_power (s : State) (u : UpdateState) : (s.setUpdate u).power = s.power := by rfl
@[simp] theorem State.setUpdate_mem (s : State) (u : UpdateState) : (s.setUpdate u).mem = s.mem := by rfl
@[simp] theorem State.setUpdate_freeCtr (s : State) (u : UpdateState) : (s.setUpdate u).freeCtr = s.freeCtr := by rfl
@[simp] theorem State.setUpdate_out (s : State) (u : UpdateState) : (s.setUpdate u).out = s.out := by rfl
@[simp] theorem State.setUpdate_pending (s : State) (u : UpdateState) : (s.setUpdate u).pending = s.pending := by rfl

@[simp] theorem State.setCot_host (s : State) (c : Cotillion) : (s.setCot c).host = s.host := by rfl
@[simp] theorem State.setCot_txn (s : State) (c : Cotillion) : (s.setCot c).txn = s.txn := by rfl
@[simp] theorem State.setCot_clock (s : State) (c : Cotillion) : (s.setCot c).clock = s.clock := by rfl
@[simp] theorem State.setCot_time (s : State) (c : Cotillion) : (s.setCot c).time = s.time := by rfl
@[simp] theorem State.setCot_icu (s : State) (c : Cotillion) : (s.setCot c).icu = s.icu := by rfl
@[simp] theorem State.setCot_render (s : State) (c : Cotillion) : (s.setCot c).render = s.render := by rfl
@[simp] theorem State.setCot_inputs (s : State) (c : Cotillion) : (s.setCot c).inputs = s.inputs := by rfl
@[simp] theorem State.setCot_meter (s : State) (c : Cotillion) : (s.setCot c).meter = s.meter := by rfl
@[simp] theorem State.setCot_ports (s : State) (c : Cotillion) : (s.setCot c).ports = s.ports := by rfl
@[simp] theorem State.setCot_net (s : State) (c : Cotillion) : (s.setCot c).net = s.net := by rfl
@[simp] theorem State.setCot_fns (s : State) (c : Cotillion) : (s.setCot c).fns = s.fns := by rfl
@[simp] theorem State.setCot_ecc (s : State) (c : Cotillion) : (s.setCot c).ecc = s.ecc := by rfl
@[simp] theorem State.setCot_queues (s : State) (c : Cotillion) : (s.setCot c).queues = s.queues := by rfl
@[simp] theorem State.setCot_group (s : State) (c : Cotillion) : (s.setCot c).group = { s.group with cot := c } := by rfl
@[simp] theorem State.setCot_update (s : State) (c : Cotillion) : (s.setCot c).update = s.update := by rfl
@[simp] theorem State.setCot_secure (s : State) (c : Cotillion) : (s.setCot c).secure = s.secure := by rfl
@[simp] theorem State.setCot_power (s : State) (c : Cotillion) : (s.setCot c).power = s.power := by rfl
@[simp] theorem State.setCot_mem (s : State) (c : Cotillion) : (s.setCot c).mem = s.mem := by rfl
@[simp] theorem State.setCot_freeCtr (s : State) (c : Cotillion) : (s.setCot c).freeCtr = s.freeCtr := by rfl
@[simp] theorem State.setCot_out (s : State) (c : Cotillion) : (s.setCot c).out = s.out := by rfl
@[simp] theorem State.setCot_pending (s : State) (c : Cotillion) : (s.setCot c).pending = s.pending := by rfl

@[simp] theorem State.setReader_host (s : State) (r : ReaderState) : (s.setReader r).host = s.host := by rfl
@[simp] theorem State.setReader_txn (s : State) (r : ReaderState) : (s.setReader r).txn = s.txn := by rfl
@[simp] theorem State.setReader_clock (s : State) (r : ReaderState) : (s.setReader r).clock = s.clock := by rfl
@[simp] theorem State.setReader_time (s : State) (r : ReaderState) : (s.setReader r).time = s.time := by rfl
@[simp] theorem State.setReader_icu (s : State) (r : ReaderState) : (s.setReader r).icu = s.icu := by rfl
@[simp] theorem State.setReader_render (s : State) (r : ReaderState) : (s.setReader r).render = { s.render with reader := r } := by rfl
@[simp] theorem State.setReader_inputs (s : State) (r : ReaderState) : (s.setReader r).inputs = s.inputs := by rfl
@[simp] theorem State.setReader_meter (s : State) (r : ReaderState) : (s.setReader r).meter = s.meter := by rfl
@[simp] theorem State.setReader_ports (s : State) (r : ReaderState) : (s.setReader r).ports = s.ports := by rfl
@[simp] theorem State.setReader_net (s : State) (r : ReaderState) : (s.setReader r).net = s.net := by rfl
@[simp] theorem State.setReader_fns (s : State) (r : ReaderState) : (s.setReader r).fns = s.fns := by rfl
@[simp] theorem State.setReader_ecc (s : State) (r : ReaderState) : (s.setReader r).ecc = s.ecc := by rfl
@[simp] theorem State.setReader_queues (s : State) (r : ReaderState) : (s.setReader r).queues = s.queues := by rfl
@[simp] theorem State.setReader_group (s : State) (r : ReaderState) : (s.setReader r).group = s.group := by rfl
@[simp] theorem State.setReader_update (s : State) (r : ReaderState) : (s.setReader r).update = s.update := by rfl
@[simp] theorem State.setReader_secure (s : State) (r : ReaderState) : (s.setReader r).secure = s.secure := by rfl
@[simp] theorem State.setReader_power (s : State) (r : ReaderState) : (s.setReader r).power = s.power := by rfl
@[simp] theorem State.setReader_mem (s : State) (r : ReaderState) : (s.setReader r).mem = s.mem := by rfl
@[simp] theorem State.setReader_freeCtr (s : State) (r : ReaderState) : (s.setReader r).freeCtr = s.freeCtr := by rfl
@[simp] theorem State.setReader_out (s : State) (r : ReaderState) : (s.setReader r).out = s.out := by rfl
@[simp] theorem State.setReader_pending (s : State) (r : ReaderState) : (s.setReader r).pending = s.pending := by rfl

@[simp] theorem State.setRun_host (s : State) (n : Nat) (d : DigestRun) : (s.setRun n d).host = s.host := by rfl
@[simp] theorem State.setRun_txn (s : State) (n : Nat) (d : DigestRun) : (s.setRun n d).txn = s.txn := by rfl
@[simp] theorem State.setRun_clock (s : State) (n : Nat) (d : DigestRun) : (s.setRun n d).clock = s.clock := by rfl
@[simp] theorem State.setRun_time (s : State) (n : Nat) (d : DigestRun) : (s.setRun n d).time = s.time := by rfl
@[simp] theorem State.setRun_icu (s : State) (n : Nat) (d : DigestRun) : (s.setRun n d).icu = s.icu := by rfl
@[simp] theorem State.setRun_render (s : State) (n : Nat) (d : DigestRun) : (s.setRun n d).render = s.render := by rfl
@[simp] theorem State.setRun_inputs (s : State) (n : Nat) (d : DigestRun) : (s.setRun n d).inputs = s.inputs := by rfl
@[simp] theorem State.setRun_meter (s : State) (n : Nat) (d : DigestRun) : (s.setRun n d).meter = s.meter := by rfl
@[simp] theorem State.setRun_ports (s : State) (n : Nat) (d : DigestRun) : (s.setRun n d).ports = s.ports := by rfl
@[simp] theorem State.setRun_net (s : State) (n : Nat) (d : DigestRun) : (s.setRun n d).net = s.net := by rfl
@[simp] theorem State.setRun_fns (s : State) (n : Nat) (d : DigestRun) : (s.setRun n d).fns = s.fns := by rfl
@[simp] theorem State.setRun_ecc (s : State) (n : Nat) (d : DigestRun) : (s.setRun n d).ecc = s.ecc := by rfl
@[simp] theorem State.setRun_queues (s : State) (n : Nat) (d : DigestRun) : (s.setRun n d).queues = s.queues := by rfl
@[simp] theorem State.setRun_group (s : State) (n : Nat) (d : DigestRun) :
    (s.setRun n d).group = { s.group with runs := s.group.runs.put n d } := by rfl
@[simp] theorem State.setRun_update (s : State) (n : Nat) (d : DigestRun) : (s.setRun n d).update = s.update := by rfl
@[simp] theorem State.setRun_secure (s : State) (n : Nat) (d : DigestRun) : (s.setRun n d).secure = s.secure := by rfl
@[simp] theorem State.setRun_power (s : State) (n : Nat) (d : DigestRun) : (s.setRun n d).power = s.power := by rfl
@[simp] theorem State.setRun_mem (s : State) (n : Nat) (d : DigestRun) : (s.setRun n d).mem = s.mem := by rfl
@[simp] theorem State.setRun_freeCtr (s : State) (n : Nat) (d : DigestRun) : (s.setRun n d).freeCtr = s.freeCtr := by rfl
@[simp] theorem State.setRun_out (s : State) (n : Nat) (d : DigestRun) : (s.setRun n d).out = s.out := by rfl
@[simp] theorem State.setRun_pending (s : State) (n : Nat) (d : DigestRun) : (s.setRun n d).pending = s.pending := by rfl

@[simp] theorem State.setTe_host (s : State) (i : Nat) (d : TeDyn) : (s.setTe i d).host = s.host := by rfl
@[simp] theorem State.setTe_txn (s : State) (i : Nat) (d : TeDyn) : (s.setTe i d).txn = s.txn := by rfl
@[simp] theorem State.setTe_clock (s : State) (i : Nat) (d : TeDyn) : (s.setTe i d).clock = s.clock := by rfl
@[simp] theorem State.setTe_time (s : State) (i : Nat) (d : TeDyn) : (s.setTe i d).time = s.time := by rfl
@[simp] theorem State.setTe_icu (s : State) (i : Nat) (d : TeDyn) : (s.setTe i d).icu = s.icu := by rfl
@[simp] theorem State.setTe_render (s : State) (i : Nat) (d : TeDyn) : (s.setTe i d).render = s.render := by rfl
@[simp] theorem State.setTe_inputs (s : State) (i : Nat) (d : TeDyn) : (s.setTe i d).inputs = s.inputs := by rfl
@[simp] theorem State.setTe_meter (s : State) (i : Nat) (d : TeDyn) : (s.setTe i d).meter = s.meter := by rfl
@[simp] theorem State.setTe_ports (s : State) (i : Nat) (d : TeDyn) : (s.setTe i d).ports = { s.ports with te := s.ports.te.put i d } := by rfl
@[simp] theorem State.setTe_net (s : State) (i : Nat) (d : TeDyn) : (s.setTe i d).net = s.net := by rfl
@[simp] theorem State.setTe_fns (s : State) (i : Nat) (d : TeDyn) : (s.setTe i d).fns = s.fns := by rfl
@[simp] theorem State.setTe_ecc (s : State) (i : Nat) (d : TeDyn) : (s.setTe i d).ecc = s.ecc := by rfl
@[simp] theorem State.setTe_queues (s : State) (i : Nat) (d : TeDyn) : (s.setTe i d).queues = s.queues := by rfl
@[simp] theorem State.setTe_group (s : State) (i : Nat) (d : TeDyn) : (s.setTe i d).group = s.group := by rfl
@[simp] theorem State.setTe_update (s : State) (i : Nat) (d : TeDyn) : (s.setTe i d).update = s.update := by rfl
@[simp] theorem State.setTe_secure (s : State) (i : Nat) (d : TeDyn) : (s.setTe i d).secure = s.secure := by rfl
@[simp] theorem State.setTe_power (s : State) (i : Nat) (d : TeDyn) : (s.setTe i d).power = s.power := by rfl
@[simp] theorem State.setTe_mem (s : State) (i : Nat) (d : TeDyn) : (s.setTe i d).mem = s.mem := by rfl
@[simp] theorem State.setTe_freeCtr (s : State) (i : Nat) (d : TeDyn) : (s.setTe i d).freeCtr = s.freeCtr := by rfl
@[simp] theorem State.setTe_out (s : State) (i : Nat) (d : TeDyn) : (s.setTe i d).out = s.out := by rfl
@[simp] theorem State.setTe_pending (s : State) (i : Nat) (d : TeDyn) : (s.setTe i d).pending = s.pending := by rfl

@[simp] theorem State.setDisplay_host (s : State) (d : DisplayDyn) : (s.setDisplay d).host = s.host := by rfl
@[simp] theorem State.setDisplay_txn (s : State) (d : DisplayDyn) : (s.setDisplay d).txn = s.txn := by rfl
@[simp] theorem State.setDisplay_clock (s : State) (d : DisplayDyn) : (s.setDisplay d).clock = s.clock := by rfl
@[simp] theorem State.setDisplay_time (s : State) (d : DisplayDyn) : (s.setDisplay d).time = s.time := by rfl
@[simp] theorem State.setDisplay_icu (s : State) (d : DisplayDyn) : (s.setDisplay d).icu = s.icu := by rfl
@[simp] theorem State.setDisplay_render (s : State) (d : DisplayDyn) : (s.setDisplay d).render = s.render := by rfl
@[simp] theorem State.setDisplay_inputs (s : State) (d : DisplayDyn) : (s.setDisplay d).inputs = s.inputs := by rfl
@[simp] theorem State.setDisplay_meter (s : State) (d : DisplayDyn) : (s.setDisplay d).meter = s.meter := by rfl
@[simp] theorem State.setDisplay_ports (s : State) (d : DisplayDyn) : (s.setDisplay d).ports = { s.ports with display := d } := by rfl
@[simp] theorem State.setDisplay_net (s : State) (d : DisplayDyn) : (s.setDisplay d).net = s.net := by rfl
@[simp] theorem State.setDisplay_fns (s : State) (d : DisplayDyn) : (s.setDisplay d).fns = s.fns := by rfl
@[simp] theorem State.setDisplay_ecc (s : State) (d : DisplayDyn) : (s.setDisplay d).ecc = s.ecc := by rfl
@[simp] theorem State.setDisplay_queues (s : State) (d : DisplayDyn) : (s.setDisplay d).queues = s.queues := by rfl
@[simp] theorem State.setDisplay_group (s : State) (d : DisplayDyn) : (s.setDisplay d).group = s.group := by rfl
@[simp] theorem State.setDisplay_update (s : State) (d : DisplayDyn) : (s.setDisplay d).update = s.update := by rfl
@[simp] theorem State.setDisplay_secure (s : State) (d : DisplayDyn) : (s.setDisplay d).secure = s.secure := by rfl
@[simp] theorem State.setDisplay_power (s : State) (d : DisplayDyn) : (s.setDisplay d).power = s.power := by rfl
@[simp] theorem State.setDisplay_mem (s : State) (d : DisplayDyn) : (s.setDisplay d).mem = s.mem := by rfl
@[simp] theorem State.setDisplay_freeCtr (s : State) (d : DisplayDyn) : (s.setDisplay d).freeCtr = s.freeCtr := by rfl
@[simp] theorem State.setDisplay_out (s : State) (d : DisplayDyn) : (s.setDisplay d).out = s.out := by rfl
@[simp] theorem State.setDisplay_pending (s : State) (d : DisplayDyn) : (s.setDisplay d).pending = s.pending := by rfl

@[simp] theorem State.setPwm_host (s : State) (j : Nat) (d : PwmDyn) : (s.setPwm j d).host = s.host := by rfl
@[simp] theorem State.setPwm_txn (s : State) (j : Nat) (d : PwmDyn) : (s.setPwm j d).txn = s.txn := by rfl
@[simp] theorem State.setPwm_clock (s : State) (j : Nat) (d : PwmDyn) : (s.setPwm j d).clock = s.clock := by rfl
@[simp] theorem State.setPwm_time (s : State) (j : Nat) (d : PwmDyn) : (s.setPwm j d).time = s.time := by rfl
@[simp] theorem State.setPwm_icu (s : State) (j : Nat) (d : PwmDyn) : (s.setPwm j d).icu = s.icu := by rfl
@[simp] theorem State.setPwm_render (s : State) (j : Nat) (d : PwmDyn) : (s.setPwm j d).render = s.render := by rfl
@[simp] theorem State.setPwm_inputs (s : State) (j : Nat) (d : PwmDyn) : (s.setPwm j d).inputs = s.inputs := by rfl
@[simp] theorem State.setPwm_meter (s : State) (j : Nat) (d : PwmDyn) : (s.setPwm j d).meter = s.meter := by rfl
@[simp] theorem State.setPwm_ports (s : State) (j : Nat) (d : PwmDyn) : (s.setPwm j d).ports = { s.ports with pwm := s.ports.pwm.put j d } := by rfl
@[simp] theorem State.setPwm_net (s : State) (j : Nat) (d : PwmDyn) : (s.setPwm j d).net = s.net := by rfl
@[simp] theorem State.setPwm_fns (s : State) (j : Nat) (d : PwmDyn) : (s.setPwm j d).fns = s.fns := by rfl
@[simp] theorem State.setPwm_ecc (s : State) (j : Nat) (d : PwmDyn) : (s.setPwm j d).ecc = s.ecc := by rfl
@[simp] theorem State.setPwm_queues (s : State) (j : Nat) (d : PwmDyn) : (s.setPwm j d).queues = s.queues := by rfl
@[simp] theorem State.setPwm_group (s : State) (j : Nat) (d : PwmDyn) : (s.setPwm j d).group = s.group := by rfl
@[simp] theorem State.setPwm_update (s : State) (j : Nat) (d : PwmDyn) : (s.setPwm j d).update = s.update := by rfl
@[simp] theorem State.setPwm_secure (s : State) (j : Nat) (d : PwmDyn) : (s.setPwm j d).secure = s.secure := by rfl
@[simp] theorem State.setPwm_power (s : State) (j : Nat) (d : PwmDyn) : (s.setPwm j d).power = s.power := by rfl
@[simp] theorem State.setPwm_mem (s : State) (j : Nat) (d : PwmDyn) : (s.setPwm j d).mem = s.mem := by rfl
@[simp] theorem State.setPwm_freeCtr (s : State) (j : Nat) (d : PwmDyn) : (s.setPwm j d).freeCtr = s.freeCtr := by rfl
@[simp] theorem State.setPwm_out (s : State) (j : Nat) (d : PwmDyn) : (s.setPwm j d).out = s.out := by rfl
@[simp] theorem State.setPwm_pending (s : State) (j : Nat) (d : PwmDyn) : (s.setPwm j d).pending = s.pending := by rfl

@[simp] theorem State.setFn_host (s : State) (id : Nat) (f : FnRec) : (s.setFn id f).host = s.host := by rfl
@[simp] theorem State.setFn_txn (s : State) (id : Nat) (f : FnRec) : (s.setFn id f).txn = s.txn := by rfl
@[simp] theorem State.setFn_clock (s : State) (id : Nat) (f : FnRec) : (s.setFn id f).clock = s.clock := by rfl
@[simp] theorem State.setFn_time (s : State) (id : Nat) (f : FnRec) : (s.setFn id f).time = s.time := by rfl
@[simp] theorem State.setFn_icu (s : State) (id : Nat) (f : FnRec) : (s.setFn id f).icu = s.icu := by rfl
@[simp] theorem State.setFn_render (s : State) (id : Nat) (f : FnRec) : (s.setFn id f).render = s.render := by rfl
@[simp] theorem State.setFn_inputs (s : State) (id : Nat) (f : FnRec) : (s.setFn id f).inputs = s.inputs := by rfl
@[simp] theorem State.setFn_meter (s : State) (id : Nat) (f : FnRec) : (s.setFn id f).meter = s.meter := by rfl
@[simp] theorem State.setFn_ports (s : State) (id : Nat) (f : FnRec) : (s.setFn id f).ports = s.ports := by rfl
@[simp] theorem State.setFn_net (s : State) (id : Nat) (f : FnRec) : (s.setFn id f).net = s.net := by rfl
@[simp] theorem State.setFn_fns (s : State) (id : Nat) (f : FnRec) : (s.setFn id f).fns = s.fns.put id f := by rfl
@[simp] theorem State.setFn_ecc (s : State) (id : Nat) (f : FnRec) : (s.setFn id f).ecc = s.ecc := by rfl
@[simp] theorem State.setFn_queues (s : State) (id : Nat) (f : FnRec) : (s.setFn id f).queues = s.queues := by rfl
@[simp] theorem State.setFn_group (s : State) (id : Nat) (f : FnRec) : (s.setFn id f).group = s.group := by rfl
@[simp] theorem State.setFn_update (s : State) (id : Nat) (f : FnRec) : (s.setFn id f).update = s.update := by rfl
@[simp] theorem State.setFn_secure (s : State) (id : Nat) (f : FnRec) : (s.setFn id f).secure = s.secure := by rfl
@[simp] theorem State.setFn_power (s : State) (id : Nat) (f : FnRec) : (s.setFn id f).power = s.power := by rfl
@[simp] theorem State.setFn_mem (s : State) (id : Nat) (f : FnRec) : (s.setFn id f).mem = s.mem := by rfl
@[simp] theorem State.setFn_freeCtr (s : State) (id : Nat) (f : FnRec) : (s.setFn id f).freeCtr = s.freeCtr := by rfl
@[simp] theorem State.setFn_out (s : State) (id : Nat) (f : FnRec) : (s.setFn id f).out = s.out := by rfl
@[simp] theorem State.setFn_pending (s : State) (id : Nat) (f : FnRec) : (s.setFn id f).pending = s.pending := by rfl

@[simp] theorem State.setDmx_host (s : State) (j : Nat) (d : DmxDyn) : (s.setDmx j d).host = s.host := by rfl
@[simp] theorem State.setDmx_txn (s : State) (j : Nat) (d : DmxDyn) : (s.setDmx j d).txn = s.txn := by rfl
@[simp] theorem State.setDmx_clock (s : State) (j : Nat) (d : DmxDyn) : (s.setDmx j d).clock = s.clock := by rfl
@[simp] theorem State.setDmx_time (s : State) (j : Nat) (d : DmxDyn) : (s.setDmx j d).time = s.time := by rfl
@[simp] theorem State.setDmx_icu (s : State) (j : Nat) (d : DmxDyn) : (s.setDmx j d).icu = s.icu := by rfl
@[simp] theorem State.setDmx_render (s : State) (j : Nat) (d : DmxDyn) : (s.setDmx j d).render = s.render := by rfl
@[simp] theorem State.setDmx_inputs (s : State) (j : Nat) (d : DmxDyn) : (s.setDmx j d).inputs = s.inputs := by rfl
@[simp] theorem State.setDmx_meter (s : State) (j : Nat) (d : DmxDyn) : (s.setDmx j d).meter = s.meter := by rfl
@[simp] theorem State.setDmx_ports (s : State) (j : Nat) (d : DmxDyn) : (s.setDmx j d).ports = { s.ports with dmx := s.ports.dmx.put j d } := by rfl
@[simp] theorem State.setDmx_net (s : State) (j : Nat) (d : DmxDyn) : (s.setDmx j d).net = s.net := by rfl
@[simp] theorem State.setDmx_fns (s : State) (j : Nat) (d : DmxDyn) : (s.setDmx j d).fns = s.fns := by rfl
@[simp] theorem State.setDmx_ecc (s : State) (j : Nat) (d : DmxDyn) : (s.setDmx j d).ecc = s.ecc := by rfl
@[simp] theorem State.setDmx_queues (s : State) (j : Nat) (d : DmxDyn) : (s.setDmx j d).queues = s.queues := by rfl
@[simp] theorem State.setDmx_group (s : State) (j : Nat) (d : DmxDyn) : (s.setDmx j d).group = s.group := by rfl
@[simp] theorem State.setDmx_update (s : State) (j : Nat) (d : DmxDyn) : (s.setDmx j d).update = s.update := by rfl
@[simp] theorem State.setDmx_secure (s : State) (j : Nat) (d : DmxDyn) : (s.setDmx j d).secure = s.secure := by rfl
@[simp] theorem State.setDmx_power (s : State) (j : Nat) (d : DmxDyn) : (s.setDmx j d).power = s.power := by rfl
@[simp] theorem State.setDmx_mem (s : State) (j : Nat) (d : DmxDyn) : (s.setDmx j d).mem = s.mem := by rfl
@[simp] theorem State.setDmx_freeCtr (s : State) (j : Nat) (d : DmxDyn) : (s.setDmx j d).freeCtr = s.freeCtr := by rfl
@[simp] theorem State.setDmx_out (s : State) (j : Nat) (d : DmxDyn) : (s.setDmx j d).out = s.out := by rfl
@[simp] theorem State.setDmx_pending (s : State) (j : Nat) (d : DmxDyn) : (s.setDmx j d).pending = s.pending := by rfl

@[simp] theorem State.setPort_host (s : State) (p : Nat) (x : NetPort) : (s.setPort p x).host = s.host := by rfl
@[simp] theorem State.setPort_txn (s : State) (p : Nat) (x : NetPort) : (s.setPort p x).txn = s.txn := by rfl
@[simp] theorem State.setPort_clock (s : State) (p : Nat) (x : NetPort) : (s.setPort p x).clock = s.clock := by rfl
@[simp] theorem State.setPort_time (s : State) (p : Nat) (x : NetPort) : (s.setPort p x).time = s.time := by rfl
@[simp] theorem State.setPort_icu (s : State) (p : Nat) (x : NetPort) : (s.setPort p x).icu = s.icu := by rfl
@[simp] theorem State.setPort_render (s : State) (p : Nat) (x : NetPort) : (s.setPort p x).render = s.render := by rfl
@[simp] theorem State.setPort_inputs (s : State) (p : Nat) (x : NetPort) : (s.setPort p x).inputs = s.inputs := by rfl
@[simp] theorem State.setPort_meter (s : State) (p : Nat) (x : NetPort) : (s.setPort p x).meter = s.meter := by rfl
@[simp] theorem State.setPort_ports (s : State) (p : Nat) (x : NetPort) : (s.setPort p x).ports = s.ports := by rfl
@[simp] theorem State.setPort_net (s : State) (p : Nat) (x : NetPort) : (s.setPort p x).net = { s.net with ports := s.net.ports.put p x } := by rfl
@[simp] theorem State.setPort_fns (s : State) (p : Nat) (x : NetPort) : (s.setPort p x).fns = s.fns := by rfl
@[simp] theorem State.setPort_ecc (s : State) (p : Nat) (x : NetPort) : (s.setPort p x).ecc = s.ecc := by rfl
@[simp] theorem State.setPort_queues (s : State) (p : Nat) (x : NetPort) : (s.setPort p x).queues = s.queues := by rfl
@[simp] theorem State.setPort_group (s : State) (p : Nat) (x : NetPort) : (s.setPort p x).group = s.group := by rfl
@[simp] theorem State.setPort_update (s : State) (p : Nat) (x : NetPort) : (s.setPort p x).update = s.update := by rfl
@[simp] theorem State.setPort_secure (s : State) (p : Nat) (x : NetPort) : (s.setPort p x).secure = s.secure := by rfl
@[simp] theorem State.setPort_power (s : State) (p : Nat) (x : NetPort) : (s.setPort p x).power = s.power := by rfl
@[simp] theorem State.setPort_mem (s : State) (p : Nat) (x : NetPort) : (s.setPort p x).mem = s.mem := by rfl
@[simp] theorem State.setPort_freeCtr (s : State) (p : Nat) (x : NetPort) : (s.setPort p x).freeCtr = s.freeCtr := by rfl
@[simp] theorem State.setPort_out (s : State) (p : Nat) (x : NetPort) : (s.setPort p x).out = s.out := by rfl
@[simp] theorem State.setPort_pending (s : State) (p : Nat) (x : NetPort) : (s.setPort p x).pending = s.pending := by rfl

@[simp] theorem State.withMeter_host (s : State) (m : MeterState) : (s.withMeter m).host = s.host := by rfl
@[simp] theorem State.withMeter_txn (s : State) (m : MeterState) : (s.withMeter m).txn = s.txn := by rfl
@[simp] theorem State.withMeter_clock (s : State) (m : MeterState) : (s.withMeter m).clock = s.clock := by rfl
@[simp] theorem State.withMeter_time (s : State) (m : MeterState) : (s.withMeter m).time = s.time := by rfl
@[simp] theorem State.withMeter_icu (s : State) (m : MeterState) : (s.withMeter m).icu = s.icu := by rfl
@[simp] theorem State.withMeter_render (s : State) (m : MeterState) : (s.withMeter m).render = s.render := by rfl
@[simp] theorem State.withMeter_inputs (s : State) (m : MeterState) : (s.withMeter m).inputs = s.inputs := by rfl
@[simp] theorem State.withMeter_meter (s : State) (m : MeterState) : (s.withMeter m).meter = m := by rfl
@[simp] theorem State.withMeter_ports (s : State) (m : MeterState) : (s.withMeter m).ports = s.ports := by rfl
@[simp] theorem State.withMeter_net (s : State) (m : MeterState) : (s.withMeter m).net = s.net := by rfl
@[simp] theorem State.withMeter_fns (s : State) (m : MeterState) : (s.withMeter m).fns = s.fns := by rfl
@[simp] theorem State.withMeter_ecc (s : State) (m : MeterState) : (s.withMeter m).ecc = s.ecc := by rfl
@[simp] theorem State.withMeter_queues (s : State) (m : MeterState) : (s.withMeter m).queues = s.queues := by rfl
@[simp] theorem State.withMeter_group (s : State) (m : MeterState) : (s.withMeter m).group = s.group := by rfl
@[simp] theorem State.withMeter_update (s : State) (m : MeterState) : (s.withMeter m).update = s.update := by rfl
@[simp] theorem State.withMeter_secure (s : State) (m : MeterState) : (s.withMeter m).secure = s.secure := by rfl
@[simp] theorem State.withMeter_power (s : State) (m : MeterState) : (s.withMeter m).power = s.power := by rfl
@[simp] theorem State.withMeter_mem (s : State) (m : MeterState) : (s.withMeter m).mem = s.mem := by rfl
@[simp] theorem State.withMeter_freeCtr (s : State) (m : MeterState) : (s.withMeter m).freeCtr = s.freeCtr := by rfl
@[simp] theorem State.withMeter_out (s : State) (m : MeterState) : (s.withMeter m).out = s.out := by rfl
@[simp] theorem State.withMeter_pending (s : State) (m : MeterState) : (s.withMeter m).pending = s.pending := by rfl

@[simp] theorem State.setNetRing_host (s : State) (k : Nat) (x : NetRing) : (s.setNetRing k x).host = s.host := by rfl
@[simp] theorem State.setNetRing_txn (s : State) (k : Nat) (x : NetRing) : (s.setNetRing k x).txn = s.txn := by rfl
@[simp] theorem State.setNetRing_clock (s : State) (k : Nat) (x : NetRing) : (s.setNetRing k x).clock = s.clock := by rfl
@[simp] theorem State.setNetRing_time (s : State) (k : Nat) (x : NetRing) : (s.setNetRing k x).time = s.time := by rfl
@[simp] theorem State.setNetRing_icu (s : State) (k : Nat) (x : NetRing) : (s.setNetRing k x).icu = s.icu := by rfl
@[simp] theorem State.setNetRing_render (s : State) (k : Nat) (x : NetRing) : (s.setNetRing k x).render = s.render := by rfl
@[simp] theorem State.setNetRing_inputs (s : State) (k : Nat) (x : NetRing) : (s.setNetRing k x).inputs = s.inputs := by rfl
@[simp] theorem State.setNetRing_meter (s : State) (k : Nat) (x : NetRing) : (s.setNetRing k x).meter = s.meter := by rfl
@[simp] theorem State.setNetRing_ports (s : State) (k : Nat) (x : NetRing) : (s.setNetRing k x).ports = s.ports := by rfl
@[simp] theorem State.setNetRing_net (s : State) (k : Nat) (x : NetRing) :
    (s.setNetRing k x).net = { s.net with rings := s.net.rings.put k x } := by rfl
@[simp] theorem State.setNetRing_fns (s : State) (k : Nat) (x : NetRing) : (s.setNetRing k x).fns = s.fns := by rfl
@[simp] theorem State.setNetRing_ecc (s : State) (k : Nat) (x : NetRing) : (s.setNetRing k x).ecc = s.ecc := by rfl
@[simp] theorem State.setNetRing_queues (s : State) (k : Nat) (x : NetRing) : (s.setNetRing k x).queues = s.queues := by rfl
@[simp] theorem State.setNetRing_group (s : State) (k : Nat) (x : NetRing) : (s.setNetRing k x).group = s.group := by rfl
@[simp] theorem State.setNetRing_update (s : State) (k : Nat) (x : NetRing) : (s.setNetRing k x).update = s.update := by rfl
@[simp] theorem State.setNetRing_secure (s : State) (k : Nat) (x : NetRing) : (s.setNetRing k x).secure = s.secure := by rfl
@[simp] theorem State.setNetRing_power (s : State) (k : Nat) (x : NetRing) : (s.setNetRing k x).power = s.power := by rfl
@[simp] theorem State.setNetRing_mem (s : State) (k : Nat) (x : NetRing) : (s.setNetRing k x).mem = s.mem := by rfl
@[simp] theorem State.setNetRing_freeCtr (s : State) (k : Nat) (x : NetRing) : (s.setNetRing k x).freeCtr = s.freeCtr := by rfl
@[simp] theorem State.setNetRing_out (s : State) (k : Nat) (x : NetRing) : (s.setNetRing k x).out = s.out := by rfl
@[simp] theorem State.setNetRing_pending (s : State) (k : Nat) (x : NetRing) : (s.setNetRing k x).pending = s.pending := by rfl

@[simp] theorem State.setLane_host (s : State) (l : Nat) (d : LaneDyn) : (s.setLane l d).host = s.host := by rfl
@[simp] theorem State.setLane_txn (s : State) (l : Nat) (d : LaneDyn) : (s.setLane l d).txn = s.txn := by rfl
@[simp] theorem State.setLane_clock (s : State) (l : Nat) (d : LaneDyn) : (s.setLane l d).clock = s.clock := by rfl
@[simp] theorem State.setLane_time (s : State) (l : Nat) (d : LaneDyn) : (s.setLane l d).time = s.time := by rfl
@[simp] theorem State.setLane_icu (s : State) (l : Nat) (d : LaneDyn) : (s.setLane l d).icu = s.icu := by rfl
@[simp] theorem State.setLane_render (s : State) (l : Nat) (d : LaneDyn) : (s.setLane l d).render = s.render := by rfl
@[simp] theorem State.setLane_inputs (s : State) (l : Nat) (d : LaneDyn) : (s.setLane l d).inputs = s.inputs := by rfl
@[simp] theorem State.setLane_meter (s : State) (l : Nat) (d : LaneDyn) : (s.setLane l d).meter = s.meter := by rfl
@[simp] theorem State.setLane_ports (s : State) (l : Nat) (d : LaneDyn) :
    (s.setLane l d).ports = { s.ports with lanes := s.ports.lanes.put l d } := by rfl
@[simp] theorem State.setLane_net (s : State) (l : Nat) (d : LaneDyn) : (s.setLane l d).net = s.net := by rfl
@[simp] theorem State.setLane_fns (s : State) (l : Nat) (d : LaneDyn) : (s.setLane l d).fns = s.fns := by rfl
@[simp] theorem State.setLane_ecc (s : State) (l : Nat) (d : LaneDyn) : (s.setLane l d).ecc = s.ecc := by rfl
@[simp] theorem State.setLane_queues (s : State) (l : Nat) (d : LaneDyn) : (s.setLane l d).queues = s.queues := by rfl
@[simp] theorem State.setLane_group (s : State) (l : Nat) (d : LaneDyn) : (s.setLane l d).group = s.group := by rfl
@[simp] theorem State.setLane_update (s : State) (l : Nat) (d : LaneDyn) : (s.setLane l d).update = s.update := by rfl
@[simp] theorem State.setLane_secure (s : State) (l : Nat) (d : LaneDyn) : (s.setLane l d).secure = s.secure := by rfl
@[simp] theorem State.setLane_power (s : State) (l : Nat) (d : LaneDyn) : (s.setLane l d).power = s.power := by rfl
@[simp] theorem State.setLane_mem (s : State) (l : Nat) (d : LaneDyn) : (s.setLane l d).mem = s.mem := by rfl
@[simp] theorem State.setLane_freeCtr (s : State) (l : Nat) (d : LaneDyn) : (s.setLane l d).freeCtr = s.freeCtr := by rfl
@[simp] theorem State.setLane_out (s : State) (l : Nat) (d : LaneDyn) : (s.setLane l d).out = s.out := by rfl
@[simp] theorem State.setLane_pending (s : State) (l : Nat) (d : LaneDyn) : (s.setLane l d).pending = s.pending := by rfl

@[simp] theorem State.setEmission_host (s : State) (key : Nat) (d : EmitDyn) : (s.setEmission key d).host = s.host := by rfl
@[simp] theorem State.setEmission_txn (s : State) (key : Nat) (d : EmitDyn) : (s.setEmission key d).txn = s.txn := by rfl
@[simp] theorem State.setEmission_clock (s : State) (key : Nat) (d : EmitDyn) : (s.setEmission key d).clock = s.clock := by rfl
@[simp] theorem State.setEmission_time (s : State) (key : Nat) (d : EmitDyn) : (s.setEmission key d).time = s.time := by rfl
@[simp] theorem State.setEmission_icu (s : State) (key : Nat) (d : EmitDyn) : (s.setEmission key d).icu = s.icu := by rfl
@[simp] theorem State.setEmission_render (s : State) (key : Nat) (d : EmitDyn) : (s.setEmission key d).render = s.render := by rfl
@[simp] theorem State.setEmission_inputs (s : State) (key : Nat) (d : EmitDyn) : (s.setEmission key d).inputs = s.inputs := by rfl
@[simp] theorem State.setEmission_meter (s : State) (key : Nat) (d : EmitDyn) : (s.setEmission key d).meter = s.meter := by rfl
@[simp] theorem State.setEmission_ports (s : State) (key : Nat) (d : EmitDyn) :
    (s.setEmission key d).ports = { s.ports with emit := s.ports.emit.put key d } := by rfl
@[simp] theorem State.setEmission_net (s : State) (key : Nat) (d : EmitDyn) : (s.setEmission key d).net = s.net := by rfl
@[simp] theorem State.setEmission_fns (s : State) (key : Nat) (d : EmitDyn) : (s.setEmission key d).fns = s.fns := by rfl
@[simp] theorem State.setEmission_ecc (s : State) (key : Nat) (d : EmitDyn) : (s.setEmission key d).ecc = s.ecc := by rfl
@[simp] theorem State.setEmission_queues (s : State) (key : Nat) (d : EmitDyn) : (s.setEmission key d).queues = s.queues := by rfl
@[simp] theorem State.setEmission_group (s : State) (key : Nat) (d : EmitDyn) : (s.setEmission key d).group = s.group := by rfl
@[simp] theorem State.setEmission_update (s : State) (key : Nat) (d : EmitDyn) : (s.setEmission key d).update = s.update := by rfl
@[simp] theorem State.setEmission_secure (s : State) (key : Nat) (d : EmitDyn) : (s.setEmission key d).secure = s.secure := by rfl
@[simp] theorem State.setEmission_power (s : State) (key : Nat) (d : EmitDyn) : (s.setEmission key d).power = s.power := by rfl
@[simp] theorem State.setEmission_mem (s : State) (key : Nat) (d : EmitDyn) : (s.setEmission key d).mem = s.mem := by rfl
@[simp] theorem State.setEmission_freeCtr (s : State) (key : Nat) (d : EmitDyn) : (s.setEmission key d).freeCtr = s.freeCtr := by rfl
@[simp] theorem State.setEmission_out (s : State) (key : Nat) (d : EmitDyn) : (s.setEmission key d).out = s.out := by rfl
@[simp] theorem State.setEmission_pending (s : State) (key : Nat) (d : EmitDyn) : (s.setEmission key d).pending = s.pending := by rfl

@[simp] theorem State.setGroup_host (s : State) (g : GroupState) : (s.setGroup g).host = s.host := by rfl
@[simp] theorem State.setGroup_txn (s : State) (g : GroupState) : (s.setGroup g).txn = s.txn := by rfl
@[simp] theorem State.setGroup_clock (s : State) (g : GroupState) : (s.setGroup g).clock = s.clock := by rfl
@[simp] theorem State.setGroup_time (s : State) (g : GroupState) : (s.setGroup g).time = s.time := by rfl
@[simp] theorem State.setGroup_icu (s : State) (g : GroupState) : (s.setGroup g).icu = s.icu := by rfl
@[simp] theorem State.setGroup_render (s : State) (g : GroupState) : (s.setGroup g).render = s.render := by rfl
@[simp] theorem State.setGroup_inputs (s : State) (g : GroupState) : (s.setGroup g).inputs = s.inputs := by rfl
@[simp] theorem State.setGroup_meter (s : State) (g : GroupState) : (s.setGroup g).meter = s.meter := by rfl
@[simp] theorem State.setGroup_ports (s : State) (g : GroupState) : (s.setGroup g).ports = s.ports := by rfl
@[simp] theorem State.setGroup_net (s : State) (g : GroupState) : (s.setGroup g).net = s.net := by rfl
@[simp] theorem State.setGroup_fns (s : State) (g : GroupState) : (s.setGroup g).fns = s.fns := by rfl
@[simp] theorem State.setGroup_ecc (s : State) (g : GroupState) : (s.setGroup g).ecc = s.ecc := by rfl
@[simp] theorem State.setGroup_queues (s : State) (g : GroupState) : (s.setGroup g).queues = s.queues := by rfl
@[simp] theorem State.setGroup_group (s : State) (g : GroupState) : (s.setGroup g).group = g := by rfl
@[simp] theorem State.setGroup_update (s : State) (g : GroupState) : (s.setGroup g).update = s.update := by rfl
@[simp] theorem State.setGroup_secure (s : State) (g : GroupState) : (s.setGroup g).secure = s.secure := by rfl
@[simp] theorem State.setGroup_power (s : State) (g : GroupState) : (s.setGroup g).power = s.power := by rfl
@[simp] theorem State.setGroup_mem (s : State) (g : GroupState) : (s.setGroup g).mem = s.mem := by rfl
@[simp] theorem State.setGroup_freeCtr (s : State) (g : GroupState) : (s.setGroup g).freeCtr = s.freeCtr := by rfl
@[simp] theorem State.setGroup_out (s : State) (g : GroupState) : (s.setGroup g).out = s.out := by rfl
@[simp] theorem State.setGroup_pending (s : State) (g : GroupState) : (s.setGroup g).pending = s.pending := by rfl

@[simp] theorem State.setLink_host (s : State) (l : Nat) (k : ZlkLink) : (s.setLink l k).host = s.host := by rfl
@[simp] theorem State.setLink_txn (s : State) (l : Nat) (k : ZlkLink) : (s.setLink l k).txn = s.txn := by rfl
@[simp] theorem State.setLink_clock (s : State) (l : Nat) (k : ZlkLink) : (s.setLink l k).clock = s.clock := by rfl
@[simp] theorem State.setLink_time (s : State) (l : Nat) (k : ZlkLink) : (s.setLink l k).time = s.time := by rfl
@[simp] theorem State.setLink_icu (s : State) (l : Nat) (k : ZlkLink) : (s.setLink l k).icu = s.icu := by rfl
@[simp] theorem State.setLink_render (s : State) (l : Nat) (k : ZlkLink) : (s.setLink l k).render = s.render := by rfl
@[simp] theorem State.setLink_inputs (s : State) (l : Nat) (k : ZlkLink) : (s.setLink l k).inputs = s.inputs := by rfl
@[simp] theorem State.setLink_meter (s : State) (l : Nat) (k : ZlkLink) : (s.setLink l k).meter = s.meter := by rfl
@[simp] theorem State.setLink_ports (s : State) (l : Nat) (k : ZlkLink) : (s.setLink l k).ports = s.ports := by rfl
@[simp] theorem State.setLink_net (s : State) (l : Nat) (k : ZlkLink) : (s.setLink l k).net = s.net := by rfl
@[simp] theorem State.setLink_fns (s : State) (l : Nat) (k : ZlkLink) : (s.setLink l k).fns = s.fns := by rfl
@[simp] theorem State.setLink_ecc (s : State) (l : Nat) (k : ZlkLink) : (s.setLink l k).ecc = s.ecc := by rfl
@[simp] theorem State.setLink_queues (s : State) (l : Nat) (k : ZlkLink) : (s.setLink l k).queues = s.queues := by rfl
@[simp] theorem State.setLink_group (s : State) (l : Nat) (k : ZlkLink) :
    (s.setLink l k).group = { s.group with links := s.group.links.put l k } := by rfl
@[simp] theorem State.setLink_update (s : State) (l : Nat) (k : ZlkLink) : (s.setLink l k).update = s.update := by rfl
@[simp] theorem State.setLink_secure (s : State) (l : Nat) (k : ZlkLink) : (s.setLink l k).secure = s.secure := by rfl
@[simp] theorem State.setLink_power (s : State) (l : Nat) (k : ZlkLink) : (s.setLink l k).power = s.power := by rfl
@[simp] theorem State.setLink_mem (s : State) (l : Nat) (k : ZlkLink) : (s.setLink l k).mem = s.mem := by rfl
@[simp] theorem State.setLink_freeCtr (s : State) (l : Nat) (k : ZlkLink) : (s.setLink l k).freeCtr = s.freeCtr := by rfl
@[simp] theorem State.setLink_out (s : State) (l : Nat) (k : ZlkLink) : (s.setLink l k).out = s.out := by rfl
@[simp] theorem State.setLink_pending (s : State) (l : Nat) (k : ZlkLink) : (s.setLink l k).pending = s.pending := by rfl

/-! ### Raising events changes the interrupt controller alone -/

theorem State.raiseAll_eq (s : State) (ns : List Nat) : ∃ i, s.raiseAll ns = { s with icu := i } := by
  induction ns generalizing s with
  | nil => exact ⟨s.icu, rfl⟩
  | cons n ns ih =>
    obtain ⟨i, h⟩ := ih (s.raise n)
    exact ⟨i, h⟩

@[simp] theorem State.raiseAll_host (s : State) (ns : List Nat) : (s.raiseAll ns).host = s.host := by
  obtain ⟨i, h⟩ := s.raiseAll_eq ns
  rw [h]
@[simp] theorem State.raiseAll_txn (s : State) (ns : List Nat) : (s.raiseAll ns).txn = s.txn := by
  obtain ⟨i, h⟩ := s.raiseAll_eq ns
  rw [h]
@[simp] theorem State.raiseAll_clock (s : State) (ns : List Nat) : (s.raiseAll ns).clock = s.clock := by
  obtain ⟨i, h⟩ := s.raiseAll_eq ns
  rw [h]
@[simp] theorem State.raiseAll_time (s : State) (ns : List Nat) : (s.raiseAll ns).time = s.time := by
  obtain ⟨i, h⟩ := s.raiseAll_eq ns
  rw [h]
@[simp] theorem State.raiseAll_render (s : State) (ns : List Nat) : (s.raiseAll ns).render = s.render := by
  obtain ⟨i, h⟩ := s.raiseAll_eq ns
  rw [h]
@[simp] theorem State.raiseAll_inputs (s : State) (ns : List Nat) : (s.raiseAll ns).inputs = s.inputs := by
  obtain ⟨i, h⟩ := s.raiseAll_eq ns
  rw [h]
@[simp] theorem State.raiseAll_meter (s : State) (ns : List Nat) : (s.raiseAll ns).meter = s.meter := by
  obtain ⟨i, h⟩ := s.raiseAll_eq ns
  rw [h]
@[simp] theorem State.raiseAll_ports (s : State) (ns : List Nat) : (s.raiseAll ns).ports = s.ports := by
  obtain ⟨i, h⟩ := s.raiseAll_eq ns
  rw [h]
@[simp] theorem State.raiseAll_net (s : State) (ns : List Nat) : (s.raiseAll ns).net = s.net := by
  obtain ⟨i, h⟩ := s.raiseAll_eq ns
  rw [h]
@[simp] theorem State.raiseAll_fns (s : State) (ns : List Nat) : (s.raiseAll ns).fns = s.fns := by
  obtain ⟨i, h⟩ := s.raiseAll_eq ns
  rw [h]
@[simp] theorem State.raiseAll_ecc (s : State) (ns : List Nat) : (s.raiseAll ns).ecc = s.ecc := by
  obtain ⟨i, h⟩ := s.raiseAll_eq ns
  rw [h]
@[simp] theorem State.raiseAll_queues (s : State) (ns : List Nat) : (s.raiseAll ns).queues = s.queues := by
  obtain ⟨i, h⟩ := s.raiseAll_eq ns
  rw [h]
@[simp] theorem State.raiseAll_group (s : State) (ns : List Nat) : (s.raiseAll ns).group = s.group := by
  obtain ⟨i, h⟩ := s.raiseAll_eq ns
  rw [h]
@[simp] theorem State.raiseAll_update (s : State) (ns : List Nat) : (s.raiseAll ns).update = s.update := by
  obtain ⟨i, h⟩ := s.raiseAll_eq ns
  rw [h]
@[simp] theorem State.raiseAll_secure (s : State) (ns : List Nat) : (s.raiseAll ns).secure = s.secure := by
  obtain ⟨i, h⟩ := s.raiseAll_eq ns
  rw [h]
@[simp] theorem State.raiseAll_power (s : State) (ns : List Nat) : (s.raiseAll ns).power = s.power := by
  obtain ⟨i, h⟩ := s.raiseAll_eq ns
  rw [h]
@[simp] theorem State.raiseAll_mem (s : State) (ns : List Nat) : (s.raiseAll ns).mem = s.mem := by
  obtain ⟨i, h⟩ := s.raiseAll_eq ns
  rw [h]
@[simp] theorem State.raiseAll_freeCtr (s : State) (ns : List Nat) : (s.raiseAll ns).freeCtr = s.freeCtr := by
  obtain ⟨i, h⟩ := s.raiseAll_eq ns
  rw [h]
@[simp] theorem State.raiseAll_out (s : State) (ns : List Nat) : (s.raiseAll ns).out = s.out := by
  obtain ⟨i, h⟩ := s.raiseAll_eq ns
  rw [h]
@[simp] theorem State.raiseAll_pending (s : State) (ns : List Nat) : (s.raiseAll ns).pending = s.pending := by
  obtain ⟨i, h⟩ := s.raiseAll_eq ns
  rw [h]

@[simp] theorem State.raiseAll_nil (s : State) : s.raiseAll [] = s := rfl

@[simp] theorem State.raiseIf_host (s : State) (b : Bool) (n : Nat) : (s.raiseIf b n).host = s.host := by
  cases b <;> rfl
@[simp] theorem State.raiseIf_txn (s : State) (b : Bool) (n : Nat) : (s.raiseIf b n).txn = s.txn := by
  cases b <;> rfl
@[simp] theorem State.raiseIf_clock (s : State) (b : Bool) (n : Nat) : (s.raiseIf b n).clock = s.clock := by
  cases b <;> rfl
@[simp] theorem State.raiseIf_time (s : State) (b : Bool) (n : Nat) : (s.raiseIf b n).time = s.time := by
  cases b <;> rfl
@[simp] theorem State.raiseIf_render (s : State) (b : Bool) (n : Nat) : (s.raiseIf b n).render = s.render := by
  cases b <;> rfl
@[simp] theorem State.raiseIf_inputs (s : State) (b : Bool) (n : Nat) : (s.raiseIf b n).inputs = s.inputs := by
  cases b <;> rfl
@[simp] theorem State.raiseIf_meter (s : State) (b : Bool) (n : Nat) : (s.raiseIf b n).meter = s.meter := by
  cases b <;> rfl
@[simp] theorem State.raiseIf_ports (s : State) (b : Bool) (n : Nat) : (s.raiseIf b n).ports = s.ports := by
  cases b <;> rfl
@[simp] theorem State.raiseIf_net (s : State) (b : Bool) (n : Nat) : (s.raiseIf b n).net = s.net := by
  cases b <;> rfl
@[simp] theorem State.raiseIf_fns (s : State) (b : Bool) (n : Nat) : (s.raiseIf b n).fns = s.fns := by
  cases b <;> rfl
@[simp] theorem State.raiseIf_ecc (s : State) (b : Bool) (n : Nat) : (s.raiseIf b n).ecc = s.ecc := by
  cases b <;> rfl
@[simp] theorem State.raiseIf_queues (s : State) (b : Bool) (n : Nat) : (s.raiseIf b n).queues = s.queues := by
  cases b <;> rfl
@[simp] theorem State.raiseIf_group (s : State) (b : Bool) (n : Nat) : (s.raiseIf b n).group = s.group := by
  cases b <;> rfl
@[simp] theorem State.raiseIf_update (s : State) (b : Bool) (n : Nat) : (s.raiseIf b n).update = s.update := by
  cases b <;> rfl
@[simp] theorem State.raiseIf_secure (s : State) (b : Bool) (n : Nat) : (s.raiseIf b n).secure = s.secure := by
  cases b <;> rfl
@[simp] theorem State.raiseIf_power (s : State) (b : Bool) (n : Nat) : (s.raiseIf b n).power = s.power := by
  cases b <;> rfl
@[simp] theorem State.raiseIf_mem (s : State) (b : Bool) (n : Nat) : (s.raiseIf b n).mem = s.mem := by
  cases b <;> rfl
@[simp] theorem State.raiseIf_freeCtr (s : State) (b : Bool) (n : Nat) : (s.raiseIf b n).freeCtr = s.freeCtr := by
  cases b <;> rfl
@[simp] theorem State.raiseIf_out (s : State) (b : Bool) (n : Nat) : (s.raiseIf b n).out = s.out := by
  cases b <;> rfl
@[simp] theorem State.raiseIf_pending (s : State) (b : Bool) (n : Nat) : (s.raiseIf b n).pending = s.pending := by
  cases b <;> rfl

/-! ### What follows every command -/

/-- A command passes `dt` cycles, acts, and ends with watermarks and interrupt delivery. -/
@[simp] theorem State.act_eq (s : State) (dt : Nat) (f : State → State) : s.act dt f = .next (f (s.tick dt)).settle := rfl

/-! Watermarks and delivery change the queues' records, the interrupt controller and what has left the device alone. -/

theorem State.watch_eq (s : State) : ∃ q i, s.watch = { s with queues := q, icu := i } :=
  (State.raiseAll_eq _ _).elim fun i h => ⟨_, i, h⟩

theorem State.settle_eq (s : State) : ∃ q i o, s.settle = { s with queues := q, icu := i, out := o } := by
  obtain ⟨q, i, h⟩ := s.watch_eq
  simp only [State.settle, h]
  exact ⟨q, _, _, rfl⟩

@[simp] theorem State.settle_host (s : State) : s.settle.host = s.host := by
  obtain ⟨q, i, o, h⟩ := s.settle_eq
  rw [h]
@[simp] theorem State.settle_txn (s : State) : s.settle.txn = s.txn := by
  obtain ⟨q, i, o, h⟩ := s.settle_eq
  rw [h]
@[simp] theorem State.settle_clock (s : State) : s.settle.clock = s.clock := by
  obtain ⟨q, i, o, h⟩ := s.settle_eq
  rw [h]
@[simp] theorem State.settle_time (s : State) : s.settle.time = s.time := by
  obtain ⟨q, i, o, h⟩ := s.settle_eq
  rw [h]
@[simp] theorem State.settle_render (s : State) : s.settle.render = s.render := by
  obtain ⟨q, i, o, h⟩ := s.settle_eq
  rw [h]
@[simp] theorem State.settle_inputs (s : State) : s.settle.inputs = s.inputs := by
  obtain ⟨q, i, o, h⟩ := s.settle_eq
  rw [h]
@[simp] theorem State.settle_meter (s : State) : s.settle.meter = s.meter := by
  obtain ⟨q, i, o, h⟩ := s.settle_eq
  rw [h]
@[simp] theorem State.settle_ports (s : State) : s.settle.ports = s.ports := by
  obtain ⟨q, i, o, h⟩ := s.settle_eq
  rw [h]
@[simp] theorem State.settle_net (s : State) : s.settle.net = s.net := by
  obtain ⟨q, i, o, h⟩ := s.settle_eq
  rw [h]
@[simp] theorem State.settle_fns (s : State) : s.settle.fns = s.fns := by
  obtain ⟨q, i, o, h⟩ := s.settle_eq
  rw [h]
@[simp] theorem State.settle_ecc (s : State) : s.settle.ecc = s.ecc := by
  obtain ⟨q, i, o, h⟩ := s.settle_eq
  rw [h]
@[simp] theorem State.settle_group (s : State) : s.settle.group = s.group := by
  obtain ⟨q, i, o, h⟩ := s.settle_eq
  rw [h]
@[simp] theorem State.settle_update (s : State) : s.settle.update = s.update := by
  obtain ⟨q, i, o, h⟩ := s.settle_eq
  rw [h]
@[simp] theorem State.settle_secure (s : State) : s.settle.secure = s.secure := by
  obtain ⟨q, i, o, h⟩ := s.settle_eq
  rw [h]
@[simp] theorem State.settle_power (s : State) : s.settle.power = s.power := by
  obtain ⟨q, i, o, h⟩ := s.settle_eq
  rw [h]
@[simp] theorem State.settle_mem (s : State) : s.settle.mem = s.mem := by
  obtain ⟨q, i, o, h⟩ := s.settle_eq
  rw [h]
@[simp] theorem State.settle_freeCtr (s : State) : s.settle.freeCtr = s.freeCtr := by
  obtain ⟨q, i, o, h⟩ := s.settle_eq
  rw [h]
@[simp] theorem State.settle_pending (s : State) : s.settle.pending = s.pending := by
  obtain ⟨q, i, o, h⟩ := s.settle_eq
  rw [h]

/-! ### Time -/

@[simp] theorem State.tick_now (s : State) (dt : Nat) : (s.tick dt).now = s.now + dt := by simp [State.now, State.tick, TimeState.tick]

end Sys2Proof.Machine
end

