-- ==== Sys2Proof/Laws/Frame.lean ====
section
/-!
SUPPORT. Laws/Frame.lean: what each shared operation leaves as it was, field by field.
-/

namespace Sys2Proof.Machine

/-! ### Fields of states that are put together -/

@[simp] theorem foldl_host {β : Type} (l : List β) (f : State → β → State) (s : State) (h : ∀ s b, (f s b).host = s.host) : (l.foldl f s).host = s.host := by
  induction l generalizing s with
  | nil => rfl
  | cons b l ih => rw [List.foldl_cons, ih, h]

@[simp] theorem elim_host {β : Type} (o : Option β) (f : β → State) (a : State) : (o.elim a f).host = o.elim a.host (fun x => (f x).host) := by
  cases o <;> rfl

@[simp] theorem foldl_txn {β : Type} (l : List β) (f : State → β → State) (s : State) (h : ∀ s b, (f s b).txn = s.txn) : (l.foldl f s).txn = s.txn := by
  induction l generalizing s with
  | nil => rfl
  | cons b l ih => rw [List.foldl_cons, ih, h]

@[simp] theorem elim_txn {β : Type} (o : Option β) (f : β → State) (a : State) : (o.elim a f).txn = o.elim a.txn (fun x => (f x).txn) := by
  cases o <;> rfl

@[simp] theorem foldl_clock {β : Type} (l : List β) (f : State → β → State) (s : State) (h : ∀ s b, (f s b).clock = s.clock) : (l.foldl f s).clock = s.clock := by
  induction l generalizing s with
  | nil => rfl
  | cons b l ih => rw [List.foldl_cons, ih, h]

@[simp] theorem elim_clock {β : Type} (o : Option β) (f : β → State) (a : State) : (o.elim a f).clock = o.elim a.clock (fun x => (f x).clock) := by
  cases o <;> rfl

@[simp] theorem foldl_time {β : Type} (l : List β) (f : State → β → State) (s : State) (h : ∀ s b, (f s b).time = s.time) : (l.foldl f s).time = s.time := by
  induction l generalizing s with
  | nil => rfl
  | cons b l ih => rw [List.foldl_cons, ih, h]

@[simp] theorem elim_time {β : Type} (o : Option β) (f : β → State) (a : State) : (o.elim a f).time = o.elim a.time (fun x => (f x).time) := by
  cases o <;> rfl

@[simp] theorem foldl_icu {β : Type} (l : List β) (f : State → β → State) (s : State) (h : ∀ s b, (f s b).icu = s.icu) : (l.foldl f s).icu = s.icu := by
  induction l generalizing s with
  | nil => rfl
  | cons b l ih => rw [List.foldl_cons, ih, h]

@[simp] theorem elim_icu {β : Type} (o : Option β) (f : β → State) (a : State) : (o.elim a f).icu = o.elim a.icu (fun x => (f x).icu) := by
  cases o <;> rfl

@[simp] theorem foldl_render {β : Type} (l : List β) (f : State → β → State) (s : State) (h : ∀ s b, (f s b).render = s.render) : (l.foldl f s).render = s.render := by
  induction l generalizing s with
  | nil => rfl
  | cons b l ih => rw [List.foldl_cons, ih, h]

@[simp] theorem elim_render {β : Type} (o : Option β) (f : β → State) (a : State) : (o.elim a f).render = o.elim a.render (fun x => (f x).render) := by
  cases o <;> rfl

@[simp] theorem foldl_inputs {β : Type} (l : List β) (f : State → β → State) (s : State) (h : ∀ s b, (f s b).inputs = s.inputs) : (l.foldl f s).inputs = s.inputs := by
  induction l generalizing s with
  | nil => rfl
  | cons b l ih => rw [List.foldl_cons, ih, h]

@[simp] theorem elim_inputs {β : Type} (o : Option β) (f : β → State) (a : State) : (o.elim a f).inputs = o.elim a.inputs (fun x => (f x).inputs) := by
  cases o <;> rfl

@[simp] theorem foldl_meter {β : Type} (l : List β) (f : State → β → State) (s : State) (h : ∀ s b, (f s b).meter = s.meter) : (l.foldl f s).meter = s.meter := by
  induction l generalizing s with
  | nil => rfl
  | cons b l ih => rw [List.foldl_cons, ih, h]

@[simp] theorem elim_meter {β : Type} (o : Option β) (f : β → State) (a : State) : (o.elim a f).meter = o.elim a.meter (fun x => (f x).meter) := by
  cases o <;> rfl

@[simp] theorem foldl_ports {β : Type} (l : List β) (f : State → β → State) (s : State) (h : ∀ s b, (f s b).ports = s.ports) : (l.foldl f s).ports = s.ports := by
  induction l generalizing s with
  | nil => rfl
  | cons b l ih => rw [List.foldl_cons, ih, h]

@[simp] theorem elim_ports {β : Type} (o : Option β) (f : β → State) (a : State) : (o.elim a f).ports = o.elim a.ports (fun x => (f x).ports) := by
  cases o <;> rfl

@[simp] theorem foldl_net {β : Type} (l : List β) (f : State → β → State) (s : State) (h : ∀ s b, (f s b).net = s.net) : (l.foldl f s).net = s.net := by
  induction l generalizing s with
  | nil => rfl
  | cons b l ih => rw [List.foldl_cons, ih, h]

@[simp] theorem elim_net {β : Type} (o : Option β) (f : β → State) (a : State) : (o.elim a f).net = o.elim a.net (fun x => (f x).net) := by
  cases o <;> rfl

@[simp] theorem foldl_fns {β : Type} (l : List β) (f : State → β → State) (s : State) (h : ∀ s b, (f s b).fns = s.fns) : (l.foldl f s).fns = s.fns := by
  induction l generalizing s with
  | nil => rfl
  | cons b l ih => rw [List.foldl_cons, ih, h]

@[simp] theorem elim_fns {β : Type} (o : Option β) (f : β → State) (a : State) : (o.elim a f).fns = o.elim a.fns (fun x => (f x).fns) := by
  cases o <;> rfl

@[simp] theorem foldl_ecc {β : Type} (l : List β) (f : State → β → State) (s : State) (h : ∀ s b, (f s b).ecc = s.ecc) : (l.foldl f s).ecc = s.ecc := by
  induction l generalizing s with
  | nil => rfl
  | cons b l ih => rw [List.foldl_cons, ih, h]

@[simp] theorem elim_ecc {β : Type} (o : Option β) (f : β → State) (a : State) : (o.elim a f).ecc = o.elim a.ecc (fun x => (f x).ecc) := by
  cases o <;> rfl

@[simp] theorem foldl_queues {β : Type} (l : List β) (f : State → β → State) (s : State) (h : ∀ s b, (f s b).queues = s.queues) : (l.foldl f s).queues = s.queues := by
  induction l generalizing s with
  | nil => rfl
  | cons b l ih => rw [List.foldl_cons, ih, h]

@[simp] theorem elim_queues {β : Type} (o : Option β) (f : β → State) (a : State) : (o.elim a f).queues = o.elim a.queues (fun x => (f x).queues) := by
  cases o <;> rfl

@[simp] theorem foldl_group {β : Type} (l : List β) (f : State → β → State) (s : State) (h : ∀ s b, (f s b).group = s.group) : (l.foldl f s).group = s.group := by
  induction l generalizing s with
  | nil => rfl
  | cons b l ih => rw [List.foldl_cons, ih, h]

@[simp] theorem elim_group {β : Type} (o : Option β) (f : β → State) (a : State) : (o.elim a f).group = o.elim a.group (fun x => (f x).group) := by
  cases o <;> rfl

@[simp] theorem foldl_update {β : Type} (l : List β) (f : State → β → State) (s : State) (h : ∀ s b, (f s b).update = s.update) : (l.foldl f s).update = s.update := by
  induction l generalizing s with
  | nil => rfl
  | cons b l ih => rw [List.foldl_cons, ih, h]

@[simp] theorem elim_update {β : Type} (o : Option β) (f : β → State) (a : State) : (o.elim a f).update = o.elim a.update (fun x => (f x).update) := by
  cases o <;> rfl

@[simp] theorem foldl_secure {β : Type} (l : List β) (f : State → β → State) (s : State) (h : ∀ s b, (f s b).secure = s.secure) : (l.foldl f s).secure = s.secure := by
  induction l generalizing s with
  | nil => rfl
  | cons b l ih => rw [List.foldl_cons, ih, h]

@[simp] theorem elim_secure {β : Type} (o : Option β) (f : β → State) (a : State) : (o.elim a f).secure = o.elim a.secure (fun x => (f x).secure) := by
  cases o <;> rfl

@[simp] theorem foldl_power {β : Type} (l : List β) (f : State → β → State) (s : State) (h : ∀ s b, (f s b).power = s.power) : (l.foldl f s).power = s.power := by
  induction l generalizing s with
  | nil => rfl
  | cons b l ih => rw [List.foldl_cons, ih, h]

@[simp] theorem elim_power {β : Type} (o : Option β) (f : β → State) (a : State) : (o.elim a f).power = o.elim a.power (fun x => (f x).power) := by
  cases o <;> rfl

@[simp] theorem foldl_mem {β : Type} (l : List β) (f : State → β → State) (s : State) (h : ∀ s b, (f s b).mem = s.mem) : (l.foldl f s).mem = s.mem := by
  induction l generalizing s with
  | nil => rfl
  | cons b l ih => rw [List.foldl_cons, ih, h]

@[simp] theorem elim_mem {β : Type} (o : Option β) (f : β → State) (a : State) : (o.elim a f).mem = o.elim a.mem (fun x => (f x).mem) := by
  cases o <;> rfl

@[simp] theorem foldl_freeCtr {β : Type} (l : List β) (f : State → β → State) (s : State) (h : ∀ s b, (f s b).freeCtr = s.freeCtr) : (l.foldl f s).freeCtr = s.freeCtr := by
  induction l generalizing s with
  | nil => rfl
  | cons b l ih => rw [List.foldl_cons, ih, h]

@[simp] theorem elim_freeCtr {β : Type} (o : Option β) (f : β → State) (a : State) : (o.elim a f).freeCtr = o.elim a.freeCtr (fun x => (f x).freeCtr) := by
  cases o <;> rfl

@[simp] theorem foldl_out {β : Type} (l : List β) (f : State → β → State) (s : State) (h : ∀ s b, (f s b).out = s.out) : (l.foldl f s).out = s.out := by
  induction l generalizing s with
  | nil => rfl
  | cons b l ih => rw [List.foldl_cons, ih, h]

@[simp] theorem elim_out {β : Type} (o : Option β) (f : β → State) (a : State) : (o.elim a f).out = o.elim a.out (fun x => (f x).out) := by
  cases o <;> rfl

@[simp] theorem foldl_pending {β : Type} (l : List β) (f : State → β → State) (s : State) (h : ∀ s b, (f s b).pending = s.pending) : (l.foldl f s).pending = s.pending := by
  induction l generalizing s with
  | nil => rfl
  | cons b l ih => rw [List.foldl_cons, ih, h]

@[simp] theorem elim_pending {β : Type} (o : Option β) (f : β → State) (a : State) : (o.elim a f).pending = o.elim a.pending (fun x => (f x).pending) := by
  cases o <;> rfl

@[simp] theorem foldl_fst_host {β γ : Type} (l : List β) (f : State × γ → β → State × γ) (s : State × γ) (h : ∀ s b, (f s b).1.host = s.1.host) : (l.foldl f s).1.host = s.1.host := by
  induction l generalizing s with
  | nil => rfl
  | cons b l ih => rw [List.foldl_cons, ih, h]

@[simp] theorem foldl_snd_host {β γ : Type} (l : List β) (f : γ × State → β → γ × State) (s : γ × State) (h : ∀ s b, (f s b).2.host = s.2.host) : (l.foldl f s).2.host = s.2.host := by
  induction l generalizing s with
  | nil => rfl
  | cons b l ih => rw [List.foldl_cons, ih, h]

@[simp] theorem foldl_fst_txn {β γ : Type} (l : List β) (f : State × γ → β → State × γ) (s : State × γ) (h : ∀ s b, (f s b).1.txn = s.1.txn) : (l.foldl f s).1.txn = s.1.txn := by
  induction l generalizing s with
  | nil => rfl
  | cons b l ih => rw [List.foldl_cons, ih, h]

@[simp] theorem foldl_snd_txn {β γ : Type} (l : List β) (f : γ × State → β → γ × State) (s : γ × State) (h : ∀ s b, (f s b).2.txn = s.2.txn) : (l.foldl f s).2.txn = s.2.txn := by
  induction l generalizing s with
  | nil => rfl
  | cons b l ih => rw [List.foldl_cons, ih, h]

@[simp] theorem foldl_fst_clock {β γ : Type} (l : List β) (f : State × γ → β → State × γ) (s : State × γ) (h : ∀ s b, (f s b).1.clock = s.1.clock) : (l.foldl f s).1.clock = s.1.clock := by
  induction l generalizing s with
  | nil => rfl
  | cons b l ih => rw [List.foldl_cons, ih, h]

@[simp] theorem foldl_snd_clock {β γ : Type} (l : List β) (f : γ × State → β → γ × State) (s : γ × State) (h : ∀ s b, (f s b).2.clock = s.2.clock) : (l.foldl f s).2.clock = s.2.clock := by
  induction l generalizing s with
  | nil => rfl
  | cons b l ih => rw [List.foldl_cons, ih, h]

@[simp] theorem foldl_fst_time {β γ : Type} (l : List β) (f : State × γ → β → State × γ) (s : State × γ) (h : ∀ s b, (f s b).1.time = s.1.time) : (l.foldl f s).1.time = s.1.time := by
  induction l generalizing s with
  | nil => rfl
  | cons b l ih => rw [List.foldl_cons, ih, h]

@[simp] theorem foldl_snd_time {β γ : Type} (l : List β) (f : γ × State → β → γ × State) (s : γ × State) (h : ∀ s b, (f s b).2.time = s.2.time) : (l.foldl f s).2.time = s.2.time := by
  induction l generalizing s with
  | nil => rfl
  | cons b l ih => rw [List.foldl_cons, ih, h]

@[simp] theorem foldl_fst_icu {β γ : Type} (l : List β) (f : State × γ → β → State × γ) (s : State × γ) (h : ∀ s b, (f s b).1.icu = s.1.icu) : (l.foldl f s).1.icu = s.1.icu := by
  induction l generalizing s with
  | nil => rfl
  | cons b l ih => rw [List.foldl_cons, ih, h]

@[simp] theorem foldl_snd_icu {β γ : Type} (l : List β) (f : γ × State → β → γ × State) (s : γ × State) (h : ∀ s b, (f s b).2.icu = s.2.icu) : (l.foldl f s).2.icu = s.2.icu := by
  induction l generalizing s with
  | nil => rfl
  | cons b l ih => rw [List.foldl_cons, ih, h]

@[simp] theorem foldl_fst_render {β γ : Type} (l : List β) (f : State × γ → β → State × γ) (s : State × γ) (h : ∀ s b, (f s b).1.render = s.1.render) : (l.foldl f s).1.render = s.1.render := by
  induction l generalizing s with
  | nil => rfl
  | cons b l ih => rw [List.foldl_cons, ih, h]

@[simp] theorem foldl_snd_render {β γ : Type} (l : List β) (f : γ × State → β → γ × State) (s : γ × State) (h : ∀ s b, (f s b).2.render = s.2.render) : (l.foldl f s).2.render = s.2.render := by
  induction l generalizing s with
  | nil => rfl
  | cons b l ih => rw [List.foldl_cons, ih, h]

@[simp] theorem foldl_fst_inputs {β γ : Type} (l : List β) (f : State × γ → β → State × γ) (s : State × γ) (h : ∀ s b, (f s b).1.inputs = s.1.inputs) : (l.foldl f s).1.inputs = s.1.inputs := by
  induction l generalizing s with
  | nil => rfl
  | cons b l ih => rw [List.foldl_cons, ih, h]

@[simp] theorem foldl_snd_inputs {β γ : Type} (l : List β) (f : γ × State → β → γ × State) (s : γ × State) (h : ∀ s b, (f s b).2.inputs = s.2.inputs) : (l.foldl f s).2.inputs = s.2.inputs := by
  induction l generalizing s with
  | nil => rfl
  | cons b l ih => rw [List.foldl_cons, ih, h]

@[simp] theorem foldl_fst_meter {β γ : Type} (l : List β) (f : State × γ → β → State × γ) (s : State × γ) (h : ∀ s b, (f s b).1.meter = s.1.meter) : (l.foldl f s).1.meter = s.1.meter := by
  induction l generalizing s with
  | nil => rfl
  | cons b l ih => rw [List.foldl_cons, ih, h]

@[simp] theorem foldl_snd_meter {β γ : Type} (l : List β) (f : γ × State → β → γ × State) (s : γ × State) (h : ∀ s b, (f s b).2.meter = s.2.meter) : (l.foldl f s).2.meter = s.2.meter := by
  induction l generalizing s with
  | nil => rfl
  | cons b l ih => rw [List.foldl_cons, ih, h]

@[simp] theorem foldl_fst_ports {β γ : Type} (l : List β) (f : State × γ → β → State × γ) (s : State × γ) (h : ∀ s b, (f s b).1.ports = s.1.ports) : (l.foldl f s).1.ports = s.1.ports := by
  induction l generalizing s with
  | nil => rfl
  | cons b l ih => rw [List.foldl_cons, ih, h]

@[simp] theorem foldl_snd_ports {β γ : Type} (l : List β) (f : γ × State → β → γ × State) (s : γ × State) (h : ∀ s b, (f s b).2.ports = s.2.ports) : (l.foldl f s).2.ports = s.2.ports := by
  induction l generalizing s with
  | nil => rfl
  | cons b l ih => rw [List.foldl_cons, ih, h]

@[simp] theorem foldl_fst_net {β γ : Type} (l : List β) (f : State × γ → β → State × γ) (s : State × γ) (h : ∀ s b, (f s b).1.net = s.1.net) : (l.foldl f s).1.net = s.1.net := by
  induction l generalizing s with
  | nil => rfl
  | cons b l ih => rw [List.foldl_cons, ih, h]

@[simp] theorem foldl_snd_net {β γ : Type} (l : List β) (f : γ × State → β → γ × State) (s : γ × State) (h : ∀ s b, (f s b).2.net = s.2.net) : (l.foldl f s).2.net = s.2.net := by
  induction l generalizing s with
  | nil => rfl
  | cons b l ih => rw [List.foldl_cons, ih, h]

@[simp] theorem foldl_fst_fns {β γ : Type} (l : List β) (f : State × γ → β → State × γ) (s : State × γ) (h : ∀ s b, (f s b).1.fns = s.1.fns) : (l.foldl f s).1.fns = s.1.fns := by
  induction l generalizing s with
  | nil => rfl
  | cons b l ih => rw [List.foldl_cons, ih, h]

@[simp] theorem foldl_snd_fns {β γ : Type} (l : List β) (f : γ × State → β → γ × State) (s : γ × State) (h : ∀ s b, (f s b).2.fns = s.2.fns) : (l.foldl f s).2.fns = s.2.fns := by
  induction l generalizing s with
  | nil => rfl
  | cons b l ih => rw [List.foldl_cons, ih, h]

@[simp] theorem foldl_fst_ecc {β γ : Type} (l : List β) (f : State × γ → β → State × γ) (s : State × γ) (h : ∀ s b, (f s b).1.ecc = s.1.ecc) : (l.foldl f s).1.ecc = s.1.ecc := by
  induction l generalizing s with
  | nil => rfl
  | cons b l ih => rw [List.foldl_cons, ih, h]

@[simp] theorem foldl_snd_ecc {β γ : Type} (l : List β) (f : γ × State → β → γ × State) (s : γ × State) (h : ∀ s b, (f s b).2.ecc = s.2.ecc) : (l.foldl f s).2.ecc = s.2.ecc := by
  induction l generalizing s with
  | nil => rfl
  | cons b l ih => rw [List.foldl_cons, ih, h]

@[simp] theorem foldl_fst_queues {β γ : Type} (l : List β) (f : State × γ → β → State × γ) (s : State × γ) (h : ∀ s b, (f s b).1.queues = s.1.queues) : (l.foldl f s).1.queues = s.1.queues := by
  induction l generalizing s with
  | nil => rfl
  | cons b l ih => rw [List.foldl_cons, ih, h]

@[simp] theorem foldl_snd_queues {β γ : Type} (l : List β) (f : γ × State → β → γ × State) (s : γ × State) (h : ∀ s b, (f s b).2.queues = s.2.queues) : (l.foldl f s).2.queues = s.2.queues := by
  induction l generalizing s with
  | nil => rfl
  | cons b l ih => rw [List.foldl_cons, ih, h]

@[simp] theorem foldl_fst_group {β γ : Type} (l : List β) (f : State × γ → β → State × γ) (s : State × γ) (h : ∀ s b, (f s b).1.group = s.1.group) : (l.foldl f s).1.group = s.1.group := by
  induction l generalizing s with
  | nil => rfl
  | cons b l ih => rw [List.foldl_cons, ih, h]

@[simp] theorem foldl_snd_group {β γ : Type} (l : List β) (f : γ × State → β → γ × State) (s : γ × State) (h : ∀ s b, (f s b).2.group = s.2.group) : (l.foldl f s).2.group = s.2.group := by
  induction l generalizing s with
  | nil => rfl
  | cons b l ih => rw [List.foldl_cons, ih, h]

@[simp] theorem foldl_fst_update {β γ : Type} (l : List β) (f : State × γ → β → State × γ) (s : State × γ) (h : ∀ s b, (f s b).1.update = s.1.update) : (l.foldl f s).1.update = s.1.update := by
  induction l generalizing s with
  | nil => rfl
  | cons b l ih => rw [List.foldl_cons, ih, h]

@[simp] theorem foldl_snd_update {β γ : Type} (l : List β) (f : γ × State → β → γ × State) (s : γ × State) (h : ∀ s b, (f s b).2.update = s.2.update) : (l.foldl f s).2.update = s.2.update := by
  induction l generalizing s with
  | nil => rfl
  | cons b l ih => rw [List.foldl_cons, ih, h]

@[simp] theorem foldl_fst_secure {β γ : Type} (l : List β) (f : State × γ → β → State × γ) (s : State × γ) (h : ∀ s b, (f s b).1.secure = s.1.secure) : (l.foldl f s).1.secure = s.1.secure := by
  induction l generalizing s with
  | nil => rfl
  | cons b l ih => rw [List.foldl_cons, ih, h]

@[simp] theorem foldl_snd_secure {β γ : Type} (l : List β) (f : γ × State → β → γ × State) (s : γ × State) (h : ∀ s b, (f s b).2.secure = s.2.secure) : (l.foldl f s).2.secure = s.2.secure := by
  induction l generalizing s with
  | nil => rfl
  | cons b l ih => rw [List.foldl_cons, ih, h]

@[simp] theorem foldl_fst_power {β γ : Type} (l : List β) (f : State × γ → β → State × γ) (s : State × γ) (h : ∀ s b, (f s b).1.power = s.1.power) : (l.foldl f s).1.power = s.1.power := by
  induction l generalizing s with
  | nil => rfl
  | cons b l ih => rw [List.foldl_cons, ih, h]

@[simp] theorem foldl_snd_power {β γ : Type} (l : List β) (f : γ × State → β → γ × State) (s : γ × State) (h : ∀ s b, (f s b).2.power = s.2.power) : (l.foldl f s).2.power = s.2.power := by
  induction l generalizing s with
  | nil => rfl
  | cons b l ih => rw [List.foldl_cons, ih, h]

@[simp] theorem foldl_fst_mem {β γ : Type} (l : List β) (f : State × γ → β → State × γ) (s : State × γ) (h : ∀ s b, (f s b).1.mem = s.1.mem) : (l.foldl f s).1.mem = s.1.mem := by
  induction l generalizing s with
  | nil => rfl
  | cons b l ih => rw [List.foldl_cons, ih, h]

@[simp] theorem foldl_snd_mem {β γ : Type} (l : List β) (f : γ × State → β → γ × State) (s : γ × State) (h : ∀ s b, (f s b).2.mem = s.2.mem) : (l.foldl f s).2.mem = s.2.mem := by
  induction l generalizing s with
  | nil => rfl
  | cons b l ih => rw [List.foldl_cons, ih, h]

@[simp] theorem foldl_fst_freeCtr {β γ : Type} (l : List β) (f : State × γ → β → State × γ) (s : State × γ) (h : ∀ s b, (f s b).1.freeCtr = s.1.freeCtr) : (l.foldl f s).1.freeCtr = s.1.freeCtr := by
  induction l generalizing s with
  | nil => rfl
  | cons b l ih => rw [List.foldl_cons, ih, h]

@[simp] theorem foldl_snd_freeCtr {β γ : Type} (l : List β) (f : γ × State → β → γ × State) (s : γ × State) (h : ∀ s b, (f s b).2.freeCtr = s.2.freeCtr) : (l.foldl f s).2.freeCtr = s.2.freeCtr := by
  induction l generalizing s with
  | nil => rfl
  | cons b l ih => rw [List.foldl_cons, ih, h]

@[simp] theorem foldl_fst_out {β γ : Type} (l : List β) (f : State × γ → β → State × γ) (s : State × γ) (h : ∀ s b, (f s b).1.out = s.1.out) : (l.foldl f s).1.out = s.1.out := by
  induction l generalizing s with
  | nil => rfl
  | cons b l ih => rw [List.foldl_cons, ih, h]

@[simp] theorem foldl_snd_out {β γ : Type} (l : List β) (f : γ × State → β → γ × State) (s : γ × State) (h : ∀ s b, (f s b).2.out = s.2.out) : (l.foldl f s).2.out = s.2.out := by
  induction l generalizing s with
  | nil => rfl
  | cons b l ih => rw [List.foldl_cons, ih, h]

@[simp] theorem foldl_fst_pending {β γ : Type} (l : List β) (f : State × γ → β → State × γ) (s : State × γ) (h : ∀ s b, (f s b).1.pending = s.1.pending) : (l.foldl f s).1.pending = s.1.pending := by
  induction l generalizing s with
  | nil => rfl
  | cons b l ih => rw [List.foldl_cons, ih, h]

@[simp] theorem foldl_snd_pending {β γ : Type} (l : List β) (f : γ × State → β → γ × State) (s : γ × State) (h : ∀ s b, (f s b).2.pending = s.2.pending) : (l.foldl f s).2.pending = s.2.pending := by
  induction l generalizing s with
  | nil => rfl
  | cons b l ih => rw [List.foldl_cons, ih, h]

@[simp] theorem elim_same {α β : Type} (o : Option β) (a : α) : (o.elim a fun _ => a) = a := by
  cases o <;> rfl
@[simp] theorem ite_host (c : Prop) [Decidable c] (a b : State) : (if c then a else b).host = if c then a.host else b.host := apply_ite ..
@[simp] theorem ite_txn (c : Prop) [Decidable c] (a b : State) : (if c then a else b).txn = if c then a.txn else b.txn := apply_ite ..
@[simp] theorem ite_clock (c : Prop) [Decidable c] (a b : State) : (if c then a else b).clock = if c then a.clock else b.clock := apply_ite ..
@[simp] theorem ite_time (c : Prop) [Decidable c] (a b : State) : (if c then a else b).time = if c then a.time else b.time := apply_ite ..
@[simp] theorem ite_icu (c : Prop) [Decidable c] (a b : State) : (if c then a else b).icu = if c then a.icu else b.icu := apply_ite ..
@[simp] theorem ite_render (c : Prop) [Decidable c] (a b : State) : (if c then a else b).render = if c then a.render else b.render := apply_ite ..
@[simp] theorem ite_inputs (c : Prop) [Decidable c] (a b : State) : (if c then a else b).inputs = if c then a.inputs else b.inputs := apply_ite ..
@[simp] theorem ite_meter (c : Prop) [Decidable c] (a b : State) : (if c then a else b).meter = if c then a.meter else b.meter := apply_ite ..
@[simp] theorem ite_ports (c : Prop) [Decidable c] (a b : State) : (if c then a else b).ports = if c then a.ports else b.ports := apply_ite ..
@[simp] theorem ite_net (c : Prop) [Decidable c] (a b : State) : (if c then a else b).net = if c then a.net else b.net := apply_ite ..
@[simp] theorem ite_fns (c : Prop) [Decidable c] (a b : State) : (if c then a else b).fns = if c then a.fns else b.fns := apply_ite ..
@[simp] theorem ite_ecc (c : Prop) [Decidable c] (a b : State) : (if c then a else b).ecc = if c then a.ecc else b.ecc := apply_ite ..
@[simp] theorem ite_queues (c : Prop) [Decidable c] (a b : State) : (if c then a else b).queues = if c then a.queues else b.queues := apply_ite ..
@[simp] theorem ite_group (c : Prop) [Decidable c] (a b : State) : (if c then a else b).group = if c then a.group else b.group := apply_ite ..
@[simp] theorem ite_update (c : Prop) [Decidable c] (a b : State) : (if c then a else b).update = if c then a.update else b.update := apply_ite ..
@[simp] theorem ite_secure (c : Prop) [Decidable c] (a b : State) : (if c then a else b).secure = if c then a.secure else b.secure := apply_ite ..
@[simp] theorem ite_power (c : Prop) [Decidable c] (a b : State) : (if c then a else b).power = if c then a.power else b.power := apply_ite ..
@[simp] theorem ite_mem (c : Prop) [Decidable c] (a b : State) : (if c then a else b).mem = if c then a.mem else b.mem := apply_ite ..
@[simp] theorem ite_freeCtr (c : Prop) [Decidable c] (a b : State) : (if c then a else b).freeCtr = if c then a.freeCtr else b.freeCtr := apply_ite ..
@[simp] theorem ite_out (c : Prop) [Decidable c] (a b : State) : (if c then a else b).out = if c then a.out else b.out := apply_ite ..
@[simp] theorem ite_pending (c : Prop) [Decidable c] (a b : State) : (if c then a else b).pending = if c then a.pending else b.pending := apply_ite ..
@[simp] theorem ite_fst {α β : Type} (c : Prop) [Decidable c] (a b : α × β) : (if c then a else b).1 = if c then a.1 else b.1 := apply_ite ..
@[simp] theorem ite_snd {α β : Type} (c : Prop) [Decidable c] (a b : α × β) : (if c then a else b).2 = if c then a.2 else b.2 := apply_ite ..

/-! ### Shared operations -/

@[simp] theorem State.fresh_frame (s : State) : (s.fresh).2.host = s.host ∧ (s.fresh).2.txn = s.txn ∧ (s.fresh).2.clock = s.clock
      ∧ (s.fresh).2.time = s.time ∧ (s.fresh).2.icu = s.icu ∧ (s.fresh).2.render = s.render ∧ (s.fresh).2.inputs = s.inputs
      ∧ (s.fresh).2.meter = s.meter ∧ (s.fresh).2.ports = s.ports ∧ (s.fresh).2.net = s.net ∧ (s.fresh).2.fns = s.fns
      ∧ (s.fresh).2.ecc = s.ecc ∧ (s.fresh).2.queues = s.queues ∧ (s.fresh).2.group = s.group ∧ (s.fresh).2.update = s.update
      ∧ (s.fresh).2.secure = s.secure ∧ (s.fresh).2.power = s.power ∧ (s.fresh).2.mem = s.mem ∧ (s.fresh).2.out = s.out
      ∧ (s.fresh).2.pending = s.pending := by simp [State.fresh]
@[simp] theorem State.freshes_frame (s : State) (n : Nat) : (s.freshes n).2.host = s.host ∧ (s.freshes n).2.txn = s.txn
      ∧ (s.freshes n).2.clock = s.clock ∧ (s.freshes n).2.time = s.time ∧ (s.freshes n).2.icu = s.icu
      ∧ (s.freshes n).2.render = s.render ∧ (s.freshes n).2.inputs = s.inputs ∧ (s.freshes n).2.meter = s.meter
      ∧ (s.freshes n).2.ports = s.ports ∧ (s.freshes n).2.net = s.net ∧ (s.freshes n).2.fns = s.fns ∧ (s.freshes n).2.ecc = s.ecc
      ∧ (s.freshes n).2.queues = s.queues ∧ (s.freshes n).2.group = s.group ∧ (s.freshes n).2.update = s.update
      ∧ (s.freshes n).2.secure = s.secure ∧ (s.freshes n).2.power = s.power ∧ (s.freshes n).2.mem = s.mem ∧ (s.freshes n).2.out = s.out
      ∧ (s.freshes n).2.pending = s.pending := by simp [State.freshes]
@[simp] theorem State.devEvent_frame (s : State) (b : Nat) : (s.devEvent b).txn = s.txn ∧ (s.devEvent b).clock = s.clock
      ∧ (s.devEvent b).time = s.time ∧ (s.devEvent b).render = s.render ∧ (s.devEvent b).inputs = s.inputs
      ∧ (s.devEvent b).meter = s.meter ∧ (s.devEvent b).ports = s.ports ∧ (s.devEvent b).net = s.net ∧ (s.devEvent b).fns = s.fns
      ∧ (s.devEvent b).ecc = s.ecc ∧ (s.devEvent b).queues = s.queues ∧ (s.devEvent b).group = s.group
      ∧ (s.devEvent b).update = s.update ∧ (s.devEvent b).secure = s.secure ∧ (s.devEvent b).power = s.power
      ∧ (s.devEvent b).mem = s.mem ∧ (s.devEvent b).freeCtr = s.freeCtr ∧ (s.devEvent b).out = s.out
      ∧ (s.devEvent b).pending = s.pending := by simp [State.devEvent]
@[simp] theorem State.watch_frame (s : State) : (s.watch).host = s.host ∧ (s.watch).txn = s.txn ∧ (s.watch).clock = s.clock
      ∧ (s.watch).time = s.time ∧ (s.watch).render = s.render ∧ (s.watch).inputs = s.inputs ∧ (s.watch).meter = s.meter
      ∧ (s.watch).ports = s.ports ∧ (s.watch).net = s.net ∧ (s.watch).fns = s.fns ∧ (s.watch).ecc = s.ecc ∧ (s.watch).group = s.group
      ∧ (s.watch).update = s.update ∧ (s.watch).secure = s.secure ∧ (s.watch).power = s.power ∧ (s.watch).mem = s.mem
      ∧ (s.watch).freeCtr = s.freeCtr ∧ (s.watch).out = s.out ∧ (s.watch).pending = s.pending := by simp [State.watch]
@[simp] theorem State.queueOverflow_frame (s : State) (q : Nat) : (s.queueOverflow q).host = s.host ∧ (s.queueOverflow q).txn = s.txn
      ∧ (s.queueOverflow q).clock = s.clock ∧ (s.queueOverflow q).time = s.time ∧ (s.queueOverflow q).icu = s.icu
      ∧ (s.queueOverflow q).render = s.render ∧ (s.queueOverflow q).inputs = s.inputs ∧ (s.queueOverflow q).meter = s.meter
      ∧ (s.queueOverflow q).ports = s.ports ∧ (s.queueOverflow q).net = s.net ∧ (s.queueOverflow q).fns = s.fns
      ∧ (s.queueOverflow q).ecc = s.ecc ∧ (s.queueOverflow q).group = s.group ∧ (s.queueOverflow q).update = s.update
      ∧ (s.queueOverflow q).secure = s.secure ∧ (s.queueOverflow q).power = s.power ∧ (s.queueOverflow q).mem = s.mem
      ∧ (s.queueOverflow q).freeCtr = s.freeCtr ∧ (s.queueOverflow q).out = s.out ∧ (s.queueOverflow q).pending = s.pending := by
  unfold State.queueOverflow
  try simp
  all_goals ((repeat' split) <;> try simp_all)
@[simp] theorem State.audit_frame (s : State) (event session role status : Nat) (detail : Bytes) :
    (s.audit event session role status detail).host = s.host ∧ (s.audit event session role status detail).txn = s.txn
      ∧ (s.audit event session role status detail).clock = s.clock ∧ (s.audit event session role status detail).time = s.time
      ∧ (s.audit event session role status detail).render = s.render ∧ (s.audit event session role status detail).inputs = s.inputs
      ∧ (s.audit event session role status detail).meter = s.meter ∧ (s.audit event session role status detail).ports = s.ports
      ∧ (s.audit event session role status detail).net = s.net ∧ (s.audit event session role status detail).fns = s.fns
      ∧ (s.audit event session role status detail).ecc = s.ecc ∧ (s.audit event session role status detail).queues = s.queues
      ∧ (s.audit event session role status detail).group = s.group ∧ (s.audit event session role status detail).update = s.update
      ∧ (s.audit event session role status detail).power = s.power ∧ (s.audit event session role status detail).mem = s.mem
      ∧ (s.audit event session role status detail).freeCtr = s.freeCtr ∧ (s.audit event session role status detail).out = s.out
      ∧ (s.audit event session role status detail).pending = s.pending := by simp [State.audit]
@[simp] theorem State.noteDone_frame (s : State) (session tag : Nat) : (s.noteDone session tag).txn = s.txn
      ∧ (s.noteDone session tag).clock = s.clock ∧ (s.noteDone session tag).time = s.time ∧ (s.noteDone session tag).icu = s.icu
      ∧ (s.noteDone session tag).render = s.render ∧ (s.noteDone session tag).inputs = s.inputs
      ∧ (s.noteDone session tag).meter = s.meter ∧ (s.noteDone session tag).ports = s.ports ∧ (s.noteDone session tag).net = s.net
      ∧ (s.noteDone session tag).fns = s.fns ∧ (s.noteDone session tag).ecc = s.ecc ∧ (s.noteDone session tag).queues = s.queues
      ∧ (s.noteDone session tag).group = s.group ∧ (s.noteDone session tag).update = s.update
      ∧ (s.noteDone session tag).secure = s.secure ∧ (s.noteDone session tag).power = s.power ∧ (s.noteDone session tag).mem = s.mem
      ∧ (s.noteDone session tag).freeCtr = s.freeCtr ∧ (s.noteDone session tag).out = s.out
      ∧ (s.noteDone session tag).pending = s.pending := by
  unfold State.noteDone
  (repeat' split) <;> simp
@[simp] theorem State.finish_frame (s : State) (c : Ctx) (orphan : Bool) (r : Reply) : (s.finish c orphan r).txn = s.txn
      ∧ (s.finish c orphan r).clock = s.clock ∧ (s.finish c orphan r).time = s.time ∧ (s.finish c orphan r).render = s.render
      ∧ (s.finish c orphan r).inputs = s.inputs ∧ (s.finish c orphan r).meter = s.meter ∧ (s.finish c orphan r).ports = s.ports
      ∧ (s.finish c orphan r).net = s.net ∧ (s.finish c orphan r).fns = s.fns ∧ (s.finish c orphan r).ecc = s.ecc
      ∧ (s.finish c orphan r).queues = s.queues ∧ (s.finish c orphan r).group = s.group ∧ (s.finish c orphan r).update = s.update
      ∧ (s.finish c orphan r).secure = s.secure ∧ (s.finish c orphan r).power = s.power ∧ (s.finish c orphan r).freeCtr = s.freeCtr
      ∧ (s.finish c orphan r).out = s.out ∧ (s.finish c orphan r).pending = s.pending := by simp [State.finish]
@[simp] theorem State.writeCompletion_frame (s : State) (x : Completion) : (s.writeCompletion x).txn = s.txn
      ∧ (s.writeCompletion x).clock = s.clock ∧ (s.writeCompletion x).time = s.time ∧ (s.writeCompletion x).render = s.render
      ∧ (s.writeCompletion x).inputs = s.inputs ∧ (s.writeCompletion x).meter = s.meter ∧ (s.writeCompletion x).ports = s.ports
      ∧ (s.writeCompletion x).net = s.net ∧ (s.writeCompletion x).fns = s.fns ∧ (s.writeCompletion x).ecc = s.ecc
      ∧ (s.writeCompletion x).queues = s.queues ∧ (s.writeCompletion x).group = s.group ∧ (s.writeCompletion x).update = s.update
      ∧ (s.writeCompletion x).secure = s.secure ∧ (s.writeCompletion x).power = s.power ∧ (s.writeCompletion x).mem = s.mem
      ∧ (s.writeCompletion x).freeCtr = s.freeCtr ∧ (s.writeCompletion x).pending = s.pending := by simp [State.writeCompletion]
@[simp] theorem State.deliver_frame (s : State) (x : Completion) : (s.deliver x).txn = s.txn ∧ (s.deliver x).clock = s.clock
      ∧ (s.deliver x).time = s.time ∧ (s.deliver x).render = s.render ∧ (s.deliver x).inputs = s.inputs ∧ (s.deliver x).meter = s.meter
      ∧ (s.deliver x).ports = s.ports ∧ (s.deliver x).net = s.net ∧ (s.deliver x).fns = s.fns ∧ (s.deliver x).ecc = s.ecc
      ∧ (s.deliver x).queues = s.queues ∧ (s.deliver x).group = s.group ∧ (s.deliver x).update = s.update
      ∧ (s.deliver x).secure = s.secure ∧ (s.deliver x).power = s.power ∧ (s.deliver x).mem = s.mem ∧ (s.deliver x).freeCtr = s.freeCtr
      ∧ (s.deliver x).pending = s.pending := by simp [State.deliver]
@[simp] theorem State.endOp_frame (s : State) (o : Op) (st : Status) (pos : Pos) (resp : Bytes) :
    (s.endOp o st pos resp).txn = s.txn ∧ (s.endOp o st pos resp).clock = s.clock ∧ (s.endOp o st pos resp).time = s.time
      ∧ (s.endOp o st pos resp).render = s.render ∧ (s.endOp o st pos resp).inputs = s.inputs ∧ (s.endOp o st pos resp).meter = s.meter
      ∧ (s.endOp o st pos resp).ports = s.ports ∧ (s.endOp o st pos resp).net = s.net ∧ (s.endOp o st pos resp).fns = s.fns
      ∧ (s.endOp o st pos resp).ecc = s.ecc ∧ (s.endOp o st pos resp).queues = s.queues ∧ (s.endOp o st pos resp).group = s.group
      ∧ (s.endOp o st pos resp).update = s.update ∧ (s.endOp o st pos resp).secure = s.secure ∧ (s.endOp o st pos resp).power = s.power
      ∧ (s.endOp o st pos resp).mem = s.mem ∧ (s.endOp o st pos resp).freeCtr = s.freeCtr ∧ (s.endOp o st pos resp).pending = s.pending := by simp [State.endOp]
@[simp] theorem State.endOpId_frame (s : State) (id : Nat) (st : Status) (pos : Pos) (resp : Bytes) :
    (s.endOpId id st pos resp).txn = s.txn ∧ (s.endOpId id st pos resp).clock = s.clock ∧ (s.endOpId id st pos resp).time = s.time
      ∧ (s.endOpId id st pos resp).render = s.render ∧ (s.endOpId id st pos resp).inputs = s.inputs
      ∧ (s.endOpId id st pos resp).meter = s.meter ∧ (s.endOpId id st pos resp).ports = s.ports ∧ (s.endOpId id st pos resp).net = s.net
      ∧ (s.endOpId id st pos resp).fns = s.fns ∧ (s.endOpId id st pos resp).ecc = s.ecc ∧ (s.endOpId id st pos resp).queues = s.queues
      ∧ (s.endOpId id st pos resp).group = s.group ∧ (s.endOpId id st pos resp).update = s.update
      ∧ (s.endOpId id st pos resp).secure = s.secure ∧ (s.endOpId id st pos resp).power = s.power
      ∧ (s.endOpId id st pos resp).mem = s.mem ∧ (s.endOpId id st pos resp).freeCtr = s.freeCtr
      ∧ (s.endOpId id st pos resp).pending = s.pending := by
  unfold State.endOpId
  (repeat' split) <;> simp
@[simp] theorem State.fail_frame (s : State) (st : Status) : (s.fail st).1.host = s.host ∧ (s.fail st).1.txn = s.txn
      ∧ (s.fail st).1.clock = s.clock ∧ (s.fail st).1.time = s.time ∧ (s.fail st).1.icu = s.icu ∧ (s.fail st).1.render = s.render
      ∧ (s.fail st).1.inputs = s.inputs ∧ (s.fail st).1.meter = s.meter ∧ (s.fail st).1.ports = s.ports ∧ (s.fail st).1.net = s.net
      ∧ (s.fail st).1.fns = s.fns ∧ (s.fail st).1.ecc = s.ecc ∧ (s.fail st).1.queues = s.queues ∧ (s.fail st).1.group = s.group
      ∧ (s.fail st).1.update = s.update ∧ (s.fail st).1.secure = s.secure ∧ (s.fail st).1.power = s.power ∧ (s.fail st).1.mem = s.mem
      ∧ (s.fail st).1.freeCtr = s.freeCtr ∧ (s.fail st).1.out = s.out ∧ (s.fail st).1.pending = s.pending := by simp [State.fail]
@[simp] theorem State.okWith_frame (s : State) (resp : Bytes) : (s.okWith resp).1.host = s.host ∧ (s.okWith resp).1.txn = s.txn
      ∧ (s.okWith resp).1.clock = s.clock ∧ (s.okWith resp).1.time = s.time ∧ (s.okWith resp).1.icu = s.icu
      ∧ (s.okWith resp).1.render = s.render ∧ (s.okWith resp).1.inputs = s.inputs ∧ (s.okWith resp).1.meter = s.meter
      ∧ (s.okWith resp).1.ports = s.ports ∧ (s.okWith resp).1.net = s.net ∧ (s.okWith resp).1.fns = s.fns
      ∧ (s.okWith resp).1.ecc = s.ecc ∧ (s.okWith resp).1.queues = s.queues ∧ (s.okWith resp).1.group = s.group
      ∧ (s.okWith resp).1.update = s.update ∧ (s.okWith resp).1.secure = s.secure ∧ (s.okWith resp).1.power = s.power
      ∧ (s.okWith resp).1.mem = s.mem ∧ (s.okWith resp).1.freeCtr = s.freeCtr ∧ (s.okWith resp).1.out = s.out
      ∧ (s.okWith resp).1.pending = s.pending := by simp [State.okWith]
@[simp] theorem State.ok_frame (s : State) : (s.ok).1.host = s.host ∧ (s.ok).1.txn = s.txn ∧ (s.ok).1.clock = s.clock
      ∧ (s.ok).1.time = s.time ∧ (s.ok).1.icu = s.icu ∧ (s.ok).1.render = s.render ∧ (s.ok).1.inputs = s.inputs
      ∧ (s.ok).1.meter = s.meter ∧ (s.ok).1.ports = s.ports ∧ (s.ok).1.net = s.net ∧ (s.ok).1.fns = s.fns ∧ (s.ok).1.ecc = s.ecc
      ∧ (s.ok).1.queues = s.queues ∧ (s.ok).1.group = s.group ∧ (s.ok).1.update = s.update ∧ (s.ok).1.secure = s.secure
      ∧ (s.ok).1.power = s.power ∧ (s.ok).1.mem = s.mem ∧ (s.ok).1.freeCtr = s.freeCtr ∧ (s.ok).1.out = s.out
      ∧ (s.ok).1.pending = s.pending := by simp [State.ok]
@[simp] theorem State.endSession_frame (s : State) (id cause : Nat) : (s.endSession id cause).clock = s.clock
      ∧ (s.endSession id cause).time = s.time ∧ (s.endSession id cause).render = s.render ∧ (s.endSession id cause).inputs = s.inputs
      ∧ (s.endSession id cause).meter = s.meter ∧ (s.endSession id cause).ports = s.ports ∧ (s.endSession id cause).net = s.net
      ∧ (s.endSession id cause).fns = s.fns ∧ (s.endSession id cause).ecc = s.ecc ∧ (s.endSession id cause).queues = s.queues
      ∧ (s.endSession id cause).group = s.group ∧ (s.endSession id cause).update = s.update ∧ (s.endSession id cause).power = s.power
      ∧ (s.endSession id cause).mem = s.mem ∧ (s.endSession id cause).freeCtr = s.freeCtr ∧ (s.endSession id cause).out = s.out
      ∧ (s.endSession id cause).pending = s.pending := by
  unfold State.endSession
  (repeat' split) <;> simp
@[simp] theorem State.endAllSessions_frame (s : State) (cause : Nat) : (s.endAllSessions cause).clock = s.clock
      ∧ (s.endAllSessions cause).time = s.time ∧ (s.endAllSessions cause).render = s.render ∧ (s.endAllSessions cause).inputs = s.inputs
      ∧ (s.endAllSessions cause).meter = s.meter ∧ (s.endAllSessions cause).ports = s.ports ∧ (s.endAllSessions cause).net = s.net
      ∧ (s.endAllSessions cause).fns = s.fns ∧ (s.endAllSessions cause).ecc = s.ecc ∧ (s.endAllSessions cause).queues = s.queues
      ∧ (s.endAllSessions cause).group = s.group ∧ (s.endAllSessions cause).update = s.update ∧ (s.endAllSessions cause).power = s.power
      ∧ (s.endAllSessions cause).mem = s.mem ∧ (s.endAllSessions cause).freeCtr = s.freeCtr ∧ (s.endAllSessions cause).out = s.out
      ∧ (s.endAllSessions cause).pending = s.pending := by simp [State.endAllSessions]
@[simp] theorem State.pumpLink_frame (s : State) (l : Nat) : (s.pumpLink l).host = s.host ∧ (s.pumpLink l).txn = s.txn
      ∧ (s.pumpLink l).clock = s.clock ∧ (s.pumpLink l).time = s.time ∧ (s.pumpLink l).icu = s.icu ∧ (s.pumpLink l).render = s.render
      ∧ (s.pumpLink l).inputs = s.inputs ∧ (s.pumpLink l).meter = s.meter ∧ (s.pumpLink l).ports = s.ports ∧ (s.pumpLink l).net = s.net
      ∧ (s.pumpLink l).fns = s.fns ∧ (s.pumpLink l).ecc = s.ecc ∧ (s.pumpLink l).queues = s.queues ∧ (s.pumpLink l).update = s.update
      ∧ (s.pumpLink l).secure = s.secure ∧ (s.pumpLink l).power = s.power ∧ (s.pumpLink l).mem = s.mem
      ∧ (s.pumpLink l).freeCtr = s.freeCtr ∧ (s.pumpLink l).pending = s.pending := by simp [State.pumpLink]
@[simp] theorem State.queueFrame_frame (s : State) (l : Nat) (f : ZlkData) : (s.queueFrame l f).host = s.host
      ∧ (s.queueFrame l f).txn = s.txn ∧ (s.queueFrame l f).clock = s.clock ∧ (s.queueFrame l f).time = s.time
      ∧ (s.queueFrame l f).icu = s.icu ∧ (s.queueFrame l f).render = s.render ∧ (s.queueFrame l f).inputs = s.inputs
      ∧ (s.queueFrame l f).meter = s.meter ∧ (s.queueFrame l f).ports = s.ports ∧ (s.queueFrame l f).net = s.net
      ∧ (s.queueFrame l f).fns = s.fns ∧ (s.queueFrame l f).ecc = s.ecc ∧ (s.queueFrame l f).queues = s.queues
      ∧ (s.queueFrame l f).update = s.update ∧ (s.queueFrame l f).secure = s.secure ∧ (s.queueFrame l f).power = s.power
      ∧ (s.queueFrame l f).mem = s.mem ∧ (s.queueFrame l f).freeCtr = s.freeCtr ∧ (s.queueFrame l f).pending = s.pending := by simp [State.queueFrame]
@[simp] theorem State.gsend_frame (s : State) (dest chan : Nat) (m : GroupMsg) : (s.gsend dest chan m).host = s.host
      ∧ (s.gsend dest chan m).txn = s.txn ∧ (s.gsend dest chan m).clock = s.clock ∧ (s.gsend dest chan m).time = s.time
      ∧ (s.gsend dest chan m).icu = s.icu ∧ (s.gsend dest chan m).render = s.render ∧ (s.gsend dest chan m).inputs = s.inputs
      ∧ (s.gsend dest chan m).meter = s.meter ∧ (s.gsend dest chan m).ports = s.ports ∧ (s.gsend dest chan m).net = s.net
      ∧ (s.gsend dest chan m).fns = s.fns ∧ (s.gsend dest chan m).ecc = s.ecc ∧ (s.gsend dest chan m).queues = s.queues
      ∧ (s.gsend dest chan m).update = s.update ∧ (s.gsend dest chan m).secure = s.secure ∧ (s.gsend dest chan m).power = s.power
      ∧ (s.gsend dest chan m).mem = s.mem ∧ (s.gsend dest chan m).freeCtr = s.freeCtr ∧ (s.gsend dest chan m).pending = s.pending := by
  unfold State.gsend
  (repeat' split) <;> simp
@[simp] theorem State.flood_frame (s : State) (f : ZlkData) (except_ : Option Nat) : (s.flood f except_).host = s.host
      ∧ (s.flood f except_).txn = s.txn ∧ (s.flood f except_).clock = s.clock ∧ (s.flood f except_).time = s.time
      ∧ (s.flood f except_).icu = s.icu ∧ (s.flood f except_).render = s.render ∧ (s.flood f except_).inputs = s.inputs
      ∧ (s.flood f except_).meter = s.meter ∧ (s.flood f except_).ports = s.ports ∧ (s.flood f except_).net = s.net
      ∧ (s.flood f except_).fns = s.fns ∧ (s.flood f except_).ecc = s.ecc ∧ (s.flood f except_).queues = s.queues
      ∧ (s.flood f except_).update = s.update ∧ (s.flood f except_).secure = s.secure ∧ (s.flood f except_).power = s.power
      ∧ (s.flood f except_).mem = s.mem ∧ (s.flood f except_).freeCtr = s.freeCtr ∧ (s.flood f except_).pending = s.pending := by simp [State.flood]
@[simp] theorem State.gcast_frame (s : State) (chan : Nat) (m : GroupMsg) : (s.gcast chan m).host = s.host
      ∧ (s.gcast chan m).txn = s.txn ∧ (s.gcast chan m).clock = s.clock ∧ (s.gcast chan m).time = s.time ∧ (s.gcast chan m).icu = s.icu
      ∧ (s.gcast chan m).render = s.render ∧ (s.gcast chan m).inputs = s.inputs ∧ (s.gcast chan m).meter = s.meter
      ∧ (s.gcast chan m).ports = s.ports ∧ (s.gcast chan m).net = s.net ∧ (s.gcast chan m).fns = s.fns ∧ (s.gcast chan m).ecc = s.ecc
      ∧ (s.gcast chan m).queues = s.queues ∧ (s.gcast chan m).update = s.update ∧ (s.gcast chan m).secure = s.secure
      ∧ (s.gcast chan m).power = s.power ∧ (s.gcast chan m).mem = s.mem ∧ (s.gcast chan m).freeCtr = s.freeCtr
      ∧ (s.gcast chan m).pending = s.pending := by simp [State.gcast]
@[simp] theorem State.sendTime_frame (s : State) (l : Nat) : (s.sendTime l).host = s.host ∧ (s.sendTime l).txn = s.txn
      ∧ (s.sendTime l).clock = s.clock ∧ (s.sendTime l).time = s.time ∧ (s.sendTime l).icu = s.icu ∧ (s.sendTime l).render = s.render
      ∧ (s.sendTime l).inputs = s.inputs ∧ (s.sendTime l).meter = s.meter ∧ (s.sendTime l).ports = s.ports ∧ (s.sendTime l).net = s.net
      ∧ (s.sendTime l).fns = s.fns ∧ (s.sendTime l).ecc = s.ecc ∧ (s.sendTime l).queues = s.queues ∧ (s.sendTime l).update = s.update
      ∧ (s.sendTime l).secure = s.secure ∧ (s.sendTime l).power = s.power ∧ (s.sendTime l).mem = s.mem
      ∧ (s.sendTime l).freeCtr = s.freeCtr ∧ (s.sendTime l).pending = s.pending := by simp [State.sendTime]
@[simp] theorem State.linkDown_frame (s : State) (l : Nat) (next : ZlkPhase) : (s.linkDown l next).host = s.host
      ∧ (s.linkDown l next).txn = s.txn ∧ (s.linkDown l next).clock = s.clock ∧ (s.linkDown l next).time = s.time
      ∧ (s.linkDown l next).render = s.render ∧ (s.linkDown l next).inputs = s.inputs ∧ (s.linkDown l next).meter = s.meter
      ∧ (s.linkDown l next).ports = s.ports ∧ (s.linkDown l next).net = s.net ∧ (s.linkDown l next).fns = s.fns
      ∧ (s.linkDown l next).ecc = s.ecc ∧ (s.linkDown l next).queues = s.queues ∧ (s.linkDown l next).update = s.update
      ∧ (s.linkDown l next).secure = s.secure ∧ (s.linkDown l next).power = s.power ∧ (s.linkDown l next).mem = s.mem
      ∧ (s.linkDown l next).freeCtr = s.freeCtr ∧ (s.linkDown l next).out = s.out ∧ (s.linkDown l next).pending = s.pending := by simp [State.linkDown]
@[simp] theorem State.resend_frame (s : State) (l : Nat) : (s.resend l).host = s.host ∧ (s.resend l).txn = s.txn
      ∧ (s.resend l).clock = s.clock ∧ (s.resend l).time = s.time ∧ (s.resend l).render = s.render ∧ (s.resend l).inputs = s.inputs
      ∧ (s.resend l).meter = s.meter ∧ (s.resend l).ports = s.ports ∧ (s.resend l).net = s.net ∧ (s.resend l).fns = s.fns
      ∧ (s.resend l).ecc = s.ecc ∧ (s.resend l).queues = s.queues ∧ (s.resend l).update = s.update ∧ (s.resend l).secure = s.secure
      ∧ (s.resend l).power = s.power ∧ (s.resend l).mem = s.mem ∧ (s.resend l).freeCtr = s.freeCtr ∧ (s.resend l).pending = s.pending := by simp [State.resend]
@[simp] theorem State.stageWrite_frame (s : State) (slot : Nat) (t : TxnSlot) (db : Pos) (w : ShowWrite) :
    (s.stageWrite slot t db w).1.host = s.host ∧ (s.stageWrite slot t db w).1.clock = s.clock
      ∧ (s.stageWrite slot t db w).1.time = s.time ∧ (s.stageWrite slot t db w).1.icu = s.icu
      ∧ (s.stageWrite slot t db w).1.render = s.render ∧ (s.stageWrite slot t db w).1.inputs = s.inputs
      ∧ (s.stageWrite slot t db w).1.meter = s.meter ∧ (s.stageWrite slot t db w).1.ports = s.ports
      ∧ (s.stageWrite slot t db w).1.net = s.net ∧ (s.stageWrite slot t db w).1.fns = s.fns ∧ (s.stageWrite slot t db w).1.ecc = s.ecc
      ∧ (s.stageWrite slot t db w).1.queues = s.queues ∧ (s.stageWrite slot t db w).1.group = s.group
      ∧ (s.stageWrite slot t db w).1.update = s.update ∧ (s.stageWrite slot t db w).1.secure = s.secure
      ∧ (s.stageWrite slot t db w).1.power = s.power ∧ (s.stageWrite slot t db w).1.mem = s.mem
      ∧ (s.stageWrite slot t db w).1.freeCtr = s.freeCtr ∧ (s.stageWrite slot t db w).1.out = s.out
      ∧ (s.stageWrite slot t db w).1.pending = s.pending := by simp [State.stageWrite]
@[simp] theorem State.stageDone_frame (s : State) (code id : Nat) (poison : Bool) : (s.stageDone code id poison).clock = s.clock
      ∧ (s.stageDone code id poison).time = s.time ∧ (s.stageDone code id poison).render = s.render
      ∧ (s.stageDone code id poison).inputs = s.inputs ∧ (s.stageDone code id poison).meter = s.meter
      ∧ (s.stageDone code id poison).ports = s.ports ∧ (s.stageDone code id poison).net = s.net
      ∧ (s.stageDone code id poison).fns = s.fns ∧ (s.stageDone code id poison).ecc = s.ecc
      ∧ (s.stageDone code id poison).queues = s.queues ∧ (s.stageDone code id poison).group = s.group
      ∧ (s.stageDone code id poison).update = s.update ∧ (s.stageDone code id poison).secure = s.secure
      ∧ (s.stageDone code id poison).power = s.power ∧ (s.stageDone code id poison).mem = s.mem
      ∧ (s.stageDone code id poison).freeCtr = s.freeCtr ∧ (s.stageDone code id poison).pending = s.pending := by
  unfold State.stageDone
  (repeat' split) <;> simp
@[simp] theorem State.dropTxn_frame (s : State) (slot : Nat) : (s.dropTxn slot).host = s.host ∧ (s.dropTxn slot).clock = s.clock
      ∧ (s.dropTxn slot).time = s.time ∧ (s.dropTxn slot).icu = s.icu ∧ (s.dropTxn slot).render = s.render
      ∧ (s.dropTxn slot).inputs = s.inputs ∧ (s.dropTxn slot).meter = s.meter ∧ (s.dropTxn slot).ports = s.ports
      ∧ (s.dropTxn slot).net = s.net ∧ (s.dropTxn slot).fns = s.fns ∧ (s.dropTxn slot).ecc = s.ecc ∧ (s.dropTxn slot).queues = s.queues
      ∧ (s.dropTxn slot).group = s.group ∧ (s.dropTxn slot).update = s.update ∧ (s.dropTxn slot).secure = s.secure
      ∧ (s.dropTxn slot).power = s.power ∧ (s.dropTxn slot).mem = s.mem ∧ (s.dropTxn slot).freeCtr = s.freeCtr
      ∧ (s.dropTxn slot).out = s.out ∧ (s.dropTxn slot).pending = s.pending := by simp [State.dropTxn]
@[simp] theorem State.markCommitted_frame (s : State) (slot : Nat) (t : TxnSlot) (op gseq target : Nat) :
    (s.markCommitted slot t op gseq target).host = s.host ∧ (s.markCommitted slot t op gseq target).clock = s.clock
      ∧ (s.markCommitted slot t op gseq target).time = s.time ∧ (s.markCommitted slot t op gseq target).icu = s.icu
      ∧ (s.markCommitted slot t op gseq target).render = s.render ∧ (s.markCommitted slot t op gseq target).inputs = s.inputs
      ∧ (s.markCommitted slot t op gseq target).meter = s.meter ∧ (s.markCommitted slot t op gseq target).ports = s.ports
      ∧ (s.markCommitted slot t op gseq target).net = s.net ∧ (s.markCommitted slot t op gseq target).fns = s.fns
      ∧ (s.markCommitted slot t op gseq target).ecc = s.ecc ∧ (s.markCommitted slot t op gseq target).queues = s.queues
      ∧ (s.markCommitted slot t op gseq target).update = s.update ∧ (s.markCommitted slot t op gseq target).secure = s.secure
      ∧ (s.markCommitted slot t op gseq target).power = s.power ∧ (s.markCommitted slot t op gseq target).mem = s.mem
      ∧ (s.markCommitted slot t op gseq target).freeCtr = s.freeCtr ∧ (s.markCommitted slot t op gseq target).out = s.out
      ∧ (s.markCommitted slot t op gseq target).pending = s.pending := by simp [State.markCommitted]
@[simp] theorem State.takeCommit_frame (s : State) (slot : Nat) (t : TxnSlot) (op target : Nat) :
    (s.takeCommit slot t op target).host = s.host ∧ (s.takeCommit slot t op target).clock = s.clock
      ∧ (s.takeCommit slot t op target).time = s.time ∧ (s.takeCommit slot t op target).icu = s.icu
      ∧ (s.takeCommit slot t op target).render = s.render ∧ (s.takeCommit slot t op target).inputs = s.inputs
      ∧ (s.takeCommit slot t op target).meter = s.meter ∧ (s.takeCommit slot t op target).ports = s.ports
      ∧ (s.takeCommit slot t op target).net = s.net ∧ (s.takeCommit slot t op target).fns = s.fns
      ∧ (s.takeCommit slot t op target).ecc = s.ecc ∧ (s.takeCommit slot t op target).queues = s.queues
      ∧ (s.takeCommit slot t op target).update = s.update ∧ (s.takeCommit slot t op target).secure = s.secure
      ∧ (s.takeCommit slot t op target).power = s.power ∧ (s.takeCommit slot t op target).mem = s.mem
      ∧ (s.takeCommit slot t op target).freeCtr = s.freeCtr ∧ (s.takeCommit slot t op target).pending = s.pending := by simp [State.takeCommit]
@[simp] theorem State.remoteCommit_frame (s : State) (gseq target : Nat) (ws : List ShowWrite) :
    (s.remoteCommit gseq target ws).host = s.host ∧ (s.remoteCommit gseq target ws).clock = s.clock
      ∧ (s.remoteCommit gseq target ws).time = s.time ∧ (s.remoteCommit gseq target ws).icu = s.icu
      ∧ (s.remoteCommit gseq target ws).render = s.render ∧ (s.remoteCommit gseq target ws).inputs = s.inputs
      ∧ (s.remoteCommit gseq target ws).meter = s.meter ∧ (s.remoteCommit gseq target ws).ports = s.ports
      ∧ (s.remoteCommit gseq target ws).net = s.net ∧ (s.remoteCommit gseq target ws).fns = s.fns
      ∧ (s.remoteCommit gseq target ws).ecc = s.ecc ∧ (s.remoteCommit gseq target ws).queues = s.queues
      ∧ (s.remoteCommit gseq target ws).update = s.update ∧ (s.remoteCommit gseq target ws).secure = s.secure
      ∧ (s.remoteCommit gseq target ws).power = s.power ∧ (s.remoteCommit gseq target ws).mem = s.mem
      ∧ (s.remoteCommit gseq target ws).freeCtr = s.freeCtr ∧ (s.remoteCommit gseq target ws).out = s.out
      ∧ (s.remoteCommit gseq target ws).pending = s.pending := by simp [State.remoteCommit]
@[simp] theorem State.setCommit_frame (s : State) (slot : Nat) (t : TxnSlot) (k : Commit) :
    (s.setCommit slot t k).host = s.host ∧ (s.setCommit slot t k).clock = s.clock ∧ (s.setCommit slot t k).time = s.time
      ∧ (s.setCommit slot t k).icu = s.icu ∧ (s.setCommit slot t k).render = s.render ∧ (s.setCommit slot t k).inputs = s.inputs
      ∧ (s.setCommit slot t k).meter = s.meter ∧ (s.setCommit slot t k).ports = s.ports ∧ (s.setCommit slot t k).net = s.net
      ∧ (s.setCommit slot t k).fns = s.fns ∧ (s.setCommit slot t k).ecc = s.ecc ∧ (s.setCommit slot t k).queues = s.queues
      ∧ (s.setCommit slot t k).group = s.group ∧ (s.setCommit slot t k).update = s.update ∧ (s.setCommit slot t k).secure = s.secure
      ∧ (s.setCommit slot t k).power = s.power ∧ (s.setCommit slot t k).mem = s.mem ∧ (s.setCommit slot t k).freeCtr = s.freeCtr
      ∧ (s.setCommit slot t k).out = s.out ∧ (s.setCommit slot t k).pending = s.pending := by simp [State.setCommit]
@[simp] theorem State.pickSlot_frame (s : State) (free : List Nat) : (s.pickSlot free).2.host = s.host ∧ (s.pickSlot free).2.txn = s.txn
      ∧ (s.pickSlot free).2.clock = s.clock ∧ (s.pickSlot free).2.time = s.time ∧ (s.pickSlot free).2.icu = s.icu
      ∧ (s.pickSlot free).2.render = s.render ∧ (s.pickSlot free).2.inputs = s.inputs ∧ (s.pickSlot free).2.meter = s.meter
      ∧ (s.pickSlot free).2.ports = s.ports ∧ (s.pickSlot free).2.net = s.net ∧ (s.pickSlot free).2.fns = s.fns
      ∧ (s.pickSlot free).2.ecc = s.ecc ∧ (s.pickSlot free).2.queues = s.queues ∧ (s.pickSlot free).2.group = s.group
      ∧ (s.pickSlot free).2.update = s.update ∧ (s.pickSlot free).2.secure = s.secure ∧ (s.pickSlot free).2.power = s.power
      ∧ (s.pickSlot free).2.mem = s.mem ∧ (s.pickSlot free).2.out = s.out ∧ (s.pickSlot free).2.pending = s.pending := by simp [State.pickSlot]
@[simp] theorem State.pruneEpochs_frame (s : State) : (s.pruneEpochs).host = s.host ∧ (s.pruneEpochs).clock = s.clock
      ∧ (s.pruneEpochs).time = s.time ∧ (s.pruneEpochs).icu = s.icu ∧ (s.pruneEpochs).render = s.render
      ∧ (s.pruneEpochs).inputs = s.inputs ∧ (s.pruneEpochs).meter = s.meter ∧ (s.pruneEpochs).ports = s.ports
      ∧ (s.pruneEpochs).net = s.net ∧ (s.pruneEpochs).fns = s.fns ∧ (s.pruneEpochs).ecc = s.ecc ∧ (s.pruneEpochs).queues = s.queues
      ∧ (s.pruneEpochs).group = s.group ∧ (s.pruneEpochs).update = s.update ∧ (s.pruneEpochs).secure = s.secure
      ∧ (s.pruneEpochs).power = s.power ∧ (s.pruneEpochs).mem = s.mem ∧ (s.pruneEpochs).freeCtr = s.freeCtr
      ∧ (s.pruneEpochs).out = s.out ∧ (s.pruneEpochs).pending = s.pending := by simp [State.pruneEpochs]
@[simp] theorem State.commitFails_frame (s : State) (slot : Nat) (t : TxnSlot) (k : Commit) (st : Status) :
    (s.commitFails slot t k st).clock = s.clock ∧ (s.commitFails slot t k st).time = s.time
      ∧ (s.commitFails slot t k st).render = s.render ∧ (s.commitFails slot t k st).inputs = s.inputs
      ∧ (s.commitFails slot t k st).meter = s.meter ∧ (s.commitFails slot t k st).ports = s.ports
      ∧ (s.commitFails slot t k st).net = s.net ∧ (s.commitFails slot t k st).fns = s.fns ∧ (s.commitFails slot t k st).ecc = s.ecc
      ∧ (s.commitFails slot t k st).queues = s.queues ∧ (s.commitFails slot t k st).group = s.group
      ∧ (s.commitFails slot t k st).update = s.update ∧ (s.commitFails slot t k st).secure = s.secure
      ∧ (s.commitFails slot t k st).power = s.power ∧ (s.commitFails slot t k st).mem = s.mem
      ∧ (s.commitFails slot t k st).freeCtr = s.freeCtr ∧ (s.commitFails slot t k st).pending = s.pending := by simp [State.commitFails]
@[simp] theorem State.queueCorrected_frame (s : State) (mem : Nat) : (s.queueCorrected mem).host = s.host
      ∧ (s.queueCorrected mem).txn = s.txn ∧ (s.queueCorrected mem).clock = s.clock ∧ (s.queueCorrected mem).time = s.time
      ∧ (s.queueCorrected mem).render = s.render ∧ (s.queueCorrected mem).inputs = s.inputs ∧ (s.queueCorrected mem).meter = s.meter
      ∧ (s.queueCorrected mem).ports = s.ports ∧ (s.queueCorrected mem).net = s.net ∧ (s.queueCorrected mem).fns = s.fns
      ∧ (s.queueCorrected mem).group = s.group ∧ (s.queueCorrected mem).update = s.update ∧ (s.queueCorrected mem).secure = s.secure
      ∧ (s.queueCorrected mem).power = s.power ∧ (s.queueCorrected mem).out = s.out ∧ (s.queueCorrected mem).pending = s.pending := by
  unfold State.queueCorrected
  try simp
  all_goals ((repeat' split) <;> try simp_all)
@[simp] theorem State.corrected_frame (s : State) (w syndrome : Nat) : (s.corrected w syndrome).host = s.host
      ∧ (s.corrected w syndrome).txn = s.txn ∧ (s.corrected w syndrome).clock = s.clock ∧ (s.corrected w syndrome).time = s.time
      ∧ (s.corrected w syndrome).render = s.render ∧ (s.corrected w syndrome).inputs = s.inputs
      ∧ (s.corrected w syndrome).meter = s.meter ∧ (s.corrected w syndrome).ports = s.ports ∧ (s.corrected w syndrome).net = s.net
      ∧ (s.corrected w syndrome).fns = s.fns ∧ (s.corrected w syndrome).group = s.group ∧ (s.corrected w syndrome).update = s.update
      ∧ (s.corrected w syndrome).secure = s.secure ∧ (s.corrected w syndrome).power = s.power ∧ (s.corrected w syndrome).out = s.out
      ∧ (s.corrected w syndrome).pending = s.pending := by
  unfold State.corrected
  try simp
  all_goals ((repeat' split) <;> try simp_all)
@[simp] theorem State.poisonWord_frame (s : State) (w syndrome : Nat) : (s.poisonWord w syndrome).host = s.host
      ∧ (s.poisonWord w syndrome).txn = s.txn ∧ (s.poisonWord w syndrome).clock = s.clock ∧ (s.poisonWord w syndrome).time = s.time
      ∧ (s.poisonWord w syndrome).render = s.render ∧ (s.poisonWord w syndrome).inputs = s.inputs
      ∧ (s.poisonWord w syndrome).meter = s.meter ∧ (s.poisonWord w syndrome).ports = s.ports ∧ (s.poisonWord w syndrome).net = s.net
      ∧ (s.poisonWord w syndrome).fns = s.fns ∧ (s.poisonWord w syndrome).queues = s.queues ∧ (s.poisonWord w syndrome).group = s.group
      ∧ (s.poisonWord w syndrome).update = s.update ∧ (s.poisonWord w syndrome).secure = s.secure
      ∧ (s.poisonWord w syndrome).power = s.power ∧ (s.poisonWord w syndrome).mem = s.mem
      ∧ (s.poisonWord w syndrome).freeCtr = s.freeCtr ∧ (s.poisonWord w syndrome).out = s.out
      ∧ (s.poisonWord w syndrome).pending = s.pending := by simp [State.poisonWord]
@[simp] theorem State.readWord_frame (s : State) (w found syndrome : Nat) : (s.readWord w found syndrome).host = s.host
      ∧ (s.readWord w found syndrome).txn = s.txn ∧ (s.readWord w found syndrome).clock = s.clock
      ∧ (s.readWord w found syndrome).time = s.time ∧ (s.readWord w found syndrome).render = s.render
      ∧ (s.readWord w found syndrome).inputs = s.inputs ∧ (s.readWord w found syndrome).meter = s.meter
      ∧ (s.readWord w found syndrome).ports = s.ports ∧ (s.readWord w found syndrome).net = s.net
      ∧ (s.readWord w found syndrome).fns = s.fns ∧ (s.readWord w found syndrome).group = s.group
      ∧ (s.readWord w found syndrome).update = s.update ∧ (s.readWord w found syndrome).secure = s.secure
      ∧ (s.readWord w found syndrome).power = s.power ∧ (s.readWord w found syndrome).out = s.out
      ∧ (s.readWord w found syndrome).pending = s.pending := by
  unfold State.readWord
  try simp
  all_goals ((repeat' split) <;> try simp_all)
@[simp] theorem State.memWritten_frame (s : State) (mem : Nat) : (s.memWritten mem).host = s.host ∧ (s.memWritten mem).txn = s.txn
      ∧ (s.memWritten mem).clock = s.clock ∧ (s.memWritten mem).time = s.time ∧ (s.memWritten mem).icu = s.icu
      ∧ (s.memWritten mem).render = s.render ∧ (s.memWritten mem).inputs = s.inputs ∧ (s.memWritten mem).meter = s.meter
      ∧ (s.memWritten mem).ports = s.ports ∧ (s.memWritten mem).net = s.net ∧ (s.memWritten mem).fns = s.fns
      ∧ (s.memWritten mem).queues = s.queues ∧ (s.memWritten mem).group = s.group ∧ (s.memWritten mem).update = s.update
      ∧ (s.memWritten mem).secure = s.secure ∧ (s.memWritten mem).power = s.power ∧ (s.memWritten mem).mem = s.mem
      ∧ (s.memWritten mem).out = s.out ∧ (s.memWritten mem).pending = s.pending := by simp [State.memWritten]
@[simp] theorem State.eccWrite_frame (s : State) (off size v : Nat) : (s.eccWrite off size v).host = s.host
      ∧ (s.eccWrite off size v).txn = s.txn ∧ (s.eccWrite off size v).clock = s.clock ∧ (s.eccWrite off size v).time = s.time
      ∧ (s.eccWrite off size v).icu = s.icu ∧ (s.eccWrite off size v).render = s.render ∧ (s.eccWrite off size v).inputs = s.inputs
      ∧ (s.eccWrite off size v).meter = s.meter ∧ (s.eccWrite off size v).ports = s.ports ∧ (s.eccWrite off size v).net = s.net
      ∧ (s.eccWrite off size v).fns = s.fns ∧ (s.eccWrite off size v).queues = s.queues ∧ (s.eccWrite off size v).group = s.group
      ∧ (s.eccWrite off size v).update = s.update ∧ (s.eccWrite off size v).secure = s.secure ∧ (s.eccWrite off size v).power = s.power
      ∧ (s.eccWrite off size v).mem = s.mem ∧ (s.eccWrite off size v).freeCtr = s.freeCtr ∧ (s.eccWrite off size v).out = s.out
      ∧ (s.eccWrite off size v).pending = s.pending := by simp [State.eccWrite]
@[simp] theorem State.endEntry_frame (s : State) (r code : Nat) (d : BulkDesc) : (s.endEntry r code d).txn = s.txn
      ∧ (s.endEntry r code d).clock = s.clock ∧ (s.endEntry r code d).time = s.time ∧ (s.endEntry r code d).render = s.render
      ∧ (s.endEntry r code d).inputs = s.inputs ∧ (s.endEntry r code d).meter = s.meter ∧ (s.endEntry r code d).ports = s.ports
      ∧ (s.endEntry r code d).net = s.net ∧ (s.endEntry r code d).fns = s.fns ∧ (s.endEntry r code d).ecc = s.ecc
      ∧ (s.endEntry r code d).queues = s.queues ∧ (s.endEntry r code d).group = s.group ∧ (s.endEntry r code d).update = s.update
      ∧ (s.endEntry r code d).secure = s.secure ∧ (s.endEntry r code d).power = s.power ∧ (s.endEntry r code d).mem = s.mem
      ∧ (s.endEntry r code d).freeCtr = s.freeCtr ∧ (s.endEntry r code d).pending = s.pending := by simp [State.endEntry]
@[simp] theorem State.rxMark_frame (s : State) (k before : Nat) : (s.rxMark k before).host = s.host ∧ (s.rxMark k before).txn = s.txn
      ∧ (s.rxMark k before).clock = s.clock ∧ (s.rxMark k before).time = s.time ∧ (s.rxMark k before).render = s.render
      ∧ (s.rxMark k before).inputs = s.inputs ∧ (s.rxMark k before).meter = s.meter ∧ (s.rxMark k before).ports = s.ports
      ∧ (s.rxMark k before).fns = s.fns ∧ (s.rxMark k before).ecc = s.ecc ∧ (s.rxMark k before).queues = s.queues
      ∧ (s.rxMark k before).group = s.group ∧ (s.rxMark k before).update = s.update ∧ (s.rxMark k before).secure = s.secure
      ∧ (s.rxMark k before).power = s.power ∧ (s.rxMark k before).mem = s.mem ∧ (s.rxMark k before).freeCtr = s.freeCtr
      ∧ (s.rxMark k before).out = s.out ∧ (s.rxMark k before).pending = s.pending := by simp [State.rxMark]
@[simp] theorem State.rngBaseWrite_frame (s : State) (r : Nat) (v : BitVec 64) : (s.rngBaseWrite r v).txn = s.txn
      ∧ (s.rngBaseWrite r v).clock = s.clock ∧ (s.rngBaseWrite r v).time = s.time ∧ (s.rngBaseWrite r v).icu = s.icu
      ∧ (s.rngBaseWrite r v).render = s.render ∧ (s.rngBaseWrite r v).inputs = s.inputs ∧ (s.rngBaseWrite r v).meter = s.meter
      ∧ (s.rngBaseWrite r v).ports = s.ports ∧ (s.rngBaseWrite r v).net = s.net ∧ (s.rngBaseWrite r v).fns = s.fns
      ∧ (s.rngBaseWrite r v).ecc = s.ecc ∧ (s.rngBaseWrite r v).queues = s.queues ∧ (s.rngBaseWrite r v).group = s.group
      ∧ (s.rngBaseWrite r v).update = s.update ∧ (s.rngBaseWrite r v).secure = s.secure ∧ (s.rngBaseWrite r v).power = s.power
      ∧ (s.rngBaseWrite r v).mem = s.mem ∧ (s.rngBaseWrite r v).freeCtr = s.freeCtr ∧ (s.rngBaseWrite r v).out = s.out
      ∧ (s.rngBaseWrite r v).pending = s.pending := by simp [State.rngBaseWrite]
@[simp] theorem State.pendSet_frame (s : State) (p v : Nat) : (s.pendSet p v).host = s.host ∧ (s.pendSet p v).txn = s.txn
      ∧ (s.pendSet p v).clock = s.clock ∧ (s.pendSet p v).time = s.time ∧ (s.pendSet p v).render = s.render
      ∧ (s.pendSet p v).inputs = s.inputs ∧ (s.pendSet p v).meter = s.meter ∧ (s.pendSet p v).ports = s.ports
      ∧ (s.pendSet p v).net = s.net ∧ (s.pendSet p v).fns = s.fns ∧ (s.pendSet p v).ecc = s.ecc ∧ (s.pendSet p v).queues = s.queues
      ∧ (s.pendSet p v).group = s.group ∧ (s.pendSet p v).update = s.update ∧ (s.pendSet p v).secure = s.secure
      ∧ (s.pendSet p v).power = s.power ∧ (s.pendSet p v).mem = s.mem ∧ (s.pendSet p v).freeCtr = s.freeCtr
      ∧ (s.pendSet p v).out = s.out ∧ (s.pendSet p v).pending = s.pending := by simp [State.pendSet]
@[simp] theorem State.pendClear_frame (s : State) (p v : Nat) : (s.pendClear p v).host = s.host ∧ (s.pendClear p v).txn = s.txn
      ∧ (s.pendClear p v).clock = s.clock ∧ (s.pendClear p v).time = s.time ∧ (s.pendClear p v).render = s.render
      ∧ (s.pendClear p v).inputs = s.inputs ∧ (s.pendClear p v).meter = s.meter ∧ (s.pendClear p v).ports = s.ports
      ∧ (s.pendClear p v).net = s.net ∧ (s.pendClear p v).fns = s.fns ∧ (s.pendClear p v).ecc = s.ecc
      ∧ (s.pendClear p v).queues = s.queues ∧ (s.pendClear p v).group = s.group ∧ (s.pendClear p v).update = s.update
      ∧ (s.pendClear p v).secure = s.secure ∧ (s.pendClear p v).power = s.power ∧ (s.pendClear p v).mem = s.mem
      ∧ (s.pendClear p v).freeCtr = s.freeCtr ∧ (s.pendClear p v).out = s.out ∧ (s.pendClear p v).pending = s.pending := by simp [State.pendClear]
@[simp] theorem State.icuClaim_frame (s : State) (t : Nat) : (s.icuClaim t).txn = s.txn ∧ (s.icuClaim t).clock = s.clock
      ∧ (s.icuClaim t).time = s.time ∧ (s.icuClaim t).render = s.render ∧ (s.icuClaim t).inputs = s.inputs
      ∧ (s.icuClaim t).meter = s.meter ∧ (s.icuClaim t).ports = s.ports ∧ (s.icuClaim t).net = s.net ∧ (s.icuClaim t).fns = s.fns
      ∧ (s.icuClaim t).ecc = s.ecc ∧ (s.icuClaim t).queues = s.queues ∧ (s.icuClaim t).group = s.group
      ∧ (s.icuClaim t).update = s.update ∧ (s.icuClaim t).secure = s.secure ∧ (s.icuClaim t).power = s.power
      ∧ (s.icuClaim t).mem = s.mem ∧ (s.icuClaim t).freeCtr = s.freeCtr ∧ (s.icuClaim t).out = s.out
      ∧ (s.icuClaim t).pending = s.pending := by simp [State.icuClaim]
@[simp] theorem State.icuComplete_frame (s : State) (t v : Nat) : (s.icuComplete t v).host = s.host ∧ (s.icuComplete t v).txn = s.txn
      ∧ (s.icuComplete t v).clock = s.clock ∧ (s.icuComplete t v).time = s.time ∧ (s.icuComplete t v).render = s.render
      ∧ (s.icuComplete t v).inputs = s.inputs ∧ (s.icuComplete t v).meter = s.meter ∧ (s.icuComplete t v).ports = s.ports
      ∧ (s.icuComplete t v).net = s.net ∧ (s.icuComplete t v).fns = s.fns ∧ (s.icuComplete t v).ecc = s.ecc
      ∧ (s.icuComplete t v).queues = s.queues ∧ (s.icuComplete t v).group = s.group ∧ (s.icuComplete t v).update = s.update
      ∧ (s.icuComplete t v).secure = s.secure ∧ (s.icuComplete t v).power = s.power ∧ (s.icuComplete t v).mem = s.mem
      ∧ (s.icuComplete t v).freeCtr = s.freeCtr ∧ (s.icuComplete t v).out = s.out ∧ (s.icuComplete t v).pending = s.pending := by simp [State.icuComplete]
@[simp] theorem State.icuWrite_frame (s : State) (off v : Nat) : (s.icuWrite off v).host = s.host ∧ (s.icuWrite off v).txn = s.txn
      ∧ (s.icuWrite off v).clock = s.clock ∧ (s.icuWrite off v).time = s.time ∧ (s.icuWrite off v).render = s.render
      ∧ (s.icuWrite off v).inputs = s.inputs ∧ (s.icuWrite off v).meter = s.meter ∧ (s.icuWrite off v).ports = s.ports
      ∧ (s.icuWrite off v).net = s.net ∧ (s.icuWrite off v).fns = s.fns ∧ (s.icuWrite off v).ecc = s.ecc
      ∧ (s.icuWrite off v).queues = s.queues ∧ (s.icuWrite off v).group = s.group ∧ (s.icuWrite off v).update = s.update
      ∧ (s.icuWrite off v).secure = s.secure ∧ (s.icuWrite off v).power = s.power ∧ (s.icuWrite off v).mem = s.mem
      ∧ (s.icuWrite off v).freeCtr = s.freeCtr ∧ (s.icuWrite off v).out = s.out ∧ (s.icuWrite off v).pending = s.pending := by simp [State.icuWrite]
@[simp] theorem State.withTime_frame (s : State) (f : TimeState → TimeState) : (s.withTime f).host = s.host ∧ (s.withTime f).txn = s.txn
      ∧ (s.withTime f).clock = s.clock ∧ (s.withTime f).render = s.render ∧ (s.withTime f).inputs = s.inputs
      ∧ (s.withTime f).meter = s.meter ∧ (s.withTime f).ports = s.ports ∧ (s.withTime f).net = s.net ∧ (s.withTime f).fns = s.fns
      ∧ (s.withTime f).ecc = s.ecc ∧ (s.withTime f).queues = s.queues ∧ (s.withTime f).group = s.group
      ∧ (s.withTime f).update = s.update ∧ (s.withTime f).secure = s.secure ∧ (s.withTime f).power = s.power
      ∧ (s.withTime f).mem = s.mem ∧ (s.withTime f).freeCtr = s.freeCtr ∧ (s.withTime f).out = s.out
      ∧ (s.withTime f).pending = s.pending := by simp [State.withTime]
@[simp] theorem State.setPulse_frame (s : State) (j : Nat) (o : PulseOut) : (s.setPulse j o).host = s.host
      ∧ (s.setPulse j o).txn = s.txn ∧ (s.setPulse j o).clock = s.clock ∧ (s.setPulse j o).icu = s.icu
      ∧ (s.setPulse j o).render = s.render ∧ (s.setPulse j o).inputs = s.inputs ∧ (s.setPulse j o).meter = s.meter
      ∧ (s.setPulse j o).ports = s.ports ∧ (s.setPulse j o).net = s.net ∧ (s.setPulse j o).fns = s.fns ∧ (s.setPulse j o).ecc = s.ecc
      ∧ (s.setPulse j o).queues = s.queues ∧ (s.setPulse j o).group = s.group ∧ (s.setPulse j o).update = s.update
      ∧ (s.setPulse j o).secure = s.secure ∧ (s.setPulse j o).power = s.power ∧ (s.setPulse j o).mem = s.mem
      ∧ (s.setPulse j o).freeCtr = s.freeCtr ∧ (s.setPulse j o).out = s.out ∧ (s.setPulse j o).pending = s.pending := by simp [State.setPulse]
@[simp] theorem State.pulseEdge_frame (s : State) (j : Nat) : (s.pulseEdge j).host = s.host ∧ (s.pulseEdge j).txn = s.txn
      ∧ (s.pulseEdge j).clock = s.clock ∧ (s.pulseEdge j).render = s.render ∧ (s.pulseEdge j).inputs = s.inputs
      ∧ (s.pulseEdge j).meter = s.meter ∧ (s.pulseEdge j).ports = s.ports ∧ (s.pulseEdge j).net = s.net ∧ (s.pulseEdge j).fns = s.fns
      ∧ (s.pulseEdge j).ecc = s.ecc ∧ (s.pulseEdge j).queues = s.queues ∧ (s.pulseEdge j).group = s.group
      ∧ (s.pulseEdge j).update = s.update ∧ (s.pulseEdge j).secure = s.secure ∧ (s.pulseEdge j).power = s.power
      ∧ (s.pulseEdge j).mem = s.mem ∧ (s.pulseEdge j).freeCtr = s.freeCtr ∧ (s.pulseEdge j).pending = s.pending := by
  unfold State.pulseEdge
  try simp
  all_goals ((repeat' split) <;> try simp)
@[simp] theorem State.pulseEnd_frame (s : State) (j : Nat) : (s.pulseEnd j).host = s.host ∧ (s.pulseEnd j).txn = s.txn
      ∧ (s.pulseEnd j).clock = s.clock ∧ (s.pulseEnd j).icu = s.icu ∧ (s.pulseEnd j).render = s.render
      ∧ (s.pulseEnd j).inputs = s.inputs ∧ (s.pulseEnd j).meter = s.meter ∧ (s.pulseEnd j).ports = s.ports ∧ (s.pulseEnd j).net = s.net
      ∧ (s.pulseEnd j).fns = s.fns ∧ (s.pulseEnd j).ecc = s.ecc ∧ (s.pulseEnd j).queues = s.queues ∧ (s.pulseEnd j).group = s.group
      ∧ (s.pulseEnd j).update = s.update ∧ (s.pulseEnd j).secure = s.secure ∧ (s.pulseEnd j).power = s.power
      ∧ (s.pulseEnd j).mem = s.mem ∧ (s.pulseEnd j).freeCtr = s.freeCtr ∧ (s.pulseEnd j).pending = s.pending := by simp [State.pulseEnd]
@[simp] theorem State.captureEdge_frame (s : State) (i : Nat) (rising : Bool) : (s.captureEdge i rising).host = s.host
      ∧ (s.captureEdge i rising).txn = s.txn ∧ (s.captureEdge i rising).clock = s.clock ∧ (s.captureEdge i rising).render = s.render
      ∧ (s.captureEdge i rising).inputs = s.inputs ∧ (s.captureEdge i rising).meter = s.meter ∧ (s.captureEdge i rising).ports = s.ports
      ∧ (s.captureEdge i rising).net = s.net ∧ (s.captureEdge i rising).fns = s.fns ∧ (s.captureEdge i rising).ecc = s.ecc
      ∧ (s.captureEdge i rising).group = s.group ∧ (s.captureEdge i rising).update = s.update
      ∧ (s.captureEdge i rising).secure = s.secure ∧ (s.captureEdge i rising).power = s.power ∧ (s.captureEdge i rising).mem = s.mem
      ∧ (s.captureEdge i rising).freeCtr = s.freeCtr ∧ (s.captureEdge i rising).out = s.out
      ∧ (s.captureEdge i rising).pending = s.pending := by
  unfold State.captureEdge
  try simp
  all_goals ((repeat' split) <;> try simp_all)
@[simp] theorem State.capPop_frame (s : State) (i : Nat) : (s.capPop i).host = s.host ∧ (s.capPop i).txn = s.txn
      ∧ (s.capPop i).clock = s.clock ∧ (s.capPop i).inputs = s.inputs ∧ (s.capPop i).meter = s.meter ∧ (s.capPop i).ports = s.ports
      ∧ (s.capPop i).net = s.net ∧ (s.capPop i).fns = s.fns ∧ (s.capPop i).ecc = s.ecc ∧ (s.capPop i).queues = s.queues
      ∧ (s.capPop i).group = s.group ∧ (s.capPop i).update = s.update ∧ (s.capPop i).secure = s.secure ∧ (s.capPop i).power = s.power
      ∧ (s.capPop i).mem = s.mem ∧ (s.capPop i).out = s.out ∧ (s.capPop i).pending = s.pending := by simp [State.capPop]
@[simp] theorem State.timLatch_frame (s : State) : (s.timLatch).host = s.host ∧ (s.timLatch).txn = s.txn ∧ (s.timLatch).clock = s.clock
      ∧ (s.timLatch).icu = s.icu ∧ (s.timLatch).render = s.render ∧ (s.timLatch).inputs = s.inputs ∧ (s.timLatch).meter = s.meter
      ∧ (s.timLatch).ports = s.ports ∧ (s.timLatch).net = s.net ∧ (s.timLatch).fns = s.fns ∧ (s.timLatch).ecc = s.ecc
      ∧ (s.timLatch).queues = s.queues ∧ (s.timLatch).group = s.group ∧ (s.timLatch).update = s.update ∧ (s.timLatch).secure = s.secure
      ∧ (s.timLatch).power = s.power ∧ (s.timLatch).mem = s.mem ∧ (s.timLatch).freeCtr = s.freeCtr ∧ (s.timLatch).out = s.out
      ∧ (s.timLatch).pending = s.pending := by simp [State.timLatch]
@[simp] theorem State.timWrite_frame (s : State) (off v : Nat) : (s.timWrite off v).host = s.host ∧ (s.timWrite off v).txn = s.txn
      ∧ (s.timWrite off v).clock = s.clock ∧ (s.timWrite off v).inputs = s.inputs ∧ (s.timWrite off v).meter = s.meter
      ∧ (s.timWrite off v).ports = s.ports ∧ (s.timWrite off v).net = s.net ∧ (s.timWrite off v).fns = s.fns
      ∧ (s.timWrite off v).ecc = s.ecc ∧ (s.timWrite off v).queues = s.queues ∧ (s.timWrite off v).group = s.group
      ∧ (s.timWrite off v).update = s.update ∧ (s.timWrite off v).secure = s.secure ∧ (s.timWrite off v).power = s.power
      ∧ (s.timWrite off v).mem = s.mem ∧ (s.timWrite off v).out = s.out ∧ (s.timWrite off v).pending = s.pending := by simp [State.timWrite]
@[simp] theorem State.setStart_frame (s : State) (due : Instant) (offset : Int) : (s.setStart due offset).host = s.host
      ∧ (s.setStart due offset).txn = s.txn ∧ (s.setStart due offset).time = s.time ∧ (s.setStart due offset).icu = s.icu
      ∧ (s.setStart due offset).render = s.render ∧ (s.setStart due offset).inputs = s.inputs ∧ (s.setStart due offset).meter = s.meter
      ∧ (s.setStart due offset).ports = s.ports ∧ (s.setStart due offset).net = s.net ∧ (s.setStart due offset).fns = s.fns
      ∧ (s.setStart due offset).ecc = s.ecc ∧ (s.setStart due offset).queues = s.queues ∧ (s.setStart due offset).update = s.update
      ∧ (s.setStart due offset).secure = s.secure ∧ (s.setStart due offset).power = s.power ∧ (s.setStart due offset).mem = s.mem
      ∧ (s.setStart due offset).freeCtr = s.freeCtr ∧ (s.setStart due offset).pending = s.pending := by simp [State.setStart]
@[simp] theorem State.startFrom_frame (s : State) (x : Instant) : (s.startFrom x).host = s.host ∧ (s.startFrom x).txn = s.txn
      ∧ (s.startFrom x).time = s.time ∧ (s.startFrom x).icu = s.icu ∧ (s.startFrom x).render = s.render
      ∧ (s.startFrom x).inputs = s.inputs ∧ (s.startFrom x).meter = s.meter ∧ (s.startFrom x).ports = s.ports
      ∧ (s.startFrom x).net = s.net ∧ (s.startFrom x).fns = s.fns ∧ (s.startFrom x).ecc = s.ecc ∧ (s.startFrom x).queues = s.queues
      ∧ (s.startFrom x).update = s.update ∧ (s.startFrom x).secure = s.secure ∧ (s.startFrom x).power = s.power
      ∧ (s.startFrom x).mem = s.mem ∧ (s.startFrom x).freeCtr = s.freeCtr ∧ (s.startFrom x).pending = s.pending := by simp [State.startFrom]
@[simp] theorem State.beginClock_frame (s : State) (p : Bytes) : (s.beginClock p).host = s.host ∧ (s.beginClock p).txn = s.txn
      ∧ (s.beginClock p).time = s.time ∧ (s.beginClock p).icu = s.icu ∧ (s.beginClock p).render = s.render
      ∧ (s.beginClock p).inputs = s.inputs ∧ (s.beginClock p).meter = s.meter ∧ (s.beginClock p).ports = s.ports
      ∧ (s.beginClock p).net = s.net ∧ (s.beginClock p).fns = s.fns ∧ (s.beginClock p).ecc = s.ecc ∧ (s.beginClock p).queues = s.queues
      ∧ (s.beginClock p).update = s.update ∧ (s.beginClock p).secure = s.secure ∧ (s.beginClock p).power = s.power
      ∧ (s.beginClock p).mem = s.mem ∧ (s.beginClock p).freeCtr = s.freeCtr ∧ (s.beginClock p).pending = s.pending := by simp [State.beginClock]
@[simp] theorem State.stopStart_frame (s : State) : (s.stopStart).host = s.host ∧ (s.stopStart).txn = s.txn
      ∧ (s.stopStart).time = s.time ∧ (s.stopStart).icu = s.icu ∧ (s.stopStart).render = s.render ∧ (s.stopStart).inputs = s.inputs
      ∧ (s.stopStart).meter = s.meter ∧ (s.stopStart).ports = s.ports ∧ (s.stopStart).net = s.net ∧ (s.stopStart).fns = s.fns
      ∧ (s.stopStart).ecc = s.ecc ∧ (s.stopStart).queues = s.queues ∧ (s.stopStart).group = s.group ∧ (s.stopStart).update = s.update
      ∧ (s.stopStart).secure = s.secure ∧ (s.stopStart).power = s.power ∧ (s.stopStart).mem = s.mem ∧ (s.stopStart).freeCtr = s.freeCtr
      ∧ (s.stopStart).out = s.out ∧ (s.stopStart).pending = s.pending := by simp [State.stopStart]
@[simp] theorem State.endStarts_frame (s : State) (n : Nat) (locked : Bool) : (s.endStarts n locked).txn = s.txn
      ∧ (s.endStarts n locked).clock = s.clock ∧ (s.endStarts n locked).time = s.time ∧ (s.endStarts n locked).render = s.render
      ∧ (s.endStarts n locked).inputs = s.inputs ∧ (s.endStarts n locked).meter = s.meter ∧ (s.endStarts n locked).ports = s.ports
      ∧ (s.endStarts n locked).net = s.net ∧ (s.endStarts n locked).fns = s.fns ∧ (s.endStarts n locked).ecc = s.ecc
      ∧ (s.endStarts n locked).queues = s.queues ∧ (s.endStarts n locked).group = s.group ∧ (s.endStarts n locked).update = s.update
      ∧ (s.endStarts n locked).secure = s.secure ∧ (s.endStarts n locked).power = s.power ∧ (s.endStarts n locked).mem = s.mem
      ∧ (s.endStarts n locked).freeCtr = s.freeCtr ∧ (s.endStarts n locked).pending = s.pending := by simp [State.endStarts]
@[simp] theorem State.timingChanges_frame (s : State) (b : TimingBlock) (n : Nat) (t : Instant) :
    (s.timingChanges b n t).host = s.host ∧ (s.timingChanges b n t).txn = s.txn ∧ (s.timingChanges b n t).time = s.time
      ∧ (s.timingChanges b n t).render = s.render ∧ (s.timingChanges b n t).inputs = s.inputs ∧ (s.timingChanges b n t).meter = s.meter
      ∧ (s.timingChanges b n t).ports = s.ports ∧ (s.timingChanges b n t).net = s.net ∧ (s.timingChanges b n t).fns = s.fns
      ∧ (s.timingChanges b n t).ecc = s.ecc ∧ (s.timingChanges b n t).queues = s.queues ∧ (s.timingChanges b n t).group = s.group
      ∧ (s.timingChanges b n t).update = s.update ∧ (s.timingChanges b n t).secure = s.secure ∧ (s.timingChanges b n t).power = s.power
      ∧ (s.timingChanges b n t).mem = s.mem ∧ (s.timingChanges b n t).freeCtr = s.freeCtr ∧ (s.timingChanges b n t).out = s.out
      ∧ (s.timingChanges b n t).pending = s.pending := by simp [State.timingChanges]
@[simp] theorem State.showBoundary_frame (s : State) : (s.showBoundary).host = s.host ∧ (s.showBoundary).txn = s.txn
      ∧ (s.showBoundary).time = s.time ∧ (s.showBoundary).render = s.render ∧ (s.showBoundary).inputs = s.inputs
      ∧ (s.showBoundary).meter = s.meter ∧ (s.showBoundary).ports = s.ports ∧ (s.showBoundary).net = s.net
      ∧ (s.showBoundary).fns = s.fns ∧ (s.showBoundary).ecc = s.ecc ∧ (s.showBoundary).queues = s.queues
      ∧ (s.showBoundary).update = s.update ∧ (s.showBoundary).secure = s.secure ∧ (s.showBoundary).power = s.power
      ∧ (s.showBoundary).mem = s.mem ∧ (s.showBoundary).freeCtr = s.freeCtr ∧ (s.showBoundary).pending = s.pending := by
  unfold State.showBoundary
  try simp
  all_goals ((repeat' split) <;> try simp)
@[simp] theorem State.boundaryAt_frame (s : State) (x : Instant) : (s.boundaryAt x).host = s.host ∧ (s.boundaryAt x).txn = s.txn
      ∧ (s.boundaryAt x).time = s.time ∧ (s.boundaryAt x).render = s.render ∧ (s.boundaryAt x).inputs = s.inputs
      ∧ (s.boundaryAt x).meter = s.meter ∧ (s.boundaryAt x).ports = s.ports ∧ (s.boundaryAt x).net = s.net
      ∧ (s.boundaryAt x).fns = s.fns ∧ (s.boundaryAt x).ecc = s.ecc ∧ (s.boundaryAt x).queues = s.queues
      ∧ (s.boundaryAt x).update = s.update ∧ (s.boundaryAt x).secure = s.secure ∧ (s.boundaryAt x).power = s.power
      ∧ (s.boundaryAt x).mem = s.mem ∧ (s.boundaryAt x).freeCtr = s.freeCtr ∧ (s.boundaryAt x).pending = s.pending := by
  unfold State.boundaryAt
  try simp
  all_goals ((repeat' split) <;> try simp)
@[simp] theorem State.ltcWord_frame (s : State) (w : Nat) : (s.ltcWord w).host = s.host ∧ (s.ltcWord w).txn = s.txn
      ∧ (s.ltcWord w).time = s.time ∧ (s.ltcWord w).render = s.render ∧ (s.ltcWord w).inputs = s.inputs ∧ (s.ltcWord w).meter = s.meter
      ∧ (s.ltcWord w).ports = s.ports ∧ (s.ltcWord w).net = s.net ∧ (s.ltcWord w).fns = s.fns ∧ (s.ltcWord w).ecc = s.ecc
      ∧ (s.ltcWord w).queues = s.queues ∧ (s.ltcWord w).group = s.group ∧ (s.ltcWord w).update = s.update
      ∧ (s.ltcWord w).secure = s.secure ∧ (s.ltcWord w).power = s.power ∧ (s.ltcWord w).mem = s.mem ∧ (s.ltcWord w).freeCtr = s.freeCtr
      ∧ (s.ltcWord w).out = s.out ∧ (s.ltcWord w).pending = s.pending := by simp [State.ltcWord]
@[simp] theorem State.startHeld_frame (s : State) : (s.startHeld).host = s.host ∧ (s.startHeld).txn = s.txn
      ∧ (s.startHeld).time = s.time ∧ (s.startHeld).icu = s.icu ∧ (s.startHeld).render = s.render ∧ (s.startHeld).inputs = s.inputs
      ∧ (s.startHeld).meter = s.meter ∧ (s.startHeld).ports = s.ports ∧ (s.startHeld).net = s.net ∧ (s.startHeld).fns = s.fns
      ∧ (s.startHeld).ecc = s.ecc ∧ (s.startHeld).queues = s.queues ∧ (s.startHeld).update = s.update ∧ (s.startHeld).secure = s.secure
      ∧ (s.startHeld).power = s.power ∧ (s.startHeld).mem = s.mem ∧ (s.startHeld).freeCtr = s.freeCtr
      ∧ (s.startHeld).pending = s.pending := by
  unfold State.startHeld
  try simp
  all_goals ((repeat' split) <;> try simp_all)
@[simp] theorem State.refLost_frame (s : State) : (s.refLost).host = s.host ∧ (s.refLost).txn = s.txn ∧ (s.refLost).time = s.time
      ∧ (s.refLost).render = s.render ∧ (s.refLost).inputs = s.inputs ∧ (s.refLost).meter = s.meter ∧ (s.refLost).ports = s.ports
      ∧ (s.refLost).net = s.net ∧ (s.refLost).fns = s.fns ∧ (s.refLost).ecc = s.ecc ∧ (s.refLost).queues = s.queues
      ∧ (s.refLost).update = s.update ∧ (s.refLost).secure = s.secure ∧ (s.refLost).power = s.power ∧ (s.refLost).mem = s.mem
      ∧ (s.refLost).freeCtr = s.freeCtr ∧ (s.refLost).pending = s.pending := by
  unfold State.refLost
  try simp
  all_goals ((repeat' split) <;> try simp_all)
@[simp] theorem State.refValid_frame (s : State) : (s.refValid).host = s.host ∧ (s.refValid).txn = s.txn ∧ (s.refValid).time = s.time
      ∧ (s.refValid).render = s.render ∧ (s.refValid).inputs = s.inputs ∧ (s.refValid).meter = s.meter ∧ (s.refValid).ports = s.ports
      ∧ (s.refValid).net = s.net ∧ (s.refValid).fns = s.fns ∧ (s.refValid).ecc = s.ecc ∧ (s.refValid).queues = s.queues
      ∧ (s.refValid).update = s.update ∧ (s.refValid).secure = s.secure ∧ (s.refValid).power = s.power ∧ (s.refValid).mem = s.mem
      ∧ (s.refValid).freeCtr = s.freeCtr ∧ (s.refValid).pending = s.pending := by
  unfold State.refValid
  try simp
  all_goals ((repeat' split) <;> try simp)
@[simp] theorem State.acqTimeout_frame (s : State) : (s.acqTimeout).host = s.host ∧ (s.acqTimeout).txn = s.txn
      ∧ (s.acqTimeout).time = s.time ∧ (s.acqTimeout).icu = s.icu ∧ (s.acqTimeout).render = s.render ∧ (s.acqTimeout).inputs = s.inputs
      ∧ (s.acqTimeout).meter = s.meter ∧ (s.acqTimeout).ports = s.ports ∧ (s.acqTimeout).net = s.net ∧ (s.acqTimeout).fns = s.fns
      ∧ (s.acqTimeout).ecc = s.ecc ∧ (s.acqTimeout).queues = s.queues ∧ (s.acqTimeout).update = s.update
      ∧ (s.acqTimeout).secure = s.secure ∧ (s.acqTimeout).power = s.power ∧ (s.acqTimeout).mem = s.mem
      ∧ (s.acqTimeout).freeCtr = s.freeCtr ∧ (s.acqTimeout).pending = s.pending := by simp [State.acqTimeout]
@[simp] theorem State.withInputs_frame (s : State) (i : InputState) (raised : List Nat) : (s.withInputs i raised).host = s.host
      ∧ (s.withInputs i raised).txn = s.txn ∧ (s.withInputs i raised).clock = s.clock ∧ (s.withInputs i raised).time = s.time
      ∧ (s.withInputs i raised).render = s.render ∧ (s.withInputs i raised).meter = s.meter ∧ (s.withInputs i raised).ports = s.ports
      ∧ (s.withInputs i raised).net = s.net ∧ (s.withInputs i raised).fns = s.fns ∧ (s.withInputs i raised).ecc = s.ecc
      ∧ (s.withInputs i raised).queues = s.queues ∧ (s.withInputs i raised).group = s.group ∧ (s.withInputs i raised).update = s.update
      ∧ (s.withInputs i raised).secure = s.secure ∧ (s.withInputs i raised).power = s.power ∧ (s.withInputs i raised).mem = s.mem
      ∧ (s.withInputs i raised).freeCtr = s.freeCtr ∧ (s.withInputs i raised).out = s.out ∧ (s.withInputs i raised).pending = s.pending := by simp [State.withInputs]
@[simp] theorem State.sacnSourceTimeout_frame (s : State) (uni cid : Nat) : (s.sacnSourceTimeout uni cid).host = s.host
      ∧ (s.sacnSourceTimeout uni cid).txn = s.txn ∧ (s.sacnSourceTimeout uni cid).clock = s.clock
      ∧ (s.sacnSourceTimeout uni cid).time = s.time ∧ (s.sacnSourceTimeout uni cid).render = s.render
      ∧ (s.sacnSourceTimeout uni cid).meter = s.meter ∧ (s.sacnSourceTimeout uni cid).ports = s.ports
      ∧ (s.sacnSourceTimeout uni cid).net = s.net ∧ (s.sacnSourceTimeout uni cid).fns = s.fns
      ∧ (s.sacnSourceTimeout uni cid).ecc = s.ecc ∧ (s.sacnSourceTimeout uni cid).queues = s.queues
      ∧ (s.sacnSourceTimeout uni cid).group = s.group ∧ (s.sacnSourceTimeout uni cid).update = s.update
      ∧ (s.sacnSourceTimeout uni cid).secure = s.secure ∧ (s.sacnSourceTimeout uni cid).power = s.power
      ∧ (s.sacnSourceTimeout uni cid).mem = s.mem ∧ (s.sacnSourceTimeout uni cid).freeCtr = s.freeCtr
      ∧ (s.sacnSourceTimeout uni cid).out = s.out ∧ (s.sacnSourceTimeout uni cid).pending = s.pending := by simp [State.sacnSourceTimeout]
@[simp] theorem State.sacnSyncTimeout_frame (s : State) (addr : Nat) : (s.sacnSyncTimeout addr).host = s.host
      ∧ (s.sacnSyncTimeout addr).txn = s.txn ∧ (s.sacnSyncTimeout addr).clock = s.clock ∧ (s.sacnSyncTimeout addr).time = s.time
      ∧ (s.sacnSyncTimeout addr).meter = s.meter ∧ (s.sacnSyncTimeout addr).ports = s.ports ∧ (s.sacnSyncTimeout addr).net = s.net
      ∧ (s.sacnSyncTimeout addr).fns = s.fns ∧ (s.sacnSyncTimeout addr).ecc = s.ecc ∧ (s.sacnSyncTimeout addr).queues = s.queues
      ∧ (s.sacnSyncTimeout addr).group = s.group ∧ (s.sacnSyncTimeout addr).update = s.update
      ∧ (s.sacnSyncTimeout addr).secure = s.secure ∧ (s.sacnSyncTimeout addr).power = s.power ∧ (s.sacnSyncTimeout addr).mem = s.mem
      ∧ (s.sacnSyncTimeout addr).out = s.out ∧ (s.sacnSyncTimeout addr).pending = s.pending := by simp [State.sacnSyncTimeout]
@[simp] theorem State.dmxInCount_frame (s : State) (k : Nat) (framing : Bool) : (s.dmxInCount k framing).host = s.host
      ∧ (s.dmxInCount k framing).txn = s.txn ∧ (s.dmxInCount k framing).clock = s.clock ∧ (s.dmxInCount k framing).time = s.time
      ∧ (s.dmxInCount k framing).icu = s.icu ∧ (s.dmxInCount k framing).render = s.render ∧ (s.dmxInCount k framing).inputs = s.inputs
      ∧ (s.dmxInCount k framing).meter = s.meter ∧ (s.dmxInCount k framing).net = s.net ∧ (s.dmxInCount k framing).fns = s.fns
      ∧ (s.dmxInCount k framing).ecc = s.ecc ∧ (s.dmxInCount k framing).queues = s.queues ∧ (s.dmxInCount k framing).group = s.group
      ∧ (s.dmxInCount k framing).update = s.update ∧ (s.dmxInCount k framing).secure = s.secure
      ∧ (s.dmxInCount k framing).power = s.power ∧ (s.dmxInCount k framing).mem = s.mem ∧ (s.dmxInCount k framing).freeCtr = s.freeCtr
      ∧ (s.dmxInCount k framing).out = s.out ∧ (s.dmxInCount k framing).pending = s.pending := by simp [State.dmxInCount]
@[simp] theorem State.dmxInPacket_frame (s : State) (k start : Nat) (slots : Bytes) (line : DmxLine) : (s.dmxInPacket k start slots line).host = s.host
      ∧ (s.dmxInPacket k start slots line).txn = s.txn ∧ (s.dmxInPacket k start slots line).clock = s.clock ∧ (s.dmxInPacket k start slots line).time = s.time
      ∧ (s.dmxInPacket k start slots line).icu = s.icu ∧ (s.dmxInPacket k start slots line).render = s.render ∧ (s.dmxInPacket k start slots line).meter = s.meter
      ∧ (s.dmxInPacket k start slots line).net = s.net ∧ (s.dmxInPacket k start slots line).fns = s.fns ∧ (s.dmxInPacket k start slots line).ecc = s.ecc
      ∧ (s.dmxInPacket k start slots line).queues = s.queues ∧ (s.dmxInPacket k start slots line).group = s.group ∧ (s.dmxInPacket k start slots line).update = s.update
      ∧ (s.dmxInPacket k start slots line).secure = s.secure ∧ (s.dmxInPacket k start slots line).power = s.power ∧ (s.dmxInPacket k start slots line).mem = s.mem
      ∧ (s.dmxInPacket k start slots line).freeCtr = s.freeCtr ∧ (s.dmxInPacket k start slots line).out = s.out ∧ (s.dmxInPacket k start slots line).pending = s.pending := by simp [State.dmxInPacket]
@[simp] theorem State.dmxInTimeout_frame (s : State) (k : Nat) : (s.dmxInTimeout k).host = s.host ∧ (s.dmxInTimeout k).txn = s.txn
      ∧ (s.dmxInTimeout k).clock = s.clock ∧ (s.dmxInTimeout k).time = s.time ∧ (s.dmxInTimeout k).render = s.render
      ∧ (s.dmxInTimeout k).meter = s.meter ∧ (s.dmxInTimeout k).ports = s.ports ∧ (s.dmxInTimeout k).net = s.net
      ∧ (s.dmxInTimeout k).fns = s.fns ∧ (s.dmxInTimeout k).ecc = s.ecc ∧ (s.dmxInTimeout k).queues = s.queues
      ∧ (s.dmxInTimeout k).group = s.group ∧ (s.dmxInTimeout k).update = s.update ∧ (s.dmxInTimeout k).secure = s.secure
      ∧ (s.dmxInTimeout k).power = s.power ∧ (s.dmxInTimeout k).mem = s.mem ∧ (s.dmxInTimeout k).freeCtr = s.freeCtr
      ∧ (s.dmxInTimeout k).out = s.out ∧ (s.dmxInTimeout k).pending = s.pending := by simp [State.dmxInTimeout]
@[simp] theorem State.setVideo_frame (s : State) (i : Nat) (r : VideoDyn × List Nat) : (s.setVideo i r).host = s.host
      ∧ (s.setVideo i r).txn = s.txn ∧ (s.setVideo i r).clock = s.clock ∧ (s.setVideo i r).time = s.time
      ∧ (s.setVideo i r).render = s.render ∧ (s.setVideo i r).meter = s.meter ∧ (s.setVideo i r).ports = s.ports
      ∧ (s.setVideo i r).net = s.net ∧ (s.setVideo i r).fns = s.fns ∧ (s.setVideo i r).ecc = s.ecc ∧ (s.setVideo i r).queues = s.queues
      ∧ (s.setVideo i r).group = s.group ∧ (s.setVideo i r).update = s.update ∧ (s.setVideo i r).secure = s.secure
      ∧ (s.setVideo i r).power = s.power ∧ (s.setVideo i r).mem = s.mem ∧ (s.setVideo i r).freeCtr = s.freeCtr
      ∧ (s.setVideo i r).out = s.out ∧ (s.setVideo i r).pending = s.pending := by simp [State.setVideo]
@[simp] theorem State.videoPacket_frame (s : State) (i : Nat) (p : VideoPacket) : (s.videoPacket i p).host = s.host
      ∧ (s.videoPacket i p).txn = s.txn ∧ (s.videoPacket i p).clock = s.clock ∧ (s.videoPacket i p).time = s.time
      ∧ (s.videoPacket i p).render = s.render ∧ (s.videoPacket i p).meter = s.meter ∧ (s.videoPacket i p).ports = s.ports
      ∧ (s.videoPacket i p).net = s.net ∧ (s.videoPacket i p).fns = s.fns ∧ (s.videoPacket i p).ecc = s.ecc
      ∧ (s.videoPacket i p).queues = s.queues ∧ (s.videoPacket i p).group = s.group ∧ (s.videoPacket i p).update = s.update
      ∧ (s.videoPacket i p).secure = s.secure ∧ (s.videoPacket i p).power = s.power ∧ (s.videoPacket i p).mem = s.mem
      ∧ (s.videoPacket i p).freeCtr = s.freeCtr ∧ (s.videoPacket i p).out = s.out ∧ (s.videoPacket i p).pending = s.pending := by
  unfold State.videoPacket
  (repeat' split) <;> simp
@[simp] theorem State.countPort_frame (s : State) (p : Nat) (l : List (Nat × Nat)) : (s.countPort p l).host = s.host
      ∧ (s.countPort p l).txn = s.txn ∧ (s.countPort p l).clock = s.clock ∧ (s.countPort p l).time = s.time
      ∧ (s.countPort p l).render = s.render ∧ (s.countPort p l).inputs = s.inputs ∧ (s.countPort p l).meter = s.meter
      ∧ (s.countPort p l).fns = s.fns ∧ (s.countPort p l).ecc = s.ecc ∧ (s.countPort p l).queues = s.queues
      ∧ (s.countPort p l).group = s.group ∧ (s.countPort p l).update = s.update ∧ (s.countPort p l).secure = s.secure
      ∧ (s.countPort p l).power = s.power ∧ (s.countPort p l).mem = s.mem ∧ (s.countPort p l).freeCtr = s.freeCtr
      ∧ (s.countPort p l).out = s.out ∧ (s.countPort p l).pending = s.pending := by simp [State.countPort]
@[simp] theorem State.portDown_frame (s : State) (p : Nat) : (s.portDown p).host = s.host ∧ (s.portDown p).txn = s.txn
      ∧ (s.portDown p).clock = s.clock ∧ (s.portDown p).time = s.time ∧ (s.portDown p).render = s.render
      ∧ (s.portDown p).inputs = s.inputs ∧ (s.portDown p).meter = s.meter ∧ (s.portDown p).fns = s.fns ∧ (s.portDown p).ecc = s.ecc
      ∧ (s.portDown p).queues = s.queues ∧ (s.portDown p).group = s.group ∧ (s.portDown p).update = s.update
      ∧ (s.portDown p).secure = s.secure ∧ (s.portDown p).power = s.power ∧ (s.portDown p).mem = s.mem
      ∧ (s.portDown p).freeCtr = s.freeCtr ∧ (s.portDown p).out = s.out ∧ (s.portDown p).pending = s.pending := by
  unfold State.portDown
  try simp
  all_goals ((repeat' split) <;> try simp_all)
@[simp] theorem State.queueOther_frame (s : State) (p ring : Nat) (bs : Bytes) : (s.queueOther p ring bs).host = s.host
      ∧ (s.queueOther p ring bs).txn = s.txn ∧ (s.queueOther p ring bs).clock = s.clock ∧ (s.queueOther p ring bs).time = s.time
      ∧ (s.queueOther p ring bs).icu = s.icu ∧ (s.queueOther p ring bs).render = s.render ∧ (s.queueOther p ring bs).inputs = s.inputs
      ∧ (s.queueOther p ring bs).meter = s.meter ∧ (s.queueOther p ring bs).fns = s.fns ∧ (s.queueOther p ring bs).ecc = s.ecc
      ∧ (s.queueOther p ring bs).queues = s.queues ∧ (s.queueOther p ring bs).group = s.group
      ∧ (s.queueOther p ring bs).update = s.update ∧ (s.queueOther p ring bs).secure = s.secure
      ∧ (s.queueOther p ring bs).power = s.power ∧ (s.queueOther p ring bs).mem = s.mem ∧ (s.queueOther p ring bs).freeCtr = s.freeCtr
      ∧ (s.queueOther p ring bs).out = s.out ∧ (s.queueOther p ring bs).pending = s.pending := by simp [State.queueOther]
@[simp] theorem State.reportGroups_frame (s : State) (p : Nat) (gs : List (Group × Nat)) : (s.reportGroups p gs).host = s.host
      ∧ (s.reportGroups p gs).txn = s.txn ∧ (s.reportGroups p gs).clock = s.clock ∧ (s.reportGroups p gs).time = s.time
      ∧ (s.reportGroups p gs).icu = s.icu ∧ (s.reportGroups p gs).render = s.render ∧ (s.reportGroups p gs).inputs = s.inputs
      ∧ (s.reportGroups p gs).meter = s.meter ∧ (s.reportGroups p gs).fns = s.fns ∧ (s.reportGroups p gs).ecc = s.ecc
      ∧ (s.reportGroups p gs).queues = s.queues ∧ (s.reportGroups p gs).group = s.group ∧ (s.reportGroups p gs).update = s.update
      ∧ (s.reportGroups p gs).secure = s.secure ∧ (s.reportGroups p gs).power = s.power ∧ (s.reportGroups p gs).mem = s.mem
      ∧ (s.reportGroups p gs).freeCtr = s.freeCtr ∧ (s.reportGroups p gs).out = s.out ∧ (s.reportGroups p gs).pending = s.pending := by simp [State.reportGroups]
@[simp] theorem State.reportAll_frame (s : State) (p : Nat) (v4 v6 : Bool) : (s.reportAll p v4 v6).host = s.host
      ∧ (s.reportAll p v4 v6).txn = s.txn ∧ (s.reportAll p v4 v6).clock = s.clock ∧ (s.reportAll p v4 v6).time = s.time
      ∧ (s.reportAll p v4 v6).icu = s.icu ∧ (s.reportAll p v4 v6).render = s.render ∧ (s.reportAll p v4 v6).inputs = s.inputs
      ∧ (s.reportAll p v4 v6).meter = s.meter ∧ (s.reportAll p v4 v6).fns = s.fns ∧ (s.reportAll p v4 v6).ecc = s.ecc
      ∧ (s.reportAll p v4 v6).queues = s.queues ∧ (s.reportAll p v4 v6).group = s.group ∧ (s.reportAll p v4 v6).update = s.update
      ∧ (s.reportAll p v4 v6).secure = s.secure ∧ (s.reportAll p v4 v6).power = s.power ∧ (s.reportAll p v4 v6).mem = s.mem
      ∧ (s.reportAll p v4 v6).freeCtr = s.freeCtr ∧ (s.reportAll p v4 v6).out = s.out ∧ (s.reportAll p v4 v6).pending = s.pending := by simp [State.reportAll]
@[simp] theorem State.answerQuery_frame (s : State) (p : Nat) (q : Bool × Nat) : (s.answerQuery p q).host = s.host
      ∧ (s.answerQuery p q).txn = s.txn ∧ (s.answerQuery p q).clock = s.clock ∧ (s.answerQuery p q).time = s.time
      ∧ (s.answerQuery p q).icu = s.icu ∧ (s.answerQuery p q).render = s.render ∧ (s.answerQuery p q).inputs = s.inputs
      ∧ (s.answerQuery p q).meter = s.meter ∧ (s.answerQuery p q).fns = s.fns ∧ (s.answerQuery p q).ecc = s.ecc
      ∧ (s.answerQuery p q).queues = s.queues ∧ (s.answerQuery p q).group = s.group ∧ (s.answerQuery p q).update = s.update
      ∧ (s.answerQuery p q).secure = s.secure ∧ (s.answerQuery p q).power = s.power ∧ (s.answerQuery p q).mem = s.mem
      ∧ (s.answerQuery p q).freeCtr = s.freeCtr ∧ (s.answerQuery p q).out = s.out ∧ (s.answerQuery p q).pending = s.pending := by
  unfold State.answerQuery
  try simp
  all_goals ((repeat' split) <;> try simp_all)
@[simp] theorem State.reportChanges_frame (s : State) (old : Nat → List Group) : (s.reportChanges old).host = s.host
      ∧ (s.reportChanges old).txn = s.txn ∧ (s.reportChanges old).clock = s.clock ∧ (s.reportChanges old).time = s.time
      ∧ (s.reportChanges old).icu = s.icu ∧ (s.reportChanges old).render = s.render ∧ (s.reportChanges old).inputs = s.inputs
      ∧ (s.reportChanges old).meter = s.meter ∧ (s.reportChanges old).fns = s.fns ∧ (s.reportChanges old).ecc = s.ecc
      ∧ (s.reportChanges old).queues = s.queues ∧ (s.reportChanges old).group = s.group ∧ (s.reportChanges old).update = s.update
      ∧ (s.reportChanges old).secure = s.secure ∧ (s.reportChanges old).power = s.power ∧ (s.reportChanges old).mem = s.mem
      ∧ (s.reportChanges old).freeCtr = s.freeCtr ∧ (s.reportChanges old).out = s.out ∧ (s.reportChanges old).pending = s.pending := by simp [State.reportChanges]
@[simp] theorem State.storeRead_frame (s : State) (off : Nat) (bs : Bytes) : (s.storeRead off bs).host = s.host
      ∧ (s.storeRead off bs).txn = s.txn ∧ (s.storeRead off bs).clock = s.clock ∧ (s.storeRead off bs).time = s.time
      ∧ (s.storeRead off bs).icu = s.icu ∧ (s.storeRead off bs).render = s.render ∧ (s.storeRead off bs).inputs = s.inputs
      ∧ (s.storeRead off bs).meter = s.meter ∧ (s.storeRead off bs).ports = s.ports ∧ (s.storeRead off bs).net = s.net
      ∧ (s.storeRead off bs).fns = s.fns ∧ (s.storeRead off bs).queues = s.queues ∧ (s.storeRead off bs).group = s.group
      ∧ (s.storeRead off bs).update = s.update ∧ (s.storeRead off bs).secure = s.secure ∧ (s.storeRead off bs).power = s.power
      ∧ (s.storeRead off bs).out = s.out ∧ (s.storeRead off bs).pending = s.pending := by simp [State.storeRead]
@[simp] theorem State.setUnit_frame (s : State) (u : Nat) (x : UnitCounters) : (s.setUnit u x).host = s.host
      ∧ (s.setUnit u x).txn = s.txn ∧ (s.setUnit u x).clock = s.clock ∧ (s.setUnit u x).time = s.time ∧ (s.setUnit u x).icu = s.icu
      ∧ (s.setUnit u x).inputs = s.inputs ∧ (s.setUnit u x).meter = s.meter ∧ (s.setUnit u x).ports = s.ports
      ∧ (s.setUnit u x).net = s.net ∧ (s.setUnit u x).fns = s.fns ∧ (s.setUnit u x).ecc = s.ecc ∧ (s.setUnit u x).queues = s.queues
      ∧ (s.setUnit u x).group = s.group ∧ (s.setUnit u x).update = s.update ∧ (s.setUnit u x).secure = s.secure
      ∧ (s.setUnit u x).power = s.power ∧ (s.setUnit u x).mem = s.mem ∧ (s.setUnit u x).freeCtr = s.freeCtr
      ∧ (s.setUnit u x).out = s.out ∧ (s.setUnit u x).pending = s.pending := by simp [State.setUnit]
@[simp] theorem State.countEvent_frame (s : State) (u e n : Nat) : (s.countEvent u e n).host = s.host ∧ (s.countEvent u e n).txn = s.txn
      ∧ (s.countEvent u e n).clock = s.clock ∧ (s.countEvent u e n).time = s.time ∧ (s.countEvent u e n).inputs = s.inputs
      ∧ (s.countEvent u e n).meter = s.meter ∧ (s.countEvent u e n).ports = s.ports ∧ (s.countEvent u e n).net = s.net
      ∧ (s.countEvent u e n).fns = s.fns ∧ (s.countEvent u e n).ecc = s.ecc ∧ (s.countEvent u e n).queues = s.queues
      ∧ (s.countEvent u e n).group = s.group ∧ (s.countEvent u e n).update = s.update ∧ (s.countEvent u e n).secure = s.secure
      ∧ (s.countEvent u e n).power = s.power ∧ (s.countEvent u e n).mem = s.mem ∧ (s.countEvent u e n).freeCtr = s.freeCtr
      ∧ (s.countEvent u e n).out = s.out ∧ (s.countEvent u e n).pending = s.pending := by simp [State.countEvent]
@[simp] theorem State.syncUnit_frame (s : State) (u : Nat) (forced : Option (Nat × Nat)) : (s.syncUnit u forced).host = s.host
      ∧ (s.syncUnit u forced).txn = s.txn ∧ (s.syncUnit u forced).clock = s.clock ∧ (s.syncUnit u forced).time = s.time
      ∧ (s.syncUnit u forced).inputs = s.inputs ∧ (s.syncUnit u forced).meter = s.meter ∧ (s.syncUnit u forced).ports = s.ports
      ∧ (s.syncUnit u forced).net = s.net ∧ (s.syncUnit u forced).fns = s.fns ∧ (s.syncUnit u forced).ecc = s.ecc
      ∧ (s.syncUnit u forced).queues = s.queues ∧ (s.syncUnit u forced).group = s.group ∧ (s.syncUnit u forced).update = s.update
      ∧ (s.syncUnit u forced).secure = s.secure ∧ (s.syncUnit u forced).power = s.power ∧ (s.syncUnit u forced).mem = s.mem
      ∧ (s.syncUnit u forced).out = s.out ∧ (s.syncUnit u forced).pending = s.pending := by
  unfold State.syncUnit
  try simp
  all_goals ((repeat' split) <;> try simp_all)
@[simp] theorem State.syncDram_frame (s : State) (u : Nat) : (s.syncDram u).host = s.host ∧ (s.syncDram u).txn = s.txn
      ∧ (s.syncDram u).clock = s.clock ∧ (s.syncDram u).time = s.time ∧ (s.syncDram u).icu = s.icu ∧ (s.syncDram u).inputs = s.inputs
      ∧ (s.syncDram u).meter = s.meter ∧ (s.syncDram u).ports = s.ports ∧ (s.syncDram u).net = s.net ∧ (s.syncDram u).fns = s.fns
      ∧ (s.syncDram u).ecc = s.ecc ∧ (s.syncDram u).queues = s.queues ∧ (s.syncDram u).group = s.group
      ∧ (s.syncDram u).update = s.update ∧ (s.syncDram u).secure = s.secure ∧ (s.syncDram u).power = s.power
      ∧ (s.syncDram u).mem = s.mem ∧ (s.syncDram u).out = s.out ∧ (s.syncDram u).pending = s.pending := by
  unfold State.syncDram
  try simp
  all_goals ((repeat' split) <;> try simp_all)
@[simp] theorem State.sync_frame (s : State) (u : Nat) : (s.sync u).host = s.host ∧ (s.sync u).txn = s.txn ∧ (s.sync u).clock = s.clock
      ∧ (s.sync u).time = s.time ∧ (s.sync u).inputs = s.inputs ∧ (s.sync u).meter = s.meter ∧ (s.sync u).ports = s.ports
      ∧ (s.sync u).net = s.net ∧ (s.sync u).fns = s.fns ∧ (s.sync u).ecc = s.ecc ∧ (s.sync u).queues = s.queues
      ∧ (s.sync u).group = s.group ∧ (s.sync u).update = s.update ∧ (s.sync u).secure = s.secure ∧ (s.sync u).power = s.power
      ∧ (s.sync u).mem = s.mem ∧ (s.sync u).out = s.out ∧ (s.sync u).pending = s.pending := by
  unfold State.sync
  try simp
  all_goals ((repeat' split) <;> try simp_all)
@[simp] theorem State.syncCycles_frame (s : State) : (s.syncCycles).host = s.host ∧ (s.syncCycles).txn = s.txn
      ∧ (s.syncCycles).clock = s.clock ∧ (s.syncCycles).time = s.time ∧ (s.syncCycles).inputs = s.inputs
      ∧ (s.syncCycles).meter = s.meter ∧ (s.syncCycles).ports = s.ports ∧ (s.syncCycles).net = s.net ∧ (s.syncCycles).fns = s.fns
      ∧ (s.syncCycles).ecc = s.ecc ∧ (s.syncCycles).queues = s.queues ∧ (s.syncCycles).group = s.group
      ∧ (s.syncCycles).update = s.update ∧ (s.syncCycles).secure = s.secure ∧ (s.syncCycles).power = s.power
      ∧ (s.syncCycles).mem = s.mem ∧ (s.syncCycles).out = s.out ∧ (s.syncCycles).pending = s.pending := by
  unfold State.syncCycles
  try simp
  all_goals ((repeat' split) <;> try simp_all)
@[simp] theorem State.readCounter_frame (s : State) (u i : Nat) : (s.readCounter u i).2.host = s.host
      ∧ (s.readCounter u i).2.txn = s.txn ∧ (s.readCounter u i).2.clock = s.clock ∧ (s.readCounter u i).2.time = s.time
      ∧ (s.readCounter u i).2.inputs = s.inputs ∧ (s.readCounter u i).2.meter = s.meter ∧ (s.readCounter u i).2.ports = s.ports
      ∧ (s.readCounter u i).2.net = s.net ∧ (s.readCounter u i).2.fns = s.fns ∧ (s.readCounter u i).2.ecc = s.ecc
      ∧ (s.readCounter u i).2.queues = s.queues ∧ (s.readCounter u i).2.group = s.group ∧ (s.readCounter u i).2.update = s.update
      ∧ (s.readCounter u i).2.secure = s.secure ∧ (s.readCounter u i).2.power = s.power ∧ (s.readCounter u i).2.mem = s.mem
      ∧ (s.readCounter u i).2.out = s.out ∧ (s.readCounter u i).2.pending = s.pending := by
  unfold State.readCounter
  try simp
  all_goals ((repeat' split) <;> try simp_all)
@[simp] theorem State.configCounter_frame (s : State) (u i event : Nat) (chain clear : Bool) :
    (s.configCounter u i event chain clear).host = s.host ∧ (s.configCounter u i event chain clear).txn = s.txn
      ∧ (s.configCounter u i event chain clear).clock = s.clock ∧ (s.configCounter u i event chain clear).time = s.time
      ∧ (s.configCounter u i event chain clear).inputs = s.inputs ∧ (s.configCounter u i event chain clear).meter = s.meter
      ∧ (s.configCounter u i event chain clear).ports = s.ports ∧ (s.configCounter u i event chain clear).net = s.net
      ∧ (s.configCounter u i event chain clear).fns = s.fns ∧ (s.configCounter u i event chain clear).ecc = s.ecc
      ∧ (s.configCounter u i event chain clear).queues = s.queues ∧ (s.configCounter u i event chain clear).group = s.group
      ∧ (s.configCounter u i event chain clear).update = s.update ∧ (s.configCounter u i event chain clear).secure = s.secure
      ∧ (s.configCounter u i event chain clear).power = s.power ∧ (s.configCounter u i event chain clear).mem = s.mem
      ∧ (s.configCounter u i event chain clear).out = s.out ∧ (s.configCounter u i event chain clear).pending = s.pending := by
  unfold State.configCounter
  try simp
  all_goals ((repeat' split) <;> try simp_all)
@[simp] theorem State.snapDone_frame (s : State) : (s.snapDone).host = s.host ∧ (s.snapDone).txn = s.txn ∧ (s.snapDone).clock = s.clock
      ∧ (s.snapDone).time = s.time ∧ (s.snapDone).icu = s.icu ∧ (s.snapDone).inputs = s.inputs ∧ (s.snapDone).meter = s.meter
      ∧ (s.snapDone).ports = s.ports ∧ (s.snapDone).net = s.net ∧ (s.snapDone).fns = s.fns ∧ (s.snapDone).ecc = s.ecc
      ∧ (s.snapDone).queues = s.queues ∧ (s.snapDone).group = s.group ∧ (s.snapDone).update = s.update ∧ (s.snapDone).secure = s.secure
      ∧ (s.snapDone).power = s.power ∧ (s.snapDone).mem = s.mem ∧ (s.snapDone).freeCtr = s.freeCtr ∧ (s.snapDone).out = s.out
      ∧ (s.snapDone).pending = s.pending := by simp [State.snapDone]
@[simp] theorem State.pcnRead_frame (s : State) : (s.pcnRead).2.host = s.host ∧ (s.pcnRead).2.txn = s.txn
      ∧ (s.pcnRead).2.clock = s.clock ∧ (s.pcnRead).2.time = s.time ∧ (s.pcnRead).2.inputs = s.inputs ∧ (s.pcnRead).2.meter = s.meter
      ∧ (s.pcnRead).2.ports = s.ports ∧ (s.pcnRead).2.net = s.net ∧ (s.pcnRead).2.fns = s.fns ∧ (s.pcnRead).2.ecc = s.ecc
      ∧ (s.pcnRead).2.queues = s.queues ∧ (s.pcnRead).2.group = s.group ∧ (s.pcnRead).2.update = s.update
      ∧ (s.pcnRead).2.secure = s.secure ∧ (s.pcnRead).2.power = s.power ∧ (s.pcnRead).2.mem = s.mem ∧ (s.pcnRead).2.out = s.out
      ∧ (s.pcnRead).2.pending = s.pending := by
  unfold State.pcnRead
  try simp
  all_goals ((repeat' split) <;> try simp_all)
@[simp] theorem State.traceWrite_frame (s : State) (r : TraceRec) : (s.traceWrite r).host = s.host ∧ (s.traceWrite r).txn = s.txn
      ∧ (s.traceWrite r).clock = s.clock ∧ (s.traceWrite r).time = s.time ∧ (s.traceWrite r).inputs = s.inputs
      ∧ (s.traceWrite r).meter = s.meter ∧ (s.traceWrite r).ports = s.ports ∧ (s.traceWrite r).net = s.net
      ∧ (s.traceWrite r).fns = s.fns ∧ (s.traceWrite r).ecc = s.ecc ∧ (s.traceWrite r).queues = s.queues
      ∧ (s.traceWrite r).group = s.group ∧ (s.traceWrite r).update = s.update ∧ (s.traceWrite r).secure = s.secure
      ∧ (s.traceWrite r).power = s.power ∧ (s.traceWrite r).mem = s.mem ∧ (s.traceWrite r).freeCtr = s.freeCtr
      ∧ (s.traceWrite r).out = s.out ∧ (s.traceWrite r).pending = s.pending := by simp [State.traceWrite]
@[simp] theorem State.traceTask_frame (s : State) (event : Nat) (t : Task) (cluster : Nat) :
    (s.traceTask event t cluster).host = s.host ∧ (s.traceTask event t cluster).txn = s.txn
      ∧ (s.traceTask event t cluster).clock = s.clock ∧ (s.traceTask event t cluster).time = s.time
      ∧ (s.traceTask event t cluster).inputs = s.inputs ∧ (s.traceTask event t cluster).meter = s.meter
      ∧ (s.traceTask event t cluster).ports = s.ports ∧ (s.traceTask event t cluster).net = s.net
      ∧ (s.traceTask event t cluster).fns = s.fns ∧ (s.traceTask event t cluster).ecc = s.ecc
      ∧ (s.traceTask event t cluster).queues = s.queues ∧ (s.traceTask event t cluster).group = s.group
      ∧ (s.traceTask event t cluster).update = s.update ∧ (s.traceTask event t cluster).secure = s.secure
      ∧ (s.traceTask event t cluster).power = s.power ∧ (s.traceTask event t cluster).mem = s.mem
      ∧ (s.traceTask event t cluster).freeCtr = s.freeCtr ∧ (s.traceTask event t cluster).out = s.out
      ∧ (s.traceTask event t cluster).pending = s.pending := by simp [State.traceTask]
@[simp] theorem State.traceWindow_frame (s : State) (event window frame : Nat) : (s.traceWindow event window frame).host = s.host
      ∧ (s.traceWindow event window frame).txn = s.txn ∧ (s.traceWindow event window frame).clock = s.clock
      ∧ (s.traceWindow event window frame).time = s.time ∧ (s.traceWindow event window frame).inputs = s.inputs
      ∧ (s.traceWindow event window frame).meter = s.meter ∧ (s.traceWindow event window frame).ports = s.ports
      ∧ (s.traceWindow event window frame).net = s.net ∧ (s.traceWindow event window frame).fns = s.fns
      ∧ (s.traceWindow event window frame).ecc = s.ecc ∧ (s.traceWindow event window frame).queues = s.queues
      ∧ (s.traceWindow event window frame).group = s.group ∧ (s.traceWindow event window frame).update = s.update
      ∧ (s.traceWindow event window frame).secure = s.secure ∧ (s.traceWindow event window frame).power = s.power
      ∧ (s.traceWindow event window frame).mem = s.mem ∧ (s.traceWindow event window frame).out = s.out
      ∧ (s.traceWindow event window frame).pending = s.pending := by simp [State.traceWindow]
@[simp] theorem State.setFrame_frame (s : State) (r : FrameRec) : (s.setFrame r).host = s.host ∧ (s.setFrame r).txn = s.txn
      ∧ (s.setFrame r).clock = s.clock ∧ (s.setFrame r).time = s.time ∧ (s.setFrame r).icu = s.icu ∧ (s.setFrame r).inputs = s.inputs
      ∧ (s.setFrame r).meter = s.meter ∧ (s.setFrame r).ports = s.ports ∧ (s.setFrame r).net = s.net ∧ (s.setFrame r).fns = s.fns
      ∧ (s.setFrame r).ecc = s.ecc ∧ (s.setFrame r).queues = s.queues ∧ (s.setFrame r).group = s.group
      ∧ (s.setFrame r).update = s.update ∧ (s.setFrame r).secure = s.secure ∧ (s.setFrame r).power = s.power
      ∧ (s.setFrame r).mem = s.mem ∧ (s.setFrame r).freeCtr = s.freeCtr ∧ (s.setFrame r).out = s.out
      ∧ (s.setFrame r).pending = s.pending := by simp [State.setFrame]
@[simp] theorem State.taskReady_frame (s : State) (t : Task) : (s.taskReady t).host = s.host ∧ (s.taskReady t).txn = s.txn
      ∧ (s.taskReady t).clock = s.clock ∧ (s.taskReady t).time = s.time ∧ (s.taskReady t).inputs = s.inputs
      ∧ (s.taskReady t).meter = s.meter ∧ (s.taskReady t).ports = s.ports ∧ (s.taskReady t).net = s.net ∧ (s.taskReady t).fns = s.fns
      ∧ (s.taskReady t).ecc = s.ecc ∧ (s.taskReady t).group = s.group ∧ (s.taskReady t).update = s.update
      ∧ (s.taskReady t).secure = s.secure ∧ (s.taskReady t).power = s.power ∧ (s.taskReady t).mem = s.mem
      ∧ (s.taskReady t).freeCtr = s.freeCtr ∧ (s.taskReady t).out = s.out ∧ (s.taskReady t).pending = s.pending := by
  unfold State.taskReady
  try simp
  all_goals ((repeat' split) <;> try simp_all)
@[simp] theorem State.unstall_frame (s : State) : (s.unstall).host = s.host ∧ (s.unstall).txn = s.txn ∧ (s.unstall).clock = s.clock
      ∧ (s.unstall).time = s.time ∧ (s.unstall).inputs = s.inputs ∧ (s.unstall).meter = s.meter ∧ (s.unstall).ports = s.ports
      ∧ (s.unstall).net = s.net ∧ (s.unstall).fns = s.fns ∧ (s.unstall).ecc = s.ecc ∧ (s.unstall).queues = s.queues
      ∧ (s.unstall).group = s.group ∧ (s.unstall).update = s.update ∧ (s.unstall).secure = s.secure ∧ (s.unstall).power = s.power
      ∧ (s.unstall).mem = s.mem ∧ (s.unstall).freeCtr = s.freeCtr ∧ (s.unstall).out = s.out ∧ (s.unstall).pending = s.pending := by
  unfold State.unstall
  (repeat' split) <;> simp
@[simp] theorem State.grantTo_frame (s : State) (cluster : Nat) : (s.grantTo cluster).1.host = s.host
      ∧ (s.grantTo cluster).1.txn = s.txn ∧ (s.grantTo cluster).1.clock = s.clock ∧ (s.grantTo cluster).1.time = s.time
      ∧ (s.grantTo cluster).1.inputs = s.inputs ∧ (s.grantTo cluster).1.meter = s.meter ∧ (s.grantTo cluster).1.ports = s.ports
      ∧ (s.grantTo cluster).1.net = s.net ∧ (s.grantTo cluster).1.fns = s.fns ∧ (s.grantTo cluster).1.ecc = s.ecc
      ∧ (s.grantTo cluster).1.queues = s.queues ∧ (s.grantTo cluster).1.group = s.group ∧ (s.grantTo cluster).1.update = s.update
      ∧ (s.grantTo cluster).1.secure = s.secure ∧ (s.grantTo cluster).1.power = s.power ∧ (s.grantTo cluster).1.mem = s.mem
      ∧ (s.grantTo cluster).1.out = s.out ∧ (s.grantTo cluster).1.pending = s.pending := by
  unfold State.grantTo
  try simp
  all_goals ((repeat' split) <;> try simp_all)
@[simp] theorem State.setCanvas_frame (s : State) (k : Nat) (d : CanvasDyn) : (s.setCanvas k d).host = s.host
      ∧ (s.setCanvas k d).txn = s.txn ∧ (s.setCanvas k d).clock = s.clock ∧ (s.setCanvas k d).time = s.time
      ∧ (s.setCanvas k d).icu = s.icu ∧ (s.setCanvas k d).inputs = s.inputs ∧ (s.setCanvas k d).meter = s.meter
      ∧ (s.setCanvas k d).ports = s.ports ∧ (s.setCanvas k d).net = s.net ∧ (s.setCanvas k d).fns = s.fns
      ∧ (s.setCanvas k d).ecc = s.ecc ∧ (s.setCanvas k d).queues = s.queues ∧ (s.setCanvas k d).group = s.group
      ∧ (s.setCanvas k d).update = s.update ∧ (s.setCanvas k d).secure = s.secure ∧ (s.setCanvas k d).power = s.power
      ∧ (s.setCanvas k d).mem = s.mem ∧ (s.setCanvas k d).freeCtr = s.freeCtr ∧ (s.setCanvas k d).out = s.out
      ∧ (s.setCanvas k d).pending = s.pending := by simp [State.setCanvas]
@[simp] theorem State.canvasEvent_frame (s : State) (k i : Nat) : (s.canvasEvent k i).host = s.host ∧ (s.canvasEvent k i).txn = s.txn
      ∧ (s.canvasEvent k i).clock = s.clock ∧ (s.canvasEvent k i).time = s.time ∧ (s.canvasEvent k i).inputs = s.inputs
      ∧ (s.canvasEvent k i).meter = s.meter ∧ (s.canvasEvent k i).ports = s.ports ∧ (s.canvasEvent k i).net = s.net
      ∧ (s.canvasEvent k i).fns = s.fns ∧ (s.canvasEvent k i).ecc = s.ecc ∧ (s.canvasEvent k i).queues = s.queues
      ∧ (s.canvasEvent k i).group = s.group ∧ (s.canvasEvent k i).update = s.update ∧ (s.canvasEvent k i).secure = s.secure
      ∧ (s.canvasEvent k i).power = s.power ∧ (s.canvasEvent k i).mem = s.mem ∧ (s.canvasEvent k i).freeCtr = s.freeCtr
      ∧ (s.canvasEvent k i).out = s.out ∧ (s.canvasEvent k i).pending = s.pending := by simp [State.canvasEvent]
@[simp] theorem State.flipCommit_frame (s : State) (r : FrameRec) (k : Nat) (c : Canvas) : (s.flipCommit r k c).host = s.host
      ∧ (s.flipCommit r k c).txn = s.txn ∧ (s.flipCommit r k c).clock = s.clock ∧ (s.flipCommit r k c).time = s.time
      ∧ (s.flipCommit r k c).inputs = s.inputs ∧ (s.flipCommit r k c).meter = s.meter ∧ (s.flipCommit r k c).net = s.net
      ∧ (s.flipCommit r k c).fns = s.fns ∧ (s.flipCommit r k c).ecc = s.ecc ∧ (s.flipCommit r k c).queues = s.queues
      ∧ (s.flipCommit r k c).group = s.group ∧ (s.flipCommit r k c).update = s.update ∧ (s.flipCommit r k c).secure = s.secure
      ∧ (s.flipCommit r k c).power = s.power ∧ (s.flipCommit r k c).mem = s.mem := by simp [State.flipCommit]
@[simp] theorem State.finishCanvas_frame (s : State) (r : FrameRec) (k : Nat) (c : Canvas) :
    (s.finishCanvas r k c).host = s.host ∧ (s.finishCanvas r k c).txn = s.txn ∧ (s.finishCanvas r k c).clock = s.clock
      ∧ (s.finishCanvas r k c).time = s.time ∧ (s.finishCanvas r k c).inputs = s.inputs ∧ (s.finishCanvas r k c).meter = s.meter
      ∧ (s.finishCanvas r k c).net = s.net ∧ (s.finishCanvas r k c).fns = s.fns ∧ (s.finishCanvas r k c).ecc = s.ecc
      ∧ (s.finishCanvas r k c).queues = s.queues ∧ (s.finishCanvas r k c).group = s.group ∧ (s.finishCanvas r k c).update = s.update
      ∧ (s.finishCanvas r k c).secure = s.secure ∧ (s.finishCanvas r k c).power = s.power ∧ (s.finishCanvas r k c).mem = s.mem := by simp [State.finishCanvas]
@[simp] theorem State.setImage_frame (s : State) (n : Nat) (m : WireImage) : (s.setImage n m).host = s.host
      ∧ (s.setImage n m).txn = s.txn ∧ (s.setImage n m).clock = s.clock ∧ (s.setImage n m).time = s.time ∧ (s.setImage n m).icu = s.icu
      ∧ (s.setImage n m).inputs = s.inputs ∧ (s.setImage n m).meter = s.meter ∧ (s.setImage n m).ports = s.ports
      ∧ (s.setImage n m).net = s.net ∧ (s.setImage n m).fns = s.fns ∧ (s.setImage n m).ecc = s.ecc ∧ (s.setImage n m).queues = s.queues
      ∧ (s.setImage n m).group = s.group ∧ (s.setImage n m).update = s.update ∧ (s.setImage n m).secure = s.secure
      ∧ (s.setImage n m).power = s.power ∧ (s.setImage n m).mem = s.mem ∧ (s.setImage n m).freeCtr = s.freeCtr
      ∧ (s.setImage n m).out = s.out ∧ (s.setImage n m).pending = s.pending := by simp [State.setImage]
@[simp] theorem State.endTile_frame (s : State) (r : FrameRec) (t : Task) : (s.endTile r t).host = s.host ∧ (s.endTile r t).txn = s.txn
      ∧ (s.endTile r t).clock = s.clock ∧ (s.endTile r t).time = s.time ∧ (s.endTile r t).inputs = s.inputs
      ∧ (s.endTile r t).meter = s.meter ∧ (s.endTile r t).net = s.net ∧ (s.endTile r t).fns = s.fns ∧ (s.endTile r t).ecc = s.ecc
      ∧ (s.endTile r t).queues = s.queues ∧ (s.endTile r t).group = s.group ∧ (s.endTile r t).update = s.update
      ∧ (s.endTile r t).secure = s.secure ∧ (s.endTile r t).power = s.power ∧ (s.endTile r t).mem = s.mem := by
  unfold State.endTile
  (repeat' split) <;> simp
@[simp] theorem State.endTask_frame (s : State) (r : FrameRec) (t : Task) : (s.endTask r t).host = s.host ∧ (s.endTask r t).txn = s.txn
      ∧ (s.endTask r t).clock = s.clock ∧ (s.endTask r t).time = s.time ∧ (s.endTask r t).inputs = s.inputs
      ∧ (s.endTask r t).meter = s.meter ∧ (s.endTask r t).net = s.net ∧ (s.endTask r t).fns = s.fns ∧ (s.endTask r t).ecc = s.ecc
      ∧ (s.endTask r t).queues = s.queues ∧ (s.endTask r t).group = s.group ∧ (s.endTask r t).update = s.update
      ∧ (s.endTask r t).secure = s.secure ∧ (s.endTask r t).power = s.power ∧ (s.endTask r t).mem = s.mem := by
  unfold State.endTask
  (repeat' split) <;> simp
@[simp] theorem State.drop_frame (s : State) (h : Held) : (s.drop h).host = s.host ∧ (s.drop h).txn = s.txn ∧ (s.drop h).clock = s.clock
      ∧ (s.drop h).time = s.time ∧ (s.drop h).inputs = s.inputs ∧ (s.drop h).meter = s.meter ∧ (s.drop h).ports = s.ports
      ∧ (s.drop h).net = s.net ∧ (s.drop h).fns = s.fns ∧ (s.drop h).ecc = s.ecc ∧ (s.drop h).queues = s.queues
      ∧ (s.drop h).group = s.group ∧ (s.drop h).update = s.update ∧ (s.drop h).secure = s.secure ∧ (s.drop h).power = s.power
      ∧ (s.drop h).mem = s.mem ∧ (s.drop h).out = s.out ∧ (s.drop h).pending = s.pending := by
  unfold State.drop
  try simp
  all_goals ((repeat' split) <;> try simp_all)
@[simp] theorem State.faultTask_frame (s : State) (h : Held) : (s.faultTask h).host = s.host ∧ (s.faultTask h).txn = s.txn
      ∧ (s.faultTask h).clock = s.clock ∧ (s.faultTask h).time = s.time ∧ (s.faultTask h).inputs = s.inputs
      ∧ (s.faultTask h).meter = s.meter ∧ (s.faultTask h).ports = s.ports ∧ (s.faultTask h).net = s.net ∧ (s.faultTask h).fns = s.fns
      ∧ (s.faultTask h).ecc = s.ecc ∧ (s.faultTask h).queues = s.queues ∧ (s.faultTask h).group = s.group
      ∧ (s.faultTask h).update = s.update ∧ (s.faultTask h).secure = s.secure ∧ (s.faultTask h).power = s.power
      ∧ (s.faultTask h).mem = s.mem ∧ (s.faultTask h).out = s.out ∧ (s.faultTask h).pending = s.pending := by
  unfold State.faultTask
  try simp
  all_goals ((repeat' split) <;> try simp_all)
@[simp] theorem State.taskComplete_frame (s : State) (cluster : Nat) (poison : Bool) : (s.taskComplete cluster poison).host = s.host
      ∧ (s.taskComplete cluster poison).txn = s.txn ∧ (s.taskComplete cluster poison).clock = s.clock
      ∧ (s.taskComplete cluster poison).time = s.time ∧ (s.taskComplete cluster poison).inputs = s.inputs
      ∧ (s.taskComplete cluster poison).meter = s.meter ∧ (s.taskComplete cluster poison).net = s.net
      ∧ (s.taskComplete cluster poison).fns = s.fns ∧ (s.taskComplete cluster poison).ecc = s.ecc
      ∧ (s.taskComplete cluster poison).queues = s.queues ∧ (s.taskComplete cluster poison).group = s.group
      ∧ (s.taskComplete cluster poison).update = s.update ∧ (s.taskComplete cluster poison).secure = s.secure
      ∧ (s.taskComplete cluster poison).power = s.power ∧ (s.taskComplete cluster poison).mem = s.mem := by
  unfold State.taskComplete
  try simp
  all_goals ((repeat' split) <;> try simp_all)
@[simp] theorem State.decideFrame_frame (s : State) (r : FrameRec) : (s.decideFrame r).1.host = s.host ∧ (s.decideFrame r).1.txn = s.txn
      ∧ (s.decideFrame r).1.clock = s.clock ∧ (s.decideFrame r).1.time = s.time ∧ (s.decideFrame r).1.render = s.render
      ∧ (s.decideFrame r).1.inputs = s.inputs ∧ (s.decideFrame r).1.meter = s.meter ∧ (s.decideFrame r).1.ports = s.ports
      ∧ (s.decideFrame r).1.net = s.net ∧ (s.decideFrame r).1.fns = s.fns ∧ (s.decideFrame r).1.ecc = s.ecc
      ∧ (s.decideFrame r).1.queues = s.queues ∧ (s.decideFrame r).1.group = s.group ∧ (s.decideFrame r).1.update = s.update
      ∧ (s.decideFrame r).1.secure = s.secure ∧ (s.decideFrame r).1.power = s.power ∧ (s.decideFrame r).1.mem = s.mem
      ∧ (s.decideFrame r).1.freeCtr = s.freeCtr ∧ (s.decideFrame r).1.out = s.out ∧ (s.decideFrame r).1.pending = s.pending := by simp [State.decideFrame]
@[simp] theorem State.governorDecision_frame (s : State) : (s.governorDecision).host = s.host ∧ (s.governorDecision).txn = s.txn
      ∧ (s.governorDecision).clock = s.clock ∧ (s.governorDecision).time = s.time ∧ (s.governorDecision).inputs = s.inputs
      ∧ (s.governorDecision).meter = s.meter ∧ (s.governorDecision).ports = s.ports ∧ (s.governorDecision).net = s.net
      ∧ (s.governorDecision).fns = s.fns ∧ (s.governorDecision).ecc = s.ecc ∧ (s.governorDecision).queues = s.queues
      ∧ (s.governorDecision).group = s.group ∧ (s.governorDecision).update = s.update ∧ (s.governorDecision).secure = s.secure
      ∧ (s.governorDecision).power = s.power ∧ (s.governorDecision).mem = s.mem ∧ (s.governorDecision).out = s.out
      ∧ (s.governorDecision).pending = s.pending := by
  unfold State.governorDecision
  (repeat' split) <;> simp
@[simp] theorem State.endRun_frame (s : State) (n : Nat) : (s.endRun n).host = s.host ∧ (s.endRun n).txn = s.txn
      ∧ (s.endRun n).clock = s.clock ∧ (s.endRun n).time = s.time ∧ (s.endRun n).icu = s.icu ∧ (s.endRun n).render = s.render
      ∧ (s.endRun n).inputs = s.inputs ∧ (s.endRun n).meter = s.meter ∧ (s.endRun n).ports = s.ports ∧ (s.endRun n).net = s.net
      ∧ (s.endRun n).fns = s.fns ∧ (s.endRun n).ecc = s.ecc ∧ (s.endRun n).queues = s.queues ∧ (s.endRun n).update = s.update
      ∧ (s.endRun n).secure = s.secure ∧ (s.endRun n).power = s.power ∧ (s.endRun n).mem = s.mem ∧ (s.endRun n).freeCtr = s.freeCtr
      ∧ (s.endRun n).out = s.out ∧ (s.endRun n).pending = s.pending := by simp [State.endRun]
@[simp] theorem State.compareDigests_frame (s : State) (n : Nat) : (s.compareDigests n).host = s.host ∧ (s.compareDigests n).txn = s.txn
      ∧ (s.compareDigests n).clock = s.clock ∧ (s.compareDigests n).time = s.time ∧ (s.compareDigests n).render = s.render
      ∧ (s.compareDigests n).inputs = s.inputs ∧ (s.compareDigests n).meter = s.meter ∧ (s.compareDigests n).ports = s.ports
      ∧ (s.compareDigests n).net = s.net ∧ (s.compareDigests n).fns = s.fns ∧ (s.compareDigests n).ecc = s.ecc
      ∧ (s.compareDigests n).queues = s.queues ∧ (s.compareDigests n).update = s.update ∧ (s.compareDigests n).secure = s.secure
      ∧ (s.compareDigests n).power = s.power ∧ (s.compareDigests n).mem = s.mem ∧ (s.compareDigests n).freeCtr = s.freeCtr
      ∧ (s.compareDigests n).out = s.out ∧ (s.compareDigests n).pending = s.pending := by
  unfold State.compareDigests
  try simp
  all_goals ((repeat' split) <;> try simp)
@[simp] theorem State.digestIfClosed_frame (s : State) (n : Nat) : (s.digestIfClosed n).host = s.host ∧ (s.digestIfClosed n).txn = s.txn
      ∧ (s.digestIfClosed n).clock = s.clock ∧ (s.digestIfClosed n).time = s.time ∧ (s.digestIfClosed n).inputs = s.inputs
      ∧ (s.digestIfClosed n).meter = s.meter ∧ (s.digestIfClosed n).ports = s.ports ∧ (s.digestIfClosed n).net = s.net
      ∧ (s.digestIfClosed n).fns = s.fns ∧ (s.digestIfClosed n).ecc = s.ecc ∧ (s.digestIfClosed n).queues = s.queues
      ∧ (s.digestIfClosed n).update = s.update ∧ (s.digestIfClosed n).secure = s.secure ∧ (s.digestIfClosed n).power = s.power
      ∧ (s.digestIfClosed n).mem = s.mem ∧ (s.digestIfClosed n).freeCtr = s.freeCtr ∧ (s.digestIfClosed n).pending = s.pending := by
  unfold State.digestIfClosed
  (repeat' split) <;> simp
@[simp] theorem State.keepReady_frame (s : State) (p : Task → Bool) : (s.keepReady p).host = s.host ∧ (s.keepReady p).txn = s.txn
      ∧ (s.keepReady p).clock = s.clock ∧ (s.keepReady p).time = s.time ∧ (s.keepReady p).inputs = s.inputs
      ∧ (s.keepReady p).meter = s.meter ∧ (s.keepReady p).ports = s.ports ∧ (s.keepReady p).net = s.net ∧ (s.keepReady p).fns = s.fns
      ∧ (s.keepReady p).ecc = s.ecc ∧ (s.keepReady p).queues = s.queues ∧ (s.keepReady p).group = s.group
      ∧ (s.keepReady p).update = s.update ∧ (s.keepReady p).secure = s.secure ∧ (s.keepReady p).power = s.power
      ∧ (s.keepReady p).mem = s.mem ∧ (s.keepReady p).freeCtr = s.freeCtr ∧ (s.keepReady p).out = s.out
      ∧ (s.keepReady p).pending = s.pending := by simp [State.keepReady]
@[simp] theorem State.adopt_frame (s : State) (r : FrameRec) (cycles : Nat) : (s.adopt r cycles).host = s.host
      ∧ (s.adopt r cycles).txn = s.txn ∧ (s.adopt r cycles).clock = s.clock ∧ (s.adopt r cycles).time = s.time
      ∧ (s.adopt r cycles).icu = s.icu ∧ (s.adopt r cycles).inputs = s.inputs ∧ (s.adopt r cycles).meter = s.meter
      ∧ (s.adopt r cycles).ports = s.ports ∧ (s.adopt r cycles).net = s.net ∧ (s.adopt r cycles).fns = s.fns
      ∧ (s.adopt r cycles).ecc = s.ecc ∧ (s.adopt r cycles).queues = s.queues ∧ (s.adopt r cycles).group = s.group
      ∧ (s.adopt r cycles).update = s.update ∧ (s.adopt r cycles).secure = s.secure ∧ (s.adopt r cycles).power = s.power
      ∧ (s.adopt r cycles).mem = s.mem ∧ (s.adopt r cycles).freeCtr = s.freeCtr ∧ (s.adopt r cycles).out = s.out
      ∧ (s.adopt r cycles).pending = s.pending := by simp [State.adopt]
@[simp] theorem State.repeatMain_frame (s : State) (r : FrameRec) : (s.repeatMain r).host = s.host ∧ (s.repeatMain r).txn = s.txn
      ∧ (s.repeatMain r).clock = s.clock ∧ (s.repeatMain r).time = s.time ∧ (s.repeatMain r).inputs = s.inputs
      ∧ (s.repeatMain r).meter = s.meter ∧ (s.repeatMain r).ports = s.ports ∧ (s.repeatMain r).net = s.net
      ∧ (s.repeatMain r).fns = s.fns ∧ (s.repeatMain r).ecc = s.ecc ∧ (s.repeatMain r).queues = s.queues
      ∧ (s.repeatMain r).group = s.group ∧ (s.repeatMain r).update = s.update ∧ (s.repeatMain r).secure = s.secure
      ∧ (s.repeatMain r).power = s.power ∧ (s.repeatMain r).mem = s.mem ∧ (s.repeatMain r).out = s.out
      ∧ (s.repeatMain r).pending = s.pending := by simp [State.repeatMain]
@[simp] theorem State.closeMain_frame (s : State) (r : FrameRec) : (s.closeMain r).host = s.host ∧ (s.closeMain r).txn = s.txn
      ∧ (s.closeMain r).clock = s.clock ∧ (s.closeMain r).time = s.time ∧ (s.closeMain r).inputs = s.inputs
      ∧ (s.closeMain r).meter = s.meter ∧ (s.closeMain r).ports = s.ports ∧ (s.closeMain r).net = s.net ∧ (s.closeMain r).fns = s.fns
      ∧ (s.closeMain r).ecc = s.ecc ∧ (s.closeMain r).queues = s.queues ∧ (s.closeMain r).update = s.update
      ∧ (s.closeMain r).secure = s.secure ∧ (s.closeMain r).power = s.power ∧ (s.closeMain r).mem = s.mem
      ∧ (s.closeMain r).pending = s.pending := by simp [State.closeMain]
@[simp] theorem State.mainWindowClose_frame (s : State) : (s.mainWindowClose).host = s.host ∧ (s.mainWindowClose).txn = s.txn
      ∧ (s.mainWindowClose).clock = s.clock ∧ (s.mainWindowClose).time = s.time ∧ (s.mainWindowClose).inputs = s.inputs
      ∧ (s.mainWindowClose).meter = s.meter ∧ (s.mainWindowClose).ports = s.ports ∧ (s.mainWindowClose).net = s.net
      ∧ (s.mainWindowClose).fns = s.fns ∧ (s.mainWindowClose).ecc = s.ecc ∧ (s.mainWindowClose).queues = s.queues
      ∧ (s.mainWindowClose).update = s.update ∧ (s.mainWindowClose).secure = s.secure ∧ (s.mainWindowClose).power = s.power
      ∧ (s.mainWindowClose).mem = s.mem ∧ (s.mainWindowClose).pending = s.pending := by
  unfold State.mainWindowClose
  (repeat' split) <;> simp
@[simp] theorem State.canvasWindowOpen_frame (s : State) (k : Nat) : (s.canvasWindowOpen k).host = s.host
      ∧ (s.canvasWindowOpen k).txn = s.txn ∧ (s.canvasWindowOpen k).clock = s.clock ∧ (s.canvasWindowOpen k).time = s.time
      ∧ (s.canvasWindowOpen k).icu = s.icu ∧ (s.canvasWindowOpen k).inputs = s.inputs ∧ (s.canvasWindowOpen k).meter = s.meter
      ∧ (s.canvasWindowOpen k).ports = s.ports ∧ (s.canvasWindowOpen k).net = s.net ∧ (s.canvasWindowOpen k).fns = s.fns
      ∧ (s.canvasWindowOpen k).ecc = s.ecc ∧ (s.canvasWindowOpen k).queues = s.queues ∧ (s.canvasWindowOpen k).group = s.group
      ∧ (s.canvasWindowOpen k).update = s.update ∧ (s.canvasWindowOpen k).secure = s.secure ∧ (s.canvasWindowOpen k).power = s.power
      ∧ (s.canvasWindowOpen k).mem = s.mem ∧ (s.canvasWindowOpen k).freeCtr = s.freeCtr ∧ (s.canvasWindowOpen k).out = s.out
      ∧ (s.canvasWindowOpen k).pending = s.pending := by
  unfold State.canvasWindowOpen
  (repeat' split) <;> simp
@[simp] theorem State.failFront_frame (s : State) (r : FrameRec) (k : Nat) (c : Canvas) : (s.failFront r k c).host = s.host
      ∧ (s.failFront r k c).txn = s.txn ∧ (s.failFront r k c).clock = s.clock ∧ (s.failFront r k c).time = s.time
      ∧ (s.failFront r k c).icu = s.icu ∧ (s.failFront r k c).inputs = s.inputs ∧ (s.failFront r k c).meter = s.meter
      ∧ (s.failFront r k c).ports = s.ports ∧ (s.failFront r k c).net = s.net ∧ (s.failFront r k c).fns = s.fns
      ∧ (s.failFront r k c).ecc = s.ecc ∧ (s.failFront r k c).queues = s.queues ∧ (s.failFront r k c).group = s.group
      ∧ (s.failFront r k c).update = s.update ∧ (s.failFront r k c).secure = s.secure ∧ (s.failFront r k c).power = s.power
      ∧ (s.failFront r k c).mem = s.mem ∧ (s.failFront r k c).freeCtr = s.freeCtr ∧ (s.failFront r k c).out = s.out
      ∧ (s.failFront r k c).pending = s.pending := by simp [State.failFront]
@[simp] theorem State.noteCrcs_frame (s : State) (r : FrameRec) (k : Nat) (checked : Bool) :
    (s.noteCrcs r k checked).host = s.host ∧ (s.noteCrcs r k checked).txn = s.txn ∧ (s.noteCrcs r k checked).clock = s.clock
      ∧ (s.noteCrcs r k checked).time = s.time ∧ (s.noteCrcs r k checked).icu = s.icu ∧ (s.noteCrcs r k checked).inputs = s.inputs
      ∧ (s.noteCrcs r k checked).meter = s.meter ∧ (s.noteCrcs r k checked).ports = s.ports ∧ (s.noteCrcs r k checked).net = s.net
      ∧ (s.noteCrcs r k checked).fns = s.fns ∧ (s.noteCrcs r k checked).ecc = s.ecc ∧ (s.noteCrcs r k checked).queues = s.queues
      ∧ (s.noteCrcs r k checked).group = s.group ∧ (s.noteCrcs r k checked).update = s.update
      ∧ (s.noteCrcs r k checked).secure = s.secure ∧ (s.noteCrcs r k checked).power = s.power ∧ (s.noteCrcs r k checked).mem = s.mem
      ∧ (s.noteCrcs r k checked).freeCtr = s.freeCtr ∧ (s.noteCrcs r k checked).out = s.out
      ∧ (s.noteCrcs r k checked).pending = s.pending := by simp [State.noteCrcs]
@[simp] theorem State.canvasRepeat_frame (s : State) (k n exceeded : Nat) : (s.canvasRepeat k n exceeded).host = s.host
      ∧ (s.canvasRepeat k n exceeded).txn = s.txn ∧ (s.canvasRepeat k n exceeded).clock = s.clock
      ∧ (s.canvasRepeat k n exceeded).time = s.time ∧ (s.canvasRepeat k n exceeded).inputs = s.inputs
      ∧ (s.canvasRepeat k n exceeded).meter = s.meter ∧ (s.canvasRepeat k n exceeded).ports = s.ports
      ∧ (s.canvasRepeat k n exceeded).net = s.net ∧ (s.canvasRepeat k n exceeded).fns = s.fns
      ∧ (s.canvasRepeat k n exceeded).ecc = s.ecc ∧ (s.canvasRepeat k n exceeded).queues = s.queues
      ∧ (s.canvasRepeat k n exceeded).group = s.group ∧ (s.canvasRepeat k n exceeded).update = s.update
      ∧ (s.canvasRepeat k n exceeded).secure = s.secure ∧ (s.canvasRepeat k n exceeded).power = s.power
      ∧ (s.canvasRepeat k n exceeded).mem = s.mem ∧ (s.canvasRepeat k n exceeded).out = s.out
      ∧ (s.canvasRepeat k n exceeded).pending = s.pending := by simp [State.canvasRepeat]
@[simp] theorem State.canvasWindowClose_frame (s : State) (k : Nat) : (s.canvasWindowClose k).host = s.host
      ∧ (s.canvasWindowClose k).txn = s.txn ∧ (s.canvasWindowClose k).clock = s.clock ∧ (s.canvasWindowClose k).time = s.time
      ∧ (s.canvasWindowClose k).inputs = s.inputs ∧ (s.canvasWindowClose k).meter = s.meter ∧ (s.canvasWindowClose k).ports = s.ports
      ∧ (s.canvasWindowClose k).net = s.net ∧ (s.canvasWindowClose k).fns = s.fns ∧ (s.canvasWindowClose k).ecc = s.ecc
      ∧ (s.canvasWindowClose k).queues = s.queues ∧ (s.canvasWindowClose k).update = s.update
      ∧ (s.canvasWindowClose k).secure = s.secure ∧ (s.canvasWindowClose k).power = s.power ∧ (s.canvasWindowClose k).mem = s.mem
      ∧ (s.canvasWindowClose k).pending = s.pending := by
  unfold State.canvasWindowClose
  try simp
  all_goals ((repeat' split) <;> try simp)
@[simp] theorem State.repeatSlice_frame (s : State) (r : FrameRec) (k : Nat) (c : Canvas) (j : Nat) :
    (s.repeatSlice r k c j).1.host = s.host ∧ (s.repeatSlice r k c j).1.txn = s.txn ∧ (s.repeatSlice r k c j).1.clock = s.clock
      ∧ (s.repeatSlice r k c j).1.time = s.time ∧ (s.repeatSlice r k c j).1.inputs = s.inputs
      ∧ (s.repeatSlice r k c j).1.meter = s.meter ∧ (s.repeatSlice r k c j).1.ports = s.ports ∧ (s.repeatSlice r k c j).1.net = s.net
      ∧ (s.repeatSlice r k c j).1.fns = s.fns ∧ (s.repeatSlice r k c j).1.ecc = s.ecc ∧ (s.repeatSlice r k c j).1.queues = s.queues
      ∧ (s.repeatSlice r k c j).1.group = s.group ∧ (s.repeatSlice r k c j).1.update = s.update
      ∧ (s.repeatSlice r k c j).1.secure = s.secure ∧ (s.repeatSlice r k c j).1.power = s.power ∧ (s.repeatSlice r k c j).1.mem = s.mem
      ∧ (s.repeatSlice r k c j).1.freeCtr = s.freeCtr ∧ (s.repeatSlice r k c j).1.out = s.out
      ∧ (s.repeatSlice r k c j).1.pending = s.pending := by simp [State.repeatSlice]
@[simp] theorem State.flushLane_frame (s : State) (l : Nat) : (s.flushLane l).host = s.host ∧ (s.flushLane l).txn = s.txn
      ∧ (s.flushLane l).clock = s.clock ∧ (s.flushLane l).time = s.time ∧ (s.flushLane l).icu = s.icu
      ∧ (s.flushLane l).render = s.render ∧ (s.flushLane l).inputs = s.inputs ∧ (s.flushLane l).meter = s.meter
      ∧ (s.flushLane l).net = s.net ∧ (s.flushLane l).fns = s.fns ∧ (s.flushLane l).ecc = s.ecc ∧ (s.flushLane l).queues = s.queues
      ∧ (s.flushLane l).group = s.group ∧ (s.flushLane l).update = s.update ∧ (s.flushLane l).secure = s.secure
      ∧ (s.flushLane l).power = s.power ∧ (s.flushLane l).mem = s.mem ∧ (s.flushLane l).freeCtr = s.freeCtr
      ∧ (s.flushLane l).pending = s.pending := by
  unfold State.flushLane
  try simp
  all_goals ((repeat' split) <;> try simp_all)
@[simp] theorem State.flushRolling_frame (s : State) (k n : Nat) : (s.flushRolling k n).host = s.host ∧ (s.flushRolling k n).txn = s.txn
      ∧ (s.flushRolling k n).clock = s.clock ∧ (s.flushRolling k n).time = s.time ∧ (s.flushRolling k n).icu = s.icu
      ∧ (s.flushRolling k n).render = s.render ∧ (s.flushRolling k n).inputs = s.inputs ∧ (s.flushRolling k n).meter = s.meter
      ∧ (s.flushRolling k n).net = s.net ∧ (s.flushRolling k n).fns = s.fns ∧ (s.flushRolling k n).ecc = s.ecc
      ∧ (s.flushRolling k n).queues = s.queues ∧ (s.flushRolling k n).group = s.group ∧ (s.flushRolling k n).update = s.update
      ∧ (s.flushRolling k n).secure = s.secure ∧ (s.flushRolling k n).power = s.power ∧ (s.flushRolling k n).mem = s.mem
      ∧ (s.flushRolling k n).freeCtr = s.freeCtr ∧ (s.flushRolling k n).pending = s.pending := by
  unfold State.flushRolling
  try simp
  all_goals ((repeat' split) <;> try simp_all)
@[simp] theorem State.slicesOver_frame (s : State) (n k : Nat) (c : Canvas) : (s.slicesOver n k c).host = s.host
      ∧ (s.slicesOver n k c).txn = s.txn ∧ (s.slicesOver n k c).clock = s.clock ∧ (s.slicesOver n k c).time = s.time
      ∧ (s.slicesOver n k c).inputs = s.inputs ∧ (s.slicesOver n k c).meter = s.meter ∧ (s.slicesOver n k c).net = s.net
      ∧ (s.slicesOver n k c).fns = s.fns ∧ (s.slicesOver n k c).ecc = s.ecc ∧ (s.slicesOver n k c).queues = s.queues
      ∧ (s.slicesOver n k c).update = s.update ∧ (s.slicesOver n k c).secure = s.secure ∧ (s.slicesOver n k c).power = s.power
      ∧ (s.slicesOver n k c).mem = s.mem := by
  unfold State.slicesOver
  try simp
  all_goals ((repeat' split) <;> try simp_all)
@[simp] theorem State.closeSlice_frame (s : State) (r : FrameRec) (k : Nat) (c : Canvas) (j : Nat) :
    (s.closeSlice r k c j).host = s.host ∧ (s.closeSlice r k c j).txn = s.txn ∧ (s.closeSlice r k c j).clock = s.clock
      ∧ (s.closeSlice r k c j).time = s.time ∧ (s.closeSlice r k c j).inputs = s.inputs ∧ (s.closeSlice r k c j).meter = s.meter
      ∧ (s.closeSlice r k c j).net = s.net ∧ (s.closeSlice r k c j).fns = s.fns ∧ (s.closeSlice r k c j).ecc = s.ecc
      ∧ (s.closeSlice r k c j).queues = s.queues ∧ (s.closeSlice r k c j).update = s.update ∧ (s.closeSlice r k c j).secure = s.secure
      ∧ (s.closeSlice r k c j).power = s.power ∧ (s.closeSlice r k c j).mem = s.mem := by
  unfold State.closeSlice
  try simp
  all_goals ((repeat' split) <;> try simp_all)
@[simp] theorem State.openDark_frame (s : State) (r : FrameRec) (k : Nat) (c : Canvas) : (s.openDark r k c).host = s.host
      ∧ (s.openDark r k c).txn = s.txn ∧ (s.openDark r k c).clock = s.clock ∧ (s.openDark r k c).time = s.time
      ∧ (s.openDark r k c).inputs = s.inputs ∧ (s.openDark r k c).meter = s.meter ∧ (s.openDark r k c).net = s.net
      ∧ (s.openDark r k c).fns = s.fns ∧ (s.openDark r k c).ecc = s.ecc ∧ (s.openDark r k c).queues = s.queues
      ∧ (s.openDark r k c).group = s.group ∧ (s.openDark r k c).update = s.update ∧ (s.openDark r k c).secure = s.secure
      ∧ (s.openDark r k c).power = s.power ∧ (s.openDark r k c).mem = s.mem := by
  unfold State.openDark
  try simp
  all_goals ((repeat' split) <;> try simp_all)
@[simp] theorem State.repeatSlices_frame (s : State) (r : FrameRec) (k : Nat) (m : SliceMode) :
    (s.repeatSlices r k m).host = s.host ∧ (s.repeatSlices r k m).txn = s.txn ∧ (s.repeatSlices r k m).clock = s.clock
      ∧ (s.repeatSlices r k m).time = s.time ∧ (s.repeatSlices r k m).meter = s.meter ∧ (s.repeatSlices r k m).ports = s.ports
      ∧ (s.repeatSlices r k m).net = s.net ∧ (s.repeatSlices r k m).fns = s.fns ∧ (s.repeatSlices r k m).ecc = s.ecc
      ∧ (s.repeatSlices r k m).queues = s.queues ∧ (s.repeatSlices r k m).update = s.update ∧ (s.repeatSlices r k m).secure = s.secure
      ∧ (s.repeatSlices r k m).power = s.power ∧ (s.repeatSlices r k m).mem = s.mem ∧ (s.repeatSlices r k m).pending = s.pending := by
  unfold State.repeatSlices
  try simp
  all_goals ((repeat' split) <;> try simp_all)
@[simp] theorem State.noSlices_frame (s : State) (r : FrameRec) (k : Nat) (c : Canvas) (m : SliceMode) :
    (s.noSlices r k c m).host = s.host ∧ (s.noSlices r k c m).txn = s.txn ∧ (s.noSlices r k c m).clock = s.clock
      ∧ (s.noSlices r k c m).time = s.time ∧ (s.noSlices r k c m).meter = s.meter ∧ (s.noSlices r k c m).net = s.net
      ∧ (s.noSlices r k c m).fns = s.fns ∧ (s.noSlices r k c m).ecc = s.ecc ∧ (s.noSlices r k c m).queues = s.queues
      ∧ (s.noSlices r k c m).update = s.update ∧ (s.noSlices r k c m).secure = s.secure ∧ (s.noSlices r k c m).power = s.power
      ∧ (s.noSlices r k c m).mem = s.mem := by
  unfold State.noSlices
  try simp
  all_goals ((repeat' split) <;> try simp_all)
@[simp] theorem State.sliceLost_frame (s : State) (i : Nat) : (s.sliceLost i).host = s.host ∧ (s.sliceLost i).txn = s.txn
      ∧ (s.sliceLost i).clock = s.clock ∧ (s.sliceLost i).time = s.time ∧ (s.sliceLost i).render = s.render
      ∧ (s.sliceLost i).meter = s.meter ∧ (s.sliceLost i).ports = s.ports ∧ (s.sliceLost i).net = s.net ∧ (s.sliceLost i).fns = s.fns
      ∧ (s.sliceLost i).ecc = s.ecc ∧ (s.sliceLost i).queues = s.queues ∧ (s.sliceLost i).group = s.group
      ∧ (s.sliceLost i).update = s.update ∧ (s.sliceLost i).secure = s.secure ∧ (s.sliceLost i).power = s.power
      ∧ (s.sliceLost i).mem = s.mem ∧ (s.sliceLost i).freeCtr = s.freeCtr ∧ (s.sliceLost i).out = s.out
      ∧ (s.sliceLost i).pending = s.pending := by
  unfold State.sliceLost
  try simp
  all_goals ((repeat' split) <;> try simp_all)
@[simp] theorem State.sliceWindowClose_frame (s : State) (k j : Nat) : (s.sliceWindowClose k j).host = s.host
      ∧ (s.sliceWindowClose k j).txn = s.txn ∧ (s.sliceWindowClose k j).clock = s.clock ∧ (s.sliceWindowClose k j).time = s.time
      ∧ (s.sliceWindowClose k j).meter = s.meter ∧ (s.sliceWindowClose k j).net = s.net ∧ (s.sliceWindowClose k j).fns = s.fns
      ∧ (s.sliceWindowClose k j).ecc = s.ecc ∧ (s.sliceWindowClose k j).queues = s.queues ∧ (s.sliceWindowClose k j).update = s.update
      ∧ (s.sliceWindowClose k j).secure = s.secure ∧ (s.sliceWindowClose k j).power = s.power ∧ (s.sliceWindowClose k j).mem = s.mem := by
  unfold State.sliceWindowClose
  try simp
  all_goals ((repeat' split) <;> try simp_all)
@[simp] theorem State.openFirst_frame (s : State) (r : FrameRec) (k : Nat) (c : Canvas) (f : VideoFrame) :
    (s.openFirst r k c f).host = s.host ∧ (s.openFirst r k c f).txn = s.txn ∧ (s.openFirst r k c f).clock = s.clock
      ∧ (s.openFirst r k c f).time = s.time ∧ (s.openFirst r k c f).inputs = s.inputs ∧ (s.openFirst r k c f).meter = s.meter
      ∧ (s.openFirst r k c f).net = s.net ∧ (s.openFirst r k c f).fns = s.fns ∧ (s.openFirst r k c f).ecc = s.ecc
      ∧ (s.openFirst r k c f).queues = s.queues ∧ (s.openFirst r k c f).group = s.group ∧ (s.openFirst r k c f).update = s.update
      ∧ (s.openFirst r k c f).secure = s.secure ∧ (s.openFirst r k c f).power = s.power ∧ (s.openFirst r k c f).mem = s.mem := by simp [State.openFirst]
@[simp] theorem State.tempReading_frame (s : State) (p : Bytes → Bool) (value : Bytes → F32) (invalid : Bool) :
    (s.tempReading p value invalid).host = s.host ∧ (s.tempReading p value invalid).txn = s.txn
      ∧ (s.tempReading p value invalid).clock = s.clock ∧ (s.tempReading p value invalid).time = s.time
      ∧ (s.tempReading p value invalid).icu = s.icu ∧ (s.tempReading p value invalid).inputs = s.inputs
      ∧ (s.tempReading p value invalid).meter = s.meter ∧ (s.tempReading p value invalid).ports = s.ports
      ∧ (s.tempReading p value invalid).net = s.net ∧ (s.tempReading p value invalid).fns = s.fns
      ∧ (s.tempReading p value invalid).ecc = s.ecc ∧ (s.tempReading p value invalid).queues = s.queues
      ∧ (s.tempReading p value invalid).group = s.group ∧ (s.tempReading p value invalid).update = s.update
      ∧ (s.tempReading p value invalid).secure = s.secure ∧ (s.tempReading p value invalid).power = s.power
      ∧ (s.tempReading p value invalid).mem = s.mem ∧ (s.tempReading p value invalid).freeCtr = s.freeCtr
      ∧ (s.tempReading p value invalid).out = s.out ∧ (s.tempReading p value invalid).pending = s.pending := by simp [State.tempReading]
@[simp] theorem State.mtrSample_frame (s : State) (raw : List Int) : (s.mtrSample raw).host = s.host ∧ (s.mtrSample raw).txn = s.txn
      ∧ (s.mtrSample raw).clock = s.clock ∧ (s.mtrSample raw).time = s.time ∧ (s.mtrSample raw).render = s.render
      ∧ (s.mtrSample raw).inputs = s.inputs ∧ (s.mtrSample raw).ports = s.ports ∧ (s.mtrSample raw).net = s.net
      ∧ (s.mtrSample raw).fns = s.fns ∧ (s.mtrSample raw).ecc = s.ecc ∧ (s.mtrSample raw).queues = s.queues
      ∧ (s.mtrSample raw).group = s.group ∧ (s.mtrSample raw).update = s.update ∧ (s.mtrSample raw).secure = s.secure
      ∧ (s.mtrSample raw).power = s.power ∧ (s.mtrSample raw).mem = s.mem ∧ (s.mtrSample raw).freeCtr = s.freeCtr
      ∧ (s.mtrSample raw).out = s.out ∧ (s.mtrSample raw).pending = s.pending := by simp [State.mtrSample]
@[simp] theorem State.mtrZcTimeout_frame (s : State) (k : Nat) : (s.mtrZcTimeout k).host = s.host ∧ (s.mtrZcTimeout k).txn = s.txn
      ∧ (s.mtrZcTimeout k).clock = s.clock ∧ (s.mtrZcTimeout k).time = s.time ∧ (s.mtrZcTimeout k).render = s.render
      ∧ (s.mtrZcTimeout k).inputs = s.inputs ∧ (s.mtrZcTimeout k).ports = s.ports ∧ (s.mtrZcTimeout k).net = s.net
      ∧ (s.mtrZcTimeout k).fns = s.fns ∧ (s.mtrZcTimeout k).ecc = s.ecc ∧ (s.mtrZcTimeout k).queues = s.queues
      ∧ (s.mtrZcTimeout k).group = s.group ∧ (s.mtrZcTimeout k).update = s.update ∧ (s.mtrZcTimeout k).secure = s.secure
      ∧ (s.mtrZcTimeout k).power = s.power ∧ (s.mtrZcTimeout k).mem = s.mem ∧ (s.mtrZcTimeout k).freeCtr = s.freeCtr
      ∧ (s.mtrZcTimeout k).out = s.out ∧ (s.mtrZcTimeout k).pending = s.pending := by
  unfold State.mtrZcTimeout
  (repeat' split) <;> simp
@[simp] theorem State.setMtrPulse_frame (s : State) (j : Nat) (o : MtrPulse) : (s.setMtrPulse j o).host = s.host
      ∧ (s.setMtrPulse j o).txn = s.txn ∧ (s.setMtrPulse j o).clock = s.clock ∧ (s.setMtrPulse j o).time = s.time
      ∧ (s.setMtrPulse j o).icu = s.icu ∧ (s.setMtrPulse j o).render = s.render ∧ (s.setMtrPulse j o).inputs = s.inputs
      ∧ (s.setMtrPulse j o).ports = s.ports ∧ (s.setMtrPulse j o).net = s.net ∧ (s.setMtrPulse j o).fns = s.fns
      ∧ (s.setMtrPulse j o).ecc = s.ecc ∧ (s.setMtrPulse j o).queues = s.queues ∧ (s.setMtrPulse j o).group = s.group
      ∧ (s.setMtrPulse j o).update = s.update ∧ (s.setMtrPulse j o).secure = s.secure ∧ (s.setMtrPulse j o).power = s.power
      ∧ (s.setMtrPulse j o).mem = s.mem ∧ (s.setMtrPulse j o).freeCtr = s.freeCtr ∧ (s.setMtrPulse j o).out = s.out
      ∧ (s.setMtrPulse j o).pending = s.pending := by simp [State.setMtrPulse]
@[simp] theorem State.mtrPulseEdge_frame (s : State) (j : Nat) : (s.mtrPulseEdge j).host = s.host ∧ (s.mtrPulseEdge j).txn = s.txn
      ∧ (s.mtrPulseEdge j).clock = s.clock ∧ (s.mtrPulseEdge j).time = s.time ∧ (s.mtrPulseEdge j).render = s.render
      ∧ (s.mtrPulseEdge j).inputs = s.inputs ∧ (s.mtrPulseEdge j).ports = s.ports ∧ (s.mtrPulseEdge j).net = s.net
      ∧ (s.mtrPulseEdge j).fns = s.fns ∧ (s.mtrPulseEdge j).ecc = s.ecc ∧ (s.mtrPulseEdge j).queues = s.queues
      ∧ (s.mtrPulseEdge j).group = s.group ∧ (s.mtrPulseEdge j).update = s.update ∧ (s.mtrPulseEdge j).secure = s.secure
      ∧ (s.mtrPulseEdge j).power = s.power ∧ (s.mtrPulseEdge j).mem = s.mem ∧ (s.mtrPulseEdge j).freeCtr = s.freeCtr
      ∧ (s.mtrPulseEdge j).pending = s.pending := by simp [State.mtrPulseEdge]
@[simp] theorem State.mtrPulseEnd_frame (s : State) (j : Nat) : (s.mtrPulseEnd j).host = s.host ∧ (s.mtrPulseEnd j).txn = s.txn
      ∧ (s.mtrPulseEnd j).clock = s.clock ∧ (s.mtrPulseEnd j).time = s.time ∧ (s.mtrPulseEnd j).icu = s.icu
      ∧ (s.mtrPulseEnd j).render = s.render ∧ (s.mtrPulseEnd j).inputs = s.inputs ∧ (s.mtrPulseEnd j).ports = s.ports
      ∧ (s.mtrPulseEnd j).net = s.net ∧ (s.mtrPulseEnd j).fns = s.fns ∧ (s.mtrPulseEnd j).ecc = s.ecc
      ∧ (s.mtrPulseEnd j).queues = s.queues ∧ (s.mtrPulseEnd j).group = s.group ∧ (s.mtrPulseEnd j).update = s.update
      ∧ (s.mtrPulseEnd j).secure = s.secure ∧ (s.mtrPulseEnd j).power = s.power ∧ (s.mtrPulseEnd j).mem = s.mem
      ∧ (s.mtrPulseEnd j).freeCtr = s.freeCtr ∧ (s.mtrPulseEnd j).pending = s.pending := by simp [State.mtrPulseEnd]
@[simp] theorem State.mtrPulseGapEnd_frame (s : State) (j : Nat) : (s.mtrPulseGapEnd j).host = s.host ∧ (s.mtrPulseGapEnd j).txn = s.txn
      ∧ (s.mtrPulseGapEnd j).clock = s.clock ∧ (s.mtrPulseGapEnd j).time = s.time ∧ (s.mtrPulseGapEnd j).icu = s.icu
      ∧ (s.mtrPulseGapEnd j).render = s.render ∧ (s.mtrPulseGapEnd j).inputs = s.inputs ∧ (s.mtrPulseGapEnd j).ports = s.ports
      ∧ (s.mtrPulseGapEnd j).net = s.net ∧ (s.mtrPulseGapEnd j).fns = s.fns ∧ (s.mtrPulseGapEnd j).ecc = s.ecc
      ∧ (s.mtrPulseGapEnd j).queues = s.queues ∧ (s.mtrPulseGapEnd j).group = s.group ∧ (s.mtrPulseGapEnd j).update = s.update
      ∧ (s.mtrPulseGapEnd j).secure = s.secure ∧ (s.mtrPulseGapEnd j).power = s.power ∧ (s.mtrPulseGapEnd j).mem = s.mem
      ∧ (s.mtrPulseGapEnd j).freeCtr = s.freeCtr ∧ (s.mtrPulseGapEnd j).pending = s.pending := by simp [State.mtrPulseGapEnd]
@[simp] theorem State.definePoint_frame (s : State) (k : Nat) (c : MtrPointCfg) : (s.definePoint k c).host = s.host
      ∧ (s.definePoint k c).txn = s.txn ∧ (s.definePoint k c).clock = s.clock ∧ (s.definePoint k c).time = s.time
      ∧ (s.definePoint k c).render = s.render ∧ (s.definePoint k c).inputs = s.inputs ∧ (s.definePoint k c).ports = s.ports
      ∧ (s.definePoint k c).net = s.net ∧ (s.definePoint k c).fns = s.fns ∧ (s.definePoint k c).ecc = s.ecc
      ∧ (s.definePoint k c).queues = s.queues ∧ (s.definePoint k c).group = s.group ∧ (s.definePoint k c).update = s.update
      ∧ (s.definePoint k c).secure = s.secure ∧ (s.definePoint k c).power = s.power ∧ (s.definePoint k c).mem = s.mem
      ∧ (s.definePoint k c).freeCtr = s.freeCtr ∧ (s.definePoint k c).out = s.out ∧ (s.definePoint k c).pending = s.pending := by
  unfold State.definePoint
  (repeat' split) <;> simp
@[simp] theorem State.mtrCaptureDone_frame (s : State) (op : Nat) : (s.mtrCaptureDone op).txn = s.txn
      ∧ (s.mtrCaptureDone op).clock = s.clock ∧ (s.mtrCaptureDone op).time = s.time ∧ (s.mtrCaptureDone op).render = s.render
      ∧ (s.mtrCaptureDone op).inputs = s.inputs ∧ (s.mtrCaptureDone op).ports = s.ports ∧ (s.mtrCaptureDone op).net = s.net
      ∧ (s.mtrCaptureDone op).fns = s.fns ∧ (s.mtrCaptureDone op).queues = s.queues ∧ (s.mtrCaptureDone op).group = s.group
      ∧ (s.mtrCaptureDone op).update = s.update ∧ (s.mtrCaptureDone op).secure = s.secure ∧ (s.mtrCaptureDone op).power = s.power
      ∧ (s.mtrCaptureDone op).pending = s.pending := by
  unfold State.mtrCaptureDone
  (repeat' split) <;> simp
@[simp] theorem State.noteVoids_frame (s : State) (ps : List Int) : (s.noteVoids ps).host = s.host ∧ (s.noteVoids ps).txn = s.txn
      ∧ (s.noteVoids ps).clock = s.clock ∧ (s.noteVoids ps).time = s.time ∧ (s.noteVoids ps).inputs = s.inputs
      ∧ (s.noteVoids ps).meter = s.meter ∧ (s.noteVoids ps).ports = s.ports ∧ (s.noteVoids ps).net = s.net
      ∧ (s.noteVoids ps).fns = s.fns ∧ (s.noteVoids ps).ecc = s.ecc ∧ (s.noteVoids ps).queues = s.queues
      ∧ (s.noteVoids ps).group = s.group ∧ (s.noteVoids ps).update = s.update ∧ (s.noteVoids ps).secure = s.secure
      ∧ (s.noteVoids ps).power = s.power ∧ (s.noteVoids ps).mem = s.mem ∧ (s.noteVoids ps).freeCtr = s.freeCtr
      ∧ (s.noteVoids ps).out = s.out ∧ (s.noteVoids ps).pending = s.pending := by
  unfold State.noteVoids
  try simp
  all_goals ((repeat' split) <;> try simp_all)
@[simp] theorem State.takeActions_frame (s : State) (v : ShowState) (rate : Nat) (x : Int) :
    (s.takeActions v rate x).host = s.host ∧ (s.takeActions v rate x).txn = s.txn ∧ (s.takeActions v rate x).clock = s.clock
      ∧ (s.takeActions v rate x).time = s.time ∧ (s.takeActions v rate x).inputs = s.inputs ∧ (s.takeActions v rate x).meter = s.meter
      ∧ (s.takeActions v rate x).ports = s.ports ∧ (s.takeActions v rate x).net = s.net ∧ (s.takeActions v rate x).fns = s.fns
      ∧ (s.takeActions v rate x).ecc = s.ecc ∧ (s.takeActions v rate x).queues = s.queues ∧ (s.takeActions v rate x).group = s.group
      ∧ (s.takeActions v rate x).update = s.update ∧ (s.takeActions v rate x).secure = s.secure
      ∧ (s.takeActions v rate x).power = s.power ∧ (s.takeActions v rate x).mem = s.mem ∧ (s.takeActions v rate x).freeCtr = s.freeCtr
      ∧ (s.takeActions v rate x).out = s.out ∧ (s.takeActions v rate x).pending = s.pending := by
  unfold State.takeActions
  try simp
  all_goals ((repeat' split) <;> try simp_all)
@[simp] theorem State.settleBefore_frame (s : State) (n : Nat) (x : Int) : (s.settleBefore n x).host = s.host
      ∧ (s.settleBefore n x).txn = s.txn ∧ (s.settleBefore n x).clock = s.clock ∧ (s.settleBefore n x).time = s.time
      ∧ (s.settleBefore n x).inputs = s.inputs ∧ (s.settleBefore n x).meter = s.meter ∧ (s.settleBefore n x).ports = s.ports
      ∧ (s.settleBefore n x).net = s.net ∧ (s.settleBefore n x).fns = s.fns ∧ (s.settleBefore n x).ecc = s.ecc
      ∧ (s.settleBefore n x).queues = s.queues ∧ (s.settleBefore n x).group = s.group ∧ (s.settleBefore n x).update = s.update
      ∧ (s.settleBefore n x).secure = s.secure ∧ (s.settleBefore n x).power = s.power ∧ (s.settleBefore n x).mem = s.mem
      ∧ (s.settleBefore n x).freeCtr = s.freeCtr ∧ (s.settleBefore n x).out = s.out ∧ (s.settleBefore n x).pending = s.pending := by
  unfold State.settleBefore
  try simp
  all_goals ((repeat' split) <;> try simp_all)
@[simp] theorem State.adoptView_frame (s : State) (old raw : ShowState) (n : Nat) (t : Units) (at_ : Option Nat) :
    (s.adoptView old raw n t at_).host = s.host ∧ (s.adoptView old raw n t at_).txn = s.txn
      ∧ (s.adoptView old raw n t at_).time = s.time ∧ (s.adoptView old raw n t at_).icu = s.icu
      ∧ (s.adoptView old raw n t at_).meter = s.meter ∧ (s.adoptView old raw n t at_).net = s.net
      ∧ (s.adoptView old raw n t at_).fns = s.fns ∧ (s.adoptView old raw n t at_).ecc = s.ecc
      ∧ (s.adoptView old raw n t at_).queues = s.queues ∧ (s.adoptView old raw n t at_).group = s.group
      ∧ (s.adoptView old raw n t at_).update = s.update ∧ (s.adoptView old raw n t at_).secure = s.secure
      ∧ (s.adoptView old raw n t at_).power = s.power ∧ (s.adoptView old raw n t at_).mem = s.mem
      ∧ (s.adoptView old raw n t at_).freeCtr = s.freeCtr ∧ (s.adoptView old raw n t at_).out = s.out
      ∧ (s.adoptView old raw n t at_).pending = s.pending := by simp [State.adoptView]
@[simp] theorem State.abortRdm_frame (s : State) (j : Nat) : (s.abortRdm j).txn = s.txn ∧ (s.abortRdm j).clock = s.clock
      ∧ (s.abortRdm j).time = s.time ∧ (s.abortRdm j).render = s.render ∧ (s.abortRdm j).inputs = s.inputs
      ∧ (s.abortRdm j).meter = s.meter ∧ (s.abortRdm j).net = s.net ∧ (s.abortRdm j).fns = s.fns ∧ (s.abortRdm j).ecc = s.ecc
      ∧ (s.abortRdm j).queues = s.queues ∧ (s.abortRdm j).group = s.group ∧ (s.abortRdm j).update = s.update
      ∧ (s.abortRdm j).secure = s.secure ∧ (s.abortRdm j).power = s.power ∧ (s.abortRdm j).mem = s.mem
      ∧ (s.abortRdm j).freeCtr = s.freeCtr ∧ (s.abortRdm j).pending = s.pending := by simp [State.abortRdm]
@[simp] theorem State.turnInputs_frame (s : State) (old new_ : PortShow) : (s.turnInputs old new_).txn = s.txn
      ∧ (s.turnInputs old new_).clock = s.clock ∧ (s.turnInputs old new_).time = s.time ∧ (s.turnInputs old new_).render = s.render
      ∧ (s.turnInputs old new_).inputs = s.inputs ∧ (s.turnInputs old new_).meter = s.meter ∧ (s.turnInputs old new_).net = s.net
      ∧ (s.turnInputs old new_).fns = s.fns ∧ (s.turnInputs old new_).ecc = s.ecc ∧ (s.turnInputs old new_).queues = s.queues
      ∧ (s.turnInputs old new_).group = s.group ∧ (s.turnInputs old new_).update = s.update ∧ (s.turnInputs old new_).secure = s.secure
      ∧ (s.turnInputs old new_).power = s.power ∧ (s.turnInputs old new_).mem = s.mem ∧ (s.turnInputs old new_).freeCtr = s.freeCtr
      ∧ (s.turnInputs old new_).pending = s.pending := by simp [State.turnInputs]
@[simp] theorem State.commitDone_frame (s : State) (slot op n : Nat) : (s.commitDone slot op n).clock = s.clock
      ∧ (s.commitDone slot op n).time = s.time ∧ (s.commitDone slot op n).render = s.render ∧ (s.commitDone slot op n).inputs = s.inputs
      ∧ (s.commitDone slot op n).meter = s.meter ∧ (s.commitDone slot op n).ports = s.ports ∧ (s.commitDone slot op n).net = s.net
      ∧ (s.commitDone slot op n).fns = s.fns ∧ (s.commitDone slot op n).ecc = s.ecc ∧ (s.commitDone slot op n).queues = s.queues
      ∧ (s.commitDone slot op n).group = s.group ∧ (s.commitDone slot op n).update = s.update
      ∧ (s.commitDone slot op n).secure = s.secure ∧ (s.commitDone slot op n).power = s.power ∧ (s.commitDone slot op n).mem = s.mem
      ∧ (s.commitDone slot op n).freeCtr = s.freeCtr ∧ (s.commitDone slot op n).pending = s.pending := by simp [State.commitDone]
@[simp] theorem State.rescaleAt_frame (s : State) (n : Nat) : (s.rescaleAt n).host = s.host ∧ (s.rescaleAt n).txn = s.txn
      ∧ (s.rescaleAt n).clock = s.clock ∧ (s.rescaleAt n).time = s.time ∧ (s.rescaleAt n).icu = s.icu
      ∧ (s.rescaleAt n).inputs = s.inputs ∧ (s.rescaleAt n).meter = s.meter ∧ (s.rescaleAt n).ports = s.ports
      ∧ (s.rescaleAt n).net = s.net ∧ (s.rescaleAt n).fns = s.fns ∧ (s.rescaleAt n).ecc = s.ecc ∧ (s.rescaleAt n).queues = s.queues
      ∧ (s.rescaleAt n).group = s.group ∧ (s.rescaleAt n).update = s.update ∧ (s.rescaleAt n).secure = s.secure
      ∧ (s.rescaleAt n).power = s.power ∧ (s.rescaleAt n).mem = s.mem ∧ (s.rescaleAt n).freeCtr = s.freeCtr
      ∧ (s.rescaleAt n).out = s.out ∧ (s.rescaleAt n).pending = s.pending := by
  unfold State.rescaleAt
  try simp
  all_goals ((repeat' split) <;> try simp_all)
@[simp] theorem State.dynBefore_frame (s : State) (n : Nat) (as : List Applied) : (s.dynBefore n as).host = s.host
      ∧ (s.dynBefore n as).txn = s.txn ∧ (s.dynBefore n as).clock = s.clock ∧ (s.dynBefore n as).time = s.time
      ∧ (s.dynBefore n as).inputs = s.inputs ∧ (s.dynBefore n as).meter = s.meter ∧ (s.dynBefore n as).ports = s.ports
      ∧ (s.dynBefore n as).net = s.net ∧ (s.dynBefore n as).fns = s.fns ∧ (s.dynBefore n as).ecc = s.ecc
      ∧ (s.dynBefore n as).queues = s.queues ∧ (s.dynBefore n as).group = s.group ∧ (s.dynBefore n as).update = s.update
      ∧ (s.dynBefore n as).secure = s.secure ∧ (s.dynBefore n as).power = s.power ∧ (s.dynBefore n as).mem = s.mem
      ∧ (s.dynBefore n as).freeCtr = s.freeCtr ∧ (s.dynBefore n as).out = s.out ∧ (s.dynBefore n as).pending = s.pending := by
  unfold State.dynBefore
  try simp
  all_goals ((repeat' split) <;> try simp_all)
@[simp] theorem State.latchVideo_frame (s : State) (i : Nat) (cfg : Bytes) : (s.latchVideo i cfg).host = s.host
      ∧ (s.latchVideo i cfg).txn = s.txn ∧ (s.latchVideo i cfg).clock = s.clock ∧ (s.latchVideo i cfg).time = s.time
      ∧ (s.latchVideo i cfg).render = s.render ∧ (s.latchVideo i cfg).meter = s.meter ∧ (s.latchVideo i cfg).ports = s.ports
      ∧ (s.latchVideo i cfg).net = s.net ∧ (s.latchVideo i cfg).fns = s.fns ∧ (s.latchVideo i cfg).ecc = s.ecc
      ∧ (s.latchVideo i cfg).queues = s.queues ∧ (s.latchVideo i cfg).group = s.group ∧ (s.latchVideo i cfg).update = s.update
      ∧ (s.latchVideo i cfg).secure = s.secure ∧ (s.latchVideo i cfg).power = s.power ∧ (s.latchVideo i cfg).mem = s.mem
      ∧ (s.latchVideo i cfg).freeCtr = s.freeCtr ∧ (s.latchVideo i cfg).out = s.out ∧ (s.latchVideo i cfg).pending = s.pending := by simp [State.latchVideo]
@[simp] theorem State.latchVideos_frame (s : State) : (s.latchVideos).host = s.host ∧ (s.latchVideos).txn = s.txn
      ∧ (s.latchVideos).clock = s.clock ∧ (s.latchVideos).time = s.time ∧ (s.latchVideos).render = s.render
      ∧ (s.latchVideos).meter = s.meter ∧ (s.latchVideos).ports = s.ports ∧ (s.latchVideos).net = s.net ∧ (s.latchVideos).fns = s.fns
      ∧ (s.latchVideos).ecc = s.ecc ∧ (s.latchVideos).queues = s.queues ∧ (s.latchVideos).group = s.group
      ∧ (s.latchVideos).update = s.update ∧ (s.latchVideos).secure = s.secure ∧ (s.latchVideos).power = s.power
      ∧ (s.latchVideos).mem = s.mem ∧ (s.latchVideos).freeCtr = s.freeCtr ∧ (s.latchVideos).out = s.out
      ∧ (s.latchVideos).pending = s.pending := by simp [State.latchVideos]
@[simp] theorem State.latchTemps_frame (s : State) (l : Instant) : (s.latchTemps l).1.host = s.host ∧ (s.latchTemps l).1.txn = s.txn
      ∧ (s.latchTemps l).1.clock = s.clock ∧ (s.latchTemps l).1.time = s.time ∧ (s.latchTemps l).1.inputs = s.inputs
      ∧ (s.latchTemps l).1.meter = s.meter ∧ (s.latchTemps l).1.ports = s.ports ∧ (s.latchTemps l).1.net = s.net
      ∧ (s.latchTemps l).1.fns = s.fns ∧ (s.latchTemps l).1.ecc = s.ecc ∧ (s.latchTemps l).1.queues = s.queues
      ∧ (s.latchTemps l).1.group = s.group ∧ (s.latchTemps l).1.update = s.update ∧ (s.latchTemps l).1.secure = s.secure
      ∧ (s.latchTemps l).1.power = s.power ∧ (s.latchTemps l).1.mem = s.mem ∧ (s.latchTemps l).1.freeCtr = s.freeCtr
      ∧ (s.latchTemps l).1.out = s.out ∧ (s.latchTemps l).1.pending = s.pending := by simp [State.latchTemps]
@[simp] theorem State.fireLtc_frame (s : State) (r : FrameRec) (ltc : LtcView) : (s.fireLtc r ltc).1.host = s.host
      ∧ (s.fireLtc r ltc).1.txn = s.txn ∧ (s.fireLtc r ltc).1.time = s.time ∧ (s.fireLtc r ltc).1.inputs = s.inputs
      ∧ (s.fireLtc r ltc).1.meter = s.meter ∧ (s.fireLtc r ltc).1.ports = s.ports ∧ (s.fireLtc r ltc).1.net = s.net
      ∧ (s.fireLtc r ltc).1.fns = s.fns ∧ (s.fireLtc r ltc).1.ecc = s.ecc ∧ (s.fireLtc r ltc).1.queues = s.queues
      ∧ (s.fireLtc r ltc).1.group = s.group ∧ (s.fireLtc r ltc).1.update = s.update ∧ (s.fireLtc r ltc).1.secure = s.secure
      ∧ (s.fireLtc r ltc).1.power = s.power ∧ (s.fireLtc r ltc).1.mem = s.mem ∧ (s.fireLtc r ltc).1.freeCtr = s.freeCtr
      ∧ (s.fireLtc r ltc).1.out = s.out ∧ (s.fireLtc r ltc).1.pending = s.pending := by
  unfold State.fireLtc
  try simp
  all_goals ((repeat' split) <;> try simp_all)
@[simp] theorem State.sendDelta_frame (s : State) (r : FrameRec) : (s.sendDelta r).host = s.host ∧ (s.sendDelta r).txn = s.txn
      ∧ (s.sendDelta r).clock = s.clock ∧ (s.sendDelta r).time = s.time ∧ (s.sendDelta r).icu = s.icu
      ∧ (s.sendDelta r).render = s.render ∧ (s.sendDelta r).inputs = s.inputs ∧ (s.sendDelta r).meter = s.meter
      ∧ (s.sendDelta r).ports = s.ports ∧ (s.sendDelta r).net = s.net ∧ (s.sendDelta r).fns = s.fns ∧ (s.sendDelta r).ecc = s.ecc
      ∧ (s.sendDelta r).queues = s.queues ∧ (s.sendDelta r).update = s.update ∧ (s.sendDelta r).secure = s.secure
      ∧ (s.sendDelta r).power = s.power ∧ (s.sendDelta r).mem = s.mem ∧ (s.sendDelta r).freeCtr = s.freeCtr
      ∧ (s.sendDelta r).pending = s.pending := by simp [State.sendDelta]
@[simp] theorem State.carry_frame (s : State) (r : FrameRec) (d : SealRecord) : (s.carry r d).host = s.host ∧ (s.carry r d).txn = s.txn
      ∧ (s.carry r d).clock = s.clock ∧ (s.carry r d).time = s.time ∧ (s.carry r d).icu = s.icu ∧ (s.carry r d).meter = s.meter
      ∧ (s.carry r d).ports = s.ports ∧ (s.carry r d).net = s.net ∧ (s.carry r d).fns = s.fns ∧ (s.carry r d).ecc = s.ecc
      ∧ (s.carry r d).queues = s.queues ∧ (s.carry r d).group = s.group ∧ (s.carry r d).update = s.update
      ∧ (s.carry r d).secure = s.secure ∧ (s.carry r d).power = s.power ∧ (s.carry r d).mem = s.mem ∧ (s.carry r d).freeCtr = s.freeCtr
      ∧ (s.carry r d).out = s.out ∧ (s.carry r d).pending = s.pending := by
  unfold State.carry
  try simp
  all_goals ((repeat' split) <;> try simp_all)
@[simp] theorem State.sealFrame_frame (s : State) (r : FrameRec) (d : SealRecord) : (s.sealFrame r d).host = s.host
      ∧ (s.sealFrame r d).txn = s.txn ∧ (s.sealFrame r d).time = s.time ∧ (s.sealFrame r d).meter = s.meter
      ∧ (s.sealFrame r d).ports = s.ports ∧ (s.sealFrame r d).net = s.net ∧ (s.sealFrame r d).fns = s.fns
      ∧ (s.sealFrame r d).ecc = s.ecc ∧ (s.sealFrame r d).queues = s.queues ∧ (s.sealFrame r d).group = s.group
      ∧ (s.sealFrame r d).update = s.update ∧ (s.sealFrame r d).secure = s.secure ∧ (s.sealFrame r d).power = s.power
      ∧ (s.sealFrame r d).mem = s.mem ∧ (s.sealFrame r d).freeCtr = s.freeCtr ∧ (s.sealFrame r d).out = s.out
      ∧ (s.sealFrame r d).pending = s.pending := by
  unfold State.sealFrame
  try simp
  all_goals ((repeat' split) <;> try simp_all)
@[simp] theorem State.sealMissed_frame (s : State) (r : FrameRec) (d : SealRecord) : (s.sealMissed r d).host = s.host
      ∧ (s.sealMissed r d).txn = s.txn ∧ (s.sealMissed r d).clock = s.clock ∧ (s.sealMissed r d).time = s.time
      ∧ (s.sealMissed r d).icu = s.icu ∧ (s.sealMissed r d).inputs = s.inputs ∧ (s.sealMissed r d).meter = s.meter
      ∧ (s.sealMissed r d).ports = s.ports ∧ (s.sealMissed r d).net = s.net ∧ (s.sealMissed r d).fns = s.fns
      ∧ (s.sealMissed r d).ecc = s.ecc ∧ (s.sealMissed r d).queues = s.queues ∧ (s.sealMissed r d).update = s.update
      ∧ (s.sealMissed r d).secure = s.secure ∧ (s.sealMissed r d).power = s.power ∧ (s.sealMissed r d).mem = s.mem
      ∧ (s.sealMissed r d).freeCtr = s.freeCtr ∧ (s.sealMissed r d).out = s.out ∧ (s.sealMissed r d).pending = s.pending := by simp [State.sealMissed]
@[simp] theorem State.useSeal_frame (s : State) (n : Nat) : (s.useSeal n).host = s.host ∧ (s.useSeal n).txn = s.txn
      ∧ (s.useSeal n).time = s.time ∧ (s.useSeal n).meter = s.meter ∧ (s.useSeal n).ports = s.ports ∧ (s.useSeal n).net = s.net
      ∧ (s.useSeal n).fns = s.fns ∧ (s.useSeal n).ecc = s.ecc ∧ (s.useSeal n).queues = s.queues ∧ (s.useSeal n).update = s.update
      ∧ (s.useSeal n).secure = s.secure ∧ (s.useSeal n).power = s.power ∧ (s.useSeal n).mem = s.mem ∧ (s.useSeal n).freeCtr = s.freeCtr
      ∧ (s.useSeal n).out = s.out ∧ (s.useSeal n).pending = s.pending := by
  unfold State.useSeal
  try simp
  all_goals ((repeat' split) <;> try simp_all)
@[simp] theorem State.takeSeal_frame (s : State) (n : Nat) (d : SealRecord) : (s.takeSeal n d).host = s.host
      ∧ (s.takeSeal n d).txn = s.txn ∧ (s.takeSeal n d).time = s.time ∧ (s.takeSeal n d).meter = s.meter
      ∧ (s.takeSeal n d).ports = s.ports ∧ (s.takeSeal n d).net = s.net ∧ (s.takeSeal n d).fns = s.fns ∧ (s.takeSeal n d).ecc = s.ecc
      ∧ (s.takeSeal n d).queues = s.queues ∧ (s.takeSeal n d).update = s.update ∧ (s.takeSeal n d).secure = s.secure
      ∧ (s.takeSeal n d).power = s.power ∧ (s.takeSeal n d).mem = s.mem ∧ (s.takeSeal n d).freeCtr = s.freeCtr
      ∧ (s.takeSeal n d).out = s.out ∧ (s.takeSeal n d).pending = s.pending := by
  unfold State.takeSeal
  try simp
  all_goals ((repeat' split) <;> try simp_all)
@[simp] theorem State.inputSeal_frame (s : State) : (s.inputSeal).txn = s.txn ∧ (s.inputSeal).time = s.time
      ∧ (s.inputSeal).meter = s.meter ∧ (s.inputSeal).fns = s.fns ∧ (s.inputSeal).ecc = s.ecc ∧ (s.inputSeal).queues = s.queues
      ∧ (s.inputSeal).update = s.update ∧ (s.inputSeal).secure = s.secure ∧ (s.inputSeal).power = s.power
      ∧ (s.inputSeal).pending = s.pending := by
  unfold State.inputSeal
  try simp
  all_goals ((repeat' split) <;> try simp_all)
@[simp] theorem State.takeDelta_frame (s : State) (n who : Nat) (d : SealRecord) : (s.takeDelta n who d).host = s.host
      ∧ (s.takeDelta n who d).txn = s.txn ∧ (s.takeDelta n who d).clock = s.clock ∧ (s.takeDelta n who d).time = s.time
      ∧ (s.takeDelta n who d).icu = s.icu ∧ (s.takeDelta n who d).render = s.render ∧ (s.takeDelta n who d).inputs = s.inputs
      ∧ (s.takeDelta n who d).meter = s.meter ∧ (s.takeDelta n who d).ports = s.ports ∧ (s.takeDelta n who d).net = s.net
      ∧ (s.takeDelta n who d).fns = s.fns ∧ (s.takeDelta n who d).ecc = s.ecc ∧ (s.takeDelta n who d).queues = s.queues
      ∧ (s.takeDelta n who d).update = s.update ∧ (s.takeDelta n who d).secure = s.secure ∧ (s.takeDelta n who d).power = s.power
      ∧ (s.takeDelta n who d).mem = s.mem ∧ (s.takeDelta n who d).freeCtr = s.freeCtr ∧ (s.takeDelta n who d).out = s.out
      ∧ (s.takeDelta n who d).pending = s.pending := by simp [State.takeDelta]
@[simp] theorem State.rootDiffers_frame (s : State) (n who : Nat) : (s.rootDiffers n who).host = s.host
      ∧ (s.rootDiffers n who).txn = s.txn ∧ (s.rootDiffers n who).clock = s.clock ∧ (s.rootDiffers n who).time = s.time
      ∧ (s.rootDiffers n who).render = s.render ∧ (s.rootDiffers n who).inputs = s.inputs ∧ (s.rootDiffers n who).meter = s.meter
      ∧ (s.rootDiffers n who).ports = s.ports ∧ (s.rootDiffers n who).net = s.net ∧ (s.rootDiffers n who).fns = s.fns
      ∧ (s.rootDiffers n who).ecc = s.ecc ∧ (s.rootDiffers n who).queues = s.queues ∧ (s.rootDiffers n who).update = s.update
      ∧ (s.rootDiffers n who).secure = s.secure ∧ (s.rootDiffers n who).power = s.power ∧ (s.rootDiffers n who).mem = s.mem
      ∧ (s.rootDiffers n who).freeCtr = s.freeCtr ∧ (s.rootDiffers n who).pending = s.pending := by simp [State.rootDiffers]
@[simp] theorem State.compareRoots_frame (s : State) (n : Nat) : (s.compareRoots n).host = s.host ∧ (s.compareRoots n).txn = s.txn
      ∧ (s.compareRoots n).clock = s.clock ∧ (s.compareRoots n).time = s.time ∧ (s.compareRoots n).render = s.render
      ∧ (s.compareRoots n).inputs = s.inputs ∧ (s.compareRoots n).meter = s.meter ∧ (s.compareRoots n).ports = s.ports
      ∧ (s.compareRoots n).net = s.net ∧ (s.compareRoots n).fns = s.fns ∧ (s.compareRoots n).ecc = s.ecc
      ∧ (s.compareRoots n).queues = s.queues ∧ (s.compareRoots n).update = s.update ∧ (s.compareRoots n).secure = s.secure
      ∧ (s.compareRoots n).power = s.power ∧ (s.compareRoots n).mem = s.mem ∧ (s.compareRoots n).freeCtr = s.freeCtr
      ∧ (s.compareRoots n).pending = s.pending := by simp [State.compareRoots]
@[simp] theorem State.sendRoot_frame (s : State) (n : Nat) : (s.sendRoot n).host = s.host ∧ (s.sendRoot n).txn = s.txn
      ∧ (s.sendRoot n).clock = s.clock ∧ (s.sendRoot n).time = s.time ∧ (s.sendRoot n).render = s.render
      ∧ (s.sendRoot n).inputs = s.inputs ∧ (s.sendRoot n).meter = s.meter ∧ (s.sendRoot n).ports = s.ports ∧ (s.sendRoot n).net = s.net
      ∧ (s.sendRoot n).fns = s.fns ∧ (s.sendRoot n).ecc = s.ecc ∧ (s.sendRoot n).queues = s.queues ∧ (s.sendRoot n).update = s.update
      ∧ (s.sendRoot n).secure = s.secure ∧ (s.sendRoot n).power = s.power ∧ (s.sendRoot n).mem = s.mem
      ∧ (s.sendRoot n).freeCtr = s.freeCtr ∧ (s.sendRoot n).pending = s.pending := by simp [State.sendRoot]
@[simp] theorem State.takeRoot_frame (s : State) (n who : Nat) (root : Bytes) : (s.takeRoot n who root).host = s.host
      ∧ (s.takeRoot n who root).txn = s.txn ∧ (s.takeRoot n who root).clock = s.clock ∧ (s.takeRoot n who root).time = s.time
      ∧ (s.takeRoot n who root).render = s.render ∧ (s.takeRoot n who root).inputs = s.inputs ∧ (s.takeRoot n who root).meter = s.meter
      ∧ (s.takeRoot n who root).ports = s.ports ∧ (s.takeRoot n who root).net = s.net ∧ (s.takeRoot n who root).fns = s.fns
      ∧ (s.takeRoot n who root).ecc = s.ecc ∧ (s.takeRoot n who root).queues = s.queues ∧ (s.takeRoot n who root).update = s.update
      ∧ (s.takeRoot n who root).secure = s.secure ∧ (s.takeRoot n who root).power = s.power ∧ (s.takeRoot n who root).mem = s.mem
      ∧ (s.takeRoot n who root).freeCtr = s.freeCtr ∧ (s.takeRoot n who root).pending = s.pending := by simp [State.takeRoot]
@[simp] theorem State.takeLeaves_frame (s : State) (n : Nat) (ls : Map Bytes) : (s.takeLeaves n ls).host = s.host
      ∧ (s.takeLeaves n ls).txn = s.txn ∧ (s.takeLeaves n ls).clock = s.clock ∧ (s.takeLeaves n ls).time = s.time
      ∧ (s.takeLeaves n ls).icu = s.icu ∧ (s.takeLeaves n ls).render = s.render ∧ (s.takeLeaves n ls).inputs = s.inputs
      ∧ (s.takeLeaves n ls).meter = s.meter ∧ (s.takeLeaves n ls).ports = s.ports ∧ (s.takeLeaves n ls).net = s.net
      ∧ (s.takeLeaves n ls).fns = s.fns ∧ (s.takeLeaves n ls).ecc = s.ecc ∧ (s.takeLeaves n ls).queues = s.queues
      ∧ (s.takeLeaves n ls).update = s.update ∧ (s.takeLeaves n ls).secure = s.secure ∧ (s.takeLeaves n ls).power = s.power
      ∧ (s.takeLeaves n ls).mem = s.mem ∧ (s.takeLeaves n ls).freeCtr = s.freeCtr ∧ (s.takeLeaves n ls).out = s.out
      ∧ (s.takeLeaves n ls).pending = s.pending := by simp [State.takeLeaves]
@[simp] theorem State.becomeActive_frame (s : State) (m : Nat) (commanded : Bool) : (s.becomeActive m commanded).host = s.host
      ∧ (s.becomeActive m commanded).txn = s.txn ∧ (s.becomeActive m commanded).clock = s.clock
      ∧ (s.becomeActive m commanded).time = s.time ∧ (s.becomeActive m commanded).render = s.render
      ∧ (s.becomeActive m commanded).inputs = s.inputs ∧ (s.becomeActive m commanded).meter = s.meter
      ∧ (s.becomeActive m commanded).net = s.net ∧ (s.becomeActive m commanded).fns = s.fns ∧ (s.becomeActive m commanded).ecc = s.ecc
      ∧ (s.becomeActive m commanded).queues = s.queues ∧ (s.becomeActive m commanded).update = s.update
      ∧ (s.becomeActive m commanded).secure = s.secure ∧ (s.becomeActive m commanded).power = s.power
      ∧ (s.becomeActive m commanded).mem = s.mem ∧ (s.becomeActive m commanded).freeCtr = s.freeCtr
      ∧ (s.becomeActive m commanded).pending = s.pending := by simp [State.becomeActive]
@[simp] theorem State.becomeStandby_frame (s : State) (m : Nat) : (s.becomeStandby m).txn = s.txn ∧ (s.becomeStandby m).clock = s.clock
      ∧ (s.becomeStandby m).time = s.time ∧ (s.becomeStandby m).render = s.render ∧ (s.becomeStandby m).inputs = s.inputs
      ∧ (s.becomeStandby m).meter = s.meter ∧ (s.becomeStandby m).net = s.net ∧ (s.becomeStandby m).fns = s.fns
      ∧ (s.becomeStandby m).ecc = s.ecc ∧ (s.becomeStandby m).queues = s.queues ∧ (s.becomeStandby m).update = s.update
      ∧ (s.becomeStandby m).secure = s.secure ∧ (s.becomeStandby m).power = s.power ∧ (s.becomeStandby m).mem = s.mem
      ∧ (s.becomeStandby m).freeCtr = s.freeCtr ∧ (s.becomeStandby m).pending = s.pending := by simp [State.becomeStandby]
@[simp] theorem State.tangoAt_frame (s : State) (n : Nat) : (s.tangoAt n).txn = s.txn ∧ (s.tangoAt n).clock = s.clock
      ∧ (s.tangoAt n).time = s.time ∧ (s.tangoAt n).render = s.render ∧ (s.tangoAt n).inputs = s.inputs ∧ (s.tangoAt n).meter = s.meter
      ∧ (s.tangoAt n).net = s.net ∧ (s.tangoAt n).fns = s.fns ∧ (s.tangoAt n).ecc = s.ecc ∧ (s.tangoAt n).queues = s.queues
      ∧ (s.tangoAt n).update = s.update ∧ (s.tangoAt n).secure = s.secure ∧ (s.tangoAt n).power = s.power ∧ (s.tangoAt n).mem = s.mem
      ∧ (s.tangoAt n).freeCtr = s.freeCtr ∧ (s.tangoAt n).pending = s.pending := by
  unfold State.tangoAt
  (repeat' split) <;> simp
@[simp] theorem State.closeBefore_frame (s : State) (n : Nat) : (s.closeBefore n).host = s.host ∧ (s.closeBefore n).txn = s.txn
      ∧ (s.closeBefore n).clock = s.clock ∧ (s.closeBefore n).time = s.time ∧ (s.closeBefore n).inputs = s.inputs
      ∧ (s.closeBefore n).meter = s.meter ∧ (s.closeBefore n).ports = s.ports ∧ (s.closeBefore n).net = s.net
      ∧ (s.closeBefore n).fns = s.fns ∧ (s.closeBefore n).ecc = s.ecc ∧ (s.closeBefore n).queues = s.queues
      ∧ (s.closeBefore n).update = s.update ∧ (s.closeBefore n).secure = s.secure ∧ (s.closeBefore n).power = s.power
      ∧ (s.closeBefore n).mem = s.mem ∧ (s.closeBefore n).pending = s.pending := by simp [State.closeBefore]
@[simp] theorem State.latchTx_frame (s : State) (old : ShowState) (r : FrameRec) : (s.latchTx old r).1.host = s.host
      ∧ (s.latchTx old r).1.txn = s.txn ∧ (s.latchTx old r).1.clock = s.clock ∧ (s.latchTx old r).1.time = s.time
      ∧ (s.latchTx old r).1.icu = s.icu ∧ (s.latchTx old r).1.render = s.render ∧ (s.latchTx old r).1.inputs = s.inputs
      ∧ (s.latchTx old r).1.meter = s.meter ∧ (s.latchTx old r).1.ports = s.ports ∧ (s.latchTx old r).1.fns = s.fns
      ∧ (s.latchTx old r).1.ecc = s.ecc ∧ (s.latchTx old r).1.queues = s.queues ∧ (s.latchTx old r).1.group = s.group
      ∧ (s.latchTx old r).1.update = s.update ∧ (s.latchTx old r).1.secure = s.secure ∧ (s.latchTx old r).1.power = s.power
      ∧ (s.latchTx old r).1.mem = s.mem ∧ (s.latchTx old r).1.freeCtr = s.freeCtr ∧ (s.latchTx old r).1.out = s.out
      ∧ (s.latchTx old r).1.pending = s.pending := by simp [State.latchTx]
@[simp] theorem State.enterFrame_frame (s : State) (r : FrameRec) : (s.enterFrame r).txn = s.txn ∧ (s.enterFrame r).time = s.time
      ∧ (s.enterFrame r).meter = s.meter ∧ (s.enterFrame r).fns = s.fns ∧ (s.enterFrame r).ecc = s.ecc
      ∧ (s.enterFrame r).queues = s.queues ∧ (s.enterFrame r).update = s.update ∧ (s.enterFrame r).secure = s.secure
      ∧ (s.enterFrame r).power = s.power ∧ (s.enterFrame r).pending = s.pending := by simp [State.enterFrame]
@[simp] theorem State.lightTime_frame (s : State) : (s.lightTime).host = s.host ∧ (s.lightTime).time = s.time
      ∧ (s.lightTime).inputs = s.inputs ∧ (s.lightTime).meter = s.meter ∧ (s.lightTime).ports = s.ports ∧ (s.lightTime).net = s.net
      ∧ (s.lightTime).fns = s.fns ∧ (s.lightTime).ecc = s.ecc ∧ (s.lightTime).queues = s.queues ∧ (s.lightTime).group = s.group
      ∧ (s.lightTime).update = s.update ∧ (s.lightTime).secure = s.secure ∧ (s.lightTime).power = s.power ∧ (s.lightTime).mem = s.mem
      ∧ (s.lightTime).freeCtr = s.freeCtr ∧ (s.lightTime).out = s.out ∧ (s.lightTime).pending = s.pending := by
  unfold State.lightTime
  (repeat' split) <;> simp
@[simp] theorem State.emitted_frame (s : State) (key : Nat) : (s.emitted key).host = s.host ∧ (s.emitted key).txn = s.txn
      ∧ (s.emitted key).clock = s.clock ∧ (s.emitted key).time = s.time ∧ (s.emitted key).icu = s.icu
      ∧ (s.emitted key).render = s.render ∧ (s.emitted key).inputs = s.inputs ∧ (s.emitted key).meter = s.meter
      ∧ (s.emitted key).net = s.net ∧ (s.emitted key).fns = s.fns ∧ (s.emitted key).ecc = s.ecc ∧ (s.emitted key).queues = s.queues
      ∧ (s.emitted key).group = s.group ∧ (s.emitted key).update = s.update ∧ (s.emitted key).secure = s.secure
      ∧ (s.emitted key).power = s.power ∧ (s.emitted key).mem = s.mem ∧ (s.emitted key).freeCtr = s.freeCtr
      ∧ (s.emitted key).pending = s.pending := by simp [State.emitted]
@[simp] theorem State.skipped_frame (s : State) (key : Nat) : (s.skipped key).host = s.host ∧ (s.skipped key).txn = s.txn
      ∧ (s.skipped key).clock = s.clock ∧ (s.skipped key).time = s.time ∧ (s.skipped key).icu = s.icu
      ∧ (s.skipped key).render = s.render ∧ (s.skipped key).inputs = s.inputs ∧ (s.skipped key).meter = s.meter
      ∧ (s.skipped key).net = s.net ∧ (s.skipped key).fns = s.fns ∧ (s.skipped key).ecc = s.ecc ∧ (s.skipped key).queues = s.queues
      ∧ (s.skipped key).group = s.group ∧ (s.skipped key).update = s.update ∧ (s.skipped key).secure = s.secure
      ∧ (s.skipped key).power = s.power ∧ (s.skipped key).mem = s.mem ∧ (s.skipped key).freeCtr = s.freeCtr
      ∧ (s.skipped key).pending = s.pending := by simp [State.skipped]
@[simp] theorem State.superseded_frame (s : State) (key : Nat) : (s.superseded key).host = s.host ∧ (s.superseded key).txn = s.txn
      ∧ (s.superseded key).clock = s.clock ∧ (s.superseded key).time = s.time ∧ (s.superseded key).icu = s.icu
      ∧ (s.superseded key).render = s.render ∧ (s.superseded key).inputs = s.inputs ∧ (s.superseded key).meter = s.meter
      ∧ (s.superseded key).net = s.net ∧ (s.superseded key).fns = s.fns ∧ (s.superseded key).ecc = s.ecc
      ∧ (s.superseded key).queues = s.queues ∧ (s.superseded key).group = s.group ∧ (s.superseded key).update = s.update
      ∧ (s.superseded key).secure = s.secure ∧ (s.superseded key).power = s.power ∧ (s.superseded key).mem = s.mem
      ∧ (s.superseded key).freeCtr = s.freeCtr ∧ (s.superseded key).pending = s.pending := by simp [State.superseded]
@[simp] theorem State.flipAt_frame (s : State) (k n : Nat) (g : Instant) : (s.flipAt k n g).host = s.host ∧ (s.flipAt k n g).txn = s.txn
      ∧ (s.flipAt k n g).clock = s.clock ∧ (s.flipAt k n g).time = s.time ∧ (s.flipAt k n g).icu = s.icu
      ∧ (s.flipAt k n g).inputs = s.inputs ∧ (s.flipAt k n g).meter = s.meter ∧ (s.flipAt k n g).ports = s.ports
      ∧ (s.flipAt k n g).net = s.net ∧ (s.flipAt k n g).fns = s.fns ∧ (s.flipAt k n g).ecc = s.ecc ∧ (s.flipAt k n g).queues = s.queues
      ∧ (s.flipAt k n g).group = s.group ∧ (s.flipAt k n g).update = s.update ∧ (s.flipAt k n g).secure = s.secure
      ∧ (s.flipAt k n g).power = s.power ∧ (s.flipAt k n g).mem = s.mem ∧ (s.flipAt k n g).freeCtr = s.freeCtr
      ∧ (s.flipAt k n g).out = s.out := by
  unfold State.flipAt
  try simp
  all_goals ((repeat' split) <;> try simp)
@[simp] theorem State.sendAnnounce_frame (s : State) (l : Nat) (at_ : Instant) (h : LaneHeader) :
    (s.sendAnnounce l at_ h).host = s.host ∧ (s.sendAnnounce l at_ h).txn = s.txn ∧ (s.sendAnnounce l at_ h).clock = s.clock
      ∧ (s.sendAnnounce l at_ h).time = s.time ∧ (s.sendAnnounce l at_ h).icu = s.icu ∧ (s.sendAnnounce l at_ h).render = s.render
      ∧ (s.sendAnnounce l at_ h).inputs = s.inputs ∧ (s.sendAnnounce l at_ h).meter = s.meter ∧ (s.sendAnnounce l at_ h).net = s.net
      ∧ (s.sendAnnounce l at_ h).fns = s.fns ∧ (s.sendAnnounce l at_ h).ecc = s.ecc ∧ (s.sendAnnounce l at_ h).queues = s.queues
      ∧ (s.sendAnnounce l at_ h).group = s.group ∧ (s.sendAnnounce l at_ h).update = s.update
      ∧ (s.sendAnnounce l at_ h).secure = s.secure ∧ (s.sendAnnounce l at_ h).power = s.power ∧ (s.sendAnnounce l at_ h).mem = s.mem
      ∧ (s.sendAnnounce l at_ h).freeCtr = s.freeCtr ∧ (s.sendAnnounce l at_ h).pending = s.pending := by
  unfold State.sendAnnounce
  try simp
  all_goals ((repeat' split) <;> try simp_all)
@[simp] theorem State.announceAt_frame (s : State) (r : FrameRec) (c : Canvas) (l : Nat) (at_ : Instant) :
    (s.announceAt r c l at_).host = s.host ∧ (s.announceAt r c l at_).txn = s.txn ∧ (s.announceAt r c l at_).clock = s.clock
      ∧ (s.announceAt r c l at_).time = s.time ∧ (s.announceAt r c l at_).icu = s.icu ∧ (s.announceAt r c l at_).render = s.render
      ∧ (s.announceAt r c l at_).inputs = s.inputs ∧ (s.announceAt r c l at_).meter = s.meter ∧ (s.announceAt r c l at_).net = s.net
      ∧ (s.announceAt r c l at_).fns = s.fns ∧ (s.announceAt r c l at_).ecc = s.ecc ∧ (s.announceAt r c l at_).queues = s.queues
      ∧ (s.announceAt r c l at_).group = s.group ∧ (s.announceAt r c l at_).update = s.update
      ∧ (s.announceAt r c l at_).secure = s.secure ∧ (s.announceAt r c l at_).power = s.power ∧ (s.announceAt r c l at_).mem = s.mem
      ∧ (s.announceAt r c l at_).pending = s.pending := by
  unfold State.announceAt
  try simp
  all_goals ((repeat' split) <;> try simp_all)
@[simp] theorem State.gapLane_frame (s : State) (r : FrameRec) (k : Nat) (c : Canvas) (g : Instant) (l : Nat) :
    (s.gapLane r k c g l).host = s.host ∧ (s.gapLane r k c g l).txn = s.txn ∧ (s.gapLane r k c g l).clock = s.clock
      ∧ (s.gapLane r k c g l).time = s.time ∧ (s.gapLane r k c g l).icu = s.icu ∧ (s.gapLane r k c g l).render = s.render
      ∧ (s.gapLane r k c g l).inputs = s.inputs ∧ (s.gapLane r k c g l).meter = s.meter ∧ (s.gapLane r k c g l).net = s.net
      ∧ (s.gapLane r k c g l).fns = s.fns ∧ (s.gapLane r k c g l).ecc = s.ecc ∧ (s.gapLane r k c g l).queues = s.queues
      ∧ (s.gapLane r k c g l).group = s.group ∧ (s.gapLane r k c g l).update = s.update ∧ (s.gapLane r k c g l).secure = s.secure
      ∧ (s.gapLane r k c g l).power = s.power ∧ (s.gapLane r k c g l).mem = s.mem ∧ (s.gapLane r k c g l).pending = s.pending := by
  unfold State.gapLane
  try simp
  all_goals ((repeat' split) <;> try simp_all)
@[simp] theorem State.passGap_frame (s : State) (r : FrameRec) (k : Nat) : (s.passGap r k).host = s.host ∧ (s.passGap r k).txn = s.txn
      ∧ (s.passGap r k).clock = s.clock ∧ (s.passGap r k).time = s.time ∧ (s.passGap r k).icu = s.icu
      ∧ (s.passGap r k).inputs = s.inputs ∧ (s.passGap r k).meter = s.meter ∧ (s.passGap r k).ports = s.ports
      ∧ (s.passGap r k).net = s.net ∧ (s.passGap r k).fns = s.fns ∧ (s.passGap r k).ecc = s.ecc ∧ (s.passGap r k).queues = s.queues
      ∧ (s.passGap r k).group = s.group ∧ (s.passGap r k).update = s.update ∧ (s.passGap r k).secure = s.secure
      ∧ (s.passGap r k).power = s.power ∧ (s.passGap r k).mem = s.mem ∧ (s.passGap r k).freeCtr = s.freeCtr
      ∧ (s.passGap r k).out = s.out ∧ (s.passGap r k).pending = s.pending := by
  unfold State.passGap
  (repeat' split) <;> simp
@[simp] theorem State.gapStart_frame (s : State) (k : Nat) : (s.gapStart k).host = s.host ∧ (s.gapStart k).txn = s.txn
      ∧ (s.gapStart k).clock = s.clock ∧ (s.gapStart k).time = s.time ∧ (s.gapStart k).icu = s.icu ∧ (s.gapStart k).inputs = s.inputs
      ∧ (s.gapStart k).meter = s.meter ∧ (s.gapStart k).net = s.net ∧ (s.gapStart k).fns = s.fns ∧ (s.gapStart k).ecc = s.ecc
      ∧ (s.gapStart k).queues = s.queues ∧ (s.gapStart k).group = s.group ∧ (s.gapStart k).update = s.update
      ∧ (s.gapStart k).secure = s.secure ∧ (s.gapStart k).power = s.power ∧ (s.gapStart k).mem = s.mem := by
  unfold State.gapStart
  try simp
  all_goals ((repeat' split) <;> try simp_all)
@[simp] theorem State.sendRelease_frame (s : State) (r : FrameRec) (k : Nat) (c : Canvas) (at_ : Instant) (l : Nat) :
    (s.sendRelease r k c at_ l).host = s.host ∧ (s.sendRelease r k c at_ l).txn = s.txn ∧ (s.sendRelease r k c at_ l).clock = s.clock
      ∧ (s.sendRelease r k c at_ l).time = s.time ∧ (s.sendRelease r k c at_ l).icu = s.icu
      ∧ (s.sendRelease r k c at_ l).render = s.render ∧ (s.sendRelease r k c at_ l).inputs = s.inputs
      ∧ (s.sendRelease r k c at_ l).meter = s.meter ∧ (s.sendRelease r k c at_ l).net = s.net ∧ (s.sendRelease r k c at_ l).fns = s.fns
      ∧ (s.sendRelease r k c at_ l).ecc = s.ecc ∧ (s.sendRelease r k c at_ l).queues = s.queues
      ∧ (s.sendRelease r k c at_ l).group = s.group ∧ (s.sendRelease r k c at_ l).update = s.update
      ∧ (s.sendRelease r k c at_ l).secure = s.secure ∧ (s.sendRelease r k c at_ l).power = s.power
      ∧ (s.sendRelease r k c at_ l).mem = s.mem ∧ (s.sendRelease r k c at_ l).freeCtr = s.freeCtr
      ∧ (s.sendRelease r k c at_ l).pending = s.pending := by simp [State.sendRelease]
@[simp] theorem State.releaseAt_frame (s : State) (r : FrameRec) (k : Nat) (c : Canvas) (at_ : Instant) (l : Nat) :
    (s.releaseAt r k c at_ l).host = s.host ∧ (s.releaseAt r k c at_ l).txn = s.txn ∧ (s.releaseAt r k c at_ l).clock = s.clock
      ∧ (s.releaseAt r k c at_ l).time = s.time ∧ (s.releaseAt r k c at_ l).icu = s.icu ∧ (s.releaseAt r k c at_ l).render = s.render
      ∧ (s.releaseAt r k c at_ l).inputs = s.inputs ∧ (s.releaseAt r k c at_ l).meter = s.meter ∧ (s.releaseAt r k c at_ l).net = s.net
      ∧ (s.releaseAt r k c at_ l).fns = s.fns ∧ (s.releaseAt r k c at_ l).ecc = s.ecc ∧ (s.releaseAt r k c at_ l).queues = s.queues
      ∧ (s.releaseAt r k c at_ l).group = s.group ∧ (s.releaseAt r k c at_ l).update = s.update
      ∧ (s.releaseAt r k c at_ l).secure = s.secure ∧ (s.releaseAt r k c at_ l).power = s.power ∧ (s.releaseAt r k c at_ l).mem = s.mem
      ∧ (s.releaseAt r k c at_ l).freeCtr = s.freeCtr ∧ (s.releaseAt r k c at_ l).pending = s.pending := by
  unfold State.releaseAt
  try simp
  all_goals ((repeat' split) <;> try simp_all)
@[simp] theorem State.settleOut_frame (s : State) (n key : Nat) : (s.settleOut n key).host = s.host ∧ (s.settleOut n key).txn = s.txn
      ∧ (s.settleOut n key).clock = s.clock ∧ (s.settleOut n key).time = s.time ∧ (s.settleOut n key).icu = s.icu
      ∧ (s.settleOut n key).inputs = s.inputs ∧ (s.settleOut n key).meter = s.meter ∧ (s.settleOut n key).ports = s.ports
      ∧ (s.settleOut n key).net = s.net ∧ (s.settleOut n key).fns = s.fns ∧ (s.settleOut n key).ecc = s.ecc
      ∧ (s.settleOut n key).queues = s.queues ∧ (s.settleOut n key).group = s.group ∧ (s.settleOut n key).update = s.update
      ∧ (s.settleOut n key).secure = s.secure ∧ (s.settleOut n key).power = s.power ∧ (s.settleOut n key).mem = s.mem
      ∧ (s.settleOut n key).freeCtr = s.freeCtr ∧ (s.settleOut n key).out = s.out ∧ (s.settleOut n key).pending = s.pending := by simp [State.settleOut]
@[simp] theorem State.queueRun_frame (s : State) (p : Nat) (f : TxFrame) : (s.queueRun p f).host = s.host ∧ (s.queueRun p f).txn = s.txn
      ∧ (s.queueRun p f).clock = s.clock ∧ (s.queueRun p f).time = s.time ∧ (s.queueRun p f).icu = s.icu
      ∧ (s.queueRun p f).render = s.render ∧ (s.queueRun p f).inputs = s.inputs ∧ (s.queueRun p f).meter = s.meter
      ∧ (s.queueRun p f).fns = s.fns ∧ (s.queueRun p f).ecc = s.ecc ∧ (s.queueRun p f).queues = s.queues
      ∧ (s.queueRun p f).group = s.group ∧ (s.queueRun p f).update = s.update ∧ (s.queueRun p f).secure = s.secure
      ∧ (s.queueRun p f).power = s.power ∧ (s.queueRun p f).mem = s.mem ∧ (s.queueRun p f).freeCtr = s.freeCtr
      ∧ (s.queueRun p f).out = s.out ∧ (s.queueRun p f).pending = s.pending := by simp [State.queueRun]
@[simp] theorem State.releaseOn_frame (s : State) (n key : Nat) (due : Instant) (ps : List Nat) (bad : Bool) (packet : NetPortCfg → Bytes) :
    (s.releaseOn n key due ps bad packet).host = s.host ∧ (s.releaseOn n key due ps bad packet).txn = s.txn
      ∧ (s.releaseOn n key due ps bad packet).clock = s.clock ∧ (s.releaseOn n key due ps bad packet).time = s.time
      ∧ (s.releaseOn n key due ps bad packet).icu = s.icu ∧ (s.releaseOn n key due ps bad packet).render = s.render
      ∧ (s.releaseOn n key due ps bad packet).inputs = s.inputs ∧ (s.releaseOn n key due ps bad packet).meter = s.meter
      ∧ (s.releaseOn n key due ps bad packet).fns = s.fns ∧ (s.releaseOn n key due ps bad packet).ecc = s.ecc
      ∧ (s.releaseOn n key due ps bad packet).queues = s.queues ∧ (s.releaseOn n key due ps bad packet).group = s.group
      ∧ (s.releaseOn n key due ps bad packet).update = s.update ∧ (s.releaseOn n key due ps bad packet).secure = s.secure
      ∧ (s.releaseOn n key due ps bad packet).power = s.power ∧ (s.releaseOn n key due ps bad packet).mem = s.mem
      ∧ (s.releaseOn n key due ps bad packet).freeCtr = s.freeCtr ∧ (s.releaseOn n key due ps bad packet).pending = s.pending := by simp [State.releaseOn]
@[simp] theorem State.emitUniverse_frame (s : State) (r : FrameRec) (u : Nat) (bad : Bool) :
    (s.emitUniverse r u bad).host = s.host ∧ (s.emitUniverse r u bad).txn = s.txn ∧ (s.emitUniverse r u bad).clock = s.clock
      ∧ (s.emitUniverse r u bad).time = s.time ∧ (s.emitUniverse r u bad).icu = s.icu ∧ (s.emitUniverse r u bad).inputs = s.inputs
      ∧ (s.emitUniverse r u bad).meter = s.meter ∧ (s.emitUniverse r u bad).fns = s.fns ∧ (s.emitUniverse r u bad).ecc = s.ecc
      ∧ (s.emitUniverse r u bad).queues = s.queues ∧ (s.emitUniverse r u bad).group = s.group
      ∧ (s.emitUniverse r u bad).update = s.update ∧ (s.emitUniverse r u bad).secure = s.secure
      ∧ (s.emitUniverse r u bad).power = s.power ∧ (s.emitUniverse r u bad).mem = s.mem ∧ (s.emitUniverse r u bad).freeCtr = s.freeCtr
      ∧ (s.emitUniverse r u bad).pending = s.pending := by simp [State.emitUniverse]
@[simp] theorem State.emitTerms_frame (s : State) (r : FrameRec) (u : Nat) : (s.emitTerms r u).host = s.host
      ∧ (s.emitTerms r u).txn = s.txn ∧ (s.emitTerms r u).clock = s.clock ∧ (s.emitTerms r u).time = s.time
      ∧ (s.emitTerms r u).icu = s.icu ∧ (s.emitTerms r u).inputs = s.inputs ∧ (s.emitTerms r u).meter = s.meter
      ∧ (s.emitTerms r u).fns = s.fns ∧ (s.emitTerms r u).ecc = s.ecc ∧ (s.emitTerms r u).queues = s.queues
      ∧ (s.emitTerms r u).group = s.group ∧ (s.emitTerms r u).update = s.update ∧ (s.emitTerms r u).secure = s.secure
      ∧ (s.emitTerms r u).power = s.power ∧ (s.emitTerms r u).mem = s.mem ∧ (s.emitTerms r u).freeCtr = s.freeCtr
      ∧ (s.emitTerms r u).pending = s.pending := by simp [State.emitTerms]
@[simp] theorem State.queueSynced_frame (s : State) (n : Nat) : (s.queueSynced n).host = s.host ∧ (s.queueSynced n).txn = s.txn
      ∧ (s.queueSynced n).clock = s.clock ∧ (s.queueSynced n).time = s.time ∧ (s.queueSynced n).inputs = s.inputs
      ∧ (s.queueSynced n).meter = s.meter ∧ (s.queueSynced n).fns = s.fns ∧ (s.queueSynced n).ecc = s.ecc
      ∧ (s.queueSynced n).queues = s.queues ∧ (s.queueSynced n).group = s.group ∧ (s.queueSynced n).update = s.update
      ∧ (s.queueSynced n).secure = s.secure ∧ (s.queueSynced n).power = s.power ∧ (s.queueSynced n).mem = s.mem
      ∧ (s.queueSynced n).out = s.out ∧ (s.queueSynced n).pending = s.pending := by
  unfold State.queueSynced
  (repeat' split) <;> simp
@[simp] theorem State.syncOut_frame (s : State) (r : FrameRec) (due : Instant) (u p : Nat) :
    (s.syncOut r due u p).1.host = s.host ∧ (s.syncOut r due u p).1.txn = s.txn ∧ (s.syncOut r due u p).1.clock = s.clock
      ∧ (s.syncOut r due u p).1.time = s.time ∧ (s.syncOut r due u p).1.icu = s.icu ∧ (s.syncOut r due u p).1.render = s.render
      ∧ (s.syncOut r due u p).1.inputs = s.inputs ∧ (s.syncOut r due u p).1.meter = s.meter ∧ (s.syncOut r due u p).1.fns = s.fns
      ∧ (s.syncOut r due u p).1.ecc = s.ecc ∧ (s.syncOut r due u p).1.queues = s.queues ∧ (s.syncOut r due u p).1.group = s.group
      ∧ (s.syncOut r due u p).1.update = s.update ∧ (s.syncOut r due u p).1.secure = s.secure ∧ (s.syncOut r due u p).1.power = s.power
      ∧ (s.syncOut r due u p).1.mem = s.mem ∧ (s.syncOut r due u p).1.freeCtr = s.freeCtr ∧ (s.syncOut r due u p).1.out = s.out
      ∧ (s.syncOut r due u p).1.pending = s.pending := by
  unfold State.syncOut
  try simp
  all_goals ((repeat' split) <;> try simp_all)
@[simp] theorem State.syncUniverse_frame (s : State) (r : FrameRec) (due : Instant) (u : Nat) :
    (s.syncUniverse r due u).host = s.host ∧ (s.syncUniverse r due u).txn = s.txn ∧ (s.syncUniverse r due u).clock = s.clock
      ∧ (s.syncUniverse r due u).time = s.time ∧ (s.syncUniverse r due u).icu = s.icu ∧ (s.syncUniverse r due u).render = s.render
      ∧ (s.syncUniverse r due u).inputs = s.inputs ∧ (s.syncUniverse r due u).meter = s.meter ∧ (s.syncUniverse r due u).fns = s.fns
      ∧ (s.syncUniverse r due u).ecc = s.ecc ∧ (s.syncUniverse r due u).queues = s.queues ∧ (s.syncUniverse r due u).group = s.group
      ∧ (s.syncUniverse r due u).update = s.update ∧ (s.syncUniverse r due u).secure = s.secure
      ∧ (s.syncUniverse r due u).power = s.power ∧ (s.syncUniverse r due u).mem = s.mem ∧ (s.syncUniverse r due u).freeCtr = s.freeCtr
      ∧ (s.syncUniverse r due u).pending = s.pending := by
  unfold State.syncUniverse
  try simp
  all_goals ((repeat' split) <;> try simp_all)
@[simp] theorem State.emitSync_frame (s : State) (r : FrameRec) (a : Nat) (bad : Bool) : (s.emitSync r a bad).host = s.host
      ∧ (s.emitSync r a bad).txn = s.txn ∧ (s.emitSync r a bad).clock = s.clock ∧ (s.emitSync r a bad).time = s.time
      ∧ (s.emitSync r a bad).inputs = s.inputs ∧ (s.emitSync r a bad).meter = s.meter ∧ (s.emitSync r a bad).fns = s.fns
      ∧ (s.emitSync r a bad).ecc = s.ecc ∧ (s.emitSync r a bad).queues = s.queues ∧ (s.emitSync r a bad).group = s.group
      ∧ (s.emitSync r a bad).update = s.update ∧ (s.emitSync r a bad).secure = s.secure ∧ (s.emitSync r a bad).power = s.power
      ∧ (s.emitSync r a bad).mem = s.mem ∧ (s.emitSync r a bad).pending = s.pending := by
  unfold State.emitSync
  try simp
  all_goals ((repeat' split) <;> try simp_all)
@[simp] theorem State.emitDmx_frame (s : State) (r : FrameRec) (j : Nat) (bad : Bool) : (s.emitDmx r j bad).host = s.host
      ∧ (s.emitDmx r j bad).txn = s.txn ∧ (s.emitDmx r j bad).clock = s.clock ∧ (s.emitDmx r j bad).time = s.time
      ∧ (s.emitDmx r j bad).icu = s.icu ∧ (s.emitDmx r j bad).inputs = s.inputs ∧ (s.emitDmx r j bad).meter = s.meter
      ∧ (s.emitDmx r j bad).net = s.net ∧ (s.emitDmx r j bad).fns = s.fns ∧ (s.emitDmx r j bad).ecc = s.ecc
      ∧ (s.emitDmx r j bad).queues = s.queues ∧ (s.emitDmx r j bad).group = s.group ∧ (s.emitDmx r j bad).update = s.update
      ∧ (s.emitDmx r j bad).secure = s.secure ∧ (s.emitDmx r j bad).power = s.power ∧ (s.emitDmx r j bad).mem = s.mem
      ∧ (s.emitDmx r j bad).freeCtr = s.freeCtr ∧ (s.emitDmx r j bad).pending = s.pending := by simp [State.emitDmx]
@[simp] theorem State.emitPwm_frame (s : State) (r : FrameRec) (j : Nat) (bad : Bool) : (s.emitPwm r j bad).host = s.host
      ∧ (s.emitPwm r j bad).txn = s.txn ∧ (s.emitPwm r j bad).clock = s.clock ∧ (s.emitPwm r j bad).time = s.time
      ∧ (s.emitPwm r j bad).icu = s.icu ∧ (s.emitPwm r j bad).inputs = s.inputs ∧ (s.emitPwm r j bad).meter = s.meter
      ∧ (s.emitPwm r j bad).net = s.net ∧ (s.emitPwm r j bad).fns = s.fns ∧ (s.emitPwm r j bad).ecc = s.ecc
      ∧ (s.emitPwm r j bad).queues = s.queues ∧ (s.emitPwm r j bad).group = s.group ∧ (s.emitPwm r j bad).update = s.update
      ∧ (s.emitPwm r j bad).secure = s.secure ∧ (s.emitPwm r j bad).power = s.power ∧ (s.emitPwm r j bad).mem = s.mem
      ∧ (s.emitPwm r j bad).freeCtr = s.freeCtr ∧ (s.emitPwm r j bad).pending = s.pending := by simp [State.emitPwm]
@[simp] theorem State.dropSynced_frame (s : State) (n u : Nat) : (s.dropSynced n u).host = s.host ∧ (s.dropSynced n u).txn = s.txn
      ∧ (s.dropSynced n u).clock = s.clock ∧ (s.dropSynced n u).time = s.time ∧ (s.dropSynced n u).icu = s.icu
      ∧ (s.dropSynced n u).render = s.render ∧ (s.dropSynced n u).inputs = s.inputs ∧ (s.dropSynced n u).meter = s.meter
      ∧ (s.dropSynced n u).fns = s.fns ∧ (s.dropSynced n u).ecc = s.ecc ∧ (s.dropSynced n u).queues = s.queues
      ∧ (s.dropSynced n u).group = s.group ∧ (s.dropSynced n u).update = s.update ∧ (s.dropSynced n u).secure = s.secure
      ∧ (s.dropSynced n u).power = s.power ∧ (s.dropSynced n u).mem = s.mem ∧ (s.dropSynced n u).freeCtr = s.freeCtr
      ∧ (s.dropSynced n u).out = s.out ∧ (s.dropSynced n u).pending = s.pending := by
  unfold State.dropSynced
  try simp
  all_goals ((repeat' split) <;> try simp_all)
@[simp] theorem State.supersede_frame (s : State) (r : FrameRec) (kind number : Nat) : (s.supersede r kind number).host = s.host
      ∧ (s.supersede r kind number).txn = s.txn ∧ (s.supersede r kind number).clock = s.clock
      ∧ (s.supersede r kind number).time = s.time ∧ (s.supersede r kind number).icu = s.icu
      ∧ (s.supersede r kind number).inputs = s.inputs ∧ (s.supersede r kind number).meter = s.meter
      ∧ (s.supersede r kind number).fns = s.fns ∧ (s.supersede r kind number).ecc = s.ecc
      ∧ (s.supersede r kind number).queues = s.queues ∧ (s.supersede r kind number).group = s.group
      ∧ (s.supersede r kind number).update = s.update ∧ (s.supersede r kind number).secure = s.secure
      ∧ (s.supersede r kind number).power = s.power ∧ (s.supersede r kind number).mem = s.mem
      ∧ (s.supersede r kind number).freeCtr = s.freeCtr ∧ (s.supersede r kind number).pending = s.pending := by
  unfold State.supersede
  try simp
  all_goals ((repeat' split) <;> try simp_all)
@[simp] theorem State.emitOut_frame (s : State) (r : FrameRec) (kind number : Nat) (bad : Bool) :
    (s.emitOut r kind number bad).host = s.host ∧ (s.emitOut r kind number bad).txn = s.txn
      ∧ (s.emitOut r kind number bad).clock = s.clock ∧ (s.emitOut r kind number bad).time = s.time
      ∧ (s.emitOut r kind number bad).inputs = s.inputs ∧ (s.emitOut r kind number bad).meter = s.meter
      ∧ (s.emitOut r kind number bad).fns = s.fns ∧ (s.emitOut r kind number bad).ecc = s.ecc
      ∧ (s.emitOut r kind number bad).queues = s.queues ∧ (s.emitOut r kind number bad).group = s.group
      ∧ (s.emitOut r kind number bad).update = s.update ∧ (s.emitOut r kind number bad).secure = s.secure
      ∧ (s.emitOut r kind number bad).power = s.power ∧ (s.emitOut r kind number bad).mem = s.mem
      ∧ (s.emitOut r kind number bad).pending = s.pending := by
  unfold State.emitOut
  try simp
  all_goals ((repeat' split) <;> try simp_all)
@[simp] theorem State.laneTrained_frame (s : State) (l : Nat) : (s.laneTrained l).host = s.host ∧ (s.laneTrained l).txn = s.txn
      ∧ (s.laneTrained l).clock = s.clock ∧ (s.laneTrained l).time = s.time ∧ (s.laneTrained l).icu = s.icu
      ∧ (s.laneTrained l).render = s.render ∧ (s.laneTrained l).inputs = s.inputs ∧ (s.laneTrained l).meter = s.meter
      ∧ (s.laneTrained l).net = s.net ∧ (s.laneTrained l).fns = s.fns ∧ (s.laneTrained l).ecc = s.ecc
      ∧ (s.laneTrained l).queues = s.queues ∧ (s.laneTrained l).group = s.group ∧ (s.laneTrained l).update = s.update
      ∧ (s.laneTrained l).secure = s.secure ∧ (s.laneTrained l).power = s.power ∧ (s.laneTrained l).mem = s.mem
      ∧ (s.laneTrained l).freeCtr = s.freeCtr ∧ (s.laneTrained l).out = s.out ∧ (s.laneTrained l).pending = s.pending := by simp [State.laneTrained]
@[simp] theorem State.laneTrainTimeout_frame (s : State) (l : Nat) : (s.laneTrainTimeout l).host = s.host
      ∧ (s.laneTrainTimeout l).txn = s.txn ∧ (s.laneTrainTimeout l).clock = s.clock ∧ (s.laneTrainTimeout l).time = s.time
      ∧ (s.laneTrainTimeout l).render = s.render ∧ (s.laneTrainTimeout l).inputs = s.inputs ∧ (s.laneTrainTimeout l).meter = s.meter
      ∧ (s.laneTrainTimeout l).net = s.net ∧ (s.laneTrainTimeout l).fns = s.fns ∧ (s.laneTrainTimeout l).ecc = s.ecc
      ∧ (s.laneTrainTimeout l).queues = s.queues ∧ (s.laneTrainTimeout l).group = s.group ∧ (s.laneTrainTimeout l).update = s.update
      ∧ (s.laneTrainTimeout l).secure = s.secure ∧ (s.laneTrainTimeout l).power = s.power ∧ (s.laneTrainTimeout l).mem = s.mem
      ∧ (s.laneTrainTimeout l).freeCtr = s.freeCtr ∧ (s.laneTrainTimeout l).out = s.out ∧ (s.laneTrainTimeout l).pending = s.pending := by simp [State.laneTrainTimeout]
@[simp] theorem State.laneLinkLoss_frame (s : State) (l : Nat) : (s.laneLinkLoss l).host = s.host ∧ (s.laneLinkLoss l).txn = s.txn
      ∧ (s.laneLinkLoss l).clock = s.clock ∧ (s.laneLinkLoss l).time = s.time ∧ (s.laneLinkLoss l).render = s.render
      ∧ (s.laneLinkLoss l).inputs = s.inputs ∧ (s.laneLinkLoss l).meter = s.meter ∧ (s.laneLinkLoss l).net = s.net
      ∧ (s.laneLinkLoss l).fns = s.fns ∧ (s.laneLinkLoss l).ecc = s.ecc ∧ (s.laneLinkLoss l).queues = s.queues
      ∧ (s.laneLinkLoss l).group = s.group ∧ (s.laneLinkLoss l).update = s.update ∧ (s.laneLinkLoss l).secure = s.secure
      ∧ (s.laneLinkLoss l).power = s.power ∧ (s.laneLinkLoss l).mem = s.mem ∧ (s.laneLinkLoss l).freeCtr = s.freeCtr
      ∧ (s.laneLinkLoss l).pending = s.pending := by
  unfold State.laneLinkLoss
  try simp
  all_goals ((repeat' split) <;> try simp_all)
@[simp] theorem State.laneRetrain_frame (s : State) (l : Nat) : (s.laneRetrain l).clock = s.clock ∧ (s.laneRetrain l).time = s.time
      ∧ (s.laneRetrain l).render = s.render ∧ (s.laneRetrain l).inputs = s.inputs ∧ (s.laneRetrain l).meter = s.meter
      ∧ (s.laneRetrain l).net = s.net ∧ (s.laneRetrain l).fns = s.fns ∧ (s.laneRetrain l).ecc = s.ecc
      ∧ (s.laneRetrain l).group = s.group ∧ (s.laneRetrain l).update = s.update ∧ (s.laneRetrain l).power = s.power
      ∧ (s.laneRetrain l).mem = s.mem ∧ (s.laneRetrain l).freeCtr = s.freeCtr ∧ (s.laneRetrain l).pending = s.pending := by simp [State.laneRetrain]
@[simp] theorem State.laneDiscard_frame (s : State) (l : Nat) : (s.laneDiscard l).host = s.host ∧ (s.laneDiscard l).txn = s.txn
      ∧ (s.laneDiscard l).clock = s.clock ∧ (s.laneDiscard l).time = s.time ∧ (s.laneDiscard l).icu = s.icu
      ∧ (s.laneDiscard l).render = s.render ∧ (s.laneDiscard l).inputs = s.inputs ∧ (s.laneDiscard l).meter = s.meter
      ∧ (s.laneDiscard l).net = s.net ∧ (s.laneDiscard l).fns = s.fns ∧ (s.laneDiscard l).ecc = s.ecc
      ∧ (s.laneDiscard l).queues = s.queues ∧ (s.laneDiscard l).group = s.group ∧ (s.laneDiscard l).update = s.update
      ∧ (s.laneDiscard l).secure = s.secure ∧ (s.laneDiscard l).power = s.power ∧ (s.laneDiscard l).mem = s.mem
      ∧ (s.laneDiscard l).freeCtr = s.freeCtr ∧ (s.laneDiscard l).out = s.out ∧ (s.laneDiscard l).pending = s.pending := by simp [State.laneDiscard]
@[simp] theorem State.rdmSensor_frame (s : State) (j : RdmJob) (bs : Bytes) : (s.rdmSensor j bs).host = s.host
      ∧ (s.rdmSensor j bs).txn = s.txn ∧ (s.rdmSensor j bs).clock = s.clock ∧ (s.rdmSensor j bs).time = s.time
      ∧ (s.rdmSensor j bs).icu = s.icu ∧ (s.rdmSensor j bs).inputs = s.inputs ∧ (s.rdmSensor j bs).meter = s.meter
      ∧ (s.rdmSensor j bs).ports = s.ports ∧ (s.rdmSensor j bs).net = s.net ∧ (s.rdmSensor j bs).fns = s.fns
      ∧ (s.rdmSensor j bs).ecc = s.ecc ∧ (s.rdmSensor j bs).queues = s.queues ∧ (s.rdmSensor j bs).group = s.group
      ∧ (s.rdmSensor j bs).update = s.update ∧ (s.rdmSensor j bs).secure = s.secure ∧ (s.rdmSensor j bs).power = s.power
      ∧ (s.rdmSensor j bs).mem = s.mem ∧ (s.rdmSensor j bs).freeCtr = s.freeCtr ∧ (s.rdmSensor j bs).out = s.out
      ∧ (s.rdmSensor j bs).pending = s.pending := by simp [State.rdmSensor]
@[simp] theorem State.rdmLamp_frame (s : State) (j : RdmJob) (bs : Bytes) : (s.rdmLamp j bs).host = s.host
      ∧ (s.rdmLamp j bs).txn = s.txn ∧ (s.rdmLamp j bs).clock = s.clock ∧ (s.rdmLamp j bs).time = s.time ∧ (s.rdmLamp j bs).icu = s.icu
      ∧ (s.rdmLamp j bs).inputs = s.inputs ∧ (s.rdmLamp j bs).meter = s.meter ∧ (s.rdmLamp j bs).ports = s.ports
      ∧ (s.rdmLamp j bs).net = s.net ∧ (s.rdmLamp j bs).fns = s.fns ∧ (s.rdmLamp j bs).ecc = s.ecc ∧ (s.rdmLamp j bs).queues = s.queues
      ∧ (s.rdmLamp j bs).group = s.group ∧ (s.rdmLamp j bs).update = s.update ∧ (s.rdmLamp j bs).secure = s.secure
      ∧ (s.rdmLamp j bs).power = s.power ∧ (s.rdmLamp j bs).mem = s.mem ∧ (s.rdmLamp j bs).freeCtr = s.freeCtr
      ∧ (s.rdmLamp j bs).out = s.out ∧ (s.rdmLamp j bs).pending = s.pending := by simp [State.rdmLamp]
@[simp] theorem State.pwmPeriodStart_frame (s : State) (j : Nat) : (s.pwmPeriodStart j).host = s.host ∧ (s.pwmPeriodStart j).txn = s.txn
      ∧ (s.pwmPeriodStart j).clock = s.clock ∧ (s.pwmPeriodStart j).time = s.time ∧ (s.pwmPeriodStart j).icu = s.icu
      ∧ (s.pwmPeriodStart j).inputs = s.inputs ∧ (s.pwmPeriodStart j).meter = s.meter ∧ (s.pwmPeriodStart j).net = s.net
      ∧ (s.pwmPeriodStart j).fns = s.fns ∧ (s.pwmPeriodStart j).ecc = s.ecc ∧ (s.pwmPeriodStart j).queues = s.queues
      ∧ (s.pwmPeriodStart j).group = s.group ∧ (s.pwmPeriodStart j).update = s.update ∧ (s.pwmPeriodStart j).secure = s.secure
      ∧ (s.pwmPeriodStart j).power = s.power ∧ (s.pwmPeriodStart j).mem = s.mem ∧ (s.pwmPeriodStart j).freeCtr = s.freeCtr
      ∧ (s.pwmPeriodStart j).pending = s.pending := by
  unfold State.pwmPeriodStart
  try simp
  all_goals ((repeat' split) <;> try simp)
@[simp] theorem State.cutLane_frame (s : State) (l : Nat) (d : LaneDyn) : (s.cutLane l d).host = s.host ∧ (s.cutLane l d).txn = s.txn
      ∧ (s.cutLane l d).clock = s.clock ∧ (s.cutLane l d).time = s.time ∧ (s.cutLane l d).icu = s.icu
      ∧ (s.cutLane l d).render = s.render ∧ (s.cutLane l d).inputs = s.inputs ∧ (s.cutLane l d).meter = s.meter
      ∧ (s.cutLane l d).net = s.net ∧ (s.cutLane l d).fns = s.fns ∧ (s.cutLane l d).ecc = s.ecc ∧ (s.cutLane l d).queues = s.queues
      ∧ (s.cutLane l d).group = s.group ∧ (s.cutLane l d).update = s.update ∧ (s.cutLane l d).secure = s.secure
      ∧ (s.cutLane l d).power = s.power ∧ (s.cutLane l d).mem = s.mem ∧ (s.cutLane l d).freeCtr = s.freeCtr
      ∧ (s.cutLane l d).pending = s.pending := by
  unfold State.cutLane
  try simp
  all_goals ((repeat' split) <;> try simp_all)
@[simp] theorem State.cutDmx_frame (s : State) (j : Nat) (d : DmxDyn) : (s.cutDmx j d).txn = s.txn ∧ (s.cutDmx j d).clock = s.clock
      ∧ (s.cutDmx j d).time = s.time ∧ (s.cutDmx j d).render = s.render ∧ (s.cutDmx j d).inputs = s.inputs
      ∧ (s.cutDmx j d).meter = s.meter ∧ (s.cutDmx j d).net = s.net ∧ (s.cutDmx j d).fns = s.fns ∧ (s.cutDmx j d).ecc = s.ecc
      ∧ (s.cutDmx j d).queues = s.queues ∧ (s.cutDmx j d).group = s.group ∧ (s.cutDmx j d).update = s.update
      ∧ (s.cutDmx j d).secure = s.secure ∧ (s.cutDmx j d).power = s.power ∧ (s.cutDmx j d).mem = s.mem
      ∧ (s.cutDmx j d).freeCtr = s.freeCtr ∧ (s.cutDmx j d).pending = s.pending := by simp [State.cutDmx]
@[simp] theorem State.cutPwm_frame (s : State) (j : Nat) (d : PwmDyn) : (s.cutPwm j d).host = s.host ∧ (s.cutPwm j d).txn = s.txn
      ∧ (s.cutPwm j d).clock = s.clock ∧ (s.cutPwm j d).time = s.time ∧ (s.cutPwm j d).icu = s.icu ∧ (s.cutPwm j d).render = s.render
      ∧ (s.cutPwm j d).inputs = s.inputs ∧ (s.cutPwm j d).meter = s.meter ∧ (s.cutPwm j d).net = s.net ∧ (s.cutPwm j d).fns = s.fns
      ∧ (s.cutPwm j d).ecc = s.ecc ∧ (s.cutPwm j d).queues = s.queues ∧ (s.cutPwm j d).group = s.group
      ∧ (s.cutPwm j d).update = s.update ∧ (s.cutPwm j d).secure = s.secure ∧ (s.cutPwm j d).power = s.power
      ∧ (s.cutPwm j d).mem = s.mem ∧ (s.cutPwm j d).freeCtr = s.freeCtr ∧ (s.cutPwm j d).pending = s.pending := by simp [State.cutPwm]
@[simp] theorem State.stopEmissions_frame (s : State) : (s.stopEmissions).txn = s.txn ∧ (s.stopEmissions).clock = s.clock
      ∧ (s.stopEmissions).time = s.time ∧ (s.stopEmissions).render = s.render ∧ (s.stopEmissions).inputs = s.inputs
      ∧ (s.stopEmissions).meter = s.meter ∧ (s.stopEmissions).fns = s.fns ∧ (s.stopEmissions).ecc = s.ecc
      ∧ (s.stopEmissions).queues = s.queues ∧ (s.stopEmissions).group = s.group ∧ (s.stopEmissions).update = s.update
      ∧ (s.stopEmissions).secure = s.secure ∧ (s.stopEmissions).power = s.power ∧ (s.stopEmissions).mem = s.mem
      ∧ (s.stopEmissions).freeCtr = s.freeCtr ∧ (s.stopEmissions).pending = s.pending := by
  unfold State.stopEmissions
  try simp
  all_goals ((repeat' split) <;> try simp_all)
@[simp] theorem State.yieldFor_frame (s : State) (cause : Nat) : (s.yieldFor cause).txn = s.txn ∧ (s.yieldFor cause).clock = s.clock
      ∧ (s.yieldFor cause).time = s.time ∧ (s.yieldFor cause).render = s.render ∧ (s.yieldFor cause).inputs = s.inputs
      ∧ (s.yieldFor cause).meter = s.meter ∧ (s.yieldFor cause).fns = s.fns ∧ (s.yieldFor cause).ecc = s.ecc
      ∧ (s.yieldFor cause).queues = s.queues ∧ (s.yieldFor cause).update = s.update ∧ (s.yieldFor cause).secure = s.secure
      ∧ (s.yieldFor cause).power = s.power ∧ (s.yieldFor cause).mem = s.mem ∧ (s.yieldFor cause).freeCtr = s.freeCtr
      ∧ (s.yieldFor cause).pending = s.pending := by
  unfold State.yieldFor
  try simp
  all_goals ((repeat' split) <;> try simp_all)
@[simp] theorem State.tangoYield_frame (s : State) (cause : Nat) : (s.tangoYield cause).txn = s.txn
      ∧ (s.tangoYield cause).clock = s.clock ∧ (s.tangoYield cause).time = s.time ∧ (s.tangoYield cause).render = s.render
      ∧ (s.tangoYield cause).inputs = s.inputs ∧ (s.tangoYield cause).meter = s.meter ∧ (s.tangoYield cause).fns = s.fns
      ∧ (s.tangoYield cause).ecc = s.ecc ∧ (s.tangoYield cause).queues = s.queues ∧ (s.tangoYield cause).update = s.update
      ∧ (s.tangoYield cause).secure = s.secure ∧ (s.tangoYield cause).power = s.power ∧ (s.tangoYield cause).mem = s.mem
      ∧ (s.tangoYield cause).freeCtr = s.freeCtr ∧ (s.tangoYield cause).pending = s.pending := by
  unfold State.tangoYield
  try simp
  all_goals ((repeat' split) <;> try simp_all)
@[simp] theorem State.takeOver_frame (s : State) : (s.takeOver).host = s.host ∧ (s.takeOver).txn = s.txn ∧ (s.takeOver).clock = s.clock
      ∧ (s.takeOver).time = s.time ∧ (s.takeOver).render = s.render ∧ (s.takeOver).inputs = s.inputs ∧ (s.takeOver).meter = s.meter
      ∧ (s.takeOver).net = s.net ∧ (s.takeOver).fns = s.fns ∧ (s.takeOver).ecc = s.ecc ∧ (s.takeOver).queues = s.queues
      ∧ (s.takeOver).update = s.update ∧ (s.takeOver).secure = s.secure ∧ (s.takeOver).power = s.power ∧ (s.takeOver).mem = s.mem
      ∧ (s.takeOver).freeCtr = s.freeCtr ∧ (s.takeOver).pending = s.pending := by simp [State.takeOver]
@[simp] theorem State.takeDigest_frame (s : State) (d : Bytes) : (s.takeDigest d).host = s.host ∧ (s.takeDigest d).txn = s.txn
      ∧ (s.takeDigest d).clock = s.clock ∧ (s.takeDigest d).time = s.time ∧ (s.takeDigest d).render = s.render
      ∧ (s.takeDigest d).inputs = s.inputs ∧ (s.takeDigest d).meter = s.meter ∧ (s.takeDigest d).ports = s.ports
      ∧ (s.takeDigest d).net = s.net ∧ (s.takeDigest d).fns = s.fns ∧ (s.takeDigest d).ecc = s.ecc ∧ (s.takeDigest d).queues = s.queues
      ∧ (s.takeDigest d).update = s.update ∧ (s.takeDigest d).secure = s.secure ∧ (s.takeDigest d).power = s.power
      ∧ (s.takeDigest d).mem = s.mem ∧ (s.takeDigest d).freeCtr = s.freeCtr ∧ (s.takeDigest d).out = s.out
      ∧ (s.takeDigest d).pending = s.pending := by simp [State.takeDigest]
@[simp] theorem State.digestTimeout_frame (s : State) : (s.digestTimeout).host = s.host ∧ (s.digestTimeout).txn = s.txn
      ∧ (s.digestTimeout).clock = s.clock ∧ (s.digestTimeout).time = s.time ∧ (s.digestTimeout).icu = s.icu
      ∧ (s.digestTimeout).render = s.render ∧ (s.digestTimeout).inputs = s.inputs ∧ (s.digestTimeout).meter = s.meter
      ∧ (s.digestTimeout).ports = s.ports ∧ (s.digestTimeout).net = s.net ∧ (s.digestTimeout).fns = s.fns
      ∧ (s.digestTimeout).ecc = s.ecc ∧ (s.digestTimeout).queues = s.queues ∧ (s.digestTimeout).update = s.update
      ∧ (s.digestTimeout).secure = s.secure ∧ (s.digestTimeout).power = s.power ∧ (s.digestTimeout).mem = s.mem
      ∧ (s.digestTimeout).freeCtr = s.freeCtr ∧ (s.digestTimeout).out = s.out ∧ (s.digestTimeout).pending = s.pending := by
  unfold State.digestTimeout
  (repeat' split) <;> simp
@[simp] theorem State.selfCheckDone_frame (s : State) (n : Nat) (same : Bool) : (s.selfCheckDone n same).host = s.host
      ∧ (s.selfCheckDone n same).txn = s.txn ∧ (s.selfCheckDone n same).clock = s.clock ∧ (s.selfCheckDone n same).time = s.time
      ∧ (s.selfCheckDone n same).icu = s.icu ∧ (s.selfCheckDone n same).render = s.render ∧ (s.selfCheckDone n same).inputs = s.inputs
      ∧ (s.selfCheckDone n same).meter = s.meter ∧ (s.selfCheckDone n same).ports = s.ports ∧ (s.selfCheckDone n same).net = s.net
      ∧ (s.selfCheckDone n same).fns = s.fns ∧ (s.selfCheckDone n same).ecc = s.ecc ∧ (s.selfCheckDone n same).queues = s.queues
      ∧ (s.selfCheckDone n same).update = s.update ∧ (s.selfCheckDone n same).secure = s.secure
      ∧ (s.selfCheckDone n same).power = s.power ∧ (s.selfCheckDone n same).mem = s.mem ∧ (s.selfCheckDone n same).freeCtr = s.freeCtr
      ∧ (s.selfCheckDone n same).pending = s.pending := by simp [State.selfCheckDone]
@[simp] theorem State.takeCheck_frame (s : State) (n : Nat) (pass : Bool) : (s.takeCheck n pass).host = s.host
      ∧ (s.takeCheck n pass).txn = s.txn ∧ (s.takeCheck n pass).clock = s.clock ∧ (s.takeCheck n pass).time = s.time
      ∧ (s.takeCheck n pass).icu = s.icu ∧ (s.takeCheck n pass).render = s.render ∧ (s.takeCheck n pass).inputs = s.inputs
      ∧ (s.takeCheck n pass).meter = s.meter ∧ (s.takeCheck n pass).ports = s.ports ∧ (s.takeCheck n pass).net = s.net
      ∧ (s.takeCheck n pass).fns = s.fns ∧ (s.takeCheck n pass).ecc = s.ecc ∧ (s.takeCheck n pass).queues = s.queues
      ∧ (s.takeCheck n pass).update = s.update ∧ (s.takeCheck n pass).secure = s.secure ∧ (s.takeCheck n pass).power = s.power
      ∧ (s.takeCheck n pass).mem = s.mem ∧ (s.takeCheck n pass).freeCtr = s.freeCtr ∧ (s.takeCheck n pass).out = s.out
      ∧ (s.takeCheck n pass).pending = s.pending := by simp [State.takeCheck]
@[simp] theorem State.becomeSuspect_frame (s : State) : (s.becomeSuspect).host = s.host ∧ (s.becomeSuspect).txn = s.txn
      ∧ (s.becomeSuspect).clock = s.clock ∧ (s.becomeSuspect).time = s.time ∧ (s.becomeSuspect).render = s.render
      ∧ (s.becomeSuspect).inputs = s.inputs ∧ (s.becomeSuspect).meter = s.meter ∧ (s.becomeSuspect).ports = s.ports
      ∧ (s.becomeSuspect).net = s.net ∧ (s.becomeSuspect).fns = s.fns ∧ (s.becomeSuspect).ecc = s.ecc
      ∧ (s.becomeSuspect).queues = s.queues ∧ (s.becomeSuspect).update = s.update ∧ (s.becomeSuspect).secure = s.secure
      ∧ (s.becomeSuspect).power = s.power ∧ (s.becomeSuspect).mem = s.mem ∧ (s.becomeSuspect).freeCtr = s.freeCtr
      ∧ (s.becomeSuspect).out = s.out ∧ (s.becomeSuspect).pending = s.pending := by simp [State.becomeSuspect]
@[simp] theorem State.mismatchOutcome_frame (s : State) (n : Nat) : (s.mismatchOutcome n).txn = s.txn
      ∧ (s.mismatchOutcome n).clock = s.clock ∧ (s.mismatchOutcome n).time = s.time ∧ (s.mismatchOutcome n).render = s.render
      ∧ (s.mismatchOutcome n).inputs = s.inputs ∧ (s.mismatchOutcome n).meter = s.meter ∧ (s.mismatchOutcome n).fns = s.fns
      ∧ (s.mismatchOutcome n).ecc = s.ecc ∧ (s.mismatchOutcome n).queues = s.queues ∧ (s.mismatchOutcome n).update = s.update
      ∧ (s.mismatchOutcome n).secure = s.secure ∧ (s.mismatchOutcome n).power = s.power ∧ (s.mismatchOutcome n).mem = s.mem
      ∧ (s.mismatchOutcome n).freeCtr = s.freeCtr ∧ (s.mismatchOutcome n).pending = s.pending := by
  unfold State.mismatchOutcome
  try simp
  all_goals ((repeat' split) <;> try simp_all)
@[simp] theorem State.takeSwitch_frame (s : State) (m : Nat) : (s.takeSwitch m).host = s.host ∧ (s.takeSwitch m).txn = s.txn
      ∧ (s.takeSwitch m).clock = s.clock ∧ (s.takeSwitch m).time = s.time ∧ (s.takeSwitch m).icu = s.icu
      ∧ (s.takeSwitch m).render = s.render ∧ (s.takeSwitch m).inputs = s.inputs ∧ (s.takeSwitch m).meter = s.meter
      ∧ (s.takeSwitch m).ports = s.ports ∧ (s.takeSwitch m).net = s.net ∧ (s.takeSwitch m).fns = s.fns ∧ (s.takeSwitch m).ecc = s.ecc
      ∧ (s.takeSwitch m).queues = s.queues ∧ (s.takeSwitch m).update = s.update ∧ (s.takeSwitch m).secure = s.secure
      ∧ (s.takeSwitch m).power = s.power ∧ (s.takeSwitch m).mem = s.mem ∧ (s.takeSwitch m).freeCtr = s.freeCtr
      ∧ (s.takeSwitch m).out = s.out ∧ (s.takeSwitch m).pending = s.pending := by simp [State.takeSwitch]
@[simp] theorem State.dropSwitch_frame (s : State) : (s.dropSwitch).host = s.host ∧ (s.dropSwitch).txn = s.txn
      ∧ (s.dropSwitch).clock = s.clock ∧ (s.dropSwitch).time = s.time ∧ (s.dropSwitch).icu = s.icu ∧ (s.dropSwitch).render = s.render
      ∧ (s.dropSwitch).inputs = s.inputs ∧ (s.dropSwitch).meter = s.meter ∧ (s.dropSwitch).ports = s.ports ∧ (s.dropSwitch).net = s.net
      ∧ (s.dropSwitch).fns = s.fns ∧ (s.dropSwitch).ecc = s.ecc ∧ (s.dropSwitch).queues = s.queues ∧ (s.dropSwitch).update = s.update
      ∧ (s.dropSwitch).secure = s.secure ∧ (s.dropSwitch).power = s.power ∧ (s.dropSwitch).mem = s.mem
      ∧ (s.dropSwitch).freeCtr = s.freeCtr ∧ (s.dropSwitch).out = s.out ∧ (s.dropSwitch).pending = s.pending := by
  unfold State.dropSwitch
  (repeat' split) <;> simp
@[simp] theorem State.regroup_frame (s : State) : (s.regroup).txn = s.txn ∧ (s.regroup).clock = s.clock ∧ (s.regroup).time = s.time
      ∧ (s.regroup).render = s.render ∧ (s.regroup).inputs = s.inputs ∧ (s.regroup).meter = s.meter ∧ (s.regroup).ports = s.ports
      ∧ (s.regroup).net = s.net ∧ (s.regroup).fns = s.fns ∧ (s.regroup).ecc = s.ecc ∧ (s.regroup).queues = s.queues
      ∧ (s.regroup).update = s.update ∧ (s.regroup).secure = s.secure ∧ (s.regroup).power = s.power ∧ (s.regroup).mem = s.mem
      ∧ (s.regroup).freeCtr = s.freeCtr ∧ (s.regroup).out = s.out ∧ (s.regroup).pending = s.pending := by simp [State.regroup]
@[simp] theorem State.hear_frame (s : State) (who : Nat) : (s.hear who).host = s.host ∧ (s.hear who).txn = s.txn
      ∧ (s.hear who).clock = s.clock ∧ (s.hear who).time = s.time ∧ (s.hear who).icu = s.icu ∧ (s.hear who).render = s.render
      ∧ (s.hear who).inputs = s.inputs ∧ (s.hear who).meter = s.meter ∧ (s.hear who).ports = s.ports ∧ (s.hear who).net = s.net
      ∧ (s.hear who).fns = s.fns ∧ (s.hear who).ecc = s.ecc ∧ (s.hear who).queues = s.queues ∧ (s.hear who).update = s.update
      ∧ (s.hear who).secure = s.secure ∧ (s.hear who).power = s.power ∧ (s.hear who).mem = s.mem ∧ (s.hear who).freeCtr = s.freeCtr
      ∧ (s.hear who).out = s.out ∧ (s.hear who).pending = s.pending := by simp [State.hear]
@[simp] theorem State.form_frame (s : State) (ms : List Nat) (peerAct : Bool) : (s.form ms peerAct).txn = s.txn
      ∧ (s.form ms peerAct).clock = s.clock ∧ (s.form ms peerAct).time = s.time ∧ (s.form ms peerAct).render = s.render
      ∧ (s.form ms peerAct).inputs = s.inputs ∧ (s.form ms peerAct).meter = s.meter ∧ (s.form ms peerAct).ports = s.ports
      ∧ (s.form ms peerAct).net = s.net ∧ (s.form ms peerAct).fns = s.fns ∧ (s.form ms peerAct).ecc = s.ecc
      ∧ (s.form ms peerAct).queues = s.queues ∧ (s.form ms peerAct).update = s.update ∧ (s.form ms peerAct).secure = s.secure
      ∧ (s.form ms peerAct).power = s.power ∧ (s.form ms peerAct).mem = s.mem ∧ (s.form ms peerAct).freeCtr = s.freeCtr
      ∧ (s.form ms peerAct).pending = s.pending := by simp [State.form]
@[simp] theorem State.groupFormation_frame (s : State) (peerAct : Bool) : (s.groupFormation peerAct).txn = s.txn
      ∧ (s.groupFormation peerAct).clock = s.clock ∧ (s.groupFormation peerAct).time = s.time
      ∧ (s.groupFormation peerAct).render = s.render ∧ (s.groupFormation peerAct).inputs = s.inputs
      ∧ (s.groupFormation peerAct).meter = s.meter ∧ (s.groupFormation peerAct).ports = s.ports ∧ (s.groupFormation peerAct).net = s.net
      ∧ (s.groupFormation peerAct).fns = s.fns ∧ (s.groupFormation peerAct).ecc = s.ecc ∧ (s.groupFormation peerAct).queues = s.queues
      ∧ (s.groupFormation peerAct).update = s.update ∧ (s.groupFormation peerAct).secure = s.secure
      ∧ (s.groupFormation peerAct).power = s.power ∧ (s.groupFormation peerAct).mem = s.mem
      ∧ (s.groupFormation peerAct).freeCtr = s.freeCtr ∧ (s.groupFormation peerAct).pending = s.pending := by simp [State.groupFormation]
@[simp] theorem State.announceMembers_frame (s : State) : (s.announceMembers).host = s.host ∧ (s.announceMembers).txn = s.txn
      ∧ (s.announceMembers).clock = s.clock ∧ (s.announceMembers).time = s.time ∧ (s.announceMembers).icu = s.icu
      ∧ (s.announceMembers).render = s.render ∧ (s.announceMembers).inputs = s.inputs ∧ (s.announceMembers).meter = s.meter
      ∧ (s.announceMembers).ports = s.ports ∧ (s.announceMembers).net = s.net ∧ (s.announceMembers).fns = s.fns
      ∧ (s.announceMembers).ecc = s.ecc ∧ (s.announceMembers).queues = s.queues ∧ (s.announceMembers).update = s.update
      ∧ (s.announceMembers).secure = s.secure ∧ (s.announceMembers).power = s.power ∧ (s.announceMembers).mem = s.mem
      ∧ (s.announceMembers).freeCtr = s.freeCtr ∧ (s.announceMembers).pending = s.pending := by simp [State.announceMembers]
@[simp] theorem State.dropMember_frame (s : State) (who : Nat) : (s.dropMember who).txn = s.txn ∧ (s.dropMember who).clock = s.clock
      ∧ (s.dropMember who).time = s.time ∧ (s.dropMember who).render = s.render ∧ (s.dropMember who).inputs = s.inputs
      ∧ (s.dropMember who).meter = s.meter ∧ (s.dropMember who).ports = s.ports ∧ (s.dropMember who).net = s.net
      ∧ (s.dropMember who).fns = s.fns ∧ (s.dropMember who).ecc = s.ecc ∧ (s.dropMember who).queues = s.queues
      ∧ (s.dropMember who).update = s.update ∧ (s.dropMember who).secure = s.secure ∧ (s.dropMember who).power = s.power
      ∧ (s.dropMember who).mem = s.mem ∧ (s.dropMember who).freeCtr = s.freeCtr ∧ (s.dropMember who).pending = s.pending := by simp [State.dropMember]
@[simp] theorem State.becomeCoord_frame (s : State) : (s.becomeCoord).host = s.host ∧ (s.becomeCoord).txn = s.txn
      ∧ (s.becomeCoord).clock = s.clock ∧ (s.becomeCoord).time = s.time ∧ (s.becomeCoord).icu = s.icu
      ∧ (s.becomeCoord).render = s.render ∧ (s.becomeCoord).inputs = s.inputs ∧ (s.becomeCoord).meter = s.meter
      ∧ (s.becomeCoord).ports = s.ports ∧ (s.becomeCoord).net = s.net ∧ (s.becomeCoord).fns = s.fns ∧ (s.becomeCoord).ecc = s.ecc
      ∧ (s.becomeCoord).queues = s.queues ∧ (s.becomeCoord).update = s.update ∧ (s.becomeCoord).secure = s.secure
      ∧ (s.becomeCoord).power = s.power ∧ (s.becomeCoord).mem = s.mem ∧ (s.becomeCoord).freeCtr = s.freeCtr
      ∧ (s.becomeCoord).pending = s.pending := by simp [State.becomeCoord]
@[simp] theorem State.orderCommit_frame (s : State) (gseq target place : Nat) (stopped : Bool) (ws : List ShowWrite) :
    (s.orderCommit gseq target place stopped ws).host = s.host ∧ (s.orderCommit gseq target place stopped ws).clock = s.clock
      ∧ (s.orderCommit gseq target place stopped ws).time = s.time ∧ (s.orderCommit gseq target place stopped ws).icu = s.icu
      ∧ (s.orderCommit gseq target place stopped ws).render = s.render ∧ (s.orderCommit gseq target place stopped ws).inputs = s.inputs
      ∧ (s.orderCommit gseq target place stopped ws).meter = s.meter ∧ (s.orderCommit gseq target place stopped ws).ports = s.ports
      ∧ (s.orderCommit gseq target place stopped ws).net = s.net ∧ (s.orderCommit gseq target place stopped ws).fns = s.fns
      ∧ (s.orderCommit gseq target place stopped ws).ecc = s.ecc ∧ (s.orderCommit gseq target place stopped ws).queues = s.queues
      ∧ (s.orderCommit gseq target place stopped ws).update = s.update ∧ (s.orderCommit gseq target place stopped ws).secure = s.secure
      ∧ (s.orderCommit gseq target place stopped ws).power = s.power ∧ (s.orderCommit gseq target place stopped ws).mem = s.mem
      ∧ (s.orderCommit gseq target place stopped ws).freeCtr = s.freeCtr
      ∧ (s.orderCommit gseq target place stopped ws).pending = s.pending := by simp [State.orderCommit]
@[simp] theorem State.takePrepared_frame (s : State) (gseq who : Nat) : (s.takePrepared gseq who).host = s.host
      ∧ (s.takePrepared gseq who).clock = s.clock ∧ (s.takePrepared gseq who).time = s.time ∧ (s.takePrepared gseq who).icu = s.icu
      ∧ (s.takePrepared gseq who).render = s.render ∧ (s.takePrepared gseq who).inputs = s.inputs
      ∧ (s.takePrepared gseq who).meter = s.meter ∧ (s.takePrepared gseq who).ports = s.ports ∧ (s.takePrepared gseq who).net = s.net
      ∧ (s.takePrepared gseq who).fns = s.fns ∧ (s.takePrepared gseq who).ecc = s.ecc ∧ (s.takePrepared gseq who).queues = s.queues
      ∧ (s.takePrepared gseq who).group = s.group ∧ (s.takePrepared gseq who).update = s.update
      ∧ (s.takePrepared gseq who).secure = s.secure ∧ (s.takePrepared gseq who).power = s.power ∧ (s.takePrepared gseq who).mem = s.mem
      ∧ (s.takePrepared gseq who).freeCtr = s.freeCtr ∧ (s.takePrepared gseq who).out = s.out
      ∧ (s.takePrepared gseq who).pending = s.pending := by
  unfold State.takePrepared
  (repeat' split) <;> simp
@[simp] theorem State.decideCommit_frame (s : State) (gseq : Nat) (apply : Bool) : (s.decideCommit gseq apply).clock = s.clock
      ∧ (s.decideCommit gseq apply).time = s.time ∧ (s.decideCommit gseq apply).render = s.render
      ∧ (s.decideCommit gseq apply).inputs = s.inputs ∧ (s.decideCommit gseq apply).meter = s.meter
      ∧ (s.decideCommit gseq apply).ports = s.ports ∧ (s.decideCommit gseq apply).net = s.net ∧ (s.decideCommit gseq apply).fns = s.fns
      ∧ (s.decideCommit gseq apply).ecc = s.ecc ∧ (s.decideCommit gseq apply).queues = s.queues
      ∧ (s.decideCommit gseq apply).group = s.group ∧ (s.decideCommit gseq apply).update = s.update
      ∧ (s.decideCommit gseq apply).secure = s.secure ∧ (s.decideCommit gseq apply).power = s.power
      ∧ (s.decideCommit gseq apply).mem = s.mem ∧ (s.decideCommit gseq apply).freeCtr = s.freeCtr
      ∧ (s.decideCommit gseq apply).pending = s.pending := by
  unfold State.decideCommit
  (repeat' split) <;> simp
@[simp] theorem State.commitDeadline_frame (s : State) : (s.commitDeadline).clock = s.clock ∧ (s.commitDeadline).time = s.time
      ∧ (s.commitDeadline).render = s.render ∧ (s.commitDeadline).inputs = s.inputs ∧ (s.commitDeadline).meter = s.meter
      ∧ (s.commitDeadline).ports = s.ports ∧ (s.commitDeadline).net = s.net ∧ (s.commitDeadline).fns = s.fns
      ∧ (s.commitDeadline).ecc = s.ecc ∧ (s.commitDeadline).queues = s.queues ∧ (s.commitDeadline).update = s.update
      ∧ (s.commitDeadline).secure = s.secure ∧ (s.commitDeadline).power = s.power ∧ (s.commitDeadline).mem = s.mem
      ∧ (s.commitDeadline).freeCtr = s.freeCtr ∧ (s.commitDeadline).pending = s.pending := by
  unfold State.commitDeadline
  try simp
  all_goals ((repeat' split) <;> try simp)
@[simp] theorem State.resyncStart_frame (s : State) : (s.resyncStart).host = s.host ∧ (s.resyncStart).txn = s.txn
      ∧ (s.resyncStart).clock = s.clock ∧ (s.resyncStart).time = s.time ∧ (s.resyncStart).icu = s.icu
      ∧ (s.resyncStart).render = s.render ∧ (s.resyncStart).inputs = s.inputs ∧ (s.resyncStart).meter = s.meter
      ∧ (s.resyncStart).ports = s.ports ∧ (s.resyncStart).net = s.net ∧ (s.resyncStart).fns = s.fns ∧ (s.resyncStart).ecc = s.ecc
      ∧ (s.resyncStart).queues = s.queues ∧ (s.resyncStart).update = s.update ∧ (s.resyncStart).secure = s.secure
      ∧ (s.resyncStart).power = s.power ∧ (s.resyncStart).mem = s.mem ∧ (s.resyncStart).freeCtr = s.freeCtr
      ∧ (s.resyncStart).pending = s.pending := by simp [State.resyncStart]
@[simp] theorem State.takeResyncRequest_frame (s : State) (who : Nat) : (s.takeResyncRequest who).host = s.host
      ∧ (s.takeResyncRequest who).txn = s.txn ∧ (s.takeResyncRequest who).clock = s.clock ∧ (s.takeResyncRequest who).time = s.time
      ∧ (s.takeResyncRequest who).icu = s.icu ∧ (s.takeResyncRequest who).render = s.render
      ∧ (s.takeResyncRequest who).inputs = s.inputs ∧ (s.takeResyncRequest who).meter = s.meter
      ∧ (s.takeResyncRequest who).ports = s.ports ∧ (s.takeResyncRequest who).net = s.net ∧ (s.takeResyncRequest who).fns = s.fns
      ∧ (s.takeResyncRequest who).ecc = s.ecc ∧ (s.takeResyncRequest who).queues = s.queues
      ∧ (s.takeResyncRequest who).update = s.update ∧ (s.takeResyncRequest who).secure = s.secure
      ∧ (s.takeResyncRequest who).power = s.power ∧ (s.takeResyncRequest who).mem = s.mem
      ∧ (s.takeResyncRequest who).freeCtr = s.freeCtr ∧ (s.takeResyncRequest who).pending = s.pending := by simp [State.takeResyncRequest]
@[simp] theorem State.failOwn_frame (s : State) : (s.failOwn).clock = s.clock ∧ (s.failOwn).time = s.time
      ∧ (s.failOwn).render = s.render ∧ (s.failOwn).inputs = s.inputs ∧ (s.failOwn).meter = s.meter ∧ (s.failOwn).ports = s.ports
      ∧ (s.failOwn).net = s.net ∧ (s.failOwn).fns = s.fns ∧ (s.failOwn).ecc = s.ecc ∧ (s.failOwn).queues = s.queues
      ∧ (s.failOwn).group = s.group ∧ (s.failOwn).update = s.update ∧ (s.failOwn).secure = s.secure ∧ (s.failOwn).power = s.power
      ∧ (s.failOwn).mem = s.mem ∧ (s.failOwn).freeCtr = s.freeCtr ∧ (s.failOwn).pending = s.pending := by simp [State.failOwn]
@[simp] theorem State.resyncDone_frame (s : State) : (s.resyncDone).txn = s.txn ∧ (s.resyncDone).clock = s.clock
      ∧ (s.resyncDone).time = s.time ∧ (s.resyncDone).render = s.render ∧ (s.resyncDone).inputs = s.inputs
      ∧ (s.resyncDone).meter = s.meter ∧ (s.resyncDone).ports = s.ports ∧ (s.resyncDone).net = s.net ∧ (s.resyncDone).fns = s.fns
      ∧ (s.resyncDone).ecc = s.ecc ∧ (s.resyncDone).queues = s.queues ∧ (s.resyncDone).update = s.update
      ∧ (s.resyncDone).secure = s.secure ∧ (s.resyncDone).power = s.power ∧ (s.resyncDone).mem = s.mem
      ∧ (s.resyncDone).freeCtr = s.freeCtr ∧ (s.resyncDone).pending = s.pending := by simp [State.resyncDone]
@[simp] theorem State.takeJoined_frame (s : State) (who : Nat) : (s.takeJoined who).txn = s.txn ∧ (s.takeJoined who).clock = s.clock
      ∧ (s.takeJoined who).time = s.time ∧ (s.takeJoined who).render = s.render ∧ (s.takeJoined who).inputs = s.inputs
      ∧ (s.takeJoined who).meter = s.meter ∧ (s.takeJoined who).ports = s.ports ∧ (s.takeJoined who).net = s.net
      ∧ (s.takeJoined who).fns = s.fns ∧ (s.takeJoined who).ecc = s.ecc ∧ (s.takeJoined who).queues = s.queues
      ∧ (s.takeJoined who).update = s.update ∧ (s.takeJoined who).secure = s.secure ∧ (s.takeJoined who).power = s.power
      ∧ (s.takeJoined who).mem = s.mem ∧ (s.takeJoined who).freeCtr = s.freeCtr ∧ (s.takeJoined who).out = s.out
      ∧ (s.takeJoined who).pending = s.pending := by simp [State.takeJoined]
@[simp] theorem State.takeHelloMsg_frame (s : State) (uid rank plane : Nat) (digest : Bytes) :
    (s.takeHelloMsg uid rank plane digest).host = s.host ∧ (s.takeHelloMsg uid rank plane digest).txn = s.txn
      ∧ (s.takeHelloMsg uid rank plane digest).clock = s.clock ∧ (s.takeHelloMsg uid rank plane digest).time = s.time
      ∧ (s.takeHelloMsg uid rank plane digest).icu = s.icu ∧ (s.takeHelloMsg uid rank plane digest).render = s.render
      ∧ (s.takeHelloMsg uid rank plane digest).inputs = s.inputs ∧ (s.takeHelloMsg uid rank plane digest).meter = s.meter
      ∧ (s.takeHelloMsg uid rank plane digest).ports = s.ports ∧ (s.takeHelloMsg uid rank plane digest).net = s.net
      ∧ (s.takeHelloMsg uid rank plane digest).fns = s.fns ∧ (s.takeHelloMsg uid rank plane digest).ecc = s.ecc
      ∧ (s.takeHelloMsg uid rank plane digest).queues = s.queues ∧ (s.takeHelloMsg uid rank plane digest).update = s.update
      ∧ (s.takeHelloMsg uid rank plane digest).secure = s.secure ∧ (s.takeHelloMsg uid rank plane digest).power = s.power
      ∧ (s.takeHelloMsg uid rank plane digest).mem = s.mem ∧ (s.takeHelloMsg uid rank plane digest).freeCtr = s.freeCtr
      ∧ (s.takeHelloMsg uid rank plane digest).pending = s.pending := by simp [State.takeHelloMsg]
@[simp] theorem State.openSession_frame (s : State) (p : Bytes) : (s.openSession p).1.txn = s.txn ∧ (s.openSession p).1.clock = s.clock
      ∧ (s.openSession p).1.time = s.time ∧ (s.openSession p).1.render = s.render ∧ (s.openSession p).1.inputs = s.inputs
      ∧ (s.openSession p).1.meter = s.meter ∧ (s.openSession p).1.ports = s.ports ∧ (s.openSession p).1.net = s.net
      ∧ (s.openSession p).1.fns = s.fns ∧ (s.openSession p).1.ecc = s.ecc ∧ (s.openSession p).1.queues = s.queues
      ∧ (s.openSession p).1.group = s.group ∧ (s.openSession p).1.update = s.update ∧ (s.openSession p).1.power = s.power
      ∧ (s.openSession p).1.mem = s.mem ∧ (s.openSession p).1.out = s.out ∧ (s.openSession p).1.pending = s.pending := by simp [State.openSession]
@[simp] theorem State.credSetDone_frame (s : State) (id : Nat) : (s.credSetDone id).txn = s.txn ∧ (s.credSetDone id).clock = s.clock
      ∧ (s.credSetDone id).time = s.time ∧ (s.credSetDone id).render = s.render ∧ (s.credSetDone id).inputs = s.inputs
      ∧ (s.credSetDone id).meter = s.meter ∧ (s.credSetDone id).ports = s.ports ∧ (s.credSetDone id).net = s.net
      ∧ (s.credSetDone id).fns = s.fns ∧ (s.credSetDone id).ecc = s.ecc ∧ (s.credSetDone id).queues = s.queues
      ∧ (s.credSetDone id).group = s.group ∧ (s.credSetDone id).update = s.update ∧ (s.credSetDone id).power = s.power
      ∧ (s.credSetDone id).mem = s.mem ∧ (s.credSetDone id).freeCtr = s.freeCtr ∧ (s.credSetDone id).pending = s.pending := by
  unfold State.credSetDone
  (repeat' split) <;> simp
@[simp] theorem State.keyEstablishDone_frame (s : State) (id : Nat) : (s.keyEstablishDone id).txn = s.txn
      ∧ (s.keyEstablishDone id).clock = s.clock ∧ (s.keyEstablishDone id).time = s.time ∧ (s.keyEstablishDone id).inputs = s.inputs
      ∧ (s.keyEstablishDone id).meter = s.meter ∧ (s.keyEstablishDone id).ports = s.ports ∧ (s.keyEstablishDone id).net = s.net
      ∧ (s.keyEstablishDone id).fns = s.fns ∧ (s.keyEstablishDone id).ecc = s.ecc ∧ (s.keyEstablishDone id).queues = s.queues
      ∧ (s.keyEstablishDone id).group = s.group ∧ (s.keyEstablishDone id).update = s.update ∧ (s.keyEstablishDone id).power = s.power
      ∧ (s.keyEstablishDone id).mem = s.mem ∧ (s.keyEstablishDone id).pending = s.pending := by
  unfold State.keyEstablishDone
  (repeat' split) <;> simp
@[simp] theorem State.keyInstallDone_frame (s : State) (id : Nat) : (s.keyInstallDone id).txn = s.txn
      ∧ (s.keyInstallDone id).clock = s.clock ∧ (s.keyInstallDone id).time = s.time ∧ (s.keyInstallDone id).render = s.render
      ∧ (s.keyInstallDone id).inputs = s.inputs ∧ (s.keyInstallDone id).meter = s.meter ∧ (s.keyInstallDone id).ports = s.ports
      ∧ (s.keyInstallDone id).net = s.net ∧ (s.keyInstallDone id).fns = s.fns ∧ (s.keyInstallDone id).ecc = s.ecc
      ∧ (s.keyInstallDone id).queues = s.queues ∧ (s.keyInstallDone id).group = s.group ∧ (s.keyInstallDone id).update = s.update
      ∧ (s.keyInstallDone id).power = s.power ∧ (s.keyInstallDone id).mem = s.mem ∧ (s.keyInstallDone id).freeCtr = s.freeCtr
      ∧ (s.keyInstallDone id).pending = s.pending := by
  unfold State.keyInstallDone
  (repeat' split) <;> simp
@[simp] theorem State.auditReadDone_frame (s : State) (id : Nat) : (s.auditReadDone id).txn = s.txn
      ∧ (s.auditReadDone id).clock = s.clock ∧ (s.auditReadDone id).time = s.time ∧ (s.auditReadDone id).render = s.render
      ∧ (s.auditReadDone id).inputs = s.inputs ∧ (s.auditReadDone id).meter = s.meter ∧ (s.auditReadDone id).ports = s.ports
      ∧ (s.auditReadDone id).net = s.net ∧ (s.auditReadDone id).fns = s.fns ∧ (s.auditReadDone id).ecc = s.ecc
      ∧ (s.auditReadDone id).queues = s.queues ∧ (s.auditReadDone id).group = s.group ∧ (s.auditReadDone id).update = s.update
      ∧ (s.auditReadDone id).power = s.power ∧ (s.auditReadDone id).freeCtr = s.freeCtr ∧ (s.auditReadDone id).pending = s.pending := by
  unfold State.auditReadDone
  (repeat' split) <;> simp
@[simp] theorem State.unlockDebug_frame (s : State) : (s.unlockDebug).host = s.host ∧ (s.unlockDebug).txn = s.txn
      ∧ (s.unlockDebug).clock = s.clock ∧ (s.unlockDebug).time = s.time ∧ (s.unlockDebug).render = s.render
      ∧ (s.unlockDebug).inputs = s.inputs ∧ (s.unlockDebug).meter = s.meter ∧ (s.unlockDebug).fns = s.fns ∧ (s.unlockDebug).ecc = s.ecc
      ∧ (s.unlockDebug).queues = s.queues ∧ (s.unlockDebug).group = s.group ∧ (s.unlockDebug).update = s.update
      ∧ (s.unlockDebug).power = s.power ∧ (s.unlockDebug).mem = s.mem ∧ (s.unlockDebug).freeCtr = s.freeCtr
      ∧ (s.unlockDebug).out = s.out ∧ (s.unlockDebug).pending = s.pending := by simp [State.unlockDebug]
@[simp] theorem State.debugAttach_frame (s : State) : (s.debugAttach).host = s.host ∧ (s.debugAttach).txn = s.txn
      ∧ (s.debugAttach).clock = s.clock ∧ (s.debugAttach).time = s.time ∧ (s.debugAttach).render = s.render
      ∧ (s.debugAttach).inputs = s.inputs ∧ (s.debugAttach).meter = s.meter ∧ (s.debugAttach).ports = s.ports
      ∧ (s.debugAttach).net = s.net ∧ (s.debugAttach).fns = s.fns ∧ (s.debugAttach).ecc = s.ecc ∧ (s.debugAttach).queues = s.queues
      ∧ (s.debugAttach).group = s.group ∧ (s.debugAttach).update = s.update ∧ (s.debugAttach).power = s.power
      ∧ (s.debugAttach).mem = s.mem ∧ (s.debugAttach).freeCtr = s.freeCtr ∧ (s.debugAttach).out = s.out
      ∧ (s.debugAttach).pending = s.pending := by simp [State.debugAttach]
@[simp] theorem State.updateBeginDone_frame (s : State) (id : Nat) : (s.updateBeginDone id).txn = s.txn
      ∧ (s.updateBeginDone id).clock = s.clock ∧ (s.updateBeginDone id).time = s.time ∧ (s.updateBeginDone id).render = s.render
      ∧ (s.updateBeginDone id).inputs = s.inputs ∧ (s.updateBeginDone id).meter = s.meter ∧ (s.updateBeginDone id).ports = s.ports
      ∧ (s.updateBeginDone id).net = s.net ∧ (s.updateBeginDone id).fns = s.fns ∧ (s.updateBeginDone id).ecc = s.ecc
      ∧ (s.updateBeginDone id).queues = s.queues ∧ (s.updateBeginDone id).group = s.group ∧ (s.updateBeginDone id).secure = s.secure
      ∧ (s.updateBeginDone id).power = s.power ∧ (s.updateBeginDone id).mem = s.mem ∧ (s.updateBeginDone id).freeCtr = s.freeCtr
      ∧ (s.updateBeginDone id).pending = s.pending := by
  unfold State.updateBeginDone
  (repeat' split) <;> simp
@[simp] theorem State.putBlock_frame (s : State) (off crc : Nat) (data : Bytes) : (s.putBlock off crc data).1.host = s.host
      ∧ (s.putBlock off crc data).1.txn = s.txn ∧ (s.putBlock off crc data).1.clock = s.clock
      ∧ (s.putBlock off crc data).1.time = s.time ∧ (s.putBlock off crc data).1.icu = s.icu
      ∧ (s.putBlock off crc data).1.render = s.render ∧ (s.putBlock off crc data).1.inputs = s.inputs
      ∧ (s.putBlock off crc data).1.meter = s.meter ∧ (s.putBlock off crc data).1.ports = s.ports
      ∧ (s.putBlock off crc data).1.net = s.net ∧ (s.putBlock off crc data).1.fns = s.fns ∧ (s.putBlock off crc data).1.ecc = s.ecc
      ∧ (s.putBlock off crc data).1.queues = s.queues ∧ (s.putBlock off crc data).1.group = s.group
      ∧ (s.putBlock off crc data).1.secure = s.secure ∧ (s.putBlock off crc data).1.power = s.power
      ∧ (s.putBlock off crc data).1.mem = s.mem ∧ (s.putBlock off crc data).1.freeCtr = s.freeCtr
      ∧ (s.putBlock off crc data).1.out = s.out ∧ (s.putBlock off crc data).1.pending = s.pending := by simp [State.putBlock]
@[simp] theorem State.updateBlockDone_frame (s : State) (id : Nat) (poison : Bool) : (s.updateBlockDone id poison).txn = s.txn
      ∧ (s.updateBlockDone id poison).clock = s.clock ∧ (s.updateBlockDone id poison).time = s.time
      ∧ (s.updateBlockDone id poison).render = s.render ∧ (s.updateBlockDone id poison).inputs = s.inputs
      ∧ (s.updateBlockDone id poison).meter = s.meter ∧ (s.updateBlockDone id poison).ports = s.ports
      ∧ (s.updateBlockDone id poison).net = s.net ∧ (s.updateBlockDone id poison).fns = s.fns
      ∧ (s.updateBlockDone id poison).ecc = s.ecc ∧ (s.updateBlockDone id poison).queues = s.queues
      ∧ (s.updateBlockDone id poison).group = s.group ∧ (s.updateBlockDone id poison).secure = s.secure
      ∧ (s.updateBlockDone id poison).power = s.power ∧ (s.updateBlockDone id poison).mem = s.mem
      ∧ (s.updateBlockDone id poison).freeCtr = s.freeCtr ∧ (s.updateBlockDone id poison).pending = s.pending := by
  unfold State.updateBlockDone
  (repeat' split) <;> simp
@[simp] theorem State.updateVerifyDone_frame (s : State) (id : Nat) : (s.updateVerifyDone id).txn = s.txn
      ∧ (s.updateVerifyDone id).clock = s.clock ∧ (s.updateVerifyDone id).time = s.time ∧ (s.updateVerifyDone id).render = s.render
      ∧ (s.updateVerifyDone id).inputs = s.inputs ∧ (s.updateVerifyDone id).meter = s.meter ∧ (s.updateVerifyDone id).ports = s.ports
      ∧ (s.updateVerifyDone id).net = s.net ∧ (s.updateVerifyDone id).fns = s.fns ∧ (s.updateVerifyDone id).ecc = s.ecc
      ∧ (s.updateVerifyDone id).queues = s.queues ∧ (s.updateVerifyDone id).group = s.group ∧ (s.updateVerifyDone id).power = s.power
      ∧ (s.updateVerifyDone id).mem = s.mem ∧ (s.updateVerifyDone id).freeCtr = s.freeCtr ∧ (s.updateVerifyDone id).pending = s.pending := by
  unfold State.updateVerifyDone
  (repeat' split) <;> simp
@[simp] theorem State.startActivation_frame (s : State) (id scope m : Nat) : (s.startActivation id scope m).host = s.host
      ∧ (s.startActivation id scope m).txn = s.txn ∧ (s.startActivation id scope m).clock = s.clock
      ∧ (s.startActivation id scope m).time = s.time ∧ (s.startActivation id scope m).icu = s.icu
      ∧ (s.startActivation id scope m).render = s.render ∧ (s.startActivation id scope m).inputs = s.inputs
      ∧ (s.startActivation id scope m).meter = s.meter ∧ (s.startActivation id scope m).ports = s.ports
      ∧ (s.startActivation id scope m).net = s.net ∧ (s.startActivation id scope m).fns = s.fns
      ∧ (s.startActivation id scope m).ecc = s.ecc ∧ (s.startActivation id scope m).queues = s.queues
      ∧ (s.startActivation id scope m).secure = s.secure ∧ (s.startActivation id scope m).power = s.power
      ∧ (s.startActivation id scope m).mem = s.mem ∧ (s.startActivation id scope m).freeCtr = s.freeCtr
      ∧ (s.startActivation id scope m).pending = s.pending := by simp [State.startActivation]
@[simp] theorem State.resetRelease_frame (s : State) (rank : Nat) (testMode : Bool) : (s.resetRelease rank testMode).txn = s.txn
      ∧ (s.resetRelease rank testMode).clock = s.clock ∧ (s.resetRelease rank testMode).icu = s.icu
      ∧ (s.resetRelease rank testMode).render = s.render ∧ (s.resetRelease rank testMode).inputs = s.inputs
      ∧ (s.resetRelease rank testMode).meter = s.meter ∧ (s.resetRelease rank testMode).ports = s.ports
      ∧ (s.resetRelease rank testMode).net = s.net ∧ (s.resetRelease rank testMode).fns = s.fns
      ∧ (s.resetRelease rank testMode).ecc = s.ecc ∧ (s.resetRelease rank testMode).queues = s.queues
      ∧ (s.resetRelease rank testMode).update = s.update ∧ (s.resetRelease rank testMode).secure = s.secure
      ∧ (s.resetRelease rank testMode).mem = s.mem ∧ (s.resetRelease rank testMode).freeCtr = s.freeCtr
      ∧ (s.resetRelease rank testMode).out = s.out ∧ (s.resetRelease rank testMode).pending = s.pending := by simp [State.resetRelease]
@[simp] theorem State.startLinks_frame (s : State) : (s.startLinks).host = s.host ∧ (s.startLinks).txn = s.txn
      ∧ (s.startLinks).clock = s.clock ∧ (s.startLinks).time = s.time ∧ (s.startLinks).icu = s.icu ∧ (s.startLinks).render = s.render
      ∧ (s.startLinks).inputs = s.inputs ∧ (s.startLinks).meter = s.meter ∧ (s.startLinks).ports = s.ports ∧ (s.startLinks).net = s.net
      ∧ (s.startLinks).ecc = s.ecc ∧ (s.startLinks).queues = s.queues ∧ (s.startLinks).update = s.update
      ∧ (s.startLinks).secure = s.secure ∧ (s.startLinks).power = s.power ∧ (s.startLinks).mem = s.mem
      ∧ (s.startLinks).freeCtr = s.freeCtr ∧ (s.startLinks).out = s.out ∧ (s.startLinks).pending = s.pending := by simp [State.startLinks]
@[simp] theorem State.lanishambeStart_frame (s : State) (bootBad areaBad part : Nat) : (s.lanishambeStart bootBad areaBad part).txn = s.txn
      ∧ (s.lanishambeStart bootBad areaBad part).clock = s.clock ∧ (s.lanishambeStart bootBad areaBad part).time = s.time
      ∧ (s.lanishambeStart bootBad areaBad part).render = s.render ∧ (s.lanishambeStart bootBad areaBad part).inputs = s.inputs
      ∧ (s.lanishambeStart bootBad areaBad part).ports = s.ports ∧ (s.lanishambeStart bootBad areaBad part).net = s.net
      ∧ (s.lanishambeStart bootBad areaBad part).ecc = s.ecc ∧ (s.lanishambeStart bootBad areaBad part).queues = s.queues
      ∧ (s.lanishambeStart bootBad areaBad part).mem = s.mem ∧ (s.lanishambeStart bootBad areaBad part).freeCtr = s.freeCtr
      ∧ (s.lanishambeStart bootBad areaBad part).out = s.out ∧ (s.lanishambeStart bootBad areaBad part).pending = s.pending := by
  unfold State.lanishambeStart
  try simp
  all_goals ((repeat' split) <;> try simp)
@[simp] theorem State.selfTest_frame (s : State) : (s.selfTest).txn = s.txn ∧ (s.selfTest).clock = s.clock ∧ (s.selfTest).time = s.time
      ∧ (s.selfTest).icu = s.icu ∧ (s.selfTest).render = s.render ∧ (s.selfTest).inputs = s.inputs ∧ (s.selfTest).meter = s.meter
      ∧ (s.selfTest).ports = s.ports ∧ (s.selfTest).net = s.net ∧ (s.selfTest).fns = s.fns ∧ (s.selfTest).ecc = s.ecc
      ∧ (s.selfTest).queues = s.queues ∧ (s.selfTest).group = s.group ∧ (s.selfTest).update = s.update ∧ (s.selfTest).secure = s.secure
      ∧ (s.selfTest).power = s.power ∧ (s.selfTest).mem = s.mem ∧ (s.selfTest).freeCtr = s.freeCtr ∧ (s.selfTest).out = s.out
      ∧ (s.selfTest).pending = s.pending := by
  unfold State.selfTest
  try simp
  all_goals ((repeat' split) <;> try simp_all)
@[simp] theorem State.fwRestart_frame (s : State) : (s.fwRestart).clock = s.clock ∧ (s.fwRestart).time = s.time
      ∧ (s.fwRestart).render = s.render ∧ (s.fwRestart).inputs = s.inputs ∧ (s.fwRestart).meter = s.meter
      ∧ (s.fwRestart).ports = s.ports ∧ (s.fwRestart).net = s.net ∧ (s.fwRestart).fns = s.fns ∧ (s.fwRestart).ecc = s.ecc
      ∧ (s.fwRestart).queues = s.queues ∧ (s.fwRestart).group = s.group ∧ (s.fwRestart).update = s.update
      ∧ (s.fwRestart).power = s.power ∧ (s.fwRestart).mem = s.mem ∧ (s.fwRestart).freeCtr = s.freeCtr ∧ (s.fwRestart).out = s.out
      ∧ (s.fwRestart).pending = s.pending := by simp [State.fwRestart]
@[simp] theorem State.abortMbx_frame (s : State) (m : Nat) : (s.abortMbx m).txn = s.txn ∧ (s.abortMbx m).clock = s.clock
      ∧ (s.abortMbx m).time = s.time ∧ (s.abortMbx m).render = s.render ∧ (s.abortMbx m).inputs = s.inputs
      ∧ (s.abortMbx m).meter = s.meter ∧ (s.abortMbx m).ports = s.ports ∧ (s.abortMbx m).net = s.net ∧ (s.abortMbx m).fns = s.fns
      ∧ (s.abortMbx m).ecc = s.ecc ∧ (s.abortMbx m).queues = s.queues ∧ (s.abortMbx m).group = s.group
      ∧ (s.abortMbx m).update = s.update ∧ (s.abortMbx m).secure = s.secure ∧ (s.abortMbx m).power = s.power
      ∧ (s.abortMbx m).freeCtr = s.freeCtr ∧ (s.abortMbx m).out = s.out ∧ (s.abortMbx m).pending = s.pending := by
  unfold State.abortMbx
  try simp
  all_goals ((repeat' split) <;> try simp)
@[simp] theorem State.fwRestartEnd_frame (s : State) : (s.fwRestartEnd).clock = s.clock ∧ (s.fwRestartEnd).time = s.time
      ∧ (s.fwRestartEnd).render = s.render ∧ (s.fwRestartEnd).inputs = s.inputs ∧ (s.fwRestartEnd).meter = s.meter
      ∧ (s.fwRestartEnd).ports = s.ports ∧ (s.fwRestartEnd).net = s.net ∧ (s.fwRestartEnd).fns = s.fns ∧ (s.fwRestartEnd).ecc = s.ecc
      ∧ (s.fwRestartEnd).queues = s.queues ∧ (s.fwRestartEnd).update = s.update ∧ (s.fwRestartEnd).power = s.power
      ∧ (s.fwRestartEnd).freeCtr = s.freeCtr ∧ (s.fwRestartEnd).out = s.out ∧ (s.fwRestartEnd).pending = s.pending := by simp [State.fwRestartEnd]
@[simp] theorem State.renderStall_frame (s : State) : (s.renderStall).txn = s.txn ∧ (s.renderStall).clock = s.clock
      ∧ (s.renderStall).time = s.time ∧ (s.renderStall).render = s.render ∧ (s.renderStall).inputs = s.inputs
      ∧ (s.renderStall).meter = s.meter ∧ (s.renderStall).fns = s.fns ∧ (s.renderStall).ecc = s.ecc ∧ (s.renderStall).queues = s.queues
      ∧ (s.renderStall).update = s.update ∧ (s.renderStall).secure = s.secure ∧ (s.renderStall).mem = s.mem
      ∧ (s.renderStall).freeCtr = s.freeCtr ∧ (s.renderStall).pending = s.pending := by
  unfold State.renderStall
  try simp
  all_goals ((repeat' split) <;> try simp_all)
@[simp] theorem State.supplyFault_frame (s : State) (rail : Nat) : (s.supplyFault rail).host = s.host ∧ (s.supplyFault rail).txn = s.txn
      ∧ (s.supplyFault rail).clock = s.clock ∧ (s.supplyFault rail).time = s.time ∧ (s.supplyFault rail).render = s.render
      ∧ (s.supplyFault rail).inputs = s.inputs ∧ (s.supplyFault rail).meter = s.meter ∧ (s.supplyFault rail).ports = s.ports
      ∧ (s.supplyFault rail).net = s.net ∧ (s.supplyFault rail).fns = s.fns ∧ (s.supplyFault rail).ecc = s.ecc
      ∧ (s.supplyFault rail).queues = s.queues ∧ (s.supplyFault rail).group = s.group ∧ (s.supplyFault rail).update = s.update
      ∧ (s.supplyFault rail).secure = s.secure ∧ (s.supplyFault rail).mem = s.mem ∧ (s.supplyFault rail).freeCtr = s.freeCtr
      ∧ (s.supplyFault rail).out = s.out ∧ (s.supplyFault rail).pending = s.pending := by simp [State.supplyFault]
@[simp] theorem State.junction_frame (s : State) (tj : Int) : (s.junction tj).host = s.host ∧ (s.junction tj).txn = s.txn
      ∧ (s.junction tj).clock = s.clock ∧ (s.junction tj).time = s.time ∧ (s.junction tj).render = s.render
      ∧ (s.junction tj).inputs = s.inputs ∧ (s.junction tj).meter = s.meter ∧ (s.junction tj).ports = s.ports
      ∧ (s.junction tj).net = s.net ∧ (s.junction tj).fns = s.fns ∧ (s.junction tj).ecc = s.ecc ∧ (s.junction tj).queues = s.queues
      ∧ (s.junction tj).group = s.group ∧ (s.junction tj).update = s.update ∧ (s.junction tj).secure = s.secure
      ∧ (s.junction tj).mem = s.mem ∧ (s.junction tj).freeCtr = s.freeCtr ∧ (s.junction tj).out = s.out
      ∧ (s.junction tj).pending = s.pending := by simp [State.junction]
@[simp] theorem State.arbiterInterval_frame (s : State) (x : ArbiterLoad) (tj : Int) : (s.arbiterInterval x tj).host = s.host
      ∧ (s.arbiterInterval x tj).txn = s.txn ∧ (s.arbiterInterval x tj).clock = s.clock ∧ (s.arbiterInterval x tj).time = s.time
      ∧ (s.arbiterInterval x tj).render = s.render ∧ (s.arbiterInterval x tj).inputs = s.inputs
      ∧ (s.arbiterInterval x tj).meter = s.meter ∧ (s.arbiterInterval x tj).ports = s.ports ∧ (s.arbiterInterval x tj).net = s.net
      ∧ (s.arbiterInterval x tj).fns = s.fns ∧ (s.arbiterInterval x tj).ecc = s.ecc ∧ (s.arbiterInterval x tj).queues = s.queues
      ∧ (s.arbiterInterval x tj).group = s.group ∧ (s.arbiterInterval x tj).update = s.update
      ∧ (s.arbiterInterval x tj).secure = s.secure ∧ (s.arbiterInterval x tj).mem = s.mem ∧ (s.arbiterInterval x tj).freeCtr = s.freeCtr
      ∧ (s.arbiterInterval x tj).out = s.out ∧ (s.arbiterInterval x tj).pending = s.pending := by simp [State.arbiterInterval]
@[simp] theorem State.teEdge_frame (s : State) (i : Nat) (rising : Bool) : (s.teEdge i rising).host = s.host
      ∧ (s.teEdge i rising).txn = s.txn ∧ (s.teEdge i rising).clock = s.clock ∧ (s.teEdge i rising).time = s.time
      ∧ (s.teEdge i rising).inputs = s.inputs ∧ (s.teEdge i rising).meter = s.meter ∧ (s.teEdge i rising).net = s.net
      ∧ (s.teEdge i rising).fns = s.fns ∧ (s.teEdge i rising).ecc = s.ecc ∧ (s.teEdge i rising).queues = s.queues
      ∧ (s.teEdge i rising).group = s.group ∧ (s.teEdge i rising).update = s.update ∧ (s.teEdge i rising).secure = s.secure
      ∧ (s.teEdge i rising).power = s.power ∧ (s.teEdge i rising).mem = s.mem ∧ (s.teEdge i rising).freeCtr = s.freeCtr
      ∧ (s.teEdge i rising).out = s.out ∧ (s.teEdge i rising).pending = s.pending := by
  unfold State.teEdge
  try simp
  all_goals ((repeat' split) <;> try simp)
@[simp] theorem State.displayEvent_frame (s : State) (i : Nat) : (s.displayEvent i).host = s.host ∧ (s.displayEvent i).txn = s.txn
      ∧ (s.displayEvent i).clock = s.clock ∧ (s.displayEvent i).time = s.time ∧ (s.displayEvent i).render = s.render
      ∧ (s.displayEvent i).inputs = s.inputs ∧ (s.displayEvent i).meter = s.meter ∧ (s.displayEvent i).net = s.net
      ∧ (s.displayEvent i).fns = s.fns ∧ (s.displayEvent i).ecc = s.ecc ∧ (s.displayEvent i).queues = s.queues
      ∧ (s.displayEvent i).group = s.group ∧ (s.displayEvent i).update = s.update ∧ (s.displayEvent i).secure = s.secure
      ∧ (s.displayEvent i).power = s.power ∧ (s.displayEvent i).mem = s.mem ∧ (s.displayEvent i).freeCtr = s.freeCtr
      ∧ (s.displayEvent i).out = s.out ∧ (s.displayEvent i).pending = s.pending := by simp [State.displayEvent]
@[simp] theorem State.dpHpd_frame (s : State) (present : Bool) : (s.dpHpd present).host = s.host ∧ (s.dpHpd present).txn = s.txn
      ∧ (s.dpHpd present).clock = s.clock ∧ (s.dpHpd present).time = s.time ∧ (s.dpHpd present).render = s.render
      ∧ (s.dpHpd present).inputs = s.inputs ∧ (s.dpHpd present).meter = s.meter ∧ (s.dpHpd present).net = s.net
      ∧ (s.dpHpd present).fns = s.fns ∧ (s.dpHpd present).ecc = s.ecc ∧ (s.dpHpd present).queues = s.queues
      ∧ (s.dpHpd present).group = s.group ∧ (s.dpHpd present).update = s.update ∧ (s.dpHpd present).secure = s.secure
      ∧ (s.dpHpd present).power = s.power ∧ (s.dpHpd present).mem = s.mem ∧ (s.dpHpd present).freeCtr = s.freeCtr
      ∧ (s.dpHpd present).out = s.out ∧ (s.dpHpd present).pending = s.pending := by
  unfold State.dpHpd
  try simp
  all_goals ((repeat' split) <;> try simp_all)
@[simp] theorem State.displayForce_frame (s : State) (cfg : DisplayCfg) : (s.displayForce cfg).host = s.host
      ∧ (s.displayForce cfg).txn = s.txn ∧ (s.displayForce cfg).clock = s.clock ∧ (s.displayForce cfg).time = s.time
      ∧ (s.displayForce cfg).icu = s.icu ∧ (s.displayForce cfg).render = s.render ∧ (s.displayForce cfg).inputs = s.inputs
      ∧ (s.displayForce cfg).meter = s.meter ∧ (s.displayForce cfg).net = s.net ∧ (s.displayForce cfg).fns = s.fns
      ∧ (s.displayForce cfg).ecc = s.ecc ∧ (s.displayForce cfg).queues = s.queues ∧ (s.displayForce cfg).group = s.group
      ∧ (s.displayForce cfg).update = s.update ∧ (s.displayForce cfg).secure = s.secure ∧ (s.displayForce cfg).power = s.power
      ∧ (s.displayForce cfg).mem = s.mem ∧ (s.displayForce cfg).out = s.out ∧ (s.displayForce cfg).pending = s.pending := by simp [State.displayForce]
@[simp] theorem State.dpTrained_frame (s : State) (link : Option (Nat × Nat)) : (s.dpTrained link).host = s.host
      ∧ (s.dpTrained link).txn = s.txn ∧ (s.dpTrained link).clock = s.clock ∧ (s.dpTrained link).time = s.time
      ∧ (s.dpTrained link).render = s.render ∧ (s.dpTrained link).inputs = s.inputs ∧ (s.dpTrained link).meter = s.meter
      ∧ (s.dpTrained link).net = s.net ∧ (s.dpTrained link).fns = s.fns ∧ (s.dpTrained link).ecc = s.ecc
      ∧ (s.dpTrained link).queues = s.queues ∧ (s.dpTrained link).group = s.group ∧ (s.dpTrained link).update = s.update
      ∧ (s.dpTrained link).secure = s.secure ∧ (s.dpTrained link).power = s.power ∧ (s.dpTrained link).mem = s.mem
      ∧ (s.dpTrained link).out = s.out ∧ (s.dpTrained link).pending = s.pending := by
  unfold State.dpTrained
  (repeat' split) <;> simp
@[simp] theorem State.dpVblank_frame (s : State) : (s.dpVblank).host = s.host ∧ (s.dpVblank).txn = s.txn ∧ (s.dpVblank).clock = s.clock
      ∧ (s.dpVblank).time = s.time ∧ (s.dpVblank).render = s.render ∧ (s.dpVblank).inputs = s.inputs ∧ (s.dpVblank).meter = s.meter
      ∧ (s.dpVblank).net = s.net ∧ (s.dpVblank).fns = s.fns ∧ (s.dpVblank).ecc = s.ecc ∧ (s.dpVblank).queues = s.queues
      ∧ (s.dpVblank).group = s.group ∧ (s.dpVblank).update = s.update ∧ (s.dpVblank).secure = s.secure ∧ (s.dpVblank).power = s.power
      ∧ (s.dpVblank).mem = s.mem ∧ (s.dpVblank).out = s.out ∧ (s.dpVblank).pending = s.pending := by simp [State.dpVblank]
@[simp] theorem State.dpPllLoss_frame (s : State) : (s.dpPllLoss).host = s.host ∧ (s.dpPllLoss).txn = s.txn
      ∧ (s.dpPllLoss).clock = s.clock ∧ (s.dpPllLoss).time = s.time ∧ (s.dpPllLoss).icu = s.icu ∧ (s.dpPllLoss).render = s.render
      ∧ (s.dpPllLoss).inputs = s.inputs ∧ (s.dpPllLoss).meter = s.meter ∧ (s.dpPllLoss).net = s.net ∧ (s.dpPllLoss).fns = s.fns
      ∧ (s.dpPllLoss).ecc = s.ecc ∧ (s.dpPllLoss).queues = s.queues ∧ (s.dpPllLoss).group = s.group ∧ (s.dpPllLoss).update = s.update
      ∧ (s.dpPllLoss).secure = s.secure ∧ (s.dpPllLoss).power = s.power ∧ (s.dpPllLoss).mem = s.mem ∧ (s.dpPllLoss).freeCtr = s.freeCtr
      ∧ (s.dpPllLoss).out = s.out ∧ (s.dpPllLoss).pending = s.pending := by simp [State.dpPllLoss]
@[simp] theorem State.dpPllRelock_frame (s : State) : (s.dpPllRelock).host = s.host ∧ (s.dpPllRelock).txn = s.txn
      ∧ (s.dpPllRelock).clock = s.clock ∧ (s.dpPllRelock).time = s.time ∧ (s.dpPllRelock).icu = s.icu
      ∧ (s.dpPllRelock).render = s.render ∧ (s.dpPllRelock).inputs = s.inputs ∧ (s.dpPllRelock).meter = s.meter
      ∧ (s.dpPllRelock).net = s.net ∧ (s.dpPllRelock).fns = s.fns ∧ (s.dpPllRelock).ecc = s.ecc ∧ (s.dpPllRelock).queues = s.queues
      ∧ (s.dpPllRelock).group = s.group ∧ (s.dpPllRelock).update = s.update ∧ (s.dpPllRelock).secure = s.secure
      ∧ (s.dpPllRelock).power = s.power ∧ (s.dpPllRelock).mem = s.mem ∧ (s.dpPllRelock).out = s.out
      ∧ (s.dpPllRelock).pending = s.pending := by simp [State.dpPllRelock]
@[simp] theorem State.netUp_frame (s : State) (p mbit : Nat) (txFault : Bool) : (s.netUp p mbit txFault).host = s.host
      ∧ (s.netUp p mbit txFault).txn = s.txn ∧ (s.netUp p mbit txFault).clock = s.clock ∧ (s.netUp p mbit txFault).time = s.time
      ∧ (s.netUp p mbit txFault).render = s.render ∧ (s.netUp p mbit txFault).inputs = s.inputs
      ∧ (s.netUp p mbit txFault).meter = s.meter ∧ (s.netUp p mbit txFault).fns = s.fns ∧ (s.netUp p mbit txFault).ecc = s.ecc
      ∧ (s.netUp p mbit txFault).queues = s.queues ∧ (s.netUp p mbit txFault).group = s.group
      ∧ (s.netUp p mbit txFault).update = s.update ∧ (s.netUp p mbit txFault).secure = s.secure
      ∧ (s.netUp p mbit txFault).power = s.power ∧ (s.netUp p mbit txFault).mem = s.mem ∧ (s.netUp p mbit txFault).freeCtr = s.freeCtr
      ∧ (s.netUp p mbit txFault).pending = s.pending := by
  unfold State.netUp
  try simp
  all_goals ((repeat' split) <;> try simp_all)
@[simp] theorem State.netDown_frame (s : State) (p : Nat) (modAbs txFault rxLos : Bool) : (s.netDown p modAbs txFault rxLos).host = s.host
      ∧ (s.netDown p modAbs txFault rxLos).txn = s.txn ∧ (s.netDown p modAbs txFault rxLos).clock = s.clock
      ∧ (s.netDown p modAbs txFault rxLos).time = s.time ∧ (s.netDown p modAbs txFault rxLos).render = s.render
      ∧ (s.netDown p modAbs txFault rxLos).inputs = s.inputs ∧ (s.netDown p modAbs txFault rxLos).meter = s.meter
      ∧ (s.netDown p modAbs txFault rxLos).fns = s.fns ∧ (s.netDown p modAbs txFault rxLos).ecc = s.ecc
      ∧ (s.netDown p modAbs txFault rxLos).queues = s.queues ∧ (s.netDown p modAbs txFault rxLos).group = s.group
      ∧ (s.netDown p modAbs txFault rxLos).update = s.update ∧ (s.netDown p modAbs txFault rxLos).secure = s.secure
      ∧ (s.netDown p modAbs txFault rxLos).power = s.power ∧ (s.netDown p modAbs txFault rxLos).mem = s.mem
      ∧ (s.netDown p modAbs txFault rxLos).freeCtr = s.freeCtr ∧ (s.netDown p modAbs txFault rxLos).pending = s.pending := by
  unfold State.netDown
  try simp
  all_goals ((repeat' split) <;> try simp_all)
@[simp] theorem State.ringFrame_frame (s : State) (k : Nat) : (s.ringFrame k).host = s.host ∧ (s.ringFrame k).txn = s.txn
      ∧ (s.ringFrame k).clock = s.clock ∧ (s.ringFrame k).time = s.time ∧ (s.ringFrame k).icu = s.icu
      ∧ (s.ringFrame k).render = s.render ∧ (s.ringFrame k).inputs = s.inputs ∧ (s.ringFrame k).meter = s.meter
      ∧ (s.ringFrame k).ports = s.ports ∧ (s.ringFrame k).fns = s.fns ∧ (s.ringFrame k).ecc = s.ecc ∧ (s.ringFrame k).queues = s.queues
      ∧ (s.ringFrame k).group = s.group ∧ (s.ringFrame k).update = s.update ∧ (s.ringFrame k).secure = s.secure
      ∧ (s.ringFrame k).power = s.power ∧ (s.ringFrame k).mem = s.mem ∧ (s.ringFrame k).freeCtr = s.freeCtr
      ∧ (s.ringFrame k).out = s.out ∧ (s.ringFrame k).pending = s.pending := by simp [State.ringFrame]
@[simp] theorem State.endNetEntry_frame (s : State) (h : Nat) (d : BulkDesc) (bs : Bytes) (bad : Bool) :
    (s.endNetEntry h d bs bad).txn = s.txn ∧ (s.endNetEntry h d bs bad).clock = s.clock ∧ (s.endNetEntry h d bs bad).time = s.time
      ∧ (s.endNetEntry h d bs bad).inputs = s.inputs ∧ (s.endNetEntry h d bs bad).meter = s.meter
      ∧ (s.endNetEntry h d bs bad).ports = s.ports ∧ (s.endNetEntry h d bs bad).net = s.net ∧ (s.endNetEntry h d bs bad).fns = s.fns
      ∧ (s.endNetEntry h d bs bad).ecc = s.ecc ∧ (s.endNetEntry h d bs bad).queues = s.queues
      ∧ (s.endNetEntry h d bs bad).group = s.group ∧ (s.endNetEntry h d bs bad).update = s.update
      ∧ (s.endNetEntry h d bs bad).secure = s.secure ∧ (s.endNetEntry h d bs bad).power = s.power
      ∧ (s.endNetEntry h d bs bad).mem = s.mem ∧ (s.endNetEntry h d bs bad).pending = s.pending := by simp [State.endNetEntry]
@[simp] theorem State.pauseRx_frame (s : State) (p q : Nat) : (s.pauseRx p q).host = s.host ∧ (s.pauseRx p q).txn = s.txn
      ∧ (s.pauseRx p q).clock = s.clock ∧ (s.pauseRx p q).time = s.time ∧ (s.pauseRx p q).render = s.render
      ∧ (s.pauseRx p q).inputs = s.inputs ∧ (s.pauseRx p q).meter = s.meter ∧ (s.pauseRx p q).fns = s.fns ∧ (s.pauseRx p q).ecc = s.ecc
      ∧ (s.pauseRx p q).queues = s.queues ∧ (s.pauseRx p q).group = s.group ∧ (s.pauseRx p q).update = s.update
      ∧ (s.pauseRx p q).secure = s.secure ∧ (s.pauseRx p q).power = s.power ∧ (s.pauseRx p q).mem = s.mem
      ∧ (s.pauseRx p q).freeCtr = s.freeCtr ∧ (s.pauseRx p q).out = s.out ∧ (s.pauseRx p q).pending = s.pending := by simp [State.pauseRx]
@[simp] theorem State.toInternal_frame (s : State) (p k : Nat) (bs : Bytes) : (s.toInternal p k bs).host = s.host
      ∧ (s.toInternal p k bs).txn = s.txn ∧ (s.toInternal p k bs).clock = s.clock ∧ (s.toInternal p k bs).time = s.time
      ∧ (s.toInternal p k bs).render = s.render ∧ (s.toInternal p k bs).inputs = s.inputs ∧ (s.toInternal p k bs).meter = s.meter
      ∧ (s.toInternal p k bs).fns = s.fns ∧ (s.toInternal p k bs).ecc = s.ecc ∧ (s.toInternal p k bs).queues = s.queues
      ∧ (s.toInternal p k bs).group = s.group ∧ (s.toInternal p k bs).update = s.update ∧ (s.toInternal p k bs).secure = s.secure
      ∧ (s.toInternal p k bs).power = s.power ∧ (s.toInternal p k bs).mem = s.mem ∧ (s.toInternal p k bs).freeCtr = s.freeCtr
      ∧ (s.toInternal p k bs).out = s.out ∧ (s.toInternal p k bs).pending = s.pending := by simp [State.toInternal]
@[simp] theorem State.toPtp_frame (s : State) (p : Nat) (bs : Bytes) : (s.toPtp p bs).host = s.host ∧ (s.toPtp p bs).txn = s.txn
      ∧ (s.toPtp p bs).clock = s.clock ∧ (s.toPtp p bs).render = s.render ∧ (s.toPtp p bs).inputs = s.inputs
      ∧ (s.toPtp p bs).meter = s.meter ∧ (s.toPtp p bs).fns = s.fns ∧ (s.toPtp p bs).ecc = s.ecc ∧ (s.toPtp p bs).queues = s.queues
      ∧ (s.toPtp p bs).group = s.group ∧ (s.toPtp p bs).update = s.update ∧ (s.toPtp p bs).secure = s.secure
      ∧ (s.toPtp p bs).power = s.power ∧ (s.toPtp p bs).mem = s.mem ∧ (s.toPtp p bs).freeCtr = s.freeCtr ∧ (s.toPtp p bs).out = s.out
      ∧ (s.toPtp p bs).pending = s.pending := by
  unfold State.toPtp
  try simp
  all_goals ((repeat' split) <;> try simp_all)
@[simp] theorem State.takeQuery_frame (s : State) (p : Nat) (bs : Bytes) : (s.takeQuery p bs).host = s.host
      ∧ (s.takeQuery p bs).txn = s.txn ∧ (s.takeQuery p bs).clock = s.clock ∧ (s.takeQuery p bs).time = s.time
      ∧ (s.takeQuery p bs).render = s.render ∧ (s.takeQuery p bs).inputs = s.inputs ∧ (s.takeQuery p bs).meter = s.meter
      ∧ (s.takeQuery p bs).fns = s.fns ∧ (s.takeQuery p bs).ecc = s.ecc ∧ (s.takeQuery p bs).queues = s.queues
      ∧ (s.takeQuery p bs).group = s.group ∧ (s.takeQuery p bs).update = s.update ∧ (s.takeQuery p bs).secure = s.secure
      ∧ (s.takeQuery p bs).power = s.power ∧ (s.takeQuery p bs).mem = s.mem ∧ (s.takeQuery p bs).freeCtr = s.freeCtr
      ∧ (s.takeQuery p bs).out = s.out ∧ (s.takeQuery p bs).pending = s.pending := by
  unfold State.takeQuery
  try simp
  all_goals ((repeat' split) <;> try simp_all)
@[simp] theorem State.rxLoopback_frame (s : State) (p : Nat) (bs : Bytes) : (s.rxLoopback p bs).host = s.host
      ∧ (s.rxLoopback p bs).txn = s.txn ∧ (s.rxLoopback p bs).clock = s.clock ∧ (s.rxLoopback p bs).time = s.time
      ∧ (s.rxLoopback p bs).inputs = s.inputs ∧ (s.rxLoopback p bs).meter = s.meter ∧ (s.rxLoopback p bs).fns = s.fns
      ∧ (s.rxLoopback p bs).ecc = s.ecc ∧ (s.rxLoopback p bs).queues = s.queues ∧ (s.rxLoopback p bs).update = s.update
      ∧ (s.rxLoopback p bs).secure = s.secure ∧ (s.rxLoopback p bs).power = s.power ∧ (s.rxLoopback p bs).mem = s.mem
      ∧ (s.rxLoopback p bs).out = s.out ∧ (s.rxLoopback p bs).pending = s.pending := by simp [State.rxLoopback]
@[simp] theorem State.lineErrors_frame (s : State) (p : Nat) (f : RxFrame) : (s.lineErrors p f).host = s.host
      ∧ (s.lineErrors p f).txn = s.txn ∧ (s.lineErrors p f).clock = s.clock ∧ (s.lineErrors p f).time = s.time
      ∧ (s.lineErrors p f).render = s.render ∧ (s.lineErrors p f).inputs = s.inputs ∧ (s.lineErrors p f).meter = s.meter
      ∧ (s.lineErrors p f).fns = s.fns ∧ (s.lineErrors p f).ecc = s.ecc ∧ (s.lineErrors p f).queues = s.queues
      ∧ (s.lineErrors p f).group = s.group ∧ (s.lineErrors p f).update = s.update ∧ (s.lineErrors p f).secure = s.secure
      ∧ (s.lineErrors p f).power = s.power ∧ (s.lineErrors p f).mem = s.mem ∧ (s.lineErrors p f).freeCtr = s.freeCtr
      ∧ (s.lineErrors p f).out = s.out ∧ (s.lineErrors p f).pending = s.pending := by
  unfold State.lineErrors
  try simp
  all_goals ((repeat' split) <;> try simp_all)
@[simp] theorem State.pauseExpiry_frame (s : State) (p : Nat) : (s.pauseExpiry p).host = s.host ∧ (s.pauseExpiry p).txn = s.txn
      ∧ (s.pauseExpiry p).clock = s.clock ∧ (s.pauseExpiry p).time = s.time ∧ (s.pauseExpiry p).icu = s.icu
      ∧ (s.pauseExpiry p).render = s.render ∧ (s.pauseExpiry p).inputs = s.inputs ∧ (s.pauseExpiry p).meter = s.meter
      ∧ (s.pauseExpiry p).fns = s.fns ∧ (s.pauseExpiry p).ecc = s.ecc ∧ (s.pauseExpiry p).queues = s.queues
      ∧ (s.pauseExpiry p).group = s.group ∧ (s.pauseExpiry p).update = s.update ∧ (s.pauseExpiry p).secure = s.secure
      ∧ (s.pauseExpiry p).power = s.power ∧ (s.pauseExpiry p).mem = s.mem ∧ (s.pauseExpiry p).freeCtr = s.freeCtr
      ∧ (s.pauseExpiry p).out = s.out ∧ (s.pauseExpiry p).pending = s.pending := by simp [State.pauseExpiry]
@[simp] theorem State.putOnWire_frame (s : State) (p : Nat) (bad : Bool) (bs : Bytes) : (s.putOnWire p bad bs).host = s.host
      ∧ (s.putOnWire p bad bs).txn = s.txn ∧ (s.putOnWire p bad bs).clock = s.clock ∧ (s.putOnWire p bad bs).time = s.time
      ∧ (s.putOnWire p bad bs).render = s.render ∧ (s.putOnWire p bad bs).inputs = s.inputs ∧ (s.putOnWire p bad bs).meter = s.meter
      ∧ (s.putOnWire p bad bs).fns = s.fns ∧ (s.putOnWire p bad bs).ecc = s.ecc ∧ (s.putOnWire p bad bs).queues = s.queues
      ∧ (s.putOnWire p bad bs).group = s.group ∧ (s.putOnWire p bad bs).update = s.update ∧ (s.putOnWire p bad bs).secure = s.secure
      ∧ (s.putOnWire p bad bs).power = s.power ∧ (s.putOnWire p bad bs).mem = s.mem ∧ (s.putOnWire p bad bs).freeCtr = s.freeCtr
      ∧ (s.putOnWire p bad bs).pending = s.pending := by simp [State.putOnWire]
@[simp] theorem State.protectOut_frame (s : State) (p : Nat) (want : Bool) (bs : Bytes) : (s.protectOut p want bs).1.host = s.host
      ∧ (s.protectOut p want bs).1.txn = s.txn ∧ (s.protectOut p want bs).1.clock = s.clock ∧ (s.protectOut p want bs).1.time = s.time
      ∧ (s.protectOut p want bs).1.render = s.render ∧ (s.protectOut p want bs).1.inputs = s.inputs
      ∧ (s.protectOut p want bs).1.meter = s.meter ∧ (s.protectOut p want bs).1.fns = s.fns ∧ (s.protectOut p want bs).1.ecc = s.ecc
      ∧ (s.protectOut p want bs).1.queues = s.queues ∧ (s.protectOut p want bs).1.group = s.group
      ∧ (s.protectOut p want bs).1.update = s.update ∧ (s.protectOut p want bs).1.secure = s.secure
      ∧ (s.protectOut p want bs).1.power = s.power ∧ (s.protectOut p want bs).1.mem = s.mem
      ∧ (s.protectOut p want bs).1.freeCtr = s.freeCtr ∧ (s.protectOut p want bs).1.out = s.out
      ∧ (s.protectOut p want bs).1.pending = s.pending := by simp [State.protectOut]
@[simp] theorem State.noteLate_frame (s : State) (p : Nat) (f : TxFrame) : (s.noteLate p f).host = s.host ∧ (s.noteLate p f).txn = s.txn
      ∧ (s.noteLate p f).clock = s.clock ∧ (s.noteLate p f).time = s.time ∧ (s.noteLate p f).render = s.render
      ∧ (s.noteLate p f).inputs = s.inputs ∧ (s.noteLate p f).meter = s.meter ∧ (s.noteLate p f).fns = s.fns
      ∧ (s.noteLate p f).ecc = s.ecc ∧ (s.noteLate p f).queues = s.queues ∧ (s.noteLate p f).group = s.group
      ∧ (s.noteLate p f).update = s.update ∧ (s.noteLate p f).secure = s.secure ∧ (s.noteLate p f).power = s.power
      ∧ (s.noteLate p f).mem = s.mem ∧ (s.noteLate p f).freeCtr = s.freeCtr ∧ (s.noteLate p f).pending = s.pending := by simp [State.noteLate]
@[simp] theorem State.noteSyncLeft_frame (s : State) (p : Nat) (f : TxFrame) : (s.noteSyncLeft p f).host = s.host
      ∧ (s.noteSyncLeft p f).txn = s.txn ∧ (s.noteSyncLeft p f).clock = s.clock ∧ (s.noteSyncLeft p f).time = s.time
      ∧ (s.noteSyncLeft p f).icu = s.icu ∧ (s.noteSyncLeft p f).inputs = s.inputs ∧ (s.noteSyncLeft p f).meter = s.meter
      ∧ (s.noteSyncLeft p f).ports = s.ports ∧ (s.noteSyncLeft p f).net = s.net ∧ (s.noteSyncLeft p f).fns = s.fns
      ∧ (s.noteSyncLeft p f).ecc = s.ecc ∧ (s.noteSyncLeft p f).queues = s.queues ∧ (s.noteSyncLeft p f).group = s.group
      ∧ (s.noteSyncLeft p f).update = s.update ∧ (s.noteSyncLeft p f).secure = s.secure ∧ (s.noteSyncLeft p f).power = s.power
      ∧ (s.noteSyncLeft p f).mem = s.mem ∧ (s.noteSyncLeft p f).freeCtr = s.freeCtr ∧ (s.noteSyncLeft p f).out = s.out
      ∧ (s.noteSyncLeft p f).pending = s.pending := by
  unfold State.noteSyncLeft
  try simp
  all_goals ((repeat' split) <;> try simp_all)
@[simp] theorem State.sendOwn_frame (s : State) (p : Nat) (f : TxFrame) : (s.sendOwn p f).host = s.host ∧ (s.sendOwn p f).txn = s.txn
      ∧ (s.sendOwn p f).clock = s.clock ∧ (s.sendOwn p f).time = s.time ∧ (s.sendOwn p f).inputs = s.inputs
      ∧ (s.sendOwn p f).meter = s.meter ∧ (s.sendOwn p f).fns = s.fns ∧ (s.sendOwn p f).ecc = s.ecc ∧ (s.sendOwn p f).queues = s.queues
      ∧ (s.sendOwn p f).group = s.group ∧ (s.sendOwn p f).update = s.update ∧ (s.sendOwn p f).secure = s.secure
      ∧ (s.sendOwn p f).power = s.power ∧ (s.sendOwn p f).mem = s.mem ∧ (s.sendOwn p f).freeCtr = s.freeCtr
      ∧ (s.sendOwn p f).pending = s.pending := by
  unfold State.sendOwn
  try simp
  all_goals ((repeat' split) <;> try simp_all)
@[simp] theorem State.endChain_frame (s : State) (h code : Nat) (c : List BulkDesc) : (s.endChain h code c).txn = s.txn
      ∧ (s.endChain h code c).clock = s.clock ∧ (s.endChain h code c).time = s.time ∧ (s.endChain h code c).inputs = s.inputs
      ∧ (s.endChain h code c).meter = s.meter ∧ (s.endChain h code c).ports = s.ports ∧ (s.endChain h code c).net = s.net
      ∧ (s.endChain h code c).fns = s.fns ∧ (s.endChain h code c).ecc = s.ecc ∧ (s.endChain h code c).queues = s.queues
      ∧ (s.endChain h code c).group = s.group ∧ (s.endChain h code c).update = s.update ∧ (s.endChain h code c).secure = s.secure
      ∧ (s.endChain h code c).power = s.power ∧ (s.endChain h code c).mem = s.mem ∧ (s.endChain h code c).pending = s.pending := by
  unfold State.endChain
  try simp
  all_goals ((repeat' split) <;> try simp_all)
@[simp] theorem State.badChain_frame (s : State) (p h : Nat) (c : List BulkDesc) : (s.badChain p h c).txn = s.txn
      ∧ (s.badChain p h c).clock = s.clock ∧ (s.badChain p h c).time = s.time ∧ (s.badChain p h c).inputs = s.inputs
      ∧ (s.badChain p h c).meter = s.meter ∧ (s.badChain p h c).fns = s.fns ∧ (s.badChain p h c).ecc = s.ecc
      ∧ (s.badChain p h c).queues = s.queues ∧ (s.badChain p h c).group = s.group ∧ (s.badChain p h c).update = s.update
      ∧ (s.badChain p h c).secure = s.secure ∧ (s.badChain p h c).power = s.power ∧ (s.badChain p h c).mem = s.mem
      ∧ (s.badChain p h c).pending = s.pending := by
  unfold State.badChain
  try simp
  all_goals ((repeat' split) <;> try simp_all)
@[simp] theorem State.sendChain_frame (s : State) (p k : Nat) (c : List BulkDesc) (data : Bytes) (stampsHeld : Nat) :
    (s.sendChain p k c data stampsHeld).txn = s.txn ∧ (s.sendChain p k c data stampsHeld).clock = s.clock
      ∧ (s.sendChain p k c data stampsHeld).time = s.time ∧ (s.sendChain p k c data stampsHeld).inputs = s.inputs
      ∧ (s.sendChain p k c data stampsHeld).meter = s.meter ∧ (s.sendChain p k c data stampsHeld).fns = s.fns
      ∧ (s.sendChain p k c data stampsHeld).ecc = s.ecc ∧ (s.sendChain p k c data stampsHeld).group = s.group
      ∧ (s.sendChain p k c data stampsHeld).update = s.update ∧ (s.sendChain p k c data stampsHeld).secure = s.secure
      ∧ (s.sendChain p k c data stampsHeld).power = s.power ∧ (s.sendChain p k c data stampsHeld).mem = s.mem
      ∧ (s.sendChain p k c data stampsHeld).pending = s.pending := by
  unfold State.sendChain
  try simp
  all_goals ((repeat' split) <;> try simp_all)
@[simp] theorem State.sendHost_frame (s : State) (p : Nat) (data : Bytes) (hostErr : Bool) (stampsHeld : Nat) :
    (s.sendHost p data hostErr stampsHeld).txn = s.txn ∧ (s.sendHost p data hostErr stampsHeld).clock = s.clock
      ∧ (s.sendHost p data hostErr stampsHeld).time = s.time ∧ (s.sendHost p data hostErr stampsHeld).inputs = s.inputs
      ∧ (s.sendHost p data hostErr stampsHeld).meter = s.meter ∧ (s.sendHost p data hostErr stampsHeld).fns = s.fns
      ∧ (s.sendHost p data hostErr stampsHeld).ecc = s.ecc ∧ (s.sendHost p data hostErr stampsHeld).group = s.group
      ∧ (s.sendHost p data hostErr stampsHeld).update = s.update ∧ (s.sendHost p data hostErr stampsHeld).secure = s.secure
      ∧ (s.sendHost p data hostErr stampsHeld).power = s.power ∧ (s.sendHost p data hostErr stampsHeld).mem = s.mem
      ∧ (s.sendHost p data hostErr stampsHeld).pending = s.pending := by
  unfold State.sendHost
  try simp
  all_goals ((repeat' split) <;> try simp_all)
@[simp] theorem State.auditMacsec_frame (s : State) (c : Ctx) (detail : Bytes) : (s.auditMacsec c detail).host = s.host
      ∧ (s.auditMacsec c detail).txn = s.txn ∧ (s.auditMacsec c detail).clock = s.clock ∧ (s.auditMacsec c detail).time = s.time
      ∧ (s.auditMacsec c detail).render = s.render ∧ (s.auditMacsec c detail).inputs = s.inputs
      ∧ (s.auditMacsec c detail).meter = s.meter ∧ (s.auditMacsec c detail).ports = s.ports ∧ (s.auditMacsec c detail).net = s.net
      ∧ (s.auditMacsec c detail).fns = s.fns ∧ (s.auditMacsec c detail).ecc = s.ecc ∧ (s.auditMacsec c detail).queues = s.queues
      ∧ (s.auditMacsec c detail).group = s.group ∧ (s.auditMacsec c detail).update = s.update ∧ (s.auditMacsec c detail).power = s.power
      ∧ (s.auditMacsec c detail).mem = s.mem ∧ (s.auditMacsec c detail).freeCtr = s.freeCtr ∧ (s.auditMacsec c detail).out = s.out
      ∧ (s.auditMacsec c detail).pending = s.pending := by simp [State.auditMacsec]
@[simp] theorem State.joinActivation_frame (s : State) (m : Nat) (digest : Bytes) : (s.joinActivation m digest).host = s.host
      ∧ (s.joinActivation m digest).txn = s.txn ∧ (s.joinActivation m digest).clock = s.clock
      ∧ (s.joinActivation m digest).time = s.time ∧ (s.joinActivation m digest).icu = s.icu
      ∧ (s.joinActivation m digest).render = s.render ∧ (s.joinActivation m digest).inputs = s.inputs
      ∧ (s.joinActivation m digest).meter = s.meter ∧ (s.joinActivation m digest).ports = s.ports
      ∧ (s.joinActivation m digest).net = s.net ∧ (s.joinActivation m digest).fns = s.fns ∧ (s.joinActivation m digest).ecc = s.ecc
      ∧ (s.joinActivation m digest).queues = s.queues ∧ (s.joinActivation m digest).secure = s.secure
      ∧ (s.joinActivation m digest).power = s.power ∧ (s.joinActivation m digest).mem = s.mem
      ∧ (s.joinActivation m digest).freeCtr = s.freeCtr ∧ (s.joinActivation m digest).pending = s.pending := by simp [State.joinActivation]
@[simp] theorem State.takeActivate_frame (s : State) (src m scope : Nat) (digest : Bytes) :
    (s.takeActivate src m scope digest).host = s.host ∧ (s.takeActivate src m scope digest).txn = s.txn
      ∧ (s.takeActivate src m scope digest).clock = s.clock ∧ (s.takeActivate src m scope digest).time = s.time
      ∧ (s.takeActivate src m scope digest).icu = s.icu ∧ (s.takeActivate src m scope digest).render = s.render
      ∧ (s.takeActivate src m scope digest).inputs = s.inputs ∧ (s.takeActivate src m scope digest).meter = s.meter
      ∧ (s.takeActivate src m scope digest).ports = s.ports ∧ (s.takeActivate src m scope digest).net = s.net
      ∧ (s.takeActivate src m scope digest).fns = s.fns ∧ (s.takeActivate src m scope digest).ecc = s.ecc
      ∧ (s.takeActivate src m scope digest).queues = s.queues ∧ (s.takeActivate src m scope digest).secure = s.secure
      ∧ (s.takeActivate src m scope digest).power = s.power ∧ (s.takeActivate src m scope digest).mem = s.mem
      ∧ (s.takeActivate src m scope digest).freeCtr = s.freeCtr ∧ (s.takeActivate src m scope digest).pending = s.pending := by simp [State.takeActivate]
@[simp] theorem State.takeActPrepared_frame (s : State) (who : Nat) (digest : Bytes) : (s.takeActPrepared who digest).host = s.host
      ∧ (s.takeActPrepared who digest).txn = s.txn ∧ (s.takeActPrepared who digest).clock = s.clock
      ∧ (s.takeActPrepared who digest).time = s.time ∧ (s.takeActPrepared who digest).icu = s.icu
      ∧ (s.takeActPrepared who digest).render = s.render ∧ (s.takeActPrepared who digest).inputs = s.inputs
      ∧ (s.takeActPrepared who digest).meter = s.meter ∧ (s.takeActPrepared who digest).ports = s.ports
      ∧ (s.takeActPrepared who digest).net = s.net ∧ (s.takeActPrepared who digest).fns = s.fns
      ∧ (s.takeActPrepared who digest).ecc = s.ecc ∧ (s.takeActPrepared who digest).queues = s.queues
      ∧ (s.takeActPrepared who digest).group = s.group ∧ (s.takeActPrepared who digest).secure = s.secure
      ∧ (s.takeActPrepared who digest).power = s.power ∧ (s.takeActPrepared who digest).mem = s.mem
      ∧ (s.takeActPrepared who digest).freeCtr = s.freeCtr ∧ (s.takeActPrepared who digest).out = s.out
      ∧ (s.takeActPrepared who digest).pending = s.pending := by
  unfold State.takeActPrepared
  (repeat' split) <;> simp
@[simp] theorem State.foreignDone_frame (s : State) (who : Nat) : (s.foreignDone who).host = s.host ∧ (s.foreignDone who).txn = s.txn
      ∧ (s.foreignDone who).clock = s.clock ∧ (s.foreignDone who).time = s.time ∧ (s.foreignDone who).icu = s.icu
      ∧ (s.foreignDone who).render = s.render ∧ (s.foreignDone who).inputs = s.inputs ∧ (s.foreignDone who).meter = s.meter
      ∧ (s.foreignDone who).ports = s.ports ∧ (s.foreignDone who).net = s.net ∧ (s.foreignDone who).fns = s.fns
      ∧ (s.foreignDone who).ecc = s.ecc ∧ (s.foreignDone who).queues = s.queues ∧ (s.foreignDone who).group = s.group
      ∧ (s.foreignDone who).secure = s.secure ∧ (s.foreignDone who).power = s.power ∧ (s.foreignDone who).mem = s.mem
      ∧ (s.foreignDone who).freeCtr = s.freeCtr ∧ (s.foreignDone who).out = s.out ∧ (s.foreignDone who).pending = s.pending := by simp [State.foreignDone]
@[simp] theorem State.endActivate_frame (s : State) (a : Activation) (st : Status) : (s.endActivate a st).txn = s.txn
      ∧ (s.endActivate a st).clock = s.clock ∧ (s.endActivate a st).time = s.time ∧ (s.endActivate a st).render = s.render
      ∧ (s.endActivate a st).inputs = s.inputs ∧ (s.endActivate a st).meter = s.meter ∧ (s.endActivate a st).ports = s.ports
      ∧ (s.endActivate a st).net = s.net ∧ (s.endActivate a st).fns = s.fns ∧ (s.endActivate a st).ecc = s.ecc
      ∧ (s.endActivate a st).queues = s.queues ∧ (s.endActivate a st).group = s.group ∧ (s.endActivate a st).update = s.update
      ∧ (s.endActivate a st).secure = s.secure ∧ (s.endActivate a st).power = s.power ∧ (s.endActivate a st).mem = s.mem
      ∧ (s.endActivate a st).freeCtr = s.freeCtr ∧ (s.endActivate a st).pending = s.pending := by simp [State.endActivate]
@[simp] theorem State.auditDecision_frame (s : State) (a : Activation) (st : Status) : (s.auditDecision a st).host = s.host
      ∧ (s.auditDecision a st).txn = s.txn ∧ (s.auditDecision a st).clock = s.clock ∧ (s.auditDecision a st).time = s.time
      ∧ (s.auditDecision a st).render = s.render ∧ (s.auditDecision a st).inputs = s.inputs ∧ (s.auditDecision a st).meter = s.meter
      ∧ (s.auditDecision a st).ports = s.ports ∧ (s.auditDecision a st).net = s.net ∧ (s.auditDecision a st).fns = s.fns
      ∧ (s.auditDecision a st).ecc = s.ecc ∧ (s.auditDecision a st).queues = s.queues ∧ (s.auditDecision a st).group = s.group
      ∧ (s.auditDecision a st).update = s.update ∧ (s.auditDecision a st).power = s.power ∧ (s.auditDecision a st).mem = s.mem
      ∧ (s.auditDecision a st).freeCtr = s.freeCtr ∧ (s.auditDecision a st).out = s.out ∧ (s.auditDecision a st).pending = s.pending := by
  unfold State.auditDecision
  try simp
  all_goals ((repeat' split) <;> try simp_all)
@[simp] theorem State.activationGo_frame (s : State) (a : Activation) : (s.activationGo a).txn = s.txn
      ∧ (s.activationGo a).clock = s.clock ∧ (s.activationGo a).time = s.time ∧ (s.activationGo a).render = s.render
      ∧ (s.activationGo a).inputs = s.inputs ∧ (s.activationGo a).meter = s.meter ∧ (s.activationGo a).ports = s.ports
      ∧ (s.activationGo a).net = s.net ∧ (s.activationGo a).fns = s.fns ∧ (s.activationGo a).ecc = s.ecc
      ∧ (s.activationGo a).queues = s.queues ∧ (s.activationGo a).group = s.group ∧ (s.activationGo a).power = s.power
      ∧ (s.activationGo a).mem = s.mem ∧ (s.activationGo a).freeCtr = s.freeCtr ∧ (s.activationGo a).pending = s.pending := by
  unfold State.activationGo
  try simp
  all_goals ((repeat' split) <;> try simp_all)
@[simp] theorem State.activationDrop_frame (s : State) (a : Activation) (st : Status) : (s.activationDrop a st).txn = s.txn
      ∧ (s.activationDrop a st).clock = s.clock ∧ (s.activationDrop a st).time = s.time ∧ (s.activationDrop a st).render = s.render
      ∧ (s.activationDrop a st).inputs = s.inputs ∧ (s.activationDrop a st).meter = s.meter ∧ (s.activationDrop a st).ports = s.ports
      ∧ (s.activationDrop a st).net = s.net ∧ (s.activationDrop a st).fns = s.fns ∧ (s.activationDrop a st).ecc = s.ecc
      ∧ (s.activationDrop a st).queues = s.queues ∧ (s.activationDrop a st).group = s.group ∧ (s.activationDrop a st).power = s.power
      ∧ (s.activationDrop a st).mem = s.mem ∧ (s.activationDrop a st).freeCtr = s.freeCtr ∧ (s.activationDrop a st).pending = s.pending := by
  unfold State.activationDrop
  try simp
  all_goals ((repeat' split) <;> try simp_all)
@[simp] theorem State.activationDecision_frame (s : State) : (s.activationDecision).txn = s.txn ∧ (s.activationDecision).clock = s.clock
      ∧ (s.activationDecision).time = s.time ∧ (s.activationDecision).render = s.render ∧ (s.activationDecision).inputs = s.inputs
      ∧ (s.activationDecision).meter = s.meter ∧ (s.activationDecision).ports = s.ports ∧ (s.activationDecision).net = s.net
      ∧ (s.activationDecision).fns = s.fns ∧ (s.activationDecision).ecc = s.ecc ∧ (s.activationDecision).queues = s.queues
      ∧ (s.activationDecision).power = s.power ∧ (s.activationDecision).mem = s.mem ∧ (s.activationDecision).freeCtr = s.freeCtr
      ∧ (s.activationDecision).pending = s.pending := by
  unfold State.activationDecision
  try simp
  all_goals ((repeat' split) <;> try simp_all)
@[simp] theorem State.takeActDecide_frame (s : State) (go differs : Bool) : (s.takeActDecide go differs).txn = s.txn
      ∧ (s.takeActDecide go differs).clock = s.clock ∧ (s.takeActDecide go differs).time = s.time
      ∧ (s.takeActDecide go differs).render = s.render ∧ (s.takeActDecide go differs).inputs = s.inputs
      ∧ (s.takeActDecide go differs).meter = s.meter ∧ (s.takeActDecide go differs).ports = s.ports
      ∧ (s.takeActDecide go differs).net = s.net ∧ (s.takeActDecide go differs).fns = s.fns ∧ (s.takeActDecide go differs).ecc = s.ecc
      ∧ (s.takeActDecide go differs).queues = s.queues ∧ (s.takeActDecide go differs).group = s.group
      ∧ (s.takeActDecide go differs).power = s.power ∧ (s.takeActDecide go differs).mem = s.mem
      ∧ (s.takeActDecide go differs).freeCtr = s.freeCtr ∧ (s.takeActDecide go differs).pending = s.pending := by
  unfold State.takeActDecide
  try simp
  all_goals ((repeat' split) <;> try simp_all)
@[simp] theorem State.withdrawActivation_frame (s : State) (a : Activation) : (s.withdrawActivation a).txn = s.txn
      ∧ (s.withdrawActivation a).clock = s.clock ∧ (s.withdrawActivation a).time = s.time ∧ (s.withdrawActivation a).render = s.render
      ∧ (s.withdrawActivation a).inputs = s.inputs ∧ (s.withdrawActivation a).meter = s.meter ∧ (s.withdrawActivation a).ports = s.ports
      ∧ (s.withdrawActivation a).net = s.net ∧ (s.withdrawActivation a).fns = s.fns ∧ (s.withdrawActivation a).ecc = s.ecc
      ∧ (s.withdrawActivation a).queues = s.queues ∧ (s.withdrawActivation a).group = s.group ∧ (s.withdrawActivation a).power = s.power
      ∧ (s.withdrawActivation a).mem = s.mem ∧ (s.withdrawActivation a).freeCtr = s.freeCtr
      ∧ (s.withdrawActivation a).pending = s.pending := by
  unfold State.withdrawActivation
  try simp
  all_goals ((repeat' split) <;> try simp_all)
@[simp] theorem State.abortActivation_frame (s : State) (a : Activation) : (s.abortActivation a).txn = s.txn
      ∧ (s.abortActivation a).clock = s.clock ∧ (s.abortActivation a).time = s.time ∧ (s.abortActivation a).render = s.render
      ∧ (s.abortActivation a).inputs = s.inputs ∧ (s.abortActivation a).meter = s.meter ∧ (s.abortActivation a).ports = s.ports
      ∧ (s.abortActivation a).net = s.net ∧ (s.abortActivation a).fns = s.fns ∧ (s.abortActivation a).ecc = s.ecc
      ∧ (s.abortActivation a).queues = s.queues ∧ (s.abortActivation a).power = s.power ∧ (s.abortActivation a).mem = s.mem
      ∧ (s.abortActivation a).freeCtr = s.freeCtr ∧ (s.abortActivation a).pending = s.pending := by
  unfold State.abortActivation
  try simp
  all_goals ((repeat' split) <;> try simp_all)
@[simp] theorem State.takeActWithdrawn_frame (s : State) : (s.takeActWithdrawn).txn = s.txn ∧ (s.takeActWithdrawn).clock = s.clock
      ∧ (s.takeActWithdrawn).time = s.time ∧ (s.takeActWithdrawn).render = s.render ∧ (s.takeActWithdrawn).inputs = s.inputs
      ∧ (s.takeActWithdrawn).meter = s.meter ∧ (s.takeActWithdrawn).ports = s.ports ∧ (s.takeActWithdrawn).net = s.net
      ∧ (s.takeActWithdrawn).fns = s.fns ∧ (s.takeActWithdrawn).ecc = s.ecc ∧ (s.takeActWithdrawn).queues = s.queues
      ∧ (s.takeActWithdrawn).group = s.group ∧ (s.takeActWithdrawn).power = s.power ∧ (s.takeActWithdrawn).mem = s.mem
      ∧ (s.takeActWithdrawn).freeCtr = s.freeCtr ∧ (s.takeActWithdrawn).pending = s.pending := by
  unfold State.takeActWithdrawn
  try simp
  all_goals ((repeat' split) <;> try simp_all)
@[simp] theorem State.retrainSerdes_frame (s : State) (x : Serdes) : (s.retrainSerdes x).clock = s.clock
      ∧ (s.retrainSerdes x).time = s.time ∧ (s.retrainSerdes x).render = s.render ∧ (s.retrainSerdes x).inputs = s.inputs
      ∧ (s.retrainSerdes x).meter = s.meter ∧ (s.retrainSerdes x).fns = s.fns ∧ (s.retrainSerdes x).ecc = s.ecc
      ∧ (s.retrainSerdes x).group = s.group ∧ (s.retrainSerdes x).update = s.update ∧ (s.retrainSerdes x).power = s.power
      ∧ (s.retrainSerdes x).mem = s.mem ∧ (s.retrainSerdes x).freeCtr = s.freeCtr ∧ (s.retrainSerdes x).pending = s.pending := by
  unfold State.retrainSerdes
  try simp
  all_goals ((repeat' split) <;> try simp_all)
@[simp] theorem State.revertTo_frame (s : State) (a : Activation) (part : Nat) : (s.revertTo a part).host = s.host
      ∧ (s.revertTo a part).txn = s.txn ∧ (s.revertTo a part).clock = s.clock ∧ (s.revertTo a part).time = s.time
      ∧ (s.revertTo a part).icu = s.icu ∧ (s.revertTo a part).render = s.render ∧ (s.revertTo a part).inputs = s.inputs
      ∧ (s.revertTo a part).meter = s.meter ∧ (s.revertTo a part).ports = s.ports ∧ (s.revertTo a part).net = s.net
      ∧ (s.revertTo a part).fns = s.fns ∧ (s.revertTo a part).ecc = s.ecc ∧ (s.revertTo a part).queues = s.queues
      ∧ (s.revertTo a part).group = s.group ∧ (s.revertTo a part).secure = s.secure ∧ (s.revertTo a part).power = s.power
      ∧ (s.revertTo a part).mem = s.mem ∧ (s.revertTo a part).freeCtr = s.freeCtr ∧ (s.revertTo a part).out = s.out
      ∧ (s.revertTo a part).pending = s.pending := by
  unfold State.revertTo
  try simp
  all_goals ((repeat' split) <;> try simp_all)
@[simp] theorem State.advanceCounter_frame (s : State) : (s.advanceCounter).host = s.host ∧ (s.advanceCounter).txn = s.txn
      ∧ (s.advanceCounter).clock = s.clock ∧ (s.advanceCounter).time = s.time ∧ (s.advanceCounter).render = s.render
      ∧ (s.advanceCounter).inputs = s.inputs ∧ (s.advanceCounter).meter = s.meter ∧ (s.advanceCounter).ports = s.ports
      ∧ (s.advanceCounter).net = s.net ∧ (s.advanceCounter).fns = s.fns ∧ (s.advanceCounter).ecc = s.ecc
      ∧ (s.advanceCounter).queues = s.queues ∧ (s.advanceCounter).group = s.group ∧ (s.advanceCounter).power = s.power
      ∧ (s.advanceCounter).mem = s.mem ∧ (s.advanceCounter).freeCtr = s.freeCtr ∧ (s.advanceCounter).out = s.out
      ∧ (s.advanceCounter).pending = s.pending := by simp [State.advanceCounter]
@[simp] theorem State.takeCoordinator_frame (s : State) (who : Nat) : (s.takeCoordinator who).host = s.host
      ∧ (s.takeCoordinator who).txn = s.txn ∧ (s.takeCoordinator who).clock = s.clock ∧ (s.takeCoordinator who).time = s.time
      ∧ (s.takeCoordinator who).icu = s.icu ∧ (s.takeCoordinator who).render = s.render ∧ (s.takeCoordinator who).inputs = s.inputs
      ∧ (s.takeCoordinator who).meter = s.meter ∧ (s.takeCoordinator who).ports = s.ports ∧ (s.takeCoordinator who).net = s.net
      ∧ (s.takeCoordinator who).fns = s.fns ∧ (s.takeCoordinator who).ecc = s.ecc ∧ (s.takeCoordinator who).queues = s.queues
      ∧ (s.takeCoordinator who).update = s.update ∧ (s.takeCoordinator who).secure = s.secure ∧ (s.takeCoordinator who).power = s.power
      ∧ (s.takeCoordinator who).mem = s.mem ∧ (s.takeCoordinator who).freeCtr = s.freeCtr ∧ (s.takeCoordinator who).out = s.out
      ∧ (s.takeCoordinator who).pending = s.pending := by simp [State.takeCoordinator]
@[simp] theorem State.takeGrid_frame (s : State) (g : GridFrame) (phase : ClockPhase) : (s.takeGrid g phase).host = s.host
      ∧ (s.takeGrid g phase).txn = s.txn ∧ (s.takeGrid g phase).time = s.time ∧ (s.takeGrid g phase).icu = s.icu
      ∧ (s.takeGrid g phase).render = s.render ∧ (s.takeGrid g phase).inputs = s.inputs ∧ (s.takeGrid g phase).meter = s.meter
      ∧ (s.takeGrid g phase).ports = s.ports ∧ (s.takeGrid g phase).net = s.net ∧ (s.takeGrid g phase).fns = s.fns
      ∧ (s.takeGrid g phase).ecc = s.ecc ∧ (s.takeGrid g phase).queues = s.queues ∧ (s.takeGrid g phase).group = s.group
      ∧ (s.takeGrid g phase).update = s.update ∧ (s.takeGrid g phase).secure = s.secure ∧ (s.takeGrid g phase).power = s.power
      ∧ (s.takeGrid g phase).mem = s.mem ∧ (s.takeGrid g phase).freeCtr = s.freeCtr ∧ (s.takeGrid g phase).out = s.out
      ∧ (s.takeGrid g phase).pending = s.pending := by simp [State.takeGrid]
@[simp] theorem State.takeClockRequest_frame (s : State) (src : Nat) (p : Bytes) : (s.takeClockRequest src p).txn = s.txn
      ∧ (s.takeClockRequest src p).time = s.time ∧ (s.takeClockRequest src p).render = s.render
      ∧ (s.takeClockRequest src p).inputs = s.inputs ∧ (s.takeClockRequest src p).meter = s.meter
      ∧ (s.takeClockRequest src p).ports = s.ports ∧ (s.takeClockRequest src p).net = s.net ∧ (s.takeClockRequest src p).fns = s.fns
      ∧ (s.takeClockRequest src p).ecc = s.ecc ∧ (s.takeClockRequest src p).queues = s.queues
      ∧ (s.takeClockRequest src p).update = s.update ∧ (s.takeClockRequest src p).secure = s.secure
      ∧ (s.takeClockRequest src p).power = s.power ∧ (s.takeClockRequest src p).mem = s.mem
      ∧ (s.takeClockRequest src p).freeCtr = s.freeCtr ∧ (s.takeClockRequest src p).pending = s.pending := by simp [State.takeClockRequest]
@[simp] theorem State.clockRefused_frame (s : State) : (s.clockRefused).txn = s.txn ∧ (s.clockRefused).clock = s.clock
      ∧ (s.clockRefused).time = s.time ∧ (s.clockRefused).render = s.render ∧ (s.clockRefused).inputs = s.inputs
      ∧ (s.clockRefused).meter = s.meter ∧ (s.clockRefused).ports = s.ports ∧ (s.clockRefused).net = s.net
      ∧ (s.clockRefused).fns = s.fns ∧ (s.clockRefused).ecc = s.ecc ∧ (s.clockRefused).queues = s.queues
      ∧ (s.clockRefused).group = s.group ∧ (s.clockRefused).update = s.update ∧ (s.clockRefused).secure = s.secure
      ∧ (s.clockRefused).power = s.power ∧ (s.clockRefused).mem = s.mem ∧ (s.clockRefused).freeCtr = s.freeCtr
      ∧ (s.clockRefused).pending = s.pending := by simp [State.clockRefused]
@[simp] theorem State.takeClockWithdrawn_frame (s : State) : (s.takeClockWithdrawn).txn = s.txn ∧ (s.takeClockWithdrawn).time = s.time
      ∧ (s.takeClockWithdrawn).render = s.render ∧ (s.takeClockWithdrawn).inputs = s.inputs ∧ (s.takeClockWithdrawn).meter = s.meter
      ∧ (s.takeClockWithdrawn).ports = s.ports ∧ (s.takeClockWithdrawn).net = s.net ∧ (s.takeClockWithdrawn).fns = s.fns
      ∧ (s.takeClockWithdrawn).ecc = s.ecc ∧ (s.takeClockWithdrawn).queues = s.queues ∧ (s.takeClockWithdrawn).update = s.update
      ∧ (s.takeClockWithdrawn).secure = s.secure ∧ (s.takeClockWithdrawn).power = s.power ∧ (s.takeClockWithdrawn).mem = s.mem
      ∧ (s.takeClockWithdrawn).freeCtr = s.freeCtr ∧ (s.takeClockWithdrawn).pending = s.pending := by simp [State.takeClockWithdrawn]
@[simp] theorem State.refuseFrame_frame (s : State) (l : Nat) : (s.refuseFrame l).host = s.host ∧ (s.refuseFrame l).txn = s.txn
      ∧ (s.refuseFrame l).clock = s.clock ∧ (s.refuseFrame l).time = s.time ∧ (s.refuseFrame l).icu = s.icu
      ∧ (s.refuseFrame l).render = s.render ∧ (s.refuseFrame l).inputs = s.inputs ∧ (s.refuseFrame l).meter = s.meter
      ∧ (s.refuseFrame l).ports = s.ports ∧ (s.refuseFrame l).net = s.net ∧ (s.refuseFrame l).fns = s.fns
      ∧ (s.refuseFrame l).ecc = s.ecc ∧ (s.refuseFrame l).queues = s.queues ∧ (s.refuseFrame l).update = s.update
      ∧ (s.refuseFrame l).secure = s.secure ∧ (s.refuseFrame l).power = s.power ∧ (s.refuseFrame l).mem = s.mem
      ∧ (s.refuseFrame l).freeCtr = s.freeCtr ∧ (s.refuseFrame l).pending = s.pending := by simp [State.refuseFrame]
@[simp] theorem State.takeAck_frame (s : State) (l ack : Nat) (credit : List Nat) : (s.takeAck l ack credit).host = s.host
      ∧ (s.takeAck l ack credit).txn = s.txn ∧ (s.takeAck l ack credit).clock = s.clock ∧ (s.takeAck l ack credit).time = s.time
      ∧ (s.takeAck l ack credit).icu = s.icu ∧ (s.takeAck l ack credit).render = s.render ∧ (s.takeAck l ack credit).inputs = s.inputs
      ∧ (s.takeAck l ack credit).meter = s.meter ∧ (s.takeAck l ack credit).ports = s.ports ∧ (s.takeAck l ack credit).net = s.net
      ∧ (s.takeAck l ack credit).fns = s.fns ∧ (s.takeAck l ack credit).ecc = s.ecc ∧ (s.takeAck l ack credit).queues = s.queues
      ∧ (s.takeAck l ack credit).update = s.update ∧ (s.takeAck l ack credit).secure = s.secure
      ∧ (s.takeAck l ack credit).power = s.power ∧ (s.takeAck l ack credit).mem = s.mem ∧ (s.takeAck l ack credit).freeCtr = s.freeCtr
      ∧ (s.takeAck l ack credit).pending = s.pending := by simp [State.takeAck]
@[simp] theorem State.sendAck_frame (s : State) (l : Nat) : (s.sendAck l).host = s.host ∧ (s.sendAck l).txn = s.txn
      ∧ (s.sendAck l).clock = s.clock ∧ (s.sendAck l).time = s.time ∧ (s.sendAck l).icu = s.icu ∧ (s.sendAck l).render = s.render
      ∧ (s.sendAck l).inputs = s.inputs ∧ (s.sendAck l).meter = s.meter ∧ (s.sendAck l).ports = s.ports ∧ (s.sendAck l).net = s.net
      ∧ (s.sendAck l).fns = s.fns ∧ (s.sendAck l).ecc = s.ecc ∧ (s.sendAck l).queues = s.queues ∧ (s.sendAck l).update = s.update
      ∧ (s.sendAck l).secure = s.secure ∧ (s.sendAck l).power = s.power ∧ (s.sendAck l).mem = s.mem ∧ (s.sendAck l).freeCtr = s.freeCtr
      ∧ (s.sendAck l).pending = s.pending := by simp [State.sendAck]
@[simp] theorem State.zlkTimeRx_frame (s : State) (l seq ack : Nat) (crcOk : Bool) (credit : List Nat) (tx : Instant) (rx : Option Instant) :
    (s.zlkTimeRx l seq ack crcOk credit tx rx).host = s.host ∧ (s.zlkTimeRx l seq ack crcOk credit tx rx).txn = s.txn
      ∧ (s.zlkTimeRx l seq ack crcOk credit tx rx).clock = s.clock ∧ (s.zlkTimeRx l seq ack crcOk credit tx rx).render = s.render
      ∧ (s.zlkTimeRx l seq ack crcOk credit tx rx).inputs = s.inputs ∧ (s.zlkTimeRx l seq ack crcOk credit tx rx).meter = s.meter
      ∧ (s.zlkTimeRx l seq ack crcOk credit tx rx).ports = s.ports ∧ (s.zlkTimeRx l seq ack crcOk credit tx rx).net = s.net
      ∧ (s.zlkTimeRx l seq ack crcOk credit tx rx).fns = s.fns ∧ (s.zlkTimeRx l seq ack crcOk credit tx rx).ecc = s.ecc
      ∧ (s.zlkTimeRx l seq ack crcOk credit tx rx).queues = s.queues ∧ (s.zlkTimeRx l seq ack crcOk credit tx rx).update = s.update
      ∧ (s.zlkTimeRx l seq ack crcOk credit tx rx).secure = s.secure ∧ (s.zlkTimeRx l seq ack crcOk credit tx rx).power = s.power
      ∧ (s.zlkTimeRx l seq ack crcOk credit tx rx).mem = s.mem ∧ (s.zlkTimeRx l seq ack crcOk credit tx rx).freeCtr = s.freeCtr
      ∧ (s.zlkTimeRx l seq ack crcOk credit tx rx).pending = s.pending := by
  unfold State.zlkTimeRx
  try simp
  all_goals ((repeat' split) <;> try simp)
@[simp] theorem State.zlkAckRx_frame (s : State) (l ack : Nat) (credit : List Nat) : (s.zlkAckRx l ack credit).host = s.host
      ∧ (s.zlkAckRx l ack credit).txn = s.txn ∧ (s.zlkAckRx l ack credit).clock = s.clock ∧ (s.zlkAckRx l ack credit).time = s.time
      ∧ (s.zlkAckRx l ack credit).icu = s.icu ∧ (s.zlkAckRx l ack credit).render = s.render
      ∧ (s.zlkAckRx l ack credit).inputs = s.inputs ∧ (s.zlkAckRx l ack credit).meter = s.meter
      ∧ (s.zlkAckRx l ack credit).ports = s.ports ∧ (s.zlkAckRx l ack credit).net = s.net ∧ (s.zlkAckRx l ack credit).fns = s.fns
      ∧ (s.zlkAckRx l ack credit).ecc = s.ecc ∧ (s.zlkAckRx l ack credit).queues = s.queues
      ∧ (s.zlkAckRx l ack credit).update = s.update ∧ (s.zlkAckRx l ack credit).secure = s.secure
      ∧ (s.zlkAckRx l ack credit).power = s.power ∧ (s.zlkAckRx l ack credit).mem = s.mem
      ∧ (s.zlkAckRx l ack credit).freeCtr = s.freeCtr ∧ (s.zlkAckRx l ack credit).pending = s.pending := by simp [State.zlkAckRx]
@[simp] theorem State.zlkNakRx_frame (s : State) (l ack : Nat) (credit : List Nat) : (s.zlkNakRx l ack credit).host = s.host
      ∧ (s.zlkNakRx l ack credit).txn = s.txn ∧ (s.zlkNakRx l ack credit).clock = s.clock ∧ (s.zlkNakRx l ack credit).time = s.time
      ∧ (s.zlkNakRx l ack credit).render = s.render ∧ (s.zlkNakRx l ack credit).inputs = s.inputs
      ∧ (s.zlkNakRx l ack credit).meter = s.meter ∧ (s.zlkNakRx l ack credit).ports = s.ports ∧ (s.zlkNakRx l ack credit).net = s.net
      ∧ (s.zlkNakRx l ack credit).fns = s.fns ∧ (s.zlkNakRx l ack credit).ecc = s.ecc ∧ (s.zlkNakRx l ack credit).queues = s.queues
      ∧ (s.zlkNakRx l ack credit).update = s.update ∧ (s.zlkNakRx l ack credit).secure = s.secure
      ∧ (s.zlkNakRx l ack credit).power = s.power ∧ (s.zlkNakRx l ack credit).mem = s.mem
      ∧ (s.zlkNakRx l ack credit).freeCtr = s.freeCtr ∧ (s.zlkNakRx l ack credit).pending = s.pending := by simp [State.zlkNakRx]
@[simp] theorem State.zlkRetryTimeout_frame (s : State) (l : Nat) : (s.zlkRetryTimeout l).host = s.host
      ∧ (s.zlkRetryTimeout l).txn = s.txn ∧ (s.zlkRetryTimeout l).clock = s.clock ∧ (s.zlkRetryTimeout l).time = s.time
      ∧ (s.zlkRetryTimeout l).render = s.render ∧ (s.zlkRetryTimeout l).inputs = s.inputs ∧ (s.zlkRetryTimeout l).meter = s.meter
      ∧ (s.zlkRetryTimeout l).ports = s.ports ∧ (s.zlkRetryTimeout l).net = s.net ∧ (s.zlkRetryTimeout l).fns = s.fns
      ∧ (s.zlkRetryTimeout l).ecc = s.ecc ∧ (s.zlkRetryTimeout l).queues = s.queues ∧ (s.zlkRetryTimeout l).update = s.update
      ∧ (s.zlkRetryTimeout l).secure = s.secure ∧ (s.zlkRetryTimeout l).power = s.power ∧ (s.zlkRetryTimeout l).mem = s.mem
      ∧ (s.zlkRetryTimeout l).freeCtr = s.freeCtr ∧ (s.zlkRetryTimeout l).pending = s.pending := by simp [State.zlkRetryTimeout]
@[simp] theorem State.zlkBlockLock_frame (s : State) (l : Nat) : (s.zlkBlockLock l).host = s.host ∧ (s.zlkBlockLock l).txn = s.txn
      ∧ (s.zlkBlockLock l).clock = s.clock ∧ (s.zlkBlockLock l).time = s.time ∧ (s.zlkBlockLock l).icu = s.icu
      ∧ (s.zlkBlockLock l).render = s.render ∧ (s.zlkBlockLock l).inputs = s.inputs ∧ (s.zlkBlockLock l).meter = s.meter
      ∧ (s.zlkBlockLock l).ports = s.ports ∧ (s.zlkBlockLock l).net = s.net ∧ (s.zlkBlockLock l).fns = s.fns
      ∧ (s.zlkBlockLock l).ecc = s.ecc ∧ (s.zlkBlockLock l).queues = s.queues ∧ (s.zlkBlockLock l).update = s.update
      ∧ (s.zlkBlockLock l).secure = s.secure ∧ (s.zlkBlockLock l).power = s.power ∧ (s.zlkBlockLock l).mem = s.mem
      ∧ (s.zlkBlockLock l).freeCtr = s.freeCtr ∧ (s.zlkBlockLock l).pending = s.pending := by simp [State.zlkBlockLock]
@[simp] theorem State.zlkHelloTimer_frame (s : State) (l : Nat) : (s.zlkHelloTimer l).host = s.host ∧ (s.zlkHelloTimer l).txn = s.txn
      ∧ (s.zlkHelloTimer l).clock = s.clock ∧ (s.zlkHelloTimer l).time = s.time ∧ (s.zlkHelloTimer l).icu = s.icu
      ∧ (s.zlkHelloTimer l).render = s.render ∧ (s.zlkHelloTimer l).inputs = s.inputs ∧ (s.zlkHelloTimer l).meter = s.meter
      ∧ (s.zlkHelloTimer l).ports = s.ports ∧ (s.zlkHelloTimer l).net = s.net ∧ (s.zlkHelloTimer l).fns = s.fns
      ∧ (s.zlkHelloTimer l).ecc = s.ecc ∧ (s.zlkHelloTimer l).queues = s.queues ∧ (s.zlkHelloTimer l).group = s.group
      ∧ (s.zlkHelloTimer l).update = s.update ∧ (s.zlkHelloTimer l).secure = s.secure ∧ (s.zlkHelloTimer l).power = s.power
      ∧ (s.zlkHelloTimer l).mem = s.mem ∧ (s.zlkHelloTimer l).freeCtr = s.freeCtr ∧ (s.zlkHelloTimer l).pending = s.pending := by simp [State.zlkHelloTimer]
@[simp] theorem State.zlkUp_frame (s : State) (l : Nat) (k : ZlkLink) : (s.zlkUp l k).host = s.host ∧ (s.zlkUp l k).txn = s.txn
      ∧ (s.zlkUp l k).clock = s.clock ∧ (s.zlkUp l k).time = s.time ∧ (s.zlkUp l k).icu = s.icu ∧ (s.zlkUp l k).render = s.render
      ∧ (s.zlkUp l k).inputs = s.inputs ∧ (s.zlkUp l k).meter = s.meter ∧ (s.zlkUp l k).ports = s.ports ∧ (s.zlkUp l k).net = s.net
      ∧ (s.zlkUp l k).fns = s.fns ∧ (s.zlkUp l k).ecc = s.ecc ∧ (s.zlkUp l k).queues = s.queues ∧ (s.zlkUp l k).update = s.update
      ∧ (s.zlkUp l k).secure = s.secure ∧ (s.zlkUp l k).power = s.power ∧ (s.zlkUp l k).mem = s.mem ∧ (s.zlkUp l k).freeCtr = s.freeCtr
      ∧ (s.zlkUp l k).pending = s.pending := by simp [State.zlkUp]
@[simp] theorem State.zlkHelloRx_frame (s : State) (l : Nat) (good : Bool) (h : Hello) : (s.zlkHelloRx l good h).host = s.host
      ∧ (s.zlkHelloRx l good h).txn = s.txn ∧ (s.zlkHelloRx l good h).clock = s.clock ∧ (s.zlkHelloRx l good h).time = s.time
      ∧ (s.zlkHelloRx l good h).render = s.render ∧ (s.zlkHelloRx l good h).inputs = s.inputs ∧ (s.zlkHelloRx l good h).meter = s.meter
      ∧ (s.zlkHelloRx l good h).ports = s.ports ∧ (s.zlkHelloRx l good h).net = s.net ∧ (s.zlkHelloRx l good h).fns = s.fns
      ∧ (s.zlkHelloRx l good h).ecc = s.ecc ∧ (s.zlkHelloRx l good h).queues = s.queues ∧ (s.zlkHelloRx l good h).update = s.update
      ∧ (s.zlkHelloRx l good h).secure = s.secure ∧ (s.zlkHelloRx l good h).power = s.power ∧ (s.zlkHelloRx l good h).mem = s.mem
      ∧ (s.zlkHelloRx l good h).freeCtr = s.freeCtr ∧ (s.zlkHelloRx l good h).pending = s.pending := by simp [State.zlkHelloRx]
@[simp] theorem State.zlkLockLoss_frame (s : State) (l : Nat) : (s.zlkLockLoss l).host = s.host ∧ (s.zlkLockLoss l).txn = s.txn
      ∧ (s.zlkLockLoss l).clock = s.clock ∧ (s.zlkLockLoss l).time = s.time ∧ (s.zlkLockLoss l).render = s.render
      ∧ (s.zlkLockLoss l).inputs = s.inputs ∧ (s.zlkLockLoss l).meter = s.meter ∧ (s.zlkLockLoss l).ports = s.ports
      ∧ (s.zlkLockLoss l).net = s.net ∧ (s.zlkLockLoss l).fns = s.fns ∧ (s.zlkLockLoss l).ecc = s.ecc
      ∧ (s.zlkLockLoss l).queues = s.queues ∧ (s.zlkLockLoss l).update = s.update ∧ (s.zlkLockLoss l).secure = s.secure
      ∧ (s.zlkLockLoss l).power = s.power ∧ (s.zlkLockLoss l).mem = s.mem ∧ (s.zlkLockLoss l).freeCtr = s.freeCtr
      ∧ (s.zlkLockLoss l).out = s.out ∧ (s.zlkLockLoss l).pending = s.pending := by
  unfold State.zlkLockLoss
  try simp
  all_goals ((repeat' split) <;> try simp)
@[simp] theorem State.loopFail_frame (s : State) (output : Nat) : (s.loopFail output).host = s.host ∧ (s.loopFail output).txn = s.txn
      ∧ (s.loopFail output).clock = s.clock ∧ (s.loopFail output).time = s.time ∧ (s.loopFail output).render = s.render
      ∧ (s.loopFail output).inputs = s.inputs ∧ (s.loopFail output).meter = s.meter ∧ (s.loopFail output).ports = s.ports
      ∧ (s.loopFail output).net = s.net ∧ (s.loopFail output).fns = s.fns ∧ (s.loopFail output).ecc = s.ecc
      ∧ (s.loopFail output).queues = s.queues ∧ (s.loopFail output).update = s.update ∧ (s.loopFail output).secure = s.secure
      ∧ (s.loopFail output).power = s.power ∧ (s.loopFail output).mem = s.mem ∧ (s.loopFail output).freeCtr = s.freeCtr
      ∧ (s.loopFail output).out = s.out ∧ (s.loopFail output).pending = s.pending := by simp [State.loopFail]
@[simp] theorem State.testLane_frame (s : State) (l : Nat) : (s.testLane l).host = s.host ∧ (s.testLane l).txn = s.txn
      ∧ (s.testLane l).clock = s.clock ∧ (s.testLane l).time = s.time ∧ (s.testLane l).icu = s.icu ∧ (s.testLane l).render = s.render
      ∧ (s.testLane l).inputs = s.inputs ∧ (s.testLane l).meter = s.meter ∧ (s.testLane l).net = s.net ∧ (s.testLane l).fns = s.fns
      ∧ (s.testLane l).ecc = s.ecc ∧ (s.testLane l).queues = s.queues ∧ (s.testLane l).update = s.update
      ∧ (s.testLane l).secure = s.secure ∧ (s.testLane l).power = s.power ∧ (s.testLane l).mem = s.mem
      ∧ (s.testLane l).freeCtr = s.freeCtr ∧ (s.testLane l).pending = s.pending := by simp [State.testLane]
@[simp] theorem State.testPort_frame (s : State) (p : Nat) : (s.testPort p).host = s.host ∧ (s.testPort p).txn = s.txn
      ∧ (s.testPort p).clock = s.clock ∧ (s.testPort p).time = s.time ∧ (s.testPort p).inputs = s.inputs
      ∧ (s.testPort p).meter = s.meter ∧ (s.testPort p).fns = s.fns ∧ (s.testPort p).ecc = s.ecc ∧ (s.testPort p).queues = s.queues
      ∧ (s.testPort p).update = s.update ∧ (s.testPort p).secure = s.secure ∧ (s.testPort p).power = s.power
      ∧ (s.testPort p).mem = s.mem ∧ (s.testPort p).out = s.out ∧ (s.testPort p).pending = s.pending := by simp [State.testPort]
@[simp] theorem State.loopbackTest_frame (s : State) (badDmx badPwm : List Nat) : (s.loopbackTest badDmx badPwm).host = s.host
      ∧ (s.loopbackTest badDmx badPwm).txn = s.txn ∧ (s.loopbackTest badDmx badPwm).clock = s.clock
      ∧ (s.loopbackTest badDmx badPwm).time = s.time ∧ (s.loopbackTest badDmx badPwm).inputs = s.inputs
      ∧ (s.loopbackTest badDmx badPwm).meter = s.meter ∧ (s.loopbackTest badDmx badPwm).fns = s.fns
      ∧ (s.loopbackTest badDmx badPwm).ecc = s.ecc ∧ (s.loopbackTest badDmx badPwm).queues = s.queues
      ∧ (s.loopbackTest badDmx badPwm).update = s.update ∧ (s.loopbackTest badDmx badPwm).secure = s.secure
      ∧ (s.loopbackTest badDmx badPwm).power = s.power ∧ (s.loopbackTest badDmx badPwm).mem = s.mem
      ∧ (s.loopbackTest badDmx badPwm).pending = s.pending := by simp [State.loopbackTest]
@[simp] theorem State.groupConfigDone_frame (s : State) (id : Nat) : (s.groupConfigDone id).txn = s.txn
      ∧ (s.groupConfigDone id).clock = s.clock ∧ (s.groupConfigDone id).time = s.time ∧ (s.groupConfigDone id).render = s.render
      ∧ (s.groupConfigDone id).inputs = s.inputs ∧ (s.groupConfigDone id).meter = s.meter ∧ (s.groupConfigDone id).ports = s.ports
      ∧ (s.groupConfigDone id).net = s.net ∧ (s.groupConfigDone id).fns = s.fns ∧ (s.groupConfigDone id).ecc = s.ecc
      ∧ (s.groupConfigDone id).queues = s.queues ∧ (s.groupConfigDone id).update = s.update ∧ (s.groupConfigDone id).power = s.power
      ∧ (s.groupConfigDone id).mem = s.mem ∧ (s.groupConfigDone id).freeCtr = s.freeCtr ∧ (s.groupConfigDone id).pending = s.pending := by
  unfold State.groupConfigDone
  (repeat' split) <;> simp
@[simp] theorem State.startFn_frame (s : State) (cls inst : Nat) : (s.startFn cls inst).host = s.host ∧ (s.startFn cls inst).txn = s.txn
      ∧ (s.startFn cls inst).clock = s.clock ∧ (s.startFn cls inst).time = s.time ∧ (s.startFn cls inst).render = s.render
      ∧ (s.startFn cls inst).net = s.net ∧ (s.startFn cls inst).fns = s.fns ∧ (s.startFn cls inst).ecc = s.ecc
      ∧ (s.startFn cls inst).queues = s.queues ∧ (s.startFn cls inst).update = s.update ∧ (s.startFn cls inst).secure = s.secure
      ∧ (s.startFn cls inst).power = s.power ∧ (s.startFn cls inst).mem = s.mem ∧ (s.startFn cls inst).freeCtr = s.freeCtr
      ∧ (s.startFn cls inst).pending = s.pending := by
  unfold State.startFn
  (repeat' split) <;> simp
@[simp] theorem State.abortCaptures_frame (s : State) (c : Nat) : (s.abortCaptures c).txn = s.txn ∧ (s.abortCaptures c).clock = s.clock
      ∧ (s.abortCaptures c).time = s.time ∧ (s.abortCaptures c).render = s.render ∧ (s.abortCaptures c).inputs = s.inputs
      ∧ (s.abortCaptures c).ports = s.ports ∧ (s.abortCaptures c).net = s.net ∧ (s.abortCaptures c).fns = s.fns
      ∧ (s.abortCaptures c).ecc = s.ecc ∧ (s.abortCaptures c).queues = s.queues ∧ (s.abortCaptures c).group = s.group
      ∧ (s.abortCaptures c).update = s.update ∧ (s.abortCaptures c).secure = s.secure ∧ (s.abortCaptures c).power = s.power
      ∧ (s.abortCaptures c).mem = s.mem ∧ (s.abortCaptures c).freeCtr = s.freeCtr ∧ (s.abortCaptures c).pending = s.pending := by simp [State.abortCaptures]
@[simp] theorem State.stopFn_frame (s : State) (cls inst : Nat) : (s.stopFn cls inst).txn = s.txn ∧ (s.stopFn cls inst).clock = s.clock
      ∧ (s.stopFn cls inst).render = s.render ∧ (s.stopFn cls inst).inputs = s.inputs ∧ (s.stopFn cls inst).fns = s.fns
      ∧ (s.stopFn cls inst).ecc = s.ecc ∧ (s.stopFn cls inst).queues = s.queues ∧ (s.stopFn cls inst).update = s.update
      ∧ (s.stopFn cls inst).secure = s.secure ∧ (s.stopFn cls inst).power = s.power ∧ (s.stopFn cls inst).mem = s.mem
      ∧ (s.stopFn cls inst).freeCtr = s.freeCtr ∧ (s.stopFn cls inst).pending = s.pending := by
  unfold State.stopFn
  try simp
  all_goals ((repeat' split) <;> try simp_all)
@[simp] theorem State.cancelOp_frame (s : State) (o : Op) : (s.cancelOp o).1.txn = s.txn ∧ (s.cancelOp o).1.clock = s.clock
      ∧ (s.cancelOp o).1.time = s.time ∧ (s.cancelOp o).1.render = s.render ∧ (s.cancelOp o).1.inputs = s.inputs
      ∧ (s.cancelOp o).1.meter = s.meter ∧ (s.cancelOp o).1.ports = s.ports ∧ (s.cancelOp o).1.net = s.net
      ∧ (s.cancelOp o).1.fns = s.fns ∧ (s.cancelOp o).1.ecc = s.ecc ∧ (s.cancelOp o).1.queues = s.queues
      ∧ (s.cancelOp o).1.group = s.group ∧ (s.cancelOp o).1.update = s.update ∧ (s.cancelOp o).1.secure = s.secure
      ∧ (s.cancelOp o).1.power = s.power ∧ (s.cancelOp o).1.mem = s.mem ∧ (s.cancelOp o).1.freeCtr = s.freeCtr
      ∧ (s.cancelOp o).1.pending = s.pending := by simp [State.cancelOp]
@[simp] theorem State.tooLate_frame (s : State) : (s.tooLate).1.host = s.host ∧ (s.tooLate).1.txn = s.txn
      ∧ (s.tooLate).1.clock = s.clock ∧ (s.tooLate).1.time = s.time ∧ (s.tooLate).1.icu = s.icu ∧ (s.tooLate).1.render = s.render
      ∧ (s.tooLate).1.inputs = s.inputs ∧ (s.tooLate).1.meter = s.meter ∧ (s.tooLate).1.ports = s.ports ∧ (s.tooLate).1.net = s.net
      ∧ (s.tooLate).1.fns = s.fns ∧ (s.tooLate).1.ecc = s.ecc ∧ (s.tooLate).1.queues = s.queues ∧ (s.tooLate).1.group = s.group
      ∧ (s.tooLate).1.update = s.update ∧ (s.tooLate).1.secure = s.secure ∧ (s.tooLate).1.power = s.power ∧ (s.tooLate).1.mem = s.mem
      ∧ (s.tooLate).1.freeCtr = s.freeCtr ∧ (s.tooLate).1.out = s.out ∧ (s.tooLate).1.pending = s.pending := by simp [State.tooLate]
@[simp] theorem State.abortStart_frame (s : State) (o : Op) : (s.abortStart o).1.txn = s.txn ∧ (s.abortStart o).1.time = s.time
      ∧ (s.abortStart o).1.render = s.render ∧ (s.abortStart o).1.inputs = s.inputs ∧ (s.abortStart o).1.meter = s.meter
      ∧ (s.abortStart o).1.ports = s.ports ∧ (s.abortStart o).1.net = s.net ∧ (s.abortStart o).1.fns = s.fns
      ∧ (s.abortStart o).1.ecc = s.ecc ∧ (s.abortStart o).1.queues = s.queues ∧ (s.abortStart o).1.update = s.update
      ∧ (s.abortStart o).1.secure = s.secure ∧ (s.abortStart o).1.power = s.power ∧ (s.abortStart o).1.mem = s.mem
      ∧ (s.abortStart o).1.freeCtr = s.freeCtr ∧ (s.abortStart o).1.pending = s.pending := by simp [State.abortStart]
@[simp] theorem State.withdrawRdm_frame (s : State) (o : Op) (j : Nat) : (s.withdrawRdm o j).1.txn = s.txn
      ∧ (s.withdrawRdm o j).1.clock = s.clock ∧ (s.withdrawRdm o j).1.time = s.time ∧ (s.withdrawRdm o j).1.render = s.render
      ∧ (s.withdrawRdm o j).1.inputs = s.inputs ∧ (s.withdrawRdm o j).1.meter = s.meter ∧ (s.withdrawRdm o j).1.net = s.net
      ∧ (s.withdrawRdm o j).1.fns = s.fns ∧ (s.withdrawRdm o j).1.ecc = s.ecc ∧ (s.withdrawRdm o j).1.queues = s.queues
      ∧ (s.withdrawRdm o j).1.group = s.group ∧ (s.withdrawRdm o j).1.update = s.update ∧ (s.withdrawRdm o j).1.secure = s.secure
      ∧ (s.withdrawRdm o j).1.power = s.power ∧ (s.withdrawRdm o j).1.mem = s.mem ∧ (s.withdrawRdm o j).1.freeCtr = s.freeCtr
      ∧ (s.withdrawRdm o j).1.pending = s.pending := by simp [State.withdrawRdm]
@[simp] theorem State.abortCapture_frame (s : State) (o : Op) : (s.abortCapture o).1.txn = s.txn ∧ (s.abortCapture o).1.clock = s.clock
      ∧ (s.abortCapture o).1.time = s.time ∧ (s.abortCapture o).1.render = s.render ∧ (s.abortCapture o).1.inputs = s.inputs
      ∧ (s.abortCapture o).1.ports = s.ports ∧ (s.abortCapture o).1.net = s.net ∧ (s.abortCapture o).1.fns = s.fns
      ∧ (s.abortCapture o).1.ecc = s.ecc ∧ (s.abortCapture o).1.queues = s.queues ∧ (s.abortCapture o).1.group = s.group
      ∧ (s.abortCapture o).1.update = s.update ∧ (s.abortCapture o).1.secure = s.secure ∧ (s.abortCapture o).1.power = s.power
      ∧ (s.abortCapture o).1.mem = s.mem ∧ (s.abortCapture o).1.freeCtr = s.freeCtr ∧ (s.abortCapture o).1.pending = s.pending := by simp [State.abortCapture]
@[simp] theorem State.abortActivate_frame (s : State) (o : Op) : (s.abortActivate o).1.txn = s.txn
      ∧ (s.abortActivate o).1.clock = s.clock ∧ (s.abortActivate o).1.time = s.time ∧ (s.abortActivate o).1.render = s.render
      ∧ (s.abortActivate o).1.inputs = s.inputs ∧ (s.abortActivate o).1.meter = s.meter ∧ (s.abortActivate o).1.ports = s.ports
      ∧ (s.abortActivate o).1.net = s.net ∧ (s.abortActivate o).1.fns = s.fns ∧ (s.abortActivate o).1.ecc = s.ecc
      ∧ (s.abortActivate o).1.queues = s.queues ∧ (s.abortActivate o).1.power = s.power ∧ (s.abortActivate o).1.mem = s.mem
      ∧ (s.abortActivate o).1.freeCtr = s.freeCtr ∧ (s.abortActivate o).1.pending = s.pending := by
  unfold State.abortActivate
  try simp
  all_goals ((repeat' split) <;> try simp_all)
@[simp] theorem State.abortSwitch_frame (s : State) (o : Op) (m : Nat) : (s.abortSwitch o m).1.txn = s.txn
      ∧ (s.abortSwitch o m).1.clock = s.clock ∧ (s.abortSwitch o m).1.time = s.time ∧ (s.abortSwitch o m).1.render = s.render
      ∧ (s.abortSwitch o m).1.inputs = s.inputs ∧ (s.abortSwitch o m).1.meter = s.meter ∧ (s.abortSwitch o m).1.ports = s.ports
      ∧ (s.abortSwitch o m).1.net = s.net ∧ (s.abortSwitch o m).1.fns = s.fns ∧ (s.abortSwitch o m).1.ecc = s.ecc
      ∧ (s.abortSwitch o m).1.queues = s.queues ∧ (s.abortSwitch o m).1.update = s.update ∧ (s.abortSwitch o m).1.secure = s.secure
      ∧ (s.abortSwitch o m).1.power = s.power ∧ (s.abortSwitch o m).1.mem = s.mem ∧ (s.abortSwitch o m).1.freeCtr = s.freeCtr
      ∧ (s.abortSwitch o m).1.pending = s.pending := by simp [State.abortSwitch]
@[simp] theorem State.abortFlash_frame (s : State) (o : Op) : (s.abortFlash o).1.txn = s.txn ∧ (s.abortFlash o).1.clock = s.clock
      ∧ (s.abortFlash o).1.time = s.time ∧ (s.abortFlash o).1.render = s.render ∧ (s.abortFlash o).1.inputs = s.inputs
      ∧ (s.abortFlash o).1.meter = s.meter ∧ (s.abortFlash o).1.ports = s.ports ∧ (s.abortFlash o).1.net = s.net
      ∧ (s.abortFlash o).1.fns = s.fns ∧ (s.abortFlash o).1.ecc = s.ecc ∧ (s.abortFlash o).1.queues = s.queues
      ∧ (s.abortFlash o).1.group = s.group ∧ (s.abortFlash o).1.update = s.update ∧ (s.abortFlash o).1.secure = s.secure
      ∧ (s.abortFlash o).1.power = s.power ∧ (s.abortFlash o).1.mem = s.mem ∧ (s.abortFlash o).1.pending = s.pending := by simp [State.abortFlash]
@[simp] theorem State.abortJob_frame (s : State) (o : Op) (nums : List Nat) : (s.abortJob o nums).1.txn = s.txn
      ∧ (s.abortJob o nums).1.clock = s.clock ∧ (s.abortJob o nums).1.time = s.time ∧ (s.abortJob o nums).1.render = s.render
      ∧ (s.abortJob o nums).1.inputs = s.inputs ∧ (s.abortJob o nums).1.net = s.net ∧ (s.abortJob o nums).1.fns = s.fns
      ∧ (s.abortJob o nums).1.ecc = s.ecc ∧ (s.abortJob o nums).1.queues = s.queues ∧ (s.abortJob o nums).1.power = s.power
      ∧ (s.abortJob o nums).1.mem = s.mem ∧ (s.abortJob o nums).1.pending = s.pending := by
  unfold State.abortJob
  try simp
  all_goals ((repeat' split) <;> try simp_all)
@[simp] theorem State.shift_frame (s : State) (d : Int) : (s.shift d).host = s.host ∧ (s.shift d).txn = s.txn ∧ (s.shift d).icu = s.icu
      ∧ (s.shift d).fns = s.fns ∧ (s.shift d).ecc = s.ecc ∧ (s.shift d).queues = s.queues ∧ (s.shift d).update = s.update
      ∧ (s.shift d).secure = s.secure ∧ (s.shift d).power = s.power ∧ (s.shift d).mem = s.mem ∧ (s.shift d).freeCtr = s.freeCtr
      ∧ (s.shift d).out = s.out ∧ (s.shift d).pending = s.pending := by simp [State.shift]
@[simp] theorem State.doorbell_frame (s : State) (m value : Nat) : (s.doorbell m value).txn = s.txn
      ∧ (s.doorbell m value).clock = s.clock ∧ (s.doorbell m value).time = s.time ∧ (s.doorbell m value).icu = s.icu
      ∧ (s.doorbell m value).render = s.render ∧ (s.doorbell m value).inputs = s.inputs ∧ (s.doorbell m value).meter = s.meter
      ∧ (s.doorbell m value).ports = s.ports ∧ (s.doorbell m value).net = s.net ∧ (s.doorbell m value).fns = s.fns
      ∧ (s.doorbell m value).ecc = s.ecc ∧ (s.doorbell m value).queues = s.queues ∧ (s.doorbell m value).group = s.group
      ∧ (s.doorbell m value).update = s.update ∧ (s.doorbell m value).secure = s.secure ∧ (s.doorbell m value).power = s.power
      ∧ (s.doorbell m value).mem = s.mem ∧ (s.doorbell m value).freeCtr = s.freeCtr ∧ (s.doorbell m value).out = s.out
      ∧ (s.doorbell m value).pending = s.pending := by simp [State.doorbell]
@[simp] theorem State.mbxWrite_frame (s : State) (off v : Nat) : (s.mbxWrite off v).txn = s.txn ∧ (s.mbxWrite off v).clock = s.clock
      ∧ (s.mbxWrite off v).time = s.time ∧ (s.mbxWrite off v).icu = s.icu ∧ (s.mbxWrite off v).render = s.render
      ∧ (s.mbxWrite off v).inputs = s.inputs ∧ (s.mbxWrite off v).meter = s.meter ∧ (s.mbxWrite off v).ports = s.ports
      ∧ (s.mbxWrite off v).net = s.net ∧ (s.mbxWrite off v).fns = s.fns ∧ (s.mbxWrite off v).ecc = s.ecc
      ∧ (s.mbxWrite off v).queues = s.queues ∧ (s.mbxWrite off v).group = s.group ∧ (s.mbxWrite off v).update = s.update
      ∧ (s.mbxWrite off v).secure = s.secure ∧ (s.mbxWrite off v).power = s.power ∧ (s.mbxWrite off v).mem = s.mem
      ∧ (s.mbxWrite off v).freeCtr = s.freeCtr ∧ (s.mbxWrite off v).out = s.out ∧ (s.mbxWrite off v).pending = s.pending := by simp [State.mbxWrite]
@[simp] theorem State.devWrite_frame (s : State) (off v : Nat) : (s.devWrite off v).txn = s.txn ∧ (s.devWrite off v).clock = s.clock
      ∧ (s.devWrite off v).time = s.time ∧ (s.devWrite off v).render = s.render ∧ (s.devWrite off v).inputs = s.inputs
      ∧ (s.devWrite off v).meter = s.meter ∧ (s.devWrite off v).ports = s.ports ∧ (s.devWrite off v).net = s.net
      ∧ (s.devWrite off v).fns = s.fns ∧ (s.devWrite off v).ecc = s.ecc ∧ (s.devWrite off v).queues = s.queues
      ∧ (s.devWrite off v).group = s.group ∧ (s.devWrite off v).update = s.update ∧ (s.devWrite off v).secure = s.secure
      ∧ (s.devWrite off v).power = s.power ∧ (s.devWrite off v).mem = s.mem ∧ (s.devWrite off v).freeCtr = s.freeCtr
      ∧ (s.devWrite off v).out = s.out ∧ (s.devWrite off v).pending = s.pending := by simp [State.devWrite]
@[simp] theorem State.hostReset_frame (s : State) : (s.hostReset).clock = s.clock ∧ (s.hostReset).time = s.time
      ∧ (s.hostReset).render = s.render ∧ (s.hostReset).inputs = s.inputs ∧ (s.hostReset).meter = s.meter
      ∧ (s.hostReset).ports = s.ports ∧ (s.hostReset).net = s.net ∧ (s.hostReset).fns = s.fns ∧ (s.hostReset).ecc = s.ecc
      ∧ (s.hostReset).queues = s.queues ∧ (s.hostReset).group = s.group ∧ (s.hostReset).update = s.update
      ∧ (s.hostReset).power = s.power ∧ (s.hostReset).mem = s.mem ∧ (s.hostReset).freeCtr = s.freeCtr ∧ (s.hostReset).out = s.out
      ∧ (s.hostReset).pending = s.pending := by simp [State.hostReset]
@[simp] theorem State.nameSession_frame (s : State) (c : Ctx) : (s.nameSession c).txn = s.txn ∧ (s.nameSession c).clock = s.clock
      ∧ (s.nameSession c).time = s.time ∧ (s.nameSession c).icu = s.icu ∧ (s.nameSession c).render = s.render
      ∧ (s.nameSession c).inputs = s.inputs ∧ (s.nameSession c).meter = s.meter ∧ (s.nameSession c).ports = s.ports
      ∧ (s.nameSession c).net = s.net ∧ (s.nameSession c).fns = s.fns ∧ (s.nameSession c).ecc = s.ecc
      ∧ (s.nameSession c).queues = s.queues ∧ (s.nameSession c).group = s.group ∧ (s.nameSession c).update = s.update
      ∧ (s.nameSession c).secure = s.secure ∧ (s.nameSession c).power = s.power ∧ (s.nameSession c).mem = s.mem
      ∧ (s.nameSession c).freeCtr = s.freeCtr ∧ (s.nameSession c).out = s.out ∧ (s.nameSession c).pending = s.pending := by
  unfold State.nameSession
  (repeat' split) <;> simp

end Sys2Proof.Machine
end

