-- ==== Sys2Proof/Laws/Map.lean ====
section
/-!
SUPPORT. Laws/Map.lean: what a table gives after a change.
-/

namespace Sys2Proof

theorem Map.find_cons {α : Type} (k k' : Nat) (v : α) (m : Map α) :
    Map.find ((k, v) :: m : List (Nat × α)) k' = if k = k' then some v else Map.find m k' := by
  by_cases h : k = k'
  · simp [Map.find, List.find?, h]
  · have hb : (k == k') = false := by simpa using h
    simp [Map.find, List.find?, h, hb]

@[simp] theorem Map.find_nil {α : Type} (k : Nat) : Map.find ([] : Map α) k = none := rfl

/-- An entry that was set is found. -/
@[simp] theorem Map.find_put_self {α : Type} (m : Map α) (k : Nat) (v : α) : (m.put k v).find k = some v := by
  induction m with
  | nil => simp [Map.put, Map.find_cons]
  | cons e m ih =>
    obtain ⟨k', v'⟩ := e
    simp only [Map.put]
    split
    · simp [Map.find_cons]
    · split
      · simp [Map.find_cons]
      · rename_i h1 h2
        rw [Map.find_cons, if_neg (fun h => h2 h.symm)]
        exact ih

/-- Another entry stays. -/
theorem Map.find_put_ne {α : Type} (m : Map α) (k k' : Nat) (v : α) (h : k' ≠ k) : (m.put k v).find k' = m.find k' := by
  induction m with
  | nil => simp [Map.put, Map.find_cons, h.symm]
  | cons e m ih =>
    obtain ⟨j, w⟩ := e
    simp only [Map.put]
    split
    · rw [Map.find_cons, if_neg h.symm]
    · split
      · rename_i h1 h2
        rw [Map.find_cons, Map.find_cons, if_neg h.symm, if_neg (h2 ▸ h.symm)]
      · rw [Map.find_cons, Map.find_cons, ih]

theorem Map.find_put {α : Type} (m : Map α) (k k' : Nat) (v : α) :
    (m.put k v).find k' = if k' = k then some v else m.find k' := by
  by_cases h : k' = k
  · simp [h]
  · simp [h, Map.find_put_ne m k k' v h]

@[simp] theorem Map.getD_put_self {α : Type} (m : Map α) (k : Nat) (v d : α) : (m.put k v).getD k d = v := by
  simp [Map.getD]

theorem Map.getD_put {α : Type} (m : Map α) (k k' : Nat) (v d : α) :
    (m.put k v).getD k' d = if k' = k then v else m.getD k' d := by
  by_cases h : k' = k <;> simp [Map.getD, Map.find_put, h]

/-- A removed entry is not found; another one stays. -/
theorem Map.find_del {α : Type} (m : Map α) (k k' : Nat) : (m.del k).find k' = if k' = k then none else m.find k' := by
  induction m with
  | nil => simp [Map.del]
  | cons e m ih =>
    obtain ⟨j, w⟩ := e
    by_cases hj : j = k
    · have h1 : Map.del ((j, w) :: m : List (Nat × α)) k = Map.del m k := by simp [Map.del, hj]
      rw [h1, ih, Map.find_cons, hj]
      by_cases h : k' = k
      · simp [h]
      · rw [if_neg h, if_neg h, if_neg (fun e => h e.symm)]
    · have h1 : Map.del ((j, w) :: m : List (Nat × α)) k = (j, w) :: Map.del m k := by simp [Map.del, hj]
      rw [h1, Map.find_cons, Map.find_cons]
      by_cases h2 : j = k'
      · simp [h2 ▸ hj, h2]
      · simp only [if_neg h2]
        exact ih

theorem Map.upd_def {α : Type} (m : Map α) (k : Nat) (d : α) (f : α → α) : m.upd k d f = m.put k (f (m.getD k d)) := rfl

end Sys2Proof
end

