-- ==== Sys2Proof/Laws/Icu.lean ====
section
/-!
SUPPORT. Laws/Icu.lean: what raising a source, and what follows every command, do to the sources of the interrupt controller.
-/

namespace Sys2Proof.Machine

@[simp] theorem IcuSource.edge_count (x : IcuSource) (now : Nat) : (x.edge now).count = x.count + 1 := by
  simp only [IcuSource.edge, IcuSource.pend]
  cases x.phase <;> rfl

theorem IcuState.setSrc_src (i : IcuState) (n k : Nat) (f : IcuSource → IcuSource) :
    (i.setSrc n f).src k = if k = n then f (i.src n) else i.src k := by
  simp only [IcuState.setSrc, IcuState.src, Map.upd_def, Map.getD_put]

theorem IcuState.edge_src (i : IcuState) (n now k : Nat) :
    (i.edge n now).src k = if k = n ∧ srcAssigned n = true then (i.src n).edge now else i.src k := by
  unfold IcuState.edge
  by_cases h : srcAssigned n = true <;> simp [h, IcuState.setSrc_src]

/-- Raising a source changes that source alone. -/
theorem State.raise_src (s : State) (n k : Nat) :
    (s.raise n).icu.src k = if k = n ∧ srcAssigned n = true then (s.icu.src n).edge s.now else s.icu.src k :=
  IcuState.edge_src s.icu n s.now k

/-! ### Delivery -/

/-- Re-evaluating a target leaves every source as it is. -/
@[simp] theorem IcuState.evalTarget_sources (i : IcuState) (now t : Nat) : (i.evalTarget now t).1.sources = i.sources := by
  simp only [IcuState.evalTarget, IcuState.evalAsleep, IcuState.setTgt, IcuState.startHold]
  repeat' split
  all_goals first | rfl | (dsimp only; split <;> rfl)

@[simp] theorem IcuState.wakeCores_sources (i : IcuState) : i.wakeCores.sources = i.sources := by
  have h : ∀ (l : List Nat) (j : IcuState),
      (l.foldl (fun i t => i.setTgt t fun x => { x with sleeping := false }) j).sources = j.sources := by
    intro l
    induction l with
    | nil => intro j; rfl
    | cons x l ih => intro j; rw [List.foldl_cons, ih]; rfl
  exact h _ i

/-- Marking sources for which a PM_PME has gone changes nothing else of them. -/
theorem IcuState.markPme_src (ns : List Nat) (i : IcuState) (k : Nat) :
    ∃ b, (ns.foldl (fun i n => i.setSrc n fun x => { x with pme := true }) i).src k = { i.src k with pme := b } := by
  induction ns generalizing i with
  | nil => exact ⟨_, rfl⟩
  | cons n ns ih =>
    obtain ⟨b, h⟩ := ih (i.setSrc n fun x => { x with pme := true })
    rw [List.foldl_cons, h, IcuState.setSrc_src]
    by_cases hk : k = n
    · subst hk; exact ⟨b, by simp⟩
    · exact ⟨b, by simp [hk]⟩

theorem IcuState.wakeFunction_src (i : IcuState) (k : Nat) : ∃ b, i.wakeFunction.1.src k = { i.src k with pme := b } := by
  simp only [IcuState.wakeFunction]
  split
  · exact ⟨_, rfl⟩
  · exact IcuState.markPme_src _ i k

/-- Delivery changes nothing of a source but whether a PM_PME has gone for it. -/
theorem IcuState.eval_src (i : IcuState) (now n k : Nat) : ∃ b, (i.eval now n).1.src k = { i.src k with pme := b } := by
  unfold IcuState.eval
  have h : ∀ (l : List Nat) (a : IcuState × List OutEvent),
      (l.foldl (fun (acc : IcuState × List OutEvent) t => let r := acc.1.evalTarget now t; (r.1, acc.2 ++ r.2)) a).1.sources = a.1.sources := by
    intro l
    induction l with
    | nil => intro a; rfl
    | cons x l ih => intro a; rw [List.foldl_cons, ih]; simp
  obtain ⟨b, hb⟩ := IcuState.wakeFunction_src (if 32 < n then i.wakeCores else i) k
  refine ⟨b, ?_⟩
  have hs : (if 32 < n then i.wakeCores else i).src k = i.src k := by split <;> simp [IcuState.src]
  rw [hs] at hb
  simpa [IcuState.src, h] using hb

/-- Raising watermark events leaves every other source as it is. -/
theorem State.raiseAll_src (s : State) (n k : Nat) (h : k ≠ 0xA9) : (s.raiseAll (List.replicate n 0xA9)).icu.src k = s.icu.src k := by
  unfold State.raiseAll
  induction n generalizing s with
  | zero => rfl
  | succ n ih => rw [List.replicate_succ, List.foldl_cons, ih, State.raise_src]; simp [h]

/-- What follows every command changes nothing of a source but QUEUE_WM, and whether a PM_PME has gone for it. -/
theorem State.settle_src (s : State) (k : Nat) (h : k ≠ 0xA9) : ∃ b, s.settle.icu.src k = { s.icu.src k with pme := b } := by
  obtain ⟨b, hb⟩ := IcuState.eval_src s.watch.icu s.watch.now (if s.watch.host.fwRestart then 32 else 36) k
  refine ⟨b, ?_⟩
  have e : s.watch.icu.src k = s.icu.src k := State.raiseAll_src _ _ k h
  exact hb.trans (by rw [e])

@[simp] theorem State.settle_src_count (s : State) (k : Nat) (h : k ≠ 0xA9) : (s.settle.icu.src k).count = (s.icu.src k).count := by
  obtain ⟨b, hb⟩ := s.settle_src k h; rw [hb]
@[simp] theorem State.settle_src_phase (s : State) (k : Nat) (h : k ≠ 0xA9) : (s.settle.icu.src k).phase = (s.icu.src k).phase := by
  obtain ⟨b, hb⟩ := s.settle_src k h; rw [hb]
@[simp] theorem State.settle_src_prio (s : State) (k : Nat) (h : k ≠ 0xA9) : (s.settle.icu.src k).prio = (s.icu.src k).prio := by
  obtain ⟨b, hb⟩ := s.settle_src k h; rw [hb]
@[simp] theorem State.settle_src_target (s : State) (k : Nat) (h : k ≠ 0xA9) : (s.settle.icu.src k).target = (s.icu.src k).target := by
  obtain ⟨b, hb⟩ := s.settle_src k h; rw [hb]
@[simp] theorem State.settle_src_wake (s : State) (k : Nat) (h : k ≠ 0xA9) : (s.settle.icu.src k).wake = (s.icu.src k).wake := by
  obtain ⟨b, hb⟩ := s.settle_src k h; rw [hb]
@[simp] theorem State.settle_src_pendSince (s : State) (k : Nat) (h : k ≠ 0xA9) :
    (s.settle.icu.src k).pendSince = (s.icu.src k).pendSince := by
  obtain ⟨b, hb⟩ := s.settle_src k h; rw [hb]

/-- A raised event is counted once. -/
theorem State.raise_settle_count (s : State) (n : Nat) (h : n ≠ 0xA9) (ha : srcAssigned n = true) :
    ((s.raise n).settle.icu.src n).count = (s.icu.src n).count + 1 := by
  obtain ⟨b, hb⟩ := State.settle_src (s.raise n) n h
  rw [hb, State.raise_src]
  simp [ha]

end Sys2Proof.Machine
end

