-- ==== Sys2Proof/Laws/Mailbox.lean ====
section
/-!
SUPPORT. Laws/Mailbox.lean: what the row of a mailbox command does.
-/

namespace Sys2Proof.Machine

/-- A running request executes its command's body, and completes with what it answers. -/
theorem running_runMbx {spec : CommandSpec} {m dt : Nat} {s : State} {e : ExecReq} {c : Ctx} {t : State} {p : Bytes}
    (h : Running spec m dt s e c t p) :
    (s.tick dt).runMbx spec m = (spec.body c t).1.finish c e.orphan (spec.body c t).2 := by
  obtain ⟨hr, he, hp, hc, ht, _, hf, hs⟩ := h
  have hx : spec.execute c e.poison t = spec.body c t := by simp [CommandSpec.execute, hf, hp, hs]
  have hrun : (s.tick dt).runExec spec e = (spec.execute c e.poison t).1.finish c e.orphan (spec.execute c e.poison t).2 := by
    rw [hc, ht]; rfl
  unfold State.runMbx
  rw [State.tick_host, hr, he]
  simpa [hx] using hrun

/-- The row of a mailbox command on a request that runs. -/
theorem running_act {spec : CommandSpec} {m dt : Nat} {s : State} {e : ExecReq} {c : Ctx} {t : State} {p : Bytes}
    (h : Running spec m dt s e c t p) {u : State} {st : Status} {resp : Bytes} (hb : spec.body c t = (u, ⟨st, resp, none⟩)) :
    s.act dt (·.runMbx spec m) = answers e c u st resp := by
  simp [State.act, answers, running_runMbx h, hb]

/-- A staged write acts on the view of its transaction. -/
theorem stage_view (x : TxnSlot) (w : ShowWrite) : (x.stage w).view = w.apply x.view := by
  simp [TxnSlot.stage, TxnSlot.view, applyWrites]

/-- The code that a running request carries. -/
theorem running_code {spec : CommandSpec} {m dt : Nat} {s : State} {e : ExecReq} {c : Ctx} {t : State} {p : Bytes}
    (h : Running spec m dt s e c t p) : c.code = spec.code := by
  obtain ⟨_, he, _, hc, _⟩ := h
  rw [hc]
  have hp := List.find?_some he
  simp only [Bool.and_eq_true, beq_iff_eq] at hp
  exact hp.2

/-- The code of a show write names it. -/
theorem showCmd_code {cmd : ShowCmd} {k : Nat} (hk : cmd.code = k) : showCmd k = some cmd := by
  subst hk; cases cmd <;> rfl

/-- A show write that runs at once answers OK, and stands at the end of its transaction. -/
theorem stages_act {cmd : ShowCmd} {k m dt : Nat} {s : State} {e : ExecReq} {c : Ctx} {t : State} {p d resp : Bytes} {x : TxnSlot}
    (hk : cmd.code = k) (h : Running cmd.spec m dt s e c t p) (hs : Stages cmd c t p d x)
    (hr : (cmd.check (t.checkEnv t.txn.waitingTxns c.db) x.view p d).resp = resp) :
    s.act dt (·.runMbx cmd.spec m) = answers e c (t.staged c.slot x ⟨k, p, d⟩) .ok resp := by
  obtain ⟨ht, hc, hl, hf, hd, hck, hb⟩ := hs
  have hp : c.payload = p := h.2.2.2.2.2.1.symm
  have hcode : c.code = k := (running_code h).trans hk
  refine running_act h ?_
  subst hd
  have hb2 : ¬ stageMax < t.txn.staged + (p.length + (t.sourceData (cmd.source p)).length) := by omega
  have hw : (ShowWrite.check (t.checkEnv t.txn.waitingTxns c.db) x.view ⟨k, p, t.sourceData (cmd.source p)⟩)
      = cmd.check (t.checkEnv t.txn.waitingTxns c.db) x.view p (t.sourceData (cmd.source p)) := by
    simp only [ShowWrite.check, showCmd_code hk]
  show cmd.body c t = _
  simp [ShowCmd.body, State.stageWrite, State.staged, writeBytes, hw, ht, hc, hp, hl, hf, hck, hr, hb2, hcode]

end Sys2Proof.Machine
end

