-- ==== Sys2Proof/Laws/Memory.lean ====
section
/-!
SUPPORT. Laws/Memory.lean: the laws of the host region: a read after a write gives the byte written, every other byte is left
alone, and every write keeps the canonical form.
-/

namespace Sys2Proof.Machine

/-! ### One byte -/

/-- A memory whose addresses start at `a` also starts below it. -/
theorem memFrom_mono {a b : Nat} {m : List Host.Cell} (h : memFrom a m = true) (le : b ≤ a) : memFrom b m = true := by
  cases m with
  | nil => rfl
  | cons c m =>
    simp only [memFrom, Bool.and_eq_true, decide_eq_true_eq] at h ⊢
    exact ⟨⟨Nat.le_trans le h.1.1, h.1.2⟩, h.2⟩

/-- Below its first address a memory reads as 0. -/
theorem memRead_below {a x : Nat} {m : List Host.Cell} (h : memFrom a m = true) (lt : x < a) : memRead m x = 0 := by
  induction m generalizing a with
  | nil => rfl
  | cons c m ih =>
    simp only [memFrom, Bool.and_eq_true, decide_eq_true_eq] at h
    rw [memRead, if_neg (by omega : ¬x = c.1)]
    exact ih h.2 (by omega)

/-- A write keeps the canonical form. -/
theorem memWrite_from {b a : Nat} {m : List Host.Cell} (v : Byte) (h : memFrom b m = true) (le : b ≤ a) :
    memFrom b (memWrite m a v) = true := by
  induction m generalizing b with
  | nil =>
    unfold memWrite
    split
    · rfl
    · simpa [memFrom, le] using ‹¬v = 0›
  | cons c m ih =>
    have h0 := h
    simp only [memFrom, Bool.and_eq_true, decide_eq_true_eq] at h
    unfold memWrite
    split
    · split
      · exact h0
      · simp only [memFrom, Bool.and_eq_true, decide_eq_true_eq]
        exact ⟨⟨le, by simpa using ‹¬v = 0›⟩, ⟨by omega, h.1.2⟩, h.2⟩
    · split
      · split
        · exact memFrom_mono h.2 (by omega)
        · simp only [memFrom, Bool.and_eq_true, decide_eq_true_eq]
          subst_vars
          exact ⟨⟨le, by simpa using ‹¬v = 0›⟩, h.2⟩
      · simp only [memFrom, Bool.and_eq_true, decide_eq_true_eq]
        exact ⟨h.1, ih h.2 (by omega)⟩

/-- A byte written reads back, and every other byte reads as before. -/
theorem memRead_memWrite {b : Nat} {m : List Host.Cell} (a x : Nat) (v : Byte) (h : memFrom b m = true) :
    memRead (memWrite m a v) x = if x = a then v else memRead m x := by
  induction m generalizing b with
  | nil =>
    unfold memWrite
    split
    · by_cases hx : x = a
      · rw [if_pos hx, ‹v = 0›]; rfl
      · rw [if_neg hx]
    · rfl
  | cons c m ih =>
    simp only [memFrom, Bool.and_eq_true, decide_eq_true_eq] at h
    have low : ∀ y, y < c.1 + 1 → memRead m y = 0 := fun y => memRead_below h.2
    unfold memWrite
    split
    · split
      · by_cases hx : x = a
        · subst hx; simp only [memRead, if_true, *]; rw [if_neg (by omega)]; exact low _ (by omega)
        · rw [if_neg hx]
      · simp only [memRead]
    · split
      · split
        · by_cases hx : x = a
          · rw [if_pos hx, hx, low a (by omega), ‹v = 0›]
          · rw [if_neg hx, memRead, if_neg (by omega)]
        · simp only [memRead]
          by_cases hx : x = a
          · simp [hx]
          · rw [if_neg hx, if_neg hx, if_neg (by omega)]
      · simp only [memRead, ih h.2]
        by_cases hx : x = c.1
        · rw [if_pos hx, if_neg (by omega), if_pos hx]
        · rw [if_neg hx, if_neg hx]

/-! ### Ranges -/

/-- Writing a range keeps the canonical form. -/
theorem memWriteBytes_wf {m : List Host.Cell} (a : Nat) (bs : Bytes) (h : Memory.wf m = true) :
    Memory.wf (memWriteBytes m a bs) = true := by
  induction bs generalizing m a with
  | nil => exact h
  | cons v vs ih => exact ih (a + 1) (memWrite_from v h (Nat.zero_le a))

/-- What a memory reads as after a range was written: the range's bytes inside it, and what it read before outside. -/
theorem memRead_memWriteBytes {m : List Host.Cell} (a x : Nat) (bs : Bytes) (h : Memory.wf m = true) :
    memRead (memWriteBytes m a bs) x = if a ≤ x ∧ x < a + bs.length then bs.getD (x - a) 0 else memRead m x := by
  induction bs generalizing m a with
  | nil => rw [memWriteBytes, if_neg (by simp)]
  | cons v vs ih =>
    rw [memWriteBytes, ih (a + 1) (memWrite_from v h (Nat.zero_le a)), memRead_memWrite a x v h]
    rcases Nat.lt_trichotomy x a with lt | rfl | lt
    · rw [if_neg (by omega), if_neg (by omega), if_neg (by omega)]
    · rw [if_neg (by omega), if_pos rfl, if_pos (by simp), Nat.sub_self]; rfl
    · by_cases hi : x < a + 1 + vs.length
      · rw [if_pos ⟨by omega, hi⟩, if_pos ⟨by omega, by simp only [List.length_cons]; omega⟩]
        obtain ⟨k, rfl⟩ : ∃ k, x = a + 1 + k := ⟨x - (a + 1), by omega⟩
        rw [show a + 1 + k - (a + 1) = k by omega, show a + 1 + k - a = k + 1 by omega]; rfl
      · rw [if_neg (by omega), if_neg (by omega), if_neg (by simp only [List.length_cons]; omega)]

/-- A write to the host region keeps its canonical form. -/
theorem State.writeRegion_wf (s : State) (off : Nat) (bs : Bytes) (h : Memory.wf s.mem = true) :
    Memory.wf (s.writeRegion off bs).mem = true := memWriteBytes_wf off bs h

/-- What the host region reads as after a write. -/
theorem State.writeRegion_read (s : State) (off x : Nat) (bs : Bytes) (h : Memory.wf s.mem = true) :
    memRead (s.writeRegion off bs).mem x = if off ≤ x ∧ x < off + bs.length then bs.getD (x - off) 0 else memRead s.mem x :=
  memRead_memWriteBytes off x bs h

end Sys2Proof.Machine
end

