-- ==== Sys2Proof/WellFormed.lean ====
section
/-!
DEFINITION. WellFormed.lean: the commands whose operands lie in the ranges that the spec gives them: numbers of mailboxes, rings,
ports, inputs, outputs and units (R46, R63, R88, R156, R448, R472), register values of 32 bits (64 for wide registers), and
field widths of received messages. The meanings are total: an ill-formed command is none that the device can see, and what the
model does with it is not the spec's.
-/

namespace Sys2Proof

open Sys2Proof.Machine

/-- The operands of a command lie in their ranges. -/
def Instr.wellFormed : Instr → Bool
  | .registerWrite _ off size value _ => decide (off < 0x10000) && decide (1 ≤ size) && decide (size ≤ 8) && decide (value < 0x10000000000000000)
  | .hostInterfaceReset _ => true
  | .mbxDoorbell _ m value => decide (m < 16) && decide (value < 0x100000000)
  | .mbxExecute _ _ _ => true
  | .mbxDoneClear _ m value => decide (m < 16) && decide (value < 0x100000000)
  | .sessionOpen _ m => decide (m < 16)
  | .sessionClose _ m => decide (m < 16)
  | .sessionIdleTimeout _ session => decide (session < 0x100000000)
  | .abort _ m => decide (m < 16)
  | .txnOpen _ m => decide (m < 16)
  | .txnCommit _ m => decide (m < 16)
  | .txnCancel _ m => decide (m < 16)
  | .snapOpen _ m => decide (m < 16)
  | .snapClose _ m => decide (m < 16)
  | .fnEnable _ m => decide (m < 16)
  | .fnDisable _ m => decide (m < 16)
  | .fnStatus _ m => decide (m < 16)
  | .drainComplete _ _ => true
  | .drainBoundExpiry _ _ => true
  | .rngEnable _ r value => decide (r < 32) && decide (value < 0x100000000)
  | .rngDisable _ r value => decide (r < 32) && decide (value < 0x100000000)
  | .rngConfigWrite _ r value => decide (r < 32) && decide (value < 0x100000000)
  | .rngBaseWrite _ r value => decide (r < 32) && decide (value < 0x10000000000000000)
  | .rngHostIdxWrite _ r value _ => decide (r < 32) && decide (value < 0x100000000)
  | .rngDrainEnd _ r => decide (r < 32)
  | .bulkDescriptorStart _ r => decide (r < 32)
  | .bulkDescriptorDone _ r _ _ _ => decide (r < 32)
  | .completionHeldDeliver _ => true
  | .heartbeatTick _ => true
  | .showBoundary _ => true
  | .latchPoint _ => true
  | .mainWindowClose _ => true
  | .canvasWindowOpen _ k => decide (k < 8)
  | .canvasWindowClose _ k => decide (k < 8)
  | .sliceWindowClose _ k j => decide (k < 8) && decide (j < 16)
  | .taskReady _ _ => true
  | .taskGrant _ => true
  | .taskComplete _ cluster _ => decide (cluster < 64)
  | .governorDecision _ => true
  | .gapStart _ k => decide (k < 8)
  | .scanStart _ k _ => decide (k < 8)
  | .emissionInstant _ kind number _ _ => decide (kind < 5) && decide (number < 65536)
  | .lightTime _ => true
  | .actionTakesEffect _ => true
  | .showClockStart _ m => decide (m < 16)
  | .showClockStarts _ => true
  | .acqTimeout _ => true
  | .showTimingSet _ m => decide (m < 16)
  | .sliceModeSet _ m => decide (m < 16)
  | .showClockStatus _ m => decide (m < 16)
  | .referenceBoundary _ _ _ _ => true
  | .ltcWord _ word => decide (word < 0x100000000)
  | .refLost _ => true
  | .refValid _ => true
  | .ptpSyncRx _ _ => true
  | .ptpFollowUpRx _ _ => true
  | .ptpDelayRespRx _ _ => true
  | .ptpAnnounceRx _ _ => true
  | .ptpDelayReqTx _ => true
  | .announceReceiptTimeout _ => true
  | .syncLossTimeout _ => true
  | .ptpConfig _ m => decide (m < 16)
  | .ptpStatus _ m => decide (m < 16)
  | .timeConfig _ m => decide (m < 16)
  | .timeStep _ m => decide (m < 16)
  | .pulseSet _ m => decide (m < 16)
  | .pulseEdge _ output => decide (output < 8)
  | .pulseEnd _ output => decide (output < 8)
  | .captureSet _ m => decide (m < 16)
  | .captureEdge _ input _ => decide (input < 8)
  | .timLatch _ => true
  | .timCapPop _ input => decide (input < 8)
  | .profileLoad _ m => decide (m < 16)
  | .profileDelete _ m => decide (m < 16)
  | .profileRead _ m => decide (m < 16)
  | .patchWrite _ m => decide (m < 16)
  | .patchWriteDone _ _ _ => true
  | .patchClear _ m => decide (m < 16)
  | .patchRead _ m => decide (m < 16)
  | .paramWrite _ m => decide (m < 16)
  | .paramRead _ m => decide (m < 16)
  | .poolStatus _ m => decide (m < 16)
  | .cuelistLoad _ m => decide (m < 16)
  | .cuelistLoadDone _ _ _ => true
  | .sourceDelete _ m => decide (m < 16)
  | .effectDefine _ m => decide (m < 16)
  | .effectTableLoad _ m => decide (m < 16)
  | .playbackAction _ m => decide (m < 16)
  | .playbackStatus _ m => decide (m < 16)
  | .layerSet _ m => decide (m < 16)
  | .policySet _ m => decide (m < 16)
  | .sacnRxSet _ m => decide (m < 16)
  | .dmxInSet _ m => decide (m < 16)
  | .liveWrite _ m => decide (m < 16)
  | .videoInSet _ m => decide (m < 16)
  | .videoSampleSet _ m => decide (m < 16)
  | .videoSampleSetDone _ _ _ => true
  | .videoMapSet _ m => decide (m < 16)
  | .inputStatus _ m => decide (m < 16)
  | .mergeRead _ m => decide (m < 16)
  | .sacnDataRx _ _ => true
  | .sacnSyncRx _ port _ p => decide (port < 4) && decide (p.addr < 65536)
  | .sacnSourceTimeout _ uni _ => decide (uni < 65536)
  | .sacnSyncTimeout _ addr => decide (addr < 65536)
  | .dmxInPacket _ port start slots _ => decide (port < 16) && decide (start < 256) && decide (slots.length ≤ 512)
  | .dmxInTimeout _ port => decide (port < 16)
  | .videoPacketRx _ input _ => decide (input < 2)
  | .videoFrameTimeout _ input => decide (input < 2)
  | .videoLossTimeout _ input => decide (input < 2)
  | .calibSet _ m => decide (m < 16)
  | .calibSetDone _ _ _ => true
  | .regionSet _ m => decide (m < 16)
  | .regionSetDone _ _ _ => true
  | .feederSet _ m => decide (m < 16)
  | .feederMemberSet _ m => decide (m < 16)
  | .feederStatus _ m => decide (m < 16)
  | .solveRead _ m => decide (m < 16)
  | .canvasSet _ m => decide (m < 16)
  | .segmentSet _ m => decide (m < 16)
  | .pixelMapSet _ m => decide (m < 16)
  | .pixelMapSetDone _ _ _ => true
  | .rectCheckSet _ m => decide (m < 16)
  | .teSet _ m => decide (m < 16)
  | .displaySet _ m => decide (m < 16)
  | .canvasStatus _ m => decide (m < 16)
  | .displayStatus _ m => decide (m < 16)
  | .tileLatchMissingTimeout _ lane tileNo => decide (lane < 64) && decide (tileNo < 1024)
  | .teEdge _ input _ => decide (input < 4)
  | .teMissingTimeout _ input => decide (input < 4)
  | .dpHpdChange _ _ => true
  | .dpIrqHpd _ _ => true
  | .dpTrainingDone _ _ => true
  | .dpTrainRetry _ => true
  | .dpVblank _ => true
  | .dpLineFetch _ _ => true
  | .curveLoad _ m => decide (m < 16)
  | .outputGroupSet _ m => decide (m < 16)
  | .tempSourceSet _ m => decide (m < 16)
  | .derateSet _ m => decide (m < 16)
  | .safetyGroupSet _ m => decide (m < 16)
  | .safetyMemberSet _ m => decide (m < 16)
  | .safetyMemberSetDone _ _ _ => true
  | .safetyClear _ m => decide (m < 16)
  | .safetyStatus _ m => decide (m < 16)
  | .derateStatus _ m => decide (m < 16)
  | .emitStatus _ m => decide (m < 16)
  | .laneTrained _ lane => decide (lane < 64)
  | .laneTrainTimeout _ lane => decide (lane < 64)
  | .laneLinkLoss _ lane => decide (lane < 64)
  | .latchAck _ lane tileNo frameLo ageNs => decide (lane < 64) && decide (tileNo < 1024) && decide (frameLo < 0x100000000) && decide (ageNs < 0x100000000)
  | .temp _ lane tileNo _ raw => decide (lane < 64) && decide (tileNo < 1024) && decide (raw < 65536)
  | .fault _ lane tileNo kind => decide (lane < 64) && decide (tileNo < 1024) && decide (kind < 256)
  | .rxError _ lane => decide (lane < 64)
  | .retrain _ lane => decide (lane < 64)
  | .testEcho _ lane frameLo crc => decide (lane < 64) && decide (frameLo < 0x100000000) && decide (crc < 0x100000000)
  | .backchannelMessageDiscard _ lane => decide (lane < 64)
  | .laneSet _ m => decide (m < 16)
  | .lanePhySet _ m => decide (m < 16)
  | .dmxPortSet _ m => decide (m < 16)
  | .pwmSet _ m => decide (m < 16)
  | .rdmTransaction _ m => decide (m < 16)
  | .rdmTransactionStart _ port => decide (port < 16)
  | .rdmResponseEnd _ port _ _ => decide (port < 16)
  | .portStatus _ m => decide (m < 16)
  | .pwmPeriodStart _ output => decide (output < 32)
  | .pwmSenseSample _ output _ => decide (output < 32)
  | .netLinkUp _ link => decide (link.port < 5) && [10, 100, 1000].contains link.mbit
  | .netLinkDown _ port _ _ _ => decide (port < 5)
  | .netFrameRx _ port _ _ => decide (port < 5)
  | .pauseExpiry _ port => decide (port < 5)
  | .netFrameTx _ port _ => decide (port < 5)
  | .sacnDiscoveryTimer _ => true
  | .netPortSet _ m => decide (m < 16)
  | .netRingBind _ m => decide (m < 16)
  | .netPortStatus _ m => decide (m < 16)
  | .netRingStatus _ m => decide (m < 16)
  | .sacnTxConfig _ m => decide (m < 16)
  | .sacnTxUniverseSet _ m => decide (m < 16)
  | .macsecSecySet _ m => decide (m < 16)
  | .macsecSaSet _ m => decide (m < 16)
  | .macsecStatus _ m => decide (m < 16)
  | .mtrSample _ raw => decide (raw.length ≤ 64)
  | .mtrZeroCrossing _ point _ => decide (point < 32)
  | .mtrZcTimeout _ point => decide (point < 32)
  | .mtrAuxPeriodEnd _ channel => decide (channel < 64)
  | .mtrRoveStart _ => true
  | .mtrRoveTakeover _ => true
  | .mtrRoveRejoin _ _ _ => true
  | .mtrRoveReturn _ _ => true
  | .mtrRoveEnd _ => true
  | .mtrPulseEdge _ output => decide (output < 8)
  | .mtrPulseEnd _ output => decide (output < 8)
  | .mtrChannelSet _ m => decide (m < 16)
  | .mtrPointSet _ m => decide (m < 16)
  | .mtrEnergyPreset _ m => decide (m < 16)
  | .mtrPulseSet _ m => decide (m < 16)
  | .mtrRoveSet _ m => decide (m < 16)
  | .mtrPulseStatus _ m => decide (m < 16)
  | .mtrLatchRead _ m => decide (m < 16)
  | .mtrCycleRead _ m => decide (m < 16)
  | .mtrChannelStatus _ m => decide (m < 16)
  | .mtrCapture _ m => decide (m < 16)
  | .mtrCaptureDone _ _ => true
  | .counterAccess _ m => decide (m < 16)
  | .counterConfig _ m => decide (m < 16)
  | .counterDump _ m => decide (m < 16)
  | .traceConfig _ m => decide (m < 16)
  | .traceRead _ m => decide (m < 16)
  | .renderStatus _ m => decide (m < 16)
  | .pcnValueRead _ => true
  | .snpTake _ => true
  | .snpFreeze _ _ => true
  | .snpCaptureDone _ => true
  | .icuPendSet _ p value => decide (p < 8) && decide (value < 0x100000000)
  | .icuPendClear _ p value => decide (p < 8) && decide (value < 0x100000000)
  | .icuClaim _ target => decide (target < 36)
  | .icuComplete _ target value => decide (target < 36) && decide (value < 0x100000000)
  | .icuConfigWrite _ off value => icuConfigOff off && decide (value < 0x100000000)
  | .msixMaskChange _ _ _ => true
  | .icuHoldoffExpiry _ g => decide (g < 16)
  | .icuRedirect _ source => decide (source < 256)
  | .eccRowRetire _ mem addr => decide (mem < 6) && decide (addr < 0x10000000000)
  | .scrubRead _ _ _ => true
  | .parityRestore _ addr => decide (addr < 0x10000000000)
  | .queueRebuild _ queue => decide (queue < 65536)
  | .eccFlipArm _ value => decide (value < 0x100000000)
  | .eccAccess _ m => decide (m < 16)
  | .queueStatus _ m => decide (m < 16)
  | .queueWmSet _ m => decide (m < 16)
  | .zlkBlockLock _ link => decide (link < 6)
  | .zlkHelloRx _ link _ _ => decide (link < 6)
  | .zlkHelloTimer _ link => decide (link < 6)
  | .zlkLockLoss _ link => decide (link < 6)
  | .zlkDataRx _ link _ => decide (link < 6)
  | .zlkAckRx _ link ack _ => decide (link < 6) && decide (ack < 65536)
  | .zlkNakRx _ link ack _ => decide (link < 6) && decide (ack < 65536)
  | .zlkTimeRx _ link seq ack _ _ _ _ => decide (link < 6) && decide (seq < 65536) && decide (ack < 65536)
  | .zlkRetryTimeout _ link => decide (link < 6)
  | .groupFormation _ _ => true
  | .groupFormationTimeout _ _ => true
  | .memberLossTimeout _ who => decide (who < 32)
  | .coordinatorLossTimeout _ => true
  | .resyncStart _ => true
  | .resyncDone _ => true
  | .commitDeadline _ => true
  | .inputSeal _ => true
  | .digestTimeout _ => true
  | .selfCheckDone _ _ _ => true
  | .mismatchOutcome _ _ => true
  | .tangoPeerActLow _ => true
  | .tangoYield _ cause => decide (cause < 256)
  | .tangoYieldPulseEnd _ => true
  | .tangoYieldNetLow _ => true
  | .tangoYieldNetStuck _ => true
  | .standbyDetachTimeout _ => true
  | .loopbackTest _ _ _ => true
  | .groupConfig _ m => decide (m < 16)
  | .groupConfigDone _ _ => true
  | .groupStatus _ m => decide (m < 16)
  | .partitionSet _ m => decide (m < 16)
  | .tangoSwitch _ m => decide (m < 16)
  | .cotillionStatus _ m => decide (m < 16)
  | .updateBegin _ m => decide (m < 16)
  | .updateBeginDone _ _ => true
  | .updateBlock _ m => decide (m < 16)
  | .updateBlockDone _ _ _ => true
  | .updateVerify _ m => decide (m < 16)
  | .updateVerifyDone _ _ => true
  | .updateActivate _ m => decide (m < 16)
  | .activationDecision _ => true
  | .partStartFail _ part => decide (part < 16)
  | .activationComplete _ => true
  | .updateStatus _ m => decide (m < 16)
  | .fwRestart _ => true
  | .fwRestartEnd _ => true
  | .authChallenge _ m => decide (m < 16)
  | .credSet _ m => decide (m < 16)
  | .credSetDone _ _ => true
  | .keyEstablish _ m => decide (m < 16)
  | .keyEstablishDone _ _ => true
  | .keyInstall _ m => decide (m < 16)
  | .keyInstallDone _ _ => true
  | .auditRead _ m => decide (m < 16)
  | .auditReadDone _ _ => true
  | .debugSet _ m => decide (m < 16)
  | .debugAttach _ => true
  | .securityStatus _ m => decide (m < 16)
  | .authLockoutEnd _ => true
  | .trngFault _ test => decide (test < 256)
  | .powerOn _ => true
  | .porstNAssert _ => true
  | .resetRelease _ rank _ => decide (rank < 16)
  | .lanishambeStart _ _ _ part => decide (part < 16)
  | .mbxReadyReached _ _ => true
  | .supplyFault _ rail => decide (rail < 8)
  | .supplyReset _ => true
  | .refclkLoss _ => true
  | .pllLockLoss _ => true
  | .dpPllLoss _ => true
  | .mgmtWatchdogExpiry _ => true
  | .renderStall _ => true
  | .renderStallReset _ => true
  | .arbiterInterval _ _ _ _ _ _ _ => true
  | .thermalHigh _ _ => true
  | .thermalTrip _ _ => true
  | .powerConfig _ m => decide (m < 16)
  | .supplyStatus _ m => decide (m < 16)
  | .bar2Write _ off _ => decide (off < 0x20000000)
  | .counterWrap _ unit counter => decide (unit < 256) && decide (counter < 8)
  | .mtrPulseGapEnd _ output => decide (output < 8)
  | .loopbackEchoTimeout _ _ => true
  | .tangoYieldNetHigh _ => true
  | .trngHealthy _ => true
  | .railWithinTolerance _ rail => decide (rail < 8)
  | .dpPllRelock _ => true

end Sys2Proof
end

