-- ==== Sys2Proof/Laws/PerInstr.lean ====
section
/-!
SUPPORT. Laws/PerInstr.lean: what holds of every command as syntax: one lemma per constructor.
-/

namespace Sys2Proof.Laws.Mailbox

open Sys2Proof.Machine

/-- A well-formed command that completes a mailbox request, TXN_COMMIT apart, names one of the 16 mailboxes (R63). -/
def Statement (i : Instr) : Prop := ∀ dt m spec, i.wellFormed = true → mailboxOf i = some (dt, m, spec) → m < 16

/-- A command that completes no mailbox request. -/
theorem of_none {i : Instr} (h : mailboxOf i = none) : Statement i := fun _ _ _ _ e => by rw [h] at e; cases e

/-- A command that completes the request of mailbox `m`. -/
theorem of_some {i : Instr} {dt m : Nat} {spec : CommandSpec} (h : mailboxOf i = some (dt, m, spec)) (w : i.wellFormed = true → m < 16) :
    Statement i := fun _ _ _ wf e => by rw [h] at e; cases e; exact w wf

theorem registerWrite (dt off size value : Nat) (posted : List BulkDesc) : Statement (.registerWrite dt off size value posted) := of_none rfl
theorem hostInterfaceReset (dt : Nat) : Statement (.hostInterfaceReset dt) := of_none rfl
theorem mbxDoorbell (dt m value : Nat) : Statement (.mbxDoorbell dt m value) := of_none rfl
theorem mbxExecute (dt : Nat) (hold poison : Bool) : Statement (.mbxExecute dt hold poison) := of_none rfl
theorem mbxDoneClear (dt m value : Nat) : Statement (.mbxDoneClear dt m value) := of_none rfl
theorem sessionOpen (dt m : Nat) : Statement (.sessionOpen dt m) := of_some rfl of_decide_eq_true
theorem sessionClose (dt m : Nat) : Statement (.sessionClose dt m) := of_some rfl of_decide_eq_true
theorem sessionIdleTimeout (dt session : Nat) : Statement (.sessionIdleTimeout dt session) := of_none rfl
theorem abort (dt m : Nat) : Statement (.abort dt m) := of_some rfl of_decide_eq_true
theorem txnOpen (dt m : Nat) : Statement (.txnOpen dt m) := of_some rfl of_decide_eq_true
theorem txnCommit (dt m : Nat) : Statement (.txnCommit dt m) := of_none rfl
theorem txnCancel (dt m : Nat) : Statement (.txnCancel dt m) := of_some rfl of_decide_eq_true
theorem snapOpen (dt m : Nat) : Statement (.snapOpen dt m) := of_some rfl of_decide_eq_true
theorem snapClose (dt m : Nat) : Statement (.snapClose dt m) := of_some rfl of_decide_eq_true
theorem fnEnable (dt m : Nat) : Statement (.fnEnable dt m) := of_some rfl of_decide_eq_true
theorem fnDisable (dt m : Nat) : Statement (.fnDisable dt m) := of_some rfl of_decide_eq_true
theorem fnStatus (dt m : Nat) : Statement (.fnStatus dt m) := of_some rfl of_decide_eq_true
theorem drainComplete (dt fn : Nat) : Statement (.drainComplete dt fn) := of_none rfl
theorem drainBoundExpiry (dt fn : Nat) : Statement (.drainBoundExpiry dt fn) := of_none rfl
theorem rngEnable (dt r value : Nat) : Statement (.rngEnable dt r value) := of_none rfl
theorem rngDisable (dt r value : Nat) : Statement (.rngDisable dt r value) := of_none rfl
theorem rngConfigWrite (dt r value : Nat) : Statement (.rngConfigWrite dt r value) := of_none rfl
theorem rngBaseWrite (dt r value : Nat) : Statement (.rngBaseWrite dt r value) := of_none rfl
theorem rngHostIdxWrite (dt r value : Nat) (posted : List BulkDesc) : Statement (.rngHostIdxWrite dt r value posted) := of_none rfl
theorem rngDrainEnd (dt r : Nat) : Statement (.rngDrainEnd dt r) := of_none rfl
theorem bulkDescriptorStart (dt r : Nat) : Statement (.bulkDescriptorStart dt r) := of_none rfl
theorem bulkDescriptorDone (dt r : Nat) (hostErr poison : Bool) (data : Bytes) : Statement (.bulkDescriptorDone dt r hostErr poison data) := of_none rfl
theorem completionHeldDeliver (dt : Nat) : Statement (.completionHeldDeliver dt) := of_none rfl
theorem heartbeatTick (dt : Nat) : Statement (.heartbeatTick dt) := of_none rfl
theorem showBoundary (dt : Nat) : Statement (.showBoundary dt) := of_none rfl
theorem latchPoint (dt : Nat) : Statement (.latchPoint dt) := of_none rfl
theorem mainWindowClose (dt : Nat) : Statement (.mainWindowClose dt) := of_none rfl
theorem canvasWindowOpen (dt k : Nat) : Statement (.canvasWindowOpen dt k) := of_none rfl
theorem canvasWindowClose (dt k : Nat) : Statement (.canvasWindowClose dt k) := of_none rfl
theorem sliceWindowClose (dt k j : Nat) : Statement (.sliceWindowClose dt k j) := of_none rfl
theorem taskReady (dt : Nat) (t : Task) : Statement (.taskReady dt t) := of_none rfl
theorem taskGrant (dt : Nat) : Statement (.taskGrant dt) := of_none rfl
theorem taskComplete (dt cluster : Nat) (poison : Bool) : Statement (.taskComplete dt cluster poison) := of_none rfl
theorem governorDecision (dt : Nat) : Statement (.governorDecision dt) := of_none rfl
theorem gapStart (dt k : Nat) : Statement (.gapStart dt k) := of_none rfl
theorem scanStart (dt k : Nat) (bad : List (Nat × Nat)) : Statement (.scanStart dt k bad) := of_none rfl
theorem emissionInstant (dt kind number frame : Nat) (poison : Bool) : Statement (.emissionInstant dt kind number frame poison) := of_none rfl
theorem lightTime (dt : Nat) : Statement (.lightTime dt) := of_none rfl
theorem actionTakesEffect (dt : Nat) : Statement (.actionTakesEffect dt) := of_none rfl
theorem showClockStart (dt m : Nat) : Statement (.showClockStart dt m) := of_some rfl of_decide_eq_true
theorem showClockStarts (dt : Nat) : Statement (.showClockStarts dt) := of_none rfl
theorem acqTimeout (dt : Nat) : Statement (.acqTimeout dt) := of_none rfl
theorem showTimingSet (dt m : Nat) : Statement (.showTimingSet dt m) := of_some rfl of_decide_eq_true
theorem sliceModeSet (dt m : Nat) : Statement (.sliceModeSet dt m) := of_some rfl of_decide_eq_true
theorem showClockStatus (dt m : Nat) : Statement (.showClockStatus dt m) := of_some rfl of_decide_eq_true
theorem referenceBoundary (dt key cycles back : Nat) : Statement (.referenceBoundary dt key cycles back) := of_none rfl
theorem ltcWord (dt word : Nat) : Statement (.ltcWord dt word) := of_none rfl
theorem refLost (dt : Nat) : Statement (.refLost dt) := of_none rfl
theorem refValid (dt : Nat) : Statement (.refValid dt) := of_none rfl
theorem ptpSyncRx (dt : Nat) (msg : PtpTimed) : Statement (.ptpSyncRx dt msg) := of_none rfl
theorem ptpFollowUpRx (dt : Nat) (msg : PtpTimed) : Statement (.ptpFollowUpRx dt msg) := of_none rfl
theorem ptpDelayRespRx (dt : Nat) (msg : PtpTimed) : Statement (.ptpDelayRespRx dt msg) := of_none rfl
theorem ptpAnnounceRx (dt : Nat) (msg : PtpAnnounce) : Statement (.ptpAnnounceRx dt msg) := of_none rfl
theorem ptpDelayReqTx (dt : Nat) : Statement (.ptpDelayReqTx dt) := of_none rfl
theorem announceReceiptTimeout (dt : Nat) : Statement (.announceReceiptTimeout dt) := of_none rfl
theorem syncLossTimeout (dt : Nat) : Statement (.syncLossTimeout dt) := of_none rfl
theorem ptpConfig (dt m : Nat) : Statement (.ptpConfig dt m) := of_some rfl of_decide_eq_true
theorem ptpStatus (dt m : Nat) : Statement (.ptpStatus dt m) := of_some rfl of_decide_eq_true
theorem timeConfig (dt m : Nat) : Statement (.timeConfig dt m) := of_some rfl of_decide_eq_true
theorem timeStep (dt m : Nat) : Statement (.timeStep dt m) := of_some rfl of_decide_eq_true
theorem pulseSet (dt m : Nat) : Statement (.pulseSet dt m) := of_some rfl of_decide_eq_true
theorem pulseEdge (dt output : Nat) : Statement (.pulseEdge dt output) := of_none rfl
theorem pulseEnd (dt output : Nat) : Statement (.pulseEnd dt output) := of_none rfl
theorem captureSet (dt m : Nat) : Statement (.captureSet dt m) := of_some rfl of_decide_eq_true
theorem captureEdge (dt input : Nat) (rising : Bool) : Statement (.captureEdge dt input rising) := of_none rfl
theorem timLatch (dt : Nat) : Statement (.timLatch dt) := of_none rfl
theorem timCapPop (dt input : Nat) : Statement (.timCapPop dt input) := of_none rfl
theorem profileLoad (dt m : Nat) : Statement (.profileLoad dt m) := of_some rfl of_decide_eq_true
theorem profileDelete (dt m : Nat) : Statement (.profileDelete dt m) := of_some rfl of_decide_eq_true
theorem profileRead (dt m : Nat) : Statement (.profileRead dt m) := of_some rfl of_decide_eq_true
theorem patchWrite (dt m : Nat) : Statement (.patchWrite dt m) := of_some rfl of_decide_eq_true
theorem patchWriteDone (dt op : Nat) (poison : Bool) : Statement (.patchWriteDone dt op poison) := of_none rfl
theorem patchClear (dt m : Nat) : Statement (.patchClear dt m) := of_some rfl of_decide_eq_true
theorem patchRead (dt m : Nat) : Statement (.patchRead dt m) := of_some rfl of_decide_eq_true
theorem paramWrite (dt m : Nat) : Statement (.paramWrite dt m) := of_some rfl of_decide_eq_true
theorem paramRead (dt m : Nat) : Statement (.paramRead dt m) := of_some rfl of_decide_eq_true
theorem poolStatus (dt m : Nat) : Statement (.poolStatus dt m) := of_some rfl of_decide_eq_true
theorem cuelistLoad (dt m : Nat) : Statement (.cuelistLoad dt m) := of_some rfl of_decide_eq_true
theorem cuelistLoadDone (dt op : Nat) (poison : Bool) : Statement (.cuelistLoadDone dt op poison) := of_none rfl
theorem sourceDelete (dt m : Nat) : Statement (.sourceDelete dt m) := of_some rfl of_decide_eq_true
theorem effectDefine (dt m : Nat) : Statement (.effectDefine dt m) := of_some rfl of_decide_eq_true
theorem effectTableLoad (dt m : Nat) : Statement (.effectTableLoad dt m) := of_some rfl of_decide_eq_true
theorem playbackAction (dt m : Nat) : Statement (.playbackAction dt m) := of_some rfl of_decide_eq_true
theorem playbackStatus (dt m : Nat) : Statement (.playbackStatus dt m) := of_some rfl of_decide_eq_true
theorem layerSet (dt m : Nat) : Statement (.layerSet dt m) := of_some rfl of_decide_eq_true
theorem policySet (dt m : Nat) : Statement (.policySet dt m) := of_some rfl of_decide_eq_true
theorem sacnRxSet (dt m : Nat) : Statement (.sacnRxSet dt m) := of_some rfl of_decide_eq_true
theorem dmxInSet (dt m : Nat) : Statement (.dmxInSet dt m) := of_some rfl of_decide_eq_true
theorem liveWrite (dt m : Nat) : Statement (.liveWrite dt m) := of_some rfl of_decide_eq_true
theorem videoInSet (dt m : Nat) : Statement (.videoInSet dt m) := of_some rfl of_decide_eq_true
theorem videoSampleSet (dt m : Nat) : Statement (.videoSampleSet dt m) := of_some rfl of_decide_eq_true
theorem videoSampleSetDone (dt op : Nat) (poison : Bool) : Statement (.videoSampleSetDone dt op poison) := of_none rfl
theorem videoMapSet (dt m : Nat) : Statement (.videoMapSet dt m) := of_some rfl of_decide_eq_true
theorem inputStatus (dt m : Nat) : Statement (.inputStatus dt m) := of_some rfl of_decide_eq_true
theorem mergeRead (dt m : Nat) : Statement (.mergeRead dt m) := of_some rfl of_decide_eq_true
theorem sacnDataRx (dt : Nat) (packet : SacnData) : Statement (.sacnDataRx dt packet) := of_none rfl
theorem sacnSyncRx (dt port cid : Nat) (packet : Machine.SacnSync) : Statement (.sacnSyncRx dt port cid packet) := of_none rfl
theorem sacnSourceTimeout (dt uni cid : Nat) : Statement (.sacnSourceTimeout dt uni cid) := of_none rfl
theorem sacnSyncTimeout (dt addr : Nat) : Statement (.sacnSyncTimeout dt addr) := of_none rfl
theorem dmxInPacket (dt port start : Nat) (slots : Bytes) (line : Machine.DmxLine) : Statement (.dmxInPacket dt port start slots line) := of_none rfl
theorem dmxInTimeout (dt port : Nat) : Statement (.dmxInTimeout dt port) := of_none rfl
theorem videoPacketRx (dt input : Nat) (packet : VideoPacket) : Statement (.videoPacketRx dt input packet) := of_none rfl
theorem videoFrameTimeout (dt input : Nat) : Statement (.videoFrameTimeout dt input) := of_none rfl
theorem videoLossTimeout (dt input : Nat) : Statement (.videoLossTimeout dt input) := of_none rfl
theorem calibSet (dt m : Nat) : Statement (.calibSet dt m) := of_some rfl of_decide_eq_true
theorem calibSetDone (dt op : Nat) (poison : Bool) : Statement (.calibSetDone dt op poison) := of_none rfl
theorem regionSet (dt m : Nat) : Statement (.regionSet dt m) := of_some rfl of_decide_eq_true
theorem regionSetDone (dt op : Nat) (poison : Bool) : Statement (.regionSetDone dt op poison) := of_none rfl
theorem feederSet (dt m : Nat) : Statement (.feederSet dt m) := of_some rfl of_decide_eq_true
theorem feederMemberSet (dt m : Nat) : Statement (.feederMemberSet dt m) := of_some rfl of_decide_eq_true
theorem feederStatus (dt m : Nat) : Statement (.feederStatus dt m) := of_some rfl of_decide_eq_true
theorem solveRead (dt m : Nat) : Statement (.solveRead dt m) := of_some rfl of_decide_eq_true
theorem canvasSet (dt m : Nat) : Statement (.canvasSet dt m) := of_some rfl of_decide_eq_true
theorem segmentSet (dt m : Nat) : Statement (.segmentSet dt m) := of_some rfl of_decide_eq_true
theorem pixelMapSet (dt m : Nat) : Statement (.pixelMapSet dt m) := of_some rfl of_decide_eq_true
theorem pixelMapSetDone (dt op : Nat) (poison : Bool) : Statement (.pixelMapSetDone dt op poison) := of_none rfl
theorem rectCheckSet (dt m : Nat) : Statement (.rectCheckSet dt m) := of_some rfl of_decide_eq_true
theorem teSet (dt m : Nat) : Statement (.teSet dt m) := of_some rfl of_decide_eq_true
theorem displaySet (dt m : Nat) : Statement (.displaySet dt m) := of_some rfl of_decide_eq_true
theorem canvasStatus (dt m : Nat) : Statement (.canvasStatus dt m) := of_some rfl of_decide_eq_true
theorem displayStatus (dt m : Nat) : Statement (.displayStatus dt m) := of_some rfl of_decide_eq_true
theorem tileLatchMissingTimeout (dt lane tileNo : Nat) : Statement (.tileLatchMissingTimeout dt lane tileNo) := of_none rfl
theorem teEdge (dt input : Nat) (rising : Bool) : Statement (.teEdge dt input rising) := of_none rfl
theorem teMissingTimeout (dt input : Nat) : Statement (.teMissingTimeout dt input) := of_none rfl
theorem dpHpdChange (dt : Nat) (present : Bool) : Statement (.dpHpdChange dt present) := of_none rfl
theorem dpIrqHpd (dt : Nat) (lockLost : Bool) : Statement (.dpIrqHpd dt lockLost) := of_none rfl
theorem dpTrainingDone (dt : Nat) (link : Option (Nat × Nat)) : Statement (.dpTrainingDone dt link) := of_none rfl
theorem dpTrainRetry (dt : Nat) : Statement (.dpTrainRetry dt) := of_none rfl
theorem dpVblank (dt : Nat) : Statement (.dpVblank dt) := of_none rfl
theorem dpLineFetch (dt : Nat) (poisoned : List Nat) : Statement (.dpLineFetch dt poisoned) := of_none rfl
theorem curveLoad (dt m : Nat) : Statement (.curveLoad dt m) := of_some rfl of_decide_eq_true
theorem outputGroupSet (dt m : Nat) : Statement (.outputGroupSet dt m) := of_some rfl of_decide_eq_true
theorem tempSourceSet (dt m : Nat) : Statement (.tempSourceSet dt m) := of_some rfl of_decide_eq_true
theorem derateSet (dt m : Nat) : Statement (.derateSet dt m) := of_some rfl of_decide_eq_true
theorem safetyGroupSet (dt m : Nat) : Statement (.safetyGroupSet dt m) := of_some rfl of_decide_eq_true
theorem safetyMemberSet (dt m : Nat) : Statement (.safetyMemberSet dt m) := of_some rfl of_decide_eq_true
theorem safetyMemberSetDone (dt op : Nat) (poison : Bool) : Statement (.safetyMemberSetDone dt op poison) := of_none rfl
theorem safetyClear (dt m : Nat) : Statement (.safetyClear dt m) := of_some rfl of_decide_eq_true
theorem safetyStatus (dt m : Nat) : Statement (.safetyStatus dt m) := of_some rfl of_decide_eq_true
theorem derateStatus (dt m : Nat) : Statement (.derateStatus dt m) := of_some rfl of_decide_eq_true
theorem emitStatus (dt m : Nat) : Statement (.emitStatus dt m) := of_some rfl of_decide_eq_true
theorem laneTrained (dt lane : Nat) : Statement (.laneTrained dt lane) := of_none rfl
theorem laneTrainTimeout (dt lane : Nat) : Statement (.laneTrainTimeout dt lane) := of_none rfl
theorem laneLinkLoss (dt lane : Nat) : Statement (.laneLinkLoss dt lane) := of_none rfl
theorem latchAck (dt lane tileNo frameLo ageNs : Nat) : Statement (.latchAck dt lane tileNo frameLo ageNs) := of_none rfl
theorem temp (dt lane tileNo : Nat) (failed : Bool) (raw : Nat) : Statement (.temp dt lane tileNo failed raw) := of_none rfl
theorem fault (dt lane tileNo kind : Nat) : Statement (.fault dt lane tileNo kind) := of_none rfl
theorem rxError (dt lane : Nat) : Statement (.rxError dt lane) := of_none rfl
theorem retrain (dt lane : Nat) : Statement (.retrain dt lane) := of_none rfl
theorem testEcho (dt lane frameLo crc : Nat) : Statement (.testEcho dt lane frameLo crc) := of_none rfl
theorem backchannelMessageDiscard (dt lane : Nat) : Statement (.backchannelMessageDiscard dt lane) := of_none rfl
theorem laneSet (dt m : Nat) : Statement (.laneSet dt m) := of_some rfl of_decide_eq_true
theorem lanePhySet (dt m : Nat) : Statement (.lanePhySet dt m) := of_some rfl of_decide_eq_true
theorem dmxPortSet (dt m : Nat) : Statement (.dmxPortSet dt m) := of_some rfl of_decide_eq_true
theorem pwmSet (dt m : Nat) : Statement (.pwmSet dt m) := of_some rfl of_decide_eq_true
theorem rdmTransaction (dt m : Nat) : Statement (.rdmTransaction dt m) := of_some rfl of_decide_eq_true
theorem rdmTransactionStart (dt port : Nat) : Statement (.rdmTransactionStart dt port) := of_none rfl
theorem rdmResponseEnd (dt port : Nat) (brk : Bool) (bytes : Bytes) : Statement (.rdmResponseEnd dt port brk bytes) := of_none rfl
theorem portStatus (dt m : Nat) : Statement (.portStatus dt m) := of_some rfl of_decide_eq_true
theorem pwmPeriodStart (dt output : Nat) : Statement (.pwmPeriodStart dt output) := of_none rfl
theorem pwmSenseSample (dt output : Nat) (current : Bool) : Statement (.pwmSenseSample dt output current) := of_none rfl
theorem netLinkUp (dt : Nat) (link : Machine.LinkUp) : Statement (.netLinkUp dt link) := of_none rfl
theorem netLinkDown (dt port : Nat) (modAbs txFault rxLos : Bool) : Statement (.netLinkDown dt port modAbs txFault rxLos) := of_none rfl
theorem netFrameRx (dt port : Nat) (frame : RxFrame) (stop : Option Nat) : Statement (.netFrameRx dt port frame stop) := of_none rfl
theorem pauseExpiry (dt port : Nat) : Statement (.pauseExpiry dt port) := of_none rfl
theorem netFrameTx (dt port : Nat) (turn : Machine.TxTurn) : Statement (.netFrameTx dt port turn) := of_none rfl
theorem sacnDiscoveryTimer (dt : Nat) : Statement (.sacnDiscoveryTimer dt) := of_none rfl
theorem netPortSet (dt m : Nat) : Statement (.netPortSet dt m) := of_some rfl of_decide_eq_true
theorem netRingBind (dt m : Nat) : Statement (.netRingBind dt m) := of_some rfl of_decide_eq_true
theorem netPortStatus (dt m : Nat) : Statement (.netPortStatus dt m) := of_some rfl of_decide_eq_true
theorem netRingStatus (dt m : Nat) : Statement (.netRingStatus dt m) := of_some rfl of_decide_eq_true
theorem sacnTxConfig (dt m : Nat) : Statement (.sacnTxConfig dt m) := of_some rfl of_decide_eq_true
theorem sacnTxUniverseSet (dt m : Nat) : Statement (.sacnTxUniverseSet dt m) := of_some rfl of_decide_eq_true
theorem macsecSecySet (dt m : Nat) : Statement (.macsecSecySet dt m) := of_some rfl of_decide_eq_true
theorem macsecSaSet (dt m : Nat) : Statement (.macsecSaSet dt m) := of_some rfl of_decide_eq_true
theorem macsecStatus (dt m : Nat) : Statement (.macsecStatus dt m) := of_some rfl of_decide_eq_true
theorem mtrSample (dt : Nat) (raw : List Int) : Statement (.mtrSample dt raw) := of_none rfl
theorem mtrZeroCrossing (dt point : Nat) (stamp : Int) : Statement (.mtrZeroCrossing dt point stamp) := of_none rfl
theorem mtrZcTimeout (dt point : Nat) : Statement (.mtrZcTimeout dt point) := of_none rfl
theorem mtrAuxPeriodEnd (dt channel : Nat) : Statement (.mtrAuxPeriodEnd dt channel) := of_none rfl
theorem mtrRoveStart (dt : Nat) : Statement (.mtrRoveStart dt) := of_none rfl
theorem mtrRoveTakeover (dt : Nat) : Statement (.mtrRoveTakeover dt) := of_none rfl
theorem mtrRoveRejoin (dt : Nat) (kg zg : List Int) : Statement (.mtrRoveRejoin dt kg zg) := of_none rfl
theorem mtrRoveReturn (dt : Nat) (residual : Int) : Statement (.mtrRoveReturn dt residual) := of_none rfl
theorem mtrRoveEnd (dt : Nat) : Statement (.mtrRoveEnd dt) := of_none rfl
theorem mtrPulseEdge (dt output : Nat) : Statement (.mtrPulseEdge dt output) := of_none rfl
theorem mtrPulseEnd (dt output : Nat) : Statement (.mtrPulseEnd dt output) := of_none rfl
theorem mtrChannelSet (dt m : Nat) : Statement (.mtrChannelSet dt m) := of_some rfl of_decide_eq_true
theorem mtrPointSet (dt m : Nat) : Statement (.mtrPointSet dt m) := of_some rfl of_decide_eq_true
theorem mtrEnergyPreset (dt m : Nat) : Statement (.mtrEnergyPreset dt m) := of_some rfl of_decide_eq_true
theorem mtrPulseSet (dt m : Nat) : Statement (.mtrPulseSet dt m) := of_some rfl of_decide_eq_true
theorem mtrRoveSet (dt m : Nat) : Statement (.mtrRoveSet dt m) := of_some rfl of_decide_eq_true
theorem mtrPulseStatus (dt m : Nat) : Statement (.mtrPulseStatus dt m) := of_some rfl of_decide_eq_true
theorem mtrLatchRead (dt m : Nat) : Statement (.mtrLatchRead dt m) := of_some rfl of_decide_eq_true
theorem mtrCycleRead (dt m : Nat) : Statement (.mtrCycleRead dt m) := of_some rfl of_decide_eq_true
theorem mtrChannelStatus (dt m : Nat) : Statement (.mtrChannelStatus dt m) := of_some rfl of_decide_eq_true
theorem mtrCapture (dt m : Nat) : Statement (.mtrCapture dt m) := of_some rfl of_decide_eq_true
theorem mtrCaptureDone (dt op : Nat) : Statement (.mtrCaptureDone dt op) := of_none rfl
theorem counterAccess (dt m : Nat) : Statement (.counterAccess dt m) := of_some rfl of_decide_eq_true
theorem counterConfig (dt m : Nat) : Statement (.counterConfig dt m) := of_some rfl of_decide_eq_true
theorem counterDump (dt m : Nat) : Statement (.counterDump dt m) := of_some rfl of_decide_eq_true
theorem traceConfig (dt m : Nat) : Statement (.traceConfig dt m) := of_some rfl of_decide_eq_true
theorem traceRead (dt m : Nat) : Statement (.traceRead dt m) := of_some rfl of_decide_eq_true
theorem renderStatus (dt m : Nat) : Statement (.renderStatus dt m) := of_some rfl of_decide_eq_true
theorem pcnValueRead (dt : Nat) : Statement (.pcnValueRead dt) := of_none rfl
theorem snpTake (dt : Nat) : Statement (.snpTake dt) := of_none rfl
theorem snpFreeze (dt : Nat) (auto : Bool) : Statement (.snpFreeze dt auto) := of_none rfl
theorem snpCaptureDone (dt : Nat) : Statement (.snpCaptureDone dt) := of_none rfl
theorem icuPendSet (dt p value : Nat) : Statement (.icuPendSet dt p value) := of_none rfl
theorem icuPendClear (dt p value : Nat) : Statement (.icuPendClear dt p value) := of_none rfl
theorem icuClaim (dt target : Nat) : Statement (.icuClaim dt target) := of_none rfl
theorem icuComplete (dt target value : Nat) : Statement (.icuComplete dt target value) := of_none rfl
theorem icuConfigWrite (dt off value : Nat) : Statement (.icuConfigWrite dt off value) := of_none rfl
theorem msixMaskChange (dt : Nat) (control : SleepControl) (on : Bool) : Statement (.msixMaskChange dt control on) := of_none rfl
theorem icuHoldoffExpiry (dt g : Nat) : Statement (.icuHoldoffExpiry dt g) := of_none rfl
theorem icuRedirect (dt source : Nat) : Statement (.icuRedirect dt source) := of_none rfl
theorem eccRowRetire (dt mem addr : Nat) : Statement (.eccRowRetire dt mem addr) := of_none rfl
theorem scrubRead (dt found syndrome : Nat) : Statement (.scrubRead dt found syndrome) := of_none rfl
theorem parityRestore (dt addr : Nat) : Statement (.parityRestore dt addr) := of_none rfl
theorem queueRebuild (dt queue : Nat) : Statement (.queueRebuild dt queue) := of_none rfl
theorem eccFlipArm (dt value : Nat) : Statement (.eccFlipArm dt value) := of_none rfl
theorem eccAccess (dt m : Nat) : Statement (.eccAccess dt m) := of_some rfl of_decide_eq_true
theorem queueStatus (dt m : Nat) : Statement (.queueStatus dt m) := of_some rfl of_decide_eq_true
theorem queueWmSet (dt m : Nat) : Statement (.queueWmSet dt m) := of_some rfl of_decide_eq_true
theorem zlkBlockLock (dt link : Nat) : Statement (.zlkBlockLock dt link) := of_none rfl
theorem zlkHelloRx (dt link : Nat) (good : Bool) (h : Hello) : Statement (.zlkHelloRx dt link good h) := of_none rfl
theorem zlkHelloTimer (dt link : Nat) : Statement (.zlkHelloTimer dt link) := of_none rfl
theorem zlkLockLoss (dt link : Nat) : Statement (.zlkLockLoss dt link) := of_none rfl
theorem zlkDataRx (dt link : Nat) (f : ZlkData) : Statement (.zlkDataRx dt link f) := of_none rfl
theorem zlkAckRx (dt link ack : Nat) (credit : List Nat) : Statement (.zlkAckRx dt link ack credit) := of_none rfl
theorem zlkNakRx (dt link ack : Nat) (credit : List Nat) : Statement (.zlkNakRx dt link ack credit) := of_none rfl
theorem zlkTimeRx (dt link seq ack : Nat) (crcOk : Bool) (credit : List Nat) (tx : Instant) (rx : Option Instant) : Statement (.zlkTimeRx dt link seq ack crcOk credit tx rx) := of_none rfl
theorem zlkRetryTimeout (dt link : Nat) : Statement (.zlkRetryTimeout dt link) := of_none rfl
theorem groupFormation (dt : Nat) (peerAct : Bool) : Statement (.groupFormation dt peerAct) := of_none rfl
theorem groupFormationTimeout (dt : Nat) (peerAct : Bool) : Statement (.groupFormationTimeout dt peerAct) := of_none rfl
theorem memberLossTimeout (dt who : Nat) : Statement (.memberLossTimeout dt who) := of_none rfl
theorem coordinatorLossTimeout (dt : Nat) : Statement (.coordinatorLossTimeout dt) := of_none rfl
theorem resyncStart (dt : Nat) : Statement (.resyncStart dt) := of_none rfl
theorem resyncDone (dt : Nat) : Statement (.resyncDone dt) := of_none rfl
theorem commitDeadline (dt : Nat) : Statement (.commitDeadline dt) := of_none rfl
theorem inputSeal (dt : Nat) : Statement (.inputSeal dt) := of_none rfl
theorem digestTimeout (dt : Nat) : Statement (.digestTimeout dt) := of_none rfl
theorem selfCheckDone (dt frame : Nat) (same : Bool) : Statement (.selfCheckDone dt frame same) := of_none rfl
theorem mismatchOutcome (dt frame : Nat) : Statement (.mismatchOutcome dt frame) := of_none rfl
theorem tangoPeerActLow (dt : Nat) : Statement (.tangoPeerActLow dt) := of_none rfl
theorem tangoYield (dt cause : Nat) : Statement (.tangoYield dt cause) := of_none rfl
theorem tangoYieldPulseEnd (dt : Nat) : Statement (.tangoYieldPulseEnd dt) := of_none rfl
theorem tangoYieldNetLow (dt : Nat) : Statement (.tangoYieldNetLow dt) := of_none rfl
theorem tangoYieldNetStuck (dt : Nat) : Statement (.tangoYieldNetStuck dt) := of_none rfl
theorem standbyDetachTimeout (dt : Nat) : Statement (.standbyDetachTimeout dt) := of_none rfl
theorem loopbackTest (dt : Nat) (badDmx badPwm : List Nat) : Statement (.loopbackTest dt badDmx badPwm) := of_none rfl
theorem groupConfig (dt m : Nat) : Statement (.groupConfig dt m) := of_some rfl of_decide_eq_true
theorem groupConfigDone (dt op : Nat) : Statement (.groupConfigDone dt op) := of_none rfl
theorem groupStatus (dt m : Nat) : Statement (.groupStatus dt m) := of_some rfl of_decide_eq_true
theorem partitionSet (dt m : Nat) : Statement (.partitionSet dt m) := of_some rfl of_decide_eq_true
theorem tangoSwitch (dt m : Nat) : Statement (.tangoSwitch dt m) := of_some rfl of_decide_eq_true
theorem cotillionStatus (dt m : Nat) : Statement (.cotillionStatus dt m) := of_some rfl of_decide_eq_true
theorem updateBegin (dt m : Nat) : Statement (.updateBegin dt m) := of_some rfl of_decide_eq_true
theorem updateBeginDone (dt op : Nat) : Statement (.updateBeginDone dt op) := of_none rfl
theorem updateBlock (dt m : Nat) : Statement (.updateBlock dt m) := of_some rfl of_decide_eq_true
theorem updateBlockDone (dt op : Nat) (poison : Bool) : Statement (.updateBlockDone dt op poison) := of_none rfl
theorem updateVerify (dt m : Nat) : Statement (.updateVerify dt m) := of_some rfl of_decide_eq_true
theorem updateVerifyDone (dt op : Nat) : Statement (.updateVerifyDone dt op) := of_none rfl
theorem updateActivate (dt m : Nat) : Statement (.updateActivate dt m) := of_some rfl of_decide_eq_true
theorem activationDecision (dt : Nat) : Statement (.activationDecision dt) := of_none rfl
theorem partStartFail (dt part : Nat) : Statement (.partStartFail dt part) := of_none rfl
theorem activationComplete (dt : Nat) : Statement (.activationComplete dt) := of_none rfl
theorem updateStatus (dt m : Nat) : Statement (.updateStatus dt m) := of_some rfl of_decide_eq_true
theorem fwRestart (dt : Nat) : Statement (.fwRestart dt) := of_none rfl
theorem fwRestartEnd (dt : Nat) : Statement (.fwRestartEnd dt) := of_none rfl
theorem authChallenge (dt m : Nat) : Statement (.authChallenge dt m) := of_some rfl of_decide_eq_true
theorem credSet (dt m : Nat) : Statement (.credSet dt m) := of_some rfl of_decide_eq_true
theorem credSetDone (dt op : Nat) : Statement (.credSetDone dt op) := of_none rfl
theorem keyEstablish (dt m : Nat) : Statement (.keyEstablish dt m) := of_some rfl of_decide_eq_true
theorem keyEstablishDone (dt op : Nat) : Statement (.keyEstablishDone dt op) := of_none rfl
theorem keyInstall (dt m : Nat) : Statement (.keyInstall dt m) := of_some rfl of_decide_eq_true
theorem keyInstallDone (dt op : Nat) : Statement (.keyInstallDone dt op) := of_none rfl
theorem auditRead (dt m : Nat) : Statement (.auditRead dt m) := of_some rfl of_decide_eq_true
theorem auditReadDone (dt op : Nat) : Statement (.auditReadDone dt op) := of_none rfl
theorem debugSet (dt m : Nat) : Statement (.debugSet dt m) := of_some rfl of_decide_eq_true
theorem debugAttach (dt : Nat) : Statement (.debugAttach dt) := of_none rfl
theorem securityStatus (dt m : Nat) : Statement (.securityStatus dt m) := of_some rfl of_decide_eq_true
theorem authLockoutEnd (dt : Nat) : Statement (.authLockoutEnd dt) := of_none rfl
theorem trngFault (dt test : Nat) : Statement (.trngFault dt test) := of_none rfl
theorem powerOn (dt : Nat) : Statement (.powerOn dt) := of_none rfl
theorem porstNAssert (dt : Nat) : Statement (.porstNAssert dt) := of_none rfl
theorem resetRelease (dt rank : Nat) (testMode : Bool) : Statement (.resetRelease dt rank testMode) := of_none rfl
theorem lanishambeStart (dt bootBad areaBad part : Nat) : Statement (.lanishambeStart dt bootBad areaBad part) := of_none rfl
theorem mbxReadyReached (dt : Nat) (failed : List Nat) : Statement (.mbxReadyReached dt failed) := of_none rfl
theorem supplyFault (dt rail : Nat) : Statement (.supplyFault dt rail) := of_none rfl
theorem supplyReset (dt : Nat) : Statement (.supplyReset dt) := of_none rfl
theorem refclkLoss (dt : Nat) : Statement (.refclkLoss dt) := of_none rfl
theorem pllLockLoss (dt : Nat) : Statement (.pllLockLoss dt) := of_none rfl
theorem dpPllLoss (dt : Nat) : Statement (.dpPllLoss dt) := of_none rfl
theorem mgmtWatchdogExpiry (dt : Nat) : Statement (.mgmtWatchdogExpiry dt) := of_none rfl
theorem renderStall (dt : Nat) : Statement (.renderStall dt) := of_none rfl
theorem renderStallReset (dt : Nat) : Statement (.renderStallReset dt) := of_none rfl
theorem arbiterInterval (dt fixed clusters dma mgmt : Nat) (railMa : List Nat) (tj : Int) : Statement (.arbiterInterval dt fixed clusters dma mgmt railMa tj) := of_none rfl
theorem thermalHigh (dt : Nat) (tj : Int) : Statement (.thermalHigh dt tj) := of_none rfl
theorem thermalTrip (dt : Nat) (tj : Int) : Statement (.thermalTrip dt tj) := of_none rfl
theorem powerConfig (dt m : Nat) : Statement (.powerConfig dt m) := of_some rfl of_decide_eq_true
theorem supplyStatus (dt m : Nat) : Statement (.supplyStatus dt m) := of_some rfl of_decide_eq_true
theorem bar2Write (dt off : Nat) (data : Bytes) : Statement (.bar2Write dt off data) := of_none rfl
theorem counterWrap (dt unit counter : Nat) : Statement (.counterWrap dt unit counter) := of_none rfl
theorem mtrPulseGapEnd (dt output : Nat) : Statement (.mtrPulseGapEnd dt output) := of_none rfl
theorem loopbackEchoTimeout (dt output : Nat) : Statement (.loopbackEchoTimeout dt output) := of_none rfl
theorem tangoYieldNetHigh (dt : Nat) : Statement (.tangoYieldNetHigh dt) := of_none rfl
theorem trngHealthy (dt : Nat) : Statement (.trngHealthy dt) := of_none rfl
theorem railWithinTolerance (dt rail : Nat) : Statement (.railWithinTolerance dt rail) := of_none rfl
theorem dpPllRelock (dt : Nat) : Statement (.dpPllRelock dt) := of_none rfl

end Sys2Proof.Laws.Mailbox
end

