-- ==== Sys2Proof/Laws/Show.lean ====
section
/-!
SUPPORT. Laws/Show.lean: what the checks of show writes answer.
-/

namespace Sys2Proof.Machine

theorem check_timing_resp {env : CheckEnv} {v : ShowState} {p d : Bytes} : (ShowCmd.check .timingSet env v p d).resp = [] := rfl

theorem check_profileLoad_resp {env : CheckEnv} {v : ShowState} {p d : Bytes} (h : (ShowCmd.check .profileLoad env v p d).status = .ok) :
    (ShowCmd.check .profileLoad env v p d).resp = [] := by
  revert h
  delta ShowCmd.check checkProfileLoad
  dsimp only
  repeat' split
  all_goals first | (intro; rfl) | simp

theorem check_profileDelete_resp {env : CheckEnv} {v : ShowState} {p d : Bytes} (h : (ShowCmd.check .profileDelete env v p d).status = .ok) :
    (ShowCmd.check .profileDelete env v p d).resp = [] := by
  revert h
  delta ShowCmd.check checkProfileDelete
  dsimp only
  repeat' split
  all_goals first | (intro; rfl) | simp

theorem check_paramWrite_resp {env : CheckEnv} {v : ShowState} {p d : Bytes} (h : (ShowCmd.check .paramWrite env v p d).status = .ok) :
    (ShowCmd.check .paramWrite env v p d).resp = [] := by
  revert h
  delta ShowCmd.check checkParamWrite
  dsimp only
  repeat' split
  all_goals first | (intro; rfl) | simp

theorem check_sourceDelete_resp {env : CheckEnv} {v : ShowState} {p d : Bytes} (h : (ShowCmd.check .sourceDelete env v p d).status = .ok) :
    (ShowCmd.check .sourceDelete env v p d).resp = [] := by
  revert h
  delta ShowCmd.check checkSourceDelete
  dsimp only
  repeat' split
  all_goals first | (intro; rfl) | simp

theorem check_effectDefine_resp {env : CheckEnv} {v : ShowState} {p d : Bytes} (h : (ShowCmd.check .effectDefine env v p d).status = .ok) :
    (ShowCmd.check .effectDefine env v p d).resp = [] := by
  revert h
  delta ShowCmd.check checkEffectDefine
  dsimp only
  repeat' split
  all_goals first | (intro; rfl) | simp

theorem check_effectTableLoad_resp {env : CheckEnv} {v : ShowState} {p d : Bytes} (h : (ShowCmd.check .effectTableLoad env v p d).status = .ok) :
    (ShowCmd.check .effectTableLoad env v p d).resp = [] := by
  revert h
  delta ShowCmd.check checkEffectTableLoad
  dsimp only
  repeat' split
  all_goals first | (intro; rfl) | simp

theorem check_playbackAction_resp {env : CheckEnv} {v : ShowState} {p d : Bytes} (h : (ShowCmd.check .playbackAction env v p d).status = .ok) :
    (ShowCmd.check .playbackAction env v p d).resp = [] := by
  revert h
  delta ShowCmd.check checkPlaybackAction
  dsimp only
  repeat' split
  all_goals first | (intro; rfl) | simp

theorem check_policySet_resp {env : CheckEnv} {v : ShowState} {p d : Bytes} (h : (ShowCmd.check .policySet env v p d).status = .ok) :
    (ShowCmd.check .policySet env v p d).resp = [] := by
  revert h
  delta ShowCmd.check checkPolicySet
  dsimp only
  repeat' split
  all_goals first | (intro; rfl) | simp

theorem check_sacnRxSet_resp {env : CheckEnv} {v : ShowState} {p d : Bytes} (h : (ShowCmd.check .sacnRxSet env v p d).status = .ok) :
    (ShowCmd.check .sacnRxSet env v p d).resp = [] := by
  revert h
  delta ShowCmd.check checkSacnRxSet
  dsimp only
  repeat' split
  all_goals first | (intro; rfl) | simp

theorem check_dmxInSet_resp {env : CheckEnv} {v : ShowState} {p d : Bytes} (h : (ShowCmd.check .dmxInSet env v p d).status = .ok) :
    (ShowCmd.check .dmxInSet env v p d).resp = [] := by
  revert h
  delta ShowCmd.check checkDmxInSet
  dsimp only
  repeat' split
  all_goals first | (intro; rfl) | simp

theorem check_videoInSet_resp {env : CheckEnv} {v : ShowState} {p d : Bytes} (h : (ShowCmd.check .videoInSet env v p d).status = .ok) :
    (ShowCmd.check .videoInSet env v p d).resp = [] := by
  revert h
  delta ShowCmd.check checkVideoInSet
  dsimp only
  repeat' split
  all_goals first | (intro; rfl) | simp

theorem check_videoMapSet_resp {env : CheckEnv} {v : ShowState} {p d : Bytes} (h : (ShowCmd.check .videoMapSet env v p d).status = .ok) :
    (ShowCmd.check .videoMapSet env v p d).resp = [] := by
  revert h
  delta ShowCmd.check checkVideoMapSet
  dsimp only
  repeat' split
  all_goals first | (intro; rfl) | simp

theorem check_feederMemberSet_resp {env : CheckEnv} {v : ShowState} {p d : Bytes} (h : (ShowCmd.check .feederMemberSet env v p d).status = .ok) :
    (ShowCmd.check .feederMemberSet env v p d).resp = [] := by
  revert h
  delta ShowCmd.check checkFeederMemberSet
  dsimp only
  repeat' split
  all_goals first | (intro; rfl) | simp

theorem check_canvasSet_resp {env : CheckEnv} {v : ShowState} {p d : Bytes} (h : (ShowCmd.check .canvasSet env v p d).status = .ok) :
    (ShowCmd.check .canvasSet env v p d).resp = [] := by
  revert h
  delta ShowCmd.check checkCanvasSet
  dsimp only
  repeat' split
  all_goals first | (intro; rfl) | simp

theorem check_segmentSet_resp {env : CheckEnv} {v : ShowState} {p d : Bytes} (h : (ShowCmd.check .segmentSet env v p d).status = .ok) :
    (ShowCmd.check .segmentSet env v p d).resp = [] := by
  revert h
  delta ShowCmd.check checkSegmentSet
  dsimp only
  repeat' split
  all_goals first | (intro; rfl) | simp

theorem check_rectCheckSet_resp {env : CheckEnv} {v : ShowState} {p d : Bytes} (h : (ShowCmd.check .rectCheckSet env v p d).status = .ok) :
    (ShowCmd.check .rectCheckSet env v p d).resp = [] := by
  revert h
  delta ShowCmd.check checkRectCheckSet
  dsimp only
  repeat' split
  all_goals first | (intro; rfl) | simp

theorem check_sliceModeSet_resp {env : CheckEnv} {v : ShowState} {p d : Bytes} (h : (ShowCmd.check .sliceModeSet env v p d).status = .ok) :
    (ShowCmd.check .sliceModeSet env v p d).resp = [] := by
  revert h
  delta ShowCmd.check checkSliceModeSet
  dsimp only
  repeat' split
  all_goals first | (intro; rfl) | simp

theorem check_curveLoad_resp {env : CheckEnv} {v : ShowState} {p d : Bytes} (h : (ShowCmd.check .curveLoad env v p d).status = .ok) :
    (ShowCmd.check .curveLoad env v p d).resp = [] := by
  revert h
  delta ShowCmd.check checkCurveLoad
  dsimp only
  repeat' split
  all_goals first | (intro; rfl) | simp

theorem check_outputGroupSet_resp {env : CheckEnv} {v : ShowState} {p d : Bytes} (h : (ShowCmd.check .outputGroupSet env v p d).status = .ok) :
    (ShowCmd.check .outputGroupSet env v p d).resp = [] := by
  revert h
  delta ShowCmd.check checkOutputGroupSet
  dsimp only
  repeat' split
  all_goals first | (intro; rfl) | simp

theorem check_tempSourceSet_resp {env : CheckEnv} {v : ShowState} {p d : Bytes} (h : (ShowCmd.check .tempSourceSet env v p d).status = .ok) :
    (ShowCmd.check .tempSourceSet env v p d).resp = [] := by
  revert h
  delta ShowCmd.check checkTempSourceSet
  dsimp only
  repeat' split
  all_goals first | (intro; rfl) | simp

theorem check_derateSet_resp {env : CheckEnv} {v : ShowState} {p d : Bytes} (h : (ShowCmd.check .derateSet env v p d).status = .ok) :
    (ShowCmd.check .derateSet env v p d).resp = [] := by
  revert h
  delta ShowCmd.check checkDerateSet
  dsimp only
  repeat' split
  all_goals first | (intro; rfl) | simp

theorem check_safetyGroupSet_resp {env : CheckEnv} {v : ShowState} {p d : Bytes} (h : (ShowCmd.check .safetyGroupSet env v p d).status = .ok) :
    (ShowCmd.check .safetyGroupSet env v p d).resp = [] := by
  revert h
  delta ShowCmd.check checkSafetyGroupSet
  dsimp only
  repeat' split
  all_goals first | (intro; rfl) | simp

theorem check_safetyClear_resp {env : CheckEnv} {v : ShowState} {p d : Bytes} (h : (ShowCmd.check .safetyClear env v p d).status = .ok) :
    (ShowCmd.check .safetyClear env v p d).resp = [] := by
  revert h
  delta ShowCmd.check checkSafetyClear
  dsimp only
  repeat' split
  all_goals first | (intro; rfl) | simp

theorem check_dmxPortSet_resp {env : CheckEnv} {v : ShowState} {p d : Bytes} (h : (ShowCmd.check .dmxPortSet env v p d).status = .ok) :
    (ShowCmd.check .dmxPortSet env v p d).resp = [] := by
  revert h
  delta ShowCmd.check checkDmxPortSet
  dsimp only
  repeat' split
  all_goals first | (intro; rfl) | simp

theorem check_pwmSet_resp {env : CheckEnv} {v : ShowState} {p d : Bytes} (h : (ShowCmd.check .pwmSet env v p d).status = .ok) :
    (ShowCmd.check .pwmSet env v p d).resp = [] := by
  revert h
  delta ShowCmd.check checkPwmSet
  dsimp only
  repeat' split
  all_goals first | (intro; rfl) | simp

theorem check_sacnTxConfig_resp {env : CheckEnv} {v : ShowState} {p d : Bytes} (h : (ShowCmd.check .sacnTxConfig env v p d).status = .ok) :
    (ShowCmd.check .sacnTxConfig env v p d).resp = [] := by
  revert h
  delta ShowCmd.check checkSacnTxConfig
  dsimp only
  repeat' split
  all_goals first | (intro; rfl) | simp

theorem check_sacnTxUniverseSet_resp {env : CheckEnv} {v : ShowState} {p d : Bytes} (h : (ShowCmd.check .sacnTxUniverseSet env v p d).status = .ok) :
    (ShowCmd.check .sacnTxUniverseSet env v p d).resp = [] := by
  revert h
  delta ShowCmd.check checkSacnTxUniverseSet
  dsimp only
  repeat' split
  all_goals first | (intro; rfl) | simp

theorem check_partitionSet_resp {env : CheckEnv} {v : ShowState} {p d : Bytes} (h : (ShowCmd.check .partitionSet env v p d).status = .ok) :
    (ShowCmd.check .partitionSet env v p d).resp = [] := by
  revert h
  delta ShowCmd.check checkPartitionSet
  dsimp only
  repeat' split
  all_goals first | (intro; rfl) | simp

theorem check_calibSet_resp {env : CheckEnv} {v : ShowState} {p d : Bytes} (h : (ShowCmd.check .calibSet env v p d).status = .ok) :
    (ShowCmd.check .calibSet env v p d).resp = bytesLE 4 0xFFFFFFFF ++ bytesLE 4 ((sourceRecords 288 p d).foldl applyCalibRec v.colour).calib.length := by
  revert h
  delta ShowCmd.check checkCalibSet recordRes
  dsimp only
  split
  · rename_i i hi
    have := List.findIdx?_eq_some_iff_getElem.mp hi
    obtain ⟨hl, hb, _⟩ := this
    intro h
    simp [List.getD_eq_getElem?_getD, List.getElem?_eq_getElem hl] at h
    simp [h] at hb
  · repeat' split
    all_goals first | (intro; rfl) | simp

theorem check_regionSet_resp {env : CheckEnv} {v : ShowState} {p d : Bytes} (h : (ShowCmd.check .regionSet env v p d).status = .ok) :
    (ShowCmd.check .regionSet env v p d).resp = bytesLE 4 0xFFFFFFFF ++ bytesLE 4 ((sourceRecords 96 p d).foldl applyRegionRec v.colour).regions.length := by
  revert h
  delta ShowCmd.check checkRegionSet recordRes
  dsimp only
  split
  · rename_i i hi
    have := List.findIdx?_eq_some_iff_getElem.mp hi
    obtain ⟨hl, hb, _⟩ := this
    intro h
    simp [List.getD_eq_getElem?_getD, List.getElem?_eq_getElem hl] at h
    simp [h] at hb
  · repeat' split
    all_goals first | (intro; rfl) | simp

end Sys2Proof.Machine
end

