-- ==== Sys2Proof/Machine/Pins.lean ====
section
/-!
DEFINITION. Machine/Pins.lean: the pins of the package, as they stand in a state: before BOOT_STAGE 0x03, on a DISABLED function, and
in use (R44, R361, R368, R378, R513, R514, R538, R564, R565).
-/

namespace Sys2Proof.Machine

/-- What a pin does: high-impedance with a weak pull, driven low or high, or, on SerDes and the flash, idle or in use. -/
inductive PinDrive where
  | floating
  | pullUp
  | pullDown
  | low
  | high
  | idle
  | inUse
  deriving DecidableEq, Repr

/-- A level driven. -/
def drive (b : Bool) : PinDrive := if b then .high else .low

/-- BOOT_STAGE has reached 0x03 since reset release. -/
def State.bootedUp (s : State) : Bool := s.power.reset != .held && 3 ≤ s.host.bootStage

/-- RSTOUT_N: low during a full reset, high from BOOT_STAGE 0x03 (R564). -/
def State.rstoutN (s : State) : PinDrive := drive s.bootedUp

/-- The endpoint answers configuration requests with Request Retry Status until BOOT_STAGE 0x03 (R564). -/
def State.configRetry (s : State) : Bool := !s.bootedUp

/-- A pixel lane's transmit pair: electrical idle while its link is OFF (R351, R565). -/
def State.lanePin (s : State) (l : Nat) : PinDrive := if s.bootedUp && (s.ports.lanes.getD l {}).link != .off then .inUse else .idle

/-- A DMX port's transmit pin: at mark, which is high, unless the port sends (R361). -/
def State.dmxTxPin (s : State) (j : Nat) : PinDrive :=
  if !s.bootedUp then .pullUp else if s.dmxTransmits j then .inUse else .high

/-- A DMX port's driver-enable pin (R361). -/
def State.dmxDePin (s : State) (j : Nat) : PinDrive := if s.bootedUp then drive (s.driverEnable j) else .pullDown

/-- An output whose active level is high, or low where `inverted`. -/
def State.levelPin (s : State) (inverted active : Bool) : PinDrive := if s.bootedUp then drive (active != inverted) else .pullDown

/-- A PWM output's pin: the inactive level of its polarity while it is not running, and otherwise its pulses (R368). -/
def State.pwmPin (s : State) (j : Nat) : PinDrive :=
  let d := s.ports.pwm.getD j {}
  if s.bootedUp && d.running && s.alive 5 j then .inUse else s.levelPin (bit d.cfg.flags 0) false

/-- The pins of the time and the metering pulse outputs (R152, R425). -/
def State.pulsePin (s : State) (j : Nat) : PinDrive := let o := s.pulse j; s.levelPin (o.polarity == 1) o.driving
def State.mtrPulsePin (s : State) (j : Nat) : PinDrive :=
  let o := s.meter.pulses.getD j {}
  s.levelPin (o.polarity == 1) o.driving

/-- TX_DISABLE of Ethernet port `p`: high while the port is DISABLED (R378). -/
def State.txDisablePin (s : State) (p : Nat) : PinDrive := if s.bootedUp then drive (!s.alive 1 p) else .pullUp

/-- The DisplayPort main link: off until the output is ENABLED. -/
def State.displayPin (s : State) : PinDrive := if s.bootedUp && s.alive 6 0 then .inUse else .idle

/-- TANGO_ACTIVE is always driven (R513). -/
def State.tangoActivePin (s : State) : PinDrive := drive s.group.actPin

/-- TANGO_YIELD is an open drain (R514, R577). -/
def State.tangoYieldPin (s : State) : PinDrive := if s.group.yieldPull then .low else .floating

/-- The flash balls: high-impedance in reset and until BOOT_STAGE 0x03 ends the start, but for the boot's own reads (R564, R565). -/
def State.flashPin (s : State) : PinDrive := if s.bootedUp then .inUse else .floating

end Sys2Proof.Machine
end

