-- ==== Sys2Proof/Machine/ZlkCode.lean ====
section
/-!
DEFINITION. Machine/ZlkCode.lean: the frames of Zoette links as bytes, their encryption, and the 64b/66b blocks that carry them (R497,
R498, R547).

The forms of the control blocks are those of IEEE 802.3 clause 49, which the spec names and does not copy (PRESUMED, assumption 43).
-/

namespace Sys2Proof

/-- The payload of group traffic in a DATA frame: the spec gives its meaning and no layout (R498, assumption 45). -/
opaque Config.msgBytes : Machine.GroupMsg → Bytes

/-- The alignment marker of a lane, 66 bits: the spec says when it is sent, and not what it is (R497, assumption 45). -/
opaque Config.zlkMarker : Nat → Nat

namespace Machine

/-! ### Link frames (R498) -/

/-- A link frame of the table "Link frame types". -/
inductive LinkFrame where
  | hello (h : Hello)
  | data (f : ZlkData)
  | ack (last : Nat) (credit : List Nat)
  | nak (last : Nat) (credit : List Nat)
  | time (seq last : Nat) (credit : List Nat) (count : Nat) (tx : Instant) (rx : Option Instant)
  deriving DecidableEq, Repr

/-- TYPE. -/
def LinkFrame.type_ : LinkFrame → Nat
  | .hello _ => 1
  | .data _ => 2
  | .ack .. => 3
  | .nak .. => 4
  | .time .. => 5

/-- A timestamp of a TIME frame: seconds 6, nanoseconds 4, fraction 2. -/
def linkStamp (i : Instant) : Bytes := bytesLE 6 (stampSec i) ++ bytesLE 4 (stampNs i) ++ bytesLE 2 (stampFrac i)

/-- A HELLO payload. -/
def Hello.bytes (h : Hello) : Bytes :=
  bytesLE 8 h.uid ++ bytesLE 1 h.rank ++ bytesLE 1 h.plane ++ bytesLE 1 h.link ++ bytesLE 1 h.version ++ bytesLE 1 h.helloRx ++ zeros 3
    ++ padTo 16 h.digest

/-- The payload of a link frame. -/
def LinkFrame.payload : LinkFrame → Bytes
  | .hello h => h.bytes
  | .data f => (padTo f.len (Config.msgBytes f.msg)).take f.len
  | .time _ _ _ _ tx rx => linkStamp tx ++ rx.elim (zeros 12) linkStamp
  | _ => []

/-- The header of a link frame from `src`; frames that stay on the link go to its far end, `near`. -/
def LinkFrame.header (x : LinkFrame) (near src : Nat) : Bytes :=
  let base (chan len seq last : Nat) (credit : List Nat) (dest from_ : Nat) : Bytes :=
    bytesLE 1 x.type_ ++ bytesLE 1 chan ++ bytesLE 2 len ++ bytesLE 2 seq ++ bytesLE 2 last
      ++ (List.range 4).flatMap (fun c => bytesLE 1 (credit.getD c 0)) ++ bytesLE 1 dest ++ bytesLE 1 from_ ++ zeros 2
  match x with
  | .hello _ => base 0 32 0 0 [] near src
  | .data f => base f.chan f.len f.seq f.ack f.credit f.dest f.src
  | .ack last credit => base 0 0 0 last credit near src
  | .nak last credit => base 0 0 0 last credit near src
  | .time seq last credit _ _ _ => base 0 24 seq last credit near src

/-- The count of protected frames before a frame, where frames of its kind are protected: DATA and TIME (R547). -/
def LinkFrame.protectedCount : LinkFrame → Option Nat
  | .data f => some f.count
  | .time _ _ _ count _ _ => some count
  | _ => none

/-- The key of one direction of a link: from the link group key and the HID_UIDs of sender and receiver. -/
def linkKeyOf (group : Bytes) (from_ to_ : Nat) : Bytes := hkdf [] group (bytesLE 8 from_ ++ bytesLE 8 to_) 32

/-- The nonce of a protected frame. -/
def linkNonce (count : Nat) : Bytes := zeros 4 ++ bytesLE 8 count

/-- The payload as it stands on the link: encrypted and followed by its tag where the link has a key. -/
def LinkFrame.sealed (x : LinkFrame) (near src : Nat) (key : Option Bytes) : Bytes :=
  match key, x.protectedCount with
  | some k, some n => gcmSeal k (linkNonce n) (x.header near src) x.payload
  | _, _ => x.payload

/-- A link frame: header, payload, CRC-32C over both, and four zero bytes. -/
def LinkFrame.bytes (x : LinkFrame) (near src : Nat) (key : Option Bytes) : Bytes :=
  let covered := x.header near src ++ x.sealed near src key
  covered ++ bytesLE 4 (crc32c covered).toNat ++ zeros 4

/-- The link and the frame that an event of the block sends. -/
def OutEvent.linkFrame : OutEvent → Option (Nat × LinkFrame)
  | .zlkHello l h => some (l, .hello h)
  | .zlkData l f => some (l, .data f)
  | .zlkNak l last => some (l, .nak last [])
  | .zlkAck l last credit => some (l, .ack last credit)
  | .zlkTime l seq last credit count tx rx => some (l, .time seq last credit count tx rx)
  | _ => none

/-- The bytes of a frame that leaves on link `l`. -/
def State.linkBytes (s : State) (l : Nat) (x : LinkFrame) : Bytes :=
  let near := (s.group.logical l).elim 0 s.group.farEnd
  let uid := s.group.uidAt (near % 16) (near / 16)
  let key := if s.group.crypt then s.secure.linkNow.map fun k => linkKeyOf k Config.uid.toNat uid else none
  x.bytes near s.group.me key

/-! ### 64b/66b blocks (R497) -/

/-- A block before the scrambler: control or data, and its eight octets. -/
structure LinkBlock where
  control : Bool
  octets : Bytes
  deriving DecidableEq, Repr

/-- Bytes in blocks of eight. -/
def blocksOf : Nat → Bytes → List Bytes
  | 0, _ => []
  | n + 1, bs => if bs.isEmpty then [] else bs.take 8 :: blocksOf n (bs.drop 8)

/-- Idle control, start control (block type 0x78) with the seven octets after it, and terminate control with no data before it. -/
def blockIdle : LinkBlock := ⟨true, (0x1E : Byte) :: zeros 7⟩
def blockStart (after : Bytes) : LinkBlock := ⟨true, (0x78 : Byte) :: padTo 7 after⟩
def blockEnd : LinkBlock := ⟨true, (0x87 : Byte) :: zeros 7⟩

/-- The blocks of a link frame, which is whole blocks long; `after` stands for the octets of the start block, which the spec leaves
open. -/
def frameBlocks (bs after : Bytes) : List LinkBlock :=
  [blockStart after] ++ (blocksOf bs.length bs).map (LinkBlock.mk false) ++ [blockEnd]

/-- The scrambler x^58 + x^39 + 1: its last 58 output bits, newest first in bit 0, and the next bit. -/
def scramble (st : Nat) (b : Bool) : Nat × Bool :=
  let o := xor (xor b (bit st 38)) (bit st 57)
  ((2 * st + b2n o) % 2 ^ 58, o)

/-- Bits through the scrambler. -/
def scrambleBits (st : Nat) : List Bool → Nat × List Bool
  | [] => (st, [])
  | b :: bs =>
    let x := scramble st b
    let r := scrambleBits x.1 bs
    (r.1, x.2 :: r.2)

/-- The bits of octets in the order of sending, the least significant first. -/
def octetBits (bs : Bytes) : List Bool := bs.flatMap fun b => (List.range 8).map (bit b.toNat)

/-- The 66 bits of a block: the sync header 10 of a control block or 01 of a data block, which is not scrambled, and the rest. -/
def LinkBlock.coded (x : LinkBlock) (st : Nat) : Nat × List Bool :=
  let r := scrambleBits st (octetBits x.octets)
  (r.1, [x.control, !x.control] ++ r.2)

/-- The blocks of one lane: every fourth one, from block `lane` on. -/
def laneBlocks (blocks : List (List Bool)) (lane : Nat) : List (List Bool) :=
  (blocks.zipIdx.filter fun e => e.2 % 4 == lane).map (·.1)

/-- The alignment marker of a lane as bits. -/
def markerBits (lane : Nat) : List Bool := (List.range 66).map (bit (Config.zlkMarker lane))

/-- A lane's blocks with its alignment marker every 16,384 blocks. -/
def withMarkers (lane : Nat) (blocks : List (List Bool)) : List (List Bool) :=
  blocks.zipIdx.flatMap fun e => if e.2 % 16384 = 16383 then [e.1, markerBits lane] else [e.1]

/-- What a link carries: payload octets of 64 in 66 bits on four lanes of 16 Gbit/s, in Mbit/s, markers left out. -/
def linkMbit : Nat := 4 * 16000 * 64 / 66

end Machine

end Sys2Proof
end

