-- ==== Sys2Proof/Tests/Slice0.lean ====
section
/-!
SUPPORT. Tests/Slice0.lean: the model's own tests. Ill-formed commands are refused and well-formed ones accepted; values of the spec's
rules and tables on small states, one step at a time; and for every statement with hypotheses a state and operands that meet them
(`wit_<statement>_<clause>`), so that no statement is empty.
-/

set_option maxRecDepth 10000
set_option linter.unusedVariables false

namespace Sys2Proof.Machine

/-! ### Small states -/

/-- A request of session 1 with tag 7. -/
def wreq (code flags : Nat) (p : Bytes) : Bytes :=
  bytesLE 2 code ++ bytesLE 2 flags ++ bytesLE 4 7 ++ bytesLE 4 (if code = 0x0101 then 0 else 1) ++ bytesLE 4 p.length ++ zeros 16 ++ p

/-- A state in which mailbox 0 executes a request of a session with a role. -/
def wstR (role : Nat) (req : Bytes) : State :=
  { host := { mbxReady := true, mbx := [(0, { phase := .executing })], execs := [{ mbx := 0, req := req, dbPos := 0, role := role }],
              sessions := [(1, { role := role, idle := 0, lastNamed := 0 })],
              rings := [(0, { cfg := { log2 := 4, dir := true, cls := 1 }, phase := .enabled })] } }

/-- The same, of an ENGINEER. -/
def wst (req : Bytes) : State := wstR 2 req

/-! ### Well-formed commands: one ill-formed command for every check, and each command at the top of its ranges -/

theorem test_ill_formed_1 : ([
    .registerWrite 0 0x10000 4 0xffffffffffffffff [], .registerWrite 0 0xffff 0 0xffffffffffffffff [],
    .registerWrite 0 0xffff 9 0xffffffffffffffff [], .registerWrite 0 0xffff 4 0x10000000000000000 [],
    .mbxDoorbell 0 16 0xffffffff, .mbxDoorbell 0 15 0x100000000, .mbxDoneClear 0 16 0xffffffff, .mbxDoneClear 0 15 0x100000000,
    .sessionOpen 0 16, .sessionClose 0 16, .sessionIdleTimeout 0 0x100000000, .abort 0 16, .txnOpen 0 16, .txnCommit 0 16,
    .txnCancel 0 16, .snapOpen 0 16, .snapClose 0 16, .fnEnable 0 16, .fnDisable 0 16, .fnStatus 0 16, .rngEnable 0 32 0xffffffff,
    .rngEnable 0 31 0x100000000, .rngDisable 0 32 0xffffffff, .rngDisable 0 31 0x100000000, .rngConfigWrite 0 32 0xffffffff,
    .rngConfigWrite 0 31 0x100000000, .rngBaseWrite 0 32 0xffffffffffffffff, .rngBaseWrite 0 31 0x10000000000000000,
    .rngHostIdxWrite 0 32 0xffffffff [], .rngHostIdxWrite 0 31 0x100000000 [], .rngDrainEnd 0 32, .bulkDescriptorStart 0 32,
    .bulkDescriptorDone 0 32 false false [], .canvasWindowOpen 0 8, .canvasWindowClose 0 8, .sliceWindowClose 0 8 15,
    .sliceWindowClose 0 7 16, .taskComplete 0 64 false, .gapStart 0 8, .scanStart 0 8 []] : List Instr).all (fun i => !i.wellFormed) = true := by decide

theorem test_ill_formed_2 : ([
    .emissionInstant 0 5 0xffff 0 false, .emissionInstant 0 4 0x10000 0 false, .showClockStart 0 16, .showTimingSet 0 16,
    .sliceModeSet 0 16, .showClockStatus 0 16, .ltcWord 0 0x100000000, .ptpConfig 0 16, .ptpStatus 0 16, .timeConfig 0 16,
    .timeStep 0 16, .pulseSet 0 16, .pulseEdge 0 8, .pulseEnd 0 8, .captureSet 0 16, .captureEdge 0 8 false, .timCapPop 0 8,
    .profileLoad 0 16, .profileDelete 0 16, .profileRead 0 16, .patchWrite 0 16, .patchClear 0 16, .patchRead 0 16,
    .paramWrite 0 16, .paramRead 0 16, .poolStatus 0 16, .cuelistLoad 0 16, .sourceDelete 0 16, .effectDefine 0 16,
    .effectTableLoad 0 16, .playbackAction 0 16, .playbackStatus 0 16, .layerSet 0 16, .policySet 0 16, .sacnRxSet 0 16,
    .dmxInSet 0 16, .liveWrite 0 16, .videoInSet 0 16, .videoSampleSet 0 16, .videoMapSet 0 16] : List Instr).all (fun i => !i.wellFormed) = true := by decide

theorem test_ill_formed_3 : ([
    .inputStatus 0 16, .mergeRead 0 16, .sacnSyncRx 0 4 0 { addr := 0 }, .sacnSyncRx 0 3 0 { addr := 65536 },
    .sacnSourceTimeout 0 0x10000 0, .sacnSyncTimeout 0 0x10000,
    .dmxInPacket 0 16 255 [] { breakNs := 100000, mabNs := 12000, bitRate := 250000, framing := false },
    .dmxInPacket 0 15 256 [] { breakNs := 100000, mabNs := 12000, bitRate := 250000, framing := false },
    .dmxInPacket 0 15 255 (List.replicate 513 0) { breakNs := 100000, mabNs := 12000, bitRate := 250000, framing := false },
    .dmxInTimeout 0 16, .videoPacketRx 0 2 { seq := 0, marker := false, sampling := 0, segs := [] }, .videoFrameTimeout 0 2,
    .videoLossTimeout 0 2, .calibSet 0 16, .regionSet 0 16, .feederSet 0 16, .feederMemberSet 0 16, .feederStatus 0 16,
    .solveRead 0 16, .canvasSet 0 16, .segmentSet 0 16, .pixelMapSet 0 16, .rectCheckSet 0 16, .teSet 0 16, .displaySet 0 16,
    .canvasStatus 0 16, .displayStatus 0 16, .tileLatchMissingTimeout 0 64 0x3ff, .tileLatchMissingTimeout 0 63 0x400,
    .teEdge 0 4 false, .teMissingTimeout 0 4, .curveLoad 0 16, .outputGroupSet 0 16, .tempSourceSet 0 16, .derateSet 0 16,
    .safetyGroupSet 0 16, .safetyMemberSet 0 16, .safetyClear 0 16, .safetyStatus 0 16, .derateStatus 0 16] : List Instr).all (fun i => !i.wellFormed) = true := by decide

theorem test_ill_formed_4 : ([
    .emitStatus 0 16, .laneTrained 0 64, .laneTrainTimeout 0 64, .laneLinkLoss 0 64, .latchAck 0 64 0x3ff 0xffffffff 0xffffffff,
    .latchAck 0 63 0x400 0xffffffff 0xffffffff, .latchAck 0 63 0x3ff 0x100000000 0xffffffff,
    .latchAck 0 63 0x3ff 0xffffffff 0x100000000, .temp 0 64 0x3ff false 0xffff, .temp 0 63 0x400 false 0xffff,
    .temp 0 63 0x3ff false 0x10000, .fault 0 64 0x3ff 255, .fault 0 63 0x400 255, .fault 0 63 0x3ff 256, .rxError 0 64,
    .retrain 0 64, .testEcho 0 64 0xffffffff 0xffffffff, .testEcho 0 63 0x100000000 0xffffffff,
    .testEcho 0 63 0xffffffff 0x100000000, .backchannelMessageDiscard 0 64, .laneSet 0 16, .lanePhySet 0 16, .dmxPortSet 0 16,
    .pwmSet 0 16, .rdmTransaction 0 16, .rdmTransactionStart 0 16, .rdmResponseEnd 0 16 false [], .portStatus 0 16,
    .pwmPeriodStart 0 32, .pwmSenseSample 0 32 false, .netLinkUp 0 { port := 5, mbit := 1000 },
    .netLinkUp 0 { port := 0, mbit := 999 }, .netLinkDown 0 5 false false false, .netFrameRx 0 5 { bytes := [] } none,
    .pauseExpiry 0 5, .netFrameTx 0 5 { data := [] }, .netPortSet 0 16, .netRingBind 0 16, .netPortStatus 0 16,
    .netRingStatus 0 16] : List Instr).all (fun i => !i.wellFormed) = true := by decide

theorem test_ill_formed_5 : ([
    .sacnTxConfig 0 16, .sacnTxUniverseSet 0 16, .macsecSecySet 0 16, .macsecSaSet 0 16, .macsecStatus 0 16,
    .mtrSample 0 (List.replicate 65 0), .mtrZeroCrossing 0 32 0, .mtrZcTimeout 0 32, .mtrAuxPeriodEnd 0 64, .mtrPulseEdge 0 8,
    .mtrPulseEnd 0 8, .mtrChannelSet 0 16, .mtrPointSet 0 16, .mtrEnergyPreset 0 16, .mtrPulseSet 0 16, .mtrRoveSet 0 16,
    .mtrPulseStatus 0 16, .mtrLatchRead 0 16, .mtrCycleRead 0 16, .mtrChannelStatus 0 16, .mtrCapture 0 16, .counterAccess 0 16,
    .counterConfig 0 16, .counterDump 0 16, .traceConfig 0 16, .traceRead 0 16, .renderStatus 0 16, .icuPendSet 0 8 0xffffffff,
    .icuPendSet 0 7 0x100000000, .icuPendClear 0 8 0xffffffff, .icuPendClear 0 7 0x100000000, .icuClaim 0 36,
    .icuComplete 0 36 0xffffffff, .icuComplete 0 35 0x100000000, .icuConfigWrite 0 6 0xffffffff, .icuConfigWrite 0 4 0x100000000,
    .icuHoldoffExpiry 0 16, .icuRedirect 0 256, .eccRowRetire 0 6 0xffffffffff, .eccRowRetire 0 5 0x10000000000] : List Instr).all (fun i => !i.wellFormed) = true := by decide

theorem test_ill_formed_6 : ([
    .parityRestore 0 0x10000000000, .queueRebuild 0 0x10000, .eccFlipArm 0 0x100000000, .eccAccess 0 16, .queueStatus 0 16,
    .queueWmSet 0 16, .zlkBlockLock 0 6,
    .zlkHelloRx 0 6 false { uid := 0, rank := 0, plane := 0, link := 0, version := 0, helloRx := 0, digest := [] },
    .zlkHelloTimer 0 6, .zlkLockLoss 0 6,
    .zlkDataRx 0 6 { chan := 0, seq := 0, dest := 0, src := 0, len := 0, msg := .coordinator 0 }, .zlkAckRx 0 6 0xffff [],
    .zlkAckRx 0 5 0x10000 [], .zlkNakRx 0 6 0xffff [], .zlkNakRx 0 5 0x10000 [], .zlkTimeRx 0 6 0xffff 0xffff false [] 0 none,
    .zlkTimeRx 0 5 0x10000 0xffff false [] 0 none, .zlkTimeRx 0 5 0xffff 0x10000 false [] 0 none, .zlkRetryTimeout 0 6,
    .memberLossTimeout 0 32, .tangoYield 0 256, .groupConfig 0 16, .groupStatus 0 16, .partitionSet 0 16, .tangoSwitch 0 16,
    .cotillionStatus 0 16, .updateBegin 0 16, .updateBlock 0 16, .updateVerify 0 16, .updateActivate 0 16, .partStartFail 0 16,
    .updateStatus 0 16, .authChallenge 0 16, .credSet 0 16, .keyEstablish 0 16, .keyInstall 0 16, .auditRead 0 16, .debugSet 0 16,
    .securityStatus 0 16, .trngFault 0 256] : List Instr).all (fun i => !i.wellFormed) = true := by decide

theorem test_ill_formed_7 : ([
    .resetRelease 0 16 false, .lanishambeStart 0 0 0 16, .supplyFault 0 8, .powerConfig 0 16, .supplyStatus 0 16,
    .bar2Write 0 0x20000000 [], .counterWrap 0 256 7, .counterWrap 0 255 8, .mtrPulseGapEnd 0 8, .railWithinTolerance 0 8] : List Instr).all (fun i => !i.wellFormed) = true := by decide

theorem test_well_formed_1 : ([
    .registerWrite 0 0xffff 4 0xffffffffffffffff [], .mbxDoorbell 0 15 0xffffffff, .mbxDoneClear 0 15 0xffffffff,
    .sessionOpen 0 15, .sessionClose 0 15, .sessionIdleTimeout 0 0xffffffff, .abort 0 15, .txnOpen 0 15, .txnCommit 0 15,
    .txnCancel 0 15, .snapOpen 0 15, .snapClose 0 15, .fnEnable 0 15, .fnDisable 0 15, .fnStatus 0 15, .rngEnable 0 31 0xffffffff,
    .rngDisable 0 31 0xffffffff, .rngConfigWrite 0 31 0xffffffff, .rngBaseWrite 0 31 0xffffffffffffffff,
    .rngHostIdxWrite 0 31 0xffffffff [], .rngDrainEnd 0 31, .bulkDescriptorStart 0 31, .bulkDescriptorDone 0 31 false false [],
    .canvasWindowOpen 0 7, .canvasWindowClose 0 7, .sliceWindowClose 0 7 15, .taskComplete 0 63 false, .gapStart 0 7,
    .scanStart 0 7 [], .emissionInstant 0 4 0xffff 0 false, .showClockStart 0 15, .showTimingSet 0 15, .sliceModeSet 0 15,
    .showClockStatus 0 15, .ltcWord 0 0xffffffff, .ptpConfig 0 15, .ptpStatus 0 15, .timeConfig 0 15, .timeStep 0 15,
    .pulseSet 0 15] : List Instr).all (fun i => i.wellFormed) = true := by decide

theorem test_well_formed_2 : ([
    .pulseEdge 0 7, .pulseEnd 0 7, .captureSet 0 15, .captureEdge 0 7 false, .timCapPop 0 7, .profileLoad 0 15,
    .profileDelete 0 15, .profileRead 0 15, .patchWrite 0 15, .patchClear 0 15, .patchRead 0 15, .paramWrite 0 15, .paramRead 0 15,
    .poolStatus 0 15, .cuelistLoad 0 15, .sourceDelete 0 15, .effectDefine 0 15, .effectTableLoad 0 15, .playbackAction 0 15,
    .playbackStatus 0 15, .layerSet 0 15, .policySet 0 15, .sacnRxSet 0 15, .dmxInSet 0 15, .liveWrite 0 15, .videoInSet 0 15,
    .videoSampleSet 0 15, .videoMapSet 0 15, .inputStatus 0 15, .mergeRead 0 15, .sacnSyncRx 0 3 0 { addr := 0 },
    .sacnSourceTimeout 0 0xffff 0, .sacnSyncTimeout 0 0xffff,
    .dmxInPacket 0 15 255 [] { breakNs := 100000, mabNs := 12000, bitRate := 250000, framing := false }, .dmxInTimeout 0 15,
    .videoPacketRx 0 1 { seq := 0, marker := false, sampling := 0, segs := [] }, .videoFrameTimeout 0 1, .videoLossTimeout 0 1,
    .calibSet 0 15, .regionSet 0 15] : List Instr).all (fun i => i.wellFormed) = true := by decide

theorem test_well_formed_3 : ([
    .feederSet 0 15, .feederMemberSet 0 15, .feederStatus 0 15, .solveRead 0 15, .canvasSet 0 15, .segmentSet 0 15,
    .pixelMapSet 0 15, .rectCheckSet 0 15, .teSet 0 15, .displaySet 0 15, .canvasStatus 0 15, .displayStatus 0 15,
    .tileLatchMissingTimeout 0 63 0x3ff, .teEdge 0 3 false, .teMissingTimeout 0 3, .curveLoad 0 15, .outputGroupSet 0 15,
    .tempSourceSet 0 15, .derateSet 0 15, .safetyGroupSet 0 15, .safetyMemberSet 0 15, .safetyClear 0 15, .safetyStatus 0 15,
    .derateStatus 0 15, .emitStatus 0 15, .laneTrained 0 63, .laneTrainTimeout 0 63, .laneLinkLoss 0 63,
    .latchAck 0 63 0x3ff 0xffffffff 0xffffffff, .temp 0 63 0x3ff false 0xffff, .fault 0 63 0x3ff 255, .rxError 0 63, .retrain 0 63,
    .testEcho 0 63 0xffffffff 0xffffffff, .backchannelMessageDiscard 0 63, .laneSet 0 15, .lanePhySet 0 15, .dmxPortSet 0 15,
    .pwmSet 0 15, .rdmTransaction 0 15] : List Instr).all (fun i => i.wellFormed) = true := by decide

theorem test_well_formed_4 : ([
    .rdmTransactionStart 0 15, .rdmResponseEnd 0 15 false [], .portStatus 0 15, .pwmPeriodStart 0 31, .pwmSenseSample 0 31 false,
    .netLinkUp 0 { port := 0, mbit := 1000 }, .netLinkDown 0 4 false false false, .netFrameRx 0 4 { bytes := [] } none,
    .pauseExpiry 0 4, .netFrameTx 0 4 { data := [] }, .netPortSet 0 15, .netRingBind 0 15, .netPortStatus 0 15,
    .netRingStatus 0 15, .sacnTxConfig 0 15, .sacnTxUniverseSet 0 15, .macsecSecySet 0 15, .macsecSaSet 0 15, .macsecStatus 0 15,
    .mtrSample 0 [], .mtrZeroCrossing 0 31 0, .mtrZcTimeout 0 31, .mtrAuxPeriodEnd 0 63, .mtrPulseEdge 0 7, .mtrPulseEnd 0 7,
    .mtrChannelSet 0 15, .mtrPointSet 0 15, .mtrEnergyPreset 0 15, .mtrPulseSet 0 15, .mtrRoveSet 0 15, .mtrPulseStatus 0 15,
    .mtrLatchRead 0 15, .mtrCycleRead 0 15, .mtrChannelStatus 0 15, .mtrCapture 0 15, .counterAccess 0 15, .counterConfig 0 15,
    .counterDump 0 15, .traceConfig 0 15, .traceRead 0 15] : List Instr).all (fun i => i.wellFormed) = true := by decide

theorem test_well_formed_5 : ([
    .renderStatus 0 15, .icuPendSet 0 7 0xffffffff, .icuPendClear 0 7 0xffffffff, .icuClaim 0 35, .icuComplete 0 35 0xffffffff,
    .icuConfigWrite 0 4 0xffffffff, .icuHoldoffExpiry 0 15, .icuRedirect 0 255, .eccRowRetire 0 5 0xffffffffff,
    .parityRestore 0 0xffffffffff, .queueRebuild 0 0xffff, .eccFlipArm 0 0xffffffff, .eccAccess 0 15, .queueStatus 0 15,
    .queueWmSet 0 15, .zlkBlockLock 0 5,
    .zlkHelloRx 0 5 false { uid := 0, rank := 0, plane := 0, link := 0, version := 0, helloRx := 0, digest := [] },
    .zlkHelloTimer 0 5, .zlkLockLoss 0 5,
    .zlkDataRx 0 5 { chan := 0, seq := 0, dest := 0, src := 0, len := 0, msg := .coordinator 0 }, .zlkAckRx 0 5 0xffff [],
    .zlkNakRx 0 5 0xffff [], .zlkTimeRx 0 5 0xffff 0xffff false [] 0 none, .zlkRetryTimeout 0 5, .memberLossTimeout 0 31,
    .tangoYield 0 255, .groupConfig 0 15, .groupStatus 0 15, .partitionSet 0 15, .tangoSwitch 0 15, .cotillionStatus 0 15,
    .updateBegin 0 15, .updateBlock 0 15, .updateVerify 0 15, .updateActivate 0 15, .partStartFail 0 15, .updateStatus 0 15,
    .authChallenge 0 15, .credSet 0 15, .keyEstablish 0 15] : List Instr).all (fun i => i.wellFormed) = true := by decide

theorem test_well_formed_6 : ([
    .keyInstall 0 15, .auditRead 0 15, .debugSet 0 15, .securityStatus 0 15, .trngFault 0 255, .resetRelease 0 15 false,
    .lanishambeStart 0 0 0 15, .supplyFault 0 7, .powerConfig 0 15, .supplyStatus 0 15, .bar2Write 0 0x1fffffff [],
    .counterWrap 0 255 7, .mtrPulseGapEnd 0 7, .railWithinTolerance 0 7] : List Instr).all (fun i => i.wellFormed) = true := by decide

/-! ### Values of the spec's rules, tables and examples -/

/-- R208: 1,000 ms at 60 Hz is 3,932,160 subframes (06, example "a crossfade cut short"). -/
theorem test_msToSub : msToSub (1, 60) 1000 = 3932160 := by decide

/-- R209, 06 example step 2: the INTENSITY fade at F 36,030+0. -/
theorem test_fade_linear :
    Fade.value ⟨0x400000, 0xC00000, 36000 * 65536, 0, 7864320, 0, false, 0, none⟩ (36030 * 65536) = 0x600000 := by decide

/-- R209, 06 example step 4: the S_CURVE product lies halfway between two binary32 values and rounds to the even one. -/
theorem test_fade_sCurve :
    Fade.value ⟨0x666666, 0x800000, 36000 * 65536, 1966080, 3932160, 1, false, 0, none⟩ (36075 * 65536) = 0x7C0000 := by decide

/-- R236, 07 example: alpha blend of layers 0, 3 and 6 with opacities 1.0, 0.5 and 0.25. -/
theorem test_alphaBlend :
    mergeAlpha { layers := [(3, { alpha := 16384 }), (6, { alpha := 8192 })] } 0
      [(0, ⟨0x800000, 100⟩), (3, ⟨0x200000, 150⟩), (6, ⟨0xFFFFFF, 100⟩)] = 0x7C0000 := by decide +kernel

/-- R106, 09 example: L(n) = t(n) + 40 - 20 - 16 ms = t(n) + 4 ms. -/
theorem test_latchPoint : latchOf none 0 (20 * usUnits 1000) (40 * usUnits 1000) (16 * usUnits 1000) = 4 * usUnits 1000 := by decide

/-- R351, 11 example: 960,000 B in 235 blocks take 3,075,155.2 ns, rounded up to the unit. -/
theorem test_laneScan : laneTime 120000 8 = 201533371188 := by decide

/-- R112: a day of 29.97 drop-frame LTC has 2,589,408 frames. -/
theorem test_ltcDay : ltcDay 30 true = 2589408 := by decide

/-- R347: K28.5 is 0011111010 after a negative running disparity, and its complement after a positive one (IEEE 802.3 clause 36). -/
theorem test_k28_5 : CodeGroup.bits10 false .k28_5 = 0b0011111010 ∧ CodeGroup.bits10 true .k28_5 = 0b1100000101 := by decide

/-- R348: the CRC-32C of the nine characters 1 to 9 is the published check value. -/
theorem test_crc32c : crc32c [0x31, 0x32, 0x33, 0x34, 0x35, 0x36, 0x37, 0x38, 0x39] = 0xE3069283#32 := by decide

/-- R325, 10 example: x = 38,228.75 with 4 dither bits gives 38,229 in 12 of 16 frames and 38,228 in the others. -/
theorem test_dither :
    ((List.range 16).map fun n => stage8 16 4 n 5 (F32.div (F32.ofRat 152915 4) (F32.ofInt 65535))).sum = 12 * 38229 + 4 * 38228 := by decide

/-- R38: pixel lane 42 is 0x0003_002A and metering point 5 is 0x000C_0005 (01). -/
theorem test_functionIds : fnId 3 42 = 0x0003002A ∧ fnId 12 5 = 0x000C0005 := by decide

/-! ### Commands, one step on a small state -/

/-- The state after a command that goes on. -/
def afterCmd (c : Instr) (s : State) : State :=
  match exec c s with
  | .next t => t
  | _ => s

/-- The status in the response header of mailbox 0. -/
def status0 (s : State) : Nat := fld (s.readRegion 0 0x20) 0x10 2

/-- R56, R51: the identity registers HID_DEVICE, HID_PCI_ID and HID_STEPPING. -/
theorem test_identity : ({} : State).hidRead 0 = 0x48363430 ∧ ({} : State).hidRead 4 = 0x64001F9A ∧ ({} : State).hidRead 8 = 0xB0 := by decide

/-- R14: a command outside the register window is the one stop of REGISTER_WRITE. -/
theorem test_registerWrite_outside : goesOn (exec (.registerWrite 0 0x10000 4 0 []) {}) = false := by decide

/-- R57: a DEV_EVENT bit is cleared by a write of one, and the others stay. -/
theorem test_devEvent_w1c : (afterCmd (.registerWrite 1 0x118 4 0x20 []) { host := { devEvent := 0x21 } }).host.devEvent = 1 := by decide

/-- R63: a doorbell posts a free mailbox; a second one is refused. -/
theorem test_doorbell : ((afterCmd (.mbxDoorbell 0 3 1) { host := { mbxReady := true } }).mbx 3).phase = .posted
    ∧ ((afterCmd (.mbxDoorbell 0 3 1) { host := { mbxReady := true, mbx := [(3, { phase := .posted })] } }).mbx 3).refused = true := by decide

/-- R537: reset leaves the device held, and RESET_RELEASE begins secure boot at stage 1. -/
theorem test_resetRelease : (afterCmd (.resetRelease 0 2 false) State.reset).host.bootStage = 1 := by decide

/-- R58: the heartbeat counts on and wraps. -/
theorem test_heartbeat : (afterCmd (.heartbeatTick 0) { host := { heartbeat := 0xFFFFFFFF#32, bootStage := 0x10 } }).host.heartbeat = 0 := by decide

/-- R463: a pending source, cleared in a later cycle, is idle again. -/
theorem test_pendClear : ((afterCmd (.icuPendClear 1 0 4) { icu := { sources := [(2, { phase := .pending, prio := 1 })] } }).icu.src 2).phase = .idle := by
  decide

/-- R62, R74: SESSION_CLOSE of the session itself completes with OK (0x0000) and the session is gone. -/
theorem test_sessionClose : status0 (afterCmd (.sessionClose 0 0) (wst (wreq 0x0102 0 (zeros 8)))) = 0
    ∧ (afterCmd (.sessionClose 0 0) (wst (wreq 0x0102 0 (zeros 8)))).host.sessions = [] := by decide +kernel

/-- R69 check 2: a payload of the wrong length answers BAD_LENGTH (0x0101). -/
theorem test_badLength : status0 (afterCmd (.sessionClose 0 0) (wst (wreq 0x0102 0 (zeros 5)))) = 0x0101 := by decide +kernel

/-- R69 check 4, R540: a VIEWER may not open a transaction; NOT_PERMITTED (0x0200). -/
theorem test_txnOpen_role : status0 (afterCmd (.txnOpen 0 0) (wstR 0 (wreq 0x0110 0 (zeros 8)))) = 0x0200 := by decide +kernel

/-- R75: an OPERATOR may, and a transaction is open in the slot that the device picks. -/
theorem test_txnOpen :
    (afterCmd (.txnOpen 0 0) (wstR 1 (wreq 0x0110 0 (zeros 8)))).txn.slots.length = 1 := by decide +kernel

/-- R54: bytes written to the region read back, and reading past them gives what was there. -/
theorem test_bar2Write : memReadBytes (afterCmd (.bar2Write 0 0x100 [1, 2, 3]) { mem := [(0x103, 9)] }).mem 0x100 4 = [1, 2, 3, 9] := by decide

/-- SHA-384 of the empty string (FIPS 180-4): its first bytes. -/
theorem test_sha384 : (sha384 []).take 8 = [0x38, 0xB0, 0x60, 0xA7, 0x51, 0xAC, 0x96, 0x38] := by decide +kernel

/-! ### Witnesses: the hypotheses of the statements can be met -/

/-- O1: an empty queue, secure boot with a package that passes, and a waiting command. -/
theorem wit_StepRunsFrontCommand_1 : ∃ s : State, s.pending = [] ∧ (s.power.reset ≠ .booting ∨ s.host.bootStage ≠ 1 ∨ s.update.bootArea 0 = none) :=
  ⟨{}, by decide, by decide⟩

theorem wit_StepRunsFrontCommand_2 : ∃ (s : State) (a : Nat),
    s.pending = [] ∧ s.power.reset = .booting ∧ s.host.bootStage = 1 ∧ s.update.bootArea 0 = some a :=
  ⟨{ power := { reset := .booting }, host := { bootStage := 1 } }, 0, by decide, by decide, by decide, by decide⟩

theorem wit_StepRunsFrontCommand_3 : ∃ (s : State) (c : Instr) (cs : List Instr), s.pending = c :: cs :=
  ⟨{ pending := [.timLatch 5, .heartbeatTick 0] }, _, _, rfl⟩

/-- O4: a settled state with a command in front, whose step answers a next state. -/
theorem wit_StepKeepsSettled : ∃ s t : State, Settled s ∧ step s = .next t ∧ s.pending ≠ [] :=
  ⟨{ pending := [.timLatch 5] }, _, ⟨by decide, by decide⟩, rfl, by decide⟩

/-- O6: a write that ends at the last byte of the region, and one that goes past it. -/
theorem wit_RegionReadsBack_1 : ∃ (off : Nat) (data : Bytes) (s : State), off + data.length ≤ regionSize ∧ Memory.wf s.mem = true ∧ s.mem ≠ [] :=
  ⟨0x1FFFFFFE, [1, 2], { mem := [(0x1FFFFFFF, 9)] }, by decide, by decide, by decide⟩

theorem wit_RegionReadsBack_2 : ∃ (off : Nat) (data : Bytes), regionSize < off + data.length :=
  ⟨0x1FFFFFFF, [1, 2], by decide⟩

/-- O7: the completion of mailbox 15. -/
theorem wit_CompletionWritesBody_1 : ∃ (s : State) (c : Ctx) (r : Reply),
    c.m < 16 ∧ r.resp.length ≤ 4064 ∧ Memory.wf s.mem = true ∧ c.irq = true :=
  ⟨{ mem := [(3, 4)] }, { ({ mbx := 15, req := wreq 0x0102 1 [], dbPos := 0 } : ExecReq).ctx with m := 15 }, ⟨.ok, [1, 2], none⟩,
    by decide, by decide, by decide, by decide⟩

/-- O8: a SESSION_CLOSE whose payload has 5 bytes where the command takes 8, and a row without a request. -/
theorem wit_FailedCheckChangesNothing_1 : ∃ (i : Instr) (dt m : Nat) (spec : CommandSpec) (s t : State) (e : ExecReq) (c : Ctx) (st : Status),
    mailboxOf i = some (dt, m, spec) ∧ s.host.mbxReady = true ∧ s.host.execOf m spec.code = some e ∧ c = e.ctx
    ∧ t = { s.tick dt with host := s.host.dropExec e } ∧ spec.firstFail c t = some st :=
  ⟨.sessionClose 0 0, 0, 0, _, wst (wreq 0x0102 0 (zeros 5)), _, { mbx := 0, req := wreq 0x0102 0 (zeros 5), dbPos := 0, role := 2 }, _, .badLength,
    rfl, by decide, by decide, rfl, rfl, by decide⟩

theorem wit_FailedCheckChangesNothing_2 : ∃ (i : Instr) (dt m : Nat) (spec : CommandSpec) (s : State),
    mailboxOf i = some (dt, m, spec) ∧ s.host.execOf m spec.code = none :=
  ⟨.txnOpen 0 3, 0, 3, _, {}, rfl, by decide⟩

/-- O9: a SESSION_CLOSE whose request word was poisoned. -/
theorem wit_PoisonedRequestIntegrity : ∃ (i : Instr) (dt m : Nat) (spec : CommandSpec) (s t : State) (e : ExecReq) (c : Ctx),
    mailboxOf i = some (dt, m, spec) ∧ s.host.mbxReady = true ∧ s.host.execOf m spec.code = some e ∧ e.poison = true ∧ c = e.ctx
    ∧ t = { s.tick dt with host := s.host.dropExec e } ∧ spec.firstFail c t = none :=
  ⟨.sessionClose 0 0, 0, 0, _,
    { host := { mbxReady := true, mbx := [(0, { phase := .executing })],
                execs := [{ mbx := 0, req := wreq 0x0102 0 (zeros 8), dbPos := 0, role := 2, poison := true }],
                sessions := [(1, { role := 2, idle := 0, lastNamed := 0 })] } },
    _, { mbx := 0, req := wreq 0x0102 0 (zeros 8), dbPos := 0, role := 2, poison := true }, _,
    rfl, by decide, by decide, rfl, rfl, rfl, by decide⟩

/-- O14: a session with an open and a committed transaction. -/
theorem wit_SessionEnds : ∃ (s : State) (id : Nat) (x : Session), s.host.sessions.find id = some x ∧ s.txn.slots ≠ [] :=
  ⟨{ host := { sessions := [(1, { role := 2, idle := 0, lastNamed := 0 })] }, txn := { slots := [(0, { session := 1, gen := 0, base := 0, baseView := {}, opened := 0 })] } }, 1, _, rfl, by decide⟩

/-- O21: each of the three results of a source's update. -/
theorem wit_SourceStates : ∃ (x y : IcuSource) (now : Nat), y = x.edge now ∨ y = x.clear now ∨ y = x.complete true now :=
  ⟨{}, _, 5, Or.inl rfl⟩

/-- O22: a controller with two sources. -/
theorem wit_SourceTableStaysSorted : ∃ i : IcuState, i.sorted ∧ i.sources.length = 2 :=
  ⟨{ sources := [(3, {}), (0xA9, {})] }, by unfold IcuState.sorted; decide, by decide⟩

/-- O23: a source to claim at target 35, none that a claim may return yet (its edge belongs to the same cycle), and one presented. -/
theorem wit_ClaimTakesBestSource_1 : ∃ (dt k n : Nat) (s : State), k < 36 ∧ s.icu.sorted
    ∧ s.icu.bestOf ((s.icu.presented k).filter fun j => !(s.icu.src j).justNow (s.tick dt).now) = some n :=
  ⟨0, 35, 9, { icu := { sources := [(9, { phase := .pending, prio := 3, target := 35 })] }, time := { now := 10 } },
    by decide, by unfold IcuState.sorted; decide, by decide⟩

theorem wit_ClaimTakesBestSource_2 : ∃ (dt k : Nat) (s : State), k < 36 ∧ (s.icu.presented k) ≠ []
    ∧ (∀ j ∈ s.icu.presented k, (s.icu.src j).justNow (s.tick dt).now = true) :=
  ⟨0, 35, { icu := { sources := [(9, { phase := .pending, prio := 3, target := 35, pendSince := 10, edgeAt := some 10 })] }, time := { now := 10 } },
    by decide, by decide, by decide⟩

theorem wit_ClaimTakesBestSource_3 : ∃ (i : IcuState) (k j : Nat),
    i.sorted ∧ (i.src j).phase = .pending ∧ i.route j = k ∧ i.effective k < (i.src j).prio :=
  ⟨{ sources := [(9, { phase := .pending, prio := 3, target := 35 })] }, 35, 9, by unfold IcuState.sorted; decide, by decide, by decide, by decide⟩


theorem wit_MailboxesArePostedAndTaken_1 : ∃ (m value : Nat) (s : State),
    m < 16 ∧
    bit value 0 = true ∧
    s.host.mbxReady = true ∧
    ((s.mbx m).phase = .free ∨ (s.mbx m).phase = .done) :=
  ⟨3, 1, { host := { mbxReady := true } }, by decide, by decide, by decide, by decide⟩

theorem wit_MailboxesArePostedAndTaken_2 : ∃ (m value : Nat) (s : State),
    m < 16 ∧
    bit value 0 = true ∧
    (s.host.mbxReady = false ∨ (s.mbx m).phase = .posted ∨ (s.mbx m).phase = .executing) :=
  ⟨3, 1, {}, by decide, by decide, by decide⟩

theorem wit_MailboxesArePostedAndTaken_3 : ∃ (value : Nat),
    bit value 0 = false :=
  ⟨0, by decide⟩

theorem wit_MailboxesArePostedAndTaken_4 : ∃ (dt m value : Nat) (s : State),
    m < 16 ∧
    bit value 0 = true ∧
    bit value 1 = false ∧
    (s.mbx m).phase = .done ∧
    (s.mbx m).doneAt ≠ some (s.tick dt).now :=
  ⟨0, 2, 1, { host := { mbx := [(2, { phase := .done })] } }, by decide, by decide, by decide, by decide, by decide⟩

theorem wit_MailboxesArePostedAndTaken_5 : ∃ (m value : Nat) (s : State),
    m < 16 ∧
    (bit value 0 = false ∨ (s.mbx m).phase ≠ .done) ∧
    bit value 1 = true :=
  ⟨2, 2, {}, by decide, by decide, by decide⟩

theorem wit_MailboxesArePostedAndTaken_6 : ∃ (m : Nat) (s : State),
    s.host.mbxReady = true ∧
    s.host.execs.length < 4 ∧
    s.nextMbx = some m ∧
    (specOf (fld (s.readRegion (m * 0x1000) 0x1000) 0 2)).isSome = true :=
  ⟨1, ({ host := { mbxReady := true, mbx := [(1, { phase := .posted })] }, mem := [(0x1000, 1), (0x1001, 1)] } : State), by decide, by decide, by decide, by decide⟩

theorem wit_MailboxesArePostedAndTaken_7 : ∃ (s : State),
    (s.host.mbxReady = false ∨ 4 ≤ s.host.execs.length ∨ s.nextMbx = none) :=
  ⟨{}, by decide⟩

theorem wit_RegisterWriteReachesUnit_1 : ∃ (off size : Nat),
    0x10000 < off + size :=
  ⟨0x10000, 4, by decide⟩

theorem wit_RegisterWriteReachesUnit_2 : ∃ (off size : Nat),
    off + size ≤ 0x10000 ∧
    accessOk off size = false :=
  ⟨2, 4, by decide, by decide⟩

theorem wit_RegisterWriteReachesUnit_4 : ∃ (m : Nat),
    m < 16 :=
  ⟨5, by decide⟩

theorem wit_RegisterWriteReachesUnit_5 : ∃ (m : Nat),
    m < 16 :=
  ⟨5, by decide⟩

theorem wit_RegisterWriteReachesUnit_6 : ∃ (r : Nat),
    r < 32 :=
  ⟨5, by decide⟩

theorem wit_RegisterWriteReachesUnit_7 : ∃ (p : Nat),
    p < 8 :=
  ⟨5, by decide⟩

theorem wit_RegisterWriteReachesUnit_8 : ∃ (p : Nat),
    p < 8 :=
  ⟨5, by decide⟩

theorem wit_RegisterWriteReachesUnit_9 : ∃ (k : Nat),
    k < 32 :=
  ⟨5, by decide⟩

theorem wit_RegisterWriteReachesUnit_10 : ∃ (off : Nat),
    icuConfigOff off = true :=
  ⟨4, by decide⟩

theorem wit_SessionCommands_1 : ∃ (dt m : Nat) (s t : State) (e : ExecReq) (c : Ctx) (p : Bytes),
    Running sessionOpenSpec m dt s e c t p ∧
    fld p 0 1 = 0 ∧
    t.auditFull = false ∧
    t.host.sessions.length < 32 ∧
    t.secure.trngFault = false ∧
    s.host.usedIds.length + 2 < 2 ^ 32 :=
  ⟨0, 0, (wst (wreq 0x0101 0 (zeros 8)) : State), _, { mbx := 0, req := (wreq 0x0101 0 (zeros 8)), dbPos := 0, role := 2, poison := false }, _, _, ⟨rfl, by decide, rfl, rfl, rfl, rfl, by decide, by decide⟩, by decide, by decide, by decide, by decide, by decide⟩

theorem wit_SessionCommands_2 : ∃ (dt m : Nat) (s t : State) (e : ExecReq) (c : Ctx) (p : Bytes) (x : Session),
    Running sessionCloseSpec m dt s e c t p ∧
    t.host.sessions.find (closeTarget c) = some x ∧
    (t.auditFull = false ∨ x.role = 3) :=
  ⟨0, 0, (wst (wreq 0x0102 0 (zeros 8)) : State), _, { mbx := 0, req := (wreq 0x0102 0 (zeros 8)), dbPos := 0, role := 2, poison := false }, _, _, { role := 2, idle := 0, lastNamed := 0 }, ⟨rfl, by decide, rfl, rfl, rfl, rfl, by decide, by decide⟩, by decide, by decide⟩

theorem wit_SessionCommands_3 : ∃ (dt m : Nat) (s t : State) (e : ExecReq) (c : Ctx) (p : Bytes) (x : Session),
    Running sessionCloseSpec m dt s e c t p ∧
    t.host.sessions.find (closeTarget c) = some x ∧
    t.secure.policy = 1 ∧
    auditCapacity ≤ t.secure.unacked ∧
    x.role ≠ 3 :=
  ⟨0, 0, ({ wst (wreq 0x0102 0 (zeros 8)) with secure := { policy := 1, audit := List.replicate 262144 (0, []) } } : State), _, { mbx := 0, req := (wreq 0x0102 0 (zeros 8)), dbPos := 0, role := 2 }, _, _, { role := 2, idle := 0, lastNamed := 0 }, ⟨rfl, by decide, rfl, rfl, rfl, rfl, by decide, by decide⟩, by decide, rfl, by
    have h : ∀ n, SecureState.unacked { policy := 1, audit := List.replicate n (0, []) } = n := fun n => by simp [SecureState.unacked]
    exact Nat.le_of_eq (h 262144).symm, by decide⟩

theorem wit_SessionCommands_4 : ∃ (dt session : Nat) (x : Session) (s : State),
    s.host.sessions.find session = some x ∧
    x.idle ≠ 0 ∧
    x.idle * cycSec ≤ (s.tick dt).now - x.lastNamed :=
  ⟨0, 1, { role := 0, idle := 1, lastNamed := 0 }, { host := { sessions := [(1, { role := 0, idle := 1, lastNamed := 0 })] }, time := { now := 1000000000 } }, by decide, by decide, by decide⟩

theorem wit_SessionCommands_5 : ∃ (dt session : Nat) (x : Session) (s : State),
    s.host.sessions.find session = some x ∧
    (x.idle = 0 ∨ (s.tick dt).now - x.lastNamed < x.idle * cycSec) :=
  ⟨0, 1, { role := 0, idle := 0, lastNamed := 0 }, { host := { sessions := [(1, { role := 0, idle := 0, lastNamed := 0 })] } }, by decide, by decide⟩

theorem wit_CancelDiscardsTransaction_1 : ∃ (dt m : Nat) (s t : State) (e : ExecReq) (c : Ctx) (p : Bytes) (x : TxnSlot),
    Running txnCancelSpec m dt s e c t p ∧
    t.txn.slots.find (handleSlot p) = some x ∧
    x.commit = none :=
  ⟨0, 0, ({ wst (wreq 0x0112 0 (bytesLE 4 2 ++ zeros 4)) with txn := { slots := [(2, { gen := 0, session := 1, base := 0, baseView := {}, opened := 0 })] } } : State), _, { mbx := 0, req := (wreq 0x0112 0 (bytesLE 4 2 ++ zeros 4)), dbPos := 0, role := 2, poison := false }, _, _, { gen := 0, session := 1, base := 0, baseView := {}, opened := 0 }, ⟨rfl, by decide, rfl, rfl, rfl, rfl, by decide, by decide⟩, by decide, by decide⟩

theorem wit_CancelDiscardsTransaction_2 : ∃ (dt m : Nat) (s t : State) (e : ExecReq) (c : Ctx) (p : Bytes) (x : TxnSlot),
    Running txnCancelSpec m dt s e c t p ∧
    t.txn.slots.find (handleSlot p) = some x ∧
    x.commit.isSome = true :=
  ⟨0, 0, ({ wst (wreq 0x0112 0 (bytesLE 4 2 ++ zeros 4)) with txn := { slots := [(2, { gen := 0, session := 1, base := 0, baseView := {}, opened := 0, commit := some { seq := 0, op := 1, target := 9, lead := 0 } })] } } : State), _, { mbx := 0, req := (wreq 0x0112 0 (bytesLE 4 2 ++ zeros 4)), dbPos := 0, role := 2, poison := false }, _, _, { gen := 0, session := 1, base := 0, baseView := {}, opened := 0, commit := some { seq := 0, op := 1, target := 9, lead := 0 } }, ⟨rfl, by decide, rfl, rfl, rfl, rfl, by decide, by decide⟩, by decide, by decide⟩

theorem wit_TransactionCommands_1 : ∃ (dt m : Nat) (s t : State) (e : ExecReq) (c : Ctx) (p : Bytes),
    Running txnOpenSpec m dt s e c t p ∧
    freeSlots t.txn.slots 16 ≠ [] :=
  ⟨0, 0, (wst (wreq 0x0110 0 (zeros 8)) : State), _, { mbx := 0, req := (wreq 0x0110 0 (zeros 8)), dbPos := 0, role := 2, poison := false }, _, _, ⟨rfl, by decide, rfl, rfl, rfl, rfl, by decide, by decide⟩, by decide⟩

theorem wit_TransactionCommands_2 : ∃ (dt m : Nat) (s t : State) (e : ExecReq) (c : Ctx) (p : Bytes),
    Running txnOpenSpec m dt s e c t p ∧
    freeSlots t.txn.slots 16 = [] :=
  ⟨0, 0, ({ wst (wreq 0x0110 0 (zeros 8)) with txn := { slots := (List.range 16).map fun k => (k, { gen := 0, session := 1, base := 0, baseView := {}, opened := 0 }) } } : State), _, { mbx := 0, req := (wreq 0x0110 0 (zeros 8)), dbPos := 0, role := 2, poison := false }, _, _, ⟨rfl, by decide, rfl, rfl, rfl, rfl, by decide, by decide⟩, by decide⟩

theorem wit_TransactionCommands_3 : ∃ (dt m : Nat) (s t : State) (e : ExecReq) (c : Ctx) (p : Bytes) (n : Nat) (pos : Pos),
    Running snapOpenSpec m dt s e c t p ∧
    n = (if fld p 0 8 = 2 ^ 64 - 1 then s.host.devEpoch else fld p 0 8) ∧
    t.epochPos n = some pos ∧
    freeSlots t.txn.snaps 8 ≠ [] :=
  ⟨0, 0, (wst (wreq 0x0114 0 (zeros 8)) : State), _, { mbx := 0, req := (wreq 0x0114 0 (zeros 8)), dbPos := 0, role := 2, poison := false }, _, _, 0, 0, ⟨rfl, by decide, rfl, rfl, rfl, rfl, by decide, by decide⟩, by decide, by decide, by decide⟩

theorem wit_TransactionCommands_4 : ∃ (dt m : Nat) (s t : State) (e : ExecReq) (c : Ctx) (p : Bytes),
    Running snapCloseSpec m dt s e c t p :=
  ⟨0, 0, ({ wst (wreq 0x0115 0 (bytesLE 4 2 ++ zeros 4)) with txn := { snaps := [(2, ⟨0, 1, 0, false, 0⟩)] } } : State), _, { mbx := 0, req := (wreq 0x0115 0 (bytesLE 4 2 ++ zeros 4)), dbPos := 0, role := 2, poison := false }, _, _, ⟨rfl, by decide, rfl, rfl, rfl, rfl, by decide, by decide⟩⟩

theorem wit_TransactionCommands_5 : ∃ (dt m : Nat) (u : State) (e : ExecReq) (c : Ctx) (p : Bytes) (x : TxnSlot) (n : Nat) (s : State),
    Running txnCommitSpec m dt s e c u p ∧
    s.group.inGroup = false ∧
    u.txn.slots.find (fld p 0 1) = some x ∧
    u.commitFront x (fld p 2 1) (fld p 8 8) c = .inr n ∧
    u.conflicts x = false ∧
    u.writesStatus x.writes u.txn.waitingTxns c.db (if u.clock.run then n else u.clock.startFrame) = none ∧
    u.acceptFail = none :=
  ⟨0, 0, _, { mbx := 0, req := wreq 0x0111 0 (bytesLE 4 0x10002 ++ zeros 12), dbPos := 0, role := 2 }, _, _, { gen := 0, session := 1, base := 0, baseView := {}, opened := 0 }, 0,
   ({ wst (wreq 0x0111 0 (bytesLE 4 0x10002 ++ zeros 12)) with txn := { slots := [(2, { gen := 0, session := 1, base := 0, baseView := {}, opened := 0 })] } } : State), ⟨rfl, by decide, rfl, rfl, rfl, rfl, by decide, by decide⟩, by decide, by decide, by decide, by decide, by decide, by decide⟩

theorem wit_AbortCommand_1 : ∃ (dt m : Nat) (s t : State) (e : ExecReq) (c : Ctx) (p : Bytes) (o : Op) (ns : List Nat) (bs : Bytes),
    Running abortSpec m dt s e c t p ∧
    t.host.ops.find? (fun o => o.session == c.session && o.tag == fld p 0 4) = some o ∧
    (o.command = 0x0E01 ∨ o.command = 0x0E02) ∧
    o.kind = .job ns bs :=
  ⟨0, 0, ({ wst (wreq 0x0104 0 (bytesLE 4 9 ++ zeros 4)) with host := { (wst (wreq 0x0104 0 (bytesLE 4 9 ++ zeros 4))).host with ops := [{ id := 1, command := 0x0E01, flags := 0, tag := 9, session := 1, kind := .job [] [] }] } } : State), _, { mbx := 0, req := (wreq 0x0104 0 (bytesLE 4 9 ++ zeros 4)), dbPos := 0, role := 2, poison := false }, _, _, { id := 1, command := 0x0E01, flags := 0, tag := 9, session := 1, kind := .job [] [] }, [], [], ⟨rfl, by decide, rfl, rfl, rfl, rfl, by decide, by decide⟩, by decide, by decide, by decide⟩

theorem wit_AbortCommand_2 : ∃ (dt m : Nat) (s t : State) (e : ExecReq) (c : Ctx) (p : Bytes) (k : Nat),
    Running abortSpec m dt s e c t p ∧
    t.host.ops.find? (fun o => o.session == c.session && o.tag == fld p 0 4) = none ∧
    t.postedMbx c.session (fld p 0 4) = some k :=
  ⟨0, 0, ({ wst (wreq 0x0104 0 (bytesLE 4 9 ++ zeros 4)) with mem := [(0x4004, 9), (0x4008, 1)], host := { (wst (wreq 0x0104 0 (bytesLE 4 9 ++ zeros 4))).host with mbx := [(0, { phase := .executing }), (4, { phase := .posted })] } } : State), _, { mbx := 0, req := (wreq 0x0104 0 (bytesLE 4 9 ++ zeros 4)), dbPos := 0, role := 2, poison := false }, _, _, 4, ⟨rfl, by decide, rfl, rfl, rfl, rfl, by decide, by decide⟩, by decide, by decide⟩

theorem wit_AbortCommand_3 : ∃ (dt m : Nat) (s t : State) (e : ExecReq) (c : Ctx) (p : Bytes),
    Running abortSpec m dt s e c t p ∧
    t.host.ops.find? (fun o => o.session == c.session && o.tag == fld p 0 4) = none ∧
    t.postedMbx c.session (fld p 0 4) = none ∧
    t.tagDone c.session (fld p 0 4) = true :=
  ⟨0, 0, ({ wst (wreq 0x0104 0 (bytesLE 4 9 ++ zeros 4)) with host := { (wst (wreq 0x0104 0 (bytesLE 4 9 ++ zeros 4))).host with sessions := [(1, { role := 2, idle := 0, lastNamed := 0, doneTags := [9] })] } } : State), _, { mbx := 0, req := (wreq 0x0104 0 (bytesLE 4 9 ++ zeros 4)), dbPos := 0, role := 2, poison := false }, _, _, ⟨rfl, by decide, rfl, rfl, rfl, rfl, by decide, by decide⟩, by decide, by decide, by decide⟩

theorem wit_AbortCommand_4 : ∃ (dt m : Nat) (s t : State) (e : ExecReq) (c : Ctx) (p : Bytes),
    Running abortSpec m dt s e c t p ∧
    t.host.ops.find? (fun o => o.session == c.session && o.tag == fld p 0 4) = none ∧
    t.postedMbx c.session (fld p 0 4) = none ∧
    fld p 0 4 ≠ c.tag ∧
    t.tagExecuting c.session (fld p 0 4) = false ∧
    t.tagDone c.session (fld p 0 4) = false :=
  ⟨0, 0, (wst (wreq 0x0104 0 (bytesLE 4 9 ++ zeros 4)) : State), _, { mbx := 0, req := (wreq 0x0104 0 (bytesLE 4 9 ++ zeros 4)), dbPos := 0, role := 2, poison := false }, _, _, ⟨rfl, by decide, rfl, rfl, rfl, rfl, by decide, by decide⟩, by decide, by decide, by decide, by decide, by decide⟩

theorem wit_FunctionsEnableAndDrain_1 : ∃ (dt m : Nat) (s t : State) (e : ExecReq) (c : Ctx) (p : Bytes) (i : Nat),
    Running fnEnableSpec m dt s e c t p ∧
    i = fld p 0 4 ∧
    (t.fn i).state = .disabled ∧
    (t.fn i).failed = false :=
  ⟨0, 0, (wst (wreq 0x0120 0 (bytesLE 4 0x40003 ++ zeros 4)) : State), _, { mbx := 0, req := (wreq 0x0120 0 (bytesLE 4 0x40003 ++ zeros 4)), dbPos := 0, role := 2, poison := false }, _, _, 0x40003, ⟨rfl, by decide, rfl, rfl, rfl, rfl, by decide, by decide⟩, by decide, by decide, by decide⟩

theorem wit_FunctionsEnableAndDrain_2 : ∃ (dt m : Nat) (s t : State) (e : ExecReq) (c : Ctx) (p : Bytes),
    Running fnEnableSpec m dt s e c t p ∧
    (t.fn (fld p 0 4)).state = .enabled :=
  ⟨0, 0, ({ wst (wreq 0x0120 0 (bytesLE 4 0x40003 ++ zeros 4)) with fns := [(0x40003, { state := .enabled })] } : State), _, { mbx := 0, req := (wreq 0x0120 0 (bytesLE 4 0x40003 ++ zeros 4)), dbPos := 0, role := 2, poison := false }, _, _, ⟨rfl, by decide, rfl, rfl, rfl, rfl, by decide, by decide⟩, by decide⟩

theorem wit_FunctionsEnableAndDrain_3 : ∃ (dt m : Nat) (s t : State) (e : ExecReq) (c : Ctx) (p : Bytes),
    Running fnEnableSpec m dt s e c t p ∧
    (t.fn (fld p 0 4)).state = .draining :=
  ⟨0, 0, ({ wst (wreq 0x0120 0 (bytesLE 4 0x40003 ++ zeros 4)) with fns := [(0x40003, { state := .draining })] } : State), _, { mbx := 0, req := (wreq 0x0120 0 (bytesLE 4 0x40003 ++ zeros 4)), dbPos := 0, role := 2, poison := false }, _, _, ⟨rfl, by decide, rfl, rfl, rfl, rfl, by decide, by decide⟩, by decide⟩

theorem wit_FunctionsEnableAndDrain_4 : ∃ (dt m : Nat) (s t : State) (e : ExecReq) (c : Ctx) (p : Bytes),
    Running fnDisableSpec m dt s e c t p ∧
    (t.fn (fld p 0 4)).state = .disabled :=
  ⟨0, 0, (wst (wreq 0x0121 0 (bytesLE 4 0x40003 ++ zeros 4)) : State), _, { mbx := 0, req := (wreq 0x0121 0 (bytesLE 4 0x40003 ++ zeros 4)), dbPos := 0, role := 2, poison := false }, _, _, ⟨rfl, by decide, rfl, rfl, rfl, rfl, by decide, by decide⟩, by decide⟩

theorem wit_FunctionsEnableAndDrain_5 : ∃ (dt m : Nat) (s t : State) (e : ExecReq) (c : Ctx) (p : Bytes),
    Running fnDisableSpec m dt s e c t p ∧
    (t.fn (fld p 0 4)).state = .draining :=
  ⟨0, 0, ({ wst (wreq 0x0121 0 (bytesLE 4 0x40003 ++ zeros 4)) with fns := [(0x40003, { state := .draining })] } : State), _, { mbx := 0, req := (wreq 0x0121 0 (bytesLE 4 0x40003 ++ zeros 4)), dbPos := 0, role := 2, poison := false }, _, _, ⟨rfl, by decide, rfl, rfl, rfl, rfl, by decide, by decide⟩, by decide⟩

theorem wit_FunctionsEnableAndDrain_6 : ∃ (dt m : Nat) (s t : State) (e : ExecReq) (c : Ctx) (p : Bytes),
    Running fnDisableSpec m dt s e c t p ∧
    (t.fn (fld p 0 4)).state = .enabled ∧
    t.dependency (fnClass (fld p 0 4)) (fnInst (fld p 0 4)) = true :=
  ⟨0, 0, ({ wst (wreq 0x0121 0 (bytesLE 4 0x90003 ++ zeros 4)) with fns := [(0x90003, { state := .enabled })] } : State), _, { mbx := 0, req := (wreq 0x0121 0 (bytesLE 4 0x90003 ++ zeros 4)), dbPos := 0, role := 2, poison := false }, _, _, ⟨rfl, by decide, rfl, rfl, rfl, rfl, by decide, by decide⟩, by decide, by decide⟩

theorem wit_FunctionsEnableAndDrain_7 : ∃ (dt m : Nat) (s t : State) (e : ExecReq) (c : Ctx) (p : Bytes) (i : Nat),
    Running fnDisableSpec m dt s e c t p ∧
    i = fld p 0 4 ∧
    (t.fn i).state = .enabled ∧
    t.dependency (fnClass i) (fnInst i) = false ∧
    t.acceptFail = none :=
  ⟨0, 0, ({ wst (wreq 0x0121 0 (bytesLE 4 0x40003 ++ zeros 4)) with fns := [(0x40003, { state := .enabled })] } : State), _, { mbx := 0, req := (wreq 0x0121 0 (bytesLE 4 0x40003 ++ zeros 4)), dbPos := 0, role := 2, poison := false }, _, _, 0x40003, ⟨rfl, by decide, rfl, rfl, rfl, rfl, by decide, by decide⟩, by decide, by decide, by decide, by decide⟩

theorem wit_FunctionsEnableAndDrain_8 : ∃ (dt m : Nat) (s t : State) (e : ExecReq) (c : Ctx) (p : Bytes),
    Running fnStatusSpec m dt s e c t p :=
  ⟨0, 0, (wst (wreq 0x0122 0 (bytesLE 4 0x40003 ++ zeros 4)) : State), _, { mbx := 0, req := (wreq 0x0122 0 (bytesLE 4 0x40003 ++ zeros 4)), dbPos := 0, role := 2, poison := false }, _, _, ⟨rfl, by decide, rfl, rfl, rfl, rfl, by decide, by decide⟩⟩

theorem wit_FunctionsEnableAndDrain_9 : ∃ (dt fn : Nat) (s : State),
    (s.fn fn).state = .draining ∧
    (s.tick dt).itemsLeft (fnClass fn) (fnInst fn) = 0 :=
  ⟨0, 0x40003, { fns := [(0x40003, { state := .draining })] }, by decide, by decide⟩

theorem wit_FunctionsEnableAndDrain_10 : ∃ (dt fn : Nat) (s : State),
    (s.fn fn).state = .draining ∧
    (s.fn fn).bound ≤ (s.tick dt).now :=
  ⟨0, 0x40003, { fns := [(0x40003, { state := .draining })] }, by decide, by decide⟩

theorem wit_FunctionsEnableAndDrain_11 : ∃ (fn : Nat) (s : State),
    (s.fn fn).state ≠ .draining :=
  ⟨0, {}, by decide⟩

theorem wit_FunctionsEnableAndDrain_12 : ∃ (fn : Nat) (s : State),
    (s.fn fn).state ≠ .draining :=
  ⟨0, {}, by decide⟩

theorem wit_RingRegisters_1 : ∃ (r value : Nat) (s : State),
    r < 32 ∧
    (s.ring r).phase = .disabled ∧
    4 ≤ (ringCfgOf value).log2 ∧
    (ringCfgOf value).log2 ≤ 16 ∧
    ringCfgOk r (ringCfgOf value) = true :=
  ⟨3, 0x204, {}, by decide, by decide, by decide, by decide, by decide⟩

theorem wit_RingRegisters_2 : ∃ (r value : Nat) (s : State),
    r < 32 ∧
    ((ringCfgOf value).log2 < 4 ∨ 16 < (ringCfgOf value).log2 ∨ (s.ring r).phase = .draining ∨ ((s.ring r).phase = .disabled ∧ ringCfgOk r (ringCfgOf value) = false)) :=
  ⟨3, 3, {}, by decide, by decide⟩

theorem wit_RingRegisters_3 : ∃ (r value : Nat) (s : State),
    r < 32 ∧
    (s.ring r).phase = .disabled ∧
    4 ≤ (ringCfgOf value).log2 ∧
    (ringCfgOf value).log2 ≤ 16 :=
  ⟨3, 4, {}, by decide, by decide, by decide, by decide⟩

theorem wit_RingRegisters_4 : ∃ (r value : Nat) (s : State),
    r < 32 ∧
    (s.ring r).phase ≠ .disabled ∧
    ringCfgOf value ≠ (s.ring r).cfg :=
  ⟨3, 4, { host := { rings := [(3, { phase := .enabled })] } }, by decide, by decide, by decide⟩

theorem wit_RingRegisters_5 : ∃ (r value : Nat) (s : State),
    r < 32 ∧
    (s.ring r).phase = .enabled ∧
    4 ≤ (ringCfgOf value).log2 ∧
    (ringCfgOf value).log2 ≤ 16 ∧
    ringCfgOf value = (s.ring r).cfg :=
  ⟨3, 4, { host := { rings := [(3, { cfg := { log2 := 4 }, phase := .enabled })] } }, by decide, by decide, by decide, by decide, by decide⟩

theorem wit_RingRegisters_6 : ∃ (r : Nat) (s : State),
    r < 32 ∧
    (s.ring r).phase = .disabled :=
  ⟨3, {}, by decide, by decide⟩

theorem wit_RingRegisters_7 : ∃ (r : Nat) (s : State),
    r < 32 ∧
    (s.ring r).phase ≠ .disabled :=
  ⟨3, { host := { rings := [(3, { phase := .enabled })] } }, by decide, by decide⟩

theorem wit_RingRegisters_8 : ∃ (r : Nat) (s : State),
    r < 32 ∧
    (s.ring r).phase = .draining ∧
    (s.ring r).inFlight = none :=
  ⟨3, { host := { rings := [(3, { phase := .draining })] } }, by decide, by decide, by decide⟩

theorem wit_RingRegisters_9 : ∃ (r : Nat) (s : State),
    r < 32 ∧
    (s.ring r).phase = .disabled :=
  ⟨3, {}, by decide, by decide⟩

theorem wit_RingRegisters_10 : ∃ (r value : Nat) (s : State),
    r < 32 ∧
    (s.ring r).phase = .enabled ∧
    (s.ring r).cfg.dir = true ∧
    s.txPortOf r = none ∧
    BitVec.ofNat 32 value - (s.ring r).hostIdx ≤ (s.ring r).devIdx - (s.ring r).hostIdx :=
  ⟨0, 0, { host := { rings := [(0, { cfg := { log2 := 4, dir := true, cls := 1 }, phase := .enabled })] } }, by decide, by decide, by decide, by decide, by decide⟩

theorem wit_RingRegisters_11 : ∃ (r value : Nat) (s : State),
    r < 32 ∧
    (s.ring r).phase = .enabled ∧
    (s.ring r).cfg.dir = false ∧
    (∀ port, s.txPortOf r = some port → s.portOn port = true) ∧
    BitVec.ofNat 32 value - (s.ring r).hostIdx ≤ (s.ring r).devIdx + BitVec.ofNat 32 (2 ^ (s.ring r).cfg.log2) - (s.ring r).hostIdx :=
  ⟨3, 1, { host := { rings := [(3, { cfg := { log2 := 4, cls := 2 }, phase := .enabled })] } }, by decide, by decide, by decide, by decide, by decide⟩

theorem wit_RingRegisters_12 : ∃ (r value : Nat) (s : State),
    r < 32 ∧
    (s.ring r).phase ≠ .disabled ∧
    (if (s.ring r).cfg.dir = true then (s.ring r).devIdx - (s.ring r).hostIdx < BitVec.ofNat 32 value - (s.ring r).hostIdx else (s.ring r).devIdx + BitVec.ofNat 32 (2 ^ (s.ring r).cfg.log2) - (s.ring r).hostIdx < BitVec.ofNat 32 value - (s.ring r).hostIdx) :=
  ⟨0, 1, { host := { rings := [(0, { cfg := { log2 := 4, dir := true, cls := 1 }, phase := .enabled })] } }, by decide, by decide, by decide⟩

theorem wit_BulkTransfers_1 : ∃ (r : Nat) (d : BulkDesc) (ds : List BulkDesc) (s : State),
    r < 32 ∧
    (s.ring r).phase = .enabled ∧
    ((s.ring r).cfg.cls = 2 ∨ (s.ring r).cfg.cls = 3) ∧
    (s.ring r).inFlight = none ∧
    (s.ring r).posted = d :: ds ∧
    d.badRange = false :=
  ⟨3, { hostAddr := 0, length := 4, flags := 0, regionOff := 0x10000, tag := 0 }, [], { host := { rings := [(3, { cfg := { log2 := 4, cls := 2 }, phase := .enabled, posted := [{ hostAddr := 0, length := 4, flags := 0, regionOff := 0x10000, tag := 0 }] })] } }, by decide, by decide, by decide, by decide, by decide, by decide⟩

theorem wit_BulkTransfers_2 : ∃ (r : Nat) (d : BulkDesc) (ds : List BulkDesc) (s : State),
    r < 32 ∧
    (s.ring r).phase = .enabled ∧
    ((s.ring r).cfg.cls = 2 ∨ (s.ring r).cfg.cls = 3) ∧
    (s.ring r).inFlight = none ∧
    (s.ring r).posted = d :: ds ∧
    d.badRange = true :=
  ⟨3, { hostAddr := 0, length := 4, flags := 0, regionOff := 0, tag := 0 }, [], { host := { rings := [(3, { cfg := { log2 := 4, cls := 2 }, phase := .enabled, posted := [{ hostAddr := 0, length := 4, flags := 0, regionOff := 0, tag := 0 }] })] } }, by decide, by decide, by decide, by decide, by decide, by decide⟩

theorem wit_BulkTransfers_3 : ∃ (r : Nat) (d : BulkDesc) (s : State),
    r < 32 ∧
    (s.ring r).phase = .enabled ∧
    (s.ring r).cfg.cls = 2 ∧
    (s.ring r).inFlight = some d :=
  ⟨3, { hostAddr := 0, length := 4, flags := 0, regionOff := 0x10000, tag := 0 }, { host := { rings := [(3, { cfg := { log2 := 4, cls := 2 }, phase := .enabled, inFlight := some { hostAddr := 0, length := 4, flags := 0, regionOff := 0x10000, tag := 0 } })] } }, by decide, by decide, by decide, by decide⟩

theorem wit_BulkTransfers_4 : ∃ (r : Nat) (d : BulkDesc) (s : State),
    r < 32 ∧
    (s.ring r).phase = .enabled ∧
    (s.ring r).cfg.cls = 3 ∧
    (s.ring r).inFlight = some d :=
  ⟨3, { hostAddr := 0, length := 4, flags := 0, regionOff := 0x10000, tag := 0 }, { host := { rings := [(3, { cfg := { log2 := 4, cls := 3 }, phase := .enabled, inFlight := some { hostAddr := 0, length := 4, flags := 0, regionOff := 0x10000, tag := 0 } })] } }, by decide, by decide, by decide, by decide⟩

theorem wit_BulkTransfers_5 : ∃ (x : Completion) (cs : List Completion) (s : State),
    s.host.held = x :: cs ∧
    (s.ring 0).phase = .enabled ∧
    0 < (s.ring 0).free :=
  ⟨{ command := 0, flags := 0, tag := 0, session := 0, status := .ok, pos := 0, resp := [] }, [], { host := { held := [{ command := 0, flags := 0, tag := 0, session := 0, status := .ok, pos := 0, resp := [] }], rings := [(0, { cfg := { log2 := 4, dir := true, cls := 1 }, phase := .enabled })] } }, by decide, by decide, by decide⟩

theorem wit_BulkTransfers_6 : ∃ (s : State),
    (s.ring 0).phase ≠ .enabled :=
  ⟨{}, by decide⟩

theorem wit_InterruptController_1 : ∃ (p : Nat),
    p < 8 :=
  ⟨1, by decide⟩

theorem wit_InterruptController_2 : ∃ (p : Nat),
    p < 8 :=
  ⟨1, by decide⟩

theorem wit_InterruptController_3 : ∃ (k n : Nat) (s : State),
    k < 36 ∧
    n < 256 ∧
    ((s.icu.src n).phase = .active ∨ (s.icu.src n).phase = .activePending) ∧
    (s.icu.src n).claimant = k :=
  ⟨2, 3, { icu := { sources := [(3, { prio := 5, target := 2, phase := .active, claimant := 2 })] } }, by decide, by decide, by decide, by decide⟩

theorem wit_InterruptController_4 : ∃ (k n : Nat) (s : State),
    k < 36 ∧
    n < 256 ∧
    ((s.icu.src n).claimed = false ∨ (s.icu.src n).claimant ≠ k) :=
  ⟨2, 3, { icu := { sources := [(3, { prio := 5, target := 2, phase := .pending })] } }, by decide, by decide, by decide⟩

theorem wit_InterruptController_5 : ∃ (value n : Nat),
    n < 256 ∧
    bits value 4 6 ≤ 35 :=
  ⟨0, 3, by decide, by decide⟩

theorem wit_InterruptController_6 : ∃ (value g : Nat),
    g < 16 ∧
    bits value 16 6 ≤ 35 :=
  ⟨0, 3, by decide, by decide⟩

theorem wit_InterruptController_7 : ∃ (k : Nat),
    k < 32 :=
  ⟨3, by decide⟩

theorem wit_InterruptController_8 : ∃ (v : Nat),
    v < 32 :=
  ⟨3, by decide⟩

theorem wit_InterruptController_9 : ∃ (k : Nat),
    k < 4 :=
  ⟨3, by decide⟩

theorem wit_InterruptController_13 : ∃ (dt g x : Nat) (s : State),
    (s.icu.grp g).holdEnd = some x ∧
    x ≤ (s.tick dt).now :=
  ⟨0, 3, 0, { icu := { groups := [(3, { holdEnd := some 0 })] } }, by decide, by decide⟩

theorem wit_InterruptController_14 : ∃ (dt g : Nat) (s : State),
    ((s.icu.grp g).holdEnd = none ∨ (∃ x, (s.icu.grp g).holdEnd = some x ∧ (s.tick dt).now < x)) :=
  ⟨0, 0, {}, Or.inl (by decide)⟩

theorem wit_InterruptController_15 : ∃ (dt source : Nat) (s : State),
    (s.icu.src source).phase = .pending ∧
    (s.icu.src source).wake = false ∧
    (s.icu.src source).redirected = false ∧
    s.icu.asleep (s.icu.src source).target = true ∧
    (s.icu.src source).pendSince + (s.icu.grp (srcGroup source)).holdoffUs * 500 ≤ (s.tick dt).now :=
  ⟨0, 3, { icu := { sources := [(3, { prio := 5, target := 2, phase := .pending, wake := false })] } }, by decide, by decide, by decide, by decide, by decide⟩

theorem wit_InterruptController_16 : ∃ (source : Nat) (s : State),
    ((s.icu.src source).wake = true ∨ (s.icu.src source).phase ≠ .pending ∨ s.icu.asleep (s.icu.src source).target = false) :=
  ⟨0, {}, by decide⟩

theorem wit_MemoryIntegrity_2 : ∃ (mem addr w : Nat) (s : State),
    w = wordOf mem addr ∧
    s.ecc.retireDue w = true ∧
    s.ecc.spares.getD (wordBank w) 0 < spareRows (wordMem w) :=
  ⟨0, 0, 0, { ecc := { tracker := [⟨0, [0, 0, 0]⟩] } }, by decide, by decide, by decide⟩

theorem wit_MemoryIntegrity_3 : ∃ (mem addr : Nat) (s : State),
    s.ecc.retireDue (wordOf mem addr) = false :=
  ⟨0, 0, {}, by decide⟩

theorem wit_MemoryIntegrity_4 : ∃ (found : Nat) (s : State),
    s.ecc.errorsAt (scrubWord s.ecc.progress).1 found = 0 ∧
    (scrubWord s.ecc.progress).2 < memSizes.sum :=
  ⟨0, {}, by decide, by decide⟩

theorem wit_MemoryIntegrity_5 : ∃ (found w : Nat) (s : State),
    w = (scrubWord s.ecc.progress).1 ∧
    s.ecc.errorsAt w found = 2 ∧
    (scrubWord s.ecc.progress).2 < memSizes.sum :=
  ⟨2, 0, {}, by decide, by decide, by decide⟩

theorem wit_MemoryIntegrity_6 : ∃ (found : Nat) (s : State),
    wordMem (scrubWord s.ecc.progress).1 = 0 ∧
    s.ecc.errorsAt (scrubWord s.ecc.progress).1 found = 1 ∧
    (scrubWord s.ecc.progress).2 < memSizes.sum :=
  ⟨1, {}, by decide, by decide, by decide⟩

theorem wit_MemoryIntegrity_7 : ∃ (s : State),
    s.host.eccOpen = true :=
  ⟨{ host := { sessions := [(1, { role := 2, idle := 0, lastNamed := 0, eccAccess := true })] } }, by decide⟩

theorem wit_MemoryIntegrity_8 : ∃ (s : State),
    s.host.eccOpen = false :=
  ⟨{}, by decide⟩

theorem wit_MemoryIntegrity_9 : ∃ (queue : Nat) (s : State),
    (queueClass queue).map (·.1) = some 0 ∧
    (s.icu.src 0xA8).count < 2 ^ 31 :=
  ⟨3, {}, by decide, by decide⟩

theorem wit_MemoryIntegrity_10 : ∃ (queue : Nat),
    (∀ x, queueClass queue = some x → x.1 ≠ 0) :=
  ⟨0x40, fun x h => by cases h⟩

theorem wit_MemoryIntegrity_11 : ∃ (dt m : Nat) (s t : State) (e : ExecReq) (c : Ctx) (p : Bytes),
    Running eccAccessSpec m dt s e c t p :=
  ⟨0, 0, (wst (wreq 0x0C30 0 (bytesLE 1 1 ++ zeros 7)) : State), _, { mbx := 0, req := (wreq 0x0C30 0 (bytesLE 1 1 ++ zeros 7)), dbPos := 0, role := 2, poison := false }, _, _, ⟨rfl, by decide, rfl, rfl, rfl, rfl, by decide, by decide⟩⟩

theorem wit_MemoryIntegrity_12 : ∃ (dt m : Nat) (s t : State) (e : ExecReq) (c : Ctx) (p : Bytes),
    Running queueStatusSpec m dt s e c t p ∧
    fld p 2 1 = 0 :=
  ⟨0, 0, (wst (wreq 0x0C31 0 (bytesLE 2 0x20 ++ zeros 6)) : State), _, { mbx := 0, req := (wreq 0x0C31 0 (bytesLE 2 0x20 ++ zeros 6)), dbPos := 0, role := 2, poison := false }, _, _, ⟨rfl, by decide, rfl, rfl, rfl, rfl, by decide, by decide⟩, by decide⟩

theorem wit_MemoryIntegrity_13 : ∃ (dt m : Nat) (s t : State) (e : ExecReq) (c : Ctx) (p : Bytes),
    Running queueWmSetSpec m dt s e c t p :=
  ⟨0, 0, (wst (wreq 0x0C32 0 (bytesLE 2 0x20 ++ zeros 2 ++ bytesLE 4 9 ++ bytesLE 4 3)) : State), _, { mbx := 0, req := (wreq 0x0C32 0 (bytesLE 2 0x20 ++ zeros 2 ++ bytesLE 4 9 ++ bytesLE 4 3)), dbPos := 0, role := 2, poison := false }, _, _, ⟨rfl, by decide, rfl, rfl, rfl, rfl, by decide, by decide⟩⟩

theorem wit_ShowClockStartStop_1 : ∃ (dt m : Nat) (s t : State) (e : ExecReq) (c : Ctx) (p : Bytes),
    Running showClockStartSpec m dt s e c t p ∧
    timingDerivable (timingOf p) = true ∧
    latencyFits (viewAfter t.txn.view t.txn.waitingTxns).latencyUs (timingOf p).rateCode = true ∧
    t.clock.accepted = false ∧
    t.followsRef = true ∧
    t.refInputOn (timingOf p) = true ∧
    t.acceptFail = none :=
  ⟨0, 0, (wst (wreq 0x0201 0 (bytesLE 1 0 ++ bytesLE 1 3 ++ zeros 2 ++ zeros 8 ++ bytesLE 4 1000 ++ zeros 24)) : State), _, { mbx := 0, req := (wreq 0x0201 0 (bytesLE 1 0 ++ bytesLE 1 3 ++ zeros 2 ++ zeros 8 ++ bytesLE 4 1000 ++ zeros 24)), dbPos := 0, role := 2, poison := false }, _, _, ⟨rfl, by decide, rfl, rfl, rfl, rfl, by decide, by decide⟩, by decide, by decide, by decide, by decide, by decide, by decide⟩

theorem wit_ShowClockStartStop_2 : ∃ (dt : Nat) (x : Instant) (s : State),
    s.clock.startDue = some x ∧
    x ≤ (s.tick dt).tb ∧
    s.clock.run = false :=
  ⟨0, 0, { clock := { startDue := some 0 } }, by decide, by decide, by decide⟩

theorem wit_ShowClockStartStop_3 : ∃ (s : State),
    (s.clock.startDue = none ∨ s.clock.run = true) :=
  ⟨{}, by decide⟩

theorem wit_ShowClockStartStop_4 : ∃ (dt : Nat) (s : State),
    s.followsRef = true ∧
    s.clock.phase = .acquiring ∧
    s.clock.acqTimeout ≠ 0 ∧
    s.clock.acqSince + s.clock.acqTimeout * cycSec ≤ (s.tick dt).now :=
  ⟨500000000, { clock := { phase := .acquiring, acqTimeout := 1 } }, by decide, by decide, by decide, by decide⟩

theorem wit_ShowClockStartStop_5 : ∃ (dt m : Nat) (s t : State) (e : ExecReq) (c : Ctx) (p : Bytes),
    Running showClockStatusSpec m dt s e c t p :=
  ⟨0, 0, (wst (wreq 0x0203 0 []) : State), _, { mbx := 0, req := (wreq 0x0203 0 []), dbPos := 0, role := 2, poison := false }, _, _, ⟨rfl, by decide, rfl, rfl, rfl, rfl, by decide, by decide⟩⟩

theorem wit_ShowClockRuns_1 : ∃ (dt : Nat) (s : State),
    s.clock.run = true ∧
    (s.clock.predict (s.clock.frame + 1)).t ≤ (s.tick dt).tb ∧
    s.clock.change = none :=
  ⟨0, { clock := { run := true } }, by decide, by decide, by decide⟩

theorem wit_ShowClockRuns_2 : ∃ (dt : Nat) (s : State),
    (s.clock.run = false ∨ (s.tick dt).tb < (s.clock.predict (s.clock.frame + 1)).t) :=
  ⟨0, {}, by decide⟩

theorem wit_ShowClockRuns_3 : ∃ (key : Nat) (s : State),
    s.followsRef = true ∧
    s.keyOn key = true ∧
    key ≠ 1 ∧
    s.clock.accepted = false :=
  ⟨2, { fns := [(0x110000, { state := .enabled })] }, by decide, by decide, by decide, by decide⟩

theorem wit_ShowClockRuns_4 : ∃ (key : Nat) (s : State),
    (s.followsRef = false ∨ s.keyOn key = false) :=
  ⟨0, {}, by decide⟩

theorem wit_ShowClockRuns_5 : ∃ (word : Nat) (s : State),
    s.enabled 0x11 1 = true ∧
    s.followsRef = true ∧
    word < 2 ^ 32 ∧
    (s.clock.accepted = false ∨ s.clock.block.refKind ≠ 3) :=
  ⟨0, { fns := [(0x110001, { state := .enabled })] }, by decide, by decide, by decide, by decide⟩

theorem wit_ShowClockRuns_6 : ∃ (dt : Nat) (s : State),
    s.followsRef = true ∧
    s.clock.accepted = true ∧
    (s.clock.phase = .locked ∨ s.clock.phase = .slewing) ∧
    (s.tick dt).refGone s.clock.block = true ∧
    s.clock.run = true :=
  ⟨0, { clock := { accepted := true, run := true, phase := .locked, block := { refKind := 2 } } }, by decide, by decide, by decide, by decide, by decide⟩

theorem wit_ShowClockRuns_7 : ∃ (dt : Nat) (s : State),
    s.followsRef = true ∧
    s.clock.accepted = true ∧
    (s.clock.phase = .locked ∨ s.clock.phase = .slewing) ∧
    (s.tick dt).refGone s.clock.block = true ∧
    s.clock.run = false :=
  ⟨0, { clock := { accepted := true, phase := .locked, validAt := some 0, block := { refKind := 2 } } }, by decide, by decide, by decide, by decide, by decide⟩

theorem wit_ShowClockRuns_8 : ∃ (s : State),
    s.clock.phase ≠ .locked ∧
    s.clock.phase ≠ .slewing :=
  ⟨{}, by decide, by decide⟩

theorem wit_ShowClockRuns_9 : ∃ (dt : Nat) (s : State),
    s.followsRef = true ∧
    s.clock.accepted = true ∧
    (s.tick dt).refOk s.clock.block = true ∧
    s.clock.phase = .acquiring :=
  ⟨0, { clock := { accepted := true, phase := .acquiring } }, by decide, by decide, by decide, by decide⟩

theorem wit_ShowClockRuns_10 : ∃ (dt : Nat) (s : State),
    s.followsRef = true ∧
    s.clock.accepted = true ∧
    (s.tick dt).refOk s.clock.block = true ∧
    s.clock.phase = .holdover ∧
    s.clock.run = true :=
  ⟨0, { clock := { accepted := true, phase := .holdover, run := true } }, by decide, by decide, by decide, by decide, by decide⟩

theorem wit_ShowClockRuns_11 : ∃ (dt : Nat) (s : State),
    s.followsRef = true ∧
    s.clock.accepted = true ∧
    (s.tick dt).refOk s.clock.block = true ∧
    s.clock.phase = .holdover ∧
    s.clock.run = false :=
  ⟨0, { clock := { accepted := true, phase := .holdover } }, by decide, by decide, by decide, by decide, by decide⟩

theorem wit_PtpEngine_1 : ∃ (msg : PtpTimed) (s : State),
    s.time.ptp.takes msg.via = true ∧
    s.portOn msg.via.port = true ∧
    msg.via.unicast = false ∧
    -7 ≤ msg.logSync ∧
    msg.logSync ≤ 1 ∧
    s.time.ptp.fromParent msg.source = true ∧
    s.ownServo = true ∧
    msg.twoStep = true :=
  ⟨{ via := { port := 0, domain := 127 }, source := 1, seq := 0, stamp := 0, twoStep := true }, { fns := [(0x10000, { state := .enabled })], net := { ports := [(0, { up := true })] }, time := { ptp := { cfg := { port := 0 }, portState := .slave, parent := some ⟨1, ⟨0,0,0,0,0,0,0,0,0,0⟩, 2, 0, 0, 0⟩, delays := [5] } } }, by decide, by decide, by decide, by decide, by decide, by decide, by decide, by decide⟩

theorem wit_PtpEngine_2 : ∃ (msg : PtpTimed) (s : State),
    (s.time.ptp.takes msg.via = false ∨ s.portOn msg.via.port = false) :=
  ⟨{ via := { port := 0, domain := 127 }, source := 1, seq := 0, stamp := 0 }, {}, by decide⟩

theorem wit_PtpEngine_3 : ∃ (msg : PtpTimed) (q : PendingSync) (s : State),
    s.time.ptp.takes msg.via = true ∧
    s.portOn msg.via.port = true ∧
    msg.via.unicast = false ∧
    s.time.ptp.fromParent msg.source = true ∧
    s.ownServo = true ∧
    s.time.ptp.pendingSync = some q ∧
    q.seq = msg.seq ∧
    s.time.ptp.delays ≠ [] :=
  ⟨{ via := { port := 0, domain := 127 }, source := 1, seq := 0, stamp := 0 }, ⟨0, 0, 0, 0⟩, { fns := [(0x10000, { state := .enabled })], net := { ports := [(0, { up := true })] }, time := { ptp := { cfg := { port := 0 }, portState := .slave, parent := some ⟨1, ⟨0,0,0,0,0,0,0,0,0,0⟩, 2, 0, 0, 0⟩, delays := [5], pendingSync := some ⟨0, 0, 0, 0⟩ } } }, by decide, by decide, by decide, by decide, by decide, by decide, by decide, by decide⟩

theorem wit_PtpEngine_4 : ∃ (msg : PtpTimed) (q : PendingDelayReq) (a b d : Int) (s : State),
    s.time.ptp.takes msg.via = true ∧
    s.portOn msg.via.port = true ∧
    msg.via.unicast = false ∧
    s.time.ptp.fromParent msg.source = true ∧
    s.time.ptp.pendingReq = some q ∧
    q.seq = msg.seq ∧
    s.time.ptp.lastT1 = some a ∧
    s.time.ptp.lastT2 = some b ∧
    d = roundDiv ((b - a) + (msg.stamp - q.t3 - msg.corr)) 2 ∧
    0 ≤ d ∧
    d ≤ usUnits 10000 :=
  ⟨{ via := { port := 0, domain := 127 }, source := 1, seq := 0, stamp := 0 }, ⟨0, 0⟩, 0, 0, 0, { fns := [(0x10000, { state := .enabled })], net := { ports := [(0, { up := true })] }, time := { ptp := { cfg := { port := 0 }, portState := .slave, parent := some ⟨1, ⟨0,0,0,0,0,0,0,0,0,0⟩, 2, 0, 0, 0⟩, delays := [5], pendingReq := some ⟨0, 0⟩, lastT1 := some 0, lastT2 := some 0 } } }, by decide, by decide, by decide, by decide, by decide, by decide, by decide, by decide, by decide, by decide, by decide⟩

theorem wit_PtpEngine_5 : ∃ (msg : PtpAnnounce) (s : State),
    s.time.ptp.takes msg.via = true ∧
    s.portOn msg.via.port = true ∧
    msg.via.unicast = false ∧
    -3 ≤ msg.data.logAnnounce ∧
    msg.data.logAnnounce ≤ 3 ∧
    s.time.ptp.foreign = [] ∧
    s.time.ptp.parent = none :=
  ⟨{ via := { port := 0, domain := 127 }, source := 1, data := ⟨0,0,0,0,0,0,0,0,0,0⟩ }, { fns := [(0x10000, { state := .enabled })], net := { ports := [(0, { up := true })] }, time := { ptp := { cfg := { port := 0 }, portState := .slave, parent := none, delays := [5] } } }, by decide, by decide, by decide, by decide, by decide, by decide, by decide⟩

theorem wit_PtpEngine_6 : ∃ (dt : Nat) (u : State) (bs out : Bytes) (s : State),
    u = { (s.tick dt) with time := { (s.tick dt).time with ptp := { s.time.ptp with pendingReq := some ⟨s.time.ptp.reqSeq, (s.tick dt).stamp + s.time.cfg.corr s.time.ptp.cfg.port true⟩, reqSeq := (s.time.ptp.reqSeq + 1) % 65536 } } } ∧
    bs = delayReqFrame s.time.ptp.cfg (s.port s.time.ptp.cfg.port).cfg s.time.ptp.reqSeq (if s.time.ptp.cfg.delayAddr = 1 then s.time.ptp.parent.map (fun m => (m.mac, m.ip)) else none) ∧
    (u.protectOut s.time.ptp.cfg.port (s.port s.time.ptp.cfg.port).protects bs).2 = some out ∧
    (s.net.ports.getD s.time.ptp.cfg.port {}).up = true ∧
    (s.net.ports.getD s.time.ptp.cfg.port {}).pauseEnd = none ∧
    (s.net.ports.getD s.time.ptp.cfg.port {}).wireEnd = none ∧
    s.portOn s.time.ptp.cfg.port = true ∧
    s.time.ptp.cfg.port ≤ 4 ∧
    s.time.ptp.parent.isSome = true ∧
    (s.time.ptp.portState = .uncalibrated ∨ s.time.ptp.portState = .slave) :=
  ⟨0, _, _, _, { fns := [(0x10000, { state := .enabled })], net := { ports := [(0, { up := true })] }, time := { ptp := { cfg := { port := 0 }, portState := .slave, parent := some ⟨1, ⟨0,0,0,0,0,0,0,0,0,0⟩, 2, 0, 0, 0⟩, delays := [5] } } }, rfl, rfl, rfl, by decide, by decide, by decide, by decide, by decide, by decide, by decide⟩

theorem wit_PtpEngine_7 : ∃ (dt : Nat) (s : State),
    (s.tick dt).time.annDue = true :=
  ⟨100000000000, { fns := [(0x10000, { state := .enabled })], net := { ports := [(0, { up := true })] }, time := { ptp := { cfg := { port := 0 }, portState := .slave, parent := some ⟨1, ⟨0,0,0,0,0,0,0,0,0,0⟩, 2, 0, 0, 0⟩, delays := [5] } } }, by decide⟩

theorem wit_PtpEngine_8 : ∃ (dt : Nat) (s : State),
    (s.tick dt).time.annDue = false :=
  ⟨0, {}, by decide⟩

theorem wit_PtpEngine_9 : ∃ (dt : Nat) (s : State),
    (s.tick dt).time.syncLost = true ∧
    s.time.following = true :=
  ⟨100000000000, { fns := [(0x10000, { state := .enabled })], net := { ports := [(0, { up := true })] }, time := { state := .locked, ptp := { cfg := { port := 0 }, portState := .slave, parent := some ⟨1, ⟨0,0,0,0,0,0,0,0,0,0⟩, 2, 0, 0, 0⟩, delays := [5] } } }, by decide, by decide⟩

theorem wit_PtpEngine_10 : ∃ (dt : Nat) (s : State),
    (s.tick dt).time.syncLost = false :=
  ⟨0, {}, by decide⟩

theorem wit_TimebaseCommands_1 : ∃ (dt m : Nat) (s t : State) (e : ExecReq) (c : Ctx) (p : Bytes),
    Running ptpConfigSpec m dt s e c t p ∧
    (fld p 0 1 = 0xFF ∨ t.portOn (fld p 0 1) = true) :=
  ⟨0, 0, (wst (wreq 0x0210 0 (bytesLE 1 0xFF ++ zeros 15)) : State), _, { mbx := 0, req := (wreq 0x0210 0 (bytesLE 1 0xFF ++ zeros 15)), dbPos := 0, role := 2, poison := false }, _, _, ⟨rfl, by decide, rfl, rfl, rfl, rfl, by decide, by decide⟩, by decide⟩

theorem wit_TimebaseCommands_2 : ∃ (dt m : Nat) (s t : State) (e : ExecReq) (c : Ctx) (p : Bytes),
    Running ptpStatusSpec m dt s e c t p :=
  ⟨0, 0, (wst (wreq 0x0211 0 []) : State), _, { mbx := 0, req := (wreq 0x0211 0 []), dbPos := 0, role := 2, poison := false }, _, _, ⟨rfl, by decide, rfl, rfl, rfl, rfl, by decide, by decide⟩⟩

theorem wit_TimebaseCommands_3 : ∃ (dt m : Nat) (s t : State) (e : ExecReq) (c : Ctx) (p : Bytes),
    Running timeConfigSpec m dt s e c t p :=
  ⟨0, 0, (wst (wreq 0x0212 0 (zeros 32)) : State), _, { mbx := 0, req := (wreq 0x0212 0 (zeros 32)), dbPos := 0, role := 2, poison := false }, _, _, ⟨rfl, by decide, rfl, rfl, rfl, rfl, by decide, by decide⟩⟩

theorem wit_TimebaseCommands_4 : ∃ (dt m : Nat) (s t : State) (e : ExecReq) (c : Ctx) (p : Bytes),
    Running timeStepSpec m dt s e c t p ∧
    t.auditFull = false ∧
    (fld p 0 1 = 2 → t.time.sampleRecent = true) :=
  ⟨0, 0, (wst (wreq 0x0213 0 (bytesLE 1 1 ++ zeros 23)) : State), _, { mbx := 0, req := (wreq 0x0213 0 (bytesLE 1 1 ++ zeros 23)), dbPos := 0, role := 2, poison := false }, _, _, ⟨rfl, by decide, rfl, rfl, rfl, rfl, by decide, by decide⟩, by decide, by decide⟩

theorem wit_TimebaseCommands_5 : ∃ (dt m : Nat) (s t : State) (e : ExecReq) (c : Ctx) (p : Bytes),
    Running timeStepSpec m dt s e c t p ∧
    t.auditFull = false ∧
    fld p 0 1 = 2 ∧
    t.time.sampleRecent = false :=
  ⟨0, 0, (wst (wreq 0x0213 0 (bytesLE 1 2 ++ zeros 23)) : State), _, { mbx := 0, req := (wreq 0x0213 0 (bytesLE 1 2 ++ zeros 23)), dbPos := 0, role := 2, poison := false }, _, _, ⟨rfl, by decide, rfl, rfl, rfl, rfl, by decide, by decide⟩, by decide, by decide, by decide⟩

theorem wit_PulsesAndCaptures_1 : ∃ (dt m : Nat) (s t : State) (e : ExecReq) (c : Ctx) (p : Bytes),
    Running pulseSetSpec m dt s e c t p ∧
    fld p 1 1 = 0 :=
  ⟨0, 0, (wst (wreq 0x0220 0 (zeros 0x28)) : State), _, { mbx := 0, req := (wreq 0x0220 0 (zeros 0x28)), dbPos := 0, role := 2, poison := false }, _, _, ⟨rfl, by decide, rfl, rfl, rfl, rfl, by decide, by decide⟩, by decide⟩

theorem wit_PulsesAndCaptures_2 : ∃ (dt m : Nat) (s t : State) (e : ExecReq) (c : Ctx) (p : Bytes),
    Running pulseSetSpec m dt s e c t p ∧
    fld p 1 1 = 1 ∧
    fld p 8 4 = 1 ∧
    t.tb + usUnits 10 ≤ pulseStart p :=
  ⟨0, 0, (wst (wreq 0x0220 0 (bytesLE 1 3 ++ bytesLE 1 1 ++ zeros 2 ++ bytesLE 4 100 ++ bytesLE 4 1 ++ zeros 4 ++ bytesLE 8 9 ++ zeros 16)) : State), _, { mbx := 0, req := (wreq 0x0220 0 (bytesLE 1 3 ++ bytesLE 1 1 ++ zeros 2 ++ bytesLE 4 100 ++ bytesLE 4 1 ++ zeros 4 ++ bytesLE 8 9 ++ zeros 16)), dbPos := 0, role := 2, poison := false }, _, _, ⟨rfl, by decide, rfl, rfl, rfl, rfl, by decide, by decide⟩, by decide, by decide, by decide⟩

theorem wit_PulsesAndCaptures_3 : ∃ (dt m : Nat) (s t : State) (e : ExecReq) (c : Ctx) (p : Bytes),
    Running pulseSetSpec m dt s e c t p ∧
    fld p 1 1 = 1 ∧
    fld p 8 4 = 1 ∧
    pulseStart p < t.tb + usUnits 10 :=
  ⟨0, 0, (wst (wreq 0x0220 0 (bytesLE 1 3 ++ bytesLE 1 1 ++ zeros 2 ++ bytesLE 4 100 ++ bytesLE 4 1 ++ zeros 28)) : State), _, { mbx := 0, req := (wreq 0x0220 0 (bytesLE 1 3 ++ bytesLE 1 1 ++ zeros 2 ++ bytesLE 4 100 ++ bytesLE 4 1 ++ zeros 28)), dbPos := 0, role := 2, poison := false }, _, _, ⟨rfl, by decide, rfl, rfl, rfl, rfl, by decide, by decide⟩, by decide, by decide, by decide⟩

theorem wit_PulsesAndCaptures_4 : ∃ (dt m : Nat) (s t : State) (e : ExecReq) (c : Ctx) (p : Bytes),
    Running pulseSetSpec m dt s e c t p ∧
    fld p 1 1 = 1 ∧
    fld p 8 4 = 0 ∧
    t.tb + usUnits 10 ≤ pulseStart p :=
  ⟨0, 0, (wst (wreq 0x0220 0 (bytesLE 1 3 ++ bytesLE 1 1 ++ zeros 2 ++ bytesLE 4 100 ++ bytesLE 4 0 ++ zeros 4 ++ bytesLE 8 9 ++ zeros 8 ++ bytesLE 8 65536000)) : State), _, { mbx := 0, req := (wreq 0x0220 0 (bytesLE 1 3 ++ bytesLE 1 1 ++ zeros 2 ++ bytesLE 4 100 ++ bytesLE 4 0 ++ zeros 4 ++ bytesLE 8 9 ++ zeros 8 ++ bytesLE 8 65536000)), dbPos := 0, role := 2, poison := false }, _, _, ⟨rfl, by decide, rfl, rfl, rfl, rfl, by decide, by decide⟩, by decide, by decide, by decide⟩

theorem wit_PulsesAndCaptures_5 : ∃ (dt output : Nat) (x : Instant) (s : State),
    output < 8 ∧
    s.nextEdge (s.pulse output) = some x ∧
    x ≤ (s.tick dt).tb + nsUnits 1 ∧
    s.enabled 0x0E output = true ∧
    (∀ y, (s.pulse output).endAt = some y → y + nsUnits 10 ≤ x) :=
  ⟨0, 2, 0, { fns := [(0xE0002, { state := .enabled })], time := { pulses := [(2, { sched := some ⟨1, 1, 0, 0, 0⟩ })] } }, by decide, by decide, by decide, by decide, by decide⟩

theorem wit_PulsesAndCaptures_6 : ∃ (dt output : Nat) (x y : Instant) (s : State),
    output < 8 ∧
    s.nextEdge (s.pulse output) = some x ∧
    x ≤ (s.tick dt).tb + nsUnits 1 ∧
    s.enabled 0x0E output = true ∧
    (s.pulse output).endAt = some y ∧
    x < y + nsUnits 10 :=
  ⟨0, 2, 0, 0, { fns := [(0xE0002, { state := .enabled })], time := { pulses := [(2, { sched := some ⟨1, 1, 0, 0, 0⟩, endAt := some 0 })] } }, by decide, by decide, by decide, by decide, by decide, by decide⟩

theorem wit_PulsesAndCaptures_7 : ∃ (dt output : Nat) (y : Instant) (s : State),
    output < 8 ∧
    (s.pulse output).driving = true ∧
    (s.pulse output).endAt = some y ∧
    y ≤ (s.tick dt).tb + nsUnits 1 :=
  ⟨0, 2, 0, { time := { pulses := [(2, { driving := true, endAt := some 0 })] } }, by decide, by decide, by decide, by decide⟩

theorem wit_PulsesAndCaptures_8 : ∃ (dt m : Nat) (s t : State) (e : ExecReq) (c : Ctx) (p : Bytes),
    Running captureSetSpec m dt s e c t p :=
  ⟨0, 0, (wst (wreq 0x0230 0 (bytesLE 1 2 ++ bytesLE 1 3 ++ zeros 6)) : State), _, { mbx := 0, req := (wreq 0x0230 0 (bytesLE 1 2 ++ bytesLE 1 3 ++ zeros 6)), dbPos := 0, role := 2, poison := false }, _, _, ⟨rfl, by decide, rfl, rfl, rfl, rfl, by decide, by decide⟩⟩

theorem wit_PulsesAndCaptures_9 : ∃ (input : Nat) (rising : Bool) (s : State),
    input < 8 ∧
    s.enabled 0x0F input = true ∧
    bit (s.capture input).edges (if rising then 0 else 1) = true ∧
    (s.capture input).lastEdge = none ∧
    (s.capture input).queue.length < 16 :=
  ⟨2, true, { fns := [(0xF0002, { state := .enabled })] }, by decide, by decide, by decide, by decide, by decide⟩

theorem wit_PulsesAndCaptures_10 : ∃ (input : Nat) (s : State),
    input < 8 ∧
    (s.enabled 0x0F input = false ∨ (s.capture input).edges = 0) :=
  ⟨0, {}, by decide, by decide⟩

theorem wit_PulsesAndCaptures_12 : ∃ (input : Nat),
    input < 8 :=
  ⟨2, by decide⟩

theorem wit_ShowWritesOfPatchCuesAndEffects_1 : ∃ (dt m : Nat) (s t : State) (e : ExecReq) (c : Ctx) (p d : Bytes) (x : TxnSlot),
    Running (ShowCmd.spec .timingSet) m dt s e c t p ∧
    Stages .timingSet c t p d x :=
  ⟨0, 0, ({ wst (wreq 0x0202 34 (bytesLE 1 0 ++ bytesLE 1 3 ++ zeros 38)) with txn := { slots := [(2, { gen := 0, session := 1, base := 0, baseView := {  }, opened := 0 })] } } : State), _, { mbx := 0, req := (wreq 0x0202 34 (bytesLE 1 0 ++ bytesLE 1 3 ++ zeros 38)), dbPos := 0, role := 2, poison := false }, _, _, [], { gen := 0, session := 1, base := 0, baseView := {  }, opened := 0 }, ⟨rfl, by decide, rfl, rfl, rfl, rfl, by decide, by decide⟩, by decide⟩

theorem wit_ShowWritesOfPatchCuesAndEffects_2 : ∃ (dt m : Nat) (s t : State) (e : ExecReq) (c : Ctx) (p d : Bytes) (x : TxnSlot),
    Running (ShowCmd.spec .profileLoad) m dt s e c t p ∧
    Stages .profileLoad c t p d x :=
  ⟨0, 0, ({ wst (wreq 0x0301 34 (bytesLE 4 1 ++ bytesLE 4 80 ++ bytesLE 8 0x10000)) with txn := { slots := [(2, { gen := 0, session := 1, base := 0, baseView := {  }, opened := 0 })] }, mem := [(65536, 1), (65538, 1), (65542, 1), (65600, 1), (65601, 24), (65610, 128), (65611, 63)] } : State), _, { mbx := 0, req := (wreq 0x0301 34 (bytesLE 4 1 ++ bytesLE 4 80 ++ bytesLE 8 0x10000)), dbPos := 0, role := 2, poison := false }, _, _, [1, 0, 1, 0, 0, 0, 1, 0, 0, 0, 0, 0, 0, 0, 0, 0, 0, 0, 0, 0, 0, 0, 0, 0, 0, 0, 0, 0, 0, 0, 0, 0, 0, 0, 0, 0, 0, 0, 0, 0, 0, 0, 0, 0, 0, 0, 0, 0, 0, 0, 0, 0, 0, 0, 0, 0, 0, 0, 0, 0, 0, 0, 0, 0, 1, 24, 0, 0, 0, 0, 0, 0, 0, 0, 128, 63, 0, 0, 0, 0], { gen := 0, session := 1, base := 0, baseView := {  }, opened := 0 }, ⟨rfl, by decide, rfl, rfl, rfl, rfl, by decide, by decide⟩, by decide⟩

theorem wit_ShowWritesOfPatchCuesAndEffects_3 : ∃ (dt m : Nat) (s t : State) (e : ExecReq) (c : Ctx) (p d : Bytes) (x : TxnSlot),
    Running (ShowCmd.spec .profileDelete) m dt s e c t p ∧
    Stages .profileDelete c t p d x :=
  ⟨0, 0, ({ wst (wreq 0x0302 34 (bytesLE 8 1)) with txn := { slots := [(2, { gen := 0, session := 1, base := 0, baseView := { patch := { profiles := [(1, [])] } }, opened := 0 })] } } : State), _, { mbx := 0, req := (wreq 0x0302 34 (bytesLE 8 1)), dbPos := 0, role := 2, poison := false }, _, _, [], { gen := 0, session := 1, base := 0, baseView := { patch := { profiles := [(1, [])] } }, opened := 0 }, ⟨rfl, by decide, rfl, rfl, rfl, rfl, by decide, by decide⟩, by decide⟩

theorem wit_ShowWritesOfPatchCuesAndEffects_4 : ∃ (dt m : Nat) (s t : State) (e : ExecReq) (c : Ctx) (p d : Bytes) (x : TxnSlot),
    Running (ShowCmd.spec .patchWrite) m dt s e c t p ∧
    Stages .patchWrite c t p d x :=
  ⟨0, 0, ({ wst (wreq 0x0310 34 (bytesLE 4 0 ++ bytesLE 4 1 ++ zeros 8 ++ bytesLE 4 6 ++ bytesLE 4 1 ++ zeros 24)) with txn := { slots := [(2, { gen := 0, session := 1, base := 0, baseView := { patch := { profiles := [(1, [1, 0, 1, 0, 0, 0, 1, 0, 0, 0, 0, 0, 0, 0, 0, 0, 0, 0, 0, 0, 0, 0, 0, 0, 0, 0, 0, 0, 0, 0, 0, 0, 0, 0, 0, 0, 0, 0, 0, 0, 0, 0, 0, 0, 0, 0, 0, 0, 0, 0, 0, 0, 0, 0, 0, 0, 0, 0, 0, 0, 0, 0, 0, 0, 1, 24, 0, 0, 0, 0, 0, 0, 0, 0, 128, 63, 0, 0, 0, 0])], patch := [(5, ⟨1, 0, 0, 0, 0, 0, 0, 0⟩)], pool := [(5, [0])] } }, opened := 0 })] } } : State), _, { mbx := 0, req := (wreq 0x0310 34 (bytesLE 4 0 ++ bytesLE 4 1 ++ zeros 8 ++ bytesLE 4 6 ++ bytesLE 4 1 ++ zeros 24)), dbPos := 0, role := 2, poison := false }, _, _, [], { gen := 0, session := 1, base := 0, baseView := { patch := { profiles := [(1, [1, 0, 1, 0, 0, 0, 1, 0, 0, 0, 0, 0, 0, 0, 0, 0, 0, 0, 0, 0, 0, 0, 0, 0, 0, 0, 0, 0, 0, 0, 0, 0, 0, 0, 0, 0, 0, 0, 0, 0, 0, 0, 0, 0, 0, 0, 0, 0, 0, 0, 0, 0, 0, 0, 0, 0, 0, 0, 0, 0, 0, 0, 0, 0, 1, 24, 0, 0, 0, 0, 0, 0, 0, 0, 128, 63, 0, 0, 0, 0])], patch := [(5, ⟨1, 0, 0, 0, 0, 0, 0, 0⟩)], pool := [(5, [0])] } }, opened := 0 }, ⟨rfl, by decide, rfl, rfl, rfl, rfl, by decide, by decide⟩, by decide⟩

theorem wit_ShowWritesOfPatchCuesAndEffects_5 : ∃ (dt m : Nat) (s t : State) (e : ExecReq) (c : Ctx) (p d : Bytes) (x : TxnSlot),
    Running (ShowCmd.spec .patchClear) m dt s e c t p ∧
    Stages .patchClear c t p d x :=
  ⟨0, 0, ({ wst (wreq 0x0311 34 (bytesLE 4 5 ++ bytesLE 4 1)) with txn := { slots := [(2, { gen := 0, session := 1, base := 0, baseView := { patch := { profiles := [(1, [1, 0, 1, 0, 0, 0, 1, 0, 0, 0, 0, 0, 0, 0, 0, 0, 0, 0, 0, 0, 0, 0, 0, 0, 0, 0, 0, 0, 0, 0, 0, 0, 0, 0, 0, 0, 0, 0, 0, 0, 0, 0, 0, 0, 0, 0, 0, 0, 0, 0, 0, 0, 0, 0, 0, 0, 0, 0, 0, 0, 0, 0, 0, 0, 1, 24, 0, 0, 0, 0, 0, 0, 0, 0, 128, 63, 0, 0, 0, 0])], patch := [(5, ⟨1, 0, 0, 0, 0, 0, 0, 0⟩)], pool := [(5, [0])] } }, opened := 0 })] } } : State), _, { mbx := 0, req := (wreq 0x0311 34 (bytesLE 4 5 ++ bytesLE 4 1)), dbPos := 0, role := 2, poison := false }, _, _, [], { gen := 0, session := 1, base := 0, baseView := { patch := { profiles := [(1, [1, 0, 1, 0, 0, 0, 1, 0, 0, 0, 0, 0, 0, 0, 0, 0, 0, 0, 0, 0, 0, 0, 0, 0, 0, 0, 0, 0, 0, 0, 0, 0, 0, 0, 0, 0, 0, 0, 0, 0, 0, 0, 0, 0, 0, 0, 0, 0, 0, 0, 0, 0, 0, 0, 0, 0, 0, 0, 0, 0, 0, 0, 0, 0, 1, 24, 0, 0, 0, 0, 0, 0, 0, 0, 128, 63, 0, 0, 0, 0])], patch := [(5, ⟨1, 0, 0, 0, 0, 0, 0, 0⟩)], pool := [(5, [0])] } }, opened := 0 }, ⟨rfl, by decide, rfl, rfl, rfl, rfl, by decide, by decide⟩, by decide⟩

theorem wit_ShowWritesOfPatchCuesAndEffects_6 : ∃ (dt m : Nat) (s t : State) (e : ExecReq) (c : Ctx) (p d : Bytes) (x : TxnSlot),
    Running (ShowCmd.spec .paramWrite) m dt s e c t p ∧
    Stages .paramWrite c t p d x :=
  ⟨0, 0, ({ wst (wreq 0x0320 34 (bytesLE 8 1 ++ bytesLE 4 640 ++ bytesLE 4 77)) with txn := { slots := [(2, { gen := 0, session := 1, base := 0, baseView := { patch := { profiles := [(1, [1, 0, 1, 0, 0, 0, 1, 0, 0, 0, 0, 0, 0, 0, 0, 0, 0, 0, 0, 0, 0, 0, 0, 0, 0, 0, 0, 0, 0, 0, 0, 0, 0, 0, 0, 0, 0, 0, 0, 0, 0, 0, 0, 0, 0, 0, 0, 0, 0, 0, 0, 0, 0, 0, 0, 0, 0, 0, 0, 0, 0, 0, 0, 0, 1, 24, 0, 0, 0, 0, 0, 0, 0, 0, 128, 63, 0, 0, 0, 0])], patch := [(5, ⟨1, 0, 0, 0, 0, 0, 0, 0⟩)], pool := [(5, [0])] } }, opened := 0 })] } } : State), _, { mbx := 0, req := (wreq 0x0320 34 (bytesLE 8 1 ++ bytesLE 4 640 ++ bytesLE 4 77)), dbPos := 0, role := 2, poison := false }, _, _, [], { gen := 0, session := 1, base := 0, baseView := { patch := { profiles := [(1, [1, 0, 1, 0, 0, 0, 1, 0, 0, 0, 0, 0, 0, 0, 0, 0, 0, 0, 0, 0, 0, 0, 0, 0, 0, 0, 0, 0, 0, 0, 0, 0, 0, 0, 0, 0, 0, 0, 0, 0, 0, 0, 0, 0, 0, 0, 0, 0, 0, 0, 0, 0, 0, 0, 0, 0, 0, 0, 0, 0, 0, 0, 0, 0, 1, 24, 0, 0, 0, 0, 0, 0, 0, 0, 128, 63, 0, 0, 0, 0])], patch := [(5, ⟨1, 0, 0, 0, 0, 0, 0, 0⟩)], pool := [(5, [0])] } }, opened := 0 }, ⟨rfl, by decide, rfl, rfl, rfl, rfl, by decide, by decide⟩, by decide⟩

theorem wit_ShowWritesOfPatchCuesAndEffects_7 : ∃ (dt m : Nat) (s t : State) (e : ExecReq) (c : Ctx) (p d : Bytes) (x : TxnSlot),
    Running (ShowCmd.spec .sourceDelete) m dt s e c t p ∧
    Stages .sourceDelete c t p d x :=
  ⟨0, 0, ({ wst (wreq 0x0402 34 (bytesLE 2 0 ++ bytesLE 2 3 ++ zeros 4)) with txn := { slots := [(2, { gen := 0, session := 1, base := 0, baseView := { cues := { lists := [(3, [])] } }, opened := 0 })] } } : State), _, { mbx := 0, req := (wreq 0x0402 34 (bytesLE 2 0 ++ bytesLE 2 3 ++ zeros 4)), dbPos := 0, role := 2, poison := false }, _, _, [], { gen := 0, session := 1, base := 0, baseView := { cues := { lists := [(3, [])] } }, opened := 0 }, ⟨rfl, by decide, rfl, rfl, rfl, rfl, by decide, by decide⟩, by decide⟩

theorem wit_ShowWritesOfPatchCuesAndEffects_8 : ∃ (dt m : Nat) (s t : State) (e : ExecReq) (c : Ctx) (p d : Bytes) (x : TxnSlot),
    Running (ShowCmd.spec .effectDefine) m dt s e c t p ∧
    Stages .effectDefine c t p d x :=
  ⟨0, 0, ({ wst (wreq 0x0410 34 (bytesLE 2 3 ++ bytesLE 1 0 ++ bytesLE 1 0x01 ++ bytesLE 4 0 ++ bytesLE 4 5 ++ zeros 20 ++ bytesLE 4 1 ++ zeros 4 ++ bytesLE 4 1 ++ zeros 20 ++ bytesLE 4 640)) with txn := { slots := [(2, { gen := 0, session := 1, base := 0, baseView := {  }, opened := 0 })] } } : State), _, { mbx := 0, req := (wreq 0x0410 34 (bytesLE 2 3 ++ bytesLE 1 0 ++ bytesLE 1 0x01 ++ bytesLE 4 0 ++ bytesLE 4 5 ++ zeros 20 ++ bytesLE 4 1 ++ zeros 4 ++ bytesLE 4 1 ++ zeros 20 ++ bytesLE 4 640)), dbPos := 0, role := 2, poison := false }, _, _, [], { gen := 0, session := 1, base := 0, baseView := {  }, opened := 0 }, ⟨rfl, by decide, rfl, rfl, rfl, rfl, by decide, by decide⟩, by decide⟩

theorem wit_ShowWritesOfPatchCuesAndEffects_9 : ∃ (dt m : Nat) (s t : State) (e : ExecReq) (c : Ctx) (p d : Bytes) (x : TxnSlot),
    Running (ShowCmd.spec .effectTableLoad) m dt s e c t p ∧
    Stages .effectTableLoad c t p d x :=
  ⟨0, 0, ({ wst (wreq 0x0411 34 (zeros 520)) with txn := { slots := [(2, { gen := 0, session := 1, base := 0, baseView := {  }, opened := 0 })] } } : State), _, { mbx := 0, req := (wreq 0x0411 34 (zeros 520)), dbPos := 0, role := 2, poison := false }, _, _, [], { gen := 0, session := 1, base := 0, baseView := {  }, opened := 0 }, ⟨rfl, by decide, rfl, rfl, rfl, rfl, by decide, by decide⟩, by decide⟩

theorem wit_ShowWritesOfPatchCuesAndEffects_10 : ∃ (dt m : Nat) (s t : State) (e : ExecReq) (c : Ctx) (p d : Bytes) (x : TxnSlot),
    Running (ShowCmd.spec .playbackAction) m dt s e c t p ∧
    Stages .playbackAction c t p d x :=
  ⟨0, 0, ({ wst (wreq 0x0420 34 (bytesLE 8 1 ++ bytesLE 2 0x0100 ++ bytesLE 2 1 ++ bytesLE 2 3 ++ zeros 26)) with txn := { slots := [(2, { gen := 0, session := 1, base := 0, baseView := { cues := { lists := [(3, [])] } }, opened := 0 })] } } : State), _, { mbx := 0, req := (wreq 0x0420 34 (bytesLE 8 1 ++ bytesLE 2 0x0100 ++ bytesLE 2 1 ++ bytesLE 2 3 ++ zeros 26)), dbPos := 0, role := 2, poison := false }, _, _, [], { gen := 0, session := 1, base := 0, baseView := { cues := { lists := [(3, [])] } }, opened := 0 }, ⟨rfl, by decide, rfl, rfl, rfl, rfl, by decide, by decide⟩, by decide⟩

theorem wit_ShowWritesOfInputsAndMerge_1 : ∃ (dt m : Nat) (s t : State) (e : ExecReq) (c : Ctx) (p d : Bytes) (x : TxnSlot),
    Running (ShowCmd.spec .layerSet) m dt s e c t p ∧
    Stages .layerSet c t p d x :=
  ⟨0, 0, ({ wst (wreq 0x0501 34 (bytesLE 1 2 ++ bytesLE 1 100 ++ bytesLE 2 32768 ++ bytesLE 4 0)) with txn := { slots := [(2, { gen := 0, session := 1, base := 0, baseView := {  }, opened := 0 })] } } : State), _, { mbx := 0, req := (wreq 0x0501 34 (bytesLE 1 2 ++ bytesLE 1 100 ++ bytesLE 2 32768 ++ bytesLE 4 0)), dbPos := 0, role := 2, poison := false }, _, _, [], { gen := 0, session := 1, base := 0, baseView := {  }, opened := 0 }, ⟨rfl, by decide, rfl, rfl, rfl, rfl, by decide, by decide⟩, by decide⟩

theorem wit_ShowWritesOfInputsAndMerge_2 : ∃ (dt m : Nat) (s t : State) (e : ExecReq) (c : Ctx) (p d : Bytes) (x : TxnSlot),
    Running (ShowCmd.spec .policySet) m dt s e c t p ∧
    Stages .policySet c t p d x :=
  ⟨0, 0, ({ wst (wreq 0x0502 34 (bytesLE 4 640 ++ bytesLE 4 1 ++ bytesLE 8 1)) with txn := { slots := [(2, { gen := 0, session := 1, base := 0, baseView := {  }, opened := 0 })] } } : State), _, { mbx := 0, req := (wreq 0x0502 34 (bytesLE 4 640 ++ bytesLE 4 1 ++ bytesLE 8 1)), dbPos := 0, role := 2, poison := false }, _, _, [], { gen := 0, session := 1, base := 0, baseView := {  }, opened := 0 }, ⟨rfl, by decide, rfl, rfl, rfl, rfl, by decide, by decide⟩, by decide⟩

theorem wit_ShowWritesOfInputsAndMerge_3 : ∃ (dt m : Nat) (s t : State) (e : ExecReq) (c : Ctx) (p d : Bytes) (x : TxnSlot),
    Running (ShowCmd.spec .sacnRxSet) m dt s e c t p ∧
    Stages .sacnRxSet c t p d x :=
  ⟨0, 0, ({ wst (wreq 0x0510 34 (bytesLE 2 7 ++ bytesLE 2 0x0100 ++ bytesLE 4 1 ++ zeros 8)) with txn := { slots := [(2, { gen := 0, session := 1, base := 0, baseView := {  }, opened := 0 })] } } : State), _, { mbx := 0, req := (wreq 0x0510 34 (bytesLE 2 7 ++ bytesLE 2 0x0100 ++ bytesLE 4 1 ++ zeros 8)), dbPos := 0, role := 2, poison := false }, _, _, [], { gen := 0, session := 1, base := 0, baseView := {  }, opened := 0 }, ⟨rfl, by decide, rfl, rfl, rfl, rfl, by decide, by decide⟩, by decide⟩

theorem wit_ShowWritesOfInputsAndMerge_4 : ∃ (dt m : Nat) (s t : State) (e : ExecReq) (c : Ctx) (p d : Bytes) (x : TxnSlot),
    Running (ShowCmd.spec .dmxInSet) m dt s e c t p ∧
    Stages .dmxInSet c t p d x :=
  ⟨0, 0, ({ wst (wreq 0x0511 34 (bytesLE 2 7 ++ bytesLE 2 0x0100 ++ bytesLE 4 0 ++ zeros 8)) with txn := { slots := [(2, { gen := 0, session := 1, base := 0, baseView := { ports := { dmx := [(7, ⟨true, 512, 100, 12, 0, 0⟩)] } }, opened := 0 })] } } : State), _, { mbx := 0, req := (wreq 0x0511 34 (bytesLE 2 7 ++ bytesLE 2 0x0100 ++ bytesLE 4 0 ++ zeros 8)), dbPos := 0, role := 2, poison := false }, _, _, [], { gen := 0, session := 1, base := 0, baseView := { ports := { dmx := [(7, ⟨true, 512, 100, 12, 0, 0⟩)] } }, opened := 0 }, ⟨rfl, by decide, rfl, rfl, rfl, rfl, by decide, by decide⟩, by decide⟩

theorem wit_ShowWritesOfInputsAndMerge_5 : ∃ (dt m : Nat) (s t : State) (e : ExecReq) (c : Ctx) (p d : Bytes) (x : TxnSlot),
    Running (ShowCmd.spec .videoInSet) m dt s e c t p ∧
    Stages .videoInSet c t p d x :=
  ⟨0, 0, ({ wst (wreq 0x0530 34 (bytesLE 2 0 ++ bytesLE 2 2 ++ bytesLE 2 0 ++ bytesLE 2 5 ++ bytesLE 2 1920 ++ bytesLE 2 1080 ++ bytesLE 2 5004 ++ bytesLE 2 96 ++ [239, 1, 1, 1] ++ zeros 44)) with txn := { slots := [(2, { gen := 0, session := 1, base := 0, baseView := {  }, opened := 0 })] } } : State), _, { mbx := 0, req := (wreq 0x0530 34 (bytesLE 2 0 ++ bytesLE 2 2 ++ bytesLE 2 0 ++ bytesLE 2 5 ++ bytesLE 2 1920 ++ bytesLE 2 1080 ++ bytesLE 2 5004 ++ bytesLE 2 96 ++ [239, 1, 1, 1] ++ zeros 44)), dbPos := 0, role := 2, poison := false }, _, _, [], { gen := 0, session := 1, base := 0, baseView := {  }, opened := 0 }, ⟨rfl, by decide, rfl, rfl, rfl, rfl, by decide, by decide⟩, by decide⟩

theorem wit_ShowWritesOfInputsAndMerge_6 : ∃ (dt m : Nat) (s t : State) (e : ExecReq) (c : Ctx) (p d : Bytes) (x : TxnSlot),
    Running (ShowCmd.spec .videoSampleSet) m dt s e c t p ∧
    Stages .videoSampleSet c t p d x :=
  ⟨0, 0, ({ wst (wreq 0x0531 34 (bytesLE 4 0 ++ bytesLE 4 1 ++ zeros 8 ++ bytesLE 4 5 ++ zeros 4 ++ bytesLE 2 0x0101 ++ zeros 6)) with txn := { slots := [(2, { gen := 0, session := 1, base := 0, baseView := {  }, opened := 0 })] } } : State), _, { mbx := 0, req := (wreq 0x0531 34 (bytesLE 4 0 ++ bytesLE 4 1 ++ zeros 8 ++ bytesLE 4 5 ++ zeros 4 ++ bytesLE 2 0x0101 ++ zeros 6)), dbPos := 0, role := 2, poison := false }, _, _, [], { gen := 0, session := 1, base := 0, baseView := {  }, opened := 0 }, ⟨rfl, by decide, rfl, rfl, rfl, rfl, by decide, by decide⟩, by decide⟩

theorem wit_ShowWritesOfInputsAndMerge_7 : ∃ (dt m : Nat) (s t : State) (e : ExecReq) (c : Ctx) (p d : Bytes) (x : TxnSlot),
    Running (ShowCmd.spec .videoMapSet) m dt s e c t p ∧
    Stages .videoMapSet c t p d x :=
  ⟨0, 0, ({ wst (wreq 0x0532 34 (zeros 32)) with txn := { slots := [(2, { gen := 0, session := 1, base := 0, baseView := {  }, opened := 0 })] } } : State), _, { mbx := 0, req := (wreq 0x0532 34 (zeros 32)), dbPos := 0, role := 2, poison := false }, _, _, [], { gen := 0, session := 1, base := 0, baseView := {  }, opened := 0 }, ⟨rfl, by decide, rfl, rfl, rfl, rfl, by decide, by decide⟩, by decide⟩

theorem wit_ShowWritesOfColourAndCanvases_1 : ∃ (dt m : Nat) (s t : State) (e : ExecReq) (c : Ctx) (p d : Bytes) (x : TxnSlot),
    Running (ShowCmd.spec .calibSet) m dt s e c t p ∧
    Stages .calibSet c t p d x :=
  ⟨0, 0, ({ wst (wreq 0x0601 34 (bytesLE 4 0 ++ bytesLE 4 1 ++ zeros 8 ++ bytesLE 4 5 ++ zeros 284)) with txn := { slots := [(2, { gen := 0, session := 1, base := 0, baseView := {  }, opened := 0 })] } } : State), _, { mbx := 0, req := (wreq 0x0601 34 (bytesLE 4 0 ++ bytesLE 4 1 ++ zeros 8 ++ bytesLE 4 5 ++ zeros 284)), dbPos := 0, role := 2, poison := false }, _, _, [], { gen := 0, session := 1, base := 0, baseView := {  }, opened := 0 }, ⟨rfl, by decide, rfl, rfl, rfl, rfl, by decide, by decide⟩, by decide⟩

theorem wit_ShowWritesOfColourAndCanvases_2 : ∃ (dt m : Nat) (s t : State) (e : ExecReq) (c : Ctx) (p d : Bytes) (x : TxnSlot),
    Running (ShowCmd.spec .regionSet) m dt s e c t p ∧
    Stages .regionSet c t p d x :=
  ⟨0, 0, ({ wst (wreq 0x0610 34 (bytesLE 4 0 ++ bytesLE 4 1 ++ zeros 8 ++ bytesLE 2 5 ++ bytesLE 2 0xFF ++ zeros 92)) with txn := { slots := [(2, { gen := 0, session := 1, base := 0, baseView := {  }, opened := 0 })] } } : State), _, { mbx := 0, req := (wreq 0x0610 34 (bytesLE 4 0 ++ bytesLE 4 1 ++ zeros 8 ++ bytesLE 2 5 ++ bytesLE 2 0xFF ++ zeros 92)), dbPos := 0, role := 2, poison := false }, _, _, [], { gen := 0, session := 1, base := 0, baseView := {  }, opened := 0 }, ⟨rfl, by decide, rfl, rfl, rfl, rfl, by decide, by decide⟩, by decide⟩

theorem wit_ShowWritesOfColourAndCanvases_3 : ∃ (dt m : Nat) (s t : State) (e : ExecReq) (c : Ctx) (p d : Bytes) (x : TxnSlot),
    Running (ShowCmd.spec .feederSet) m dt s e c t p ∧
    Stages .feederSet c t p d x :=
  ⟨0, 0, ({ wst (wreq 0x0620 34 (zeros 64)) with txn := { slots := [(2, { gen := 0, session := 1, base := 0, baseView := {  }, opened := 0 })] } } : State), _, { mbx := 0, req := (wreq 0x0620 34 (zeros 64)), dbPos := 0, role := 2, poison := false }, _, _, [], { gen := 0, session := 1, base := 0, baseView := {  }, opened := 0 }, ⟨rfl, by decide, rfl, rfl, rfl, rfl, by decide, by decide⟩, by decide⟩

theorem wit_ShowWritesOfColourAndCanvases_4 : ∃ (dt m : Nat) (s t : State) (e : ExecReq) (c : Ctx) (p d : Bytes) (x : TxnSlot),
    Running (ShowCmd.spec .feederMemberSet) m dt s e c t p ∧
    Stages .feederMemberSet c t p d x :=
  ⟨0, 0, ({ wst (wreq 0x0621 34 (bytesLE 8 1 ++ bytesLE 4 5 ++ bytesLE 4 0xFF)) with txn := { slots := [(2, { gen := 0, session := 1, base := 0, baseView := {  }, opened := 0 })] } } : State), _, { mbx := 0, req := (wreq 0x0621 34 (bytesLE 8 1 ++ bytesLE 4 5 ++ bytesLE 4 0xFF)), dbPos := 0, role := 2, poison := false }, _, _, [], { gen := 0, session := 1, base := 0, baseView := {  }, opened := 0 }, ⟨rfl, by decide, rfl, rfl, rfl, rfl, by decide, by decide⟩, by decide⟩

theorem wit_ShowWritesOfColourAndCanvases_5 : ∃ (dt m : Nat) (s t : State) (e : ExecReq) (c : Ctx) (p d : Bytes) (x : TxnSlot),
    Running (ShowCmd.spec .canvasSet) m dt s e c t p ∧
    Stages .canvasSet c t p d x :=
  ⟨0, 0, ({ wst (wreq 0x0701 34 (bytesLE 2 0x0102 ++ bytesLE 2 0 ++ bytesLE 2 64 ++ bytesLE 2 64 ++ bytesLE 4 0 ++ bytesLE 2 100 ++ zeros 18)) with txn := { slots := [(2, { gen := 0, session := 1, base := 0, baseView := {  }, opened := 0 })] } } : State), _, { mbx := 0, req := (wreq 0x0701 34 (bytesLE 2 0x0102 ++ bytesLE 2 0 ++ bytesLE 2 64 ++ bytesLE 2 64 ++ bytesLE 4 0 ++ bytesLE 2 100 ++ zeros 18)), dbPos := 0, role := 2, poison := false }, _, _, [], { gen := 0, session := 1, base := 0, baseView := {  }, opened := 0 }, ⟨rfl, by decide, rfl, rfl, rfl, rfl, by decide, by decide⟩, by decide⟩

theorem wit_ShowWritesOfColourAndCanvases_6 : ∃ (dt m : Nat) (s t : State) (e : ExecReq) (c : Ctx) (p d : Bytes) (x : TxnSlot),
    Running (ShowCmd.spec .segmentSet) m dt s e c t p ∧
    Stages .segmentSet c t p d x :=
  ⟨0, 0, ({ wst (wreq 0x0702 34 (bytesLE 2 0xFF03 ++ zeros 6)) with txn := { slots := [(2, { gen := 0, session := 1, base := 0, baseView := {  }, opened := 0 })] } } : State), _, { mbx := 0, req := (wreq 0x0702 34 (bytesLE 2 0xFF03 ++ zeros 6)), dbPos := 0, role := 2, poison := false }, _, _, [], { gen := 0, session := 1, base := 0, baseView := {  }, opened := 0 }, ⟨rfl, by decide, rfl, rfl, rfl, rfl, by decide, by decide⟩, by decide⟩

theorem wit_ShowWritesOfColourAndCanvases_7 : ∃ (dt m : Nat) (s t : State) (e : ExecReq) (c : Ctx) (p d : Bytes) (x : TxnSlot),
    Running (ShowCmd.spec .pixelMapSet) m dt s e c t p ∧
    Stages .pixelMapSet c t p d x :=
  ⟨0, 0, ({ wst (wreq 0x0703 34 (bytesLE 4 0 ++ bytesLE 4 1 ++ zeros 8 ++ bytesLE 4 5 ++ bytesLE 4 0xFF ++ zeros 24)) with txn := { slots := [(2, { gen := 0, session := 1, base := 0, baseView := {  }, opened := 0 })] } } : State), _, { mbx := 0, req := (wreq 0x0703 34 (bytesLE 4 0 ++ bytesLE 4 1 ++ zeros 8 ++ bytesLE 4 5 ++ bytesLE 4 0xFF ++ zeros 24)), dbPos := 0, role := 2, poison := false }, _, _, [], { gen := 0, session := 1, base := 0, baseView := {  }, opened := 0 }, ⟨rfl, by decide, rfl, rfl, rfl, rfl, by decide, by decide⟩, by decide⟩

theorem wit_ShowWritesOfColourAndCanvases_8 : ∃ (dt m : Nat) (s t : State) (e : ExecReq) (c : Ctx) (p d : Bytes) (x : TxnSlot),
    Running (ShowCmd.spec .rectCheckSet) m dt s e c t p ∧
    Stages .rectCheckSet c t p d x :=
  ⟨0, 0, ({ wst (wreq 0x0704 34 (bytesLE 8 0x0102 ++ bytesLE 16 3)) with txn := { slots := [(2, { gen := 0, session := 1, base := 0, baseView := { canvas := { canvases := [(2, ⟨0, 1, 64, 64, 0, 100, 100, 0⟩)] } }, opened := 0 })] } } : State), _, { mbx := 0, req := (wreq 0x0704 34 (bytesLE 8 0x0102 ++ bytesLE 16 3)), dbPos := 0, role := 2, poison := false }, _, _, [], { gen := 0, session := 1, base := 0, baseView := { canvas := { canvases := [(2, ⟨0, 1, 64, 64, 0, 100, 100, 0⟩)] } }, opened := 0 }, ⟨rfl, by decide, rfl, rfl, rfl, rfl, by decide, by decide⟩, by decide⟩

theorem wit_ShowWritesOfColourAndCanvases_9 : ∃ (dt m : Nat) (s t : State) (e : ExecReq) (c : Ctx) (p d : Bytes) (x : TxnSlot),
    Running (ShowCmd.spec .sliceModeSet) m dt s e c t p ∧
    Stages .sliceModeSet c t p d x :=
  ⟨0, 0, ({ wst (wreq 0x0204 34 (zeros 24)) with txn := { slots := [(2, { gen := 0, session := 1, base := 0, baseView := {  }, opened := 0 })] } } : State), _, { mbx := 0, req := (wreq 0x0204 34 (zeros 24)), dbPos := 0, role := 2, poison := false }, _, _, [], { gen := 0, session := 1, base := 0, baseView := {  }, opened := 0 }, ⟨rfl, by decide, rfl, rfl, rfl, rfl, by decide, by decide⟩, by decide⟩

theorem wit_ShowWritesOfOutputsAndPorts_1 : ∃ (dt m : Nat) (s t : State) (e : ExecReq) (c : Ctx) (p d : Bytes) (x : TxnSlot),
    Running (ShowCmd.spec .curveLoad) m dt s e c t p ∧
    Stages .curveLoad c t p d x :=
  ⟨0, 0, ({ wst (wreq 0x0801 34 (bytesLE 2 0x0110 ++ zeros 14)) with txn := { slots := [(2, { gen := 0, session := 1, base := 0, baseView := { output := { curves := [(16, [])] } }, opened := 0 })] } } : State), _, { mbx := 0, req := (wreq 0x0801 34 (bytesLE 2 0x0110 ++ zeros 14)), dbPos := 0, role := 2, poison := false }, _, _, [], { gen := 0, session := 1, base := 0, baseView := { output := { curves := [(16, [])] } }, opened := 0 }, ⟨rfl, by decide, rfl, rfl, rfl, rfl, by decide, by decide⟩, by decide⟩

theorem wit_ShowWritesOfOutputsAndPorts_2 : ∃ (dt m : Nat) (s t : State) (e : ExecReq) (c : Ctx) (p d : Bytes) (x : TxnSlot),
    Running (ShowCmd.spec .outputGroupSet) m dt s e c t p ∧
    Stages .outputGroupSet c t p d x :=
  ⟨0, 0, ({ wst (wreq 0x0802 34 (bytesLE 8 1 ++ bytesLE 8 9)) with txn := { slots := [(2, { gen := 0, session := 1, base := 0, baseView := {  }, opened := 0 })] } } : State), _, { mbx := 0, req := (wreq 0x0802 34 (bytesLE 8 1 ++ bytesLE 8 9)), dbPos := 0, role := 2, poison := false }, _, _, [], { gen := 0, session := 1, base := 0, baseView := {  }, opened := 0 }, ⟨rfl, by decide, rfl, rfl, rfl, rfl, by decide, by decide⟩, by decide⟩

theorem wit_ShowWritesOfOutputsAndPorts_3 : ∃ (dt m : Nat) (s t : State) (e : ExecReq) (c : Ctx) (p d : Bytes) (x : TxnSlot),
    Running (ShowCmd.spec .tempSourceSet) m dt s e c t p ∧
    Stages .tempSourceSet c t p d x :=
  ⟨0, 0, ({ wst (wreq 0x0810 34 (bytesLE 8 1 ++ zeros 32)) with txn := { slots := [(2, { gen := 0, session := 1, base := 0, baseView := {  }, opened := 0 })] } } : State), _, { mbx := 0, req := (wreq 0x0810 34 (bytesLE 8 1 ++ zeros 32)), dbPos := 0, role := 2, poison := false }, _, _, [], { gen := 0, session := 1, base := 0, baseView := {  }, opened := 0 }, ⟨rfl, by decide, rfl, rfl, rfl, rfl, by decide, by decide⟩, by decide⟩

theorem wit_ShowWritesOfOutputsAndPorts_4 : ∃ (dt m : Nat) (s t : State) (e : ExecReq) (c : Ctx) (p d : Bytes) (x : TxnSlot),
    Running (ShowCmd.spec .derateSet) m dt s e c t p ∧
    Stages .derateSet c t p d x :=
  ⟨0, 0, ({ wst (wreq 0x0811 34 (bytesLE 8 1 ++ bytesLE 4 5 ++ bytesLE 4 0xFFFF ++ bytesLE 2 1 ++ zeros 6)) with txn := { slots := [(2, { gen := 0, session := 1, base := 0, baseView := {  }, opened := 0 })] } } : State), _, { mbx := 0, req := (wreq 0x0811 34 (bytesLE 8 1 ++ bytesLE 4 5 ++ bytesLE 4 0xFFFF ++ bytesLE 2 1 ++ zeros 6)), dbPos := 0, role := 2, poison := false }, _, _, [], { gen := 0, session := 1, base := 0, baseView := {  }, opened := 0 }, ⟨rfl, by decide, rfl, rfl, rfl, rfl, by decide, by decide⟩, by decide⟩

theorem wit_ShowWritesOfOutputsAndPorts_5 : ∃ (dt m : Nat) (s t : State) (e : ExecReq) (c : Ctx) (p d : Bytes) (x : TxnSlot),
    Running (ShowCmd.spec .safetyGroupSet) m dt s e c t p ∧
    Stages .safetyGroupSet c t p d x :=
  ⟨0, 0, ({ wst (wreq 0x0820 34 (bytesLE 8 1 ++ bytesLE 4 0x010003 ++ zeros 4)) with txn := { slots := [(2, { gen := 0, session := 1, base := 0, baseView := {  }, opened := 0 })] } } : State), _, { mbx := 0, req := (wreq 0x0820 34 (bytesLE 8 1 ++ bytesLE 4 0x010003 ++ zeros 4)), dbPos := 0, role := 2, poison := false }, _, _, [], { gen := 0, session := 1, base := 0, baseView := {  }, opened := 0 }, ⟨rfl, by decide, rfl, rfl, rfl, rfl, by decide, by decide⟩, by decide⟩

theorem wit_ShowWritesOfOutputsAndPorts_6 : ∃ (dt m : Nat) (s t : State) (e : ExecReq) (c : Ctx) (p d : Bytes) (x : TxnSlot),
    Running (ShowCmd.spec .safetyMemberSet) m dt s e c t p ∧
    Stages .safetyMemberSet c t p d x :=
  ⟨0, 0, ({ wst (wreq 0x0821 34 (bytesLE 4 0 ++ bytesLE 4 1 ++ zeros 8 ++ bytesLE 2 3 ++ bytesLE 2 0x0102 ++ zeros 12)) with txn := { slots := [(2, { gen := 0, session := 1, base := 0, baseView := { output := { safety := [(3, ⟨1, 0, 0⟩)] } }, opened := 0 })] } } : State), _, { mbx := 0, req := (wreq 0x0821 34 (bytesLE 4 0 ++ bytesLE 4 1 ++ zeros 8 ++ bytesLE 2 3 ++ bytesLE 2 0x0102 ++ zeros 12)), dbPos := 0, role := 2, poison := false }, _, _, [], { gen := 0, session := 1, base := 0, baseView := { output := { safety := [(3, ⟨1, 0, 0⟩)] } }, opened := 0 }, ⟨rfl, by decide, rfl, rfl, rfl, rfl, by decide, by decide⟩, by decide⟩

theorem wit_ShowWritesOfOutputsAndPorts_7 : ∃ (dt m : Nat) (s t : State) (e : ExecReq) (c : Ctx) (p d : Bytes) (x : TxnSlot),
    Running (ShowCmd.spec .safetyClear) m dt s e c t p ∧
    Stages .safetyClear c t p d x :=
  ⟨0, 0, ({ wst (wreq 0x0822 34 (bytesLE 8 1 ++ bytesLE 4 3)) with txn := { slots := [(2, { gen := 0, session := 1, base := 0, baseView := { output := { safety := [(3, ⟨1, 0, 0⟩)] } }, opened := 0 })] } } : State), _, { mbx := 0, req := (wreq 0x0822 34 (bytesLE 8 1 ++ bytesLE 4 3)), dbPos := 0, role := 2, poison := false }, _, _, [], { gen := 0, session := 1, base := 0, baseView := { output := { safety := [(3, ⟨1, 0, 0⟩)] } }, opened := 0 }, ⟨rfl, by decide, rfl, rfl, rfl, rfl, by decide, by decide⟩, by decide⟩

theorem wit_ShowWritesOfOutputsAndPorts_8 : ∃ (dt m : Nat) (s t : State) (e : ExecReq) (c : Ctx) (p d : Bytes) (x : TxnSlot),
    Running (ShowCmd.spec .laneSet) m dt s e c t p ∧
    Stages .laneSet c t p d x :=
  ⟨0, 0, ({ wst (wreq 0x0901 34 (bytesLE 8 0x03E80105)) with txn := { slots := [(2, { gen := 0, session := 1, base := 0, baseView := {  }, opened := 0 })] } } : State), _, { mbx := 0, req := (wreq 0x0901 34 (bytesLE 8 0x03E80105)), dbPos := 0, role := 2, poison := false }, _, _, [], { gen := 0, session := 1, base := 0, baseView := {  }, opened := 0 }, ⟨rfl, by decide, rfl, rfl, rfl, rfl, by decide, by decide⟩, by decide⟩

theorem wit_ShowWritesOfOutputsAndPorts_9 : ∃ (dt m : Nat) (s t : State) (e : ExecReq) (c : Ctx) (p d : Bytes) (x : TxnSlot),
    Running (ShowCmd.spec .dmxPortSet) m dt s e c t p ∧
    Stages .dmxPortSet c t p d x :=
  ⟨0, 0, ({ wst (wreq 0x0910 34 (bytesLE 2 5 ++ bytesLE 2 512 ++ bytesLE 2 100 ++ bytesLE 2 12 ++ zeros 8)) with txn := { slots := [(2, { gen := 0, session := 1, base := 0, baseView := {  }, opened := 0 })] } } : State), _, { mbx := 0, req := (wreq 0x0910 34 (bytesLE 2 5 ++ bytesLE 2 512 ++ bytesLE 2 100 ++ bytesLE 2 12 ++ zeros 8)), dbPos := 0, role := 2, poison := false }, _, _, [], { gen := 0, session := 1, base := 0, baseView := {  }, opened := 0 }, ⟨rfl, by decide, rfl, rfl, rfl, rfl, by decide, by decide⟩, by decide⟩

theorem wit_ShowWritesOfOutputsAndPorts_10 : ∃ (dt m : Nat) (s t : State) (e : ExecReq) (c : Ctx) (p d : Bytes) (x : TxnSlot),
    Running (ShowCmd.spec .pwmSet) m dt s e c t p ∧
    Stages .pwmSet c t p d x :=
  ⟨0, 0, ({ wst (wreq 0x0920 34 (bytesLE 2 0x1005 ++ bytesLE 2 1 ++ zeros 12)) with txn := { slots := [(2, { gen := 0, session := 1, base := 0, baseView := {  }, opened := 0 })] } } : State), _, { mbx := 0, req := (wreq 0x0920 34 (bytesLE 2 0x1005 ++ bytesLE 2 1 ++ zeros 12)), dbPos := 0, role := 2, poison := false }, _, _, [], { gen := 0, session := 1, base := 0, baseView := {  }, opened := 0 }, ⟨rfl, by decide, rfl, rfl, rfl, rfl, by decide, by decide⟩, by decide⟩

theorem wit_ShowWritesOfOutputsAndPorts_11 : ∃ (dt m : Nat) (s t : State) (e : ExecReq) (c : Ctx) (p d : Bytes) (x : TxnSlot),
    Running (ShowCmd.spec .sacnTxConfig) m dt s e c t p ∧
    Stages .sacnTxConfig c t p d x :=
  ⟨0, 0, ({ wst (wreq 0x0A20 34 (zeros 0x51 ++ bytesLE 3 100 ++ bytesLE 4 240)) with txn := { slots := [(2, { gen := 0, session := 1, base := 0, baseView := {  }, opened := 0 })] } } : State), _, { mbx := 0, req := (wreq 0x0A20 34 (zeros 0x51 ++ bytesLE 3 100 ++ bytesLE 4 240)), dbPos := 0, role := 2, poison := false }, _, _, [], { gen := 0, session := 1, base := 0, baseView := {  }, opened := 0 }, ⟨rfl, by decide, rfl, rfl, rfl, rfl, by decide, by decide⟩, by decide⟩

theorem wit_ShowWritesOfOutputsAndPorts_12 : ∃ (dt m : Nat) (s t : State) (e : ExecReq) (c : Ctx) (p d : Bytes) (x : TxnSlot),
    Running (ShowCmd.spec .sacnTxUniverseSet) m dt s e c t p ∧
    Stages .sacnTxUniverseSet c t p d x :=
  ⟨0, 0, ({ wst (wreq 0x0A21 34 (bytesLE 8 1 ++ bytesLE 4 7 ++ zeros 12)) with txn := { slots := [(2, { gen := 0, session := 1, base := 0, baseView := {  }, opened := 0 })] } } : State), _, { mbx := 0, req := (wreq 0x0A21 34 (bytesLE 8 1 ++ bytesLE 4 7 ++ zeros 12)), dbPos := 0, role := 2, poison := false }, _, _, [], { gen := 0, session := 1, base := 0, baseView := {  }, opened := 0 }, ⟨rfl, by decide, rfl, rfl, rfl, rfl, by decide, by decide⟩, by decide⟩

theorem wit_ShowWritesOfOutputsAndPorts_13 : ∃ (dt m : Nat) (s t : State) (e : ExecReq) (c : Ctx) (p d : Bytes) (x : TxnSlot),
    Running (ShowCmd.spec .partitionSet) m dt s e c t p ∧
    Stages .partitionSet c t p d x :=
  ⟨0, 0, ({ wst (wreq 0x0D10 34 (zeros 16)) with txn := { slots := [(2, { gen := 0, session := 1, base := 0, baseView := {  }, opened := 0 })] } } : State), _, { mbx := 0, req := (wreq 0x0D10 34 (zeros 16)), dbPos := 0, role := 2, poison := false }, _, _, [], { gen := 0, session := 1, base := 0, baseView := {  }, opened := 0 }, ⟨rfl, by decide, rfl, rfl, rfl, rfl, by decide, by decide⟩, by decide⟩

theorem wit_SlowShowWrites_1 : ∃ (i : Instr) (dt m : Nat) (cmd : ShowCmd) (s t : State) (e : ExecReq) (c : Ctx) (p : Bytes) (x : TxnSlot),
    showOf i = some (dt, m, cmd) ∧
    Running cmd.spec m dt s e c t p ∧
    t.txnOf c = some x ∧
    x.commit = none ∧
    cmd.slow p = true ∧
    sourceFails (cmd.source p) = false ∧
    t.acceptFail = none :=
  ⟨.patchWrite 0 0, 0, 0, .patchWrite, ({ wst (wreq 0x0310 0x22 (bytesLE 4 1 ++ bytesLE 4 1 ++ bytesLE 8 0x10000)) with txn := { slots := [(2, { gen := 0, session := 1, base := 0, baseView := {  }, opened := 0 })] } } : State), _, { mbx := 0, req := (wreq 0x0310 0x22 (bytesLE 4 1 ++ bytesLE 4 1 ++ bytesLE 8 0x10000)), dbPos := 0, role := 2 }, _, _, { gen := 0, session := 1, base := 0, baseView := {  }, opened := 0 }, rfl, ⟨rfl, by decide, rfl, rfl, rfl, rfl, by decide, by decide⟩, by decide, by decide, by decide, by decide, by decide⟩

theorem wit_SlowShowWrites_2 : ∃ (dt m : Nat) (s t : State) (e : ExecReq) (c : Ctx) (p : Bytes) (x : TxnSlot),
    Running (ShowCmd.spec .cuelistLoad) m dt s e c t p ∧
    t.txnOf c = some x ∧
    x.commit = none ∧
    t.acceptFail = none :=
  ⟨0, 0, ({ wst (wreq 0x0401 34 (bytesLE 4 3 ++ bytesLE 4 144 ++ bytesLE 8 0x10000)) with txn := { slots := [(2, { gen := 0, session := 1, base := 0, baseView := {  }, opened := 0 })] }, mem := [(65536, 1), (65540, 1), (65544, 144), (65604, 144)] } : State), _, { mbx := 0, req := (wreq 0x0401 34 (bytesLE 4 3 ++ bytesLE 4 144 ++ bytesLE 8 0x10000)), dbPos := 0, role := 2, poison := false }, _, _, { gen := 0, session := 1, base := 0, baseView := {  }, opened := 0 }, ⟨rfl, by decide, rfl, rfl, rfl, rfl, by decide, by decide⟩, by decide, by decide, by decide⟩

theorem wit_SlowShowWrites_3 : ∃ (dt op : Nat) (o : Op) (slot : Nat) (x : TxnSlot) (p d : Bytes) (s : State),
    StagesLater .cuelistLoad 0x0401 op (s.tick dt) o slot x p d :=
  ⟨0, 0, { id := 0, command := 0x0401, flags := 0x22, tag := 7, session := 1, kind := .stage 2 0 (bytesLE 4 3 ++ bytesLE 4 144 ++ bytesLE 8 0x10000) [1, 0, 0, 0, 1, 0, 0, 0, 144, 0, 0, 0, 0, 0, 0, 0, 0, 0, 0, 0, 0, 0, 0, 0, 0, 0, 0, 0, 0, 0, 0, 0, 0, 0, 0, 0, 0, 0, 0, 0, 0, 0, 0, 0, 0, 0, 0, 0, 0, 0, 0, 0, 0, 0, 0, 0, 0, 0, 0, 0, 0, 0, 0, 0, 0, 0, 0, 0, 144, 0, 0, 0, 0, 0, 0, 0, 0, 0, 0, 0, 0, 0, 0, 0, 0, 0, 0, 0, 0, 0, 0, 0, 0, 0, 0, 0, 0, 0, 0, 0, 0, 0, 0, 0, 0, 0, 0, 0, 0, 0, 0, 0, 0, 0, 0, 0, 0, 0, 0, 0, 0, 0, 0, 0, 0, 0, 0, 0, 0, 0, 0, 0, 0, 0, 0, 0, 0, 0, 0, 0, 0, 0, 0, 0] }, 2, { gen := 0, session := 1, base := 0, baseView := {  }, opened := 0 }, (bytesLE 4 3 ++ bytesLE 4 144 ++ bytesLE 8 0x10000), [1, 0, 0, 0, 1, 0, 0, 0, 144, 0, 0, 0, 0, 0, 0, 0, 0, 0, 0, 0, 0, 0, 0, 0, 0, 0, 0, 0, 0, 0, 0, 0, 0, 0, 0, 0, 0, 0, 0, 0, 0, 0, 0, 0, 0, 0, 0, 0, 0, 0, 0, 0, 0, 0, 0, 0, 0, 0, 0, 0, 0, 0, 0, 0, 0, 0, 0, 0, 144, 0, 0, 0, 0, 0, 0, 0, 0, 0, 0, 0, 0, 0, 0, 0, 0, 0, 0, 0, 0, 0, 0, 0, 0, 0, 0, 0, 0, 0, 0, 0, 0, 0, 0, 0, 0, 0, 0, 0, 0, 0, 0, 0, 0, 0, 0, 0, 0, 0, 0, 0, 0, 0, 0, 0, 0, 0, 0, 0, 0, 0, 0, 0, 0, 0, 0, 0, 0, 0, 0, 0, 0, 0, 0, 0], { host := { ops := [{ id := 0, command := 0x0401, flags := 0x22, tag := 7, session := 1, kind := .stage 2 0 (bytesLE 4 3 ++ bytesLE 4 144 ++ bytesLE 8 0x10000) [1, 0, 0, 0, 1, 0, 0, 0, 144, 0, 0, 0, 0, 0, 0, 0, 0, 0, 0, 0, 0, 0, 0, 0, 0, 0, 0, 0, 0, 0, 0, 0, 0, 0, 0, 0, 0, 0, 0, 0, 0, 0, 0, 0, 0, 0, 0, 0, 0, 0, 0, 0, 0, 0, 0, 0, 0, 0, 0, 0, 0, 0, 0, 0, 0, 0, 0, 0, 144, 0, 0, 0, 0, 0, 0, 0, 0, 0, 0, 0, 0, 0, 0, 0, 0, 0, 0, 0, 0, 0, 0, 0, 0, 0, 0, 0, 0, 0, 0, 0, 0, 0, 0, 0, 0, 0, 0, 0, 0, 0, 0, 0, 0, 0, 0, 0, 0, 0, 0, 0, 0, 0, 0, 0, 0, 0, 0, 0, 0, 0, 0, 0, 0, 0, 0, 0, 0, 0, 0, 0, 0, 0, 0, 0] }] }, txn := { slots := [(2, { gen := 0, session := 1, base := 0, baseView := {  }, opened := 0 })] } }, by decide⟩

theorem wit_SlowShowWrites_4 : ∃ (dt op : Nat) (o : Op) (slot : Nat) (x : TxnSlot) (p d : Bytes) (s : State),
    StagesLater .patchWrite 0x0310 op (s.tick dt) o slot x p d :=
  ⟨0, 0, { id := 0, command := 0x0310, flags := 0x22, tag := 7, session := 1, kind := .stage 2 0 (bytesLE 4 1 ++ bytesLE 4 1 ++ bytesLE 8 0x10000) (bytesLE 4 6 ++ bytesLE 4 1 ++ zeros 24) }, 2, { gen := 0, session := 1, base := 0, baseView := { patch := { profiles := [(1, [1, 0, 1, 0, 0, 0, 1, 0, 0, 0, 0, 0, 0, 0, 0, 0, 0, 0, 0, 0, 0, 0, 0, 0, 0, 0, 0, 0, 0, 0, 0, 0, 0, 0, 0, 0, 0, 0, 0, 0, 0, 0, 0, 0, 0, 0, 0, 0, 0, 0, 0, 0, 0, 0, 0, 0, 0, 0, 0, 0, 0, 0, 0, 0, 1, 24, 0, 0, 0, 0, 0, 0, 0, 0, 128, 63, 0, 0, 0, 0])], patch := [(5, ⟨1, 0, 0, 0, 0, 0, 0, 0⟩)], pool := [(5, [0])] } }, opened := 0 }, (bytesLE 4 1 ++ bytesLE 4 1 ++ bytesLE 8 0x10000), (bytesLE 4 6 ++ bytesLE 4 1 ++ zeros 24), { host := { ops := [{ id := 0, command := 0x0310, flags := 0x22, tag := 7, session := 1, kind := .stage 2 0 (bytesLE 4 1 ++ bytesLE 4 1 ++ bytesLE 8 0x10000) (bytesLE 4 6 ++ bytesLE 4 1 ++ zeros 24) }] }, txn := { slots := [(2, { gen := 0, session := 1, base := 0, baseView := { patch := { profiles := [(1, [1, 0, 1, 0, 0, 0, 1, 0, 0, 0, 0, 0, 0, 0, 0, 0, 0, 0, 0, 0, 0, 0, 0, 0, 0, 0, 0, 0, 0, 0, 0, 0, 0, 0, 0, 0, 0, 0, 0, 0, 0, 0, 0, 0, 0, 0, 0, 0, 0, 0, 0, 0, 0, 0, 0, 0, 0, 0, 0, 0, 0, 0, 0, 0, 1, 24, 0, 0, 0, 0, 0, 0, 0, 0, 128, 63, 0, 0, 0, 0])], patch := [(5, ⟨1, 0, 0, 0, 0, 0, 0, 0⟩)], pool := [(5, [0])] } }, opened := 0 })] } }, by decide⟩

theorem wit_SlowShowWrites_5 : ∃ (dt op : Nat) (o : Op) (slot : Nat) (x : TxnSlot) (p d : Bytes) (s : State),
    (s.tick dt).op op 0x0310 = some o ∧
    o.kind = .stage slot x.gen p d ∧
    s.txn.slots.find slot = some x ∧
    x.session = o.session ∧
    x.commit = none :=
  ⟨0, 0, { id := 0, command := 0x0310, flags := 0x22, tag := 7, session := 1, kind := .stage 2 0 [] [] }, 2, { gen := 0, session := 1, base := 0, baseView := {  }, opened := 0 }, [], [], { host := { ops := [{ id := 0, command := 0x0310, flags := 0x22, tag := 7, session := 1, kind := .stage 2 0 [] [] }] }, txn := { slots := [(2, { gen := 0, session := 1, base := 0, baseView := {  }, opened := 0 })] } }, by decide, by decide, by decide, by decide, by decide⟩

theorem wit_SlowShowWrites_6 : ∃ (dt op : Nat) (o : Op) (slot : Nat) (x : TxnSlot) (p d : Bytes) (s : State),
    StagesLater .videoSampleSet 0x0531 op (s.tick dt) o slot x p d :=
  ⟨0, 0, { id := 0, command := 0x0531, flags := 0x22, tag := 7, session := 1, kind := .stage 2 0 (bytesLE 4 1 ++ bytesLE 4 1 ++ bytesLE 8 0x10000) (bytesLE 4 5 ++ zeros 4 ++ bytesLE 2 0x0101 ++ zeros 6) }, 2, { gen := 0, session := 1, base := 0, baseView := {  }, opened := 0 }, (bytesLE 4 1 ++ bytesLE 4 1 ++ bytesLE 8 0x10000), (bytesLE 4 5 ++ zeros 4 ++ bytesLE 2 0x0101 ++ zeros 6), { host := { ops := [{ id := 0, command := 0x0531, flags := 0x22, tag := 7, session := 1, kind := .stage 2 0 (bytesLE 4 1 ++ bytesLE 4 1 ++ bytesLE 8 0x10000) (bytesLE 4 5 ++ zeros 4 ++ bytesLE 2 0x0101 ++ zeros 6) }] }, txn := { slots := [(2, { gen := 0, session := 1, base := 0, baseView := {  }, opened := 0 })] } }, by decide⟩

theorem wit_SlowShowWrites_7 : ∃ (dt op : Nat) (o : Op) (slot : Nat) (x : TxnSlot) (p d : Bytes) (s : State),
    StagesLater .calibSet 0x0601 op (s.tick dt) o slot x p d :=
  ⟨0, 0, { id := 0, command := 0x0601, flags := 0x22, tag := 7, session := 1, kind := .stage 2 0 (bytesLE 4 1 ++ bytesLE 4 1 ++ bytesLE 8 0x10000) (bytesLE 4 5 ++ zeros 284) }, 2, { gen := 0, session := 1, base := 0, baseView := {  }, opened := 0 }, (bytesLE 4 1 ++ bytesLE 4 1 ++ bytesLE 8 0x10000), (bytesLE 4 5 ++ zeros 284), { host := { ops := [{ id := 0, command := 0x0601, flags := 0x22, tag := 7, session := 1, kind := .stage 2 0 (bytesLE 4 1 ++ bytesLE 4 1 ++ bytesLE 8 0x10000) (bytesLE 4 5 ++ zeros 284) }] }, txn := { slots := [(2, { gen := 0, session := 1, base := 0, baseView := {  }, opened := 0 })] } }, by decide⟩

theorem wit_SlowShowWrites_8 : ∃ (dt op : Nat) (o : Op) (slot : Nat) (x : TxnSlot) (p d : Bytes) (s : State),
    StagesLater .regionSet 0x0610 op (s.tick dt) o slot x p d :=
  ⟨0, 0, { id := 0, command := 0x0610, flags := 0x22, tag := 7, session := 1, kind := .stage 2 0 (bytesLE 4 1 ++ bytesLE 4 1 ++ bytesLE 8 0x10000) (bytesLE 2 5 ++ bytesLE 2 0xFF ++ zeros 92) }, 2, { gen := 0, session := 1, base := 0, baseView := {  }, opened := 0 }, (bytesLE 4 1 ++ bytesLE 4 1 ++ bytesLE 8 0x10000), (bytesLE 2 5 ++ bytesLE 2 0xFF ++ zeros 92), { host := { ops := [{ id := 0, command := 0x0610, flags := 0x22, tag := 7, session := 1, kind := .stage 2 0 (bytesLE 4 1 ++ bytesLE 4 1 ++ bytesLE 8 0x10000) (bytesLE 2 5 ++ bytesLE 2 0xFF ++ zeros 92) }] }, txn := { slots := [(2, { gen := 0, session := 1, base := 0, baseView := {  }, opened := 0 })] } }, by decide⟩

theorem wit_SlowShowWrites_9 : ∃ (dt op : Nat) (o : Op) (slot : Nat) (x : TxnSlot) (p d : Bytes) (s : State),
    StagesLater .pixelMapSet 0x0703 op (s.tick dt) o slot x p d :=
  ⟨0, 0, { id := 0, command := 0x0703, flags := 0x22, tag := 7, session := 1, kind := .stage 2 0 (bytesLE 4 1 ++ bytesLE 4 1 ++ bytesLE 8 0x10000) (bytesLE 4 5 ++ bytesLE 4 0xFF ++ zeros 24) }, 2, { gen := 0, session := 1, base := 0, baseView := {  }, opened := 0 }, (bytesLE 4 1 ++ bytesLE 4 1 ++ bytesLE 8 0x10000), (bytesLE 4 5 ++ bytesLE 4 0xFF ++ zeros 24), { host := { ops := [{ id := 0, command := 0x0703, flags := 0x22, tag := 7, session := 1, kind := .stage 2 0 (bytesLE 4 1 ++ bytesLE 4 1 ++ bytesLE 8 0x10000) (bytesLE 4 5 ++ bytesLE 4 0xFF ++ zeros 24) }] }, txn := { slots := [(2, { gen := 0, session := 1, base := 0, baseView := {  }, opened := 0 })] } }, by decide⟩

theorem wit_SlowShowWrites_10 : ∃ (dt op : Nat) (o : Op) (slot : Nat) (x : TxnSlot) (p d : Bytes) (s : State),
    StagesLater .safetyMemberSet 0x0821 op (s.tick dt) o slot x p d :=
  ⟨0, 0, { id := 0, command := 0x0821, flags := 0x22, tag := 7, session := 1, kind := .stage 2 0 (bytesLE 4 1 ++ bytesLE 4 1 ++ bytesLE 8 0x10000) (bytesLE 2 3 ++ bytesLE 2 0x0102 ++ zeros 12) }, 2, { gen := 0, session := 1, base := 0, baseView := { output := { safety := [(3, ⟨1, 0, 0⟩)] } }, opened := 0 }, (bytesLE 4 1 ++ bytesLE 4 1 ++ bytesLE 8 0x10000), (bytesLE 2 3 ++ bytesLE 2 0x0102 ++ zeros 12), { host := { ops := [{ id := 0, command := 0x0821, flags := 0x22, tag := 7, session := 1, kind := .stage 2 0 (bytesLE 4 1 ++ bytesLE 4 1 ++ bytesLE 8 0x10000) (bytesLE 2 3 ++ bytesLE 2 0x0102 ++ zeros 12) }] }, txn := { slots := [(2, { gen := 0, session := 1, base := 0, baseView := { output := { safety := [(3, ⟨1, 0, 0⟩)] } }, opened := 0 })] } }, by decide⟩

theorem wit_ReadsOfTheShow_1 : ∃ (dt m : Nat) (s t : State) (e : ExecReq) (c : Ctx) (p : Bytes) (v : ShowState) (img : Bytes),
    Running profileReadSpec m dt s e c t p ∧
    t.readView c = some v ∧
    v.patch.profiles.find (fld p 0 2) = some img ∧
    img.length ≤ fld p 4 4 ∧
    regionOk (fld p 8 8) img.length = true :=
  ⟨0, 0, ({ wst (wreq 0x0303 0 (bytesLE 4 1 ++ bytesLE 4 100 ++ bytesLE 8 0x10000)) with txn := { view := { patch := { profiles := [(1, [1, 0])] } } } } : State), _, { mbx := 0, req := (wreq 0x0303 0 (bytesLE 4 1 ++ bytesLE 4 100 ++ bytesLE 8 0x10000)), dbPos := 0, role := 2, poison := false }, _, _, { patch := { profiles := [(1, [1, 0])] } }, [1, 0], ⟨rfl, by decide, rfl, rfl, rfl, rfl, by decide, by decide⟩, by decide, by decide, by decide, by decide⟩

theorem wit_ReadsOfTheShow_2 : ∃ (dt m : Nat) (s t : State) (e : ExecReq) (c : Ctx) (p : Bytes) (v : ShowState),
    Running patchReadSpec m dt s e c t p ∧
    t.readView c = some v ∧
    fld p 8 8 = 0 :=
  ⟨0, 0, (wst (wreq 0x0312 0 (zeros 16)) : State), _, { mbx := 0, req := (wreq 0x0312 0 (zeros 16)), dbPos := 0, role := 2, poison := false }, _, _, {}, ⟨rfl, by decide, rfl, rfl, rfl, rfl, by decide, by decide⟩, by decide, by decide⟩

theorem wit_ReadsOfTheShow_3 : ∃ (dt m : Nat) (s t : State) (e : ExecReq) (c : Ctx) (p : Bytes) (v : ShowState),
    Running patchReadSpec m dt s e c t p ∧
    t.readView c = some v ∧
    fld p 8 8 ≠ 0 ∧
    regionOk (fld p 8 8) ((patchReadScan v.patch (fld p 0 4) (fld p 4 4) 131073).1.flatMap fun r => patchRecBytes r.1 r.2).length = true :=
  ⟨0, 0, (wst (wreq 0x0312 0 (zeros 8 ++ bytesLE 8 0x10000)) : State), _, { mbx := 0, req := (wreq 0x0312 0 (zeros 8 ++ bytesLE 8 0x10000)), dbPos := 0, role := 2, poison := false }, _, _, {}, ⟨rfl, by decide, rfl, rfl, rfl, rfl, by decide, by decide⟩, by decide, by decide, by decide⟩

theorem wit_ReadsOfTheShow_4 : ∃ (dt m : Nat) (s t : State) (e : ExecReq) (c : Ctx) (p : Bytes) (v : ShowState),
    Running paramReadSpec m dt s e c t p ∧
    t.readView c = some v :=
  ⟨0, 0, (wst (wreq 0x0321 0 (bytesLE 8 1 ++ bytesLE 4 640)) : State), _, { mbx := 0, req := (wreq 0x0321 0 (bytesLE 8 1 ++ bytesLE 4 640)), dbPos := 0, role := 2, poison := false }, _, _, {}, ⟨rfl, by decide, rfl, rfl, rfl, rfl, by decide, by decide⟩, by decide⟩

theorem wit_ReadsOfTheShow_5 : ∃ (dt m : Nat) (s t : State) (e : ExecReq) (c : Ctx) (p : Bytes) (v : ShowState),
    Running poolStatusSpec m dt s e c t p ∧
    t.readView c = some v :=
  ⟨0, 0, (wst (wreq 0x0330 0 []) : State), _, { mbx := 0, req := (wreq 0x0330 0 []), dbPos := 0, role := 2, poison := false }, _, _, {}, ⟨rfl, by decide, rfl, rfl, rfl, rfl, by decide, by decide⟩, by decide⟩

theorem wit_ReadsOfTheShow_6 : ∃ (dt m : Nat) (s t : State) (e : ExecReq) (c : Ctx) (p : Bytes) (v : ShowState),
    Running playbackStatusSpec m dt s e c t p ∧
    t.readView c = some v :=
  ⟨0, 0, (wst (wreq 0x0430 0 (zeros 8)) : State), _, { mbx := 0, req := (wreq 0x0430 0 (zeros 8)), dbPos := 0, role := 2, poison := false }, _, _, {}, ⟨rfl, by decide, rfl, rfl, rfl, rfl, by decide, by decide⟩, by decide⟩

theorem wit_ReadsOfTheShow_7 : ∃ (c : Ctx),
    c.inTxn = false ∧
    c.inSnap = false :=
  ⟨{ m := 0, code := 0, flags := 0, tag := 0, session := 0, length := 0, reserved := 0, role := 0, db := 0, payload := [] }, by decide, by decide⟩

theorem wit_ReadsOfTheShow_8 : ∃ (c : Ctx) (x : TxnSlot) (s : State),
    c.inTxn = true ∧
    s.txnOf c = some x :=
  ⟨{ m := 0, code := 0, flags := 0x22, tag := 0, session := 1, length := 0, reserved := 0, role := 0, db := 0, payload := [] }, { gen := 0, session := 1, base := 0, baseView := {}, opened := 0 }, { txn := { slots := [(2, { gen := 0, session := 1, base := 0, baseView := {}, opened := 0 })] } }, by decide, by decide⟩

theorem wit_ReadsOfTheDevice_1 : ∃ (dt m : Nat) (s t : State) (e : ExecReq) (c : Ctx) (p : Bytes),
    Running inputStatusSpec m dt s e c t p :=
  ⟨0, 0, (wst (wreq 0x0540 0 (bytesLE 8 0x00010000)) : State), _, { mbx := 0, req := (wreq 0x0540 0 (bytesLE 8 0x00010000)), dbPos := 0, role := 2, poison := false }, _, _, ⟨rfl, by decide, rfl, rfl, rfl, rfl, by decide, by decide⟩⟩

theorem wit_ReadsOfTheDevice_2 : ∃ (dt m : Nat) (s t : State) (e : ExecReq) (c : Ctx) (p : Bytes),
    Running mergeReadSpec m dt s e c t p :=
  ⟨0, 0, (wst (wreq 0x0541 0 (bytesLE 8 1 ++ bytesLE 4 640)) : State), _, { mbx := 0, req := (wreq 0x0541 0 (bytesLE 8 1 ++ bytesLE 4 640)), dbPos := 0, role := 2, poison := false }, _, _, ⟨rfl, by decide, rfl, rfl, rfl, rfl, by decide, by decide⟩⟩

theorem wit_ReadsOfTheDevice_3 : ∃ (dt m : Nat) (s t : State) (e : ExecReq) (c : Ctx) (p : Bytes),
    Running feederStatusSpec m dt s e c t p :=
  ⟨0, 0, (wst (wreq 0x0630 0 (zeros 8)) : State), _, { mbx := 0, req := (wreq 0x0630 0 (zeros 8)), dbPos := 0, role := 2, poison := false }, _, _, ⟨rfl, by decide, rfl, rfl, rfl, rfl, by decide, by decide⟩⟩

theorem wit_ReadsOfTheDevice_4 : ∃ (dt m : Nat) (s t : State) (e : ExecReq) (c : Ctx) (p : Bytes),
    Running solveReadSpec m dt s e c t p :=
  ⟨0, 0, (wst (wreq 0x0631 0 (bytesLE 8 1 ++ bytesLE 4 5)) : State), _, { mbx := 0, req := (wreq 0x0631 0 (bytesLE 8 1 ++ bytesLE 4 5)), dbPos := 0, role := 2, poison := false }, _, _, ⟨rfl, by decide, rfl, rfl, rfl, rfl, by decide, by decide⟩⟩

theorem wit_ReadsOfTheDevice_5 : ∃ (dt m : Nat) (s t : State) (e : ExecReq) (c : Ctx) (p : Bytes) (k : Nat),
    Running canvasStatusSpec m dt s e c t p ∧
    k = fld p 0 1 :=
  ⟨0, 0, (wst (wreq 0x0720 0 (bytesLE 8 1)) : State), _, { mbx := 0, req := (wreq 0x0720 0 (bytesLE 8 1)), dbPos := 0, role := 2, poison := false }, _, _, 1, ⟨rfl, by decide, rfl, rfl, rfl, rfl, by decide, by decide⟩, by decide⟩

theorem wit_ReadsOfTheDevice_6 : ∃ (dt m : Nat) (s t : State) (e : ExecReq) (c : Ctx) (p : Bytes),
    Running displayStatusSpec m dt s e c t p :=
  ⟨0, 0, (wst (wreq 0x0721 0 []) : State), _, { mbx := 0, req := (wreq 0x0721 0 []), dbPos := 0, role := 2, poison := false }, _, _, ⟨rfl, by decide, rfl, rfl, rfl, rfl, by decide, by decide⟩⟩

theorem wit_ReadsOfTheDevice_7 : ∃ (dt m : Nat) (s t : State) (e : ExecReq) (c : Ctx) (p : Bytes) (g : Nat) (d : SafetyDyn),
    Running safetyStatusSpec m dt s e c t p ∧
    g = fld p 0 2 ∧
    d = t.render.closed.safety.getD g {} :=
  ⟨0, 0, (wst (wreq 0x0830 0 (bytesLE 8 3)) : State), _, { mbx := 0, req := (wreq 0x0830 0 (bytesLE 8 3)), dbPos := 0, role := 2, poison := false }, _, _, 3, {}, ⟨rfl, by decide, rfl, rfl, rfl, rfl, by decide, by decide⟩, by decide, by decide⟩

theorem wit_ReadsOfTheDevice_8 : ∃ (dt m : Nat) (s t : State) (e : ExecReq) (c : Ctx) (p : Bytes),
    Running derateStatusSpec m dt s e c t p ∧
    t.render.closed.view.output.derates.find (fld p 0 4) = none :=
  ⟨0, 0, (wst (wreq 0x0831 0 (bytesLE 8 3)) : State), _, { mbx := 0, req := (wreq 0x0831 0 (bytesLE 8 3)), dbPos := 0, role := 2, poison := false }, _, _, ⟨rfl, by decide, rfl, rfl, rfl, rfl, by decide, by decide⟩, by decide⟩

theorem wit_ReadsOfTheDevice_9 : ∃ (dt m : Nat) (s t : State) (e : ExecReq) (c : Ctx) (p r : Bytes) (f : F32),
    Running derateStatusSpec m dt s e c t p ∧
    t.render.closed.view.output.derates.find (fld p 0 4) = some r ∧
    f = t.render.closed.factors.getD (fld p 0 4) F32.f1 :=
  ⟨0, 0, ({ wst (wreq 0x0831 0 (bytesLE 8 3)) with render := { closed := { view := { output := { derates := [(3, bytesLE 4 3 ++ zeros 12)] } } } } } : State), _, { mbx := 0, req := (wreq 0x0831 0 (bytesLE 8 3)), dbPos := 0, role := 2, poison := false }, _, _, (bytesLE 4 3 ++ zeros 12), F32.f1, ⟨rfl, by decide, rfl, rfl, rfl, rfl, by decide, by decide⟩, by decide, by decide⟩

theorem wit_ReadsOfTheDevice_10 : ∃ (dt m : Nat) (s t : State) (e : ExecReq) (c : Ctx) (p : Bytes) (k j : Nat),
    Running emitStatusSpec m dt s e c t p ∧
    k = fld p 0 1 ∧
    j = fld p 2 2 :=
  ⟨0, 0, (wst (wreq 0x0832 0 (bytesLE 8 0x00050001)) : State), _, { mbx := 0, req := (wreq 0x0832 0 (bytesLE 8 0x00050001)), dbPos := 0, role := 2, poison := false }, _, _, 1, 5, ⟨rfl, by decide, rfl, rfl, rfl, rfl, by decide, by decide⟩, by decide, by decide⟩

theorem wit_ReadsOfTheDevice_11 : ∃ (dt m : Nat) (s t : State) (e : ExecReq) (c : Ctx) (p : Bytes),
    Running portStatusSpec m dt s e c t p :=
  ⟨0, 0, (wst (wreq 0x0930 0 (bytesLE 8 0x0501)) : State), _, { mbx := 0, req := (wreq 0x0930 0 (bytesLE 8 0x0501)), dbPos := 0, role := 2, poison := false }, _, _, ⟨rfl, by decide, rfl, rfl, rfl, rfl, by decide, by decide⟩⟩

theorem wit_FramesOpenAndClose_1 : ∃ (dt : Nat) (g : GridFrame) (s : State),
    s.update.act = none ∧
    s.clock.at_ s.clock.nextLatch = some g ∧
    s.clock.run = true ∧
    g.latch ≤ (s.tick dt).tb :=
  ⟨0, { n := 0, t := 0, period := 1000, latch := 0, light := 0, emax := 0, dcfg := 0 }, { clock := { run := true, grid := [{ n := 0, t := 0, period := 1000, latch := 0, light := 0, emax := 0, dcfg := 0 }] } }, by decide, by decide, by decide, by decide⟩

theorem wit_FramesOpenAndClose_2 : ∃ (dt : Nat) (s : State),
    (s.clock.run = false ∨ (∀ g, s.clock.at_ s.clock.nextLatch = some g → (s.tick dt).tb < g.latch)) :=
  ⟨0, {}, Or.inl rfl⟩

theorem wit_FramesOpenAndClose_3 : ∃ (dt : Nat) (r : FrameRec) (s : State),
    s.render.frames.find? (fun r => !r.mainClosed && decide (r.mainEnd ≤ (s.tick dt).tb)) = some r :=
  ⟨1, { grid := ⟨1, 0, 1000, 0, 0, 0, 0⟩, epoch := 0, rate := 3, view := {  } }, { render := { frames := [{ grid := ⟨1, 0, 1000, 0, 0, 0, 0⟩, epoch := 0, rate := 3, view := {  } }] } }, by decide⟩

theorem wit_FramesOpenAndClose_4 : ∃ (dt : Nat) (s : State),
    s.render.frames.find? (fun r => !r.mainClosed && decide (r.mainEnd ≤ (s.tick dt).tb)) = none :=
  ⟨0, {}, by decide⟩

theorem wit_FramesOpenAndClose_5 : ∃ (dt : Nat) (r : FrameRec) (s : State),
    (s.tick dt).toLight = some r :=
  ⟨0, { grid := ⟨1, 0, 1000, 0, 0, 0, 0⟩, epoch := 0, rate := 3, view := {  } }, { render := { frames := [{ grid := ⟨1, 0, 1000, 0, 0, 0, 0⟩, epoch := 0, rate := 3, view := {  } }] } }, by decide⟩

theorem wit_FramesOpenAndClose_6 : ∃ (dt : Nat) (s : State),
    (s.tick dt).toLight = none :=
  ⟨0, {}, by decide⟩

theorem wit_CanvasFrames_1 : ∃ (dt k : Nat) (r : FrameRec) (c : Canvas) (s : State),
    (s.tick dt).toOpen k = some (r, c) :=
  ⟨0, 0, { grid := ⟨1, 0, 1000, 0, 0, 0, 0⟩, epoch := 0, rate := 3, view := { canvas := { canvases := [(0, ⟨0, 1, 64, 64, 0, 100, 100, 0⟩)] } } }, ⟨0, 1, 64, 64, 0, 100, 100, 0⟩, { render := { frames := [{ grid := ⟨1, 0, 1000, 0, 0, 0, 0⟩, epoch := 0, rate := 3, view := { canvas := { canvases := [(0, ⟨0, 1, 64, 64, 0, 100, 100, 0⟩)] } } }] } }, by decide⟩

theorem wit_CanvasFrames_2 : ∃ (dt k : Nat) (s : State),
    (s.tick dt).toOpen k = none :=
  ⟨0, 0, {}, by decide⟩

theorem wit_CanvasFrames_3 : ∃ (dt k : Nat) (r : FrameRec) (c : Canvas) (s : State),
    s.render.frames.find? (fun r => r.hasCanvas k && (r.view.sliceMode k).isNone && (r.win k).openAt.isSome && !(r.win k).closed && decide (r.canvasEnd k ≤ (s.tick dt).tb)) = some r ∧
    r.view.canvas.canvases.find k = some c :=
  ⟨1, 0, { grid := ⟨1, 0, 1000, 0, 0, 0, 0⟩, epoch := 0, rate := 3, view := { canvas := { canvases := [(0, ⟨0, 1, 64, 64, 0, 100, 100, 0⟩)] } }, canvases := [(0, { openAt := some 0 })] }, ⟨0, 1, 64, 64, 0, 100, 100, 0⟩, { render := { frames := [{ grid := ⟨1, 0, 1000, 0, 0, 0, 0⟩, epoch := 0, rate := 3, view := { canvas := { canvases := [(0, ⟨0, 1, 64, 64, 0, 100, 100, 0⟩)] } }, canvases := [(0, { openAt := some 0 })] }] } }, by decide, by decide⟩

theorem wit_CanvasFrames_4 : ∃ (dt k : Nat) (s : State),
    s.render.frames.find? (fun r => r.hasCanvas k && (r.view.sliceMode k).isNone && (r.win k).openAt.isSome && !(r.win k).closed && decide (r.canvasEnd k ≤ (s.tick dt).tb)) = none :=
  ⟨0, 0, {}, by decide⟩

theorem wit_CanvasFrames_5 : ∃ (dt k j : Nat) (r : FrameRec) (c : Canvas) (x : Instant) (s : State),
    s.render.frames.find? (fun r => r.hasCanvas k && (r.view.sliceMode k).isSome && !(r.win k).closed && !((r.win k).slices.find j).elim false (·.closed)) = some r ∧
    r.view.canvas.canvases.find k = some c ∧
    (r.view.sliceMode k).isSome = true ∧
    (r.win k).openAt = some x ∧
    j < 8 ∧
    (match (r.win k).slices.find j with | some w => w.openAt + ceilDiv r.grid.period 10 | none => x + r.grid.period) ≤ (s.tick dt).tb :=
  ⟨1, 0, 0, { grid := ⟨1, 0, 1000, 0, 0, 0, 0⟩, epoch := 0, rate := 3, view := { canvas := { canvases := [(0, ⟨0, 1, 64, 64, 0, 100, 100, 0⟩)], slices := [(0, ⟨true, 0, []⟩)] } }, canvases := [(0, { openAt := some 0 })] }, ⟨0, 1, 64, 64, 0, 100, 100, 0⟩, 0, { render := { frames := [{ grid := ⟨1, 0, 1000, 0, 0, 0, 0⟩, epoch := 0, rate := 3, view := { canvas := { canvases := [(0, ⟨0, 1, 64, 64, 0, 100, 100, 0⟩)], slices := [(0, ⟨true, 0, []⟩)] } }, canvases := [(0, { openAt := some 0 })] }] } }, by decide, by decide, by decide, by decide, by decide, by decide⟩

theorem wit_CanvasFrames_6 : ∃ (dt k : Nat) (r : FrameRec) (c : Canvas) (g : Instant) (s : State),
    (s.tick dt).gapDue k = some (r, c, g) :=
  ⟨1, 0, { grid := ⟨1, 0, 1000, 0, 0, 0, 0⟩, epoch := 0, rate := 3, view := { canvas := { canvases := [(0, ⟨0, 1, 64, 64, 0, 100, 100, 0⟩)] } } }, ⟨0, 1, 64, 64, 0, 100, 100, 0⟩, 900, { render := { frames := [{ grid := ⟨1, 0, 1000, 0, 0, 0, 0⟩, epoch := 0, rate := 3, view := { canvas := { canvases := [(0, ⟨0, 1, 64, 64, 0, 100, 100, 0⟩)] } } }] }, clock := { run := true } }, by decide⟩

theorem wit_CanvasFrames_7 : ∃ (dt k : Nat) (s : State),
    (s.tick dt).gapDue k = none :=
  ⟨0, 0, {}, by decide⟩

theorem wit_CanvasFrames_8 : ∃ (dt k : Nat) (r : FrameRec) (c : Canvas) (x : Instant) (s : State),
    (s.tick dt).scanDue k = some (r, c, x) :=
  ⟨0, 0, { grid := ⟨1, 0, 1000, 0, 0, 0, 0⟩, epoch := 0, rate := 3, view := { canvas := { canvases := [(0, ⟨0, 1, 64, 64, 0, 100, 100, 0⟩)] } }, canvases := [(0, { gapDone := true })] }, ⟨0, 1, 64, 64, 0, 100, 100, 0⟩, 1000, { render := { frames := [{ grid := ⟨1, 0, 1000, 0, 0, 0, 0⟩, epoch := 0, rate := 3, view := { canvas := { canvases := [(0, ⟨0, 1, 64, 64, 0, 100, 100, 0⟩)] } }, canvases := [(0, { gapDone := true })] }] } }, by decide⟩

theorem wit_CanvasFrames_9 : ∃ (dt k : Nat) (u : State) (r : FrameRec) (c : Canvas) (x : Instant) (l : Nat) (g : LaneSegs) (s : State),
    (s.tick dt).scanDue k = some (r, c, x) ∧
    u = ((s.tick dt).setFrame (r.setWin k { r.win k with scanDone := true })).setCanvas k { s.canvas k with
        scanFrame := some r.n
        expects := (if s.enabled 8 k then [r.expectOf k c x] else []) ++ (s.canvas k).expects.filter fun e => (s.tick dt).tb - 2 * usUnits 1000000 < e.at_ } ∧
    r.view.lanesOf k = [(l, g)] ∧
    u.carries k l = true ∧
    u.laneOvertaken r k c x l = false ∧
    (u.lane l).sendEnd.elim false (fun y => decide (u.tb < y)) = false :=
  ⟨0, 0, _, { grid := ⟨1, 0, 1000, 0, 0, 0, 0⟩, epoch := 0, rate := 3, view := { canvas := { canvases := [(0, ⟨0, 1, 64, 64, 0, 100, 100, 0⟩)], segments := [(0, ⟨0, false, 0, [⟨0, 0, 4, 4⟩]⟩)] } }, canvases := [(0, { gapDone := true })] }, ⟨0, 1, 64, 64, 0, 100, 100, 0⟩, 1000, 0, ⟨0, false, 0, [⟨0, 0, 4, 4⟩]⟩, { render := { frames := [{ grid := ⟨1, 0, 1000, 0, 0, 0, 0⟩, epoch := 0, rate := 3, view := { canvas := { canvases := [(0, ⟨0, 1, 64, 64, 0, 100, 100, 0⟩)], segments := [(0, ⟨0, false, 0, [⟨0, 0, 4, 4⟩]⟩)] } }, canvases := [(0, { gapDone := true })] }] }, ports := { lanes := [(0, { link := .up })] }, fns := [(0x30000, { state := .enabled }), (0x80000, { state := .enabled })] }, by decide, rfl, by decide, by decide, by decide, by decide⟩

theorem wit_CanvasFrames_10 : ∃ (dt k : Nat) (s : State),
    (s.tick dt).scanDue k = none :=
  ⟨0, 0, {}, by decide⟩

theorem wit_TasksAreGrantedAndComplete_1 : ∃ (dt : Nat) (t : Task) (s : State),
    t.plain = true ∧
    (s.tick dt).taskMet t = true ∧
    s.render.ready.length < readyMax :=
  ⟨0, { kind := .phase1, frame := 1, index := 0 }, { render := { frames := [{ grid := ⟨1, 0, 1000, 0, 0, 0, 0⟩, epoch := 0, rate := 3, view := { patch := { profiles := [(1, [1, 0])], patch := [(5, ⟨1, 0, 0, 0, 0, 0, 0, 0⟩)], pool := [(5, [0])] } }, sealed := true }] } }, by decide, by decide, by decide⟩

theorem wit_TasksAreGrantedAndComplete_2 : ∃ (dt : Nat) (t : Task) (s : State),
    (t.plain = false ∨ (s.tick dt).taskMet t = false) :=
  ⟨0, { kind := .phase1, frame := 1, index := 0 }, {}, by decide⟩

theorem wit_TasksAreGrantedAndComplete_3 : ∃ (dt : Nat) (t : Task) (s : State),
    t.plain = true ∧
    (s.tick dt).taskMet t = true ∧
    readyMax ≤ s.render.ready.length ∧
    s.render.stalledAt = none :=
  ⟨0, { kind := .phase1, frame := 1, index := 0 }, { render := { frames := [{ grid := ⟨1, 0, 1000, 0, 0, 0, 0⟩, epoch := 0, rate := 3, view := { patch := { profiles := [(1, [1, 0])], patch := [(5, ⟨1, 0, 0, 0, 0, 0, 0, 0⟩)], pool := [(5, [0])] } }, sealed := true }], ready := List.replicate 4096 ⟨{ kind := .packet, frame := 1, index := 0 }, none⟩ } }, by decide +kernel, by decide +kernel, by decide +kernel, by decide +kernel⟩

theorem wit_TasksAreGrantedAndComplete_4 : ∃ (dt c : Nat) (x : Ready) (s : State),
    (s.tick dt).asking = [c] ∧
    (s.tick dt).bestReady c = some x :=
  ⟨0, 3, ⟨{ kind := .phase1, frame := 1, index := 0 }, none⟩, { render := { frames := [{ grid := ⟨1, 0, 1000, 0, 0, 0, 0⟩, epoch := 0, rate := 3, view := {  } }], ready := [⟨{ kind := .phase1, frame := 1, index := 0 }, none⟩] }, fns := [(0x90003, { state := .enabled })] }, by decide, by decide⟩

theorem wit_TasksAreGrantedAndComplete_6 : ∃ (cluster : Nat) (s : State),
    s.render.held.find? (·.cluster == cluster) = none :=
  ⟨0, {}, by decide⟩

theorem wit_TasksAreGrantedAndComplete_7 : ∃ (cluster : Nat) (h : Held) (r : FrameRec) (s : State),
    s.render.held.find? (·.cluster == cluster) = some h ∧
    s.frame h.task.frame = some r ∧
    r.mainClosed = false ∧
    h.task.kind = .packet :=
  ⟨3, ⟨3, { kind := .packet, frame := 1, index := 0 }, false⟩, { grid := ⟨1, 0, 1000, 0, 0, 0, 0⟩, epoch := 0, rate := 3, view := {  } }, { render := { frames := [{ grid := ⟨1, 0, 1000, 0, 0, 0, 0⟩, epoch := 0, rate := 3, view := {  } }], held := [⟨3, { kind := .packet, frame := 1, index := 0 }, false⟩] } }, by decide, by decide, by decide, by decide⟩

theorem wit_TasksAreGrantedAndComplete_8 : ∃ (cluster : Nat) (h : Held) (r : FrameRec) (s : State),
    s.render.held.find? (·.cluster == cluster) = some h ∧
    s.frame h.task.frame = some r ∧
    r.mainClosed = false ∧
    h.task.kind = .phase1 :=
  ⟨3, ⟨3, { kind := .phase1, frame := 1, index := 0 }, false⟩, { grid := ⟨1, 0, 1000, 0, 0, 0, 0⟩, epoch := 0, rate := 3, view := {  } }, { render := { frames := [{ grid := ⟨1, 0, 1000, 0, 0, 0, 0⟩, epoch := 0, rate := 3, view := {  } }], held := [⟨3, { kind := .phase1, frame := 1, index := 0 }, false⟩] } }, by decide, by decide, by decide, by decide⟩

theorem wit_TasksAreGrantedAndComplete_9 : ∃ (cluster : Nat) (h : Held) (r : FrameRec) (s : State),
    s.render.held.find? (·.cluster == cluster) = some h ∧
    s.frame h.task.frame = some r ∧
    r.mainClosed = false ∧
    h.task.kind = .phase2 :=
  ⟨3, ⟨3, { kind := .phase2, frame := 1, index := 0 }, false⟩, { grid := ⟨1, 0, 1000, 0, 0, 0, 0⟩, epoch := 0, rate := 3, view := {  } }, { render := { frames := [{ grid := ⟨1, 0, 1000, 0, 0, 0, 0⟩, epoch := 0, rate := 3, view := {  } }], held := [⟨3, { kind := .phase2, frame := 1, index := 0 }, false⟩] } }, by decide, by decide, by decide, by decide⟩

theorem wit_TasksAreGrantedAndComplete_10 : ∃ (cluster : Nat) (h : Held) (r : FrameRec) (s : State),
    s.render.held.find? (·.cluster == cluster) = some h ∧
    s.frame h.task.frame = some r ∧
    r.takes h.task = false :=
  ⟨3, ⟨3, { kind := .packet, frame := 1, index := 0 }, false⟩, { grid := ⟨1, 0, 1000, 0, 0, 0, 0⟩, epoch := 0, rate := 3, view := {  }, mainClosed := true }, { render := { frames := [{ grid := ⟨1, 0, 1000, 0, 0, 0, 0⟩, epoch := 0, rate := 3, view := {  }, mainClosed := true }], held := [⟨3, { kind := .packet, frame := 1, index := 0 }, false⟩] } }, by decide, by decide, by decide⟩

theorem wit_TasksAreGrantedAndComplete_11 : ∃ (cluster : Nat) (h : Held) (r : FrameRec) (s : State),
    s.render.held.find? (·.cluster == cluster) = some h ∧
    s.frame h.task.frame = some r ∧
    r.takes h.task = true ∧
    h.again = false :=
  ⟨3, ⟨3, { kind := .packet, frame := 1, index := 0 }, false⟩, { grid := ⟨1, 0, 1000, 0, 0, 0, 0⟩, epoch := 0, rate := 3, view := {  } }, { render := { frames := [{ grid := ⟨1, 0, 1000, 0, 0, 0, 0⟩, epoch := 0, rate := 3, view := {  } }], held := [⟨3, { kind := .packet, frame := 1, index := 0 }, false⟩] } }, by decide, by decide, by decide, by decide⟩

theorem wit_TasksAreGrantedAndComplete_12 : ∃ (dt : Nat) (r : FrameRec) (s : State),
    (s.tick dt).toDecide = some r :=
  ⟨0, { grid := ⟨1, 0, 1000, 0, 0, 0, 0⟩, epoch := 0, rate := 3, view := {  }, sealed := true }, { render := { frames := [{ grid := ⟨1, 0, 1000, 0, 0, 0, 0⟩, epoch := 0, rate := 3, view := {  }, sealed := true }] } }, by decide⟩

theorem wit_TasksAreGrantedAndComplete_13 : ∃ (dt : Nat) (s : State),
    (s.tick dt).toDecide = none :=
  ⟨0, {}, by decide⟩

theorem wit_OutputsEmit_1 : ∃ (dt number frame : Nat) (r : FrameRec) (s : State),
    s.frame frame = some r ∧
    r.mainClosed = true ∧
    number < 16 ∧
    (r.settled.contains (outKey 1 number)) = false ∧
    (s.tick dt).tickReached (r.instantOf 1 number) = true ∧
    (s.tick dt).overtaken r 1 number = false ∧
    (r.view.ports.dmx.getD number {}).input = false ∧
    (s.txn.view.ports.dmx.getD number {}).input = false ∧
    s.enabled 4 number = true ∧
    (s.tick dt).emits = true ∧
    ((s.tick dt).dmxPort number).busy (s.tick dt).tb = false :=
  ⟨0, 5, 1, { grid := ⟨1, 0, 1000, 0, 0, 0, 0⟩, epoch := 0, rate := 3, view := {  }, mainClosed := true }, { render := { frames := [{ grid := ⟨1, 0, 1000, 0, 0, 0, 0⟩, epoch := 0, rate := 3, view := {  }, mainClosed := true }] }, fns := [(0x40005, { state := .enabled })] }, by decide, by decide, by decide, by decide, by decide, by decide, by decide, by decide, by decide, by decide, by decide⟩

theorem wit_OutputsEmit_2 : ∃ (dt number frame : Nat) (poison : Bool) (r : FrameRec) (s : State),
    s.frame frame = some r ∧
    r.mainClosed = true ∧
    number < 16 ∧
    (r.settled.contains (outKey 1 number)) = false ∧
    (s.tick dt).tickReached (r.instantOf 1 number) = true ∧
    (s.tick dt).overtaken r 1 number = false ∧
    (r.view.ports.dmx.getD number {}).input = false ∧
    (s.txn.view.ports.dmx.getD number {}).input = false ∧
    s.enabled 4 number = true ∧
    (s.tick dt).emits = true ∧
    (((s.tick dt).dmxPort number).busy (s.tick dt).tb = true ∨ poison = true) :=
  ⟨0, 5, 1, true, { grid := ⟨1, 0, 1000, 0, 0, 0, 0⟩, epoch := 0, rate := 3, view := {  }, mainClosed := true }, { render := { frames := [{ grid := ⟨1, 0, 1000, 0, 0, 0, 0⟩, epoch := 0, rate := 3, view := {  }, mainClosed := true }] }, fns := [(0x40005, { state := .enabled })] }, by decide, by decide, by decide, by decide, by decide, by decide, by decide, by decide, by decide, by decide, by decide⟩

theorem wit_OutputsEmit_3 : ∃ (dt number frame : Nat) (r : FrameRec) (s : State),
    s.frame frame = some r ∧
    r.mainClosed = true ∧
    number < 32 ∧
    (r.settled.contains (outKey 2 number)) = false ∧
    (s.tick dt).tickReached (r.instantOf 2 number) = true ∧
    (s.tick dt).overtaken r 2 number = false ∧
    s.enabled 5 number = true ∧
    (s.tick dt).emits = true :=
  ⟨0, 5, 1, { grid := ⟨1, 0, 1000, 0, 0, 0, 0⟩, epoch := 0, rate := 3, view := {  }, mainClosed := true }, { render := { frames := [{ grid := ⟨1, 0, 1000, 0, 0, 0, 0⟩, epoch := 0, rate := 3, view := {  }, mainClosed := true }] }, fns := [(0x50005, { state := .enabled })] }, by decide, by decide, by decide, by decide, by decide, by decide, by decide, by decide⟩

theorem wit_OutputsEmit_4 : ∃ (dt number frame : Nat) (r : FrameRec) (s : State),
    s.frame frame = some r ∧
    r.mainClosed = true ∧
    1 ≤ number ∧
    number ≤ 63999 ∧
    r.tx.terms = [] ∧
    (r.settled.contains (outKey 0 number)) = false ∧
    r.emitsOn 0 number = true ∧
    (s.tick dt).tickReached (r.instantOf 0 number) = true ∧
    (s.tick dt).overtaken r 0 number = false ∧
    (s.tick dt).emits = true :=
  ⟨0, 7, 1, { grid := ⟨1, 0, 1000, 0, 0, 0, 0⟩, epoch := 0, rate := 3, view := { net := { config := bytesLE 16 1 ++ zeros 0x48, universes := [(7, bytesLE 2 7 ++ [5, 1] ++ bytesLE 2 240 ++ [100, 0] ++ bytesLE 2 0 ++ bytesLE 2 512 ++ zeros 4)] } }, mainClosed := true }, { render := { frames := [{ grid := ⟨1, 0, 1000, 0, 0, 0, 0⟩, epoch := 0, rate := 3, view := { net := { config := bytesLE 16 1 ++ zeros 0x48, universes := [(7, bytesLE 2 7 ++ [5, 1] ++ bytesLE 2 240 ++ [100, 0] ++ bytesLE 2 0 ++ bytesLE 2 512 ++ zeros 4)] } }, mainClosed := true }] } }, by decide, by decide, by decide, by decide, by decide, by decide, by decide, by decide, by decide, by decide⟩

theorem wit_OutputsEmit_5 : ∃ (dt kind number frame : Nat) (r : FrameRec) (s : State),
    s.frame frame = some r ∧
    r.mainClosed = true ∧
    (kind = 1 ∨ kind = 2) ∧
    outExists kind number = true ∧
    (r.settled.contains (outKey kind number)) = false ∧
    r.emitsOn kind number = true ∧
    (s.tick dt).tickReached (r.instantOf kind number) = true ∧
    (s.tick dt).overtaken r kind number = true ∧
    (s.tick dt).emits = true :=
  ⟨0, 1, 5, 1, { grid := ⟨1, 0, 1000, 0, 0, 0, 0⟩, epoch := 0, rate := 3, view := {  }, mainClosed := true }, { render := { frames := [{ grid := ⟨1, 0, 1000, 0, 0, 0, 0⟩, epoch := 0, rate := 3, view := {  }, mainClosed := true }, { grid := ⟨2, 0, 1000, 0, 0, 0, 0⟩, epoch := 0, rate := 3, view := {  } }] } }, by decide, by decide, by decide, by decide, by decide, by decide, by decide, by decide, by decide⟩

theorem wit_OutputsEmit_6 : ∃ (dt number frame : Nat) (r : FrameRec) (s : State),
    s.frame frame = some r ∧
    r.mainClosed = true ∧
    number < 65536 ∧
    (r.settled.contains (outKey 4 number)) = false ∧
    r.emitsOn 4 number = true ∧
    (s.tick dt).tickReached (r.instantOf 4 number) = true ∧
    (s.tick dt).overtaken r 4 number = true ∧
    (s.tick dt).emits = true :=
  ⟨0, 9, 1, { grid := ⟨1, 0, 1000, 0, 0, 0, 0⟩, epoch := 0, rate := 3, view := { net := { config := bytesLE 16 1 ++ zeros 0x48, universes := [(7, bytesLE 2 7 ++ [5, 1] ++ bytesLE 2 240 ++ [100, 0] ++ bytesLE 2 9 ++ bytesLE 2 512 ++ zeros 4)] } }, mainClosed := true }, { render := { frames := [{ grid := ⟨1, 0, 1000, 0, 0, 0, 0⟩, epoch := 0, rate := 3, view := { net := { config := bytesLE 16 1 ++ zeros 0x48, universes := [(7, bytesLE 2 7 ++ [5, 1] ++ bytesLE 2 240 ++ [100, 0] ++ bytesLE 2 9 ++ bytesLE 2 512 ++ zeros 4)] } }, mainClosed := true }, { grid := ⟨2, 0, 1000, 0, 0, 0, 0⟩, epoch := 0, rate := 3, view := { net := { config := bytesLE 16 1 ++ zeros 0x48, universes := [(7, bytesLE 2 7 ++ [5, 1] ++ bytesLE 2 240 ++ [100, 0] ++ bytesLE 2 9 ++ bytesLE 2 512 ++ zeros 4)] } } }] } }, by decide, by decide, by decide, by decide, by decide, by decide, by decide, by decide⟩

theorem wit_OutputsEmit_7 : ∃ (frame : Nat) (s : State),
    (s.frame frame = none ∨ (∃ r, s.frame frame = some r ∧ r.mainClosed = false)) :=
  ⟨0, {}, Or.inl rfl⟩

theorem wit_OutputsEmit_8 : ∃ (dt rate : Nat) (x : Int) (a : DueAct) (s : State),
    s.clock.run = true ∧
    s.render.voids = [] ∧
    rate = (s.tick dt).clock.rateOf ((s.tick dt).openFrame - 1) ∧
    x = min ((s.tick dt).pos : Int) (beforeFrame (s.tick dt).openFrame) ∧
    s.render.dyn.first = some a ∧
    a.pos ≤ x ∧
    (DynState.act s.txn.view.patch s.txn.view.cues rate s.render.dyn a).1.first = none :=
  ⟨0, 0, 0, ⟨0, false, 0, ⟨0, 1, 0, 3, 0, 0, 0, 0⟩⟩, ({ clock := { run := true, nextLatch := 1 }, render := { dyn := { pending := [⟨⟨0, 1, 0, 3, 0, 0, 0, 0⟩, some 0, 0, 0⟩] } } } : State), by decide, by decide, by decide, by decide, by decide, by decide, by decide⟩

theorem wit_OutputsEmit_9 : ∃ (s : State),
    s.clock.run = true :=
  ⟨{ clock := { run := true } }, by decide⟩

theorem wit_OutputsEmit_10 : ∃ (dt : Nat) (s : State),
    (s.clock.run = false ∨ (s.render.voids = [] ∧ (s.render.dyn.first = none ∨ (∀ a, s.render.dyn.first = some a → ((s.tick dt).pos : Int) < a.pos)))) :=
  ⟨0, {}, Or.inl rfl⟩

theorem wit_LiveValuesAndSacn_1 : ∃ (dt m : Nat) (s t : State) (e : ExecReq) (c : Ctx) (p : Bytes),
    Running liveWriteSpec m dt s e c t p ∧
    (applyLive t.inputs.live p t.tb).length ≤ 1048576 :=
  ⟨0, 0, (wst (wreq 0x0520 0 (bytesLE 4 2 ++ bytesLE 4 1 ++ bytesLE 4 640 ++ bytesLE 4 7)) : State), _, { mbx := 0, req := (wreq 0x0520 0 (bytesLE 4 2 ++ bytesLE 4 1 ++ bytesLE 4 640 ++ bytesLE 4 7)), dbPos := 0, role := 2, poison := false }, _, _, ⟨rfl, by decide, rfl, rfl, rfl, rfl, by decide, by decide⟩, by decide⟩

theorem wit_LiveValuesAndSacn_3 : ∃ (dt : Nat) (packet : SacnData) (d : RxDef) (s : State),
    s.txn.view.inputs.sacn.find packet.uni = some d ∧
    (s.tick dt).sacnPortOk d packet.port packet.unicast packet.v6 = true ∧
    packet.preview = false ∧
    packet.props.head? = some 0 ∧
    packet.priority ≤ 200 ∧
    packet.props.length ≤ 513 ∧
    packet.terminated = false ∧
    (∀ x, (s.inputs.sacn.getD packet.uni {}).source packet.cid = some x → seqFails x.seq packet.seq = false) ∧
    (packet.sync = 0 ∨ packet.sync ≠ d.sync) ∧
    (((s.inputs.sacn.getD packet.uni {}).source packet.cid).isSome = true ∨ (s.inputs.sacn.getD packet.uni {}).sources.length < 4) :=
  ⟨0, { port := 0, uni := 7, cid := 9, seq := 1, priority := 100, props := [0, 5] }, ⟨2, true, true, false, 1, 0, []⟩, { fns := [(0x10000, { state := .enabled })], txn := { view := { inputs := { sacn := [(7, ⟨2, true, true, false, 1, 0, []⟩)] } } }, inputs := {  }  }, by decide, by decide, by decide, by decide, by decide, by decide, by decide, (fun x h => by cases h), by decide, by decide⟩

theorem wit_LiveValuesAndSacn_4 : ∃ (dt : Nat) (packet : SacnData) (d : RxDef) (s : State),
    s.txn.view.inputs.sacn.find packet.uni = some d ∧
    (s.tick dt).sacnPortOk d packet.port packet.unicast packet.v6 = true ∧
    packet.preview = false ∧
    packet.props.head? = some 0 ∧
    packet.priority ≤ 200 ∧
    packet.props.length ≤ 513 ∧
    packet.terminated = false ∧
    (∀ x, (s.inputs.sacn.getD packet.uni {}).source packet.cid = some x → seqFails x.seq packet.seq = false) ∧
    packet.sync ≠ 0 ∧
    packet.sync = d.sync ∧
    s.inputs.syncLost packet.sync = false ∧
    (((s.inputs.sacn.getD packet.uni {}).source packet.cid).isSome = true ∨ (s.inputs.sacn.getD packet.uni {}).sources.length < 4) :=
  ⟨0, { port := 0, uni := 7, cid := 9, seq := 1, priority := 100, sync := 3, props := [0, 5] }, ⟨2, true, true, false, 1, 3, []⟩, { fns := [(0x10000, { state := .enabled })], txn := { view := { inputs := { sacn := [(7, ⟨2, true, true, false, 1, 3, []⟩)] } } }, inputs := {  }  }, by decide, by decide, by decide, by decide, by decide, by decide, by decide, (fun x h => by cases h), by decide, by decide, by decide, by decide⟩

theorem wit_LiveValuesAndSacn_5 : ∃ (dt : Nat) (packet : SacnData) (d : RxDef) (s : State),
    s.txn.view.inputs.sacn.find packet.uni = some d ∧
    (s.tick dt).sacnPortOk d packet.port packet.unicast packet.v6 = true ∧
    (packet.preview = true ∨ packet.props.head? ≠ some 0 ∨ 200 < packet.priority ∨ 513 < packet.props.length) :=
  ⟨0, { port := 0, uni := 7, cid := 9, seq := 1, priority := 100, preview := true, props := [0, 5] }, ⟨2, true, true, false, 1, 0, []⟩, { fns := [(0x10000, { state := .enabled })], txn := { view := { inputs := { sacn := [(7, ⟨2, true, true, false, 1, 0, []⟩)] } } }, inputs := {  }  }, by decide, by decide, by decide⟩

theorem wit_LiveValuesAndSacn_6 : ∃ (dt : Nat) (packet : SacnData) (d : RxDef) (s : State),
    s.txn.view.inputs.sacn.find packet.uni = some d ∧
    (s.tick dt).sacnPortOk d packet.port packet.unicast packet.v6 = true ∧
    packet.preview = false ∧
    packet.props.head? = some 0 ∧
    packet.priority ≤ 200 ∧
    packet.props.length ≤ 513 ∧
    (s.inputs.sacn.getD packet.uni {}).source packet.cid = none ∧
    4 ≤ (s.inputs.sacn.getD packet.uni {}).sources.length :=
  ⟨0, { port := 0, uni := 7, cid := 9, seq := 1, priority := 100, props := [0, 5] }, ⟨2, true, true, false, 1, 0, []⟩, { fns := [(0x10000, { state := .enabled })], txn := { view := { inputs := { sacn := [(7, ⟨2, true, true, false, 1, 0, []⟩)] } } }, inputs := { sacn := [(7, { sources := [⟨1, 1, 100, [], true, 0, none, 0, false⟩, ⟨2, 1, 100, [], true, 0, none, 0, false⟩, ⟨3, 1, 100, [], true, 0, none, 0, false⟩, ⟨4, 1, 100, [], true, 0, none, 0, false⟩] })] }  }, by decide, by decide, by decide, by decide, by decide, by decide, by decide, by decide⟩

theorem wit_LiveValuesAndSacn_7 : ∃ (packet : SacnData) (s : State),
    s.txn.view.inputs.sacn.find packet.uni = none :=
  ⟨{ port := 0, uni := 7, cid := 9, seq := 1, priority := 100, props := [0, 5] }, {}, by decide⟩

theorem wit_LiveValuesAndSacn_8 : ∃ (dt port : Nat) (packet : Machine.SacnSync) (s : State),
    packet.addr ≠ 0 ∧
    (s.txn.view.inputs.sacn.any fun e => e.2.sync == packet.addr && (s.tick dt).sacnPortOk e.2 port packet.unicast packet.v6) = true :=
  ⟨0, 0, { addr := 3 }, { fns := [(0x10000, { state := .enabled })], txn := { view := { inputs := { sacn := [(7, ⟨2, true, true, false, 1, 3, []⟩)] } } }, inputs := {  }  }, by decide, by decide⟩

theorem wit_LiveValuesAndSacn_9 : ∃ (dt port : Nat) (packet : Machine.SacnSync) (s : State),
    (packet.addr = 0 ∨ (s.txn.view.inputs.sacn.any fun e => e.2.sync == packet.addr && (s.tick dt).sacnPortOk e.2 port packet.unicast packet.v6) = false) :=
  ⟨0, 0, { addr := 3 }, {}, by decide⟩

theorem wit_LiveValuesAndSacn_10 : ∃ (d : RxDyn) (addr cid : Nat) (z : RxSource) (h : HeldPacket),
    d.source cid = some z ∧
    z.held = some h ∧
    h.sync = addr :=
  ⟨{ sources := [⟨9, 1, 100, [], false, 0, some ⟨100, [], 3, false⟩, 3, false⟩] }, 3, 9, ⟨9, 1, 100, [], false, 0, some ⟨100, [], 3, false⟩, 3, false⟩, ⟨100, [], 3, false⟩, by decide, by decide, by decide⟩

theorem wit_LiveValuesAndSacn_11 : ∃ (dt uni cid : Nat) (x : RxSource) (s : State),
    (s.inputs.sacn.getD uni {}).source cid = some x ∧
    x.lastAt + lossCycles ≤ (s.tick dt).now :=
  ⟨2000000000, 7, 9, ⟨9, 1, 100, [], true, 0, none, 0, false⟩, { fns := [(0x10000, { state := .enabled })], txn := { view := { inputs := { sacn := [(7, ⟨2, true, true, false, 1, 0, []⟩)] } } }, inputs := { sacn := [(7, { sources := [⟨9, 1, 100, [], true, 0, none, 0, false⟩] })] }  }, by decide, by decide⟩

theorem wit_LiveValuesAndSacn_12 : ∃ (dt uni cid : Nat) (s : State),
    (∀ x, (s.inputs.sacn.getD uni {}).source cid = some x → (s.tick dt).now < x.lastAt + lossCycles) :=
  ⟨0, 0, 0, {}, fun x h => by cases h⟩

theorem wit_LiveValuesAndSacn_13 : ∃ (dt addr : Nat) (x : SyncDyn) (s : State),
    s.inputs.sync.find addr = some x ∧
    x.lost = false ∧
    x.lastAt + lossCycles ≤ (s.tick dt).now :=
  ⟨2000000000, 3, ⟨0, false⟩, { fns := [(0x10000, { state := .enabled })], txn := { view := { inputs := { sacn := [(7, ⟨2, true, true, false, 1, 0, []⟩)] } } }, inputs := { sync := [(3, ⟨0, false⟩)] }  }, by decide, by decide, by decide⟩

theorem wit_LiveValuesAndSacn_14 : ∃ (dt addr : Nat) (s : State),
    (∀ x, s.inputs.sync.find addr = some x → x.lost = true ∨ (s.tick dt).now < x.lastAt + lossCycles) :=
  ⟨0, 0, {}, fun x h => by cases h⟩

theorem wit_DmxAndVideoInputs_1 : ∃ (port start : Nat) (line : Machine.DmxLine) (s : State),
    88000 ≤ line.breakNs ∧
    8000 ≤ line.mabNs ∧
    245000 ≤ line.bitRate ∧
    line.bitRate ≤ 255000 ∧
    start = 0 ∧
    s.enabled 4 port = true ∧
    s.txn.view.inputs.dmxIn.has port = true ∧
    (s.txn.view.ports.dmx.getD port {}).input = true :=
  ⟨5, 0, { breakNs := 176000, mabNs := 12000, bitRate := 250000, framing := false }, { fns := [(0x40005, { state := .enabled })], txn := { view := { inputs := { dmxIn := [(5, ⟨2, true, false, false, 0, 0, []⟩)] }, ports := { dmx := [(5, ⟨true, 512, 100, 12, 0, 0⟩)] } } } }, by decide, by decide, by decide, by decide, by decide, by decide, by decide, by decide⟩

theorem wit_DmxAndVideoInputs_2 : ∃ (port start : Nat) (line : Machine.DmxLine) (s : State),
    88000 ≤ line.breakNs ∧
    8000 ≤ line.mabNs ∧
    245000 ≤ line.bitRate ∧
    line.bitRate ≤ 255000 ∧
    start ≠ 0 ∧
    s.enabled 4 port = true ∧
    s.txn.view.inputs.dmxIn.has port = true ∧
    (s.txn.view.ports.dmx.getD port {}).input = true :=
  ⟨5, 1, { breakNs := 176000, mabNs := 12000, bitRate := 250000, framing := false }, { fns := [(0x40005, { state := .enabled })], txn := { view := { inputs := { dmxIn := [(5, ⟨2, true, false, false, 0, 0, []⟩)] }, ports := { dmx := [(5, ⟨true, 512, 100, 12, 0, 0⟩)] } } } }, by decide, by decide, by decide, by decide, by decide, by decide, by decide, by decide⟩

theorem wit_DmxAndVideoInputs_3 : ∃ (port : Nat) (line : Machine.DmxLine) (s : State),
    (s.enabled 4 port = false ∨ line.breakNs < 88000 ∨ line.mabNs < 8000 ∨ line.bitRate < 245000 ∨ 255000 < line.bitRate) :=
  ⟨0, { breakNs := 176000, mabNs := 12000, bitRate := 250000, framing := false }, {}, by decide⟩

theorem wit_DmxAndVideoInputs_4 : ∃ (dt port : Nat) (s : State),
    s.dmxInOn port = true ∧
    (s.inputs.dmx.getD port {}).lost = false ∧
    (s.inputs.dmx.getD port {}).lastAt + dmxLossCycles ≤ (s.tick dt).now :=
  ⟨1000000000, 5, { fns := [(0x40005, { state := .enabled })], txn := { view := { inputs := { dmxIn := [(5, ⟨2, true, false, false, 0, 0, []⟩)] }, ports := { dmx := [(5, ⟨true, 512, 100, 12, 0, 0⟩)] } } } }, by decide, by decide, by decide⟩

theorem wit_DmxAndVideoInputs_5 : ∃ (dt port : Nat) (s : State),
    (s.dmxInOn port = false ∨ (s.inputs.dmx.getD port {}).lost = true ∨ (s.tick dt).now < (s.inputs.dmx.getD port {}).lastAt + dmxLossCycles) :=
  ⟨0, 0, {}, by decide⟩

theorem wit_DmxAndVideoInputs_6 : ∃ (dt input : Nat) (packet : VideoPacket) (cfg : Bytes) (f : VideoFrame) (s : State),
    (s.tick dt).videoTakes input packet = some cfg ∧
    packet.sampling = vidSampling cfg ∧
    packet.field = false ∧
    packet.segs.length ≤ 3 ∧
    packet.segs.all (segFits cfg) = true ∧
    ((s.tick dt).video input).dropping ≠ some packet.rtp ∧
    ((s.tick dt).video input).current = some f ∧
    f.rtp = packet.rtp ∧
    f.gap = false ∧
    (f.seq + 1) % 65536 = packet.seq % 65536 ∧
    packet.marker = true :=
  ⟨0, 0, { port := 0, group := zeros 16, udp := 0, payloadType := 0, seq := 1, marker := true, sampling := 2, segs := [] }, (bytesLE 2 0 ++ bytesLE 2 2 ++ bytesLE 2 0 ++ bytesLE 2 5 ++ bytesLE 2 1920 ++ bytesLE 2 1080 ++ zeros 52), { id := 0 }, { fns := [(0x70000, { state := .enabled }), (0x10000, { state := .enabled })], txn := { view := { inputs := { videoIn := [(0, (bytesLE 2 0 ++ bytesLE 2 2 ++ bytesLE 2 0 ++ bytesLE 2 5 ++ bytesLE 2 1920 ++ bytesLE 2 1080 ++ zeros 52))] } } }, inputs := { video := [(0, { current := some { id := 0 } })] } }, by decide, by decide, by decide, by decide, by decide, by decide, by decide, by decide, by decide, by decide, by decide⟩

theorem wit_DmxAndVideoInputs_7 : ∃ (dt input : Nat) (packet : VideoPacket) (cfg : Bytes) (f : VideoFrame) (s : State),
    (s.tick dt).videoTakes input packet = some cfg ∧
    packet.sampling = vidSampling cfg ∧
    packet.field = false ∧
    packet.segs.length ≤ 3 ∧
    packet.segs.all (segFits cfg) = true ∧
    ((s.tick dt).video input).dropping ≠ some packet.rtp ∧
    ((s.tick dt).video input).current = some f ∧
    f.rtp = packet.rtp ∧
    packet.marker = false :=
  ⟨0, 0, { port := 0, group := zeros 16, udp := 0, payloadType := 0, seq := 1, marker := false, sampling := 2, segs := [] }, (bytesLE 2 0 ++ bytesLE 2 2 ++ bytesLE 2 0 ++ bytesLE 2 5 ++ bytesLE 2 1920 ++ bytesLE 2 1080 ++ zeros 52), { id := 0 }, { fns := [(0x70000, { state := .enabled }), (0x10000, { state := .enabled })], txn := { view := { inputs := { videoIn := [(0, (bytesLE 2 0 ++ bytesLE 2 2 ++ bytesLE 2 0 ++ bytesLE 2 5 ++ bytesLE 2 1920 ++ bytesLE 2 1080 ++ zeros 52))] } } }, inputs := { video := [(0, { current := some { id := 0 } })] } }, by decide, by decide, by decide, by decide, by decide, by decide, by decide, by decide, by decide⟩

theorem wit_DmxAndVideoInputs_8 : ∃ (dt input : Nat) (packet : VideoPacket) (cfg : Bytes) (s : State),
    (s.tick dt).videoTakes input packet = some cfg ∧
    (packet.sampling ≠ vidSampling cfg ∨ packet.field = true ∨ 3 < packet.segs.length ∨ packet.segs.all (segFits cfg) = false) :=
  ⟨0, 0, { port := 0, group := zeros 16, udp := 0, payloadType := 0, seq := 1, marker := false, sampling := 1, segs := [] }, (bytesLE 2 0 ++ bytesLE 2 2 ++ bytesLE 2 0 ++ bytesLE 2 5 ++ bytesLE 2 1920 ++ bytesLE 2 1080 ++ zeros 52), { fns := [(0x70000, { state := .enabled }), (0x10000, { state := .enabled })], txn := { view := { inputs := { videoIn := [(0, (bytesLE 2 0 ++ bytesLE 2 2 ++ bytesLE 2 0 ++ bytesLE 2 5 ++ bytesLE 2 1920 ++ bytesLE 2 1080 ++ zeros 52))] } } }, inputs := { video := [(0, {})] } }, by decide, by decide⟩

theorem wit_DmxAndVideoInputs_9 : ∃ (dt input : Nat) (packet : VideoPacket) (s : State),
    (s.tick dt).videoTakes input packet = none :=
  ⟨0, 0, { port := 0, group := zeros 16, udp := 0, payloadType := 0, seq := 1, marker := false, sampling := 2, segs := [] }, {}, by decide⟩

theorem wit_DmxAndVideoInputs_10 : ∃ (dt input : Nat) (cfg : Bytes) (f : VideoFrame) (s : State),
    (s.tick dt).videoCfg input = some cfg ∧
    ((s.tick dt).video input).current = some f ∧
    f.firstAt + (s.tick dt).videoPeriod cfg + usUnits 1000 ≤ (s.tick dt).tb :=
  ⟨1000000000, 0, (bytesLE 2 0 ++ bytesLE 2 2 ++ bytesLE 2 0 ++ bytesLE 2 5 ++ bytesLE 2 1920 ++ bytesLE 2 1080 ++ zeros 52), { id := 0 }, { fns := [(0x70000, { state := .enabled }), (0x10000, { state := .enabled })], txn := { view := { inputs := { videoIn := [(0, (bytesLE 2 0 ++ bytesLE 2 2 ++ bytesLE 2 0 ++ bytesLE 2 5 ++ bytesLE 2 1920 ++ bytesLE 2 1080 ++ zeros 52))] } } }, inputs := { video := [(0, { current := some { id := 0 } })] } }, by decide, by decide, by decide⟩

theorem wit_DmxAndVideoInputs_11 : ∃ (dt input : Nat) (s : State),
    ((s.tick dt).videoCfg input = none ∨ ((s.tick dt).video input).current = none) :=
  ⟨0, 0, {}, by decide⟩

theorem wit_DmxAndVideoInputs_12 : ∃ (dt input : Nat) (cfg : Bytes) (s : State),
    (s.tick dt).videoCfg input = some cfg ∧
    ((s.tick dt).video input).lost = false ∧
    4 * (shortestPeriod (vidRate cfg) : Nat) ≤ ((s.tick dt).now - ((s.tick dt).video input).lastPacket) * 131072 :=
  ⟨1000000000, 0, (bytesLE 2 0 ++ bytesLE 2 2 ++ bytesLE 2 0 ++ bytesLE 2 5 ++ bytesLE 2 1920 ++ bytesLE 2 1080 ++ zeros 52), { fns := [(0x70000, { state := .enabled }), (0x10000, { state := .enabled })], txn := { view := { inputs := { videoIn := [(0, (bytesLE 2 0 ++ bytesLE 2 2 ++ bytesLE 2 0 ++ bytesLE 2 5 ++ bytesLE 2 1920 ++ bytesLE 2 1080 ++ zeros 52))] } } }, inputs := { video := [(0, { seen := true })] } }, by decide, by decide, by decide⟩

theorem wit_DmxAndVideoInputs_13 : ∃ (dt input : Nat) (s : State),
    ((s.tick dt).videoCfg input = none ∨ ((s.tick dt).video input).lost = true) :=
  ⟨0, 0, {}, by decide⟩

theorem wit_TearingEffectAndConfidenceOutput_1 : ∃ (dt m : Nat) (s t : State) (e : ExecReq) (c : Ctx) (p : Bytes),
    Running teSetSpec m dt s e c t p :=
  ⟨0, 0, (wst (wreq 0x0705 0 (bytesLE 8 0x010102)) : State), _, { mbx := 0, req := (wreq 0x0705 0 (bytesLE 8 0x010102)), dbPos := 0, role := 2, poison := false }, _, _, ⟨rfl, by decide, rfl, rfl, rfl, rfl, by decide, by decide⟩⟩

theorem wit_TearingEffectAndConfidenceOutput_2 : ∃ (dt m : Nat) (s t : State) (e : ExecReq) (c : Ctx) (p : Bytes),
    Running displaySetSpec m dt s e c t p ∧
    (∀ l, t.ports.display.link = some l → DisplayCfg.fits { mode := fld p 0 1, bpc := fld p 1 1, canvas := fld p 2 1, src := ⟨fld p 4 2, fld p 6 2, fld p 8 2, fld p 10 2⟩, dst := ⟨fld p 12 2, fld p 14 2, fld p 16 2, fld p 18 2⟩ } l = true) :=
  ⟨0, 0, (wst (wreq 0x0710 0 (bytesLE 4 0x0801 ++ zeros 20)) : State), _, { mbx := 0, req := (wreq 0x0710 0 (bytesLE 4 0x0801 ++ zeros 20)), dbPos := 0, role := 2, poison := false }, _, _, ⟨rfl, by decide, rfl, rfl, rfl, rfl, by decide, by decide⟩, by decide⟩

theorem wit_TearingEffectAndConfidenceOutput_3 : ∃ (dt input : Nat) (rising : Bool) (k : Nat) (e : LatchExpect) (s : State),
    s.enabled 0x10 input = true ∧
    (s.te input).canvas = some k ∧
    s.alive 8 k = true ∧
    (rising = true) = ((s.te input).edge = 1) ∧
    ((s.tick dt).expectsOf k).find? (fun e => decide (2 * (s.te input).distance (s.tick dt).tb e ≤ e.period)) = some e :=
  ⟨0, 2, true, 0, ⟨5, 0, 1000, 100⟩, { ports := { te := [(2, { canvas := some 0 })] }, fns := [(0x100002, { state := .enabled }), (0x80000, { state := .enabled })], render := { canvases := [(0, { expects := [⟨5, 0, 1000, 100⟩] })] } }, by decide, by decide, by decide, by simp [State.te, Map.getD, Map.find], by decide⟩

theorem wit_TearingEffectAndConfidenceOutput_4 : ∃ (input : Nat) (s : State),
    (s.enabled 0x10 input = false ∨ (s.te input).canvas = none ∨ (∃ k, (s.te input).canvas = some k ∧ s.alive 8 k = false)) :=
  ⟨0, {}, by decide⟩

theorem wit_TearingEffectAndConfidenceOutput_5 : ∃ (dt input k : Nat) (e : LatchExpect) (s : State),
    s.enabled 0x10 input = true ∧
    (s.te input).canvas = some k ∧
    s.alive 8 k = true ∧
    (s.tick dt).teDue input = some e :=
  ⟨10, 2, 0, ⟨5, 1000, 1000, 100⟩, { ports := { te := [(2, { canvas := some 0 })] }, fns := [(0x100002, { state := .enabled }), (0x80000, { state := .enabled })], render := { canvases := [(0, { expects := [⟨5, 1000, 1000, 100⟩] })] } }, by decide, by decide, by decide, by decide⟩

theorem wit_TearingEffectAndConfidenceOutput_6 : ∃ (dt input : Nat) (s : State),
    (s.enabled 0x10 input = false ∨ (s.tick dt).teDue input = none) :=
  ⟨0, 0, {}, by decide⟩

theorem wit_TearingEffectAndConfidenceOutput_7 : ∃ (present : Bool) (s : State),
    s.ports.display.hpd ≠ present ∧
    s.enabled 6 0 = true :=
  ⟨true, { ports := { display := {  } }, fns := [(0x60000, { state := .enabled })] }, by decide, by decide⟩

theorem wit_TearingEffectAndConfidenceOutput_8 : ∃ (present : Bool) (s : State),
    s.ports.display.hpd ≠ present ∧
    s.alive 6 0 = false :=
  ⟨true, {}, by decide, by decide⟩

theorem wit_TearingEffectAndConfidenceOutput_9 : ∃ (present : Bool) (s : State),
    s.ports.display.hpd = present :=
  ⟨false, {}, by decide⟩

theorem wit_TearingEffectAndConfidenceOutput_10 : ∃ (s : State),
    s.ports.display.hpd = true ∧
    s.ports.display.link.isSome = true ∧
    s.enabled 6 0 = true :=
  ⟨{ ports := { display := { hpd := true, link := some (3, 4) } }, fns := [(0x60000, { state := .enabled })] }, by decide, by decide, by decide⟩

theorem wit_TearingEffectAndConfidenceOutput_12 : ∃ (s : State),
    s.ports.display.training = true ∧
    s.enabled 6 0 = true :=
  ⟨{ ports := { display := { training := true } }, fns := [(0x60000, { state := .enabled })] }, by decide, by decide⟩

theorem wit_TearingEffectAndConfidenceOutput_13 : ∃ (l : Nat × Nat) (s : State),
    s.ports.display.training = true ∧
    s.enabled 6 0 = true ∧
    dpLinkOk (some l) = true ∧
    s.ports.display.stored.fits l = true ∧
    s.ports.display.stored.mode = s.ports.display.force.mode ∧
    s.ports.display.stored.bpc = s.ports.display.force.bpc :=
  ⟨(3, 4), { ports := { display := { training := true } }, fns := [(0x60000, { state := .enabled })] }, by decide, by decide, by decide, by decide, by decide, by decide⟩

theorem wit_TearingEffectAndConfidenceOutput_14 : ∃ (l : Nat × Nat) (s : State),
    s.ports.display.training = true ∧
    s.enabled 6 0 = true ∧
    dpLinkOk (some l) = true ∧
    .display ∉ s.update.serdes.tail ∧
    s.ports.display.stored.fits l = false :=
  ⟨(1, 1), { ports := { display := { training := true, stored := { mode := 12, bpc := 10 } } }, fns := [(0x60000, { state := .enabled })] }, by decide, by decide, by decide, by decide, by decide⟩

theorem wit_TearingEffectAndConfidenceOutput_15 : ∃ (s : State),
    (s.ports.display.training = false ∨ s.enabled 6 0 = false) :=
  ⟨{}, by decide⟩

theorem wit_TearingEffectAndConfidenceOutput_16 : ∃ (dt : Nat) (s : State),
    s.ports.display.failed = true ∧
    s.ports.display.hpd = true ∧
    s.ports.display.training = false ∧
    s.ports.display.failedAt + cycSec ≤ (s.tick dt).now ∧
    s.enabled 6 0 = true :=
  ⟨500000000, { ports := { display := { failed := true, hpd := true } }, fns := [(0x60000, { state := .enabled })] }, by decide, by decide, by decide, by decide, by decide⟩

theorem wit_TearingEffectAndConfidenceOutput_17 : ∃ (dt : Nat) (s : State),
    (s.ports.display.failed = false ∨ s.ports.display.hpd = false ∨ (s.tick dt).now < s.ports.display.failedAt + cycSec) :=
  ⟨0, {}, by decide⟩

theorem wit_TearingEffectAndConfidenceOutput_18 : ∃ (dt : Nat) (s : State),
    (s.tick dt).displaySends = true ∧
    s.ports.display.changed = false :=
  ⟨0, { ports := { display := { link := some (3, 4) } }, fns := [(0x60000, { state := .enabled })] }, by decide, by decide⟩

theorem wit_TearingEffectAndConfidenceOutput_19 : ∃ (dt : Nat) (s : State),
    (s.tick dt).displaySends = true ∧
    s.ports.display.changed = true :=
  ⟨0, { ports := { display := { link := some (3, 4), changed := true, stored := { mode := 2 } } }, fns := [(0x60000, { state := .enabled })] }, by decide, by decide⟩

theorem wit_TearingEffectAndConfidenceOutput_20 : ∃ (dt : Nat) (s : State),
    (s.tick dt).displaySends = false :=
  ⟨0, {}, by decide⟩

theorem wit_TearingEffectAndConfidenceOutput_21 : ∃ (dt : Nat) (m : Nat × Nat × Nat) (s : State),
    (s.tick dt).displaySends = true ∧
    dpMode s.ports.display.force.mode = some m ∧
    s.ports.display.line < m.2.1 :=
  ⟨0, (640, 480, 25175), { ports := { display := { link := some (3, 4) } }, fns := [(0x60000, { state := .enabled })] }, by decide, by decide, by decide⟩

theorem wit_TearingEffectAndConfidenceOutput_22 : ∃ (dt : Nat) (s : State),
    (s.tick dt).displaySends = false :=
  ⟨0, {}, by decide⟩

theorem wit_TearingEffectAndConfidenceOutput_24 : ∃ (s : State),
    s.ports.display.pllLost = true :=
  ⟨{ ports := { display := { pllLost := true } }, fns := [(0x60000, { state := .enabled })] }, by decide⟩

theorem wit_TearingEffectAndConfidenceOutput_25 : ∃ (s : State),
    s.ports.display.pllLost = false :=
  ⟨{}, by decide⟩

theorem wit_LaneLinksAndBackChannel_1 : ∃ (dt lane : Nat) (u s : State),
    u = (s.tick dt).setLane lane { ((s.tick dt).lane lane) with link := .up, since := (s.tick dt).now, failRaised := false } ∧
    ((s.tick dt).lane lane).link = .training ∧
    ((s.tick dt).lane lane).since + (if ((s.tick dt).lane lane).phy.backchannel then 20 * cycUs else 100 * cycUs) ≤ (s.tick dt).now :=
  ⟨10000, 0, _, { ports := { lanes := [(0, { link := .training })] } }, rfl, by decide, by decide⟩

theorem wit_LaneLinksAndBackChannel_2 : ∃ (dt lane : Nat) (s : State),
    (((s.tick dt).lane lane).link ≠ .training ∨ (s.tick dt).now < ((s.tick dt).lane lane).since + (if ((s.tick dt).lane lane).phy.backchannel then 20 * cycUs else 100 * cycUs)) :=
  ⟨0, 0, {}, by decide⟩

theorem wit_LaneLinksAndBackChannel_3 : ∃ (dt lane : Nat) (s : State),
    ((s.tick dt).lane lane).link = .training ∧
    ((s.tick dt).lane lane).failRaised = false ∧
    ((s.tick dt).lane lane).since + 2 * cycMs ≤ (s.tick dt).now :=
  ⟨1000000, 0, { ports := { lanes := [(0, { link := .training })] } }, by decide, by decide, by decide⟩

theorem wit_LaneLinksAndBackChannel_4 : ∃ (dt lane : Nat) (s : State),
    (((s.tick dt).lane lane).link ≠ .training ∨ ((s.tick dt).lane lane).failRaised = true ∨ (s.tick dt).now < ((s.tick dt).lane lane).since + 2 * cycMs) :=
  ⟨0, 0, {}, by decide⟩

theorem wit_LaneLinksAndBackChannel_5 : ∃ (dt lane : Nat) (s : State),
    ((s.tick dt).lane lane).link = .up ∧
    ((s.tick dt).lane lane).phy.backchannel = true ∧
    (∀ x, ((s.tick dt).lane lane).sendEnd = some x → x ≤ (s.tick dt).tb) :=
  ⟨0, 0, { ports := { lanes := [(0, { link := .up })] } }, by decide, by decide, fun _ h => nomatch h⟩

theorem wit_LaneLinksAndBackChannel_6 : ∃ (dt lane : Nat) (x : Instant) (s : State),
    ((s.tick dt).lane lane).link = .up ∧
    ((s.tick dt).lane lane).phy.backchannel = true ∧
    ((s.tick dt).lane lane).sendEnd = some x ∧
    (s.tick dt).tb < x :=
  ⟨0, 0, 1000000, { ports := { lanes := [(0, { link := .up, sendEnd := some 1000000 })] } }, by decide, by decide, by decide, by decide⟩

theorem wit_LaneLinksAndBackChannel_7 : ∃ (dt lane : Nat) (s : State),
    (((s.tick dt).lane lane).link ≠ .up ∨ ((s.tick dt).lane lane).phy.backchannel = false) :=
  ⟨0, 0, {}, by decide⟩

theorem wit_LaneLinksAndBackChannel_8 : ∃ (dt lane : Nat) (s : State),
    ((s.tick dt).lane lane).link = .up ∧
    (∀ x, ((s.tick dt).lane lane).sendEnd = some x → x ≤ (s.tick dt).tb) :=
  ⟨0, 0, { ports := { lanes := [(0, { link := .up })] } }, by decide, fun _ h => nomatch h⟩

theorem wit_LaneLinksAndBackChannel_9 : ∃ (dt lane : Nat) (x : Instant) (s : State),
    ((s.tick dt).lane lane).link = .up ∧
    ((s.tick dt).lane lane).sendEnd = some x ∧
    (s.tick dt).tb < x :=
  ⟨0, 0, 1000000, { ports := { lanes := [(0, { link := .up, sendEnd := some 1000000 })] } }, by decide, by decide, by decide⟩

theorem wit_LaneLinksAndBackChannel_10 : ∃ (dt m : Nat) (s t : State) (e : ExecReq) (c : Ctx) (p : Bytes),
    Running lanePhySetSpec m dt s e c t p ∧
    (t.lane (fld p 0 1)).link ≠ .up :=
  ⟨0, 0, (wst (wreq 0x0902 0 (zeros 8)) : State), _, { mbx := 0, req := (wreq 0x0902 0 (zeros 8)), dbPos := 0, role := 2, poison := false }, _, _, ⟨rfl, by decide, rfl, rfl, rfl, rfl, by decide, by decide⟩, by decide⟩

theorem wit_LaneLinksAndBackChannel_11 : ∃ (dt m : Nat) (s t : State) (e : ExecReq) (c : Ctx) (p : Bytes),
    Running lanePhySetSpec m dt s e c t p ∧
    (t.lane (fld p 0 1)).link = .up ∧
    (t.lane (fld p 0 1)).sendEnd.elim true (fun x => decide (x ≤ t.tb)) = true :=
  ⟨0, 0, ({ wst (wreq 0x0902 0 (zeros 8)) with ports := { lanes := [(0, { link := .up })] } } : State), _, { mbx := 0, req := (wreq 0x0902 0 (zeros 8)), dbPos := 0, role := 2, poison := false }, _, _, ⟨rfl, by decide, rfl, rfl, rfl, rfl, by decide, by decide⟩, by decide, by decide⟩

theorem wit_LaneLinksAndBackChannel_12 : ∃ (dt m : Nat) (s t : State) (e : ExecReq) (c : Ctx) (p : Bytes),
    Running lanePhySetSpec m dt s e c t p ∧
    (t.lane (fld p 0 1)).link = .up ∧
    (t.lane (fld p 0 1)).sendEnd.elim false (fun x => decide (t.tb < x)) = true :=
  ⟨0, 0, ({ wst (wreq 0x0902 0 (zeros 8)) with ports := { lanes := [(0, { link := .up, sendEnd := some 1000000 })] } } : State), _, { mbx := 0, req := (wreq 0x0902 0 (zeros 8)), dbPos := 0, role := 2, poison := false }, _, _, ⟨rfl, by decide, rfl, rfl, rfl, rfl, by decide, by decide⟩, by decide, by decide⟩

theorem wit_LaneLinksAndBackChannel_13 : ∃ (dt lane frameLo : Nat) (x : LaneSent) (s : State),
    ((s.tick dt).lane lane).link = .up ∧
    (((s.tick dt).lane lane).sent.find? fun x => x.frame % 4294967296 == frameLo) = some x ∧
    x.latchAck = true ∧
    s.alive 8 x.canvas = true :=
  ⟨0, 0, 7, ⟨7, 0, some 1, 0, 1000000000, 5, 0, true, [], []⟩, { ports := { lanes := [(0, { link := .up, sent := [⟨7, 0, some 1, 0, 1000000000, 5, 0, true, [], []⟩] })] }, fns := [(0x80000, { state := .enabled })] }, by decide, by decide, by decide, by decide⟩

theorem wit_LaneLinksAndBackChannel_14 : ∃ (dt lane frameLo : Nat) (x : LaneSent) (s : State),
    ((s.tick dt).lane lane).link = .up ∧
    (((s.tick dt).lane lane).sent.find? fun x => x.frame % 4294967296 == frameLo) = some x ∧
    (x.latchAck = false ∨ s.alive 8 x.canvas = false) :=
  ⟨0, 0, 7, ⟨7, 0, some 1, 0, 1000000000, 5, 0, false, [], []⟩, { ports := { lanes := [(0, { link := .up, sent := [⟨7, 0, some 1, 0, 1000000000, 5, 0, false, [], []⟩] })] } }, by decide, by decide, by decide⟩

theorem wit_LaneLinksAndBackChannel_15 : ∃ (dt lane frameLo : Nat) (s : State),
    ((s.tick dt).lane lane).link = .up ∧
    (((s.tick dt).lane lane).sent.find? fun x => x.frame % 4294967296 == frameLo) = none :=
  ⟨0, 0, 0, { ports := { lanes := [(0, { link := .up })] } }, by decide, by decide⟩

theorem wit_LaneLinksAndBackChannel_16 : ∃ (dt lane : Nat) (s : State),
    ((s.tick dt).lane lane).link ≠ .up :=
  ⟨0, 0, {}, by decide⟩

theorem wit_LaneLinksAndBackChannel_17 : ∃ (dt lane tileNo : Nat) (x : LaneSent) (s : State),
    (((s.tick dt).lane lane).sent.find? fun x => ((s.tick dt).lane lane).misses tileNo (s.tick dt).tb x && s.alive 8 x.canvas) = some x :=
  ⟨10000000, 0, 3, ⟨7, 0, some 6, 0, 1000000000, 5, 0, true, [], []⟩, { ports := { lanes := [(0, { link := .up, sent := [⟨7, 0, some 6, 0, 1000000000, 5, 0, true, [], []⟩, ⟨6, 0, some 1, 0, 1000000000, 5, 0, true, [3], []⟩] })] }, fns := [(0x80000, { state := .enabled })] }, by decide⟩

theorem wit_LaneLinksAndBackChannel_18 : ∃ (dt lane tileNo : Nat) (s : State),
    (((s.tick dt).lane lane).sent.find? fun x => ((s.tick dt).lane lane).misses tileNo (s.tick dt).tb x && s.alive 8 x.canvas) = none :=
  ⟨0, 0, 0, {}, by decide⟩

theorem wit_LaneLinksAndBackChannel_19 : ∃ (dt lane : Nat) (s : State),
    ((s.tick dt).lane lane).link = .up :=
  ⟨0, 0, { ports := { lanes := [(0, { link := .up })] } }, by decide⟩

theorem wit_LaneLinksAndBackChannel_20 : ∃ (dt lane : Nat) (s : State),
    ((s.tick dt).lane lane).link ≠ .up :=
  ⟨0, 0, {}, by decide⟩

theorem wit_LaneLinksAndBackChannel_21 : ∃ (dt lane tileNo id : Nat) (r : Bytes) (s : State),
    ((s.tick dt).lane lane).link = .up ∧
    s.txn.view.output.temps = [(id, r)] ∧
    tsKind r = 2 ∧
    tsPort r = lane ∧
    tsTile r = tileNo :=
  ⟨0, 0, 0, 4, (bytesLE 2 4 ++ bytesLE 1 2 ++ zeros 29), { ports := { lanes := [(0, { link := .up })] }, txn := { view := { output := { temps := [(4, bytesLE 2 4 ++ bytesLE 1 2 ++ zeros 29)] } } } }, by decide, by decide, by decide, by decide, by decide⟩

theorem wit_LaneLinksAndBackChannel_22 : ∃ (dt lane kind : Nat) (s : State),
    ((s.tick dt).lane lane).link = .up ∧
    (kind = 1 ∨ kind = 2) :=
  ⟨0, 0, 1, { ports := { lanes := [(0, { link := .up })] } }, by decide, by decide⟩

theorem wit_LaneLinksAndBackChannel_23 : ∃ (dt lane kind : Nat) (s : State),
    ((s.tick dt).lane lane).link = .up ∧
    kind ≠ 1 ∧
    kind ≠ 2 :=
  ⟨0, 0, 3, { ports := { lanes := [(0, { link := .up })] } }, by decide, by decide, by decide⟩

theorem wit_LaneLinksAndBackChannel_24 : ∃ (dt lane : Nat) (s : State),
    ((s.tick dt).lane lane).link = .up :=
  ⟨0, 0, { ports := { lanes := [(0, { link := .up })] } }, by decide⟩

theorem wit_LaneLinksAndBackChannel_25 : ∃ (dt lane : Nat) (s : State),
    ((s.tick dt).lane lane).link ≠ .up :=
  ⟨0, 0, {}, by decide⟩

theorem wit_LaneLinksAndBackChannel_26 : ∃ (dt lane : Nat) (s : State),
    ((s.tick dt).lane lane).link = .up :=
  ⟨0, 0, { ports := { lanes := [(0, { link := .up })] } }, by decide⟩

theorem wit_LaneLinksAndBackChannel_27 : ∃ (dt lane : Nat) (s : State),
    ((s.tick dt).lane lane).link ≠ .off :=
  ⟨0, 0, { ports := { lanes := [(0, { link := .training })] } }, by decide⟩

theorem wit_LaneLinksAndBackChannel_28 : ∃ (dt lane : Nat) (s : State),
    ((s.tick dt).lane lane).link = .off :=
  ⟨0, 0, {}, by decide⟩

theorem wit_RdmTransactionsQueueAndEnd_1 : ∃ (dt m : Nat) (s t : State) (e : ExecReq) (c : Ctx) (p : Bytes),
    Running rdmTransactionSpec m dt s e c t p ∧
    (t.txn.view.ports.dmx.getD (fld p 0 1) {}).input = false ∧
    (t.txn.view.ports.dmx.getD (fld p 0 1) {}).uid ≠ 0 ∧
    t.emits = true ∧
    t.enabled 4 (fld p 0 1) = true ∧
    (t.dmxPort (fld p 0 1)).queue.length < 4 ∧
    t.acceptFail = none :=
  ⟨0, 0, ({ wst (wreq 0x0911 0 (bytesLE 2 0 ++ bytesLE 2 0x0020 ++ bytesBE 6 0x010200000009 ++ bytesBE 2 0 ++ bytesBE 2 0x0403 ++ bytesLE 2 0 ++ bytesLE 8 0x20000)) with fns := [(0x40000, { state := .enabled })], txn := { view := { ports := { dmx := [(0, ⟨false, 512, 176, 12, 0, 0x010200000003⟩)] } } } } : State), _, { mbx := 0, req := (wreq 0x0911 0 (bytesLE 2 0 ++ bytesLE 2 0x0020 ++ bytesBE 6 0x010200000009 ++ bytesBE 2 0 ++ bytesBE 2 0x0403 ++ bytesLE 2 0 ++ bytesLE 8 0x20000)), dbPos := 0, role := 2, poison := false }, _, _, ⟨rfl, by decide, rfl, rfl, rfl, rfl, by decide, by decide⟩, by decide, by decide, by decide, by decide, by decide, by decide⟩

theorem wit_RdmTransactionsQueueAndEnd_2 : ∃ (dt m : Nat) (s t : State) (e : ExecReq) (c : Ctx) (p : Bytes),
    Running rdmTransactionSpec m dt s e c t p ∧
    (t.txn.view.ports.dmx.getD (fld p 0 1) {}).input = false ∧
    (t.txn.view.ports.dmx.getD (fld p 0 1) {}).uid ≠ 0 ∧
    t.emits = true ∧
    t.enabled 4 (fld p 0 1) = true ∧
    4 ≤ (t.dmxPort (fld p 0 1)).queue.length :=
  ⟨0, 0, ({ wst (wreq 0x0911 0 (bytesLE 2 0 ++ bytesLE 2 0x0020 ++ bytesBE 6 0x010200000009 ++ bytesBE 2 0 ++ bytesBE 2 0x0403 ++ bytesLE 2 0 ++ bytesLE 8 0x20000)) with fns := [(0x40000, { state := .enabled })], txn := { view := { ports := { dmx := [(0, ⟨false, 512, 176, 12, 0, 0x010200000003⟩)] } } }, ports := { dmx := [(0, { queue := [⟨1, [], 0⟩, ⟨2, [], 0⟩, ⟨3, [], 0⟩, ⟨4, [], 0⟩] })] } } : State), _, { mbx := 0, req := (wreq 0x0911 0 (bytesLE 2 0 ++ bytesLE 2 0x0020 ++ bytesBE 6 0x010200000009 ++ bytesBE 2 0 ++ bytesBE 2 0x0403 ++ bytesLE 2 0 ++ bytesLE 8 0x20000)), dbPos := 0, role := 2, poison := false }, _, _, ⟨rfl, by decide, rfl, rfl, rfl, rfl, by decide, by decide⟩, by decide, by decide, by decide, by decide, by decide⟩

theorem wit_RdmTransactionsQueueAndEnd_3 : ∃ (dt m : Nat) (s t : State) (e : ExecReq) (c : Ctx) (p : Bytes),
    Running rdmTransactionSpec m dt s e c t p ∧
    ((t.txn.view.ports.dmx.getD (fld p 0 1) {}).input = true ∨ (t.txn.view.ports.dmx.getD (fld p 0 1) {}).uid = 0 ∨ t.emits = false ∨ t.enabled 4 (fld p 0 1) = false) :=
  ⟨0, 0, (wst (wreq 0x0911 0 (bytesLE 2 0 ++ bytesLE 2 0x0020 ++ bytesBE 6 0x010200000009 ++ bytesBE 2 0 ++ bytesBE 2 0x0403 ++ bytesLE 2 0 ++ bytesLE 8 0x20000)) : State), _, { mbx := 0, req := (wreq 0x0911 0 (bytesLE 2 0 ++ bytesLE 2 0x0020 ++ bytesBE 6 0x010200000009 ++ bytesBE 2 0 ++ bytesBE 2 0x0403 ++ bytesLE 2 0 ++ bytesLE 8 0x20000)), dbPos := 0, role := 2, poison := false }, _, _, ⟨rfl, by decide, rfl, rfl, rfl, rfl, by decide, by decide⟩, by decide⟩

theorem wit_RdmTransactionsQueueAndEnd_4 : ∃ (dt port : Nat) (job : RdmJob) (rest : List RdmJob) (s : State),
    ((s.tick dt).dmxPort port).queue = job :: rest ∧
    ((s.tick dt).dmxPort port).busy (s.tick dt).tb = false ∧
    s.emits = true ∧
    s.enabled 4 port = true ∧
    (∀ x, (s.tick dt).nextDmxInstant port = some x → (s.tick dt).tb + usUnits (job.requestUs + 5800) ≤ x) :=
  ⟨0, 0, ⟨1, bytesLE 2 0 ++ bytesLE 2 0x0020 ++ bytesBE 6 0x010200000009 ++ bytesBE 2 0 ++ bytesBE 2 0x0403 ++ bytesLE 2 0 ++ bytesLE 8 0x20000, 0⟩, [], { fns := [(0x40000, { state := .enabled })], txn := { view := { ports := { dmx := [(0, ⟨false, 512, 176, 12, 0, 0x010200000003⟩)] } } }, ports := { dmx := [(0, { queue := [⟨1, bytesLE 2 0 ++ bytesLE 2 0x0020 ++ bytesBE 6 0x010200000009 ++ bytesBE 2 0 ++ bytesBE 2 0x0403 ++ bytesLE 2 0 ++ bytesLE 8 0x20000, 0⟩] })] } }, by decide, by decide, by decide, by decide, (fun x h => by simp [State.nextDmxInstant, sortBy, State.tick] at h)⟩

theorem wit_RdmTransactionsQueueAndEnd_5 : ∃ (dt port : Nat) (job : RdmJob) (rest : List RdmJob) (x : Instant) (s : State),
    ((s.tick dt).dmxPort port).queue = job :: rest ∧
    ((s.tick dt).dmxPort port).busy (s.tick dt).tb = false ∧
    s.emits = true ∧
    s.enabled 4 port = true ∧
    (s.tick dt).nextDmxInstant port = some x ∧
    x < (s.tick dt).tb + usUnits (job.requestUs + 5800) ∧
    job.since + 500 * cycMs ≤ (s.tick dt).now :=
  ⟨250000000, 0, ⟨1, bytesLE 2 0 ++ bytesLE 2 0x0020 ++ bytesBE 6 0x010200000009 ++ bytesBE 2 0 ++ bytesBE 2 0x0403 ++ bytesLE 2 0 ++ bytesLE 8 0x20000, 0⟩, [], 0, { fns := [(0x40000, { state := .enabled })], txn := { view := { ports := { dmx := [(0, ⟨false, 512, 176, 12, 0, 0x010200000003⟩)] } } }, ports := { dmx := [(0, { queue := [⟨1, bytesLE 2 0 ++ bytesLE 2 0x0020 ++ bytesBE 6 0x010200000009 ++ bytesBE 2 0 ++ bytesBE 2 0x0403 ++ bytesLE 2 0 ++ bytesLE 8 0x20000, 0⟩] })] }, render := { frames := [{ grid := ⟨5, 0, 0, 0, 0, 0, 0⟩, epoch := 0, rate := 3, view := {} }] } }, by decide, by decide, by decide, by decide, by decide, by decide, by decide⟩

theorem wit_RdmTransactionsQueueAndEnd_6 : ∃ (dt port : Nat) (s : State),
    (((s.tick dt).dmxPort port).queue = [] ∨ ((s.tick dt).dmxPort port).busy (s.tick dt).tb = true ∨ s.emits = false ∨ s.enabled 4 port = false) :=
  ⟨0, 0, {}, by decide⟩

theorem wit_RdmTransactionsQueueAndEnd_7 : ∃ (dt port : Nat) (job : RdmJob) (rest : List RdmJob) (x : Instant) (s : State),
    ((s.tick dt).dmxPort port).queue = job :: rest ∧
    (s.tick dt).nextDmxInstant port = some x ∧
    x < (s.tick dt).tb + usUnits (job.requestUs + 5800) ∧
    (s.tick dt).now < job.since + 500 * cycMs :=
  ⟨0, 0, ⟨1, bytesLE 2 0 ++ bytesLE 2 0x0020 ++ bytesBE 6 0x010200000009 ++ bytesBE 2 0 ++ bytesBE 2 0x0403 ++ bytesLE 2 0 ++ bytesLE 8 0x20000, 0⟩, [], 0, { fns := [(0x40000, { state := .enabled })], txn := { view := { ports := { dmx := [(0, ⟨false, 512, 176, 12, 0, 0x010200000003⟩)] } } }, ports := { dmx := [(0, { queue := [⟨1, bytesLE 2 0 ++ bytesLE 2 0x0020 ++ bytesBE 6 0x010200000009 ++ bytesBE 2 0 ++ bytesBE 2 0x0403 ++ bytesLE 2 0 ++ bytesLE 8 0x20000, 0⟩] })] }, render := { frames := [{ grid := ⟨5, 0, 0, 0, 0, 0, 0⟩, epoch := 0, rate := 3, view := {} }] } }, by decide, by decide, by decide, by decide⟩

theorem wit_RdmTransactionsQueueAndEnd_8 : ∃ (dt port : Nat) (run : RdmRun) (s : State),
    ((s.tick dt).dmxPort port).run = some run ∧
    run.startAt + usUnits (run.job.requestUs + 2800) ≤ (s.tick dt).tb ∧
    run.job.discovers = false ∧
    run.job.broadcast = false :=
  ⟨5000000, 0, ⟨⟨1, bytesLE 2 0 ++ bytesLE 2 0x0020 ++ bytesBE 6 0x010200000009 ++ bytesBE 2 0 ++ bytesBE 2 0x0403 ++ bytesLE 2 0 ++ bytesLE 8 0x20000, 0⟩, 5, 0, 0⟩, { fns := [(0x40000, { state := .enabled })], txn := { view := { ports := { dmx := [(0, ⟨false, 512, 176, 12, 0, 0x010200000003⟩)] } } }, ports := { dmx := [(0, { run := some ⟨⟨1, bytesLE 2 0 ++ bytesLE 2 0x0020 ++ bytesBE 6 0x010200000009 ++ bytesBE 2 0 ++ bytesBE 2 0x0403 ++ bytesLE 2 0 ++ bytesLE 8 0x20000, 0⟩, 5, 0, 0⟩ })] }, host := { ops := [{ id := 1, command := 0x0911, flags := 0, tag := 7, session := 1, kind := .job [0] [] }], rings := [(0, { cfg := { log2 := 4, dir := true, cls := 1 }, phase := .enabled })] } }, by decide, by decide, by decide, by decide⟩

theorem wit_RdmTransactionsQueueAndEnd_9 : ∃ (dt port : Nat) (run : RdmRun) (s : State),
    ((s.tick dt).dmxPort port).run = some run ∧
    run.startAt + usUnits (run.job.requestUs + 176) ≤ (s.tick dt).tb ∧
    run.job.discovers = false ∧
    run.job.broadcast = true :=
  ⟨5000000, 0, ⟨⟨1, bytesLE 2 0 ++ bytesLE 2 0x0020 ++ bytesBE 6 0xFFFFFFFFFFFF ++ bytesBE 2 0 ++ bytesBE 2 0x0403 ++ bytesLE 2 0 ++ bytesLE 8 0x20000, 0⟩, 5, 0, 0⟩, { fns := [(0x40000, { state := .enabled })], txn := { view := { ports := { dmx := [(0, ⟨false, 512, 176, 12, 0, 0x010200000003⟩)] } } }, ports := { dmx := [(0, { run := some ⟨⟨1, bytesLE 2 0 ++ bytesLE 2 0x0020 ++ bytesBE 6 0xFFFFFFFFFFFF ++ bytesBE 2 0 ++ bytesBE 2 0x0403 ++ bytesLE 2 0 ++ bytesLE 8 0x20000, 0⟩, 5, 0, 0⟩ })] }, host := { ops := [{ id := 1, command := 0x0911, flags := 0, tag := 7, session := 1, kind := .job [0] [] }], rings := [(0, { cfg := { log2 := 4, dir := true, cls := 1 }, phase := .enabled })] } }, by decide, by decide, by decide, by decide⟩

theorem wit_RdmTransactionsQueueAndEnd_10 : ∃ (dt port : Nat) (run : RdmRun) (s : State),
    Memory.wf s.mem = true ∧
    ((s.tick dt).dmxPort port).run = some run ∧
    run.startAt + usUnits run.job.requestUs ≤ (s.tick dt).tb ∧
    run.job.discovers = false ∧
    run.job.broadcast = false :=
  ⟨5000000, 0, ⟨⟨1, bytesLE 2 0 ++ bytesLE 2 0x0020 ++ bytesBE 6 0x010200000009 ++ bytesBE 2 0 ++ bytesBE 2 0x0403 ++ bytesLE 2 4 ++ bytesLE 8 0x20000, 0⟩, 5, 0, 0⟩, { fns := [(0x40000, { state := .enabled })], txn := { view := { ports := { dmx := [(0, ⟨false, 512, 176, 12, 0, 0x010200000003⟩)] } } }, ports := { dmx := [(0, { run := some ⟨⟨1, bytesLE 2 0 ++ bytesLE 2 0x0020 ++ bytesBE 6 0x010200000009 ++ bytesBE 2 0 ++ bytesBE 2 0x0403 ++ bytesLE 2 4 ++ bytesLE 8 0x20000, 0⟩, 5, 0, 0⟩ })] }, host := { ops := [{ id := 1, command := 0x0911, flags := 0, tag := 7, session := 1, kind := .job [0] [] }], rings := [(0, { cfg := { log2 := 4, dir := true, cls := 1 }, phase := .enabled })] } }, by decide, by decide, by decide, by decide, by decide⟩

theorem wit_RdmTransactionsQueueAndEnd_11 : ∃ (dt port : Nat) (s : State),
    (((s.tick dt).dmxPort port).run = none ∨ (∃ run, ((s.tick dt).dmxPort port).run = some run ∧ (s.tick dt).tb < run.startAt + usUnits run.job.requestUs)) :=
  ⟨0, 0, {}, Or.inl (by decide)⟩

theorem wit_LocalPwmOutputs_1 : ∃ (dt output n : Nat) (s : State),
    (s.tick dt).pwmDue output = some n ∧
    ((s.tick dt).pwmOut output).change = none ∧
    s.enabled 5 output = true ∧
    s.emits = true :=
  ⟨0, 0, 0, { fns := [(0x50000, { state := .enabled })], ports := { pwm := [(0, { value := some (16, 5) })] } }, by decide, by decide, by decide, by decide⟩

theorem wit_LocalPwmOutputs_2 : ∃ (dt output n : Nat) (s : State),
    (s.tick dt).pwmDue output = some n ∧
    ((s.tick dt).pwmOut output).change = none ∧
    (s.enabled 5 output = false ∨ s.emits = false) :=
  ⟨0, 0, 0, {}, by decide, by decide, by decide⟩

theorem wit_LocalPwmOutputs_3 : ∃ (dt output n : Nat) (k : PwmCfg) (s : State),
    (s.tick dt).pwmDue output = some n ∧
    ((s.tick dt).pwmOut output).change = some k ∧
    k.bitCount = ((s.tick dt).pwmOut output).cfg.bitCount ∧
    k.divider = ((s.tick dt).pwmOut output).cfg.divider ∧
    k.offset = ((s.tick dt).pwmOut output).cfg.offset ∧
    s.enabled 5 output = true ∧
    s.emits = true :=
  ⟨0, 0, 0, { flags := 3 }, { fns := [(0x50000, { state := .enabled })], ports := { pwm := [(0, { change := some { flags := 3 } })] } }, by decide, by decide, by decide, by decide, by decide, by decide, by decide⟩

theorem wit_LocalPwmOutputs_4 : ∃ (dt output : Nat) (s : State),
    (s.tick dt).pwmDue output = none :=
  ⟨0, 0, { ports := { pwm := [(0, { lastStart := some 5 })] } }, by decide⟩

theorem wit_LocalPwmOutputs_7 : ∃ (dt output : Nat) (s : State),
    bit ((s.tick dt).pwmOut output).cfg.flags 1 = true ∧
    ((s.tick dt).pwmOut output).running = true ∧
    ((s.tick dt).pwmOut output).sensed = false ∧
    ((s.tick dt).pwmOut output).cfg.senseCounts + 40 ≤ ((s.tick dt).pwmOut output).active ∧
    (((s.tick dt).pwmOut output).lastStart.getD 0) + ((s.tick dt).pwmOut output).cfg.senseCounts ≤ (s.tick dt).pwmCount ∧
    s.enabled 5 output = true ∧
    s.emits = true :=
  ⟨5000, 0, { fns := [(0x50000, { state := .enabled })], ports := { pwm := [(0, { cfg := { flags := 2 }, running := true, sensed := false, value := some (16, 40000) })] } }, by decide, by decide, by decide, by decide, by decide, by decide, by decide⟩

theorem wit_LocalPwmOutputs_8 : ∃ (dt output : Nat) (s : State),
    bit ((s.tick dt).pwmOut output).cfg.flags 1 = true ∧
    ((s.tick dt).pwmOut output).running = true ∧
    ((s.tick dt).pwmOut output).sensed = false ∧
    ((s.tick dt).pwmOut output).cfg.senseCounts + 40 ≤ ((s.tick dt).pwmOut output).active ∧
    (((s.tick dt).pwmOut output).lastStart.getD 0) + ((s.tick dt).pwmOut output).cfg.senseCounts ≤ (s.tick dt).pwmCount ∧
    s.enabled 5 output = true ∧
    s.emits = true ∧
    ((s.tick dt).pwmOut output).senseRun = 3 :=
  ⟨5000, 0, { fns := [(0x50000, { state := .enabled })], ports := { pwm := [(0, { cfg := { flags := 2 }, running := true, sensed := false, senseRun := 3, value := some (16, 40000) })] } }, by decide, by decide, by decide, by decide, by decide, by decide, by decide, by decide⟩

theorem wit_LocalPwmOutputs_9 : ∃ (dt output : Nat) (s : State),
    bit ((s.tick dt).pwmOut output).cfg.flags 1 = true ∧
    ((s.tick dt).pwmOut output).running = true ∧
    ((s.tick dt).pwmOut output).sensed = false ∧
    ((s.tick dt).pwmOut output).cfg.senseCounts + 40 ≤ ((s.tick dt).pwmOut output).active ∧
    (((s.tick dt).pwmOut output).lastStart.getD 0) + ((s.tick dt).pwmOut output).cfg.senseCounts ≤ (s.tick dt).pwmCount ∧
    s.enabled 5 output = true ∧
    s.emits = true ∧
    ((s.tick dt).pwmOut output).senseRun < 3 :=
  ⟨5000, 0, { fns := [(0x50000, { state := .enabled })], ports := { pwm := [(0, { cfg := { flags := 2 }, running := true, sensed := false, value := some (16, 40000) })] } }, by decide, by decide, by decide, by decide, by decide, by decide, by decide, by decide⟩

theorem wit_LocalPwmOutputs_10 : ∃ (dt output : Nat) (s : State),
    (bit ((s.tick dt).pwmOut output).cfg.flags 1 = false ∨ ((s.tick dt).pwmOut output).running = false ∨ ((s.tick dt).pwmOut output).sensed = true ∨ ((s.tick dt).pwmOut output).active < ((s.tick dt).pwmOut output).cfg.senseCounts + 40) :=
  ⟨0, 0, {}, by decide⟩

theorem wit_EthernetPortsReceiveAndSend_1 : ∃ (dt : Nat) (link : Machine.LinkUp) (s : State),
    (s.tick dt).portOn link.port = true ∧
    link.port ≤ 4 ∧
    (s.port link.port).up = false ∧
    s.update.serdes = [] :=
  ⟨0, { port := 0 }, { fns := [(0x10000, { state := .enabled })], net := { ports := [(0, {  })] } }, by decide, by decide, by decide, by decide⟩

theorem wit_EthernetPortsReceiveAndSend_2 : ∃ (dt : Nat) (link : Machine.LinkUp) (s : State),
    ((s.tick dt).portOn link.port = false ∨ (s.port link.port).up = true) ∧
    link.port ≤ 4 ∧
    s.update.serdes = [] :=
  ⟨0, { port := 0 }, {}, by decide, by decide, by decide⟩

theorem wit_EthernetPortsReceiveAndSend_3 : ∃ (dt : Nat) (link : Machine.LinkUp) (ys : List Serdes) (s : State),
    (s.tick dt).portOn link.port = true ∧
    link.port ≤ 4 ∧
    s.update.serdes = .port link.port :: ys :=
  ⟨0, { port := 0 }, [], { fns := [(0x10000, { state := .enabled })], net := { ports := [(0, {})] }, update := { serdes := [.port 0] } }, by decide, by decide, by decide⟩

theorem wit_EthernetPortsReceiveAndSend_4 : ∃ (port : Nat) (s : State),
    (s.port port).up = true ∧
    port < 4 :=
  ⟨0, { fns := [(0x10000, { state := .enabled })], net := { ports := [(0, { up := true })] } }, by decide, by decide⟩

theorem wit_EthernetPortsReceiveAndSend_5 : ∃ (s : State),
    (s.port 4).up = true :=
  ⟨{ net := { ports := [(4, { up := true })] } }, by decide⟩

theorem wit_EthernetPortsReceiveAndSend_6 : ∃ (port : Nat) (s : State),
    (s.port port).up = false ∧
    port < 4 :=
  ⟨0, {}, by decide, by decide⟩

theorem wit_EthernetPortsReceiveAndSend_7 : ∃ (dt port : Nat) (frame : RxFrame) (k : Nat) (s : State),
    (s.tick dt).portOn port = true ∧
    port ≤ 4 ∧
    ((s.tick dt).port port).up = true ∧
    ((s.tick dt).port port).cfg.step1 frame = some k :=
  ⟨0, 0, { bytes := zeros 20 }, 14, { fns := [(0x10000, { state := .enabled })], net := { ports := [(0, { up := true })] } }, by decide, by decide, by decide, by decide⟩

theorem wit_EthernetPortsReceiveAndSend_8 : ∃ (dt port : Nat) (frame : RxFrame) (q : Nat) (s : State),
    (s.tick dt).portOn port = true ∧
    port ≤ 4 ∧
    ((s.tick dt).port port).up = true ∧
    ((s.tick dt).port port).cfg.step1 frame = none ∧
    pauseQuanta frame.bytes = some q ∧
    ((s.tick dt).port port).cfg.pauseRx = true :=
  ⟨0, 0, { bytes := (bytesBE 6 0x0180C2000001 ++ bytesBE 6 0x0A0000000002 ++ bytesBE 2 0x8808 ++ bytesBE 2 1 ++ bytesBE 2 5 ++ zeros 42) }, 5, { fns := [(0x10000, { state := .enabled })], net := { ports := [(0, { up := true })] } }, by decide, by decide, by decide, by decide, by decide, by decide⟩

theorem wit_EthernetPortsReceiveAndSend_9 : ∃ (dt port : Nat) (frame : RxFrame) (q : Nat) (s : State),
    (s.tick dt).portOn port = true ∧
    port ≤ 4 ∧
    ((s.tick dt).port port).up = true ∧
    ((s.tick dt).port port).cfg.step1 frame = none ∧
    pauseQuanta frame.bytes = some q ∧
    ((s.tick dt).port port).cfg.pauseRx = false :=
  ⟨0, 0, { bytes := (bytesBE 6 0x0180C2000001 ++ bytesBE 6 0x0A0000000002 ++ bytesBE 2 0x8808 ++ bytesBE 2 1 ++ bytesBE 2 5 ++ zeros 42) }, 5, { fns := [(0x10000, { state := .enabled })], net := { ports := [(0, { up := true, cfg := { pauseRx := false } })] } }, by decide, by decide, by decide, by decide, by decide, by decide⟩

theorem wit_EthernetPortsReceiveAndSend_10 : ∃ (dt port : Nat) (frame : RxFrame) (s : State),
    (s.tick dt).portOn port = true ∧
    port ≤ 4 ∧
    ((s.tick dt).port port).up = true ∧
    ((s.tick dt).port port).cfg.step1 frame = none ∧
    pauseQuanta frame.bytes = none ∧
    isMacControl frame.bytes = true :=
  ⟨0, 0, { bytes := (bytesBE 6 0x0180C2000001 ++ bytesBE 6 0x0A0000000002 ++ bytesBE 2 0x8808 ++ bytesBE 2 2 ++ zeros 44) }, { fns := [(0x10000, { state := .enabled })], net := { ports := [(0, { up := true })] } }, by decide, by decide, by decide, by decide, by decide, by decide⟩

theorem wit_EthernetPortsReceiveAndSend_11 : ∃ (dt port : Nat) (frame : RxFrame) (s : State),
    (s.tick dt).portOn port = true ∧
    port ≤ 4 ∧
    ((s.tick dt).port port).up = true ∧
    ((s.tick dt).port port).cfg.step1 frame = none ∧
    pauseQuanta frame.bytes = none ∧
    isMacControl frame.bytes = false ∧
    (s.port port).secy.enable = false ∧
    (s.tick dt).rxTakes port frame.bytes = false :=
  ⟨0, 0, { bytes := (bytesBE 6 0x0A0000000001 ++ bytesBE 6 0x0A0000000002 ++ bytesBE 2 0x0101 ++ zeros 46) }, { fns := [(0x10000, { state := .enabled })], net := { ports := [(0, { up := true })] } }, by decide, by decide, by decide, by decide, by decide, by decide, by decide, by decide⟩

theorem wit_EthernetPortsReceiveAndSend_12 : ∃ (dt port : Nat) (frame : RxFrame) (k h : Nat) (d : BulkDesc) (ds : List BulkDesc) (s : State),
    (s.tick dt).portOn port = true ∧
    port ≤ 4 ∧
    ((s.tick dt).port port).up = true ∧
    ((s.tick dt).port port).cfg.step1 frame = none ∧
    pauseQuanta frame.bytes = none ∧
    isMacControl frame.bytes = false ∧
    (s.port port).secy.enable = false ∧
    (s.tick dt).rxTakes port frame.bytes = true ∧
    (s.tick dt).ptpFrame port frame.bytes = false ∧
    s.group.paired = false ∧
    (s.tick dt).engineRing port frame.bytes = none ∧
    queryOf frame.bytes = none ∧
    frame.hostErr = none ∧
    s.net.ringFor port frame.bytes = some k ∧
    (s.netRing k).host = h ∧
    (s.netRing k).flags = 0 ∧
    (s.ring h).phase = .enabled ∧
    (s.ring h).posted = d :: ds ∧
    rxDescOk d = true ∧
    frame.bytes.length ≤ d.length :=
  ⟨0, 0, { bytes := (bytesBE 6 0x0A0000000001 ++ bytesBE 6 0x0A0000000002 ++ bytesBE 2 0x0101 ++ zeros 46) }, 3, 9, ⟨0x1000, 2048, 0, 0, 0⟩, [], { fns := [(0x10000, { state := .enabled })], net := { ports := [(0, { up := true, cfg := { promisc := true } })], rings := [(3, { host := 9, ports := 1 })] }, host := { rings := [(9, { cfg := { log2 := 4, cls := 0x10 }, phase := .enabled, posted := [⟨0x1000, 2048, 0, 0, 0⟩] })] } }, by decide, by decide, by decide, by decide, by decide, by decide, by decide, by decide, by decide, by decide, by decide, by decide, by decide, by decide, by decide, by decide, by decide, by decide, by decide, by decide⟩

theorem wit_EthernetPortsReceiveAndSend_13 : ∃ (dt port : Nat) (s : State),
    ((s.tick dt).portOn port = false ∨ (s.port port).up = false ∨ 4 < port) :=
  ⟨0, 0, {}, by decide⟩

theorem wit_EthernetPortsReceiveAndSend_14 : ∃ (dt port : Nat) (x : Instant) (s : State),
    ((s.tick dt).port port).pauseEnd = some x ∧
    x ≤ (s.tick dt).tb :=
  ⟨0, 0, 0, { fns := [(0x10000, { state := .enabled })], net := { ports := [(0, { pauseEnd := some 0 })] } }, by decide, by decide⟩

theorem wit_EthernetPortsReceiveAndSend_15 : ∃ (dt port : Nat) (x : Instant) (s : State),
    ((s.tick dt).port port).pauseEnd = some x ∧
    (s.tick dt).tb < x :=
  ⟨0, 0, 5, { fns := [(0x10000, { state := .enabled })], net := { ports := [(0, { pauseEnd := some 5 })] } }, by decide, by decide⟩

theorem wit_EthernetPortsReceiveAndSend_16 : ∃ (dt port : Nat) (f : TxFrame) (fs : List TxFrame) (s : State),
    (s.tick dt).portFree port = true ∧
    (((s.tick dt).port port).runQueue.filter fun f => (s.tick dt).tickReached f.due) = [] ∧
    ((s.tick dt).port port).otherQueue = f :: fs ∧
    f.run = false ∧
    (f.protect = false ∨ ((s.tick dt).port port).secy.enable = false) :=
  ⟨0, 0, { bytes := [1] }, [], { fns := [(0x10000, { state := .enabled })], net := { ports := [(0, { up := true, otherQueue := [{ bytes := [1] }] })] } }, by decide, by decide, by decide, by decide, by decide⟩

theorem wit_EthernetPortsReceiveAndSend_17 : ∃ (dt port : Nat) (f : TxFrame) (fs : List TxFrame) (s : State),
    (s.tick dt).portFree port = true ∧
    (((s.tick dt).port port).runQueue.filter fun f => (s.tick dt).tickReached f.due) = f :: fs ∧
    (f.protect = false ∨ ((s.tick dt).port port).secy.enable = false) :=
  ⟨0, 0, { bytes := [1], run := true }, [], { fns := [(0x10000, { state := .enabled })], net := { ports := [(0, { up := true, runQueue := [{ bytes := [1], run := true }] })] } }, by decide, by decide, by decide⟩

theorem wit_EthernetPortsReceiveAndSend_18 : ∃ (dt port : Nat) (turn : Machine.TxTurn) (k h : Nat) (d : BulkDesc) (s : State),
    (s.tick dt).portFree port = true ∧
    (((s.tick dt).port port).runQueue.filter fun f => (s.tick dt).tickReached f.due) = [] ∧
    turn.hostErr = false ∧
    ((s.tick dt).port port).otherQueue = [] ∧
    s.txReady port = [k] ∧
    (s.netRing (64 + k)).host = h ∧
    chainOf (s.ring h).posted = [d] ∧
    chainOk ((s.tick dt).port port).cfg.maxFrame [d] = true ∧
    bits d.flags 3 5 = 0 ∧
    1 ≤ (s.netRing (64 + k)).arg :=
  ⟨0, 0, {}, 2, 8, ⟨0x1000, 60, 6, 0, 0⟩, { fns := [(0x10000, { state := .enabled })], net := { ports := [(0, { up := true })], rings := [(66, { host := 8, arg := 1 })] }, host := { rings := [(8, { cfg := { log2 := 4, cls := 0x11 }, phase := .enabled, posted := [⟨0x1000, 60, 6, 0, 0⟩] })] } }, by decide, by decide, by decide, by decide, by decide, by decide, by decide, by decide, by decide, by decide⟩

theorem wit_EthernetPortsReceiveAndSend_19 : ∃ (dt port : Nat) (s : State),
    (s.tick dt).portFree port = false :=
  ⟨0, 0, {}, by decide⟩

theorem wit_EthernetPortsReceiveAndSend_20 : ∃ (dt : Nat) (s : State),
    s.txn.view.net.discovery = true ∧
    s.txn.view.net.cid ≠ 0 ∧
    s.emits = true ∧
    (∀ x, s.net.discoveryAt = some x → x + 10 * cycSec ≤ (s.tick dt).now) :=
  ⟨0, { txn := { view := { net := { config := bytesBE 16 5 ++ zeros 64 ++ [1#8] ++ zeros 7 } } } }, by decide, by decide, by decide, fun x h => by cases h⟩

theorem wit_EthernetPortsReceiveAndSend_21 : ∃ (s : State),
    (s.txn.view.net.discovery = false ∨ s.txn.view.net.cid = 0 ∨ s.emits = false) :=
  ⟨{}, by decide⟩

theorem wit_EthernetPortsReceiveAndSend_22 : ∃ (dt x : Nat) (s : State),
    s.net.discoveryAt = some x ∧
    (s.tick dt).now < x + 10 * cycSec :=
  ⟨0, 0, { net := { discoveryAt := some 0 } }, by decide, by decide⟩

theorem wit_EthernetAndMacsecCommands_1 : ∃ (dt m : Nat) (s t : State) (e : ExecReq) (c : Ctx) (p : Bytes),
    Running netPortSetSpec m dt s e c t p ∧
    (fld p 1 1 = (t.port (fld p 0 1)).cfg.mode ∨ t.alive (portFn (fld p 0 1)).1 (portFn (fld p 0 1)).2 = false) :=
  ⟨0, 0, (wst (wreq 0x0A01 0 (bytesLE 1 0 ++ bytesLE 1 0 ++ bytesLE 2 1 ++ bytesLE 2 1600 ++ zeros 34)) : State), _, { mbx := 0, req := (wreq 0x0A01 0 (bytesLE 1 0 ++ bytesLE 1 0 ++ bytesLE 2 1 ++ bytesLE 2 1600 ++ zeros 34)), dbPos := 0, role := 2, poison := false }, _, _, ⟨rfl, by decide, rfl, rfl, rfl, rfl, by decide, by decide⟩, by decide⟩

theorem wit_EthernetAndMacsecCommands_2 : ∃ (dt m : Nat) (s t : State) (e : ExecReq) (c : Ctx) (p : Bytes),
    Running netPortSetSpec m dt s e c t p ∧
    fld p 1 1 ≠ (t.port (fld p 0 1)).cfg.mode ∧
    t.alive (portFn (fld p 0 1)).1 (portFn (fld p 0 1)).2 = true :=
  ⟨0, 0, ({ wst (wreq 0x0A01 0 (bytesLE 1 0 ++ bytesLE 1 3 ++ bytesLE 2 1 ++ bytesLE 2 1600 ++ zeros 34)) with fns := [(0x10000, { state := .enabled })] } : State), _, { mbx := 0, req := (wreq 0x0A01 0 (bytesLE 1 0 ++ bytesLE 1 3 ++ bytesLE 2 1 ++ bytesLE 2 1600 ++ zeros 34)), dbPos := 0, role := 2, poison := false }, _, _, ⟨rfl, by decide, rfl, rfl, rfl, rfl, by decide, by decide⟩, by decide, by decide⟩

theorem wit_EthernetAndMacsecCommands_3 : ∃ (dt m : Nat) (s t : State) (e : ExecReq) (c : Ctx) (p : Bytes) (h : Nat),
    Running netRingBindSpec m dt s e c t p ∧
    h = fld p 2 1 ∧
    h ≠ 0 ∧
    (t.ring h).phase = .disabled ∧
    ((t.netRing (64 * fld p 1 1 + fld p 0 1)).host = 0 ∨ (t.ring (t.netRing (64 * fld p 1 1 + fld p 0 1)).host).phase = .disabled) ∧
    (t.ring h).cfg.cls = 0x10 + fld p 1 1 ∧
    (t.ring h).cfg.dir = false ∧
    (∀ e ∈ t.net.rings, e.1 ≠ (64 * fld p 1 1 + fld p 0 1) → e.2.host ≠ h) :=
  ⟨0, 0, ({ wst (wreq 0x0A02 0 (bytesLE 1 3 ++ bytesLE 1 0 ++ bytesLE 1 9 ++ bytesLE 1 1 ++ zeros 12)) with host := { (wst (wreq 0x0A02 0 (bytesLE 1 3 ++ bytesLE 1 0 ++ bytesLE 1 9 ++ bytesLE 1 1 ++ zeros 12))).host with rings := [(9, { cfg := { log2 := 4, cls := 0x10 } })] } } : State), _, { mbx := 0, req := (wreq 0x0A02 0 (bytesLE 1 3 ++ bytesLE 1 0 ++ bytesLE 1 9 ++ bytesLE 1 1 ++ zeros 12)), dbPos := 0, role := 2, poison := false }, _, _, 9, ⟨rfl, by decide, rfl, rfl, rfl, rfl, by decide, by decide⟩, by decide, by decide, by decide, by decide, by decide, by decide, by decide⟩

theorem wit_EthernetAndMacsecCommands_4 : ∃ (dt m : Nat) (s t : State) (e : ExecReq) (c : Ctx) (p : Bytes),
    Running netRingBindSpec m dt s e c t p ∧
    fld p 2 1 = 0 ∧
    ((t.netRing (64 * fld p 1 1 + fld p 0 1)).host = 0 ∨ (t.ring (t.netRing (64 * fld p 1 1 + fld p 0 1)).host).phase = .disabled) :=
  ⟨0, 0, (wst (wreq 0x0A02 0 (bytesLE 1 3 ++ zeros 15)) : State), _, { mbx := 0, req := (wreq 0x0A02 0 (bytesLE 1 3 ++ zeros 15)), dbPos := 0, role := 2, poison := false }, _, _, ⟨rfl, by decide, rfl, rfl, rfl, rfl, by decide, by decide⟩, by decide, by decide⟩

theorem wit_EthernetAndMacsecCommands_5 : ∃ (dt m : Nat) (s t : State) (e : ExecReq) (c : Ctx) (p : Bytes),
    Running netRingBindSpec m dt s e c t p ∧
    fld p 2 1 ≠ 0 ∧
    ((t.ring (fld p 2 1)).phase ≠ .disabled ∨ (t.ring (fld p 2 1)).cfg.cls ≠ 0x10 + fld p 1 1 ∨ (∃ e ∈ t.net.rings, e.1 ≠ (64 * fld p 1 1 + fld p 0 1) ∧ e.2.host = fld p 2 1)) :=
  ⟨0, 0, (wst (wreq 0x0A02 0 (bytesLE 1 3 ++ bytesLE 1 0 ++ bytesLE 1 9 ++ bytesLE 1 1 ++ zeros 12)) : State), _, { mbx := 0, req := (wreq 0x0A02 0 (bytesLE 1 3 ++ bytesLE 1 0 ++ bytesLE 1 9 ++ bytesLE 1 1 ++ zeros 12)), dbPos := 0, role := 2, poison := false }, _, _, ⟨rfl, by decide, rfl, rfl, rfl, rfl, by decide, by decide⟩, by decide, by decide⟩

theorem wit_EthernetAndMacsecCommands_6 : ∃ (dt m : Nat) (s t : State) (e : ExecReq) (c : Ctx) (p : Bytes),
    Running netPortStatusSpec m dt s e c t p :=
  ⟨0, 0, (wst (wreq 0x0A10 0 (zeros 8)) : State), _, { mbx := 0, req := (wreq 0x0A10 0 (zeros 8)), dbPos := 0, role := 2, poison := false }, _, _, ⟨rfl, by decide, rfl, rfl, rfl, rfl, by decide, by decide⟩⟩

theorem wit_EthernetAndMacsecCommands_7 : ∃ (dt m : Nat) (s t : State) (e : ExecReq) (c : Ctx) (p : Bytes),
    Running netRingStatusSpec m dt s e c t p :=
  ⟨0, 0, (wst (wreq 0x0A11 0 (zeros 8)) : State), _, { mbx := 0, req := (wreq 0x0A11 0 (zeros 8)), dbPos := 0, role := 2, poison := false }, _, _, ⟨rfl, by decide, rfl, rfl, rfl, rfl, by decide, by decide⟩⟩

theorem wit_EthernetAndMacsecCommands_8 : ∃ (dt m : Nat) (s t : State) (e : ExecReq) (c : Ctx) (p : Bytes),
    Running macsecSecySetSpec m dt s e c t p ∧
    t.auditFull = false ∧
    ((t.port (fld p 0 1)).secy.enable = false ∨ ((t.port (fld p 0 1)).secy.xpn = true ↔ fld p 2 1 = 1)) :=
  ⟨0, 0, (wstR 3 (wreq 0x0A30 0 (zeros 56)) : State), _, { mbx := 0, req := (wreq 0x0A30 0 (zeros 56)), dbPos := 0, role := 3, poison := false }, _, _, ⟨rfl, by decide, rfl, rfl, rfl, rfl, by decide, by decide⟩, by decide, by decide⟩

theorem wit_EthernetAndMacsecCommands_9 : ∃ (dt m : Nat) (s t : State) (e : ExecReq) (c : Ctx) (p : Bytes),
    Running macsecSecySetSpec m dt s e c t p ∧
    t.auditFull = false ∧
    (t.port (fld p 0 1)).secy.enable = true ∧
    (t.port (fld p 0 1)).secy.xpn = true ∧
    fld p 2 1 = 0 :=
  ⟨0, 0, ({ wstR 3 (wreq 0x0A30 0 (zeros 56)) with net := { ports := [(0, { secy := { enable := true, xpn := true } })] } } : State), _, { mbx := 0, req := (wreq 0x0A30 0 (zeros 56)), dbPos := 0, role := 3, poison := false }, _, _, ⟨rfl, by decide, rfl, rfl, rfl, rfl, by decide, by decide⟩, by decide, by decide, by decide, by decide⟩

theorem wit_EthernetAndMacsecCommands_10 : ∃ (dt m : Nat) (s t : State) (e : ExecReq) (c : Ctx) (p kek : Bytes),
    Running macsecSaSetSpec m dt s e c t p ∧
    t.auditFull = false ∧
    fld p 3 1 = 1 ∧
    t.secure.kekNow = some kek :=
  ⟨0, 0, ({ wstR 3 (wreq 0x0A31 0 (bytesLE 1 0 ++ bytesLE 1 0 ++ bytesLE 1 2 ++ bytesLE 1 1 ++ zeros 68)) with secure := { kek := some [1] } } : State), _, { mbx := 0, req := (wreq 0x0A31 0 (bytesLE 1 0 ++ bytesLE 1 0 ++ bytesLE 1 2 ++ bytesLE 1 1 ++ zeros 68)), dbPos := 0, role := 3, poison := false }, _, _, [1], ⟨rfl, by decide, rfl, rfl, rfl, rfl, by decide, by decide⟩, by decide, by decide, by decide⟩

theorem wit_EthernetAndMacsecCommands_11 : ∃ (dt m : Nat) (s t : State) (e : ExecReq) (c : Ctx) (p kek : Bytes),
    Running macsecSaSetSpec m dt s e c t p ∧
    t.auditFull = false ∧
    fld p 3 1 = 0 ∧
    t.secure.kekNow = some kek :=
  ⟨0, 0, ({ wstR 3 (wreq 0x0A31 0 (bytesLE 1 0 ++ bytesLE 1 0 ++ bytesLE 1 2 ++ bytesLE 1 0 ++ zeros 68)) with secure := { kek := some [1] } } : State), _, { mbx := 0, req := (wreq 0x0A31 0 (bytesLE 1 0 ++ bytesLE 1 0 ++ bytesLE 1 2 ++ bytesLE 1 0 ++ zeros 68)), dbPos := 0, role := 3, poison := false }, _, _, [1], ⟨rfl, by decide, rfl, rfl, rfl, rfl, by decide, by decide⟩, by decide, by decide, by decide⟩

theorem wit_EthernetAndMacsecCommands_12 : ∃ (dt m : Nat) (s t : State) (e : ExecReq) (c : Ctx) (p : Bytes),
    Running macsecSaSetSpec m dt s e c t p ∧
    t.auditFull = false ∧
    fld p 3 1 ≠ 2 ∧
    t.secure.kekNow = none :=
  ⟨0, 0, (wstR 3 (wreq 0x0A31 0 (bytesLE 1 0 ++ bytesLE 1 0 ++ bytesLE 1 2 ++ bytesLE 1 1 ++ zeros 68)) : State), _, { mbx := 0, req := (wreq 0x0A31 0 (bytesLE 1 0 ++ bytesLE 1 0 ++ bytesLE 1 2 ++ bytesLE 1 1 ++ zeros 68)), dbPos := 0, role := 3, poison := false }, _, _, ⟨rfl, by decide, rfl, rfl, rfl, rfl, by decide, by decide⟩, by decide, by decide, by decide⟩

theorem wit_EthernetAndMacsecCommands_13 : ∃ (dt m : Nat) (s t : State) (e : ExecReq) (c : Ctx) (p : Bytes),
    Running macsecSaSetSpec m dt s e c t p ∧
    t.auditFull = false ∧
    fld p 3 1 = 2 ∧
    (t.port (fld p 0 1)).secy.active.find (fld p 1 1) ≠ some (fld p 2 1) :=
  ⟨0, 0, (wstR 3 (wreq 0x0A31 0 (bytesLE 1 0 ++ bytesLE 1 0 ++ bytesLE 1 2 ++ bytesLE 1 2 ++ zeros 68)) : State), _, { mbx := 0, req := (wreq 0x0A31 0 (bytesLE 1 0 ++ bytesLE 1 0 ++ bytesLE 1 2 ++ bytesLE 1 2 ++ zeros 68)), dbPos := 0, role := 3, poison := false }, _, _, ⟨rfl, by decide, rfl, rfl, rfl, rfl, by decide, by decide⟩, by decide, by decide, by decide⟩

theorem wit_EthernetAndMacsecCommands_14 : ∃ (dt m : Nat) (s t : State) (e : ExecReq) (c : Ctx) (p : Bytes),
    Running macsecSaSetSpec m dt s e c t p ∧
    t.auditFull = false ∧
    fld p 3 1 = 2 ∧
    fld p 1 1 = 0 ∧
    (t.port (fld p 0 1)).secy.active.find 0 = some (fld p 2 1) :=
  ⟨0, 0, ({ wstR 3 (wreq 0x0A31 0 (bytesLE 1 0 ++ bytesLE 1 0 ++ bytesLE 1 2 ++ bytesLE 1 2 ++ zeros 68)) with net := { ports := [(0, { secy := { active := [(0, 2)] } })] } } : State), _, { mbx := 0, req := (wreq 0x0A31 0 (bytesLE 1 0 ++ bytesLE 1 0 ++ bytesLE 1 2 ++ bytesLE 1 2 ++ zeros 68)), dbPos := 0, role := 3, poison := false }, _, _, ⟨rfl, by decide, rfl, rfl, rfl, rfl, by decide, by decide⟩, by decide, by decide, by decide, by decide⟩

theorem wit_EthernetAndMacsecCommands_15 : ∃ (dt m : Nat) (s t : State) (e : ExecReq) (c : Ctx) (p : Bytes),
    Running macsecStatusSpec m dt s e c t p :=
  ⟨0, 0, (wst (wreq 0x0A32 0 (zeros 8)) : State), _, { mbx := 0, req := (wreq 0x0A32 0 (zeros 8)), dbPos := 0, role := 2, poison := false }, _, _, ⟨rfl, by decide, rfl, rfl, rfl, rfl, by decide, by decide⟩⟩

theorem wit_MeteringSamplesCyclesAndPulses_1 : ∃ (dt c : Nat) (s : State),
    c < 64 ∧
    s.mtrLive c = true ∧
    s.meter.base + 62500 * s.meter.nextSample ≤ (s.tick dt).now :=
  ⟨0, 5, { fns := [(0xB0005, { state := .enabled })] }, by decide, by decide, by decide⟩

theorem wit_MeteringSamplesCyclesAndPulses_2 : ∃ (dt : Nat) (s : State),
    ((s.tick dt).now < s.meter.base + 62500 * s.meter.nextSample ∨ (∀ c, c < 64 → s.mtrLive c = false)) :=
  ⟨0, { meter := { base := 1 } }, Or.inl (by decide)⟩

theorem wit_MeteringSamplesCyclesAndPulses_4 : ∃ (c : MtrChannel) (x : Int),
    c.role = 2 ∧
    c.gainCode = 0 ∧
    2 ^ 23 - 1 ≤ absInt x :=
  ⟨{ role := 2, gainCode := 0, kg := [], zg := [] }, 8388607, by decide, by decide, by decide⟩

theorem wit_MeteringSamplesCyclesAndPulses_5 : ∃ (dt point : Nat) (stamp : Int) (p : MtrPoint) (s : State),
    s.meter.points.find point = some p ∧
    p.phase = .start ∧
    stamp ≤ (s.tick dt).tb ∧
    (∀ c, p.lastCross = some c → 12000000 * 65536 ≤ stamp - c) ∧
    s.pointDrains point = false :=
  ⟨0, 3, 0, { cfg := ⟨1, 0, [0], [1], 2, 20⟩, n := 2, zcMs := 20, phase := .start }, { meter := { points := [(3, { cfg := ⟨1, 0, [0], [1], 2, 20⟩, n := 2, zcMs := 20, phase := .start })] } }, by decide, by decide, by decide, (fun c h => by cases h), by decide⟩

theorem wit_MeteringSamplesCyclesAndPulses_6 : ∃ (dt point : Nat) (stamp : Int) (p : MtrPoint) (v : MtrInterval) (s : State),
    s.meter.points.find point = some p ∧
    p.phase = .normal ∧
    stamp ≤ (s.tick dt).tb ∧
    (∀ c, p.lastCross = some c → 12000000 * 65536 ≤ stamp - c) ∧
    s.pointDrains point = false ∧
    p.change = none ∧
    p.interval = some v ∧
    v.cycles + 1 < p.n :=
  ⟨0, 3, 0, { cfg := ⟨1, 0, [0], [1], 2, 20⟩, n := 2, zcMs := 20, phase := .normal, interval := some { startAt := 0, cycles := 0 } }, { startAt := 0, cycles := 0 }, { meter := { points := [(3, { cfg := ⟨1, 0, [0], [1], 2, 20⟩, n := 2, zcMs := 20, phase := .normal, interval := some { startAt := 0, cycles := 0 } })] } }, by decide, by decide, by decide, (fun c h => by cases h), by decide, by decide, by decide, by decide⟩

theorem wit_MeteringSamplesCyclesAndPulses_7 : ∃ (dt point : Nat) (stamp : Int) (p : MtrPoint) (v : MtrInterval) (s : State),
    s.meter.points.find point = some p ∧
    p.phase = .normal ∧
    stamp ≤ (s.tick dt).tb ∧
    (∀ c, p.lastCross = some c → 12000000 * 65536 ≤ stamp - c) ∧
    s.pointDrains point = false ∧
    p.change = none ∧
    p.interval = some v ∧
    p.n ≤ v.cycles + 1 :=
  ⟨0, 3, 0, { cfg := ⟨1, 0, [0], [1], 2, 20⟩, n := 2, zcMs := 20, phase := .normal, interval := some { startAt := 0, cycles := 1 } }, { startAt := 0, cycles := 1 }, { meter := { points := [(3, { cfg := ⟨1, 0, [0], [1], 2, 20⟩, n := 2, zcMs := 20, phase := .normal, interval := some { startAt := 0, cycles := 1 } })] } }, by decide, by decide, by decide, (fun c h => by cases h), by decide, by decide, by decide, by decide⟩

theorem wit_MeteringSamplesCyclesAndPulses_8 : ∃ (dt point : Nat) (stamp : Int) (p : MtrPoint) (v : MtrInterval) (s : State),
    s.meter.points.find point = some p ∧
    p.phase = .loss ∧
    stamp ≤ (s.tick dt).tb ∧
    (∀ c, p.lastCross = some c → 12000000 * 65536 ≤ stamp - c) ∧
    s.pointDrains point = false ∧
    p.interval = some v :=
  ⟨0, 3, 0, { cfg := ⟨1, 0, [0], [1], 2, 20⟩, n := 2, zcMs := 20, phase := .loss, interval := some { startAt := 0, cycles := 0 } }, { startAt := 0, cycles := 0 }, { meter := { points := [(3, { cfg := ⟨1, 0, [0], [1], 2, 20⟩, n := 2, zcMs := 20, phase := .loss, interval := some { startAt := 0, cycles := 0 } })] } }, by decide, by decide, by decide, (fun c h => by cases h), by decide, by decide⟩

theorem wit_MeteringSamplesCyclesAndPulses_9 : ∃ (dt point : Nat) (stamp : Int) (s : State),
    (∀ p, s.meter.points.find point = some p → p.phase = .disabled ∨ (s.tick dt).tb < stamp ∨ ∃ c, p.lastCross = some c ∧ stamp - c < 12000000 * 65536) :=
  ⟨0, 0, 0, {}, fun p h => by cases h⟩

theorem wit_MeteringSamplesCyclesAndPulses_10 : ∃ (dt point : Nat) (p : MtrPoint) (s : State),
    s.meter.points.find point = some p ∧
    (p.phase = .normal ∨ p.phase = .start) ∧
    p.zcSince + p.zcMs * cycMs ≤ (s.tick dt).now ∧
    s.pointDrains point = false :=
  ⟨10000000, 3, { cfg := ⟨1, 0, [0], [1], 2, 20⟩, n := 2, zcMs := 20, phase := .normal }, { meter := { points := [(3, { cfg := ⟨1, 0, [0], [1], 2, 20⟩, n := 2, zcMs := 20, phase := .normal })] } }, by decide, by decide, by decide, by decide⟩

theorem wit_MeteringSamplesCyclesAndPulses_11 : ∃ (dt point : Nat) (s : State),
    (∀ p, s.meter.points.find point = some p → p.phase = .disabled ∨ (s.tick dt).now < p.zcSince + p.zcMs * cycMs ∨ (p.phase = .loss ∧ s.pointDrains point = false)) :=
  ⟨0, 0, {}, fun p h => by cases h⟩

theorem wit_MeteringSamplesCyclesAndPulses_12 : ∃ (dt channel : Nat) (s : State),
    (s.meter.channel channel).role = 3 ∧
    s.mtrLive channel = true ∧
    (s.meter.channel channel).auxSince + (s.meter.channel channel).auxMs * cycMs ≤ (s.tick dt).now :=
  ⟨50000000, 0, { meter := { channels := [(0, { role := 3, kg := [], zg := [] })] }, fns := [(0xB0000, { state := .enabled })] }, by decide, by decide, by decide⟩

theorem wit_MeteringSamplesCyclesAndPulses_13 : ∃ (dt channel : Nat) (s : State),
    ((s.meter.channel channel).role ≠ 3 ∨ s.mtrLive channel = false ∨ (s.tick dt).now < (s.meter.channel channel).auxSince + (s.meter.channel channel).auxMs * cycMs) :=
  ⟨0, 0, {}, Or.inr (Or.inl (by decide))⟩

theorem wit_MeteringSamplesCyclesAndPulses_14 : ∃ (dt c : Nat) (s : State),
    s.meter.rove = none ∧
    s.meter.roveSince + s.meter.rovePeriodMs * cycMs ≤ (s.tick dt).now ∧
    (s.tick dt).roveNext = some c :=
  ⟨2500000000, 0, { meter := { channels := [(0, { role := 1, rove := true, kg := [], zg := [] })] }, fns := [(0xB0000, { state := .enabled })] }, by decide, by decide, by decide⟩

theorem wit_MeteringSamplesCyclesAndPulses_16 : ∃ (dt : Nat) (s : State),
    (s.meter.rove.isSome = true ∨ (s.tick dt).now < s.meter.roveSince + s.meter.rovePeriodMs * cycMs ∨ (s.tick dt).roveNext = none) :=
  ⟨0, {}, Or.inr (Or.inl (by decide))⟩

theorem wit_MeteringSamplesCyclesAndPulses_17 : ∃ (dt : Nat) (r : RoveRun) (s : State),
    s.meter.rove = some r ∧
    r.step = .fit ∧
    r.since + 250 * cycMs ≤ (s.tick dt).now :=
  ⟨125000000, { channel := 0, step := .fit, since := 0 }, { meter := { rove := some { channel := 0, step := .fit, since := 0 } } }, by decide, by decide, by decide⟩

theorem wit_MeteringSamplesCyclesAndPulses_18 : ∃ (dt : Nat) (r : RoveRun) (s : State),
    s.meter.rove = some r ∧
    r.step = .selfCal ∧
    r.since + 400 * cycMs ≤ (s.tick dt).now :=
  ⟨200000000, { channel := 0, step := .selfCal, since := 0 }, { meter := { rove := some { channel := 0, step := .selfCal, since := 0 } } }, by decide, by decide, by decide⟩

theorem wit_MeteringSamplesCyclesAndPulses_19 : ∃ (dt : Nat) (r : RoveRun) (s : State),
    s.meter.rove = some r ∧
    r.step = .compare ∧
    r.since + 250 * cycMs ≤ (s.tick dt).now :=
  ⟨125000000, { channel := 0, step := .compare, since := 0 }, { meter := { rove := some { channel := 0, step := .compare, since := 0 } } }, by decide, by decide, by decide⟩

theorem wit_MeteringSamplesCyclesAndPulses_20 : ∃ (dt : Nat) (r : RoveRun) (s : State),
    s.meter.rove = some r ∧
    r.step = .settle ∧
    r.since + 100 * cycMs ≤ (s.tick dt).now :=
  ⟨50000000, { channel := 0, step := .settle, since := 0 }, { meter := { rove := some { channel := 0, step := .settle, since := 0 } } }, by decide, by decide, by decide⟩

theorem wit_MeteringSamplesCyclesAndPulses_21 : ∃ (dt : Nat) (s : State),
    (s.meter.rove = none ∨ ∃ r, s.meter.rove = some r ∧ (r.step ≠ .settle ∨ (s.tick dt).now < r.since + 100 * cycMs)) :=
  ⟨0, {}, Or.inl rfl⟩

theorem wit_MeteringSamplesCyclesAndPulses_22 : ∃ (dt output : Nat) (x : Instant) (es : List Instant) (s : State),
    s.enabled 0x0D output = true ∧
    (s.meter.pulses.getD output {}).edges = x :: es ∧
    x ≤ (s.tick dt).tb ∧
    (s.meter.pulses.getD output {}).driving = false ∧
    (s.meter.pulses.getD output {}).gapping = false ∧
    (s.meter.pulses.getD output {}).backlog = 0 :=
  ⟨0, 0, 0, [], { meter := { pulses := [(0, { edges := [0] })] }, fns := [(0xD0000, { state := .enabled })] }, by decide, by decide, by decide, by decide, by decide, by decide⟩

theorem wit_MeteringSamplesCyclesAndPulses_23 : ∃ (dt output : Nat) (x : Instant) (es : List Instant) (s : State),
    s.enabled 0x0D output = true ∧
    (s.meter.pulses.getD output {}).edges = x :: es ∧
    x ≤ (s.tick dt).tb ∧
    (s.meter.pulses.getD output {}).driving = true :=
  ⟨0, 0, 0, [], { meter := { pulses := [(0, { edges := [0], driving := true })] }, fns := [(0xD0000, { state := .enabled })] }, by decide, by decide, by decide, by decide⟩

theorem wit_MeteringSamplesCyclesAndPulses_24 : ∃ (dt output : Nat) (s : State),
    (s.enabled 0x0D output = false ∨ (s.meter.pulses.getD output {}).edges = [] ∨ ∃ x ∈ (s.meter.pulses.getD output {}).edges.head?, (s.tick dt).tb < x) :=
  ⟨0, 0, {}, Or.inl (by decide)⟩

theorem wit_MeteringSamplesCyclesAndPulses_25 : ∃ (dt output : Nat) (s : State),
    (s.meter.pulses.getD output {}).driving = true ∧
    (s.meter.pulses.getD output {}).edgeAt + (s.meter.pulses.getD output {}).widthMs * cycMs ≤ (s.tick dt).now :=
  ⟨500000, 0, { meter := { pulses := [(0, { driving := true })] } }, by decide, by decide⟩

theorem wit_MeteringSamplesCyclesAndPulses_26 : ∃ (dt output : Nat) (s : State),
    ((s.meter.pulses.getD output {}).driving = false ∨ (s.tick dt).now < (s.meter.pulses.getD output {}).edgeAt + (s.meter.pulses.getD output {}).widthMs * cycMs) :=
  ⟨0, 0, {}, by decide⟩

theorem wit_MeteringSamplesCyclesAndPulses_27 : ∃ (dt output : Nat) (s : State),
    (s.meter.pulses.getD output {}).gapping = true ∧
    (s.meter.pulses.getD output {}).endAt + (s.meter.pulses.getD output {}).gapMs * cycMs ≤ (s.tick dt).now ∧
    (s.meter.pulses.getD output {}).backlog ≠ 0 ∧
    s.enabled 0x0D output = true :=
  ⟨500000, 0, { meter := { pulses := [(0, { gapping := true, backlog := 2 })] }, fns := [(0xD0000, { state := .enabled })] }, by decide, by decide, by decide, by decide⟩

theorem wit_MeteringSamplesCyclesAndPulses_28 : ∃ (dt output : Nat) (s : State),
    (s.meter.pulses.getD output {}).gapping = true ∧
    (s.meter.pulses.getD output {}).endAt + (s.meter.pulses.getD output {}).gapMs * cycMs ≤ (s.tick dt).now ∧
    ((s.meter.pulses.getD output {}).backlog = 0 ∨ s.enabled 0x0D output = false) :=
  ⟨500000, 0, { meter := { pulses := [(0, { gapping := true })] } }, by decide, by decide, by decide⟩

theorem wit_MeteringSamplesCyclesAndPulses_29 : ∃ (dt output : Nat) (s : State),
    ((s.meter.pulses.getD output {}).gapping = false ∨ (s.tick dt).now < (s.meter.pulses.getD output {}).endAt + (s.meter.pulses.getD output {}).gapMs * cycMs) :=
  ⟨0, 0, {}, by decide⟩

theorem wit_MeteringCommands_1 : ∃ (dt m : Nat) (s t : State) (e : ExecReq) (c : Ctx) (p : Bytes),
    Running mtrChannelSpec m dt s e c t p ∧
    ((t.meter.channel (fld p 0 1)).role = fld p 1 1 ∨ t.channelTied (fld p 0 1) = false) :=
  ⟨0, 0, ({ wst (wreq 0x0B01 0 (bytesLE 1 0 ++ bytesLE 1 1 ++ bytesLE 1 1 ++ bytesLE 1 1 ++ bytesLE 4 0x3F800000 ++ zeros 8)) with meter := { channels := [(0, { role := 1, kg := [], zg := [] }), (1, { role := 2, kg := [], zg := [] })] } } : State), _, { mbx := 0, req := (wreq 0x0B01 0 (bytesLE 1 0 ++ bytesLE 1 1 ++ bytesLE 1 1 ++ bytesLE 1 1 ++ bytesLE 4 0x3F800000 ++ zeros 8)), dbPos := 0, role := 2, poison := false }, _, _, ⟨rfl, by decide, rfl, rfl, rfl, rfl, by decide, by decide⟩, by decide⟩

theorem wit_MeteringCommands_2 : ∃ (dt m : Nat) (s t : State) (e : ExecReq) (c : Ctx) (p : Bytes),
    Running mtrChannelSpec m dt s e c t p ∧
    (t.meter.channel (fld p 0 1)).role ≠ fld p 1 1 ∧
    t.channelTied (fld p 0 1) = true :=
  ⟨0, 0, ({ wst (wreq 0x0B01 0 (bytesLE 1 0 ++ bytesLE 1 1 ++ bytesLE 1 1 ++ bytesLE 1 1 ++ bytesLE 4 0x3F800000 ++ zeros 8)) with meter := { channels := [(0, { role := 2, kg := [], zg := [] })], points := [(3, { cfg := ⟨1, 0, [0], [1], 2, 20⟩, n := 2, zcMs := 20, phase := .normal })] }, fns := [(0xC0003, { state := .enabled })] } : State), _, { mbx := 0, req := (wreq 0x0B01 0 (bytesLE 1 0 ++ bytesLE 1 1 ++ bytesLE 1 1 ++ bytesLE 1 1 ++ bytesLE 4 0x3F800000 ++ zeros 8)), dbPos := 0, role := 2, poison := false }, _, _, ⟨rfl, by decide, rfl, rfl, rfl, rfl, by decide, by decide⟩, by decide, by decide⟩

theorem wit_MeteringCommands_3 : ∃ (dt m : Nat) (s t : State) (e : ExecReq) (c : Ctx) (p : Bytes),
    Running mtrPointSpec m dt s e c t p ∧
    fld p 1 1 ≠ 0 ∧
    t.meter.pointConflict (fld p 0 1) (pointCfgOf p) = false ∧
    t.meter.points.find (fld p 0 1) = none ∧
    t.enabled 0x0C (fld p 0 1) = false :=
  ⟨0, 0, ({ wst (wreq 0x0B02 0 (bytesLE 1 3 ++ bytesLE 1 1 ++ zeros 2 ++ bytesLE 1 0 ++ bytesLE 2 0xFFFF ++ bytesLE 1 1 ++ bytesLE 2 0xFFFF ++ bytesLE 2 5 ++ zeros 4)) with meter := { channels := [(0, { role := 1, kg := [], zg := [] }), (1, { role := 2, kg := [], zg := [] })] } } : State), _, { mbx := 0, req := (wreq 0x0B02 0 (bytesLE 1 3 ++ bytesLE 1 1 ++ zeros 2 ++ bytesLE 1 0 ++ bytesLE 2 0xFFFF ++ bytesLE 1 1 ++ bytesLE 2 0xFFFF ++ bytesLE 2 5 ++ zeros 4)), dbPos := 0, role := 2, poison := false }, _, _, ⟨rfl, by decide, rfl, rfl, rfl, rfl, by decide, by decide⟩, by decide, by decide, by decide, by decide⟩

theorem wit_MeteringCommands_4 : ∃ (dt m : Nat) (s t : State) (e : ExecReq) (c : Ctx) (p : Bytes) (x : MtrPoint),
    Running mtrPointSpec m dt s e c t p ∧
    fld p 1 1 ≠ 0 ∧
    t.meter.pointConflict (fld p 0 1) (pointCfgOf p) = false ∧
    t.meter.points.find (fld p 0 1) = some x ∧
    x.phase = .normal ∧
    x.cfg.sameChannels (pointCfgOf p) = false :=
  ⟨0, 0, ({ wst (wreq 0x0B02 0 (bytesLE 1 3 ++ bytesLE 1 1 ++ zeros 2 ++ bytesLE 1 0 ++ bytesLE 2 0xFFFF ++ bytesLE 1 1 ++ bytesLE 2 0xFFFF ++ bytesLE 2 5 ++ zeros 4)) with meter := { channels := [(0, { role := 1, kg := [], zg := [] }), (1, { role := 2, kg := [], zg := [] })], points := [(3, { cfg := ⟨1, 0, [0], [2], 2, 20⟩, n := 2, zcMs := 20, phase := .normal })] } } : State), _, { mbx := 0, req := (wreq 0x0B02 0 (bytesLE 1 3 ++ bytesLE 1 1 ++ zeros 2 ++ bytesLE 1 0 ++ bytesLE 2 0xFFFF ++ bytesLE 1 1 ++ bytesLE 2 0xFFFF ++ bytesLE 2 5 ++ zeros 4)), dbPos := 0, role := 2, poison := false }, _, _, { cfg := ⟨1, 0, [0], [2], 2, 20⟩, n := 2, zcMs := 20, phase := .normal }, ⟨rfl, by decide, rfl, rfl, rfl, rfl, by decide, by decide⟩, by decide, by decide, by decide, by decide, by decide⟩

theorem wit_MeteringCommands_5 : ∃ (dt m : Nat) (s t : State) (e : ExecReq) (c : Ctx) (p : Bytes),
    Running mtrPointSpec m dt s e c t p ∧
    fld p 1 1 = 0 ∧
    (t.meter.points.has (fld p 0 1) = false ∨ t.enabled 0x0C (fld p 0 1) = false) :=
  ⟨0, 0, (wst (wreq 0x0B02 0 (zeros 16)) : State), _, { mbx := 0, req := (wreq 0x0B02 0 (zeros 16)), dbPos := 0, role := 2, poison := false }, _, _, ⟨rfl, by decide, rfl, rfl, rfl, rfl, by decide, by decide⟩, by decide, by decide⟩

theorem wit_MeteringCommands_6 : ∃ (dt m : Nat) (s t : State) (e : ExecReq) (c : Ctx) (p : Bytes),
    Running mtrPointSpec m dt s e c t p ∧
    fld p 1 1 = 0 ∧
    t.meter.points.has (fld p 0 1) = true ∧
    t.enabled 0x0C (fld p 0 1) = true :=
  ⟨0, 0, ({ wst (wreq 0x0B02 0 (zeros 16)) with meter := { points := [(0, { cfg := ⟨1, 0, [0], [1], 2, 20⟩, n := 2, zcMs := 20, phase := .normal })] }, fns := [(0xC0000, { state := .enabled })] } : State), _, { mbx := 0, req := (wreq 0x0B02 0 (zeros 16)), dbPos := 0, role := 2, poison := false }, _, _, ⟨rfl, by decide, rfl, rfl, rfl, rfl, by decide, by decide⟩, by decide, by decide, by decide⟩

theorem wit_MeteringCommands_7 : ∃ (dt m : Nat) (s t : State) (e : ExecReq) (c : Ctx) (p : Bytes),
    Running mtrPointSpec m dt s e c t p ∧
    fld p 1 1 ≠ 0 ∧
    t.meter.pointConflict (fld p 0 1) (pointCfgOf p) = true :=
  ⟨0, 0, ({ wst (wreq 0x0B02 0 (bytesLE 1 3 ++ bytesLE 1 1 ++ zeros 2 ++ bytesLE 1 0 ++ bytesLE 2 0xFFFF ++ bytesLE 1 1 ++ bytesLE 2 0xFFFF ++ bytesLE 2 5 ++ zeros 4)) with meter := { channels := [(0, { role := 2, kg := [], zg := [] })] } } : State), _, { mbx := 0, req := (wreq 0x0B02 0 (bytesLE 1 3 ++ bytesLE 1 1 ++ zeros 2 ++ bytesLE 1 0 ++ bytesLE 2 0xFFFF ++ bytesLE 1 1 ++ bytesLE 2 0xFFFF ++ bytesLE 2 5 ++ zeros 4)), dbPos := 0, role := 2, poison := false }, _, _, ⟨rfl, by decide, rfl, rfl, rfl, rfl, by decide, by decide⟩, by decide, by decide⟩

theorem wit_MeteringCommands_8 : ∃ (dt m : Nat) (s t : State) (e : ExecReq) (c : Ctx) (p : Bytes) (x : MtrPoint),
    Running mtrPresetSpec m dt s e c t p ∧
    t.auditFull = false ∧
    t.meter.points.find (fld p 0 1) = some x :=
  ⟨0, 0, ({ wstR 3 (wreq 0x0B03 0 (zeros 16)) with meter := { points := [(0, { cfg := ⟨1, 0, [0], [1], 2, 20⟩, n := 2, zcMs := 20, phase := .normal })] } } : State), _, { mbx := 0, req := (wreq 0x0B03 0 (zeros 16)), dbPos := 0, role := 3, poison := false }, _, _, { cfg := ⟨1, 0, [0], [1], 2, 20⟩, n := 2, zcMs := 20, phase := .normal }, ⟨rfl, by decide, rfl, rfl, rfl, rfl, by decide, by decide⟩, by decide, by decide⟩

theorem wit_MeteringCommands_9 : ∃ (dt m : Nat) (s t : State) (e : ExecReq) (c : Ctx) (p : Bytes),
    Running mtrPresetSpec m dt s e c t p ∧
    t.auditFull = false ∧
    t.meter.points.find (fld p 0 1) = none :=
  ⟨0, 0, (wstR 3 (wreq 0x0B03 0 (zeros 16)) : State), _, { mbx := 0, req := (wreq 0x0B03 0 (zeros 16)), dbPos := 0, role := 3, poison := false }, _, _, ⟨rfl, by decide, rfl, rfl, rfl, rfl, by decide, by decide⟩, by decide, by decide⟩

theorem wit_MeteringCommands_10 : ∃ (dt m : Nat) (s t : State) (e : ExecReq) (c : Ctx) (p : Bytes),
    Running mtrPulseSetSpec m dt s e c t p ∧
    t.meter.points.has (fld p 1 1) = true :=
  ⟨0, 0, ({ wst (wreq 0x0B04 0 (zeros 4 ++ bytesLE 4 1 ++ bytesLE 2 1 ++ bytesLE 2 1 ++ zeros 4)) with meter := { points := [(0, { cfg := ⟨1, 0, [0], [1], 2, 20⟩, n := 2, zcMs := 20, phase := .normal })] } } : State), _, { mbx := 0, req := (wreq 0x0B04 0 (zeros 4 ++ bytesLE 4 1 ++ bytesLE 2 1 ++ bytesLE 2 1 ++ zeros 4)), dbPos := 0, role := 2, poison := false }, _, _, ⟨rfl, by decide, rfl, rfl, rfl, rfl, by decide, by decide⟩, by decide⟩

theorem wit_MeteringCommands_11 : ∃ (dt m : Nat) (s t : State) (e : ExecReq) (c : Ctx) (p : Bytes),
    Running mtrPulseSetSpec m dt s e c t p ∧
    t.meter.points.has (fld p 1 1) = false :=
  ⟨0, 0, (wst (wreq 0x0B04 0 (zeros 4 ++ bytesLE 4 1 ++ bytesLE 2 1 ++ bytesLE 2 1 ++ zeros 4)) : State), _, { mbx := 0, req := (wreq 0x0B04 0 (zeros 4 ++ bytesLE 4 1 ++ bytesLE 2 1 ++ bytesLE 2 1 ++ zeros 4)), dbPos := 0, role := 2, poison := false }, _, _, ⟨rfl, by decide, rfl, rfl, rfl, rfl, by decide, by decide⟩, by decide⟩

theorem wit_MeteringCommands_12 : ∃ (dt m : Nat) (s t : State) (e : ExecReq) (c : Ctx) (p : Bytes),
    Running mtrRoveSetSpec m dt s e c t p :=
  ⟨0, 0, (wst (wreq 0x0B05 0 (zeros 8)) : State), _, { mbx := 0, req := (wreq 0x0B05 0 (zeros 8)), dbPos := 0, role := 2, poison := false }, _, _, ⟨rfl, by decide, rfl, rfl, rfl, rfl, by decide, by decide⟩⟩

theorem wit_MeteringCommands_13 : ∃ (dt m : Nat) (s t : State) (e : ExecReq) (c : Ctx) (p : Bytes),
    Running mtrPulseStatusSpec m dt s e c t p :=
  ⟨0, 0, (wst (wreq 0x0B13 0 (zeros 8)) : State), _, { mbx := 0, req := (wreq 0x0B13 0 (zeros 8)), dbPos := 0, role := 2, poison := false }, _, _, ⟨rfl, by decide, rfl, rfl, rfl, rfl, by decide, by decide⟩⟩

theorem wit_MeteringCommands_14 : ∃ (dt m : Nat) (s t : State) (e : ExecReq) (c : Ctx) (p : Bytes) (x : MtrPoint) (r : LatchRec),
    Running mtrLatchReadSpec m dt s e c t p ∧
    t.meter.points.find (fld p 0 1) = some x ∧
    (if fld p 4 4 = 0xFFFFFFFF then x.recs.head? else x.recs.find? (·.seq == fld p 4 4)) = some r :=
  ⟨0, 0, ({ wst (wreq 0x0B10 0 (bytesLE 4 0 ++ bytesLE 4 9)) with meter := { points := [(0, { cfg := ⟨1, 0, [0], [1], 2, 20⟩, n := 2, zcMs := 20, recs := [⟨9, 1, 0, 0, 0, 2, 50000, [], [], []⟩] })] } } : State), _, { mbx := 0, req := (wreq 0x0B10 0 (bytesLE 4 0 ++ bytesLE 4 9)), dbPos := 0, role := 2, poison := false }, _, _, { cfg := ⟨1, 0, [0], [1], 2, 20⟩, n := 2, zcMs := 20, recs := [⟨9, 1, 0, 0, 0, 2, 50000, [], [], []⟩] }, ⟨9, 1, 0, 0, 0, 2, 50000, [], [], []⟩, ⟨rfl, by decide, rfl, rfl, rfl, rfl, by decide, by decide⟩, by decide, by decide⟩

theorem wit_MeteringCommands_15 : ∃ (dt m : Nat) (s t : State) (e : ExecReq) (c : Ctx) (p : Bytes) (x : MtrPoint),
    Running mtrLatchReadSpec m dt s e c t p ∧
    t.meter.points.find (fld p 0 1) = some x ∧
    (if fld p 4 4 = 0xFFFFFFFF then x.recs.head? else x.recs.find? (·.seq == fld p 4 4)) = none :=
  ⟨0, 0, ({ wst (wreq 0x0B10 0 (bytesLE 4 0 ++ bytesLE 4 8)) with meter := { points := [(0, { cfg := ⟨1, 0, [0], [1], 2, 20⟩, n := 2, zcMs := 20, recs := [⟨9, 1, 0, 0, 0, 2, 50000, [], [], []⟩] })] } } : State), _, { mbx := 0, req := (wreq 0x0B10 0 (bytesLE 4 0 ++ bytesLE 4 8)), dbPos := 0, role := 2, poison := false }, _, _, { cfg := ⟨1, 0, [0], [1], 2, 20⟩, n := 2, zcMs := 20, recs := [⟨9, 1, 0, 0, 0, 2, 50000, [], [], []⟩] }, ⟨rfl, by decide, rfl, rfl, rfl, rfl, by decide, by decide⟩, by decide, by decide⟩

theorem wit_MeteringCommands_16 : ∃ (dt m : Nat) (s t : State) (e : ExecReq) (c : Ctx) (p : Bytes) (x : MtrPoint),
    Running mtrCycleReadSpec m dt s e c t p ∧
    t.meter.points.find (fld p 0 1) = some x :=
  ⟨0, 0, ({ wst (wreq 0x0B11 0 (zeros 8)) with meter := { points := [(0, { cfg := ⟨1, 0, [0], [1], 2, 20⟩, n := 2, zcMs := 20, phase := .normal })] } } : State), _, { mbx := 0, req := (wreq 0x0B11 0 (zeros 8)), dbPos := 0, role := 2, poison := false }, _, _, { cfg := ⟨1, 0, [0], [1], 2, 20⟩, n := 2, zcMs := 20, phase := .normal }, ⟨rfl, by decide, rfl, rfl, rfl, rfl, by decide, by decide⟩, by decide⟩

theorem wit_MeteringCommands_17 : ∃ (dt m : Nat) (s t : State) (e : ExecReq) (c : Ctx) (p : Bytes),
    Running mtrCycleReadSpec m dt s e c t p ∧
    t.meter.points.find (fld p 0 1) = none :=
  ⟨0, 0, (wst (wreq 0x0B11 0 (zeros 8)) : State), _, { mbx := 0, req := (wreq 0x0B11 0 (zeros 8)), dbPos := 0, role := 2, poison := false }, _, _, ⟨rfl, by decide, rfl, rfl, rfl, rfl, by decide, by decide⟩, by decide⟩

theorem wit_MeteringCommands_18 : ∃ (dt m : Nat) (s t : State) (e : ExecReq) (c : Ctx) (p : Bytes),
    Running mtrChannelStatusSpec m dt s e c t p :=
  ⟨0, 0, (wst (wreq 0x0B12 0 (zeros 8)) : State), _, { mbx := 0, req := (wreq 0x0B12 0 (zeros 8)), dbPos := 0, role := 2, poison := false }, _, _, ⟨rfl, by decide, rfl, rfl, rfl, rfl, by decide, by decide⟩⟩

theorem wit_MeteringCommands_19 : ∃ (dt m : Nat) (s t : State) (e : ExecReq) (c : Ctx) (p : Bytes),
    Running mtrCaptureSpec m dt s e c t p ∧
    t.enabled 0x0B (fld p 0 1) = true ∧
    t.acceptFail = none :=
  ⟨0, 0, ({ wst (wreq 0x0B20 0 (zeros 4 ++ bytesLE 4 5 ++ bytesLE 8 0x20000)) with fns := [(0xB0000, { state := .enabled })] } : State), _, { mbx := 0, req := (wreq 0x0B20 0 (zeros 4 ++ bytesLE 4 5 ++ bytesLE 8 0x20000)), dbPos := 0, role := 2, poison := false }, _, _, ⟨rfl, by decide, rfl, rfl, rfl, rfl, by decide, by decide⟩, by decide, by decide⟩

theorem wit_MeteringCommands_20 : ∃ (dt m : Nat) (s t : State) (e : ExecReq) (c : Ctx) (p : Bytes),
    Running mtrCaptureSpec m dt s e c t p ∧
    t.enabled 0x0B (fld p 0 1) = false :=
  ⟨0, 0, (wst (wreq 0x0B20 0 (zeros 4 ++ bytesLE 4 5 ++ bytesLE 8 0x20000)) : State), _, { mbx := 0, req := (wreq 0x0B20 0 (zeros 4 ++ bytesLE 4 5 ++ bytesLE 8 0x20000)), dbPos := 0, role := 2, poison := false }, _, _, ⟨rfl, by decide, rfl, rfl, rfl, rfl, by decide, by decide⟩, by decide⟩

theorem wit_MeteringCommands_21 : ∃ (op : Nat) (r : MtrCaptureRun) (s : State),
    Memory.wf s.mem = true ∧
    s.meter.captures.find? (·.op == op) = some r ∧
    r.left = 0 :=
  ⟨4, ⟨4, 0, 0x20000, 0, [5], some 0, 0⟩, { meter := { captures := [⟨4, 0, 0x20000, 0, [5], some 0, 0⟩] } }, by decide, by decide, by decide⟩

theorem wit_MeteringCommands_22 : ∃ (op : Nat) (s : State),
    (∀ r, s.meter.captures.find? (·.op == op) = some r → r.left ≠ 0) :=
  ⟨0, {}, fun r h => by cases h⟩

theorem wit_CountersTraceAndHeartbeat_1 : ∃ (dt m : Nat) (s t : State) (e : ExecReq) (c : Ctx) (p : Bytes) (x : Session),
    Running counterAccessSpec m dt s e c t p ∧
    t.host.sessions.find c.session = some x :=
  ⟨0, 0, (wst (wreq 0x0C01 0 (bytesLE 8 1)) : State), _, { mbx := 0, req := (wreq 0x0C01 0 (bytesLE 8 1)), dbPos := 0, role := 2, poison := false }, _, _, { role := 2, idle := 0, lastNamed := 0 }, ⟨rfl, by decide, rfl, rfl, rfl, rfl, by decide, by decide⟩, by decide⟩

theorem wit_CountersTraceAndHeartbeat_2 : ∃ (dt m : Nat) (s t : State) (e : ExecReq) (c : Ctx) (p : Bytes),
    Running counterConfigSpec m dt s e c t p ∧
    fld p 0 1 < 0x44 ∧
    eventSuits (fld p 0 1) (fld p 2 1) = true ∧
    (bit (fld p 3 1) 0 = false ∨ fld p 1 1 % 2 = 0) ∧
    t.unitOn (fld p 0 1) = true ∧
    fld p 1 1 < 8 ∧
    (t.unit (fld p 0 1)).progs.length = 8 :=
  ⟨0, 0, ({ wst (wreq 0x0C02 0 (bytesLE 1 5 ++ bytesLE 1 2 ++ bytesLE 1 0 ++ bytesLE 1 2 ++ zeros 4)) with render := { reader := { units := [(5, { progs := List.replicate 8 {} })] } }, fns := [(0x90005, { state := .enabled })] } : State), _, { mbx := 0, req := (wreq 0x0C02 0 (bytesLE 1 5 ++ bytesLE 1 2 ++ bytesLE 1 0 ++ bytesLE 1 2 ++ zeros 4)), dbPos := 0, role := 2, poison := false }, _, _, ⟨rfl, by decide, rfl, rfl, rfl, rfl, by decide, by decide⟩, by decide, by decide, by decide, by decide, by decide, by decide⟩

theorem wit_CountersTraceAndHeartbeat_3 : ∃ (dt m : Nat) (s t : State) (e : ExecReq) (c : Ctx) (p : Bytes),
    Running counterConfigSpec m dt s e c t p ∧
    fld p 0 1 < 0x44 ∧
    eventSuits (fld p 0 1) (fld p 2 1) = true ∧
    (bit (fld p 3 1) 0 = false ∨ fld p 1 1 % 2 = 0) ∧
    t.unitOn (fld p 0 1) = false :=
  ⟨0, 0, (wst (wreq 0x0C02 0 (bytesLE 1 5 ++ bytesLE 1 2 ++ bytesLE 1 0 ++ bytesLE 1 2 ++ zeros 4)) : State), _, { mbx := 0, req := (wreq 0x0C02 0 (bytesLE 1 5 ++ bytesLE 1 2 ++ bytesLE 1 0 ++ bytesLE 1 2 ++ zeros 4)), dbPos := 0, role := 2, poison := false }, _, _, ⟨rfl, by decide, rfl, rfl, rfl, rfl, by decide, by decide⟩, by decide, by decide, by decide, by decide⟩

theorem wit_CountersTraceAndHeartbeat_4 : ∃ (dt m : Nat) (s t : State) (e : ExecReq) (c : Ctx) (p : Bytes),
    Running counterConfigSpec m dt s e c t p ∧
    fld p 0 1 = 0xFF ∧
    eventSuits 0xFF (fld p 2 1) = true ∧
    (bit (fld p 3 1) 0 = false ∨ fld p 1 1 % 2 = 0) ∧
    fld p 1 1 < 8 :=
  ⟨0, 0, (wst (wreq 0x0C02 0 (bytesLE 1 0xFF ++ bytesLE 1 2 ++ bytesLE 1 0 ++ bytesLE 1 2 ++ zeros 4)) : State), _, { mbx := 0, req := (wreq 0x0C02 0 (bytesLE 1 0xFF ++ bytesLE 1 2 ++ bytesLE 1 0 ++ bytesLE 1 2 ++ zeros 4)), dbPos := 0, role := 2, poison := false }, _, _, ⟨rfl, by decide, rfl, rfl, rfl, rfl, by decide, by decide⟩, by decide, by decide, by decide, by decide⟩

theorem wit_CountersTraceAndHeartbeat_5 : ∃ (dt m : Nat) (s t : State) (e : ExecReq) (c : Ctx) (p : Bytes),
    Running counterConfigSpec m dt s e c t p ∧
    (eventSuits (fld p 0 1) (fld p 2 1) = false ∨ (bit (fld p 3 1) 0 = true ∧ fld p 1 1 % 2 = 1)) :=
  ⟨0, 0, (wst (wreq 0x0C02 0 (bytesLE 1 5 ++ bytesLE 1 2 ++ bytesLE 1 0x80 ++ bytesLE 1 2 ++ zeros 4)) : State), _, { mbx := 0, req := (wreq 0x0C02 0 (bytesLE 1 5 ++ bytesLE 1 2 ++ bytesLE 1 0x80 ++ bytesLE 1 2 ++ zeros 4)), dbPos := 0, role := 2, poison := false }, _, _, ⟨rfl, by decide, rfl, rfl, rfl, rfl, by decide, by decide⟩, by decide⟩

theorem wit_CountersTraceAndHeartbeat_6 : ∃ (dt m : Nat) (s t : State) (e : ExecReq) (c : Ctx) (p : Bytes),
    Running counterDumpSpec m dt s e c t p ∧
    fld p 0 1 = 1 ∧
    t.render.reader.valid = true :=
  ⟨0, 0, ({ wst (wreq 0x0C03 0 (bytesLE 8 1 ++ bytesLE 8 0x20000)) with render := { reader := { valid := true } } } : State), _, { mbx := 0, req := (wreq 0x0C03 0 (bytesLE 8 1 ++ bytesLE 8 0x20000)), dbPos := 0, role := 2, poison := false }, _, _, ⟨rfl, by decide, rfl, rfl, rfl, rfl, by decide, by decide⟩, by decide, by decide⟩

theorem wit_CountersTraceAndHeartbeat_7 : ∃ (dt m : Nat) (s t : State) (e : ExecReq) (c : Ctx) (p : Bytes),
    Running counterDumpSpec m dt s e c t p ∧
    fld p 0 1 = 1 ∧
    t.render.reader.valid = false :=
  ⟨0, 0, (wst (wreq 0x0C03 0 (bytesLE 8 1 ++ bytesLE 8 0x20000)) : State), _, { mbx := 0, req := (wreq 0x0C03 0 (bytesLE 8 1 ++ bytesLE 8 0x20000)), dbPos := 0, role := 2, poison := false }, _, _, ⟨rfl, by decide, rfl, rfl, rfl, rfl, by decide, by decide⟩, by decide, by decide⟩

theorem wit_CountersTraceAndHeartbeat_8 : ∃ (dt m : Nat) (s t : State) (e : ExecReq) (c : Ctx) (p : Bytes),
    Running counterDumpSpec m dt s e c t p ∧
    fld p 0 1 = 0 ∧
    t.render.reader.busy = false :=
  ⟨0, 0, (wst (wreq 0x0C03 0 (bytesLE 8 0 ++ bytesLE 8 0x20000)) : State), _, { mbx := 0, req := (wreq 0x0C03 0 (bytesLE 8 0 ++ bytesLE 8 0x20000)), dbPos := 0, role := 2, poison := false }, _, _, ⟨rfl, by decide, rfl, rfl, rfl, rfl, by decide, by decide⟩, by decide, by decide⟩

theorem wit_CountersTraceAndHeartbeat_9 : ∃ (dt m : Nat) (s t : State) (e : ExecReq) (c : Ctx) (p : Bytes),
    Running traceConfigSpec m dt s e c t p :=
  ⟨0, 0, (wst (wreq 0x0C10 0 (zeros 24)) : State), _, { mbx := 0, req := (wreq 0x0C10 0 (zeros 24)), dbPos := 0, role := 2, poison := false }, _, _, ⟨rfl, by decide, rfl, rfl, rfl, rfl, by decide, by decide⟩⟩

theorem wit_CountersTraceAndHeartbeat_10 : ∃ (dt m : Nat) (s t : State) (e : ExecReq) (c : Ctx) (p : Bytes),
    Running traceReadSpec m dt s e c t p ∧
    t.render.traceCount = t.render.traceBuf.length ∧
    t.render.traceCount < 2 ^ 32 ∧
    fld p 0 4 ≤ t.render.traceCount ∧
    regionOk (fld p 8 8) (16 * ((t.render.traceBuf.reverse.drop (fld p 0 4)).take (fld p 4 4)).length) = true :=
  ⟨0, 0, ({ wst (wreq 0x0C11 0 (bytesLE 4 0 ++ bytesLE 4 4 ++ bytesLE 8 0x20000)) with render := { traceBuf := [⟨1, 2, 1, 1, 3, 4, 0, 0⟩], traceCount := 1 } } : State), _, { mbx := 0, req := (wreq 0x0C11 0 (bytesLE 4 0 ++ bytesLE 4 4 ++ bytesLE 8 0x20000)), dbPos := 0, role := 2, poison := false }, _, _, ⟨rfl, by decide, rfl, rfl, rfl, rfl, by decide, by decide⟩, by decide, by decide, by decide, by decide⟩

theorem wit_CountersTraceAndHeartbeat_11 : ∃ (dt m : Nat) (s t : State) (e : ExecReq) (c : Ctx) (p : Bytes),
    Running renderStatusSpec m dt s e c t p ∧
    t.render.reel.granted.length = 4 :=
  ⟨0, 0, (wst (wreq 0x0C20 0 []) : State), _, { mbx := 0, req := (wreq 0x0C20 0 []), dbPos := 0, role := 2, poison := false }, _, _, ⟨rfl, by decide, rfl, rfl, rfl, rfl, by decide, by decide⟩, by decide⟩

theorem wit_CountersTraceAndHeartbeat_12 : ∃ (v i b : Nat) (s : State),
    s.accessOpen = true ∧
    s.render.reader.sel = v + 256 * i + 65536 * b ∧
    v < 256 ∧
    i < unitSize v ∧
    b < 2 ∧
    s.render.reader.freeze = false :=
  ⟨0x50, 8, 1, { host := { sessions := [(1, { role := 2, idle := 0, lastNamed := 0, counterAccess := true })] }, render := { reader := { sel := 0x50 + 256 * 8 + 65536 } } }, by decide, by decide, by decide, by decide, by decide, by decide⟩

theorem wit_CountersTraceAndHeartbeat_13 : ∃ (v i b : Nat) (s : State),
    s.accessOpen = true ∧
    s.render.reader.sel = v + 256 * i + 65536 * b ∧
    v < 256 ∧
    i < unitSize v ∧
    b < 2 ∧
    s.render.reader.freeze = true :=
  ⟨0x60, 1, 0, { host := { sessions := [(1, { role := 2, idle := 0, lastNamed := 0, counterAccess := true })] }, render := { reader := { sel := 0x60 + 256, freeze := true } } }, by decide, by decide, by decide, by decide, by decide, by decide⟩

theorem wit_CountersTraceAndHeartbeat_14 : ∃ (v i b : Nat) (s : State),
    s.accessOpen = true ∧
    s.render.reader.sel = v + 256 * i + 65536 * b ∧
    v < 256 ∧
    i < 256 ∧
    b < 2 ∧
    unitSize v ≤ i :=
  ⟨0x51, 0, 0, { host := { sessions := [(1, { role := 2, idle := 0, lastNamed := 0, counterAccess := true })] }, render := { reader := { sel := 0x51 } } }, by decide, by decide, by decide, by decide, by decide, by decide⟩

theorem wit_CountersTraceAndHeartbeat_15 : ∃ (s : State),
    s.accessOpen = false :=
  ⟨{}, by decide⟩

theorem wit_CountersTraceAndHeartbeat_16 : ∃ (s : State),
    s.accessOpen = true ∧
    s.render.reader.busy = false :=
  ⟨{ host := { sessions := [(1, { role := 2, idle := 0, lastNamed := 0, counterAccess := true })] } }, by decide, by decide⟩

theorem wit_CountersTraceAndHeartbeat_17 : ∃ (s : State),
    (s.accessOpen = false ∨ s.render.reader.busy = true) :=
  ⟨{}, by decide⟩

theorem wit_CountersTraceAndHeartbeat_18 : ∃ (s : State),
    s.accessOpen = true ∧
    s.render.reader.freeze = false :=
  ⟨{ host := { sessions := [(1, { role := 2, idle := 0, lastNamed := 0, counterAccess := true })] } }, by decide, by decide⟩

theorem wit_CountersTraceAndHeartbeat_19 : ∃ (s : State),
    s.accessOpen = false :=
  ⟨{}, by decide⟩

theorem wit_CountersTraceAndHeartbeat_20 : ∃ (s : State),
    s.render.reader.busy = true :=
  ⟨{ render := { reader := { busy := true } } }, by decide⟩

theorem wit_CountersTraceAndHeartbeat_21 : ∃ (s : State),
    s.render.reader.busy = false :=
  ⟨{}, by decide⟩

theorem wit_CountersTraceAndHeartbeat_22 : ∃ (dt unit counter e : Nat) (s : State),
    unit < 0x44 ∧
    counter < 8 ∧
    (s.unit unit).progs.length = 8 ∧
    (∀ j, ((s.unit unit).prog j).value < 2 ^ 48) ∧
    e = (s.unit unit).source counter ∧
    eventCounted e = false ∧
    (((s.unit unit).prog counter).chain = false ∨ counter % 2 = 1) ∧
    (s.unit unit).toWrap counter ≤ eventMost unit e ((s.tick dt).fifthsOf unit / 5) (s.render.held.any (·.cluster == unit)) ∧
    eventSuits unit e = true ∧
    (e = 5 → s.enabled 9 unit = true) ∧
    (s.icu.src 0xA3).count < 2 ^ 31 :=
  ⟨5, 5, 2, 1, ({ fns := [(0x90005, { state := .enabled })], render := { held := [⟨5, { kind := .phase1, frame := 1, index := 0 }, false⟩], reader := { units := [(5, { progs := List.replicate 8 { event := 1, value := 2 ^ 48 - 1 } })] } } } : State), by decide, by decide, by decide, fun j => match j with | 0 => by decide | 1 => by decide | 2 => by decide | 3 => by decide | 4 => by decide | 5 => by decide | 6 => by decide | 7 => by decide | _ + 8 => show (0 : Nat) < 2 ^ 48 by decide, by decide, by decide, by decide, by decide, by decide, by decide, by decide⟩

theorem wit_CountersTraceAndHeartbeat_23 : ∃ (unit counter : Nat) (s : State),
    (0x44 ≤ unit ∨ 8 ≤ counter ∨ eventCounted ((s.unit unit).source counter) = true) :=
  ⟨0, 0, {}, by decide⟩

theorem wit_CountersTraceAndHeartbeat_24 : ∃ (s : State),
    s.host.fwRestart = false ∧
    3 ≤ s.host.bootStage :=
  ⟨{ host := { bootStage := 3 } }, by decide, by decide⟩

theorem wit_CountersTraceAndHeartbeat_25 : ∃ (s : State),
    (s.host.fwRestart = true ∨ s.host.bootStage < 3) :=
  ⟨{}, by decide⟩

theorem wit_ZoetteLinks_1 : ∃ (link : Nat) (s : State),
    (s.group.link link).phase = .locking :=
  ⟨0, { group := { links := [(0, { phase := .locking })] } }, by decide⟩

theorem wit_ZoetteLinks_2 : ∃ (link : Nat) (s : State),
    (s.group.link link).phase ≠ .locking :=
  ⟨0, {}, by decide⟩

theorem wit_ZoetteLinks_3 : ∃ (h : Hello) (s : State),
    (s.group.link 0).phase = .hello ∧
    s.group.logical 0 = some 0 ∧
    h.digest = s.group.digest.take 16 ∧
    memberNum h.rank h.plane = s.group.farEnd 0 ∧
    15 ≤ (s.group.link 0).helloRx ∧
    16 ≤ h.helloRx :=
  ⟨({ uid := 5, rank := 1, plane := 0, link := 1, version := 1, helloRx := 20, digest := (({ record := bytesLE 1 1 ++ zeros 1 ++ bytesLE 1 2 ++ zeros 1 ++ bytesLE 1 0xFF ++ zeros 0x10B } : GroupState).digest).take 16 } : Hello), { group := { links := [(0, { phase := .hello, helloRx := 20 })], record := bytesLE 1 1 ++ zeros 1 ++ bytesLE 1 2 ++ zeros 1 ++ bytesLE 1 0xFF ++ zeros 0x10B } }, rfl, by decide, rfl, by decide, by decide, by decide⟩

theorem wit_ZoetteLinks_4 : ∃ (link : Nat) (h : Hello) (j : Nat) (s : State),
    (s.group.link link).phase = .hello ∧
    s.group.logical link = some j ∧
    h.digest = s.group.digest.take 16 ∧
    memberNum h.rank h.plane = s.group.farEnd j ∧
    ((s.group.link link).helloRx < 15 ∨ h.helloRx < 16) :=
  ⟨0, ({ uid := 5, rank := 1, plane := 0, link := 1, version := 1, helloRx := 2, digest := (({ record := bytesLE 1 1 ++ zeros 1 ++ bytesLE 1 2 ++ zeros 1 ++ bytesLE 1 0xFF ++ zeros 0x10B } : GroupState).digest).take 16 } : Hello), 0, { group := { links := [(0, { phase := .hello })], record := bytesLE 1 1 ++ zeros 1 ++ bytesLE 1 2 ++ zeros 1 ++ bytesLE 1 0xFF ++ zeros 0x10B } }, rfl, by decide, rfl, by decide, by decide⟩

theorem wit_ZoetteLinks_5 : ∃ (link : Nat) (s : State),
    ((s.group.link link).phase = .hello ∨ (s.group.link link).phase = .up) :=
  ⟨0, { group := { links := [(0, { phase := .hello, helloRx := 4 })] } }, by decide⟩

theorem wit_ZoetteLinks_6 : ∃ (link : Nat) (h : Hello) (s : State),
    ((s.group.link link).phase = .hello ∨ (s.group.link link).phase = .up) ∧
    (s.group.logical link = none ∨ (∃ j, s.group.logical link = some j ∧ memberNum h.rank h.plane ≠ s.group.farEnd j)) :=
  ⟨3, ⟨5, 1, 0, 1, 1, 20, [0]⟩, { group := { links := [(3, { phase := .up })] } }, by decide, Or.inl (by decide)⟩

theorem wit_ZoetteLinks_7 : ∃ (link : Nat) (s : State),
    ((s.group.link link).phase = .disabled ∨ (s.group.link link).phase = .locking) :=
  ⟨0, {}, by decide⟩

theorem wit_ZoetteLinks_8 : ∃ (dt link : Nat) (s : State),
    ((s.group.link link).phase = .hello ∨ ((s.group.link link).phase = .up ∧ (s.tick dt).now ≤ (s.group.link link).upAt + 100 * cycUs)) :=
  ⟨0, 0, { group := { links := [(0, { phase := .hello })] } }, by decide⟩

theorem wit_ZoetteLinks_9 : ∃ (dt link : Nat) (s : State),
    ((s.group.link link).phase = .disabled ∨ (s.group.link link).phase = .locking ∨ ((s.group.link link).phase = .up ∧ (s.group.link link).upAt + 100 * cycUs < (s.tick dt).now)) :=
  ⟨0, 0, {}, by decide⟩

theorem wit_ZoetteLinks_10 : ∃ (link : Nat) (s : State),
    (s.group.link link).phase = .up :=
  ⟨0, { group := { links := [(0, { phase := .up })] } }, by decide⟩

theorem wit_ZoetteLinks_11 : ∃ (link : Nat) (s : State),
    (s.group.link link).phase = .hello :=
  ⟨0, { group := { links := [(0, { phase := .hello })] } }, by decide⟩

theorem wit_ZoetteLinks_12 : ∃ (link : Nat) (s : State),
    ((s.group.link link).phase = .disabled ∨ (s.group.link link).phase = .locking) :=
  ⟨0, {}, by decide⟩

theorem wit_ZoetteLinks_13 : ∃ (link : Nat) (f : ZlkData) (s : State),
    (s.group.link link).phase = .up ∧
    f.crcOk = true ∧
    s.linkOpen = true ∧
    f.seq = ((s.group.link link).lastRx + 1) % 65536 :=
  ⟨0, { chan := 0, seq := 0, dest := 0x80, src := 1, len := 16, msg := .switchOff }, { group := { links := [(0, { phase := .up })] } }, by decide, by decide, by decide, by decide⟩

theorem wit_ZoetteLinks_14 : ∃ (link : Nat) (f : ZlkData) (s : State),
    (s.group.link link).phase = .up ∧
    f.crcOk = true ∧
    s.linkOpen = true ∧
    f.seq = ((s.group.link link).lastRx + 1) % 65536 ∧
    f.dest = 0x80 ∧
    (f.src = s.group.me ∨ (f.src, f.origin) ∈ s.group.seen) :=
  ⟨0, { chan := 0, seq := 0, dest := 0x80, src := 1, len := 16, msg := .switchOff }, { group := { links := [(0, { phase := .up })], seen := [(1, 0)] } }, by decide, by decide, by decide, by decide, by decide, by decide⟩

theorem wit_ZoetteLinks_15 : ∃ (link : Nat) (f : ZlkData) (s : State),
    (s.group.link link).phase = .up ∧
    (s.group.link link).nakSent = false ∧
    (f.crcOk = false ∨ f.seq ≠ ((s.group.link link).lastRx + 1) % 65536) :=
  ⟨0, { chan := 0, seq := 0, dest := 0x80, src := 1, len := 16, msg := .switchOff, crcOk := false }, { group := { links := [(0, { phase := .up })] } }, by decide, by decide, by decide⟩

theorem wit_ZoetteLinks_16 : ∃ (link : Nat) (s : State),
    (s.group.link link).phase ≠ .up :=
  ⟨0, {}, by decide⟩

theorem wit_ZoetteLinks_17 : ∃ (link : Nat) (s : State),
    (s.group.link link).phase = .up ∧
    (s.group.link link).waiting = [] :=
  ⟨0, { group := { links := [(0, { phase := .up, sent := [{ seq := 3, frame := none, sends := 1, at_ := 0 }], credits := [5, 5, 5, 5] })] } }, by decide, by decide⟩

theorem wit_ZoetteLinks_18 : ∃ (link : Nat) (s : State),
    (s.group.link link).phase ≠ .up :=
  ⟨0, {}, by decide⟩

theorem wit_ZoetteLinks_19 : ∃ (link ack : Nat) (s : State),
    (s.group.link link).phase = .up ∧
    (s.group.link link).waiting = [] ∧
    (∀ x ∈ ((s.group.link link).ackTo ack).sent, x.sends < 8) :=
  ⟨0, 2, { group := { links := [(0, { phase := .up, sent := [{ seq := 3, frame := none, sends := 1, at_ := 0 }] })] } }, by decide, by decide, by decide⟩

theorem wit_ZoetteLinks_20 : ∃ (link ack : Nat) (s : State),
    (s.group.link link).phase = .up ∧
    (∃ x ∈ ((s.group.link link).ackTo ack).sent, 8 ≤ x.sends) :=
  ⟨0, 2, { group := { links := [(0, { phase := .up, sent := [{ seq := 3, frame := none, sends := 8, at_ := 0 }] })] } }, by decide, ⟨{ seq := 3, frame := none, sends := 8, at_ := 0 }, by decide, by decide⟩⟩

theorem wit_ZoetteLinks_21 : ∃ (link seq ack : Nat) (s : State),
    (s.group.link link).phase = .up ∧
    s.linkOpen = true ∧
    seq = ((s.group.link link).lastRx + 1) % 65536 ∧
    (s.group.link link).waiting = [] ∧
    ((s.group.link link).ackTo ack).sent.length < zlkWindow :=
  ⟨0, _, 0, { group := { links := [(0, { phase := .up })] } }, by decide, by decide, rfl, by decide, by decide⟩

theorem wit_ZoetteLinks_22 : ∃ (link : Nat) (s : State),
    (s.group.link link).phase = .up ∧
    (s.group.link link).nakSent = false :=
  ⟨0, { group := { links := [(0, { phase := .up })] } }, by decide, by decide⟩

theorem wit_ZoetteLinks_24 : ∃ (dt link : Nat) (s : State),
    (s.group.link link).phase = .up ∧
    (∃ x ∈ (s.group.link link).sent, x.at_ + 4 * cycUs ≤ (s.tick dt).now) ∧
    (∀ x ∈ (s.group.link link).sent, x.sends < 8) :=
  ⟨2000, 0, { group := { links := [(0, { phase := .up, sent := [{ seq := 3, frame := none, sends := 1, at_ := 0 }] })] } }, by decide, ⟨{ seq := 3, frame := none, sends := 1, at_ := 0 }, by decide, by decide⟩, by decide⟩

theorem wit_ZoetteLinks_25 : ∃ (dt link : Nat) (s : State),
    ((s.group.link link).phase ≠ .up ∨ (∀ x ∈ (s.group.link link).sent, (s.tick dt).now < x.at_ + 4 * cycUs)) :=
  ⟨0, 0, {}, by decide⟩

theorem wit_GroupMembership_1 : ∃ (s : State),
    s.group.phase = .forming ∧
    s.host.mbxReady = true ∧
    s.group.presentA = 0 ∧
    s.group.presentB = 0 ∧
    (∀ w ∈ s.group.named, w = s.group.me ∨ s.group.heard.has w = true) ∧
    s.group.mode = 1 ∧
    s.group.ranks ≤ 16 :=
  ⟨{ group := { phase := .forming, heard := [(1, 0)], record := bytesLE 1 1 ++ zeros 1 ++ bytesLE 1 2 ++ zeros 1 ++ bytesLE 1 0xFF ++ zeros 0x10B }, host := { mbxReady := true } }, by decide, by decide, by decide, by decide, by decide, by decide, by decide⟩

theorem wit_GroupMembership_2 : ∃ (s : State),
    s.group.phase = .forming ∧
    s.host.mbxReady = true ∧
    s.group.presentA = 0 ∧
    s.group.presentB = 0 ∧
    (∀ w ∈ s.group.named, w = s.group.me ∨ s.group.heard.has w = true) ∧
    s.group.paired = true ∧
    s.group.rank < s.group.ranks ∧
    s.group.ranks ≤ 16 ∧
    s.group.plane ≤ 1 :=
  ⟨{ group := { phase := .forming, heard := [(16, 0)], record := bytesLE 1 2 ++ zeros 1 ++ bytesLE 1 1 ++ zeros 1 ++ bytesLE 1 0xFF ++ zeros 0x10B }, host := { mbxReady := true } }, by decide, by decide, by decide, by decide, by decide, by decide, by decide, by decide, by decide⟩

theorem wit_GroupMembership_3 : ∃ (s : State),
    (s.group.phase ≠ .forming ∨ s.host.mbxReady = false ∨ (∃ w ∈ s.group.named, w ≠ s.group.me ∧ s.group.heard.has w = false)) :=
  ⟨{}, Or.inl (by decide)⟩

theorem wit_GroupMembership_4 : ∃ (dt : Nat) (s : State),
    s.group.phase = .forming ∧
    s.host.mbxReady = true ∧
    s.group.presentA = 0 ∧
    s.group.presentB = 0 ∧
    (∃ w ∈ s.group.named, w ≠ s.group.me ∧ s.group.heard.has w = false) ∧
    4 * cycSec ≤ (s.tick dt).now ∧
    s.group.ranks ≤ 16 :=
  ⟨2000000000, { group := { phase := .forming, record := bytesLE 1 1 ++ zeros 1 ++ bytesLE 1 2 ++ zeros 1 ++ bytesLE 1 0xFF ++ zeros 0x10B }, host := { mbxReady := true } }, by decide, by decide, by decide, by decide, ⟨1, by decide, by decide, by decide⟩, by decide, by decide⟩

theorem wit_GroupMembership_5 : ∃ (dt : Nat) (s : State),
    (s.group.phase ≠ .forming ∨ s.host.mbxReady = false ∨ (s.tick dt).now < 4 * cycSec) :=
  ⟨0, {}, by decide⟩

theorem wit_GroupMembership_6 : ∃ (dt who : Nat) (s : State),
    s.group.live = true ∧
    s.group.isCoord = true ∧
    who ≠ s.group.me ∧
    who < 32 ∧
    s.group.present who = true ∧
    ((s.tick dt).reaches who = false ∨ (s.group.activeFor (who % 16) = who ∧ 3 ≤ s.group.missed.getD (who % 16) 0)) :=
  ⟨0, 1, { group := { phase := .formed, presentA := 3, coord := some 0, record := bytesLE 1 1 ++ zeros 1 ++ bytesLE 1 2 ++ zeros 1 ++ bytesLE 1 0xFF ++ zeros 0x10B } }, by decide, by decide, by decide, by decide, by decide, by decide⟩

theorem wit_GroupMembership_7 : ∃ (dt who : Nat) (s : State),
    (s.group.live = false ∨ s.group.isCoord = false ∨ who = s.group.me ∨ s.group.present who = false ∨ ((s.tick dt).reaches who = true ∧ s.group.missed.getD (who % 16) 0 < 3)) :=
  ⟨0, 0, {}, by decide⟩

theorem wit_GroupMembership_8 : ∃ (dt k : Nat) (s : State),
    s.group.live = true ∧
    s.group.coord = some k ∧
    s.group.isCoord = false ∧
    s.group.resync = false ∧
    (s.tick dt).reaches k = false ∧
    s.group.paired = false ∧
    s.group.asked = [] ∧
    (∀ w ∈ s.group.named, w ≠ s.group.me → s.group.present w = true → w % 16 ≠ k % 16 → (s.tick dt).reaches w = false) :=
  ⟨0, 1, { group := { phase := .formed, presentA := 3, coord := some 1, record := bytesLE 1 1 ++ zeros 1 ++ bytesLE 1 2 ++ zeros 1 ++ bytesLE 1 0xFF ++ zeros 0x10B } }, by decide, by decide, by decide, by decide, by decide, by decide, by decide, by decide⟩

theorem wit_GroupMembership_9 : ∃ (dt k j : Nat) (s : State),
    s.group.live = true ∧
    s.group.coord = some k ∧
    k < s.group.ranks ∧
    s.group.ranks ≤ 16 ∧
    s.group.isCoord = false ∧
    s.group.resync = false ∧
    (s.tick dt).reaches k = false ∧
    s.group.paired = false ∧
    s.group.plane = 0 ∧
    s.group.rank < s.group.ranks ∧
    j ∈ s.group.named ∧
    j ≠ s.group.me ∧
    s.group.present j = true ∧
    j ≠ k ∧
    (s.tick dt).reaches j = true :=
  ⟨0, 0, 2, { group := { phase := .formed, rank := 1, presentA := 7, coord := some 0, heard := [(2, 0)], record := bytesLE 1 1 ++ zeros 1 ++ bytesLE 1 3 ++ zeros 1 ++ bytesLE 1 0xFF ++ zeros 0x10B } }, by decide, by decide, by decide, by decide, by decide, by decide, by decide, by decide, by decide, by decide, by decide, by decide, by decide, by decide, by decide⟩

theorem wit_GroupMembership_10 : ∃ (s : State),
    (s.group.coord = none ∨ s.group.live = false ∨ s.group.isCoord = true ∨ s.group.resync = true) :=
  ⟨{}, by decide⟩

theorem wit_GroupMembership_11 : ∃ (dt k : Nat) (s : State),
    s.group.inGroup = true ∧
    s.group.resync = false ∧
    s.group.coord = some k ∧
    (s.group.role = .suspect ∨ (s.group.phase = .forming ∧ s.group.presentA + s.group.presentB ≠ 0) ∨ (s.group.phase = .isolated ∧ (s.tick dt).reaches k = true)) :=
  ⟨0, 0, { group := { phase := .forming, rank := 1, presentA := 1, coord := some 0, record := bytesLE 1 1 ++ zeros 1 ++ bytesLE 1 2 ++ zeros 1 ++ bytesLE 1 0xFF ++ zeros 0x10B } }, by decide, by decide, by decide, by decide⟩

theorem wit_GroupMembership_12 : ∃ (s : State),
    (s.group.inGroup = false ∨ s.group.resync = true ∨ s.group.coord = none) :=
  ⟨{}, by decide⟩

theorem wit_GroupMembership_13 : ∃ (s : State),
    s.group.resync = true ∧
    s.group.holds = true ∧
    s.group.rank < 16 ∧
    s.group.plane ≤ 1 ∧
    (s.clock.run = false ∨ ∃ r, s.render.frames.getLast? = some r ∧ r.sealed = true) :=
  ⟨{ group := { phase := .forming, resync := true, holds := true, rank := 1, presentA := 1, coord := some 0, record := bytesLE 1 1 ++ zeros 1 ++ bytesLE 1 2 ++ zeros 1 ++ bytesLE 1 0xFF ++ zeros 0x10B } }, by decide, by decide, by decide, by decide, Or.inl (by decide)⟩

theorem wit_GroupMembership_14 : ∃ (s : State),
    (s.group.resync = false ∨ s.group.holds = false ∨ s.complete = false) :=
  ⟨{}, by decide⟩

theorem wit_GroupMembership_15 : ∃ (dt slot : Nat) (x : TxnSlot) (k : Commit) (s : State),
    s.txn.waiting = [(slot, x)] ∧
    x.commit = some k ∧
    k.apply = none ∧
    (s.tick dt).commitDecided { k with decided := false } = true ∧
    s.group.inGroup = true ∧
    s.group.live = true ∧
    s.group.isCoord = true ∧
    (∀ w ∈ s.group.awaited, w ∈ k.prepared) :=
  ⟨0, 2, { gen := 1, session := 1, base := 0, baseView := {}, opened := 0, commit := some { seq := 1, op := 1, target := 0, lead := 0, stopped := true } }, { seq := 1, op := 1, target := 0, lead := 0, stopped := true }, { group := { phase := .formed, presentA := 1, coord := some 0, record := bytesLE 1 1 ++ zeros 1 ++ bytesLE 1 2 ++ zeros 1 ++ bytesLE 1 0xFF ++ zeros 0x10B }, clock := { run := true }, txn := { slots := [(2, { gen := 1, session := 1, base := 0, baseView := {}, opened := 0, commit := some { seq := 1, op := 1, target := 0, lead := 0, stopped := true } })] } }, by decide, by decide, by decide, by decide, by decide, by decide, by decide, by decide⟩

theorem wit_GroupMembership_16 : ∃ (dt slot w : Nat) (x : TxnSlot) (k : Commit) (s : State),
    s.txn.waiting = [(slot, x)] ∧
    x.commit = some k ∧
    k.apply = none ∧
    (s.tick dt).commitDecided { k with decided := false } = true ∧
    s.group.inGroup = true ∧
    s.group.live = true ∧
    s.group.isCoord = true ∧
    slot < 16 ∧
    w ∈ s.group.awaited ∧
    w ∉ k.prepared :=
  ⟨0, 2, 1, { gen := 1, session := 1, base := 0, baseView := {}, opened := 0, commit := some { seq := 1, op := 1, target := 0, lead := 0, stopped := true } }, { seq := 1, op := 1, target := 0, lead := 0, stopped := true }, { group := { phase := .formed, presentA := 3, coord := some 0, record := bytesLE 1 1 ++ zeros 1 ++ bytesLE 1 2 ++ zeros 1 ++ bytesLE 1 0xFF ++ zeros 0x10B }, clock := { run := true }, txn := { slots := [(2, { gen := 1, session := 1, base := 0, baseView := {}, opened := 0, commit := some { seq := 1, op := 1, target := 0, lead := 0, stopped := true } })] } }, by decide, by decide, by decide, by decide, by decide, by decide, by decide, by decide, by decide, by decide⟩

theorem wit_GroupMembership_17 : ∃ (s : State),
    (s.txn.waiting = [] ∨ s.group.inGroup = false) :=
  ⟨{}, by decide⟩

theorem wit_GroupMembership_18 : ∃ (dt : Nat) (r : FrameRec) (s : State),
    s.group.live = true ∧
    s.group.isCoord = true ∧
    s.render.frames.find? (fun x => !x.sealed) = some r ∧
    (s.group.deltasHere r.n = true ∨ r.grid.latch + usUnits 150 ≤ (s.tick dt).tb) :=
  ⟨75000, { grid := ⟨1, 0, 1000, 0, 0, 0, 0⟩, epoch := 0, rate := 3, view := {} }, { group := { phase := .formed, presentA := 3, coord := some 0, record := bytesLE 1 1 ++ zeros 1 ++ bytesLE 1 2 ++ zeros 1 ++ bytesLE 1 0xFF ++ zeros 0x10B }, render := { frames := [{ grid := ⟨1, 0, 1000, 0, 0, 0, 0⟩, epoch := 0, rate := 3, view := {} }] } }, by decide, by decide, by decide, by decide⟩

theorem wit_GroupMembership_19 : ∃ (s : State),
    (s.group.live = false ∨ s.group.isCoord = false ∨ s.render.frames.find? (fun x => !x.sealed) = none) :=
  ⟨{}, by decide⟩

theorem wit_GroupMembership_20 : ∃ (dt : Nat) (r : FrameRec) (s : State),
    s.render.frames.find? (fun x => !x.sealed) = some r ∧
    s.group.deltasHere r.n = false ∧
    (s.tick dt).tb < r.grid.latch + usUnits 150 :=
  ⟨0, { grid := ⟨1, 0, 1000, 0, 0, 0, 0⟩, epoch := 0, rate := 3, view := {} }, { group := { phase := .formed, presentA := 3, coord := some 0, record := bytesLE 1 1 ++ zeros 1 ++ bytesLE 1 2 ++ zeros 1 ++ bytesLE 1 0xFF ++ zeros 0x10B }, render := { frames := [{ grid := ⟨1, 0, 1000, 0, 0, 0, 0⟩, epoch := 0, rate := 3, view := {} }] } }, by decide, by decide, by decide⟩

theorem wit_DigestsLoopbackAndGroupCommands_1 : ∃ (e : Nat × DigestRun) (s : State),
    s.group.runs.find? (fun e => !e.2.mismatch && (e.2.own.isNone || e.2.peer.isNone) && e.1 + 4 ≤ s.host.devFrame) = some e :=
  ⟨(3, {}), { group := { runs := [(3, {})] }, host := { devFrame := 9 } }, by decide⟩

theorem wit_DigestsLoopbackAndGroupCommands_2 : ∃ (s : State),
    (∀ e ∈ s.group.runs, e.2.mismatch = true ∨ (e.2.own.isSome = true ∧ e.2.peer.isSome = true) ∨ s.host.devFrame < e.1 + 4) :=
  ⟨{}, by decide⟩

theorem wit_DigestsLoopbackAndGroupCommands_3 : ∃ (frame : Nat) (s : State),
    (s.group.runs.getD frame {}).mismatch = true ∧
    (s.group.runs.getD frame {}).ownPass = none ∧
    s.group.criticalPoison = none ∧
    s.group.pllLoss = none :=
  ⟨0, { group := { runs := [(0, { mismatch := true })] } }, by decide, by decide, by decide, by decide⟩

theorem wit_DigestsLoopbackAndGroupCommands_4 : ∃ (frame : Nat) (s : State),
    (s.group.runs.getD frame {}).mismatch = true ∧
    (s.group.runs.getD frame {}).ownPass = none ∧
    ((∃ n, s.group.criticalPoison = some n ∧ frame ≤ n + 8) ∨ (∃ n, s.group.pllLoss = some n ∧ frame ≤ n + 8)) :=
  ⟨0, { group := { runs := [(0, { mismatch := true })], criticalPoison := some 0 } }, by decide, by decide, Or.inl ⟨0, by decide, by decide⟩⟩

theorem wit_DigestsLoopbackAndGroupCommands_5 : ∃ (frame : Nat) (s : State),
    ((s.group.runs.getD frame {}).mismatch = false ∨ (s.group.runs.getD frame {}).ownPass.isSome = true) :=
  ⟨0, {}, by decide⟩

theorem wit_DigestsLoopbackAndGroupCommands_6 : ∃ (frame : Nat) (s : State),
    s.group.role = .active ∧
    (s.group.runs.getD frame {}).mismatch = true ∧
    (s.group.runs.getD frame {}).ownPass = some false ∧
    (s.group.runs.getD frame {}).peerPass = some true :=
  ⟨0, { group := { role := .active, runs := [(0, { mismatch := true, ownPass := some false, peerPass := some true })] } }, by decide, by decide, by decide, by decide⟩

theorem wit_DigestsLoopbackAndGroupCommands_7 : ∃ (frame : Nat) (a b : Bool) (s : State),
    s.group.role = .active ∧
    (s.group.runs.getD frame {}).mismatch = true ∧
    (s.group.runs.getD frame {}).ownPass = some a ∧
    (s.group.runs.getD frame {}).peerPass = some b ∧
    (a = true ∨ b = false) :=
  ⟨0, true, false, { group := { role := .active, runs := [(0, { mismatch := true, ownPass := some true, peerPass := some false })] } }, by decide, by decide, by decide, by decide, by decide⟩

theorem wit_DigestsLoopbackAndGroupCommands_8 : ∃ (frame : Nat) (s : State),
    s.group.role = .standby ∧
    (s.group.runs.getD frame {}).mismatch = true ∧
    (s.group.runs.getD frame {}).ownPass = some true ∧
    (s.group.runs.getD frame {}).peerPass = some false :=
  ⟨0, { group := { role := .standby, runs := [(0, { mismatch := true, ownPass := some true, peerPass := some false })] } }, by decide, by decide, by decide, by decide⟩

theorem wit_DigestsLoopbackAndGroupCommands_9 : ∃ (frame : Nat) (a b : Bool) (s : State),
    s.group.role = .standby ∧
    (s.group.runs.getD frame {}).mismatch = true ∧
    (s.group.runs.getD frame {}).ownPass = some a ∧
    (s.group.runs.getD frame {}).peerPass = some b ∧
    (a = false ∨ b = true) :=
  ⟨0, false, false, { group := { role := .standby, runs := [(0, { mismatch := true, ownPass := some false, peerPass := some false })] } }, by decide, by decide, by decide, by decide, by decide⟩

theorem wit_DigestsLoopbackAndGroupCommands_10 : ∃ (frame : Nat) (s : State),
    ((s.group.runs.getD frame {}).mismatch = false ∨ (((s.group.runs.getD frame {}).ownPass = none ∨ (s.group.runs.getD frame {}).peerPass = none) ∧ s.host.devFrame < frame + 4)) :=
  ⟨0, {}, by decide⟩

theorem wit_DigestsLoopbackAndGroupCommands_11 : ∃ (dt : Nat) (s : State),
    s.group.role = .standby ∧
    s.group.loopAt + s.group.loopbackS * cycSec ≤ (s.tick dt).now :=
  ⟨30000000000, { group := { role := .standby, record := bytesLE 1 2 ++ zeros 1 ++ bytesLE 1 1 ++ zeros 1 ++ bytesLE 1 0xFF ++ zeros 0x10B }, fns := [(0x40003, { state := .enabled })] }, by decide, by decide⟩

theorem wit_DigestsLoopbackAndGroupCommands_12 : ∃ (dt : Nat) (s : State),
    (s.group.role ≠ .standby ∨ (s.tick dt).now < s.group.loopAt + s.group.loopbackS * cycSec) :=
  ⟨0, {}, by decide⟩

theorem wit_DigestsLoopbackAndGroupCommands_13 : ∃ (dt output : Nat) (s : State),
    s.group.echoes.contains output = true ∧
    s.group.loopAt + (if output < 64 then 100 * cycUs else 4 * cycMs) ≤ (s.tick dt).now :=
  ⟨50000, 3, { group := { echoes := [3] } }, by decide, by decide⟩

theorem wit_DigestsLoopbackAndGroupCommands_14 : ∃ (dt output : Nat) (s : State),
    (s.group.echoes.contains output = false ∨ (s.tick dt).now < s.group.loopAt + (if output < 64 then 100 * cycUs else 4 * cycMs)) :=
  ⟨0, 0, {}, by decide⟩

theorem wit_DigestsLoopbackAndGroupCommands_15 : ∃ (dt m : Nat) (s t : State) (e : ExecReq) (c : Ctx) (p : Bytes),
    Running groupConfigSpec m dt s e c t p ∧
    t.auditFull = false ∧
    groupUidsOk p = true ∧
    (∀ x ∈ (groupUids p).2, x = 0) ∧
    t.acceptFail = none :=
  ⟨0, 0, (wst (wreq 0x0D01 0 (zeros 2 ++ bytesLE 1 1 ++ zeros 13 ++ bytesLE 8 5 ++ zeros 248)) : State), _, { mbx := 0, req := (wreq 0x0D01 0 (zeros 2 ++ bytesLE 1 1 ++ zeros 13 ++ bytesLE 8 5 ++ zeros 248)), dbPos := 0, role := 2, poison := false }, _, _, ⟨rfl, by decide, rfl, rfl, rfl, rfl, by decide, by decide⟩, by decide, by decide, by decide, by decide⟩

theorem wit_DigestsLoopbackAndGroupCommands_16 : ∃ (dt m : Nat) (s t : State) (e : ExecReq) (c : Ctx) (p : Bytes),
    Running groupConfigSpec m dt s e c t p ∧
    t.auditFull = false ∧
    (groupUidsOk p = false ∨ (∃ x ∈ (groupUids p).2, x ≠ 0)) :=
  ⟨0, 0, (wst (wreq 0x0D01 0 (zeros 2 ++ bytesLE 1 1 ++ zeros 269)) : State), _, { mbx := 0, req := (wreq 0x0D01 0 (zeros 2 ++ bytesLE 1 1 ++ zeros 269)), dbPos := 0, role := 2, poison := false }, _, _, ⟨rfl, by decide, rfl, rfl, rfl, rfl, by decide, by decide⟩, by decide, by decide⟩

theorem wit_DigestsLoopbackAndGroupCommands_18 : ∃ (op : Nat) (o : Op) (l : List Nat) (p : Bytes) (s : State),
    s.op op 0x0D01 = some o ∧
    o.kind = .job l p :=
  ⟨1, { id := 1, command := 0x0D01, flags := 0, tag := 7, session := 1, kind := .job [] [9] }, [], [9], { host := { ops := [{ id := 1, command := 0x0D01, flags := 0, tag := 7, session := 1, kind := .job [] [9] }] } }, by decide, by decide⟩

theorem wit_DigestsLoopbackAndGroupCommands_19 : ∃ (op : Nat) (s : State),
    s.op op 0x0D01 = none :=
  ⟨0, {}, by decide⟩

theorem wit_DigestsLoopbackAndGroupCommands_20 : ∃ (dt m : Nat) (s t : State) (e : ExecReq) (c : Ctx) (p : Bytes),
    Running groupStatusSpec m dt s e c t p :=
  ⟨0, 0, (wst (wreq 0x0D02 0 []) : State), _, { mbx := 0, req := (wreq 0x0D02 0 []), dbPos := 0, role := 2, poison := false }, _, _, ⟨rfl, by decide, rfl, rfl, rfl, rfl, by decide, by decide⟩⟩

theorem wit_DigestsLoopbackAndGroupCommands_21 : ∃ (dt m : Nat) (s t : State) (e : ExecReq) (c : Ctx) (p : Bytes),
    Running cotillionStatusSpec m dt s e c t p :=
  ⟨0, 0, (wst (wreq 0x0D30 0 []) : State), _, { mbx := 0, req := (wreq 0x0D30 0 []), dbPos := 0, role := 2, poison := false }, _, _, ⟨rfl, by decide, rfl, rfl, rfl, rfl, by decide, by decide⟩⟩

theorem wit_TangoPairs_1 : ∃ (s : State),
    s.group.paired = true ∧
    s.group.role = .standby ∧
    s.group.takeover.elim true (·.2) = true ∧
    s.clock.run = true :=
  ⟨{ group := { role := .standby, peerAct := true, record := bytesLE 1 2 ++ zeros 1 ++ bytesLE 1 1 ++ zeros 1 ++ bytesLE 1 0xFF ++ zeros 0x10B }, clock := { run := true } }, by decide, by decide, by decide, by decide⟩

theorem wit_TangoPairs_2 : ∃ (s : State),
    s.group.paired = true ∧
    s.group.role = .standby ∧
    s.group.takeover.elim true (·.2) = true ∧
    s.clock.run = false :=
  ⟨{ group := { role := .standby, peerAct := true, record := bytesLE 1 2 ++ zeros 1 ++ bytesLE 1 1 ++ zeros 1 ++ bytesLE 1 0xFF ++ zeros 0x10B } }, by decide, by decide, by decide, by decide⟩

theorem wit_TangoPairs_3 : ∃ (n : Nat) (s : State),
    s.group.paired = true ∧
    s.group.role = .standby ∧
    s.group.takeover = some (n, false) :=
  ⟨3, { group := { role := .standby, peerAct := true, takeover := some (3, false), record := bytesLE 1 2 ++ zeros 1 ++ bytesLE 1 1 ++ zeros 1 ++ bytesLE 1 0xFF ++ zeros 0x10B } }, by decide, by decide, by decide⟩

theorem wit_TangoPairs_4 : ∃ (s : State),
    s.group.paired = true ∧
    s.group.role = .active :=
  ⟨{ group := { role := .active, peerAct := true, record := bytesLE 1 2 ++ zeros 1 ++ bytesLE 1 1 ++ zeros 1 ++ bytesLE 1 0xFF ++ zeros 0x10B } }, by decide, by decide⟩

theorem wit_TangoPairs_5 : ∃ (s : State),
    s.group.paired = true ∧
    (s.group.role = .suspect ∨ s.group.role = .resync ∨ s.group.role = .detached) :=
  ⟨{ group := { role := .suspect, peerAct := true, record := bytesLE 1 2 ++ zeros 1 ++ bytesLE 1 1 ++ zeros 1 ++ bytesLE 1 0xFF ++ zeros 0x10B } }, by decide, by decide⟩

theorem wit_TangoPairs_6 : ∃ (s : State),
    s.group.paired = false :=
  ⟨{}, by decide⟩

theorem wit_TangoPairs_7 : ∃ (cause : Nat) (s : State),
    s.group.paired = true ∧
    1 ≤ cause ∧
    cause ≤ 3 ∧
    s.group.role = .active :=
  ⟨1, { group := { role := .active, actPin := true, record := bytesLE 1 2 ++ zeros 1 ++ bytesLE 1 1 ++ zeros 1 ++ bytesLE 1 0xFF ++ zeros 0x10B } }, by decide, by decide, by decide, by decide⟩

theorem wit_TangoPairs_8 : ∃ (cause : Nat) (s : State),
    s.group.paired = true ∧
    1 ≤ cause ∧
    cause ≤ 3 ∧
    s.group.role ≠ .active :=
  ⟨3, { group := { role := .standby, record := bytesLE 1 2 ++ zeros 1 ++ bytesLE 1 1 ++ zeros 1 ++ bytesLE 1 0xFF ++ zeros 0x10B } }, by decide, by decide, by decide, by decide⟩

theorem wit_TangoPairs_9 : ∃ (cause : Nat) (s : State),
    (s.group.paired = false ∨ cause = 0 ∨ 3 < cause) :=
  ⟨0, {}, by decide⟩

theorem wit_TangoPairs_10 : ∃ (dt : Nat) (s : State),
    s.group.yieldPull = true ∧
    s.group.yieldAt + cycMs ≤ (s.tick dt).now :=
  ⟨500000, { group := { yieldPull := true } }, by decide, by decide⟩

theorem wit_TangoPairs_11 : ∃ (dt : Nat) (s : State),
    (s.group.yieldPull = false ∨ (s.tick dt).now < s.group.yieldAt + cycMs) :=
  ⟨0, {}, by decide⟩

theorem wit_TangoPairs_12 : ∃ (s : State),
    s.group.paired = true ∧
    s.group.yieldStuck = false ∧
    s.group.yieldLowAt = none :=
  ⟨{ group := { record := bytesLE 1 2 ++ zeros 1 ++ bytesLE 1 1 ++ zeros 1 ++ bytesLE 1 0xFF ++ zeros 0x10B } }, by decide, by decide, by decide⟩

theorem wit_TangoPairs_13 : ∃ (dt x : Nat) (s : State),
    s.group.paired = true ∧
    s.group.yieldStuck = false ∧
    s.group.yieldLowAt = some x ∧
    x + 10 * cycUs ≤ (s.tick dt).now ∧
    (s.tick dt).now < x + 2 * cycMs ∧
    s.group.peerAct = true ∧
    s.group.netWarned = false :=
  ⟨5000, 0, { group := { yieldLowAt := some 0, peerAct := true, record := bytesLE 1 2 ++ zeros 1 ++ bytesLE 1 1 ++ zeros 1 ++ bytesLE 1 0xFF ++ zeros 0x10B } }, by decide, by decide, by decide, by decide, by decide, by decide, by decide⟩

theorem wit_TangoPairs_14 : ∃ (s : State),
    (s.group.paired = false ∨ s.group.yieldStuck = true) :=
  ⟨{}, by decide⟩

theorem wit_TangoPairs_15 : ∃ (dt x : Nat) (s : State),
    s.group.paired = true ∧
    s.group.yieldStuck = false ∧
    s.group.yieldLowAt = some x ∧
    x + 2 * cycMs < (s.tick dt).now :=
  ⟨1000001, 0, { group := { yieldLowAt := some 0, record := bytesLE 1 2 ++ zeros 1 ++ bytesLE 1 1 ++ zeros 1 ++ bytesLE 1 0xFF ++ zeros 0x10B } }, by decide, by decide, by decide, by decide⟩

theorem wit_TangoPairs_16 : ∃ (s : State),
    (s.group.paired = false ∨ s.group.yieldStuck = true ∨ s.group.yieldLowAt = none) :=
  ⟨{}, by decide⟩

theorem wit_TangoPairs_18 : ∃ (s : State),
    s.group.role = .standby ∧
    s.clock.run = true ∧
    s.group.sealFrom + 16 ≤ s.clock.nextLatch ∧
    (∀ n, s.group.lastSeal = some n → n + 17 ≤ s.clock.nextLatch) :=
  ⟨{ group := { role := .standby }, clock := { run := true, nextLatch := 16 } }, by decide, by decide, by decide, fun n h => by cases h⟩

theorem wit_TangoPairs_19 : ∃ (s : State),
    (s.group.role ≠ .standby ∨ s.clock.run = false ∨ s.clock.nextLatch < s.group.sealFrom + 16 ∨ (∃ n, s.group.lastSeal = some n ∧ s.clock.nextLatch < n + 17)) :=
  ⟨{}, Or.inl (by decide)⟩

theorem wit_TangoPairs_20 : ∃ (dt m : Nat) (s t : State) (e : ExecReq) (c : Ctx) (p : Bytes) (k : Nat),
    Running tangoSwitchSpec m dt s e c t p ∧
    t.auditFull = false ∧
    t.group.role = .active ∧
    t.group.partnerReady = true ∧
    t.group.takeover = none ∧
    t.clock.run = true ∧
    t.switchTarget (fld p 0 1) (fld p 8 8) c.db = some k ∧
    t.acceptFail = none :=
  ⟨0, 0, ({ wst (wreq 0x0D20 0 (bytesLE 8 1 ++ bytesLE 8 0)) with group := { role := .active, presentB := 1, record := bytesLE 1 2 ++ zeros 1 ++ bytesLE 1 1 ++ zeros 1 ++ bytesLE 1 0xFF ++ zeros 0x10B }, clock := { run := true } } : State), _, { mbx := 0, req := (wreq 0x0D20 0 (bytesLE 8 1 ++ bytesLE 8 0)), dbPos := 0, role := 2, poison := false }, _, _, 64, ⟨rfl, by decide, rfl, rfl, rfl, rfl, by decide, by decide⟩, by decide, by decide, by decide, by decide, by decide, by decide, by decide⟩

theorem wit_TangoPairs_21 : ∃ (dt m : Nat) (s t : State) (e : ExecReq) (c : Ctx) (p : Bytes),
    Running tangoSwitchSpec m dt s e c t p ∧
    t.auditFull = false ∧
    (t.group.role ≠ .active ∨ t.group.partnerReady = false ∨ t.group.takeover.isSome = true ∨ t.clock.run = false) :=
  ⟨0, 0, (wst (wreq 0x0D20 0 (bytesLE 8 1 ++ bytesLE 8 0)) : State), _, { mbx := 0, req := (wreq 0x0D20 0 (bytesLE 8 1 ++ bytesLE 8 0)), dbPos := 0, role := 2, poison := false }, _, _, ⟨rfl, by decide, rfl, rfl, rfl, rfl, by decide, by decide⟩, by decide, by decide⟩

theorem wit_TangoPairs_22 : ∃ (dt m : Nat) (s t : State) (e : ExecReq) (c : Ctx) (p : Bytes),
    Running tangoSwitchSpec m dt s e c t p ∧
    t.auditFull = false ∧
    t.group.role = .active ∧
    t.group.partnerReady = true ∧
    t.group.takeover = none ∧
    t.clock.run = true ∧
    t.switchTarget (fld p 0 1) (fld p 8 8) c.db = none :=
  ⟨0, 0, ({ wst (wreq 0x0D20 0 (bytesLE 8 0 ++ bytesLE 8 0)) with group := { role := .active, presentB := 1, record := bytesLE 1 2 ++ zeros 1 ++ bytesLE 1 1 ++ zeros 1 ++ bytesLE 1 0xFF ++ zeros 0x10B }, clock := { run := true, nextLatch := 5 } } : State), _, { mbx := 0, req := (wreq 0x0D20 0 (bytesLE 8 0 ++ bytesLE 8 0)), dbPos := 0, role := 2, poison := false }, _, _, ⟨rfl, by decide, rfl, rfl, rfl, rfl, by decide, by decide⟩, by decide, by decide, by decide, by decide, by decide, by decide⟩

theorem wit_FieldUpdate_1 : ∃ (dt m : Nat) (s t : State) (e : ExecReq) (c : Ctx) (p : Bytes),
    Running updateBeginSpec m dt s e c t p ∧
    t.update.engaged = false ∧
    t.acceptFail = none :=
  ⟨0, 0, (wst (wreq 0x0E01 0 (bytesLE 4 8192 ++ zeros 4)) : State), _, { mbx := 0, req := (wreq 0x0E01 0 (bytesLE 4 8192 ++ zeros 4)), dbPos := 0, role := 2, poison := false }, _, _, ⟨rfl, by decide, rfl, rfl, rfl, rfl, by decide, by decide⟩, by decide, by decide⟩

theorem wit_FieldUpdate_2 : ∃ (dt m : Nat) (s t : State) (e : ExecReq) (c : Ctx) (p : Bytes),
    Running updateBeginSpec m dt s e c t p ∧
    t.update.engaged = true :=
  ⟨0, 0, ({ wst (wreq 0x0E01 0 (bytesLE 4 8192 ++ zeros 4)) with update := { stage := .verifying } } : State), _, { mbx := 0, req := (wreq 0x0E01 0 (bytesLE 4 8192 ++ zeros 4)), dbPos := 0, role := 2, poison := false }, _, _, ⟨rfl, by decide, rfl, rfl, rfl, rfl, by decide, by decide⟩, by decide⟩

theorem wit_FieldUpdate_3 : ∃ (dt op : Nat) (o : Op) (len : Nat) (bs : Bytes) (s : State),
    (s.tick dt).op op 0x0E01 = some o ∧
    o.kind = .job [len] bs ∧
    s.update.engaged = false :=
  ⟨0, 4, { id := 4, command := 0x0E01, flags := 0, tag := 7, session := 1, kind := .job [100] [] }, 100, [], { host := { ops := [{ id := 4, command := 0x0E01, flags := 0, tag := 7, session := 1, kind := .job [100] [] }] }, update := { stage := .receiving, length := 100 } }, by decide, by decide, by decide⟩

theorem wit_FieldUpdate_4 : ∃ (dt op : Nat) (o : Op) (len : Nat) (bs : Bytes) (s : State),
    (s.tick dt).op op 0x0E01 = some o ∧
    o.kind = .job [len] bs ∧
    s.update.engaged = true :=
  ⟨0, 4, { id := 4, command := 0x0E01, flags := 0, tag := 7, session := 1, kind := .job [100] [] }, 100, [], { host := { ops := [{ id := 4, command := 0x0E01, flags := 0, tag := 7, session := 1, kind := .job [100] [] }] }, update := { stage := .verifying, length := 100 } }, by decide, by decide, by decide⟩

theorem wit_FieldUpdate_5 : ∃ (dt op : Nat) (s : State),
    (s.tick dt).op op 0x0E01 = none :=
  ⟨0, 0, {}, by decide⟩

theorem wit_FieldUpdate_6 : ∃ (dt m : Nat) (s t : State) (e : ExecReq) (c : Ctx) (p : Bytes),
    Running updateBlockSpec m dt s e c t p ∧
    fld p 0x10 8 = 0 ∧
    t.update.stage = .receiving ∧
    fld p 0 4 + fld p 4 4 ≤ t.update.length ∧
    crc32c (p.drop 24) = BitVec.ofNat 32 (fld p 8 4) ∧
    t.update.overlaps (fld p 0 4) (fld p 4 4) = false :=
  ⟨0, 0, ({ wst (wreq 0x0E02 0 (bytesLE 4 3 ++ bytesLE 4 1 ++ bytesLE 4 0x527D5351 ++ zeros 4 ++ zeros 8 ++ zeros 1)) with update := { stage := .receiving, length := 100 } } : State), _, { mbx := 0, req := (wreq 0x0E02 0 (bytesLE 4 3 ++ bytesLE 4 1 ++ bytesLE 4 0x527D5351 ++ zeros 4 ++ zeros 8 ++ zeros 1)), dbPos := 0, role := 2, poison := false }, _, _, ⟨rfl, by decide, rfl, rfl, rfl, rfl, by decide, by decide⟩, by decide, by decide, by decide, by decide, by decide⟩

theorem wit_FieldUpdate_7 : ∃ (dt m : Nat) (s t : State) (e : ExecReq) (c : Ctx) (p : Bytes),
    Running updateBlockSpec m dt s e c t p ∧
    fld p 0x10 8 = 0 ∧
    t.update.stage = .receiving ∧
    fld p 0 4 + fld p 4 4 ≤ t.update.length ∧
    crc32c (p.drop 24) ≠ BitVec.ofNat 32 (fld p 8 4) :=
  ⟨0, 0, ({ wst (wreq 0x0E02 0 (bytesLE 4 3 ++ bytesLE 4 1 ++ bytesLE 4 0 ++ zeros 4 ++ zeros 8 ++ zeros 1)) with update := { stage := .receiving, length := 100 } } : State), _, { mbx := 0, req := (wreq 0x0E02 0 (bytesLE 4 3 ++ bytesLE 4 1 ++ bytesLE 4 0 ++ zeros 4 ++ zeros 8 ++ zeros 1)), dbPos := 0, role := 2, poison := false }, _, _, ⟨rfl, by decide, rfl, rfl, rfl, rfl, by decide, by decide⟩, by decide, by decide, by decide, by decide⟩

theorem wit_FieldUpdate_8 : ∃ (dt m : Nat) (s t : State) (e : ExecReq) (c : Ctx) (p : Bytes) (b : Nat × Bytes),
    Running updateBlockSpec m dt s e c t p ∧
    fld p 0x10 8 = 0 ∧
    t.update.stage = .receiving ∧
    fld p 0 4 + fld p 4 4 ≤ t.update.length ∧
    crc32c (p.drop 24) = BitVec.ofNat 32 (fld p 8 4) ∧
    b ∈ t.update.blocks ∧
    fld p 0 4 < b.1 + b.2.length ∧
    b.1 < fld p 0 4 + fld p 4 4 :=
  ⟨0, 0, ({ wst (wreq 0x0E02 0 (bytesLE 4 3 ++ bytesLE 4 1 ++ bytesLE 4 0x527D5351 ++ zeros 4 ++ zeros 8 ++ zeros 1)) with update := { stage := .receiving, length := 100, blocks := [(3, [0])] } } : State), _, { mbx := 0, req := (wreq 0x0E02 0 (bytesLE 4 3 ++ bytesLE 4 1 ++ bytesLE 4 0x527D5351 ++ zeros 4 ++ zeros 8 ++ zeros 1)), dbPos := 0, role := 2, poison := false }, _, _, (3, [0]), ⟨rfl, by decide, rfl, rfl, rfl, rfl, by decide, by decide⟩, by decide, by decide, by decide, by decide, by decide, by decide, by decide⟩

theorem wit_FieldUpdate_9 : ∃ (dt m : Nat) (s t : State) (e : ExecReq) (c : Ctx) (p : Bytes),
    Running updateBlockSpec m dt s e c t p ∧
    t.update.engaged = false ∧
    t.update.stage ≠ .receiving :=
  ⟨0, 0, (wst (wreq 0x0E02 0 (bytesLE 4 3 ++ bytesLE 4 1 ++ bytesLE 4 0x527D5351 ++ zeros 4 ++ zeros 8 ++ zeros 1)) : State), _, { mbx := 0, req := (wreq 0x0E02 0 (bytesLE 4 3 ++ bytesLE 4 1 ++ bytesLE 4 0x527D5351 ++ zeros 4 ++ zeros 8 ++ zeros 1)), dbPos := 0, role := 2, poison := false }, _, _, ⟨rfl, by decide, rfl, rfl, rfl, rfl, by decide, by decide⟩, by decide, by decide⟩

theorem wit_FieldUpdate_10 : ∃ (s : State) (c : Ctx),
    s.update.length ≠ 0 ∧
    s.update.length < fld c.payload 0 4 + fld c.payload 4 4 :=
  ⟨{ wst [] with update := { length := 3 } }, { m := 0, code := 0x0E02, flags := 0, tag := 7, session := 1, length := 24, reserved := 0, payload := bytesLE 4 3 ++ bytesLE 4 1, role := 2, db := 0 }, by decide, by decide⟩

theorem wit_FieldUpdate_11 : ∃ (dt m : Nat) (s t : State) (e : ExecReq) (c : Ctx) (p : Bytes),
    Running updateBlockSpec m dt s e c t p ∧
    t.update.engaged = true :=
  ⟨0, 0, ({ wst (wreq 0x0E02 0 (bytesLE 4 3 ++ bytesLE 4 1 ++ bytesLE 4 0x527D5351 ++ zeros 4 ++ zeros 8 ++ zeros 1)) with update := { stage := .activating } } : State), _, { mbx := 0, req := (wreq 0x0E02 0 (bytesLE 4 3 ++ bytesLE 4 1 ++ bytesLE 4 0x527D5351 ++ zeros 4 ++ zeros 8 ++ zeros 1)), dbPos := 0, role := 2, poison := false }, _, _, ⟨rfl, by decide, rfl, rfl, rfl, rfl, by decide, by decide⟩, by decide⟩

theorem wit_FieldUpdate_12 : ∃ (dt m : Nat) (s t : State) (e : ExecReq) (c : Ctx) (p : Bytes),
    Running updateBlockSpec m dt s e c t p ∧
    fld p 0x10 8 ≠ 0 ∧
    t.update.stage = .receiving ∧
    fld p 0 4 + fld p 4 4 ≤ t.update.length ∧
    t.acceptFail = none :=
  ⟨0, 0, ({ wst (wreq 0x0E02 0 (bytesLE 4 3 ++ bytesLE 4 1 ++ bytesLE 4 0 ++ zeros 4 ++ bytesLE 8 0x10000)) with update := { stage := .receiving, length := 100 } } : State), _, { mbx := 0, req := (wreq 0x0E02 0 (bytesLE 4 3 ++ bytesLE 4 1 ++ bytesLE 4 0 ++ zeros 4 ++ bytesLE 8 0x10000)), dbPos := 0, role := 2, poison := false }, _, _, ⟨rfl, by decide, rfl, rfl, rfl, rfl, by decide, by decide⟩, by decide, by decide, by decide, by decide⟩

theorem wit_FieldUpdate_13 : ∃ (dt op : Nat) (poison : Bool) (o : Op) (off crc : Nat) (data : Bytes) (s : State),
    (s.tick dt).op op 0x0E02 = some o ∧
    o.kind = .job [off, crc] data ∧
    poison = false ∧
    s.update.stage = .receiving ∧
    off + data.length ≤ s.update.length ∧
    crc32c data = BitVec.ofNat 32 crc ∧
    (∀ b ∈ s.update.blocks, b.1 + b.2.length ≤ off ∨ off + data.length ≤ b.1) :=
  ⟨0, 4, false, { id := 4, command := 0x0E02, flags := 0, tag := 7, session := 1, kind := .job [3, 0x527D5351] [0] }, 3, 0x527D5351, [0], { host := { ops := [{ id := 4, command := 0x0E02, flags := 0, tag := 7, session := 1, kind := .job [3, 0x527D5351] [0] }] }, update := { stage := .receiving, length := 100 } }, by decide, by decide, by decide, by decide, by decide, by decide, by decide⟩

theorem wit_FieldUpdate_14 : ∃ (dt op : Nat) (poison : Bool) (o : Op) (off crc : Nat) (data : Bytes) (s : State),
    (s.tick dt).op op 0x0E02 = some o ∧
    o.kind = .job [off, crc] data ∧
    (poison = true ∨ (s.update.stage = .receiving ∧ off + data.length ≤ s.update.length ∧ crc32c data ≠ BitVec.ofNat 32 crc)) :=
  ⟨0, 4, true, { id := 4, command := 0x0E02, flags := 0, tag := 7, session := 1, kind := .job [3, 0] [0] }, 3, 0, [0], { host := { ops := [{ id := 4, command := 0x0E02, flags := 0, tag := 7, session := 1, kind := .job [3, 0] [0] }] }, update := { stage := .receiving, length := 100 } }, by decide, by decide, by decide⟩

theorem wit_FieldUpdate_15 : ∃ (dt op : Nat) (poison : Bool) (o : Op) (off crc : Nat) (data : Bytes) (s : State),
    (s.tick dt).op op 0x0E02 = some o ∧
    o.kind = .job [off, crc] data ∧
    poison = false ∧
    (s.update.stage ≠ .receiving ∨ (off + data.length ≤ s.update.length ∧ crc32c data = BitVec.ofNat 32 crc ∧ s.update.overlaps off data.length = true)) :=
  ⟨0, 4, _, { id := 4, command := 0x0E02, flags := 0, tag := 7, session := 1, kind := .job [3, 0] [0] }, 3, 0, [0], { host := { ops := [{ id := 4, command := 0x0E02, flags := 0, tag := 7, session := 1, kind := .job [3, 0] [0] }] }, update := { stage := .empty, length := 100 } }, by decide, by decide, rfl, by decide⟩

theorem wit_FieldUpdate_16 : ∃ (dt m : Nat) (s t : State) (e : ExecReq) (c : Ctx) (p : Bytes),
    Running updateVerifySpec m dt s e c t p ∧
    t.auditFull = false ∧
    t.update.engaged = false ∧
    t.update.stage ≠ .empty ∧
    t.acceptFail = none :=
  ⟨0, 0, ({ wst (wreq 0x0E03 0 []) with update := { stage := .receiving } } : State), _, { mbx := 0, req := (wreq 0x0E03 0 []), dbPos := 0, role := 2, poison := false }, _, _, ⟨rfl, by decide, rfl, rfl, rfl, rfl, by decide, by decide⟩, by decide, by decide, by decide, by decide⟩

theorem wit_FieldUpdate_17 : ∃ (dt m : Nat) (s t : State) (e : ExecReq) (c : Ctx) (p : Bytes),
    Running updateVerifySpec m dt s e c t p ∧
    t.auditFull = false ∧
    t.update.stage = .empty :=
  ⟨0, 0, (wst (wreq 0x0E03 0 []) : State), _, { mbx := 0, req := (wreq 0x0E03 0 []), dbPos := 0, role := 2, poison := false }, _, _, ⟨rfl, by decide, rfl, rfl, rfl, rfl, by decide, by decide⟩, by decide, by decide⟩

theorem wit_FieldUpdate_18 : ∃ (dt m : Nat) (s t : State) (e : ExecReq) (c : Ctx) (p : Bytes),
    Running updateVerifySpec m dt s e c t p ∧
    (t.auditFull = true ∨ t.update.engaged = true) :=
  ⟨0, 0, ({ wst (wreq 0x0E03 0 []) with update := { stage := .verifying } } : State), _, { mbx := 0, req := (wreq 0x0E03 0 []), dbPos := 0, role := 2, poison := false }, _, _, ⟨rfl, by decide, rfl, rfl, rfl, rfl, by decide, by decide⟩, by decide⟩

theorem wit_FieldUpdate_19 : ∃ (dt op : Nat) (o : Op) (s : State),
    (s.tick dt).op op 0x0E03 = some o :=
  ⟨0, 4, { id := 4, command := 0x0E03, flags := 0, tag := 7, session := 1, kind := .job [1] [] }, { host := { ops := [{ id := 4, command := 0x0E03, flags := 0, tag := 7, session := 1, kind := .job [1] [] }] }, update := { stage := .verifying, length := 100 } }, by decide⟩

theorem wit_FieldUpdate_21 : ∃ (dt op : Nat) (s : State),
    (s.tick dt).op op 0x0E03 = none :=
  ⟨0, 0, {}, by decide⟩

theorem wit_FieldUpdate_22 : ∃ (dt m : Nat) (s t : State) (e : ExecReq) (c : Ctx) (p : Bytes) (f : Nat),
    Running updateActivateSpec m dt s e c t p ∧
    t.group.inGroup = false ∧
    t.auditFull = false ∧
    t.update.act = none ∧
    t.update.foreign = [] ∧
    t.update.stage = .verified ∧
    t.txn.waiting = [] ∧
    t.group.asked = [] ∧
    t.acceptFail = none ∧
    ((t.clock.run = false ∧ fld p 1 1 = 1 ∧ f = 0) ∨ (t.clock.run = true ∧ t.commitTarget (fld p 1 1) (fld p 8 8) c.db = .inr f)) :=
  ⟨0, 0, ({ wst (wreq 0x0E04 0 (bytesLE 1 0 ++ bytesLE 1 1 ++ zeros 6 ++ zeros 8)) with update := { stage := .verified } } : State), _, { mbx := 0, req := (wreq 0x0E04 0 (bytesLE 1 0 ++ bytesLE 1 1 ++ zeros 6 ++ zeros 8)), dbPos := 0, role := 2, poison := false }, _, _, 0, ⟨rfl, by decide, rfl, rfl, rfl, rfl, by decide, by decide⟩, by decide, by decide, by decide, by decide, by decide, by decide, by decide, by decide, by decide⟩

theorem wit_FieldUpdate_23 : ∃ (dt m : Nat) (s t : State) (e : ExecReq) (c : Ctx) (p : Bytes) (f k : Nat),
    Running updateActivateSpec m dt s e c t p ∧
    t.group.inGroup = true ∧
    fld p 0 1 = 1 ∧
    t.auditFull = false ∧
    t.update.act = none ∧
    t.update.foreign = [] ∧
    t.update.stage = .verified ∧
    t.txn.waiting = [] ∧
    t.group.asked = [] ∧
    t.acceptFail = none ∧
    ((t.clock.run = false ∧ fld p 1 1 = 1 ∧ f = 0) ∨ (t.clock.run = true ∧ t.commitTarget (fld p 1 1) (fld p 8 8) c.db = .inr f)) ∧
    t.group.isCoord = false ∧
    t.group.coord = some k :=
  ⟨0, 0, ({ wst (wreq 0x0E04 0 (bytesLE 1 1 ++ bytesLE 1 1 ++ zeros 6 ++ zeros 8)) with update := { stage := .verified }, group := { phase := .formed, presentA := 3, coord := some 1, record := bytesLE 1 1 ++ zeros 1 ++ bytesLE 1 2 ++ zeros 1 ++ bytesLE 1 0xFF ++ zeros 0x10B } } : State), _, { mbx := 0, req := (wreq 0x0E04 0 (bytesLE 1 1 ++ bytesLE 1 1 ++ zeros 6 ++ zeros 8)), dbPos := 0, role := 2, poison := false }, _, _, 0, 1, ⟨rfl, by decide, rfl, rfl, rfl, rfl, by decide, by decide⟩, by decide, by decide, by decide, by decide, by decide, by decide, by decide, by decide, by decide, by decide, by decide, by decide⟩

theorem wit_FieldUpdate_24 : ∃ (dt m : Nat) (s t : State) (e : ExecReq) (c : Ctx) (p : Bytes) (f : Nat),
    Running updateActivateSpec m dt s e c t p ∧
    t.group.inGroup = true ∧
    fld p 0 1 = 1 ∧
    t.auditFull = false ∧
    t.update.act = none ∧
    t.update.foreign = [] ∧
    t.update.stage = .verified ∧
    t.txn.waiting = [] ∧
    t.group.asked = [] ∧
    t.acceptFail = none ∧
    ((t.clock.run = false ∧ fld p 1 1 = 1 ∧ f = 0) ∨ (t.clock.run = true ∧ t.commitTarget (fld p 1 1) (fld p 8 8) c.db = .inr f)) ∧
    t.group.isCoord = true :=
  ⟨0, 0, ({ wst (wreq 0x0E04 0 (bytesLE 1 1 ++ bytesLE 1 1 ++ zeros 6 ++ zeros 8)) with update := { stage := .verified }, group := { phase := .formed, presentA := 3, coord := some 0, record := bytesLE 1 1 ++ zeros 1 ++ bytesLE 1 2 ++ zeros 1 ++ bytesLE 1 0xFF ++ zeros 0x10B } } : State), _, { mbx := 0, req := (wreq 0x0E04 0 (bytesLE 1 1 ++ bytesLE 1 1 ++ zeros 6 ++ zeros 8)), dbPos := 0, role := 2, poison := false }, _, _, 0, ⟨rfl, by decide, rfl, rfl, rfl, rfl, by decide, by decide⟩, by decide, by decide, by decide, by decide, by decide, by decide, by decide, by decide, by decide, by decide, by decide⟩

theorem wit_FieldUpdate_25 : ∃ (dt m : Nat) (s t : State) (e : ExecReq) (c : Ctx) (p : Bytes),
    Running updateActivateSpec m dt s e c t p ∧
    (t.auditFull = true ∨ t.update.act.isSome = true ∨ t.update.foreign ≠ []) :=
  ⟨0, 0, ({ wst (wreq 0x0E04 0 (bytesLE 1 0 ++ bytesLE 1 1 ++ zeros 6 ++ zeros 8)) with update := { stage := .verified, foreign := [1] } } : State), _, { mbx := 0, req := (wreq 0x0E04 0 (bytesLE 1 0 ++ bytesLE 1 1 ++ zeros 6 ++ zeros 8)), dbPos := 0, role := 2, poison := false }, _, _, ⟨rfl, by decide, rfl, rfl, rfl, rfl, by decide, by decide⟩, by decide⟩

theorem wit_FieldUpdate_26 : ∃ (dt m : Nat) (s t : State) (e : ExecReq) (c : Ctx) (p : Bytes),
    Running updateActivateSpec m dt s e c t p ∧
    t.auditFull = false ∧
    t.update.act = none ∧
    t.update.foreign = [] ∧
    (t.update.stage ≠ .verified ∨ t.txn.waiting ≠ [] ∨ t.group.asked ≠ [] ∨ (t.clock.run = false ∧ fld p 1 1 = 0)
      ∨ (fld p 0 1 = 0 ∧ t.group.inGroup = true ∧ (t.group.role ≠ .standby ∨ pkGen t.update.staged ≠ pkGen t.update.package))) :=
  ⟨0, 0, (wst (wreq 0x0E04 0 (bytesLE 1 0 ++ bytesLE 1 1 ++ zeros 6 ++ zeros 8)) : State), _, { mbx := 0, req := (wreq 0x0E04 0 (bytesLE 1 0 ++ bytesLE 1 1 ++ zeros 6 ++ zeros 8)), dbPos := 0, role := 2, poison := false }, _, _, ⟨rfl, by decide, rfl, rfl, rfl, rfl, by decide, by decide⟩, by decide, by decide, by decide, by decide⟩

theorem wit_FieldUpdate_27 : ∃ (dt m : Nat) (s t : State) (e : ExecReq) (c : Ctx) (p : Bytes) (st : Status),
    Running updateActivateSpec m dt s e c t p ∧
    t.group.inGroup = false ∧
    t.auditFull = false ∧
    t.update.act = none ∧
    t.update.foreign = [] ∧
    t.update.stage = .verified ∧
    t.txn.waiting = [] ∧
    t.group.asked = [] ∧
    t.clock.run = true ∧
    t.commitTarget (fld p 1 1) (fld p 8 8) c.db = .inl st :=
  ⟨0, 0, ({ wst (wreq 0x0E04 0 (bytesLE 1 0 ++ bytesLE 1 0 ++ zeros 6 ++ bytesLE 8 0)) with update := { stage := .verified }, clock := { run := true, nextLatch := 50 } } : State), _, { mbx := 0, req := (wreq 0x0E04 0 (bytesLE 1 0 ++ bytesLE 1 0 ++ zeros 6 ++ bytesLE 8 0)), dbPos := 0, role := 2, poison := false }, _, _, .late, ⟨rfl, by decide, rfl, rfl, rfl, rfl, by decide, by decide⟩, by decide, by decide, by decide, by decide, by decide, by decide, by decide, by decide, by decide⟩

theorem wit_FieldUpdate_28 : ∃ (dt : Nat) (a : Activation) (s : State),
    s.update.act = some a ∧
    s.update.actPhase = .accepted ∧
    (s.tick dt).activationDue a = true ∧
    s.group.inGroup = false :=
  ⟨0, { frame := 5, scope := 0, op := 4, changed := 0, stopped := true }, { update := { act := some { frame := 5, scope := 0, op := 4, changed := 0, stopped := true }, actPhase := .accepted, stage := .activating } }, by decide, by decide, by decide, by decide⟩

theorem wit_FieldUpdate_29 : ∃ (dt : Nat) (a : Activation) (s : State),
    s.update.act = some a ∧
    s.update.actPhase = .accepted ∧
    s.update.stage = .activating ∧
    (s.tick dt).activationDue a = true ∧
    a.stopped = false ∧
    a.scope ≠ 0 ∧
    s.group.inGroup = true ∧
    s.group.live = true ∧
    s.group.isCoord = true ∧
    (a.differs = true ∨ ∃ w ∈ s.group.awaited, w ∉ a.prepared) :=
  ⟨0, { frame := 0, scope := 1, op := 4, changed := 0 }, { update := { act := some { frame := 0, scope := 1, op := 4, changed := 0 }, actPhase := .accepted, stage := .activating }, clock := { run := true }, group := { phase := .formed, presentA := 3, coord := some 0, record := bytesLE 1 1 ++ zeros 1 ++ bytesLE 1 2 ++ zeros 1 ++ bytesLE 1 0xFF ++ zeros 0x10B } }, by decide, by decide, by decide, by decide, by decide, by decide, by decide, by decide, by decide, Or.inr ⟨1, by decide, by decide⟩⟩

theorem wit_FieldUpdate_30 : ∃ (dt : Nat) (s : State),
    (s.update.act = none ∨ s.update.actPhase ≠ .accepted ∨ (∃ a, s.update.act = some a ∧ (s.tick dt).activationDue a = false)) :=
  ⟨0, {}, by decide⟩

theorem wit_FieldUpdate_31 : ∃ (part : Nat) (a : Activation) (s : State),
    s.update.act = some a ∧
    a.whole = false ∧
    s.update.actPhase = .restarting ∧
    part ∈ a.parts :=
  ⟨3, { frame := 5, scope := 0, op := 4, changed := 8 }, { update := { act := some { frame := 5, scope := 0, op := 4, changed := 8 }, actPhase := .restarting, stage := .activating } }, by decide, by decide, by decide, by decide⟩

theorem wit_FieldUpdate_32 : ∃ (a : Activation) (s : State),
    s.update.act = some a ∧
    a.whole = true ∧
    s.update.actPhase = .restarting :=
  ⟨{ frame := 5, scope := 0, op := 4, changed := 8, whole := true }, { update := { act := some { frame := 5, scope := 0, op := 4, changed := 8, whole := true }, actPhase := .restarting, stage := .activating } }, by decide, by decide, by decide⟩

theorem wit_FieldUpdate_33 : ∃ (part : Nat) (s : State),
    (s.update.act = none ∨ s.update.actPhase ≠ .restarting ∨ (∃ a, s.update.act = some a ∧ a.whole = false ∧ part ∉ a.parts)) :=
  ⟨0, {}, by decide⟩

theorem wit_FieldUpdate_34 : ∃ (a : Activation) (s : State),
    s.update.act = some a ∧
    a.stopped = false ∧
    s.update.actPhase = .restarting ∧
    s.power.reset = .running ∧
    s.host.fwRestart = false ∧
    3 ∉ s.update.starting ∧
    s.update.serdes = [] :=
  ⟨{ frame := 5, scope := 0, op := 4, changed := 8 }, { update := { act := some { frame := 5, scope := 0, op := 4, changed := 8 }, actPhase := .restarting, areas := [(0, zeros 700), (1, zeros 600)] }, power := { reset := .running } }, by decide, by decide, by decide, by decide, by decide, by decide, by decide⟩

theorem wit_FieldUpdate_35 : ∃ (s : State),
    s.update.serdes = [] ∧
    (s.update.act = none ∨ (∃ a, s.update.act = some a ∧ a.stopped = false ∧ (s.update.actPhase ≠ .restarting ∨ s.power.reset ≠ .running ∨ s.host.fwRestart = true ∨ 3 ∈ s.update.starting))) :=
  ⟨{}, by decide, Or.inl (by decide)⟩

theorem wit_FieldUpdate_36 : ∃ (dt m : Nat) (s t : State) (e : ExecReq) (c : Ctx) (p : Bytes),
    Running updateStatusSpec m dt s e c t p :=
  ⟨0, 0, ({ wst (wreq 0x0E10 0 []) with update := { areas := [(0, zeros 700), (1, zeros 600)] } } : State), _, { mbx := 0, req := (wreq 0x0E10 0 []), dbPos := 0, role := 2, poison := false }, _, _, ⟨rfl, by decide, rfl, rfl, rfl, rfl, by decide, by decide⟩⟩

theorem wit_FieldUpdate_37 : ∃ (a : Activation) (s : State),
    s.update.act = some a ∧
    a.stopped = false ∧
    s.update.actPhase = .restarting ∧
    3 ∈ s.update.starting ∧
    s.host.fwRestart = false :=
  ⟨{ frame := 5, scope := 0, op := 4, changed := 8 }, { update := { act := some { frame := 5, scope := 0, op := 4, changed := 8 }, actPhase := .restarting, starting := [3] }, host := { sessions := [(1, { role := 2, idle := 0, lastNamed := 0 })] } }, by decide, by decide, by decide, by decide, by decide⟩

theorem wit_FieldUpdate_38 : ∃ (s : State),
    s.update.act = none ∧
    (s.update.actPhase ≠ .restarting ∨ s.host.fwRestart = true ∨ 3 ∉ s.update.starting) :=
  ⟨{}, by decide, by decide⟩

theorem wit_FieldUpdate_39 : ∃ (s : State),
    s.host.fwRestart = true :=
  ⟨{ host := { fwRestart := true } }, by decide⟩

theorem wit_FieldUpdate_40 : ∃ (s : State),
    s.host.fwRestart = false :=
  ⟨{}, by decide⟩

theorem wit_SecurityFunctions_1 : ∃ (dt m : Nat) (s t : State) (e : ExecReq) (c : Ctx) (p : Bytes),
    Running authChallengeSpec m dt s e c t p ∧
    t.secure.trngFault = false ∧
    ((t.secure.live t.now).filter fun n => n.session == c.session).length < 4 :=
  ⟨0, 0, (wst (wreq 0x0F01 0 []) : State), _, { mbx := 0, req := (wreq 0x0F01 0 []), dbPos := 0, role := 2, poison := false }, _, _, ⟨rfl, by decide, rfl, rfl, rfl, rfl, by decide, by decide⟩, by decide, by decide⟩

theorem wit_SecurityFunctions_2 : ∃ (dt m : Nat) (s t : State) (e : ExecReq) (c : Ctx) (p : Bytes) (o : Nonce) (rest : List Nonce),
    Running authChallengeSpec m dt s e c t p ∧
    t.secure.trngFault = false ∧
    (t.secure.live t.now).filter (fun n => n.session == c.session) = o :: rest ∧
    3 ≤ rest.length :=
  ⟨0, 0, ({ wst (wreq 0x0F01 0 []) with secure := { nonces := [⟨zeros 32, 1, 0⟩, ⟨zeros 32, 1, 0⟩, ⟨zeros 32, 1, 0⟩, ⟨zeros 32, 1, 0⟩] } } : State), _, { mbx := 0, req := (wreq 0x0F01 0 []), dbPos := 0, role := 2, poison := false }, _, _, ⟨zeros 32, 1, 0⟩, [⟨zeros 32, 1, 0⟩, ⟨zeros 32, 1, 0⟩, ⟨zeros 32, 1, 0⟩], ⟨rfl, by decide, rfl, rfl, rfl, rfl, by decide, by decide⟩, by decide, by decide, by decide⟩

theorem wit_SecurityFunctions_3 : ∃ (dt m : Nat) (s t : State) (e : ExecReq) (c : Ctx) (p : Bytes),
    Running authChallengeSpec m dt s e c t p ∧
    t.secure.trngFault = true :=
  ⟨0, 0, ({ wst (wreq 0x0F01 0 []) with secure := { trngFault := true } } : State), _, { mbx := 0, req := (wreq 0x0F01 0 []), dbPos := 0, role := 2, poison := false }, _, _, ⟨rfl, by decide, rfl, rfl, rfl, rfl, by decide, by decide⟩, by decide⟩

theorem wit_SecurityFunctions_4 : ∃ (dt m : Nat) (s t : State) (e : ExecReq) (c : Ctx) (p : Bytes),
    Running credSetSpec m dt s e c t p ∧
    t.auditFull = false ∧
    fld p 1 1 ≠ 0xFF ∧
    hasOfficer (t.credsDue.put (fld p 0 1) ⟨fld p 1 1, slice p 8 97⟩) = true ∧
    t.acceptFail = none :=
  ⟨0, 0, (wstR 3 (wreq 0x0F02 0 (bytesLE 1 0 ++ bytesLE 1 3 ++ zeros 110)) : State), _, { mbx := 0, req := (wreq 0x0F02 0 (bytesLE 1 0 ++ bytesLE 1 3 ++ zeros 110)), dbPos := 0, role := 3, poison := false }, _, _, ⟨rfl, by decide, rfl, rfl, rfl, rfl, by decide, by decide⟩, by decide, by decide, by decide, by decide⟩

theorem wit_SecurityFunctions_5 : ∃ (dt m : Nat) (s t : State) (e : ExecReq) (c : Ctx) (p : Bytes),
    Running credSetSpec m dt s e c t p ∧
    t.auditFull = false ∧
    fld p 1 1 = 0xFF ∧
    allZero (slice p 8 97) = true ∧
    hasOfficer (t.credsDue.del (fld p 0 1)) = true ∧
    t.acceptFail = none :=
  ⟨0, 0, ({ wstR 3 (wreq 0x0F02 0 (bytesLE 1 0 ++ bytesLE 1 255 ++ zeros 110)) with secure := { creds := [(1, ⟨3, []⟩)] } } : State), _, { mbx := 0, req := (wreq 0x0F02 0 (bytesLE 1 0 ++ bytesLE 1 255 ++ zeros 110)), dbPos := 0, role := 3, poison := false }, _, _, ⟨rfl, by decide, rfl, rfl, rfl, rfl, by decide, by decide⟩, by decide, by decide, by decide, by decide, by decide⟩

theorem wit_SecurityFunctions_6 : ∃ (dt m : Nat) (s t : State) (e : ExecReq) (c : Ctx) (p : Bytes),
    Running credSetSpec m dt s e c t p ∧
    t.auditFull = false ∧
    fld p 1 1 = 0xFF ∧
    allZero (slice p 8 97) = true ∧
    hasOfficer (t.credsDue.del (fld p 0 1)) = false :=
  ⟨0, 0, ({ wstR 3 (wreq 0x0F02 0 (bytesLE 1 0 ++ bytesLE 1 255 ++ zeros 110)) with secure := { creds := [(0, ⟨3, []⟩)] } } : State), _, { mbx := 0, req := (wreq 0x0F02 0 (bytesLE 1 0 ++ bytesLE 1 255 ++ zeros 110)), dbPos := 0, role := 3, poison := false }, _, _, ⟨rfl, by decide, rfl, rfl, rfl, rfl, by decide, by decide⟩, by decide, by decide, by decide, by decide⟩

theorem wit_SecurityFunctions_7 : ∃ (dt m : Nat) (s t : State) (e : ExecReq) (c : Ctx) (p : Bytes),
    Running credSetSpec m dt s e c t p ∧
    fld p 1 1 = 0xFF ∧
    allZero (slice p 8 97) = true ∧
    t.secure.policy = 1 ∧
    auditCapacity ≤ t.secure.unacked :=
  ⟨0, 0, ({ wstR 3 (wreq 0x0F02 0 (bytesLE 1 0 ++ bytesLE 1 255 ++ zeros 110)) with secure := { policy := 1, audit := List.replicate 262144 (0, []) } } : State), _, { mbx := 0, req := (wreq 0x0F02 0 (bytesLE 1 0 ++ bytesLE 1 255 ++ zeros 110)), dbPos := 0, role := 3 }, _, _, ⟨rfl, by decide, rfl, rfl, rfl, rfl, by decide, by decide⟩, by decide, by decide, rfl, by
    have h : ∀ n, SecureState.unacked { policy := 1, audit := List.replicate n (0, []) } = n := fun n => by simp [SecureState.unacked]
    exact Nat.le_of_eq (h 262144).symm⟩

theorem wit_SecurityFunctions_8 : ∃ (dt op : Nat) (o : Op) (slot role : Nat) (pub : Bytes) (s : State),
    (s.tick dt).op op 0x0F02 = some o ∧
    o.kind = .job [slot, role] pub :=
  ⟨0, 4, { id := 4, command := 0x0F02, flags := 0, tag := 7, session := 1, kind := .job [0, 3] [] }, 0, 3, [], { host := { ops := [{ id := 4, command := 0x0F02, flags := 0, tag := 7, session := 1, kind := .job [0, 3] [] }] } }, by decide, by decide⟩

theorem wit_SecurityFunctions_9 : ∃ (dt op : Nat) (s : State),
    (s.tick dt).op op 0x0F02 = none :=
  ⟨0, 0, {}, by decide⟩

theorem wit_SecurityFunctions_10 : ∃ (dt m : Nat) (s t : State) (e : ExecReq) (c : Ctx) (p : Bytes) (n : Nonce),
    Running keyEstablishSpec m dt s e c t p ∧
    t.auditFull = false ∧
    n ∈ t.secure.live t.now ∧
    n.value = slice p 0x64 32 ∧
    t.secure.trngFault = false ∧
    t.acceptFail = none :=
  ⟨0, 0, ({ wstR 3 (wreq 0x0F10 0 (zeros 132)) with secure := { nonces := [⟨zeros 32, 1, 0⟩] } } : State), _, { mbx := 0, req := (wreq 0x0F10 0 (zeros 132)), dbPos := 0, role := 3, poison := false }, _, _, ⟨zeros 32, 1, 0⟩, ⟨rfl, by decide, rfl, rfl, rfl, rfl, by decide, by decide⟩, by decide, by decide, by decide, by decide, by decide⟩

theorem wit_SecurityFunctions_11 : ∃ (dt m : Nat) (s t : State) (e : ExecReq) (c : Ctx) (p : Bytes),
    Running keyEstablishSpec m dt s e c t p ∧
    t.auditFull = false ∧
    (∀ n ∈ t.secure.live t.now, n.value ≠ slice p 0x64 32) :=
  ⟨0, 0, (wstR 3 (wreq 0x0F10 0 (zeros 132)) : State), _, { mbx := 0, req := (wreq 0x0F10 0 (zeros 132)), dbPos := 0, role := 3, poison := false }, _, _, ⟨rfl, by decide, rfl, rfl, rfl, rfl, by decide, by decide⟩, by decide, by decide⟩

theorem wit_SecurityFunctions_12 : ∃ (dt op : Nat) (o : Op) (ns : List Nat) (b : Bytes) (s : State),
    (s.tick dt).op op 0x0F10 = some o ∧
    o.kind = .job ns b :=
  ⟨0, 4, { id := 4, command := 0x0F10, flags := 0, tag := 7, session := 1, kind := .job [] [] }, [], [], { host := { ops := [{ id := 4, command := 0x0F10, flags := 0, tag := 7, session := 1, kind := .job [] [] }] } }, by decide, by decide⟩

theorem wit_SecurityFunctions_13 : ∃ (dt op : Nat) (s : State),
    (s.tick dt).op op 0x0F10 = none :=
  ⟨0, 0, {}, by decide⟩

theorem wit_SecurityFunctions_14 : ∃ (dt m : Nat) (s t : State) (e : ExecReq) (c : Ctx) (p k : Bytes),
    Running keyInstallSpec m dt s e c t p ∧
    t.auditFull = false ∧
    t.secure.kekNow = some k ∧
    t.acceptFail = none :=
  ⟨0, 0, ({ wstR 3 (wreq 0x0F11 0 (zeros 48)) with secure := { kek := some [] } } : State), _, { mbx := 0, req := (wreq 0x0F11 0 (zeros 48)), dbPos := 0, role := 3, poison := false }, _, _, [], ⟨rfl, by decide, rfl, rfl, rfl, rfl, by decide, by decide⟩, by decide, by decide, by decide⟩

theorem wit_SecurityFunctions_15 : ∃ (dt m : Nat) (s t : State) (e : ExecReq) (c : Ctx) (p : Bytes),
    Running keyInstallSpec m dt s e c t p ∧
    t.auditFull = false ∧
    t.secure.kekNow = none :=
  ⟨0, 0, (wstR 3 (wreq 0x0F11 0 (zeros 48)) : State), _, { mbx := 0, req := (wreq 0x0F11 0 (zeros 48)), dbPos := 0, role := 3, poison := false }, _, _, ⟨rfl, by decide, rfl, rfl, rfl, rfl, by decide, by decide⟩, by decide, by decide⟩

theorem wit_SecurityFunctions_16 : ∃ (dt op : Nat) (o : Op) (ns : List Nat) (b k : Bytes) (s : State),
    (s.tick dt).op op 0x0F11 = some o ∧
    o.kind = .job ns b ∧
    s.secure.kekNow = some k :=
  ⟨0, 4, { id := 4, command := 0x0F11, flags := 0, tag := 7, session := 1, kind := .job [] [] }, [], [], [], { host := { ops := [{ id := 4, command := 0x0F11, flags := 0, tag := 7, session := 1, kind := .job [] [] }] }, secure := { kek := some [] } }, by decide, by decide, by decide⟩

theorem wit_SecurityFunctions_17 : ∃ (dt op : Nat) (s : State),
    (s.tick dt).op op 0x0F11 = none :=
  ⟨0, 0, {}, by decide⟩

theorem wit_SecurityFunctions_18 : ∃ (dt m : Nat) (s t : State) (e : ExecReq) (c : Ctx) (p : Bytes),
    Running auditReadSpec m dt s e c t p ∧
    t.acceptFail = none :=
  ⟨0, 0, (wstR 3 (wreq 0x0F20 0 (zeros 8 ++ bytesLE 4 1 ++ bytesLE 1 0 ++ bytesLE 1 255 ++ zeros 2 ++ bytesLE 8 0x10000)) : State), _, { mbx := 0, req := (wreq 0x0F20 0 (zeros 8 ++ bytesLE 4 1 ++ bytesLE 1 0 ++ bytesLE 1 255 ++ zeros 2 ++ bytesLE 8 0x10000)), dbPos := 0, role := 3, poison := false }, _, _, ⟨rfl, by decide, rfl, rfl, rfl, rfl, by decide, by decide⟩, by decide⟩

theorem wit_SecurityFunctions_19 : ∃ (dt op : Nat) (o : Op) (ns : List Nat) (p : Bytes) (got : List (Nat × Bytes)) (s : State),
    (s.tick dt).op op 0x0F20 = some o ∧
    o.kind = .job ns p ∧
    got = ((s.secure.audit.filter fun e => fld p 0 8 ≤ e.1).take (fld p 8 4)) ∧
    fld p 12 1 = 0 ∧
    fld p 13 1 = 0xFF :=
  ⟨0, 4, { id := 4, command := 0x0F20, flags := 0, tag := 7, session := 1, kind := .job [] (zeros 8 ++ bytesLE 4 1 ++ bytesLE 1 0 ++ bytesLE 1 255 ++ zeros 2 ++ bytesLE 8 0x10000) }, [], (zeros 8 ++ bytesLE 4 1 ++ bytesLE 1 0 ++ bytesLE 1 255 ++ zeros 2 ++ bytesLE 8 0x10000), [], { host := { ops := [{ id := 4, command := 0x0F20, flags := 0, tag := 7, session := 1, kind := .job [] (zeros 8 ++ bytesLE 4 1 ++ bytesLE 1 0 ++ bytesLE 1 255 ++ zeros 2 ++ bytesLE 8 0x10000) }] } }, by decide, by decide, by decide, by decide, by decide⟩

theorem wit_SecurityFunctions_20 : ∃ (dt op : Nat) (o : Op) (ns : List Nat) (p : Bytes) (got : List (Nat × Bytes)) (s : State),
    (s.tick dt).op op 0x0F20 = some o ∧
    o.kind = .job ns p ∧
    got = ((s.secure.audit.filter fun e => fld p 0 8 ≤ e.1).take (fld p 8 4)) ∧
    fld p 12 1 = 1 :=
  ⟨0, 4, { id := 4, command := 0x0F20, flags := 0, tag := 7, session := 1, kind := .job [] (zeros 8 ++ bytesLE 4 1 ++ bytesLE 1 1 ++ bytesLE 1 255 ++ zeros 2 ++ bytesLE 8 0x10000) }, [], (zeros 8 ++ bytesLE 4 1 ++ bytesLE 1 1 ++ bytesLE 1 255 ++ zeros 2 ++ bytesLE 8 0x10000), [], { host := { ops := [{ id := 4, command := 0x0F20, flags := 0, tag := 7, session := 1, kind := .job [] (zeros 8 ++ bytesLE 4 1 ++ bytesLE 1 1 ++ bytesLE 1 255 ++ zeros 2 ++ bytesLE 8 0x10000) }] } }, by decide, by decide, by decide, by decide⟩

theorem wit_SecurityFunctions_21 : ∃ (dt op : Nat) (s : State),
    (s.tick dt).op op 0x0F20 = none :=
  ⟨0, 0, {}, by decide⟩

theorem wit_SecurityFunctions_22 : ∃ (dt m : Nat) (s t : State) (e : ExecReq) (c : Ctx) (p : Bytes),
    Running debugSetSpec m dt s e c t p ∧
    t.auditFull = false ∧
    fld p 0 1 = 1 ∧
    t.secure.debugPort = .locked ∧
    t.group.role ≠ .active :=
  ⟨0, 0, (wstR 3 (wreq 0x0F30 0 (bytesLE 1 1 ++ zeros 15)) : State), _, { mbx := 0, req := (wreq 0x0F30 0 (bytesLE 1 1 ++ zeros 15)), dbPos := 0, role := 3, poison := false }, _, _, ⟨rfl, by decide, rfl, rfl, rfl, rfl, by decide, by decide⟩, by decide, by decide, by decide, by decide⟩

theorem wit_SecurityFunctions_23 : ∃ (dt m : Nat) (s t : State) (e : ExecReq) (c : Ctx) (p : Bytes),
    Running debugSetSpec m dt s e c t p ∧
    t.auditFull = false ∧
    fld p 0 1 = 0 ∧
    t.secure.debugPort = .unlocked :=
  ⟨0, 0, ({ wstR 3 (wreq 0x0F30 0 (zeros 16)) with secure := { debugPort := .unlocked } } : State), _, { mbx := 0, req := (wreq 0x0F30 0 (zeros 16)), dbPos := 0, role := 3, poison := false }, _, _, ⟨rfl, by decide, rfl, rfl, rfl, rfl, by decide, by decide⟩, by decide, by decide, by decide⟩

theorem wit_SecurityFunctions_24 : ∃ (dt m : Nat) (s t : State) (e : ExecReq) (c : Ctx) (p : Bytes),
    Running debugSetSpec m dt s e c t p ∧
    t.auditFull = false ∧
    fld p 0 1 = 1 ∧
    (t.secure.debugPort = .disabled ∨ t.group.role = .active) :=
  ⟨0, 0, ({ wstR 3 (wreq 0x0F30 0 (bytesLE 1 1 ++ zeros 15)) with group := { role := .active } } : State), _, { mbx := 0, req := (wreq 0x0F30 0 (bytesLE 1 1 ++ zeros 15)), dbPos := 0, role := 3, poison := false }, _, _, ⟨rfl, by decide, rfl, rfl, rfl, rfl, by decide, by decide⟩, by decide, by decide, by decide⟩

theorem wit_SecurityFunctions_25 : ∃ (dt m : Nat) (s t : State) (e : ExecReq) (c : Ctx) (p : Bytes),
    Running debugSetSpec m dt s e c t p ∧
    t.auditFull = false ∧
    fld p 0 1 = 2 :=
  ⟨0, 0, (wstR 3 (wreq 0x0F30 0 (bytesLE 1 2 ++ zeros 15)) : State), _, { mbx := 0, req := (wreq 0x0F30 0 (bytesLE 1 2 ++ zeros 15)), dbPos := 0, role := 3, poison := false }, _, _, ⟨rfl, by decide, rfl, rfl, rfl, rfl, by decide, by decide⟩, by decide, by decide⟩

theorem wit_SecurityFunctions_26 : ∃ (s : State),
    s.secure.debugPort = .unlocked :=
  ⟨{ secure := { debugPort := .unlocked } }, by decide⟩

theorem wit_SecurityFunctions_27 : ∃ (s : State),
    s.secure.debugPort ≠ .unlocked :=
  ⟨{}, by decide⟩

theorem wit_SecurityFunctions_28 : ∃ (dt m : Nat) (s t : State) (e : ExecReq) (c : Ctx) (p : Bytes),
    Running securityStatusSpec m dt s e c t p :=
  ⟨0, 0, (wst (wreq 0x0F40 0 []) : State), _, { mbx := 0, req := (wreq 0x0F40 0 []), dbPos := 0, role := 2, poison := false }, _, _, ⟨rfl, by decide, rfl, rfl, rfl, rfl, by decide, by decide⟩⟩

theorem wit_SecurityFunctions_29 : ∃ (dt at_ : Nat) (s : State),
    s.secure.lockoutEnd = some at_ ∧
    at_ ≤ (s.tick dt).now :=
  ⟨5, 5, { secure := { lockoutEnd := some 5 } }, by decide, by decide⟩

theorem wit_SecurityFunctions_30 : ∃ (dt : Nat) (s : State),
    (s.secure.lockoutEnd = none ∨ (∃ i, s.secure.lockoutEnd = some i ∧ (s.tick dt).now < i)) :=
  ⟨0, {}, by decide⟩

theorem wit_ResetAndStart_6 : ∃ (dt : Nat) (s : State),
    s.power.reset = .held ∧
    s.power.tripped = false ∧
    s.power.railsOut = 0 ∧
    (∀ g, s.power.railsGoodAt = some g → g + cycMs ≤ (s.tick dt).now) :=
  ⟨0, {}, rfl, rfl, rfl, fun g h => by cases h⟩

theorem wit_ResetAndStart_7 : ∃ (dt : Nat) (s : State),
    (s.power.reset ≠ .held ∨ s.power.tripped = true ∨ s.power.railsOut ≠ 0 ∨ (∃ g, s.power.railsGoodAt = some g ∧ (s.tick dt).now < g + cycMs)) :=
  ⟨0, { power := { tripped := true } }, Or.inr (Or.inl rfl)⟩

theorem wit_ResetAndStart_8 : ∃ (bootBad areaBad : Nat) (s : State),
    s.power.reset = .booting ∧
    (s.host.bootStage = 1 ∨ s.host.bootStage = 2) ∧
    (bit bootBad 0 = false ∨ bit bootBad 1 = false) ∧
    s.update.boots s.update.running (bit areaBad s.update.running) = true :=
  ⟨0, 0, { host := { bootStage := 1 }, power := { reset := .booting } }, by decide, by decide, by decide, by decide⟩

theorem wit_ResetAndStart_9 : ∃ (bootBad areaBad : Nat) (s : State),
    s.power.reset = .booting ∧
    (s.host.bootStage = 1 ∨ s.host.bootStage = 2) ∧
    (bit bootBad 0 = false ∨ bit bootBad 1 = false) ∧
    s.update.running ≤ 1 ∧
    s.update.boots s.update.running (bit areaBad s.update.running) = false ∧
    s.update.boots s.update.staging (bit areaBad s.update.staging) = true :=
  ⟨0, 0, { host := { bootStage := 2 }, power := { reset := .booting }, update := { running := 1 } }, by decide, by decide, by decide, by decide, by decide, by decide⟩

theorem wit_ResetAndStart_10 : ∃ (bootBad areaBad : Nat) (s : State),
    (s.power.reset ≠ .booting ∨ (s.host.bootStage ≠ 1 ∧ s.host.bootStage ≠ 2) ∨ (bit bootBad 0 = true ∧ bit bootBad 1 = true)
      ∨ (s.update.boots s.update.running (bit areaBad s.update.running) = false ∧ s.update.boots s.update.staging (bit areaBad s.update.staging) = false)) :=
  ⟨3, 0, {}, by decide⟩

theorem wit_ResetAndStart_11 : ∃ (s : State),
    s.power.reset = .running ∧
    s.host.mbxReady = false ∧
    s.host.fwRestart = false :=
  ⟨{ power := { reset := .running } }, by decide, by decide, by decide⟩

theorem wit_ResetAndStart_12 : ∃ (s : State),
    (s.power.reset ≠ .running ∨ s.host.mbxReady = true ∨ s.host.fwRestart = true) :=
  ⟨{}, by decide⟩

theorem wit_ResetAndStart_13 : ∃ (dt at_ : Nat) (s : State),
    s.power.stallSince = some at_ ∧
    at_ + 100 * cycMs ≤ (s.tick dt).now :=
  ⟨50000000, 0, { power := { reset := .running, stallSince := some 0 } }, by decide, by decide⟩

theorem wit_ResetAndStart_14 : ∃ (dt : Nat) (s : State),
    (s.power.stallSince = none ∨ (∃ i, s.power.stallSince = some i ∧ (s.tick dt).now < i + 100 * cycMs)) :=
  ⟨0, {}, by decide⟩

theorem wit_ResetAndStart_15 : ∃ (tj : Int),
    1920 ≤ tj :=
  ⟨1920, by decide⟩

theorem wit_ResetAndStart_16 : ∃ (tj : Int),
    tj < 1920 :=
  ⟨1919, by decide⟩

theorem wit_PowerAndThermal_1 : ∃ (s : State),
    s.power.reset = .running ∧
    s.host.fwRestart = false :=
  ⟨{ power := { reset := .running } }, by decide, by decide⟩

theorem wit_PowerAndThermal_2 : ∃ (s : State),
    (s.power.reset ≠ .running ∨ s.host.fwRestart = true) :=
  ⟨{}, by decide⟩

theorem wit_PowerAndThermal_3 : ∃ (s : State),
    s.power.reset = .running ∧
    s.group.role ≠ .active :=
  ⟨{ power := { reset := .running } }, by decide, by decide⟩

theorem wit_PowerAndThermal_4 : ∃ (s : State),
    s.power.reset = .running ∧
    s.group.role = .active :=
  ⟨{ power := { reset := .running }, group := { role := .active } }, by decide, by decide⟩

theorem wit_PowerAndThermal_5 : ∃ (s : State),
    s.power.reset ≠ .running :=
  ⟨{}, by decide⟩

theorem wit_PowerAndThermal_6 : ∃ (rail : Nat) (s : State),
    rail < 8 ∧
    s.power.reset ≠ .held :=
  ⟨7, { power := { reset := .running } }, by decide, by decide⟩

theorem wit_PowerAndThermal_7 : ∃ (rail : Nat) (s : State),
    rail < 8 ∧
    s.power.reset = .held :=
  ⟨7, {}, by decide, by decide⟩

theorem wit_PowerAndThermal_8 : ∃ (rail : Nat),
    8 ≤ rail :=
  ⟨8, by decide⟩

theorem wit_PowerAndThermal_9 : ∃ (rail : Nat) (s : State),
    bit s.power.railsOut rail = true :=
  ⟨3, { power := { railsOut := 8 } }, by decide⟩

theorem wit_PowerAndThermal_11 : ∃ (rail : Nat) (s : State),
    bit s.power.railsOut rail = false :=
  ⟨0, {}, by decide⟩

theorem wit_PowerAndThermal_12 : ∃ (s : State),
    s.power.reset ≠ .held :=
  ⟨{ power := { reset := .running } }, by decide⟩

theorem wit_PowerAndThermal_13 : ∃ (s : State),
    s.power.reset = .held :=
  ⟨{}, by decide⟩

theorem wit_PowerAndThermal_14 : ∃ (fixed clusters dma mgmt : Nat) (tj : Int) (s : State),
    s.power.reset ≠ .held ∧
    tj ≤ 1520 ∧
    fixed + clusters + dma + mgmt ≤ s.power.ceilingMw :=
  ⟨0, 0, 0, 0, 0, { power := { reset := .running } }, by decide, by decide, by decide⟩

theorem wit_PowerAndThermal_15 : ∃ (fixed clusters dma mgmt : Nat) (tj : Int) (s : State),
    s.power.reset ≠ .held ∧
    tj ≤ 1520 ∧
    s.power.ceilingMw < fixed + clusters + dma + mgmt ∧
    fixed + dma + mgmt ≤ s.power.ceilingMw ∧
    16 * clusters ≤ (s.power.ceilingMw - (fixed + dma + mgmt)) * 256 :=
  ⟨30000, 50000, 0, 0, 0, { power := { reset := .running } }, by decide, by decide, by decide, by decide, by decide⟩

theorem wit_PowerAndThermal_16 : ∃ (fixed clusters dma mgmt : Nat) (tj : Int) (s : State),
    s.power.reset ≠ .held ∧
    tj ≤ 1520 ∧
    s.power.ceilingMw < fixed + clusters * 16 / 256 + dma / 4 + mgmt / 2 :=
  ⟨70000, 0, 0, 0, 0, { power := { reset := .running } }, by decide, by decide, by decide⟩

theorem wit_PowerAndThermal_17 : ∃ (s : State),
    s.power.reset = .held :=
  ⟨{ power := { reset := .held } }, by decide⟩

theorem wit_PowerAndThermal_18 : ∃ (dt m : Nat) (s t : State) (e : ExecReq) (c : Ctx) (p : Bytes),
    Running powerConfigSpec m dt s e c t p :=
  ⟨0, 0, (wst (wreq 0x0C40 0 (bytesLE 4 20000 ++ zeros 4)) : State), _, { mbx := 0, req := (wreq 0x0C40 0 (bytesLE 4 20000 ++ zeros 4)), dbPos := 0, role := 2, poison := false }, _, _, ⟨rfl, by decide, rfl, rfl, rfl, rfl, by decide, by decide⟩⟩

theorem wit_PowerAndThermal_19 : ∃ (dt m : Nat) (s t : State) (e : ExecReq) (c : Ctx) (p : Bytes),
    Running supplyStatusSpec m dt s e c t p :=
  ⟨0, 0, (wst (wreq 0x0C41 0 []) : State), _, { mbx := 0, req := (wreq 0x0C41 0 []), dbPos := 0, role := 2, poison := false }, _, _, ⟨rfl, by decide, rfl, rfl, rfl, rfl, by decide, by decide⟩⟩

end Sys2Proof.Machine
end

section
/-!
PROOFS. The scope of the model (spec/00_scope.md): a mailbox request that fails a check, and the host's accesses to the register window.
-/

namespace Sys2Proof.Machine

/-! ### The rows of mailbox commands (R16, R69, R71) -/

/-- Every command that writes no show state runs its own row in its mailbox. -/
theorem exec_of_plainOf {i : Instr} {dt m : Nat} {spec : CommandSpec} (h : plainOf i = some (dt, m, spec)) (s : State) :
    exec i s = s.act dt (·.runMbx spec m) := by
  unfold plainOf at h
  split at h <;> cases h <;> rfl

/-- Every show write runs the row of its kind in its mailbox. -/
theorem exec_of_showOf {i : Instr} {dt m : Nat} {cmd : ShowCmd} (h : showOf i = some (dt, m, cmd)) (s : State) :
    exec i s = s.act dt (·.runMbx cmd.spec m) := by
  unfold showOf at h
  split at h <;> cases h <;> rfl

/-- A mailbox command, TXN_COMMIT apart, lets time pass and runs its row in its mailbox. -/
theorem exec_of_mailboxOf {i : Instr} {dt m : Nat} {spec : CommandSpec} (h : mailboxOf i = some (dt, m, spec)) (s : State) :
    exec i s = s.act dt (·.runMbx spec m) := by
  rw [mailboxOf, Option.orElse_eq_orElse, Option.orElse_eq_or, Option.or_eq_some_iff] at h
  rcases h with hplain | ⟨-, hshow⟩
  · exact exec_of_plainOf hplain s
  · obtain ⟨⟨_, _, cmd⟩, hcmd, heq⟩ := Option.map_eq_some_iff.mp hshow
    cases heq
    exact exec_of_showOf hcmd s

/-- A row without a request of its command in its mailbox does nothing (R16). -/
theorem State.runMbx_of_no_request {s : State} {spec : CommandSpec} {m : Nat} (h : s.host.execOf m spec.code = none) :
    s.runMbx spec m = s := by
  simp only [State.runMbx, h, ite_self]

/-- A row with a request of its command executes that request, while mailboxes work. -/
theorem State.runMbx_of_request {s : State} {spec : CommandSpec} {m : Nat} {e : ExecReq} (hr : s.host.mbxReady = true)
    (he : s.host.execOf m spec.code = some e) : s.runMbx spec m = s.runExec spec e := by
  simp only [State.runMbx, hr, he, Bool.not_true, Bool.false_eq_true, if_false]

/-- The first failing check of R69 is the answer, and the state stays. -/
theorem CommandSpec.execute_of_firstFail {spec : CommandSpec} {c : Ctx} {t : State} {st : Status} (h : spec.firstFail c t = some st)
    (poison : Bool) : spec.execute c poison t = (t, ⟨st, [], none⟩) := by
  simp only [CommandSpec.execute, h]

/-- Settles O8: a mailbox command is its row, and a failed check ends the row before the command's body. -/
theorem failedCheckChangesNothing : Obligations.FailedCheckChangesNothing := by
  refine ⟨fun i dt m spec s t e c st hi hr he hc ht hf => ?_, fun i dt m spec s hi he => ?_⟩
  · have hrow : (s.tick dt).runMbx spec m = t.finish c e.orphan ⟨st, [], none⟩ := by
      rw [State.runMbx_of_request (by rw [State.tick_host, hr]) (by rw [State.tick_host, he])]
      simp only [State.runExec, State.tick_host, ← hc, ← ht, CommandSpec.execute_of_firstFail hf]
    rw [exec_of_mailboxOf hi, State.act, hrow, answers]
  · rw [exec_of_mailboxOf hi, State.act, State.runMbx_of_no_request (by rw [State.tick_host, he])]

/-! ### Writes to the register window (R9, R12, R14) -/

/-- Every aligned 32-bit access is a word of the window. -/
theorem accessOk_word {off : Nat} (h : off % 4 = 0) : accessOk off 4 = true := by
  simp only [accessOk, h, beq_self_eq_true, Bool.and_self, Bool.true_or]

/-- A misaligned access, or one of a size that the register does not take, writes nothing (R14). -/
theorem State.regWrite_of_not_accessOk {off size : Nat} (h : accessOk off size = false) (s : State) (v : Nat) (posted : List BulkDesc) :
    s.regWrite off size v posted = s := by
  simp only [State.regWrite, h, Bool.not_false, if_true]

/-- The window of the DEV_ registers. -/
theorem State.regWrite_dev (s : State) {off : Nat} (h : off < 0x20) (ha : off % 4 = 0) (v : Nat) (posted : List BulkDesc) :
    s.regWrite (0x100 + off) 4 v posted = s.devWrite off v := by
  have hok : accessOk (0x100 + off) 4 = true := accessOk_word (by omega)
  simp only [State.regWrite, hok, Bool.not_true, Bool.false_eq_true, if_false, Bool.and_eq_true, decide_eq_true_eq]
  rw [if_pos (by omega), Nat.add_sub_cancel_left]

/-- The window of the mailbox control blocks. -/
theorem State.regWrite_mbx (s : State) {off : Nat} (h : off < 0x400) (ha : off % 4 = 0) (v : Nat) (posted : List BulkDesc) :
    s.regWrite (0x400 + off) 4 v posted = s.mbxWrite off v := by
  have hok : accessOk (0x400 + off) 4 = true := accessOk_word (by omega)
  simp only [State.regWrite, hok, Bool.not_true, Bool.false_eq_true, if_false, Bool.and_eq_true, decide_eq_true_eq]
  rw [if_neg (by omega), if_pos (by omega), Nat.add_sub_cancel_left]

/-- The window of the interrupt controller. -/
theorem State.regWrite_icu (s : State) {off : Nat} (h : off < 0x1000) (ha : off % 4 = 0) (v : Nat) (posted : List BulkDesc) :
    s.regWrite (0x1000 + off) 4 v posted = s.icuWrite off v := by
  have hok : accessOk (0x1000 + off) 4 = true := accessOk_word (by omega)
  simp only [State.regWrite, hok, Bool.not_true, Bool.false_eq_true, if_false, Bool.and_eq_true, decide_eq_true_eq]
  rw [if_neg (by omega), if_neg (by omega), if_pos (by omega), Nat.add_sub_cancel_left]

/-- The window of the rings. -/
theorem State.regWrite_rng (s : State) {off : Nat} (h : off < 0x400) (ha : off % 4 = 0) (v : Nat) (posted : List BulkDesc) :
    s.regWrite (0x2000 + off) 4 v posted = s.rngWrite off 4 v posted := by
  have hok : accessOk (0x2000 + off) 4 = true := accessOk_word (by omega)
  simp only [State.regWrite, hok, Bool.not_true, Bool.false_eq_true, if_false, Bool.and_eq_true, decide_eq_true_eq]
  rw [if_neg (by omega), if_neg (by omega), if_neg (by omega), if_pos (by omega), Nat.add_sub_cancel_left]

/-! ### The registers of a block -/

/-- MBX_DOORBELL of mailbox `m`. -/
theorem State.mbxWrite_doorbell (s : State) (m v : Nat) : s.mbxWrite (64 * m) v = s.doorbell m v := by
  rw [State.mbxWrite, if_pos (Nat.mul_mod_right 64 m), Nat.mul_div_cancel_left m (by decide)]

/-- MBX_DONE of mailbox `m`. -/
theorem State.mbxWrite_done (s : State) (m v : Nat) : s.mbxWrite (64 * m + 8) v = s.setMbx m ((s.mbx m).clearDone v s.now) := by
  have hm : (64 * m + 8) / 64 = m := by omega
  have ho : (64 * m + 8) % 64 = 8 := by omega
  rw [State.mbxWrite, if_neg (by omega), if_pos ho, hm]

/-- RNG_HOST_IDX of ring `r`. -/
theorem State.rngWrite_hostIdx (s : State) (r v : Nat) (posted : List BulkDesc) :
    s.rngWrite (32 * r + 0x10) 4 v posted = s.rngHostIdxWrite r (BitVec.ofNat 32 v) posted := by
  have hr : (32 * r + 0x10) / 32 = r := by omega
  have ho : (32 * r + 0x10) % 32 = 0x10 := by omega
  rw [State.rngWrite, if_neg (by omega), if_neg (by omega), if_neg (by omega), if_neg (by omega), if_pos ho, hr]

/-- ICU_PEND of the pair of groups `p`. -/
theorem State.icuWrite_pend (s : State) {p : Nat} (h : p < 8) (v : Nat) : s.icuWrite (0x400 + 4 * p) v = s.pendClear p v := by
  have hp : (0x400 + 4 * p - 0x400) / 4 = p := by omega
  rw [State.icuWrite, if_neg (by omega), if_pos (by omega), hp]

/-- ICU_PEND_SET of the pair of groups `p`. -/
theorem State.icuWrite_pendSet (s : State) {p : Nat} (h : p < 8) (v : Nat) : s.icuWrite (0x420 + 4 * p) v = s.pendSet p v := by
  have hp : (0x420 + 4 * p - 0x420) / 4 = p := by omega
  rw [State.icuWrite, if_neg (by omega), if_neg (by omega), if_pos (by omega), hp]

/-- ICU_COMPLETE of target `k`. -/
theorem State.icuWrite_complete (s : State) {k : Nat} (h : k < 32) (v : Nat) : s.icuWrite (0x504 + 16 * k) v = s.icuComplete k v := by
  have hk : (0x504 + 16 * k - 0x500) / 16 = k := by omega
  have ho : (0x504 + 16 * k) % 16 = 4 := by omega
  simp only [State.icuWrite, Bool.and_eq_true, decide_eq_true_eq]
  rw [if_neg (by omega), if_neg (by omega), if_neg (by omega), if_neg (by omega), if_pos (by omega), if_pos ho, hk]

/-- The configuration registers lie at aligned offsets in the controller's window. -/
theorem icuConfigOff_aligned {off : Nat} (h : icuConfigOff off = true) : off % 4 = 0 ∧ off < 0x1000 := by
  simp only [icuConfigOff, Bool.and_eq_true, Bool.or_eq_true, beq_iff_eq, decide_eq_true_eq] at h
  omega

/-! ### REGISTER_WRITE

Each register of R57, R63, R88 and R472 that has a command of its own: the offset reaches the same effect as that command. -/

/-- An access that runs past the 64 KiB of BAR0 faults. -/
theorem exec_registerWrite_outside {off size : Nat} (h : 0x10000 < off + size) (dt v : Nat) (posted : List BulkDesc) (s : State) :
    exec (.registerWrite dt off size v posted) s = .fault .outsideWindow := by
  rw [exec_registerWrite, execRegisterWrite, if_pos h]

/-- An access within the window lets time pass and writes the register. -/
theorem exec_registerWrite_inside {off size : Nat} (h : off + size ≤ 0x10000) (dt v : Nat) (posted : List BulkDesc) (s : State) :
    exec (.registerWrite dt off size v posted) s = s.act dt (·.regWrite off size v posted) := by
  rw [exec_registerWrite, execRegisterWrite, if_neg (by omega)]

/-- A word written within the window acts as a command whose effect is that of its register. -/
theorem exec_registerWrite_eq_act {off v : Nat} {posted : List BulkDesc} {f : State → State} (h : off + 4 ≤ 0x10000)
    (hf : ∀ t : State, t.regWrite off 4 v posted = f t) (dt : Nat) (s : State) :
    exec (.registerWrite dt off 4 v posted) s = s.act dt f := by
  rw [exec_registerWrite_inside h, State.act, State.act, hf]

/-- A misaligned access lets time pass and does nothing else. -/
theorem exec_registerWrite_misaligned {off size : Nat} (h : off + size ≤ 0x10000) (ha : accessOk off size = false) (dt v : Nat)
    (posted : List BulkDesc) (s : State) : exec (.registerWrite dt off size v posted) s = .next (s.tick dt).settle := by
  rw [exec_registerWrite_inside h, State.act, State.regWrite_of_not_accessOk ha]

/-- A word written to DEV_EVENT clears the bits written as one. -/
theorem exec_registerWrite_devEvent (dt v : Nat) (posted : List BulkDesc) (s : State) :
    exec (.registerWrite dt 0x118 4 v posted) s = .next ({ (s.tick dt) with host := { s.host with
      devEvent := w1c s.host.devEvent v (setBits s.host.devEventAt (s.tick dt).now) } }).settle := by
  rw [exec_registerWrite_eq_act (by decide) (fun t => t.regWrite_dev (off := 0x18) (by decide) (by decide) v posted)]
  rfl

theorem exec_registerWrite_doorbell {m : Nat} (h : m < 16) (dt v : Nat) (posted : List BulkDesc) (s : State) :
    exec (.registerWrite dt (0x400 + 64 * m) 4 v posted) s = exec (.mbxDoorbell dt m v) s := by
  rw [exec_mbxDoorbell, execMbxDoorbell, Nat.mod_eq_of_lt h]
  refine exec_registerWrite_eq_act (by omega) (fun t => ?_) dt s
  rw [t.regWrite_mbx (by omega) (by omega), State.mbxWrite_doorbell]

theorem exec_registerWrite_done {m : Nat} (h : m < 16) (dt v : Nat) (posted : List BulkDesc) (s : State) :
    exec (.registerWrite dt (0x408 + 64 * m) 4 v posted) s = exec (.mbxDoneClear dt m v) s := by
  rw [exec_mbxDoneClear, execMbxDoneClear, Nat.mod_eq_of_lt h, show 0x408 + 64 * m = 0x400 + (64 * m + 8) by omega]
  refine exec_registerWrite_eq_act (by omega) (fun t => ?_) dt s
  rw [t.regWrite_mbx (by omega) (by omega), State.mbxWrite_done]

theorem exec_registerWrite_hostIdx {r : Nat} (h : r < 32) (dt v : Nat) (posted : List BulkDesc) (s : State) :
    exec (.registerWrite dt (0x2010 + 32 * r) 4 v posted) s = exec (.rngHostIdxWrite dt r v posted) s := by
  rw [exec_rngHostIdxWrite, execRngHostIdxWrite, Nat.mod_eq_of_lt h, show 0x2010 + 32 * r = 0x2000 + (32 * r + 0x10) by omega]
  refine exec_registerWrite_eq_act (by omega) (fun t => ?_) dt s
  rw [t.regWrite_rng (by omega) (by omega), State.rngWrite_hostIdx]

theorem exec_registerWrite_pendSet {p : Nat} (h : p < 8) (dt v : Nat) (posted : List BulkDesc) (s : State) :
    exec (.registerWrite dt (0x1420 + 4 * p) 4 v posted) s = exec (.icuPendSet dt p v) s := by
  rw [exec_icuPendSet, execIcuPendSet, Nat.mod_eq_of_lt h, show 0x1420 + 4 * p = 0x1000 + (0x420 + 4 * p) by omega]
  refine exec_registerWrite_eq_act (by omega) (fun t => ?_) dt s
  rw [t.regWrite_icu (by omega) (by omega), t.icuWrite_pendSet h]

theorem exec_registerWrite_pend {p : Nat} (h : p < 8) (dt v : Nat) (posted : List BulkDesc) (s : State) :
    exec (.registerWrite dt (0x1400 + 4 * p) 4 v posted) s = exec (.icuPendClear dt p v) s := by
  rw [exec_icuPendClear, execIcuPendClear, Nat.mod_eq_of_lt h, show 0x1400 + 4 * p = 0x1000 + (0x400 + 4 * p) by omega]
  refine exec_registerWrite_eq_act (by omega) (fun t => ?_) dt s
  rw [t.regWrite_icu (by omega) (by omega), t.icuWrite_pend h]

theorem exec_registerWrite_complete {k : Nat} (h : k < 32) (dt v : Nat) (posted : List BulkDesc) (s : State) :
    exec (.registerWrite dt (0x1504 + 16 * k) 4 v posted) s = exec (.icuComplete dt k v) s := by
  rw [exec_icuComplete, execIcuComplete, show 0x1504 + 16 * k = 0x1000 + (0x504 + 16 * k) by omega]
  refine exec_registerWrite_eq_act (by omega) (fun t => ?_) dt s
  rw [t.regWrite_icu (by omega) (by omega), t.icuWrite_complete h]

theorem exec_registerWrite_config {off : Nat} (h : icuConfigOff off = true) (dt v : Nat) (posted : List BulkDesc) (s : State) :
    exec (.registerWrite dt (0x1000 + off) 4 v posted) s = exec (.icuConfigWrite dt off v) s := by
  obtain ⟨halign, hlt⟩ := icuConfigOff_aligned h
  simp only [exec_icuConfigWrite, execIcuConfigWrite, h, if_true]
  exact exec_registerWrite_eq_act (by omega) (fun t => t.regWrite_icu hlt halign v posted) dt s

/-! ### 32-bit reads (R9, R12, R14) -/

/-- A 32-bit read below the interrupt controller answers the word there. -/
theorem State.regRead_word_below_icu (s : State) {off : Nat} (h : off < 0x1000) (ha : off % 4 = 0) :
    (s.regRead off 4).1 = s.word off s.fresh.1 := by
  simp only [State.regRead, Bool.and_eq_true, Bool.or_eq_true, decide_eq_true_eq]
  rw [if_pos ⟨trivial, ha⟩, if_neg (by omega), if_neg (by omega)]

/-- The first words of the window are the identity registers (R56). -/
theorem State.regRead_hid (s : State) {off : Nat} (h : off < 0x18) (ha : off % 4 = 0) : (s.regRead off 4).1 = s.hidRead off := by
  rw [s.regRead_word_below_icu (by omega) ha, State.word, if_pos h]

/-- The reserved offsets between HID_UID and the DEV_ registers read zero (R12). -/
theorem State.regRead_reserved (s : State) {off : Nat} (hlo : 0x20 ≤ off) (hhi : off < 0x100) (ha : off % 4 = 0) :
    (s.regRead off 4).1 = 0 := by
  rw [s.regRead_word_below_icu (by omega) ha, State.word, if_neg (by omega), if_neg (by omega), if_pos hhi]

/-- DEV_EVENT reads as it stands (R57). -/
theorem State.regRead_devEvent (s : State) : (s.regRead 0x118 4).1 = s.host.devEvent.toNat := by
  rw [s.regRead_word_below_icu (by decide) (by decide)]
  rfl

/-- A read of ICU_CLAIM of target `k` claims (R465). -/
theorem State.regRead_claim (s : State) {k : Nat} (h : k < 32) : (s.regRead (0x1500 + 16 * k) 4).2 = s.icuClaim k := by
  have hk : (0x1500 + 16 * k - 0x1500) / 16 = k := by omega
  simp only [State.regRead, Bool.and_eq_true, decide_eq_true_eq, hk]
  rw [if_pos ⟨trivial, by omega⟩, if_pos (by omega)]

/-- Settles O11: the offset selects the block of the window and then the register, whose write is the effect of its own command. -/
theorem registerWriteReachesUnit : Obligations.RegisterWriteReachesUnit :=
  ⟨fun dt _ _ v posted s h => exec_registerWrite_outside h dt v posted s,
    fun dt _ _ v posted s h ha => exec_registerWrite_misaligned h ha dt v posted s,
    exec_registerWrite_devEvent,
    fun dt v posted _ s h => exec_registerWrite_doorbell h dt v posted s,
    fun dt v posted _ s h => exec_registerWrite_done h dt v posted s,
    fun dt v posted _ s h => exec_registerWrite_hostIdx h dt v posted s,
    fun dt v posted _ s h => exec_registerWrite_pendSet h dt v posted s,
    fun dt v posted _ s h => exec_registerWrite_pend h dt v posted s,
    fun dt v posted _ s h => exec_registerWrite_complete h dt v posted s,
    fun dt _ v posted s h => exec_registerWrite_config h dt v posted s,
    fun s => ⟨s.regRead_hid (by decide) (by decide), s.regRead_hid (by decide) (by decide), s.regRead_hid (by decide) (by decide),
      fun _ => s.regRead_reserved, s.regRead_devEvent, fun _ => s.regRead_claim⟩⟩

end Sys2Proof.Machine
end

section
/-!
PROOFS. The start of the show clock (R101, R109, R112, R131, R132): the grid from t(START_FRAME) on, and the operations that end there.
-/

namespace Sys2Proof.Machine

/-! ### Fixed periods (R101) -/

/-- Frame `h` follows frame `g` in the grid: it begins where the period of `g` ends. -/
def GridFrame.Next (g h : GridFrame) : Prop := h.n = g.n + 1 ∧ h.t = g.t + g.period

/-- Each frame of a grid follows the one before it. -/
def Consecutive (l : List GridFrame) : Prop := ∀ i g h, l[i]? = some g → l[i + 1]? = some h → g.Next h

theorem consecutive_singleton (g : GridFrame) : Consecutive [g] := by
  intro i a b _ hb
  cases hb

/-- A frame that follows the last one keeps the frames of a grid in sequence. -/
theorem Consecutive.concat {l : List GridFrame} {g f : GridFrame} (hl : Consecutive l) (hlast : l.getLast? = some g) (hf : g.Next f) :
    Consecutive (l ++ [f]) := by
  intro i a b ha hb
  obtain ⟨hi, -⟩ := List.getElem?_eq_some_iff.mp hb
  rw [List.length_append, List.length_singleton] at hi
  rw [List.getElem?_append_left (by omega)] at ha
  by_cases hlt : i + 1 < l.length
  · rw [List.getElem?_append_left hlt] at hb
    exact hl i a b ha hb
  · have hend : i + 1 = l.length := by omega
    rw [hend, List.getElem?_concat_length] at hb
    rw [List.getLast?_eq_getElem?, ← hend, Nat.add_sub_cancel, ha] at hlast
    cases hlast
    cases hb
    exact hf

/-- Fixing a period moves neither the present frame nor what the start has stored. -/
theorem ClockState.fixNext_frame (c : ClockState) (emax : Units) : (c.fixNext emax).run = c.run ∧ (c.fixNext emax).frame = c.frame
    ∧ (c.fixNext emax).startFrame = c.startFrame ∧ (c.fixNext emax).block = c.block ∧ (c.fixNext emax).phase = c.phase := by
  unfold ClockState.fixNext
  split
  · exact ⟨rfl, rfl, rfl, rfl, rfl⟩
  · dsimp only [ClockState.addFrame]
    repeat' split
    all_goals exact ⟨rfl, rfl, rfl, rfl, rfl⟩

theorem ClockState.fixMany_frame (emax : Units) (k : Nat) (c : ClockState) : (c.fixMany emax k).run = c.run
    ∧ (c.fixMany emax k).frame = c.frame ∧ (c.fixMany emax k).startFrame = c.startFrame ∧ (c.fixMany emax k).block = c.block
    ∧ (c.fixMany emax k).phase = c.phase := by
  induction k generalizing c with
  | zero => exact ⟨rfl, rfl, rfl, rfl, rfl⟩
  | succ k ih => simp only [ClockState.fixMany, ih, c.fixNext_frame emax, and_self]

/-- The frame whose period is fixed next begins where the last one ends. -/
theorem ClockState.fixNext_grid {c : ClockState} {g : GridFrame} (h : c.grid.getLast? = some g) (emax : Units) :
    ∃ f, (c.fixNext emax).grid = c.grid ++ [f] ∧ g.Next f := by
  simp only [ClockState.fixNext, h, ClockState.addFrame]
  refine ⟨_, congrArg (· ++ _) ?_, rfl, rfl⟩
  repeat' split
  all_goals rfl

/-- `k` fixed periods put `k` frames at the end of the grid, each where the one before it ends. -/
theorem ClockState.fixMany_grid {emax : Units} (k : Nat) {c : ClockState} (hne : c.grid ≠ []) (hseq : Consecutive c.grid) :
    ∃ fs, (c.fixMany emax k).grid = c.grid ++ fs ∧ fs.length = k ∧ Consecutive (c.grid ++ fs) := by
  induction k generalizing c with
  | zero => exact ⟨[], (List.append_nil _).symm, rfl, by rwa [List.append_nil]⟩
  | succ k ih =>
    have hlast := List.getLast?_eq_some_getLast hne
    obtain ⟨f, hgrid, hnext⟩ := c.fixNext_grid hlast emax
    obtain ⟨fs, hmany, hlen, hfs⟩ := ih (c := c.fixNext emax) (by rw [hgrid]; exact List.concat_ne_nil _ _)
      (by rw [hgrid]; exact hseq.concat hlast hnext)
    rw [hgrid, List.append_assoc] at hmany hfs
    exact ⟨f :: fs, hmany, congrArg (· + 1) hlen, hfs⟩

/-! ### The grid from its start (R101, R109) -/

theorem ClockState.start_frame (c : ClockState) (x : Instant) (tref : Int × Nat) (emax : Units) : (c.start x tref emax).run = true
    ∧ (c.start x tref emax).frame = c.startFrame ∧ (c.start x tref emax).startFrame = c.startFrame
    ∧ (c.start x tref emax).startDue = none ∧ (c.start x tref emax).block = c.block := by
  simp only [ClockState.start, ClockState.fixMany_frame, ClockState.addFrame, true_and]
  split <;> exact ⟨rfl, rfl, rfl, rfl⟩

/-- A first frame, and the `k` frames whose periods are fixed after it. -/
theorem ClockState.addFrame_fixMany_grid {c : ClockState} (h : c.grid = []) (n : Nat) (t : Instant) (period emax : Units) (b : TimingBlock)
    (k : Nat) : ∃ g fs, ((c.addFrame n t period emax b).fixMany emax k).grid = g :: fs ∧ g.n = n ∧ g.t = t ∧ fs.length = k
      ∧ Consecutive (g :: fs) := by
  have hgrid : ∃ g : GridFrame, (c.addFrame n t period emax b).grid = [g] ∧ g.n = n ∧ g.t = t :=
    ⟨_, congrArg (· ++ _) h, rfl, rfl⟩
  obtain ⟨g, hg, hn, ht⟩ := hgrid
  obtain ⟨fs, hmany, hlen, hseq⟩ := ClockState.fixMany_grid (emax := emax) (c := c.addFrame n t period emax b) k
    (by rw [hg]; exact List.cons_ne_nil _ _) (by rw [hg]; exact consecutive_singleton g)
  rw [hg, List.singleton_append] at hmany hseq
  exact ⟨g, fs, hmany, hn, ht, hlen, hseq⟩

/-- START_FRAME stands at the instant of the start, and the eight frames after it are fixed. -/
theorem ClockState.start_grid (c : ClockState) (x : Instant) (tref : Int × Nat) (emax : Units) :
    ∃ g fs, (c.start x tref emax).grid = g :: fs ∧ g.n = c.startFrame ∧ g.t = x ∧ fs.length = 8
      ∧ Consecutive (g :: fs) := by
  simp only [ClockState.start]
  split <;> exact ClockState.addFrame_fixMany_grid rfl _ _ _ _ _ 8

/-! ### Operations that end (R67, R132) -/

theorem State.noteDone_ops (s : State) (session tag : Nat) : (s.noteDone session tag).host.ops = s.host.ops := by
  unfold State.noteDone
  split <;> rfl

theorem State.deliver_ops (s : State) (x : Completion) : (s.deliver x).host.ops = s.host.ops := by
  unfold State.deliver State.writeCompletion
  dsimp only
  repeat' split
  all_goals rfl

/-- The completion of a request ends no operation. -/
theorem State.finish_ops (s : State) (c : Ctx) (orphan : Bool) (r : Reply) : (s.finish c orphan r).host.ops = s.host.ops := by
  have hnote : (if r.status = .accepted then s else s.noteDone c.session c.tag).host.ops = s.host.ops := by
    split
    · rfl
    · exact s.noteDone_ops _ _
  cases orphan with
  | true => exact hnote
  | false =>
    unfold State.finish
    cases c.irq <;> exact hnote

/-- An operation that ends is there no more, and the others stay. -/
theorem State.endOp_ops (s : State) (o : Op) (st : Status) (pos : Pos) (resp : Bytes) :
    (s.endOp o st pos resp).host.ops = s.host.ops.filter (·.id != o.id) := by
  rw [State.endOp, State.deliver_ops, State.noteDone_ops]

theorem State.endOpId_ops_subset (s : State) (id : Nat) (st : Status) (pos : Pos) (resp : Bytes) :
    (s.endOpId id st pos resp).host.ops ⊆ s.host.ops := by
  unfold State.endOpId
  split
  · rw [State.endOp_ops]
    exact fun x hx => (List.mem_filter.mp hx).1
  · exact List.Subset.refl _

/-- Where each operation of a list ends, none of them is left. -/
theorem State.foldl_endOp_ops (l : List Op) (st : Status) (pos : Pos) (resp : Bytes) (s : State) {o : Op}
    (ho : o ∈ (l.foldl (fun s x => s.endOp x st pos resp) s).host.ops) : o ∈ s.host.ops ∧ o ∉ l := by
  induction l generalizing s with
  | nil => exact ⟨ho, List.not_mem_nil⟩
  | cons x l ih =>
    obtain ⟨hmem, hl⟩ := ih _ ho
    rw [State.endOp_ops, List.mem_filter, bne_iff_ne] at hmem
    refine ⟨hmem.1, ?_⟩
    rintro (_ | ⟨_, hin⟩)
    · exact hmem.2 rfl
    · exact hl hin

/-- At t(START_FRAME) no operation of SHOW_CLOCK_START stays. -/
theorem State.endStarts_ops {s : State} {n : Nat} {locked : Bool} {o : Op} (ho : o ∈ (s.endStarts n locked).host.ops) :
    o.kind ≠ .clockStart := by
  obtain ⟨hmem, hnot⟩ := State.foldl_endOp_ops _ _ _ _ _ ho
  rw [List.mem_filter, beq_iff_eq, not_and] at hnot
  exact hnot hmem

/-- The commits of the stopped clock leave the clock alone (R111). -/
theorem State.settleStopped_clock (s : State) : s.settleStopped.clock = s.clock := by
  refine foldl_clock _ _ _ fun s e => ?_
  dsimp only
  repeat' split
  all_goals simp

/-- The commits of the stopped clock start no operation (R111). -/
theorem State.settleStopped_ops_subset (s : State) : s.settleStopped.host.ops ⊆ s.host.ops := by
  refine List.foldlRecOn (motive := fun t : State => t.host.ops ⊆ s.host.ops) _ _ (List.Subset.refl _) fun t ht e _ => ?_
  dsimp only
  repeat' split
  · exact ht
  · exact List.Subset.trans (State.endOpId_ops_subset _ _ _ _ _) ht
  · exact ht

/-! ### The start (R109, R112) -/

theorem State.setStart_clock (s : State) (due : Instant) (offset : Int) :
    (s.setStart due offset).clock = { s.clock with startDue := some due, gridOffset := offset } := by
  simp only [State.setStart, State.gcast_frame, State.setClock]

/-- A valid reference locks the clock, and makes the start known at once or with a later boundary. -/
theorem State.startFrom_clock (s : State) (x : Instant) : ∃ due offset, (s.startFrom x).clock
    = { s.clock with phase := .locked, validAt := some x, startDue := due, gridOffset := offset } := by
  unfold State.startFrom
  dsimp only
  repeat' split
  · exact ⟨_, _, State.setStart_clock _ _ _⟩
  · exact ⟨_, _, State.setStart_clock _ _ _⟩
  · generalize List.findSome? _ _ = start
    cases start with
    | none => exact ⟨_, _, rfl⟩
    | some due => exact ⟨_, _, State.setStart_clock _ _ _⟩

/-- An accepted start stores its block, START_FRAME and ACQ_TIMEOUT, and the clock acquires its reference or is locked. -/
theorem State.beginClock_clock (s : State) (p : Bytes) : ∃ phase valid due offset, (s.beginClock p).clock
    = { s.clock with accepted := true, block := timingOf p, prevBlock := timingOf p, startFrame := fld p 0x18 8
                     acqTimeout := fld p 0x20 2, acqSince := s.now, frame := 0, phase := phase, validAt := valid, startDue := due
                     gridOffset := offset }
      ∧ (phase = .acquiring ∨ phase = .locked) := by
  unfold State.beginClock
  dsimp only
  split
  · obtain ⟨due, offset, h⟩ := State.startFrom_clock (s.setClock { s.clock with
      accepted := true, block := timingOf p, prevBlock := timingOf p, startFrame := fld p 0x18 8, acqTimeout := fld p 0x20 2
      acqSince := s.now, phase := .acquiring, frame := 0 }) _
    exact ⟨_, _, due, offset, h, .inr rfl⟩
  · exact ⟨_, _, _, _, rfl, .inl rfl⟩

/-- SHOW_CLOCK_START whose checks pass answers ACCEPTED, and the clock begins (R132). -/
theorem showClockStartSpec_body {c : Ctx} {t : State} (hderive : timingDerivable (timingOf c.payload) = true)
    (hfits : latencyFits (viewAfter t.txn.view t.txn.waitingTxns).latencyUs (timingOf c.payload).rateCode = true)
    (hidle : t.clock.accepted = false) (hfollows : t.followsRef = true) (hinput : t.refInputOn (timingOf c.payload) = true)
    (haccept : t.acceptFail = none) :
    showClockStartSpec.body c t = ((t.started c .clockStart).beginClock c.payload, ⟨.accepted, [], none⟩) := by
  have hfollows' : (t.started c .clockStart).followsRef = true := hfollows
  simp only [showClockStartSpec, hderive, hfits, hidle, hfollows, hinput, State.accept, haccept, Bool.not_true, Bool.and_false,
    Bool.false_eq_true, if_false]
  exact congrArg (·, _) (if_pos hfollows')

/-- A start that is due begins the grid there, and holds the LTC word of that instant. -/
theorem State.clockStarts_clock {s : State} {x : Instant} (hdue : s.clock.startDue = some x) (hx : x ≤ s.tb) (hstop : s.clock.run = false) :
    ∃ tref word, s.clockStarts.clock
      = { s.clock.start x tref s.emax with ltcFrame := word, ltcHist := [((s.clock.start x tref s.emax).startFrame, word)] } := by
  have hcome : (decide (s.tb < x) || s.clock.run) = false := by simp [hstop, hx]
  simp only [State.clockStarts, hdue, hcome, Bool.false_eq_true, if_false, State.settleStopped_clock, State.endStarts_frame]
  exact ⟨_, _, rfl⟩

/-- No operation of SHOW_CLOCK_START outlives a start that is due. -/
theorem State.clockStarts_ops {s : State} {x : Instant} (hdue : s.clock.startDue = some x) (hx : x ≤ s.tb) (hstop : s.clock.run = false)
    {o : Op} (ho : o ∈ s.clockStarts.host.ops) : o.kind ≠ .clockStart := by
  have hcome : (decide (s.tb < x) || s.clock.run) = false := by simp [hstop, hx]
  simp only [State.clockStarts, hdue, hcome, Bool.false_eq_true, if_false] at ho
  exact State.endStarts_ops (State.settleStopped_ops_subset _ ho)

/-- A start that is not known, or that has come, begins nothing. -/
theorem State.clockStarts_of_not_due {s : State} (h : s.clock.startDue = none ∨ s.clock.run = true) : s.clockStarts = s := by
  unfold State.clockStarts
  split
  · rfl
  · next _ hdue =>
    rcases h with hnone | hrun
    · rw [hnone] at hdue
      cases hdue
    · rw [hrun, Bool.or_true, if_pos rfl]

/-- ACQ_TIMEOUT puts the clock in HOLDOVER, and the start comes 1 ms later (R112). -/
theorem State.acqTimeout_clock {s : State} (hfollows : s.followsRef = true) (hphase : s.clock.phase = .acquiring)
    (hset : s.clock.acqTimeout ≠ 0) (hexpired : s.clock.acqSince + s.clock.acqTimeout * cycSec ≤ s.now) :
    ∃ offset, s.acqTimeout.clock
      = { s.clock with phase := .holdover, startDue := some (s.tb + usUnits 1000), gridOffset := offset } := by
  have hgo : (!s.followsRef || s.clock.phase != .acquiring || decide (s.clock.acqTimeout = 0)
      || decide (s.now < s.clock.acqSince + s.clock.acqTimeout * cycSec)) = false := by simp [hfollows, hphase, hset, hexpired]
  simp only [State.acqTimeout, hgo, Bool.false_eq_true, if_false, State.setStart_clock]
  exact ⟨_, rfl⟩

/-! ### The statement -/

/-- Commands with the same effect end in the same state. -/
theorem next_settle_congr {t u : State} (h : t = u) : (.next t.settle : Host.Outcome State Fault Refusal) = .next u.settle := by
  rw [h]

/-- SHOW_CLOCK_START is accepted, and the clock acquires its reference. -/
theorem runs_showClockStart {dt m : Nat} {s t : State} {e : ExecReq} {c : Ctx} {p : Bytes} (h : Running showClockStartSpec m dt s e c t p)
    (hderive : timingDerivable (timingOf p) = true)
    (hfits : latencyFits (viewAfter t.txn.view t.txn.waitingTxns).latencyUs (timingOf p).rateCode = true)
    (hidle : t.clock.accepted = false) (hfollows : t.followsRef = true) (hinput : t.refInputOn (timingOf p) = true)
    (haccept : t.acceptFail = none) :
    Runs (.showClockStart dt m) s fun u =>
      u.clock.accepted = true ∧ u.clock.block = timingOf p ∧ u.clock.startFrame = fld p 0x18 8 ∧ u.clock.acqTimeout = fld p 0x20 2
        ∧ (u.clock.phase = .acquiring ∨ u.clock.phase = .locked) ∧ u.clock.run = s.clock.run
        ∧ u.host.ops = s.host.ops ++ [{ id := s.host.nextOp, command := 0x0201, flags := c.flags, tag := c.tag, session := c.session, kind := .clockStart }]
        ∧ u.txn = s.txn ∧ u.time = s.time.tick dt := by
  have hcode : c.code = 0x0201 := running_code h
  have hrunning := h
  obtain ⟨-, -, -, -, rfl, rfl, -, -⟩ := h
  obtain ⟨phase, valid, due, offset, hclock, hphase⟩ :=
    State.beginClock_clock (({ s.tick dt with host := s.host.dropExec e } : State).started c .clockStart) c.payload
  refine ⟨_, running_act hrunning (showClockStartSpec_body hderive hfits hidle hfollows hinput haccept), ?_⟩
  simp only [State.settle_clock, State.settle_host, State.settle_txn, State.settle_time, State.finish_frame, State.finish_ops, hclock,
    State.beginClock_frame]
  simp only [State.started, newOp, hcode, true_and]
  exact ⟨hphase, rfl, rfl, rfl, rfl⟩

/-- At t(START_FRAME) the clock runs, with nine frames fixed. -/
theorem runs_showClockStarts {dt : Nat} {x : Instant} {s : State} (hdue : s.clock.startDue = some x) (hx : x ≤ (s.tick dt).tb)
    (hstop : s.clock.run = false) :
    Runs (.showClockStarts dt) s fun t =>
      t.clock.run = true ∧ t.clock.frame = s.clock.startFrame ∧ t.clock.startDue = none ∧ t.clock.grid.length = 9
      ∧ t.clock.grid.head?.map (fun g => (g.n, g.t)) = some (s.clock.startFrame, x)
      ∧ (∀ i g h, t.clock.grid[i]? = some g → t.clock.grid[i + 1]? = some h → h.n = g.n + 1 ∧ h.t = g.t + g.period)
      ∧ (∀ o ∈ t.host.ops, o.kind ≠ .clockStart) ∧ t.clock.block = s.clock.block := by
  obtain ⟨tref, word, hclock⟩ := State.clockStarts_clock (s := s.tick dt) hdue hx hstop
  obtain ⟨hrun, hframe, -, hnone, hblock⟩ := s.clock.start_frame x tref (s.tick dt).emax
  obtain ⟨g, fs, hgrid, hn, ht, hlen, hseq⟩ := s.clock.start_grid x tref (s.tick dt).emax
  refine ⟨_, rfl, ?_⟩
  simp only [State.settle_clock, State.settle_host, hclock, State.tick_clock, hgrid]
  refine ⟨hrun, hframe, hnone, congrArg (· + 1) hlen, ?_, hseq,
    fun o => State.clockStarts_ops (s := s.tick dt) hdue hx hstop, hblock⟩
  rw [List.head?_cons, Option.map_some, hn, ht]

/-- Settles O26: the clock that SHOW_CLOCK_START begins, the grid from t(START_FRAME) on, and the start that ACQ_TIMEOUT makes known. -/
theorem showClockStartStop : Obligations.ShowClockStartStop := by
  refine ⟨fun dt m s t e c p => runs_showClockStart, fun dt x s => runs_showClockStarts, fun dt s h => ?_,
    fun dt s hfollows hphase hset hexpired => ?_, fun dt m s t e c p h => running_act h rfl⟩
  · exact next_settle_congr (State.clockStarts_of_not_due (s := s.tick dt) h)
  · obtain ⟨offset, hclock⟩ := State.acqTimeout_clock (s := s.tick dt) hfollows hphase hset hexpired
    refine ⟨_, rfl, ?_⟩
    simp only [State.settle_clock, State.settle_txn, hclock, State.acqTimeout_frame, State.tick_clock, State.tick_txn, and_self]

end Sys2Proof.Machine
end

section
/-!
PROOFS. The running show clock (R101, R104, R109, R114, R115, R117): its boundaries, and the loss and return of its reference.
-/

namespace Sys2Proof.Machine

/-! ### Boundaries (R101, R115) -/

/-- Frame `n` of the grid or of the prediction carries its number. -/
theorem ClockState.predict_n (c : ClockState) (n : Nat) : (c.predict n).n = n := by
  unfold ClockState.predict
  split
  · next hat => exact beq_iff_eq.mp (List.find?_some (p := fun g : GridFrame => g.n == n) hat)
  · rfl
  · rfl

/-- The clock as frame `g` begins, after its number has advanced: the period eight frames on is fixed unless it is already, the LTC word of
the boundary is held, and grid frames of the past go. -/
def ClockState.beginFrame (c : ClockState) (emax : Units) (g : GridFrame) : ClockState :=
  let c := if (c.at_ (g.n + 8)).isSome then c else c.fixMany emax (g.n + 8 - c.grid.getLast?.elim g.n (·.n))
  ({ c with ltcFrame := c.wordAt g.t, ltcHist := c.ltcHist.range (g.n - 31) (g.n + 1) ++ [(g.n, c.wordAt g.t)] } : ClockState).prune

theorem ClockState.beginFrame_frame (c : ClockState) (emax : Units) (g : GridFrame) : (c.beginFrame emax g).frame = c.frame
    ∧ (c.beginFrame emax g).run = c.run ∧ (c.beginFrame emax g).block = c.block ∧ (c.beginFrame emax g).phase = c.phase := by
  simp only [ClockState.beginFrame, ClockState.prune]
  split
  · exact ⟨rfl, rfl, rfl, rfl⟩
  · simp only [ClockState.fixMany_frame, and_self]

/-- What a coordinator sends to its group leaves the clock alone. -/
theorem State.castLast_clock (s : State) (coord : Bool) (last : Option GridFrame) (msg : GridFrame → GroupMsg) :
    (if coord then last.elim s fun f => s.gcast 1 (msg f) else s).clock = s.clock := by
  cases coord <;> cases last <;> simp

/-- A boundary that is due advances the frame number, and with no timing change to come the new frame begins. -/
theorem State.showBoundary_clock {s : State} (hrun : s.clock.run = true) (hdue : (s.clock.predict (s.clock.frame + 1)).t ≤ s.tb)
    (hchange : s.clock.change = none) : ∃ emax, s.showBoundary.clock
      = ({ s.clock with frame := s.clock.frame + 1 } : ClockState).beginFrame emax (s.clock.predict (s.clock.frame + 1)) := by
  have hcome : (!s.clock.run || decide (s.tb < (s.clock.predict (s.clock.frame + 1)).t)) = false := by simp [hrun, hdue]
  have hn := s.clock.predict_n (s.clock.frame + 1)
  simp only [State.showBoundary, hcome, hchange, Bool.false_eq_true, if_false, ClockState.beginFrame, hn]
  exact ⟨_, State.castLast_clock _ _ _ _⟩

/-- A boundary that is not due changes nothing. -/
theorem State.showBoundary_of_not_due {s : State}
    (h : s.clock.run = false ∨ s.tb < (s.clock.predict (s.clock.frame + 1)).t) : s.showBoundary = s := by
  refine if_pos ?_
  simpa using h

/-- A boundary that is due advances the frame number by one. -/
theorem runs_showBoundary {dt : Nat} {s : State} (hrun : s.clock.run = true)
    (hdue : (s.clock.predict (s.clock.frame + 1)).t ≤ (s.tick dt).tb) (hchange : s.clock.change = none) :
    Runs (.showBoundary dt) s fun t =>
      t.clock.frame = s.clock.frame + 1 ∧ t.clock.run = true ∧ t.clock.block = s.clock.block ∧ t.clock.phase = s.clock.phase
        ∧ t.txn = s.txn ∧ t.host.devFrame = s.host.devFrame := by
  obtain ⟨emax, hclock⟩ := State.showBoundary_clock (s := s.tick dt) hrun hdue hchange
  refine ⟨_, rfl, ?_⟩
  simp only [State.settle_clock, State.settle_txn, State.settle_host, hclock, ClockState.beginFrame_frame,
    State.showBoundary_frame, State.tick_clock, State.tick_txn, State.tick_host, hrun, and_self]

/-! ### Reference boundaries and LTC words (R114, R117) -/

/-- An edge of an ENABLED input is kept with its instant; while no start is accepted it does nothing more. -/
theorem State.refEdge_of_stopped {s : State} {key : Nat} (hfollows : s.followsRef = true) (hon : s.keyOn key = true) (hkey : key ≠ 1)
    (hidle : s.clock.accepted = false) (cycles : Nat) (back : Units) :
    s.refEdge key cycles back = s.setClock { s.clock with
      edges := s.clock.edges.put key (keptEdges key ((s.tb - back, cycles) :: s.clock.edges.getD key []))
      genlockAt := if key = 2 then some (s.tb - back) else s.clock.genlockAt } := by
  have hexpected : s.clock.genlockEdge (s.tb - back) = some (s.tb - back) := by simp [ClockState.genlockEdge, hidle]
  by_cases hgen : key = 2
  · subst hgen
    simp [State.refEdge, hfollows, hon, hidle, hexpected]
  · simp [State.refEdge, hfollows, hon, hkey, hidle, hgen]

/-- An edge of an input that is off, or at a member that does not follow the reference, is none. -/
theorem State.refEdge_of_off {s : State} {key : Nat} (h : s.followsRef = false ∨ s.keyOn key = false) (cycles : Nat) (back : Units) :
    s.refEdge key cycles back = s := by
  refine if_pos ?_
  simpa using h

/-- An LTC word is kept; where the clock does not follow LTC it does nothing more. -/
theorem State.ltcWord_of_not_followed {s : State} (hon : s.enabled 0x11 1 = true) (hfollows : s.followsRef = true)
    (hother : s.clock.accepted = false ∨ s.clock.block.refKind ≠ 3) (w : Nat) :
    s.ltcWord w = s.setClock { s.clock with ltcWord := w, words := ((s.tb, w) :: s.clock.words).take 16 } := by
  have hjump : (s.clock.accepted && s.clock.block.refKind == 3) = false := by rcases hother with h | h <;> simp [h]
  simp [State.ltcWord, hon, hfollows, hjump]

/-! ### Loss (R114 to R116) -/

/-- The clock loses its reference. -/
def ClockState.lost (c : ClockState) : ClockState := { c with phase := .holdover, residual := 0, lossCount := c.lossCount + 1 }

/-- A loss is counted and raises REF_LOST; a clock that has not started finds its start at the held length. -/
theorem State.refLost_of_gone {s : State} (hfollows : s.followsRef = true) (haccepted : s.clock.accepted = true)
    (hphase : s.clock.phase = .locked ∨ s.clock.phase = .slewing) (hgone : s.refGone s.clock.block = true) :
    s.refLost = if s.clock.run then (s.setClock s.clock.lost).raise 0x35 else ((s.setClock s.clock.lost).raise 0x35).startHeld := by
  refine if_neg ?_
  rcases hphase with h | h <;> simp [hfollows, haccepted, hgone, h]

/-- A clock that follows no reference loses none. -/
theorem State.refLost_of_not_followed {s : State} (hlocked : s.clock.phase ≠ .locked) (hslewing : s.clock.phase ≠ .slewing) :
    s.refLost = s := by
  refine if_pos ?_
  simp [hlocked, hslewing]

/-- A start at the held length changes when the clock starts, and nothing else of it; it is known where the reference was valid. -/
theorem State.startHeld_clock (s : State) : ∃ due offset, s.startHeld.clock = { s.clock with startDue := due, gridOffset := offset }
    ∧ (s.clock.validAt.isSome = true → due.isSome = true) := by
  unfold State.startHeld
  dsimp only
  split
  · exact ⟨_, _, State.setStart_clock _ _ _, fun _ => rfl⟩
  · next hnone =>
    refine ⟨_, _, rfl, fun hvalid => ?_⟩
    obtain ⟨v, hv⟩ := Option.isSome_iff_exists.mp hvalid
    rw [← Option.ne_none_iff_isSome]
    exact fun hdue => hnone v hdue hv

/-- Before the start, a loss leaves the clock in HOLDOVER with a start to come. -/
theorem runs_refLost_of_stopped {dt : Nat} {s : State} (hfollows : s.followsRef = true) (haccepted : s.clock.accepted = true)
    (hphase : s.clock.phase = .locked ∨ s.clock.phase = .slewing) (hgone : (s.tick dt).refGone s.clock.block = true)
    (hstop : s.clock.run = false) :
    Runs (.refLost dt) s fun t =>
      t.clock.phase = .holdover ∧ t.clock.lossCount = s.clock.lossCount + 1 ∧ t.clock.validAt = s.clock.validAt ∧ t.clock.run = false
        ∧ t.clock.startFrame = s.clock.startFrame ∧ (s.clock.validAt.isSome = true → t.clock.startDue.isSome = true) := by
  obtain ⟨due, offset, hclock, hdue⟩ := State.startHeld_clock (((s.tick dt).setClock s.clock.lost).raise 0x35)
  have hlost : (s.tick dt).refLost = (((s.tick dt).setClock s.clock.lost).raise 0x35).startHeld :=
    (State.refLost_of_gone (s := s.tick dt) hfollows haccepted hphase hgone).trans (if_neg (by simp [hstop]))
  refine ⟨_, rfl, ?_⟩
  simp only [hlost, State.settle_clock, hclock]
  exact ⟨rfl, rfl, rfl, hstop, rfl, hdue⟩

/-! ### Return (R109, R114, R115) -/

/-- A valid reference starts an acquiring clock. -/
theorem State.refValid_of_acquiring {s : State} (hfollows : s.followsRef = true) (haccepted : s.clock.accepted = true)
    (hok : s.refOk s.clock.block = true) (hphase : s.clock.phase = .acquiring) : s.refValid = s.startFrom s.tb := by
  simp [State.refValid, hfollows, haccepted, hok, hphase]

/-- A valid reference ends HOLDOVER: a running clock is judged by its phase error, and one that has not started slews. -/
theorem State.refValid_of_holdover {s : State} (hfollows : s.followsRef = true) (haccepted : s.clock.accepted = true)
    (hok : s.refOk s.clock.block = true) (hphase : s.clock.phase = .holdover) : s.refValid
      = (s.setClock (if s.clock.run then s.clock.relock s.tb else { s.clock with phase := .slewing })).raise 0x36 := by
  simp [State.refValid, hfollows, haccepted, hok, hphase]

/-! ### The statement -/

/-- Settles O27: each command's own effect, then what follows every command. -/
theorem showClockRuns : Obligations.ShowClockRuns := by
  refine ⟨fun dt s => runs_showBoundary, fun dt s h => ?boundaryNotDue, fun dt key cycles back s hfollows hon hkey hidle => ?edge,
    fun dt key cycles back s h => ?edgeOff, fun dt word s hon hfollows hword hother => ?ltcWord,
    fun dt s hfollows haccepted hphase hgone hrun => ?lostRunning,
    fun dt s => runs_refLost_of_stopped, fun dt s hlocked hslewing => ?lostNone,
    fun dt s hfollows haccepted hok hphase => ?validAcquiring, fun dt s hfollows haccepted hok hphase hrun => ?validRunning,
    fun dt s hfollows haccepted hok hphase hstop => ?validStopped⟩
  case boundaryNotDue => exact next_settle_congr (State.showBoundary_of_not_due (s := s.tick dt) h)
  case edge => exact next_settle_congr (State.refEdge_of_stopped (s := s.tick dt) hfollows hon hkey hidle cycles back)
  case edgeOff => exact next_settle_congr (State.refEdge_of_off (s := s.tick dt) h cycles back)
  case ltcWord =>
    rw [exec_ltcWord, execLtcWord, Nat.mod_eq_of_lt hword]
    exact next_settle_congr (State.ltcWord_of_not_followed (s := s.tick dt) hon hfollows hother word)
  case lostRunning => exact next_settle_congr ((State.refLost_of_gone (s := s.tick dt) hfollows haccepted hphase hgone).trans (if_pos hrun))
  case lostNone => exact next_settle_congr (State.refLost_of_not_followed (s := s.tick dt) hlocked hslewing)
  case validAcquiring => exact next_settle_congr (State.refValid_of_acquiring (s := s.tick dt) hfollows haccepted hok hphase)
  case validRunning =>
    refine next_settle_congr ((State.refValid_of_holdover (s := s.tick dt) hfollows haccepted hok hphase).trans ?_)
    rw [if_pos (by exact hrun), State.tick_clock]
  case validStopped =>
    refine next_settle_congr ((State.refValid_of_holdover (s := s.tick dt) hfollows haccepted hok hphase).trans ?_)
    rw [if_neg (by simp [hstop]), State.tick_clock]

end Sys2Proof.Machine
end

section
/-!
PROOFS. The PTP engine (R141 to R146): what each message and each timeout changes of the network time.
-/

namespace Sys2Proof.Machine

/-! ### Changes of network time (R156, R164) -/

/-- The time with no bit of TIM_EVENT set: what a change of network time starts from, so that the bits it sets can be told. -/
def TimeState.quiet (t : TimeState) : TimeState := { t with event := 0 }

/-- A change of network time leaves its event bits sticky and notes when they were set; all else of the time is what the change makes. -/
theorem State.withTime_time (s : State) (f : TimeState → TimeState) : ∃ stamps, (s.withTime f).time
    = { f s.time.quiet with event := s.time.event ||| (f s.time.quiet).event, eventAt := stamps } :=
  ⟨_, State.raiseAll_time _ _⟩

/-- A command that changes the network time alone: what it leaves of the time is what the change makes, but for the event bits. -/
theorem runs_of_withTime {i : Instr} {s u : State} {f : TimeState → TimeState} {p : State → Prop}
    (hexec : exec i s = .next (u.withTime f).settle)
    (hp : ∀ t event stamps, t.time = { f u.time.quiet with event := event, eventAt := stamps } → t.clock = u.clock → p t) :
    Runs i s p := by
  obtain ⟨stamps, htime⟩ := u.withTime_time f
  exact ⟨_, hexec, hp _ _ stamps ((u.withTime f).settle_time.trans htime) (by simp only [State.settle_clock, State.withTime_frame])⟩

/-! ### HOLDOVER and the loss of the master (R144 to R146) -/

/-- Entry to HOLDOVER moves r, notes the time and the event, and ends the runs of samples. -/
theorem TimeState.enterHoldover_eq (t : TimeState) (gm : Bool) : ∃ r integ event, t.enterHoldover gm
    = { t with rate := r, rateSince := t.now, rateHist := t.spans, state := .holdover, holdSince := t.now, event := event
               ptp := { t.ptp with integ := integ, acceptRun := 0, lockRun := 0, refuseRun := 0 } } := by
  cases gm <;> exact ⟨_, _, _, rfl⟩

/-- A timebase that follows a master enters HOLDOVER with the loss; another keeps its state. -/
theorem TimeState.masterLost_state (t : TimeState) (gm : Bool) :
    (t.masterLost gm).state = if t.following then .holdover else t.state := by
  unfold TimeState.masterLost
  split
  · cases gm <;> rfl
  · rfl

/-- HOLDOVER counts from the loss. -/
theorem TimeState.masterLost_holdSince {t : TimeState} (h : t.following = true) (gm : Bool) : (t.masterLost gm).holdSince = t.now := by
  rw [TimeState.masterLost, if_pos h]
  cases gm <;> rfl

/-- The loss of the master touches the servo's part of the engine, and not its port. -/
theorem TimeState.masterLost_port (t : TimeState) (gm : Bool) : (t.masterLost gm).ptp.cfg = t.ptp.cfg
    ∧ (t.masterLost gm).ptp.portState = t.ptp.portState ∧ (t.masterLost gm).ptp.parent = t.ptp.parent
    ∧ (t.masterLost gm).ptp.delays = t.ptp.delays ∧ (t.masterLost gm).ptp.pendingSync = t.ptp.pendingSync := by
  unfold TimeState.masterLost
  split
  · obtain ⟨r, integ, event, h⟩ := t.enterHoldover_eq gm
    rw [h]
    exact ⟨rfl, rfl, rfl, rfl, rfl⟩
  · exact ⟨rfl, rfl, rfl, rfl, rfl⟩

/-! ### Samples (R142, R143) -/

/-- The timebase `u` holds a sample of offset `o`, formed at `t`, and the Sync that waits at `t` still waits. -/
def TimeState.Sampled (t : TimeState) (o : Int) (u : TimeState) : Prop :=
  u.lastOffset = o ∧ u.lastSampleAt = some t.now ∧ u.ptp.pendingSync = t.ptp.pendingSync

/-- The servo moves r and its integral alone. -/
theorem TimeState.servo_eq (t : TimeState) (o : Int) :
    ∃ integ r, t.servo o = ({ t with ptp := { t.ptp with integ := integ } } : TimeState).setRate r := ⟨_, _, rfl⟩

theorem TimeState.servo_sample (t : TimeState) (o : Int) : (t.servo o).lastOffset = t.lastOffset
    ∧ (t.servo o).lastSampleAt = t.lastSampleAt ∧ (t.servo o).ptp.pendingSync = t.ptp.pendingSync := by
  obtain ⟨integ, r, h⟩ := t.servo_eq o
  rw [h]
  exact ⟨rfl, rfl, rfl⟩

theorem TimeState.enterHoldover_sample (t : TimeState) (gm : Bool) : (t.enterHoldover gm).lastOffset = t.lastOffset
    ∧ (t.enterHoldover gm).lastSampleAt = t.lastSampleAt ∧ (t.enterHoldover gm).ptp.pendingSync = t.ptp.pendingSync := by
  obtain ⟨r, integ, event, h⟩ := t.enterHoldover_eq gm
  rw [h]
  exact ⟨rfl, rfl, rfl⟩

/-- A sample is kept with its offset and its time, whatever state it leads the timebase to. -/
theorem TimeState.sample_sampled (t : TimeState) (o : Int) : t.Sampled o (t.sample o) := by
  unfold TimeState.sample
  dsimp only
  split
  case isTrue =>
    repeat' split
    all_goals simp only [TimeState.Sampled, TimeState.raise, TimeState.setRate, TimeState.enterHoldover_sample, and_self]
  case isFalse =>
    repeat' split
    all_goals simp only [TimeState.Sampled, TimeState.raise, TimeState.servo_sample, and_self]

/-- A formed sample is kept so; beside it only the state of the port may change. -/
theorem TimeState.formed_sampled (t : TimeState) (o : Int) : t.Sampled o (t.formed o) := by
  unfold TimeState.formed
  dsimp only
  split <;> exact t.sample_sampled o

/-! ### Messages (R141, R142) -/

/-- The engine handles a message of its port and domain that needs no unsupported option. -/
theorem State.ptpMessage_of_taken {s : State} {v : PtpVia} (htakes : s.time.ptp.takes v = true) (hon : s.portOn v.port = true)
    (f : State → State) : s.ptpMessage v false f = f s := by
  simp only [State.ptpMessage, htakes, hon, Bool.not_true, Bool.or_self, Bool.false_eq_true, if_false]

/-- A message of another port or domain, or of a port that is off, is not seen. -/
theorem State.ptpMessage_of_not_taken {s : State} {v : PtpVia} (h : s.time.ptp.takes v = false ∨ s.portOn v.port = false)
    (unsupported : Bool) (f : State → State) : s.ptpMessage v unsupported f = s := by
  refine if_pos ?_
  simpa using h

/-- A Sync of the parent at a supported rate is taken, with the stamp of its arrival. -/
theorem State.ptpSync_of_parent {s : State} {msg : PtpTimed} (htakes : s.time.ptp.takes msg.via = true)
    (hon : s.portOn msg.via.port = true) (hgroup : msg.via.unicast = false) (hlow : -7 ≤ msg.logSync) (hhigh : msg.logSync ≤ 1)
    (hparent : s.time.ptp.fromParent msg.source = true) (hown : s.ownServo = true) :
    s.ptpSync msg = s.freeDelay.2.withTime fun t =>
      t.sync msg.seq msg.twoStep msg.stamp (s.stamp + s.time.cfg.corr msg.via.port false) msg.corr msg.logSync s.freeDelay.1 := by
  have hrate : (msg.via.unicast || decide (msg.logSync < -7) || decide (1 < msg.logSync)) = false := by
    simp [hgroup, hlow, hhigh]
  simp only [State.ptpSync, hrate, State.ptpMessage_of_taken htakes hon, hparent, hown, Bool.not_true, Bool.or_self,
    Bool.false_eq_true, if_false]

/-- A two-step Sync waits for its Follow_Up. -/
theorem TimeState.sync_twoStep (t : TimeState) (seq : Nat) (t1 t2 : Instant) (corr logSync free : Int) :
    t.sync seq true t1 t2 corr logSync free
      = { t with ptp := { t.ptp with logSync := logSync, pendingSync := some ⟨seq, t2, corr, logSync⟩ } } := rfl

/-- A free value that stands in for a delay leaves the time as it is. -/
theorem State.freeDelay_time (s : State) : s.freeDelay.2.time = s.time := by
  unfold State.freeDelay
  split <;> rfl

/-- A free value that stands in for a delay leaves the clock as it is. -/
theorem State.freeDelay_clock (s : State) : s.freeDelay.2.clock = s.clock := by
  unfold State.freeDelay
  split <;> rfl

/-- The Follow_Up of the Sync that waits forms the sample. -/
theorem TimeState.followUp_of_pending {t : TimeState} {q : PendingSync} (hq : t.ptp.pendingSync = some q) (t1 : Instant) (corr free : Int) :
    t.followUp q.seq t1 corr free = ({ t with ptp := { t.ptp with
      pendingSync := none, lastT1 := some (t1 + corr + q.corr), lastT2 := some q.t2 } } : TimeState).formed
        (q.t2 - t1 - corr - q.corr - t.ptp.delay free) := by
  simp only [TimeState.followUp, hq, bne_self_eq_false, Bool.false_eq_true, if_false]
  rfl

/-- A Follow_Up of the parent is taken with the mean path delay of the exchanges. -/
theorem State.ptpFollowUp_of_parent {s : State} {msg : PtpTimed} (htakes : s.time.ptp.takes msg.via = true)
    (hon : s.portOn msg.via.port = true) (hgroup : msg.via.unicast = false) (hparent : s.time.ptp.fromParent msg.source = true)
    (hown : s.ownServo = true) (hdelays : s.time.ptp.delays ≠ []) :
    s.ptpFollowUp msg = s.withTime fun t => t.followUp msg.seq msg.stamp msg.corr 0 := by
  have hfree : s.freeDelay = (0, s) := if_neg (by simpa using hdelays)
  simp only [State.ptpFollowUp, hgroup, State.ptpMessage_of_taken htakes hon, hparent, hown, hfree, Bool.not_true, Bool.or_self,
    Bool.false_eq_true, if_false]

/-- A path delay within 10 ms that answers the request is added to the last eight. -/
theorem TimeState.delayResp_of_pending {t : TimeState} {q : PendingDelayReq} {t1 t2 : Instant} (hq : t.ptp.pendingReq = some q)
    (h1 : t.ptp.lastT1 = some t1) (h2 : t.ptp.lastT2 = some t2) {d : Int} {t4 : Instant} {corr : Int}
    (hd : d = roundDiv ((t2 - t1) + (t4 - q.t3 - corr)) 2) (hlow : 0 ≤ d) (hhigh : d ≤ usUnits 10000) :
    t.delayResp q.seq t4 corr = { t with ptp := { t.ptp with pendingReq := none, delays := (d :: t.ptp.delays).take 8 } } := by
  have hrange : (decide (d < 0) || decide (usUnits 10000 < d)) = false := by simp [hlow, hhigh]
  simp only [TimeState.delayResp, hq, h1, h2, bne_self_eq_false, ← hd, hrange, Bool.false_eq_true, if_false]

/-- A Delay_Resp of the parent is taken. -/
theorem State.ptpDelayResp_of_parent {s : State} {msg : PtpTimed} (htakes : s.time.ptp.takes msg.via = true)
    (hon : s.portOn msg.via.port = true) (hgroup : msg.via.unicast = false) (hparent : s.time.ptp.fromParent msg.source = true) :
    s.ptpDelayResp msg = s.withTime fun t => t.delayResp msg.seq msg.stamp msg.corr := by
  simp only [State.ptpDelayResp, hgroup, Bool.false_and, State.ptpMessage_of_taken htakes hon, hparent, Bool.not_true,
    Bool.false_eq_true, if_false]

/-- One Announce does not qualify a master (R144). -/
theorem bestMaster_of_first {m : ForeignMaster} (h : m.count = 1) : bestMaster [m] = none := by
  simp [bestMaster, h]

/-- The first Announce of all records its master, and changes nothing else. -/
theorem TimeState.announce_first {t : TimeState} (hforeign : t.ptp.foreign = []) (port : Nat) (d : AnnounceData) (mac ip : Nat) :
    t.announce port d mac ip = { t with ptp := { t.ptp with foreign := [⟨port, d, 1, t.now, mac, ip⟩] } } := by
  simp only [TimeState.announce, hforeign, List.find?_nil, List.filter_nil, List.nil_append, Option.elim_none, Bool.false_eq_true,
    if_false, bestMaster_of_first]

/-- An Announce at a supported interval is taken. -/
theorem State.ptpAnnounce_of_supported {s : State} {msg : PtpAnnounce} (htakes : s.time.ptp.takes msg.via = true)
    (hon : s.portOn msg.via.port = true) (hgroup : msg.via.unicast = false) (hlow : -3 ≤ msg.data.logAnnounce)
    (hhigh : msg.data.logAnnounce ≤ 3) :
    s.ptpAnnounce msg = s.withTime fun t => t.announce msg.source msg.data msg.via.mac msg.via.ip := by
  have hrate : (msg.via.unicast || decide (msg.data.logAnnounce < -3) || decide (3 < msg.data.logAnnounce)) = false := by
    simp [hgroup, hlow, hhigh]
  simp only [State.ptpAnnounce, hrate, State.ptpMessage_of_taken htakes hon]

/-! ### Timeouts (R144) -/

/-- The engine without its parent: it listens for the others. -/
def TimeState.unparented (t : TimeState) : TimeState := { t with ptp := { t.ptp with
  parent := none, foreign := t.ptp.foreign.filter (·.port != t.ptp.parent.elim 0 (·.port)), pendingSync := none, pendingReq := none
  acceptRun := 0, portState := .listening, delays := [] } }

/-- The loss of the parent counts as master lost. -/
theorem TimeState.loseParent_eq (t : TimeState) : t.loseParent = t.unparented.masterLost false := rfl

/-! ### Delay_Req (R142, R388, R389) -/

/-- A port that is UP and neither paused nor sending is free. -/
theorem State.portFree_of_idle {s : State} {p : Nat} (hp : p ≤ 4) (hon : s.portOn p = true) (hup : (s.port p).up = true)
    (hpause : (s.port p).pauseEnd = none) (hwire : (s.port p).wireEnd = none) : s.portFree p = true := by
  simp [State.portFree, State.sends, hp, hon, hup, hpause, hwire]

/-- On a free port with a parent, a Delay_Req is noted with its stamp, numbered, protected as the port asks, and sent. -/
theorem State.ptpDelayReq_of_free {s u : State} {bs out : Bytes}
    (hu : u = { s with time := { s.time with ptp := { s.time.ptp with
      pendingReq := some ⟨s.time.ptp.reqSeq, s.stamp + s.time.cfg.corr s.time.ptp.cfg.port true⟩
      reqSeq := (s.time.ptp.reqSeq + 1) % 65536 } } })
    (hbs : bs = delayReqFrame s.time.ptp.cfg (s.port s.time.ptp.cfg.port).cfg s.time.ptp.reqSeq
      (if s.time.ptp.cfg.delayAddr = 1 then s.time.ptp.parent.map (fun m => (m.mac, m.ip)) else none))
    (hout : (u.protectOut s.time.ptp.cfg.port (s.port s.time.ptp.cfg.port).protects bs).2 = some out)
    (hfree : s.portFree s.time.ptp.cfg.port = true) (hparent : s.time.ptp.parent.isSome = true)
    (hstate : s.time.ptp.portState = .uncalibrated ∨ s.time.ptp.portState = .slave) :
    s.ptpDelayReq = ((u.protectOut s.time.ptp.cfg.port (s.port s.time.ptp.cfg.port).protects bs).1.ringFrame 124).putOnWire
      s.time.ptp.cfg.port false out := by
  have hgo : (!s.portFree s.time.ptp.cfg.port || s.time.ptp.parent.isNone
      || (s.time.ptp.portState != .uncalibrated && s.time.ptp.portState != .slave)) = false := by
    rcases hstate with h | h <;> simp [hfree, h, hparent]
  subst hu hbs
  have hport (t : TimeState) : ({ s with time := t } : State).port s.time.ptp.cfg.port = s.port s.time.ptp.cfg.port := rfl
  simp only [State.ptpDelayReq, hgo, hport, hout, Bool.false_eq_true, if_false]

/-! ### The statement -/

section Messages
variable {dt : Nat} {s : State}

/-- A two-step Sync of the parent waits for its Follow_Up, with the stamp of its arrival. -/
theorem runs_ptpSyncRx {msg : PtpTimed} (htakes : s.time.ptp.takes msg.via = true) (hon : s.portOn msg.via.port = true)
    (hgroup : msg.via.unicast = false) (hlow : -7 ≤ msg.logSync) (hhigh : msg.logSync ≤ 1)
    (hparent : s.time.ptp.fromParent msg.source = true) (hown : s.ownServo = true) (htwo : msg.twoStep = true) :
    Runs (.ptpSyncRx dt msg) s fun t =>
      t.time.ptp.pendingSync = some ⟨msg.seq, (s.tick dt).stamp + s.time.cfg.corr msg.via.port false, msg.corr, msg.logSync⟩
        ∧ t.time.ptp.parent = s.time.ptp.parent ∧ t.time.state = s.time.state ∧ t.time.rate = s.time.rate ∧ t.clock = s.clock := by
  have hsync := State.ptpSync_of_parent (s := s.tick dt) htakes hon hgroup hlow hhigh hparent hown
  refine runs_of_withTime (next_settle_congr hsync) fun t event stamps htime hclock => ?_
  rw [State.freeDelay_time, htwo, TimeState.sync_twoStep] at htime
  rw [State.freeDelay_clock] at hclock
  rw [htime]
  exact ⟨rfl, rfl, rfl, rfl, hclock⟩

/-- The Follow_Up of the Sync that waits gives the sample its offset. -/
theorem runs_ptpFollowUpRx {msg : PtpTimed} {q : PendingSync} (htakes : s.time.ptp.takes msg.via = true)
    (hon : s.portOn msg.via.port = true) (hgroup : msg.via.unicast = false) (hparent : s.time.ptp.fromParent msg.source = true)
    (hown : s.ownServo = true) (hq : s.time.ptp.pendingSync = some q) (hseq : q.seq = msg.seq) (hdelays : s.time.ptp.delays ≠ []) :
    Runs (.ptpFollowUpRx dt msg) s fun t =>
      t.time.lastOffset = q.t2 - msg.stamp - msg.corr - q.corr - s.time.ptp.delay 0 ∧ t.time.lastSampleAt = some (s.tick dt).now
        ∧ t.time.ptp.pendingSync = none ∧ t.clock = s.clock := by
  have hfollow := State.ptpFollowUp_of_parent (s := s.tick dt) htakes hon hgroup hparent hown hdelays
  refine runs_of_withTime (next_settle_congr hfollow) fun t event stamps htime hclock => ?_
  rw [← hseq, TimeState.followUp_of_pending (t := (s.tick dt).time.quiet) hq] at htime
  obtain ⟨hoffset, hat, hsync⟩ := TimeState.formed_sampled _ _
  rw [htime]
  exact ⟨hoffset, hat, hsync, hclock⟩

/-- A Delay_Resp that answers the request adds a path delay. -/
theorem runs_ptpDelayRespRx {msg : PtpTimed} {q : PendingDelayReq} {a b d : Int} (htakes : s.time.ptp.takes msg.via = true)
    (hon : s.portOn msg.via.port = true) (hgroup : msg.via.unicast = false) (hparent : s.time.ptp.fromParent msg.source = true)
    (hq : s.time.ptp.pendingReq = some q) (hseq : q.seq = msg.seq) (h1 : s.time.ptp.lastT1 = some a) (h2 : s.time.ptp.lastT2 = some b)
    (hd : d = roundDiv ((b - a) + (msg.stamp - q.t3 - msg.corr)) 2) (hlow : 0 ≤ d) (hhigh : d ≤ usUnits 10000) :
    Runs (.ptpDelayRespRx dt msg) s fun t =>
      t.time.ptp.delays = (d :: s.time.ptp.delays).take 8 ∧ t.time.ptp.pendingReq = none ∧ t.time.state = s.time.state
        ∧ t.time.rate = s.time.rate := by
  have hresp := State.ptpDelayResp_of_parent (s := s.tick dt) htakes hon hgroup hparent
  refine runs_of_withTime (next_settle_congr hresp) fun t event stamps htime _ => ?_
  rw [← hseq, TimeState.delayResp_of_pending (t := (s.tick dt).time.quiet) hq h1 h2 hd hlow hhigh] at htime
  rw [htime]
  exact ⟨rfl, rfl, rfl, rfl⟩

/-- A first Announce records its master. -/
theorem runs_ptpAnnounceRx {msg : PtpAnnounce} (htakes : s.time.ptp.takes msg.via = true) (hon : s.portOn msg.via.port = true)
    (hgroup : msg.via.unicast = false) (hlow : -3 ≤ msg.data.logAnnounce) (hhigh : msg.data.logAnnounce ≤ 3)
    (hforeign : s.time.ptp.foreign = []) (hparent : s.time.ptp.parent = none) :
    Runs (.ptpAnnounceRx dt msg) s fun t =>
      t.time.ptp.foreign = [⟨msg.source, msg.data, 1, (s.tick dt).now, msg.via.mac, msg.via.ip⟩] ∧ t.time.ptp.parent = none
        ∧ t.time.ptp.portState = s.time.ptp.portState ∧ t.time.state = s.time.state := by
  have hannounce := State.ptpAnnounce_of_supported (s := s.tick dt) htakes hon hgroup hlow hhigh
  refine runs_of_withTime (next_settle_congr hannounce) fun t event stamps htime _ => ?_
  rw [TimeState.announce_first (t := (s.tick dt).time.quiet) hforeign] at htime
  rw [htime]
  exact ⟨rfl, hparent, rfl, rfl⟩

/-- Without its parent the port listens, and a timebase that follows enters HOLDOVER. -/
theorem runs_announceReceiptTimeout (hdue : (s.tick dt).time.annDue = true) :
    Runs (.announceReceiptTimeout dt) s fun t =>
      t.time.ptp.parent = none ∧ t.time.ptp.portState = .listening ∧ t.time.ptp.delays = [] ∧ t.time.ptp.pendingSync = none
        ∧ (s.time.following = true → t.time.state = .holdover) ∧ (s.time.following = false → t.time.state = s.time.state) := by
  refine runs_of_withTime (next_settle_congr (if_pos hdue)) fun t event stamps htime _ => ?_
  rw [htime, TimeState.loseParent_eq]
  obtain ⟨-, hport, hparent, hdelays, hsync⟩ := (s.tick dt).time.quiet.unparented.masterLost_port false
  have hstate := (s.tick dt).time.quiet.unparented.masterLost_state false
  exact ⟨hparent, hport, hdelays, hsync, fun h => hstate.trans (if_pos h), fun h => hstate.trans (if_neg (Bool.eq_false_iff.mp h))⟩

/-- Without a sample a timebase that follows enters HOLDOVER, and the parent stays. -/
theorem runs_syncLossTimeout (hlost : (s.tick dt).time.syncLost = true) (hfollows : s.time.following = true) :
    Runs (.syncLossTimeout dt) s fun t =>
      t.time.state = .holdover ∧ t.time.holdSince = (s.tick dt).now ∧ t.time.ptp.parent = s.time.ptp.parent := by
  refine runs_of_withTime (next_settle_congr (if_pos hlost)) fun t event stamps htime _ => ?_
  obtain ⟨-, -, hparent, -⟩ := TimeState.masterLost_port _ false
  rw [htime]
  exact ⟨(TimeState.masterLost_state _ false).trans (if_pos hfollows), TimeState.masterLost_holdSince (by exact hfollows) false, hparent⟩

end Messages

/-- Settles O28: what each message of the port, domain and parent, and each timeout, changes of the network time. -/
theorem ptpEngine : Obligations.PtpEngine := by
  refine ⟨fun dt msg s => runs_ptpSyncRx, fun dt msg s h => ?syncNotTaken, fun dt msg q s => runs_ptpFollowUpRx,
    fun dt msg q a b d s => runs_ptpDelayRespRx, fun dt msg s => runs_ptpAnnounceRx,
    fun dt u bs out s hu hbs hout hup hpause hwire hon hport hparent hstate => ?delayReq, fun dt s => runs_announceReceiptTimeout,
    fun dt s h => ?announceNotDue, fun dt s => runs_syncLossTimeout, fun dt s h => ?syncNotLost⟩
  case syncNotTaken => exact next_settle_congr (State.ptpMessage_of_not_taken (s := s.tick dt) h _ _)
  case delayReq =>
    have hfree : (s.tick dt).portFree s.time.ptp.cfg.port = true := State.portFree_of_idle (s := s.tick dt) hport hon hup hpause hwire
    exact next_settle_congr (State.ptpDelayReq_of_free (s := s.tick dt) hu hbs hout hfree hparent hstate)
  case announceNotDue => exact next_settle_congr (if_neg (Bool.eq_false_iff.mp h))
  case syncNotLost => exact next_settle_congr (if_neg (Bool.eq_false_iff.mp h))

end Sys2Proof.Machine
end

section
/-!
PROOFS. The commands of the timebase (R148, R149, R158 to R160, R163): its configuration, and its step.
-/

namespace Sys2Proof.Machine

/-! ### Commands that change the timebase -/

/-- The state in which a running request acts: its time has come, and nothing but the request has changed. -/
theorem running_state {spec : CommandSpec} {m dt : Nat} {s : State} {e : ExecReq} {c : Ctx} {t : State} {p : Bytes}
    (h : Running spec m dt s e c t p) : t.time = s.time.tick dt ∧ t.clock = s.clock ∧ t.secure = s.secure ∧ p = c.payload := by
  obtain ⟨-, -, -, -, rfl, rfl, -, -⟩ := h
  exact ⟨rfl, rfl, rfl, rfl⟩

/-- A running request acts, and its completion and what follows every command leave time, clock and log as it left them. -/
theorem runs_of_running {spec : CommandSpec} {i : Instr} {m dt : Nat} {s : State} {e : ExecReq} {c : Ctx} {t : State} {p : Bytes}
    (hi : exec i s = s.act dt (·.runMbx spec m)) (h : Running spec m dt s e c t p) {u : State} {r : Reply}
    (hb : spec.body c t = (u, r)) {P : State → Prop}
    (hp : ∀ v, v.time = u.time → v.clock = u.clock → v.secure = u.secure → P v) : Runs i s P := by
  refine ⟨(u.finish c e.orphan r).settle, ?_, hp _ ?_ ?_ ?_⟩
  · rw [hi, State.act, running_runMbx h, hb]
  · simp only [State.settle_time, State.finish_frame]
  · simp only [State.settle_clock, State.finish_frame]
  · simp only [State.settle_secure, State.finish_frame]

/-! ### PTP_CONFIG (R158) -/

/-- The configuration that PTP_CONFIG gives, with the defaults that zero selects. -/
def ptpConfigOf (p : Bytes) : PtpConfig :=
  { port := fld p 0 1, profile := fld p 1 1, domain := fld p 2 1, transport := fld p 3 1, delayAddr := fld p 4 1
    annTimeout := orDefault (fld p 5 1) 3, syncLoss := orDefault (fld p 6 1) 3, vlan := fld p 8 2 }

/-- PTP_CONFIG of no port, or of a port that is on, restarts the engine. -/
theorem ptpConfigSpec_body {c : Ctx} {t : State} (h : fld c.payload 0 1 = 0xFF ∨ t.portOn (fld c.payload 0 1) = true) :
    ptpConfigSpec.body c t = (t.withTime (·.ptpRestart (ptpConfigOf c.payload)), ⟨.ok, [], none⟩) := by
  refine if_neg ?_
  rcases h with h | h <;> simp [h]

/-- A restart is a loss of the master, at a port that knows none yet. -/
theorem TimeState.ptpRestart_port (t : TimeState) (cfg : PtpConfig) : (t.ptpRestart cfg).ptp.cfg = cfg
    ∧ (t.ptpRestart cfg).ptp.portState = (if cfg.port = 0xFF then .disabled else .listening) ∧ (t.ptpRestart cfg).ptp.parent = none
    ∧ (t.ptpRestart cfg).ptp.delays = [] ∧ (t.ptpRestart cfg).state = if t.following then .holdover else t.state := by
  obtain ⟨hcfg, hport, hparent, hdelays, -⟩ := TimeState.masterLost_port _ false
  exact ⟨hcfg, hport, hparent, hdelays, TimeState.masterLost_state _ false⟩

/-- PTP_CONFIG restarts the engine with its configuration, and a timebase that follows enters HOLDOVER. -/
theorem runs_ptpConfig {dt m : Nat} {s t : State} {e : ExecReq} {c : Ctx} {p : Bytes} (h : Running ptpConfigSpec m dt s e c t p)
    (hon : fld p 0 1 = 0xFF ∨ t.portOn (fld p 0 1) = true) :
    Runs (.ptpConfig dt m) s fun u =>
      u.time.ptp.cfg.port = fld p 0 1 ∧ u.time.ptp.cfg.domain = fld p 2 1
        ∧ u.time.ptp.cfg.annTimeout = (if fld p 5 1 = 0 then 3 else fld p 5 1)
        ∧ u.time.ptp.portState = (if fld p 0 1 = 0xFF then .disabled else .listening) ∧ u.time.ptp.parent = none ∧ u.time.ptp.delays = []
        ∧ (s.time.following = true → u.time.state = .holdover) ∧ (s.time.following = false → u.time.state = s.time.state)
        ∧ u.clock = s.clock := by
  obtain ⟨htick, hkept, -, rfl⟩ := running_state h
  refine runs_of_running rfl h (ptpConfigSpec_body hon) fun u htime hclock _ => ?_
  obtain ⟨stamps, hrestart⟩ := t.withTime_time (·.ptpRestart (ptpConfigOf c.payload))
  obtain ⟨hcfg, hport, hparent, hdelays, hstate⟩ := t.time.quiet.ptpRestart_port (ptpConfigOf c.payload)
  simp only [State.withTime_frame, hkept] at hclock
  rw [htime, hrestart]
  dsimp only
  rw [hcfg, hport, hparent, hdelays, hstate, htick]
  exact ⟨rfl, rfl, rfl, rfl, rfl, rfl, fun h => if_pos h, fun h => if_neg (Bool.eq_false_iff.mp h), hclock⟩

/-! ### The clock in a step (R148) -/

/-- The frames of a clock that moves keep their numbers. -/
theorem ClockState.at_shift (c : ClockState) (d : Int) (n : Nat) : (c.shift d).at_ n = (c.at_ n).map (·.shift d) :=
  List.find?_map ..

/-- The frames of a clock that moves keep their lengths. -/
theorem ClockState.period_shift (c : ClockState) (d : Int) : (c.shift d).period = c.period := by
  have hlast : (c.shift d).grid.getLast? = c.grid.getLast?.map (·.shift d) := List.getLast?_map
  have hat : (c.shift d).at_ (c.shift d).frame = (c.at_ c.frame).map (·.shift d) := c.at_shift d c.frame
  simp only [ClockState.period, hat, hlast]
  cases c.at_ c.frame with
  | some g => rfl
  | none => cases c.grid.getLast? <;> rfl

/-- A clock that moves with the timebase keeps its position. -/
theorem ClockState.posAt_shift (c : ClockState) (d : Int) (x : Instant) : (c.shift d).posAt (x + d) = c.posAt x := by
  have hstarted : ((c.shift d).grid.filter fun g => decide (g.t ≤ x + d)) = (c.grid.filter fun g => decide (g.t ≤ x)).map (·.shift d) := by
    rw [show (c.shift d).grid = c.grid.map (·.shift d) from rfl, List.filter_map]
    congr 2
    funext g
    simp [GridFrame.shift]
  simp only [ClockState.posAt, hstarted, List.getLast?_map, ClockState.period_shift]
  cases (c.grid.filter fun g => decide (g.t ≤ x)).getLast? with
  | none => rfl
  | some g =>
    have hsince : x + d - (g.shift d).t = x - g.t := Int.add_sub_add_right x d g.t
    simp only [Option.map_some, hsince]
    rfl

/-! ### TIME_STEP (R148, R149, R153, R160) -/

theorem bit_eq_testBit (n i : Nat) : bit n i = n.testBit i := by
  rw [Nat.testBit_eq_decide_div_mod_eq]
  rfl

/-- Raising bit `b` of TIM_EVENT changes the event bits alone, and sets it. -/
theorem State.raiseTime_time (s : State) {b : Nat} (hb : b < 32) : ∃ event stamps, (s.withTime (·.raise b)).time
    = { s.time with event := event, eventAt := stamps } ∧ bit event.toNat b = true := by
  obtain ⟨stamps, h⟩ := s.withTime_time (·.raise b)
  have hword : 2 ^ b < 2 ^ 32 := Nat.pow_lt_pow_right (by decide) hb
  refine ⟨_, stamps, h, ?_⟩
  simp only [bit_eq_testBit, TimeState.raise, BitVec.toNat_or, Nat.testBit_or, BitVec.toNat_ofNat, Nat.mod_eq_of_lt hword,
    Nat.testBit_two_pow_self, Bool.or_true]

/-- From `s` to `t` only pulse outputs, their event bits and what leaves the device have changed, as far as time, clock and log go. -/
def State.PulsesMoved (s t : State) : Prop := ∃ event stamps pulses,
  t.time = { s.time with event := event, eventAt := stamps, pulses := pulses } ∧ t.clock = s.clock ∧ t.secure = s.secure

theorem State.PulsesMoved.trans {s t u : State} (h : s.PulsesMoved t) (h' : t.PulsesMoved u) : s.PulsesMoved u := by
  obtain ⟨_, _, _, htime, hclock, hsecure⟩ := h
  obtain ⟨event, stamps, pulses, htime', hclock', hsecure'⟩ := h'
  exact ⟨event, stamps, pulses, by rw [htime', htime], hclock'.trans hclock, hsecure'.trans hsecure⟩

theorem State.pulsesMoved_refl (s : State) : s.PulsesMoved s := ⟨_, _, _, rfl, rfl, rfl⟩

theorem State.pulsesMoved_raise (s : State) {b : Nat} (hb : b < 32) : s.PulsesMoved (s.withTime (·.raise b)) := by
  obtain ⟨event, stamps, h, -⟩ := s.raiseTime_time hb
  exact ⟨event, stamps, _, h, by simp only [State.withTime_frame], by simp only [State.withTime_frame]⟩

/-- A step moves pulse outputs alone. -/
theorem State.stepPulses_pulsesMoved (s : State) (old new_ : Instant) : s.PulsesMoved (s.stepPulses old new_) := by
  refine List.foldlRecOn (motive := s.PulsesMoved) _ _ s.pulsesMoved_refl fun t ht j hj => ht.trans ?_
  have hbit : 16 + j < 32 := by have := List.mem_range.mp hj; omega
  split
  · exact t.pulsesMoved_refl
  · next o _ =>
    have hset (o : PulseOut) : t.PulsesMoved (t.setPulse j o) := ⟨_, _, _, rfl, rfl, rfl⟩
    have hraise (o : PulseOut) := (hset o).trans ((t.setPulse j o).pulsesMoved_raise hbit)
    dsimp only
    split
    · split
      · exact hraise _
      · exact hset _
    · split
      · exact hraise _
      · exact hset _

/-- A step of the timebase by `d` units moves its value by `d`. -/
theorem TimeState.step_value (t : TimeState) (d : Int) : (t.step d).value = t.value + d := by
  have hunit : ((tbUnit : Nat) : Int) ≠ 0 := by decide
  exact Int.add_mul_fdiv_right t.tb d hunit

/-- TIME_STEP moves the timebase and the clock together, moves the pulse outputs, and sets STEPPED. -/
theorem State.timeStep_time (s : State) (d : Int) : ∃ event stamps pulses, (s.timeStep d).time
    = { s.time.step d with event := event, eventAt := stamps, pulses := pulses } ∧ bit event.toNat 5 = true
      ∧ (s.timeStep d).clock = s.clock.shift d ∧ (s.timeStep d).secure = s.secure := by
  obtain ⟨_, _, pulses, htime, hclock, hsecure⟩ := (s.shift d).stepPulses_pulsesMoved s.tb (s.tb + d)
  obtain ⟨event, stamps, hraise, hbit⟩ := ((s.shift d).stepPulses s.tb (s.tb + d)).raiseTime_time (b := 5) (by decide)
  refine ⟨event, stamps, pulses, hraise.trans (by rw [htime]; rfl), hbit, ?_, ?_⟩
  · simp only [State.timeStep, State.withTime_frame, hclock]
    rfl
  · simp only [State.timeStep, State.withTime_frame, hsecure]
    rfl

/-- An audit record takes the next number of the log. -/
theorem State.audit_next (s : State) (event session role status : Nat) (detail : Bytes) :
    (s.audit event session role status detail).secure.auditNext = s.secure.auditNext + 1 := by
  have hroom : s.secure.makeRoom.auditNext = s.secure.auditNext := by
    unfold SecureState.makeRoom
    repeat' split
    all_goals rfl
  rw [← hroom]
  unfold State.audit
  dsimp only
  split <;> rfl

/-- The state after a TIME_STEP that is carried out: logged, and the timebase moved. -/
def State.loggedStep (t : State) (c : Ctx) : State :=
  (t.audit 0x0050 c.session c.role 0 (bytesLE 2 0x0213 ++ slice c.payload 0 16)).timeStep (t.stepOf c.payload)

/-- TIME_STEP that may run is carried out, and answers the difference and the steps counted. -/
theorem timeStepSpec_body {c : Ctx} {t : State} (hlog : t.auditFull = false)
    (hsample : fld c.payload 0 1 = 2 → t.time.sampleRecent = true) : timeStepSpec.body c t
      = (t.loggedStep c, ⟨.ok, stepBytes (t.stepOf c.payload) (t.loggedStep c).time.stepCount, some (t.loggedStep c).pos⟩) := by
  have hgo : (decide (fld c.payload 0 1 = 2) && !t.time.sampleRecent) = false := by simpa using hsample
  simp only [timeStepSpec, timeStepBody, hlog, hgo, Bool.false_eq_true, if_false, State.loggedStep]

/-- TIME_STEP steps timebase, instants and log, and no position of the show moves. -/
theorem runs_timeStep {dt m : Nat} {s t : State} {e : ExecReq} {c : Ctx} {p : Bytes} (h : Running timeStepSpec m dt s e c t p)
    (hlog : t.auditFull = false) (hsample : fld p 0 1 = 2 → t.time.sampleRecent = true) :
    Runs (.timeStep dt m) s fun u =>
      u.time.tb = t.time.tb + t.stepOf p * (tbUnit : Nat) ∧ u.time.stepCount = s.time.stepCount + 1 ∧ u.time.now = s.time.now + dt
        ∧ u.time.state = s.time.state ∧ u.time.rate = s.time.rate ∧ u.time.lastStep = t.stepOf p ∧ u.clock.frame = s.clock.frame
        ∧ u.clock.run = s.clock.run ∧ u.clock.phase = s.clock.phase ∧ u.pos = t.pos ∧ bit u.time.event.toNat 5 = true
        ∧ u.secure.auditNext = s.secure.auditNext + 1 := by
  obtain ⟨htick, hkept, hsecure, rfl⟩ := running_state h
  refine runs_of_running rfl h (timeStepSpec_body hlog hsample) fun u hu hclock hlogged => ?_
  obtain ⟨event, stamps, pulses, htime, hbit, hshift, hnext⟩ := State.timeStep_time (t.audit _ _ _ _ _) (t.stepOf c.payload)
  rw [State.loggedStep, htime] at hu
  rw [State.loggedStep, hshift] at hclock
  rw [State.loggedStep, hnext] at hlogged
  simp only [State.audit_frame] at hu hclock
  have hpos : u.pos = t.pos := by
    rw [State.pos, State.tb, hclock, hu]
    exact (congrArg _ (t.time.step_value (t.stepOf c.payload))).trans (t.clock.posAt_shift _ _)
  rw [hlogged, State.audit_next, hsecure, hpos, hu, hclock, hkept]
  dsimp only [TimeState.step, ClockState.shift]
  rw [htick]
  exact ⟨rfl, rfl, rfl, rfl, rfl, rfl, rfl, rfl, rfl, rfl, hbit, rfl⟩

/-- Settles O29: PTP_CONFIG as a restart of the engine, TIME_STEP as one move of timebase, clock and pulse outputs. -/
theorem timebaseCommands : Obligations.TimebaseCommands := by
  refine ⟨fun dt m s t e c p => runs_ptpConfig, fun dt m s t e c p h => running_act h rfl, fun dt m s t e c p h => ?config,
    fun dt m s t e c p => runs_timeStep, fun dt m s t e c p h hlog hmode hold => ?noSample⟩
  case config =>
    obtain ⟨-, -, -, rfl⟩ := running_state h
    exact running_act h rfl
  case noSample =>
    obtain ⟨-, -, -, rfl⟩ := running_state h
    refine running_act h ?_
    simp only [timeStepSpec, timeStepBody, hlog, hmode, hold, decide_true, Bool.not_false, Bool.and_self, Bool.false_eq_true, if_false,
      if_true]
    rfl

end Sys2Proof.Machine
end

section
/-!
PROOFS. Captures (R154, R155, R162): an edge that its input has not chosen.
-/

namespace Sys2Proof.Machine

/-- An edge that an ENABLED input has not chosen leaves the input as it is, and its entry of the table is set to that. -/
theorem State.captureEdge_of_unchosen {s : State} {i : Nat} {rising : Bool} (hon : s.enabled 0x0F i = true)
    (hedge : bit (s.capture i).edges (if rising then 0 else 1) = false) :
    s.captureEdge i rising = { s with time := { s.time with captures := s.time.captures.put i (s.capture i) } } := by
  have hsame : (s.capture i).edge rising s.now s.stamp s.pos = (s.capture i, false) := if_pos (by simp [hedge])
  simp only [State.captureEdge, hon, hsame, Bool.not_true, Bool.and_not_self, Bool.false_eq_true, if_false]

/-- Refutes O30: the statement holds of every state, and so of one whose table of capture inputs has its keys out of order. There the
entry of input 2 stands after that of input 5; an edge that input 2 has not chosen sets that entry again, which puts a second one in
front, so that the state is not the one before. -/
theorem not_pulsesAndCaptures : ¬ Obligations.PulsesAndCaptures := by
  rintro ⟨-, -, -, -, -, -, -, -, -, hunchosen, -, -⟩
  let s : State := { fns := [(0xF0002, { state := .enabled })], time := { captures := [(5, {}), (2, { edges := 0 })] } }
  have hstep : exec (.captureEdge 0 2 true) s = .next (s.tick 0).settle := hunchosen 0 2 true s (by decide) (.inr (by decide))
  have hedge := State.captureEdge_of_unchosen (s := s.tick 0) (i := 2) (rising := true) (by decide) (by decide)
  have hnext : ((s.tick 0).captureEdge 2 true).settle = (s.tick 0).settle := Host.Outcome.next.inj hstep
  have hcaptures := congrArg (fun t : State => t.time.captures) hnext
  simp only [State.settle_time, hedge] at hcaptures
  exact absurd hcaptures (by decide)

end Sys2Proof.Machine
end

section
/-!
PROOFS. Emission instants (R336 to R338, R359, R366, R393) and the playback actions that take effect (R211, R213, R216).
-/

namespace Sys2Proof.Machine

/-! ### What settling an emission leaves unchanged -/

@[simp] theorem State.settleOut_tb (s : State) (n key : Nat) : (s.settleOut n key).tb = s.tb := by
  simp only [State.tb, State.settleOut_frame]

@[simp] theorem State.settleOut_enabled (s : State) (n key cls inst : Nat) : (s.settleOut n key).enabled cls inst = s.enabled cls inst := by
  simp only [State.enabled, State.fn, State.settleOut_frame]

@[simp] theorem State.settleOut_emits (s : State) (n key : Nat) : (s.settleOut n key).emits = s.emits := by
  simp only [State.emits, State.settleOut_frame]

@[simp] theorem State.settleOut_dmxPort (s : State) (n key j : Nat) : (s.settleOut n key).dmxPort j = s.dmxPort j := by
  simp only [State.dmxPort, State.settleOut_frame]

@[simp] theorem State.settleOut_pwmOut (s : State) (n key j : Nat) : (s.settleOut n key).pwmOut j = s.pwmOut j := by
  simp only [State.pwmOut, State.settleOut_frame]

@[simp] theorem State.setDmx_tb (s : State) (j : Nat) (d : DmxDyn) : (s.setDmx j d).tb = s.tb := rfl

/-- The wire images stay: settling changes a frame's record alone. -/
@[simp] theorem State.settleOut_slot (s : State) (n key m : Nat) : (s.settleOut n key).render.slot m = s.render.slot m := by
  unfold State.settleOut
  cases s.frame n <;> rfl

/-! ### The outputs that exist -/

theorem outExists_universe {number : Nat} (hlow : 1 ≤ number) (hhigh : number ≤ 63999) : outExists 0 number = true :=
  (Bool.and_eq_true _ _).mpr ⟨decide_eq_true hlow, decide_eq_true hhigh⟩

theorem outExists_dmx {number : Nat} (h : number < 16) : outExists 1 number = true := decide_eq_true h

theorem outExists_pwm {number : Nat} (h : number < 32) : outExists 2 number = true := decide_eq_true h

theorem outExists_syncAddress {number : Nat} (h : number < 65536) : outExists 4 number = true := decide_eq_true h

/-! ### The emission of an output (R336 to R338) -/

section Emission

variable {s : State} {r : FrameRec} {number n : Nat} {bad : Bool}

/-- An emission that is due leaves on its output. A universe that ends on a port sends its termination packets first (R395). -/
theorem State.emissionInstant_of_due (kind : Nat) (hframe : s.frame n = some r) (hclosed : r.mainClosed = true) (hkind : kind ≤ 4)
    (hlane : kind ≠ 3) (hterms : kind = 0 → r.tx.terms = []) (hexists : outExists kind number = true)
    (hopen : r.settled.contains (outKey kind number) = false) (hon : r.emitsOn kind number = true)
    (hdue : s.tickReached (r.instantOf kind number) = true) (hemits : s.emits = true) :
    s.emissionInstant kind number n bad = s.emitOut r kind number bad := by
  have hterm : (if kind = 0 then s.emitTerms r number else s) = s := by
    split
    · next hzero => simp only [State.emitTerms, hterms hzero, List.filter_nil, List.foldl_nil]
    · rfl
  have hgo : (!r.mainClosed || decide (4 < kind) || !outExists kind number) = false := by
    simp only [hclosed, hexists, Nat.not_lt.mpr hkind, decide_false, Bool.not_true, Bool.or_self]
  simp only [State.emissionInstant, hframe, hgo, hlane, hterm, hopen, hon, hdue, hemits, Bool.not_true, Bool.or_self,
    Bool.false_eq_true, if_false]

/-- Before its main window has closed, and once it is in flight no more, a frame emits nothing. -/
theorem State.emissionInstant_of_not_closed {kind : Nat}
    (h : s.frame n = none ∨ ∃ r, s.frame n = some r ∧ r.mainClosed = false) : s.emissionInstant kind number n bad = s := by
  rcases h with hnone | ⟨r, hframe, hopen⟩
  · simp only [State.emissionInstant, hnone]
  · simp only [State.emissionInstant, hframe, hopen, Bool.not_false, Bool.true_or, if_true]

theorem State.emitOut_of_overtaken {kind : Nat} (h : s.overtaken r kind number = true) :
    s.emitOut r kind number bad = s.supersede r kind number := if_pos h

theorem State.emitOut_universe (h : s.overtaken r 0 number = false) : s.emitOut r 0 number bad = s.emitUniverse r number bad :=
  if_neg (Bool.eq_false_iff.mp h)

theorem State.emitOut_pwm (h : s.overtaken r 2 number = false) : s.emitOut r 2 number bad = s.emitPwm r number bad :=
  if_neg (Bool.eq_false_iff.mp h)

/-- An emission that is due on a DMX port and that no later frame has overtaken. -/
theorem State.emissionInstant_dmx (hframe : s.frame n = some r) (hclosed : r.mainClosed = true) (hnumber : number < 16)
    (hopen : r.settled.contains (outKey 1 number) = false) (hdue : s.tickReached (r.instantOf 1 number) = true)
    (hnext : s.overtaken r 1 number = false) (hemits : s.emits = true) :
    s.emissionInstant 1 number n bad = s.emitDmx r number bad := by
  rw [State.emissionInstant_of_due 1 hframe hclosed (by decide) (by decide) nofun (outExists_dmx hnumber) hopen rfl hdue hemits]
  exact if_neg (Bool.eq_false_iff.mp hnext)

/-- A free DMX port that is an output and ENABLED sends the slots of the frame's image (R359). -/
theorem State.emitDmx_of_free (hout : (r.view.ports.dmx.getD number {}).input = false)
    (hnow : (s.txn.view.ports.dmx.getD number {}).input = false) (henabled : s.enabled 4 number = true) (hemits : s.emits = true)
    (hfree : (s.dmxPort number).busy s.tb = false) :
    s.emitDmx r number false = (((s.settleOut r.n (outKey 1 number)).setDmx number { s.dmxPort number with
        sendEnd := some (s.tb + usUnits (r.view.ports.dmx.getD number {}).packetUs), turnaround := false, deferDrive := false
        counts := bump 0 (s.dmxPort number).counts }).emit
      (.dmx number s.tb (((s.render.slot r.n).image.slots (131072 + number)).take (r.view.ports.dmx.getD number {}).slots))).emitted
      (outKey 1 number) := by
  simp only [State.emitDmx, State.settleOut_frame, State.settleOut_enabled, State.settleOut_emits, State.settleOut_dmxPort,
    State.settleOut_tb, State.setDmx_tb, State.settleOut_slot, hout, hnow, henabled, hemits, hfree, Bool.not_true, Bool.or_self,
    Bool.false_eq_true, if_false]

/-- A busy DMX port skips the frame, as one does whose packet would hold a poisoned word (R479). -/
theorem State.emitDmx_of_skipped (hout : (r.view.ports.dmx.getD number {}).input = false)
    (hnow : (s.txn.view.ports.dmx.getD number {}).input = false) (henabled : s.enabled 4 number = true) (hemits : s.emits = true)
    (hskip : (s.dmxPort number).busy s.tb = true ∨ bad = true) :
    s.emitDmx r number bad = (s.settleOut r.n (outKey 1 number)).skipped (outKey 1 number) := by
  have hbusy : ((s.dmxPort number).busy s.tb || bad) = true := Bool.or_eq_true_iff.mpr hskip
  simp only [State.emitDmx, State.settleOut_frame, State.settleOut_enabled, State.settleOut_emits, State.settleOut_dmxPort,
    State.settleOut_tb, hout, hnow, henabled, hemits, hbusy, Bool.not_true, Bool.or_self, Bool.false_eq_true, if_false, if_true]

/-- An ENABLED PWM output queues the value of the frame's image (R336, R366). -/
theorem State.emitPwm_of_enabled (henabled : s.enabled 5 number = true) (hemits : s.emits = true) :
    s.emitPwm r number false = ((s.settleOut r.n (outKey 2 number)).setPwm number { s.pwmOut number with
        loads := (s.pwmOut number).loads ++ [⟨r.n, r.instantOf 2 number,
          ((s.render.slot r.n).image.getD (196608 + number) [16, 0]).headD 16,
          ((s.render.slot r.n).image.getD (196608 + number) [16, 0]).getD 1 0⟩] }).emitted (outKey 2 number) := by
  simp only [State.emitPwm, State.settleOut_enabled, State.settleOut_emits, State.settleOut_pwmOut, State.settleOut_slot, henabled,
    hemits, Bool.not_true, Bool.or_self, Bool.false_eq_true, if_false]

end Emission

/-! ### The actions that are due (R211, R213, R216) -/

section Actions

variable {d : DynState} {v : PatchState} {c : CueState} {rate : Nat} {x : Int}

theorem DynState.fuel_pos (d : DynState) (c : CueState) : 0 < d.fuel c := Nat.mul_pos (Nat.succ_pos _) (Nat.succ_pos _)

/-- Where the first scheduled action lies after `x`, none takes effect. -/
theorem DynState.settle_of_not_due (h : ∀ a, d.first = some a → x < a.pos) (fuel : Nat) : d.settle v c rate x fuel = (d, []) := by
  cases fuel with
  | zero => rfl
  | succ fuel =>
    cases hfirst : d.first with
    | none => simp only [DynState.settle, hfirst]
    | some a => simp only [DynState.settle, hfirst, h a hfirst, if_true]

theorem DynState.upTo_of_not_due (h : ∀ a, d.first = some a → x < a.pos) : d.upTo v c rate x = (d, []) :=
  DynState.settle_of_not_due h _

/-- A single action that has come takes effect, and its position is kept where it had none. -/
theorem DynState.upTo_of_single {a : DueAct} (hfirst : d.first = some a) (hcome : a.pos ≤ x)
    (hlast : (d.act v c rate a).1.first = none) :
    d.upTo v c rate x = ((d.act v c rate a).1, if (d.act v c rate a).2 then [a.pos] else []) := by
  obtain ⟨fuel, hfuel⟩ := Nat.exists_eq_add_one.mpr (d.fuel_pos c)
  have hrest := DynState.settle_of_not_due (v := v) (c := c) (rate := rate) (x := x)
    (fun b (hb : (d.act v c rate a).1.first = some b) => by rw [hlast] at hb; cases hb) fuel
  simp only [DynState.upTo, hfuel, DynState.settle, hfirst, Int.not_lt.mpr hcome, if_false, hrest]

end Actions

section Voids

variable {s : State}

/-- Noting voids changes, of the running state, the voids that wait. -/
theorem State.noteVoids_render (s : State) (ps : List Int) :
    ∃ l, (s.noteVoids ps).render = { s.render with voids := l } := ⟨_, State.raiseAll_render _ _⟩

/-- With no void that waits and no new one, none is raised. -/
theorem State.noteVoids_nil (h : s.render.voids = []) : s.noteVoids [] = s := by
  simp only [State.noteVoids, h, List.append_nil, List.filter_nil, ite_self, List.map_nil, State.raiseAll_nil]
  rw [← h]

/-- ACTION_VOID is raised at once for an action whose position has come. -/
theorem State.noteVoids_of_come {p : Int} (hrun : s.clock.run = true) (hvoids : s.render.voids = []) (hcome : p ≤ s.pos) (b : Bool) :
    s.noteVoids (if b then [p] else []) = s.raiseIf b 0x3C := by
  cases b with
  | false => exact State.noteVoids_nil hvoids
  | true =>
    have hkept : ({ s with render := { s.render with voids := [] } } : State) = s := by rw [← hvoids]
    simp only [State.noteVoids, hrun, hvoids, hcome, hkept, Int.not_lt.mpr hcome, List.nil_append, List.filter_cons, List.filter_nil,
      decide_true, decide_false, Bool.false_eq_true, if_true, if_false]
    rfl

/-- While the clock runs, the actions up to now and before the next frame to be sealed take effect. -/
theorem State.actionsDue_of_running (hrun : s.clock.run = true) :
    s.actionsDue = (s.takeActions s.txn.view (s.clock.rateOf (s.openFrame - 1))
      (min (s.pos : Int) (beforeFrame s.openFrame))).noteVoids [] :=
  if_pos hrun

/-- The running state after the actions that are due. -/
theorem State.actionsDue_render (hrun : s.clock.run = true) :
    ∃ l, s.actionsDue.render = { s.render with
      dyn := (s.render.dyn.upTo s.txn.view.patch s.txn.view.cues (s.clock.rateOf (s.openFrame - 1))
        (min (s.pos : Int) (beforeFrame s.openFrame))).1
      voids := l } := by
  rw [State.actionsDue_of_running hrun]
  obtain ⟨later, hlater⟩ := State.noteVoids_render
    (s.takeActions s.txn.view (s.clock.rateOf (s.openFrame - 1)) (min (s.pos : Int) (beforeFrame s.openFrame))) []
  refine ⟨later, ?_⟩
  rw [hlater, State.takeActions]
  obtain ⟨now, hnow⟩ := State.noteVoids_render (s.setDyn (s.render.dyn.upTo s.txn.view.patch s.txn.view.cues
    (s.clock.rateOf (s.openFrame - 1)) (min (s.pos : Int) (beforeFrame s.openFrame))).1) _
  rw [hnow, State.setDyn_render]

/-- One action that has come takes effect, and ACTION_VOID is raised where it has none. -/
theorem State.actionsDue_of_single {rate : Nat} {x : Int} {a : DueAct} (hrun : s.clock.run = true) (hvoids : s.render.voids = [])
    (hrate : rate = s.clock.rateOf (s.openFrame - 1)) (hx : x = min (s.pos : Int) (beforeFrame s.openFrame))
    (hfirst : s.render.dyn.first = some a) (hcome : a.pos ≤ x)
    (hlast : (s.render.dyn.act s.txn.view.patch s.txn.view.cues rate a).1.first = none) :
    s.actionsDue = (s.setDyn (s.render.dyn.act s.txn.view.patch s.txn.view.cues rate a).1).raiseIf
      (s.render.dyn.act s.txn.view.patch s.txn.view.cues rate a).2 0x3C := by
  have hpos : a.pos ≤ (s.pos : Int) := Int.le_trans (hx ▸ hcome) (Int.min_le_left _ _)
  have hvoid (d : DynState) := State.noteVoids_of_come (s := s.setDyn d) hrun hvoids hpos
  rw [State.actionsDue_of_running hrun, State.takeActions, ← hrate, ← hx, DynState.upTo_of_single hfirst hcome hlast, hvoid]
  exact State.noteVoids_nil (by unfold State.raiseIf; split <;> exact hvoids)

/-- Where nothing has come, nothing changes. -/
theorem State.actionsDue_of_none_due (hvoids : s.render.voids = [])
    (hlater : ∀ a, s.render.dyn.first = some a → (s.pos : Int) < a.pos) : s.actionsDue = s := by
  cases hrun : s.clock.run with
  | false => exact if_neg (Bool.eq_false_iff.mp hrun)
  | true =>
    rw [State.actionsDue_of_running hrun, State.takeActions,
      DynState.upTo_of_not_due fun a ha => Int.lt_of_le_of_lt (Int.min_le_left _ _) (hlater a ha)]
    exact (congrArg (State.noteVoids · []) (State.noteVoids_nil hvoids)).trans (State.noteVoids_nil hvoids)

end Voids

/-! ### The statement -/

/-- ACTION_TAKES_EFFECT takes the actions that are due, and leaves the frames, the transactions and the clock. -/
theorem runs_actionTakesEffect {dt : Nat} {s : State} (hrun : s.clock.run = true) :
    Runs (.actionTakesEffect dt) s fun t =>
      t.render.dyn = (s.render.dyn.upTo s.txn.view.patch s.txn.view.cues ((s.tick dt).clock.rateOf ((s.tick dt).openFrame - 1))
          (min ((s.tick dt).pos : Int) (beforeFrame (s.tick dt).openFrame))).1
        ∧ t.render.frames = s.render.frames ∧ t.txn = s.txn ∧ t.clock = s.clock := by
  obtain ⟨l, hrender⟩ := State.actionsDue_render (s := s.tick dt) hrun
  refine ⟨_, rfl, ?_⟩
  simp only [State.settle_render, State.settle_txn, State.settle_clock, hrender]
  simp only [State.actionsDue_of_running (s := s.tick dt) hrun, State.noteVoids_frame, State.takeActions_frame]
  exact ⟨rfl, rfl, rfl, rfl⟩

/-- Settles O41: an emission that is due goes to its output, which sends, skips or supersedes it, and the actions up to the next frame to
be sealed are the settling of the scheduled ones. -/
theorem outputsEmit : Obligations.OutputsEmit := by
  refine ⟨fun dt number frame r s hframe hclosed hnumber hopen hdue hnext hout hnow henabled hemits hfree => next_settle_congr ?dmx,
    fun dt number frame poison r s hframe hclosed hnumber hopen hdue hnext hout hnow henabled hemits hskip => next_settle_congr ?dmxSkipped,
    fun dt number frame r s hframe hclosed hnumber hopen hdue hnext henabled hemits => next_settle_congr ?pwm,
    fun dt number frame poison r s hframe hclosed hlow hhigh hterms hopen hon hdue hnext hemits => next_settle_congr ?sacn,
    fun dt kind number frame poison r s hframe hclosed hkind hexists hopen hon hdue hnext hemits => next_settle_congr ?superseded,
    fun dt number frame poison r s hframe hclosed hnumber hopen hon hdue hnext hemits => next_settle_congr ?syncSuperseded,
    fun dt kind number frame poison s h => next_settle_congr (State.emissionInstant_of_not_closed (s := s.tick dt) h),
    fun dt rate x a s hrun hvoids hrate hx hfirst hcome hlast =>
      next_settle_congr (State.actionsDue_of_single (s := s.tick dt) hrun hvoids hrate hx hfirst hcome hlast),
    fun dt s => runs_actionTakesEffect, fun dt s h => next_settle_congr ?notDue⟩
  case dmx =>
    exact (State.emissionInstant_dmx (s := s.tick dt) hframe hclosed hnumber hopen hdue hnext hemits).trans
      (State.emitDmx_of_free hout hnow henabled hemits hfree)
  case dmxSkipped =>
    exact (State.emissionInstant_dmx (s := s.tick dt) hframe hclosed hnumber hopen hdue hnext hemits).trans
      (State.emitDmx_of_skipped hout hnow henabled hemits hskip)
  case pwm =>
    exact (State.emissionInstant_of_due (s := s.tick dt) 2 hframe hclosed (by decide) (by decide) nofun (outExists_pwm hnumber) hopen rfl
      hdue hemits).trans ((State.emitOut_pwm hnext).trans (State.emitPwm_of_enabled henabled hemits))
  case sacn =>
    exact (State.emissionInstant_of_due (s := s.tick dt) 0 hframe hclosed (by decide) (by decide) (fun _ => hterms)
      (outExists_universe hlow hhigh) hopen hon hdue hemits).trans (State.emitOut_universe hnext)
  case superseded =>
    exact (State.emissionInstant_of_due (s := s.tick dt) kind hframe hclosed (by omega) (by omega) (by omega) hexists hopen hon hdue
      hemits).trans ((State.emitOut_of_overtaken hnext).trans (if_neg (by omega)))
  case syncSuperseded =>
    exact (State.emissionInstant_of_due (s := s.tick dt) 4 hframe hclosed (by decide) (by decide) nofun (outExists_syncAddress hnumber)
      hopen hon hdue hemits).trans (State.emitOut_of_overtaken hnext)
  case notDue =>
    rcases h with hstop | ⟨hvoids, hnone | hlater⟩
    · exact if_neg (Bool.eq_false_iff.mp hstop)
    · exact State.actionsDue_of_none_due (s := s.tick dt) hvoids (fun a ha => nomatch hnone.symm.trans ha)
    · exact State.actionsDue_of_none_due (s := s.tick dt) hvoids hlater

end Sys2Proof.Machine
end

section
/-!
PROOFS. The reads of inputs, colour, canvases, outputs and ports (R269, R291, R321, R345, R374).
-/

namespace Sys2Proof.Machine

/-- Settles O37: each read's body answers its table, and leaves the state but for a free value that it takes. DERATE_STATUS turns on
whether the record is defined. -/
theorem readsOfTheDevice : Obligations.ReadsOfTheDevice := by
  refine ⟨fun dt m s t e c p h => ?input, fun dt m s t e c p h => ?merge, fun dt m s t e c p h => ?feeder,
    fun dt m s t e c p h => ?solve, fun dt m s t e c p k h hk => ?canvas, fun dt m s t e c p h => ?display,
    fun dt m s t e c p g d h hg hd => ?safety, fun dt m s t e c p h hnone => ?undefined,
    fun dt m s t e c p r f h hsome hf => ?derate, fun dt m s t e c p k j h hk hj => ?emit, fun dt m s t e c p h => ?port⟩
  all_goals obtain ⟨-, -, -, rfl⟩ := running_state h
  all_goals subst_vars
  case undefined => exact running_act h (by simp only [derateStatusSpec, hnone]; rfl)
  case derate => exact running_act h (by simp only [derateStatusSpec, hsome]; rfl)
  case input | merge | feeder | solve | canvas | display | safety | emit | port => exact running_act h rfl

end Sys2Proof.Machine
end

section
/-!
PROOFS. Live values and sACN (R245 to R249, R252, R265): what LIVE_WRITE stores, and what packets and timeouts do to the sources of a
universe.
-/

namespace Sys2Proof.Machine

/-! ### Inputs changed -/

@[simp] theorem State.withInputs_inputs (s : State) (i : InputState) (raised : List Nat) : (s.withInputs i raised).inputs = i :=
  State.raiseAll_inputs _ _

/-- The clock, the transactions, the frames and the ports stand. -/
def State.KeepsShow (s t : State) : Prop := t.clock = s.clock ∧ t.txn = s.txn ∧ t.render = s.render ∧ t.ports = s.ports

/-- The clock, the transactions, the meter and the functions stand. -/
def State.KeepsUnits (s t : State) : Prop := t.clock = s.clock ∧ t.txn = s.txn ∧ t.meter = s.meter ∧ t.fns = s.fns

/-- A command that changes the inputs, and raises sources for it, leaves everything else. -/
theorem runs_of_withInputs {i : Instr} {dt : Nat} {s : State} {x : InputState} {raised : List Nat} {P : State → Prop}
    (hexec : exec i s = .next ((s.tick dt).withInputs x raised).settle)
    (hp : ∀ t : State, t.inputs = x → s.KeepsShow t → s.KeepsUnits t → P t) :
    Runs i s P := by
  refine ⟨_, hexec, hp _ ?_ ?_ ?_⟩
  · rw [State.settle_inputs, State.withInputs_inputs]
  · simp only [State.KeepsShow, State.settle_clock, State.settle_txn, State.settle_render, State.settle_ports,
      State.withInputs_frame, State.tick_clock, State.tick_txn, State.tick_render, State.tick_ports, and_self]
  · simp only [State.KeepsUnits, State.settle_clock, State.settle_txn, State.settle_meter, State.settle_fns,
      State.withInputs_frame, State.tick_clock, State.tick_txn, State.tick_meter, State.tick_fns, and_self]

/-! ### The sources of a universe (R246, R247) -/

theorem RxDyn.source_cid {d : RxDyn} {cid : Nat} {x : RxSource} (h : d.source cid = some x) : x.cid = cid := by
  simpa using List.find?_some h

/-- A source that is put in place is the source of its CID. -/
theorem RxDyn.source_putSource {x : RxSource} {cid : Nat} (hcid : x.cid = cid) (d : RxDyn) : (d.putSource x).source cid = some x := by
  subst hcid
  have hkeys : ((fun z : RxSource => z.cid == x.cid) ∘ fun z => if z.cid = x.cid then x else z) = fun z => z.cid == x.cid := by
    funext z
    by_cases hz : z.cid = x.cid <;> simp [hz]
  cases h : d.sources.find? (·.cid == x.cid) with
  | none => simp [RxDyn.source, RxDyn.putSource, h]
  | some y =>
    have hy : y.cid = x.cid := RxDyn.source_cid h
    simp only [RxDyn.source, RxDyn.putSource, h, Option.isSome_some, if_true, List.find?_map, hkeys, Option.map_some, hy]

/-! ### Data packets (R245 to R249) -/

section DataPacket

variable {d : RxDyn} {r : RxDef} {p : SacnData} {syncLost : Bool} {now : Nat} {pos : Pos}

/-- E1.31 and R246 take a packet: no preview, start code 0, priority and length in range, and in sequence for its source. -/
structure RxDyn.Takes (d : RxDyn) (p : SacnData) : Prop where
  preview : p.preview = false
  start : p.props.head? = some 0
  priority : p.priority ≤ 200
  length : p.props.length ≤ 513
  seq : ∀ x, d.source p.cid = some x → seqFails x.seq p.seq = false

/-- The test of R246 in the model's words. -/
def RxDyn.refuses (d : RxDyn) (p : SacnData) : Bool :=
  p.preview || beNat (p.props.take 1) != 0 || 200 < p.priority || p.props.isEmpty || 513 < p.props.length
    || (d.source p.cid).elim false (fun s => seqFails s.seq p.seq)

/-- The start code is 0 where the first property is the byte 0. -/
theorem startCode_eq_zero_iff {bs : Bytes} : (beNat (bs.take 1) = 0 ∧ bs.isEmpty = false) ↔ bs.head? = some 0 := by
  cases bs with
  | nil => simp
  | cons b bs => simp [beNat, BitVec.toNat_eq]

theorem RxDyn.Takes.refuses_eq_false (h : d.Takes p) : d.refuses p = false := by
  obtain ⟨hzero, hempty⟩ := startCode_eq_zero_iff.mpr h.start
  have hseq : (d.source p.cid).elim false (fun s => seqFails s.seq p.seq) = false := by
    cases hsource : d.source p.cid with
    | none => rfl
    | some x => exact h.seq x hsource
  simp [RxDyn.refuses, h.preview, hzero, hempty, hseq, h.priority, h.length]

theorem RxDyn.refuses_of_malformed
    (h : p.preview = true ∨ p.props.head? ≠ some 0 ∨ 200 < p.priority ∨ 513 < p.props.length) : d.refuses p = true := by
  rw [← Bool.not_eq_false]
  intro hno
  simp only [RxDyn.refuses, Bool.or_eq_false_iff, decide_eq_false_iff_not, bne_eq_false_iff_eq, Nat.not_lt] at hno
  obtain ⟨⟨⟨⟨⟨hpreview, hzero⟩, hprio⟩, hempty⟩, hlen⟩, -⟩ := hno
  have hstart := startCode_eq_zero_iff.mp ⟨hzero, hempty⟩
  rcases h with h | h | h | h
  · exact absurd h (by simp [hpreview])
  · exact h hstart
  · omega
  · omega

/-- A packet that the test refuses is counted as discarded. -/
theorem RxDyn.dataPacket_of_refused (h : d.refuses p = true) :
    d.dataPacket r p syncLost now pos = ({ d with counts := { d.counts with discarded := d.counts.discarded + 1 } }, []) :=
  if_pos h

/-- A fifth source is refused, with SACN_SOURCE_LIMIT (R247). -/
theorem RxDyn.dataPacket_of_fifth (h : d.refuses p = false) (hnew : d.source p.cid = none) (hfull : 4 ≤ d.sources.length) :
    d.dataPacket r p syncLost now pos = ({ d with counts := { d.counts with
      discarded := d.counts.discarded + 1, repeats := d.counts.repeats + 1 } }, [srcSacnLimit]) := by
  have hlimit : ((d.source p.cid).isNone && decide (4 ≤ d.sources.length)) = true := by simp [hnew, hfull]
  exact (if_neg (Bool.eq_false_iff.mp h)).trans (if_pos hlimit)

/-- The universe that has accepted a packet, before its source changes. -/
def RxDyn.accepting (d : RxDyn) (cid : Nat) : RxDyn :=
  { d with counts := { d.counts with accepted := d.counts.accepted + 1 }, lost := d.lost && (d.source cid).isSome }

/-- The source of a packet that arrives, before its values count. -/
def RxDyn.arriving (d : RxDyn) (r : RxDef) (p : SacnData) (now : Nat) : RxSource :=
  { (d.source p.cid).getD ⟨p.cid, 0, 0, [], false, 0, none, 0, false⟩ with
    seq := p.seq, lastAt := now, sync := if p.sync != 0 && p.sync == r.sync then p.sync else 0, force := p.force }

theorem RxDyn.arriving_cid (d : RxDyn) (r : RxDef) (p : SacnData) (now : Nat) : (d.arriving r p now).cid = p.cid := by
  cases h : d.source p.cid with
  | none => simp only [RxDyn.arriving, h, Option.getD_none]
  | some x => simpa only [RxDyn.arriving, h, Option.getD_some] using RxDyn.source_cid h

/-- The source with the packet held for its synchronisation address. -/
def RxDyn.holding (d : RxDyn) (r : RxDef) (p : SacnData) (now : Nat) : RxSource :=
  { d.arriving r p now with held := some ⟨p.priority, p.props.drop 1, p.sync, p.force⟩ }

/-- The source with the values of the packet. -/
def RxDyn.stamping (d : RxDyn) (r : RxDef) (p : SacnData) (now : Nat) : RxSource :=
  { d.arriving r p now with priority := p.priority, values := p.props.drop 1, stamped := true, held := none }

theorem RxDyn.holding_cid (d : RxDyn) (r : RxDef) (p : SacnData) (now : Nat) : (d.holding r p now).cid = p.cid := d.arriving_cid r p now

theorem RxDyn.stamping_cid (d : RxDyn) (r : RxDef) (p : SacnData) (now : Nat) : (d.stamping r p now).cid = p.cid := d.arriving_cid r p now

/-- While its packet is held, a source keeps the values that it had. -/
theorem RxDyn.holding_values (d : RxDyn) (r : RxDef) (p : SacnData) (now : Nat) :
    ((d.holding r p now).values, (d.holding r p now).priority, (d.holding r p now).stamped)
      = (d.source p.cid).elim ([], 0, false) fun y => (y.values, y.priority, y.stamped) := by
  cases h : d.source p.cid <;> simp only [RxDyn.holding, RxDyn.arriving, h] <;> rfl

/-- An accepted packet is held for its synchronisation address (R249), or stamps its source (R246, R247). -/
theorem RxDyn.dataPacket_of_taken (h : d.Takes p) (hroom : (d.source p.cid).isSome = true ∨ d.sources.length < 4)
    (hgoes : p.terminated = false) :
    d.dataPacket r p syncLost now pos =
      if (p.sync != 0 && p.sync == r.sync) && !(syncLost && !p.force) then ((d.accepting p.cid).putSource (d.holding r p now), [])
      else
        ({ (d.accepting p.cid).putSource (d.stamping r p now) with seen := true, lost := false, lastPos := pos, lastAt := now }, []) := by
  have hlimit : ((d.source p.cid).isNone && decide (4 ≤ d.sources.length)) = false := by
    rcases hroom with hsome | hfew
    · simp [Option.isSome_iff_ne_none.mp hsome]
    · simp [Nat.not_le.mpr hfew]
  refine (if_neg (Bool.eq_false_iff.mp h.refuses_eq_false)).trans ((if_neg (Bool.eq_false_iff.mp hlimit)).trans ?_)
  exact if_neg (Bool.eq_false_iff.mp hgoes)

end DataPacket

section SacnDataRx

variable {dt : Nat} {packet : SacnData} {r : RxDef} {s : State}

/-- A packet of a universe that receives on this way changes that universe alone, and the address that it waits for. -/
theorem State.sacnData_of_receiving (hnamed : s.txn.view.inputs.sacn.find packet.uni = some r)
    (hport : s.sacnPortOk r packet.port packet.unicast packet.v6 = true) {d : RxDyn} {raised : List Nat}
    (hpacket : (s.inputs.sacn.getD packet.uni {}).dataPacket r packet (s.inputs.syncLost packet.sync) s.now s.pos = (d, raised)) :
    ∃ sync, s.sacnData packet = s.withInputs { s.inputs with sacn := s.inputs.sacn.put packet.uni d, sync := sync } raised := by
  simp only [State.sacnData, hnamed, hport, hpacket, Bool.not_true, Bool.false_eq_true, if_false]
  exact ⟨_, rfl⟩

/-- SACN_DATA_RX leaves the universe as the packet makes it. -/
theorem runs_sacnDataRx (hnamed : s.txn.view.inputs.sacn.find packet.uni = some r)
    (hport : (s.tick dt).sacnPortOk r packet.port packet.unicast packet.v6 = true) {d : RxDyn} {raised : List Nat}
    (hpacket : (s.inputs.sacn.getD packet.uni {}).dataPacket r packet (s.inputs.syncLost packet.sync) (s.tick dt).now (s.tick dt).pos
      = (d, raised)) {P : State → Prop} (hp : ∀ t : State, t.inputs.sacn.getD packet.uni {} = d → s.KeepsShow t → P t) :
    Runs (.sacnDataRx dt packet) s P := by
  obtain ⟨sync, hdata⟩ := State.sacnData_of_receiving (s := s.tick dt) hnamed hport hpacket
  refine runs_of_withInputs (next_settle_congr hdata) fun t ht hkeeps _ => hp t ?_ hkeeps
  rw [ht]
  exact Map.getD_put_self _ _ _ _

/-- An accepted packet that is not held stamps its source. -/
theorem runs_sacnDataRx_of_stamped (hnamed : s.txn.view.inputs.sacn.find packet.uni = some r)
    (hport : (s.tick dt).sacnPortOk r packet.port packet.unicast packet.v6 = true)
    (htakes : (s.inputs.sacn.getD packet.uni {}).Takes packet) (hgoes : packet.terminated = false)
    (hfree : packet.sync = 0 ∨ packet.sync ≠ r.sync)
    (hroom : ((s.inputs.sacn.getD packet.uni {}).source packet.cid).isSome = true
      ∨ (s.inputs.sacn.getD packet.uni {}).sources.length < 4) :
    Runs (.sacnDataRx dt packet) s fun t =>
      ((t.inputs.sacn.getD packet.uni {}).source packet.cid).map (fun y => (y.values, y.priority, y.stamped, y.seq, y.lastAt))
          = some (packet.props.drop 1, packet.priority, true, packet.seq, (s.tick dt).now)
        ∧ (t.inputs.sacn.getD packet.uni {}).counts.accepted = (s.inputs.sacn.getD packet.uni {}).counts.accepted + 1
        ∧ (t.inputs.sacn.getD packet.uni {}).seen = true ∧ (t.inputs.sacn.getD packet.uni {}).lost = false
        ∧ (t.inputs.sacn.getD packet.uni {}).lastPos = (s.tick dt).pos ∧ s.KeepsShow t := by
  have hunheld : ((packet.sync != 0 && packet.sync == r.sync) && !(s.inputs.syncLost packet.sync && !packet.force)) ≠ true := by
    rcases hfree with h | h <;> simp [h]
  refine runs_sacnDataRx hnamed hport ((RxDyn.dataPacket_of_taken htakes hroom hgoes).trans (if_neg hunheld)) fun t ht hkeeps => ?_
  rw [ht]
  exact ⟨congrArg (Option.map _) (RxDyn.source_putSource (RxDyn.stamping_cid _ r packet _) _), rfl, rfl, rfl, rfl, hkeeps⟩

/-- An accepted packet with the synchronisation address of its universe is held, and its source keeps its values. -/
theorem runs_sacnDataRx_of_held (hnamed : s.txn.view.inputs.sacn.find packet.uni = some r)
    (hport : (s.tick dt).sacnPortOk r packet.port packet.unicast packet.v6 = true)
    (htakes : (s.inputs.sacn.getD packet.uni {}).Takes packet) (hgoes : packet.terminated = false)
    (hsync : packet.sync ≠ 0) (hnames : packet.sync = r.sync) (halive : s.inputs.syncLost packet.sync = false)
    (hroom : ((s.inputs.sacn.getD packet.uni {}).source packet.cid).isSome = true
      ∨ (s.inputs.sacn.getD packet.uni {}).sources.length < 4) :
    Runs (.sacnDataRx dt packet) s fun t =>
      (((t.inputs.sacn.getD packet.uni {}).source packet.cid).bind (·.held)).map (fun y => (y.values, y.priority, y.sync))
          = some (packet.props.drop 1, packet.priority, packet.sync)
        ∧ ((t.inputs.sacn.getD packet.uni {}).source packet.cid).map (fun y => (y.values, y.priority, y.stamped))
          = some (((s.inputs.sacn.getD packet.uni {}).source packet.cid).elim ([], 0, false) fun y => (y.values, y.priority, y.stamped))
        ∧ s.KeepsShow t := by
  have hheld : ((packet.sync != 0 && packet.sync == r.sync) && !(s.inputs.syncLost packet.sync && !packet.force)) = true := by
    simp [hnames ▸ hsync, hnames, hnames ▸ halive]
  refine runs_sacnDataRx hnamed hport ((RxDyn.dataPacket_of_taken htakes hroom hgoes).trans (if_pos hheld)) fun t ht hkeeps => ?_
  rw [ht, RxDyn.source_putSource (RxDyn.holding_cid _ r packet _)]
  exact ⟨rfl, congrArg some (RxDyn.holding_values _ r packet _), hkeeps⟩

end SacnDataRx

/-! ### Synchronisation packets (R249) -/

section SacnSyncRx

variable {dt port cid : Nat} {packet : SacnSync} {s : State}

/-- A synchronisation packet of no address, or of one that no universe names on this way, changes nothing. -/
theorem State.sacnSync_of_not_named (h : packet.addr = 0
    ∨ (s.txn.view.inputs.sacn.any fun e => e.2.sync == packet.addr && s.sacnPortOk e.2 port packet.unicast packet.v6) = false) :
    s.sacnSync port cid packet = s := by
  refine if_pos ?_
  rcases h with h | h <;> simp [h]

/-- A synchronisation packet of an address that a universe names keeps the address alive, and releases what waits for it. -/
theorem State.sacnSync_of_named (hzero : packet.addr ≠ 0)
    (hnamed : (s.txn.view.inputs.sacn.any fun e => e.2.sync == packet.addr && s.sacnPortOk e.2 port packet.unicast packet.v6) = true) :
    s.sacnSync port cid packet = s.withInputs (s.inputs.syncPacket
      (fun k => (s.txn.view.inputs.sacn.find k).elim false fun d => s.sacnPortOk d port packet.unicast packet.v6)
      cid packet.addr s.now s.pos) [] := by
  refine if_neg ?_
  simp only [hzero, hnamed, decide_false, Bool.not_true, Bool.or_self, Bool.false_eq_true, not_false_eq_true]

end SacnSyncRx

/-- A packet that is held for an address becomes the value of its source. -/
theorem RxDyn.source_release {d : RxDyn} {x y addr cid : Nat} {z : RxSource} {h : HeldPacket} (hsource : d.source cid = some z)
    (hheld : z.held = some h) (hsync : h.sync = addr) : (d.release cid addr x y).source cid
      = some { z with priority := h.priority, values := h.values, stamped := true, held := none } := by
  have hcid : z.cid = cid := RxDyn.source_cid hsource
  simp only [RxDyn.release, hsource, hheld, hsync, if_true]
  exact RxDyn.source_putSource (x := { z with priority := h.priority, values := h.values, stamped := true, held := none }) hcid d

/-! ### Silence (R247, R249) -/

theorem State.sacnSourceTimeout_of_silent {s : State} {uni cid : Nat} {x : RxSource}
    (hsource : (s.inputs.sacn.getD uni {}).source cid = some x) (hsilent : x.lastAt + lossCycles ≤ s.now) :
    s.sacnSourceTimeout uni cid = s.withInputs { s.inputs with
      sacn := s.inputs.sacn.put uni ((s.inputs.sacn.getD uni {}).endSource cid s.pos) } [srcSacnLost] := by
  refine if_pos ?_
  rw [hsource, Option.elim_some]
  exact decide_eq_true hsilent

theorem State.sacnSourceTimeout_of_not_due {s : State} {uni cid : Nat}
    (h : ∀ x, (s.inputs.sacn.getD uni {}).source cid = some x → s.now < x.lastAt + lossCycles) : s.sacnSourceTimeout uni cid = s := by
  refine if_neg (Bool.eq_false_iff.mp ?_)
  cases hsource : (s.inputs.sacn.getD uni {}).source cid with
  | none => rfl
  | some x =>
    rw [Option.elim_some]
    exact decide_eq_false (Nat.not_le.mpr (h x hsource))

theorem State.sacnSyncTimeout_of_silent {s : State} {addr : Nat} {x : SyncDyn} (hfind : s.inputs.sync.find addr = some x)
    (halive : x.lost = false) (hsilent : x.lastAt + lossCycles ≤ s.now) :
    s.sacnSyncTimeout addr = s.withInputs (s.inputs.loseSync addr s.now) [srcSacnSync] := by
  refine if_pos ?_
  rw [hfind, Option.elim_some, halive, Bool.not_false, Bool.true_and]
  exact decide_eq_true hsilent

theorem State.sacnSyncTimeout_of_not_due {s : State} {addr : Nat}
    (h : ∀ x, s.inputs.sync.find addr = some x → x.lost = true ∨ s.now < x.lastAt + lossCycles) : s.sacnSyncTimeout addr = s := by
  refine if_neg (Bool.eq_false_iff.mp ?_)
  cases hfind : s.inputs.sync.find addr with
  | none => rfl
  | some x =>
    rw [Option.elim_some, Bool.and_eq_false_iff]
    exact (h x hfind).imp (congrArg not) fun hearly => decide_eq_false (Nat.not_le.mpr hearly)

/-! ### The statement -/

/-- Settles O42: what a universe becomes with each packet, held or stamped or refused, and what ends with silence. -/
theorem liveValuesAndSacn : Obligations.LiveValuesAndSacn := by
  refine ⟨fun dt m s t e c p h hfits => ?live, fun l p x => rfl,
    fun dt packet r s hnamed hport hpreview hstart hprio hlen hgoes hseq =>
      runs_sacnDataRx_of_stamped hnamed hport ⟨hpreview, hstart, hprio, hlen, hseq⟩ hgoes,
    fun dt packet r s hnamed hport hpreview hstart hprio hlen hgoes hseq =>
      runs_sacnDataRx_of_held hnamed hport ⟨hpreview, hstart, hprio, hlen, hseq⟩ hgoes,
    fun dt packet r s hnamed hport hbad => ?malformed,
    fun dt packet r s hnamed hport hpreview hstart hprio hlen hnew hfull => ?fifth,
    fun dt packet s hnone => next_settle_congr ?unnamed,
    fun dt port cid packet s hzero hnamed => ?sync,
    fun dt port cid packet s h => next_settle_congr (State.sacnSync_of_not_named (s := s.tick dt) h),
    fun d x y addr cid z h => RxDyn.source_release,
    fun dt uni cid x s hsource hsilent => next_settle_congr (State.sacnSourceTimeout_of_silent (s := s.tick dt) hsource hsilent),
    fun dt uni cid s h => next_settle_congr (State.sacnSourceTimeout_of_not_due (s := s.tick dt) h),
    fun dt addr x s hfind halive hsilent => ?lost,
    fun dt addr s h => next_settle_congr (State.sacnSyncTimeout_of_not_due (s := s.tick dt) h)⟩
  case live =>
    obtain ⟨-, -, -, rfl⟩ := running_state h
    exact running_act h (if_neg (Nat.not_lt.mpr hfits))
  case malformed =>
    refine runs_sacnDataRx hnamed hport (RxDyn.dataPacket_of_refused (RxDyn.refuses_of_malformed hbad)) fun t ht hkeeps => ?_
    rw [ht]
    exact ⟨rfl, rfl, hkeeps⟩
  case fifth =>
    have htakes : (s.inputs.sacn.getD packet.uni {}).Takes packet :=
      ⟨hpreview, hstart, hprio, hlen, fun x hx => nomatch hnew.symm.trans hx⟩
    refine runs_sacnDataRx hnamed hport (RxDyn.dataPacket_of_fifth htakes.refuses_eq_false hnew hfull) fun t ht hkeeps => ?_
    rw [ht]
    exact ⟨rfl, rfl, hkeeps⟩
  case unnamed => simp only [State.sacnData, State.tick_txn, hnone]
  case sync =>
    refine runs_of_withInputs (next_settle_congr (State.sacnSync_of_named (s := s.tick dt) hzero hnamed)) fun t ht hkeeps _ => ?_
    rw [ht]
    exact ⟨Map.find_put_self _ _ _, rfl, hkeeps⟩
  case lost =>
    refine runs_of_withInputs (next_settle_congr (State.sacnSyncTimeout_of_silent (s := s.tick dt) hfind halive hsilent))
      fun t ht hkeeps _ => ?_
    rw [ht]
    refine ⟨(Map.find_put_self _ _ _).trans ?_, hkeeps⟩
    rw [State.tick_inputs, hfind]
    rfl

end Sys2Proof.Machine
end

section
/-!
PROOFS. DMX and video inputs (R250, R251, R254, R255, R257, R258, R361): packets, and inputs that fall silent.
-/

namespace Sys2Proof.Machine

/-! ### What stands -/

theorem State.KeepsUnits.trans {s t u : State} (h : s.KeepsUnits t) (h' : t.KeepsUnits u) : s.KeepsUnits u := by
  obtain ⟨hclock, htxn, hmeter, hfns⟩ := h
  obtain ⟨hclock', htxn', hmeter', hfns'⟩ := h'
  exact ⟨hclock'.trans hclock, htxn'.trans htxn, hmeter'.trans hmeter, hfns'.trans hfns⟩

theorem State.settle_keepsUnits (s : State) : s.KeepsUnits s.settle :=
  ⟨s.settle_clock, s.settle_txn, s.settle_meter, s.settle_fns⟩

theorem State.withInputs_keepsUnits (s : State) (x : InputState) (raised : List Nat) : s.KeepsUnits (s.withInputs x raised) := by
  simp only [State.KeepsUnits, State.withInputs_frame, and_self]

/-! ### DMX packets (R250, R251, R361) -/

section Dmx

variable {s : State} {k start : Nat} {slots : Bytes} {line : DmxLine}

@[simp] theorem State.dmxInCount_now (s : State) (k : Nat) (framing : Bool) : (s.dmxInCount k framing).now = s.now := by
  unfold State.dmxInCount
  split <;> rfl

@[simp] theorem State.dmxInCount_pos (s : State) (k : Nat) (framing : Bool) : (s.dmxInCount k framing).pos = s.pos := by
  unfold State.dmxInCount
  split <;> rfl

@[simp] theorem State.dmxInCount_dmxInOn (s : State) (k j : Nat) (framing : Bool) : (s.dmxInCount k framing).dmxInOn j = s.dmxInOn j := by
  unfold State.dmxInCount
  split <;> rfl

theorem State.dmxInOn_iff : s.dmxInOn k = true
    ↔ s.enabled 4 k = true ∧ s.txn.view.inputs.dmxIn.has k = true ∧ (s.txn.view.ports.dmx.getD k {}).input = true := by
  simp only [State.dmxInOn, Bool.and_eq_true, and_assoc]

theorem DmxLine.accepted_iff : line.accepted = true
    ↔ 88000 ≤ line.breakNs ∧ 8000 ≤ line.mabNs ∧ 245000 ≤ line.bitRate ∧ line.bitRate ≤ 255000 := by
  simp only [DmxLine.accepted, Bool.and_eq_true, decide_eq_true_iff, and_assoc]

/-- A packet whose line the port accepts reaches the input, where it is on. -/
theorem State.dmxInPacket_of_on (hline : line.accepted = true) (hon : s.dmxInOn k = true) :
    s.dmxInPacket k start slots line = { s.dmxInCount k line.framing with inputs := { s.inputs with
      dmx := s.inputs.dmx.put k ((s.inputs.dmx.getD k {}).dmxPacket start slots s.now s.pos) } } := by
  simp only [State.dmxInPacket, hline, State.dmxInCount_dmxInOn, hon, Bool.not_true, Bool.false_eq_true, if_false, Map.upd_def,
    State.dmxInCount_frame, State.dmxInCount_now, State.dmxInCount_pos]

/-- A packet on a port that is not ENABLED, or on a line that the port does not accept, changes nothing. -/
theorem State.dmxInPacket_of_refused (h : s.enabled 4 k = false ∨ line.breakNs < 88000 ∨ line.mabNs < 8000 ∨ line.bitRate < 245000
    ∨ 255000 < line.bitRate) : s.dmxInPacket k start slots line = s := by
  cases hline : line.accepted with
  | false => simp only [State.dmxInPacket, hline, Bool.not_false, if_true]
  | true =>
    have hoff : s.enabled 4 k = false := by
      obtain ⟨hbreak, hmab, hlow, hhigh⟩ := DmxLine.accepted_iff.mp hline
      rcases h with h | h | h | h | h
      · exact h
      all_goals omega
    have hcount : s.dmxInCount k line.framing = s := by
      simp only [State.dmxInCount, hoff, Bool.false_and, Bool.not_false, if_true]
    have hinput : s.dmxInOn k = false := by simp only [State.dmxInOn, hoff, Bool.false_and]
    simp only [State.dmxInPacket, hline, hcount, hinput, Bool.not_true, Bool.not_false, Bool.false_eq_true, if_false, if_true]

/-- A packet at an input that is on leaves the input as the packet makes it. -/
theorem runs_dmxInPacket {dt : Nat} {P : State → Prop} (hbreak : 88000 ≤ line.breakNs) (hmab : 8000 ≤ line.mabNs)
    (hlow : 245000 ≤ line.bitRate) (hhigh : line.bitRate ≤ 255000) (henabled : s.enabled 4 k = true)
    (hbound : s.txn.view.inputs.dmxIn.has k = true) (hinput : (s.txn.view.ports.dmx.getD k {}).input = true)
    (hp : ∀ t : State, t.inputs.dmx.getD k {} = (s.inputs.dmx.getD k {}).dmxPacket start slots (s.tick dt).now (s.tick dt).pos →
      s.KeepsUnits t → P t) : Runs (.dmxInPacket dt k start slots line) s P := by
  have hpacket := State.dmxInPacket_of_on (s := s.tick dt) (start := start) (slots := slots)
    (DmxLine.accepted_iff.mpr ⟨hbreak, hmab, hlow, hhigh⟩) (State.dmxInOn_iff.mpr ⟨henabled, hbound, hinput⟩)
  refine ⟨_, next_settle_congr hpacket, hp _ ?_ (.trans ?_ (State.settle_keepsUnits _))⟩
  · rw [State.settle_inputs]
    exact Map.getD_put_self _ _ _ _
  · simp only [State.KeepsUnits, State.dmxInCount_frame, State.tick_clock, State.tick_txn, State.tick_meter, State.tick_fns, and_self]

/-- An input that has been silent for 1,250 ms is lost. -/
theorem State.dmxInTimeout_of_silent (hon : s.dmxInOn k = true) (halive : (s.inputs.dmx.getD k {}).lost = false)
    (hsilent : (s.inputs.dmx.getD k {}).lastAt + dmxLossCycles ≤ s.now) :
    s.dmxInTimeout k = s.withInputs { s.inputs with dmx := s.inputs.dmx.put k { s.inputs.dmx.getD k {} with
      lost := true
      counts := { (s.inputs.dmx.getD k {}).counts with losses := (s.inputs.dmx.getD k {}).counts.losses + 1 } } } [srcDmxLost] := by
  refine if_pos ?_
  rw [hon, halive, Bool.not_false, Bool.true_and, Bool.true_and]
  exact decide_eq_true hsilent

theorem State.dmxInTimeout_of_not_due (h : s.dmxInOn k = false ∨ (s.inputs.dmx.getD k {}).lost = true
    ∨ s.now < (s.inputs.dmx.getD k {}).lastAt + dmxLossCycles) : s.dmxInTimeout k = s := by
  refine if_neg ?_
  rw [Bool.and_eq_true, Bool.and_eq_true, decide_eq_true_iff, Bool.not_eq_true']
  rintro ⟨⟨hon, halive⟩, hsilent⟩
  rcases h with h | h | h
  · exact Bool.false_ne_true (h.symm.trans hon)
  · exact Bool.false_ne_true (halive.symm.trans h)
  · exact Nat.not_le.mpr h hsilent

end Dmx

/-! ### Slices that a video packet opens (R257) -/

/-- What opening slices may change at input `i`: the count of lost lines. -/
structure State.SlicesFed (i : Nat) (s t : State) : Prop where
  units : s.KeepsUnits t
  video : ∃ n, t.video i = { s.video i with counts := { (s.video i).counts with incomplete := n } }

namespace State.SlicesFed

variable {i : Nat} {s t u : State}

theorem of_inputs (hinputs : t.inputs = s.inputs) (hunits : s.KeepsUnits t) : s.SlicesFed i t :=
  ⟨hunits, _, by rw [State.video, hinputs]; rfl⟩

theorem refl (s : State) : s.SlicesFed i s := of_inputs rfl ⟨rfl, rfl, rfl, rfl⟩

theorem trans (h : s.SlicesFed i t) (h' : t.SlicesFed i u) : s.SlicesFed i u := by
  obtain ⟨hunits, n, hvideo⟩ := h
  obtain ⟨hunits', n', hvideo'⟩ := h'
  exact ⟨hunits.trans hunits', n', by rw [hvideo', hvideo]⟩

theorem foldl {β : Type} {f : State → β → State} (hf : ∀ (s : State) b, s.SlicesFed i (f s b)) (l : List β) (s : State) :
    s.SlicesFed i (l.foldl f s) := by
  induction l generalizing s with
  | nil => exact refl s
  | cons b l ih => exact (hf s b).trans (ih _)

end State.SlicesFed

section Slices

variable {i : Nat}

@[simp] theorem State.setVideo_video (s : State) (i : Nat) (r : VideoDyn × List Nat) : (s.setVideo i r).video i = r.1 := by
  rw [State.video, State.setVideo, State.withInputs_inputs, Map.getD_put_self]

theorem State.sliceLost_slicesFed (s : State) (i : Nat) : s.SlicesFed i (s.sliceLost i) :=
  ⟨by simp only [State.KeepsUnits, State.sliceLost_frame, and_self], _, State.setVideo_video _ _ _⟩

/-- A slice whose line is lost repeats, and counts at the input. -/
theorem State.lostSlice_slicesFed (s : State) (r : FrameRec) (n k : Nat) (c : Canvas) (j : Nat) :
    s.SlicesFed i ((((s.repeatSlice r k c j).1).sliceLost i).slicesOver n k c) := by
  have hrepeat : s.SlicesFed i (s.repeatSlice r k c j).1 :=
    .of_inputs (by simp only [State.repeatSlice_frame]) (by simp only [State.KeepsUnits, State.repeatSlice_frame, and_self])
  exact (hrepeat.trans (State.sliceLost_slicesFed _ i)).trans
    (.of_inputs (by simp only [State.slicesOver_frame]) (by simp only [State.KeepsUnits, State.slicesOver_frame, and_self]))

theorem State.setFrame_slicesFed (s : State) (r : FrameRec) : s.SlicesFed i (s.setFrame r) :=
  .of_inputs rfl ⟨rfl, rfl, rfl, rfl⟩

theorem State.openSlice_slicesFed {m : SliceMode} (hm : m.input = i) (s : State) (n k : Nat) (c : Canvas) (cfg : Bytes) (f : VideoFrame)
    (ended : Bool) (j : Nat) : s.SlicesFed i (s.openSlice n k c m cfg f ended j) := by
  subst hm
  unfold State.openSlice
  split
  · exact .refl s
  · dsimp only
    split
    · exact .refl s
    · split
      · split
        · exact State.setFrame_slicesFed s _
        · exact State.lostSlice_slicesFed s _ n k c j
      · split
        · exact State.lostSlice_slicesFed s _ n k c j
        · exact .refl s

theorem State.openFirst_slicesFed (s : State) (r : FrameRec) (k : Nat) (c : Canvas) (f : VideoFrame) :
    s.SlicesFed i (s.openFirst r k c f) :=
  .of_inputs (by simp only [State.openFirst_frame]) (by simp only [State.KeepsUnits, State.openFirst_frame, and_self])

theorem State.feedSlices_slicesFed (s : State) (i : Nat) (cfg : Bytes) (before f : VideoFrame) (ended : Bool) (n k : Nat) :
    s.SlicesFed i (s.feedSlices i cfg before f ended n k) := by
  unfold State.feedSlices
  split
  · exact .refl s
  · split
    · next c m _ _ =>
      split
      · exact .refl s
      · next hgo =>
        have hm : m.input = i := by
          rw [Bool.not_eq_true, Bool.or_eq_false_iff, Bool.or_eq_false_iff] at hgo
          obtain ⟨⟨hinput, -⟩, -⟩ := hgo
          exact bne_eq_false_iff_eq.mp hinput
        extract_lets line0 first u
        have hu : s.SlicesFed i u := by
          show s.SlicesFed i (if first then _ else s)
          split
          · exact State.openFirst_slicesFed s _ k c f
          · exact .refl s
        refine hu.trans ?_
        split
        · exact .refl u
        · split
          · exact .refl u
          · exact (State.setFrame_slicesFed u _).trans
              (.foldl (fun v j => State.openSlice_slicesFed hm v n k c cfg f ended j) _ _)
    · exact .refl s

theorem State.feedAll_slicesFed (s : State) (i : Nat) (cfg : Bytes) (before f : VideoFrame) (ended : Bool) :
    s.SlicesFed i (s.feedAll i cfg before f ended) :=
  .foldl (fun t n => .foldl (fun u k => State.feedSlices_slicesFed u i cfg before f ended n k) _ t) _ s

theorem State.SlicesFed.feedUnless {s t : State} (h : s.SlicesFed i t) (b : Bool) (cfg : Bytes) (before f : VideoFrame) (ended : Bool) :
    s.SlicesFed i (if b then t else t.feedAll i cfg before f ended) := by
  split
  · exact h
  · exact h.trans (State.feedAll_slicesFed t i cfg before f ended)

end Slices

/-! ### Video packets (R254, R255) -/

section Video

variable {d : VideoDyn} {f : VideoFrame} {cfg : Bytes} {p : VideoPacket} {busy : Nat} {at_ : Instant} {now : Nat} {pos : Pos}

/-- Segments are stored whatever the last sequence number was. -/
theorem VideoFrame.foldl_store_with (segs : List VideoSeg) (f : VideoFrame) (seq : Nat) (gap : Bool) :
    segs.foldl (fun f x => f.store cfg at_ x) { f with seq := seq, gap := gap }
      = { segs.foldl (fun f x => f.store cfg at_ x) f with seq := seq, gap := gap } := by
  induction segs generalizing f with
  | nil => rfl
  | cons x segs ih => exact ih (f.store cfg at_ x)

theorem VideoFrame.foldl_store_id (segs : List VideoSeg) (f : VideoFrame) :
    (segs.foldl (fun f x => f.store cfg at_ x) f).id = f.id := by
  induction segs generalizing f with
  | nil => rfl
  | cons x segs ih => exact ih (f.store cfg at_ x)

theorem VideoDyn.overtaken_of_same (hcurrent : d.current = some f) (hrtp : f.rtp = p.rtp) : d.overtaken p = false := by
  simp [VideoDyn.overtaken, hcurrent, hrtp]

/-- The frame that is being received, with the segments of the packet. -/
theorem VideoDyn.grown_of_same (hcurrent : d.current = some f) (hrtp : f.rtp = p.rtp) :
    (d.grown cfg p at_).2 = { p.segs.foldl (fun f x => f.store cfg at_ x) f with
      seq := p.seq % 65536, gap := f.gap || (f.seq + 1) % 65536 != p.seq % 65536 } := by
  simp only [VideoDyn.grown, VideoDyn.overtaken_of_same hcurrent hrtp, hcurrent, Bool.false_eq_true, if_false, Option.getD_some]
  exact VideoFrame.foldl_store_with _ _ _ _

theorem VideoPacket.fits_iff : p.fits cfg = true
    ↔ p.sampling = vidSampling cfg ∧ p.field = false ∧ p.segs.length ≤ 3 ∧ p.segs.all (segFits cfg) = true := by
  simp only [VideoPacket.fits, Bool.and_eq_true, beq_iff_eq, Bool.not_eq_true', decide_eq_true_iff, and_assoc]

/-- A packet of the frame that is being received: the frame goes on, or the marker ends it. -/
theorem VideoDyn.packet_of_same (hfits : p.fits cfg = true) (hdrop : d.dropping ≠ some p.rtp) (hcurrent : d.current = some f)
    (hrtp : f.rtp = p.rtp) (hgap : p.marker = true → (d.grown cfg p at_).2.gap = false) :
    d.packet cfg p busy at_ now pos = (if p.marker then
      { d with
        lastPacket := now, seen := true, dropping := none, current := none
        complete := d.complete ++ [{ (d.grown cfg p at_).2 with completeAt := some at_ }], lost := false, lastPos := pos
        counts := { d.counts with accepted := d.counts.accepted + 1 } }
      else { d with lastPacket := now, seen := true, dropping := none, current := some (d.grown cfg p at_).2 }, []) := by
  have hon : ({ d with lastPacket := now, seen := true } : VideoDyn).overtaken p = false := VideoDyn.overtaken_of_same hcurrent hrtp
  have hgrown : ({ d with lastPacket := now, seen := true } : VideoDyn).grown cfg p at_ = d.grown cfg p at_ := rfl
  have hdrop' : (d.dropping == some p.rtp) = false := beq_eq_false_iff_ne.mpr hdrop
  have hstart : d.current.isNone = false := by rw [hcurrent]; rfl
  simp only [VideoDyn.packet, hfits, hon, hgrown, hdrop', hstart, Bool.not_true, Bool.false_and, Bool.false_eq_true, if_false]
  cases hmarker : p.marker with
  | false => rfl
  | true => simp only [hgap hmarker, Bool.not_true, Bool.false_eq_true, if_false, if_true]

end Video

section VideoPacketRx

variable {dt input : Nat} {packet : VideoPacket} {cfg : Bytes} {s : State}

/-- The frame that a packet overtakes ends, and its slices with it. -/
theorem State.overtaken_slicesFed (d : VideoDyn) (s : State) :
    s.SlicesFed input (if d.overtaken packet then d.current.elim s fun f => s.feedAll input cfg f f true else s) := by
  split
  · cases d.current with
    | none => exact .refl s
    | some f => exact State.feedAll_slicesFed s input cfg f f true
  · exact .refl s

/-- A packet of the stream changes its input, and then only slices open. -/
theorem State.videoPacketRx_slicesFed (htakes : s.videoTakes input packet = some cfg) :
    (s.videoPacket input packet).SlicesFed input (s.videoPacketRx input packet) := by
  have hover := State.overtaken_slicesFed (input := input) (packet := packet) (cfg := cfg) (s.video input) (s.videoPacket input packet)
  simp only [State.videoPacketRx, htakes]
  split
  · exact .refl _
  · exact hover.feedUnless _ _ _ _ _

/-- VIDEO_PACKET_RX leaves its input as the packet makes it, but for the count of lost lines. -/
theorem runs_videoPacketRx (htakes : (s.tick dt).videoTakes input packet = some cfg) {d : VideoDyn} {raised : List Nat}
    (hpacket : ((s.tick dt).video input).packet cfg packet ((s.tick dt).videoBusy input) (s.tick dt).tb (s.tick dt).now (s.tick dt).pos
      = (d, raised)) {P : State → Prop}
    (hp : ∀ (t : State) (n : Word), t.inputs.video.getD input {} = { d with counts := { d.counts with incomplete := n } } →
      s.KeepsUnits t → P t) :
    Runs (.videoPacketRx dt input packet) s P := by
  obtain ⟨hfed, n, hvideo⟩ := State.videoPacketRx_slicesFed htakes
  have hset : (s.tick dt).videoPacket input packet = (s.tick dt).setVideo input (d, raised) := by
    simp only [State.videoPacket, htakes, hpacket]
  rw [hset] at hfed hvideo
  rw [State.setVideo_video] at hvideo
  have hkeeps : (s.tick dt).KeepsUnits ((s.tick dt).setVideo input (d, raised)) := State.withInputs_keepsUnits _ _ _
  refine ⟨_, rfl, hp _ n ?_ ((hkeeps.trans hfed).trans (State.settle_keepsUnits _))⟩
  rw [State.settle_inputs]
  exact hvideo

/-- A packet in another format is discarded, with VIDEO_FORMAT (R254). -/
theorem State.videoPacketRx_of_other_format (htakes : s.videoTakes input packet = some cfg) (hbad : packet.fits cfg = false) :
    s.videoPacketRx input packet = s.setVideo input ({ s.video input with
      lastPacket := s.now, seen := true
      counts := { (s.video input).counts with discarded := (s.video input).counts.discarded + 1 } }, [srcVideoFormat]) := by
  simp only [State.videoPacketRx, State.videoPacket, htakes, VideoDyn.packet, hbad, Bool.not_false, if_true]

theorem State.videoPacketRx_of_not_taken (h : s.videoTakes input packet = none) : s.videoPacketRx input packet = s := by
  simp only [State.videoPacketRx, h]

end VideoPacketRx

/-! ### Video timeouts (R255, R258) -/

section VideoTimeouts

variable {input : Nat} {cfg : Bytes} {f : VideoFrame} {s : State}

/-- A frame whose marker does not come in time is given up. -/
theorem State.videoFrameTimeout_of_due (hcfg : s.videoCfg input = some cfg) (hcurrent : (s.video input).current = some f)
    (hdue : f.firstAt + s.videoPeriod cfg + usUnits 1000 ≤ s.tb) :
    s.videoFrameTimeout input = (s.setVideo input ({ s.video input with
      current := none, dropping := some f.rtp
      counts := { (s.video input).counts with incomplete := (s.video input).counts.incomplete + 1 } },
      [srcVideoIncomplete])).feedAll input cfg f f true := by
  simp only [State.videoFrameTimeout, hcfg, hcurrent, Int.not_lt.mpr hdue, if_false, VideoDyn.giveUp]

theorem State.videoFrameTimeout_of_no_frame (h : s.videoCfg input = none ∨ (s.video input).current = none) :
    s.videoFrameTimeout input = s := by
  unfold State.videoFrameTimeout
  split
  · next hcfg hcurrent => exact absurd h (by simp [hcfg, hcurrent])
  · rfl

/-- An input that has been silent for four periods is lost. -/
theorem State.videoLoss_of_silent (hcfg : s.videoCfg input = some cfg) (halive : (s.video input).lost = false)
    (hsilent : 4 * (shortestPeriod (vidRate cfg) : Nat) ≤ (s.now - (s.video input).lastPacket) * 131072) :
    s.videoLoss input = s.setVideo input ({ s.video input with
      lost := true, counts := { (s.video input).counts with losses := (s.video input).counts.losses + 1 } }, [srcVideoLost]) := by
  simp only [State.videoLoss, hcfg, halive, hsilent, decide_true, Bool.not_false, Bool.and_self, if_true]

theorem State.videoLoss_of_lost (h : s.videoCfg input = none ∨ (s.video input).lost = true) : s.videoLoss input = s := by
  unfold State.videoLoss
  split
  · rfl
  · next hcfg =>
    have hlost : (s.video input).lost = true := h.resolve_left (by simp [hcfg])
    simp only [hlost, Bool.not_true, Bool.false_and, Bool.false_eq_true, if_false]

end VideoTimeouts

/-! ### The statement -/

/-- Settles O43: what an input becomes with each packet, and what ends with silence. Slices that a video packet opens change nothing of
the input but its count of lost lines. -/
theorem dmxAndVideoInputs : Obligations.DmxAndVideoInputs := by
  refine ⟨fun dt port start slots line s hbreak hmab hlow hhigh hstart henabled hbound hinput => ?dmx,
    fun dt port start slots line s hbreak hmab hlow hhigh hstart henabled hbound hinput => ?otherStart,
    fun dt port start slots line s h => next_settle_congr (State.dmxInPacket_of_refused (s := s.tick dt) h),
    fun dt port s hon halive hsilent => ?dmxLost,
    fun dt port s h => next_settle_congr (State.dmxInTimeout_of_not_due (s := s.tick dt) h),
    fun dt input packet cfg f s htakes hsampling hfield hsegs hall hdrop hcurrent hrtp hgap hseq hmarker => ?marker,
    fun dt input packet cfg f s htakes hsampling hfield hsegs hall hdrop hcurrent hrtp hmarker => ?more,
    fun dt input packet cfg s htakes hbad => next_settle_congr (State.videoPacketRx_of_other_format (s := s.tick dt) htakes ?format),
    fun dt input packet s h => next_settle_congr (State.videoPacketRx_of_not_taken (s := s.tick dt) h),
    fun dt input cfg f s hcfg hcurrent hdue => next_settle_congr (State.videoFrameTimeout_of_due hcfg hcurrent hdue),
    fun dt input s h => next_settle_congr (State.videoFrameTimeout_of_no_frame h),
    fun dt input cfg s hcfg halive hsilent => next_settle_congr (State.videoLoss_of_silent hcfg halive hsilent),
    fun dt input s h => next_settle_congr (State.videoLoss_of_lost h)⟩
  case dmx =>
    subst hstart
    refine runs_dmxInPacket hbreak hmab hlow hhigh henabled hbound hinput fun t ht hkeeps => ?_
    rw [ht]
    exact ⟨rfl, rfl, rfl, rfl, rfl, rfl, hkeeps⟩
  case otherStart =>
    refine runs_dmxInPacket hbreak hmab hlow hhigh henabled hbound hinput fun t ht hkeeps => ?_
    rw [ht, RxDyn.dmxPacket, if_pos (bne_iff_ne.mpr hstart)]
    exact ⟨rfl, rfl, hkeeps⟩
  case dmxLost =>
    refine runs_of_withInputs (next_settle_congr (State.dmxInTimeout_of_silent (s := s.tick dt) hon halive hsilent))
      fun t ht _ hkeeps => ?_
    rw [ht]
    dsimp only
    rw [Map.getD_put_self]
    exact ⟨rfl, rfl, rfl, hkeeps⟩
  case marker =>
    have hwhole : packet.marker = true → (((s.tick dt).video input).grown cfg packet (s.tick dt).tb).2.gap = false := fun _ => by
      rw [VideoDyn.grown_of_same hcurrent hrtp]
      simp only [hgap, hseq, bne_self_eq_false, Bool.or_self]
    have hpacket := VideoDyn.packet_of_same (busy := (s.tick dt).videoBusy input) (now := (s.tick dt).now) (pos := (s.tick dt).pos)
      (VideoPacket.fits_iff.mpr ⟨hsampling, hfield, hsegs, hall⟩) hdrop hcurrent hrtp hwhole
    rw [if_pos hmarker] at hpacket
    refine runs_videoPacketRx htakes hpacket fun t n ht hkeeps => ?_
    rw [ht]
    exact ⟨rfl, List.length_append, rfl, rfl, rfl, rfl, hkeeps⟩
  case more =>
    have hpacket := VideoDyn.packet_of_same (at_ := (s.tick dt).tb) (busy := (s.tick dt).videoBusy input) (now := (s.tick dt).now)
      (pos := (s.tick dt).pos) (VideoPacket.fits_iff.mpr ⟨hsampling, hfield, hsegs, hall⟩) hdrop hcurrent hrtp
      (fun h => absurd (hmarker.symm.trans h) Bool.false_ne_true)
    rw [if_neg (Bool.eq_false_iff.mp hmarker), VideoDyn.grown_of_same hcurrent hrtp] at hpacket
    refine runs_videoPacketRx htakes hpacket fun t n ht hkeeps => ?_
    rw [ht]
    refine ⟨?_, rfl, rfl, hkeeps⟩
    rw [Option.map_some, VideoFrame.foldl_store_id]
  case format =>
    rw [← Bool.not_eq_true, VideoPacket.fits_iff]
    rintro ⟨hsampling, hfield, hsegs, hall⟩
    rcases hbad with h | h | h | h
    · exact h hsampling
    · exact Bool.false_ne_true (hfield.symm.trans h)
    · omega
    · exact Bool.false_ne_true (h.symm.trans hall)

end Sys2Proof.Machine
end

section
/-!
PROOFS. Tasks and the decision (R283, R333, R436, R438, R440 to R445): how tasks become ready, are granted and complete.
-/

namespace Sys2Proof.Machine

/-! ### What counters and the trace leave of the tasks -/

/-- The ready queue, the tasks held, the frames and the wire images stand. -/
structure State.KeepsTasks (s t : State) : Prop where
  ready : t.render.ready = s.render.ready
  held : t.render.held = s.render.held
  frames : t.render.frames = s.render.frames
  slots : t.render.slots = s.render.slots

namespace State.KeepsTasks

variable {s t u : State}

theorem refl (s : State) : s.KeepsTasks s := ⟨rfl, rfl, rfl, rfl⟩

theorem trans (h : s.KeepsTasks t) (h' : t.KeepsTasks u) : s.KeepsTasks u :=
  ⟨h'.ready.trans h.ready, h'.held.trans h.held, h'.frames.trans h.frames, h'.slots.trans h.slots⟩

theorem of_render (h : t.render = s.render) : s.KeepsTasks t := by
  constructor <;> rw [h]

theorem frame (h : s.KeepsTasks t) (n : Nat) : t.frame n = s.frame n := by
  rw [State.frame, h.frames, State.frame]

theorem setFrame (h : s.KeepsTasks t) (r : FrameRec) : (s.setFrame r).KeepsTasks (t.setFrame r) :=
  ⟨h.ready, h.held, congrArg (List.map fun x : FrameRec => if x.n == r.n then r else x) h.frames, h.slots⟩

end State.KeepsTasks

theorem State.setUnit_keepsTasks (s : State) (u : Nat) (x : UnitCounters) : s.KeepsTasks (s.setUnit u x) := ⟨rfl, rfl, rfl, rfl⟩

theorem State.raise_keepsTasks (s : State) (n : Nat) : s.KeepsTasks (s.raise n) := .of_render (s.raise_render n)

theorem State.raiseAll_keepsTasks (s : State) (ns : List Nat) : s.KeepsTasks (s.raiseAll ns) := .of_render (s.raiseAll_render ns)

theorem State.settle_keepsTasks (s : State) : s.KeepsTasks s.settle := .of_render s.settle_render

theorem State.countEvent_keepsTasks (s : State) (u e n : Nat) : s.KeepsTasks (s.countEvent u e n) :=
  (State.setUnit_keepsTasks _ _ _).trans (State.raiseAll_keepsTasks _ _)

theorem State.syncUnit_keepsTasks (s : State) (u : Nat) (forced : Option (Nat × Nat)) : s.KeepsTasks (s.syncUnit u forced) := by
  unfold State.syncUnit
  dsimp only
  split
  · exact State.setUnit_keepsTasks _ _ _
  · exact (KeepsTasks.of_render (s.freshes_frame 40).2.2.2.2.2.1).trans
      ((State.setUnit_keepsTasks _ _ _).trans (State.raiseAll_keepsTasks _ _))

theorem State.traceWrite_keepsTasks (s : State) (r : TraceRec) : s.KeepsTasks (s.traceWrite r) := by
  unfold State.traceWrite
  dsimp only
  split
  · exact .refl s
  · split <;> exact ⟨rfl, rfl, rfl, rfl⟩

theorem State.traceTask_keepsTasks (s : State) (event : Nat) (t : Task) (cluster : Nat) : s.KeepsTasks (s.traceTask event t cluster) :=
  State.traceWrite_keepsTasks _ _

theorem State.unstall_keepsTasks (s : State) : s.KeepsTasks s.unstall := by
  unfold State.unstall
  split
  · exact .refl s
  · split
    · exact .refl s
    · dsimp only
      refine KeepsTasks.trans ?_ (State.traceWrite_keepsTasks _ _)
      exact ⟨rfl, rfl, rfl, rfl⟩

/-- What follows a grant: the event is counted and traced, and the generator resumes. -/
theorem State.grantNoted_keepsTasks (s : State) (u e n event : Nat) (t : Task) (cluster : Nat) :
    s.KeepsTasks ((s.countEvent u e n).traceTask event t cluster).unstall :=
  ((s.countEvent_keepsTasks u e n).trans (State.traceTask_keepsTasks _ event t cluster)).trans (State.unstall_keepsTasks _)

/-! ### Tasks that become ready (R440, R442) -/

section TaskReady

variable {s : State} {t : Task}

theorem State.taskReady_of_not_met (h : t.plain = false ∨ s.taskMet t = false) : s.taskReady t = s :=
  if_pos (by rcases h with h | h <;> simp only [h, Bool.not_false, Bool.true_or, Bool.or_true])

/-- A task whose constraints are met joins a queue with room. -/
theorem State.taskReady_of_room (hplain : t.plain = true) (hmet : s.taskMet t = true) (hroom : s.render.ready.length < readyMax) :
    s.taskReady t = ({ s with render := { s.render with
      ready := s.render.ready ++ [⟨t, none⟩]
      reel := { s.render.reel with peak := max s.render.reel.peak (s.render.ready.length + 1) } } } : State).traceTask 3 t 0xFF := by
  simp only [State.taskReady, hplain, hmet, Nat.not_le.mpr hroom, List.length_append, List.length_singleton, Bool.not_true, Bool.or_self,
    Bool.false_eq_true, if_false]

/-- A full queue refuses the task, and the generator stands still (R442, R487). -/
theorem State.taskReady_of_full (hplain : t.plain = true) (hmet : s.taskMet t = true) (hfull : readyMax ≤ s.render.ready.length)
    (hruns : s.render.stalledAt = none) :
    s.taskReady t = ({ s.queueOverflow 0x100 with render := { s.render with stalledAt := some s.now } } : State).traceWrite
      (({ s.queueOverflow 0x100 with render := { s.render with stalledAt := some s.now } } : State).traceOf 4 0 0 0xFF t.window
        t.frame) := by
  simp only [State.taskReady, hplain, hmet, hfull, State.queueOverflow_frame, hruns, Option.isSome_none, Bool.not_true, Bool.or_self,
    Bool.false_eq_true, if_false, if_true]
  rfl

end TaskReady

/-! ### Grants (R436, R441) -/

section Grants

variable {s : State} {c : Nat}

theorem State.grantTo_of_none (h : s.bestReady c = none) : s.grantTo c = (s, false) := by
  simp only [State.grantTo, h]

/-- The task that goes first leaves the ready queue for the cluster. -/
theorem State.grantTo_of_best {x : Ready} (h : s.bestReady c = some x) :
    ∃ t, s.grantTo c = (t, true) ∧ t.render.held = s.render.held ++ [⟨c, x.task, x.avoid.isSome⟩]
      ∧ t.render.ready = s.render.ready.erase x ∧ t.render.frames = s.render.frames := by
  have hsync := s.syncUnit_keepsTasks c none
  simp only [State.grantTo, h]
  refine ⟨_, rfl, ?_⟩
  have hnoted (u : State) := u.grantNoted_keepsTasks c (0x0F + x.task.kind.code) 1 (if x.avoid.isSome then 8 else 1) x.task c
  rw [(hnoted _).held, (hnoted _).ready, (hnoted _).frames, hsync.held, hsync.ready]
  exact ⟨rfl, rfl, hsync.frames⟩

/-- The turn of an asking cluster in a CORE cycle of grants: it gets a task unless eight have been granted. -/
def grantTurn (a : State × Nat) (c : Nat) : State × Nat :=
  if 8 ≤ a.2 then a else ((a.1.grantTo c).1, a.2 + b2n (a.1.grantTo c).2)

theorem State.grant_eq_foldl (s : State) : s.grant = (s.asking.foldl grantTurn (s, 0)).1 := rfl

/-- From `a` to `b` clusters of `cs` get new tasks, as many as are counted and up to eight, and the frames and the transactions stand. -/
structure GrantsAmong (cs : List Nat) (a b : State × Nat) : Prop where
  held : ∃ l, b.1.render.held = a.1.render.held ++ l ∧ b.2 = a.2 + l.length ∧ ∀ h ∈ l, h.cluster ∈ cs
  most : b.2 ≤ 8
  frames : b.1.render.frames = a.1.render.frames
  txn : b.1.txn = a.1.txn

theorem GrantsAmong.refl {a : State × Nat} (ha : a.2 ≤ 8) (cs : List Nat) : GrantsAmong cs a a :=
  ⟨⟨[], (List.append_nil _).symm, rfl, nofun⟩, ha, rfl, rfl⟩

theorem grantTurn_grantsAmong {a : State × Nat} (ha : a.2 ≤ 8) (c : Nat) : GrantsAmong [c] a (grantTurn a c) := by
  unfold grantTurn
  split
  · exact .refl ha _
  next hmore =>
    cases hbest : a.1.bestReady c with
    | none =>
      rw [State.grantTo_of_none hbest]
      exact .refl ha _
    | some x =>
      have htxn : (a.1.grantTo c).1.txn = a.1.txn := by simp only [State.grantTo_frame]
      obtain ⟨t, hgrant, hheld, -, hframes⟩ := State.grantTo_of_best hbest
      rw [hgrant] at htxn ⊢
      exact ⟨⟨_, hheld, rfl, by simp⟩, Nat.lt_of_not_le hmore, hframes, htxn⟩

theorem foldl_grantTurn_grantsAmong (cs : List Nat) {a : State × Nat} (ha : a.2 ≤ 8) : GrantsAmong cs a (cs.foldl grantTurn a) := by
  induction cs generalizing a with
  | nil => exact .refl ha _
  | cons c cs ih =>
    obtain ⟨⟨l, hheld, hcount, hcluster⟩, hmost, hframes, htxn⟩ := grantTurn_grantsAmong ha c
    obtain ⟨⟨l', hheld', hcount', hcluster'⟩, hmost', hframes', htxn'⟩ := ih hmost
    refine ⟨⟨l ++ l', ?_, ?_, ?_⟩, hmost', hframes'.trans hframes, htxn'.trans htxn⟩
    · rw [List.foldl_cons, hheld', hheld, List.append_assoc]
    · rw [List.foldl_cons, hcount', hcount, List.length_append, Nat.add_assoc]
    · rintro h hh
      rcases List.mem_append.mp hh with hh | hh
      · exact List.mem_cons.mpr (.inl (List.mem_singleton.mp (hcluster h hh)))
      · exact List.mem_cons_of_mem _ (hcluster' h hh)

theorem runs_taskGrant_of_single {dt : Nat} {x : Ready} (hasks : (s.tick dt).asking = [c]) (hbest : (s.tick dt).bestReady c = some x) :
    Runs (.taskGrant dt) s fun t =>
      t.render.held = s.render.held ++ [⟨c, x.task, x.avoid.isSome⟩] ∧ t.render.ready = s.render.ready.erase x
        ∧ t.render.frames = s.render.frames ∧ t.txn = s.txn := by
  have htxn : ((s.tick dt).grantTo c).1.txn = s.txn := by simp only [State.grantTo_frame, State.tick_txn]
  obtain ⟨t, hgrant, hheld, hready, hframes⟩ := State.grantTo_of_best hbest
  have hrun : (s.tick dt).grant = t := by
    rw [State.grant_eq_foldl, hasks]
    exact congrArg Prod.fst hgrant
  refine ⟨_, rfl, ?_⟩
  simp only [State.settle_render, State.settle_txn, hrun]
  exact ⟨hheld, hready, hframes, by rw [← htxn, hgrant]⟩

theorem runs_taskGrant (dt : Nat) (s : State) :
    Runs (.taskGrant dt) s fun t =>
      (∀ h ∈ t.render.held, h ∈ s.render.held ∨ h.cluster ∈ (s.tick dt).asking)
        ∧ t.render.held.length ≤ s.render.held.length + 8 ∧ t.render.frames = s.render.frames ∧ t.txn = s.txn := by
  obtain ⟨⟨l, hheld, hcount, hcluster⟩, hmost, hframes, htxn⟩ :=
    foldl_grantTurn_grantsAmong (s.tick dt).asking (a := (s.tick dt, 0)) (Nat.zero_le 8)
  refine ⟨_, rfl, ?_⟩
  simp only [State.settle_render, State.settle_txn, State.grant_eq_foldl, hheld, List.mem_append, List.length_append]
  exact ⟨fun h hh => hh.imp_right (hcluster h), by simp only [State.tick_render]; omega, hframes, htxn⟩

end Grants

/-! ### Tasks that end (R436, R443, R445) -/

section TaskComplete

variable {s : State} {cluster : Nat} {h : Held} {r : FrameRec}

/-- A cluster gives up its task, and nothing else of the tasks changes. -/
theorem State.drop_keepsTasks (s : State) (h : Held) :
    ({ s with render := { s.render with held := s.render.held.erase h } } : State).KeepsTasks (s.drop h) := by
  obtain ⟨hready, hheld, hframes, hslots⟩ := s.syncUnit_keepsTasks h.cluster none
  exact ⟨hready, congrArg (·.erase h) hheld, hframes, hslots⟩

theorem State.taskComplete_of_not_held {poison : Bool} (hheld : s.render.held.find? (·.cluster == cluster) = none) :
    s.taskComplete cluster poison = s := by
  simp only [State.taskComplete, hheld]

/-- After its window a task leaves no result (R443). -/
theorem State.taskComplete_of_closed (hheld : s.render.held.find? (·.cluster == cluster) = some h)
    (hframe : s.frame h.task.frame = some r) (hclosed : r.takes h.task = false) :
    s.taskComplete cluster false = (s.drop h).traceTask 2 h.task cluster := by
  simp only [State.taskComplete, hheld, hframe, hclosed, Bool.false_eq_true, Bool.not_false, if_false, if_true]

/-- A task of the main window leaves its result while the window is open (R436). -/
theorem State.taskComplete_of_main (hheld : s.render.held.find? (·.cluster == cluster) = some h)
    (hframe : s.frame h.task.frame = some r) (hopen : r.mainClosed = false) (hkind : h.task.kind ≠ .tile) :
    s.taskComplete cluster false = ((s.drop h).traceTask 2 h.task cluster).endTask r h.task := by
  simp only [State.taskComplete, hheld, hframe, FrameRec.takes, hkind, hopen, beq_iff_eq, Bool.and_eq_true, false_and, Bool.not_false,
    Bool.not_true, Bool.false_eq_true, if_false]

theorem State.dropped_tb (s : State) (h : Held) (cluster : Nat) : ((s.drop h).traceTask 2 h.task cluster).tb = s.tb := by
  simp only [State.tb, State.traceTask_frame, State.drop_frame]

theorem State.dropped_slot (s : State) (h : Held) (cluster n : Nat) :
    ((s.drop h).traceTask 2 h.task cluster).render.slot n = s.render.slot n := by
  rw [RenderState.slot, ((s.drop_keepsTasks h).trans (State.traceTask_keepsTasks _ 2 h.task cluster)).slots, RenderState.slot]

/-- On poison a first run of a task becomes ready once more, for another cluster (R445). -/
theorem runs_taskComplete_of_poison {dt : Nat} (hheld : s.render.held.find? (·.cluster == cluster) = some h)
    (hframe : s.frame h.task.frame = some r) (htakes : r.takes h.task = true) (hfirst : h.again = false) :
    Runs (.taskComplete dt cluster true) s fun t =>
      t.render.ready = s.render.ready ++ [⟨h.task, some cluster⟩] ∧ t.render.held = s.render.held.erase h
        ∧ t.render.frames = s.render.frames := by
  have hcluster : h.cluster = cluster := by simpa using List.find?_some hheld
  have hdrop := (((s.tick dt).drop_keepsTasks h).trans (State.raise_keepsTasks _ srcClusterFault)).trans
    (State.countEvent_keepsTasks _ h.cluster 0x34 1)
  have hstill := (hdrop.frame h.task.frame).trans hframe
  refine ⟨_, rfl, ?_⟩
  simp only [State.settle_render, State.taskComplete, State.tick_render, hheld, State.faultTask, hstill, htakes, hfirst, Option.elim_some,
    Bool.not_true, Bool.false_eq_true, if_false, if_true]
  exact ⟨by rw [hdrop.ready, hcluster]; rfl, hdrop.held, hdrop.frames⟩

end TaskComplete

/-! ### The decision (R283, R333, R438) -/

section Decision

variable {s : State} {r : FrameRec}

/-- The frame that is put in place of one in flight is the frame of its number. -/
theorem State.setFrame_frame_self (hmem : ∃ x ∈ s.render.frames, x.n = r.n) : (s.setFrame r).frame r.n = some r := by
  obtain ⟨x, hx, hn⟩ := hmem
  have hkeys : ((fun z : FrameRec => z.n == r.n) ∘ fun z => if z.n == r.n then r else z) = fun z => z.n == r.n := by
    funext z
    by_cases hz : z.n = r.n <;> simp [hz]
  cases hfind : s.render.frames.find? (·.n == r.n) with
  | none => exact absurd (beq_iff_eq.mpr hn) (List.find?_eq_none.mp hfind x hx)
  | some y =>
    have hy : (y.n == r.n) = true := List.find?_some (p := fun z : FrameRec => z.n == r.n) hfind
    simp only [State.frame, State.setFrame, List.find?_map, hkeys, hfind, Option.map_some, hy, if_true]

theorem FrameRec.noteMain_n (r : FrameRec) (now : Instant) : (r.noteMain now).n = r.n := by
  unfold FrameRec.noteMain
  split <;> rfl

/-- Noting the end of the main window's tasks leaves the decision. -/
theorem FrameRec.noteMain_decision (r : FrameRec) (now : Instant) :
    ((r.noteMain now).decided, (r.noteMain now).gov, (r.noteMain now).safety) = (r.decided, r.gov, r.safety) := by
  unfold FrameRec.noteMain
  split <;> rfl

theorem State.governorDecision_of_none (h : s.toDecide = none) : s.governorDecision = s := by
  simp only [State.governorDecision, h]

/-- The decision puts the decided frame in its place, and changes nothing else of the tasks. -/
theorem State.governorDecision_keepsTasks (h : s.toDecide = some r) :
    (s.setFrame (r.decide.1.noteMain s.tb)).KeepsTasks s.governorDecision := by
  have hdecided : s.KeepsTasks (s.fresh.2.decideFrame r).1 :=
    .of_render (by simp only [State.decideFrame_frame, State.fresh_frame])
  have htb : (s.fresh.2.decideFrame r).1.tb = s.tb := by simp only [State.tb, State.decideFrame_frame, State.fresh_frame]
  have hframe : (s.fresh.2.decideFrame r).2 = r.decide.1 := rfl
  simp only [State.governorDecision, h, hframe, htb]
  refine KeepsTasks.trans (KeepsTasks.setFrame ?_ _) (State.traceWrite_keepsTasks _ _)
  exact hdecided.trans ⟨rfl, rfl, rfl, rfl⟩

theorem runs_governorDecision {dt : Nat} (h : (s.tick dt).toDecide = some r) :
    Runs (.governorDecision dt) s fun t =>
      (t.frame r.n).map (fun q => (q.decided, q.gov, q.safety)) = some (true, r.decide.1.gov, r.decide.1.safety)
        ∧ t.render.held = s.render.held ∧ t.clock = s.clock ∧ t.txn = s.txn := by
  have hkeeps := (State.governorDecision_keepsTasks h).trans (State.settle_keepsTasks _)
  have hn : (r.decide.1.noteMain (s.tick dt).tb).n = r.n := FrameRec.noteMain_n _ _
  have hframe := State.setFrame_frame_self (s := s.tick dt) (r := r.decide.1.noteMain (s.tick dt).tb)
    ⟨r, List.mem_of_find?_eq_some h, hn.symm⟩
  rw [hn] at hframe
  refine ⟨_, rfl, ?_, hkeeps.held, ?_, ?_⟩
  · rw [hkeeps.frame, hframe, Option.map_some, FrameRec.noteMain_decision]
    rfl
  · simp only [State.settle_clock, State.governorDecision_frame, State.tick_clock]
  · simp only [State.settle_txn, State.governorDecision_frame, State.tick_txn]

end Decision

/-! ### The statement -/

/-- Settles O40: a task joins the queue or stops the generator, the clusters that ask take what goes first, a completion leaves the result
of its kind, and the decision is that of its frame. -/
theorem tasksAreGrantedAndComplete : Obligations.TasksAreGrantedAndComplete := by
  refine ⟨fun dt t s hplain hmet hroom => next_settle_congr (State.taskReady_of_room (s := s.tick dt) hplain hmet hroom),
    fun dt t s h => next_settle_congr (State.taskReady_of_not_met (s := s.tick dt) h),
    fun dt t s hplain hmet hfull hruns => next_settle_congr (State.taskReady_of_full (s := s.tick dt) hplain hmet hfull hruns),
    fun dt c x s => runs_taskGrant_of_single, fun dt s => runs_taskGrant dt s,
    fun dt cluster poison s h => next_settle_congr (State.taskComplete_of_not_held (s := s.tick dt) h),
    fun dt cluster h r s hheld hframe hopen hkind => next_settle_congr ?packet,
    fun dt cluster h r s hheld hframe hopen hkind => next_settle_congr ?phase1,
    fun dt cluster h r s hheld hframe hopen hkind => next_settle_congr ?phase2,
    fun dt cluster h r s hheld hframe hclosed => next_settle_congr (State.taskComplete_of_closed (s := s.tick dt) hheld hframe hclosed),
    fun dt cluster h r s => runs_taskComplete_of_poison, fun dt r s => runs_governorDecision,
    fun dt s h => next_settle_congr (State.governorDecision_of_none h)⟩
  case packet | phase1 | phase2 =>
    refine (State.taskComplete_of_main (s := s.tick dt) hheld hframe hopen (by rw [hkind]; exact nofun)).trans ?_
    simp only [State.endTask, hkind, State.dropped_tb, State.dropped_slot, State.tick_render]

end Sys2Proof.Machine
end

section
/-!
PROOFS. Tearing-effect inputs (R311, R320) and the confidence output (R314 to R317, R320, R534, R562): which latch an edge is matched
with, how the link is trained, and what each vertical blanking and each line sends.
-/

namespace Sys2Proof.Machine

/-! ### Canvas events (R318) -/

/-- A canvas event counts at its canvas. -/
theorem State.canvasEvent_canvas (s : State) (k i : Nat) :
    (s.canvasEvent k i).canvas k = { s.canvas k with counts := bump i (s.canvas k).counts } :=
  Map.getD_put_self _ _ _ _

/-- A canvas event that depends on a condition changes the counts of its canvas at most. -/
theorem State.canvasEvent_ite_canvas (s : State) (k i : Nat) (c : Prop) [Decidable c] :
    (if c then s.canvasEvent k i else s).canvas k
      = { s.canvas k with counts := if c then bump i (s.canvas k).counts else (s.canvas k).counts } := by
  split
  · exact s.canvasEvent_canvas k i
  · rfl

theorem State.canvasEvent_ite_frame (s : State) (k i : Nat) (c : Prop) [Decidable c] :
    (if c then s.canvasEvent k i else s).ports = s.ports ∧ (if c then s.canvasEvent k i else s).clock = s.clock
      ∧ (if c then s.canvasEvent k i else s).txn = s.txn ∧ (if c then s.canvasEvent k i else s).mem = s.mem
      ∧ (if c then s.canvasEvent k i else s).fns = s.fns := by
  split <;> simp only [State.canvasEvent_frame, and_self]

/-! ### Tearing-effect inputs (R311) -/

section TearingEffect

variable {s : State} {input k : Nat} {e : LatchExpect} {rising : Bool}

@[simp] theorem State.setTe_te (s : State) (i : Nat) (d : TeDyn) : (s.setTe i d).te i = d := Map.getD_put_self _ _ _ _

theorem State.teOn_of_bound (hon : s.enabled 0x10 input = true) (hcanvas : (s.te input).canvas = some k) (halive : s.alive 8 k = true) :
    s.teOn input = true := by
  simp only [State.teOn, hon, hcanvas, Option.elim_some, halive, Bool.and_self]

theorem State.teOn_of_not_bound (h : s.enabled 0x10 input = false ∨ (s.te input).canvas = none
    ∨ ∃ k, (s.te input).canvas = some k ∧ s.alive 8 k = false) : s.teOn input = false := by
  rcases h with hoff | hnone | ⟨k, hcanvas, hdead⟩
  · simp only [State.teOn, hoff, Bool.false_and]
  · simp only [State.teOn, hnone, Option.elim_none, Bool.and_false]
  · simp only [State.teOn, hcanvas, Option.elim_some, hdead, Bool.and_false]

/-- The input with an edge that is matched with a latch. -/
def TeDyn.noteEdge (d : TeDyn) (e : LatchExpect) : TeDyn := { d with matched := e.frame :: d.matched.filter (· != e.frame) }

theorem State.teEdge_of_off (h : s.teOn input = false) : s.teEdge input rising = s := by
  simp only [State.teEdge, h, Bool.not_false, Bool.true_or, if_true]

/-- An edge of the selected kind within half a canvas period of an expected latch is matched with it, and beyond the tolerance it is a
mismatch. -/
theorem State.teEdge_of_expected (hon : s.teOn input = true) (hcanvas : (s.te input).canvas = some k)
    (hedge : (rising = true) = ((s.te input).edge = 1))
    (hfind : (s.expectsOf k).find? (fun e => decide (2 * (s.te input).distance s.tb e ≤ e.period)) = some e) :
    s.teEdge input rising = if usUnits e.tolUs < (s.te input).distance s.tb e
      then (s.setTe input ((s.te input).noteEdge e)).canvasEvent k 3 else s.setTe input ((s.te input).noteEdge e) := by
  have hkind : (rising != ((s.te input).edge == 1)) = false := by
    rw [bne_eq_false_iff_eq, Bool.eq_iff_iff, beq_iff_eq]
    exact iff_of_eq hedge
  have hk : (s.te input).canvas.getD 0 = k := by rw [hcanvas, Option.getD_some]
  simp only [State.teEdge, hon, hkind, hk, hfind, Bool.not_true, Bool.or_self, Bool.false_eq_true, if_false]
  rfl

theorem State.teMissing_of_not_due (h : s.teOn input = false ∨ s.teDue input = none) : s.teMissing input = s := by
  unfold State.teMissing
  dsimp only
  split
  · rfl
  next hon =>
    rw [h.resolve_left (by simpa using hon)]

/-- The frame whose span has passed is looked at once, and without a matched edge it is missing. -/
theorem State.teMissing_of_due (hon : s.teOn input = true) (hcanvas : (s.te input).canvas = some k) (hdue : s.teDue input = some e) :
    s.teMissing input = if (s.te input).matched.contains e.frame
      then s.setTe input { s.te input with checked := some e.frame, matched := (s.te input).matched.filter (e.frame < ·) }
      else (s.setTe input { s.te input with
        checked := some e.frame, matched := (s.te input).matched.filter (e.frame < ·) }).canvasEvent k 4 := by
  simp only [State.teMissing, hon, hcanvas, hdue, Option.getD_some, Bool.not_true, Bool.false_eq_true, if_false]

end TearingEffect

/-- TE_EDGE on an input that is on: the edge is noted first, and the canvas counts a mismatch. -/
theorem runs_teEdge {dt input k : Nat} {rising : Bool} {e : LatchExpect} {s : State} (hon : s.enabled 0x10 input = true)
    (hcanvas : (s.te input).canvas = some k) (halive : s.alive 8 k = true) (hedge : (rising = true) = ((s.te input).edge = 1))
    (hfind : ((s.tick dt).expectsOf k).find? (fun e => decide (2 * (s.te input).distance (s.tick dt).tb e ≤ e.period)) = some e) :
    Runs (.teEdge dt input rising) s fun t =>
      (t.te input).matched.head? = some e.frame ∧ (t.te input).canvas = some k
        ∧ (t.canvas k).counts = (if usUnits e.tolUs < (s.te input).distance (s.tick dt).tb e then bump 3 (s.canvas k).counts
          else (s.canvas k).counts)
        ∧ t.clock = s.clock ∧ t.txn = s.txn := by
  have hmatch := State.teEdge_of_expected (s := s.tick dt) (State.teOn_of_bound (s := s.tick dt) hon hcanvas halive) hcanvas hedge hfind
  obtain ⟨hports, hclock, htxn, -, -⟩ := ((s.tick dt).setTe input ((s.te input).noteEdge e)).canvasEvent_ite_frame k 3
    (usUnits e.tolUs < (s.te input).distance (s.tick dt).tb e)
  have hte : ((s.tick dt).teEdge input rising).settle.te input = (s.te input).noteEdge e := by
    rw [State.te, State.settle_ports, hmatch]
    exact (congrArg (fun p : PortState => p.te.getD input {}) hports).trans (State.setTe_te _ _ _)
  refine ⟨((s.tick dt).teEdge input rising).settle, rfl, ?_, ?_, ?_, ?_, ?_⟩
  · rw [hte]
    rfl
  · rw [hte]
    exact hcanvas
  · rw [State.canvas, State.settle_render, hmatch]
    exact congrArg CanvasDyn.counts (State.canvasEvent_ite_canvas _ k 3 _)
  · rw [State.settle_clock, hmatch]
    exact hclock
  · rw [State.settle_txn, hmatch]
    exact htxn

/-! ### The SerDes that wait (R534) -/

/-- A lane that retrains leaves the output. -/
theorem State.laneRetrain_display (s : State) (l : Nat) : (s.laneRetrain l).ports.display = s.ports.display := by
  unfold State.laneRetrain
  dsimp only
  split <;> rfl

/-- A port whose link goes down leaves the outputs. -/
theorem State.netDown_ports (s : State) (p : Nat) (modAbs txFault rxLos : Bool) : (s.netDown p modAbs txFault rxLos).ports = s.ports := by
  simp [State.netDown, State.portDown, State.countPort]

/-- The restart of another SerDes leaves the confidence output. -/
theorem State.retrainSerdes_display {x : Serdes} (hx : x ≠ .display) (s : State) :
    (s.retrainSerdes x).ports.display = s.ports.display := by
  cases x with
  | lane l => exact s.laneRetrain_display l
  | port p => exact congrArg PortState.display (s.netDown_ports p _ _ _)
  | display => exact absurd rfl hx

theorem State.serdesFrom_display {xs : List Serdes} (h : .display ∉ xs) (s : State) :
    (s.serdesFrom xs).ports.display = s.ports.display := by
  induction xs with
  | nil => rfl
  | cons x xs ih =>
    rw [List.mem_cons, not_or] at h
    unfold State.serdesFrom
    split
    · exact State.retrainSerdes_display (Ne.symm h.1) _
    · exact ih h.2

/-- The end of a restart leaves the confidence output unless it restarts next. -/
theorem State.serdesDone_display {s : State} (h : .display ∉ s.update.serdes.tail) (x : Serdes) :
    (s.serdesDone x).ports.display = s.ports.display := by
  unfold State.serdesDone
  split
  next y ys hserdes =>
    split
    · exact State.serdesFrom_display (by simpa only [hserdes, List.tail_cons] using h) s
    · rfl
  · rfl

/-! ### The link (R315) -/

section Link

variable {s : State} {present : Bool} {link : Option (Nat × Nat)} {l : Nat × Nat}

theorem State.dpHpd_of_same (h : s.ports.display.hpd = present) : s.dpHpd present = s := if_pos h

/-- A change of hot-plug detect starts or ends training, and is an event unless the output is DISABLED. -/
theorem State.dpHpd_of_change (h : s.ports.display.hpd ≠ present) :
    s.dpHpd present = if s.alive 6 0 then (s.setDisplay { s.ports.display with
        hpd := present, training := present && s.enabled 6 0, link := none, failed := false, changed := false }).displayEvent 0
      else s.setDisplay { s.ports.display with
        hpd := present, training := present && s.enabled 6 0, link := none, failed := false, changed := false } := if_neg h

theorem State.dpHpd_hpd (s : State) (present : Bool) : (s.dpHpd present).ports.display.hpd = present := by
  by_cases h : s.ports.display.hpd = present
  · rw [State.dpHpd_of_same h, h]
  · rw [State.dpHpd_of_change h]
    split <;> rfl

/-- DP_HPD_CHANGE: without a sink no SerDes waits for the output. -/
theorem exec_dpHpdChange_eq (dt : Nat) (present : Bool) (s : State) : exec (.dpHpdChange dt present) s
    = .next (if present then (s.tick dt).dpHpd present else ((s.tick dt).dpHpd present).serdesDone .display).settle :=
  next_settle_congr (by dsimp only; rw [State.dpHpd_hpd])

theorem State.alive_of_enabled {cls inst : Nat} (h : s.enabled cls inst = true) : s.alive cls inst = true := by
  rw [State.alive, beq_iff_eq.mp h]
  rfl

theorem State.enabled_of_not_alive {cls inst : Nat} (h : s.alive cls inst = false) : s.enabled cls inst = false := by
  rw [← Bool.not_eq_true] at h ⊢
  exact mt State.alive_of_enabled h

/-- A change of hot-plug detect of an ENABLED output. -/
theorem State.dpHpd_of_enabled (h : s.ports.display.hpd ≠ present) (hon : s.enabled 6 0 = true) :
    s.dpHpd present = (s.setDisplay { s.ports.display with
      hpd := present, training := present, link := none, failed := false, changed := false }).displayEvent 0 := by
  rw [State.dpHpd_of_change h, State.alive_of_enabled hon, hon, Bool.and_true, if_pos rfl]

/-- A change of hot-plug detect of a DISABLED output. -/
theorem State.dpHpd_of_disabled (h : s.ports.display.hpd ≠ present) (hoff : s.alive 6 0 = false) :
    s.dpHpd present = s.setDisplay { s.ports.display with
      hpd := present, training := false, link := none, failed := false, changed := false } := by
  rw [State.dpHpd_of_change h, hoff, State.enabled_of_not_alive hoff, Bool.and_false]
  rfl

/-- Lost lock trains the link of an ENABLED output again. -/
theorem State.dpIrq_of_linked (hhpd : s.ports.display.hpd = true) (hlink : s.ports.display.link.isSome = true)
    (hon : s.enabled 6 0 = true) : s.dpIrq true = s.setDisplay { s.ports.display with training := true, link := none } :=
  if_pos (by rw [hhpd, hlink, hon]; rfl)

/-- DP_IRQ_HPD with the lock kept changes nothing. -/
theorem State.dpIrq_of_locked (s : State) : s.dpIrq false = s := if_neg (by rw [Bool.and_false, Bool.false_and]; exact Bool.false_ne_true)

theorem State.dpTrained_of_idle (h : s.ports.display.training = false ∨ s.enabled 6 0 = false) : s.dpTrained link = s :=
  if_pos (by rcases h with h | h <;> simp only [h, Bool.not_false, Bool.true_or, Bool.or_true])

/-- Training that fails is an event, and is noted with its time for the retry. -/
theorem State.dpTrained_of_failed (htrain : s.ports.display.training = true) (hon : s.enabled 6 0 = true) :
    s.dpTrained none = (s.setDisplay { s.ports.display with
      training := false, failed := true, failedAt := s.now, link := none }).displayEvent 1 :=
  if_neg (by rw [htrain, hon]; exact Bool.false_ne_true)

/-- Training that yields a link which the stored settings fit brings them into force. -/
theorem State.dpTrained_of_fits (htrain : s.ports.display.training = true) (hon : s.enabled 6 0 = true)
    (hfits : s.ports.display.stored.fits l = true) :
    s.dpTrained (some l) = (s.setDisplay { s.ports.display with
      training := false, failed := false, link := some l, line := 0 }).displayForce s.ports.display.stored :=
  (if_neg (by rw [htrain, hon]; exact Bool.false_ne_true)).trans (if_pos hfits)

/-- A link that the stored settings do not fit carries black in mode 0x01 (R315). -/
theorem State.dpTrained_of_misfit (htrain : s.ports.display.training = true) (hon : s.enabled 6 0 = true)
    (hfits : s.ports.display.stored.fits l = false) :
    s.dpTrained (some l) = (s.setDisplay { s.ports.display with
      training := false, failed := false, link := some l, line := 0
      force := { s.ports.display.stored with mode := 1, bpc := 8 }, low := true, announce := false, black := 0 }).displayEvent 2 :=
  (if_neg (by rw [htrain, hon]; exact Bool.false_ne_true)).trans (if_neg (Bool.eq_false_iff.mp hfits))

/-- DP_TRAINING_DONE with a result that DisplayPort has ends the restart of its SerDes. -/
theorem exec_dpTrainingDone_of_ok (hok : dpLinkOk link = true) (dt : Nat) (s : State) :
    exec (.dpTrainingDone dt link) s = .next (((s.tick dt).dpTrained link).serdesDone .display).settle :=
  next_settle_congr (if_pos hok)

/-- A second after it failed, training begins again while a sink is present. -/
theorem State.dpRetry_of_due (hfailed : s.ports.display.failed = true) (hhpd : s.ports.display.hpd = true)
    (hidle : s.ports.display.training = false) (hdue : s.ports.display.failedAt + cycSec ≤ s.now) (hon : s.enabled 6 0 = true) :
    s.dpRetry = s.setDisplay { s.ports.display with training := true } :=
  if_pos (by simp only [hfailed, hhpd, hidle, hdue, hon, Bool.not_false, Bool.and_self, decide_true])

theorem State.dpRetry_of_not_due (h : s.ports.display.failed = false ∨ s.ports.display.hpd = false
    ∨ s.now < s.ports.display.failedAt + cycSec) : s.dpRetry = s := by
  refine if_neg ?_
  simp only [Bool.and_eq_true, Bool.not_eq_true', decide_eq_true_eq]
  rintro ⟨⟨⟨⟨hfailed, hhpd⟩, -⟩, hdue⟩, -⟩
  rcases h with h | h | h
  · exact Bool.false_ne_true (h.symm.trans hfailed)
  · exact Bool.false_ne_true (h.symm.trans hhpd)
  · exact Nat.not_le.mpr h hdue

end Link

/-! ### Frames and lines (R316, R317, R562) -/

section Frames

variable {s : State} {cfg : DisplayCfg}

/-- Settings with the MODE and BPC in force take their place at once. -/
theorem State.displayForce_of_same (hmode : cfg.mode = s.ports.display.force.mode) (hbpc : cfg.bpc = s.ports.display.force.bpc) :
    s.displayForce cfg = s.setDisplay { s.ports.display with force := cfg, changed := false, low := false } :=
  if_pos (by simp only [hmode, hbpc, decide_true, Bool.and_self])

/-- Settings that come into force leave at most two more frames black. -/
theorem State.displayForce_display (s : State) (cfg : DisplayCfg) : ∃ black announce line, black ≤ 2 + s.ports.display.black
    ∧ (s.displayForce cfg).ports.display = { s.ports.display with
      force := cfg, changed := false, low := false, black := black, announce := announce, line := line } := by
  unfold State.displayForce
  dsimp only
  split
  · exact ⟨_, _, _, Nat.le_add_left _ _, rfl⟩
  · exact ⟨_, _, _, Nat.le_add_right_of_le (Nat.le_of_lt_succ (Nat.mod_lt _ (by decide))), rfl⟩

theorem State.dpVblank_of_silent (h : s.displaySends = false) : s.dpVblank = s := if_pos (by rw [h]; rfl)

/-- A vertical blanking begins a frame: its first line, one black frame less, and DP_MODE_CHANGED after the last one. -/
theorem State.dpVblank_display {u : State} {d : DisplayDyn} (hsends : s.displaySends = true)
    (hu : (if s.ports.display.changed then s.displayForce s.ports.display.stored else s) = u) (hd : u.ports.display = d) :
    s.dpVblank.ports.display = { d with
      line := 0, black := d.black - 1, announce := d.announce && d.black != 0
      counts := if d.announce && d.black = 0 then bump 2 d.counts else d.counts } := by
  subst hd
  simp only [State.dpVblank, hsends, hu, Bool.not_true, Bool.false_eq_true, if_false]
  split <;> rfl

theorem State.dpLine_of_silent (h : s.displaySends = false) (bad : List Nat) : s.dpLine bad = s := by
  unfold State.dpLine
  dsimp only
  split
  · rfl
  · exact if_pos (by rw [h]; rfl)

/-- While lines of the frame are left, the next one is sent. -/
theorem State.dpLine_of_sending {m : Nat × Nat × Nat} (hsends : s.displaySends = true)
    (hmode : dpMode s.ports.display.force.mode = some m) (hline : s.ports.display.line < m.2.1) (bad : List Nat) :
    ∃ px, s.dpLine bad = (s.setDisplay { s.ports.display with line := s.ports.display.line + 1 }).emit
      (.display s.ports.display.line px) := by
  simp only [State.dpLine, hmode, hsends, Nat.not_le.mpr hline, decide_false, Bool.not_true, Bool.or_self, Bool.false_eq_true, if_false]
  exact ⟨_, rfl⟩

/-- What has left the device stays; what follows the command comes on top. -/
theorem State.settle_out (s : State) : ∃ new, s.settle.out = new ++ s.out :=
  have hwatch : s.watch.out = s.out := by simp only [State.watch_frame]
  ⟨_, congrArg (_ ++ ·) hwatch⟩

theorem State.dpPllRelock_of_locked (h : s.ports.display.pllLost = false) : s.dpPllRelock = s := if_pos (by rw [h]; rfl)

/-- When the PLL locks again the output starts as at a change of mode. -/
theorem State.dpPllRelock_of_lost (h : s.ports.display.pllLost = true) :
    s.dpPllRelock = s.fresh.2.setDisplay { s.ports.display with pllLost := false, black := s.fresh.1 % 3, announce := true, line := 0 } :=
  if_neg (by rw [h]; exact Bool.false_ne_true)

end Frames

/-! ### The statement -/

section Display

variable {dt : Nat} {s : State}

/-- A command whose effect on the confidence output is known, and which leaves it otherwise. -/
theorem runs_of_display {i : Instr} {u : State} {d : DisplayDyn} {P : State → Prop} (hexec : exec i s = .next u.settle)
    (hu : u.ports.display = d) (hp : ∀ t : State, t.ports.display = d → P t) : Runs i s P :=
  ⟨_, hexec, hp _ (by rw [State.settle_ports, hu])⟩

theorem runs_dpTrainingDone_of_misfit {l : Nat × Nat} (htrain : s.ports.display.training = true) (hon : s.enabled 6 0 = true)
    (hok : dpLinkOk (some l) = true) (hlast : .display ∉ s.update.serdes.tail) (hfits : s.ports.display.stored.fits l = false) :
    Runs (.dpTrainingDone dt (some l)) s fun t =>
      t.ports.display.link = some l ∧ t.ports.display.force = { s.ports.display.stored with mode := 1, bpc := 8 }
        ∧ t.ports.display.low = true ∧ t.ports.display.counts = bump 2 s.ports.display.counts
        ∧ t.ports.display.stored = s.ports.display.stored := by
  have htrained := State.dpTrained_of_misfit (s := s.tick dt) htrain hon hfits
  have hupdate : ((s.tick dt).dpTrained (some l)).update = s.update := by
    rw [htrained]
    simp only [State.displayEvent_frame, State.setDisplay_update, State.tick_update]
  refine runs_of_display (exec_dpTrainingDone_of_ok hok dt s)
    ((State.serdesDone_display (by rwa [hupdate]) _).trans (congrArg (·.ports.display) htrained)) fun t ht => ?_
  rw [ht]
  exact ⟨rfl, rfl, rfl, rfl, rfl⟩

theorem runs_dpVblank_of_unchanged (hsends : (s.tick dt).displaySends = true) (hsame : s.ports.display.changed = false) :
    Runs (.dpVblank dt) s fun t =>
      t.ports.display.line = 0 ∧ t.ports.display.black = s.ports.display.black - 1 ∧ t.ports.display.force = s.ports.display.force
        ∧ t.ports.display.link = s.ports.display.link
        ∧ t.ports.display.counts = (if s.ports.display.announce && s.ports.display.black = 0 then bump 2 s.ports.display.counts
          else s.ports.display.counts) := by
  refine runs_of_display rfl (State.dpVblank_display hsends (if_neg (Bool.eq_false_iff.mp hsame)) rfl) fun t ht => ?_
  rw [ht]
  exact ⟨rfl, rfl, rfl, rfl, rfl⟩

theorem runs_dpVblank_of_changed (hsends : (s.tick dt).displaySends = true) (hchanged : s.ports.display.changed = true) :
    Runs (.dpVblank dt) s fun t =>
      t.ports.display.line = 0 ∧ t.ports.display.force = s.ports.display.stored ∧ t.ports.display.changed = false
        ∧ t.ports.display.black ≤ 1 + s.ports.display.black := by
  obtain ⟨black, announce, line, hblack, hforce⟩ := (s.tick dt).displayForce_display s.ports.display.stored
  refine runs_of_display rfl (State.dpVblank_display hsends (if_pos hchanged) hforce) fun t ht => ?_
  rw [ht]
  exact ⟨rfl, rfl, rfl, Nat.sub_le_of_le_add (by rw [Nat.add_right_comm]; exact hblack)⟩

theorem runs_dpLineFetch {poisoned : List Nat} {m : Nat × Nat × Nat} (hsends : (s.tick dt).displaySends = true)
    (hmode : dpMode s.ports.display.force.mode = some m) (hline : s.ports.display.line < m.2.1) :
    Runs (.dpLineFetch dt poisoned) s fun t =>
      t.ports.display.line = s.ports.display.line + 1 ∧ (∃ new px, t.out = new ++ .display s.ports.display.line px :: s.out)
        ∧ t.render = s.render ∧ t.clock = s.clock := by
  obtain ⟨px, hsent⟩ := State.dpLine_of_sending (s := s.tick dt) hsends hmode hline poisoned
  obtain ⟨new, hnew⟩ := State.settle_out ((s.tick dt).dpLine poisoned)
  rw [hsent] at hnew
  refine ⟨_, next_settle_congr hsent, ?_, ⟨new, px, hnew⟩, ?_, ?_⟩
  · rw [State.settle_ports]
    rfl
  · rw [State.settle_render]
    rfl
  · rw [State.settle_clock]
    rfl

theorem runs_dpPllRelock (hlost : s.ports.display.pllLost = true) :
    Runs (.dpPllRelock dt) s fun t =>
      t.ports.display.pllLost = false ∧ t.ports.display.black ≤ 2 ∧ t.ports.display.announce = true ∧ t.ports.display.line = 0
        ∧ t.ports.display.link = s.ports.display.link ∧ t.ports.display.force = s.ports.display.force := by
  refine runs_of_display (next_settle_congr (State.dpPllRelock_of_lost (s := s.tick dt) hlost)) rfl fun t ht => ?_
  rw [ht]
  exact ⟨rfl, Nat.le_of_lt_succ (Nat.mod_lt _ (by decide)), rfl, rfl, rfl, rfl⟩

end Display

/-- Settles O44: an edge is matched with the expected latch it lies near, the link follows its sink and its training, and a vertical
blanking starts the lines that are then sent in order. -/
theorem tearingEffectAndConfidenceOutput : Obligations.TearingEffectAndConfidenceOutput := by
  refine ⟨fun dt m s t e c p h => ?teSet, fun dt m s t e c p h hfits => ?displaySet,
    fun dt input rising k e s => runs_teEdge,
    fun dt input rising s h => next_settle_congr (State.teEdge_of_off (State.teOn_of_not_bound (s := s.tick dt) h)),
    fun dt input k e s hon hcanvas halive hdue => next_settle_congr
      (State.teMissing_of_due (State.teOn_of_bound (s := s.tick dt) hon hcanvas halive) hcanvas hdue),
    fun dt input s h => next_settle_congr
      (State.teMissing_of_not_due (h.imp_left fun hoff => State.teOn_of_not_bound (s := s.tick dt) (.inl hoff))),
    fun dt present s hchange hon => ?hpdEnabled, fun dt present s hchange hoff => ?hpdDisabled, fun dt present s hsame => ?hpdSame,
    fun dt s hhpd hlink hon => next_settle_congr (State.dpIrq_of_linked (s := s.tick dt) hhpd hlink hon),
    fun dt s => next_settle_congr (s.tick dt).dpIrq_of_locked,
    fun dt s htrain hon => ?failed, fun dt l s htrain hon hok hfits hmode hbpc => ?fits,
    fun dt l s => runs_dpTrainingDone_of_misfit,
    fun dt link s h => ?idle,
    fun dt s hfailed hhpd hidle hdue hon => next_settle_congr (State.dpRetry_of_due (s := s.tick dt) hfailed hhpd hidle hdue hon),
    fun dt s h => next_settle_congr (State.dpRetry_of_not_due (s := s.tick dt) h),
    fun dt s => runs_dpVblank_of_unchanged, fun dt s => runs_dpVblank_of_changed,
    fun dt s h => next_settle_congr (State.dpVblank_of_silent h), fun dt poisoned m s => runs_dpLineFetch,
    fun dt poisoned s h => next_settle_congr (State.dpLine_of_silent h poisoned), fun dt s => rfl,
    fun dt s => runs_dpPllRelock, fun dt s h => next_settle_congr (State.dpPllRelock_of_locked (s := s.tick dt) h)⟩
  case teSet =>
    obtain ⟨-, -, -, rfl⟩ := running_state h
    exact running_act h rfl
  case displaySet =>
    obtain ⟨-, -, -, rfl⟩ := running_state h
    refine running_act h (if_neg ?_)
    cases hlink : t.ports.display.link with
    | none => exact Bool.false_ne_true
    | some l =>
      have hl := hfits l hlink
      simp only [Option.elim_some, hl, Bool.not_true, Bool.false_eq_true, not_false_eq_true]
  case hpdEnabled =>
    rw [exec_dpHpdChange_eq, State.dpHpd_of_enabled (s := s.tick dt) hchange hon]
    cases present <;> rfl
  case hpdDisabled =>
    rw [exec_dpHpdChange_eq, State.dpHpd_of_disabled (s := s.tick dt) hchange hoff]
    cases present <;> rfl
  case hpdSame => rw [exec_dpHpdChange_eq, State.dpHpd_of_same (s := s.tick dt) hsame]
  case failed => rw [exec_dpTrainingDone_of_ok rfl, State.dpTrained_of_failed (s := s.tick dt) htrain hon]; rfl
  case fits =>
    have htrained := (State.dpTrained_of_fits (s := s.tick dt) htrain hon hfits).trans (State.displayForce_of_same hmode hbpc)
    rw [exec_dpTrainingDone_of_ok hok, htrained]
    rfl
  case idle => exact next_settle_congr (by dsimp only; rw [State.dpTrained_of_idle (s := s.tick dt) h])

end Sys2Proof.Machine
end

section
/-!
PROOFS. Lane links and back-channel messages (R310, R327, R332, R354, R357, R358, R372): what moves a lane between its link states, and
what each message changes.
-/

namespace Sys2Proof

/-- The entry that was set last stands, in the place of the one before. -/
theorem Map.put_put {α : Type} (m : Map α) (k : Nat) (v w : α) : (m.put k v).put k w = m.put k w := by
  induction m with
  | nil => simp only [Map.put, Nat.lt_irrefl, if_false, if_true]
  | cons e m ih =>
    obtain ⟨j, x⟩ := e
    by_cases hlt : k < j
    · simp only [Map.put, hlt, Nat.lt_irrefl, if_false, if_true]
    · by_cases heq : k = j
      · simp only [Map.put, heq, Nat.lt_irrefl, if_false, if_true]
      · simp only [Map.put, hlt, heq, if_false, ih]

end Sys2Proof

namespace Sys2Proof.Machine

/-! ### A lane after a change -/

theorem State.setLane_setLane (s : State) (l : Nat) (d d' : LaneDyn) : (s.setLane l d).setLane l d' = s.setLane l d' := by
  simp only [State.setLane, Map.put_put]

/-- A retraining that is owed waits for the end of a lane frame that is being sent. -/
def LaneDyn.Waits (d : LaneDyn) (tb : Instant) : Prop := d.retrain = true → ∃ x, d.sendEnd = some x ∧ tb < x

theorem LaneDyn.settle_of_waits {d : LaneDyn} {tb : Instant} (h : d.Waits tb) (now : Nat) : d.settle tb now = d := by
  refine if_neg ?_
  rw [Bool.and_eq_true, decide_eq_true_eq]
  rintro ⟨hretrain, hlate⟩
  obtain ⟨x, hx, hlt⟩ := h hretrain
  rw [hx, Option.elim_some] at hlate
  exact Int.not_lt.mpr (Int.sub_nonneg.mp hlate) hlt

/-- A lane as it is read owes no retraining that could have begun. -/
theorem State.lane_waits (s : State) (l : Nat) : (s.lane l).Waits s.tb := by
  unfold State.lane LaneDyn.settle
  generalize (s.ports.lanes.getD l {} : LaneDyn) = d
  dsimp only
  split
  · exact fun h => nomatch h
  next hno =>
    intro hretrain
    rw [hretrain, Bool.true_and, decide_eq_true_eq] at hno
    cases hend : d.sendEnd with
    | none => exact absurd (Int.le_refl 0) (by simpa only [hend, Option.elim_none] using hno)
    | some x =>
      rw [hend, Option.elim_some] at hno
      exact ⟨x, rfl, Int.not_le.mp fun hle => hno (Int.sub_nonneg.mpr hle)⟩

/-- A lane that was set is read as it was set. -/
theorem State.setLane_lane {s : State} {l : Nat} {d : LaneDyn} (h : d.Waits s.tb) : (s.setLane l d).lane l = d := by
  rw [State.lane, State.setLane_ports, Map.getD_put_self]
  exact LaneDyn.settle_of_waits h _

/-- Setting a lane leaves the others. -/
theorem State.setLane_others (s : State) {l k : Nat} (h : k ≠ l) (d : LaneDyn) :
    (s.setLane l d).ports.lanes.getD k {} = s.ports.lanes.getD k {} :=
  (Map.getD_put _ _ _ _ _).trans (if_neg h)

/-! ### Link states (R354) -/

section Links

variable {s : State} {l : Nat}

/-- The TIME cycles in TRAINING after which a lane may go UP. -/
def LaneDyn.trainTime (d : LaneDyn) : Nat := if d.phy.backchannel then 20 * cycUs else 100 * cycUs

theorem LaneDyn.trainTime_pos (d : LaneDyn) : 0 < d.trainTime := by
  unfold LaneDyn.trainTime
  split <;> decide

/-- A lane is as old as `n` cycles when they have passed since it entered its state. -/
theorem State.le_laneAge_iff {n : Nat} (hn : 0 < n) : n ≤ s.laneAge l ↔ (s.lane l).since + n ≤ s.now := by
  unfold State.laneAge
  omega

theorem State.laneTrained_of_due (hlink : (s.lane l).link = .training) (hdue : (s.lane l).since + (s.lane l).trainTime ≤ s.now) :
    s.laneTrained l = s.setLane l { s.lane l with link := .up, since := s.now, failRaised := false } := by
  refine if_pos ?_
  rw [Bool.and_eq_true, decide_eq_true_eq, decide_eq_true_eq]
  exact ⟨hlink, (State.le_laneAge_iff (LaneDyn.trainTime_pos _)).mpr hdue⟩

theorem State.laneTrained_of_not_due (h : (s.lane l).link ≠ .training ∨ s.now < (s.lane l).since + (s.lane l).trainTime) :
    s.laneTrained l = s := by
  refine if_neg ?_
  rw [Bool.and_eq_true, decide_eq_true_eq, decide_eq_true_eq]
  rintro ⟨hlink, hage⟩
  exact h.elim (· hlink) (Nat.not_lt.mpr ((State.le_laneAge_iff (LaneDyn.trainTime_pos _)).mp hage))

/-- LANE_TRAINED: a lane that no longer trains lets the next SerDes begin. -/
theorem exec_laneTrained_eq {dt lane : Nat} {s u : State} (h : (s.tick dt).laneTrained lane = u) :
    exec (.laneTrained dt lane) s = .next (if u.serdesWaits (.lane lane) then u else u.serdesDone (.lane lane)).settle := by
  subst h
  rfl

theorem State.laneTrainTimeout_of_due (hlink : (s.lane l).link = .training) (hquiet : (s.lane l).failRaised = false)
    (hdue : (s.lane l).since + 2 * cycMs ≤ s.now) :
    s.laneTrainTimeout l = (s.setLane l { s.lane l with failRaised := true }).raise 0x80 := by
  refine if_pos ?_
  have hage := (State.le_laneAge_iff (s := s) (l := l) (by decide)).mpr hdue
  simp only [hlink, hquiet, hage, decide_true, Bool.not_false, Bool.and_self]

theorem State.laneTrainTimeout_of_not_due (h : (s.lane l).link ≠ .training ∨ (s.lane l).failRaised = true
    ∨ s.now < (s.lane l).since + 2 * cycMs) : s.laneTrainTimeout l = s := by
  refine if_neg ?_
  rw [Bool.and_eq_true, Bool.and_eq_true, decide_eq_true_eq, decide_eq_true_eq, Bool.not_eq_true']
  rintro ⟨⟨hlink, hquiet⟩, hage⟩
  rcases h with h | h | h
  · exact h hlink
  · exact Bool.false_ne_true (hquiet.symm.trans h)
  · exact Nat.not_lt.mpr ((State.le_laneAge_iff (by decide)).mp hage) h

/-- LANE_TRAIN_TIMEOUT: a lane that has failed keeps no SerDes waiting. -/
theorem exec_laneTrainTimeout_eq {dt lane : Nat} {s u : State} (h : (s.tick dt).laneTrainTimeout lane = u) :
    exec (.laneTrainTimeout dt lane) s = .next (if (u.lane lane).failRaised then u.serdesDone (.lane lane) else u).settle := by
  subst h
  rfl

/-- A lane frame is being sent. -/
def State.laneSends (s : State) (l : Nat) : Bool := (s.lane l).sendEnd.elim false fun x => decide (s.tb < x)

theorem State.laneSends_iff : s.laneSends l = true ↔ ∃ x, (s.lane l).sendEnd = some x ∧ s.tb < x := by
  unfold State.laneSends
  cases (s.lane l).sendEnd <;> simp

theorem State.laneSends_of_over (h : ∀ x, (s.lane l).sendEnd = some x → x ≤ s.tb) : s.laneSends l = false := by
  rw [← Bool.not_eq_true, State.laneSends_iff]
  rintro ⟨x, hend, hlt⟩
  exact Int.not_lt.mpr (h x hend) hlt

theorem State.laneLinkLoss_of_off (h : (s.lane l).link ≠ .up ∨ (s.lane l).phy.backchannel = false) : s.laneLinkLoss l = s := by
  refine if_pos ?_
  rw [Bool.or_eq_true, bne_iff_ne, Bool.not_eq_true']
  exact h

theorem State.laneLinkLoss_of_up (hup : (s.lane l).link = .up) (hback : (s.lane l).phy.backchannel = true) {u : State}
    (hu : (if s.laneSends l then (s.flushLane l).emit (.laneCut l s.tb) else s) = u) :
    s.laneLinkLoss l = (u.setLane l { (u.lane l).train u.now with sendEnd := none }).raise 0x81 := by
  subst hu
  exact if_neg (by rw [hup, hback]; exact Bool.false_ne_true)

/-- Once its payload is told, a lane waits for none. -/
theorem State.flushLane_lane (s : State) (l : Nat) : (s.flushLane l).lane l = { s.lane l with rolling := none } := by
  unfold State.flushLane
  split
  next hrolling => rw [← hrolling]
  next x hrolling => exact State.setLane_lane (s.lane_waits l)

theorem State.laneRetrain_of_not_up (h : (s.lane l).link ≠ .up) : s.laneRetrain l = s := if_pos (bne_iff_ne.mpr h)

/-- An UP lane retrains at once, or owes the retraining while a lane frame is being sent. -/
theorem State.laneRetrain_of_up (hup : (s.lane l).link = .up) :
    s.laneRetrain l = s.setLane l (if s.laneSends l then { s.lane l with retrain := true } else (s.lane l).train s.now) :=
  if_neg (by rw [hup]; exact Bool.false_ne_true)

end Links

/-! ### Messages (R357, R358) -/

section Messages

variable {s : State} {l : Nat}

/-- A message that the lane accepts is counted. -/
def LaneDyn.accepting (d : LaneDyn) : LaneDyn := { d with counts := bump 1 d.counts }

/-- What an accepted message finds. -/
def State.accepting (s : State) (l : Nat) : State := s.setLane l (s.lane l).accepting

theorem State.accepting_lane (s : State) (l : Nat) : (s.accepting l).lane l = (s.lane l).accepting := State.setLane_lane (s.lane_waits l)

theorem State.accepting_setLane (s : State) (l : Nat) (d : LaneDyn) : (s.accepting l).setLane l d = s.setLane l d :=
  s.setLane_setLane l _ d

theorem State.accepting_counts (s : State) (l : Nat) :
    ((s.accepting l).ports.lanes.getD l {}).counts = bump 1 (s.lane l).counts := congrArg LaneDyn.counts (Map.getD_put_self _ _ _ _)

theorem State.laneMessage_of_up (hup : (s.lane l).link = .up) (act : State → State) : s.laneMessage l act = act (s.accepting l) :=
  if_neg (by rw [hup]; exact Bool.false_ne_true)

theorem State.laneMessage_of_not_up (h : (s.lane l).link ≠ .up) (act : State → State) : s.laneMessage l act = s.laneDiscard l :=
  if_pos (bne_iff_ne.mpr h)

/-- RETRAIN on an UP lane. -/
theorem State.laneMessage_retrain (hup : (s.lane l).link = .up) : (s.laneMessage l fun s => s.laneRetrain l)
    = s.setLane l (if s.laneSends l then { (s.lane l).accepting with retrain := true } else (s.lane l).accepting.train s.now) := by
  have hsends : (s.accepting l).laneSends l = s.laneSends l := by
    rw [State.laneSends, State.accepting_lane]
    rfl
  rw [State.laneMessage_of_up hup, State.laneRetrain_of_up (by rwa [State.accepting_lane]), State.accepting_setLane,
    State.accepting_lane, hsends]
  rfl

/-! LATCH_ACK (R310) -/

/-- The tile has acknowledged the FRAME. -/
def LaneSent.acked (x : LaneSent) (t : Nat) : List Nat := if x.acks.contains t then x.acks else x.acks ++ [t]

/-- The lane with the acknowledgement of a FRAME noted. -/
def LaneDyn.noteAck (d : LaneDyn) (x : LaneSent) (t : Nat) : LaneDyn :=
  { d with sent := d.sent.map fun y => if y.frame == x.frame then { y with acks := x.acked t } else y }

/-- The distance of an acknowledged latch from the expected one. -/
def LaneSent.latchDiff (x : LaneSent) (tb : Instant) (ageNs : Nat) : Int := tb - nsUnits ageNs - nsUnits x.cableNs - x.expect

/-- The distance stored at the canvas. -/
def State.noteLatch (s : State) (k : Nat) (diff : Int) : State :=
  s.setCanvas k { s.canvas k with latchDiffNs := roundDiv diff 65536 }

theorem State.noteLatch_canvas (s : State) (k : Nat) (diff : Int) :
    (s.noteLatch k diff).canvas k = { s.canvas k with latchDiffNs := roundDiv diff 65536 } := Map.getD_put_self _ _ _ _

variable {t frameLo ageNs : Nat} {x : LaneSent}

theorem State.latchAck_of_unknown (hup : (s.lane l).link = .up)
    (hfind : ((s.lane l).sent.find? fun x => x.frame % 4294967296 == frameLo) = none) :
    s.latchAck l t frameLo ageNs = s.accepting l := by
  have hsent : ((s.accepting l).lane l).sent = (s.lane l).sent := by rw [State.accepting_lane]; rfl
  simp only [State.latchAck, State.laneMessage_of_up hup, hsent, hfind]

/-- An acknowledgement of a FRAME that the lane remembers is noted, and its latch compared where the lane checks latches. -/
theorem State.latchAck_of_known (hup : (s.lane l).link = .up)
    (hfind : ((s.lane l).sent.find? fun x => x.frame % 4294967296 == frameLo) = some x) {u v : State}
    (hu : u = s.setLane l ((s.lane l).accepting.noteAck x t)) (hv : v = u.noteLatch x.canvas (x.latchDiff s.tb ageNs)) :
    s.latchAck l t frameLo ageNs = if !x.latchAck || !s.alive 8 x.canvas then u
      else if usUnits x.tolUs < absInt (x.latchDiff s.tb ageNs) then v.canvasEvent x.canvas 1 else v := by
  have hfind' : (((s.accepting l).lane l).sent.find? fun x => x.frame % 4294967296 == frameLo) = some x := by
    rw [State.accepting_lane]
    exact hfind
  have hnoted : (s.accepting l).setLane l (((s.accepting l).lane l).noteAck x t) = u := by
    rw [State.accepting_lane, State.accepting_setLane, hu]
  subst hv
  simp only [State.latchAck, State.laneMessage_of_up hup, hfind', ← hnoted]
  rfl

/-! The other messages -/

theorem State.tileTempRx_of_up (hup : (s.lane l).link = .up) (failed : Bool) (raw : Nat) :
    s.tileTempRx l t failed raw = (s.accepting l).tempReading (fun r => tsKind r == 2 && tsPort r == l && tsTile r == t)
      (fun _ => tileTemp (signed 16 (raw % 65536))) failed := State.laneMessage_of_up hup _

/-- A reading that one temperature source takes. -/
theorem State.tempReading_of_single {id : Nat} {r : Bytes} {p : Bytes → Bool} (htemps : s.txn.view.output.temps = [(id, r)])
    (hnamed : p r = true) (value : Bytes → F32) :
    (s.tempReading p value false).render.temps.getD id {}
      = { s.render.temps.getD id {} with value := value r, stamp := s.tb, invalid := false } := by
  simp only [State.tempReading, htemps, List.foldl_cons, List.foldl_nil, hnamed, if_true, Map.getD_put_self, Bool.false_eq_true, if_false]

/-- A tile's open or short is a back-channel safety fault (R332). -/
theorem State.tileFault_of_up (hup : (s.lane l).link = .up) (kind : Nat) :
    s.tileFault l t kind = ({ s.accepting l with render := { s.render with
      rawFaults := if kind = 1 ∨ kind = 2 then s.render.rawFaults ++ [.tile l t] else s.render.rawFaults } } : State).raise 0x83 := by
  refine (State.laneMessage_of_up hup _).trans (congrArg (State.raise · 0x83) ?_)
  simp only [Bool.or_eq_true, decide_eq_true_eq]
  split <;> rfl

theorem State.laneRxError_of_up (hup : (s.lane l).link = .up) :
    s.laneRxError l = (s.setLane l { s.lane l with counts := bump 4 (bump 1 (s.lane l).counts) }).raise 0x82 := by
  simp only [State.laneRxError, State.laneMessage_of_up hup, State.accepting_lane, State.accepting_setLane]
  rfl

/-- The echo of a TEST block settles the loopback test of its lane (R521). -/
theorem State.testEcho_of_up (hup : (s.lane l).link = .up) (frameLo crc : Nat) :
    s.testEcho l frameLo crc = { s.accepting l with group := { s.group with
      echoes := if crc = testCrc frameLo then s.group.echoes.filter (· != l) else s.group.echoes } } := by
  refine (State.laneMessage_of_up hup _).trans ?_
  split <;> rfl

theorem State.laneDiscard_of_on (h : (s.lane l).link ≠ .off) :
    s.laneDiscard l = s.setLane l { s.lane l with counts := bump 2 (s.lane l).counts } := if_neg h

theorem State.laneDiscard_of_off (h : (s.lane l).link = .off) : s.laneDiscard l = s := if_pos h

theorem State.tileMissing_of_none
    (hfind : ((s.lane l).sent.find? fun x => (s.lane l).misses t s.tb x && s.alive 8 x.canvas) = none) : s.tileMissing l t = s := by
  simp only [State.tileMissing, hfind]

/-- A missing acknowledgement is noted at its FRAME, and counts at the canvas (R310). -/
theorem State.tileMissing_of_some
    (hfind : ((s.lane l).sent.find? fun x => (s.lane l).misses t s.tb x && s.alive 8 x.canvas) = some x) :
    s.tileMissing l t = (s.setLane l { s.lane l with
      sent := (s.lane l).sent.map fun y => if y.frame == x.frame then { y with missed := y.missed ++ [t] } else y }).canvasEvent
        x.canvas 2 := by
  simp only [State.tileMissing, hfind]

end Messages

/-! ### LANE_PHY_SET (R372) -/

/-- The settings that a LANE_PHY_SET request carries. -/
def phyOf (p : Bytes) : LanePhy :=
  { backchannel := bit (fld p 1 1) 0, txInvert := bit (fld p 1 1) 1, rxInvert := bit (fld p 1 1) 2
    swing := fld p 2 1, deemph := fld p 3 1 }

/-- The lane with new settings. -/
def LaneDyn.withPhy (d : LaneDyn) (phy : LanePhy) : LaneDyn := { d with phy := phy }

theorem State.setLane_withPhy_lane (s : State) (l : Nat) (phy : LanePhy) :
    (s.setLane l ((s.lane l).withPhy phy)).lane l = (s.lane l).withPhy phy := State.setLane_lane (s.lane_waits l)

section LanePhySet

variable {c : Ctx} {t : State} {l : Nat}

/-- LANE_PHY_SET stores the settings, and the lane retrains with them. -/
theorem lanePhySet_body (hl : l = fld c.payload 0 1) :
    lanePhySetSpec.body c t = ((t.setLane l ((t.lane l).withPhy (phyOf c.payload))).laneRetrain l).ok := by
  subst hl
  rfl

/-- On a lane that is not UP only the settings change. -/
theorem lanePhySet_body_of_not_up (hl : l = fld c.payload 0 1) (hdown : (t.lane l).link ≠ .up) :
    lanePhySetSpec.body c t = (t.setLane l ((t.lane l).withPhy (phyOf c.payload))).ok := by
  rw [lanePhySet_body hl, State.laneRetrain_of_not_up (by rw [State.setLane_withPhy_lane]; exact hdown)]

/-- On an UP lane the settings and the retraining change the lane once. -/
theorem lanePhySet_body_of_up (hl : l = fld c.payload 0 1) (hup : (t.lane l).link = .up) :
    lanePhySetSpec.body c t = (t.setLane l (if t.laneSends l then { (t.lane l).withPhy (phyOf c.payload) with retrain := true }
      else ((t.lane l).withPhy (phyOf c.payload)).train t.now)).ok := by
  have hlane := t.setLane_withPhy_lane l (phyOf c.payload)
  rw [lanePhySet_body hl, State.laneRetrain_of_up (by rw [hlane]; exact hup), State.laneSends, hlane, State.setLane_setLane]
  rfl

end LanePhySet

/-! ### The statement -/

section Statement

variable {dt lane tileNo : Nat} {s : State}

/-- LANE_PHY_SET on an UP lane changes that lane alone. -/
theorem runs_lanePhySet_of_up {m : Nat} {t : State} {e : ExecReq} {c : Ctx} {p : Bytes} {d : LaneDyn}
    (h : Running lanePhySetSpec m dt s e c t p) (hup : (t.lane (fld p 0 1)).link = .up)
    (hd : (if t.laneSends (fld p 0 1) then { (t.lane (fld p 0 1)).withPhy (phyOf p) with retrain := true }
      else ((t.lane (fld p 0 1)).withPhy (phyOf p)).train t.now) = d) (hwaits : d.Waits t.tb) :
    Runs (.lanePhySet dt m) s fun u =>
      u.lane (fld p 0 1) = d ∧ (∀ k, k ≠ fld p 0 1 → u.ports.lanes.getD k {} = t.ports.lanes.getD k {})
        ∧ u.render = t.render ∧ u.clock = t.clock := by
  obtain ⟨-, -, -, hp⟩ := running_state h
  have hbody := lanePhySet_body_of_up (c := c) (l := fld p 0 1) (by rw [hp]) hup
  rw [← hp, hd] at hbody
  have hset := State.setLane_lane (l := fld p 0 1) hwaits
  refine ⟨_, running_act h hbody, ?_, fun k hk => ?_, ?_, ?_⟩
  · rw [State.lane, State.tb, State.now, State.settle_ports, State.settle_time]
    simp only [State.finish_frame]
    exact hset
  · rw [State.settle_ports]
    simp only [State.finish_frame]
    exact t.setLane_others hk d
  · simp only [State.settle_render, State.finish_frame, State.setLane_render]
  · simp only [State.settle_clock, State.finish_frame, State.setLane_clock]

/-- LATCH_ACK of a FRAME whose latch is checked: the lane notes the tile, and the canvas the distance. -/
theorem runs_latchAck_of_checked {frameLo ageNs : Nat} {x : LaneSent} (hup : ((s.tick dt).lane lane).link = .up)
    (hfind : (((s.tick dt).lane lane).sent.find? fun x => x.frame % 4294967296 == frameLo) = some x) (hchecks : x.latchAck = true)
    (halive : s.alive 8 x.canvas = true) :
    Runs (.latchAck dt lane tileNo frameLo ageNs) s fun t =>
      t.ports.lanes.getD lane {} = ((s.tick dt).lane lane).accepting.noteAck x tileNo
        ∧ t.canvas x.canvas = { s.canvas x.canvas with
            latchDiffNs := roundDiv (x.latchDiff (s.tick dt).tb ageNs) 65536
            counts := if usUnits x.tolUs < absInt (x.latchDiff (s.tick dt).tb ageNs) then bump 1 (s.canvas x.canvas).counts
              else (s.canvas x.canvas).counts }
        ∧ t.clock = s.clock ∧ t.txn = s.txn ∧ t.mem = s.mem ∧ t.fns = s.fns := by
  have hack := State.latchAck_of_known (t := tileNo) (ageNs := ageNs) hup hfind rfl rfl
  rw [if_neg (by rw [hchecks, show (s.tick dt).alive 8 x.canvas = true from halive]; exact Bool.false_ne_true)] at hack
  obtain ⟨hports, hclock, htxn, hmem, hfns⟩ := State.canvasEvent_ite_frame (((s.tick dt).setLane lane
    (((s.tick dt).lane lane).accepting.noteAck x tileNo)).noteLatch x.canvas (x.latchDiff (s.tick dt).tb ageNs)) x.canvas 1
      (usUnits x.tolUs < absInt (x.latchDiff (s.tick dt).tb ageNs))
  refine ⟨_, next_settle_congr hack, ?_, ?_, ?_, ?_, ?_, ?_⟩
  · rw [State.settle_ports, hports]
    exact Map.getD_put_self _ _ _ _
  · rw [State.canvas, State.settle_render]
    refine (State.canvasEvent_ite_canvas _ _ _ _).trans ?_
    rw [State.noteLatch_canvas]
    rfl
  · exact (State.settle_clock _).trans hclock
  · exact (State.settle_txn _).trans htxn
  · exact (State.settle_mem _).trans hmem
  · exact (State.settle_fns _).trans hfns

/-- FAULT on an UP lane counts the message and raises TILE_FAULT. -/
theorem runs_fault_of_up {kind : Nat} {faults : List RawFault} (hup : ((s.tick dt).lane lane).link = .up)
    (hfaults : (if kind = 1 ∨ kind = 2 then s.render.rawFaults ++ [.tile lane tileNo] else s.render.rawFaults) = faults) :
    Runs (.fault dt lane tileNo kind) s fun t =>
      t.render.rawFaults = faults ∧ (t.icu.src 0x83).count = (s.icu.src 0x83).count + 1
        ∧ (t.ports.lanes.getD lane {}).counts = bump 1 ((s.tick dt).lane lane).counts ∧ t.clock = s.clock ∧ t.txn = s.txn
        ∧ t.mem = s.mem ∧ t.fns = s.fns := by
  subst hfaults
  refine ⟨_, next_settle_congr (State.tileFault_of_up hup kind), ?_, ?_, ?_, ?_, ?_, ?_, ?_⟩
  · exact congrArg RenderState.rawFaults (State.settle_render _)
  · exact State.raise_settle_count _ 0x83 (by decide) (by decide)
  · rw [State.settle_ports]
    exact (s.tick dt).accepting_counts lane
  · exact State.settle_clock _
  · exact State.settle_txn _
  · exact State.settle_mem _
  · exact State.settle_fns _

/-- TEST_ECHO on an UP lane settles the loopback test where the CRC is that of the TEST block. -/
theorem runs_testEcho_of_up {frameLo crc : Nat} (hup : ((s.tick dt).lane lane).link = .up) :
    Runs (.testEcho dt lane frameLo crc) s fun t =>
      t.group.echoes = (if crc = testCrc frameLo then s.group.echoes.filter (· ≠ lane) else s.group.echoes)
        ∧ (t.ports.lanes.getD lane {}).counts = bump 1 ((s.tick dt).lane lane).counts ∧ t.render = s.render ∧ t.clock = s.clock
        ∧ t.txn = s.txn ∧ t.mem = s.mem ∧ t.fns = s.fns := by
  refine ⟨_, next_settle_congr (State.testEcho_of_up hup frameLo crc), ?_, ?_, ?_, ?_, ?_, ?_, ?_⟩
  · rw [State.settle_group]
    simp only [ne_eq, decide_not]
    rfl
  · rw [State.settle_ports]
    exact (s.tick dt).accepting_counts lane
  · exact State.settle_render _
  · exact State.settle_clock _
  · exact State.settle_txn _
  · exact State.settle_mem _
  · exact State.settle_fns _

end Statement

/-- Settles O45: a lane moves between its link states when its time or its back-channel says so, and each message acts on an UP lane. -/
theorem laneLinksAndBackChannel : Obligations.LaneLinksAndBackChannel := by
  refine ⟨fun dt lane u s hu hlink hdue => exec_laneTrained_eq (hu ▸ State.laneTrained_of_due hlink hdue),
    fun dt lane s h => exec_laneTrained_eq (State.laneTrained_of_not_due h),
    fun dt lane s hlink hquiet hdue => ?trainFail, fun dt lane s h => exec_laneTrainTimeout_eq (State.laneTrainTimeout_of_not_due h),
    fun dt lane s hup hback hover => next_settle_congr ?lossIdle, fun dt lane x s hup hback hend hlt => next_settle_congr ?lossSending,
    fun dt lane s h => next_settle_congr (State.laneLinkLoss_of_off h),
    fun dt lane s hup hover => next_settle_congr ?retrainNow, fun dt lane x s hup hend hlt => next_settle_congr ?retrainLater,
    fun dt m s t e c p h hdown => ?phyDown, fun dt m s t e c p h hup hend => ?phyNow, fun dt m s t e c p h hup hend => ?phyLater,
    fun dt lane tileNo frameLo ageNs x s hup hfind hchecks halive => ?ackChecked,
    fun dt lane tileNo frameLo ageNs x s hup hfind h => next_settle_congr ?ackUnchecked,
    fun dt lane tileNo frameLo ageNs s hup hfind => next_settle_congr (State.latchAck_of_unknown hup hfind),
    fun dt lane tileNo frameLo ageNs s h => next_settle_congr (State.laneMessage_of_not_up h _),
    fun dt lane tileNo x s hfind => next_settle_congr (State.tileMissing_of_some (s := s.tick dt) hfind),
    fun dt lane tileNo s hfind => next_settle_congr (State.tileMissing_of_none (s := s.tick dt) hfind),
    fun dt lane tileNo failed raw s hup => next_settle_congr (State.tileTempRx_of_up hup failed raw),
    fun dt lane tileNo failed raw s h => next_settle_congr (State.laneMessage_of_not_up h _),
    fun dt lane tileNo raw id r s hup htemps hkind hport htile => ?reading,
    fun dt lane tileNo kind s hup hkind => runs_fault_of_up hup (if_pos hkind),
    fun dt lane tileNo kind s hup hopen hshort => runs_fault_of_up hup (if_neg (not_or.mpr ⟨hopen, hshort⟩)),
    fun dt lane s hup => next_settle_congr (State.laneRxError_of_up hup),
    fun dt lane s h => next_settle_congr (State.laneMessage_of_not_up h _),
    fun dt lane frameLo crc s hup => runs_testEcho_of_up hup,
    fun dt lane s h => next_settle_congr (State.laneDiscard_of_on h), fun dt lane s h => next_settle_congr (State.laneDiscard_of_off h)⟩
  case trainFail =>
    have hlane : (((s.tick dt).setLane lane { (s.tick dt).lane lane with failRaised := true }).raise 0x80).lane lane
        = { (s.tick dt).lane lane with failRaised := true } := State.setLane_lane ((s.tick dt).lane_waits lane)
    rw [exec_laneTrainTimeout_eq (State.laneTrainTimeout_of_due hlink hquiet hdue), hlane]
    rfl
  case lossIdle => exact State.laneLinkLoss_of_up hup hback (if_neg (by rw [State.laneSends_of_over hover]; exact Bool.false_ne_true))
  case lossSending =>
    refine (State.laneLinkLoss_of_up hup hback (if_pos (State.laneSends_iff.mpr ⟨x, hend, hlt⟩))).trans ?_
    have hlane : (((s.tick dt).flushLane lane).emit (.laneCut lane (s.tick dt).tb)).lane lane
        = { (s.tick dt).lane lane with rolling := none } := (s.tick dt).flushLane_lane lane
    have hnow : (((s.tick dt).flushLane lane).emit (.laneCut lane (s.tick dt).tb)).now = (s.tick dt).now := by
      simp only [State.now, State.emit_time, State.flushLane_frame]
    rw [hlane, hnow]
    rfl
  case retrainNow =>
    refine (State.laneMessage_retrain hup).trans ?_
    rw [State.laneSends_of_over hover]
    rfl
  case retrainLater =>
    refine (State.laneMessage_retrain hup).trans ?_
    rw [State.laneSends_iff.mpr ⟨x, hend, hlt⟩]
    rfl
  case phyDown =>
    obtain ⟨-, -, -, rfl⟩ := running_state h
    exact running_act h (lanePhySet_body_of_not_up rfl hdown)
  case phyNow =>
    have hover : t.laneSends (fld p 0 1) = false := by
      refine State.laneSends_of_over fun x hx => ?_
      rw [hx] at hend
      exact of_decide_eq_true hend
    exact runs_lanePhySet_of_up h hup (if_neg (Bool.eq_false_iff.mp hover)) nofun
  case phyLater => exact runs_lanePhySet_of_up h hup (if_pos hend) fun _ => State.laneSends_iff.mp hend
  case ackChecked =>
    obtain ⟨t, hexec, hlane, hcanvas, hrest⟩ :=
      runs_latchAck_of_checked (tileNo := tileNo) (ageNs := ageNs) hup hfind hchecks halive
    refine ⟨t, hexec, ?_⟩
    dsimp only
    rw [hlane, hcanvas]
    exact ⟨rfl, rfl, rfl, rfl, hrest⟩
  case ackUnchecked =>
    refine (State.latchAck_of_known hup hfind rfl rfl).trans (if_pos ?_)
    rw [Bool.or_eq_true, Bool.not_eq_true', Bool.not_eq_true']
    exact h
  case reading =>
    refine ⟨_, next_settle_congr (State.tileTempRx_of_up hup false raw), ?_⟩
    have hnamed : (tsKind r == 2 && tsPort r == lane && tsTile r == tileNo) = true := by
      simp only [hkind, hport, htile, beq_self_eq_true, Bool.and_self]
    dsimp only
    rw [State.settle_render]
    exact State.tempReading_of_single (s := (s.tick dt).accepting lane) htemps hnamed _

end Sys2Proof.Machine
end

section
/-!
PROOFS. Local PWM outputs (R332, R336, R365 to R369): where periods begin, the value that each one loads, and how open loads are sensed.
-/

namespace Sys2Proof.Machine

/-! ### The grid of an output (R365 to R367) -/

/-- The latest period start is the last count of the grid that has come. -/
theorem PwmCfg.startAt_some {c : PwmCfg} (hdiv : 0 < c.divider) {j n k : Nat} (h : c.startAt j n = some k) :
    k ≤ n ∧ k % c.period = c.offsetOf j % c.period ∧ n < k + c.period := by
  have hpos : 0 < c.period := Nat.mul_pos (Nat.two_pow_pos _) hdiv
  unfold PwmCfg.startAt at h
  dsimp only at h
  split at h
  · cases h
  next hcome =>
    rw [Nat.max_eq_right hpos] at h
    obtain rfl := Option.some.inj h
    have hlt := Nat.mod_lt (n - c.offsetOf j) hpos
    have hle := Nat.mod_le (n - c.offsetOf j) c.period
    have hdivmod := Nat.div_add_mod (n - c.offsetOf j) c.period
    have hstart : n - (n - c.offsetOf j) % c.period = c.offsetOf j + c.period * ((n - c.offsetOf j) / c.period) := by omega
    refine ⟨Nat.sub_le _ _, ?_, by omega⟩
    rw [hstart, Nat.add_mul_mod_self_left]

/-! ### The value that a period loads (R336, R366) -/

/-- A load changes the value held and the values that wait, and nothing else. -/
theorem PwmDyn.load_eq (d : PwmDyn) (tb : Instant) : ∃ value loads, d.load tb = { d with value := value, loads := loads } := by
  unfold PwmDyn.load
  split
  · exact ⟨d.value, d.loads, rfl⟩
  · exact ⟨_, _, rfl⟩

/-- The newest value that has come is loaded, and the values that still wait have not come. -/
theorem PwmDyn.load_newest {d : PwmDyn} {tb : Instant} {x : PwmLoad}
    (h : (d.loads.filter fun x => decide (x.at_ < tb + tickUnits)).getLast? = some x) :
    (d.load tb).value = some (x.width, x.value) ∧ ∀ y ∈ (d.load tb).loads, tb + tickUnits ≤ y.at_ := by
  have hload : d.load tb = { d with
      value := some (x.width, x.value), loads := d.loads.filter fun y => decide (tb + tickUnits ≤ y.at_) } := by
    simp only [PwmDyn.load, h]
  rw [hload]
  exact ⟨rfl, fun y hy => of_decide_eq_true (List.mem_filter.mp hy).2⟩

/-! ### Period starts (R365, R367, R368) -/

section Periods

variable {s : State} {j n : Nat}

/-- Output `j` begins the period of count `n` as `d`: it loads its value, and drives it while the output is its own business. -/
def State.pwmBegin (s : State) (j n : Nat) (d : PwmDyn) : State :=
  let drives := s.enabled 5 j && s.emits
  (s.setPwm j { d.load s.tb with lastStart := some n, running := drives, sensed := false }).emit
    (.pwm j s.tb (if drives then (d.load s.tb).active else 0))

theorem State.pwmPeriodStart_of_not_due (h : s.pwmDue j = none) : s.pwmPeriodStart j = s := by
  simp only [State.pwmPeriodStart, h]

theorem State.pwmPeriodStart_of_unchanged (hdue : s.pwmDue j = some n) (hchange : (s.pwmOut j).change = none) :
    s.pwmPeriodStart j = s.pwmBegin j n (s.pwmOut j) := by
  simp only [State.pwmPeriodStart, hdue, hchange, Option.elim_none]
  rfl

/-- New settings with the same grid come into force with the period that begins. -/
theorem State.pwmPeriodStart_of_same_grid {k : PwmCfg} (hdue : s.pwmDue j = some n) (hchange : (s.pwmOut j).change = some k)
    (hbits : k.bitCount = (s.pwmOut j).cfg.bitCount) (hdiv : k.divider = (s.pwmOut j).cfg.divider)
    (hoffset : k.offset = (s.pwmOut j).cfg.offset) :
    s.pwmPeriodStart j = s.pwmBegin j n { s.pwmOut j with cfg := k, change := none } := by
  simp only [State.pwmPeriodStart, hdue, hchange, Option.filter_some, hbits, hdiv, hoffset, beq_self_eq_true, Bool.and_self, if_true,
    Option.elim_some]
  rfl

theorem State.pwmBegin_of_driving (hon : s.enabled 5 j = true) (hemits : s.emits = true) (d : PwmDyn) :
    s.pwmBegin j n d = (s.setPwm j { d.load s.tb with lastStart := some n, running := true, sensed := false }).emit
      (.pwm j s.tb (d.load s.tb).active) := by
  simp only [State.pwmBegin, hon, hemits, Bool.and_self, if_true]

/-- A DISABLED output, and one of a Tango standby, stay inactive (R332). -/
theorem State.pwmBegin_of_inactive (h : s.enabled 5 j = false ∨ s.emits = false) (d : PwmDyn) :
    s.pwmBegin j n d = (s.setPwm j { d.load s.tb with lastStart := some n, running := false, sensed := false }).emit (.pwm j s.tb 0) := by
  have hdrives : (s.enabled 5 j && s.emits) = false := Bool.and_eq_false_iff.mpr h
  simp only [State.pwmBegin, hdrives, Bool.false_eq_true, if_false]

theorem runs_pwmPeriodStart_of_same_grid {dt : Nat} {k : PwmCfg} (hdue : (s.tick dt).pwmDue j = some n)
    (hchange : ((s.tick dt).pwmOut j).change = some k) (hbits : k.bitCount = ((s.tick dt).pwmOut j).cfg.bitCount)
    (hdiv : k.divider = ((s.tick dt).pwmOut j).cfg.divider) (hoffset : k.offset = ((s.tick dt).pwmOut j).cfg.offset)
    (hon : s.enabled 5 j = true) (hemits : s.emits = true) :
    Runs (.pwmPeriodStart dt j) s fun t =>
      (t.ports.pwm.getD j {}).cfg = k ∧ (t.ports.pwm.getD j {}).change = none ∧ (t.ports.pwm.getD j {}).lastStart = some n
        ∧ (t.ports.pwm.getD j {}).running = true ∧ (∃ new a, t.out = new ++ .pwm j (s.tick dt).tb a :: s.out)
        ∧ t.render = s.render ∧ t.clock = s.clock := by
  have hbegin := (State.pwmPeriodStart_of_same_grid hdue hchange hbits hdiv hoffset).trans
    (State.pwmBegin_of_driving (s := s.tick dt) hon hemits _)
  obtain ⟨value, loads, hload⟩ := PwmDyn.load_eq { (s.tick dt).pwmOut j with cfg := k, change := none } (s.tick dt).tb
  refine ⟨_, next_settle_congr hbegin, ?_⟩
  simp only [State.settle_ports, State.settle_render, State.settle_clock, State.emit_ports, State.setPwm_ports, Map.getD_put_self, hload,
    true_and]
  exact ⟨(State.settle_out _).imp fun new hnew => ⟨_, hnew⟩, rfl, rfl⟩

end Periods

/-! ### Open-load sense (R369) -/

section Sense

variable {s : State} {j : Nat}

/-- The period of output `j` is tested: it is sensed for the first time, at its delay, and lasts 0.2 µs longer. -/
def State.pwmTests (s : State) (j : Nat) : Bool :=
  bit (s.pwmOut j).cfg.flags 1 && (s.pwmOut j).running && !(s.pwmOut j).sensed
    && (s.pwmOut j).cfg.senseCounts + 40 ≤ (s.pwmOut j).active
    && (s.pwmOut j).lastStart.getD 0 + (s.pwmOut j).cfg.senseCounts ≤ s.pwmCount && s.enabled 5 j && s.emits

theorem State.pwmTests_of_all (hflag : bit (s.pwmOut j).cfg.flags 1 = true) (hrunning : (s.pwmOut j).running = true)
    (hunsensed : (s.pwmOut j).sensed = false) (hlasts : (s.pwmOut j).cfg.senseCounts + 40 ≤ (s.pwmOut j).active)
    (hcome : (s.pwmOut j).lastStart.getD 0 + (s.pwmOut j).cfg.senseCounts ≤ s.pwmCount) (hon : s.enabled 5 j = true)
    (hemits : s.emits = true) : s.pwmTests j = true := by
  simp only [State.pwmTests, hflag, hrunning, hunsensed, hlasts, hcome, hon, hemits, decide_true, Bool.not_false, Bool.and_self]

theorem State.pwmTests_of_not (h : bit (s.pwmOut j).cfg.flags 1 = false ∨ (s.pwmOut j).running = false
    ∨ (s.pwmOut j).sensed = true ∨ (s.pwmOut j).active < (s.pwmOut j).cfg.senseCounts + 40) : s.pwmTests j = false := by
  rcases h with h | h | h | h
  · simp only [State.pwmTests, h, Bool.false_and]
  · simp only [State.pwmTests, h, Bool.and_false, Bool.false_and]
  · simp only [State.pwmTests, h, Bool.not_true, Bool.and_false, Bool.false_and]
  · simp only [State.pwmTests, decide_eq_false (Nat.not_le.mpr h), Bool.and_false, Bool.false_and]

/-- The output after a sample that ends in the sense count `run`. -/
def PwmDyn.sample (d : PwmDyn) (run : Nat) : PwmDyn := { d with sensed := true, tested := d.tested + 1, senseRun := run }

/-- The output after the sample of a detection in `frame`. -/
def PwmDyn.detect (d : PwmDyn) (frame : Nat) : PwmDyn :=
  { d.sample 4 with detectFrame := some frame, detections := d.detections + 1 }

theorem State.pwmSense_of_untested (h : s.pwmTests j = false) (current : Bool) : s.pwmSense j current = s :=
  if_pos (congrArg (!·) h)

/-- A sample that leaves fewer than four steps in a row is noted, and is no detection. -/
theorem State.pwmSense_of_few (htests : s.pwmTests j = true) {current : Bool} {run : Nat}
    (hrun : (if current then 0 else (s.pwmOut j).senseRun + 1) = run) (hfew : run < 4) :
    s.pwmSense j current = s.setPwm j ((s.pwmOut j).sample run) := by
  have hfour : (run == 4) = false := beq_false_of_ne (Nat.ne_of_lt hfew)
  have hmore : decide (4 < run) = false := decide_eq_false (Nat.not_lt.mpr (Nat.le_of_lt hfew))
  refine (if_neg (Bool.eq_false_iff.mp (congrArg (!·) htests))).trans ?_
  simp only [hrun, hfour, hmore, Bool.false_and, Bool.or_self, Bool.false_eq_true, if_false]
  rfl

/-- The fourth step in a row is a detection: an open-load fault, and PWM_OPEN_LOAD. -/
theorem State.pwmSense_of_fourth (htests : s.pwmTests j = true) (hthree : (s.pwmOut j).senseRun = 3) :
    s.pwmSense j false = ({ s.setPwm j ((s.pwmOut j).detect s.frameNow) with render :=
      { s.render with rawFaults := s.render.rawFaults ++ [.pwm j] } } : State).raise 0x84 := by
  refine (if_neg (Bool.eq_false_iff.mp (congrArg (!·) htests))).trans ?_
  simp only [hthree, Bool.false_eq_true, if_false, Nat.reduceAdd, beq_self_eq_true, Bool.true_or, if_true]
  rfl

variable {dt : Nat} {current : Bool}

theorem runs_pwmSenseSample_of_few (htests : (s.tick dt).pwmTests j = true) {run : Nat}
    (hrun : (if current then 0 else ((s.tick dt).pwmOut j).senseRun + 1) = run) (hfew : run < 4) :
    Runs (.pwmSenseSample dt j current) s fun t =>
      t.ports.pwm.getD j {} = ((s.tick dt).pwmOut j).sample run ∧ t.render = s.render ∧ t.clock = s.clock := by
  refine ⟨_, next_settle_congr (State.pwmSense_of_few htests hrun hfew), ?_⟩
  simp only [State.settle_ports, State.settle_render, State.settle_clock, State.setPwm_ports, Map.getD_put_self, true_and]
  exact ⟨rfl, rfl⟩

theorem runs_pwmSenseSample_of_fourth (htests : (s.tick dt).pwmTests j = true) (hthree : ((s.tick dt).pwmOut j).senseRun = 3) :
    Runs (.pwmSenseSample dt j false) s fun t =>
      t.ports.pwm.getD j {} = ((s.tick dt).pwmOut j).detect (s.tick dt).frameNow ∧ t.render.rawFaults = s.render.rawFaults ++ [.pwm j]
        ∧ (t.icu.src 0x84).count = (s.icu.src 0x84).count + 1 := by
  refine ⟨_, next_settle_congr (State.pwmSense_of_fourth htests hthree), ?_, ?_, State.raise_settle_count _ 0x84 (by decide) rfl⟩
  · simp only [State.settle_ports, State.raise_ports, State.setPwm_ports, Map.getD_put_self]
  · rw [State.settle_render, State.raise_render]
    rfl

end Sense

/-- Settles O47: a period begins on the grid of its output and loads the newest value that has come, and four samples in a row without
load current are a detection. -/
theorem localPwmOutputs : Obligations.LocalPwmOutputs := by
  refine ⟨fun dt output n s hdue hchange hon hemits => ?driving, fun dt output n s hdue hchange h => ?inactive,
    fun dt output n k s => runs_pwmPeriodStart_of_same_grid,
    fun dt output s h => next_settle_congr (State.pwmPeriodStart_of_not_due h),
    fun output c n k w v hdiv => ⟨PwmCfg.startAt_some hdiv, Nat.mul_comm _ _⟩, fun d tb x => PwmDyn.load_newest,
    fun dt output s hflag hrunning hunsensed hlasts hcome hon hemits => ?current,
    fun dt output s hflag hrunning hunsensed hlasts hcome hon hemits hthree => ?fourth,
    fun dt output s hflag hrunning hunsensed hlasts hcome hon hemits hfew => ?step,
    fun dt output current s h => next_settle_congr (State.pwmSense_of_untested (State.pwmTests_of_not h) current)⟩
  case driving =>
    exact next_settle_congr ((State.pwmPeriodStart_of_unchanged hdue hchange).trans
      (State.pwmBegin_of_driving (s := s.tick dt) hon hemits _))
  case inactive =>
    exact next_settle_congr ((State.pwmPeriodStart_of_unchanged hdue hchange).trans (State.pwmBegin_of_inactive (s := s.tick dt) h _))
  case current =>
    obtain ⟨t, hexec, hpwm, hrest⟩ := runs_pwmSenseSample_of_few (current := true)
      (State.pwmTests_of_all (s := s.tick dt) hflag hrunning hunsensed hlasts hcome hon hemits) rfl (Nat.succ_pos 3)
    refine ⟨t, hexec, ?_⟩
    dsimp only
    rw [hpwm]
    exact ⟨rfl, rfl, rfl, rfl, hrest⟩
  case fourth =>
    obtain ⟨t, hexec, hpwm, hrest⟩ := runs_pwmSenseSample_of_fourth
      (State.pwmTests_of_all (s := s.tick dt) hflag hrunning hunsensed hlasts hcome hon hemits) hthree
    refine ⟨t, hexec, ?_⟩
    dsimp only
    rw [hpwm]
    exact ⟨rfl, rfl, rfl, hrest⟩
  case step =>
    obtain ⟨t, hexec, hpwm, hrender, -⟩ := runs_pwmSenseSample_of_few (current := false)
      (State.pwmTests_of_all (s := s.tick dt) hflag hrunning hunsensed hlasts hcome hon hemits) rfl (Nat.add_lt_add_right hfew 1)
    refine ⟨t, hexec, ?_⟩
    dsimp only
    rw [hpwm]
    exact ⟨rfl, rfl, hrender⟩

end Sys2Proof.Machine
end

section
/-!
PROOFS. The record of an Ethernet port, its counters and its queue (R389, R391), and its link (R375 to R377, R534).
-/

namespace Sys2Proof.Machine

/-! ### A port after a change -/

@[simp] theorem State.setPort_port (s : State) (p : Nat) (x : NetPort) : (s.setPort p x).port p = x := Map.getD_put_self _ _ _ _

theorem State.setPort_others {p q : Nat} (h : q ≠ p) (s : State) (x : NetPort) : (s.setPort p x).port q = s.port q :=
  (Map.getD_put _ _ _ _ _).trans (if_neg h)

theorem State.setPort_setPort (s : State) (p : Nat) (x y : NetPort) : (s.setPort p x).setPort p y = s.setPort p y := by
  simp only [State.setPort, Map.put_put]

theorem State.settle_port (s : State) (p : Nat) : s.settle.port p = s.port p := by rw [State.port, State.settle_net, State.port]

theorem State.settle_netRing (s : State) (k : Nat) : s.settle.netRing k = s.netRing k := by
  rw [State.netRing, State.settle_net, State.netRing]

theorem State.settle_ring (s : State) (r : Nat) : s.settle.ring r = s.ring r := by rw [State.ring, State.settle_host, State.ring]

/-- From `s` to `t` port `p` alone changes, and is `x` then. -/
structure State.PortTo (s : State) (p : Nat) (x : NetPort) (t : State) : Prop where
  port : t.port p = x
  others : ∀ q, q ≠ p → t.port q = s.port q

namespace State.PortTo

variable {s t u : State} {p : Nat} {x y : NetPort}

theorem setPort (s : State) (p : Nat) (x : NetPort) : s.PortTo p x (s.setPort p x) :=
  ⟨s.setPort_port p x, fun _ hq => State.setPort_others hq s x⟩

theorem refl (s : State) (p : Nat) : s.PortTo p (s.port p) s := ⟨rfl, fun _ _ => rfl⟩

theorem trans (h : s.PortTo p x t) (h' : t.PortTo p y u) : s.PortTo p y u :=
  ⟨h'.port, fun q hq => (h'.others q hq).trans (h.others q hq)⟩

theorem of_ports (h : s.PortTo p x t) (hports : u.net.ports = t.net.ports) : s.PortTo p x u := by
  have hport : ∀ q, u.port q = t.port q := fun q => by rw [State.port, hports, State.port]
  exact ⟨(hport p).trans h.port, fun q hq => (hport q).trans (h.others q hq)⟩

/-- What leaves the Ethernet state leaves every port. -/
theorem of_net (h : s.PortTo p x t) (hnet : u.net = t.net) : s.PortTo p x u := h.of_ports (congrArg NetState.ports hnet)

end State.PortTo

/-! ### Counters (R391) -/

/-- Counters that advance change nothing else of the port. -/
theorem NetPort.countAll_eq (l : List (Nat × Nat)) (x : NetPort) :
    ∃ counters half, (x.countAll l).1 = { x with counters := counters, half := half } := by
  have hfold : ∀ (l : List (Nat × Nat)) (a : NetPort × Bool), ∃ counters half,
      (l.foldl (fun acc e => ((acc.1.count e.1 e.2).1, acc.2 || (acc.1.count e.1 e.2).2)) a).1
        = { a.1 with counters := counters, half := half } := by
    intro l
    induction l with
    | nil => exact fun a => ⟨_, _, rfl⟩
    | cons e l ih =>
      intro a
      obtain ⟨counters, half, h⟩ := ih ((a.1.count e.1 e.2).1, a.2 || (a.1.count e.1 e.2).2)
      exact ⟨counters, half, h⟩
  exact hfold l (x, false)

theorem State.countPort_portTo (s : State) (p : Nat) (l : List (Nat × Nat)) :
    ∃ counters half, s.PortTo p { s.port p with counters := counters, half := half } (s.countPort p l) := by
  obtain ⟨counters, half, h⟩ := NetPort.countAll_eq l (s.port p)
  exact ⟨counters, half, h ▸ (State.PortTo.setPort s p _).of_net (State.raiseIf_net _ _ _)⟩

theorem State.countPort_rings (s : State) (p : Nat) (l : List (Nat × Nat)) : (s.countPort p l).net.rings = s.net.rings := by
  rw [State.countPort, State.raiseIf_net]
  rfl

/-- From `s` to `t` counters of port `p` advance, and interrupts may be raised for that. -/
structure State.CountsAt (s : State) (p : Nat) (t : State) : Prop where
  port : ∃ counters half, s.PortTo p { s.port p with counters := counters, half := half } t
  rings : t.net.rings = s.net.rings
  host : t.host = s.host
  txn : t.txn = s.txn
  clock : t.clock = s.clock
  time : t.time = s.time
  group : t.group = s.group
  mem : t.mem = s.mem
  out : t.out = s.out

theorem State.CountsAt.refl (s : State) (p : Nat) : s.CountsAt p s :=
  ⟨⟨_, _, State.PortTo.refl s p⟩, rfl, rfl, rfl, rfl, rfl, rfl, rfl, rfl⟩

theorem State.CountsAt.trans {s t u : State} {p : Nat} (h : s.CountsAt p t) (h' : t.CountsAt p u) : s.CountsAt p u := by
  obtain ⟨_, _, hport⟩ := h.port
  obtain ⟨counters, half, hport'⟩ := h'.port
  rw [hport.port] at hport'
  exact ⟨⟨counters, half, hport.trans hport'⟩, h'.rings.trans h.rings, h'.host.trans h.host, h'.txn.trans h.txn,
    h'.clock.trans h.clock, h'.time.trans h.time, h'.group.trans h.group, h'.mem.trans h.mem, h'.out.trans h.out⟩

theorem State.countPort_countsAt (s : State) (p : Nat) (l : List (Nat × Nat)) : s.CountsAt p (s.countPort p l) := by
  refine ⟨s.countPort_portTo p l, s.countPort_rings p l, ?_, ?_, ?_, ?_, ?_, ?_, ?_⟩
  all_goals simp only [State.countPort_frame]

/-- A port that was counted at is on record, so that setting it to what it is changes nothing. -/
theorem State.countPort_setPort_port (s : State) (p : Nat) (l : List (Nat × Nat)) :
    (s.countPort p l).setPort p ((s.countPort p l).port p) = s.countPort p l := by
  have hset (u : State) (x : NetPort) (b : Bool) (n : Nat) :
      ((u.setPort p x).raiseIf b n).setPort p (((u.setPort p x).raiseIf b n).port p) = (u.setPort p x).raiseIf b n := by
    cases b with
    | false => exact (congrArg ((u.setPort p x).setPort p) (u.setPort_port p x)).trans (u.setPort_setPort p x x)
    | true =>
      have hx : ((u.setPort p x).raise n).port p = x := u.setPort_port p x
      exact (congrArg (((u.setPort p x).raise n).setPort p) hx).trans (congrArg (·.raise n) (u.setPort_setPort p x x))
  exact hset s _ _ _

/-! ### Frames queued on a port (R389) -/

/-- The frame that an engine queues on a port, for a transmit ring. -/
def NetPort.ownFrame (x : NetPort) (ring : Nat) (bs : Bytes) : TxFrame := { bytes := bs, protect := x.protects, ring := ring }

/-- A port with frames queued behind its own. -/
def NetPort.queueing (x : NetPort) (fs : List TxFrame) : NetPort := { x with otherQueue := x.otherQueue ++ fs }

/-- Frames of an engine queued on a port stand behind those that wait, in order. -/
theorem State.foldl_queueOther_portTo {α : Type} (g : NetPortCfg → α → Bytes) (p ring : Nat) (l : List α) (s : State) :
    s.PortTo p ((s.port p).queueing (l.map fun e => (s.port p).ownFrame ring (g (s.port p).cfg e)))
      (l.foldl (fun s e => s.queueOther p ring (g (s.port p).cfg e)) s) := by
  induction l generalizing s with
  | nil =>
    rw [List.map_nil, NetPort.queueing, List.append_nil]
    exact State.PortTo.refl s p
  | cons e l ih =>
    have hone : s.PortTo p ((s.port p).queueing [(s.port p).ownFrame ring (g (s.port p).cfg e)])
        (s.queueOther p ring (g (s.port p).cfg e)) := State.PortTo.setPort s p _
    have hall := hone.trans (ih _)
    rw [hone.port] at hall
    rw [List.foldl_cons, List.map_cons]
    simpa only [NetPort.queueing, NetPort.ownFrame, NetPort.protects, List.append_assoc, List.singleton_append] using hall

/-- Reports queue frames on their port alone. -/
theorem State.reportAll_portTo (s : State) (p : Nat) (v4 v6 : Bool) :
    ∃ fs, s.PortTo p ((s.port p).queueing fs) (s.reportAll p v4 v6) := by
  unfold State.reportAll State.reportGroups
  dsimp only
  split
  · refine ⟨[], ?_⟩
    rw [NetPort.queueing, List.append_nil]
    exact State.PortTo.refl s p
  · exact ⟨_, State.foldl_queueOther_portTo (fun _ bs => bs) p 61 _ s⟩

/-! ### Links (R375 to R377, R534) -/

section Links

variable {s : State} {p mbit : Nat} {txFault : Bool} {ys : List Serdes}

theorem State.serdesDone_of_none (h : s.update.serdes = []) (x : Serdes) : s.serdesDone x = s := by
  simp only [State.serdesDone, h]

theorem State.serdesDone_of_head {x : Serdes} (h : s.update.serdes = x :: ys) : s.serdesDone x = s.serdesFrom ys := by
  simp only [State.serdesDone, h, if_true]

theorem State.serdesWaits_of_up (h : (s.port p).up = true) : s.serdesWaits (.port p) = false := by
  simp only [State.serdesWaits, h, Bool.not_true, Bool.and_false]

/-- What a port that is UP already takes from NET_LINK_UP: TX_FAULT of its module, or the rate of port 4. -/
def NetPort.linked (x : NetPort) (p mbit : Nat) (txFault : Bool) : NetPort :=
  { x with txFault := txFault && p != 4, sgmii := if p = 4 then mbit else x.sgmii }

theorem State.netUp_of_unchanged (hp : p ≤ 4) (h : s.portOn p = false ∨ (s.port p).up = true) :
    s.netUp p mbit txFault = s.setPort p ((s.port p).linked p mbit txFault) := by
  have hstays : ((s.port p).up || !s.portOn p) = true := by
    rcases h with h | h
    · simp only [h, Bool.not_false, Bool.or_true]
    · simp only [h, Bool.true_or]
  simp only [State.netUp, Nat.not_lt.mpr hp, hstays, if_true, if_false]
  rfl

/-- The port after it went UP. -/
def NetPort.goneUp (x : NetPort) (p mbit : Nat) (txFault : Bool) : NetPort :=
  { x.linked p mbit txFault with up := true, modAbs := false, rxLos := false }

/-- A port set to `x` as its link changes to UP: NET_LINK_CHANGE, and the end of remote fault on ports 0 to 3. -/
def State.linkUp (s : State) (p : Nat) (x : NetPort) : State :=
  if p < 4 then ((s.setPort p x).raise (0x90 + p)).emit (.remoteFault p false) else (s.setPort p x).raise (0x90 + p)

theorem State.linkUp_net (s : State) (p : Nat) (x : NetPort) : (s.linkUp p x).net = (s.setPort p x).net := by
  unfold State.linkUp
  split <;> rfl

theorem State.linkUp_icu (s : State) (p : Nat) (x : NetPort) : (s.linkUp p x).icu = (s.raise (0x90 + p)).icu := by
  unfold State.linkUp
  split <;> rfl

/-- A port that goes UP reports its groups. -/
theorem State.netUp_of_down (hp : p ≤ 4) (hon : s.portOn p = true) (hdown : (s.port p).up = false) :
    s.netUp p mbit txFault = (s.linkUp p ((s.port p).goneUp p mbit txFault)).reportAll p true true := by
  simp only [State.netUp, Nat.not_lt.mpr hp, hon, hdown, Bool.not_true, Bool.or_self, Bool.false_eq_true, if_false]
  rfl

theorem State.netUp_portTo (hp : p ≤ 4) (hon : s.portOn p = true) (hdown : (s.port p).up = false) :
    ∃ fs, s.PortTo p (((s.port p).goneUp p mbit txFault).queueing fs) (s.netUp p mbit txFault) := by
  have hlink := (State.PortTo.setPort s p ((s.port p).goneUp p mbit txFault)).of_net (s.linkUp_net p _)
  obtain ⟨fs, hreports⟩ := (s.linkUp p ((s.port p).goneUp p mbit txFault)).reportAll_portTo p true true
  rw [hlink.port] at hreports
  exact ⟨fs, State.netUp_of_down hp hon hdown ▸ hlink.trans hreports⟩

/-- A port that is ENABLED is UP after NET_LINK_UP. -/
theorem State.netUp_up (hp : p ≤ 4) (hon : s.portOn p = true) : ((s.netUp p mbit txFault).port p).up = true := by
  cases hup : (s.port p).up with
  | false =>
    obtain ⟨fs, h⟩ := State.netUp_portTo (mbit := mbit) (txFault := txFault) hp hon hup
    rw [h.port]
    rfl
  | true =>
    rw [State.netUp_of_unchanged hp (.inr hup), State.setPort_port]
    exact hup

theorem exec_netLinkUp_of_none {dt : Nat} {link : LinkUp} (h : s.update.serdes = []) :
    exec (.netLinkUp dt link) s = .next ((s.tick dt).netUp link.port link.mbit link.txFault).settle := by
  refine next_settle_congr ?_
  have hserdes : ((s.tick dt).netUp link.port link.mbit link.txFault).update.serdes = [] := by
    simp only [State.netUp_frame, State.tick_update, h]
  dsimp only
  rw [State.serdesDone_of_none hserdes, ite_self]

/-- The SerDes of a port that is UP again lets the next one restart. -/
theorem exec_netLinkUp_of_head {dt : Nat} {link : LinkUp} (hon : (s.tick dt).portOn link.port = true) (hp : link.port ≤ 4)
    (h : s.update.serdes = .port link.port :: ys) :
    exec (.netLinkUp dt link) s = .next (((s.tick dt).netUp link.port link.mbit link.txFault).serdesFrom ys).settle := by
  refine next_settle_congr ?_
  have hserdes : ((s.tick dt).netUp link.port link.mbit link.txFault).update.serdes = .port link.port :: ys := by
    simp only [State.netUp_frame, State.tick_update, h]
  dsimp only
  rw [State.serdesWaits_of_up (State.netUp_up hp hon), State.serdesDone_of_head hserdes]
  rfl

/-- Every port has its own assigned NET_LINK_CHANGE. -/
theorem linkChange_assigned {p : Nat} (hp : p ≤ 4) : srcAssigned (0x90 + p) = true := by
  have hall : ∀ p < 5, srcAssigned (0x90 + p) = true := by decide
  exact hall p (Nat.lt_succ_of_le hp)

theorem runs_netLinkUp_of_down {dt : Nat} {link : LinkUp} (hon : (s.tick dt).portOn link.port = true) (hp : link.port ≤ 4)
    (hdown : (s.port link.port).up = false) (hserdes : s.update.serdes = []) :
    Runs (.netLinkUp dt link) s fun t =>
      (∃ fs, s.PortTo link.port (((s.port link.port).goneUp link.port link.mbit link.txFault).queueing fs) t)
        ∧ (t.icu.src (0x90 + link.port)).count = (s.icu.src (0x90 + link.port)).count + 1
        ∧ t.clock = s.clock ∧ t.txn = s.txn ∧ t.mem = s.mem := by
  obtain ⟨fs, hport⟩ := State.netUp_portTo (s := s.tick dt) (mbit := link.mbit) (txFault := link.txFault) hp hon hdown
  refine ⟨_, exec_netLinkUp_of_none hserdes, ⟨fs, ⟨?_, ?_⟩⟩, ?_, ?_⟩
  · exact (hport.of_net (State.settle_net _)).port
  · exact (hport.of_net (State.settle_net _)).others
  · have hne : 0x90 + link.port ≠ 0xA9 := by omega
    rw [State.settle_src_count _ _ hne, State.netUp_of_down hp hon hdown]
    simp only [State.reportAll_frame, State.linkUp_icu, State.raise_src, linkChange_assigned hp, and_self, if_true,
      IcuSource.edge_count, State.tick_icu]
  · simp only [State.settle_clock, State.settle_txn, State.settle_mem, State.netUp_frame, State.tick_clock, State.tick_txn, State.tick_mem,
      and_self]

/-- The port with the signals of its module as they read (R376). -/
def NetPort.signals (x : NetPort) (modAbs txFault rxLos : Bool) : NetPort := { x with modAbs := modAbs, txFault := txFault, rxLos := rxLos }

theorem State.portDown_of_up (h : (s.port p).up = true) :
    s.portDown p = ((s.setPort p { s.port p with up := false }).countPort p [(47, 1)]).raise (0x90 + p) := if_pos h

theorem State.portDown_of_down (h : (s.port p).up = false) : s.portDown p = s := if_neg (Bool.eq_false_iff.mp h)

variable {modAbs rxLos : Bool}

/-- Ports 0 to 3 take the signals of their module, and send remote fault where their link was UP. -/
theorem State.netDown_of_module (hp : p < 4) :
    s.netDown p modAbs txFault rxLos = if (s.port p).up = true then
        ((s.setPort p ((s.port p).signals modAbs txFault rxLos)).portDown p).emit (.remoteFault p true)
      else (s.setPort p ((s.port p).signals modAbs txFault rxLos)).portDown p := by
  simp only [State.netDown, Nat.not_lt.mpr (Nat.le_of_lt hp), Nat.ne_of_lt hp, hp, decide_true, Bool.and_true, if_false]
  rfl

/-- A port of 0 to 3 that goes DOWN counts it and raises NET_LINK_CHANGE. -/
theorem State.netDown_of_up (hup : (s.port p).up = true) (hp : p < 4) :
    s.netDown p modAbs txFault rxLos
      = (((s.setPort p { (s.port p).signals modAbs txFault rxLos with up := false }).countPort p [(47, 1)]).raise (0x90 + p)).emit
          (.remoteFault p true) := by
  rw [State.netDown_of_module hp, if_pos hup, State.portDown_of_up (by rw [State.setPort_port]; exact hup), State.setPort_port,
    State.setPort_setPort]

theorem State.netDown_of_down (hdown : (s.port p).up = false) (hp : p < 4) :
    s.netDown p modAbs txFault rxLos = s.setPort p { (s.port p).signals modAbs txFault rxLos with up := false } := by
  have hsame : { (s.port p).signals modAbs txFault rxLos with up := false } = (s.port p).signals modAbs txFault rxLos := by
    rw [← hdown]
    rfl
  rw [State.netDown_of_module hp, if_neg (Bool.eq_false_iff.mp hdown), hsame]
  exact State.portDown_of_down (by rw [State.setPort_port]; exact hdown)

/-- Port 4 has no module and sends no remote fault. -/
theorem State.netDown_of_up_management (hup : (s.port 4).up = true) :
    s.netDown 4 modAbs txFault rxLos = ((s.setPort 4 { s.port 4 with up := false }).countPort 4 [(47, 1)]).raise 0x94 := by
  simp only [State.netDown, Nat.lt_irrefl, decide_false, Bool.and_false, Bool.false_eq_true, if_true, if_false]
  exact State.portDown_of_up hup

end Links

end Sys2Proof.Machine
end

section
/-!
PROOFS. Received Ethernet frames (R379, R382 to R388, R391): what a port drops, counts, pauses for and sorts, and the frame that a
receive ring writes to host memory.
-/

namespace Sys2Proof.Machine

/-! ### Reception (R379, R382, R388) -/

section Reception

variable {s : State} {p q : Nat} {f : RxFrame} {stop : Option Nat}

/-- The line errors and the frame counted, once the frame has passed its length and FCS. -/
def State.passed (s : State) (p : Nat) (f : RxFrame) : State :=
  (s.lineErrors p f).countPort p (rxCounts f.bytes (f.bytes.length + 4))

theorem State.passed_countsAt (s : State) (p : Nat) (f : RxFrame) : s.CountsAt p (s.passed p f) :=
  (s.countPort_countsAt p _).trans ((s.lineErrors p f).countPort_countsAt p _)

theorem State.netRx_of_off (h : s.portOn p = false ∨ (s.port p).up = false ∨ 4 < p) : s.netRx p f stop = s := by
  refine if_pos ?_
  rcases h with h | h | h
  · simp only [h, Bool.not_false, Bool.true_or]
  · simp only [h, Bool.not_false, Bool.or_true, Bool.true_or]
  · simp only [h, decide_true, Bool.or_true]

/-- A port that is ENABLED and UP receives. -/
theorem State.netRx_guard_of_up (hon : s.portOn p = true) (hp : p ≤ 4) (hup : (s.port p).up = true) :
    (!s.portOn p || !(s.port p).up || decide (4 < p)) = false := by
  simp only [hon, hup, Nat.not_lt.mpr hp, Bool.not_true, decide_false, Bool.or_self]

theorem State.netRx_of_dropped {k : Nat} (hon : s.portOn p = true) (hp : p ≤ 4) (hup : (s.port p).up = true)
    (hstep : (s.port p).cfg.step1 f = some k) : s.netRx p f stop = (s.lineErrors p f).countPort p [(k, 1)] := by
  simp only [State.netRx, State.netRx_guard_of_up hon hp hup, hstep, Bool.false_eq_true, if_false]

theorem State.netRx_of_pause (hon : s.portOn p = true) (hp : p ≤ 4) (hup : (s.port p).up = true)
    (hstep : (s.port p).cfg.step1 f = none) (hpause : pauseQuanta f.bytes = some q) : s.netRx p f stop = (s.passed p f).pauseRx p q := by
  simp only [State.netRx, State.netRx_guard_of_up hon hp hup, hstep, hpause, Bool.false_eq_true, if_false]
  rfl

theorem State.netRx_of_control (hon : s.portOn p = true) (hp : p ≤ 4) (hup : (s.port p).up = true)
    (hstep : (s.port p).cfg.step1 f = none) (hpause : pauseQuanta f.bytes = none) (hcontrol : isMacControl f.bytes = true) :
    s.netRx p f stop = (s.passed p f).countPort p [(5, 1)] := by
  simp only [State.netRx, State.netRx_guard_of_up hon hp hup, hstep, hpause, hcontrol, Bool.false_eq_true, if_false, if_true]
  rfl

/-- A SecY that is off passes every frame as it is (R382). -/
theorem SecY.receive_of_off {y : SecY} (h : y.enable = false) (bs : Bytes) : y.receive bs = (y, .inr (bs, false)) := by
  simp only [SecY.receive, h, Bool.not_false, Bool.true_or, if_true]

theorem State.netRx_of_clear (hon : s.portOn p = true) (hp : p ≤ 4) (hup : (s.port p).up = true)
    (hstep : (s.port p).cfg.step1 f = none) (hpause : pauseQuanta f.bytes = none) (hcontrol : isMacControl f.bytes = false)
    (hsecy : (s.port p).secy.enable = false) : s.netRx p f stop = (s.passed p f).classify p f false stop f.bytes := by
  obtain ⟨_, _, hport⟩ := (s.passed_countsAt p f).port
  have hreceive : ((s.passed p f).port p).secy.receive f.bytes = (((s.passed p f).port p).secy, .inr (f.bytes, false)) := by
    rw [hport.port]
    exact SecY.receive_of_off hsecy f.bytes
  have hsame : (s.passed p f).setPort p ((s.passed p f).port p) = s.passed p f := State.countPort_setPort_port _ p _
  unfold State.passed at hreceive hsame
  simp only [State.netRx, State.netRx_guard_of_up hon hp hup, hstep, hpause, hcontrol, hreceive, Bool.false_eq_true, if_false]
  exact congrArg (fun t : State => t.classify p f false stop f.bytes) hsame

/-- The port refuses to pause: the frame is only counted. -/
theorem State.pauseRx_of_off (h : (s.port p).cfg.pauseRx = false) : s.pauseRx p q = s.countPort p [(4, 1)] := by
  obtain ⟨_, _, hport⟩ := s.countPort_portTo p [(4, 1)]
  refine if_pos ?_
  rw [hport.port, Bool.not_eq_true']
  exact h

/-- A pause frame sets or ends the pause, and advances counters of its port. -/
theorem State.pauseRx_portTo (h : (s.port p).cfg.pauseRx = true) : ∃ counters half, s.PortTo p { s.port p with
    counters := counters, half := half, pauseEnd := if q = 0 then none else some (s.tb + (s.port p).bitTimes (512 * q)) }
    (s.pauseRx p q) := by
  obtain ⟨counters, half, hcount⟩ := s.countPort_portTo p [(4, 1)]
  have htb : (s.countPort p [(4, 1)]).tb = s.tb := by simp only [State.tb, State.countPort_frame]
  have hon : (!((s.countPort p [(4, 1)]).port p).cfg.pauseRx) = false := by
    rw [hcount.port]
    exact congrArg (!·) h
  have hset (x : NetPort) := hcount.trans (State.PortTo.setPort (s.countPort p [(4, 1)]) p x)
  simp only [State.pauseRx, hon, Bool.false_eq_true, if_false]
  by_cases hq : q = 0
  · rw [if_pos hq, if_pos hq]
    refine ⟨counters, half, ?_⟩
    simpa only [hcount.port] using hset { (s.countPort p [(4, 1)]).port p with pauseEnd := none }
  · rw [if_neg hq, if_neg hq, hcount.port, htb]
    have hpaused := hset { s.port p with
      counters := counters, half := half, pauseEnd := some (s.tb + (s.port p).bitTimes (512 * q)) }
    split
    · exact ⟨counters, half, hpaused⟩
    · obtain ⟨counters', half', hstart⟩ := State.countPort_portTo _ p [(42, 1)]
      rw [hpaused.port] at hstart
      exact ⟨counters', half', hpaused.trans hstart⟩

theorem runs_netFrameRx_of_pause {dt : Nat} (hon : (s.tick dt).portOn p = true) (hp : p ≤ 4) (hup : ((s.tick dt).port p).up = true)
    (hstep : ((s.tick dt).port p).cfg.step1 f = none) (hpause : pauseQuanta f.bytes = some q)
    (htakes : ((s.tick dt).port p).cfg.pauseRx = true) :
    Runs (.netFrameRx dt p f stop) s fun t =>
      (t.port p).pauseEnd = (if q = 0 then none else some ((s.tick dt).tb + (s.port p).bitTimes (512 * q)))
        ∧ (t.port p).cfg = (s.port p).cfg ∧ (∀ q, q ≠ p → t.port q = s.port q) ∧ t.clock = s.clock ∧ t.txn = s.txn
        ∧ t.mem = s.mem := by
  have hcounts := (s.tick dt).passed_countsAt p f
  obtain ⟨counters, half, hpassed⟩ := hcounts.port
  have hcfg : (((s.tick dt).passed p f).port p).cfg.pauseRx = true := by rw [hpassed.port]; exact htakes
  obtain ⟨counters', half', hpaused⟩ := State.pauseRx_portTo (q := q) hcfg
  have hport := (hpassed.trans hpaused).of_net (State.settle_net _)
  refine ⟨_, next_settle_congr (State.netRx_of_pause hon hp hup hstep hpause), ?_, ?_, hport.others, ?_⟩
  · rw [hport.port, hpassed.port, State.tb, hcounts.time]
    rfl
  · rw [hport.port, hpassed.port]
    rfl
  · simp only [State.settle_clock, State.settle_txn, State.settle_mem, State.pauseRx_frame, hcounts.clock, hcounts.txn, hcounts.mem,
      State.tick_clock, State.tick_txn, State.tick_mem, and_self]

end Reception

/-! ### Sorting (R382) -/

/-! What counters leave is all that frames are sorted by: the settings of the port, the groups, the rings and the other engines. -/

namespace State.CountsAt

variable {s t : State} {p : Nat}

theorem cfg (h : s.CountsAt p t) : (t.port p).cfg = (s.port p).cfg := by
  obtain ⟨_, _, hport⟩ := h.port
  rw [hport.port]

theorem groups (h : s.CountsAt p t) (q : Nat) : t.groups q = s.groups q := by
  simp only [State.groups, h.txn, h.time]

theorem netRing (h : s.CountsAt p t) (k : Nat) : t.netRing k = s.netRing k := by
  simp only [State.netRing, h.rings]

theorem ring (h : s.CountsAt p t) (r : Nat) : t.ring r = s.ring r := by
  simp only [State.ring, h.host]

theorem rxTakes (h : s.CountsAt p t) (bs : Bytes) : t.rxTakes p bs = s.rxTakes p bs := by
  simp only [State.rxTakes, State.groupMacs, h.cfg, h.time, h.groups, h.netRing]

theorem ptpFrame (h : s.CountsAt p t) (bs : Bytes) : t.ptpFrame p bs = s.ptpFrame p bs := by
  simp only [State.ptpFrame, h.time]

theorem engineRing (h : s.CountsAt p t) (bs : Bytes) : t.engineRing p bs = s.engineRing p bs := by
  have hengine : t.toEngine p bs = s.toEngine p bs := by
    unfold State.toEngine
    rw [h.cfg, h.groups]
  unfold State.engineRing
  rw [hengine, h.cfg, h.txn]

theorem ringFor (h : s.CountsAt p t) (bs : Bytes) : t.net.ringFor p bs = s.net.ringFor p bs := by
  unfold NetState.ringFor
  rw [h.rings]

end State.CountsAt

section Classify

variable {s : State} {p k : Nat} {f : RxFrame} {stop : Option Nat} {bs : Bytes}

/-- A frame that is sent to nobody here is counted as filtered. -/
theorem State.classify_of_not_taken (h : s.rxTakes p bs = false) :
    s.classify p f false stop bs = s.countPort p [(24, 1)] := by
  simp only [State.classify, h, Bool.not_false, if_true]

/-- A frame that no engine of the H64 takes goes to the receive ring that fits. -/
theorem State.classify_of_ring (htakes : s.rxTakes p bs = true) (hptp : s.ptpFrame p bs = false) (hpair : s.group.paired = false)
    (hengine : s.engineRing p bs = none) (hquery : queryOf bs = none) (hring : s.net.ringFor p bs = some k) :
    s.classify p f false stop bs = s.toRing p k f false stop bs := by
  have hnoquery : s.takeQuery p bs = s := by simp only [State.takeQuery, hquery]
  simp only [State.classify, htakes, hptp, hpair, hengine, hnoquery, hring, Bool.not_true, Bool.false_and, Bool.false_eq_true, if_false]

end Classify

/-! ### Descriptors of host rings (R383 to R385) -/

section Descriptors

variable {s : State} {p k h : Nat} {d : BulkDesc} {ds : List BulkDesc} {bs : Bytes}

/-- A descriptor that completes leaves the device as a write to it. -/
theorem State.endNetEntry_out (s : State) (h : Nat) (d : BulkDesc) (bs : Bytes) (bad : Bool) :
    (s.endNetEntry h d bs bad).out = .hostWrite ((s.ring h).entryAddr 64 + 0x0E) bs :: s.out := by
  unfold State.endNetEntry
  dsimp only
  split <;> rfl

/-- The ring goes on to its next descriptor. -/
theorem State.endNetEntry_ring (s : State) (h : Nat) (d : BulkDesc) (bs : Bytes) (bad : Bool) :
    ((s.endNetEntry h d bs bad).ring h).devIdx = (s.ring h).devIdx + 1
      ∧ ((s.endNetEntry h d bs bad).ring h).posted = (s.ring h).posted.drop 1 := by
  have hset (u : State) (x : Ring) : (u.setRing h x).ring h = x := Map.getD_put_self _ _ _ _
  unfold State.endNetEntry
  dsimp only
  split
  · exact ⟨congrArg Ring.devIdx (hset _ _), congrArg Ring.posted (hset _ _)⟩
  · exact ⟨congrArg Ring.devIdx (hset _ _), congrArg Ring.posted (hset _ _)⟩

/-- The fields of a descriptor that took a whole frame of `n` bytes: its SOP, EOP and status. -/
def RxDelivery.wholeFields (x : RxDelivery) (n : Nat) : Bytes :=
  rxFields 1 n (b2n true + 2 * b2n true + 4 * b2n false + 8 * b2n false + x.status) x.port x.tci x.frameLen x.stamp

/-- A frame that fits the first descriptor is written to it whole. -/
theorem State.rxWrite_of_fitting {x : RxDelivery} {code n : Nat} (hposted : (s.ring h).posted = d :: ds) (hok : rxDescOk d = true)
    (hfits : bs.length ≤ d.length) : State.rxWrite x h code (n + 1) true none bs s
      = ((s.emit (.hostWrite d.hostAddr bs)).endNetEntry h d (x.wholeFields bs.length) false, true) := by
  have hnone : ((none : Option Nat) == some 0) = false := rfl
  simp only [State.rxWrite, hposted, hok, hnone, List.take_of_length_le hfits, List.drop_of_length_le hfits, List.isEmpty_nil, Bool.true_or,
    Bool.or_false, Bool.not_true, Bool.and_false, Bool.false_and, Bool.false_eq_true, if_false, if_true]
  rfl

/-- A checksum of a received frame that is wrong is counted (R387). -/
def State.noteSums (s : State) (p : Nat) (bs : Bytes) : State :=
  if bit (rxSums bs) 8 || bit (rxSums bs) 10 then s.countPort p [(22, 1)] else s

theorem State.noteSums_countsAt (s : State) (p : Nat) (bs : Bytes) : s.CountsAt p (s.noteSums p bs) := by
  unfold State.noteSums
  split
  · exact s.countPort_countsAt p _
  · exact State.CountsAt.refl s p

/-- A frame for a ring without options that fits the first descriptor of its host ring is written there and counted. -/
theorem State.toRing_of_fitting {f : RxFrame} (hherr : f.hostErr = none) (hhost : (s.netRing k).host = h)
    (hflags : (s.netRing k).flags = 0) (hon : (s.ring h).phase = .enabled) (hposted : (s.ring h).posted = d :: ds)
    (hok : rxDescOk d = true) (hfits : bs.length ≤ d.length) : ∃ fields before, s.toRing p k f false none bs
      = ((((s.noteSums p bs).emit (.hostWrite d.hostAddr bs)).endNetEntry h d fields false).rxMark k before).ringFrame k := by
  have hring : (s.noteSums p bs).ring h = s.ring h := (s.noteSums_countsAt p bs).ring h
  have hnet : (s.noteSums p bs).netRing k = s.netRing k := (s.noteSums_countsAt p bs).netRing k
  have hgoes : (((s.noteSums p bs).ring h).on && ((s.noteSums p bs).ring h).posted.any rxDescOk) = true := by
    rw [hring, hposted, Ring.on, hon, List.any_cons, hok]
    rfl
  have hbit (i : Nat) : bit 0 i = false := by rw [bit, bits, Nat.zero_div, Nat.zero_mod]; rfl
  have hbreaks : f.breaks none = (none, 5) := by simp only [RxFrame.breaks, hherr]
  have hsums : (if (bit (rxSums bs) 8 || bit (rxSums bs) 10) = true then s.countPort p [(22, 1)] else s) = s.noteSums p bs := rfl
  simp only [State.toRing, hflags, hbit, hsums, hnet, hhost, hgoes, hbreaks, State.rxWrite_of_fitting (hring ▸ hposted) hok hfits,
    Bool.false_and, Bool.false_eq_true, if_false, if_true]
  exact ⟨_, _, rfl⟩

end Descriptors

/-! ### Counts of network rings (R386) -/

theorem State.setNetRing_netRing (s : State) (k : Nat) (x : NetRing) : (s.setNetRing k x).netRing k = x := Map.getD_put_self _ _ _ _

theorem State.setNetRing_others {j k : Nat} (h : j ≠ k) (s : State) (x : NetRing) : (s.setNetRing k x).netRing j = s.netRing j :=
  (Map.getD_put _ _ _ _ _).trans (if_neg h)

/-- A watermark that is crossed changes the crossings of its ring alone. -/
theorem State.rxMark_rings (s : State) (k before : Nat) : ((s.rxMark k before).netRing k).frames = (s.netRing k).frames
    ∧ (∀ j, j ≠ k → (s.rxMark k before).netRing j = s.netRing j) ∧ (s.rxMark k before).net.ports = s.net.ports := by
  have hmarked (x : NetRing) : (((s.setNetRing k x).raise 0x85).netRing k).frames = x.frames :=
    congrArg NetRing.frames (s.setNetRing_netRing k x)
  unfold State.rxMark
  dsimp only
  split
  · exact ⟨hmarked _, fun j hj => State.setNetRing_others hj s _, rfl⟩
  · exact ⟨rfl, fun _ _ => rfl, rfl⟩

theorem State.ringFrame_netRing (s : State) (k : Nat) :
    (s.ringFrame k).netRing k = { s.netRing k with frames := (s.netRing k).frames + 1 } :=
  s.setNetRing_netRing k _

/-! ### A frame delivered (R385, R386) -/

section Delivery

variable {s : State} {p k h : Nat} {f : RxFrame} {d : BulkDesc} {ds : List BulkDesc} {bs : Bytes}

/-- From `s` to `t` port `p` delivers the frame `bs` by receive ring `k` to descriptor `d` of host ring `h`. -/
structure State.Delivers (s : State) (p k h : Nat) (d : BulkDesc) (bs : Bytes) (t : State) : Prop where
  frames : (t.netRing k).frames = (s.netRing k).frames + 1
  rings : ∀ j, j ≠ k → t.netRing j = s.netRing j
  devIdx : (t.ring h).devIdx = (s.ring h).devIdx + 1
  posted : (t.ring h).posted = (s.ring h).posted.drop 1
  out : ∃ new fields, t.out = new ++ .hostWrite ((s.ring h).entryAddr 64 + 0x0E) fields :: .hostWrite d.hostAddr bs :: s.out
  ports : ∀ q, q ≠ p → t.port q = s.port q
  clock : t.clock = s.clock
  txn : t.txn = s.txn
  mem : t.mem = s.mem

theorem State.CountsAt.delivers {t u : State} (hcounts : s.CountsAt p u) (hu : u.Delivers p k h d bs t) : s.Delivers p k h d bs t := by
  obtain ⟨hframes, hrings, hdevIdx, hposted, hout, hports, hclock, htxn, hmem⟩ := hu
  obtain ⟨_, _, hport⟩ := hcounts.port
  rw [hcounts.netRing] at hframes
  rw [hcounts.ring] at hdevIdx hposted hout
  rw [hcounts.out] at hout
  exact ⟨hframes, fun j hj => (hrings j hj).trans (hcounts.netRing j), hdevIdx, hposted, hout,
    fun q hq => (hports q hq).trans (hport.others q hq), hclock.trans hcounts.clock, htxn.trans hcounts.txn, hmem.trans hcounts.mem⟩

theorem State.Delivers.settle {t : State} (ht : s.Delivers p k h d bs t) : s.Delivers p k h d bs t.settle := by
  obtain ⟨hframes, hrings, hdevIdx, hposted, ⟨new, fields, hout⟩, hports, hclock, htxn, hmem⟩ := ht
  obtain ⟨new', hnew⟩ := t.settle_out
  exact ⟨t.settle_netRing k ▸ hframes, fun j hj => (t.settle_netRing j).trans (hrings j hj), t.settle_ring h ▸ hdevIdx,
    t.settle_ring h ▸ hposted, ⟨new' ++ new, fields, by rw [hnew, hout, List.append_assoc]⟩,
    fun q hq => (t.settle_port q).trans (hports q hq), t.settle_clock.trans hclock, t.settle_txn.trans htxn, t.settle_mem.trans hmem⟩

/-- The watermark and the count of the ring follow what was written to the host. -/
theorem State.written_delivers (s : State) (p k h before : Nat) (d : BulkDesc) (bs fields : Bytes) : s.Delivers p k h d bs
    ((((s.emit (.hostWrite d.hostAddr bs)).endNetEntry h d fields false).rxMark k before).ringFrame k) := by
  obtain ⟨hdevIdx, hposted⟩ := (s.emit (.hostWrite d.hostAddr bs)).endNetEntry_ring h d fields false
  have hleaves := (s.emit (.hostWrite d.hostAddr bs)).endNetEntry_out h d fields false
  have hnet : ((s.emit (.hostWrite d.hostAddr bs)).endNetEntry h d fields false).net = s.net := by
    simp only [State.endNetEntry_frame, State.emit_net]
  obtain ⟨v, hv⟩ : ∃ v, v = (s.emit (.hostWrite d.hostAddr bs)).endNetEntry h d fields false := ⟨_, rfl⟩
  rw [← hv] at hnet hdevIdx hposted hleaves ⊢
  obtain ⟨hframes, hothers, hports⟩ := v.rxMark_rings k before
  have hnetRing (j : Nat) : v.netRing j = s.netRing j := by rw [State.netRing, hnet, State.netRing]
  have hring : ((v.rxMark k before).ringFrame k).ring h = v.ring h := by
    simp only [State.ring, State.ringFrame_frame, State.rxMark_frame]
  refine ⟨?_, fun j hj => ?_, hring ▸ hdevIdx, hring ▸ hposted, ⟨[], fields, ?_⟩, fun q _ => ?_, ?_, ?_, ?_⟩
  · rw [State.ringFrame_netRing]
    exact congrArg (· + 1) (hframes.trans (congrArg NetRing.frames (hnetRing k)))
  · exact (State.setNetRing_others hj _ _).trans ((hothers j hj).trans (hnetRing j))
  · simp only [State.ringFrame_frame, State.rxMark_frame]
    exact hleaves
  · exact congrArg (·.getD q {}) (hports.trans (congrArg NetState.ports hnet))
  all_goals simp only [hv, State.ringFrame_frame, State.rxMark_frame, State.endNetEntry_frame, State.emit_clock, State.emit_txn,
    State.emit_mem]

theorem State.toRing_delivers (hherr : f.hostErr = none) (hhost : (s.netRing k).host = h) (hflags : (s.netRing k).flags = 0)
    (hon : (s.ring h).phase = .enabled) (hposted : (s.ring h).posted = d :: ds) (hok : rxDescOk d = true) (hfits : bs.length ≤ d.length) :
    s.Delivers p k h d bs (s.toRing p k f false none bs) := by
  obtain ⟨fields, before, heq⟩ := State.toRing_of_fitting (p := p) hherr hhost hflags hon hposted hok hfits
  exact heq ▸ (s.noteSums_countsAt p bs).delivers (State.written_delivers _ p k h before d bs fields)

theorem runs_netFrameRx_of_delivered {dt : Nat} (hon : (s.tick dt).portOn p = true) (hp : p ≤ 4) (hup : ((s.tick dt).port p).up = true)
    (hstep : ((s.tick dt).port p).cfg.step1 f = none) (hpause : pauseQuanta f.bytes = none) (hcontrol : isMacControl f.bytes = false)
    (hsecy : (s.port p).secy.enable = false) (htakes : (s.tick dt).rxTakes p f.bytes = true)
    (hptp : (s.tick dt).ptpFrame p f.bytes = false) (hpair : s.group.paired = false) (hengine : (s.tick dt).engineRing p f.bytes = none)
    (hquery : queryOf f.bytes = none) (hherr : f.hostErr = none) (hring : s.net.ringFor p f.bytes = some k)
    (hhost : (s.netRing k).host = h) (hflags : (s.netRing k).flags = 0) (henabled : (s.ring h).phase = .enabled)
    (hposted : (s.ring h).posted = d :: ds) (hok : rxDescOk d = true) (hfits : f.bytes.length ≤ d.length) :
    Runs (.netFrameRx dt p f none) s ((s.tick dt).Delivers p k h d f.bytes) := by
  have hcounts := (s.tick dt).passed_countsAt p f
  have hsorted := State.classify_of_ring (f := f) (stop := none) ((hcounts.rxTakes _).trans htakes) ((hcounts.ptpFrame _).trans hptp)
    ((congrArg GroupState.paired hcounts.group).trans hpair) ((hcounts.engineRing _).trans hengine) hquery
    ((hcounts.ringFor _).trans hring)
  have hdelivers := State.toRing_delivers (p := p) hherr ((congrArg NetRing.host (hcounts.netRing k)).trans hhost)
    ((congrArg NetRing.flags (hcounts.netRing k)).trans hflags) ((congrArg Ring.phase (hcounts.ring h)).trans henabled)
    ((congrArg Ring.posted (hcounts.ring h)).trans hposted) hok hfits
  refine ⟨_, next_settle_congr (State.netRx_of_clear hon hp hup hstep hpause hcontrol hsecy), ?_⟩
  exact State.Delivers.settle (hcounts.delivers (hsorted ▸ hdelivers))

end Delivery

end Sys2Proof.Machine
end

section
/-!
PROOFS. What an Ethernet port sends (R338, R379, R384, R387 to R389, R392, R394, R399): the frames of the engines, the host ring in turn,
and the universe discovery that is queued.
-/

namespace Sys2Proof.Machine

/-! ### Frames on the wire (R379, R399) -/

section Wire

variable {s : State} {p : Nat} {f : TxFrame} {bs : Bytes}

/-- A frame that is put on the wire keeps its port busy for its wire time. -/
theorem State.putOnWire_portTo (s : State) (p : Nat) (bad : Bool) (bs : Bytes) : ∃ counters half, s.PortTo p { s.port p with
    counters := counters, half := half, wireEnd := some (s.tb + (s.port p).wireTime (wireFrame bs bad)) } (s.putOnWire p bad bs) := by
  have hcounts := s.countPort_countsAt p (txCounts bs ++ if bad then [(44, 1)] else [])
  obtain ⟨counters, half, hport⟩ := hcounts.port
  have hset := hport.trans (State.PortTo.setPort _ p { s.port p with
    counters := counters, half := half, wireEnd := some (s.tb + (s.port p).wireTime (wireFrame bs bad)) })
  have hwire (frame : Bytes) : NetPort.wireTime { s.port p with counters := counters, half := half } frame
    = (s.port p).wireTime frame := rfl
  refine ⟨counters, half, hset.of_net ?_⟩
  simp only [State.putOnWire, State.emit_net, hport.port, State.tb, hcounts.time, hwire]

theorem State.putOnWire_out (s : State) (p : Nat) (bad : Bool) (bs : Bytes) :
    (s.putOnWire p bad bs).out = .eth p s.tb (wireFrame bs bad) bad :: s.out := by
  simp only [State.putOnWire, State.emit_out, State.setPort_out, State.tb, State.countPort_frame]

theorem State.putOnWire_rings (s : State) (p : Nat) (bad : Bool) (bs : Bytes) : (s.putOnWire p bad bs).net.rings = s.net.rings := by
  simp only [State.putOnWire, State.emit_net, State.setPort_net, State.countPort_rings]

/-- A frame leaves as it is where it asks for no protection, and where the SecY is off. -/
theorem State.protectOut_of_clear {want : Bool} (h : want = false ∨ (s.port p).secy.enable = false) :
    s.protectOut p want bs = (s, some bs) := by
  refine if_pos ?_
  rcases h with h | h
  · simp only [h, Bool.not_false, Bool.true_or]
  · simp only [h, Bool.not_false, Bool.or_true]

/-! ### Frames of the engines (R338, R389, R394) -/

/-- A late frame noted at its outputs. -/
def State.lateAt (s : State) (f : TxFrame) (ns : Nat) : State :=
  (s.lateOutputs f).foldl (fun s o =>
    s.setEmission o { s.emission o with late := (s.emission o).late + 1, maxLateNs := max (s.emission o).maxLateNs ns }) s

theorem State.lateAt_frame (s : State) (f : TxFrame) (ns : Nat) : (s.lateAt f ns).net = s.net ∧ (s.lateAt f ns).out = s.out :=
  ⟨foldl_net _ _ _ fun _ _ => rfl, foldl_out _ _ _ fun _ _ => rfl⟩

/-- A frame for which EMIT_LATE is raised, unless it was raised for it before. -/
def State.raiseLate (s : State) (p : Nat) (f : TxFrame) : State :=
  if (s.port p).lateFrames.contains f.frame then s
  else (s.setPort p { s.port p with lateFrames := (f.frame :: (s.port p).lateFrames).take 16 }).raise 0x7D

theorem State.raiseLate_portTo (s : State) (p : Nat) (f : TxFrame) :
    (∃ lateFrames, s.PortTo p { s.port p with lateFrames := lateFrames } (s.raiseLate p f)) ∧ (s.raiseLate p f).out = s.out := by
  unfold State.raiseLate
  split
  · exact ⟨⟨_, State.PortTo.refl s p⟩, rfl⟩
  · exact ⟨⟨_, (State.PortTo.setPort s p _).of_net rfl⟩, rfl⟩

/-- Lateness is noted at the port and at the outputs of the frame, and nothing leaves the device for it. -/
theorem State.noteLate_portTo (s : State) (p : Nat) (f : TxFrame) : (∃ runDue runLate lateFrames, s.PortTo p { s.port p with
    runDue := runDue, runLate := runLate, lateFrames := lateFrames } (s.noteLate p f)) ∧ (s.noteLate p f).out = s.out := by
  obtain ⟨run, ns, inTime, hnote⟩ : ∃ run ns inTime, s.noteLate p f = if inTime = true then
        s.setPort p { s.port p with runDue := some f.due, runLate := run }
      else ((s.setPort p { s.port p with runDue := some f.due, runLate := run }).lateAt f ns).raiseLate p f := ⟨_, _, _, rfl⟩
  have hrun := State.PortTo.setPort s p { s.port p with runDue := some f.due, runLate := run }
  rw [hnote]
  split
  · exact ⟨⟨_, _, _, hrun⟩, rfl⟩
  · obtain ⟨hnet, hout⟩ := (s.setPort p { s.port p with runDue := some f.due, runLate := run }).lateAt_frame f ns
    obtain ⟨⟨lateFrames, hlate⟩, hraised⟩ := State.raiseLate_portTo
      ((s.setPort p { s.port p with runDue := some f.due, runLate := run }).lateAt f ns) p f
    rw [(hrun.of_net hnet).port] at hlate
    exact ⟨⟨_, _, lateFrames, (hrun.of_net hnet).trans hlate⟩, hraised.trans hout⟩

/-- The lateness of a frame of an emission run noted. -/
def State.noteRun (s : State) (p : Nat) (f : TxFrame) : State := if f.run then s.noteLate p f else s

theorem State.noteRun_portTo (s : State) (p : Nat) (f : TxFrame) : (∃ runDue runLate lateFrames, s.PortTo p { s.port p with
    runDue := runDue, runLate := runLate, lateFrames := lateFrames } (s.noteRun p f)) ∧ (s.noteRun p f).out = s.out := by
  unfold State.noteRun
  split
  · exact s.noteLate_portTo p f
  · exact ⟨⟨_, _, _, State.PortTo.refl s p⟩, rfl⟩

theorem State.noteRun_time (s : State) (p : Nat) (f : TxFrame) : (s.noteRun p f).time = s.time := by
  unfold State.noteRun
  split
  · simp only [State.noteLate_frame]
  · rfl

/-- A frame of the engines that leaves as it is is noted, counted at its ring and put on the wire. -/
theorem State.sendOwn_of_clear (h : f.protect = false ∨ (s.port p).secy.enable = false) : s.sendOwn p f
    = (((s.noteRun p f).noteSyncLeft p f).ringFrame (64 + f.ring)).putOnWire p f.bad f.bytes := by
  obtain ⟨⟨_, _, _, hport⟩, -⟩ := s.noteRun_portTo p f
  have hsecy : (((s.noteRun p f).noteSyncLeft p f).port p).secy = (s.port p).secy := by
    have hnet : ((s.noteRun p f).noteSyncLeft p f).net = (s.noteRun p f).net := by simp only [State.noteSyncLeft_frame]
    rw [(hport.of_net hnet).port]
  have hclear := State.protectOut_of_clear (bs := f.bytes) (h.imp_right fun h => (congrArg SecY.enable hsecy).trans h)
  unfold State.noteRun at hclear ⊢
  simp only [State.sendOwn, hclear]

/-- A frame of the engines that leaves as it is is the one that its port sends, from now for its wire time. -/
theorem State.sendOwn_portTo (h : f.protect = false ∨ (s.port p).secy.enable = false) :
    (∃ counters half runDue runLate lateFrames, s.PortTo p { s.port p with
      counters := counters, half := half, runDue := runDue, runLate := runLate, lateFrames := lateFrames
      wireEnd := some (s.tb + (s.port p).wireTime (wireFrame f.bytes f.bad)) } (s.sendOwn p f))
    ∧ (s.sendOwn p f).out = .eth p s.tb (wireFrame f.bytes f.bad) f.bad :: s.out := by
  obtain ⟨⟨runDue, runLate, lateFrames, hnoted⟩, hout⟩ := s.noteRun_portTo p f
  have hnet : ((s.noteRun p f).noteSyncLeft p f).net = (s.noteRun p f).net := by simp only [State.noteSyncLeft_frame]
  have htb : (((s.noteRun p f).noteSyncLeft p f).ringFrame (64 + f.ring)).tb = s.tb := by
    simp only [State.tb, State.ringFrame_frame, State.noteSyncLeft_frame, State.noteRun_time]
  have hcounted := (hnoted.of_net hnet).of_ports (u := ((s.noteRun p f).noteSyncLeft p f).ringFrame (64 + f.ring)) rfl
  obtain ⟨counters, half, hsent⟩ := (((s.noteRun p f).noteSyncLeft p f).ringFrame (64 + f.ring)).putOnWire_portTo p f.bad f.bytes
  have hwire (frame : Bytes) : NetPort.wireTime { s.port p with runDue := runDue, runLate := runLate, lateFrames := lateFrames } frame
    = (s.port p).wireTime frame := rfl
  rw [hcounted.port, htb, hwire] at hsent
  rw [State.sendOwn_of_clear h]
  refine ⟨⟨counters, half, runDue, runLate, lateFrames, hcounted.trans hsent⟩, ?_⟩
  simp only [State.putOnWire_out, htb, State.ringFrame_frame, State.noteSyncLeft_frame, hout]

theorem State.netTx_of_busy {data : Bytes} {hostErr : Bool} {held : Nat} (h : s.portFree p = false) : s.netTx p data hostErr held = s := by
  simp only [State.netTx, h, Bool.not_false, if_true]

/-- A packet of an emission run that is due goes first. -/
theorem State.netTx_of_run {data : Bytes} {hostErr : Bool} {held : Nat} {fs : List TxFrame} (h : s.portFree p = true)
    (hrun : ((s.port p).runQueue.filter fun f => s.tickReached f.due) = f :: fs) :
    s.netTx p data hostErr held = (s.setPort p { s.port p with runQueue := (s.port p).runQueue.erase f }).sendOwn p f := by
  simp only [State.netTx, h, hrun, Bool.not_true, Bool.false_eq_true, if_false]

/-- The other frames of the engines go in their order. -/
theorem State.netTx_of_other {data : Bytes} {hostErr : Bool} {held : Nat} {fs : List TxFrame} (h : s.portFree p = true)
    (hrun : ((s.port p).runQueue.filter fun f => s.tickReached f.due) = []) (hother : (s.port p).otherQueue = f :: fs) :
    s.netTx p data hostErr held = (s.setPort p { s.port p with otherQueue := fs }).sendOwn p f := by
  simp only [State.netTx, h, hrun, hother, Bool.not_true, Bool.false_eq_true, if_false]

/-- The host rings go last. -/
theorem State.netTx_of_host {data : Bytes} {hostErr : Bool} {held : Nat} (h : s.portFree p = true)
    (hrun : ((s.port p).runQueue.filter fun f => s.tickReached f.due) = []) (hother : (s.port p).otherQueue = []) :
    s.netTx p data hostErr held = s.sendHost p data hostErr held := by
  simp only [State.netTx, h, hrun, hother, Bool.not_true, Bool.false_eq_true, if_false]

theorem runs_netFrameTx_of_run {dt : Nat} {turn : TxTurn} {fs : List TxFrame} (h : (s.tick dt).portFree p = true)
    (hrun : (((s.tick dt).port p).runQueue.filter fun f => (s.tick dt).tickReached f.due) = f :: fs)
    (hclear : f.protect = false ∨ ((s.tick dt).port p).secy.enable = false) :
    Runs (.netFrameTx dt p turn) s fun t =>
      (t.port p).runQueue = (s.port p).runQueue.erase f ∧ (t.port p).otherQueue = (s.port p).otherQueue
        ∧ (t.port p).wireEnd = some ((s.tick dt).tb + (s.port p).wireTime (wireFrame f.bytes f.bad))
        ∧ (∃ new, t.out = new ++ .eth p (s.tick dt).tb (wireFrame f.bytes f.bad) f.bad :: s.out)
        ∧ (∀ q, q ≠ p → t.port q = s.port q) ∧ t.clock = s.clock ∧ t.txn = s.txn ∧ t.mem = s.mem := by
  have htaken := State.PortTo.setPort (s.tick dt) p { s.port p with runQueue := (s.port p).runQueue.erase f }
  obtain ⟨u, hu⟩ : ∃ u, u = (s.tick dt).setPort p { s.port p with runQueue := (s.port p).runQueue.erase f } := ⟨_, rfl⟩
  have huclear : f.protect = false ∨ (u.port p).secy.enable = false := hclear.imp_right fun h => by rw [hu, State.setPort_port]; exact h
  obtain ⟨⟨counters, half, runDue, runLate, lateFrames, hsent⟩, hout⟩ := State.sendOwn_portTo huclear
  have hwire (frame : Bytes) : NetPort.wireTime { s.port p with runQueue := (s.port p).runQueue.erase f } frame
    = (s.port p).wireTime frame := rfl
  have htb : u.tb = (s.tick dt).tb := by rw [hu]; rfl
  rw [← hu] at htaken
  rw [htaken.port, hwire, htb] at hsent
  have hport := (htaken.trans hsent).of_net (State.settle_net _)
  obtain ⟨new, hnew⟩ := (u.sendOwn p f).settle_out
  refine ⟨_, next_settle_congr ((State.netTx_of_run h hrun).trans (congrArg (·.sendOwn p f) hu.symm)), ?_, ?_, ?_, ⟨new, ?_⟩,
    hport.others, ?_⟩
  · rw [hport.port]
  · rw [hport.port]
  · rw [hport.port]
  · rw [hnew, hout, htb, hu]
    rfl
  · simp only [State.settle_clock, State.settle_txn, State.settle_mem, State.sendOwn_frame, hu, State.setPort_clock, State.setPort_txn,
      State.setPort_mem, State.tick_clock, State.tick_txn, State.tick_mem, and_self]

end Wire

/-! ### Host transmit rings (R384, R387, R389) -/

section HostRings

variable {len weight : Nat → Nat} {k : Nat}

/-- Where one ring is ready, it is the next in turn. -/
theorem nextInTurn_of_single (turn : Nat) : (([k].find? fun j => decide (turn < j)).orElse fun _ => [k].head?) = some k := by
  by_cases hlt : turn < k
  · simp only [List.find?_cons, hlt, decide_true]
    rfl
  · simp only [List.find?_cons, hlt, decide_false]
    rfl

/-- Where one ring is ready and its turn has come, its deficit grows by its weight until its chain may go. -/
theorem drrPick_of_turn (hweight : 1 ≤ weight k) (n : Nat) :
    ∀ {fuel : Nat} {m : Map Nat}, n < fuel → len k ≤ m.getD k 0 + n * 256 → ∃ m', drrPick len weight [k] fuel k m = some (k, m') := by
  have hready : [k].contains k = true := List.contains_iff_mem.mpr (List.mem_singleton_self k)
  induction n with
  | zero =>
    intro fuel m hfuel hlen
    obtain ⟨fuel, rfl⟩ := Nat.exists_eq_add_one_of_ne_zero (Nat.ne_of_gt hfuel)
    have hgo : len k ≤ m.getD k 0 := by omega
    simp only [drrPick, hready, hgo, decide_true, Bool.and_self, if_true]
    exact ⟨_, rfl⟩
  | succ n ih =>
    intro fuel m hfuel hlen
    obtain ⟨fuel, rfl⟩ := Nat.exists_eq_add_one_of_ne_zero (Nat.ne_of_gt (Nat.lt_of_le_of_lt (Nat.zero_le _) hfuel))
    by_cases hgo : len k ≤ m.getD k 0
    · simp only [drrPick, hready, hgo, decide_true, Bool.and_self, if_true]
      exact ⟨_, rfl⟩
    · simp only [drrPick, hready, hgo, nextInTurn_of_single, decide_false, Bool.and_false, Bool.false_eq_true, if_false, if_true]
      refine ih (Nat.lt_of_succ_lt_succ hfuel) ?_
      rw [Map.getD_put_self]
      omega

/-- The only ring that is ready is picked, whoever's turn it is. -/
theorem drrPick_of_single {fuel turn : Nat} {m : Map Nat} {r : Option (Nat × Map Nat)} (h : drrPick len weight [k] fuel turn m = r)
    (hfuel : 65 < fuel) (hweight : 1 ≤ weight k) (hlen : len k ≤ 64 * 256) : ∃ m', r = some (k, m') := by
  subst h
  by_cases hturn : turn = k
  · subst hturn
    exact drrPick_of_turn hweight 64 (Nat.lt_of_succ_lt hfuel) (Nat.le_add_left_of_le hlen)
  · obtain ⟨fuel, rfl⟩ := Nat.exists_eq_add_one_of_ne_zero (Nat.ne_of_gt (Nat.lt_trans (Nat.succ_pos 64) hfuel))
    have hother : [k].contains turn = false := by
      rw [List.contains_cons, List.contains_nil, Bool.or_false]
      exact beq_false_of_ne hturn
    simp only [drrPick, hother, nextInTurn_of_single, Bool.false_and, Bool.false_eq_true, if_false]
    exact drrPick_of_turn hweight 64 (Nat.lt_of_succ_lt_succ hfuel) (Nat.le_add_left_of_le hlen)

variable {s : State} {p h held : Nat} {d : BulkDesc} {data : Bytes}

/-- A descriptor of a good chain is at most 16 KiB long (R384). -/
theorem chainOk_length {maxFrame : Nat} (h : chainOk maxFrame [d] = true) : d.length ≤ 16384 := by
  simp only [chainOk, List.all_cons, List.all_nil, Bool.and_eq_true, decide_eq_true_eq] at h
  omega

/-- Without send flags a frame asks for no checksum, stamp, tag or protection. -/
theorem sendFlags_off {n : Nat} (h : bits n 3 5 = 0) :
    bit n 3 = false ∧ bit n 4 = false ∧ bit n 5 = false ∧ bit n 6 = false ∧ bit n 7 = false := by
  simp only [bit, bits, beq_eq_false_iff_ne] at h ⊢
  omega

theorem insertSums_of_none (bs : Bytes) : (insertSums bs false false).1 = bs := by
  unfold insertSums
  split
  · rfl
  · simp only [Bool.false_and, Bool.false_eq_true, if_false]
    split <;> rfl

/-- A chain of one descriptor without send flags leaves as the host wrote it, padded to its length, and its descriptor completes. -/
theorem State.sendChain_of_plain (hhost : (s.netRing (64 + k)).host = h) (hflags : bits d.flags 3 5 = 0) : ∃ fields,
    s.sendChain p k [d] data held
      = ((s.ringFrame (64 + k)).putOnWire p false (padTo d.length data)).endNetEntry h d fields false := by
  obtain ⟨hip, hl4, hstamp, htag, hprotect⟩ := sendFlags_off hflags
  have hlength : ([d].map (·.length)).sum = d.length := by simp only [List.map_cons, List.map_nil, List.sum_singleton]
  have hclear (bs : Bytes) : s.protectOut p false bs = (s, some bs) := State.protectOut_of_clear (.inl rfl)
  simp only [State.sendChain, hhost, hlength, List.head?_cons, Option.elim_some, hip, hl4, hstamp, htag, hprotect,
    insertSums_of_none, hclear, Bool.false_and, Bool.false_eq_true, if_false, List.foldl_cons, List.foldl_nil]
  exact ⟨_, rfl⟩

/-- The only host ring that is ready sends its chain. -/
theorem State.sendHost_of_single (hready : s.txReady p = [k]) (hhost : (s.netRing (64 + k)).host = h)
    (hchain : chainOf (s.ring h).posted = [d]) (hok : chainOk (s.port p).cfg.maxFrame [d] = true) (hflags : bits d.flags 3 5 = 0)
    (hweight : 1 ≤ (s.netRing (64 + k)).arg) : ∃ m fields, s.sendHost p data false held
      = (((s.setPort p { s.port p with turn := k, deficits := m }).ringFrame (64 + k)).putOnWire p false (padTo d.length data)).endNetEntry
          h d fields false := by
  unfold State.sendHost
  dsimp only
  rw [hready]
  have hcost : (if chainOk (s.port p).cfg.maxFrame (chainOf (s.ring (s.netRing (64 + k)).host).posted) = true then
      ((chainOf (s.ring (s.netRing (64 + k)).host).posted).map (·.length)).sum else 0) ≤ 64 * 256 := by
    rw [hhost, hchain, if_pos hok]
    exact chainOk_length hok
  split
  next hpick =>
    obtain ⟨m, hm⟩ := drrPick_of_single hpick (by decide) hweight hcost
    cases hm
  next k' m hpick =>
    obtain ⟨m', hm⟩ := drrPick_of_single hpick (by decide) hweight hcost
    cases hm
    simp only [hhost, hchain, hok, Bool.not_true, Bool.false_eq_true, if_false]
    obtain ⟨fields, hsent⟩ := State.sendChain_of_plain (s := s.setPort p { s.port p with turn := k, deficits := m })
      (held := held) (data := data) hhost hflags
    exact ⟨m, fields, hsent⟩

/-- A frame of transmit ring `k` that is put on the wire, and its descriptor that completes: what the device sends, and what stays. -/
theorem State.sent_of_host (s : State) (p k h : Nat) (d : BulkDesc) (bs fields : Bytes) {t : State}
    (ht : t = ((s.ringFrame (64 + k)).putOnWire p false bs).endNetEntry h d fields false) :
    (t.ring h).devIdx = (s.ring h).devIdx + 1 ∧ (t.ring h).posted = (s.ring h).posted.drop 1
      ∧ (t.netRing (64 + k)).frames = (s.netRing (64 + k)).frames + 1
      ∧ t.out = .hostWrite ((s.ring h).entryAddr 64 + 0x0E) fields :: .eth p s.tb (wireFrame bs false) false :: s.out
      ∧ (∀ q, q ≠ p → t.port q = s.port q) ∧ t.clock = s.clock ∧ t.txn = s.txn ∧ t.mem = s.mem := by
  obtain ⟨u, hu⟩ : ∃ u, u = (s.ringFrame (64 + k)).putOnWire p false bs := ⟨_, rfl⟩
  rw [← hu] at ht
  obtain ⟨hdevIdx, hposted⟩ := u.endNetEntry_ring h d fields false
  have hout := u.endNetEntry_out h d fields false
  have hnet : t.net = u.net := by simp only [ht, State.endNetEntry_frame]
  have hrings : u.net.rings = (s.ringFrame (64 + k)).net.rings := hu ▸ State.putOnWire_rings _ p false bs
  have hring : u.ring h = s.ring h := by simp only [State.ring, hu, State.putOnWire_frame, State.ringFrame_frame]
  have hleft : u.out = .eth p s.tb (wireFrame bs false) false :: s.out := by
    simp only [hu, State.putOnWire_out, State.tb, State.ringFrame_frame]
  obtain ⟨_, _, hsent⟩ := (s.ringFrame (64 + k)).putOnWire_portTo p false bs
  rw [← hu] at hsent
  rw [← ht, hring] at hdevIdx hposted hout
  refine ⟨hdevIdx, hposted, ?_, hleft ▸ hout, (hsent.of_net hnet).others, ?_⟩
  · rw [State.netRing, hnet, hrings]
    exact congrArg NetRing.frames (s.ringFrame_netRing (64 + k))
  · simp only [ht, hu, State.endNetEntry_frame, State.putOnWire_frame, State.ringFrame_frame, and_self]

theorem runs_netFrameTx_of_host {dt : Nat} {turn : TxTurn} (hfree : (s.tick dt).portFree p = true)
    (hrun : (((s.tick dt).port p).runQueue.filter fun f => (s.tick dt).tickReached f.due) = [])
    (hother : ((s.tick dt).port p).otherQueue = []) (hready : s.txReady p = [k]) (hhost : (s.netRing (64 + k)).host = h)
    (herr : turn.hostErr = false) (hchain : chainOf (s.ring h).posted = [d])
    (hok : chainOk ((s.tick dt).port p).cfg.maxFrame [d] = true) (hflags : bits d.flags 3 5 = 0)
    (hweight : 1 ≤ (s.netRing (64 + k)).arg) :
    Runs (.netFrameTx dt p turn) s fun t =>
      (t.ring h).devIdx = (s.ring h).devIdx + 1 ∧ (t.ring h).posted = (s.ring h).posted.drop 1
        ∧ (t.netRing (64 + k)).frames = (s.netRing (64 + k)).frames + 1
        ∧ (∃ new f, t.out = new ++ .hostWrite ((s.ring h).entryAddr 64 + 0x0E) f
          :: .eth p (s.tick dt).tb (wireFrame (padTo d.length turn.data) false) false :: s.out)
        ∧ (∀ q, q ≠ p → t.port q = s.port q) ∧ t.clock = s.clock ∧ t.txn = s.txn ∧ t.mem = s.mem := by
  obtain ⟨m, fields, hsent⟩ := State.sendHost_of_single (s := s.tick dt) (held := turn.stampsHeld) (data := turn.data) hready hhost
    hchain hok hflags hweight
  have hturn := State.PortTo.setPort (s.tick dt) p { (s.tick dt).port p with turn := k, deficits := m }
  obtain ⟨hdevIdx, hposted, hframes, hout, hports, hclock, htxn, hmem⟩ := State.sent_of_host _ p k h d _ fields hsent
  obtain ⟨u, hu⟩ : ∃ u, u = (s.tick dt).sendHost p turn.data false turn.stampsHeld := ⟨_, rfl⟩
  rw [← hu] at hdevIdx hposted hframes hout hports hclock htxn hmem
  have hexec : (s.tick dt).netTx p turn.data turn.hostErr turn.stampsHeld = u := by
    rw [State.netTx_of_host hfree hrun hother, herr, hu]
  obtain ⟨new, hnew⟩ := u.settle_out
  refine ⟨_, next_settle_congr hexec, u.settle_ring h ▸ hdevIdx, u.settle_ring h ▸ hposted, u.settle_netRing (64 + k) ▸ hframes,
    ⟨new, fields, hnew.trans (congrArg (new ++ ·) hout)⟩, fun q hq => ?_, u.settle_clock.trans hclock, u.settle_txn.trans htxn,
    u.settle_mem.trans hmem⟩
  exact (u.settle_port q).trans ((hports q hq).trans (hturn.others q hq))

end HostRings

/-! ### Universe discovery (R392) -/

section Discovery

variable {s t : State} {p : Nat}

/-- A page of universe discovery as a frame of a port: the universes of the page, its number and that of the last page. -/
def NetShow.pageFrame (v : NetShow) (last : Nat) (c : NetPortCfg) (e : List Nat × Nat) : Bytes :=
  sacnFrame c v.ipv6 64214 (e131Discovery v.cid v.sourceName e.2 last e.1)

/-- The pages of the universes that the device transmits on a port. -/
def State.discoveryPages (s : State) (p : Nat) : List (List Nat) := piecesOf 512 64 (s.discovered p)

/-- The pages of a port queued on it. -/
def State.queuePages (v : NetShow) (s : State) (p : Nat) : State :=
  (s.discoveryPages p).zipIdx.foldl (fun t e => t.queueOther p (56 + p) (v.pageFrame ((s.discoveryPages p).length - 1) (t.port p).cfg e)) s

/-- The frames that they are queued as. -/
def State.pageFrames (v : NetShow) (s : State) (p : Nat) : List TxFrame :=
  (s.discoveryPages p).zipIdx.map fun e => (s.port p).ownFrame (56 + p) (v.pageFrame ((s.discoveryPages p).length - 1) (s.port p).cfg e)

theorem State.queuePages_portTo (v : NetShow) (s : State) (p : Nat) :
    s.PortTo p ((s.port p).queueing (s.pageFrames v p)) (s.queuePages v p) :=
  State.foldl_queueOther_portTo (v.pageFrame ((s.discoveryPages p).length - 1)) p (56 + p) (s.discoveryPages p).zipIdx s

/-- Pages that are queued change ports alone. -/
theorem State.queuePages_frame (v : NetShow) (s : State) (p : Nat) : (s.queuePages v p).txn = s.txn ∧ (s.queuePages v p).group = s.group
    ∧ (s.queuePages v p).clock = s.clock ∧ (s.queuePages v p).net.discoveryAt = s.net.discoveryAt := by
  have hfold : ∀ (l : List (List Nat × Nat)) (u : State), (l.foldl (fun t e => t.queueOther p (56 + p)
      (v.pageFrame ((s.discoveryPages p).length - 1) (t.port p).cfg e)) u).net.discoveryAt = u.net.discoveryAt := by
    intro l
    induction l with
    | nil => exact fun _ => rfl
    | cons e l ih => exact fun u => ih _
  refine ⟨foldl_txn _ _ _ fun _ _ => rfl, foldl_group _ _ _ fun _ _ => rfl, foldl_clock _ _ _ fun _ _ => rfl, hfold _ _⟩

theorem State.pageFrames_congr (v : NetShow) (htxn : t.txn = s.txn) (hgroup : t.group = s.group) (hport : t.port p = s.port p) :
    t.pageFrames v p = s.pageFrames v p := by
  have hpages : t.discoveryPages p = s.discoveryPages p := by
    simp only [State.discoveryPages, State.discovered, htxn, hgroup]
  rw [State.pageFrames, hpages, hport, State.pageFrames]

/-- Pages queued on ports that are all different: each port has its own, and nothing else changes. -/
theorem State.foldl_queuePages (v : NetShow) (l : List Nat) (hl : l.Nodup) (s : State) :
    (∀ p, ((l.foldl (State.queuePages v) s).port p).otherQueue
      = (s.port p).otherQueue ++ (if p ∈ l then s.pageFrames v p else []))
    ∧ (l.foldl (State.queuePages v) s).txn = s.txn ∧ (l.foldl (State.queuePages v) s).clock = s.clock
    ∧ (l.foldl (State.queuePages v) s).net.discoveryAt = s.net.discoveryAt := by
  induction l generalizing s with
  | nil => exact ⟨fun p => (List.append_nil _).symm, rfl, rfl, rfl⟩
  | cons q l ih =>
    obtain ⟨hq, hl⟩ := List.nodup_cons.mp hl
    obtain ⟨hqueues, htxn, hclock, hat⟩ := ih hl (s.queuePages v q)
    obtain ⟨htxn', hgroup', hclock', hat'⟩ := s.queuePages_frame v q
    have hport := s.queuePages_portTo v q
    refine ⟨fun p => ?_, htxn.trans htxn', hclock.trans hclock', hat.trans hat'⟩
    rw [List.foldl_cons, hqueues p]
    by_cases hpq : p = q
    · subst hpq
      rw [hport.port, if_neg hq, if_pos List.mem_cons_self, List.append_nil]
      rfl
    · rw [hport.others p hpq, State.pageFrames_congr v htxn' hgroup' (hport.others p hpq)]
      simp only [List.mem_cons, hpq, false_or]

/-- Less than 10 s have passed since the last universe discovery. -/
def State.discoveryWaits (s : State) : Bool := s.net.discoveryAt.elim false fun x => s.now < x + 10 * cycSec

theorem State.discoveryWaits_of_before {x : Nat} (hx : s.net.discoveryAt = some x) (hlt : s.now < x + 10 * cycSec) :
    s.discoveryWaits = true := by
  rw [State.discoveryWaits, hx, Option.elim_some]
  exact decide_eq_true hlt

theorem State.discoveryWaits_of_due (hdue : ∀ x, s.net.discoveryAt = some x → x + 10 * cycSec ≤ s.now) : s.discoveryWaits = false := by
  unfold State.discoveryWaits
  cases hx : s.net.discoveryAt with
  | none => rfl
  | some x =>
    rw [Option.elim_some]
    exact decide_eq_false (Nat.not_lt.mpr (hdue x hx))

theorem State.sacnDiscovery_of_not_due (h : s.txn.view.net.discovery = false ∨ s.txn.view.net.cid = 0 ∨ s.emits = false
    ∨ s.discoveryWaits = true) : s.sacnDiscovery = s := by
  unfold State.discoveryWaits at h
  rcases h with h | h | h | h
  · simp only [State.sacnDiscovery, h, Bool.not_false, Bool.true_or, if_true]
  · simp only [State.sacnDiscovery, h, decide_true, Bool.or_true, Bool.true_or, if_true]
  · simp only [State.sacnDiscovery, h, Bool.not_false, Bool.or_true, Bool.true_or, if_true]
  · simp only [State.sacnDiscovery, h, Bool.or_true, if_true]

/-- Universe discovery that is due is queued on every port of 0 to 3 that sends. -/
theorem State.sacnDiscovery_of_due (hon : s.txn.view.net.discovery = true) (hcid : s.txn.view.net.cid ≠ 0) (hemits : s.emits = true)
    (hdue : s.discoveryWaits = false) : s.sacnDiscovery = ((List.range 4).filter s.sends).foldl (State.queuePages s.txn.view.net)
      { s with net := { s.net with discoveryAt := some s.now } } := by
  unfold State.discoveryWaits at hdue
  simp only [State.sacnDiscovery, hon, hcid, hemits, hdue, Bool.not_true, decide_false, Bool.or_self, Bool.false_eq_true, if_false]
  rfl

theorem runs_sacnDiscoveryTimer {dt : Nat} (hon : s.txn.view.net.discovery = true) (hcid : s.txn.view.net.cid ≠ 0)
    (hemits : s.emits = true) (hdue : ∀ x, s.net.discoveryAt = some x → x + 10 * cycSec ≤ (s.tick dt).now) :
    Runs (.sacnDiscoveryTimer dt) s fun t =>
      t.net.discoveryAt = some (s.tick dt).now ∧ t.clock = s.clock ∧ t.txn = s.txn
        ∧ (∀ p, p < 4 → (t.port p).otherQueue = (s.port p).otherQueue
          ++ (if (s.tick dt).sends p then s.pageFrames s.txn.view.net p else [])) := by
  have hqueued := State.sacnDiscovery_of_due (s := s.tick dt) hon hcid hemits (State.discoveryWaits_of_due hdue)
  obtain ⟨hqueues, htxn, hclock, hat⟩ := State.foldl_queuePages s.txn.view.net ((List.range 4).filter (s.tick dt).sends)
    (List.nodup_range.filter _) { s.tick dt with net := { s.net with discoveryAt := some (s.tick dt).now } }
  refine ⟨_, next_settle_congr hqueued, ?_, ?_, ?_, fun p hp => ?_⟩
  · rw [State.settle_net]
    exact hat
  · rw [State.settle_clock]
    exact hclock
  · rw [State.settle_txn]
    exact htxn
  · have hmem : (p ∈ (List.range 4).filter (s.tick dt).sends) = ((s.tick dt).sends p = true) := by
      simp only [List.mem_filter, List.mem_range, hp, true_and]
    rw [State.port, State.settle_net]
    refine (hqueues p).trans ?_
    simp only [hmem]
    rfl

end Discovery

/-! ### The statement -/

section PauseExpiry

variable {s : State} {p : Nat} {x : Instant}

theorem State.pauseExpiry_of_over (hx : (s.port p).pauseEnd = some x) (hover : x ≤ s.tb) :
    s.pauseExpiry p = s.setPort p { s.port p with pauseEnd := none } := by
  simp only [State.pauseExpiry, hx, Option.elim_some, hover, decide_true, if_true]

theorem State.pauseExpiry_of_paused (hx : (s.port p).pauseEnd = some x) (hlt : s.tb < x) : s.pauseExpiry p = s := by
  simp only [State.pauseExpiry, hx, Option.elim_some, Int.not_le.mpr hlt, decide_false, Bool.false_eq_true, if_false]

end PauseExpiry

/-- Settles O48: how a port goes UP and DOWN, where a received frame ends by the steps of R382, what a free port sends next by the
order of R389, and the pages of universe discovery. -/
theorem ethernetPortsReceiveAndSend : Obligations.EthernetPortsReceiveAndSend := by
  refine ⟨fun dt link s hon hp hdown hserdes => ?linkUp, fun dt link s h hp hserdes => ?linkStays,
    fun dt link ys s => exec_netLinkUp_of_head,
    fun dt port modAbs txFault rxLos s hup hp => next_settle_congr
      (congrArg (·.serdesDone (.port port)) (State.netDown_of_up (s := s.tick dt) hup hp)),
    fun dt modAbs txFault rxLos s hup => next_settle_congr
      (congrArg (·.serdesDone (.port 4)) (State.netDown_of_up_management (s := s.tick dt) hup)),
    fun dt port modAbs txFault rxLos s hdown hp => next_settle_congr
      (congrArg (·.serdesDone (.port port)) (State.netDown_of_down (s := s.tick dt) hdown hp)),
    fun dt port frame stop k s hon hp hup hstep => next_settle_congr (State.netRx_of_dropped hon hp hup hstep),
    fun dt port frame stop q s => runs_netFrameRx_of_pause,
    fun dt port frame stop q s hon hp hup hstep hpause hoff => ?pauseRefused,
    fun dt port frame stop s hon hp hup hstep hpause hcontrol => next_settle_congr
      (State.netRx_of_control hon hp hup hstep hpause hcontrol),
    fun dt port frame stop s hon hp hup hstep hpause hcontrol hsecy htakes => ?filtered,
    fun dt port frame k h d ds s hon hp hup hstep hpause hcontrol hsecy htakes hptp hpair hengine hquery hherr hring hhost hflags henabled
      hposted hok hfits => ?delivered,
    fun dt port frame stop s h => next_settle_congr (State.netRx_of_off (s := s.tick dt) h),
    fun dt port x s hx hover => next_settle_congr (State.pauseExpiry_of_over hx hover),
    fun dt port x s hx hlt => next_settle_congr (State.pauseExpiry_of_paused hx hlt),
    fun dt port turn f fs s hfree hrun hother hengine hclear => ?other, fun dt port turn f fs s => runs_netFrameTx_of_run,
    fun dt port turn k h d s hfree hrun herr hother hready hhost hchain hok hflags hweight =>
      runs_netFrameTx_of_host hfree hrun hother hready hhost herr hchain hok hflags hweight,
    fun dt port turn s h => next_settle_congr (State.netTx_of_busy h),
    fun dt s => runs_sacnDiscoveryTimer,
    fun dt s h => next_settle_congr (State.sacnDiscovery_of_not_due (s := s.tick dt) (h.imp_right (·.imp_right .inl))),
    fun dt x s hx hlt => next_settle_congr (State.sacnDiscovery_of_not_due (s := s.tick dt)
      (.inr (.inr (.inr (State.discoveryWaits_of_before hx hlt)))))⟩
  case linkUp =>
    obtain ⟨t, hexec, ⟨fs, hport⟩, hcount, hclock, htxn, hmem⟩ := runs_netLinkUp_of_down hon hp hdown hserdes
    refine ⟨t, hexec, ?_⟩
    dsimp only
    rw [hport.port]
    exact ⟨rfl, rfl, rfl, rfl, rfl, rfl, rfl, hcount, hport.others, hclock, htxn, hmem⟩
  case linkStays =>
    rw [exec_netLinkUp_of_none hserdes]
    exact next_settle_congr (State.netUp_of_unchanged (s := s.tick dt) hp h)
  case pauseRefused =>
    have hpassed : (((s.tick dt).passed port frame).port port).cfg.pauseRx = false :=
      (congrArg NetPortCfg.pauseRx ((s.tick dt).passed_countsAt port frame).cfg).trans hoff
    exact next_settle_congr ((State.netRx_of_pause hon hp hup hstep hpause).trans (State.pauseRx_of_off hpassed))
  case filtered =>
    have hpassed : ((s.tick dt).passed port frame).rxTakes port frame.bytes = false :=
      (((s.tick dt).passed_countsAt port frame).rxTakes frame.bytes).trans htakes
    exact next_settle_congr ((State.netRx_of_clear hon hp hup hstep hpause hcontrol hsecy).trans (State.classify_of_not_taken hpassed))
  case delivered =>
    obtain ⟨t, hexec, hframes, hrings, hdevIdx, hnext, hout, hports, hclock, htxn, hmem⟩ :=
      runs_netFrameRx_of_delivered hon hp hup hstep hpause hcontrol hsecy htakes hptp hpair hengine hquery hherr hring hhost hflags
        henabled hposted hok hfits
    exact ⟨t, hexec, hframes, hdevIdx, hnext.trans (congrArg (List.drop 1) hposted), hrings, hout, hports, hclock, htxn, hmem⟩
  case other =>
    have hset : f.protect = false ∨ (((s.tick dt).setPort port { (s.tick dt).port port with otherQueue := fs }).port port).secy.enable
        = false := by
      rw [State.setPort_port]
      exact hclear
    refine next_settle_congr ((State.netTx_of_other hfree hrun hother).trans ((State.sendOwn_of_clear hset).trans ?_))
    rw [State.noteRun, hengine]
    rfl

end Sys2Proof.Machine
end

section
/-!
PROOFS. RDM transactions (R327, R332, R361 to R364, R373): a request joins the queue of its port, the oldest one starts when there is
room for it or it has waited long enough, and its end completes the operation.
-/

namespace Sys2Proof.Machine

/-! ### Requests (R362, R373) -/

section Requests

variable {t : State} {c : Ctx} {j : Nat}

/-- Port `j` cannot send RDM requests. -/
def State.rdmRefuses (t : State) (j : Nat) : Bool :=
  (t.txn.view.ports.dmx.getD j {}).input || decide ((t.txn.view.ports.dmx.getD j {}).uid = 0) || !t.emits || !t.enabled 4 j

theorem State.rdmRefuses_iff : t.rdmRefuses j = true ↔ (t.txn.view.ports.dmx.getD j {}).input = true
    ∨ (t.txn.view.ports.dmx.getD j {}).uid = 0 ∨ t.emits = false ∨ t.enabled 4 j = false := by
  simp only [State.rdmRefuses, Bool.or_eq_true, decide_eq_true_eq, Bool.not_eq_true', or_assoc]

theorem State.rdmRefuses_of_sending (hout : (t.txn.view.ports.dmx.getD j {}).input = false)
    (huid : (t.txn.view.ports.dmx.getD j {}).uid ≠ 0) (hemits : t.emits = true) (hon : t.enabled 4 j = true) :
    t.rdmRefuses j = false := by
  simp only [State.rdmRefuses, hout, huid, hemits, hon, decide_false, Bool.not_true, Bool.or_self]

/-- The transaction of operation `id` waits at the end of the queue of port `j` (R364). -/
def State.rdmQueue (t : State) (j id : Nat) (payload : Bytes) : State :=
  t.setDmx j { t.dmxPort j with queue := (t.dmxPort j).queue ++ [⟨id, payload, t.now⟩] }

theorem rdmTransactionSpec_body_of_refused (h : t.rdmRefuses (fld c.payload 0 1) = true) :
    rdmTransactionSpec.body c t = (t, ⟨.conflict, [], none⟩) :=
  if_pos h

theorem rdmTransactionSpec_body_of_full (h : t.rdmRefuses (fld c.payload 0 1) = false)
    (hfull : 4 ≤ (t.dmxPort (fld c.payload 0 1)).queue.length) :
    rdmTransactionSpec.body c t = (t.queueOverflow (0x30 + fld c.payload 0 1), ⟨.busy, [], none⟩) :=
  (if_neg (Bool.eq_false_iff.mp h)).trans (if_pos hfull)

theorem rdmTransactionSpec_body_of_room (h : t.rdmRefuses (fld c.payload 0 1) = false)
    (hroom : (t.dmxPort (fld c.payload 0 1)).queue.length < 4) (haccept : t.acceptFail = none) :
    rdmTransactionSpec.body c t
      = ((t.started c (.job [fld c.payload 0 1] [])).rdmQueue (fld c.payload 0 1) t.host.nextOp c.payload, ⟨.accepted, [], none⟩) := by
  refine (if_neg (Bool.eq_false_iff.mp h)).trans ((if_neg (Nat.not_le.mpr hroom)).trans ?_)
  simp only [State.accept, haccept]
  rfl

end Requests

/-! ### The start (R364) -/

section Start

variable {s : State} {j : Nat} {job : RdmJob} {rest : List RdmJob}

/-- The next emission of port `j` leaves room for the transaction and 5.8 ms. -/
def State.rdmRoom (s : State) (j : Nat) (job : RdmJob) : Bool :=
  (s.nextDmxInstant j).elim true fun x => decide (s.tb + usUnits (job.requestUs + 5800) ≤ x)

theorem State.rdmRoom_of_later (h : ∀ x, s.nextDmxInstant j = some x → s.tb + usUnits (job.requestUs + 5800) ≤ x) :
    s.rdmRoom j job = true := by
  unfold State.rdmRoom
  cases hnext : s.nextDmxInstant j with
  | none => rfl
  | some x => exact decide_eq_true (h x hnext)

theorem State.rdmRoom_of_sooner {x : Instant} (hnext : s.nextDmxInstant j = some x) (hlt : x < s.tb + usUnits (job.requestUs + 5800)) :
    s.rdmRoom j job = false := by
  rw [State.rdmRoom, hnext]
  exact decide_eq_false (Int.not_le.mpr hlt)

/-- Port `j` may start nothing now: it is busy, or cannot send. -/
def State.rdmHeld (s : State) (j : Nat) : Bool := (s.dmxPort j).busy s.tb || !s.emits || !s.enabled 4 j

theorem State.rdmHeld_of_idle (hidle : (s.dmxPort j).busy s.tb = false) (hemits : s.emits = true) (hon : s.enabled 4 j = true) :
    s.rdmHeld j = false := by
  simp only [State.rdmHeld, hidle, hemits, hon, Bool.not_true, Bool.or_self]

theorem State.rdmHeld_iff : s.rdmHeld j = true ↔ (s.dmxPort j).busy s.tb = true ∨ s.emits = false ∨ s.enabled 4 j = false := by
  simp only [State.rdmHeld, Bool.or_eq_true, Bool.not_eq_true', or_assoc]

/-- The transaction `job` of port `j` starts its break, `rest` stays queued, and the counters become `counts`. -/
def State.rdmBegin (s : State) (j : Nat) (job : RdmJob) (rest : List RdmJob) (counts : List Word) : State :=
  (s.setDmx j { s.dmxPort j with
    queue := rest, tn := ((s.dmxPort j).tn + 1) % 256, turnaround := false, deferDrive := false, counts := counts
    run := some { job := job, tn := (s.dmxPort j).tn, startAt := s.tb, reqPos := s.pos } }).emit
      (.rdm j s.tb job.op (job.packet (s.txn.view.ports.dmx.getD j {}).uid (s.dmxPort j).tn))

theorem State.rdmStart_of_empty (h : (s.dmxPort j).queue = []) : s.rdmStart j = s := by
  simp only [State.rdmStart, h]

theorem State.rdmStart_of_queued (h : (s.dmxPort j).queue = job :: rest) :
    s.rdmStart j = if s.rdmHeld j || !(s.rdmRoom j job || decide (job.since + 500 * cycMs ≤ s.now)) then s
      else s.rdmBegin j job rest (if s.rdmRoom j job then bump 1 (s.dmxPort j).counts else bump 4 (bump 1 (s.dmxPort j).counts)) := by
  simp only [State.rdmStart, h]
  rfl

/-- A port that is busy or cannot send starts nothing, whatever its queue holds. -/
theorem State.rdmStart_of_held (h : s.rdmHeld j = true) : s.rdmStart j = s := by
  cases hqueue : (s.dmxPort j).queue with
  | nil => exact State.rdmStart_of_empty hqueue
  | cons job rest => rw [State.rdmStart_of_queued hqueue, h, Bool.true_or, if_pos rfl]

/-- A transaction with too little room waits, up to 500 ms. -/
theorem State.rdmStart_of_waiting (hqueue : (s.dmxPort j).queue = job :: rest) (hroom : s.rdmRoom j job = false)
    (hwait : s.now < job.since + 500 * cycMs) : s.rdmStart j = s := by
  rw [State.rdmStart_of_queued hqueue, hroom, decide_eq_false (Nat.not_le.mpr hwait), Bool.or_self, Bool.not_false, Bool.or_true,
    if_pos rfl]

theorem State.rdmStart_of_room (hqueue : (s.dmxPort j).queue = job :: rest) (hfree : s.rdmHeld j = false)
    (hroom : s.rdmRoom j job = true) : s.rdmStart j = s.rdmBegin j job rest (bump 1 (s.dmxPort j).counts) := by
  rw [State.rdmStart_of_queued hqueue, hfree, hroom]
  rfl

/-- A transaction that has waited 500 ms starts without room, and counts as forced. -/
theorem State.rdmStart_of_forced (hqueue : (s.dmxPort j).queue = job :: rest) (hfree : s.rdmHeld j = false)
    (hroom : s.rdmRoom j job = false) (hwaited : job.since + 500 * cycMs ≤ s.now) :
    s.rdmStart j = s.rdmBegin j job rest (bump 4 (bump 1 (s.dmxPort j).counts)) := by
  rw [State.rdmStart_of_queued hqueue, hfree, hroom, decide_eq_true hwaited]
  rfl

end Start

/-! ### The end (R363) -/

section End

theorem usUnits_add (a b : Nat) : usUnits (a + b) = usUnits a + usUnits b := by
  simp only [usUnits]
  omega

theorem usUnits_nonneg (a : Nat) : 0 ≤ usUnits a := Int.natCast_nonneg _

/-- How long after its request a transaction may end. -/
def RdmRun.waitUs (r : RdmRun) (brk : Bool) : Nat :=
  if r.job.discovers then 2800 else if r.job.broadcast then 176 else if brk then 0 else 2800

theorem RdmRun.ended_of_over {r : RdmRun} {brk : Bool} {tb : Instant} (h : r.startAt + usUnits (r.job.requestUs + r.waitUs brk) ≤ tb) :
    r.ended brk tb = true := by
  rw [usUnits_add, ← Int.add_assoc] at h
  exact decide_eq_true h

/-- No transaction ends before its request has been sent. -/
theorem RdmRun.ended_of_requesting {r : RdmRun} {tb : Instant} (h : tb < r.startAt + usUnits r.job.requestUs) (brk : Bool) :
    r.ended brk tb = false := by
  have hwait := usUnits_nonneg (r.waitUs brk)
  exact decide_eq_false (Int.not_le.mpr (lt_add_of_lt_of_nonneg h hwait))

/-- The bytes that a transaction takes as its response: none answers a broadcast. -/
def RdmJob.response (job : RdmJob) (bs : Bytes) : Bytes := if job.broadcast && !job.discovers then [] else bs

/-- The response payload of the completion: RESULT, transaction number, length and the position of the request. -/
def RdmRun.completion (run : RdmRun) (result len : Nat) : Bytes :=
  bytesLE 1 result ++ bytesLE 1 run.tn ++ bytesLE 2 len ++ zeros 4 ++ posBytes run.reqPos ++ zeros 6

variable {s : State} {j : Nat} {brk : Bool} {bs : Bytes} {run : RdmRun}

/-- Port `j` turns around after its transaction. -/
def State.rdmTurn (s : State) (j : Nat) (result : Nat) : State :=
  s.setDmx j { s.dmxPort j with
    run := none, sendEnd := some (s.tb + usUnits 176), turnaround := true
    counts := if result = 0 then (s.dmxPort j).counts else bump 3 (s.dmxPort j).counts }

/-- What a valid response tells of temperatures and lamps is recorded. -/
def State.rdmRecord (s : State) (job : RdmJob) (result : Nat) (bs : Bytes) : State :=
  if result = 0 && !job.discovers then (s.rdmSensor job bs).rdmLamp job bs else s

/-- The response lands in the region, up to its capacity. -/
def State.rdmStore (s : State) (job : RdmJob) (bs : Bytes) : State :=
  if (bs.take job.respCap).isEmpty then s else (s.writeRegion job.respOff (bs.take job.respCap)).memWritten 0

theorem State.rdmRecord_frame (s : State) (job : RdmJob) (result : Nat) (bs : Bytes) :
    (s.rdmRecord job result bs).txn = s.txn ∧ (s.rdmRecord job result bs).clock = s.clock ∧ (s.rdmRecord job result bs).time = s.time
      ∧ (s.rdmRecord job result bs).ports = s.ports ∧ (s.rdmRecord job result bs).mem = s.mem := by
  unfold State.rdmRecord
  split
  · simp only [State.rdmLamp_frame, State.rdmSensor_frame, and_self]
  · exact ⟨rfl, rfl, rfl, rfl, rfl⟩

theorem State.rdmStore_frame (s : State) (job : RdmJob) (bs : Bytes) : (s.rdmStore job bs).txn = s.txn
    ∧ (s.rdmStore job bs).clock = s.clock ∧ (s.rdmStore job bs).time = s.time ∧ (s.rdmStore job bs).ports = s.ports := by
  unfold State.rdmStore
  split
  · exact ⟨rfl, rfl, rfl, rfl⟩
  · simp only [State.memWritten_frame, State.writeRegion_txn, State.writeRegion_clock, State.writeRegion_time, State.writeRegion_ports,
      and_self]

/-- Port `j` has turned around, and the response of `job` is recorded and stored. -/
def State.rdmTaken (s : State) (j : Nat) (job : RdmJob) (result : Nat) (bs : Bytes) : State :=
  ((s.rdmTurn j result).rdmRecord job result bs).rdmStore job bs

theorem State.rdmTaken_frame (s : State) (j : Nat) (job : RdmJob) (result : Nat) (bs : Bytes) :
    (s.rdmTaken j job result bs).txn = s.txn ∧ (s.rdmTaken j job result bs).clock = s.clock
      ∧ (s.rdmTaken j job result bs).time = s.time ∧ (s.rdmTaken j job result bs).ports = (s.rdmTurn j result).ports := by
  simp only [State.rdmTaken, State.rdmStore_frame, State.rdmRecord_frame, and_true]
  exact ⟨rfl, rfl, rfl⟩

theorem State.rdmTaken_pos (s : State) (j : Nat) (job : RdmJob) (result : Nat) (bs : Bytes) :
    (s.rdmTaken j job result bs).pos = s.pos := by
  simp only [State.pos, State.tb, State.rdmTaken_frame]

/-- A transaction that takes nothing and fails leaves no more than its port's turnaround. -/
theorem State.rdmTaken_of_nothing (s : State) (j : Nat) (job : RdmJob) (k : Nat) : s.rdmTaken j job (k + 1) [] = s.rdmTurn j (k + 1) := by
  have hrecord : (s.rdmTurn j (k + 1)).rdmRecord job (k + 1) [] = s.rdmTurn j (k + 1) := rfl
  rw [State.rdmTaken, hrecord, State.rdmStore, List.take_nil]
  rfl

theorem getD_take_of_lt {bs : Bytes} {n k : Nat} (h : k < (bs.take n).length) : (bs.take n).getD k 0 = bs.getD k 0 := by
  rw [List.length_take] at h
  rw [List.getD_eq_getElem?_getD, List.getD_eq_getElem?_getD, List.getElem?_take_of_lt (by omega)]

/-- Only the bytes of the response change in the region, and only up to its capacity. -/
theorem State.rdmStore_read (h : Memory.wf s.mem = true) (job : RdmJob) (bs : Bytes) (a : Nat) :
    memRead (s.rdmStore job bs).mem a = if job.respOff ≤ a ∧ a < job.respOff + (bs.take job.respCap).length
      then bs.getD (a - job.respOff) 0 else memRead s.mem a := by
  unfold State.rdmStore
  split
  next hempty => rw [List.isEmpty_iff.mp hempty, List.length_nil, if_neg (by omega)]
  · simp only [State.memWritten_frame]
    refine (s.writeRegion_read job.respOff a _ h).trans (if_ctx_congr Iff.rfl (fun hin => ?_) fun _ => rfl)
    exact getD_take_of_lt (by omega)

theorem State.rdmTaken_read (h : Memory.wf s.mem = true) (j : Nat) (job : RdmJob) (result : Nat) (bs : Bytes) (a : Nat) :
    memRead (s.rdmTaken j job result bs).mem a = if job.respOff ≤ a ∧ a < job.respOff + (bs.take job.respCap).length
      then bs.getD (a - job.respOff) 0 else memRead s.mem a := by
  have hmem : ((s.rdmTurn j result).rdmRecord job result bs).mem = s.mem := by
    simp only [State.rdmRecord_frame]
    rfl
  rw [State.rdmTaken, State.rdmStore_read (by rw [hmem, h]), hmem]

theorem State.rdmEnd_of_idle (h : (s.dmxPort j).run = none) : s.rdmEnd j brk bs = s := by
  simp only [State.rdmEnd, h]

theorem State.rdmEnd_of_running (hrun : (s.dmxPort j).run = some run) (hended : run.ended brk s.tb = false) :
    s.rdmEnd j brk bs = s := by
  simp only [State.rdmEnd, hrun, hended, Bool.not_false, if_true]

/-- A transaction that ends: its port turns around, its response is recorded and stored, and its operation completes. -/
theorem State.rdmEnd_of_ended (hrun : (s.dmxPort j).run = some run) (hended : run.ended brk s.tb = true) {res : Bytes} {result : Nat}
    (hres : run.job.response bs = res) (hresult : run.job.result brk res = result) :
    s.rdmEnd j brk bs = (s.rdmTaken j run.job result res).endOpId run.job.op .ok s.pos (run.completion result res.length) := by
  subst hres hresult
  rw [← State.rdmTaken_pos s j run.job (run.job.result brk (run.job.response bs)) (run.job.response bs)]
  simp only [State.rdmEnd, hrun, hended, Bool.not_true, Bool.false_eq_true, if_false]
  rfl

/-- A transaction that takes no response completes with its result, and nothing is recorded or stored. -/
theorem State.rdmEnd_of_silent (hrun : (s.dmxPort j).run = some run) (hended : run.ended brk s.tb = true)
    (hres : run.job.response bs = []) {k : Nat} (hresult : run.job.result brk [] = k + 1) :
    s.rdmEnd j brk bs = (s.rdmTurn j (k + 1)).endOpId run.job.op .ok s.pos (run.completion (k + 1) 0) := by
  rw [State.rdmEnd_of_ended hrun hended hres hresult, State.rdmTaken_of_nothing, List.length_nil]

/-- A response that ends after its request ends the transaction, and lands in the region. -/
theorem runs_rdmResponseEnd_of_response {dt : Nat} (hwf : Memory.wf s.mem = true) (hrun : ((s.tick dt).dmxPort j).run = some run)
    (hover : run.startAt + usUnits run.job.requestUs ≤ (s.tick dt).tb) (hdisc : run.job.discovers = false)
    (hsingle : run.job.broadcast = false) :
    Runs (.rdmResponseEnd dt j true bs) s fun t =>
      (t.ports.dmx.getD j {}).run = none ∧ (t.ports.dmx.getD j {}).queue = ((s.tick dt).dmxPort j).queue
        ∧ (t.ports.dmx.getD j {}).sendEnd = some ((s.tick dt).tb + usUnits 176) ∧ t.txn = s.txn ∧ t.clock = s.clock
        ∧ (∀ a, memRead t.mem a = if run.job.respOff ≤ a ∧ a < run.job.respOff + (bs.take run.job.respCap).length
          then bs.getD (a - run.job.respOff) 0 else memRead s.mem a) := by
  have hended : run.ended true (s.tick dt).tb = true := RdmRun.ended_of_over (by simpa [RdmRun.waitUs, hdisc, hsingle] using hover)
  have hres : run.job.response bs = bs := by simp only [RdmJob.response, hsingle, Bool.false_and, Bool.false_eq_true, if_false]
  refine ⟨_, next_settle_congr (State.rdmEnd_of_ended hrun hended hres rfl), ?_⟩
  simp only [State.settle_ports, State.settle_txn, State.settle_clock, State.settle_mem, State.endOpId_frame, State.rdmTaken_frame,
    State.rdmTurn, State.setDmx_ports, Map.getD_put_self, State.tick_txn, State.tick_clock, true_and]
  exact fun a => State.rdmTaken_read (s := s.tick dt) hwf j run.job _ bs a

end End

/-- Settles O46: a request joins its port's queue or is refused, the oldest one starts with room or by force, and a transaction that ends
frees its port and completes its operation. -/
theorem rdmTransactionsQueueAndEnd : Obligations.RdmTransactionsQueueAndEnd := by
  refine ⟨fun dt m s t e c p h hout huid hemits hon hroom haccept => ?joins, fun dt m s t e c p h hout huid hemits hon hfull => ?full,
    fun dt m s t e c p h hrefused => ?refused,
    fun dt port job rest s hqueue hidle hemits hon hlater => next_settle_congr (State.rdmStart_of_room hqueue
      (State.rdmHeld_of_idle (s := s.tick dt) hidle hemits hon) (State.rdmRoom_of_later hlater)),
    fun dt port job rest x s hqueue hidle hemits hon hnext hlt hwaited => next_settle_congr (State.rdmStart_of_forced hqueue
      (State.rdmHeld_of_idle (s := s.tick dt) hidle hemits hon) (State.rdmRoom_of_sooner hnext hlt) hwaited),
    fun dt port s h => next_settle_congr (h.elim State.rdmStart_of_empty fun hheld =>
      State.rdmStart_of_held (State.rdmHeld_iff (s := s.tick dt).mpr hheld)),
    fun dt port job rest x s hqueue hnext hlt hwait =>
      next_settle_congr (State.rdmStart_of_waiting hqueue (State.rdmRoom_of_sooner hnext hlt) hwait),
    fun dt port run s hrun hover hdisc hsingle => next_settle_congr ?window,
    fun dt port brk bytes run s hrun hover hdisc hall => next_settle_congr ?broadcast,
    fun dt port bytes run s => runs_rdmResponseEnd_of_response,
    fun dt port brk bytes s h => next_settle_congr ?unended⟩
  case joins =>
    obtain ⟨-, -, -, rfl⟩ := running_state h
    exact running_act h (rdmTransactionSpec_body_of_room (State.rdmRefuses_of_sending hout huid hemits hon) hroom haccept)
  case full =>
    obtain ⟨-, -, -, rfl⟩ := running_state h
    exact running_act h (rdmTransactionSpec_body_of_full (State.rdmRefuses_of_sending hout huid hemits hon) hfull)
  case refused =>
    obtain ⟨-, -, -, rfl⟩ := running_state h
    exact running_act h (rdmTransactionSpec_body_of_refused (State.rdmRefuses_iff.mpr hrefused))
  case window =>
    have hended : run.ended false (s.tick dt).tb = true :=
      RdmRun.ended_of_over (by simpa [RdmRun.waitUs, hdisc, hsingle] using hover)
    exact State.rdmEnd_of_silent hrun hended (ite_self _) (by simp [RdmJob.result, hdisc, hsingle])
  case broadcast =>
    have hended : run.ended brk (s.tick dt).tb = true := RdmRun.ended_of_over (by simpa [RdmRun.waitUs, hdisc, hall] using hover)
    exact State.rdmEnd_of_silent hrun hended (by simp [RdmJob.response, hdisc, hall]) (by simp [RdmJob.result, hdisc, hall])
  case unended =>
    rcases h with hnone | ⟨run, hrun, hrequesting⟩
    · exact State.rdmEnd_of_idle hnone
    · exact State.rdmEnd_of_running hrun (RdmRun.ended_of_requesting hrequesting brk)

end Sys2Proof.Machine
end

section
/-!
PROOFS. The interrupt controller (spec/15_interrupts.md, R461 to R472): the states of a source, the order of the table of sources, the
claim, and the writes of the controller's registers.
-/

namespace Sys2Proof.Machine

/-! ### The table of sources in rising order (R461) -/

/-- The keys of a table rise. -/
def Rising {α : Type} (m : Map α) : Prop := (m.map (·.1)).Pairwise (· < ·)

/-- What setting an entry leaves in the table: the entry, and entries that were there. -/
theorem Map.mem_put {α : Type} {m : Map α} {k : Nat} {v : α} {e : Nat × α} (h : e ∈ m.put k v) : e = (k, v) ∨ e ∈ m := by
  induction m with
  | nil => exact .inl (by simpa [Map.put] using h)
  | cons e' m ih =>
    obtain ⟨k', v'⟩ := e'
    simp only [Map.put] at h
    split at h
    · simpa using h
    · split at h
      · rcases List.mem_cons.mp h with h | h
        · exact .inl h
        · exact .inr (List.mem_cons_of_mem _ h)
      · rcases List.mem_cons.mp h with h | h
        · exact .inr (h ▸ List.mem_cons_self)
        · exact (ih h).imp_right (List.mem_cons_of_mem _)

/-- Setting an entry keeps the keys rising. -/
theorem Rising.put {α : Type} {m : Map α} (h : Rising m) (k : Nat) (v : α) : Rising (m.put k v) := by
  induction m with
  | nil => simp [Rising, Map.put]
  | cons e m ih =>
    obtain ⟨k', v'⟩ := e
    obtain ⟨hall, hm⟩ := List.pairwise_cons.mp h
    simp only [Map.put]
    split
    · rename_i hlt
      refine List.pairwise_cons.mpr ⟨fun j hj => ?_, h⟩
      rcases List.mem_cons.mp hj with rfl | hj
      · exact hlt
      · exact hlt.trans (hall j hj)
    · split
      · rename_i heq
        exact heq ▸ List.pairwise_cons.mpr ⟨hall, hm⟩
      · rename_i hge hne
        refine List.pairwise_cons.mpr ⟨fun j hj => ?_, ih hm⟩
        obtain ⟨e, he, rfl⟩ := List.mem_map.mp hj
        rcases Map.mem_put he with rfl | he
        · exact show k' < k by omega
        · exact hall _ (List.mem_map_of_mem he)

/-- In a table with rising keys the entry of a key is found under it. -/
theorem Rising.find_of_mem {α : Type} {m : Map α} (h : Rising m) {k : Nat} {v : α} (hm : (k, v) ∈ m) : Map.find m k = some v := by
  induction m with
  | nil => cases hm
  | cons e m ih =>
    obtain ⟨k', v'⟩ := e
    obtain ⟨hall, hrise⟩ := List.pairwise_cons.mp h
    rw [Map.find_cons]
    rcases List.mem_cons.mp hm with heq | hm
    · cases heq; exact if_pos rfl
    · rw [if_neg (hall k (List.mem_map_of_mem hm)).ne, ih hrise hm]

/-- What a table finds stands in it. -/
theorem Map.mem_of_find {α : Type} {m : Map α} {k : Nat} {v : α} (h : Map.find m k = some v) : (k, v) ∈ m := by
  obtain ⟨⟨j, w⟩, hfind, rfl⟩ := Option.map_eq_some_iff.mp h
  have hk := List.find?_some hfind
  rw [beq_iff_eq] at hk
  exact hk ▸ List.mem_of_find?_eq_some hfind

/-- A source that is not as at reset has an entry. -/
theorem IcuState.mem_src {i : IcuState} {n : Nat} (h : (i.src n).phase ≠ .idle) : (n, i.src n) ∈ i.sources := by
  unfold IcuState.src Map.getD at h ⊢
  cases hfind : Map.find i.sources n with
  | none => rw [hfind] at h; exact absurd rfl h
  | some x => exact Map.mem_of_find hfind

theorem IcuState.sorted.src_of_mem {i : IcuState} (h : i.sorted) {e : Nat × IcuSource} (he : e ∈ i.sources) : i.src e.1 = e.2 := by
  rw [IcuState.src, Map.getD, Rising.find_of_mem h (k := e.1) (v := e.2) he, Option.getD_some]

/-! Every operation of the controller sets one source, or several one after the other, or none. -/

theorem IcuState.sorted.setSrc {i : IcuState} (h : i.sorted) (n : Nat) (f : IcuSource → IcuSource) : (i.setSrc n f).sorted :=
  Rising.put h n _

theorem IcuState.sorted.of_sources {i j : IcuState} (h : i.sorted) (he : j.sources = i.sources) : j.sorted := by
  unfold IcuState.sorted at h ⊢
  rwa [he]

theorem IcuState.sorted.foldl {β : Type} {f : IcuState → β → IcuState} (hf : ∀ i b, i.sorted → (f i b).sorted) (l : List β) {i : IcuState}
    (h : i.sorted) : (l.foldl f i).sorted := by
  induction l generalizing i with
  | nil => exact h
  | cons b l ih => exact ih (hf i b h)

theorem IcuState.foldl_sources {β : Type} {f : IcuState → β → IcuState} (hf : ∀ i b, (f i b).sources = i.sources) (l : List β)
    (i : IcuState) : (l.foldl f i).sources = i.sources := by
  induction l generalizing i with
  | nil => rfl
  | cons b l ih => rw [List.foldl_cons, ih, hf]

theorem IcuState.sorted.edge {i : IcuState} (h : i.sorted) (n now : Nat) : (i.edge n now).sorted := by
  unfold IcuState.edge
  split
  · exact h.setSrc n _
  · exact h

theorem IcuState.sorted.pend {i : IcuState} (h : i.sorted) (n now : Nat) : (i.pend n now).sorted := by
  unfold IcuState.pend
  split
  · exact h.setSrc n _
  · exact h

theorem IcuState.sorted.claim {i : IcuState} (h : i.sorted) (t now : Nat) : (i.claim t now).1.sorted := by
  unfold IcuState.claim
  split
  · exact h
  · exact h.setSrc _ _

theorem IcuState.sorted.complete {i : IcuState} (h : i.sorted) (t n : Nat) (holds : Bool) (now : Nat) :
    (i.complete t n holds now).sorted := by
  unfold IcuState.complete
  dsimp only
  split
  · exact (h.setSrc n fun x => x.complete holds now).of_sources rfl
  · exact h.of_sources rfl

/-- The end of a hold-off leaves every source as it is. -/
theorem IcuState.holdExpire_sources (i : IcuState) (g now : Nat) : (i.holdExpire g now).sources = i.sources := by
  unfold IcuState.holdExpire
  split
  · rfl
  · split
    · rfl
    · refine IcuState.foldl_sources (fun j t => ?_) _ _
      split <;> rfl

theorem IcuState.sorted.redirect {i : IcuState} (h : i.sorted) (n now : Nat) : (i.redirect n now).sorted := by
  unfold IcuState.redirect
  dsimp only
  split
  · exact h.setSrc n _
  · exact h

/-- A mask, an enable or a power state leaves every source as it is. -/
theorem IcuState.control_sources (i : IcuState) (c : SleepControl) (on : Bool) : (i.control c on).sources = i.sources := by
  cases c with
  | vectorMask t => exact (apply_ite IcuState.sources _ _ _).trans (ite_self _)
  | coreSleep k => exact (apply_ite IcuState.sources _ _ _).trans (ite_self _)
  | functionMask | msixEnable | busMaster | d3hot | pmeEn => rfl

theorem IcuState.sorted.wakeFunction {i : IcuState} (h : i.sorted) : i.wakeFunction.1.sorted := by
  unfold IcuState.wakeFunction
  split
  · exact h
  · exact IcuState.sorted.foldl (fun j n hj => hj.setSrc n _) _ h

/-- Re-evaluating targets one after the other leaves every source as it is. -/
theorem IcuState.evalTargets_sources (now : Nat) (l : List Nat) (a : IcuState × List OutEvent) :
    (l.foldl (fun acc t => let r := acc.1.evalTarget now t; (r.1, acc.2 ++ r.2)) a).1.sources = a.1.sources := by
  induction l generalizing a with
  | nil => rfl
  | cons t l ih => rw [List.foldl_cons, ih]; exact IcuState.evalTarget_sources _ _ _

theorem IcuState.sorted.eval {i : IcuState} (h : i.sorted) (now k : Nat) : (i.eval now k).1.sorted := by
  unfold IcuState.eval
  refine IcuState.sorted.of_sources (i := (if 32 < k then i.wakeCores else i).wakeFunction.1) ?_ (IcuState.evalTargets_sources now _ _)
  refine IcuState.sorted.wakeFunction ?_
  split
  · exact h.of_sources i.wakeCores_sources
  · exact h

/-- Settles O22: each operation sets sources one after the other, or leaves the table as it is. -/
theorem sourceTableStaysSorted : Obligations.SourceTableStaysSorted :=
  ⟨List.Pairwise.nil, fun i h n t now k holds on c f =>
    ⟨h.edge n now, h.setSrc n f, h.claim t now, h.pend n now, h.complete t n holds now, h.of_sources (i.holdExpire_sources n now),
      h.redirect n now, h.of_sources (i.control_sources c on), h.eval now k⟩⟩

/-! ### The states of a source (R462, R463) -/

theorem IcuSource.edge_phase (x : IcuSource) (now : Nat) : (x.edge now).phase = match x.phase with
    | .idle => .pending | .pending => .pending | .active => .activePending | .activePending => .activePending := by
  simp only [IcuSource.edge, IcuSource.pend]
  cases x.phase <;> rfl

theorem IcuSource.clear_phase (x : IcuSource) (now : Nat) : (x.clear now).phase = if x.edgeAt = some now then x.phase else match x.phase with
    | .idle => .idle | .pending => .idle | .active => .active | .activePending => .active := by
  unfold IcuSource.clear
  split
  · rfl
  · cases hphase : x.phase <;> simp [hphase]

theorem IcuSource.complete_phase (x : IcuSource) (holds : Bool) (now : Nat) : (x.complete holds now).phase = match x.phase with
    | .idle => .idle | .pending => .pending | .active => if holds then .pending else .idle | .activePending => .pending := by
  unfold IcuSource.complete
  cases hphase : x.phase <;> cases holds <;> simp [hphase]

/-- What an edge, a clearing write and a completion leave of a source. -/
def IcuSource.SameConfig (x y : IcuSource) : Prop := y.prio = x.prio ∧ y.target = x.target ∧ y.wake = x.wake

theorem IcuSource.edge_config (x : IcuSource) (now : Nat) : x.SameConfig (x.edge now) := by
  unfold IcuSource.edge IcuSource.pend
  cases x.phase <;> exact ⟨rfl, rfl, rfl⟩

theorem IcuSource.clear_config (x : IcuSource) (now : Nat) : x.SameConfig (x.clear now) ∧ (x.clear now).count = x.count := by
  unfold IcuSource.clear
  split
  · exact ⟨⟨rfl, rfl, rfl⟩, rfl⟩
  · cases x.phase <;> exact ⟨⟨rfl, rfl, rfl⟩, rfl⟩

theorem IcuSource.complete_config (x : IcuSource) (holds : Bool) (now : Nat) :
    x.SameConfig (x.complete holds now) ∧ (x.complete holds now).count = x.count := by
  unfold IcuSource.complete
  cases x.phase <;> cases holds <;> exact ⟨⟨rfl, rfl, rfl⟩, rfl⟩

/-- Settles O21: the table "Source states", by the state that the source is in. -/
theorem sourceStates : Obligations.SourceStates := by
  intro x now holds
  refine ⟨x.edge_count now, x.edge_phase now, x.clear_phase now, x.complete_phase holds now, ?_, (x.clear_config now).2,
    (x.complete_config holds now).2⟩
  rintro y (rfl | rfl | rfl)
  · exact x.edge_config now
  · exact (x.clear_config now).1
  · exact (x.complete_config holds now).1

/-! ### The best source (R464, R465) -/

/-- `n` is at least as good as `j`: of a higher PRIO, or of the same with no higher number. -/
def IcuState.Beats (i : IcuState) (n j : Nat) : Prop :=
  (i.src j).prio < (i.src n).prio ∨ ((i.src j).prio = (i.src n).prio ∧ n ≤ j)

theorem IcuState.Beats.trans {i : IcuState} {a b c : Nat} (hab : i.Beats a b) (hbc : i.Beats b c) : i.Beats a c := by
  unfold IcuState.Beats at *
  omega

/-- One more source compared with the best so far. -/
def IcuState.better (i : IcuState) (k n : Nat) : Nat := if (i.src k).prio < (i.src n).prio then n else k

/-- Of two sources in ascending order, the better one is at least as good as both. -/
theorem IcuState.better_beats (i : IcuState) {k n : Nat} (h : k < n) : i.Beats (i.better k n) k ∧ i.Beats (i.better k n) n := by
  unfold IcuState.better IcuState.Beats
  split <;> omega

/-- The best of a list with one more source is the better of that one and the best before. -/
theorem IcuState.bestOf_concat (i : IcuState) (ns : List Nat) (n : Nat) :
    i.bestOf (ns ++ [n]) = some ((i.bestOf ns).elim n fun k => i.better k n) := by
  unfold IcuState.bestOf
  rw [List.foldl_append]
  generalize List.foldl _ none ns = b
  cases b with
  | none => rfl
  | some k => exact (apply_ite some _ _ _).symm

theorem IcuState.bestOf_eq_none {i : IcuState} {ns : List Nat} : i.bestOf ns = none ↔ ns = [] := by
  induction ns using List.reverseRecOn with
  | nil => exact ⟨fun _ => rfl, fun _ => rfl⟩
  | append_singleton ns n ih => simp [IcuState.bestOf_concat]

/-- The best of ascending sources is one of them, and at least as good as each. -/
theorem IcuState.bestOf_spec {i : IcuState} {ns : List Nat} {n : Nat} (hns : ns.Pairwise (· < ·)) (h : i.bestOf ns = some n) :
    n ∈ ns ∧ ∀ j ∈ ns, i.Beats n j := by
  induction ns using List.reverseRecOn generalizing n with
  | nil => cases h
  | append_singleton ns m ih =>
    obtain ⟨hpair, -, hlt⟩ := List.pairwise_append.mp hns
    rw [IcuState.bestOf_concat, Option.some_inj] at h
    cases hbest : i.bestOf ns with
    | none =>
      rw [hbest] at h
      obtain rfl : m = n := h
      simp [IcuState.bestOf_eq_none.mp hbest, IcuState.Beats]
    | some k =>
      rw [hbest] at h
      obtain rfl : i.better k m = n := h
      obtain ⟨hk, hbeats⟩ := ih hpair hbest
      obtain ⟨hbk, hbm⟩ := i.better_beats (hlt k hk m (List.mem_singleton.mpr rfl))
      refine ⟨?_, fun j hj => ?_⟩
      · unfold IcuState.better
        split
        · exact List.mem_append_right _ (List.mem_singleton.mpr rfl)
        · exact List.mem_append_left _ hk
      · rcases List.mem_append.mp hj with hj | hj
        · exact hbk.trans (hbeats j hj)
        · exact List.mem_singleton.mp hj ▸ hbm

/-! ### What a target presents, and what it has claimed -/

/-- The numbers of chosen sources of a rising table rise. -/
theorem IcuState.sorted.filter {i : IcuState} (h : i.sorted) (q : Nat × IcuSource → Bool) :
    ((i.sources.filter q).map (·.1)).Pairwise (· < ·) := h.sublist (List.filter_sublist.map _)

/-- The numbers of chosen sources of a rising table, by what the table holds of each. -/
theorem IcuState.sorted.mem_filter {i : IcuState} (h : i.sorted) {q : Nat × IcuSource → Bool} (hq : ∀ n x, q (n, x) = true → x.phase ≠ .idle)
    {n : Nat} : n ∈ (i.sources.filter q).map (·.1) ↔ q (n, i.src n) = true := by
  constructor
  · intro hn
    obtain ⟨⟨k, x⟩, he, rfl⟩ := List.mem_map.mp hn
    obtain ⟨hmem, hqe⟩ := List.mem_filter.mp he
    rwa [show i.src k = x from h.src_of_mem hmem]
  · intro hn
    exact List.mem_map.mpr ⟨(n, i.src n), List.mem_filter.mpr ⟨IcuState.mem_src (hq _ _ hn), hn⟩, rfl⟩

theorem IcuState.sorted.mem_presented {i : IcuState} (h : i.sorted) {k n : Nat} :
    n ∈ i.presented k ↔ (i.src n).phase = .pending ∧ i.route n = k ∧ i.effective k < (i.src n).prio := by
  unfold IcuState.presented
  rw [h.mem_filter fun n x hq => ?_]
  · simp only [Bool.and_eq_true, beq_iff_eq, decide_eq_true_eq, and_assoc]
  · simp only [Bool.and_eq_true, beq_iff_eq] at hq
    rw [hq.1.1]
    decide

theorem IcuSource.claimed_iff {x : IcuSource} : x.claimed = true ↔ x.phase = .active ∨ x.phase = .activePending := by
  simp only [IcuSource.claimed, Bool.or_eq_true, beq_iff_eq]

theorem IcuState.sorted.mem_claims {i : IcuState} (h : i.sorted) {k n : Nat} :
    n ∈ i.claims k ↔ (i.src n).claimed = true ∧ (i.src n).claimant = k := by
  unfold IcuState.claims
  rw [h.mem_filter fun n x hq => ?_]
  · simp only [Bool.and_eq_true, beq_iff_eq]
  · simp only [Bool.and_eq_true, IcuSource.claimed_iff] at hq
    rcases hq.1 with hp | hp <;> rw [hp] <;> decide

/-- A maximum over a list is at most `b` when it starts there and each member is. -/
theorem foldl_max_le {f : Nat → Nat} {b : Nat} (l : List Nat) {a : Nat} :
    l.foldl (fun a n => max a (f n)) a ≤ b ↔ a ≤ b ∧ ∀ n ∈ l, f n ≤ b := by
  induction l generalizing a with
  | nil => simp
  | cons n l ih =>
    rw [List.foldl_cons, ih, max_le_iff, List.forall_mem_cons, and_assoc]

/-- The effective threshold is the least bound of the base threshold and the PRIO of each claimed source (R464). -/
theorem IcuState.effective_le {i : IcuState} {k b : Nat} :
    i.effective k ≤ b ↔ (i.tgt k).threshold ≤ b ∧ ∀ n ∈ i.claims k, (i.src n).prio ≤ b := foldl_max_le _

/-- A source that its target has claimed. -/
def IcuSource.claimedBy (x : IcuSource) (k : Nat) : Prop := x.claimed = true ∧ x.claimant = k

/-- A claimed source of a PRIO above the effective threshold raises the threshold to its PRIO (R465). -/
theorem IcuState.sorted.effective_setSrc {i : IcuState} (h : i.sorted) {k n : Nat} {f : IcuSource → IcuSource}
    (hf : (f (i.src n)).claimedBy k) (hprio : (f (i.src n)).prio = (i.src n).prio) (hlt : i.effective k < (i.src n).prio) :
    (i.setSrc n f).effective k = (i.src n).prio := by
  obtain ⟨hbase, hclaims⟩ := IcuState.effective_le.mp hlt.le
  have hs := h.setSrc n f
  refine le_antisymm (IcuState.effective_le.mpr ⟨hbase, fun j hj => ?_⟩) ?_
  · rw [hs.mem_claims, IcuState.setSrc_src] at hj
    rw [IcuState.setSrc_src]
    split at hj
    · rw [if_pos ‹j = n›]
      exact hprio.le
    · rw [if_neg ‹¬j = n›]
      exact hclaims j (h.mem_claims.mpr hj)
  · have hn : n ∈ (i.setSrc n f).claims k := by
      rw [hs.mem_claims, IcuState.setSrc_src, if_pos rfl]
      exact hf
    have hle := (IcuState.effective_le.mp le_rfl).2 n hn
    rwa [IcuState.setSrc_src, if_pos rfl, hprio] at hle

/-! ### The claim (R465, R467) -/

/-- What a claim by target `k` makes of a source: an edge of the claim's own cycle leaves it ACTIVE_PENDING (R467). -/
def IcuSource.claimAt (now k : Nat) (x : IcuSource) : IcuSource :=
  if x.edgeAt = some now then { x with phase := .activePending, claimant := k, redirected := false, pendSince := now, pme := false }
  else { x with phase := .active, claimant := k, redirected := false }

theorem IcuSource.claimAt_claimedBy (now k : Nat) (x : IcuSource) : (x.claimAt now k).claimedBy k ∧ (x.claimAt now k).prio = x.prio := by
  unfold IcuSource.claimAt
  split <;> exact ⟨⟨rfl, rfl⟩, rfl⟩

/-- A claim takes the best source that did not just become pending. -/
theorem IcuState.claim_of_best {i : IcuState} {k n now : Nat}
    (h : i.bestOf ((i.presented k).filter fun j => !(i.src j).justNow now) = some n) :
    i.claim k now = (i.setSrc n (IcuSource.claimAt now k), n + 256 * (i.src n).prio + 2 ^ 31) := by
  have hf : (fun x : IcuSource => { x with
      phase := if x.edgeAt == some now then SrcPhase.activePending else .active, claimant := k, redirected := false
      pendSince := if x.edgeAt == some now then now else x.pendSince, pme := !(x.edgeAt == some now) && x.pme })
      = IcuSource.claimAt now k := by
    funext x
    by_cases hx : x.edgeAt = some now <;> simp [IcuSource.claimAt, hx]
  unfold IcuState.claim
  simp only [h, ← hf]

/-- Nothing is claimed where nothing is presented that did not just become pending. -/
theorem IcuState.claim_of_none {i : IcuState} {k now : Nat} (h : ∀ j ∈ i.presented k, (i.src j).justNow now = true) :
    i.claim k now = (i, 0) := by
  have hnone : (i.presented k).filter (fun j => !(i.src j).justNow now) = [] :=
    List.filter_eq_nil_iff.mpr fun j hj => by simp [h j hj]
  unfold IcuState.claim
  rw [IcuState.bestOf_eq_none.mpr hnone]

theorem exec_icuClaim_of_lt {k : Nat} (h : k < 36) (dt : Nat) (s : State) : exec (.icuClaim dt k) s = .next ({ s.tick dt with
    icu := (s.icu.claim k (s.tick dt).now).1, host := { s.host with readData := (s.icu.claim k (s.tick dt).now).2 } } : State).settle :=
  congrArg (fun t : State => Host.Outcome.next t.settle) (if_neg (Nat.not_le.mpr h))

/-- Settles O23: a claim takes the best of what its target presents, which is found in the rising table by number. -/
theorem claimTakesBestSource : Obligations.ClaimTakesBestSource := by
  refine ⟨fun dt k n s hk hs hbest => ?_, fun dt k s hk hnone => ?_, fun i k j hs hpend hroute hprio =>
    List.ne_nil_of_mem (hs.mem_presented.mpr ⟨hpend, hroute, hprio⟩)⟩
  · have hclaim := IcuState.claim_of_best hbest
    obtain ⟨hmem, hbeats⟩ := IcuState.bestOf_spec ((hs.filter _).filter _) hbest
    obtain ⟨hpend, hroute, hprio⟩ := hs.mem_presented.mp (List.mem_of_mem_filter hmem)
    obtain ⟨hby, hsame⟩ := (s.icu.src n).claimAt_claimedBy (s.tick dt).now k
    refine ⟨?_, hpend, hroute, hprio, fun j hj hjr hjp hold => hbeats j ?_, ?_⟩
    · rw [exec_icuClaim_of_lt hk, hclaim]
      rfl
    · exact List.mem_filter.mpr ⟨hs.mem_presented.mpr ⟨hj, hjr, hjp⟩, by rw [hold]; rfl⟩
    · rw [hclaim]
      exact hs.effective_setSrc hby hsame hprio
  · rw [exec_icuClaim_of_lt hk, IcuState.claim_of_none hnone]
    rfl

end Sys2Proof.Machine
end

section
/-!
PROOFS. Writes of the interrupt controller's registers (R462, R463, R466, R469, R470, R472).
-/

namespace Sys2Proof.Machine

/-! ### Groups and targets -/

theorem IcuState.setTgt_tgt (i : IcuState) (t k : Nat) (f : IcuTarget → IcuTarget) :
    (i.setTgt t f).tgt k = if k = t then f (i.tgt t) else i.tgt k := by
  simp only [IcuState.setTgt, IcuState.tgt, Map.upd_def, Map.getD_put]

/-! ### Bits of ICU_PEND and ICU_PEND_SET -/

/-- The sources that a value names in register `p`: those of its 32 whose bit is 1. -/
theorem mem_pendBits {p v n : Nat} : n ∈ pendBits p v ↔ n / 32 = p ∧ bit v (n % 32) = true := by
  simp only [pendBits, List.mem_map, List.mem_filter, List.mem_range]
  constructor
  · rintro ⟨b, ⟨hlt, hbit⟩, rfl⟩
    rw [show (32 * p + b) % 32 = b by omega]
    exact ⟨by omega, hbit⟩
  · rintro ⟨rfl, hbit⟩
    exact ⟨n % 32, ⟨Nat.mod_lt _ (by decide), hbit⟩, by omega⟩

theorem nodup_pendBits (p v : Nat) : (pendBits p v).Nodup :=
  (List.nodup_range.filter _).map fun _ _ => Nat.add_left_cancel

/-- Operations that each change the source they name change every source of their list once. -/
theorem IcuState.foldl_src {g : IcuState → Nat → IcuState} {f : Nat → IcuSource → IcuSource}
    (hg : ∀ i n k, (g i n).src k = if k = n then f n (i.src n) else i.src k) {l : List Nat} (hl : l.Nodup) (i : IcuState) (k : Nat) :
    (l.foldl g i).src k = if k ∈ l then f k (i.src k) else i.src k := by
  induction l generalizing i with
  | nil => simp
  | cons n l ih =>
    obtain ⟨hn, hl⟩ := List.nodup_cons.mp hl
    rw [List.foldl_cons, ih hl, hg]
    by_cases hk : k = n
    · subst hk
      simp [hn]
    · simp [hk]

theorem State.pendSet_src (s : State) (p v k : Nat) : (s.pendSet p v).icu.src k =
    if k / 32 = p ∧ bit v (k % 32) = true ∧ srcAssigned k = true then (s.icu.src k).pend s.now else s.icu.src k := by
  have hpend : ∀ (i : IcuState) n k, (i.pend n s.now).src k =
      if k = n then (if srcAssigned n = true then (i.src n).pend s.now else i.src n) else i.src k := by
    intro i n k
    unfold IcuState.pend
    split
    · exact i.setSrc_src n k _
    · split
      · rw [‹k = n›]
      · rfl
  refine (IcuState.foldl_src (f := fun n x => if srcAssigned n = true then x.pend s.now else x) hpend (nodup_pendBits p v) s.icu k).trans ?_
  simp only [mem_pendBits, ← and_assoc, ite_and]

theorem State.pendClear_src (s : State) (p v k : Nat) : (s.pendClear p v).icu.src k =
    if k / 32 = p ∧ bit v (k % 32) = true then (s.icu.src k).clear s.now else s.icu.src k := by
  refine (IcuState.foldl_src (f := fun _ x => x.clear s.now) (fun i n k => i.setSrc_src n k _) (nodup_pendBits p v) s.icu k).trans ?_
  simp only [mem_pendBits]

/-! ### ICU_COMPLETE (R466) -/

theorem IcuState.complete_of_claimed {i : IcuState} {k n : Nat} (h : (i.src n).claimedBy k) (holds : Bool) (now : Nat) :
    i.complete k n holds now = (i.setSrc n fun x => x.complete holds now).setTgt k fun y => { y with presenting := false } := by
  obtain ⟨hclaimed, hby⟩ := h
  exact if_pos (by rw [hclaimed, hby, beq_self_eq_true]; rfl)

theorem IcuState.complete_of_not_claimed {i : IcuState} {k n : Nat} (h : (i.src n).claimed = false ∨ (i.src n).claimant ≠ k) (holds : Bool)
    (now : Nat) : i.complete k n holds now = i.setTgt k fun y => { y with badComplete := true } := by
  refine if_neg fun hc => ?_
  rw [Bool.and_eq_true, beq_iff_eq] at hc
  rcases h with h | h
  · exact Bool.false_ne_true (h.symm.trans hc.1)
  · exact h hc.2

theorem State.icuComplete_of_lt {k n : Nat} (hk : k < 36) (hn : n < 256) (s : State) :
    s.icuComplete k n = { s with icu := s.icu.complete k n (s.levelHolds n) s.now } := by
  unfold State.icuComplete
  rw [if_neg (Nat.not_le.mpr hk), Nat.mod_eq_of_lt hn]

/-! ### ICU_CONFIG_WRITE (R472) -/

/-- A configuration register is written as its own offset says. -/
theorem exec_icuConfigWrite_of {off : Nat} (h : icuConfigOff off = true) {s : State} {dt v : Nat} {i : IcuState}
    (hi : (s.tick dt).icuWrite off v = { s.tick dt with icu := i }) :
    exec (.icuConfigWrite dt off v) s = .next ({ s.tick dt with icu := i } : State).settle := by
  rw [exec_icuConfigWrite, execIcuConfigWrite, State.act, if_pos h, hi]

theorem State.icuWrite_srcCfg {n v : Nat} (hn : n < 256) (s : State) :
    s.icuWrite (4 * n) v = { s with icu := s.icu.setSrc n (·.configure v) } := by
  unfold State.icuWrite
  rw [if_pos (by omega), Nat.mul_div_cancel_left n (by decide)]

theorem State.icuWrite_grpCfg {g v : Nat} (hg : g < 16) (s : State) :
    s.icuWrite (0x460 + 4 * g) v = { s with icu := { s.icu with groups := s.icu.groups.put g ((s.icu.grp g).configure v) } } := by
  have hoff : (0x460 + 4 * g - 0x460) / 4 = g := by omega
  simp only [State.icuWrite, Bool.and_eq_true, decide_eq_true_eq]
  rw [if_neg (by omega), if_neg (by omega), if_neg (by omega), if_pos (by omega), hoff]
  rfl

theorem State.icuWrite_threshold {k v : Nat} (hk : k < 32) (s : State) :
    s.icuWrite (0x508 + 16 * k) v = { s with icu := s.icu.setTgt k fun x => { x with threshold := bits v 0 4 } } := by
  have hoff : (0x508 + 16 * k - 0x500) / 16 = k := by omega
  simp only [State.icuWrite, Bool.and_eq_true, decide_eq_true_eq]
  rw [if_neg (by omega), if_neg (by omega), if_neg (by omega), if_neg (by omega), if_pos (by omega), if_neg (by omega), if_pos (by omega),
    hoff]

theorem icuConfigOff_src {n : Nat} (hn : n < 256) : icuConfigOff (4 * n) = true := by
  simp only [icuConfigOff, Bool.and_eq_true, Bool.or_eq_true, beq_iff_eq, decide_eq_true_eq]
  omega

theorem icuConfigOff_grp {g : Nat} (hg : g < 16) : icuConfigOff (0x460 + 4 * g) = true := by
  simp only [icuConfigOff, Bool.and_eq_true, Bool.or_eq_true, beq_iff_eq, decide_eq_true_eq]
  omega

theorem icuConfigOff_threshold {k : Nat} (hk : k < 32) : icuConfigOff (0x508 + 16 * k) = true := by
  simp only [icuConfigOff, Bool.and_eq_true, Bool.or_eq_true, beq_iff_eq, decide_eq_true_eq]
  omega

/-- A TARGET up to 35 is taken. -/
theorem IcuSource.configure_of_le {v : Nat} (h : bits v 4 6 ≤ 35) (x : IcuSource) :
    x.configure v = { x with prio := bits v 0 4, target := bits v 4 6, wake := bit v 10 } := by
  rw [IcuSource.configure, if_pos h]

/-- A FALLBACK up to 35 is taken. -/
theorem IcuGroup.configure_of_le {v : Nat} (h : bits v 16 6 ≤ 35) (x : IcuGroup) :
    x.configure v = { x with holdoffUs := bits v 0 16, fallback := bits v 16 6 } := by
  rw [IcuGroup.configure, if_pos h]

/-! ### The end of a hold-off, and redirection (R469, R470) -/

/-- Targets asked to notify again keep their settings, and so do sources and groups. -/
structure IcuState.Renotifies (i j : IcuState) : Prop where
  sources : j.sources = i.sources
  groups : j.groups = i.groups
  targets : ∀ k, (j.tgt k).threshold = (i.tgt k).threshold ∧ (j.tgt k).masked = (i.tgt k).masked

theorem IcuState.Renotifies.refl (i : IcuState) : i.Renotifies i := ⟨rfl, rfl, fun _ => ⟨rfl, rfl⟩⟩

theorem IcuState.Renotifies.trans {i j k : IcuState} (hij : i.Renotifies j) (hjk : j.Renotifies k) : i.Renotifies k :=
  ⟨hjk.sources.trans hij.sources, hjk.groups.trans hij.groups,
    fun n => ⟨(hjk.targets n).1.trans (hij.targets n).1, (hjk.targets n).2.trans (hij.targets n).2⟩⟩

theorem IcuState.renotifies_setTgt (i : IcuState) (t : Nat) : i.Renotifies (i.setTgt t fun x => { x with presenting := false }) := by
  refine ⟨rfl, rfl, fun k => ?_⟩
  rw [IcuState.setTgt_tgt]
  split
  · rw [‹k = t›]; exact ⟨rfl, rfl⟩
  · exact ⟨rfl, rfl⟩

theorem IcuState.renotifies_foldl {f : IcuState → Nat → IcuState} (hf : ∀ (i : IcuState) t, i.Renotifies (f i t)) (l : List Nat) (i : IcuState) :
    i.Renotifies (l.foldl f i) := by
  induction l generalizing i with
  | nil => exact .refl i
  | cons t l ih => exact (hf i t).trans (ih _)

/-- A hold-off whose time has come ends, and the targets that it held back are asked again. -/
theorem IcuState.holdExpire_of_due {i : IcuState} {g x now : Nat} (h : (i.grp g).holdEnd = some x) (hx : x ≤ now) :
    ({ i with groups := i.groups.upd g {} fun y => { y with holdEnd := none } } : IcuState).Renotifies (i.holdExpire g now) := by
  unfold IcuState.holdExpire
  rw [h]
  dsimp only
  rw [if_neg (Nat.not_lt.mpr hx)]
  refine IcuState.renotifies_foldl (fun j t => ?_) _ _
  split
  · exact j.renotifies_setTgt t
  · exact .refl j

theorem IcuState.holdExpire_of_not_due {i : IcuState} {g now : Nat}
    (h : (i.grp g).holdEnd = none ∨ ∃ x, (i.grp g).holdEnd = some x ∧ now < x) : i.holdExpire g now = i := by
  unfold IcuState.holdExpire
  rcases h with h | ⟨x, h, hx⟩
  · rw [h]
  · rw [h]
    exact if_pos hx

/-- A group whose hold-off is taken away. -/
theorem IcuState.endHold_grp (i : IcuState) (g h : Nat) :
    ({ i with groups := i.groups.upd g {} fun y => { y with holdEnd := none } } : IcuState).grp h =
      if h = g then { i.grp g with holdEnd := none } else i.grp h := by
  simp only [IcuState.grp, Map.upd_def, Map.getD_put]

theorem IcuState.redirect_of_due {i : IcuState} {n now : Nat} (hpend : (i.src n).phase = .pending) (hwake : (i.src n).wake = false)
    (hown : (i.src n).redirected = false) (hasleep : i.asleep (i.src n).target = true)
    (hdue : (i.src n).pendSince + (i.grp (srcGroup n)).holdoffUs * 500 ≤ now) :
    i.redirect n now = i.setSrc n fun x => { x with redirected := true } := by
  refine if_pos ?_
  rw [hpend, hwake, hown, hasleep]
  exact decide_eq_true hdue

theorem IcuState.redirect_of_not {i : IcuState} {n now : Nat}
    (h : (i.src n).wake = true ∨ (i.src n).phase ≠ .pending ∨ i.asleep (i.src n).target = false) : i.redirect n now = i := by
  refine if_neg ?_
  simp only [Bool.and_eq_true, beq_iff_eq, Bool.not_eq_true', decide_eq_true_eq]
  rintro ⟨⟨⟨⟨hpend, hwake⟩, -⟩, hasleep⟩, -⟩
  rcases h with h | h | h
  · exact Bool.false_ne_true (hwake.symm.trans h)
  · exact h hpend
  · exact Bool.false_ne_true (h.symm.trans hasleep)

/-! ### The statement -/

/-- A source after a command, where the command leaves it as `x`: what follows the command adds at most that a PM_PME has gone. -/
theorem State.settle_src_of {s : State} {k : Nat} {x : IcuSource} (hk : k ≠ 0xA9) (h : s.icu.src k = x) :
    ∃ b, s.settle.icu.src k = { x with pme := b } := h ▸ s.settle_src k hk

/-- Settles O24: each command is one operation of the controller, read off by source, group or target. -/
theorem interruptController : Obligations.InterruptController := by
  refine ⟨fun dt p v s hp => ?pendSet, fun dt p v s hp => ?pendClear, fun dt k n s hk hn hphase hby => ?complete,
    fun dt k n s hk hn h => ?badComplete, fun dt v n s hn hv => ?srcCfg, fun dt v g s hg hv => ?grpCfg, fun dt v k s hk => ?threshold,
    fun dt on v s hv => ?vectorMask, fun dt on k s hk => ?coreSleep, fun dt on s => rfl, fun dt on s => rfl, fun dt on s => rfl,
    fun dt g x s hx hdue => ?holdEnd, fun dt g s h => ?holdRuns, fun dt n s hpend hwake hown hasleep hdue => ?redirect,
    fun dt n s h => ?stays⟩
  case pendSet =>
    rw [Runs, exec_icuPendSet, execIcuPendSet, Nat.mod_eq_of_lt hp]
    refine ⟨_, rfl, fun n _ hn => State.settle_src_of hn ((s.tick dt).pendSet_src p v n), ?_⟩
    simp only [State.settle_host, State.settle_time, State.settle_mem]
    exact ⟨rfl, rfl, rfl⟩
  case pendClear =>
    rw [Runs, exec_icuPendClear, execIcuPendClear, Nat.mod_eq_of_lt hp]
    refine ⟨_, rfl, fun n _ hn => State.settle_src_of hn ((s.tick dt).pendClear_src p v n), ?_⟩
    simp only [State.settle_host, State.settle_time, State.settle_mem]
    exact ⟨rfl, rfl, rfl⟩
  case complete =>
    refine next_settle_congr ((State.icuComplete_of_lt hk hn (s.tick dt)).trans ?_)
    rw [State.tick_icu, IcuState.complete_of_claimed ⟨IcuSource.claimed_iff.mpr hphase, hby⟩]
  case badComplete =>
    refine next_settle_congr ((State.icuComplete_of_lt hk hn (s.tick dt)).trans ?_)
    rw [State.tick_icu, IcuState.complete_of_not_claimed h]
  case srcCfg =>
    refine exec_icuConfigWrite_of (icuConfigOff_src hn) ?_
    simp only [State.icuWrite_srcCfg hn, IcuSource.configure_of_le hv, State.tick_icu]
  case grpCfg =>
    refine exec_icuConfigWrite_of (icuConfigOff_grp hg) ?_
    simp only [State.icuWrite_grpCfg hg, IcuGroup.configure_of_le hv, State.tick_icu]
  case threshold => exact exec_icuConfigWrite_of (icuConfigOff_threshold hk) (State.icuWrite_threshold hk _)
  case vectorMask => exact congrArg (fun i => Host.Outcome.next ({ s.tick dt with icu := i } : State).settle) (if_pos hv)
  case coreSleep => exact congrArg (fun i => Host.Outcome.next ({ s.tick dt with icu := i } : State).settle) (if_pos hk)
  case holdEnd =>
    have hren := IcuState.holdExpire_of_due hx hdue
    refine ⟨_, rfl, s.icu.holdExpire g (s.tick dt).now, ?_, fun h hne => ?_, hren.sources, hren.targets, rfl⟩
    · rw [IcuState.grp, hren.groups, ← IcuState.grp, IcuState.endHold_grp, if_pos rfl]
    · rw [IcuState.grp, hren.groups, ← IcuState.grp, IcuState.endHold_grp, if_neg hne]
  case holdRuns =>
    exact congrArg (fun i => Host.Outcome.next ({ s.tick dt with icu := i } : State).settle) (IcuState.holdExpire_of_not_due h)
  case redirect =>
    exact congrArg (fun i => Host.Outcome.next ({ s.tick dt with icu := i } : State).settle)
      (IcuState.redirect_of_due hpend hwake hown hasleep hdue)
  case stays =>
    exact congrArg (fun i => Host.Outcome.next ({ s.tick dt with icu := i } : State).settle) (IcuState.redirect_of_not h)

end Sys2Proof.Machine
end

section
/-!
PROOFS. The step (assumption 4), and what follows every command: watermarks and interrupt delivery (R468 to R470, R488).
-/

namespace Sys2Proof.Machine

/-! ### The front of the queue -/

/-- Self-test begins only in a device that boots at BOOT_STAGE 1 with a package that passes its checks. -/
theorem State.selfTest_of_not_due {s : State} (h : s.power.reset ≠ .booting ∨ s.host.bootStage ≠ 1 ∨ s.update.bootArea 0 = none) :
    s.selfTest = s := by
  refine if_neg fun hc => ?_
  simp only [Bool.and_eq_true, decide_eq_true_eq] at hc
  obtain ⟨⟨hboot, hstage⟩, harea⟩ := hc
  rcases h with h | h | h
  · exact h hboot
  · exact h hstage
  · rw [h] at harea; cases harea

theorem State.selfTest_of_due {s : State} {a : Nat} (hboot : s.power.reset = .booting) (hstage : s.host.bootStage = 1)
    (harea : s.update.bootArea 0 = some a) : s.selfTest = { s with host := { s.host with bootStage := 2 } } := by
  refine if_pos ?_
  rw [harea]
  simp [hboot, hstage]

/-- Settles O1: the queue is empty, or the command at its front acts. -/
theorem stepRunsFrontCommand : Obligations.StepRunsFrontCommand := by
  refine ⟨fun s hq h => ?_, fun s a hq hboot hstage harea => ?_, fun s c cs hq => ?_, step_front⟩
  · rw [step_idle s hq, State.selfTest_of_not_due h]
  · rw [step_idle s hq, State.selfTest_of_due hboot hstage harea]
  · unfold step
    rw [hq]

/-- Settles O3: at reset no queue has a record, no source is pending and the host region lists nothing. -/
theorem resetSettled : Obligations.ResetSettled :=
  ⟨⟨fun _ he => (List.not_mem_nil he).elim, by decide⟩, rfl⟩

/-! ### What a re-evaluation of delivery keeps -/

/-- Delivery re-evaluated: sources, settings and sleep states are as they were, and no hold-off has ended. -/
structure IcuState.Redelivered (i j : IcuState) : Prop where
  sources : j.sources = i.sources
  fallback : ∀ g, (j.grp g).fallback = (i.grp g).fallback
  holding : ∀ g, i.holding g = true → j.holding g = true
  target : ∀ t, (j.tgt t).threshold = (i.tgt t).threshold ∧ (j.tgt t).masked = (i.tgt t).masked ∧ (j.tgt t).addr = (i.tgt t).addr
    ∧ (j.tgt t).data = (i.tgt t).data ∧ (j.tgt t).sleeping = (i.tgt t).sleeping
  controls : j.msixEnable = i.msixEnable ∧ j.fnMask = i.fnMask ∧ j.busMaster = i.busMaster ∧ j.d3hot = i.d3hot ∧ j.pmeEn = i.pmeEn

namespace IcuState.Redelivered

variable {i j k : IcuState}

theorem refl (i : IcuState) : i.Redelivered i :=
  ⟨rfl, fun _ => rfl, fun _ h => h, fun _ => ⟨rfl, rfl, rfl, rfl, rfl⟩, ⟨rfl, rfl, rfl, rfl, rfl⟩⟩

theorem trans (hij : i.Redelivered j) (hjk : j.Redelivered k) : i.Redelivered k := by
  refine ⟨hjk.sources.trans hij.sources, fun g => (hjk.fallback g).trans (hij.fallback g), fun g h => hjk.holding g (hij.holding g h),
    fun t => ?_, ?_⟩
  · obtain ⟨h1, h2, h3, h4, h5⟩ := hij.target t
    obtain ⟨g1, g2, g3, g4, g5⟩ := hjk.target t
    exact ⟨g1.trans h1, g2.trans h2, g3.trans h3, g4.trans h4, g5.trans h5⟩
  · obtain ⟨h1, h2, h3, h4, h5⟩ := hij.controls
    obtain ⟨g1, g2, g3, g4, g5⟩ := hjk.controls
    exact ⟨g1.trans h1, g2.trans h2, g3.trans h3, g4.trans h4, g5.trans h5⟩

/-- Notification flags of one target are no settings. -/
theorem of_setTgt (i : IcuState) (t : Nat) {f : IcuTarget → IcuTarget} (hf : ∀ x, (f x).threshold = x.threshold ∧ (f x).masked = x.masked
    ∧ (f x).addr = x.addr ∧ (f x).data = x.data ∧ (f x).sleeping = x.sleeping) : i.Redelivered (i.setTgt t f) := by
  refine ⟨rfl, fun _ => rfl, fun _ h => h, fun k => ?_, ⟨rfl, rfl, rfl, rfl, rfl⟩⟩
  rw [IcuState.setTgt_tgt]
  split
  · rw [‹k = t›]; exact hf _
  · exact ⟨rfl, rfl, rfl, rfl, rfl⟩

/-- A hold-off that starts ends none. -/
theorem of_startHold (i : IcuState) (n now : Nat) : i.Redelivered (i.startHold n now) := by
  unfold IcuState.startHold
  dsimp only
  split
  · exact refl i
  · have hgrp : ∀ g, ({ i with groups := i.groups.upd (srcGroup n) {} fun x => { x with holdEnd := some (now + x.holdoffUs * cycUs) } } : IcuState).grp g
        = if g = srcGroup n then { i.grp g with holdEnd := some (now + (i.grp g).holdoffUs * cycUs) } else i.grp g := by
      intro g
      simp only [IcuState.grp, Map.upd_def, Map.getD_put]
      split
      · rw [‹g = srcGroup n›]
      · rfl
    refine ⟨rfl, fun g => ?_, fun g h => ?_, fun _ => ⟨rfl, rfl, rfl, rfl, rfl⟩, ⟨rfl, rfl, rfl, rfl, rfl⟩⟩
    · rw [hgrp]; split <;> rfl
    · rw [IcuState.holding, hgrp]
      split
      · rfl
      · exact h

/-! What a target presents depends on nothing that a re-evaluation changes. -/

theorem src (h : i.Redelivered j) (n : Nat) : j.src n = i.src n := by rw [IcuState.src, h.sources, IcuState.src]

theorem asleep (h : i.Redelivered j) (t : Nat) : j.asleep t = i.asleep t := by
  obtain ⟨-, hmasked, -, -, hsleeping⟩ := h.target t
  obtain ⟨henable, hmask, hmaster, hcold, -⟩ := h.controls
  simp only [IcuState.asleep, hmasked, hsleeping, henable, hmask, hmaster, hcold]

theorem route (h : i.Redelivered j) (n : Nat) : j.route n = i.route n := by
  simp only [IcuState.route, h.src, h.asleep, h.fallback]

theorem presented (h : i.Redelivered j) (t : Nat) : j.presented t = i.presented t := by
  have heff : j.effective t = i.effective t := by
    simp only [IcuState.effective, IcuState.claims, h.sources, h.src, (h.target t).1]
  simp only [IcuState.presented, h.sources, h.route, heff]

theorem offered (h : i.Redelivered j) (t : Nat) : j.offered t = i.offered t := by
  simp only [IcuState.offered, h.asleep, h.presented]

theorem waking (h : i.Redelivered j) (t : Nat) : j.waking t = i.waking t := by
  simp only [IcuState.waking, h.sources, h.route]

end IcuState.Redelivered

/-! ### One target -/

/-- The sources offered at a target whose group holds no notification off. -/
def IcuState.free (i : IcuState) (t : Nat) : List Nat := (i.offered t).filter fun n => !i.holding (srcGroup n)

/-- Target `t` has nothing to send: it presents nothing, sleeps, has been notified of what it presents, or holds everything back. -/
def IcuState.Quiet (i : IcuState) (t : Nat) : Prop :=
  i.offered t = [] ∨ (t < 32 ∧ i.asleep t = true)
    ∨ ((i.tgt t).presenting = true ∧ (i.tgt t).heldBack = false ∧ (i.tgt t).pba = false ∧ (i.tgt t).sleptOn = false) ∨ i.free t = []

/-- The four ways in which a target is evaluated. -/
theorem IcuState.evalTarget_cases (i : IcuState) (now t : Nat) :
    (i.offered t = [] ∧ i.evalTarget now t
        = (i.setTgt t fun x => { x with presenting := false, heldBack := false, pba := false, sleptOn := false }, []))
    ∨ ((t < 32 ∧ i.asleep t = true) ∧ i.evalTarget now t = (i.evalAsleep t, []))
    ∨ (((i.tgt t).presenting = true ∧ (i.tgt t).heldBack = false ∧ (i.tgt t).pba = false ∧ (i.tgt t).sleptOn = false)
        ∧ i.evalTarget now t = (i, []))
    ∨ (i.free t = [] ∧ i.evalTarget now t = (i.setTgt t fun x => { x with presenting := true, heldBack := true, sleptOn := false }, []))
    ∨ ((i.offered t ≠ [] ∧ i.free t ≠ []) ∧ ∃ b, i.evalTarget now t =
        ((i.startHold b now).setTgt t fun x => { x with presenting := true, heldBack := false, pba := false, sleptOn := false },
          if t < 32 then [.msix t (i.tgt t).addr (i.tgt t).data] else [])) := by
  unfold IcuState.evalTarget IcuState.free
  dsimp only
  by_cases hoff : i.offered t = []
  · exact .inl ⟨hoff, if_pos (by rw [hoff]; rfl)⟩
  rw [if_neg (by rwa [List.isEmpty_iff])]
  by_cases hasleep : t < 32 ∧ i.asleep t = true
  · exact .inr (.inl ⟨hasleep, if_pos (by simpa using hasleep)⟩)
  rw [if_neg (by simpa using hasleep)]
  by_cases hflags : (i.tgt t).presenting = true ∧ (i.tgt t).heldBack = false ∧ (i.tgt t).pba = false ∧ (i.tgt t).sleptOn = false
  · exact .inr (.inr (.inl ⟨hflags, if_pos (by simpa [and_assoc] using hflags)⟩))
  rw [if_neg (by simpa [and_assoc] using hflags)]
  refine .inr (.inr (.inr ?_))
  cases hbest : i.bestOf ((i.offered t).filter fun n => !i.holding (srcGroup n)) with
  | none => exact .inl ⟨IcuState.bestOf_eq_none.mp hbest, rfl⟩
  | some b =>
    exact .inr ⟨⟨hoff, fun hnone => by rw [IcuState.bestOf_eq_none.mpr hnone] at hbest; cases hbest⟩, b, rfl⟩

/-- A sleeping vector's evaluation sets its notification flags alone. -/
theorem IcuState.evalAsleep_cases (i : IcuState) (t : Nat) : ∃ p h b l : IcuTarget → Bool,
    i.evalAsleep t = i.setTgt t fun x => { x with presenting := p x, heldBack := h x, pba := b x, sleptOn := l x } := by
  unfold IcuState.evalAsleep
  dsimp only
  split
  · exact ⟨IcuTarget.presenting, IcuTarget.heldBack, IcuTarget.pba, fun _ => true, rfl⟩
  · exact ⟨fun _ => true, _, fun _ => _, IcuTarget.sleptOn, rfl⟩

theorem IcuState.evalTarget_redelivered (i : IcuState) (now t : Nat) : i.Redelivered (i.evalTarget now t).1 := by
  rcases i.evalTarget_cases now t with ⟨-, h⟩ | ⟨-, h⟩ | ⟨-, h⟩ | ⟨-, h⟩ | ⟨-, b, h⟩ <;> rw [h]
  · exact .of_setTgt i t fun _ => ⟨rfl, rfl, rfl, rfl, rfl⟩
  · obtain ⟨p, hb, b, l, he⟩ := i.evalAsleep_cases t
    exact he ▸ .of_setTgt i t fun _ => ⟨rfl, rfl, rfl, rfl, rfl⟩
  · exact .refl i
  · exact .of_setTgt i t fun _ => ⟨rfl, rfl, rfl, rfl, rfl⟩
  · exact (IcuState.Redelivered.of_startHold i b now).trans (.of_setTgt _ t fun _ => ⟨rfl, rfl, rfl, rfl, rfl⟩)

theorem IcuState.startHold_tgt (i : IcuState) (n now k : Nat) : (i.startHold n now).tgt k = i.tgt k := by
  unfold IcuState.startHold
  dsimp only
  split <;> rfl

/-- The evaluation of a target touches no other one. -/
theorem IcuState.evalTarget_tgt {t k : Nat} (hk : k ≠ t) (i : IcuState) (now : Nat) : (i.evalTarget now t).1.tgt k = i.tgt k := by
  rcases i.evalTarget_cases now t with ⟨-, h⟩ | ⟨-, h⟩ | ⟨-, h⟩ | ⟨-, h⟩ | ⟨-, b, h⟩ <;> rw [h]
  · exact (i.setTgt_tgt t k _).trans (if_neg hk)
  · obtain ⟨p, hb, b, l, he⟩ := i.evalAsleep_cases t
    exact he ▸ (i.setTgt_tgt t k _).trans (if_neg hk)
  · exact (i.setTgt_tgt t k _).trans (if_neg hk)
  · exact ((IcuState.setTgt_tgt _ t k _).trans (if_neg hk)).trans (i.startHold_tgt b now k)

/-- Nothing is sent for a quiet target. -/
theorem IcuState.Quiet.evalTarget {i : IcuState} {t : Nat} (h : i.Quiet t) (now : Nat) : (i.evalTarget now t).2 = [] := by
  unfold IcuState.Quiet at h
  rcases i.evalTarget_cases now t with ⟨-, he⟩ | ⟨-, he⟩ | ⟨-, he⟩ | ⟨-, he⟩ | ⟨⟨hoff, hfree⟩, b, he⟩ <;> rw [he]
  rcases h with h | ⟨hlt, hasleep⟩ | ⟨hpres, hheld, hpba, hslept⟩ | h
  · exact absurd h hoff
  · have hown : (i.evalTarget now t).2 = [] := by
      unfold IcuState.evalTarget
      dsimp only
      rw [if_neg (by rwa [List.isEmpty_iff]), if_pos (by simp [hlt, hasleep])]
    rw [he] at hown
    exact hown
  · have hown : (i.evalTarget now t).2 = [] := by
      unfold IcuState.evalTarget
      dsimp only
      rw [if_neg (by rwa [List.isEmpty_iff])]
      split
      · rfl
      · rw [if_pos (by simp [hpres, hheld, hpba, hslept])]
    rw [he] at hown
    exact hown
  · exact absurd h hfree

/-- A target stays quiet while other targets are evaluated. -/
theorem IcuState.Quiet.mono {i j : IcuState} {t : Nat} (h : i.Quiet t) (hij : i.Redelivered j) (ht : j.tgt t = i.tgt t) : j.Quiet t := by
  unfold IcuState.Quiet at h ⊢
  rw [hij.offered, hij.asleep, ht]
  refine h.imp_right (Or.imp_right (Or.imp_right fun hfree => ?_))
  refine List.filter_eq_nil_iff.mpr fun n hn hno => List.filter_eq_nil_iff.mp hfree n (hij.offered t ▸ hn) ?_
  rw [Bool.not_eq_true'] at hno ⊢
  exact Bool.eq_false_iff.mpr fun hold => Bool.eq_false_iff.mp hno (hij.holding _ hold)

/-- A target that has been evaluated is quiet. -/
theorem IcuState.evalTarget_quiet (i : IcuState) (now t : Nat) : (i.evalTarget now t).1.Quiet t := by
  have hre := i.evalTarget_redelivered now t
  unfold IcuState.Quiet IcuState.free
  rw [hre.offered, hre.asleep]
  rcases i.evalTarget_cases now t with ⟨h, -⟩ | ⟨h, -⟩ | ⟨h, he⟩ | ⟨h, he⟩ | ⟨-, b, he⟩
  · exact .inl h
  · exact .inr (.inl h)
  · rw [he]; exact .inr (.inr (.inl h))
  · rw [he]; exact .inr (.inr (.inr h))
  · rw [he, IcuState.setTgt_tgt, if_pos rfl]
    exact .inr (.inr (.inl ⟨rfl, rfl, rfl, rfl⟩))

/-! ### Every target in turn -/

/-- One target more evaluated, and what it sends. -/
def IcuState.evalNext (now : Nat) (a : IcuState × List OutEvent) (t : Nat) : IcuState × List OutEvent :=
  ((a.1.evalTarget now t).1, a.2 ++ (a.1.evalTarget now t).2)

theorem IcuState.evalNexts_redelivered (now : Nat) (l : List Nat) (a : IcuState × List OutEvent) :
    a.1.Redelivered (l.foldl (IcuState.evalNext now) a).1 := by
  induction l generalizing a with
  | nil => exact .refl _
  | cons t l ih => exact (a.1.evalTarget_redelivered now t).trans (ih (IcuState.evalNext now a t))

theorem IcuState.evalNexts_tgt (now : Nat) {l : List Nat} {k : Nat} (hk : k ∉ l) (a : IcuState × List OutEvent) :
    (l.foldl (IcuState.evalNext now) a).1.tgt k = a.1.tgt k := by
  induction l generalizing a with
  | nil => rfl
  | cons t l ih =>
    obtain ⟨ht, hl⟩ := List.ne_and_not_mem_of_not_mem_cons hk
    exact (ih hl _).trans (a.1.evalTarget_tgt ht now)

/-- Targets evaluated in turn are quiet at the end. -/
theorem IcuState.evalNexts_quiet (now : Nat) {l : List Nat} (hl : l.Nodup) (a : IcuState × List OutEvent) {t : Nat} (ht : t ∈ l) :
    (l.foldl (IcuState.evalNext now) a).1.Quiet t := by
  induction l generalizing a with
  | nil => cases ht
  | cons k l ih =>
    obtain ⟨hk, hl⟩ := List.nodup_cons.mp hl
    rcases List.mem_cons.mp ht with rfl | ht
    · exact (a.1.evalTarget_quiet now t).mono (IcuState.evalNexts_redelivered now l (IcuState.evalNext now a t)) (IcuState.evalNexts_tgt now hk _)
    · exact ih hl _ ht

/-- Nothing more is sent for quiet targets. -/
theorem IcuState.evalNexts_of_quiet (now : Nat) {l : List Nat} (hl : l.Nodup) (a : IcuState × List OutEvent) (h : ∀ t ∈ l, a.1.Quiet t) :
    (l.foldl (IcuState.evalNext now) a).2 = a.2 := by
  induction l generalizing a with
  | nil => rfl
  | cons k l ih =>
    obtain ⟨hk, hl⟩ := List.nodup_cons.mp hl
    have hrest : ∀ t ∈ l, (IcuState.evalNext now a k).1.Quiet t := fun t ht =>
      (h t (List.mem_cons_of_mem _ ht)).mono (a.1.evalTarget_redelivered now k) (a.1.evalTarget_tgt (ne_of_mem_of_not_mem ht hk) now)
    rw [List.foldl_cons, ih hl _ hrest]
    exact (congrArg (a.2 ++ ·) ((h k List.mem_cons_self).evalTarget now)).trans (List.append_nil _)

/-! ### Wake-up (R470) -/

/-- The cores that may wake, woken: all but while Lanishambe restarts. -/
def IcuState.wokenCores (i : IcuState) (n : Nat) : IcuState := if 32 < n then i.wakeCores else i

theorem IcuState.eval_eq (i : IcuState) (now n : Nat) :
    i.eval now n = (List.range n).foldl (IcuState.evalNext now) (i.wokenCores n).wakeFunction := rfl

theorem IcuState.mem_waking {i : IcuState} {t n : Nat} : n ∈ i.waking t ↔ ∃ x, (n, x) ∈ i.sources ∧ x.phase = .pending ∧ i.route n = t
    ∧ ((x.wake = true ∧ x.target = t) ∨ (x.redirected = true ∧ 32 ≤ t)) := by
  simp only [IcuState.waking, List.mem_map, List.mem_filter, Bool.and_eq_true, Bool.or_eq_true, beq_iff_eq, decide_eq_true_eq]
  constructor
  · rintro ⟨⟨k, x⟩, ⟨hmem, ⟨hpend, hroute⟩, hwake⟩, rfl⟩
    exact ⟨x, hmem, hpend, hroute, hwake⟩
  · rintro ⟨x, hmem, hpend, hroute, hwake⟩
    exact ⟨(n, x), ⟨hmem, ⟨hpend, hroute⟩, hwake⟩, rfl⟩

/-- The cores that wake: those that sleep while a source wakes them. -/
def IcuState.wakes (i : IcuState) : List Nat := (List.range' 32 4).filter fun t => i.asleep t && !(i.waking t).isEmpty

theorem IcuState.wakeCores_of_nil {i : IcuState} (h : i.wakes = []) : i.wakeCores = i := by
  unfold IcuState.wakes at h
  simp only [IcuState.wakeCores, h, List.foldl_nil]

/-- A core is awake after its wake-up, and otherwise as it was. -/
theorem IcuState.wakeCores_tgt (i : IcuState) (t : Nat) :
    i.wakeCores.tgt t = if t ∈ i.wakes then { i.tgt t with sleeping := false } else i.tgt t := by
  have hfold : ∀ (l : List Nat) (j : IcuState), (l.foldl (fun i t => i.setTgt t fun x => { x with sleeping := false }) j).tgt t
      = if t ∈ l then { j.tgt t with sleeping := false } else j.tgt t := by
    intro l
    induction l with
    | nil => intro j; simp
    | cons k l ih =>
      intro j
      rw [List.foldl_cons, ih, IcuState.setTgt_tgt]
      by_cases hk : t = k
      · subst hk; simp
      · simp [hk]
  exact hfold i.wakes i

theorem IcuState.wakeCores_groups (i : IcuState) : i.wakeCores.groups = i.groups ∧ i.wakeCores.msixEnable = i.msixEnable
    ∧ i.wakeCores.fnMask = i.fnMask ∧ i.wakeCores.busMaster = i.busMaster ∧ i.wakeCores.d3hot = i.d3hot ∧ i.wakeCores.pmeEn = i.pmeEn := by
  have hfold : ∀ (l : List Nat) (j : IcuState), (l.foldl (fun i t => i.setTgt t fun x => { x with sleeping := false }) j)
      = { j with targets := (l.foldl (fun i t => i.setTgt t fun x => { x with sleeping := false }) j).targets } := by
    intro l
    induction l with
    | nil => exact fun j => rfl
    | cons k l ih => intro j; rw [List.foldl_cons, ih]; rfl
  unfold IcuState.wakeCores
  dsimp only
  rw [hfold]
  exact ⟨rfl, rfl, rfl, rfl, rfl, rfl⟩

theorem IcuState.wakeCores_asleep {i : IcuState} {t : Nat} (h : i.wakeCores.asleep t = true) : i.asleep t = true ∧ t ∉ i.wakes := by
  obtain ⟨-, henable, hmask, hmaster, hcold, -⟩ := i.wakeCores_groups
  have hlow : t ∈ i.wakes → 32 ≤ t := fun ht => (List.mem_range'_1.mp (List.mem_of_mem_filter ht)).1
  unfold IcuState.asleep at h ⊢
  rw [IcuState.wakeCores_tgt, henable, hmask, hmaster, hcold] at h
  by_cases ht : t ∈ i.wakes
  · rw [if_pos ht, if_neg (Nat.not_lt.mpr (hlow ht))] at h
    cases h
  · rw [if_neg ht] at h
    exact ⟨h, ht⟩

/-- A route to a target that still sleeps was its route before cores woke. -/
theorem IcuState.wakeCores_route {i : IcuState} {n t : Nat} (h : i.wakeCores.route n = t) (hasleep : i.wakeCores.asleep t = true) :
    i.route n = t := by
  have hsrc : i.wakeCores.src n = i.src n := by rw [IcuState.src, IcuState.wakeCores_sources, IcuState.src]
  have hgrp : i.wakeCores.grp (srcGroup n) = i.grp (srcGroup n) := by rw [IcuState.grp, i.wakeCores_groups.1, IcuState.grp]
  simp only [IcuState.route, hsrc, hgrp] at h ⊢
  by_cases hred : (i.src n).redirected = true
  · by_cases hown : i.wakeCores.asleep (i.src n).target = true
    · rw [if_pos (by simp [hred, hown])] at h
      rwa [if_pos (by simp [hred, (IcuState.wakeCores_asleep hown).1])]
    · rw [if_neg (by simp [hown])] at h
      exact absurd (h ▸ hasleep) hown
  · rw [if_neg (by simp [hred])] at h
    rwa [if_neg (by simp [hred])]

/-- No core is left asleep that a source wakes. -/
theorem IcuState.wakeCores_wakes (i : IcuState) : i.wakeCores.wakes = [] := by
  refine List.filter_eq_nil_iff.mpr fun t ht hw => ?_
  simp only [Bool.and_eq_true, Bool.not_eq_true', List.isEmpty_eq_false_iff_exists_mem] at hw
  obtain ⟨hasleep, n, hn⟩ := hw
  obtain ⟨hold, hstays⟩ := IcuState.wakeCores_asleep hasleep
  obtain ⟨x, hmem, hpend, hroute, hwake⟩ := IcuState.mem_waking.mp hn
  rw [IcuState.wakeCores_sources] at hmem
  have hn' : n ∈ i.waking t := IcuState.mem_waking.mpr ⟨x, hmem, hpend, IcuState.wakeCores_route hroute hasleep, hwake⟩
  exact hstays (List.mem_filter.mpr ⟨ht, by simp [hold, List.isEmpty_eq_false_iff_exists_mem.mpr ⟨n, hn'⟩]⟩)

/-- A PM_PME marked for sources: nothing else of the controller changes, and no source comes in. -/
structure IcuState.Marked (i j : IcuState) : Prop where
  rest : j = { i with sources := j.sources }
  src : ∀ n, ∃ b, j.src n = { i.src n with pme := b }
  mem : ∀ n x, (n, x) ∈ j.sources → ∃ y b, (n, y) ∈ i.sources ∧ x = { y with pme := b }

theorem IcuState.Marked.refl (i : IcuState) : i.Marked i := ⟨rfl, fun n => ⟨(i.src n).pme, rfl⟩, fun _ x h => ⟨x, x.pme, h, rfl⟩⟩

theorem IcuState.Marked.trans {i j k : IcuState} (hij : i.Marked j) (hjk : j.Marked k) : i.Marked k := by
  refine ⟨hjk.rest.trans (by rw [hij.rest]), fun n => ?_, fun n x hx => ?_⟩
  · obtain ⟨b, hb⟩ := hjk.src n
    obtain ⟨a, ha⟩ := hij.src n
    exact ⟨b, by rw [hb, ha]⟩
  · obtain ⟨y, b, hy, rfl⟩ := hjk.mem n x hx
    obtain ⟨z, a, hz, rfl⟩ := hij.mem n y hy
    exact ⟨z, b, hz, rfl⟩

/-- A source that has an entry is marked. -/
theorem IcuState.marked_setSrc {i : IcuState} {n : Nat} (h : (Map.find i.sources n).isSome = true) :
    i.Marked (i.setSrc n fun x => { x with pme := true }) := by
  obtain ⟨y, hy⟩ := Option.isSome_iff_exists.mp h
  have hsrc : i.src n = y := by rw [IcuState.src, Map.getD, hy, Option.getD_some]
  refine ⟨rfl, fun k => ?_, fun k x hx => ?_⟩
  · rw [IcuState.setSrc_src]
    split
    · rw [‹k = n›]; exact ⟨true, rfl⟩
    · exact ⟨_, rfl⟩
  · rcases Map.mem_put hx with heq | hmem
    · cases heq; exact ⟨y, true, Map.mem_of_find hy, by rw [← hsrc]; rfl⟩
    · exact ⟨x, x.pme, hmem, rfl⟩

/-- The controller with a PM_PME marked for each of some sources. -/
def IcuState.marks (i : IcuState) (l : List Nat) : IcuState := l.foldl (fun i n => i.setSrc n fun x => { x with pme := true }) i

/-- Sources that have entries are marked, and those that were marked stay so. -/
theorem IcuState.marked_marks {l : List Nat} {i : IcuState} (h : ∀ n ∈ l, (Map.find i.sources n).isSome = true) :
    i.Marked (i.marks l) ∧ ∀ n, n ∈ l ∨ (i.src n).pme = true → ((i.marks l).src n).pme = true := by
  induction l generalizing i with
  | nil => exact ⟨.refl i, fun n hn => hn.resolve_left List.not_mem_nil⟩
  | cons k l ih =>
    have hrest : ∀ n ∈ l, (Map.find (i.setSrc k fun x => { x with pme := true }).sources n).isSome = true := by
      intro n hn
      rw [IcuState.setSrc, Map.upd_def, Map.find_put]
      split
      · rfl
      · exact h n (List.mem_cons_of_mem _ hn)
    obtain ⟨hmarked, hpme⟩ := ih hrest
    refine ⟨(IcuState.marked_setSrc (h k List.mem_cons_self)).trans hmarked, fun n hn => hpme n ?_⟩
    rw [IcuState.setSrc_src]
    split
    · exact .inr rfl
    · exact hn.imp_left fun hmem => (List.mem_cons.mp hmem).resolve_left ‹_›

theorem IcuState.Marked.asleep {i j : IcuState} (h : i.Marked j) (t : Nat) : j.asleep t = i.asleep t := by rw [h.rest]; rfl

theorem IcuState.Marked.route {i j : IcuState} (h : i.Marked j) (n : Nat) : j.route n = i.route n := by
  obtain ⟨b, hb⟩ := h.src n
  have hgrp : j.grp (srcGroup n) = i.grp (srcGroup n) := by rw [h.rest]; rfl
  simp only [IcuState.route, hb, hgrp, h.asleep]

/-- What wakes a target after a marking woke it before. -/
theorem IcuState.Marked.waking {i j : IcuState} (h : i.Marked j) {t n : Nat} (hn : n ∈ j.waking t) : n ∈ i.waking t := by
  obtain ⟨x, hmem, hpend, hroute, hwake⟩ := IcuState.mem_waking.mp hn
  obtain ⟨y, b, hy, rfl⟩ := h.mem n x hmem
  exact IcuState.mem_waking.mpr ⟨y, hy, hpend, (h.route n).symm.trans hroute, hwake⟩

/-- The sources for which a PM_PME is due. -/
def IcuState.pmeDue (i : IcuState) : List Nat :=
  if !i.d3hot || !i.pmeEn then [] else ((List.range 32).flatMap i.waking).filter fun n => !(i.src n).pme

theorem IcuState.wakeFunction_eq (i : IcuState) : i.wakeFunction = (i.marks i.pmeDue, i.pmeDue.map fun _ => .pme) := by
  unfold IcuState.wakeFunction IcuState.pmeDue
  split <;> rfl

theorem IcuState.find_of_waking {i : IcuState} {t n : Nat} (h : n ∈ i.waking t) : (Map.find i.sources n).isSome = true := by
  obtain ⟨x, hmem, -⟩ := IcuState.mem_waking.mp h
  rw [Map.find, Option.isSome_map, List.find?_isSome]
  exact ⟨(n, x), hmem, beq_self_eq_true n⟩

theorem IcuState.mem_pmeDue {i : IcuState} {n : Nat} (h : n ∈ i.pmeDue) : (i.d3hot = true ∧ i.pmeEn = true)
    ∧ (∃ t < 32, n ∈ i.waking t) ∧ (i.src n).pme = false := by
  unfold IcuState.pmeDue at h
  split at h
  · cases h
  · rename_i hon
    obtain ⟨hmem, hpme⟩ := List.mem_filter.mp h
    obtain ⟨t, ht, hn⟩ := List.mem_flatMap.mp hmem
    exact ⟨by simpa using hon, ⟨t, List.mem_range.mp ht, hn⟩, by simpa using hpme⟩

theorem IcuState.wakeFunction_marked (i : IcuState) : i.Marked i.wakeFunction.1
    ∧ ∀ n, n ∈ i.pmeDue ∨ (i.src n).pme = true → (i.wakeFunction.1.src n).pme = true := by
  rw [IcuState.wakeFunction_eq]
  exact IcuState.marked_marks fun n hn => by
    obtain ⟨-, ⟨t, -, ht⟩, -⟩ := IcuState.mem_pmeDue hn
    exact IcuState.find_of_waking ht

/-! ### Delivery has nothing left to send -/

/-- After a re-evaluation no core is left to wake and no PM_PME is due. -/
theorem IcuState.eval_wake (i : IcuState) (now n : Nat) : (32 < n → (i.eval now n).1.wakes = []) ∧ (i.eval now n).1.pmeDue = [] := by
  rw [IcuState.eval_eq]
  obtain ⟨hmarked, hpme⟩ := (i.wokenCores n).wakeFunction_marked
  have hre := IcuState.evalNexts_redelivered now (List.range n) (i.wokenCores n).wakeFunction
  generalize ((List.range n).foldl (IcuState.evalNext now) (i.wokenCores n).wakeFunction).1 = j at hre
  have hwaking : ∀ {t k}, k ∈ j.waking t → k ∈ (i.wokenCores n).waking t := fun hk => hmarked.waking (hre.waking _ ▸ hk)
  constructor
  · intro hn
    have hcores : (i.wokenCores n).wakes = [] := by rw [IcuState.wokenCores, if_pos hn]; exact i.wakeCores_wakes
    refine List.filter_eq_nil_iff.mpr fun t ht hw => List.filter_eq_nil_iff.mp hcores t ht ?_
    simp only [Bool.and_eq_true, Bool.not_eq_true', List.isEmpty_eq_false_iff_exists_mem] at hw ⊢
    obtain ⟨hasleep, k, hk⟩ := hw
    exact ⟨(hmarked.asleep t).symm.trans ((hre.asleep t).symm.trans hasleep), k, hwaking hk⟩
  · refine List.eq_nil_iff_forall_not_mem.mpr fun k hk => ?_
    obtain ⟨⟨hcold, hpmeEn⟩, ⟨t, ht, hk⟩, hnot⟩ := IcuState.mem_pmeDue hk
    obtain ⟨-, -, -, hd3, hen⟩ := hre.controls
    have hrest := hmarked.rest
    rw [hre.src] at hnot
    refine Bool.false_ne_true (hnot.symm.trans (hpme k ?_))
    by_cases hold : ((i.wokenCores n).src k).pme = true
    · exact .inr hold
    · refine .inl ?_
      have hd3' : (i.wokenCores n).d3hot = true := by rw [← hcold, hd3, hrest]
      have hen' : (i.wokenCores n).pmeEn = true := by rw [← hpmeEn, hen, hrest]
      unfold IcuState.pmeDue
      rw [if_neg (by simp [hd3', hen'])]
      exact List.mem_filter.mpr ⟨List.mem_flatMap.mpr ⟨t, List.mem_range.mpr ht, hwaking hk⟩, by simpa using hold⟩

/-- A re-evaluation right after another sends nothing. -/
theorem IcuState.eval_eval (i : IcuState) (now n : Nat) : ((i.eval now n).1.eval now n).2 = [] := by
  obtain ⟨hcores, hpme⟩ := i.eval_wake now n
  have hwoken : (i.eval now n).1.wokenCores n = (i.eval now n).1 := by
    unfold IcuState.wokenCores
    split
    · exact IcuState.wakeCores_of_nil (hcores ‹_›)
    · rfl
  have hfunction : (i.eval now n).1.wakeFunction = ((i.eval now n).1, []) := by
    rw [IcuState.wakeFunction_eq, hpme]
    rfl
  rw [IcuState.eval_eq (i.eval now n).1, hwoken, hfunction]
  refine IcuState.evalNexts_of_quiet now List.nodup_range _ fun t ht => ?_
  rw [IcuState.eval_eq]
  exact IcuState.evalNexts_quiet now List.nodup_range _ ht

/-! ### Watermarks (R488) -/

/-- The level of a queue is that of the units that hold its entries. -/
theorem State.queueLevel_congr {s t : State} (htime : t.time = s.time) (hhost : t.host = s.host) (hports : t.ports = s.ports)
    (hrender : t.render = s.render) (hmeter : t.meter = s.meter) (q : Nat) : t.queueLevel q = s.queueLevel q := by
  simp only [State.queueLevel, htime, hhost, hports, hrender, hmeter]

theorem State.settle_queueLevel (s : State) (q : Nat) : s.settle.queueLevel q = s.queueLevel q :=
  State.queueLevel_congr s.settle_time s.settle_host s.settle_ports s.settle_render s.settle_meter q

theorem State.settle_queues (s : State) : s.settle.queues = s.queues.map fun e => (e.1, (e.2.observe (s.queueLevel e.1)).1) := by
  show s.watch.queues = _
  unfold State.watch
  rw [State.raiseAll_queues, List.map_map]
  rfl

/-- Whatever a command has done, what follows it leaves nothing to observe and nothing to send. -/
theorem State.settle_settled (s : State) : Settled s.settle := by
  constructor
  · intro e he
    rw [State.settle_queues] at he
    obtain ⟨d, -, rfl⟩ := List.mem_map.mp he
    exact (s.settle_queueLevel _).symm
  · rw [State.settle_host]
    show ((s.watch.icu.eval s.watch.now (if s.watch.host.fwRestart then 32 else 36)).1.eval s.settle.now _).2 = []
    have hnow : s.settle.now = s.watch.now := rfl
    have hhost : s.watch.host = s.host := (s.settle_host : s.watch.host = s.host)
    rw [hnow, hhost]
    exact IcuState.eval_eval _ _ _

/-! ### Every command ends so -/

/-- The outcome is no next state, or one that watermarks and delivery followed. -/
def EndsSettled (o : Host.Outcome State Fault Refusal) : Prop := ∀ t, o = .next t → Settled t

theorem next_endsSettled (s : State) : EndsSettled (.next s.settle) := by
  rintro t ⟨⟩
  exact s.settle_settled

theorem fault_endsSettled (r : Fault) : EndsSettled (.fault r) := fun _ h => by cases h

theorem exec_endsSettled (i : Instr) (s : State) : EndsSettled (exec i s) := by
  cases i
  case registerWrite =>
    rw [exec_registerWrite, execRegisterWrite]
    split
    · exact fault_endsSettled _
    · exact next_endsSettled _
  case bar2Write =>
    rw [exec_bar2Write, execBar2Write]
    split
    · exact fault_endsSettled _
    · exact next_endsSettled _
  all_goals exact next_endsSettled _

/-- Self-test changes no level and nothing of the controller. -/
theorem State.selfTest_settled {s : State} (h : Settled s) : Settled s.selfTest := by
  unfold State.selfTest
  split
  · exact h
  · exact h

/-- Settles O4: every command ends with watermarks and delivery, and on an empty queue only BOOT_STAGE moves. -/
theorem stepKeepsSettled : Obligations.StepKeepsSettled := by
  intro s t hs ht
  rcases step_cases s with ⟨-, he⟩ | ⟨c, cs, -, he⟩
  · rw [he, Host.Outcome.next.injEq] at ht
    exact ht ▸ State.selfTest_settled hs
  · exact exec_endsSettled c _ t (he ▸ ht)

/-! ### What delivery leaves as it was -/

/-- Waking cores and marking PM_PMEs change no setting of a target and no control. -/
theorem IcuState.wakeFunction_settings (i : IcuState) (n : Nat) :
    (∀ t, ((i.wokenCores n).wakeFunction.1.tgt t).threshold = (i.tgt t).threshold
      ∧ ((i.wokenCores n).wakeFunction.1.tgt t).masked = (i.tgt t).masked ∧ ((i.wokenCores n).wakeFunction.1.tgt t).addr = (i.tgt t).addr
      ∧ ((i.wokenCores n).wakeFunction.1.tgt t).data = (i.tgt t).data)
    ∧ (i.wokenCores n).wakeFunction.1.msixEnable = i.msixEnable ∧ (i.wokenCores n).wakeFunction.1.fnMask = i.fnMask
    ∧ (i.wokenCores n).wakeFunction.1.d3hot = i.d3hot := by
  have hrest := (i.wokenCores n).wakeFunction_marked.1.rest
  rw [hrest]
  unfold IcuState.wokenCores
  split
  · obtain ⟨-, henable, hmask, -, hcold, -⟩ := i.wakeCores_groups
    refine ⟨fun t => ?_, henable, hmask, hcold⟩
    have htgt := i.wakeCores_tgt t
    simp only [IcuState.tgt] at htgt ⊢
    rw [htgt]
    split <;> exact ⟨rfl, rfl, rfl, rfl⟩
  · exact ⟨fun _ => ⟨rfl, rfl, rfl, rfl⟩, rfl, rfl, rfl⟩

theorem IcuState.eval_settings (i : IcuState) (now n : Nat) :
    (∀ t, ((i.eval now n).1.tgt t).threshold = (i.tgt t).threshold ∧ ((i.eval now n).1.tgt t).masked = (i.tgt t).masked
      ∧ ((i.eval now n).1.tgt t).addr = (i.tgt t).addr ∧ ((i.eval now n).1.tgt t).data = (i.tgt t).data)
    ∧ (i.eval now n).1.msixEnable = i.msixEnable ∧ (i.eval now n).1.fnMask = i.fnMask ∧ (i.eval now n).1.d3hot = i.d3hot := by
  obtain ⟨htgt, henable, hmask, hcold⟩ := i.wakeFunction_settings n
  have hre := IcuState.evalNexts_redelivered now (List.range n) (i.wokenCores n).wakeFunction
  obtain ⟨genable, gmask, -, gcold, -⟩ := hre.controls
  rw [IcuState.eval_eq]
  refine ⟨fun t => ?_, genable.trans henable, gmask.trans hmask, gcold.trans hcold⟩
  obtain ⟨h1, h2, h3, h4⟩ := htgt t
  obtain ⟨g1, g2, g3, g4, -⟩ := hre.target t
  exact ⟨g1.trans h1, g2.trans h2, g3.trans h3, g4.trans h4⟩

/-- Raising events touches the controller's sources alone. -/
theorem State.raiseAll_icu (s : State) (ns : List Nat) : ∃ m, (s.raiseAll ns).icu = { s.icu with sources := m } := by
  unfold State.raiseAll
  induction ns generalizing s with
  | nil => exact ⟨_, rfl⟩
  | cons n ns ih =>
    obtain ⟨m, hm⟩ := ih (s.raise n)
    refine ⟨m, ?_⟩
    rw [List.foldl_cons, hm, State.raise_icu]
    unfold IcuState.edge
    split <;> rfl

/-- Settles O5: watermarks and delivery change the queues' records, the controller and what is sent; the controller, source by source and
target by target. -/
theorem settleChangesOnlyDelivery : Obligations.SettleChangesOnlyDelivery := by
  intro s
  obtain ⟨m, hm⟩ : ∃ m, s.watch.icu = { s.icu with sources := m } := State.raiseAll_icu _ _
  obtain ⟨htgt, henable, hmask, hcold⟩ := s.watch.icu.eval_settings s.watch.now (if s.watch.host.fwRestart then 32 else 36)
  rw [hm] at htgt henable hmask hcold
  have hicu : s.settle.icu = (s.watch.icu.eval s.watch.now (if s.watch.host.fwRestart then 32 else 36)).1 := rfl
  rw [hm] at hicu
  have hout : s.watch.out = s.out := State.raiseAll_out _ _
  refine ⟨s.settle_host, s.settle_txn, s.settle_clock, s.settle_time, s.settle_render, s.settle_inputs, s.settle_meter, s.settle_ports,
    s.settle_net, s.settle_fns, s.settle_ecc, s.settle_group, s.settle_update, s.settle_secure, s.settle_power, s.settle_mem,
    s.settle_freeCtr, s.settle_pending, ⟨_, congrArg (_ ++ ·) hout⟩, s.settle_src, fun t => ?_, ?_, ?_, ?_⟩
  · rw [hicu]; exact htgt t
  · rw [hicu]; exact henable
  · rw [hicu]; exact hmask
  · rw [hicu]; exact hcold

/-! ### A poisoned request that names a released snapshot (R85, R479) -/

/-- A POOL_STATUS of session 1 that reads snapshot 0. -/
def poolStatusOfSnapshot : Bytes := bytesLE 2 0x0330 ++ bytesLE 2 4 ++ bytesLE 4 7 ++ bytesLE 4 1 ++ bytesLE 4 0 ++ zeros 16

/-- Mailbox 0 executes it, it has read a poisoned word, and the limit of R85 has released its snapshot. -/
def poisonedReadOfReleased : State :=
  { host := { mbxReady := true, mbx := [(0, { phase := .executing })]
              execs := [{ mbx := 0, req := poolStatusOfSnapshot, dbPos := 0, role := 2, poison := true }] }
    txn := { snaps := [(0, { gen := 0, session := 1, epoch := 0, released := true, opened := 0 })] } }

/-- Refutes O9: the statement leaves out a read that names a snapshot which the limit of R85 has released. It completes with ABORTED, a
poisoned word or not, and so the STATUS in its mailbox (byte 0x11) is not that of INTEGRITY. -/
theorem not_poisonedRequestIntegrity : ¬ Obligations.PoisonedRequestIntegrity := by
  intro h
  have hanswer := h (.poolStatus 0 0) 0 0 poolStatusSpec poisonedReadOfReleased _ _ _ rfl rfl rfl rfl rfl rfl (by decide)
  have hmem := congrArg (fun o : Host.Outcome State Fault Refusal => match o with
    | .next t => memRead t.mem 0x10
    | _ => 0) hanswer
  exact absurd hmem (by decide)

end Sys2Proof.Machine
end

section
/-!
PROOFS. Memory integrity and the queues (spec/16_memory_and_queues.md, R473 to R493).
-/

namespace Sys2Proof.Machine

/-! ### A word read (R474, R478) -/

theorem State.readWord_of_clean {s : State} {w found : Nat} (h : s.ecc.errorsAt w found = 0) (syndrome : Nat) :
    s.readWord w found syndrome = s := by
  simp only [State.readWord, h]

theorem State.readWord_of_single {s : State} {w found : Nat} (h : s.ecc.errorsAt w found = 1) (syndrome : Nat) :
    s.readWord w found syndrome = s.corrected w syndrome := by
  simp only [State.readWord, h]

theorem State.readWord_of_more {s : State} {w found : Nat} (h : s.ecc.errorsAt w found = 2) (syndrome : Nat) :
    s.readWord w found syndrome = s.poisonWord w syndrome := by
  simp only [State.readWord, h]

theorem EccState.track_counts (e : EccState) (w now : Nat) : (e.track w now).ceDram = e.ceDram ∧ (e.track w now).ueCount = e.ueCount
    ∧ (e.track w now).poisoned = e.poisoned := by
  unfold EccState.track
  split <;> exact ⟨rfl, rfl, rfl⟩

theorem State.queueCorrected_ecc (s : State) (mem : Nat) : (s.queueCorrected mem).ecc = s.ecc := by
  unfold State.queueCorrected
  dsimp only
  split_ifs <;> rfl

/-- A correction in DRAM is counted there, and neither counts nor poisons as an uncorrectable error. -/
theorem State.corrected_counts {s : State} {w : Nat} (h : wordMem w = 0) (syndrome : Nat) :
    (s.corrected w syndrome).ecc.ceDram = s.ecc.ceDram + 1 ∧ (s.corrected w syndrome).ecc.poisoned = s.ecc.poisoned
      ∧ (s.corrected w syndrome).ecc.ueCount = s.ecc.ueCount := by
  unfold State.corrected
  dsimp only
  rw [State.queueCorrected_ecc, if_pos h]
  split
  · exact ⟨rfl, rfl, rfl⟩
  · obtain ⟨hce, hue, hpoison⟩ :=
      ({ s.ecc with ceDram := s.ecc.ceDram + 1, marks := s.ecc.marks.del w } : EccState).track_counts w s.now
    exact ⟨hce, hpoison, hue⟩

/-- An uncorrectable error is counted, and its word is poisoned. -/
theorem State.poisonWord_counts (s : State) (w syndrome : Nat) :
    (s.poisonWord w syndrome).ecc.ueCount = s.ecc.ueCount + 1 ∧ (s.poisonWord w syndrome).ecc.ceDram = s.ecc.ceDram
      ∧ ∀ v, v ∈ (s.poisonWord w syndrome).ecc.poisoned ↔ v = w ∨ v ∈ s.ecc.poisoned := by
  refine ⟨rfl, rfl, fun v => ?_⟩
  show v ∈ (if s.ecc.poisoned.contains w then s.ecc.poisoned else w :: s.ecc.poisoned) ↔ _
  split
  · rename_i hmem
    exact ⟨.inr, fun h => h.elim (fun heq => heq ▸ List.contains_iff_mem.mp hmem) id⟩
  · exact List.mem_cons

/-! ### A scrub read (R481) -/

/-- Within a pass a scrub read reads the next word and goes on. -/
theorem State.scrub_of_inside {s u : State} (h : (scrubWord s.ecc.progress).2 < memSizes.sum) {found syndrome : Nat}
    (hu : s.readWord (scrubWord s.ecc.progress).1 found syndrome = u) :
    s.scrub found syndrome = { u with ecc := { u.ecc with progress := (scrubWord s.ecc.progress).2 } } := by
  rw [← hu]
  exact if_neg (Nat.not_le.mpr h)

/-- What a scrub read inside a pass leaves in the ECC registers: what the read of the word leaves, and the next position. -/
theorem runs_scrubRead {dt found syndrome : Nat} {s u : State} (h : (scrubWord s.ecc.progress).2 < memSizes.sum)
    (hu : (s.tick dt).readWord (scrubWord s.ecc.progress).1 found syndrome = u) {p : State → Prop}
    (hp : ∀ t : State, t.ecc.progress = (scrubWord s.ecc.progress).2 → t.ecc.ceDram = u.ecc.ceDram → t.ecc.ueCount = u.ecc.ueCount →
      t.ecc.poisoned = u.ecc.poisoned → p t) : Runs (.scrubRead dt found syndrome) s p := by
  have hecc : ((s.tick dt).scrub found syndrome).settle.ecc = { u.ecc with progress := (scrubWord s.ecc.progress).2 } :=
    (State.settle_ecc _).trans (congrArg State.ecc (State.scrub_of_inside (s := s.tick dt) h hu))
  exact ⟨((s.tick dt).scrub found syndrome).settle, rfl, hp _ (by rw [hecc]) (by rw [hecc]) (by rw [hecc]) (by rw [hecc])⟩

/-! ### Row retirement (R475, R476) -/

theorem State.retireRow_of_not_due {s : State} {w : Nat} (h : s.ecc.retireDue w = false) : s.retireRow w = s :=
  if_pos (by rw [h]; rfl)

/-- A word that is due takes a free spare row of its bank. -/
theorem State.retireRow_of_free {s : State} {w : Nat} (hdue : s.ecc.retireDue w = true)
    (hfree : s.ecc.spares.getD (wordBank w) 0 < spareRows (wordMem w)) :
    (s.retireRow w).ecc.spares = s.ecc.spares.put (wordBank w) (s.ecc.spares.getD (wordBank w) 0 + 1)
      ∧ (s.retireRow w).ecc.retired = s.ecc.retired ++ [wordRow w]
      ∧ (s.retireRow w).ecc.retiredDram = s.ecc.retiredDram + b2n (wordMem w == 0)
      ∧ (s.retireRow w).ecc.tracker = s.ecc.tracker.filter (·.word != w) ∧ (s.retireRow w).ecc.poisoned = s.ecc.poisoned
      ∧ (s.retireRow w).mem = s.mem := by
  unfold State.retireRow
  rw [hdue]
  dsimp only
  simp only [hfree, if_true, Bool.not_true, Bool.false_eq_true, if_false]
  exact ⟨rfl, rfl, rfl, rfl, rfl, rfl⟩

/-! ### A queue with a pointer mismatch (R484) -/

theorem State.rebuildQueue_of_large {s : State} {q : Nat} (h : ∀ x, queueClass q = some x → x.1 ≠ 0) : s.rebuildQueue q = s := by
  refine if_pos ?_
  cases hclass : queueClass q with
  | none => rfl
  | some x => exact bne_iff_ne.mpr (h x hclass)

/-- The records of an observed table of queues: each with the flags, the level and the crossings observed. -/
theorem State.settle_queue (s : State) (q : Nat) :
    (s.settle.queue q).resets = (s.queue q).resets ∧ (s.settle.queue q).high = (s.queue q).high := by
  have hfind : ∀ m : Map QueueDyn, Map.find (m.map fun e => (e.1, (e.2.observe (s.queueLevel e.1)).1)) q
      = (Map.find m q).map fun d => (d.observe (s.queueLevel q)).1 := by
    intro m
    induction m with
    | nil => rfl
    | cons e m ih =>
      obtain ⟨k, d⟩ := e
      rw [List.map_cons, Map.find_cons, Map.find_cons, ih]
      split
      · rw [‹k = q›]; rfl
      · rfl
  unfold State.queue Map.getD
  rw [State.settle_queues, hfind]
  cases Map.find s.queues q <;> exact ⟨rfl, rfl⟩

/-- A small queue that resets: what is counted and raised; a capture queue loses its records. -/
theorem State.rebuildQueue_of_small {s : State} {q : Nat} (h : (queueClass q).map (·.1) = some 0) :
    ((s.rebuildQueue q).queue q).resets = (s.queue q).resets + 1 ∧ ((s.rebuildQueue q).queue q).high = (s.queue q).high
      ∧ (q ≤ 7 → ((s.rebuildQueue q).time.captures.getD q {}).queue = []) ∧ (s.rebuildQueue q).host = s.host
      ∧ (s.rebuildQueue q).ports = s.ports ∧ (s.rebuildQueue q).render = s.render
      ∧ ((s.rebuildQueue q).icu.src 0xA8).count = (s.icu.src 0xA8).count + 1 := by
  obtain ⟨x, hclass, hx⟩ := Option.map_eq_some_iff.mp h
  have hqueue : ∀ d : QueueDyn, ((s.queues.upd q { level := s.queueLevel q } fun d => { d with resets := d.resets + 1 }).getD q d)
      = { s.queues.getD q { level := s.queueLevel q } with resets := (s.queues.getD q { level := s.queueLevel q }).resets + 1 } :=
    fun d => Map.getD_put_self _ _ _ _
  have hsame : (s.queues.getD q { level := s.queueLevel q }).resets = (s.queue q).resets
      ∧ (s.queues.getD q { level := s.queueLevel q }).high = (s.queue q).high := by
    unfold State.queue Map.getD
    cases Map.find s.queues q <;> exact ⟨rfl, rfl⟩
  have hcount : ∀ k, k ≠ 0xA8 → (((s.icu.edge 0xA8 s.now).edge k s.now).src 0xA8).count = (s.icu.src 0xA8).count + 1 := by
    intro k hk
    rw [IcuState.edge_src, if_neg (by simp [hk.symm]), IcuState.edge_src, if_pos ⟨rfl, by decide⟩, IcuSource.edge_count]
  unfold State.rebuildQueue
  rw [if_neg (by rw [hclass]; simp [hx])]
  dsimp only
  split
  · rename_i hlost
    simp only [Bool.and_eq_true, decide_eq_true_eq] at hlost
    refine ⟨?_, ?_, fun _ => ?_, rfl, rfl, rfl, hcount (0x50 + q) (by omega)⟩
    · exact (congrArg QueueDyn.resets (hqueue {})).trans (congrArg (· + 1) hsame.1)
    · exact (congrArg QueueDyn.high (hqueue {})).trans hsame.2
    · exact congrArg CaptureIn.queue (Map.getD_put_self s.time.captures q _ _)
  · rename_i hkept
    refine ⟨(congrArg QueueDyn.resets (hqueue {})).trans (congrArg (· + 1) hsame.1), (congrArg QueueDyn.high (hqueue {})).trans hsame.2,
      fun hq => ?_, rfl, rfl, rfl, ?_⟩
    · simpa [hq] using hkept
    · exact (congrArg IcuSource.count ((IcuState.edge_src s.icu 0xA8 s.now 0xA8).trans (if_pos ⟨rfl, by decide⟩))).trans
        (IcuSource.edge_count _ _)

/-! ### The statement -/

/-- Settles O25: each event is one operation of the ECC registers or of the queues' records. -/
theorem memoryIntegrity : Obligations.MemoryIntegrity := by
  refine ⟨fun dt addr s => rfl, fun dt mem addr w s hw hdue hfree => ?retire, fun dt mem addr s h => ?notDue,
    fun dt found syndrome s h hin => ?clean, fun dt found syndrome w s hw h hin => ?more, fun dt found syndrome s hmem h hin => ?single,
    fun dt v s h => ?armed, fun dt v s h => ?closed, fun dt q s hclass hlt => ?small, fun dt q s h => ?large,
    fun dt m s t e c p h => ?access, fun dt m s t e c p h hclear => ?status, fun dt m s t e c p h => ?watermarks⟩
  case retire =>
    subst hw
    obtain ⟨hspares, hretired, hdram, htracker, hpoisoned, hmem⟩ := State.retireRow_of_free (s := s.tick dt) hdue hfree
    refine ⟨_, rfl, ?_⟩
    simp only [State.settle_ecc, State.settle_mem]
    exact ⟨by rw [hspares]; exact Map.getD_put_self _ _ _ _, hretired, hdram, htracker, hpoisoned, hmem⟩
  case notDue => exact next_settle_congr (State.retireRow_of_not_due (s := s.tick dt) h)
  case clean =>
    exact next_settle_congr (State.scrub_of_inside (s := s.tick dt) hin (State.readWord_of_clean (s := s.tick dt) h syndrome))
  case more =>
    subst hw
    refine runs_scrubRead hin (State.readWord_of_more (s := s.tick dt) h syndrome) fun t hnext hce hue hpoisoned => ?_
    obtain ⟨hcount, hdram, hmem⟩ := (s.tick dt).poisonWord_counts (scrubWord s.ecc.progress).1 syndrome
    rw [hce, hue, hpoisoned]
    exact ⟨hcount, (hmem _).mpr (.inl rfl), fun v hv => (hmem v).trans (or_iff_right hv), hnext, hdram⟩
  case single =>
    refine runs_scrubRead hin (State.readWord_of_single (s := s.tick dt) h syndrome) fun t hnext hce hue hpoisoned => ?_
    obtain ⟨hdram, hkept, hcount⟩ := State.corrected_counts (s := s.tick dt) hmem syndrome
    exact ⟨hce.trans hdram, hpoisoned.trans hkept, hue.trans hcount, hnext⟩
  case armed =>
    refine next_settle_congr (t := (s.tick dt).eccWrite 0x40 4 v) ?_
    simp only [State.eccWrite, State.tick_host, h]
    rfl
  case closed =>
    refine next_settle_congr (t := (s.tick dt).eccWrite 0x40 4 v) ?_
    simp only [State.eccWrite, State.tick_host, h]
    rfl
  case small =>
    obtain ⟨hresets, hhigh, hempty, hhost, hports, hrender, hcount⟩ := State.rebuildQueue_of_small (s := s.tick dt) hclass
    obtain ⟨hr, hh⟩ := ((s.tick dt).rebuildQueue q).settle_queue q
    refine ⟨_, rfl, hr.trans hresets, hh.trans hhigh, ?_, ?_, ?_, ?_, ?_⟩
    · rw [State.settle_time]; exact hempty
    · rw [State.settle_host]; exact hhost
    · rw [State.settle_ports]; exact hports
    · rw [State.settle_render]; exact hrender
    · rw [State.settle_src_count _ 0xA8 (by decide)]
      refine lt_of_lt_of_eq ?_ hcount.symm
      rw [State.tick_icu]
      bv_omega
  case large => exact next_settle_congr (State.rebuildQueue_of_large (s := s.tick dt) h)
  case access =>
    obtain ⟨-, -, -, rfl⟩ := running_state h
    exact running_act h rfl
  case status =>
    obtain ⟨-, -, -, rfl⟩ := running_state h
    exact running_act h (if_neg (by rw [hclear]; decide))
  case watermarks =>
    obtain ⟨-, -, -, rfl⟩ := running_state h
    exact running_act h rfl

end Sys2Proof.Machine
end

section
/-!
PROOFS. The commands of the Ethernet ports and of MACsec, and their reads (spec/12_ethernet.md, R398 to R406).
-/

namespace Sys2Proof.Machine

/-! ### NET_RING_BIND (R402) -/

/-- No ring, or one that is DISABLED. -/
def State.ringIdle (t : State) (h : Nat) : Bool := h == 0 || (t.ring h).phase == .disabled

/-- A host ring may serve network ring `k` of direction `dir`: none does, or a DISABLED one of its class that no other network ring uses. -/
def State.bindable (t : State) (k dir h : Nat) : Bool :=
  t.ringIdle h && (h == 0 || ((t.ring h).cfg.cls == 0x10 + dir && !(t.ring h).cfg.dir))
    && !(h != 0 && t.net.rings.any fun e => e.1 != k && e.2.host == h)

/-- The network ring that NET_RING_BIND leaves. -/
def NetRing.bind (r : NetRing) (q : Bytes) : NetRing :=
  { r with
    host := fld q 2 1, ports := fld q 3 1, match_ := fld q 4 1, flags := fld q 5 1, arg := fld q 6 2
    value := if fld q 4 1 = 3 then fld q 8 6 else fld q 8 2 }

/-- NET_RING_BIND binds where the new host ring may serve and the old one is DISABLED. -/
theorem netRingBindSpec_body (c : Ctx) (t : State) {q : Bytes} {k : Nat} (hq : q = c.payload) (hk : k = 64 * fld q 1 1 + fld q 0 1) :
    netRingBindSpec.body c t = if t.bindable k (fld q 1 1) (fld q 2 1) && t.ringIdle (t.netRing k).host
      then (t.setNetRing k ((t.netRing k).bind q)).ok else t.fail .conflict := by
  subst hq hk
  have hflip : ∀ idle free suits taken : Bool, (!idle || !free || !suits || taken) = !(((idle && suits) && !taken) && free) := by decide
  show (if _ then _ else _) = _
  rw [hflip]
  change (if (!(t.bindable _ _ _ && t.ringIdle _)) = true then _ else _) = _
  generalize (t.bindable _ _ _ && t.ringIdle _) = ok
  cases ok <;> rfl

section
variable {t : State} {k dir h : Nat}

theorem State.ringIdle_of_disabled (hidle : h = 0 ∨ (t.ring h).phase = .disabled) : t.ringIdle h = true := by
  simpa [State.ringIdle] using hidle

theorem State.bindable_none : t.bindable k dir 0 = true := rfl

theorem State.bindable_of_suitable (hidle : (t.ring h).phase = .disabled) (hcls : (t.ring h).cfg.cls = 0x10 + dir)
    (hdir : (t.ring h).cfg.dir = false) (hfree : ∀ e ∈ t.net.rings, e.1 ≠ k → e.2.host ≠ h) : t.bindable k dir h = true := by
  have hany : (t.net.rings.any fun e => e.1 != k && e.2.host == h) = false := by
    simpa using fun a b hmem hne => hfree (a, b) hmem hne
  simp [State.bindable, State.ringIdle, hidle, hcls, hdir, hany]

theorem State.bindable_of_unsuitable (hne : h ≠ 0) (hbad : (t.ring h).phase ≠ .disabled ∨ (t.ring h).cfg.cls ≠ 0x10 + dir
    ∨ ∃ e ∈ t.net.rings, e.1 ≠ k ∧ e.2.host = h) : t.bindable k dir h = false := by
  rcases hbad with hphase | hcls | ⟨e, hmem, hk, hhost⟩
  · simp [State.bindable, State.ringIdle, hne, hphase]
  · simp [State.bindable, hne, hcls]
  · have hany : (t.net.rings.any fun e => e.1 != k && e.2.host == h) = true :=
      List.any_eq_true.mpr ⟨e, hmem, by simp [hk, hhost]⟩
    simp [State.bindable, hne, hany]

end

/-! ### The statement -/

/-- A port's settings from NET_PORT_SET stand, unless the mode of a port that is on would change. -/
theorem netPortSetSpec_conflict {c : Ctx} {t : State} (hmode : fld c.payload 1 1 ≠ (t.port (fld c.payload 0 1)).cfg.mode)
    (hon : t.alive (portFn (fld c.payload 0 1)).1 (portFn (fld c.payload 0 1)).2 = true) : netPortSetSpec.body c t = t.fail .conflict :=
  if_pos (by simp [hmode, hon])

/-- The installation of an SA (R406): the key that the key-encryption key unwraps. -/
def State.installSa (t : State) (c : Ctx) (q key : Bytes) : State :=
  let x := t.port (fld q 0 1)
  (t.auditMacsec c (q.take 4)).setPort (fld q 0 1) { x with secy := { x.secy with
    sas := x.secy.sas.put (4 * fld q 1 1 + fld q 2 1) { key := key, pn := fld q 8 8, ssci := fld q 4 4, salt := slice q 0x10 12 }
    active := if fld q 3 1 = 1 then x.secy.active.put (fld q 1 1) (fld q 2 1) else x.secy.active
    exhausted := x.secy.exhausted && !(fld q 3 1 = 1 && fld q 1 1 == 0) } }

/-- MACSEC_SA_SET of a key: installed where it unwraps, and INTEGRITY where it does not. -/
theorem macsecSaSetSpec_install {c : Ctx} {t : State} {q : Bytes} (hq : q = c.payload) (hfull : t.auditFull = false) (hop : fld q 3 1 ≠ 2) :
    macsecSaSetSpec.body c t = ((t.secure.kekNow.bind fun k => keyUnwrap k (slice q 0x20 40)).elim t (t.installSa c q),
      ⟨if (t.secure.kekNow.bind fun k => keyUnwrap k (slice q 0x20 40)).isSome then .ok else .integrity, [], none⟩) := by
  subst hq
  simp only [macsecSaSetSpec, hfull, Bool.false_eq_true, if_false, if_neg hop]
  cases t.secure.kekNow.bind fun k => keyUnwrap k (slice c.payload 0x20 40) <;> rfl

/-- Settles O49: each command is its body on the port, the ring or the SecY that its payload names. -/
theorem ethernetAndMacsecCommands : Obligations.EthernetAndMacsecCommands := by
  refine ⟨fun dt m s t e c p h hmode => ?portSet, fun dt m s t e c p h hmode hon => ?portConflict,
    fun dt m s t e c p r h hr hne hidle hold hcls hdir hfree => ?bind, fun dt m s t e c p h hnone hold => ?unbind,
    fun dt m s t e c p h hne hbad => ?bindConflict, fun dt m s t e c p h => ?portStatus, fun dt m s t e c p h => ?ringStatus,
    fun dt m s t e c p h hfull hsuite => ?secySet, fun dt m s t e c p h hfull hon hxpn hoff => ?secyConflict,
    fun dt m s t e c p kek h hfull hop hkek => ?saActive, fun dt m s t e c p kek h hfull hop hkek => ?saSpare,
    fun dt m s t e c p h hfull hop hkek => ?saNoKey, fun dt m s t e c p h hfull hop hother => ?saDelete,
    fun dt m s t e c p h hfull hop hsc hactive => ?saConflict, fun dt m s t e c p h => ?macsecStatus⟩
  all_goals obtain ⟨-, -, -, rfl⟩ := running_state h
  case portSet =>
    refine running_act h (if_neg ?_)
    rcases hmode with hmode | hoff
    · simp [hmode]
    · simp [hoff]
  case portConflict => exact running_act h (netPortSetSpec_conflict hmode hon)
  case bind =>
    subst hr
    refine running_act h ((netRingBindSpec_body c t rfl rfl).trans (if_pos ?_))
    rw [State.bindable_of_suitable hidle hcls hdir hfree, State.ringIdle_of_disabled hold]
    rfl
  case unbind =>
    refine running_act h ((netRingBindSpec_body c t rfl rfl).trans ?_)
    rw [hnone, State.bindable_none, State.ringIdle_of_disabled hold, ← hnone]
    simp only [NetRing.bind, hnone]
    rfl
  case bindConflict =>
    refine running_act h ((netRingBindSpec_body c t rfl rfl).trans (if_neg ?_))
    rw [State.bindable_of_unsuitable hne hbad]
    exact Bool.false_ne_true
  case portStatus => exact running_act h rfl
  case ringStatus => exact running_act h rfl
  case secySet =>
    refine running_act h ?_
    have hkept : ((t.port (fld c.payload 0 1)).secy.enable && (fld c.payload 2 1 == 1) != (t.port (fld c.payload 0 1)).secy.xpn) = false := by
      rcases hsuite with hsuite | hsuite
      · rw [hsuite]; rfl
      · rw [Bool.and_eq_false_iff, bne_eq_false_iff_eq]
        exact .inr (Bool.eq_iff_iff.mpr (beq_iff_eq.trans hsuite.symm))
    simp only [macsecSecySetSpec, hfull, hkept, Bool.false_eq_true, if_false]
    rfl
  case secyConflict =>
    refine running_act h ?_
    simp only [macsecSecySetSpec, hfull, hon, hxpn, hoff, Bool.false_eq_true, if_false]
    rfl
  case saActive | saSpare =>
    refine running_act h ((macsecSaSetSpec_install rfl hfull (by rw [hop]; decide)).trans ?_)
    rw [hkek, Option.bind_some]
    cases keyUnwrap kek (slice c.payload 0x20 40) with
    | none => rfl
    | some key => simp [State.installSa, hop, State.auditMacsec]
  case saNoKey =>
    refine running_act h ((macsecSaSetSpec_install rfl hfull hop).trans ?_)
    rw [hkek]
    rfl
  case saDelete =>
    refine running_act h ?_
    have hkept : (fld c.payload 1 1 = 0 && (t.port (fld c.payload 0 1)).secy.active.find 0 == some (fld c.payload 2 1)) = false := by
      by_cases hsc : fld c.payload 1 1 = 0
      · rw [hsc] at hother
        simp [hother]
      · simp [hsc]
    have hactive : ((t.port (fld c.payload 0 1)).secy.active.find (fld c.payload 1 1) == some (fld c.payload 2 1)) = false :=
      beq_eq_false_iff_ne.mpr hother
    simp only [macsecSaSetSpec, hfull, hop, hkept, hactive, Bool.false_eq_true, if_false, if_true]
    rfl
  case saConflict =>
    refine running_act h ?_
    simp only [macsecSaSetSpec, hfull, hop, hsc, hactive, decide_true, beq_self_eq_true, Bool.and_self, Bool.false_eq_true, if_false, if_true]
    rfl
  case macsecStatus =>
    refine running_act h ?_
    simp only [macsecStatusSpec, State.okWith, List.range_succ_eq_map (n := 4), List.flatMap_cons, List.flatMap_map, Nat.mul_zero,
      Nat.zero_add, List.append_assoc]

end Sys2Proof.Machine
end

section
/-!
PROOFS. Watchdogs, rails, temperatures and the power-budget arbiter (spec/18_update_and_security.md, R559 to R581); first, what operations
that end requests and emissions leave of the interrupt sources above those of the mailboxes and of HID_DEV_EVENT.
-/

namespace Sys2Proof.Machine

/-- An input that acts on the state runs to what its operation leaves. -/
theorem runs_act {i : Instr} {dt : Nat} {s u : State} {f : State → State} {p : State → Prop} (hexec : exec i s = s.act dt f)
    (hf : f (s.tick dt) = u) (hp : p u.settle) : Runs i s p :=
  ⟨u.settle, hexec.trans (congrArg (fun u : State => Host.Outcome.next u.settle) hf), hp⟩

/-! ### What operations leave of an interrupt source -/

/-- A fold keeps what each of its steps keeps. -/
theorem State.foldl_keeps {β γ : Type} {g : State → γ} {f : State → β → State} (hf : ∀ s b, g (f s b) = g s) (l : List β) (s : State) :
    g (l.foldl f s) = g s := by
  rw [← List.foldl_hom g (g₁ := f) (g₂ := fun a _ => a) (fun s b => (hf s b).symm)]
  exact List.foldl_fixed l

section
variable {k : Nat}

theorem State.raise_src_of_ne {n : Nat} (h : k ≠ n) (s : State) : (s.raise n).icu.src k = s.icu.src k := by
  rw [State.raise_src, if_neg fun hk => h hk.1]

theorem State.raise_src_self (h : srcAssigned k = true) (s : State) : (s.raise k).icu.src k = (s.icu.src k).edge s.now := by
  rw [State.raise_src, if_pos ⟨rfl, h⟩]

theorem State.raiseIf_src_of_ne {n : Nat} (h : k ≠ n) (s : State) (b : Bool) : (s.raiseIf b n).icu.src k = s.icu.src k := by
  cases b
  · rfl
  · exact s.raise_src_of_ne h

theorem State.devEvent_src {b : Nat} (h : k ≠ 0x30 + b) (s : State) : (s.devEvent b).icu.src k = s.icu.src k :=
  State.raise_src_of_ne h _

theorem State.deliver_src (hk : 0x40 ≤ k) (s : State) (x : Completion) : (s.deliver x).icu.src k = s.icu.src k := by
  unfold State.deliver
  split
  · unfold State.writeCompletion
    dsimp only
    split
    · exact State.raise_src_of_ne (by omega) _
    · rfl
  · exact State.devEvent_src (by omega) _

theorem State.endOpId_src (hk : 0x40 ≤ k) (s : State) (id : Nat) (st : Status) (pos : Pos) (resp : Bytes) :
    (s.endOpId id st pos resp).icu.src k = s.icu.src k := by
  unfold State.endOpId
  split
  · exact (State.deliver_src hk _ _).trans (by simp)
  · rfl

theorem State.abortRdm_src (hk : 0x40 ≤ k) (s : State) (j : Nat) : (s.abortRdm j).icu.src k = s.icu.src k :=
  State.foldl_keeps (g := fun s => s.icu.src k) (fun s op => s.endOpId_src hk op _ _ _) _ _

theorem State.cutDmx_src (hk : 0x40 ≤ k) (s : State) (j : Nat) (d : DmxDyn) : (s.cutDmx j d).icu.src k = s.icu.src k := by
  have hrun : (d.run.elim (s.abortRdm j) fun r => (s.abortRdm j).endOpId r.job.op .aborted (s.abortRdm j).pos []).icu.src k
      = s.icu.src k := by
    cases d.run with
    | none => exact s.abortRdm_src hk j
    | some r => exact (State.endOpId_src hk _ _ _ _ _).trans (s.abortRdm_src hk j)
  unfold State.cutDmx
  dsimp only
  split <;> exact hrun

theorem State.stopEmissions_src (hk : 0x40 ≤ k) (s : State) : s.stopEmissions.icu.src k = s.icu.src k := by
  have hlanes : (s.ports.lanes.foldl (fun s e => s.cutLane e.1 e.2) s).icu.src k = s.icu.src k :=
    State.foldl_keeps (g := fun s => s.icu.src k) (f := fun s (e : Nat × LaneDyn) => s.cutLane e.1 e.2) (fun s e => by simp) _ s
  refine (State.foldl_keeps (g := fun s => s.icu.src k) (f := fun s (e : Nat × PwmDyn) => s.cutPwm e.1 e.2) (fun s e => by simp) _ _).trans ?_
  exact (State.foldl_keeps (g := fun s => s.icu.src k) (f := fun s (e : Nat × DmxDyn) => s.cutDmx e.1 e.2) (fun s e => s.cutDmx_src hk e.1 e.2) _ _).trans hlanes

theorem State.audit_src (hk : k ≠ 0xC4) (s : State) (event session role status : Nat) (detail : Bytes) :
    (s.audit event session role status detail).icu.src k = s.icu.src k := by
  unfold State.audit
  dsimp only
  split
  · exact State.raise_src_of_ne hk _
  · rfl

theorem State.endAllSessions_src (hk : k ≠ 0xC4) (s : State) (cause : Nat) : (s.endAllSessions cause).icu.src k = s.icu.src k := by
  refine State.foldl_keeps (g := fun s => s.icu.src k) (fun s e => ?_) _ s
  unfold State.endSession
  split
  · rfl
  · exact State.audit_src hk _ _ _ _ _ _

end

/-! ### A yield -/

/-- The group after an ACTIVE device yielded for a cause (R513 to R515). -/
def GroupState.yielded (g : GroupState) (cause now : Nat) : GroupState :=
  { g with
    role := .faulted, actPin := false, yieldCause := cause, yieldPull := !g.yieldStuck, yieldAt := now, takeover := none
    switchOp := none, coord := if g.isCoord then some g.partner else g.coord }

section
variable {s : State}

theorem State.yieldFor_of_not_active (h : s.group.role ≠ .active) (cause : Nat) : s.yieldFor cause = s :=
  if_pos (by simpa using h)

/-- An ACTIVE device yields: its group has yielded, the hand-over in progress is aborted, its emissions stop, and TANGO_YIELD is raised. -/
theorem State.yieldFor_of_active (h : s.group.role = .active) (cause : Nat) :
    s.yieldFor cause = (((s.group.switchOp.elim (s.setGroup (s.group.yielded cause s.now)) fun op =>
      (s.setGroup (s.group.yielded cause s.now)).endOpId op .aborted s.pos [])).stopEmissions).raise 0xB7 := by
  have hne : (s.group.role != .active) = false := by rw [h]; rfl
  unfold State.yieldFor
  simp only [hne, Bool.false_eq_true, if_false]
  rfl

theorem State.yieldFor_group (h : s.group.role = .active) (cause : Nat) : (s.yieldFor cause).group = s.group.yielded cause s.now := by
  rw [State.yieldFor_of_active h]
  cases s.group.switchOp <;> simp [State.setGroup]

theorem State.yieldFor_src_of_ne {k : Nat} (hk : 0x40 ≤ k) (hne : k ≠ 0xB7) (cause : Nat) : (s.yieldFor cause).icu.src k = s.icu.src k := by
  by_cases h : s.group.role = .active
  · rw [State.yieldFor_of_active h, State.raise_src_of_ne hne, State.stopEmissions_src hk]
    cases s.group.switchOp with
    | none => rfl
    | some op => exact State.endOpId_src hk _ _ _ _ _
  · rw [State.yieldFor_of_not_active h]

theorem State.yieldFor_count (h : s.group.role = .active) (cause : Nat) :
    ((s.yieldFor cause).icu.src 0xB7).count = (s.icu.src 0xB7).count + 1 := by
  rw [State.yieldFor_of_active h, State.raise_src_self (by decide), IcuSource.edge_count, State.stopEmissions_src (by decide)]
  cases s.group.switchOp with
  | none => rfl
  | some op => rw [Option.elim_some, State.endOpId_src (by decide)]; rfl

end

/-! ### Lanishambe restarts and render stalls (R64, R567) -/

/-- No session is left once each that stood has ended. -/
theorem State.endAllSessions_sessions (s : State) (cause : Nat) : (s.endAllSessions cause).host.sessions = [] := by
  have hend : ∀ (s : State) (id : Nat), (s.endSession id cause).host.sessions = s.host.sessions.filter (·.1 != id) := by
    intro s id
    unfold State.endSession
    split
    · next h =>
      refine (List.filter_eq_self.mpr fun e he => ?_).symm
      have := List.find?_eq_none.mp (Option.map_eq_none_iff.mp h) e he
      simpa using this
    · simp [Map.del]
  have hfold : ∀ (l : List (Nat × Session)) (s : State), (l.foldl (fun s e => s.endSession e.1 cause) s).host.sessions
      = s.host.sessions.filter fun e => l.all fun x => e.1 != x.1 := by
    intro l
    induction l with
    | nil => intro s; simp
    | cons x l ih => intro s; rw [List.foldl_cons, ih, hend, List.filter_filter]; simp [Bool.and_comm]
  refine (hfold _ s).trans (List.filter_eq_nil_iff.mpr fun e he => ?_)
  simpa using ⟨e.2, he⟩

theorem State.mgmtWatchdog_of_running {s : State} (hrun : s.power.reset = .running) (hfw : s.host.fwRestart = false) :
    s.mgmtWatchdog = (({ s with power := { s.power with wdogCount := s.power.wdogCount + 1 } } : State).raise 0xCB).fwRestart := by
  simp [State.mgmtWatchdog, hrun, hfw]

theorem State.fwRestart_src {k : Nat} (hk : k ≠ 0xC4) (s : State) : s.fwRestart.icu.src k = s.icu.src k :=
  State.endAllSessions_src hk s 2

theorem State.fwRestart_host (s : State) : s.fwRestart.host.fwRestart = true ∧ s.fwRestart.host.mbxReady = false ∧ s.fwRestart.host.sessions = [] :=
  ⟨rfl, rfl, s.endAllSessions_sessions 2⟩

/-- A detected stall, before a Tango active yields. -/
def State.stallSeen (s : State) : State :=
  ({ s with power := { s.power with wdogCount := s.power.wdogCount + 1, stallSince := some s.now } } : State).raise 0xCB

theorem State.renderStall_of_running {s : State} (h : s.power.reset = .running) : s.renderStall = s.stallSeen.yieldFor 1 := by
  simp [State.renderStall, h, State.stallSeen]

theorem State.stallSeen_count (s : State) : (s.stallSeen.icu.src 0xCB).count = (s.icu.src 0xCB).count + 1 := by
  rw [State.stallSeen, State.raise_src_self (by decide), IcuSource.edge_count]

/-! ### Rails (R559) -/

/-- Taking a set bit off a number leaves its other bits. -/
theorem bit_sub_two_pow {n r k : Nat} (h : bit n r = true) (hk : k ≠ r) : bit (n - 2 ^ r) k = bit n k := by
  rw [bit_eq_testBit, Nat.testBit_eq_decide_div_mod_eq, decide_eq_true_iff] at h
  rw [bit_eq_testBit, bit_eq_testBit]
  have hn : n = 2 ^ r * (n / 2 ^ r) + n % 2 ^ r := (Nat.div_add_mod n (2 ^ r)).symm
  have hlt : n % 2 ^ r < 2 ^ r := Nat.mod_lt _ (Nat.two_pow_pos r)
  generalize n / 2 ^ r = a at h hn
  generalize n % 2 ^ r = b at hn hlt
  obtain ⟨d, rfl⟩ : ∃ d, a = 2 * d + 1 := ⟨a / 2, by omega⟩
  have hsub : n - 2 ^ r = 2 ^ r * (2 * d) + b := by rw [hn, Nat.mul_succ]; omega
  rw [hsub, hn, Nat.testBit_two_pow_mul_add _ hlt, Nat.testBit_two_pow_mul_add _ hlt]
  rcases Nat.lt_or_ge k r with hlow | hhigh
  · simp [hlow]
  · obtain ⟨i, hi⟩ : ∃ i, k - r = i + 1 := ⟨k - r - 1, by omega⟩
    rw [if_neg (by omega), if_neg (by omega), hi, Nat.testBit_add_one, Nat.testBit_add_one]
    congr 1
    omega

/-! ### The arbiter (R568, R569) -/

/-- An arbiter interval is throttled for the first time of a run, or over the ceiling with all floors. -/
def PowerState.throttleEvent (p : PowerState) (ceiling : Nat) (x : ArbiterLoad) (f : Nat) : Bool :=
  (f != 256 && !p.throttling) || decide (ceiling < (throttledPower ceiling x f).1)

/-- The power state that an arbiter interval under a ceiling leaves, with the clusters at issue fraction `f`, from that after its junction
reading. -/
def PowerState.arbitrate (p : PowerState) (ceiling : Nat) (x : ArbiterLoad) (f : Nat) : PowerState :=
  let r := throttledPower ceiling x f
  { p with
    ceilingNow := ceiling, peakMw := max p.peakMw r.1, recent := (r.1 :: p.recent).take 1000
    fraction := if f != 256 then f else p.fraction, dmaFloor := r.2.1, mgmtFloor := r.2.2, throttling := f != 256
    exceeded := decide (ceiling < r.1)
    throttleCount := if p.throttleEvent ceiling x f then p.throttleCount + 1 else p.throttleCount
    railMa := x.railMa }

theorem PowerState.effective_of_cool {p : PowerState} (h : p.tj ≤ 1520) : p.effective = p.ceilingMw :=
  if_pos (h.trans (by unfold tMax; split <;> decide))

/-- The power state after a junction reading (R571). -/
def PowerState.read (p : PowerState) (tj : Int) : PowerState :=
  { p with
    tj := tj, tjMax := max p.tjMax tj, tripped := p.tripped && decide (1600 ≤ tj)
    thermal := (p.reset != .held) && (decide (tMax - 80 ≤ tj) || (p.thermal && decide (tMax - 128 ≤ tj))) }

theorem State.junction_power (s : State) (tj : Int) : (s.junction tj).power = s.power.read tj :=
  State.raiseIf_power _ _ _

theorem State.junction_of_held {s : State} (h : s.power.reset = .held) (tj : Int) : s.junction tj = { s with power := { s.power with
    tj := tj, tjMax := max s.power.tjMax tj, tripped := s.power.tripped && decide (1600 ≤ tj), thermal := false } } := by
  have hoff : (s.power.reset != .held) = false := by rw [h]; rfl
  simp only [State.junction, hoff, Bool.false_and]
  rfl

theorem State.junction_of_on {s : State} (h : s.power.reset ≠ .held) (tj : Int) : s.junction tj = if tMax - 80 ≤ tj ∧ s.power.thermal = false
    then ({ s with power := { s.power with
      tj := tj, tjMax := max s.power.tjMax tj, tripped := s.power.tripped && decide (1600 ≤ tj), thermal := true } } : State).raise 0xC9
    else { s with power := { s.power with
      tj := tj, tjMax := max s.power.tjMax tj, tripped := s.power.tripped && decide (1600 ≤ tj)
      thermal := decide (tMax - 80 ≤ tj) || (s.power.thermal && decide (tMax - 128 ≤ tj)) } } := by
  have hon : (s.power.reset != .held) = true := bne_iff_ne.mpr h
  by_cases hhot : tMax - 80 ≤ tj
  · cases hwas : s.power.thermal <;> simp only [State.junction, hon, hhot, hwas, Bool.true_and, decide_true, Bool.true_or] <;> rfl
  · simp only [State.junction, hon, hhot, Bool.true_and, decide_false, Bool.false_and, Bool.false_or, false_and, if_false]
    rfl

theorem State.junction_src {k : Nat} (h : k ≠ 0xC9) (s : State) (tj : Int) : (s.junction tj).icu.src k = s.icu.src k :=
  State.raiseIf_src_of_ne h _ _

/-- An arbiter interval outside reset, below T_max, with the clusters at issue fraction `f`. -/
theorem runs_arbiterInterval {dt fixed clusters dma mgmt f : Nat} {railMa : List Nat} {tj : Int} {s : State} {P : State → Prop}
    (hon : s.power.reset ≠ .held) (hcool : tj ≤ 1520) (hf : issueFraction s.power.ceilingMw (fixed + dma + mgmt) clusters = f)
    (h : ∀ t : State, t.power = (s.power.read tj).arbitrate s.power.ceilingMw ⟨fixed, clusters, dma, mgmt, railMa⟩ f →
      (t.icu.src 0xC8).count = (s.icu.src 0xC8).count
        + (if s.power.throttleEvent s.power.ceilingMw ⟨fixed, clusters, dma, mgmt, railMa⟩ f then 1 else 0) → P t) :
    Runs (.arbiterInterval dt fixed clusters dma mgmt railMa tj) s P := by
  have hpower : ((s.tick dt).junction tj).power = s.power.read tj := (s.tick dt).junction_power tj
  have heff : (s.power.read tj).effective = s.power.ceilingMw := PowerState.effective_of_cool hcool
  have hheld : (s.power.read tj).reset ≠ .held := hon
  have hthrottling : (s.power.read tj).throttling = s.power.throttling := rfl
  have hraise : ∀ (b : Bool) (u : State), u.icu.src 0xC8 = s.icu.src 0xC8 →
      ((u.raiseIf b 0xC8).icu.src 0xC8).count = (s.icu.src 0xC8).count + if b then 1 else 0 := by
    intro b u hu
    cases b
    · simp [State.raiseIf, hu]
    · rw [State.raiseIf, if_pos rfl, State.raise_src_self (by decide), IcuSource.edge_count, hu, if_pos rfl]
  subst hf
  refine runs_act (exec_arbiterInterval dt fixed clusters dma mgmt railMa tj s) rfl (h _ ?_ ?_)
  · rw [State.settle_power]
    unfold State.arbiterInterval
    simp only [hpower, if_neg hheld, State.raiseIf_power, heff, hthrottling, PowerState.arbitrate, PowerState.throttleEvent]
  · rw [State.settle_src_count _ _ (by decide)]
    unfold State.arbiterInterval
    simp only [hpower, if_neg hheld, heff, hthrottling]
    exact hraise _ _ (State.junction_src (by decide) _ tj)

section
variable {ceiling fixed clusters dma mgmt : Nat} {railMa : List Nat}

theorem issueFraction_of_fits (h : fixed + clusters + dma + mgmt ≤ ceiling) : issueFraction ceiling (fixed + dma + mgmt) clusters = 256 :=
  if_pos (by omega)

theorem throttledPower_of_fits (h : fixed + clusters + dma + mgmt ≤ ceiling) :
    throttledPower ceiling ⟨fixed, clusters, dma, mgmt, railMa⟩ 256 = (fixed + clusters + dma + mgmt, false, false) := by
  simp [throttledPower, h]

/-- The clusters alone bring the estimate under the ceiling. -/
theorem issueFraction_of_clusters (hover : ceiling < fixed + clusters + dma + mgmt) (hrest : fixed + dma + mgmt ≤ ceiling)
    (hfloor : 16 * clusters ≤ (ceiling - (fixed + dma + mgmt)) * 256) :
    issueFraction ceiling (fixed + dma + mgmt) clusters = (ceiling - (fixed + dma + mgmt)) * 256 / clusters
      ∧ (ceiling - (fixed + dma + mgmt)) * 256 / clusters < 256 := by
  have hpos : 0 < clusters := by omega
  refine ⟨?_, (Nat.div_lt_iff_lt_mul hpos).mpr (by omega)⟩
  rw [issueFraction, if_neg (by omega), Nat.max_eq_right hpos, Nat.max_eq_right ((Nat.le_div_iff_mul_le hpos).mpr hfloor)]

theorem throttledPower_of_clusters (hrest : fixed + dma + mgmt ≤ ceiling) {f : Nat}
    (hf : f = (ceiling - (fixed + dma + mgmt)) * 256 / clusters) :
    throttledPower ceiling ⟨fixed, clusters, dma, mgmt, railMa⟩ f = (fixed + clusters * f / 256 + dma + mgmt, false, false)
      ∧ fixed + clusters * f / 256 + dma + mgmt ≤ ceiling := by
  have hle : clusters * f / 256 ≤ ceiling - (fixed + dma + mgmt) := by
    refine Nat.div_le_of_le_mul ?_
    rw [hf, Nat.mul_comm 256]
    exact Nat.mul_div_le _ _
  have hfits : fixed + clusters * f / 256 + dma + mgmt ≤ ceiling := by omega
  exact ⟨by simp [throttledPower, hfits], hfits⟩

/-- All floors are not enough. -/
theorem issueFraction_of_floors (h : ceiling < fixed + clusters * 16 / 256 + dma / 4 + mgmt / 2) :
    issueFraction ceiling (fixed + dma + mgmt) clusters = 16 := by
  rw [issueFraction, if_neg (by omega)]
  refine Nat.max_eq_left (Nat.le_of_lt_succ ((Nat.div_lt_iff_lt_mul (by omega)).mpr ?_))
  omega

theorem throttledPower_of_floors (h : ceiling < fixed + clusters * 16 / 256 + dma / 4 + mgmt / 2) :
    (throttledPower ceiling ⟨fixed, clusters, dma, mgmt, railMa⟩ 16).1 = fixed + clusters * 16 / 256 + dma / 4 + mgmt / 2 := by
  have hdma : ¬ fixed + clusters * 16 / 256 + dma + mgmt ≤ ceiling := by omega
  have hmgmt : ¬ fixed + clusters * 16 / 256 + dma / 4 + mgmt ≤ ceiling := by omega
  have hdmaFloor : max (dma / 4) (ceiling - (fixed + clusters * 16 / 256 + mgmt)) = dma / 4 := by omega
  have hmgmtFloor : max (mgmt / 2) (ceiling - (fixed + clusters * 16 / 256 + dma / 4)) = mgmt / 2 := by omega
  simp only [throttledPower, if_neg hdma, hdmaFloor, if_neg hmgmt, hmgmtFloor]

end

/-! ### The statement -/

/-- Settles O60: each input is its operation on the power state, and a yield or a restart keeps what it does not name. -/
theorem powerAndThermal : Obligations.PowerAndThermal := by
  refine ⟨fun dt s hrun hfw => ?watchdog, fun dt s hoff => ?watchdogOff, fun dt s hrun hrole => ?stall, fun dt s hrun hrole => ?stallActive,
    fun dt s hoff => ?stallOff, fun dt rail s hrail hon => ?rail, fun dt rail s hrail hheld => ?railHeld, fun dt rail s hrail => ?railNone,
    fun dt rail s hout => ?good, fun dt rail s => ?others, fun dt rail s hin => ?goodNone, fun dt tj s hon => ?thermal,
    fun dt tj s hheld => ?thermalHeld, fun dt fixed clusters dma mgmt railMa tj s hon hcool hfits => ?fits,
    fun dt fixed clusters dma mgmt railMa tj s hon hcool hover hrest hfloor => ?clusters,
    fun dt fixed clusters dma mgmt railMa tj s hon hcool hover => ?floors, fun dt fixed clusters dma mgmt railMa tj s hheld => ?arbiterHeld,
    fun dt m s t e c p h => ?config, fun dt m s t e c p h => ?status⟩
  case watchdog =>
    obtain ⟨hrestart, hready, hsessions⟩ := State.fwRestart_host
      (({ s.tick dt with power := { s.power with wdogCount := s.power.wdogCount + 1 } } : State).raise 0xCB)
    refine runs_act rfl (State.mgmtWatchdog_of_running (s := s.tick dt) hrun hfw) ?_
    refine ⟨by simp, by simpa using hrestart, by simpa using hready, by simpa using hsessions, ?_, by simp, by simp, by simp, by simp,
      by simp, by simp⟩
    rw [State.settle_src_count _ _ (by decide), State.fwRestart_src (by decide), State.raise_src_self (by decide), IcuSource.edge_count]
    rfl
  case watchdogOff =>
    refine next_settle_congr (if_pos ?_)
    rcases hoff with hoff | hoff <;> simp [hoff]
  case stall =>
    exact next_settle_congr ((State.renderStall_of_running (s := s.tick dt) hrun).trans (State.yieldFor_of_not_active (s := (s.tick dt).stallSeen) hrole 1))
  case stallActive =>
    have hactive : (s.tick dt).stallSeen.group.role = .active := hrole
    have hcb := (s.tick dt).stallSeen_count
    refine runs_act rfl (State.renderStall_of_running (s := s.tick dt) hrun) ?_
    rw [State.settle_power, State.settle_group, State.settle_clock, State.settle_txn, State.yieldFor_group hactive,
      State.settle_src_count _ _ (by decide), State.settle_src_count _ _ (by decide), State.yieldFor_src_of_ne (by decide) (by decide),
      State.yieldFor_count hactive, hcb, State.stallSeen, State.raise_src_of_ne (by decide)]
    exact ⟨by simp, rfl, rfl, rfl, rfl, rfl, by simp, by simp⟩
  case stallOff => exact next_settle_congr (if_pos (by simpa using hoff))
  case rail => exact next_settle_congr ((if_neg (by omega)).trans (if_neg hon))
  case railHeld => exact next_settle_congr ((if_neg (by omega)).trans (if_pos hheld))
  case railNone => exact next_settle_congr (if_pos hrail)
  case good => exact next_settle_congr (if_pos hout)
  case others =>
    by_cases hout : bit s.power.railsOut rail = true
    · refine runs_act rfl (if_pos hout) fun k hk => ?_
      rw [State.settle_power]
      exact bit_sub_two_pow hout hk
    · exact runs_act rfl (if_neg hout) fun k _ => by simp
  case goodNone => exact next_settle_congr (if_neg (by simp [hin]))
  case thermal => exact next_settle_congr ((s.tick dt).junction_of_on hon tj)
  case thermalHeld => exact next_settle_congr ((s.tick dt).junction_of_held hheld tj)
  case fits =>
    have hpow := throttledPower_of_fits (railMa := railMa) hfits
    have hevent : s.power.throttleEvent s.power.ceilingMw ⟨fixed, clusters, dma, mgmt, railMa⟩ 256 = false := by
      simp [PowerState.throttleEvent, hpow, hfits]
    refine runs_arbiterInterval hon hcool (issueFraction_of_fits hfits) fun t hpower hcount => ?_
    rw [hpower, hcount, hevent]
    simp [PowerState.arbitrate, hpow, hfits, PowerState.throttleEvent, PowerState.read, hon]
  case clusters =>
    obtain ⟨hfrac, hlt⟩ := issueFraction_of_clusters hover hrest hfloor
    obtain ⟨hpow, hunder⟩ := throttledPower_of_clusters (clusters := clusters) (railMa := railMa) hrest rfl
    refine runs_arbiterInterval hon hcool hfrac fun t hpower hcount => ?_
    rw [hpower, hcount]
    generalize (s.power.ceilingMw - (fixed + dma + mgmt)) * 256 / clusters = f at hlt hpow hunder ⊢
    have hevent : s.power.throttleEvent s.power.ceilingMw ⟨fixed, clusters, dma, mgmt, railMa⟩ f = !s.power.throttling := by
      simp [PowerState.throttleEvent, hpow, hlt.ne, Nat.not_lt.mpr hunder]
    rw [hevent]
    cases hwas : s.power.throttling <;>
      simp [PowerState.arbitrate, PowerState.throttleEvent, PowerState.read, hpow, hlt.ne, hlt, hunder, Nat.not_lt.mpr hunder, hwas]
  case floors =>
    have hfrac := issueFraction_of_floors hover
    have hpow := throttledPower_of_floors (railMa := railMa) hover
    refine runs_arbiterInterval hon hcool hfrac fun t hpower hcount => ?_
    rw [hpower, hcount]
    simp [PowerState.arbitrate, hpow, hover, PowerState.throttleEvent, PowerState.read]
  case arbiterHeld =>
    exact next_settle_congr ((if_pos (by rw [State.junction_power]; exact hheld)).trans ((s.tick dt).junction_of_held hheld tj))
  case config =>
    obtain ⟨-, -, -, rfl⟩ := running_state h
    exact running_act h rfl
  case status =>
    obtain ⟨-, -, -, rfl⟩ := running_state h
    exact running_act h rfl

end Sys2Proof.Machine
end

section
/-!
PROOFS. A Tango pair: its takeovers, yields, nets and hand-overs (spec/17_quadrille_and_tango.md, R513 to R519, R526).
-/

namespace Sys2Proof.Machine

/-! ### What sending to the group leaves of it -/

/-- Two group states differ in their links and in the number of the next broadcast alone. -/
def GroupState.SameButLinks (g h : GroupState) : Prop := ∃ links n, h = { g with links := links, castNext := n }

theorem GroupState.SameButLinks.refl (g : GroupState) : g.SameButLinks g := ⟨_, _, rfl⟩

theorem GroupState.SameButLinks.trans {g h k : GroupState} (hgh : g.SameButLinks h) (hhk : h.SameButLinks k) : g.SameButLinks k := by
  obtain ⟨_, _, rfl⟩ := hgh
  obtain ⟨_, _, rfl⟩ := hhk
  exact ⟨_, _, rfl⟩

theorem State.pumpLink_group (s : State) (l : Nat) : s.group.SameButLinks (s.pumpLink l).group := by
  unfold State.pumpLink
  dsimp only
  split
  · exact .refl _
  · exact ⟨_, _, rfl⟩

theorem State.queueFrame_group (s : State) (l : Nat) (f : ZlkData) : s.group.SameButLinks (s.queueFrame l f).group := by
  unfold State.queueFrame
  dsimp only
  split
  · exact .refl _
  · exact .trans ⟨_, _, rfl⟩ (State.pumpLink_group _ l)

theorem State.gsend_group (s : State) (dest chan : Nat) (m : GroupMsg) : s.group.SameButLinks (s.gsend dest chan m).group := by
  unfold State.gsend
  split
  · exact .refl _
  · split
    · exact State.queueFrame_group _ _ _
    · exact .refl _

theorem State.flood_group (s : State) (f : ZlkData) (except_ : Option Nat) : s.group.SameButLinks (s.flood f except_).group := by
  unfold State.flood
  generalize s.group.linksUsed.map s.group.physical = l
  induction l generalizing s with
  | nil => exact .refl _
  | cons x l ih =>
    refine .trans ?_ (ih _)
    dsimp only
    split
    · exact .refl _
    · exact State.queueFrame_group _ _ _

theorem State.gcast_group (s : State) (chan : Nat) (m : GroupMsg) : s.group.SameButLinks (s.gcast chan m).group := by
  unfold State.gcast
  split
  · exact .refl _
  · exact .trans ⟨_, _, rfl⟩ (State.flood_group _ _ _)

/-! ### Requests that are accepted -/

/-- A command with room for an operation answers ACCEPTED. -/
theorem State.accept_of_room {t : State} (h : t.acceptFail = none) (c : Ctx) (kind : OpKind) (resp : Bytes) (k : Nat → State → State) :
    t.accept c kind resp k = (k t.host.nextOp (t.started c kind), ⟨.accepted, resp, none⟩) := by
  simp only [State.accept, h]
  rfl

/-- A running request acts: what holds once it is completed and delivery is settled is what runs. -/
theorem runs_finished {spec : CommandSpec} {i : Instr} {m dt : Nat} {s : State} {e : ExecReq} {c : Ctx} {t : State} {p : Bytes}
    (hi : exec i s = s.act dt (·.runMbx spec m)) (h : Running spec m dt s e c t p) {u : State} {r : Reply} (hb : spec.body c t = (u, r))
    {P : State → Prop} (hp : P (u.finish c e.orphan r).settle) : Runs i s P :=
  runs_act hi (by rw [running_runMbx h, hb]) hp

/-! ### Emissions that stop (R514) -/

theorem Map.find_mapVal {α : Type} (m : Map α) (f : Nat → α → α) (k : Nat) : Map.find (Map.mapVal m f) k = (Map.find m k).map (f k) := by
  induction m with
  | nil => rfl
  | cons e m ih =>
    obtain ⟨j, v⟩ := e
    rw [Map.find_cons, show Map.mapVal ((j, v) :: m) f = (j, f j v) :: Map.mapVal m f from rfl, Map.find_cons, ih]
    split
    · next h => rw [h]; rfl
    · rfl

/-- No sACN packet waits for an Ethernet port once the emissions have stopped. -/
theorem State.stopEmissions_runQueue (s : State) (q : Nat) : (s.stopEmissions.port q).runQueue = [] := by
  unfold State.stopEmissions State.port
  dsimp only
  rw [Map.getD, Map.find_mapVal]
  cases Map.find _ q <;> rfl

/-- A PWM output is inactive, and nothing waits for it. -/
def PwmDyn.cut (d : PwmDyn) : Prop := d.running = false ∧ d.loads = []

theorem State.cutPwm_pwmOut (s : State) (j k : Nat) (d : PwmDyn) :
    (s.cutPwm j d).pwmOut k = if k = j then { d with value := none, loads := [], running := false } else s.pwmOut k := by
  have hset : (s.setPwm j { d with value := none, loads := [], running := false }).pwmOut k
      = if k = j then { d with value := none, loads := [], running := false } else s.pwmOut k := Map.getD_put _ _ _ _ _
  unfold State.cutPwm
  dsimp only
  split <;> exact hset

theorem State.cutPwms_cut (l : List (Nat × PwmDyn)) (s : State) (k : Nat) (h : (s.pwmOut k).cut ∨ ∃ e ∈ l, e.1 = k) :
    ((l.foldl (fun s e => s.cutPwm e.1 e.2) s).pwmOut k).cut := by
  induction l generalizing s with
  | nil => simpa using h
  | cons x l ih =>
    refine ih _ ?_
    rw [State.cutPwm_pwmOut]
    by_cases hk : k = x.1
    · rw [if_pos hk]
      exact .inl ⟨rfl, rfl⟩
    · rw [if_neg hk]
      rcases h with h | ⟨e, he, rfl⟩
      · exact .inl h
      · exact .inr ⟨e, (List.mem_cons.mp he).resolve_left fun hx => hk (by rw [hx]), rfl⟩

/-- Every PWM output is inactive once the emissions have stopped. -/
theorem State.stopEmissions_pwmOut (s : State) (k : Nat) : (s.stopEmissions.pwmOut k).cut := by
  have hall : ∀ u : State, ((u.ports.pwm.foldl (fun s e => s.cutPwm e.1 e.2) u).pwmOut k).cut := by
    intro u
    refine State.cutPwms_cut _ u k ?_
    cases hfind : Map.find u.ports.pwm k with
    | none => exact .inl (by rw [State.pwmOut, Map.getD, hfind]; exact ⟨rfl, rfl⟩)
    | some d => exact .inr ⟨_, Map.mem_of_find hfind, rfl⟩
  exact hall _

/-! ### Takeovers (R515) -/

/-- The group after TANGO_PEER_ACT went low. -/
def GroupState.peerLow (g : GroupState) (now : Nat) : GroupState := { g with peerAct := false, peerLowAt := some now }

/-- The group of a standby that takes over, until its latch point. -/
def GroupState.takingOver (g : GroupState) (low : Bool) (n : Nat) : GroupState :=
  { g with yieldTakeover := low, takeover := some (n, false) }

/-- The device becomes active: its group but for what is sent to it. -/
theorem State.becomeActive_group (s : State) (m : Nat) (commanded : Bool) : ∃ coord,
    ({ s.group with role := .active, actPin := !s.group.peerAct, lastTakeover := m, takeover := none, coord := coord } : GroupState).SameButLinks
      (s.becomeActive m commanded).group := by
  unfold State.becomeActive
  dsimp only
  rw [State.raiseIf_group]
  generalize (if s.group.coord == some s.group.partner then some s.group.me else s.group.coord) = coord
  refine ⟨coord, ?_⟩
  split
  · exact State.gcast_group _ _ _
  · exact .refl _

theorem State.becomeActive_count (s : State) (m : Nat) : ((s.becomeActive m false).icu.src 0xB6).count = (s.icu.src 0xB6).count + 1 := by
  unfold State.becomeActive
  rw [Bool.not_false, State.raiseIf, if_pos rfl, State.raise_src_self (by decide), IcuSource.edge_count]
  generalize (if s.group.coord == some s.group.partner then some s.group.me else s.group.coord) = coord
  split
  · rw [(State.gcast_frame _ _ _).2.2.2.2.1]
  · rfl

section
variable {s : State}

theorem State.peerActLow_of_alone (h : s.group.paired = false) : s.peerActLow = s := by simp [State.peerActLow, h]

theorem State.peerActLow_of_standby (hpair : s.group.paired = true) (hrole : s.group.role = .standby) : s.peerActLow
    = if s.group.takeover.elim true (·.2) then (s.setGroup (s.group.peerLow s.now)).takeOver else s.setGroup (s.group.peerLow s.now) := by
  have hwaits : (s.group.takeover.elim false fun t => !t.2) = !s.group.takeover.elim true (·.2) := by cases s.group.takeover <;> rfl
  unfold State.peerActLow
  rw [if_neg (by simp [hpair])]
  simp only [State.setGroup, hrole, hwaits, GroupState.peerLow]
  cases s.group.takeover.elim true (·.2) <;> rfl

theorem State.peerActLow_of_active (hpair : s.group.paired = true) (hrole : s.group.role = .active) :
    s.peerActLow = s.setGroup { s.group.peerLow s.now with actPin := true } := by
  unfold State.peerActLow
  rw [if_neg (by simp [hpair])]
  simp only [State.setGroup, hrole, GroupState.peerLow]

theorem State.peerActLow_of_other (hpair : s.group.paired = true)
    (hrole : s.group.role = .suspect ∨ s.group.role = .resync ∨ s.group.role = .detached) :
    s.peerActLow = (s.setGroup (s.group.peerLow s.now)).raise 0xB1 := by
  unfold State.peerActLow
  rw [if_neg (by simp [hpair])]
  rcases hrole with hrole | hrole | hrole <;> simp only [State.setGroup, hrole, GroupState.peerLow]

theorem State.takeOver_of_run (hrun : s.clock.run = true) : ∃ low, s.takeOver = s.setGroup (s.group.takingOver low s.takeoverFrame) :=
  ⟨_, if_pos hrun⟩

theorem State.takeOver_of_stopped (hstop : s.clock.run = false) :
    ∃ low, s.takeOver = (s.setGroup (s.group.takingOver low s.takeoverFrame)).becomeActive s.host.devFrame false :=
  ⟨_, if_neg (by simp [hstop])⟩

end

/-! ### Hand-overs (R519, R526) -/

/-- A TANGO_SWITCH is logged, and the hand-over of operation `id` to the partner at L(m) begins. -/
def State.switch (s : State) (c : Ctx) (m id : Nat) : State :=
  let s := s.audit 0x0050 c.session c.role 1 (bytesLE 2 0x0D20 ++ slice c.payload 0 16)
  (s.setGroup { s.group with takeover := some (m, true), switchOp := some id }).gsend s.group.partner 1 (.switch_ m)

theorem State.switch_group (s : State) (c : Ctx) (m id : Nat) :
    ({ s.group with takeover := some (m, true), switchOp := some id } : GroupState).SameButLinks (s.switch c m id).group := by
  have h := State.gsend_group ((s.audit 0x0050 c.session c.role 1 (bytesLE 2 0x0D20 ++ slice c.payload 0 16)).setGroup
    { s.group with takeover := some (m, true), switchOp := some id }) s.group.partner 1 (.switch_ m)
  simpa [State.switch, State.setGroup] using h

theorem State.switch_secure (s : State) (c : Ctx) (m id : Nat) : (s.switch c m id).secure.auditNext = s.secure.auditNext + 1 := by
  rw [← s.audit_next 0x0050 c.session c.role 1 (bytesLE 2 0x0D20 ++ slice c.payload 0 16)]
  simp [State.switch, State.setGroup]

/-- The device may hand over: it is active with a ready partner, its show clock runs, and no hand-over is in progress. -/
def State.maySwitch (t : State) : Bool :=
  !(t.group.role != .active || !t.group.partnerReady || t.group.takeover.isSome || !t.clock.run)

theorem tangoSwitchSpec_body {c : Ctx} {t : State} (hfull : t.auditFull = false) : tangoSwitchSpec.body c t =
    if t.maySwitch then (t.switchTarget (fld c.payload 0 1) (fld c.payload 8 8) c.db).elim (t.fail .late) fun m =>
      t.accept c (.job [m] []) [] fun id s => s.switch c m id
    else t.fail .conflict := by
  have hrefused : (t.group.role != .active || !t.group.partnerReady || t.group.takeover.isSome || !t.clock.run) = !t.maySwitch :=
    (Bool.not_not _).symm
  simp only [tangoSwitchSpec, hfull, Bool.false_eq_true, if_false, hrefused]
  cases t.maySwitch
  · rfl
  · cases t.switchTarget (fld c.payload 0 1) (fld c.payload 8 8) c.db <;> rfl

/-! ### Yields (R513, R514) -/

section
variable {s : State}

/-- A fault of R513 is noted for the self-checks. -/
def GroupState.faultNoted (g : GroupState) (cause n : Nat) : GroupState :=
  { g with criticalPoison := if cause = 2 then some n else g.criticalPoison, pllLoss := if cause = 3 then some n else g.pllLoss }

/-- The fault of R513 is noted for the self-checks, and the device yields. -/
theorem State.tangoYield_of_paired {cause : Nat} (hpair : s.group.paired = true) (hlo : 1 ≤ cause) (hhi : cause ≤ 3) :
    s.tangoYield cause = (s.setGroup (s.group.faultNoted cause s.host.devFrame)).yieldFor cause := by
  unfold State.tangoYield
  rw [if_neg (by simp [hpair]; omega)]
  obtain rfl | rfl | rfl : cause = 1 ∨ cause = 2 ∨ cause = 3 := by omega
  all_goals rfl

/-- The net went low at `x`, and has been low for longer than `d`. -/
theorem GroupState.lowFor {g : GroupState} {x d now : Nat} (hlow : g.yieldLowAt = some x) (hlong : x + d < now) :
    (g.yieldLowAt.elim false fun t => decide (t + d < now)) = true := by
  rw [hlow]
  exact decide_eq_true hlong

theorem GroupState.lowFor_le {g : GroupState} {x d now : Nat} (hlow : g.yieldLowAt = some x) (hlong : x + d ≤ now) :
    (g.yieldLowAt.elim false fun t => decide (t + d ≤ now)) = true := by
  rw [hlow]
  exact decide_eq_true hlong

theorem GroupState.not_lowFor {g : GroupState} {x d now : Nat} (hlow : g.yieldLowAt = some x) (hshort : now < x + d) :
    ¬ (g.yieldLowAt.elim true fun t => decide (t + d ≤ now)) = true := by
  rw [hlow]
  simpa using hshort

/-- The net has been low for 10 µs, and the partner is still active. -/
theorem State.yieldNetLow_of_warning {x : Nat} (hpair : s.group.paired = true) (hstuck : s.group.yieldStuck = false)
    (hlow : s.group.yieldLowAt = some x) (hlong : x + 10 * cycUs ≤ s.now) (hshort : s.now < x + 2 * cycMs) (hact : s.group.peerAct = true)
    (hwarn : s.group.netWarned = false) : s.yieldNetLow = (s.setGroup { s.group with netWarned := true }).raise 0xB1 :=
  (if_neg (by simp [hpair, hstuck])).trans ((if_neg (GroupState.not_lowFor hlow hshort)).trans
    (if_pos (by rw [hact, hwarn, GroupState.lowFor_le hlow hlong]; rfl)))

/-- The net has been low for more than 2 ms. -/
theorem State.yieldNetStuck_of_long {x : Nat} (hpair : s.group.paired = true) (hstuck : s.group.yieldStuck = false)
    (hlow : s.group.yieldLowAt = some x) (hlong : x + 2 * cycMs < s.now) :
    s.yieldNetStuck = (s.setGroup { s.group with yieldStuck := true }).raise 0xB1 :=
  if_pos (by rw [hpair, hstuck, GroupState.lowFor hlow hlong]; rfl)

theorem State.settle_pwmOut (s : State) (k : Nat) : s.settle.pwmOut k = s.pwmOut k := by rw [State.pwmOut, State.settle_ports, State.pwmOut]

theorem State.yieldFor_stopped (h : s.group.role = .active) (cause k : Nat) :
    ((s.yieldFor cause).port k).runQueue = [] ∧ ((s.yieldFor cause).pwmOut k).cut := by
  rw [State.yieldFor_of_active h]
  exact ⟨State.stopEmissions_runQueue _ k, State.stopEmissions_pwmOut _ k⟩

end

/-! ### Detached standbys (R515) -/

/-- A standby whose show runs is detached once 16 frames have latched without a sealed record. -/
theorem State.detachDue_iff (s : State) : ((decide (s.group.role = .standby) && s.clock.run
      && decide (max s.group.sealFrom (s.group.lastSeal.elim 0 (· + 1)) + 16 ≤ s.clock.nextLatch)) = true)
    ↔ s.group.role = .standby ∧ s.clock.run = true ∧ s.group.sealFrom + 16 ≤ s.clock.nextLatch
      ∧ ∀ n, s.group.lastSeal = some n → n + 17 ≤ s.clock.nextLatch := by
  cases s.group.lastSeal with
  | none => simp [and_assoc]
  | some n =>
    have hmax : max s.group.sealFrom (n + 1) + 16 ≤ s.clock.nextLatch ↔ s.group.sealFrom + 16 ≤ s.clock.nextLatch ∧ n + 17 ≤ s.clock.nextLatch := by
      omega
    simp [and_assoc, hmax]

/-- Settles O56: each input, by the role and the pins that it finds, is its operation on the group; a yield also stops the emissions. -/
theorem tangoPairs : Obligations.TangoPairs := by
  refine ⟨fun dt s hpair hrole hwait hrun => ?low, fun dt s hpair hrole hwait hstop => ?lowStopped, fun dt n s hpair hrole hwait => ?lowWaits,
    fun dt s hpair hrole => ?lowActive, fun dt s hpair hrole => ?lowOther, fun dt s hpair => ?lowAlone,
    fun dt cause s hpair hlo hhi hrole => ?yield, fun dt cause s hpair hlo hhi hrole => ?noted, fun dt cause s hno => ?unnoted,
    fun dt s hpull hend => ?pulseEnd, fun dt s hno => ?pulseNone, fun dt s hpair hstuck hlow => ?netLow,
    fun dt x s hpair hstuck hlow hlong hshort hact hwarn => ?netWarns, fun dt s hno => ?netNone, fun dt x s hpair hstuck hlow hlong => ?netStuck,
    fun dt s hno => ?netFree, fun dt s => next_settle_congr rfl, fun dt s hrole hrun hfrom hseal => ?detach, fun dt s hno => ?attached,
    fun dt m s t e c p k h hfull hrole hready hidle hrun htarget haccept => ?switch, fun dt m s t e c p h hfull hno => ?switchConflict,
    fun dt m s t e c p h hfull hrole hready hidle hrun htarget => ?switchLate⟩
  case low =>
    obtain ⟨low, htake⟩ := State.takeOver_of_run (s := (s.tick dt).setGroup (s.group.peerLow (s.tick dt).now)) hrun
    refine runs_act rfl ((State.peerActLow_of_standby (s := s.tick dt) hpair hrole).trans ((if_pos hwait).trans htake)) ?_
    simp only [State.settle_group, State.settle_render, State.settle_txn, State.settle_mem, State.settle_clock]
    exact ⟨hrole, rfl, rfl, rfl, rfl, rfl, rfl, rfl, rfl⟩
  case lowStopped =>
    obtain ⟨low, htake⟩ := State.takeOver_of_stopped (s := (s.tick dt).setGroup (s.group.peerLow (s.tick dt).now)) hstop
    generalize hu : ((s.tick dt).setGroup (s.group.peerLow (s.tick dt).now)).setGroup _ = u at htake
    obtain ⟨coord, links, n, hgroup⟩ := u.becomeActive_group s.host.devFrame false
    refine runs_act (exec_tangoPeerActLow dt s) ((State.peerActLow_of_standby (s := s.tick dt) hpair hrole).trans ((if_pos hwait).trans htake)) ?_
    rw [show ((s.tick dt).setGroup (s.group.peerLow (s.tick dt).now)).host = s.host from rfl, State.settle_group, hgroup, State.settle_src_count _ _ (by decide), State.becomeActive_count, State.settle_txn, State.settle_mem,
      State.settle_clock]
    simp [State.becomeActive_frame, ← hu, State.setGroup, GroupState.peerLow, GroupState.takingOver]
  case lowWaits =>
    exact next_settle_congr ((State.peerActLow_of_standby (s := s.tick dt) hpair hrole).trans (if_neg (by simp [hwait])))
  case lowActive => exact next_settle_congr (State.peerActLow_of_active (s := s.tick dt) hpair hrole)
  case lowOther => exact next_settle_congr (State.peerActLow_of_other (s := s.tick dt) hpair hrole)
  case lowAlone => exact next_settle_congr (State.peerActLow_of_alone (s := s.tick dt) hpair)
  case yield =>
    have hyield := State.tangoYield_of_paired (s := s.tick dt) hpair hlo hhi
    generalize hu : (s.tick dt).setGroup _ = u at hyield
    have hactive : u.group.role = .active := by rw [← hu]; exact hrole
    refine runs_act (exec_tangoYield dt cause s) hyield ?_
    have hstop := State.yieldFor_stopped hactive cause
    simp only [State.settle_group, State.settle_txn, State.settle_mem, State.settle_clock, State.settle_port, State.settle_pwmOut]
    rw [State.yieldFor_group hactive, State.settle_src_count _ _ (by decide), State.yieldFor_count hactive]
    simp only [State.yieldFor_frame]
    subst hu
    exact ⟨rfl, rfl, rfl, rfl, rfl, rfl, rfl, rfl, fun q => (hstop q).1, fun j => (hstop j).2, rfl, rfl, rfl⟩
  case noted =>
    exact next_settle_congr ((State.tangoYield_of_paired (s := s.tick dt) hpair hlo hhi).trans 
      (State.yieldFor_of_not_active (s := (s.tick dt).setGroup (s.group.faultNoted cause s.host.devFrame)) hrole cause))
  case unnoted =>
    refine next_settle_congr (if_pos ?_)
    rcases hno with hno | hno | hno <;> simp [hno]
  case pulseEnd => exact next_settle_congr (if_pos (by simpa [hpull] using hend))
  case pulseNone =>
    refine next_settle_congr (if_neg ?_)
    rcases hno with hno | hno
    · simp [hno]
    · simpa using fun _ => hno
  case netLow =>
    refine runs_act rfl ((if_neg (by simp [hpair, hstuck])).trans (if_pos (by simp [hlow]))) ?_
    simp only [State.settle_group, State.settle_render, State.settle_txn, State.settle_mem, State.settle_clock]
    exact ⟨rfl, rfl, rfl, rfl, rfl, rfl, rfl, rfl⟩
  case netWarns =>
    exact next_settle_congr (State.yieldNetLow_of_warning (s := s.tick dt) hpair hstuck hlow hlong hshort hact hwarn)
  case netNone =>
    refine next_settle_congr (if_pos ?_)
    rcases hno with hno | hno <;> simp [hno]
  case netStuck => exact next_settle_congr (State.yieldNetStuck_of_long (s := s.tick dt) hpair hstuck hlow hlong)
  case netFree =>
    refine next_settle_congr (if_neg ?_)
    rcases hno with hno | hno | hno <;> simp [hno]
  case detach => exact next_settle_congr (if_pos ((s.tick dt).detachDue_iff.mpr ⟨hrole, hrun, hfrom, hseal⟩))
  case attached =>
    refine next_settle_congr (if_neg fun hdue => ?_)
    obtain ⟨hrole, hrun, hfrom, hseal⟩ := (s.tick dt).detachDue_iff.mp hdue
    rcases hno with hno | hno | hno | ⟨n, hn, hlast⟩
    · exact hno hrole
    · exact Bool.false_ne_true (hno.symm.trans hrun)
    · exact Nat.not_lt.mpr hfrom hno
    · exact Nat.not_lt.mpr (hseal n hn) hlast
  case switch =>
    obtain ⟨-, -, -, rfl⟩ := running_state h
    have hbody := tangoSwitchSpec_body (c := c) hfull
    rw [if_pos (by simp [State.maySwitch, hrole, hready, hidle, hrun]), htarget, Option.elim_some, State.accept_of_room haccept] at hbody
    obtain ⟨links, n, hgroup⟩ := (t.started c (.job [k] [])).switch_group c k t.host.nextOp
    refine runs_finished (exec_tangoSwitch dt m s) h hbody ?_
    simp only [State.settle_group, State.settle_host, State.settle_secure, State.settle_clock, State.settle_txn, State.finish_frame,
      State.finish_ops, hgroup, State.switch_secure]
    simp [State.switch, State.setGroup, State.started, hrole]
  case switchConflict =>
    obtain ⟨-, -, -, rfl⟩ := running_state h
    refine running_act h ((tangoSwitchSpec_body hfull).trans (if_neg ?_))
    rcases hno with hno | hno | hno | hno <;> simp [State.maySwitch, hno]
  case switchLate =>
    obtain ⟨-, -, -, rfl⟩ := running_state h
    refine running_act h ((tangoSwitchSpec_body hfull).trans ((if_pos ?_).trans ?_))
    · simp [State.maySwitch, hrole, hready, hidle, hrun]
    · rw [htarget]
      rfl

end Sys2Proof.Machine
end

section
/-!
PROOFS. Digest comparisons, loopback tests and the commands of the group (spec/17_quadrille_and_tango.md, R494, R517 to R526).
-/

namespace Sys2Proof.Machine

/-! ### Digest comparisons and self-checks (R517, R518) -/

section
variable {s : State} {n : Nat}

theorem State.digestTimeout_of_late {e : Nat × DigestRun}
    (h : s.group.runs.find? (fun e => !e.2.mismatch && (e.2.own.isNone || e.2.peer.isNone) && e.1 + 4 ≤ s.host.devFrame) = some e) :
    s.digestTimeout = { s with group := { s.group with uncompared := s.group.uncompared + 1, runs := s.group.runs.del e.1 } } := by
  unfold State.digestTimeout
  rw [h]
  rfl

theorem State.digestTimeout_of_none
    (h : s.group.runs.find? (fun e => !e.2.mismatch && (e.2.own.isNone || e.2.peer.isNone) && e.1 + 4 ≤ s.host.devFrame) = none) :
    s.digestTimeout = s := by
  unfold State.digestTimeout
  rw [h]

/-- A fault noted for frame `x` lies in the eight frames before frame `n`, or after it. -/
def recentFault (n : Nat) (x : Option Nat) : Bool := x.elim false (n ≤ · + 8)

/-- The report of the self-check of frame `n` (R518). -/
def State.checkPasses (s : State) (n : Nat) (same : Bool) : Bool :=
  same && !recentFault n s.group.criticalPoison && !recentFault n s.group.pllLoss

theorem State.selfCheckDone_of_due (hdiffer : (s.group.runs.getD n {}).mismatch = true) (hopen : (s.group.runs.getD n {}).ownPass = none)
    (same : Bool) : s.selfCheckDone n same = (s.setRun n { s.group.runs.getD n {} with ownPass := some (s.checkPasses n same) }).gsend
      s.group.partner 2 (.selfCheck n (s.checkPasses n same)) :=
  if_neg (by simp [hdiffer, hopen])

/-- The report of a self-check stands with its frame. -/
theorem runs_selfCheckDone {dt : Nat} {same pass : Bool} (hdiffer : (s.group.runs.getD n {}).mismatch = true)
    (hopen : (s.group.runs.getD n {}).ownPass = none) (hpass : s.checkPasses n same = pass) :
    Runs (.selfCheckDone dt n same) s fun t => t.group.runs.getD n {} = { s.group.runs.getD n {} with ownPass := some pass }
      ∧ t.clock = s.clock ∧ t.txn = s.txn ∧ t.mem = s.mem ∧ t.render = s.render := by
  refine runs_act (exec_selfCheckDone dt n same s) (State.selfCheckDone_of_due (s := s.tick dt) hdiffer hopen same) ?_
  obtain ⟨links, k, hgroup⟩ := State.gsend_group ((s.tick dt).setRun n { s.group.runs.getD n {} with ownPass := some (s.checkPasses n same) })
    s.group.partner 2 (.selfCheck n (s.checkPasses n same))
  simp only [State.settle_group, State.settle_clock, State.settle_txn, State.settle_mem, State.settle_render, State.gsend_frame]
  refine ⟨(congrArg (fun g : GroupState => g.runs.getD n {}) hgroup).trans ?_, rfl, rfl, rfl, rfl⟩
  rw [← hpass]
  exact Map.getD_put_self _ _ _ _

theorem State.mismatchOutcome_of_open
    (h : (s.group.runs.getD n {}).mismatch = false
      ∨ (((s.group.runs.getD n {}).ownPass = none ∨ (s.group.runs.getD n {}).peerPass = none) ∧ s.host.devFrame < n + 4)) :
    s.mismatchOutcome n = s := by
  refine if_pos ?_
  rcases h with h | ⟨h | h, hearly⟩ <;> simp [*]

/-- With both reports, the device acts on what the self-checks of frame `n` gave. -/
theorem State.mismatchOutcome_of_reports {own peer : Bool} (hdiffer : (s.group.runs.getD n {}).mismatch = true)
    (hown : (s.group.runs.getD n {}).ownPass = some own) (hpeer : (s.group.runs.getD n {}).peerPass = some peer) :
    s.mismatchOutcome n = match s.group.role with
      | .active => if !own && peer then (s.endRun n).yieldFor 4 else (s.endRun n).setGroup { (s.endRun n).group with peerSuspect := true }
      | .standby => if own && !peer then s.endRun n else (s.endRun n).becomeSuspect
      | _ => s.endRun n := by
  unfold State.mismatchOutcome
  rw [if_neg (by simp [hdiffer, hown, hpeer]), hown, hpeer]
  rfl

end

/-! ### Loopback tests (R521) -/

/-- A loopback test of lane `l` awaits its echo: the lane is ENABLED and up, and has a back-channel. -/
def State.echoesLane (s : State) (l : Nat) : Bool := s.enabled 3 l && (s.lane l).link == .up && (s.lane l).phy.backchannel

theorem State.testLane_group (s : State) (l : Nat) :
    (s.testLane l).group = { s.group with echoes := s.group.echoes ++ if s.echoesLane l then [l] else [] } := by
  have hskip : (!s.enabled 3 l || (s.lane l).link != .up || !(s.lane l).phy.backchannel) = !s.echoesLane l := by
    rw [State.echoesLane, Bool.not_and, Bool.not_and]
    rfl
  simp only [State.testLane, hskip]
  cases s.echoesLane l
  · simp
  · rfl

theorem State.testLane_lane {k l : Nat} (h : k ≠ l) (s : State) : (s.testLane l).lane k = s.lane k := by
  have hset : ∀ d : LaneDyn, (s.setLane l d).lane k = s.lane k := fun d => by
    rw [State.lane, State.setLane_ports, Map.getD_put, if_neg h]
    rfl
  unfold State.testLane
  dsimp only
  split
  · rfl
  · exact hset _

theorem State.testLane_echoesLane {k l : Nat} (h : k ≠ l) (s : State) : (s.testLane l).echoesLane k = s.echoesLane k := by
  rw [State.echoesLane, State.testLane_lane h, State.enabled, State.fn, (State.testLane_frame s l).2.2.2.2.2.2.2.2.2.1]
  rfl

theorem State.testLanes_group {ls : List Nat} (hls : ls.Nodup) (s : State) :
    (ls.foldl State.testLane s).group = { s.group with echoes := s.group.echoes ++ ls.filter s.echoesLane } := by
  induction ls generalizing s with
  | nil => simp
  | cons l ls ih =>
    obtain ⟨hl, hls⟩ := List.nodup_cons.mp hls
    have hrest : ls.filter (s.testLane l).echoesLane = ls.filter s.echoesLane :=
      List.filter_congr fun k hk => State.testLane_echoesLane (fun (e : k = l) => hl (e ▸ hk)) s
    rw [List.foldl_cons, ih hls, hrest, State.testLane_group, List.filter_cons]
    cases s.echoesLane l <;> simp

theorem State.testLane_ports (s : State) (l : Nat) : (s.testLane l).ports.dmx = s.ports.dmx ∧ (s.testLane l).ports.pwm = s.ports.pwm := by
  unfold State.testLane
  dsimp only
  split <;> exact ⟨rfl, rfl⟩

/-- Failed read-backs are counted, and the last one is named. -/
theorem State.loopFails_group (f : Nat → Nat) (ls : List Nat) (s : State) : ∃ port,
    (ls.foldl (fun s j => s.loopFail (f j)) s).group
      = { s.group with loopFails := s.group.loopFails + BitVec.ofNat 32 ls.length, loopPort := port } := by
  induction ls generalizing s with
  | nil => exact ⟨s.group.loopPort, by simp⟩
  | cons j ls ih =>
    obtain ⟨port, h⟩ := ih (s.loopFail (f j))
    refine ⟨port, h.trans ?_⟩
    have hcount : s.group.loopFails + 1 + BitVec.ofNat 32 ls.length = s.group.loopFails + BitVec.ofNat 32 (ls.length + 1) := by
      rw [BitVec.ofNat_add, BitVec.add_assoc, BitVec.add_comm 1]
      rfl
    simp only [State.loopFail, State.setGroup, State.raise_group, List.length_cons, hcount]

theorem State.testPort_keeps (s : State) (p : Nat) : (s.testPort p).render = s.render ∧ (s.testPort p).ports = s.ports := by
  unfold State.testPort
  dsimp only
  split
  · exact ⟨rfl, rfl⟩
  · simp [State.setGroup, State.queueOther, State.setPort]

theorem State.testPort_group (s : State) (p : Nat) : ∃ es, (∀ e ∈ es, 192 ≤ e) ∧
    (s.testPort p).group = { s.group with echoes := s.group.echoes ++ es } := by
  unfold State.testPort
  dsimp only
  split
  · exact ⟨[], by simp, by simp⟩
  · exact ⟨[192 + p], by simp, by simp [State.setGroup]⟩

theorem State.testPorts_group (ps : List Nat) (s : State) : ∃ es, (∀ e ∈ es, 192 ≤ e) ∧
    (ps.foldl State.testPort s).group = { s.group with echoes := s.group.echoes ++ es } := by
  induction ps generalizing s with
  | nil => exact ⟨[], by simp, by simp⟩
  | cons p ps ih =>
    obtain ⟨es, hes, h⟩ := s.testPort_group p
    obtain ⟨fs, hfs, h'⟩ := ih (s.testPort p)
    refine ⟨es ++ fs, fun e he => (List.mem_append.mp he).elim (hes e) (hfs e), ?_⟩
    rw [List.foldl_cons, h', h, List.append_assoc]

section
variable {s : State} {badDmx badPwm : List Nat}

theorem State.enabled_congr {s t : State} (h : s.fns = t.fns) (cls inst : Nat) : s.enabled cls inst = t.enabled cls inst := by
  rw [State.enabled, State.fn, h]
  rfl

/-- A loopback test is due, or the device is no standby. -/
theorem State.loopbackTest_of_due (hrole : s.group.role = .standby) (hdue : ¬ s.now < s.group.loopAt + s.group.loopbackS * cycSec) :
    s.loopbackTest badDmx badPwm =
      (let u := (List.range 64).foldl State.testLane (s.setGroup { s.group with loopAt := s.now, echoes := [] })
      let v := ((List.range 16).filter fun j => u.enabled 4 j && badDmx.contains j).foldl (fun s j => s.loopFail (64 + j)) u
      let w := ((List.range 32).filter fun j => v.enabled 5 j && badPwm.contains j).foldl (fun s j => s.loopFail (128 + j)) v
      (List.range 4).foldl State.testPort w) :=
  if_neg (by rw [hrole, decide_eq_false hdue]; exact Bool.false_ne_true)

theorem State.loopbackTest_of_not_due (h : s.group.role ≠ .standby ∨ s.now < s.group.loopAt + s.group.loopbackS * cycSec) :
    s.loopbackTest badDmx badPwm = s := by
  refine if_pos ?_
  rcases h with h | h
  · rw [bne_iff_ne.mpr h, Bool.true_or]
  · rw [decide_eq_true h, Bool.or_true]

theorem State.loopbackTest_keeps (s : State) : (s.loopbackTest badDmx badPwm).render = s.render
    ∧ (s.loopbackTest badDmx badPwm).ports.dmx = s.ports.dmx ∧ (s.loopbackTest badDmx badPwm).ports.pwm = s.ports.pwm := by
  have hlanes : ∀ (u : State) (l : List Nat), (l.foldl State.testLane u).render = u.render
      ∧ (l.foldl State.testLane u).ports.dmx = u.ports.dmx ∧ (l.foldl State.testLane u).ports.pwm = u.ports.pwm := fun u l =>
    ⟨State.foldl_keeps (g := State.render) (by simp) l u, State.foldl_keeps (g := fun s => s.ports.dmx) (fun s k => (s.testLane_ports k).1) l u,
      State.foldl_keeps (g := fun s => s.ports.pwm) (fun s k => (s.testLane_ports k).2) l u⟩
  have hports : ∀ (u : State) (l : List Nat), (l.foldl State.testPort u).render = u.render ∧ (l.foldl State.testPort u).ports = u.ports :=
    fun u l => ⟨State.foldl_keeps (g := State.render) (fun s k => (s.testPort_keeps k).1) l u,
      State.foldl_keeps (g := State.ports) (fun s k => (s.testPort_keeps k).2) l u⟩
  have hfails : ∀ (u : State) (f : Nat → Nat) (l : List Nat), (l.foldl (fun s j => s.loopFail (f j)) u).render = u.render
      ∧ (l.foldl (fun s j => s.loopFail (f j)) u).ports = u.ports :=
    fun u f l => ⟨State.foldl_keeps (g := State.render) (by simp) l u, State.foldl_keeps (g := State.ports) (by simp) l u⟩
  unfold State.loopbackTest
  split
  · exact ⟨rfl, rfl, rfl⟩
  · dsimp only
    rw [(hports _ _).1, (hports _ _).2, (hfails _ _ _).1, (hfails _ _ _).2, (hfails _ _ _).1, (hfails _ _ _).2, (hlanes _ _).1,
      (hlanes _ _).2.1, (hlanes _ _).2.2]
    exact ⟨rfl, rfl, rfl⟩

/-- The time in which the echo of an output returns (R521). -/
def echoLimit (output : Nat) : Nat := if output < 64 then 100 * cycUs else 4 * cycMs

theorem State.loopbackTimeout_of_late {output : Nat} (hwaits : s.group.echoes.contains output = true)
    (hlate : ¬ s.now < s.group.loopAt + echoLimit output) : s.loopbackTimeout output
      = (s.setGroup { s.group with echoes := s.group.echoes.filter (· != output) }).loopFail output :=
  if_neg (by rw [hwaits, Bool.not_true, Bool.false_or]; exact fun h => hlate (of_decide_eq_true h))

theorem State.loopbackTimeout_of_not {output : Nat} (h : s.group.echoes.contains output = false ∨ s.now < s.group.loopAt + echoLimit output) :
    s.loopbackTimeout output = s := by
  refine if_pos (Bool.or_eq_true_iff.mpr ?_)
  rcases h with h | h
  · exact .inl (by rw [h]; rfl)
  · exact .inr (decide_eq_true h)

/-- The group once the outputs are tested. -/
theorem State.loopbackTest_group (hrole : s.group.role = .standby) (hdue : ¬ s.now < s.group.loopAt + s.group.loopbackS * cycSec) :
    ∃ port es, (∀ e ∈ es, 192 ≤ e) ∧ (s.loopbackTest badDmx badPwm).group = { s.group with
      loopAt := s.now, echoes := (List.range 64).filter s.echoesLane ++ es, loopPort := port
      loopFails := s.group.loopFails + BitVec.ofNat 32 (((List.range 16).filter fun j => s.enabled 4 j && badDmx.contains j).length
        + ((List.range 32).filter fun j => s.enabled 5 j && badPwm.contains j).length) } := by
  rw [State.loopbackTest_of_due hrole hdue]
  dsimp only
  have hlanes := State.testLanes_group (List.nodup_range (n := 64)) (s.setGroup { s.group with loopAt := s.now, echoes := [] })
  have hfns := State.foldl_keeps (g := State.fns) (f := State.testLane) (by simp) (List.range 64)
    (s.setGroup { s.group with loopAt := s.now, echoes := [] })
  generalize (List.range 64).foldl State.testLane (s.setGroup { s.group with loopAt := s.now, echoes := [] }) = u at hlanes hfns ⊢
  have hdmx : ((List.range 16).filter fun j => u.enabled 4 j && badDmx.contains j) = (List.range 16).filter fun j => s.enabled 4 j && badDmx.contains j :=
    List.filter_congr fun j _ => by rw [State.enabled_congr hfns]; rfl
  obtain ⟨_, hdmxs⟩ := State.loopFails_group (64 + ·) ((List.range 16).filter fun j => u.enabled 4 j && badDmx.contains j) u
  have hfns' := State.foldl_keeps (g := State.fns) (f := fun s j => s.loopFail (64 + j)) (by simp)
    ((List.range 16).filter fun j => u.enabled 4 j && badDmx.contains j) u
  generalize ((List.range 16).filter fun j => u.enabled 4 j && badDmx.contains j).foldl (fun s j => s.loopFail (64 + j)) u = v
    at hdmxs hfns' ⊢
  have hpwm : ((List.range 32).filter fun j => v.enabled 5 j && badPwm.contains j) = (List.range 32).filter fun j => s.enabled 5 j && badPwm.contains j :=
    List.filter_congr fun j _ => by rw [State.enabled_congr (hfns'.trans hfns)]; rfl
  obtain ⟨port, hpwms⟩ := State.loopFails_group (128 + ·) ((List.range 32).filter fun j => v.enabled 5 j && badPwm.contains j) v
  obtain ⟨es, hes, hports⟩ := State.testPorts_group (List.range 4)
    (((List.range 32).filter fun j => v.enabled 5 j && badPwm.contains j).foldl (fun s j => s.loopFail (128 + j)) v)
  refine ⟨port, es, hes, hports.trans ?_⟩
  rw [hpwms, hdmxs, hlanes, hdmx, hpwm, BitVec.ofNat_add, ← BitVec.add_assoc]
  rfl

end

/-! ### Group records (R494, R525) -/

theorem length_eraseDups_le : ∀ l : List Nat, l.eraseDups.length ≤ l.length
  | [] => Nat.le_refl 0
  | a :: l => by
    rw [List.eraseDups_cons, List.length_cons, List.length_cons]
    exact Nat.succ_le_succ ((length_eraseDups_le _).trans (List.length_filter_le _ _))
termination_by l => l.length
decreasing_by exact Nat.lt_succ_of_le (List.length_filter_le _ _)

/-- A list loses nothing with its duplicates exactly where it has none. -/
theorem length_eraseDups_eq_iff (l : List Nat) : l.eraseDups.length = l.length ↔ l.Nodup := by
  induction l with
  | nil => simp
  | cons a l ih =>
    have hfilter : l.filter (fun b => !b == a) = l ↔ a ∉ l := by
      rw [List.filter_eq_self]
      constructor
      · intro h ha
        simpa using h a ha
      · intro h b hb
        have : b ≠ a := fun e => h (e ▸ hb)
        simpa using this
    rw [List.eraseDups_cons, List.length_cons, List.length_cons, Nat.succ_inj, List.nodup_cons, ← ih, ← hfilter]
    constructor
    · intro h
      have hle := length_eraseDups_le (l.filter fun b => !b == a)
      have hself : l.filter (fun b => !b == a) = l :=
        List.filter_sublist.eq_of_length (Nat.le_antisymm (List.length_filter_le _ _) (h ▸ hle))
      exact ⟨hself, by rw [hself] at h; exact h⟩
    · rintro ⟨hself, h⟩
      rw [hself, h]

/-- The record of GROUP_CONFIG stands in flash at its end, and is logged. -/
theorem State.groupConfigDone_of_op {s : State} {op : Nat} {o : Op} {l : List Nat} {p : Bytes} (hop : s.op op 0x0D01 = some o)
    (hkind : o.kind = .job l p) : s.groupConfigDone op = ((s.setGroup { s.group with flash := p }).audit 0x0050 o.session
      ((s.setGroup { s.group with flash := p }).roleOf o.session) 0 (bytesLE 2 0x0D01 ++ p.take 16)).endOp o .ok
        (s.setGroup { s.group with flash := p }).pos [] := by
  unfold State.groupConfigDone
  rw [hop]
  dsimp only
  rw [hkind]

theorem State.groupConfigDone_of_none {s : State} {op : Nat} (h : s.op op 0x0D01 = none) : s.groupConfigDone op = s := by
  unfold State.groupConfigDone
  rw [h]

theorem groupUidsOk_iff (p : Bytes) : groupUidsOk p = true ↔ (∀ x ∈ (groupUids p).1, x ≠ 0) ∧ (groupUids p).1.Nodup := by
  simp [groupUidsOk, length_eraseDups_eq_iff]

/-- Settles O55: a comparison by its reports, a loopback test by its stages, a command by its body. -/
theorem digestsLoopbackAndGroupCommands : Obligations.DigestsLoopbackAndGroupCommands := by
  refine ⟨fun dt e s h => next_settle_congr (State.digestTimeout_of_late (s := s.tick dt) h), fun dt s h => ?inTime,
    fun dt frame same s hdiffer hopen hpoison hpll => ?checked, fun dt frame same s hdiffer hopen hfault => ?checkFails,
    fun dt frame same s h => ?unchecked, fun dt frame s hrole hdiffer hown hpeer => ?yields, fun dt frame a b s hrole hdiffer hown hpeer h => ?holds,
    fun dt frame s hrole hdiffer hown hpeer => ?goesOn, fun dt frame a b s hrole hdiffer hown hpeer h => ?suspect,
    fun dt frame s h => next_settle_congr (State.mismatchOutcome_of_open (s := s.tick dt) h), fun dt badDmx badPwm s hrole hdue => ?tests,
    fun dt badDmx badPwm s h => ?untested, fun dt output s hwaits hlate => ?echoLost, fun dt output s h => ?echoWaits,
    fun dt m s t e c p h hfull hok hzero haccept => ?config, fun dt m s t e c p h hfull hbad => ?configBad, groupUidsOk_iff,
    fun dt op o l p s hop hkind => ?configDone, fun dt op s hop => ?configNone, fun dt m s t e c p h => ?status, fun dt m s t e c p h => ?cotillion⟩
  case inTime =>
    refine next_settle_congr (State.digestTimeout_of_none (s := s.tick dt) (List.find?_eq_none.mpr fun e he => ?_))
    rcases h e he with hmis | ⟨hown, hpeer⟩ | hearly
    · simp [hmis]
    · simp [Option.isNone_eq_false_iff.mpr hown, Option.isNone_eq_false_iff.mpr hpeer]
    · simpa using fun _ _ => hearly
  case checked => exact runs_selfCheckDone hdiffer hopen (by simp [State.checkPasses, recentFault, hpoison, hpll])
  case checkFails =>
    refine runs_selfCheckDone hdiffer hopen ?_
    rcases hfault with ⟨n, hn, hle⟩ | ⟨n, hn, hle⟩ <;> simp [State.checkPasses, recentFault, hn, hle]
  case unchecked =>
    refine next_settle_congr (if_pos ?_)
    rcases h with h | h <;> simp [h]
  case yields =>
    have houtcome := State.mismatchOutcome_of_reports (s := s.tick dt) hdiffer hown hpeer
    rw [show (s.tick dt).group.role = .active from hrole] at houtcome
    have hactive : ((s.tick dt).endRun frame).group.role = .active := hrole
    refine runs_act (exec_mismatchOutcome dt frame s) houtcome ?_
    simp only [Bool.not_false, Bool.and_self, if_true]
    rw [State.settle_group, State.settle_clock, State.settle_txn, State.yieldFor_group hactive, State.settle_src_count _ _ (by decide),
      State.yieldFor_count hactive]
    simp only [State.yieldFor_frame]
    refine ⟨rfl, rfl, rfl, ?_, rfl, rfl, rfl⟩
    exact (Map.find_del _ _ _).trans (if_pos rfl)
  case holds =>
    have houtcome := State.mismatchOutcome_of_reports (s := s.tick dt) hdiffer hown hpeer
    rw [show (s.tick dt).group.role = .active from hrole] at houtcome
    refine next_settle_congr (houtcome.trans (if_neg ?_))
    rcases h with h | h <;> simp [h]
  case goesOn =>
    have houtcome := State.mismatchOutcome_of_reports (s := s.tick dt) hdiffer hown hpeer
    rw [show (s.tick dt).group.role = .standby from hrole] at houtcome
    exact next_settle_congr (houtcome.trans (if_pos rfl))
  case suspect =>
    have houtcome := State.mismatchOutcome_of_reports (s := s.tick dt) hdiffer hown hpeer
    rw [show (s.tick dt).group.role = .standby from hrole] at houtcome
    refine next_settle_congr (houtcome.trans ((if_neg ?_).trans (if_pos hrole)))
    rcases h with h | h <;> simp [h]
  case tests =>
    obtain ⟨port, es, hes, hgroup⟩ := State.loopbackTest_group (s := s.tick dt) (badDmx := badDmx) (badPwm := badPwm) hrole (Nat.not_lt.mpr hdue)
    obtain ⟨hrender, hdmx, hpwm⟩ := (s.tick dt).loopbackTest_keeps (badDmx := badDmx) (badPwm := badPwm)
    refine runs_act (exec_loopbackTest dt badDmx badPwm s) rfl ?_
    rw [State.settle_group, State.settle_clock, State.settle_txn, State.settle_mem, State.settle_render, State.settle_ports, hgroup, hrender,
      hdmx, hpwm]
    simp only [State.loopbackTest_frame]
    refine ⟨trivial, fun l hl => ?_, rfl, rfl, rfl, rfl, rfl, rfl, rfl⟩
    have hports : l ∉ es := fun hmem => Nat.not_lt.mpr (hes l hmem) (by omega)
    simp only [List.mem_append, hports, or_false, List.mem_filter, List.mem_range, hl, true_and, State.echoesLane, Bool.and_eq_true, beq_iff_eq,
      and_assoc]
    exact Iff.rfl
  case untested => exact next_settle_congr (State.loopbackTest_of_not_due (s := s.tick dt) h)
  case echoLost => exact next_settle_congr (State.loopbackTimeout_of_late (s := s.tick dt) hwaits (Nat.not_lt.mpr hlate))
  case echoWaits => exact next_settle_congr (State.loopbackTimeout_of_not (s := s.tick dt) h)
  case config =>
    obtain ⟨-, -, -, rfl⟩ := running_state h
    refine running_act h ?_
    have hbad : (!groupUidsOk c.payload || (groupUids c.payload).2.any (· != 0)) = false := by simpa [hok] using hzero
    simp only [groupConfigSpec, hfull, hbad, Bool.false_eq_true, if_false]
    exact State.accept_of_room haccept _ _ _ _
  case configBad =>
    obtain ⟨-, -, -, rfl⟩ := running_state h
    refine running_act h ?_
    have hbad : (!groupUidsOk c.payload || (groupUids c.payload).2.any (· != 0)) = true := by
      rcases hbad with hbad | ⟨x, hx, hne⟩
      · simp [hbad]
      · exact Bool.or_eq_true_iff.mpr (.inr (List.any_eq_true.mpr ⟨x, hx, bne_iff_ne.mpr hne⟩))
    simp only [groupConfigSpec, hfull, hbad, Bool.false_eq_true, if_false, if_true]
    rfl
  case configDone =>
    have hfound : (o.id == op && o.command == 0x0D01) = true := List.find?_some (p := fun o : Op => o.id == op && o.command == 0x0D01) hop
    obtain ⟨hid, -⟩ := Bool.and_eq_true_iff.mp hfound
    rw [beq_iff_eq] at hid
    refine runs_act (exec_groupConfigDone dt op s) (State.groupConfigDone_of_op (s := s.tick dt) hop hkind) ?_
    rw [State.settle_group, State.settle_host, State.settle_secure, State.settle_clock, State.settle_txn, State.settle_mem, State.settle_render,
      State.endOp_ops]
    simp only [State.endOp_frame, State.audit_frame, State.audit_next]
    refine ⟨rfl, rfl, fun x hx => ?_, rfl, rfl, rfl, rfl, rfl⟩
    rw [← hid]
    simpa using (List.mem_filter.mp hx).2
  case configNone => exact next_settle_congr (State.groupConfigDone_of_none (s := s.tick dt) hop)
  case status =>
    obtain ⟨-, -, -, rfl⟩ := running_state h
    exact running_act h rfl
  case cotillion =>
    obtain ⟨-, -, -, rfl⟩ := running_state h
    exact running_act h rfl

end Sys2Proof.Machine
end

section
/-!
PROOFS. Zoette links: their frames, acknowledgements and states (spec/17_quadrille_and_tango.md, R498 to R503, R508).
-/

namespace Sys2Proof.Machine

/-! ### One link -/

/-- A link that has sent what it could is in the state that it was in. -/
def ZlkLink.SameState (k j : ZlkLink) : Prop :=
  j.phase = k.phase ∧ j.lastRx = k.lastRx ∧ j.nakSent = k.nakSent ∧ j.upAt = k.upAt ∧ j.helloRx = k.helloRx ∧ j.peerRx = k.peerRx

theorem ZlkLink.SameState.refl (k : ZlkLink) : k.SameState k := ⟨rfl, rfl, rfl, rfl, rfl, rfl⟩

theorem ZlkLink.SameState.trans {i j k : ZlkLink} (hij : i.SameState j) (hjk : j.SameState k) : i.SameState k := by
  obtain ⟨h1, h2, h3, h4, h5, h6⟩ := hij
  obtain ⟨g1, g2, g3, g4, g5, g6⟩ := hjk
  exact ⟨g1.trans h1, g2.trans h2, g3.trans h3, g4.trans h4, g5.trans h5, g6.trans h6⟩

theorem ZlkLink.pump_sameState (n now : Nat) (k : ZlkLink) : k.SameState (k.pump now n).1 := by
  induction n generalizing k with
  | zero => exact .refl k
  | succ n ih =>
    unfold ZlkLink.pump
    split
    · exact .refl k
    · next f _ => exact .trans ⟨rfl, rfl, rfl, rfl, rfl, rfl⟩ (ih (k.sendOne f now).1)

/-! ### The links of the device -/

section
variable (s : State) (l : Nat)

theorem State.setLink_link (k : ZlkLink) (j : Nat) : (s.setLink l k).group.link j = if j = l then k else s.group.link j :=
  Map.getD_put _ _ _ _ _

/-- The links of `t` are those of `s`, but that link `l` is `k`. -/
def State.LinkTo (s : State) (l : Nat) (k : ZlkLink) (t : State) : Prop :=
  t.group.link l = k ∧ ∀ j, j ≠ l → t.group.link j = s.group.link j

theorem State.setLink_linkTo (k : ZlkLink) : s.LinkTo l k (s.setLink l k) :=
  ⟨(s.setLink_link l k l).trans (if_pos rfl), fun j hj => (s.setLink_link l k j).trans (if_neg hj)⟩

variable {s l} in
theorem State.LinkTo.setLink {k : ZlkLink} {t : State} (h : s.LinkTo l k t) (k' : ZlkLink) : s.LinkTo l k' (t.setLink l k') :=
  ⟨(t.setLink_linkTo l k').1, fun j hj => ((t.setLink_linkTo l k').2 j hj).trans (h.2 j hj)⟩

theorem State.pumpLink_sameState (j : Nat) : (s.group.link j).SameState ((s.pumpLink l).group.link j) := by
  unfold State.pumpLink
  dsimp only
  split
  · exact .refl _
  · rw [State.emitAll_group, State.setLink_link]
    split
    · next h => rw [h]; exact ZlkLink.pump_sameState _ _ _
    · exact .refl _

theorem State.pumpLink_others {j : Nat} (h : j ≠ l) : (s.pumpLink l).group.link j = s.group.link j := by
  unfold State.pumpLink
  dsimp only
  split
  · rfl
  · rw [State.emitAll_group, State.setLink_link, if_neg h]

/-- A link with nothing waiting sends nothing. -/
theorem State.pumpLink_of_none (h : (s.group.link l).waiting = []) : s.LinkTo l (s.group.link l) (s.pumpLink l)
    ∧ (s.pumpLink l).out = s.out := by
  unfold State.pumpLink
  dsimp only
  rw [h]
  split
  · exact ⟨⟨rfl, fun _ _ => rfl⟩, rfl⟩
  · exact ⟨s.setLink_linkTo l _, rfl⟩

theorem State.queueFrame_sameState (f : ZlkData) (j : Nat) : (s.group.link j).SameState ((s.queueFrame l f).group.link j) := by
  unfold State.queueFrame
  dsimp only
  split
  · exact .refl _
  · refine .trans ?_ (State.pumpLink_sameState _ _ _)
    rw [State.setLink_link]
    split
    · next h => rw [h]; exact ⟨rfl, rfl, rfl, rfl, rfl, rfl⟩
    · exact .refl _

theorem State.flood_sameState (f : ZlkData) (except_ : Option Nat) (j : Nat) :
    (s.group.link j).SameState ((s.flood f except_).group.link j) := by
  unfold State.flood
  generalize s.group.linksUsed.map s.group.physical = ls
  induction ls generalizing s with
  | nil => exact .refl _
  | cons x ls ih =>
    refine .trans ?_ (ih _)
    dsimp only
    split
    · exact .refl _
    · exact State.queueFrame_sameState _ _ _ _

theorem State.gcast_sameState (chan : Nat) (m : GroupMsg) (j : Nat) : (s.group.link j).SameState ((s.gcast chan m).group.link j) := by
  unfold State.gcast
  split
  · exact .refl _
  · exact State.flood_sameState _ _ _ _

end

/-! ### What arrives on a link -/

section
variable {s : State} {l : Nat}

theorem State.takeAck_of_none (h : (s.group.link l).waiting = []) (ack : Nat) (credit : List Nat) :
    s.LinkTo l (((s.group.link l).ackTo ack).addCredits credit) (s.takeAck l ack credit) ∧ (s.takeAck l ack credit).out = s.out := by
  have hset := s.setLink_linkTo l (((s.group.link l).ackTo ack).addCredits credit)
  have hnone : ((s.setLink l (((s.group.link l).ackTo ack).addCredits credit)).group.link l).waiting = [] := by rw [hset.1]; exact h
  obtain ⟨⟨hl, hothers⟩, hout⟩ := State.pumpLink_of_none _ l hnone
  exact ⟨⟨hl.trans hset.1, fun j hj => (hothers j hj).trans (hset.2 j hj)⟩, hout⟩

theorem State.takeAck_sameState (ack : Nat) (credit : List Nat) :
    (s.group.link l).SameState ((s.takeAck l ack credit).group.link l) := by
  refine .trans ?_ (State.pumpLink_sameState _ l l)
  rw [(s.setLink_linkTo l _).1]
  exact ⟨rfl, rfl, rfl, rfl, rfl, rfl⟩

theorem State.takeAck_others (ack : Nat) (credit : List Nat) {j : Nat} (h : j ≠ l) :
    (s.takeAck l ack credit).group.link j = s.group.link j :=
  (State.pumpLink_others _ l h).trans ((s.setLink_linkTo l _).2 j h)

theorem State.helloOf_setLink (k : ZlkLink) : (s.setLink l k).helloOf l = { s.helloOf l with helloRx := k.helloRx } := by
  rw [State.helloOf, (s.setLink_linkTo l k).1]
  rfl

theorem State.linkDown_linkTo (next : ZlkPhase) :
    s.LinkTo l { s.group.link l with phase := next, helloRx := 0, sent := [], waiting := [] } (s.linkDown l next) :=
  s.setLink_linkTo l _

/-! ### Frames sent again (R500) -/

/-- A link whose unacknowledged frames are sent again. -/
def ZlkLink.resent (k : ZlkLink) (now : Nat) : ZlkLink :=
  { k with retries := k.retries + 1, sent := k.sent.map fun x => { x with sends := x.sends + 1, at_ := now } }

theorem State.resend_of_few (h : ∀ x ∈ (s.group.link l).sent, x.sends < 8) :
    s.LinkTo l ((s.group.link l).resent s.now) (s.resend l) ∧ ((s.resend l).icu.src 0xB5).count = (s.icu.src 0xB5).count + 1 := by
  have hany : ((s.group.link l).sent.any (8 ≤ ·.sends)) = false := by simpa using h
  have hraise := (State.raise_src_self (k := 0xB5) (by decide) s)
  unfold State.resend
  dsimp only
  rw [hany, if_neg Bool.false_ne_true]
  refine ⟨(s.raise 0xB5).setLink_linkTo l _, ?_⟩
  exact (congrArg IcuSource.count hraise).trans (IcuSource.edge_count _ _)

theorem State.resend_of_many (h : ∃ x ∈ (s.group.link l).sent, 8 ≤ x.sends) :
    s.LinkTo l { s.group.link l with retries := (s.group.link l).retries + 1, phase := .locking, helloRx := 0, sent := [], waiting := [] }
        (s.resend l) ∧ ((s.resend l).icu.src 0xB4).count = (s.icu.src 0xB4).count + 1
      ∧ ((s.resend l).icu.src 0xB5).count = (s.icu.src 0xB5).count + 1 := by
  have hany : ((s.group.link l).sent.any (8 ≤ ·.sends)) = true := by simpa using h
  have hset := (s.raise 0xB5).setLink_linkTo l { s.group.link l with retries := (s.group.link l).retries + 1 }
  unfold State.resend
  dsimp only
  rw [hany, if_pos rfl]
  generalize hu : (s.raise 0xB5).setLink l { s.group.link l with retries := (s.group.link l).retries + 1 } = u at hset ⊢
  have hicu : u.icu = (s.raise 0xB5).icu := by rw [← hu]; rfl
  obtain ⟨hl, hothers⟩ := State.linkDown_linkTo (s := u) (l := l) .locking
  refine ⟨⟨?_, fun j hj => (hothers j hj).trans (hset.2 j hj)⟩, ?_, ?_⟩
  · rw [hl, hset.1]
  · rw [State.linkDown, State.raise_src_self (by decide), IcuSource.edge_count]
    exact congrArg (· + 1) (congrArg IcuSource.count ((congrArg (IcuState.src · 0xB4) hicu).trans (State.raise_src_of_ne (by decide) s)))
  · rw [State.linkDown, State.raise_src_of_ne (by decide)]
    refine (congrArg IcuSource.count (congrArg (IcuState.src · 0xB5) hicu)).trans ?_
    rw [State.raise_src_self (by decide), IcuSource.edge_count]

/-! ### HELLO (R501, R502) -/

theorem State.zlkHelloRx_of_deaf {good : Bool} {h : Hello} (hphase : (s.group.link l).phase = .disabled ∨ (s.group.link l).phase = .locking) :
    s.zlkHelloRx l good h = s := by
  refine if_pos ?_
  rcases hphase with hphase | hphase <;> rw [hphase] <;> rfl

theorem State.zlkHelloRx_of_bad {h : Hello} (hphase : (s.group.link l).phase = .hello ∨ (s.group.link l).phase = .up) :
    s.zlkHelloRx l false h = s.setLink l { s.group.link l with helloRx := 0 } := by
  refine (if_neg ?_).trans (if_pos rfl)
  rcases hphase with hphase | hphase <;> rw [hphase] <;> decide

/-- The link after a good HELLO. -/
def ZlkLink.greeted (k : ZlkLink) (h : Hello) : ZlkLink := { k with helloRx := min 255 (k.helloRx + 1), peerRx := h.helloRx }

/-- A HELLO that passes R502 is counted, and takes the link up with the last report. -/
theorem State.zlkHelloRx_of_ok {h : Hello} (hphase : (s.group.link l).phase = .hello) (hok : s.group.helloOk l h = true) :
    s.zlkHelloRx l true h = if 16 ≤ ((s.group.link l).greeted h).helloRx ∧ 16 ≤ h.helloRx
      then ((s.hear (memberNum h.rank h.plane)).setLink l ((s.group.link l).greeted h)).zlkUp l ((s.group.link l).greeted h)
      else (s.hear (memberNum h.rank h.plane)).setLink l ((s.group.link l).greeted h) := by
  unfold State.zlkHelloRx
  dsimp only
  rw [if_neg (by rw [hphase]; decide), if_neg (by decide), if_neg (by rw [hok]; decide)]
  have hiff : (decide ((s.group.link l).phase = .hello) && decide (16 ≤ min 255 ((s.group.link l).helloRx + 1)) && decide (16 ≤ h.helloRx)) = true
      ↔ 16 ≤ ((s.group.link l).greeted h).helloRx ∧ 16 ≤ h.helloRx := by simp [hphase, ZlkLink.greeted]
  exact if_congr hiff rfl rfl

/-- A HELLO that fails R502 takes the link down, to HELLO again. -/
theorem State.zlkHelloRx_of_stranger {h : Hello} (hphase : (s.group.link l).phase = .hello ∨ (s.group.link l).phase = .up)
    (hok : s.group.helloOk l h = false) :
    s.LinkTo l { s.group.link l with phase := .hello, helloRx := min 255 ((s.group.link l).helloRx + 1), sent := [], waiting := [] }
        (s.zlkHelloRx l true h)
      ∧ ((s.zlkHelloRx l true h).icu.src 0xB4).count = (s.icu.src 0xB4).count + 1 := by
  unfold State.zlkHelloRx
  dsimp only
  rw [if_neg (by rcases hphase with hphase | hphase <;> rw [hphase] <;> decide), if_neg (by decide), if_pos (by rw [hok]; rfl)]
  have hlinks : (if s.group.refusedBy h = true then s.setGroup { s.group with phase := .refused } else s).group.links = s.group.links := by
    split <;> rfl
  have hicu : (if s.group.refusedBy h = true then s.setGroup { s.group with phase := .refused } else s).icu = s.icu := by
    split <;> rfl
  generalize (if s.group.refusedBy h = true then s.setGroup { s.group with phase := .refused } else s) = u at hlinks hicu ⊢
  have hlink : ∀ j, u.group.link j = s.group.link j := fun j => congrArg (fun m : Map ZlkLink => m.getD j {}) hlinks
  obtain ⟨hdown, hothers⟩ := State.linkDown_linkTo (s := u) (l := l) .hello
  have hset := (u.linkDown l .hello).setLink_linkTo l
    { (u.linkDown l .hello).group.link l with helloRx := min 255 ((s.group.link l).helloRx + 1) }
  refine ⟨⟨hset.1.trans ?_, fun j hj => (hset.2 j hj).trans ((hothers j hj).trans (hlink j))⟩, ?_⟩
  · rw [hdown, hlink]
  · rw [State.setLink_icu, State.linkDown, State.raise_src_self (by decide), IcuSource.edge_count, ← hicu]
    rfl

theorem GroupState.helloOk_of_peer {g : GroupState} {h : Hello} {j : Nat} (hlogical : g.logical l = some j) (hdigest : h.digest = g.digest.take 16)
    (hpeer : memberNum h.rank h.plane = g.farEnd j) : g.helloOk l h = true := by
  simp [GroupState.helloOk, hlogical, hdigest, hpeer]

theorem GroupState.helloOk_of_stranger {g : GroupState} {h : Hello}
    (hbad : g.logical l = none ∨ ∃ j, g.logical l = some j ∧ memberNum h.rank h.plane ≠ g.farEnd j) : g.helloOk l h = false := by
  rcases hbad with hnone | ⟨j, hlogical, hpeer⟩
  · simp [GroupState.helloOk, hnone]
  · simp [GroupState.helloOk, hlogical, hpeer]

theorem State.sendTime_sameState (s : State) (l j : Nat) : (s.group.link j).SameState ((s.sendTime l).group.link j) := by
  unfold State.sendTime
  dsimp only
  split
  · exact .refl _
  · rw [State.emit_group, State.setLink_link]
    split
    · next h => rw [h]; exact ⟨rfl, rfl, rfl, rfl, rfl, rfl⟩
    · exact .refl _

/-- The link that reaches UP starts anew (R501). -/
theorem State.zlkUp_sameState (k : ZlkLink) : (({ phase := .up, helloRx := k.helloRx, peerRx := k.peerRx, upAt := s.now, retries := k.retries } : ZlkLink)).SameState
    ((s.zlkUp l k).group.link l) := by
  refine .trans ?_ (State.gcast_sameState _ _ _ _)
  have hset := s.setLink_linkTo l { phase := .up, helloRx := k.helloRx, peerRx := k.peerRx, upAt := s.now, retries := k.retries }
  have hsend := State.sendTime_sameState (s.setLink l { phase := .up, helloRx := k.helloRx, peerRx := k.peerRx, upAt := s.now, retries := k.retries }) l l
  rw [hset.1] at hsend
  exact hsend

end

/-! ### Lost lock (R501) -/

section
variable {s : State} {l : Nat}

theorem State.zlkLockLoss_of_up (h : (s.group.link l).phase = .up) : s.zlkLockLoss l = s.linkDown l .locking := by
  unfold State.zlkLockLoss
  dsimp only
  rw [h]

theorem State.zlkLockLoss_of_hello (h : (s.group.link l).phase = .hello) : s.zlkLockLoss l = s.setLink l { s.group.link l with helloRx := 0 } := by
  unfold State.zlkLockLoss
  dsimp only
  rw [h]

theorem State.zlkLockLoss_of_other (h : (s.group.link l).phase = .disabled ∨ (s.group.link l).phase = .locking) : s.zlkLockLoss l = s := by
  unfold State.zlkLockLoss
  dsimp only
  rcases h with h | h <;> rw [h]

end

/-! ### Frames (R499, R500, R503) -/

section
variable {s : State} {l : Nat} {f : ZlkData}

/-- The state in which an accepted frame is delivered: its SEQ, ACK and credits are taken, and an ACK has gone. -/
def State.acceptFrame (s : State) (l : Nat) (f : ZlkData) : State :=
  ((s.setLink l { s.group.link l with lastRx := f.seq, nakSent := false, owed := atChan (s.group.link l).owed f.chan (· + creditCost f.len) }).takeAck
    l f.ack f.credit).sendAck l

/-- A frame with a good CRC and the next SEQ is accepted. -/
theorem State.zlkDataRx_of_next (hphase : (s.group.link l).phase = .up) (hcrc : f.crcOk = true) (hopen : s.linkOpen = true)
    (hseq : f.seq = ((s.group.link l).lastRx + 1) % 65536) : s.zlkDataRx l f
      = (s.acceptFrame l f).routeFrame l f := by
  have hnext : (!f.crcOk || !s.linkOpen || f.seq != ((s.group.link l).lastRx + 1) % 65536) = false := by
    rw [hcrc, hopen, ← hseq, bne_self_eq_false]
    rfl
  refine (if_neg (by rw [hphase]; decide)).trans (if_neg ?_)
  rw [hnext]
  exact Bool.false_ne_true

/-- Any other frame is refused. -/
theorem State.zlkDataRx_of_wrong (hphase : (s.group.link l).phase = .up)
    (hbad : f.crcOk = false ∨ f.seq ≠ ((s.group.link l).lastRx + 1) % 65536) : s.zlkDataRx l f = s.refuseFrame l := by
  refine (if_neg (by rw [hphase]; decide)).trans (if_pos ?_)
  rcases hbad with hcrc | hseq
  · rw [hcrc]; rfl
  · rw [bne_iff_ne.mpr hseq, Bool.or_true]

/-- A broadcast that has been seen is dropped. -/
theorem State.routeFrame_of_seen (hdest : f.dest = 0x80) (hseen : f.src = s.group.me ∨ (f.src, f.origin) ∈ s.group.seen) :
    s.routeFrame l f = s.hear f.src := by
  refine (if_pos hdest).trans (if_pos ?_)
  have hsame : (s.hear f.src).group.me = s.group.me ∧ (s.hear f.src).group.seen = s.group.seen := ⟨rfl, rfl⟩
  rw [hsame.1, hsame.2, Bool.or_eq_true, decide_eq_true_iff, List.contains_iff_mem]
  exact hseen

theorem State.takeAck_group (s : State) (l ack : Nat) (credit : List Nat) : s.group.SameButLinks (s.takeAck l ack credit).group :=
  .trans ⟨_, _, rfl⟩ (State.pumpLink_group _ l)

theorem State.sendAck_group (s : State) (l : Nat) : s.group.SameButLinks (s.sendAck l).group := by
  unfold State.sendAck
  dsimp only
  split
  · exact .refl _
  · exact ⟨_, _, rfl⟩

/-- An ACK goes out on a link that is UP. -/
theorem State.sendAck_of_up (hphase : (s.group.link l).phase = .up) : s.LinkTo l { s.group.link l with owed := [0, 0, 0, 0] } (s.sendAck l) := by
  unfold State.sendAck
  dsimp only
  rw [if_neg (by rw [hphase]; decide)]
  exact s.setLink_linkTo l _

theorem State.acceptFrame_group (s : State) (l : Nat) (f : ZlkData) : s.group.SameButLinks (s.acceptFrame l f).group := by
  unfold State.acceptFrame
  exact .trans ⟨_, _, rfl⟩ (.trans (State.takeAck_group (State.setLink _ _ _) l f.ack f.credit) (State.sendAck_group (State.takeAck _ _ _ _) l))

theorem State.acceptFrame_keeps (s : State) (l : Nat) (f : ZlkData) : (s.acceptFrame l f).host = s.host ∧ (s.acceptFrame l f).clock = s.clock
    ∧ (s.acceptFrame l f).txn = s.txn ∧ (s.acceptFrame l f).mem = s.mem ∧ (s.acceptFrame l f).render = s.render := by
  simp [State.acceptFrame]

theorem State.acceptFrame_link (hphase : (s.group.link l).phase = .up) :
    ((s.acceptFrame l f).group.link l).lastRx = f.seq ∧ ((s.acceptFrame l f).group.link l).nakSent = false
      ∧ ((s.acceptFrame l f).group.link l).owed = [0, 0, 0, 0] ∧ ((s.acceptFrame l f).group.link l).phase = .up
      ∧ ∀ j, j ≠ l → (s.acceptFrame l f).group.link j = s.group.link j := by
  have hset := s.setLink_linkTo l
    { s.group.link l with lastRx := f.seq, nakSent := false, owed := atChan (s.group.link l).owed f.chan (· + creditCost f.len) }
  unfold State.acceptFrame
  generalize s.setLink l _ = u at hset ⊢
  obtain ⟨hup, hrx, hnak, -⟩ := State.takeAck_sameState (s := u) (l := l) f.ack f.credit
  rw [hset.1] at hup hrx hnak
  obtain ⟨hl, hothers⟩ := State.sendAck_of_up (hup.trans hphase)
  rw [hl]
  exact ⟨hrx, hnak, rfl, hup.trans hphase, fun j hj => (hothers j hj).trans ((State.takeAck_others _ _ hj).trans (hset.2 j hj))⟩

/-- Frames that have waited 4 µs for an acknowledgement are due. -/
theorem ZlkLink.retryDue_iff {k : ZlkLink} {d now : Nat} : (decide (k.phase = .up) && k.sent.any (fun x => decide (x.at_ + d ≤ now))) = true
    ↔ k.phase = .up ∧ ∃ x ∈ k.sent, x.at_ + d ≤ now := by simp

/-- A NAK on a link with nothing waiting: what it leaves unacknowledged is sent again. -/
theorem State.zlkNakRx_of_few {ack : Nat} {credit : List Nat} (hphase : (s.group.link l).phase = .up) (hwait : (s.group.link l).waiting = [])
    (hfew : ∀ x ∈ ((s.group.link l).ackTo ack).sent, x.sends < 8) :
    s.LinkTo l ((((s.group.link l).ackTo ack).addCredits credit).resent s.now) (s.zlkNakRx l ack credit)
      ∧ ((s.zlkNakRx l ack credit).icu.src 0xB5).count = (s.icu.src 0xB5).count + 1 := by
  have hset := s.setLink_linkTo l (((s.group.link l).ackTo ack).addCredits credit)
  have hraised : (s.setLink l (((s.group.link l).ackTo ack).addCredits credit)).icu = s.icu := rfl
  have hnow : (s.setLink l (((s.group.link l).ackTo ack).addCredits credit)).now = s.now := rfl
  unfold State.zlkNakRx
  rw [if_neg (by rw [hphase]; decide)]
  dsimp only
  generalize s.setLink l _ = u at hset hraised hnow ⊢
  obtain ⟨hu, huOthers⟩ := hset
  obtain ⟨⟨hl, hothers⟩, hcount⟩ := State.resend_of_few (s := u) (l := l) (by rw [hu]; exact hfew)
  obtain ⟨⟨hp, hpOthers⟩, -⟩ := State.pumpLink_of_none (u.resend l) l (by rw [hl, hu]; exact hwait)
  refine ⟨⟨?_, fun j hj => (hpOthers j hj).trans ((hothers j hj).trans (huOthers j hj))⟩, ?_⟩
  · rw [hp, hl, hu, hnow]
  · rw [(State.pumpLink_frame _ _).2.2.2.2.1, hcount, hraised]

theorem State.zlkNakRx_of_many {ack : Nat} {credit : List Nat} (hphase : (s.group.link l).phase = .up)
    (hmany : ∃ x ∈ ((s.group.link l).ackTo ack).sent, 8 ≤ x.sends) :
    s.LinkTo l { ((s.group.link l).ackTo ack).addCredits credit with
        retries := (s.group.link l).retries + 1, phase := .locking, helloRx := 0, sent := [], waiting := [] } (s.zlkNakRx l ack credit)
      ∧ ((s.zlkNakRx l ack credit).icu.src 0xB4).count = (s.icu.src 0xB4).count + 1
      ∧ ((s.zlkNakRx l ack credit).icu.src 0xB5).count = (s.icu.src 0xB5).count + 1 := by
  have hset := s.setLink_linkTo l (((s.group.link l).ackTo ack).addCredits credit)
  have hraised : (s.setLink l (((s.group.link l).ackTo ack).addCredits credit)).icu = s.icu := rfl
  unfold State.zlkNakRx
  rw [if_neg (by rw [hphase]; decide)]
  dsimp only
  generalize s.setLink l _ = u at hset hraised ⊢
  obtain ⟨hu, huOthers⟩ := hset
  obtain ⟨⟨hl, hothers⟩, hdown, hretry⟩ := State.resend_of_many (s := u) (l := l) (by rw [hu]; exact hmany)
  obtain ⟨⟨hp, hpOthers⟩, -⟩ := State.pumpLink_of_none (u.resend l) l (by rw [hl])
  refine ⟨⟨?_, fun j hj => (hpOthers j hj).trans ((hothers j hj).trans (huOthers j hj))⟩, ?_, ?_⟩
  · rw [hp, hl, hu]
    rfl
  · rw [(State.pumpLink_frame _ _).2.2.2.2.1, hdown, hraised]
  · rw [(State.pumpLink_frame _ _).2.2.2.2.1, hretry, hraised]

end

/-! ### TIME frames (R500, R508) -/

/-- A sample leaves the timebase where it is. -/
theorem TimeState.sample_tb (t : TimeState) (o : Int) : (t.sample o).tb = t.tb := by
  have hservo : ∀ u : TimeState, (u.servo o).tb = u.tb := by
    intro u
    obtain ⟨integ, r, h⟩ := u.servo_eq o
    rw [h]
    rfl
  have hhold : ∀ (u : TimeState) (gm : Bool), (u.enterHoldover gm).tb = u.tb := by
    intro u gm
    obtain ⟨r, integ, event, h⟩ := u.enterHoldover_eq gm
    rw [h]
  unfold TimeState.sample
  dsimp only
  repeat' split
  all_goals simp only [TimeState.raise, TimeState.setRate, hservo, hhold]

section
variable {s : State} {l : Nat}

/-- Timebase, output, clock, show state, memory and rendering of `t` are those of `s`. -/
def State.ShowKept (s t : State) : Prop :=
  t.tb = s.tb ∧ t.out = s.out ∧ t.clock = s.clock ∧ t.txn = s.txn ∧ t.mem = s.mem ∧ t.render = s.render

theorem State.ShowKept.trans {t u : State} (hst : s.ShowKept t) (htu : t.ShowKept u) : s.ShowKept u := by
  obtain ⟨h1, h2, h3, h4, h5, h6⟩ := hst
  obtain ⟨g1, g2, g3, g4, g5, g6⟩ := htu
  exact ⟨g1.trans h1, g2.trans h2, g3.trans h3, g4.trans h4, g5.trans h5, g6.trans h6⟩

/-- The stamps of an exchange discipline the timebase, where the link leads to the coordinator. -/
def State.takeStamps (s : State) (l : Nat) (t1 : Option Instant) (tx : Instant) (rx : Option Instant) : State :=
  match t1, rx with
  | some t1, some t2 =>
    if s.timeLink = some l then
      (s.withTime fun t => t.sample (hopOffset t1 t2 tx s.tb)).setGroup
        { (s.withTime fun t => t.sample (hopOffset t1 t2 tx s.tb)).group with timeOffset := hopOffset t1 t2 tx s.tb }
    else s
  | _, _ => s

theorem State.takeStamps_keeps (s : State) (l : Nat) (t1 : Option Instant) (tx : Instant) (rx : Option Instant) :
    (s.takeStamps l t1 tx rx).group.links = s.group.links ∧ s.ShowKept (s.takeStamps l t1 tx rx) := by
  have htb : ∀ o : Int, (s.withTime fun t => t.sample o).tb = s.tb := by
    intro o
    obtain ⟨stamps, htime⟩ := s.withTime_time fun t => t.sample o
    rw [State.tb, htime]
    exact congrArg (floorDiv · tbUnit) (TimeState.sample_tb s.time.quiet o)
  unfold State.takeStamps
  split
  · split
    · refine ⟨?_, htb _, ?_⟩ <;> simp [State.setGroup]
    · exact ⟨rfl, rfl, rfl, rfl, rfl, rfl, rfl⟩
  · exact ⟨rfl, rfl, rfl, rfl, rfl, rfl, rfl⟩

/-- The sender of a link's frame has been heard. -/
def State.hearPeer (s : State) (l : Nat) : State := (s.group.logical l).elim s fun j => s.hear (s.group.farEnd j)

theorem State.hearPeer_keeps (s : State) (l : Nat) : (s.hearPeer l).group.links = s.group.links ∧ s.ShowKept (s.hearPeer l) := by
  unfold State.hearPeer
  cases s.group.logical l <;> exact ⟨rfl, rfl, rfl, rfl, rfl, rfl, rfl⟩

/-- A TIME frame leaves a link that is UP and has room in its window. -/
theorem State.sendTime_of_room (hphase : (s.group.link l).phase = .up) (hroom : (s.group.link l).sent.length < zlkWindow) :
    s.LinkTo l { s.group.link l with
        nextSeq := ((s.group.link l).nextSeq + 1) % 65536, count := (s.group.link l).count + 1, owed := [0, 0, 0, 0], txStamp := some s.tb
        sent := (s.group.link l).sent ++ [⟨(s.group.link l).nextSeq, none, 1, s.now, (s.group.link l).count⟩] } (s.sendTime l)
      ∧ (s.sendTime l).out = .zlkTime l (s.group.link l).nextSeq (s.group.link l).lastRx (s.group.link l).owed (s.group.link l).count s.tb
          (s.group.link l).rxStamp :: s.out := by
  unfold State.sendTime
  dsimp only
  rw [if_neg (by rw [hphase, decide_eq_false (Nat.not_le.mpr hroom)]; decide)]
  exact ⟨s.setLink_linkTo l _, rfl⟩

/-- An accepted TIME frame draws one in return. -/
theorem State.zlkTimeRx_of_next {seq ack : Nat} {credit : List Nat} {tx : Instant} {rx : Option Instant}
    (hphase : (s.group.link l).phase = .up) (hopen : s.linkOpen = true) (hseq : seq = ((s.group.link l).lastRx + 1) % 65536)
    (hwait : (s.group.link l).waiting = []) (hroom : ((s.group.link l).ackTo ack).sent.length < zlkWindow) :
    (∃ sent count credits, s.LinkTo l { s.group.link l with
          lastRx := seq, nakSent := false, rxStamp := some s.tb, txStamp := some s.tb, nextSeq := ((s.group.link l).nextSeq + 1) % 65536
          owed := [0, 0, 0, 0], sent := sent, count := count, credits := credits } (s.zlkTimeRx l seq ack true credit tx rx))
      ∧ (∃ o k r, (s.zlkTimeRx l seq ack true credit tx rx).out = .zlkTime l (s.group.link l).nextSeq seq o k s.tb r :: s.out)
      ∧ (s.zlkTimeRx l seq ack true credit tx rx).clock = s.clock ∧ (s.zlkTimeRx l seq ack true credit tx rx).txn = s.txn
      ∧ (s.zlkTimeRx l seq ack true credit tx rx).mem = s.mem ∧ (s.zlkTimeRx l seq ack true credit tx rx).render = s.render := by
  have hnext : (!true || !s.linkOpen || seq != ((s.group.link l).lastRx + 1) % 65536) = false := by
    rw [hopen, ← hseq, bne_self_eq_false]
    rfl
  have heq : s.zlkTimeRx l seq ack true credit tx rx = (((((s.setLink l { s.group.link l with
      lastRx := seq, nakSent := false, rxStamp := some s.tb }).takeAck l ack credit).hearPeer l).takeStamps l (s.group.link l).txStamp tx rx)).sendTime l := by
    refine (if_neg (by rw [hphase]; decide)).trans ((if_neg ?_).trans rfl)
    rw [hnext]
    exact Bool.false_ne_true
  rw [heq]
  have hset := s.setLink_linkTo l { s.group.link l with lastRx := seq, nakSent := false, rxStamp := some s.tb }
  have hshow : s.ShowKept (s.setLink l { s.group.link l with lastRx := seq, nakSent := false, rxStamp := some s.tb }) :=
    ⟨rfl, rfl, rfl, rfl, rfl, rfl⟩
  generalize s.setLink l _ = t at hset hshow ⊢
  obtain ⟨ht, htOthers⟩ := hset
  obtain ⟨⟨hu, huOthers⟩, huOut⟩ := State.takeAck_of_none (s := t) (l := l) (by rw [ht]; exact hwait) ack credit
  have huShow : t.ShowKept (t.takeAck l ack credit) := by
    refine ⟨congrArg TimeState.value (State.takeAck_frame t l ack credit).2.2.2.1, huOut, ?_⟩
    simp only [State.takeAck_frame, and_self]
  generalize t.takeAck l ack credit = u at hu huOthers huShow ⊢
  obtain ⟨hvLinks, hvShow⟩ := u.hearPeer_keeps l
  generalize u.hearPeer l = v at hvLinks hvShow ⊢
  obtain ⟨hwLinks, hwShow⟩ := v.takeStamps_keeps l (s.group.link l).txStamp tx rx
  generalize v.takeStamps l (s.group.link l).txStamp tx rx = w at hwLinks hwShow ⊢
  have hlink : ∀ j, w.group.link j = u.group.link j := fun j => congrArg (fun m : Map ZlkLink => m.getD j {}) (hwLinks.trans hvLinks)
  obtain ⟨htb, hout, hclock, htxn, hmem, hrender⟩ := hshow.trans (huShow.trans (hvShow.trans hwShow))
  have hw : w.group.link l = (({ s.group.link l with lastRx := seq, nakSent := false, rxStamp := some s.tb } : ZlkLink).ackTo ack).addCredits credit := by
    rw [hlink, hu, ht]
  obtain ⟨⟨hl, hothers⟩, hsent⟩ := State.sendTime_of_room (s := w) (l := l) (by rw [hw]; exact hphase) (by rw [hw]; exact hroom)
  rw [hw, htb] at hl
  refine ⟨⟨_, _, _, hl, fun j hj => (hothers j hj).trans ((hlink j).trans ((huOthers j hj).trans (htOthers j hj)))⟩, ?_, ?_⟩
  · rw [hsent, hw, htb, hout]
    exact ⟨_, _, _, rfl⟩
  · simp only [State.sendTime_frame]
    exact ⟨hclock, htxn, hmem, hrender⟩

end

/-- HELLO is sent while the link says HELLO, and for a time after it has come up. -/
theorem ZlkLink.helloDue_iff (k : ZlkLink) {d now : Nat} : (decide (k.phase = .hello) || (decide (k.phase = .up) && decide (now ≤ k.upAt + d))) = true
    ↔ k.phase = .hello ∨ (k.phase = .up ∧ now ≤ k.upAt + d) := by simp

/-- The offset of a hop, from the delays of a symmetric path (R508). -/
theorem hopOffset_of_symmetric {t1 t2 t3 t4 : Instant} {d o : Int} (hout : (t2 : Int) - t1 = d + o) (hback : t4 - t3 = d - o) :
    hopOffset t1 t2 t3 t4 = -o := by
  have hdiff : (t4 - t3) - (t2 - t1) = 2 * -o := by rw [hout, hback]; ring
  rw [hopOffset, hdiff]
  exact Int.mul_fdiv_cancel_left _ (by decide)

/-! ### The statement -/

/-- Settles O53: what arrives is its operation on one link, and sending what waits leaves the states of the links as they are. -/
theorem zoetteLinks : Obligations.ZoetteLinks := by
  refine ⟨fun dt link s hphase => ?lock, fun dt link s hphase => ?lockNone, fun dt h s hphase hlogical hdigest hpeer hmine hreport => ?up,
    fun dt link h j s hphase hlogical hdigest hpeer hfew => ?greeted, fun dt link h s hphase => ?bad, fun dt link h s hphase hbad => ?stranger,
    fun dt link good h s hphase => ?deaf, fun dt link s hphase => ?timer, fun dt link s hphase => ?timerNone, fun dt link s hphase => ?lossUp,
    fun dt link s hphase => ?lossHello, fun dt link s hphase => ?lossNone, fun dt link f s hphase hcrc hopen hseq => ?data,
    fun dt link f s hphase hcrc hopen hseq hdest hseen => ?dataSeen, fun dt link f s hphase hnak hbad => ?refuse, fun dt link f s hphase => ?dataNone,
    fun dt link ack credit s hphase hwait => ?ack, fun dt link ack credit s hphase => ?ackNone, fun dt link ack credit s hphase hwait hfew => ?nak,
    fun dt link ack credit s hphase hmany => ?nakMany, fun dt link seq ack credit tx rx s hphase hopen hseq hwait hroom => ?time,
    fun dt link seq ack credit tx rx s hphase hnak => ?timeBad, fun t1 t2 t3 t4 d o hout hback => hopOffset_of_symmetric hout hback,
    fun dt link s hphase hlate hfew => ?retry, fun dt link s hno => ?retryNone⟩
  case lock =>
    refine next_settle_congr ((if_neg (by rw [show ((s.tick dt).group.link link).phase = .locking from hphase]; decide)).trans ?_)
    exact congrArg (fun h => State.emit _ (.zlkHello link h)) ((s.tick dt).helloOf_setLink _)
  case lockNone => exact next_settle_congr (if_pos (bne_iff_ne.mpr hphase))
  case up =>
    have hok := GroupState.helloOk_of_peer hlogical hdigest hpeer
    have hcount : 16 ≤ ((s.group.link 0).greeted h).helloRx := by rw [ZlkLink.greeted]; exact le_min (by decide) (Nat.succ_le_succ hmine)
    refine runs_act (exec_zlkHelloRx dt 0 true h s) ((State.zlkHelloRx_of_ok (s := s.tick dt) hphase hok).trans (if_pos ⟨hcount, hreport⟩)) ?_
    obtain ⟨hup, hrx, -, hat, hmy, hpeerRx⟩ := State.zlkUp_sameState (s := ((s.tick dt).hear (memberNum h.rank h.plane)).setLink 0
      ((s.group.link 0).greeted h)) (l := 0) ((s.group.link 0).greeted h)
    rw [State.settle_group, State.settle_clock, State.settle_txn, State.settle_mem, State.settle_render]
    simp only [State.zlkUp_frame]
    exact ⟨hup, hat, hrx, hmy, hpeerRx, rfl, rfl, rfl, rfl⟩
  case greeted =>
    have hok := GroupState.helloOk_of_peer hlogical hdigest hpeer
    refine runs_act (exec_zlkHelloRx dt link true h s) ((State.zlkHelloRx_of_ok (s := s.tick dt) hphase hok).trans (if_neg ?_)) ?_
    · rintro ⟨hcount, hreport⟩
      have hcount : 16 ≤ min 255 ((s.group.link link).helloRx + 1) := hcount
      omega
    · obtain ⟨hl, hothers⟩ := ((s.tick dt).hear (memberNum h.rank h.plane)).setLink_linkTo link ((s.group.link link).greeted h)
      rw [State.settle_group, State.settle_clock, State.settle_txn, State.settle_mem, State.settle_render]
      exact ⟨hl, hothers, rfl, rfl, rfl, rfl⟩
  case bad => exact next_settle_congr (State.zlkHelloRx_of_bad (s := s.tick dt) hphase)
  case stranger =>
    obtain ⟨⟨hl, hothers⟩, hcount⟩ := State.zlkHelloRx_of_stranger (s := s.tick dt) hphase (GroupState.helloOk_of_stranger hbad)
    refine runs_act (exec_zlkHelloRx dt link true h s) rfl ?_
    rw [State.settle_group, State.settle_clock, State.settle_txn, State.settle_mem, State.settle_render, State.settle_src_count _ _ (by decide), hl,
      hcount]
    simp only [State.zlkHelloRx_frame]
    exact ⟨trivial, trivial, trivial, rfl, rfl, hothers, rfl, rfl, rfl, rfl⟩
  case deaf => exact next_settle_congr (State.zlkHelloRx_of_deaf (s := s.tick dt) hphase)
  case timer => exact next_settle_congr (if_pos ((((s.tick dt).group.link link).helloDue_iff).mpr hphase))
  case timerNone =>
    refine next_settle_congr (if_neg fun hdue => ?_)
    have hdue := (((s.tick dt).group.link link).helloDue_iff).mp hdue
    have hlink : (s.tick dt).group.link link = s.group.link link := rfl
    rw [hlink] at hdue
    rcases hphase with hphase | hphase | ⟨hphase, hpast⟩
    · simp [hphase] at hdue
    · simp [hphase] at hdue
    · rcases hdue with hdue | ⟨-, hearly⟩
      · simp [hphase] at hdue
      · exact Nat.not_lt.mpr hearly hpast
  case lossUp => exact next_settle_congr (State.zlkLockLoss_of_up (s := s.tick dt) hphase)
  case lossHello => exact next_settle_congr (State.zlkLockLoss_of_hello (s := s.tick dt) hphase)
  case lossNone => exact next_settle_congr (State.zlkLockLoss_of_other (s := s.tick dt) hphase)
  case data =>
    exact next_settle_congr (State.zlkDataRx_of_next (s := s.tick dt) hphase hcrc hopen hseq)
  case dataSeen =>
    refine runs_act (exec_zlkDataRx dt link f s) ((State.zlkDataRx_of_next (s := s.tick dt) hphase hcrc hopen hseq).trans
      (State.routeFrame_of_seen hdest ?_)) ?_
    · obtain ⟨links, n, hgroup⟩ := (s.tick dt).acceptFrame_group link f
      rw [hgroup]
      exact hseen
    · obtain ⟨hrx, hnak, howed, hup, hothers⟩ := State.acceptFrame_link (s := s.tick dt) (l := link) (f := f) hphase
      obtain ⟨links, n, hgroup⟩ := (s.tick dt).acceptFrame_group link f
      have hgroupPhase : ((s.tick dt).acceptFrame link f).group.phase = s.group.phase := by
        rw [hgroup]
        rfl
      have hkeeps := (s.tick dt).acceptFrame_keeps link f
      generalize (s.tick dt).acceptFrame link f = u at hrx hnak howed hup hothers hgroupPhase hkeeps ⊢
      obtain ⟨hhost, hclock, htxn, hmem, hrender⟩ := hkeeps
      rw [State.settle_group, State.settle_clock, State.settle_txn, State.settle_mem, State.settle_render, State.settle_host]
      exact ⟨hrx, hnak, howed, hup, hothers, hhost, hgroupPhase, hclock, htxn, hmem, hrender⟩
  case refuse =>
    refine next_settle_congr ((State.zlkDataRx_of_wrong (s := s.tick dt) hphase hbad).trans (if_neg ?_))
    rw [show ((s.tick dt).group.link link).nakSent = false from hnak]
    exact Bool.false_ne_true
  case dataNone => exact next_settle_congr (if_pos (bne_iff_ne.mpr hphase))
  case ack =>
    obtain ⟨⟨hl, hothers⟩, -⟩ := State.takeAck_of_none (s := s.tick dt) hwait ack credit
    refine runs_act (exec_zlkAckRx dt link ack credit s) (if_pos hphase) ?_
    rw [State.settle_group, State.settle_clock, State.settle_txn, State.settle_mem, State.settle_render, hl]
    simp only [State.takeAck_frame]
    exact ⟨rfl, rfl, rfl, rfl, hphase, hothers, rfl, rfl, rfl, rfl⟩
  case ackNone => exact next_settle_congr (if_neg hphase)
  case nak =>
    obtain ⟨⟨hl, hothers⟩, hcount⟩ := State.zlkNakRx_of_few (s := s.tick dt) (credit := credit) hphase hwait hfew
    refine runs_act (exec_zlkNakRx dt link ack credit s) rfl ?_
    rw [State.settle_group, State.settle_clock, State.settle_txn, State.settle_mem, State.settle_render, State.settle_src_count _ _ (by decide), hl,
      hcount]
    simp only [State.zlkNakRx_frame]
    exact ⟨rfl, rfl, hphase, rfl, hothers, rfl, rfl, rfl, rfl⟩
  case nakMany =>
    obtain ⟨⟨hl, hothers⟩, hdown, hretry⟩ := State.zlkNakRx_of_many (s := s.tick dt) (credit := credit) hphase hmany
    refine runs_act (exec_zlkNakRx dt link ack credit s) rfl ?_
    rw [State.settle_group, State.settle_clock, State.settle_txn, State.settle_mem, State.settle_render, State.settle_src_count _ _ (by decide),
      State.settle_src_count _ _ (by decide), hl, hdown, hretry]
    simp only [State.zlkNakRx_frame]
    exact ⟨trivial, trivial, trivial, rfl, rfl, hothers, rfl, rfl, rfl, rfl⟩
  case time =>
    obtain ⟨⟨sent, count, credits, hl, hothers⟩, ⟨o, k, r, hout⟩, hclock, htxn, hmem, hrender⟩ :=
      State.zlkTimeRx_of_next (s := s.tick dt) (tx := tx) (rx := rx) (credit := credit) hphase hopen hseq hwait hroom
    obtain ⟨new, hnew⟩ := State.settle_out ((s.tick dt).zlkTimeRx link seq ack true credit tx rx)
    refine runs_act (exec_zlkTimeRx dt link seq ack true credit tx rx s) rfl ?_
    rw [State.settle_group, State.settle_clock, State.settle_txn, State.settle_mem, State.settle_render, hl, hnew, hout]
    exact ⟨rfl, rfl, rfl, rfl, ⟨new, o, k, r, rfl⟩, hothers, hclock, htxn, hmem, hrender⟩
  case timeBad =>
    refine next_settle_congr ((if_neg ?_).trans ((if_pos rfl).trans (if_neg ?_)))
    · rw [show ((s.tick dt).group.link link).phase = .up from hphase]; decide
    · rw [show ((s.tick dt).group.link link).nakSent = false from hnak]
      exact Bool.false_ne_true
  case retry =>
    obtain ⟨hlink, hcount⟩ := State.resend_of_few (s := s.tick dt) hfew
    obtain ⟨hl, hothers⟩ := hlink
    refine runs_act (exec_zlkRetryTimeout dt link s) (if_pos (ZlkLink.retryDue_iff.mpr ⟨hphase, hlate⟩)) ?_
    rw [State.settle_group, State.settle_clock, State.settle_txn, State.settle_mem, State.settle_render, State.settle_src_count _ _ (by decide), hl,
      hcount]
    simp only [State.resend_frame]
    exact ⟨rfl, rfl, rfl, hothers, rfl, rfl, rfl, rfl⟩
  case retryNone =>
    refine next_settle_congr (if_neg fun hdue => ?_)
    obtain ⟨hphase, x, hx, hlate⟩ := ZlkLink.retryDue_iff.mp hdue
    rcases hno with hno | hno
    · exact hno hphase
    · exact Nat.not_lt.mpr hlate (hno x hx)

end Sys2Proof.Machine
end

section
/-!
PROOFS. The security functions (spec/18_update_and_security.md, R540 to R546, R554, R555).
-/

namespace Sys2Proof.Machine

/-! ### An unlock of the debug port whose completion raises DEBUG_EVENT -/

/-- A completion with the IRQ flag raises the source of its mailbox's number. -/
theorem State.finish_count {s : State} {c : Ctx} {orphan : Bool} (horphan : orphan = false) (hirq : c.irq = true)
    (hsrc : srcAssigned c.m = true) (r : Reply) : ((s.finish c orphan r).icu.src c.m).count = (s.icu.src c.m).count + 1 := by
  unfold State.finish
  dsimp only
  rw [horphan, if_neg Bool.false_ne_true, hirq, if_pos rfl, State.raise_src_self hsrc, IcuSource.edge_count]
  split <;> simp

/-- DEBUG_SET of a locked port on a device that is not active unlocks it, and is logged. -/
theorem debugSetSpec_unlock {c : Ctx} {t : State} (hfull : t.auditFull = false) (hop : fld c.payload 0 1 = 1)
    (hlocked : t.secure.debugPort = .locked) (hrole : t.group.role ≠ .active) : debugSetSpec.body c t
      = (t.unlockDebug.audit 0x0030 c.session c.role 0 (bytesLE 1 1 ++ bytesLE 1 t.unlockDebug.secure.debugPort.code), ⟨.ok, [], none⟩) := by
  simp only [debugSetSpec, debugSetBody, hfull, hop, hlocked, beq_eq_false_iff_ne.mpr hrole]
  rfl

theorem State.unlockDebug_count (s : State) : (s.unlockDebug.icu.src 0xC5).count = (s.icu.src 0xC5).count + 1 := by
  rw [State.unlockDebug, State.raise_src_self (by decide), IcuSource.edge_count]

/-- A DEBUG_SET of session 1 that unlocks the port, with the IRQ flag. -/
def unlockRequest : Bytes := bytesLE 2 0x0F30 ++ bytesLE 2 1 ++ bytesLE 4 7 ++ bytesLE 4 1 ++ bytesLE 4 16 ++ zeros 16 ++ bytesLE 1 1 ++ zeros 15

/-- A mailbox of the number of source 0xC5 executes it. -/
def unlockExec : ExecReq := { mbx := 0xC5, req := unlockRequest, dbPos := 0, role := 3 }

def unlockingState : State := { host := { mbxReady := true, execs := [unlockExec] } }

/-- The state in which the request acts. -/
def unlockingActs : State := { unlockingState.tick 0 with host := unlockingState.host.dropExec unlockExec }

theorem unlocking_running : Running debugSetSpec 0xC5 0 unlockingState unlockExec unlockExec.ctx unlockingActs unlockExec.ctx.payload := by
  refine ⟨rfl, by decide, rfl, rfl, rfl, rfl, by decide, by decide⟩

/-- Refutes O58: the clause of DEBUG_SET counts one edge of source 0xC5 for a request of any mailbox number, and not of the 16 that there
are. The completion of a request with the IRQ flag raises the source of its mailbox's number, so that of mailbox 0xC5 counts a second. -/
theorem not_securityFunctions : ¬ Obligations.SecurityFunctions := by
  intro h
  obtain ⟨-, -, -, -, -, -, -, -, -, -, -, -, -, -, -, -, -, -, -, -, -, hunlock, -⟩ := h
  obtain ⟨u, hexec, -, -, -, -, hcount, -⟩ := hunlock 0 0xC5 unlockingState unlockingActs unlockExec unlockExec.ctx unlockExec.ctx.payload
    unlocking_running (by decide) (by decide) rfl (by decide)
  have hact := running_act unlocking_running (debugSetSpec_unlock (c := unlockExec.ctx) (t := unlockingActs) (by decide) (by decide) rfl (by decide))
  obtain rfl := Host.Outcome.next.inj ((hexec.symm.trans (exec_debugSet 0 0xC5 unlockingState)).trans hact)
  rw [State.settle_src_count _ _ (by decide), show (0xC5 : Nat) = unlockExec.ctx.m from rfl,
    State.finish_count (orphan := unlockExec.orphan) rfl (by decide) (by decide), show unlockExec.ctx.m = 0xC5 from rfl, State.audit_src (by decide), State.unlockDebug_count] at hcount
  exact absurd hcount (by decide)

end Sys2Proof.Machine
end

section
/-!
PROOFS. The metering commands and their reads (spec/13_metering.md, R421 to R434).
-/

namespace Sys2Proof.Machine

/-! ### The channels and points of metering -/

section
variable {m : MeterState} {c k : Nat}

/-- A channel put down is that channel, and every other one stays. -/
theorem MeterState.channel_of_put {m' : MeterState} {x : MtrChannel} (h : m'.channels = m.channels.put c x) (hcoef : m'.coef = m.coef)
    (k : Nat) : m'.channel k = if k = c then x else m.channel k := by
  rw [MeterState.channel, h, hcoef]
  exact Map.getD_put m.channels c k x _

theorem MeterState.channel_of_put_self {m' : MeterState} {x : MtrChannel} (h : m'.channels = m.channels.put c x) (hcoef : m'.coef = m.coef) :
    m'.channel c = x := by rw [MeterState.channel_of_put h hcoef, if_pos rfl]

theorem MeterState.channel_of_put_ne {m' : MeterState} {x : MtrChannel} (h : m'.channels = m.channels.put c x) (hcoef : m'.coef = m.coef)
    (hk : k ≠ c) : m'.channel k = m.channel k := by rw [MeterState.channel_of_put h hcoef, if_neg hk]

/-- The end of a recalibration changes neither a channel nor a point. -/
theorem MeterState.roveAbort_of (m : MeterState) (c : Nat) : ∃ r, m.roveAbort c = { m with rove := r } := by
  unfold MeterState.roveAbort
  split
  · split
    · exact ⟨none, rfl⟩
    · exact ⟨_, rfl⟩
  · exact ⟨_, rfl⟩

theorem MeterState.find_setPoint (m : MeterState) (k : Nat) (p : MtrPoint) (j : Nat) :
    (m.setPoint k p).points.find j = if j = k then some p else m.points.find j :=
  Map.find_put m.points k j p

theorem MeterState.find_setPoint_self (m : MeterState) (k : Nat) (p : MtrPoint) : (m.setPoint k p).points.find k = some p := by
  rw [MeterState.find_setPoint, if_pos rfl]

theorem MeterState.find_setPoint_of_ne {j : Nat} (h : j ≠ k) (p : MtrPoint) : (m.setPoint k p).points.find j = m.points.find j := by
  rw [MeterState.find_setPoint, if_neg h]

end

/-! ### MTR_CHANNEL_SET (R428) -/

/-- A channel with the settings of MTR_CHANNEL_SET. -/
def MtrChannel.set (x : MtrChannel) (q : Bytes) : MtrChannel :=
  { x with
    role := fld q 1 1, gainCode := fld q 2 1, rove := bit (fld q 3 1) 0, invert := bit (fld q 3 1) 1, scale := fldF q 4
    offset := fldF q 8, phaseCorr := fldS q 12 2, auxMs := if fld q 14 2 = 0 then 100 else fld q 14 2
    gain := if fld q 2 1 = 0 then x.gain else fld q 2 1 - 1, upRun := 0 }

/-- Where it is not refused, MTR_CHANNEL_SET puts the channel down with its settings, and ends at most a recalibration. -/
theorem mtrChannelBody_set {c : Ctx} {t : State}
    (hfree : (t.meter.channel (fld c.payload 0 1)).role = fld c.payload 1 1 ∨ t.channelTied (fld c.payload 0 1) = false) :
    ∃ m, mtrChannelBody c t = (t.withMeter m, ⟨.ok, [], none⟩) ∧ m.coef = t.meter.coef ∧ m.points = t.meter.points
      ∧ m.channels = t.meter.channels.put (fld c.payload 0 1) ((t.meter.channel (fld c.payload 0 1)).set c.payload) := by
  have hrefused : ((t.meter.channel (fld c.payload 0 1)).role != fld c.payload 1 1 && t.channelTied (fld c.payload 0 1)) = false := by
    rcases hfree with hrole | hloose
    · simp [hrole]
    · simp [hloose]
  unfold mtrChannelBody
  dsimp only
  rw [hrefused, if_neg Bool.false_ne_true]
  split
  · exact ⟨_, rfl, rfl, rfl, rfl⟩
  · obtain ⟨r, hr⟩ := t.meter.roveAbort_of (fld c.payload 0 1)
    exact ⟨_, rfl, by rw [hr], by rw [hr], by rw [hr]; rfl⟩

theorem mtrChannelBody_conflict {c : Ctx} {t : State} (hrole : (t.meter.channel (fld c.payload 0 1)).role ≠ fld c.payload 1 1)
    (htied : t.channelTied (fld c.payload 0 1) = true) : mtrChannelBody c t = t.fail .conflict :=
  if_pos (by simp [hrole, htied])

/-! ### MTR_POINT_SET and MTR_ENERGY_PRESET (R421, R423, R428) -/

section
variable {c : Ctx} {t : State}

theorem mtrPointBody_define (hph : fld c.payload 1 1 ≠ 0) (hok : t.meter.pointConflict (fld c.payload 0 1) (pointCfgOf c.payload) = false) :
    mtrPointBody c t = (t.definePoint (fld c.payload 0 1) (pointCfgOf c.payload)).ok := by
  unfold mtrPointBody
  dsimp only
  rw [if_neg hph, hok, if_neg Bool.false_ne_true]

theorem mtrPointBody_conflict (hph : fld c.payload 1 1 ≠ 0) (hbad : t.meter.pointConflict (fld c.payload 0 1) (pointCfgOf c.payload) = true) :
    mtrPointBody c t = t.fail .conflict := by
  unfold mtrPointBody
  dsimp only
  rw [if_neg hph, if_pos hbad]

theorem mtrPointBody_delete (hph : fld c.payload 1 1 = 0) : mtrPointBody c t =
    if t.meter.points.has (fld c.payload 0 1) && t.enabled 0x0C (fld c.payload 0 1) then t.fail .conflict
    else (t.withMeter { t.meter with points := t.meter.points.del (fld c.payload 0 1) }).ok := by
  unfold mtrPointBody
  dsimp only
  rw [if_pos hph]

/-- A point of a new number that is DISABLED has its settings, registers at zero and the next GEN. -/
theorem State.definePoint_new {k : Nat} {g : MtrPointCfg} (hnone : t.meter.points.find k = none) (hoff : t.enabled 0x0C k = false) :
    t.definePoint k g = t.withMeter (t.meter.setPoint k
      { cfg := g, n := g.n, zcMs := g.zcMs, regs := zeroRegs, gen := (t.meter.gens.getD k 0 + 1) % 65536 }) := by
  simp only [State.definePoint, hnone, hoff, Bool.false_eq_true, if_false]

/-- A change of the channels of a point in NORMAL waits for its next crossing. -/
theorem State.definePoint_waits {k : Nat} {g : MtrPointCfg} {x : MtrPoint} (hfind : t.meter.points.find k = some x)
    (hnormal : x.phase = .normal) (hother : x.cfg.sameChannels g = false) :
    t.definePoint k g = t.withMeter (t.meter.setPoint k { x with change := some g }) := by
  simp only [State.definePoint, hfind, hother, hnormal, Bool.false_eq_true, if_false, if_true]

/-- MTR_ENERGY_PRESET of a point queues the preset, and is logged. -/
theorem mtrPresetBody_of_point {x : MtrPoint} (hroom : t.auditFull = false) (hfind : t.meter.points.find (fld c.payload 0 1) = some x) :
    mtrPresetBody c t = ((t.withMeter (t.meter.setPoint (fld c.payload 0 1)
      { x with presets := x.presets ++ [(7 * fld c.payload 1 1 + fld c.payload 2 1, fld c.payload 4 2, fld c.payload 8 8)] })).audit 0x0050
        c.session c.role 0 (bytesLE 2 0x0B03 ++ c.payload.take 16)).ok := by
  unfold mtrPresetBody
  dsimp only
  rw [hroom, if_neg Bool.false_ne_true, hfind]

theorem mtrPresetBody_of_none (hroom : t.auditFull = false) (hnone : t.meter.points.find (fld c.payload 0 1) = none) :
    mtrPresetBody c t = t.fail .conflict := by
  unfold mtrPresetBody
  dsimp only
  rw [hroom, if_neg Bool.false_ne_true, hnone]

end

/-! ### MTR_CAPTURE_DONE (R434) -/

/-- What the host region reads as after a device wrote a range of it. -/
theorem State.storeRead_read {s : State} (h : Memory.wf s.mem = true) (off a : Nat) (bs : Bytes) :
    memRead (s.storeRead off bs).mem a = if off ≤ a ∧ a < off + bs.length then bs.getD (a - off) 0 else memRead s.mem a := by
  unfold State.storeRead
  cases bs with
  | nil => exact (if_neg (by simp)).symm
  | cons v vs =>
    rw [if_neg (by simp)]
    simp only [State.memWritten_frame]
    exact s.writeRegion_read off a (v :: vs) h

section
variable {s : State} {op : Nat}

/-- A capture that is not there, or has samples to take, does not end. -/
theorem State.mtrCaptureDone_none (h : ∀ r, s.meter.captures.find? (·.op == op) = some r → r.left ≠ 0) : s.mtrCaptureDone op = s := by
  unfold State.mtrCaptureDone
  split
  · rfl
  · next r hfind => exact if_pos (by simpa using h r hfind)

/-- A capture that has all its samples leaves the list, and its samples stand in the region as its operation ends. -/
theorem State.mtrCaptureDone_of_full {r : MtrCaptureRun} (hfind : s.meter.captures.find? (·.op == op) = some r) (hleft : r.left = 0) :
    ∃ resp, s.mtrCaptureDone op = ((s.withMeter { s.meter with captures := s.meter.captures.filter (·.op != op) }).storeRead
      r.dest r.bytes).endOpId op .ok s.pos resp := by
  unfold State.mtrCaptureDone
  rw [hfind]
  exact ⟨_, if_neg (by simp [hleft])⟩

end

/-! ### The statement -/

/-- Settles O51: each command is its body on the channel, point or output that its payload names; a capture ends with its samples in the
region. -/
theorem meteringCommands : Obligations.MeteringCommands := by
  refine ⟨fun dt m s t e c p h hfree => ?channelSet, fun dt m s t e c p h hrole htied => ?channelConflict,
    fun dt m s t e c p h hph hok hnone hoff => ?pointNew, fun dt m s t e c p x h hph hok hfind hnormal hother => ?pointChange,
    fun dt m s t e c p h hph hgone => ?pointDelete, fun dt m s t e c p h hph hthere hon => ?pointOn,
    fun dt m s t e c p h hph hbad => ?pointConflict, fun dt m s t e c p x h hroom hfind => ?preset,
    fun dt m s t e c p h hroom hnone => ?presetConflict, fun dt m s t e c p h hthere => ?pulseSet,
    fun dt m s t e c p h hgone => ?pulseConflict, fun dt m s t e c p h => ?roveSet, fun dt m s t e c p h => ?pulseStatus,
    fun dt m s t e c p x r h hfind hrec => ?latchRead, fun dt m s t e c p x h hfind hrec => ?latchGone,
    fun dt m s t e c p x h hfind => ?cycleRead, fun dt m s t e c p h hnone => ?cycleNone, fun dt m s t e c p h => ?channelStatus,
    fun dt m s t e c p h hon haccept => ?capture, fun dt m s t e c p h hoff => ?captureOff,
    fun dt op r s hwf hfind hleft => ?captureDone, fun dt op s hleft => ?captureNone⟩
  case captureDone =>
    obtain ⟨resp, hdone⟩ := State.mtrCaptureDone_of_full (s := s.tick dt) hfind hleft
    refine runs_act (exec_mtrCaptureDone dt op s) hdone ⟨?_, ?_, ?_, fun a => ?_⟩
    · simp only [State.settle_meter, State.endOpId_frame, State.storeRead_frame, State.withMeter_meter]
      exact List.filter_congr fun x _ => Bool.eq_iff_iff.mpr (by simp)
    · simp
    · simp
    · simp only [State.settle_mem, State.endOpId_frame]
      exact State.storeRead_read (s := (s.tick dt).withMeter _) hwf r.dest a r.bytes
  case captureNone => exact (exec_mtrCaptureDone dt op s).trans (next_settle_congr (State.mtrCaptureDone_none hleft))
  all_goals obtain ⟨-, -, -, rfl⟩ := running_state h
  case channelSet =>
    obtain ⟨m', hbody, hcoef, hpoints, hput⟩ := mtrChannelBody_set hfree
    refine runs_finished (exec_mtrChannelSet dt m s) h hbody ?_
    simp only [State.settle_meter, State.settle_txn, State.finish_frame, State.withMeter_meter, State.withMeter_txn]
    rw [MeterState.channel_of_put_self hput hcoef]
    exact ⟨rfl, rfl, rfl, rfl, rfl, rfl, rfl, rfl, rfl, rfl, fun k hk => MeterState.channel_of_put_ne hput hcoef hk, hpoints, trivial⟩
  case channelConflict => exact running_act h (mtrChannelBody_conflict hrole htied)
  case pointNew => exact running_act h ((mtrPointBody_define hph hok).trans (by rw [State.definePoint_new hnone hoff]; rfl))
  case pointChange => exact running_act h ((mtrPointBody_define hph hok).trans (by rw [State.definePoint_waits hfind hnormal hother]; rfl))
  case pointDelete =>
    refine running_act h ((mtrPointBody_delete hph).trans (if_neg ?_))
    rcases hgone with hgone | hoff
    · simp [hgone]
    · simp [hoff]
  case pointOn => exact running_act h ((mtrPointBody_delete hph).trans (if_pos (by simp [hthere, hon])))
  case pointConflict => exact running_act h (mtrPointBody_conflict hph hbad)
  case preset =>
    refine runs_finished (exec_mtrEnergyPreset dt m s) h (mtrPresetBody_of_point hroom hfind) ?_
    simp only [State.settle_meter, State.settle_secure, State.finish_frame, State.audit_frame, State.audit_next, State.withMeter_meter,
      State.withMeter_secure, MeterState.find_setPoint_self]
    exact ⟨trivial, trivial, fun k hk => MeterState.find_setPoint_of_ne hk _⟩
  case presetConflict => exact running_act h (mtrPresetBody_of_none hroom hnone)
  case pulseSet =>
    refine running_act h ?_
    simp only [mtrPulseSetSpec, mtrPulseSetBody, hthere, Bool.not_true, Bool.false_eq_true, if_false, Bool.and_eq_true, beq_iff_eq]
    rfl
  case pulseConflict => exact running_act h (if_pos (by simp [hgone]))
  case roveSet => exact running_act h rfl
  case pulseStatus => exact running_act h rfl
  case latchRead =>
    refine running_act h ?_
    simp only [mtrLatchReadSpec, hfind, Option.elim_some, hrec]
    rfl
  case latchGone =>
    refine running_act h ?_
    simp only [mtrLatchReadSpec, hfind, Option.elim_some, hrec]
    rfl
  case cycleRead =>
    refine running_act h ?_
    simp only [mtrCycleReadSpec, hfind]
    rfl
  case cycleNone =>
    refine running_act h ?_
    simp only [mtrCycleReadSpec, hnone]
    rfl
  case channelStatus => exact running_act h rfl
  case capture =>
    refine running_act h ?_
    simp only [mtrCaptureSpec, hon, Bool.not_true, Bool.false_eq_true, if_false, State.accept_of_room haccept]
    rfl
  case captureOff => exact running_act h (if_pos (by simp [hoff]))

end Sys2Proof.Machine
end

section
/-!
PROOFS. The samples, line cycles, recalibration and pulses of metering (spec/13_metering.md, R408 to R425).
-/

namespace Sys2Proof.Machine

/-! ### Samples (R408 to R411) -/

section
variable {s : State} {raw : List Int}

/-- One channel takes its sample: the channels, those that clipped, those that switched gain. -/
def State.sampleStep (s : State) (raw : List Int) (acc : Map MtrChannel × List Nat × List Nat) (c : Nat) :
    Map MtrChannel × List Nat × List Nat :=
  if s.mtrLive c then
    let r := (s.meter.channel c).sample (clampInt (raw.getD c 0) (-8388608) 8388607) s.now
    (acc.1.put c r.1, if r.2.1 then acc.2.1 ++ [c] else acc.2.1, if r.2.2 then acc.2.2 ++ [c] else acc.2.2)
  else acc

theorem State.sampleChannels_eq (s : State) (raw : List Int) :
    s.sampleChannels raw = (List.range 64).foldl (s.sampleStep raw) (s.meter.channels, [], []) := rfl

theorem State.sampleStep_getD (s : State) (raw : List Int) (acc : Map MtrChannel × List Nat × List Nat) (c k : Nat) (d : MtrChannel) :
    Map.getD (s.sampleStep raw acc c).1 k d = if k = c ∧ s.mtrLive c = true
      then ((s.meter.channel c).sample (clampInt (raw.getD c 0) (-8388608) 8388607) s.now).1 else Map.getD acc.1 k d := by
  unfold State.sampleStep
  by_cases hlive : s.mtrLive c = true
  · simp [hlive, Map.getD_put]
  · simp [hlive]

/-- Of the channels of a list, those that are not DISABLED take their sample, and every other one stays. -/
theorem State.foldl_sampleStep_getD (s : State) (raw : List Int) (k : Nat) (d : MtrChannel) (l : List Nat)
    (acc : Map MtrChannel × List Nat × List Nat) : Map.getD (l.foldl (s.sampleStep raw) acc).1 k d = if k ∈ l ∧ s.mtrLive k = true
      then ((s.meter.channel k).sample (clampInt (raw.getD k 0) (-8388608) 8388607) s.now).1 else Map.getD acc.1 k d := by
  induction l generalizing acc with
  | nil => simp
  | cons c l ih =>
    rw [List.foldl_cons, ih, State.sampleStep_getD]
    by_cases hk : k = c
    · subst hk
      by_cases hlive : s.mtrLive k = true <;> simp [hlive]
    · simp [hk]

theorem State.sampleChannels_getD {k : Nat} (hk : k < 64) (s : State) (raw : List Int) (d : MtrChannel) :
    Map.getD (s.sampleChannels raw).1 k d = if s.mtrLive k = true
      then ((s.meter.channel k).sample (clampInt (raw.getD k 0) (-8388608) 8388607) s.now).1 else Map.getD s.meter.channels k d := by
  rw [State.sampleChannels_eq, State.foldl_sampleStep_getD]
  simp [hk]

/-- A sample that is due is taken of the channels that sample. -/
theorem State.mtrSample_of_due {c : Nat} (hc : c < 64) (hlive : s.mtrLive c = true)
    (hdue : s.meter.base + cycSample * s.meter.nextSample ≤ s.now) : ∃ m ns, s.mtrSample raw = (s.withMeter m).raiseAll ns
      ∧ m.channels = (s.sampleChannels raw).1 ∧ m.coef = s.meter.coef ∧ m.nextSample = s.meter.nextSample + 1 := by
  have hany : (List.range 64).any s.mtrLive = true := List.any_eq_true.mpr ⟨c, List.mem_range.mpr hc, hlive⟩
  unfold State.mtrSample
  rw [hany, decide_eq_false (Nat.not_lt.mpr hdue), if_neg (by decide)]
  exact ⟨_, _, rfl, rfl, rfl, rfl⟩

theorem State.mtrSample_none (h : s.now < s.meter.base + cycSample * s.meter.nextSample ∨ ∀ c, c < 64 → s.mtrLive c = false) :
    s.mtrSample raw = s := by
  refine if_pos ?_
  rcases h with hearly | hoff
  · rw [decide_eq_true hearly, Bool.or_true]
  · have hany : (List.range 64).any s.mtrLive = false := List.any_eq_false.mpr fun c hc => by simp [hoff c (List.mem_range.mp hc)]
    rw [hany]
    rfl

/-- A sample that clips goes to gain 1. -/
theorem MtrChannel.nextGain_of_clipped {c : MtrChannel} {x : Int} (hrole : c.role = 2) (hauto : c.gainCode = 0)
    (hclip : 2 ^ 23 - 1 ≤ absInt x) : c.nextGain x = (0, 0) := by
  have hfixed : (c.role != 2 || c.gainCode != 0) = false := by rw [hrole, hauto]; rfl
  unfold MtrChannel.nextGain
  dsimp only
  rw [hfixed, if_neg Bool.false_ne_true, if_pos (by omega)]

end

/-! ### Line cycles (R414 to R417, R422) -/

section
variable {p : MtrPoint} {v : MtrInterval} {at_ : Instant} {pos : Pos}

/-- A crossing comes too early: less than `d` after the one before. -/
def MtrPoint.early (p : MtrPoint) (d : Int) (at_ : Instant) : Bool := p.lastCross.elim false fun c => decide (at_ - c < d)

theorem MtrPoint.early_iff {d : Int} : p.early d at_ = true ↔ ∃ c, p.lastCross = some c ∧ at_ - c < d := by
  unfold MtrPoint.early
  cases p.lastCross <;> simp

theorem MtrPoint.not_early {d : Int} (h : ∀ c, p.lastCross = some c → d ≤ at_ - c) : p.early d at_ = false := by
  rw [Bool.eq_false_iff, Ne, MtrPoint.early_iff]
  rintro ⟨c, hc, hlt⟩
  exact absurd (h c hc) (Int.not_le.mpr hlt)

theorem MtrPoint.close_of_open (h : p.interval = some v) (extra : Nat) : p.close at_ pos extra =
    { p with recs := (p.latchRec v at_ pos extra :: p.recs).take 16, seq := (p.seq + 1) % 2 ^ 32, interval := none, gainSwitched := false } := by
  simp only [MtrPoint.close, h]

/-- A point whose line cycle has ended: its cycle is recorded, and counted in its interval. -/
def MtrPoint.cycled (p : MtrPoint) (v : MtrInterval) (at_ : Instant) : MtrPoint :=
  { p with
    last := p.cycleRec at_, w := if p.cycleSamples = 0 then p.w else p.cycleSamples
    interval := some { v with
      cycles := v.cycles + 1
      flags := v.flags ||| (if (p.cycleRec at_).overload then 4 else 0) ||| (if (p.cycleRec at_).freqRange then 8 else 0) } }

/-- A crossing in NORMAL ends a line cycle, and where it is the N-th of its interval also the interval. -/
theorem MtrPoint.crossNormal_of_open (hchange : p.change = none) (hopen : p.interval = some v) : p.crossNormal at_ pos false =
    if p.n ≤ v.cycles + 1 then ((((p.cycled v at_).close at_ pos 0).open_ at_ false).openCycle at_, true)
    else ((p.cycled v at_).openCycle at_, false) := by
  unfold MtrPoint.crossNormal
  dsimp only
  rw [if_neg Bool.false_ne_true]
  split
  · next cfg hcfg => rw [hchange] at hcfg; cases hcfg
  · rw [hopen]
    simp only [Option.map_some, decide_eq_true_eq]
    rfl

/-- A crossing before the N-th leaves the interval open, with one cycle more. -/
theorem MtrPoint.crossNormal_cycle (hchange : p.change = none) (hopen : p.interval = some v) (hfew : v.cycles + 1 < p.n) :
    p.crossNormal at_ pos false = ((p.cycled v at_).openCycle at_, false) :=
  (MtrPoint.crossNormal_of_open hchange hopen).trans (if_neg (Nat.not_le.mpr hfew))

/-- The N-th crossing closes the interval with a record, and opens the next. -/
theorem MtrPoint.crossNormal_latch (hchange : p.change = none) (hopen : p.interval = some v) (hfull : p.n ≤ v.cycles + 1) :
    p.crossNormal at_ pos false = ((((p.cycled v at_).close at_ pos 0).open_ at_ false).openCycle at_, true) :=
  (MtrPoint.crossNormal_of_open hchange hopen).trans (if_pos hfull)

/-- The record that closes an interval with loss says so. -/
theorem MtrPoint.latchRec_loss (p : MtrPoint) (v : MtrInterval) (at_ : Instant) (pos : Pos) : (p.latchRec v at_ pos 1).flags % 2 = 1 := by
  have hset : (v.flags ||| 1 ||| if p.gainSwitched then 32 else 0).testBit 0 = true := by
    rw [Nat.testBit_or, Nat.testBit_or, Nat.testBit_one_zero, Bool.or_true, Bool.true_or]
  rwa [Nat.testBit_zero, decide_eq_true_iff] at hset

end

/-! ### Crossings and time-outs of a state -/

section
variable {s : State} {k : Nat} {p : MtrPoint} {at_ : Instant}

/-- A crossing of point `k` that counts. -/
def State.crossing (s : State) (k : Nat) (p : MtrPoint) (at_ : Instant) (stop : Bool) : State :=
  match p.phase with
  | .disabled => s
  | .start => s.withMeter ((s.meter.closeRms p).setPoint k { p.crossStart at_ stop with zcSince := s.now })
  | .loss =>
    ((s.withMeter (s.meter.setPoint k { p.crossLoss at_ (s.clock.posAt at_) stop with zcSince := s.now })).raise srcMtrReturn).raiseIf
      p.interval.isSome srcMtrLatch
  | .normal =>
    let r := p.crossNormal at_ (s.clock.posAt at_) stop
    (((s.withMeter ((s.meter.closeRms p).setPoint k { r.1 with zcSince := s.now })).raiseIf
      (r.1.last.overload && !p.last.overload) srcMtrOverload).raiseIf (r.1.last.freqRange && !p.last.freqRange) srcMtrFreq).raiseIf
      r.2 srcMtrLatch

/-- A crossing counts where its point is not DISABLED, its instant has come, and it is not early. -/
theorem State.mtrCross_of_find (hfind : s.meter.points.find k = some p) : s.mtrCross k at_ =
    if p.phase = .disabled || s.tb < at_ || p.early (12000000 * 65536) at_ then s else s.crossing k p at_ (s.pointDrains k) := by
  unfold State.mtrCross
  rw [hfind]
  rfl

theorem State.mtrCross_none (h : ∀ p, s.meter.points.find k = some p → p.phase = .disabled ∨ s.tb < at_
    ∨ ∃ c, p.lastCross = some c ∧ at_ - c < 12000000 * 65536) : s.mtrCross k at_ = s := by
  cases hfind : s.meter.points.find k with
  | none => simp only [State.mtrCross, hfind]
  | some p =>
    refine (State.mtrCross_of_find hfind).trans (if_pos ?_)
    rw [Bool.or_eq_true, Bool.or_eq_true, decide_eq_true_iff, decide_eq_true_iff, MtrPoint.early_iff, or_assoc]
    exact h p hfind

theorem State.mtrCross_of_late (hfind : s.meter.points.find k = some p) (hon : p.phase ≠ .disabled) (hcome : at_ ≤ s.tb)
    (hlate : ∀ c, p.lastCross = some c → 12000000 * 65536 ≤ at_ - c) (hstay : s.pointDrains k = false) :
    s.mtrCross k at_ = s.crossing k p at_ false := by
  rw [State.mtrCross_of_find hfind, MtrPoint.not_early hlate, decide_eq_false hon, decide_eq_false (Int.not_lt.mpr hcome), hstay]
  rfl

/-- After ZC_TIMEOUT a point in START or NORMAL that does not drain goes to LOSS, with a loss interval open. -/
theorem State.mtrZcTimeout_of_due (hfind : s.meter.points.find k = some p) (hphase : p.phase = .normal ∨ p.phase = .start)
    (hdue : p.zcSince + p.zcMs * cycMs ≤ s.now) (hstay : s.pointDrains k = false) : ∃ c : MtrPoint, s.mtrZcTimeout k =
      ((s.withMeter (s.meter.setPoint k { c.open_ s.tb true with phase := .loss, last := c.last.lost })).raiseIf
        p.interval.isSome srcMtrLatch).raise srcMtrLoss := by
  have hon : p.phase ≠ .disabled ∧ p.phase ≠ .loss := by rcases hphase with h | h <;> rw [h] <;> decide
  have hlost : (p.phase != .loss) = true := bne_iff_ne.mpr hon.2
  unfold State.mtrZcTimeout
  rw [hfind]
  dsimp only
  rw [decide_eq_false hon.1, decide_eq_false (Nat.not_lt.mpr hdue), decide_eq_false hon.2, hstay, if_neg (by decide), hlost]
  exact ⟨_, rfl⟩

theorem State.mtrZcTimeout_none (h : ∀ p, s.meter.points.find k = some p → p.phase = .disabled ∨ s.now < p.zcSince + p.zcMs * cycMs
    ∨ (p.phase = .loss ∧ s.pointDrains k = false)) : s.mtrZcTimeout k = s := by
  unfold State.mtrZcTimeout
  split
  · rfl
  · next p hfind =>
    refine if_pos ?_
    rw [Bool.or_eq_true, Bool.or_eq_true, Bool.and_eq_true, decide_eq_true_iff, decide_eq_true_iff, decide_eq_true_iff, Bool.not_eq_true',
      or_assoc]
    exact h p hfind

end

/-! ### AUX periods and recalibration (R410, R412, R413) -/

section
variable {s : State} {c ms : Nat} {r : RoveRun} {step : RoveStep} {f : RoveRun → State}

/-- The end of an AUX period delivers the mean over it. -/
theorem State.mtrAuxEnd_of_due (hrole : (s.meter.channel c).role = 3) (hlive : s.mtrLive c = true)
    (hdue : (s.meter.channel c).auxSince + (s.meter.channel c).auxMs * cycMs ≤ s.now) : ∃ m q value invalid,
      s.mtrAuxEnd c = (s.withMeter m).tempReading q value invalid
        ∧ m.channels = s.meter.channels.put c ((s.meter.channel c).auxEnd s.now) ∧ m.coef = s.meter.coef := by
  have haux : ((s.meter.channel c).role != 3) = false := by rw [hrole]; rfl
  unfold State.mtrAuxEnd
  dsimp only
  rw [haux, hlive, decide_eq_false (Nat.not_lt.mpr hdue), if_neg (by decide)]
  exact ⟨_, _, _, _, rfl, rfl, rfl⟩

theorem State.mtrAuxEnd_none (h : (s.meter.channel c).role ≠ 3 ∨ s.mtrLive c = false
    ∨ s.now < (s.meter.channel c).auxSince + (s.meter.channel c).auxMs * cycMs) : s.mtrAuxEnd c = s := by
  refine if_pos ?_
  rw [Bool.or_eq_true, Bool.or_eq_true, bne_iff_ne, Bool.not_eq_true', decide_eq_true_iff, or_assoc]
  exact h

theorem State.roveStart_of_due (hidle : s.meter.rove = none) (hdue : s.meter.roveSince + s.meter.rovePeriodMs * cycMs ≤ s.now)
    (hnext : s.roveNext = some c) : s.roveStart = s.withMeter { s.meter with
      rove := some { channel := c, step := .fit, since := s.now }, roveSince := s.now, roveLast := c } := by
  unfold State.roveStart
  rw [hidle, decide_eq_false (Nat.not_lt.mpr hdue), if_neg (by decide), hnext]

theorem State.roveStart_none (h : s.meter.rove.isSome = true ∨ s.now < s.meter.roveSince + s.meter.rovePeriodMs * cycMs
    ∨ s.roveNext = none) : s.roveStart = s := by
  unfold State.roveStart
  split
  · rfl
  · next hdue =>
    rw [Bool.or_eq_true, decide_eq_true_iff, not_or] at hdue
    rw [(h.resolve_left hdue.1).resolve_left hdue.2]

/-- The next channel is ENABLED and has ROVE set. -/
theorem State.roveNext_spec (h : s.roveNext = some c) : c < 64 ∧ s.enabled 0x0B c = true ∧ (s.meter.channel c).rove = true := by
  have hmem := List.mem_of_find?_eq_some h
  have hsat := List.find?_some h
  rw [Bool.and_eq_true] at hsat
  obtain ⟨i, -, rfl⟩ := List.mem_map.mp hmem
  exact ⟨Nat.mod_lt _ (by decide), hsat⟩

/-- A step of a recalibration ends once it has lasted its time. -/
theorem State.roveStep_of_due (hrove : s.meter.rove = some r) (hstep : r.step = step) (hdue : r.since + ms * cycMs ≤ s.now) :
    s.roveStep step ms f = f r := by
  simp only [State.roveStep, hrove]
  rw [decide_eq_true hstep, decide_eq_true hdue]
  exact if_pos rfl

theorem State.roveStep_none (h : s.meter.rove = none ∨ ∃ r, s.meter.rove = some r ∧ (r.step ≠ step ∨ s.now < r.since + ms * cycMs)) :
    s.roveStep step ms f = s := by
  rcases h with hnone | ⟨r, hrove, hearly⟩
  · simp only [State.roveStep, hnone]
  · simp only [State.roveStep, hrove]
    rw [if_neg]
    rw [Bool.and_eq_true, decide_eq_true_iff, decide_eq_true_iff, not_and_or, Nat.not_le]
    exact hearly

/-- Step 6 ends with the outcome on the channel, and step 7 begins. -/
theorem State.roveReturn_of_due {residual : Int} (hrove : s.meter.rove = some r) (hstep : r.step = .compare)
    (hdue : r.since + 250 * cycMs ≤ s.now) : ∃ m fault, s.roveReturn residual = (s.withMeter m).raiseIf fault srcMtrRoveFault
      ∧ m.rove = some { r with step := .settle, since := s.now }
      ∧ m.channels = s.meter.channels.put r.channel
        ((s.meter.channel r.channel).roveDone s.meter.coef r.channel r.kg r.zg residual (stampSec s.tb)).1
      ∧ m.coef = s.meter.coef :=
  ⟨_, _, State.roveStep_of_due hrove hstep hdue, rfl, rfl, rfl⟩

/-- The outcome of a recalibration: new corrections where the residual and they are within bounds, else the old ones with a fault. -/
theorem MtrChannel.roveDone_eq (x : MtrChannel) (coef : Bytes) (ch : Nat) (kg zg : List Int) (residual : Int) (sec : Nat) :
    (x.roveDone coef ch kg zg residual sec).1 =
      if 10000 * absInt residual ≤ 2 * 2 ^ 32 ∧ roveWithin coef ch kg zg = true
      then { x with
        kg := kg, zg := zg, live := true, roveCount := x.roveCount + 1, roveSec := sec
        gainDelta := (x.roveDone coef ch kg zg residual sec).1.gainDelta
        offsetDelta := (x.roveDone coef ch kg zg residual sec).1.offsetDelta }
      else { x with
        roveCount := x.roveCount + 1, roveFaults := x.roveFaults + 1, roveSec := sec, gainDelta := F32.f0, offsetDelta := F32.f0 } := by
  unfold MtrChannel.roveDone
  simp only [Bool.and_eq_true, decide_eq_true_eq]
  split <;> rfl

end

/-! ### Pulse outputs (R424, R425) -/

section
variable {s : State} {j : Nat} {o : MtrPulse} {x : Instant} {es : List Instant}

theorem MtrPulse.edge_of_idle (hedges : o.edges = x :: es) (hdriving : o.driving = false) (hgapping : o.gapping = false)
    (hbacklog : o.backlog = 0) (now : Nat) :
    o.edge now = ({ o with edges := es, driving := true, edgeAt := now, pulses := o.pulses + 1 }, false) := by
  unfold MtrPulse.edge
  rw [hdriving, hgapping, hbacklog, hedges]
  rfl

theorem MtrPulse.edge_of_driving (hedges : o.edges = x :: es) (hdriving : o.driving = true) (now : Nat) :
    o.edge now = ({ o with edges := es, backlog := o.backlog + 1 }, o.backlog == 0) := by
  unfold MtrPulse.edge
  rw [hdriving, hedges]
  rfl

/-- A due edge of an ENABLED output acts; a pulse that it drives goes out. -/
theorem State.mtrPulseEdge_of_due (ho : s.meter.pulses.getD j {} = o) (hon : s.enabled 0x0D j = true) (hedges : o.edges = x :: es)
    (hdue : x ≤ s.tb) : s.mtrPulseEdge j = if (o.edge s.now).1.driving && !o.driving
      then ((s.setMtrPulse j (o.edge s.now).1).raiseIf (o.edge s.now).2 srcMtrBacklog).emit (.mtrPulse j true)
      else (s.setMtrPulse j (o.edge s.now).1).raiseIf (o.edge s.now).2 srcMtrBacklog := by
  unfold State.mtrPulseEdge
  rw [ho]
  refine if_neg ?_
  rw [hon, hedges, List.head?_cons, Option.elim_some, decide_eq_true hdue]
  decide

theorem State.mtrPulseEdge_drives (ho : s.meter.pulses.getD j {} = o) (hon : s.enabled 0x0D j = true) (hedges : o.edges = x :: es)
    (hdue : x ≤ s.tb) (hdriving : o.driving = false) (hgapping : o.gapping = false) (hbacklog : o.backlog = 0) : s.mtrPulseEdge j =
      (s.setMtrPulse j { o with edges := es, driving := true, edgeAt := s.now, pulses := o.pulses + 1 }).emit (.mtrPulse j true) := by
  rw [State.mtrPulseEdge_of_due ho hon hedges hdue, MtrPulse.edge_of_idle hedges hdriving hgapping hbacklog, hdriving]
  rfl

theorem State.mtrPulseEdge_waits (ho : s.meter.pulses.getD j {} = o) (hon : s.enabled 0x0D j = true) (hedges : o.edges = x :: es)
    (hdue : x ≤ s.tb) (hdriving : o.driving = true) : s.mtrPulseEdge j =
      (s.setMtrPulse j { o with edges := es, backlog := o.backlog + 1 }).raiseIf (o.backlog == 0) srcMtrBacklog := by
  rw [State.mtrPulseEdge_of_due ho hon hedges hdue, MtrPulse.edge_of_driving hedges hdriving]
  exact if_neg (by simp [hdriving])

theorem State.mtrPulseEdge_none (ho : s.meter.pulses.getD j {} = o) (h : s.enabled 0x0D j = false ∨ o.edges = []
    ∨ ∃ x ∈ o.edges.head?, s.tb < x) : s.mtrPulseEdge j = s := by
  unfold State.mtrPulseEdge
  rw [ho]
  refine if_pos ?_
  rcases h with hoff | hnone | ⟨x, hx, hearly⟩
  · rw [hoff]; rfl
  · rw [hnone, Bool.or_eq_true]; exact .inr rfl
  · rw [Option.mem_def.mp hx, Option.elim_some, decide_eq_false (Int.not_le.mpr hearly), Bool.not_false, Bool.or_true]

theorem State.mtrPulseEnd_of_due (ho : s.meter.pulses.getD j {} = o) (hdriving : o.driving = true)
    (hdue : o.edgeAt + o.widthMs * cycMs ≤ s.now) : s.mtrPulseEnd j =
      (s.setMtrPulse j { o with driving := false, gapping := true, endAt := s.now }).emit (.mtrPulse j false) := by
  unfold State.mtrPulseEnd
  rw [ho]
  refine if_neg ?_
  rw [hdriving, decide_eq_false (Nat.not_lt.mpr hdue)]
  decide

theorem State.mtrPulseEnd_none (ho : s.meter.pulses.getD j {} = o) (h : o.driving = false ∨ s.now < o.edgeAt + o.widthMs * cycMs) :
    s.mtrPulseEnd j = s := by
  unfold State.mtrPulseEnd
  rw [ho]
  refine if_pos ?_
  rw [Bool.or_eq_true, Bool.not_eq_true', decide_eq_true_iff]
  exact h

/-- The end of a gap: a waiting pulse is driven where the output is ENABLED. -/
theorem State.mtrPulseGapEnd_of_due (ho : s.meter.pulses.getD j {} = o) (hgapping : o.gapping = true)
    (hdue : o.endAt + o.gapMs * cycMs ≤ s.now) : s.mtrPulseGapEnd j =
      if o.backlog = 0 || !s.enabled 0x0D j then s.setMtrPulse j { o with gapping := false }
      else (s.setMtrPulse j { o with
        gapping := false, backlog := o.backlog - 1, driving := true, edgeAt := s.now, pulses := o.pulses + 1 }).emit (.mtrPulse j true) := by
  unfold State.mtrPulseGapEnd
  rw [ho]
  refine if_neg ?_
  rw [hgapping, decide_eq_false (Nat.not_lt.mpr hdue)]
  decide

theorem State.mtrPulseGapEnd_drives (ho : s.meter.pulses.getD j {} = o) (hgapping : o.gapping = true)
    (hdue : o.endAt + o.gapMs * cycMs ≤ s.now) (hbacklog : o.backlog ≠ 0) (hon : s.enabled 0x0D j = true) : s.mtrPulseGapEnd j =
      (s.setMtrPulse j { o with
        gapping := false, backlog := o.backlog - 1, driving := true, edgeAt := s.now, pulses := o.pulses + 1 }).emit (.mtrPulse j true) := by
  rw [State.mtrPulseGapEnd_of_due ho hgapping hdue, hon, decide_eq_false hbacklog]
  rfl

theorem State.mtrPulseGapEnd_quiet (ho : s.meter.pulses.getD j {} = o) (hgapping : o.gapping = true)
    (hdue : o.endAt + o.gapMs * cycMs ≤ s.now) (hquiet : o.backlog = 0 ∨ s.enabled 0x0D j = false) :
    s.mtrPulseGapEnd j = s.setMtrPulse j { o with gapping := false } := by
  refine (State.mtrPulseGapEnd_of_due ho hgapping hdue).trans (if_pos ?_)
  rwa [Bool.or_eq_true, decide_eq_true_iff, Bool.not_eq_true']

theorem State.mtrPulseGapEnd_none (ho : s.meter.pulses.getD j {} = o) (h : o.gapping = false ∨ s.now < o.endAt + o.gapMs * cycMs) :
    s.mtrPulseGapEnd j = s := by
  unfold State.mtrPulseGapEnd
  rw [ho]
  refine if_pos ?_
  rw [Bool.or_eq_true, Bool.not_eq_true', decide_eq_true_iff]
  exact h

end

/-! ### The statement -/

/-- An edge of an assigned source counts. -/
theorem State.raise_count {k : Nat} (h : srcAssigned k = true) (s : State) : ((s.raise k).icu.src k).count = (s.icu.src k).count + 1 := by
  rw [State.raise_src_self h, IcuSource.edge_count]

/-- Settles O50: each event is its function on the channel, point, recalibration or output that it names. -/
theorem meteringSamplesCyclesAndPulses : Obligations.MeteringSamplesCyclesAndPulses := by
  refine ⟨fun dt raw c s hc hlive hdue => ?sample, fun dt raw s hnone => ?sampleNone, fun c raw now => ?sampleValue,
    fun c x hrole hauto hclip => MtrChannel.nextGain_of_clipped hrole hauto hclip,
    fun dt k stamp p s hfind hphase hcome hlate hstay => ?crossStart,
    fun dt k stamp p v s hfind hphase hcome hlate hstay hchange hopen hfew => ?crossCycle,
    fun dt k stamp p v s hfind hphase hcome hlate hstay hchange hopen hfull => ?crossLatch,
    fun dt k stamp p v s hfind hphase hcome hlate hstay hopen => ?crossLoss, fun dt k stamp s hnone => ?crossNone,
    fun dt k p s hfind hphase hdue hstay => ?timeout, fun dt k s hnone => ?timeoutNone,
    fun dt c s hrole hlive hdue => ?auxEnd, fun dt c s hnone => ?auxNone,
    fun dt c s hidle hdue hnext => ?roveStart, fun c s hnext => State.roveNext_spec hnext, fun dt s hnone => ?roveStartNone,
    fun dt r s hrove hstep hdue => ?roveTakeover, fun dt kg zg r s hrove hstep hdue => ?roveRejoin,
    fun dt residual r s hrove hstep hdue => ?roveReturn, fun dt r s hrove hstep hdue => ?roveEnd, fun dt s hnone => ?roveEndNone,
    fun dt j x es s hon hedges hdue hdriving hgapping hbacklog => ?edgeDriven,
    fun dt j x es s hon hedges hdue hdriving => ?edgeWaits, fun dt j s hnone => ?edgeNone,
    fun dt j s hdriving hdue => ?pulseEnd, fun dt j s hnone => ?pulseEndNone,
    fun dt j s hgapping hdue hbacklog hon => ?gapDrive, fun dt j s hgapping hdue hquiet => ?gapQuiet, fun dt j s hnone => ?gapNone⟩
  case sample =>
    obtain ⟨m, ns, hsample, hchannels, hcoef, hnext⟩ := State.mtrSample_of_due (s := s.tick dt) (raw := raw) hc hlive hdue
    refine runs_act (exec_mtrSample dt raw s) hsample ⟨?_, fun k hk => ?_, ?_⟩
    · simp only [State.settle_meter, State.raiseAll_meter, State.withMeter_meter, hnext, State.tick_meter]
    · simp only [State.settle_meter, State.raiseAll_meter, State.withMeter_meter]
      rw [MeterState.channel, hchannels, hcoef]
      exact State.sampleChannels_getD hk (s.tick dt) raw _
    · simp
  case sampleNone => exact (exec_mtrSample dt raw s).trans (next_settle_congr (State.mtrSample_none hnone))
  case sampleValue => exact ⟨rfl, rfl, rfl, bne_iff_ne, rfl, rfl, rfl⟩
  case crossStart =>
    have hcross := State.mtrCross_of_late (s := s.tick dt) hfind (by rw [hphase]; decide) hcome hlate hstay
    simp only [State.crossing, hphase] at hcross
    refine runs_act (exec_mtrZeroCrossing dt k stamp s) hcross ⟨?_, fun j hj => ?_, ?_⟩
    · simp only [State.settle_meter, State.withMeter_meter, MeterState.find_setPoint_self]
      rfl
    · simp only [State.settle_meter, State.withMeter_meter, MeterState.find_setPoint_of_ne hj]
      rfl
    · simp
  case crossCycle =>
    have hcross := State.mtrCross_of_late (s := s.tick dt) hfind (by rw [hphase]; decide) hcome hlate hstay
    simp only [State.crossing, hphase, MtrPoint.crossNormal_cycle hchange hopen hfew] at hcross
    refine runs_act (exec_mtrZeroCrossing dt k stamp s) hcross ⟨?_, ?_, fun j hj => ?_, ?_⟩
    · simp only [State.settle_meter, State.raiseIf_meter, State.withMeter_meter, MeterState.find_setPoint_self, Option.map_some]
      exact congrArg some (congrArg (·, _) hphase)
    · simp only [State.settle_meter, State.raiseIf_meter, State.withMeter_meter, MeterState.find_setPoint_self, Option.map_some]
      rfl
    · simp only [State.settle_meter, State.raiseIf_meter, State.withMeter_meter, MeterState.find_setPoint_of_ne hj]
      rfl
    · simp
  case crossLatch =>
    have hcross := State.mtrCross_of_late (s := s.tick dt) hfind (by rw [hphase]; decide) hcome hlate hstay
    simp only [State.crossing, hphase, MtrPoint.crossNormal_latch hchange hopen hfull] at hcross
    refine runs_act (exec_mtrZeroCrossing dt k stamp s) hcross ⟨?_, ?_, ?_, fun j hj => ?_, ?_⟩
    · simp only [State.settle_meter, State.raiseIf_meter, State.withMeter_meter, MeterState.find_setPoint_self, Option.map_some]
      exact congrArg₂ (fun ph n => some (ph, n, (p.seq + 1) % 2 ^ 32, some (stamp, 0), some stamp)) hphase
        (List.length_take (i := 16) (l := _ :: p.recs))
    · simp only [State.settle_meter, State.raiseIf_meter, State.withMeter_meter, MeterState.find_setPoint_self, Option.bind_some]
      rfl
    · rw [State.settle_src_count _ _ (by decide)]
      refine (State.raise_count (k := 0x8C) (by decide) _).trans ?_
      rw [State.raiseIf_src_of_ne (by decide), State.raiseIf_src_of_ne (by decide)]
      rfl
    · simp only [State.settle_meter, State.raiseIf_meter, State.withMeter_meter, MeterState.find_setPoint_of_ne hj]
      rfl
    · simp
  case crossLoss =>
    have hcross := State.mtrCross_of_late (s := s.tick dt) hfind (by rw [hphase]; decide) hcome hlate hstay
    simp only [State.crossing, hphase] at hcross
    refine runs_act (exec_mtrZeroCrossing dt k stamp s) hcross ⟨?_, ?_, ?_, fun j hj => ?_, ?_⟩
    · simp only [State.settle_meter, State.raiseIf_meter, State.raise_meter, State.withMeter_meter, MeterState.find_setPoint_self, Option.map_some]
      rfl
    · simp only [State.settle_meter, State.raiseIf_meter, State.raise_meter, State.withMeter_meter, MeterState.find_setPoint_self, Option.bind_some]
      simp only [MtrPoint.crossLoss, MtrPoint.close_of_open hopen]
      exact congrArg (fun n => some (p.seq, n)) (p.latchRec_loss v stamp _)
    · rw [State.settle_src_count _ _ (by decide), State.raiseIf_src_of_ne (by decide)]
      exact State.raise_count (k := 0x89) (by decide) _
    · simp only [State.settle_meter, State.raiseIf_meter, State.raise_meter, State.withMeter_meter, MeterState.find_setPoint_of_ne hj]
      rfl
    · simp
  case crossNone => exact (exec_mtrZeroCrossing dt k stamp s).trans (next_settle_congr (State.mtrCross_none hnone))
  case timeout =>
    obtain ⟨c, htimeout⟩ := State.mtrZcTimeout_of_due (s := s.tick dt) hfind hphase hdue hstay
    refine runs_act (exec_mtrZcTimeout dt k s) htimeout ⟨?_, ?_, fun j hj => ?_, ?_⟩
    · simp only [State.settle_meter, State.raiseIf_meter, State.raise_meter, State.withMeter_meter, MeterState.find_setPoint_self, Option.map_some]
      rfl
    · rw [State.settle_src_count _ _ (by decide)]
      refine (State.raise_count (k := 0x88) (by decide) _).trans ?_
      rw [State.raiseIf_src_of_ne (by decide)]
      rfl
    · simp only [State.settle_meter, State.raiseIf_meter, State.raise_meter, State.withMeter_meter, MeterState.find_setPoint_of_ne hj]
      rfl
    · simp
  case timeoutNone => exact (exec_mtrZcTimeout dt k s).trans (next_settle_congr (State.mtrZcTimeout_none hnone))
  case auxEnd =>
    obtain ⟨m, q, value, invalid, hend, hput, hcoef⟩ := State.mtrAuxEnd_of_due (s := s.tick dt) hrole hlive hdue
    refine runs_act (exec_mtrAuxPeriodEnd dt c s) hend ?_
    simp only [State.settle_meter, State.tempReading_frame, State.withMeter_meter]
    rw [MeterState.channel_of_put_self hput hcoef]
    refine ⟨rfl, rfl, rfl, rfl, fun k hk => MeterState.channel_of_put_ne hput hcoef hk, ?_⟩
    simp
  case auxNone => exact (exec_mtrAuxPeriodEnd dt c s).trans (next_settle_congr (State.mtrAuxEnd_none hnone))
  case roveStart => exact (exec_mtrRoveStart dt s).trans (next_settle_congr (State.roveStart_of_due hidle hdue hnext))
  case roveStartNone => exact (exec_mtrRoveStart dt s).trans (next_settle_congr (State.roveStart_none hnone))
  case roveTakeover => exact (exec_mtrRoveTakeover dt s).trans (next_settle_congr (State.roveStep_of_due hrove hstep hdue))
  case roveRejoin => exact (exec_mtrRoveRejoin dt kg zg s).trans (next_settle_congr (State.roveStep_of_due hrove hstep hdue))
  case roveReturn =>
    obtain ⟨m, fault, hreturn, hrun, hput, hcoef⟩ := State.roveReturn_of_due (s := s.tick dt) (residual := residual) hrove hstep hdue
    refine runs_act (exec_mtrRoveReturn dt residual s) hreturn ?_
    simp only [State.settle_meter, State.raiseIf_meter, State.withMeter_meter]
    rw [MeterState.channel_of_put_self hput hcoef]
    refine ⟨hrun, MtrChannel.roveDone_eq _ _ _ _ _ _ _, fun k hk => MeterState.channel_of_put_ne hput hcoef hk, ?_⟩
    simp
  case roveEnd => exact (exec_mtrRoveEnd dt s).trans (next_settle_congr (State.roveStep_of_due hrove hstep hdue))
  case roveEndNone => exact (exec_mtrRoveEnd dt s).trans (next_settle_congr (State.roveStep_none hnone))
  case edgeDriven =>
    exact (exec_mtrPulseEdge dt j s).trans (next_settle_congr (State.mtrPulseEdge_drives rfl hon hedges hdue hdriving hgapping hbacklog))
  case edgeWaits =>
    exact (exec_mtrPulseEdge dt j s).trans (next_settle_congr (State.mtrPulseEdge_waits rfl hon hedges hdue hdriving))
  case edgeNone => exact (exec_mtrPulseEdge dt j s).trans (next_settle_congr (State.mtrPulseEdge_none rfl hnone))
  case pulseEnd => exact (exec_mtrPulseEnd dt j s).trans (next_settle_congr (State.mtrPulseEnd_of_due rfl hdriving hdue))
  case pulseEndNone => exact (exec_mtrPulseEnd dt j s).trans (next_settle_congr (State.mtrPulseEnd_none rfl hnone))
  case gapDrive =>
    exact (exec_mtrPulseGapEnd dt j s).trans (next_settle_congr (State.mtrPulseGapEnd_drives rfl hgapping hdue hbacklog hon))
  case gapQuiet => exact (exec_mtrPulseGapEnd dt j s).trans (next_settle_congr (State.mtrPulseGapEnd_quiet rfl hgapping hdue hquiet))
  case gapNone => exact (exec_mtrPulseGapEnd dt j s).trans (next_settle_congr (State.mtrPulseGapEnd_none rfl hnone))

end Sys2Proof.Machine
end
